-- ==== Sys2Proof/Word.lean ====
section
/-! DEFINITION. The machine word (R8) and its plainest arithmetic. -/

namespace Sys2Proof

/-- A register word: 32 bits, bit 0 the least significant (R8, R9). -/
abbrev Word := BitVec 32

/-- The bits `lo + w - 1 : lo` of a number. -/
def bits (n lo w : Nat) : Nat := n / 2 ^ lo % 2 ^ w

/-- Bit `i` of a number. -/
def bit (n i : Nat) : Bool := n / 2 ^ i % 2 == 1

/-- The number a bit stands for. -/
def bnat (b : Bool) : Nat := if b then 1 else 0

/-- Add and stop at the largest value of `w` bits: the saturating counters of the register tables. -/
def satAdd (w n k : Nat) : Nat := min (n + k) (2 ^ w - 1)

/-- The value of `w` bits read as two's complement. -/
def toSigned (w n : Nat) : Int := if n % 2 ^ w < 2 ^ (w - 1) then (n % 2 ^ w : Nat) else (n % 2 ^ w : Nat) - (2 ^ w : Nat)

/-- An integer as `w` bits of two's complement. -/
def ofSigned (w : Nat) (i : Int) : Nat := (i % (2 ^ w : Nat)).toNat

/-- Keep `n` within `lo` to `hi`. -/
def clampNat (lo hi n : Nat) : Nat := max lo (min hi n)

/-- Keep `i` within `lo` to `hi`. -/
def clampInt (lo hi i : Int) : Int := max lo (min hi i)

end Sys2Proof
end

