-- ==== Sys2Proof/Syntax.lean ====
section
/-! DEFINITION. The commands the block takes: one constructor for every row of the table of
operations and events, with the operands that come with the command (a channel, an instance, the
word written, what was received or measured).  Each docstring names the row and its rule. -/

namespace Sys2Proof

/-- The management channels (R53, R54, R339): MSPI, in-band and MDIO. -/
inductive Channel where
  | mspi | inband | mdio
  deriving DecidableEq, Repr

/-- The kinds of page of R31.  `session` stands for the three session pages and `letterbox` for the
banked letterbox: their instance is the channel (0 MSPI, 1 in-band, 2 MDIO). -/
inductive Page where
  | ident
  | session
  | hearth
  | clocks
  | perf
  | fault
  | events
  | calmgr
  | thermal
  | timebase
  | portmap
  | sorting
  | letterbox
  | boot
  | trust
  | devenv
  | xengine
  | xwindow
  | sync
  | cluster
  | cpll
  | cxslice
  | ctemp
  | lane
  | port_ctl
  | port_sec
  | lctl
  | ltrain
  | lload
  | lmon
  | lreach
  | ldiag
  | lafe
  | lstd
  deriving DecidableEq, Repr

/-- A number for each kind of page. -/
def Page.code : Page → Nat
  | .ident => 0
  | .session => 1
  | .hearth => 2
  | .clocks => 3
  | .perf => 4
  | .fault => 5
  | .events => 6
  | .calmgr => 7
  | .thermal => 8
  | .timebase => 9
  | .portmap => 10
  | .sorting => 11
  | .letterbox => 12
  | .boot => 13
  | .trust => 14
  | .devenv => 15
  | .xengine => 16
  | .xwindow => 17
  | .sync => 18
  | .cluster => 19
  | .cpll => 20
  | .cxslice => 21
  | .ctemp => 22
  | .lane => 23
  | .port_ctl => 24
  | .port_sec => 25
  | .lctl => 26
  | .ltrain => 27
  | .lload => 28
  | .lmon => 29
  | .lreach => 30
  | .ldiag => 31
  | .lafe => 32
  | .lstd => 33

/-- The instances of each kind of page (R31). -/
def Page.count : Page → Nat
  | .ident => 1
  | .session => 3
  | .hearth => 1
  | .clocks => 1
  | .perf => 1
  | .fault => 1
  | .events => 1
  | .calmgr => 1
  | .thermal => 1
  | .timebase => 1
  | .portmap => 1
  | .sorting => 1
  | .letterbox => 3
  | .boot => 1
  | .trust => 1
  | .devenv => 1
  | .xengine => 1
  | .xwindow => 1
  | .sync => 1
  | .cluster => 4
  | .cpll => 4
  | .cxslice => 4
  | .ctemp => 4
  | .lane => 32
  | .port_ctl => 128
  | .port_sec => 128
  | .lctl => 128
  | .ltrain => 128
  | .lload => 128
  | .lmon => 128
  | .lreach => 128
  | .ldiag => 128
  | .lafe => 128
  | .lstd => 128

/-- The 576 ADC samples of a line in one local symbol (R58, R224): codes from −2048 to 2047. -/
structure LineSamples where
  line : Nat
  codes : List Int
  deriving DecidableEq, Repr

/-- A frame whose start block's first bit a symbol carries (R270): its port, its bytes from the destination address on, and
whether it arrived in a retransmitted DTU. -/
structure TimedMessage where
  port : Nat
  frame : List Nat
  repeated : Bool
  deriving DecidableEq, Repr

/-- One window of the monitor chain's output, a complex sample a chip (R165). -/
abbrev Window := List (Rat × Rat)

/-- What a reflectometry run measured (R202, R205): the coherent averages of the reference and the line chirps, the
interpolated position of bins that hold a maximum, and the band power at the lands while it listened in 0.1 dBm. -/
structure ReflectRun where
  reference : Window
  line : Window
  fine : List (Nat × Rat)
  power : Int := -1000
  deriving DecidableEq, Repr

/-- What a calibration run measured (R229): the pair-side power of step 1 and its highest value during the
run in 0.1 dBm, the load check's deviation in 0.01 dB and whether the pair was isolated, the errors of the
67 segments in 1/16 LSB and of the ladder bits and the join in 1/32 LSB, the hybrid trims found with their
return loss in 0.1 dB, and the gain trims in 0.005 dB. -/
structure CalResult where
  power : Int
  peak : Int
  dev : Int
  isolated : Bool
  seg : List Int
  ladder : List Int
  res : Nat
  cap : Nat
  echo : Nat
  dac : Int
  adc : Int
  /-- Starting trims of the eight ADC lanes, offset, gain and skew, that a FULL run found (R224). -/
  lanes : List (Int × Int × Int) := []
  deriving DecidableEq, Repr

/-- What a line's ADC reports after background correction (R224, R236): the residual skew, gain mismatch and offset, the
largest interleave spur in 0.01 dBFS, and the trims of the eight lanes that the correction has come to: offset, gain and skew. -/
structure LineMeter where
  line : Nat
  skew : Nat
  gain : Nat
  offset : Nat
  spur : Int := -7500
  lanes : List (Int × Int × Int) := []
  deriving DecidableEq, Repr

/-- What the receiver fixed from the chirp peaks and phases of a packet's first parts (R166): ε in 0.01 ppm, the SNR in
0.25 dB, and how long ago the first preamble chirp started, in ns. -/
structure SyncReport where
  eps : Int
  snr : Int
  ago : Nat
  deriving DecidableEq, Repr

/-- What a BASE-T partner offered (R238, R241): the speeds and the EEE speeds as LSTD.ADV lays them out, fast
retrain, the words of MMD 7.19, 7.61 and 7.33, and the crossover that automatic MDI-X found.  For the choice of the master: the
role it insists on, 1 master and 2 slave, whether it is a multiport device, and whether its random seed is the lower one.
Whether it sent fast link pulses at all, which pairs come inverted (bit i pair i), and the message pages that it sent. -/
structure PartnerAbility where
  speeds : Nat
  eee : Nat
  fastRetrain : Bool
  base : Nat
  eeeWord : Nat
  mgbt : Nat
  crossed : Bool
  manual : Nat := 0
  multiport : Bool := true
  seedLow : Bool := false
  parallel : Bool := false
  inverted : Nat := 0
  pages : List Nat := []
  deriving DecidableEq, Repr

/-- An access still in flight when its domain is to be gated (R304). -/
structure StuckAccess where
  master : Nat
  access : Nat
  addr : Nat
  deriving DecidableEq, Repr

/-- A fault on the rails of one cycle (R307, R309): code, class, source, and the detail of its row. -/
structure FaultInput where
  code : Nat
  cls : Nat
  source : Nat
  detail : Nat
  deriving DecidableEq, Repr

/-- A Voltage read over AVSBus (R289): failed exchanges and the millivolts read. -/
structure VxRead where
  fails : Nat
  mv : Nat
  deriving DecidableEq, Repr

/-- The commands, in the order of the table, those without operands last. -/
inductive Instr where
  /-- REGISTER_WRITE (R384). -/
  | registerWrite (ch : Channel) (addr width : Nat) (w : Word)
  /-- COUNTER_LO_READ (R13). -/
  | counterLoRead (ch : Channel) (addr : Nat)
  /-- SOFT_RESET (R10). -/
  | softReset (ch : Channel) (p : Page) (i : Nat) (w : Word)
  /-- PAGE_LOCK_WRITE (R35). -/
  | pageLockWrite (ch : Channel) (p : Page) (i : Nat) (w : Word)
  /-- PAGE_FREEZE (R35). -/
  | pageFreeze (ch : Channel) (p : Page) (i : Nat) (w : Word)
  /-- EVT_PEND_CLEAR (R36). -/
  | evtPendClear (ch : Channel) (p : Page) (i : Nat) (w hw : Word)
  /-- EVT_INJECT (R36). -/
  | evtInject (ch : Channel) (p : Page) (i : Nat) (w hw : Word)
  /-- EVT_COUNT_CLR (R36). -/
  | evtCountClr (ch : Channel) (p : Page) (i : Nat) (w : Word)
  /-- ENV_POST (R38). -/
  | envPost (ch : Channel) (p : Page) (i : Nat) (w : Word)
  /-- ENV_DISCARD (R37). -/
  | envDiscard (ch : Channel) (p : Page) (i : Nat) (w : Word)
  /-- POST_LANDS (R38). -/
  | postLands (p : Page) (i : Nat)
  /-- SEALED_NEGOTIATION_START (R42). -/
  | sealedNegotiationStart (port : Nat)
  /-- SEAL_CONFIRM (R40). -/
  | sealConfirm (port : Nat)
  /-- MAIL_RUN (R43). -/
  | mailRun (ch : Channel) (w : Word)
  /-- MAIL_RUN_CANCEL (R43). -/
  | mailRunCancel (ch : Channel) (w : Word)
  /-- BUSLOCK_TAKE (R43). -/
  | buslockTake (ch : Channel) (w : Word)
  /-- BUSLOCK_RELEASE (R43). -/
  | buslockRelease (ch : Channel) (w : Word)
  /-- LEASE_REVOKE (R319). -/
  | leaseRevoke (master resource access addr : Nat)
  /-- LETTERBOX_CMD (R50). -/
  | letterboxCmd (ch : Channel) (w : Word)
  /-- LETTERBOX_LEASE_EXPIRE (R50). -/
  | letterboxLeaseExpire (ch : Channel)
  /-- ECHO (R50). -/
  | echo (ch : Channel)
  /-- DIAG (R210). -/
  | diag (ch : Channel)
  /-- FW_BEGIN (R337). -/
  | fwBegin (ch : Channel)
  /-- FW_CHUNK (R337). -/
  | fwChunk (ch : Channel)
  /-- FW_COMMIT (R337). -/
  | fwCommit (ch : Channel)
  /-- PARCEL_EXPORT_BEGIN (R358). -/
  | parcelExportBegin (ch : Channel)
  /-- PARCEL_EXPORT_NEXT (R358). -/
  | parcelExportNext (ch : Channel)
  /-- PARCEL_IMPORT_CHUNK (R359). -/
  | parcelImportChunk (ch : Channel)
  /-- PARCEL_IMPORT_COMMIT (R359). -/
  | parcelImportCommit (ch : Channel)
  /-- ATTEST_SIGN (R346). -/
  | attestSign (ch : Channel)
  /-- ATTEST_READ (R346). -/
  | attestRead (ch : Channel)
  /-- LETTERBOX_DONE (R50). -/
  | letterboxDone (ch : Channel)
  /-- MSPI_WRITE (R51). -/
  | mspiWrite (addr : Nat) (ws : List Word) (cut : Bool)
  /-- MSPI_READ (R51). -/
  | mspiRead (addr n : Nat) (late : Bool)
  /-- MSPI_BAD_COMMAND (R52). -/
  | mspiBadCommand (cmd : Nat)
  /-- MREQ_READ (R256). -/
  | mreqRead (lane tag addr n : Nat)
  /-- MREQ_WRITE (R256). -/
  | mreqWrite (lane tag addr : Nat) (ws : List Word)
  /-- MREQ_INCOMPLETE (R256). -/
  | mreqIncomplete (lane tag : Nat)
  /-- MDIO_WINDOW_READ (R54). -/
  | mdioWindowRead (prtad : Nat) (late : Bool)
  /-- MDIO_WINDOW_WRITE (R54). -/
  | mdioWindowWrite (prtad hi : Nat)
  /-- MDIO_ERROR_READ (R54). -/
  | mdioErrorRead (prtad : Nat)
  /-- MMD_ACCESS (R250). -/
  | mmdAccess (prtad mmd reg : Nat) (wr : Option Nat)
  /-- PILOT_CYCLE_START (R21). -/
  | pilotCycleStart (meters : List LineMeter)
  /-- SYMBOL_TX (R17). -/
  | symbolTx (n : Nat) (events : List TimedMessage)
  /-- SYMBOL_RX (R18). -/
  | symbolRx (n : Nat) (ys : List LineSamples) (missing wakes trains : List Nat) (events : List TimedMessage)
  /-- DTU_BUFFER_EXPIRE (R80). -/
  | dtuBufferExpire (port seq : Nat)
  /-- DTU_GIVE_UP (R81). -/
  | dtuGiveUp (port : Nat)
  /-- BEACON_ERASURE_END (R25). -/
  | beaconErasureEnd (tag : Nat)
  /-- CAL_GAP_AGREE_TIMEOUT (R27). -/
  | calGapAgreeTimeout (l : Nat)
  /-- CAL_GAP_STAMP_LOWER (R27). -/
  | calGapStampLower (l : Nat)
  /-- CAL_GAP_START (R27). -/
  | calGapStart (l : Nat)
  /-- CAL_GAP_END (R27). -/
  | calGapEnd (l : Nat)
  /-- DELTA_AVERAGE (R60). -/
  | deltaAverage (l : Nat) (sum : Int)
  /-- TA_ADJUST (R60). -/
  | taAdjust (l : Nat)
  /-- ARRIVAL_OUT_OF_BAND (R60). -/
  | arrivalOutOfBand (l : Nat)
  /-- OVERHEAD_WORD_RX (R69). -/
  | overheadWordRx (l n : Nat) (w : Word)
  /-- SEAL_MESSAGE_RX (R144). -/
  | sealMessageRx (port : Nat) (payload : List Nat)
  /-- LOAD_MESSAGE_RX (R142). -/
  | loadMessageRx (l : Nat) (payload : List Nat)
  /-- TIMING_MESSAGE_RX (R60). -/
  | timingMessageRx (l : Nat) (corr : Nat)
  /-- HOSTSTAT_RX (R264). -/
  | hoststatRx (port : Nat) (payload : List Nat)
  /-- XENGINE_DMA_CLEAR (R105). -/
  | xengineDmaClear (l : Nat)
  /-- DEAD_LINE_INACTIVE (R107). -/
  | deadLineInactive (l : Nat)
  /-- LEVEL_DOWN_REQUEST (R110). -/
  | levelDownRequest (ch : Channel) (w : Word)
  /-- LEVEL_UP_REQUEST (R291). -/
  | levelUpRequest (ch : Channel) (w : Word)
  /-- SCRUB_STEP (R115). -/
  | scrubStep (errors : List (Nat × Nat × Bool))
  /-- NXT_UE_RECOVERY_END (R114). -/
  | nxtUeRecoveryEnd (l k : Nat)
  /-- XENGINE_HOLD (R113). -/
  | xengineHold (ch : Channel) (w : Word)
  /-- CENSUS_REQUEST (R117). -/
  | censusRequest (ch : Channel) (w : Word)
  /-- XWINDOW_READ (R118). -/
  | xwindowRead (ch : Channel) (w : Word)
  /-- XWINDOW_WRITE (R118). -/
  | xwindowWrite (ch : Channel) (w : Word)
  /-- XWINDOW_LAND (R119). -/
  | xwindowLand (elapsed : Nat) (bad : List (Nat × Bool))
  /-- LINE_ENABLE (R122). -/
  | lineEnable (l : Nat)
  /-- LINE_DISABLE (R122). -/
  | lineDisable (ch : Channel) (l : Nat) (w : Word)
  /-- BEACON_SLOT (R129). -/
  | beaconSlot (l : Nat)
  /-- BEACON_RX (R125). -/
  | beaconRx (l : Nat) (m : List Nat)
  /-- ANSWER_RX (R124). -/
  | answerRx (l : Nat) (m : List Nat) (rtt : Nat)
  /-- NOANSWER_TIMEOUT (R124). -/
  | noanswerTimeout (l : Nat)
  /-- QUIET_HOLD_EXPIRE (R124). -/
  | quietHoldExpire (l : Nat)
  /-- OFFER_RX (R125). -/
  | offerRx (l : Nat) (m : List Nat)
  /-- OFFER_REPEAT (R129). -/
  | offerRepeat (l : Nat)
  /-- ACCEPT_RX (R124). -/
  | acceptRx (l : Nat) (m : List Nat)
  /-- GO_RX (R125). -/
  | goRx (l : Nat) (m : List Nat)
  /-- ABORT_RX (R124). -/
  | abortRx (l : Nat) (m : List Nat)
  /-- HANDSHAKE_TIMEOUT (R124). -/
  | handshakeTimeout (l : Nat)
  /-- RANGING_BLOCK_END (R134). -/
  | rangingBlockEnd (l found : Nat) (avg : Int) (late : Bool)
  /-- RANGING_DECISION_TIMEOUT (R124). -/
  | rangingDecisionTimeout (l : Nat)
  /-- PILOT_WORD_RX (R135). -/
  | pilotWordRx (l word : Nat)
  /-- TAIL_RANGING_TIMEOUT (R125). -/
  | tailRangingTimeout (l : Nat)
  /-- TAIL_JOIN_DETECT (R125). -/
  | tailJoinDetect (l : Nat)
  /-- JOINWAIT_TIMEOUT (R124). -/
  | joinwaitTimeout (l : Nat)
  /-- TRAINING_STEP (R140). -/
  | trainingStep (l : Nat)
  /-- TRAINING_END (R140). -/
  | trainingEnd (l : Nat)
  /-- TRAIN_TIMEOUT (R140). -/
  | trainTimeout (l : Nat)
  /-- LOADING_TIMEOUT (R124). -/
  | loadingTimeout (l : Nat)
  /-- OVERHEAD_LOSS (R147). -/
  | overheadLoss (l : Nat)
  /-- LINE_RETRAIN (R153). -/
  | lineRetrain (ch : Channel) (l : Nat) (w : Word)
  /-- PORT_DROP_TIMEOUT (R148). -/
  | portDropTimeout (port : Nat)
  /-- RETRAIN_REJOIN (R149). -/
  | retrainRejoin (l : Nat) (avg : Int)
  /-- RETRAIN_LOAD_SEND (R149). -/
  | retrainLoadSend (l : Nat)
  /-- RETRAIN_ENTRY_PROPOSE (R149). -/
  | retrainEntryPropose (port : Nat)
  /-- RETRAIN_ATTEMPT_TIMEOUT (R149). -/
  | retrainAttemptTimeout (l : Nat)
  /-- RETRAIN_GIVE_UP (R124). -/
  | retrainGiveUp (l : Nat)
  /-- LINE_RESTART (R153). -/
  | lineRestart (ch : Channel) (l : Nat) (w : Word)
  /-- LOS_DETECT (R124). -/
  | losDetect (l : Nat)
  /-- BANK_REQUEST (R150). -/
  | bankRequest (ch : Channel) (l : Nat) (w : Word)
  /-- AUTOBANK_EXPIRE (R150). -/
  | autobankExpire (port : Nat)
  /-- WAKE_REQUEST (R151). -/
  | wakeRequest (ch : Channel) (l : Nat) (w : Word)
  /-- WAKE_NO_RESPONSE (R151). -/
  | wakeNoResponse (port : Nat)
  /-- WAKE_RESUME (R151). -/
  | wakeResume (port : Nat)
  /-- REACH_TX_START (R170). -/
  | reachTxStart (l : Nat)
  /-- BLANKING_END (R157). -/
  | blankingEnd (l : Nat)
  /-- PREAMBLE_DETECTED (R165). -/
  | preambleDetected (l : Nat) (windows : List Window) (shift : Nat)
  /-- SYNC_CONFIRM (R166). -/
  | syncConfirm (l : Nat) (windows : List Window) (r : SyncReport)
  /-- HEADER_DONE (R160). -/
  | headerDone (l word : Nat)
  /-- PACKET_RX_DONE (R167). -/
  | packetRxDone (l : Nat) (bytes : List Nat)
  /-- REPLY_TIMEOUT (R172). -/
  | replyTimeout (l : Nat)
  /-- ALARM_WINDOW_DUE (R175). -/
  | alarmWindowDue (l : Nat)
  /-- ALARM_WINDOW_OPEN (R173). -/
  | alarmWindowOpen (l : Nat)
  /-- ALARM_WINDOW_CLOSE (R174). -/
  | alarmWindowClose (l : Nat)
  /-- POLL_DUE (R176). -/
  | pollDue (l ep : Nat)
  /-- REACH_RECORD_RX (R177). -/
  | reachRecordRx (port : Nat) (frame fcs : List Nat)
  /-- REACH_MASK_WAIT_END (R179). -/
  | reachMaskWaitEnd (l : Nat)
  /-- MONITOR_PRESET_WRITE (R189). -/
  | monitorPresetWrite (ch : Channel) (l : Nat) (w : Word)
  /-- MONITOR_NCO_WRITE (R186). -/
  | monitorNcoWrite (ch : Channel) (l : Nat) (w : Word)
  /-- SYNCRST_ARM (R189). -/
  | syncrstArm (ch : Channel) (l : Nat) (w : Word)
  /-- SYNCRST_CANCEL (R189). -/
  | syncrstCancel (ch : Channel) (l : Nat) (w : Word)
  /-- SYNC_RESET_LAND (R188). -/
  | syncResetLand (l elapsed : Nat)
  /-- BANK_SWAP (R191). -/
  | bankSwap (ch : Channel) (l : Nat) (w : Word)
  /-- FADE_DONE (R191). -/
  | fadeDone (l : Nat) (adc : List Int)
  /-- BANK_TAP_WRITE (R192). -/
  | bankTapWrite (ch : Channel) (l bank i : Nat) (w : Word)
  /-- RMS_BLOCK_END (R193). -/
  | rmsBlockEnd (l : Nat) (adc : List Int)
  /-- CAPTURE_REQUEST (R195). -/
  | captureRequest (ch : Channel) (l : Nat) (w : Word)
  /-- CAPTURE_TRIGGER (R195). -/
  | captureTrigger (l : Nat) (adc : List Int)
  /-- CAPTURE_DONE (R195). -/
  | captureDone (l : Nat) (adc : List Int)
  /-- CAPTURE_TIMEOUT (R196). -/
  | captureTimeout (l : Nat)
  /-- COUNTER_CLEAR (R197). -/
  | counterClear (ch : Channel) (l : Nat) (w : Word)
  /-- SNR_WATCH_WRITE (R198). -/
  | snrWatchWrite (ch : Channel) (l : Nat) (w : Word)
  /-- REFLECT_REQUEST (R202). -/
  | reflectRequest (ch : Channel) (l : Nat) (w : Word)
  /-- REFLECT_SLOT_GRANT (R202). -/
  | reflectSlotGrant (l : Nat)
  /-- REFLECT_DONE (R202). -/
  | reflectDone (l reason : Nat) (run : ReflectRun)
  /-- DRIVER_OVERCURRENT (R217). -/
  | driverOvercurrent (l : Nat)
  /-- CLRCODE_WRITE (R215). -/
  | clrcodeWrite (ch : Channel) (c : Nat) (w : Word)
  /-- RANGE_SWITCH_SYMBOL (R220). -/
  | rangeSwitchSymbol (l : Nat)
  /-- REFIN_MEASURE (R225). -/
  | refinMeasure (level : Nat)
  /-- CAL_REQUEST (R227). -/
  | calRequest (ch : Channel) (l : Nat) (w : Word)
  /-- CAL_REQ_ALL (R227). -/
  | calReqAll (ch : Channel) (w : Word)
  /-- CAL_SLOT_GRANT (R228). -/
  | calSlotGrant (c : Nat)
  /-- CAL_RUN_DONE (R229). -/
  | calRunDone (l : Nat) (r : CalResult)
  /-- CAL_RUN_TIMEOUT (R229). -/
  | calRunTimeout (l : Nat)
  /-- CAL_RETRY_DUE (R232). -/
  | calRetryDue (l : Nat)
  /-- CAL_HOLDOFF_END (R232). -/
  | calHoldoffEnd (l : Nat)
  /-- CAL_APPLY_STEP (R234). -/
  | calApplyStep (l : Nat)
  /-- AN_RESTART (R241). -/
  | anRestart (ch : Channel) (l : Nat) (w : Word)
  /-- AN_WINDOW_END (R242). -/
  | anWindowEnd (l : Nat)
  /-- BEACON_WINDOW_END (R242). -/
  | beaconWindowEnd (l : Nat)
  /-- FLP_QUALIFIED (R242). -/
  | flpQualified (l : Nat)
  /-- ALT_RESUME_TIMEOUT (R242). -/
  | altResumeTimeout (l : Nat)
  /-- STD_LINK_UP (R240). -/
  | stdLinkUp (l : Nat)
  /-- STD_LINK_DOWN (R246). -/
  | stdLinkDown (l pcs : Nat)
  /-- STD_FAST_RETRAIN (R246). -/
  | stdFastRetrain (l : Nat) (ok : Bool) (pcs : Nat)
  /-- LPI_ENTER (R245). -/
  | lpiEnter (l : Nat) (enter : Bool)
  /-- LANE_DETECT_PROBE (R253). -/
  | laneDetectProbe (lane : Nat) (found : Bool)
  /-- LANE_TRAIN_END (R253). -/
  | laneTrainEnd (lane errors : Nat)
  /-- LANE_LOCK (R253). -/
  | laneLock (lane : Nat) (ppm : Int)
  /-- EXCHANGE_ACCEPT_RX (R253). -/
  | exchangeAcceptRx (lane content : Nat)
  /-- EXCHANGE_TIMEOUT (R253). -/
  | exchangeTimeout (lane : Nat)
  /-- LANE_LOS (R254). -/
  | laneLos (lane : Nat)
  /-- LANE_LOL (R254). -/
  | laneLol (lane : Nat)
  /-- BLOCK_LOCK_LOSS (R254). -/
  | blockLockLoss (lane : Nat)
  /-- LANE_RESTART (R273). -/
  | laneRestart (ch : Channel) (lane : Nat) (w : Word)
  /-- LANE_LOOP_WRITE (R265). -/
  | laneLoopWrite (ch : Channel) (lane : Nat) (w : Word)
  /-- LANE_RATE_CHANGE (R253). -/
  | laneRateChange (ch : Channel) (lane : Nat) (w : Word)
  /-- EQ_ENTRY_WRITE (R252). -/
  | eqEntryWrite (ch : Channel) (e : Nat) (w : Word)
  /-- AM_BLOCK (R256). -/
  | amBlock (lane : Nat)
  /-- HOST_BLOCK_RX (R257). -/
  | hostBlockRx (lane slot sync payload : Nat)
  /-- PAUSE_REPEAT (R261). -/
  | pauseRepeat (port : Nat)
  /-- PAUSE_XON (R261). -/
  | pauseXon (port : Nat)
  /-- STAMP_GRANT (R257). -/
  | stampGrant (port : Nat)
  /-- STAMP_RESEND (R257). -/
  | stampResend (port : Nat)
  /-- HOSTSTAT_SEND (R263). -/
  | hoststatSend (port : Nat)
  /-- HOSTSTAT_TIMEOUT (R264). -/
  | hoststatTimeout (port : Nat)
  /-- SYNC_IN_EDGE (R269). -/
  | syncInEdge (edge : Int) (high : Nat)
  /-- TRIM_WINDOW_END (R275). -/
  | trimWindowEnd (count : Nat)
  /-- KOSC_WINDOW_END (R276). -/
  | koscWindowEnd (count : Nat)
  /-- PLL_LOCK (R278). -/
  | pllLock (pll : Nat)
  /-- PLL_UNLOCK (R278). -/
  | pllUnlock (pll : Nat)
  /-- MUX_HANG (R282). -/
  | muxHang (mux : Nat)
  /-- FREQMON_REQUEST (R283). -/
  | freqmonRequest (ch : Channel) (w : Word)
  /-- FREQMON_DONE (R283). -/
  | freqmonDone (count : Nat)
  /-- RESET_N_ASSERT (R373). -/
  | resetNAssert (ns : Nat)
  /-- TIMEBASE_SET (R286). -/
  | timebaseSet (ch : Channel) (w : Word)
  /-- TIMEBASE_ADD (R286). -/
  | timebaseAdd (ch : Channel) (w : Word)
  /-- AVS_CURRENT_READ (R289). -/
  | avsCurrentRead (fails current : Nat) (alert : Bool)
  /-- VX_CONFIRMED (R289). -/
  | vxConfirmed (read : VxRead)
  /-- VX_CONFIRM_TIMEOUT (R292). -/
  | vxConfirmTimeout (fails mv : Nat)
  /-- AVS_RETRY (R292). -/
  | avsRetry (ch : Channel) (w : Word)
  /-- TEMP_SAMPLE (R293). -/
  | tempSample (temps : List Int)
  /-- THERMAL_PEAK_CLEAR (R295). -/
  | thermalPeakClear (ch : Channel) (w : Word)
  /-- CTEMP_MINMAX_CLEAR (R295). -/
  | ctempMinmaxClear (ch : Channel) (c : Nat) (w : Word)
  /-- PSTATE_DOZE (R297). -/
  | pstateDoze (ch : Channel) (w : Word)
  /-- PSTATE_EMBER (R298). -/
  | pstateEmber (ch : Channel) (w : Word)
  /-- PSTATE_HEARTH (R298). -/
  | pstateHearth (ch : Channel) (w : Word)
  /-- PSTATE_RUN (R302). -/
  | pstateRun (ch : Channel) (w : Word)
  /-- WAKE_ENERGY (R300). -/
  | wakeEnergy (l : Nat)
  /-- WAKE_NOT_READY (R302). -/
  | wakeNotReady (block : Nat)
  /-- CLOCK_GATE_TIMEOUT (R304). -/
  | clockGateTimeout (stuck : List StuckAccess)
  /-- FAULT_SAMPLE (R307). -/
  | faultSample (reports : List FaultInput)
  /-- RAIL_DISAGREE (R307). -/
  | railDisagree (source seen : Nat)
  /-- FAULT_REBOOT (R312). -/
  | faultReboot (ch : Channel) (w : Word)
  /-- FAULT_CLEAR (R318). -/
  | faultClear (ch : Channel) (w : Word)
  /-- FAULT_INJECT (R317). -/
  | faultInject (ch : Channel) (w : Word)
  /-- FENCE_LIFT (R323). -/
  | fenceLift (ch : Channel) (hi : Bool) (w : Word)
  /-- FENCE_RECOVERY_END (R319). -/
  | fenceRecoveryEnd (master : Nat)
  /-- PIN_HOLD_END (R326). -/
  | pinHoldEnd (pin : Nat)
  /-- IB_HOLD_END (R327). -/
  | ibHoldEnd (source : Nat)
  /-- LIFECYCLE_ADVANCE (R329). -/
  | lifecycleAdvance (ch : Channel) (w : Word)
  /-- KEY_PROGRAM (R332). -/
  | keyProgram (ch : Channel) (w : Word)
  /-- KEY_REVOKE (R332). -/
  | keyRevoke (ch : Channel) (w : Word)
  /-- SESSION_OPEN (R339). -/
  | sessionOpen (ch : Channel) (w : Word)
  /-- SESSION_CLOSE (R342). -/
  | sessionClose (ch : Channel) (w : Word)
  /-- NONCE_RENEW (R339). -/
  | nonceRenew (ch : Channel) (w : Word)
  /-- NONCE_EXPIRE (R339). -/
  | nonceExpire (ch : Channel)
  /-- SESSION_IDLE_TIMEOUT (R342). -/
  | sessionIdleTimeout (ch : Channel)
  /-- LOCKOUT_END (R341). -/
  | lockoutEnd (ch : Channel)
  /-- BOOT_CONFIRM (R335). -/
  | bootConfirm (ch : Channel) (w : Word)
  /-- SVN_COMMIT (R336). -/
  | svnCommit (ch : Channel) (w : Word)
  /-- PAIR_SET (R349). -/
  | pairSet (ch : Channel) (port : Nat) (w : Word)
  /-- SA_INSTALL (R353). -/
  | saInstall (ch : Channel) (port sa : Nat) (w : Word)
  /-- COMPAT_PENDING_WRITE (R361). -/
  | compatPendingWrite (ch : Channel) (w : Word)
  /-- RAIL_GOOD (R371). -/
  | railGood (rail : Nat)
  /-- RAIL_TRIP (R372). -/
  | railTrip (rail : Nat)
  /-- CPLL_RELOCK_TIMEOUT (R311). -/
  | cpllRelockTimeout (c : Nat)
  /-- REFLECT_SLOT_TIMEOUT (R202). -/
  | reflectSlotTimeout (l : Nat)
  /-- REACH_TX_END (R179). -/
  | reachTxEnd (l : Nat)
  /-- AUTONEG_COMPLETE (R241). -/
  | autonegComplete (l : Nat) (p : PartnerAbility)
  /-- PARTNER_LPI (R245). -/
  | partnerLpi (l : Nat) (enter wakeError : Bool)
  /-- MONITOR_SETTLED (R188). -/
  | monitorSettled (l : Nat) (adc : List Int)
  /-- DETECTOR_OVER (R193). -/
  | detectorOver (l : Nat) (adc : List Int)
  /-- MSPI_STATUS (R52). -/
  | mspiStatus
  /-- MSPI_CHANNEL_RESET (R52). -/
  | mspiChannelReset
  /-- SUPERFRAME_START (R21). -/
  | superframeStart
  /-- FXU_LANDING (R97). -/
  | fxuLanding
  /-- PRD_LANDING (R99). -/
  | prdLanding
  /-- JOIN_START (R102). -/
  | joinStart
  /-- JOIN_NXT_WRITE (R102). -/
  | joinNxtWrite
  /-- JOIN_COEF_WRITE (R102). -/
  | joinCoefWrite
  /-- JOIN_PILOT_ACTIVE (R102). -/
  | joinPilotActive
  /-- JOIN_LANDED (R102). -/
  | joinLanded
  /-- WRITE_PORT_GRANT (R120). -/
  | writePortGrant
  /-- LEVEL_REPROPOSE (R110). -/
  | levelRepropose
  /-- NV_DOWN_LAND (R110). -/
  | nvDownLand
  /-- NV_UP_LAND (R291). -/
  | nvUpLand
  /-- HOLD_EXPIRED (R113). -/
  | holdExpired
  /-- CENSUS_DONE (R117). -/
  | censusDone
  /-- POSTMARK_SECOND (R286). -/
  | postmarkSecond
  /-- TXCLR_ASSERT (R216). -/
  | txclrAssert
  /-- TXCLR_RELEASE (R216). -/
  | txclrRelease
  /-- POWERUP_CAL_DONE (R218). -/
  | powerupCalDone
  /-- SYNC_LOST (R269). -/
  | syncLost
  /-- REFCLK_TRIP (R277). -/
  | refclkTrip
  /-- REFCLK_GOOD (R277). -/
  | refclkGood
  /-- SPLL_MONITOR_TRIP (R279). -/
  | spllMonitorTrip
  /-- KOSC_HOLD_EXPIRE (R280). -/
  | koscHoldExpire
  /-- FREQMON_REF_STOPPED (R283). -/
  | freqmonRefStopped
  /-- RESET_N_RELEASE (R285). -/
  | resetNRelease
  /-- REFCLK_ABSENT_TIMEOUT (R285). -/
  | refclkAbsentTimeout
  /-- BOOT_VERIFY_DONE (R334). -/
  | bootVerifyDone
  /-- IDENT_READY (R285). -/
  | identReady
  /-- PPS_IN_EDGE (R286). -/
  | ppsInEdge
  /-- PPS_OUT_FALL (R286). -/
  | ppsOutFall
  /-- DAMPER_REPEAT (R293). -/
  | damperRepeat
  /-- DAMPER_COOL (R293). -/
  | damperCool
  /-- STAGE_STOPPED (R298). -/
  | stageStopped
  /-- STAGE_TIMEOUT (R298). -/
  | stageTimeout
  /-- ROLLBACK_COMPLETE (R299). -/
  | rollbackComplete
  /-- WAKE_MSPI (R300). -/
  | wakeMspi
  /-- WAKE_MDIO (R300). -/
  | wakeMdio
  /-- WAKE_TIMER (R300). -/
  | wakeTimer
  /-- WAKE_COMPLETE (R301). -/
  | wakeComplete
  /-- FAULT_HANDLING_END (R315). -/
  | faultHandlingEnd
  /-- WATCHDOG_RESTART (R320). -/
  | watchdogRestart
  /-- WATCHDOG_EXPIRE (R320). -/
  | watchdogExpire
  /-- IB_REFRESH (R327). -/
  | ibRefresh
  /-- KEY_BURN_DONE (R332). -/
  | keyBurnDone
  /-- FW_UPLOAD_TIMEOUT (R337). -/
  | fwUploadTimeout
  /-- VH_LOSS (R372). -/
  | vhLoss
  /-- KOSC_START_TIMEOUT (R276). -/
  | koscStartTimeout
  deriving DecidableEq, Repr

end Sys2Proof
end

