-- ==== Sys2Proof/Decode.lean ====
section
/-! DEFINITION. Words that spell commands.  The table of commands gives its rows no bits (every `fields` list of
spec/opcode_table.json is empty), so no word spells one. -/

namespace Sys2Proof

/-- The command a word of `nbits` bits spells by the table: none. -/
def decodeTableWord (_nbits _w : Nat) : Option Instr := none

end Sys2Proof
end

