-- ==== Sys2Proof/Config.lean ====
section
/-! DEFINITION. What the spec fixes for one module and not for the part, and every value the spec
leaves open: constants without a body, so that no proof can see what they are.  Log entries: 2 (OTP
and flash contents), 3 (random and cryptographic functions), 4 (free values), 5 (unstated number
formats and outside standards). -/

namespace Sys2Proof.Config

/-- A value the spec leaves open; the argument numbers the draw. -/
opaque freeBit : Nat → Bool

/-- A word or an amount the spec leaves open, or that no command brings; the arguments number it. -/
opaque freeWord : (draw i : Nat) → Nat

/-- Whether a stored coefficient that lies between two codes takes the upper one: the spec states no rounding
(R90). -/
opaque roundUp : Rat → Bool

/-- The unit of a line's transform outputs: their size for one ADC step (R58, R90), which the spec does not
state. -/
opaque rxScale : Rat

/-- The entry that a word of staging bank C serves in a join, as matrix × 2^21 + index: the spec gives bank C no layout
(R114). -/
opaque stagingEntry : Nat → Nat

/-- Tap i, and by symmetry tap 125 − i, of the monitor chain's fixed half-band decimator, which also compensates the droop of
the CIC: the spec gives the chain's response and no taps (R183, R184, R186).  The chain takes them where they meet that
response. -/
opaque halfBandTap : Nat → Rat

/-- Whether REFCLK has shown an edge since its last trip, and the clean cycles counted in the judgement that follows (R277,
R284): not stated (log 73); the arguments are the free counter and the time. -/
opaque refEdge : (free ns : Nat) → Bool
opaque refCount : (free ns : Nat) → Nat

/-- Bins either side of the end reflection that its gate in time lets through (R207): not stated (log 84). -/
opaque gateHalf : Nat

/-- The n-th 256-bit draw of the true random source (R339). -/
opaque random : Nat → Nat

/-- The 64-bit device ID (R330). -/
opaque deviceId : Nat

/-- The key of a slot as the module ships (R331). -/
opaque shippedKey : Nat → Nat

/-- Word i of TRUST.ROOT_HASH (R330). -/
opaque rootHashWord : Nat → Nat

/-- Word i of TRUST.ATTEST_PUB (R330). -/
opaque attestPubWord : Nat → Nat

/-- The factory trim code of HOSC, signed (R275, R330). -/
opaque hoscFactory : Int

/-- Word i of the image that slot `slot` ships with (R333). -/
opaque shippedImageWord : (slot i : Nat) → Nat

/-- KMAC256 of a key over a list of bytes, to a number of bits, under a customisation string
(R332, R339, R349, R357): the value is free, its length is not. -/
opaque kmacValue : (key : Nat) → List Nat → (bits : Nat) → String → Nat

/-- KMAC256, as many bits as are asked for. -/
def kmac256 (key : Nat) (message : List Nat) (bits : Nat) (custom : String) : Nat :=
  kmacValue key message bits custom % 2 ^ bits

/-- SHAKE256 of a list of bytes (R330, R333, R357): the value is free, its length is not. -/
opaque shakeValue : List Nat → Nat

/-- SHAKE256 to 256 bits. -/
def shake256 (message : List Nat) : Nat := shakeValue message % 2 ^ 256

/-- XMSS verification of a signature over a message under a public key (R334). -/
opaque xmssVerify : (publicKey signature message : List Nat) → Bool

/-- Byte i of the XMSS^MT signature over a report with a signature index (R347). -/
opaque attestSignature : (index : Nat) → List Nat → (i : Nat) → Nat

/-- The SecTAG of a received frame, given as its blocks, breaks the rules of IEEE 802.1AE (R352). -/
opaque secTagBad : List (Nat × Nat) → Bool

/-- A frame's blocks protected, validated and opened by IEEE 802.1AE under the settings and keys
listed (R351, R352). -/
opaque secyProtect : List Nat → List (Nat × Nat) → List (Nat × Nat)
opaque secyValidate : List Nat → List (Nat × Nat) → Bool
opaque secyOpen : List Nat → List (Nat × Nat) → List (Nat × Nat)

/-- By how much the calibrated ratio of two DAC ranges' gains of a line differs from the nominal ratio, relative to it
(R220): not stated, but for its bound (log 109). -/
opaque rangeError : (line old new : Nat) → Rat

/-- The factory calibration of a line, held in on-module flash (R218): SEG words 0 to 66, LADDER words 67
to 75, HYB 76 and GAIN 77. -/
opaque factoryCal : (line i : Nat) → Nat

end Sys2Proof.Config
end

