-- ==== Sys2Proof/Machine/Numbers.lean ====
section
/-! DEFINITION. The arithmetic behind the signal path: complex values, roundings, square roots, decibels
and the 512-point transform (R57, R58, R61, R64, R65, R90, R94).  The spec states no number format for
intermediate values: they are exact rationals, and a constant that is no rational is taken to 2^-40
(DESIGN CHOICE, log 51).  How a half unit rounds in a stored coefficient is left free (log 5). -/

namespace Sys2Proof.Machine

/-! ### Complex values -/

/-- A complex number with rational parts. -/
structure Cx where
  re : Rat
  im : Rat
  deriving DecidableEq, Repr

def Cx.zero : Cx := ⟨0, 0⟩
def Cx.one : Cx := ⟨1, 0⟩
def Cx.add (a b : Cx) : Cx := ⟨a.re + b.re, a.im + b.im⟩
def Cx.sub (a b : Cx) : Cx := ⟨a.re - b.re, a.im - b.im⟩
def Cx.mul (a b : Cx) : Cx := ⟨a.re * b.re - a.im * b.im, a.re * b.im + a.im * b.re⟩
def Cx.conj (a : Cx) : Cx := ⟨a.re, -a.im⟩
def Cx.scale (r : Rat) (a : Cx) : Cx := ⟨r * a.re, r * a.im⟩
def Cx.normSq (a : Cx) : Rat := a.re * a.re + a.im * a.im
def Cx.div (a b : Cx) : Cx := Cx.scale (1 / b.normSq) (a.mul b.conj)
def Cx.sum (l : List Cx) : Cx := l.foldl Cx.add Cx.zero

/-- The sum of a list of rationals. -/
def sumRat (l : List Rat) : Rat := l.foldl (· + ·) 0

/-! ### Rounding -/

/-- A value in units of 2^-n as an integer: exact where it is one, else one of its two neighbours, by a
choice the spec does not state. -/
def quantiseTo (n : Nat) (x : Rat) : Int :=
  let q := x * (2 ^ n : Nat)
  if q.den = 1 then q.num else q.floor + bnat (Config.roundUp x)

/-- A coefficient in units of 2^-14 (R90, R96, R97, R99). -/
def quantise (x : Rat) : Int := quantiseTo 14 x

/-- The nearest integer, a half upward. -/
def roundRat (x : Rat) : Int := (x + 1 / 2).floor

/-- An equaliser tap as LLOAD shows it, in units of 2^-12 (R65): to the nearest (DESIGN CHOICE, log 102). -/
def shownFeq (x : Rat) : Int := clampInt (-32768) 32767 (roundRat (x * 4096))

/-- A value brought within a bound either way. -/
def withinRat (b x : Rat) : Rat := if x < -b then -b else if b < x then b else x

/-! ### Square roots and decibels -/

/-- √x to 2^-40. -/
def sqrtRat (x : Rat) : Rat := (Nat.sqrt ((x * (2 ^ 80 : Nat)).floor.toNat) : Rat) / (2 ^ 40 : Nat)

/-- 1 / √n (R64, R94). -/
def invSqrt (n : Nat) : Rat := if n = 1 then 1 else sqrtRat (1 / (n : Rat))

/-- Fraction bits of log2 of a mantissa m / 2^64 in 1 to 2, by squaring. -/
def log2Bits : Nat → Nat → Nat
  | 0, _ => 0
  | n + 1, m =>
    let q := m * m / 2 ^ 64
    if 2 ^ 65 ≤ q then 2 ^ n + log2Bits n (q / 2) else log2Bits n q

/-- log2 x in units of 2^-32, rounded down; 0 for what has no logarithm. -/
def log2Fix (x : Rat) : Int :=
  if x ≤ 0 then 0
  else
    let e : Int := (Nat.log2 x.num.toNat : Int) - Nat.log2 x.den
    let m := if 0 ≤ e then x / (2 ^ e.toNat : Nat) else x * (2 ^ (-e).toNat : Nat)
    let d := if m < 1 then 1 else 0
    let m := if m < 1 then 2 * m else m
    (e - d) * 2 ^ 32 + log2Bits 32 (m * (2 ^ 64 : Nat)).floor.toNat

/-- 10 log10 x in units of 1/`unit` dB, to the nearest. -/
def decibels (unit : Nat) (x : Rat) : Int :=
  roundRat ((log2Fix x : Rat) * unit * 3010299956639812 / (10 ^ 15 * 2 ^ 32 : Nat))

/-- The product of the roots 2^(1/2), 2^(1/4), … that the bits of a fraction of 32 bits select, in units of
2^-60; `r` the root of the bit in turn. -/
def exp2Bits : Nat → Nat → Nat → Nat → Nat
  | 0, _, _, acc => acc
  | n + 1, f, r, acc =>
    exp2Bits n f (Nat.sqrt (r * 2 ^ 60)) (if bit f n then acc * r / 2 ^ 60 else acc)

/-- 2^x for x in units of 2^-32. -/
def exp2Fix (x : Int) : Rat :=
  let e := x / 2 ^ 32
  let f : Rat := (exp2Bits 32 (x % 2 ^ 32).toNat (Nat.sqrt (2 ^ 121)) (2 ^ 60) : Rat) / (2 ^ 60 : Nat)
  if 0 ≤ e then f * (2 ^ e.toNat : Nat) else f / (2 ^ (-e).toNat : Nat)

/-- The power ratio of `g` in units of 1/`unit` dB: 10^(g / (10 × unit)). -/
def powerRatio (unit : Nat) (g : Int) : Rat :=
  exp2Fix (roundRat ((g : Rat) * (2 ^ 32 : Nat) * 3321928094887362 / (unit * 10 ^ 16 : Nat)))

/-! ### The 512-point transform (R57, R58) -/

/-- Terms of the series of a cosine (`j` = 0) or a sine (`j` = 1), `n` of them, from the term `t`, in units of 2^-60. -/
def angleSeries (x : Int) : Nat → Nat → Int → Int
  | 0, _, _ => 0
  | n + 1, j, t => t + angleSeries x n (j + 2) (-(t * x * x / ((j + 1) * (j + 2) * 2 ^ 120 : Nat)))

/-- A value in units of 2^-60, to 2^-40. -/
def fix40 (x : Int) : Rat := mkRat ((x + 2 ^ 19) / 2 ^ 20) (2 ^ 40)

/-- exp(j 2π i / n) for i below n / 4. -/
def firstQuarter (n i : Nat) : Cx :=
  let x : Int := (i * 2 * 314159265358979323846 * 2 ^ 60 / (n * 10 ^ 20) : Nat)
  ⟨fix40 (angleSeries x 12 0 (2 ^ 60)), fix40 (angleSeries x 12 1 x)⟩

/-- exp(j 2π i / n), for n a multiple of 4. -/
def unitRoot (n i : Nat) : Cx :=
  let i := i % n
  let c := firstQuarter n (i % (n / 4))
  match i / (n / 4) with
  | 0 => c
  | 1 => ⟨-c.im, c.re⟩
  | 2 => ⟨-c.re, -c.im⟩
  | _ => ⟨c.im, -c.re⟩

/-- The bins of the transform (R56): tones 1 to 127 and, in bins 385 to 511, their conjugates; 0 elsewhere. -/
def binOf (x : Nat → Cx) (b : Nat) : Cx :=
  if 1 ≤ b ∧ b ≤ 127 then x b
  else if 385 ≤ b ∧ b ≤ 511 then (x (512 - b)).conj
  else Cx.zero

/-- exp(j 2π i / 512), i = 0 to 511. -/
def roots512 : Array Cx := ((List.range 512).map (unitRoot 512)).toArray

/-- The 512-point inverse transform: the real samples x[0] to x[511] (R57). -/
def inverse512 (x : Nat → Cx) : List Rat :=
  let w := roots512
  let bins := (List.range 512).filterMap fun b =>
    if binOf x b = Cx.zero then none else some (b, binOf x b)
  (List.range 512).map fun n =>
    sumRat (bins.map fun (b, c) => (c.mul (w.getD (b * n % 512) Cx.zero)).re)

/-- The symbol on the line: x[448] to x[511], then x[0] to x[511] (R57). -/
def lineSymbol (x : Nat → Cx) : List Rat :=
  let t := inverse512 x
  t.drop 448 ++ t

/-- Bin k of the transform of samples 64 to 575 of a local symbol (R58). -/
def windowBin (samples : List Rat) (k : Nat) : Cx :=
  let w := roots512
  Cx.sum (((samples.drop 64).take 512).zipIdx.map fun (v, n) =>
    Cx.scale v (w.getD (k * n % 512) Cx.zero).conj)

end Sys2Proof.Machine
end

