-- ==== Sys2Proof/Machine/Coding.lean ====
section
/-! DEFINITION. The digital functions of the line signal, none of which reads the state: CRCs,
scrambler, pilots and covers, constellations, the LDPC code, DTUs, the overhead word and frame, the
loading rule, vectoring depth and the latency bounds (R64 to R94, R108, R130 to R142). -/

namespace Sys2Proof.Machine

/-! ### Bits -/

/-- The `w` bits of `n`, most significant first. -/
def msbBits (w n : Nat) : List Bool := (List.range w).map fun i => bit n (w - 1 - i)

/-- The number a list of bits spells, most significant first. -/
def ofMsb (bs : List Bool) : Nat := bs.foldl (fun n b => 2 * n + bnat b) 0

/-- Exclusive or of two lists, bit by bit. -/
def xorBits (a b : List Bool) : List Bool := List.zipWith (· != ·) a b

/-- An unreflected CRC of `w` bits over a list of bits. -/
def crcBits (w poly init : Nat) (bs : List Bool) : Nat :=
  bs.foldl (fun r b =>
    let top := bit r (w - 1) != b
    let r := r * 2 % 2 ^ w
    if top then r ^^^ poly else r) init

/-- CRC-8 of the overhead word (R69). -/
def crc8 (bs : List Bool) : Nat := crcBits 8 0x07 0xFF bs

/-- CRC-16 of R71 and R135. -/
def crc16 (bs : List Bool) : Nat := crcBits 16 0x1021 0xFFFF bs

/-- CRC-32 of R78 and R142: result complemented. -/
def crc32 (bs : List Bool) : Nat := crcBits 32 0x04C11DB7 0xFFFFFFFF bs ^^^ 0xFFFFFFFF

/-- The bits of a list of bytes, each most significant bit first. -/
def byteBits (l : List Nat) : List Bool := l.flatMap (msbBits 8)

/-! ### Scrambler, pilots and covers (R68, R94) -/

/-- One step of the scrambler x^23 + x^18 + 1: its output bit and next state. -/
def scrStep (st : Nat) : Bool × Nat :=
  let s := bit st 22 != bit st 17
  (s, (st * 2 + bnat s) % 2 ^ 23)

/-- `n` bits of the scrambler from a state. -/
def scrBits : Nat → Nat → List Bool
  | 0, _ => []
  | n + 1, st => (scrStep st).1 :: scrBits n (scrStep st).2

/-- The seed of a port's data scrambler at the start of a superframe (R68). -/
def dataSeed (anchor sfc : Nat) : Nat :=
  let v := anchor * 2 ^ 16 + sfc % 2 ^ 16
  if v = 0 then 0x7FFFFF else v

/-- The seeds of line ℓ: pilots (R94), training symbols (R139). -/
def pilotSeed (l : Nat) : Nat := l * 2 ^ 16 + 0xA5A5
def trainSeed (l : Nat) : Nat := l * 2 ^ 16 + 0x5A5A

/-- The cover of pilot sets 1 to 3, from a 7-bit state (R94). -/
def coverBits : Nat → Nat → List Bool
  | 0, _ => [false]
  | n + 1, st =>
    let c := bit st 6 != bit st 5
    c :: coverBits n ((st * 2 + bnat c) % 128)

/-- c[0] to c[127] of a pilot set (R94). -/
def cover : Nat → List Bool
  | 1 => coverBits 127 0x01
  | 2 => coverBits 127 0x2A
  | 3 => coverBits 127 0x55
  | _ => List.replicate 128 false

/-- Parity of a number below 2^7. -/
def parity7 (n : Nat) : Bool :=
  (List.range 7).foldl (fun p i => p != bit n i) false

/-- s_ℓ[t] is −1 (R94). -/
def pilotNeg (set l t : Nat) : Bool := parity7 (l &&& t) != (cover set).getD t false

/-- The two bits a_k, b_k of tone k = 1 to 127 of a line's fixed sequence (R94, R139). -/
def toneBits (seed k : Nat) : Bool × Bool :=
  let l := scrBits (2 * k) seed
  (l.getD (2 * k - 2) false, l.getD (2 * k - 1) false)

/-! ### Constellations (R64) -/

/-- Gray decoding, first bit most significant. -/
def grayDecode (bs : List Bool) : Nat :=
  (bs.foldl (fun (n, p) b => (2 * n + bnat (p != b), p != b)) ((0 : Nat), false)).1

/-- The level of an axis: 2n − (M − 1). -/
def axisLevel (bs : List Bool) : Int :=
  if bs.isEmpty then 0 else 2 * (grayDecode bs : Int) - ((2 ^ bs.length : Nat) - 1)

/-- The unnormalised point of a tone's bits. -/
def pointLevels (bs : List Bool) : Int × Int :=
  match bs with
  | [u] => (2 * (bnat u : Int) - 1, 0)
  | _ =>
    let h := (bs.length + 1) / 2
    (axisLevel (bs.take h), axisLevel (bs.drop h))

/-- E of a constellation of b bits. -/
def pointEnergy : Nat → Nat
  | 0 => 1 | 1 => 1 | 2 => 2 | 3 => 6 | 4 => 10 | 5 => 26 | 6 => 42 | 7 => 106 | 8 => 170
  | 9 => 426 | 10 => 682 | 11 => 1706 | 12 => 2730 | 13 => 6826 | _ => 10922

/-- The point of a tone's bits at unit mean energy. -/
def point (bs : List Bool) : Cx :=
  let p := pointLevels bs
  Cx.scale (invSqrt (pointEnergy bs.length)) ⟨p.1, p.2⟩

/-- The integer that an axis of m bits reads at a level value: the nearest of its 2^m levels (R64, R65). -/
def axisNearest (m : Nat) (v : Rat) : Nat :=
  (clampInt 0 ((2 ^ m : Nat) - 1) (roundRat ((v + ((2 ^ m : Nat) - 1)) / 2))).toNat

/-- The bits that Gray-decode to n. -/
def grayBits (m n : Nat) : List Bool := msbBits m (n ^^^ (n / 2))

/-- The bits of the nearest level of an axis. -/
def axisBits (m : Nat) (v : Rat) : List Bool := grayBits m (axisNearest m v)

/-- The demapper's hard decision on a tone with `b` bits: the bits of the nearest point (R65). -/
def demap (b : Nat) (z : Cx) : List Bool :=
  let r := invSqrt (pointEnergy b)
  let h := (b + 1) / 2
  axisBits h (z.re / r) ++ axisBits (b - h) (z.im / r)

/-- The squared distance from a level value to the nearest level of an axis whose bit i is `u`. -/
def axisDistance (m i : Nat) (u : Bool) (v : Rat) : Rat :=
  let ds := ((List.range (2 ^ m)).filter fun n => (grayBits m n).getD i false == u).map fun n =>
    let e : Rat := v - (2 * (n : Rat) - ((2 ^ m : Nat) - 1))
    e * e
  ds.foldl min (ds.headD 0)

/-- The max-log ratios of an axis of m bits, positive for a 0. -/
def axisRatios (m : Nat) (v : Rat) : List Rat :=
  (List.range m).map fun i => axisDistance m i true v - axisDistance m i false v

/-- The max-log likelihood ratio of every bit of a tone with `b` bits at an equalised value, scaled by the
tone's SNR, given in 1/32 dB (R65). -/
def likelihoods (b snr : Nat) (z : Cx) : List Rat :=
  let e := pointEnergy b
  let r := invSqrt e
  let h := (b + 1) / 2
  let w := powerRatio 32 snr / (e : Rat)
  (axisRatios h (z.re / r) ++ axisRatios (b - h) (z.im / r)).map (w * ·)

/-- The fine gain a GAIN code stands for (R61). -/
def gainOf (code : Nat) : Rat := (code : Rat) / 1024

/-- The code 0x201 of −6.0 dB, carried by monitor tones and pilots of lines in bring-up. -/
def monitorGain : Nat := 0x201

/-- q_{ℓ,k} of R94. -/
def pilotPoint (l k : Nat) : Cx :=
  let ab := toneBits (pilotSeed l) k
  Cx.scale (invSqrt 2) ⟨1 - 2 * (bnat ab.1 : Rat), 1 - 2 * (bnat ab.2 : Rat)⟩

/-- The pilot value of line ℓ on tone k at pilot index t, without the amplitude (R94). -/
def pilotValue (set l k t : Nat) : Cx :=
  if pilotNeg set l t then Cx.scale (-1) (pilotPoint l k) else pilotPoint l k

/-- The 254 training bits of data symbol n of line ℓ: the scrambler runs on through the superframe (R139). -/
def trainBits (l n : Nat) : List Bool :=
  scrBits 254 ((List.range (254 * (n - 1))).foldl (fun st _ => (scrStep st).2) (trainSeed l))

/-- The training point of tone k from the bits of its symbol (R139). -/
def trainPoint (bs : List Bool) (k : Nat) : Cx := point ((bs.drop (2 * k - 2)).take 2)

/-! ### The LDPC code (R73 to R75) -/

/-- The shifts of the four base rows, column by column; none for an all-zero block. -/
def ldpcRow : Nat → List (Option Nat)
  | 0 => [some 17, none, some 44, some 9, some 58, some 31, some 2, some 49, some 23, none, some 61,
      some 36, some 12, some 54, some 40, some 7, some 29, none, some 51, some 19, some 3, some 46,
      some 34, some 60, some 25, none, some 14, some 57, some 1, some 0, none, none]
  | 1 => [some 38, some 6, some 21, none, some 13, some 47, some 62, some 28, some 5, some 53,
      some 33, none, some 41, some 18, some 0, some 59, some 10, some 26, some 45, none, some 55,
      some 30, some 8, some 16, some 63, some 37, some 22, none, none, some 0, some 0, none]
  | 2 => [some 50, some 27, some 15, some 42, some 35, none, some 20, some 11, some 48, some 4,
      some 24, some 56, some 1, none, some 52, some 32, some 43, some 60, some 39, some 14, some 26,
      none, some 47, some 5, some 31, some 58, some 9, some 36, some 0, none, some 0, some 0]
  | _ => [some 9, some 40, some 56, some 25, some 0, some 19, some 37, none, some 62, some 29,
      some 8, some 44, some 53, some 33, some 21, none, some 57, some 3, some 16, some 49, some 41,
      some 11, some 24, none, some 6, some 45, some 61, some 28, some 1, none, none, some 0]

/-- P^s x: the vector whose bit r is x[(r + s) mod Z]. -/
def rotBits (s : Nat) (x : List Bool) : List Bool :=
  x.drop (s % x.length) ++ x.take (s % x.length)

/-- Column j of a word of Z-bit columns. -/
def column (z j : Nat) (w : List Bool) : List Bool := (w.drop (j * z)).take z

/-- λ_i of R74: the XOR over information columns of the shifted columns. -/
def ldpcLambda (z i : Nat) (info : List Bool) : List Bool :=
  ((List.range 28).zip (ldpcRow i)).foldl
    (fun acc (j, s) =>
      match s with
      | none => acc
      | some s => xorBits acc (rotBits (s % z) (column z j info)))
    (List.replicate z false)

/-- Systematic encoding (R74): the codeword of 28 Z information bits. -/
def ldpcEncode (z : Nat) (info : List Bool) : List Bool :=
  let l0 := ldpcLambda z 0 info
  let l1 := ldpcLambda z 1 info
  let l2 := ldpcLambda z 2 info
  let l3 := ldpcLambda z 3 info
  let p0 := xorBits (xorBits l0 l1) (xorBits l2 l3)
  let p1 := xorBits l0 (rotBits 1 p0)
  let p2 := xorBits l1 p1
  let p3 := xorBits (xorBits l2 p0) p2
  info ++ p0 ++ p1 ++ p2 ++ p3

/-- The codeword bits that check r of base row i covers (R73). -/
def ldpcCheck (z i r : Nat) : List Nat :=
  ((List.range 32).zip (ldpcRow i)).filterMap fun (j, s) =>
    s.map fun s => j * z + (r + s % z) % z

/-- Every parity check holds. -/
def ldpcSatisfied (z : Nat) (bs : List Bool) : Bool :=
  (List.range 4).all fun i => (List.range z).all fun r =>
    ((ldpcCheck z i r).foldl (fun p v => p != bs.getD v false) false) == false

/-- Hard decisions: a negative ratio is a 1. -/
def hardBits (l : List Rat) : List Bool := l.map (· < 0)

/-- One check of a layer of normalised min-sum with scale 0.75 (R75): `post` the ratios of the code
bits, `msgs` the messages of this check's edges from the iteration before. -/
def minSumCheck (vars : List Nat) (post msgs : List Rat) : List Rat × List Rat :=
  let q := (vars.zip msgs).map fun (v, m) => post.getD v 0 - m
  let new := (List.range q.length).map fun e =>
    let others := (List.range q.length).filter (· != e) |>.map fun f => q.getD f 0
    let neg := others.foldl (fun p x => p != decide (x < 0)) false
    let mags := others.map fun x => if x < 0 then -x else x
    let m := mags.foldl min (mags.headD 0)
    (if neg then -1 else 1) * (3 / 4) * m
  let post := ((vars.zip q).zip new).foldl (fun p ((v, x), n) => p.set v (x + n)) post
  (post, new)

/-- The checks of one layer in turn. -/
def minSumLayer (z i : Nat) (post : List Rat) (msgs : List (List Rat)) :
    List Rat × List (List Rat) :=
  (List.range z).foldl
    (fun (st : List Rat × List (List Rat)) r =>
      let vars := ldpcCheck z i r
      let k := i * z + r
      let old := (st.2.getD k [])
      let old := if old.isEmpty then vars.map fun _ => (0 : Rat) else old
      let out := minSumCheck vars st.1 old
      (out.1, st.2.set k out.2))
    (post, msgs)

/-- Layered decoding of at most `n` layers (four an iteration), stopping at the end of the first
layer at which every check holds (R75). -/
def minSum (z : Nat) : Nat → Nat → List Rat → List (List Rat) → List Bool × Bool
  | 0, _, post, _ => (hardBits post, ldpcSatisfied z (hardBits post))
  | n + 1, i, post, msgs =>
    let st := minSumLayer z (i % 4) post msgs
    if ldpcSatisfied z (hardBits st.1) then (hardBits st.1, true)
    else minSum z n (i + 1) st.1 st.2

/-- Decode one codeword: its information bits, and whether it was corrected (R75). -/
def ldpcDecode (z iterations : Nat) (llrs : List Rat) : List Bool × Bool :=
  let r := minSum z (4 * iterations) 0 llrs (List.replicate (4 * z) [])
  (r.1.take (28 * z), r.2)

/-! ### Blocks (R72) -/

/-- A 64b/66b block: the sync header and the 64 payload bits, block type in bits 7:0. -/
structure Block where
  sync : Nat
  payload : Nat
  deriving DecidableEq, Repr

/-- The error control block: sync 0b10, type 0x1E, eight codes /E/ (R72). -/
def errorBlock : Block :=
  ⟨2, 0x1E + ((List.range 8).map fun i => 0x1E * 2 ^ (8 + 7 * i)).sum⟩

/-- The idle block: sync 0b10, type 0x1E, eight idle codes. -/
def idleBlock : Block := ⟨2, 0x1E⟩

/-- A Postline control block (R256): KIND and SUB in byte 1, content bits 47:40 in byte 2. -/
def controlBlock (kind sub content : Nat) : Block :=
  ⟨2, 0x5A + (kind * 16 + sub) * 2 ^ 8 +
    ((List.range 6).map fun i => content / 256 ^ (5 - i) % 256 * 2 ^ (8 * (i + 2))).sum⟩

/-- The local and the remote fault sequence ordered sets of Clause 46 as blocks of Clause 49 (R262; the clauses' codes are
PRESUMED, log 5). -/
def localFault : Block := ⟨2, 0x4B + 2 ^ 24⟩
def remoteFault : Block := ⟨2, 0x4B + 2 * 2 ^ 24⟩

/-- A block of low-power idle: eight codes /LI/ (R245; PRESUMED, log 5). -/
def lpiBlock : Block := ⟨2, 0x1E + ((List.range 8).map fun i => 0x06 * 2 ^ (8 + 7 * i)).sum⟩

/-- The `w` bits of `n`, least significant first. -/
def lsbBits (w n : Nat) : List Bool := (List.range w).map (bit n ·)

/-- The number a list of bits spells, least significant first. -/
def ofLsb (bs : List Bool) : Nat := bs.foldr (fun b n => 2 * n + bnat b) 0

/-- The first five bits of a transcoded block are combined with bits 8 to 12, on both sides of the line. -/
def foldHead (bs : List Bool) : List Bool := xorBits (bs.take 5) ((bs.drop 8).take 5) ++ bs.drop 5

/-- Bytes of a payload from byte i on, the first lowest. -/
def bytesAt (i : Nat) (bs : List Nat) : Nat := (bs.zipIdx.map fun e => e.1 * 2 ^ (8 * (i + e.2))).sum

/-- The blocks of a frame's bytes in Clause 49's coding: a start block with the preamble, data blocks, a terminate block (PRESUMED,
log 5). -/
def frameBlocks (bytes : List Nat) : List Block :=
  let n := bytes.length / 8
  [⟨2, 0x78 + bytesAt 1 (List.replicate 6 0x55 ++ [0xD5])⟩] ++
    (List.range n).map (fun i => ⟨1, bytesAt 0 ((bytes.drop (8 * i)).take 8)⟩) ++
    [⟨2, [0x87, 0x99, 0xAA, 0xB4, 0xCC, 0xD2, 0xE1, 0xFF].getD (bytes.length % 8) 0 + bytesAt 1 (bytes.drop (8 * n))⟩]

/-- A block as transcoding takes it: an error control block for an invalid sync header (R72). -/
def validBlock (b : Block) : Block := if b.sync = 1 ∨ b.sync = 2 then b else errorBlock

/-- Four blocks to 257 bits by IEEE 802.3 Clause 91.5.2.5 (R72; the clause's content is PRESUMED, log 5): a 1 and
four payloads where all are data blocks; else a 0, one data flag a block, and the payloads without the second
nibble of the first control block's type. -/
def transcode4 (bs : List Block) : List Bool :=
  let bs := bs.map validBlock
  let flags := bs.map fun b => b.sync == 1
  let payload := bs.flatMap fun b => lsbBits 64 b.payload
  foldHead (if flags.all id then true :: payload
    else
      let c := flags.findIdx fun f => !f
      false :: flags ++ payload.take (64 * c + 4) ++ payload.drop (64 * c + 8))

/-- The second nibble of a block type from its first: the types of Clause 49 (PRESUMED, log 5). -/
def typeNibble : Nat → Nat
  | 0xE => 1 | 0xD => 2 | 0x3 => 3 | 0xB => 4 | 0x5 => 5 | 0x6 => 6 | 0x8 => 7 | 0x7 => 8 | 0x9 => 9
  | 0xA => 0xA | 0x4 => 0xB | 0xC => 0xC | 0x2 => 0xD | 0x1 => 0xE | 0xF => 0xF | _ => 0

/-- A 257-bit block back to four 66-bit blocks; one that claims a control block and shows none is four error
control blocks (R72). -/
def expand4 (bs : List Bool) : List Block :=
  let bs := foldHead bs
  let block := fun (body : List Bool) (i : Nat) => ofLsb ((body.drop (64 * i)).take 64)
  if bs.headD false then (List.range 4).map fun i => ⟨1, block (bs.drop 1) i⟩
  else
    let flags := (bs.drop 1).take 4
    if flags.all id then List.replicate 4 errorBlock
    else
      let c := flags.findIdx fun f => !f
      let body := bs.drop 5
      let low := ofLsb ((body.drop (64 * c)).take 4)
      let body := body.take (64 * c + 4) ++ lsbBits 4 (typeNibble low) ++ body.drop (64 * c + 4)
      (List.range 4).map fun i => ⟨if flags.getD i false then 1 else 2, block body i⟩

/-! ### Ethernet frames (R261, R270, R271) -/

/-- The FCS of a frame's bytes: the CRC-32 of Clause 3, each byte's least significant bit first (PRESUMED, log 5). -/
def fcsBytes (bytes : List Nat) : List Nat :=
  let c := msbBits 32 (crc32 (bytes.flatMap (lsbBits 8)))
  (List.range 4).map fun i => ofLsb ((c.drop (8 * i)).take 8)

/-- A frame's bytes padded to 64 with its FCS. -/
def padFrame (bytes : List Nat) : List Nat :=
  let body := bytes ++ List.replicate (60 - bytes.length) 0
  body ++ fcsBytes body

/-- The bytes of a number, the most significant first. -/
def bigBytes (n v : Nat) : List Nat := (List.range n).map fun i => v / 256 ^ (n - 1 - i) % 256

/-- A PAUSE frame with a source address and quanta (R261). -/
def pauseFrame (source quanta : Nat) : List Nat :=
  padFrame (bigBytes 6 0x0180C2000001 ++ bigBytes 6 source ++ [0x88, 0x08, 0x00, 0x01] ++ bigBytes 2 quanta)

/-- A Reach record as an Ethernet frame, both addresses 0 (R271). -/
def recordFrame (record : List Nat) : List Nat := padFrame (List.replicate 12 0 ++ [0x88, 0xB5] ++ record)

/-- The record in a frame of a REACH port, its FCS apart, the addresses ignored, with what pads it; none with a bad FCS (R271). -/
def recordOf (frame fcs : List Nat) : Option (List Nat) :=
  if fcs = fcsBytes frame then some (frame.drop 14) else none

/-- Two bytes of a frame as a number. -/
def pairAt (frame : List Nat) (i : Nat) : Nat := frame.getD i 0 * 256 + frame.getD (i + 1) 0

/-- Where the IEEE 1588 message of a frame begins: EtherType 0x88F7, or UDP over IPv4 or IPv6 to port 319, with at most one VLAN
tag (R270; the headers' layouts are PRESUMED, log 5). -/
def timedAt (frame : List Nat) : Option Nat :=
  let t := if pairAt frame 12 = 0x8100 then 16 else 12
  let ip := t + 2
  if pairAt frame t = 0x88F7 then some ip
  else if pairAt frame t = 0x0800 ∧ frame.getD (ip + 9) 0 = 17 then
    let udp := ip + 4 * (frame.getD ip 0 % 16)
    if pairAt frame (udp + 2) = 319 then some (udp + 8) else none
  else if pairAt frame t = 0x86DD ∧ frame.getD (ip + 6) 0 = 17 ∧ pairAt frame (ip + 42) = 319 then some (ip + 48)
  else none

/-- messageType, domainNumber and sequenceId of an event message, types 0 to 3 (R270). -/
def eventMessage (frame : List Nat) : Option (Nat × Nat × Nat) :=
  match timedAt frame with
  | some i =>
    let kind := frame.getD i 0 % 16
    if kind ≤ 3 then some (kind, frame.getD (i + 4) 0, pairAt frame (i + 30)) else none
  | none => none

/-! ### DTUs (R78, R79) -/

structure Dtu where
  seq : Nat
  rtx : Bool
  empty : Bool
  start : Bool
  blocks : List (List Bool)
  deriving DecidableEq, Repr

/-- Pad with zeros on the right to `n` bits. -/
def padTo (n : Nat) (bs : List Bool) : List Bool := bs ++ List.replicate (n - bs.length) false

/-- The 7,168 information bits of a DTU. -/
def Dtu.bits (d : Dtu) : List Bool :=
  let head := msbBits 16 d.seq ++ [d.rtx, d.empty, d.start] ++ List.replicate 5 false ++
    msbBits 8 (if d.empty then 0 else d.blocks.length)
  let body := padTo 6971 (head ++ (if d.empty then [] else d.blocks.flatten))
  body ++ msbBits 32 (crc32 body) ++ List.replicate 165 false

/-- The DTU that 7,168 information bits spell, where the CRC-32 is good. -/
def dtuOf (bs : List Bool) : Option Dtu :=
  let body := bs.take 6971
  if ofMsb ((bs.drop 6971).take 32) = crc32 body then
    let n := ofMsb ((body.drop 24).take 8)
    some { seq := ofMsb (body.take 16), rtx := body.getD 16 false, empty := body.getD 17 false,
           start := body.getD 18 false,
           blocks := (List.range n).map fun i => (body.drop (32 + 257 * i)).take 257 }
  else none

/-- The position order of a Bulk codeword: the j-th position carries bit (357 j) mod 2048 (R79). -/
def interleave (cw : List Bool) : List Bool :=
  (List.range 2048).map fun j => cw.getD (357 * j % 2048) false

/-- Undo the position order on received ratios. -/
def deinterleave (l : List Rat) : List Rat :=
  (List.range 2048).map fun i =>
    l.getD (((List.range 2048).find? fun j => 357 * j % 2048 == i).getD 0) 0

/-! ### The overhead word and frame (R69 to R71, R135) -/

structure OhWord where
  code : Nat
  berf : Bool
  ackv : Bool
  ackSeq : Nat
  ackMap : Nat
  frag : Nat
  deriving DecidableEq, Repr

/-- Bits 31:8 of the overhead word. -/
def OhWord.head (w : OhWord) : Nat :=
  w.code * 2 ^ 21 + bnat w.berf * 2 ^ 20 + bnat w.ackv * 2 ^ 19 + w.ackSeq * 2 ^ 11 +
    w.ackMap * 2 ^ 8 + w.frag

/-- The overhead word with its CRC-8. -/
def OhWord.encode (w : OhWord) : Nat := w.head * 2 ^ 8 + crc8 (msbBits 24 w.head)

/-- The overhead word that 32 bits carry, none where the CRC fails; reserved SEAL codes are received
as IDLE (R70). -/
def ohDecode (n : Nat) : Option OhWord :=
  if crc8 (msbBits 24 (bits n 8 24)) = bits n 0 8 then
    let c := bits n 29 3
    some { code := if c ≥ 5 then 0 else c, berf := bit n 28, ackv := bit n 27,
           ackSeq := bits n 19 8, ackMap := bits n 16 3, frag := bits n 8 8 }
  else none

/-- Bytes 33 to 63 of an overhead frame carrying a message (R71). -/
def messageBytes (type : Nat) (payload : List Nat) : List Nat :=
  let body := type :: payload.length :: payload ++ List.replicate (27 - payload.length) 0
  let c := crc16 (byteBits body)
  body ++ [c / 256, c % 256]

/-- A pilot word (R135): kind, CORR, SFC_P and its CRC-16. -/
def pilotWord (kind : Nat) (corr : Int) (sfcP : Nat) : Nat :=
  let head := kind * 2 ^ 40 + ofSigned 20 corr * 2 ^ 20 + sfcP % 2 ^ 16
  head * 2 ^ 16 + crc16 (msbBits 48 head)

/-- The fields of a received pilot word whose CRC passes (R135). -/
def pilotWordFields (w : Nat) : Option (Nat × Int × Nat) :=
  if crc16 (msbBits 48 (bits w 16 48)) = bits w 0 16 then
    some (bits w 56 8, toSigned 20 (bits w 36 20), bits w 16 16)
  else none

/-! ### Loading (R61, R141, R142) -/

/-- A table entry: b_k in bits 15:12, g_k coded in bits 11:0 (R142). -/
def entryBits (e : Nat) : Nat := e / 2 ^ 12 % 16
def entryGain (e : Nat) : Nat := e % 2 ^ 12

/-- Γ_b in 0.1 dB (R141). -/
def gammaOf : Nat → Nat
  | 1 => 12 | 2 => 60 | 3 => 97 | 4 => 130 | 5 => 161 | 6 => 192 | 7 => 222 | 8 => 253 | 9 => 283
  | 10 => 313 | 11 => 343 | 12 => 373 | 13 => 403 | 14 => 433 | _ => 0

/-- (2n − 1)/2048 ≤ 10^(G/20) for G in 1/160 dB, by whole powers. -/
def gainAtLeast (n : Nat) (g : Int) : Bool :=
  decide ((2 * n - 1) ^ 3200 * 10 ^ (-g).toNat ≤ 2048 ^ 3200 * 10 ^ g.toNat)

/-- The GAIN code of a gain of G/160 dB: 1024 × 10^(G/20) to the nearest, within 0x201 to 0x555
(R61). -/
def gainCode (g : Int) : Nat :=
  ((List.range (0x555 - 0x201)).foldl
    (fun best i => if gainAtLeast (0x202 + i) g then 0x202 + i else best) 0x201)

/-- 20 log10 of the gain a GAIN code stands for, in 1/160 dB. -/
def gainLevel (code : Nat) : Int := decibels 160 (gainOf code * gainOf code)

/-- The loading of one tone (R141): SNR_k⁰ in 1/160 dB, margin target in 0.1 dB; a monitor tone where no b qualifies, 0 where
the tone is masked or excluded (R61). -/
def loadTone (snr0 : Int) (margin maxBits : Nat) (masked erased : Bool) : Nat :=
  if masked then 0
  else
    let ok := fun b => decide (((gammaOf b + margin : Nat) : Int) * 16 ≤ snr0 + 400)
    let b := if erased then 0
      else ((List.range maxBits).map (· + 1)).foldl (fun best b => if ok b then b else best) 0
    if b = 0 then monitorGain
    else
      let g : Int := ((gammaOf b + margin : Nat) : Int) * 16 - snr0
      b * 2 ^ 12 + gainCode (clampInt (-960) 400 g)

/-- The highest b_k that LLOAD.CTRL.MAXBITS allows: 0 and 15 are treated as 14 (R61). -/
def maxBitsOf (n : Nat) : Nat := if n = 0 ∨ n = 15 then 14 else n

/-- The margin of a loaded tone at its LLOAD SNR in 1/32 dB, in 1/160 dB: SNR_k⁰ + 20 log10 g_k − Γ_b (R145). -/
def toneMargin (snr b : Nat) : Int := 5 * (snr : Int) - 16 * (gammaOf b : Nat)

/-- The CRC-32 of a table (R142): entries of tones 1 to 127, two bytes each. -/
def tableCrc (entry : Nat → Nat) : Nat :=
  crc32 ((List.range 127).flatMap fun i => msbBits 16 (entry (i + 1)))

/-- The tones of segment s of a LOAD message (R142). -/
def segmentTones (s : Nat) : List Nat := (List.range 12).map (12 * s + 1 + ·)

/-! ### Vectoring depth and bounds (R84 to R86, R108) -/

/-- NV at each performance level (R108). -/
def nvOf : Nat → Nat
  | 0 => 127 | 1 => 101 | 2 => 67 | _ => 33

/-- The VX clock at each level, in 10 MHz (R288). -/
def vxClock : Nat → Nat
  | 0 => 150 | 1 => 120 | 2 => 80 | _ => 40

/-- The body bias at each level, in 0.01 V: forward is positive (R288). -/
def bodyBias : Nat → Int
  | 0 => 20 | 1 => 0 | 2 => -20 | _ => -30

/-- SRAM write assist at each level (R288). -/
def writeAssist (level : Nat) : Bool := decide (2 ≤ level)

/-- VX at each level, in mV (R288). -/
def vxMilliVolt : Nat → Nat
  | 0 => 800 | 1 => 720 | 2 => 640 | _ => 580

/-- ⌈a / b⌉. -/
def ceilDiv (a b : Nat) : Nat := (a + b - 1) / b

/-- E(k) in VX cycles (R84). -/
def engineCycles (nv k : Nat) : Nat := 4 * min k nv + ceilDiv (k - nv) 32

/-- Cycles of the VX clock in units of 1/10^6 ns, rounded up. -/
def cyclesFs (level n : Nat) : Nat := ceilDiv (n * 100 * 10 ^ 6) (vxClock level)

/-- F_w of R84, in 10^-6 ns. -/
def expressFixed : Nat → Nat
  | 1 => 177875000 | 2 => 162515000 | _ => 154835000

/-- The Express bound of R84 in ns, rounded up: the tones that carry P511 and P(B − 512). -/
def expressBound (level nv width bFirst aLast : Nat) : Nat :=
  let up := engineCycles nv bFirst
  let down := engineCycles nv 127 - engineCycles nv (aLast - 1)
  ceilDiv (703125000 + expressFixed width + cyclesFs level (max up down)) (10 ^ 6)

/-- ⌈x⌉ for x = 8192 / B. -/
def xCeil (b : Nat) : Nat := ceilDiv 8192 b

/-- The Bulk bound of R85 in ns, rounded up; 0xFFFF if larger or B = 0. -/
def bulkBound (b : Nat) : Nat :=
  if b = 0 then 0xFFFF
  else min 0xFFFF (ceilDiv ((8192 + (xCeil b + 1) * b) * 3515625 + 600 * 10000 * b) (10000 * b))

/-- Δ of R86 in ns, rounded up, for a round trip in ns; 0xFFFF where it does not fit and where B = 0 leaves none (DESIGN
CHOICE, log 70). -/
def retransmitTime (b rtt : Nat) : Nat :=
  if b = 0 then 0xFFFF
  else min 0xFFFF (ceilDiv (1250 * 10000 + (xCeil b + 1) * 3515625) 10000 + rtt)

/-! ### Proofs of the handshake (R132) -/

/-- The `n` bytes of a number, most significant first. -/
def msbBytes (n v : Nat) : List Nat := (List.range n).map fun i => v / 256 ^ (n - 1 - i) % 256

/-- P_H or P_T of R132: the tag byte, the two nonces and the two device IDs in their order, and ℓ. -/
def pairProof (key tag n1 n2 id1 id2 l : Nat) : Nat :=
  Config.kmac256 key
    (tag :: msbBytes 32 n1 ++ msbBytes 32 n2 ++ msbBytes 8 id1 ++ msbBytes 8 id2 ++ [l])
    256 "APS-PAIR"

end Sys2Proof.Machine
end

