-- ==== Sys2Proof/Machine/Chirp.lean ====
section
/-! DEFINITION. Reach packets as chirps: the header, the convolutional code, the interleaver, the chirp
values and their samples (R156, R158 to R163). -/

namespace Sys2Proof.Machine

/-- One step of the code of R162: the input and the six before it, the latest in bit 5 of the state. -/
def convPair (st : Nat) (b : Bool) : Bool × Bool :=
  let r := bnat b * 64 + st
  (parity7 (r &&& 0o133), parity7 (r &&& 0o171))

/-- The pairs (g0, g1) of each input, from a state. -/
def convPairs : Nat → List Bool → List (Bool × Bool)
  | _, [] => []
  | st, b :: bs => convPair st b :: convPairs ((bnat b * 64 + st) / 2) bs

/-- The bits sent of the pairs of a code rate (R162). -/
def puncture (cr : Nat) : List (Bool × Bool) → List Bool
  | [] => []
  | [a] => [a.1, a.2]
  | a :: b :: r =>
    if cr = 0 then a.1 :: a.2 :: puncture cr (b :: r)
    else if cr = 1 then a.1 :: a.2 :: b.1 :: puncture cr r
    else
      match r with
      | c :: r' => a.1 :: a.2 :: b.2 :: c.1 :: puncture cr r'
      | [] => [a.1, a.2, b.2]

/-- The 24 bits of a header above its HCRC (R160). -/
def headerTop (len cr addr kind seq : Nat) (opens : Bool) : Nat :=
  (len - 1) * 2 ^ 13 + cr * 2 ^ 11 + addr * 2 ^ 7 + kind * 2 ^ 4 + bnat opens * 2 ^ 3 + seq

/-- The header word with its HCRC (R160). -/
def headerWord (len cr addr kind seq : Nat) (opens : Bool) : Nat :=
  let t := headerTop len cr addr kind seq opens
  t * 2 ^ 8 + crc8 (msbBits 24 t)

/-- A header passes: its HCRC is right, and neither CR nor KIND is reserved (R160). -/
def headerPasses (w : Nat) : Bool :=
  crc8 (msbBits 24 (w / 2 ^ 8)) == w % 2 ^ 8 && bits w 19 2 != 3 && bits w 12 3 != 7

/-- The encoder's state preloaded with header bits 5 to 0, bit 0 the latest (R162). -/
def headerState (w : Nat) : Nat := (List.range 6).foldl (fun n i => n + bnat (bit w i) * 2 ^ (5 - i)) 0

/-- The 64 coded bits of a header. -/
def headerCoded (w : Nat) : List Bool :=
  (convPairs (headerState w) (msbBits 32 w)).flatMap fun p => [p.1, p.2]

/-- N_in: payload, CRC-32 and tail bits, filled to the code's period (R161). -/
def payloadInputs (len cr : Nat) : Nat :=
  let p := if cr = 0 then 1 else cr + 1
  ceilDiv (8 * len + 38) p * p

/-- The coded bits of a payload (R161, R162). -/
def payloadCoded (cr : Nat) (payload : List Nat) : List Bool :=
  let bs := byteBits payload
  let all := bs ++ msbBits 32 (crc32 bs)
  puncture cr (convPairs 0 (all ++ List.replicate (payloadInputs payload.length cr - all.length) false))

/-- The chirp value whose Gray code is the bits, most significant first (R163). -/
def chirpValue (bs : List Bool) : Nat := grayDecode bs

/-- The chirps of one interleaver block: bit i goes to chirp i mod c at position ⌊i/c⌋ (R163). -/
def blockChirps (sf : Nat) (bs : List Bool) : List Nat :=
  let c := bs.length / sf
  (List.range c).map fun m => chirpValue ((List.range sf).map fun j => bs.getD (j * c + m) false)

/-- Coded bits cut into blocks of 8 × SF, the last one shorter. -/
def interleaved (sf : Nat) (bs : List Bool) : List Nat :=
  let n := ceilDiv bs.length sf * sf
  let all := padTo n bs
  (List.range (ceilDiv n (8 * sf))).flatMap fun i => blockChirps sf ((all.drop (8 * sf * i)).take (8 * sf))

/-- NW0 and NW1 of a network word (R159). -/
def netValues (sf netid : Nat) : Nat × Nat :=
  let n := 2 ^ sf
  (netid % 16 * (n / 16) + n / 32, netid / 16 * (n / 16) + n / 32)

/-- The chirps of a packet in order: true an up-chirp, with its value (R158). -/
def packetChirps (netid sf cr header : Nat) (payload : List Nat) : List (Bool × Nat) :=
  let w := netValues sf netid
  List.replicate 8 (true, 0) ++ [(false, 0), (false, w.1), (false, w.2), (true, 2 ^ sf / 2)] ++
    (interleaved sf (headerCoded header) ++ interleaved sf (payloadCoded cr payload)).map fun v => (true, v)

/-! ### Samples (R155, R156) -/

/-- The sample x_s[n] of a chirp of value s at the chip rate; a down-chirp is its conjugate (R156). -/
def chirpSample (sf : Nat) (up : Bool) (s n : Nat) : Cx :=
  let len := 2 ^ sf
  let u := (n + s) % len
  let x := unitRoot (2 * len) (u * u + len * u)
  if up then x else x.conj

/-- The bins of a window dechirped against the up or the down reference: its products with the reference's conjugate, N-point
transformed (R165, R166, R202). -/
def dechirp (sf : Nat) (up : Bool) (w : Window) : List Cx :=
  let n := 2 ^ sf
  let ys := ((w.zipIdx).filter fun e => e.1 != (0, 0)).map fun e =>
    ((⟨e.1.1, e.1.2⟩ : Cx).mul (chirpSample sf up 0 e.2).conj, e.2)
  (List.range n).map fun k => Cx.sum (ys.map fun e => e.1.mul (unitRoot n ((n - e.2 * k % n) % n)))

/-- The value of a window dechirped against the up reference at a place in sixteenths of a bin (R200). -/
def dechirpAt (sf : Nat) (w : Window) (place : Nat) : Cx :=
  let n := 16 * 2 ^ sf
  Cx.sum (((w.zipIdx).filter fun e => e.1 != (0, 0)).map fun e =>
    (((⟨e.1.1, e.1.2⟩ : Cx).mul (chirpSample sf true 0 e.2).conj).mul (unitRoot n ((n - e.2 * place % n) % n))))

/-- The peak voltage A whose average power into 100 Ω is TXPWR: −10 dBm and 1 dB a step, 24 at most (R156, R181). -/
def reachVolts (txpwr : Nat) : Rat := sqrtRat (powerRatio 1 ((min 24 txpwr : Nat) - 10 : Int) / 5)

/-- Sample m of a packet on the line, at the DAC rate of 512 chips of the 3.2 MHz band: A × Re of the chirp in progress at
the centre frequency (1 + 4 × 2^BW) / 4096 of that rate; its phase is u² / (2N) − u / 2 turns at u chips (R155, R156). -/
def packetVolt (sf bw : Nat) (volts : Rat) (chirps : List (Bool × Nat)) (m : Nat) : Rat :=
  let len := 512 * 2 ^ sf
  let c := chirps.getD (m * 2 ^ bw / len) (true, 0)
  let a := (m * 2 ^ bw + 512 * c.2) % len
  let d := 1024 * len
  let base := a * a + (d - len) * a
  let turn := if c.1 then base else d - base % d
  volts * (unitRoot d (turn + (1 + 4 * 2 ^ bw) * (d / 4096) * m)).re

/-- The DAC samples of a packet of n chirps (R155, R156). -/
def packetSamples (sf bw n : Nat) : Nat := n * (512 * 2 ^ sf) / 2 ^ bw

/-- The airtime of a packet of n chirps in ns: T_c is 2^SF chips of 3.2 MHz × 2^BW (R155, R158). -/
def airtime (sf bw n : Nat) : Nat := n * 2 ^ sf * 625 / (2 * 2 ^ bw)

end Sys2Proof.Machine
end

