-- ==== Sys2Proof/Machine/Store.lean ====
section
/-! DEFINITION. Sparse data by number: a list of (key, value) pairs, keys strictly rising, one entry
a key.  The register file, the envelopes, the coefficient memory and the per-line, per-port and
per-lane data all use it. -/

namespace Sys2Proof.Machine

/-- Sparse data: what is listed under a key, and nothing for every other key. -/
abbrev Store (α : Type) := List (Nat × α)

/-- What is listed under `k`. -/
def Store.find {α : Type} : Store α → Nat → Option α
  | [], _ => none
  | (k', v) :: m, k => if k' = k then some v else Store.find m k

/-- Remove the entry of `k`. -/
def Store.erase {α : Type} : Store α → Nat → Store α
  | [], _ => []
  | (k', v) :: m, k => if k' = k then Store.erase m k else (k', v) :: Store.erase m k

/-- Insert an entry before the first larger key. -/
def Store.insert {α : Type} : Store α → Nat → α → Store α
  | [], k, v => [(k, v)]
  | (k', v') :: m, k, v =>
    if k < k' then (k, v) :: (k', v') :: m else (k', v') :: Store.insert m k v

/-- List `v` under `k`, or nothing. -/
def Store.put {α : Type} (m : Store α) (k : Nat) (v : Option α) : Store α :=
  match v with
  | none => m.erase k
  | some v => (m.erase k).insert k v

/-- The value under `k`, the default `d` where nothing is listed. -/
def Store.get {α : Type} (m : Store α) (d : α) (k : Nat) : α := (m.find k).getD d

/-- Set the value under `k`; a value equal to the default is not listed. -/
def Store.set {α : Type} [DecidableEq α] (m : Store α) (d : α) (k : Nat) (v : α) : Store α :=
  m.put k (if v = d then none else some v)

/-- Keys strictly rising. -/
def Store.sorted {α : Type} : Store α → Bool
  | [] => true
  | [_] => true
  | (a, _) :: (b, v) :: m => decide (a < b) && Store.sorted ((b, v) :: m)

/-- The form every store keeps: keys strictly rising. -/
abbrev Store.Wf {α : Type} (m : Store α) : Prop := m.Pairwise (fun a b => a.1 < b.1)

end Sys2Proof.Machine
end

