-- ==== Sys2Proof/Machine/Regs.lean ====
section
/-! DEFINITION. The register map: every register field of every page with its bits, access code,
reset value and soft-reset behaviour (R12, R31, R35 and the register tables of each page, whose rule
stands beside each group). -/

namespace Sys2Proof.Machine

/-- The access codes of R12.  `ro` is a stored RO field and `live` an RO field that reports the
present state of the hardware (R10). -/
inductive Acc where
  | ro | live | rw | rws | w1c | w1p | wo
  deriving DecidableEq, Repr

/-- One register field: bits `lo + w - 1 : lo` of the words at `off`, `off + stride`, ... (`cnt` of
them) of a page. -/
structure Fld where
  id : Nat
  page : Page
  off : Nat
  lo : Nat
  w : Nat
  acc : Acc
  rst : Nat
  cnt : Nat := 1
  stride : Nat := 4
  survives : Bool := false
  deriving DecidableEq, Repr

/-- The instance that holds a field: LETTERBOX has one PAGE_CTRL, one CMD and one DOORBELL, and banks what R49 and R324 say
is banked by channel. -/
def Fld.bank (F : Fld) (inst : Nat) : Nat :=
  if F.page = .letterbox && (F.off == 0x004 || F.off == 0x040 || F.off == 0x044) then 0 else inst

/-- The key of a field in the register store: word `j` of instance `inst`. -/
def Fld.key (F : Fld) (inst j : Nat) : Nat := (F.bank inst * 512 + j) * 2048 + F.id % 2048

/-- The event conditions of a page, one bit each; the others are reserved (R63, R86, R116, R118, R154, R182, R199, R209,
R236, R237, R249, R270, R272, R273, R284, R287, R295, R296, R305, R323, R325, R338, R343, R355, R362, R385; log 47 for the
pages whose chapter names none). -/
def condMask : Page → Nat
  | .session => 0xF | .hearth => 0xF | .clocks => 0x7F | .perf => 0x7 | .fault => 0x7F | .calmgr => 0x1F
  | .thermal => 0xF | .timebase => 0x7 | .letterbox => 0x1 | .boot => 0xF | .trust => 0xF | .xengine => 0x3FF
  | .xwindow => 0x1 | .sync => 0x7 | .cluster => 0x3 | .lane => 0x707 | .port_ctl => 0x3FF | .port_sec => 0xF
  | .lctl => 0x3 | .ltrain => 0x3FF | .lload => 0xF | .lmon => 0x1FF | .lreach => 0x1FF | .ldiag => 0x7
  | .lafe => 0xFF | .lstd => 0x3F
  | _ => 0

/-- `h[i]` of R186, i = 0 to 31, in units of 2^-17 as 18-bit two's complement; the bank is
symmetric. -/
def kaiserHalf : List Nat :=
  [262138, 262133, 19, 30, 262100, 262082, 85, 114, 261994, 261950, 246, 308, 261762, 261675, 571, 689,
   261317, 261157, 1173, 1389, 260501, 260202, 2298, 2730, 258878, 258195, 4856, 6135, 254046, 250582, 19525, 58958]

/-- Tap `i` of the default bank (R186). -/
def kaiserTap (i : Nat) : Nat := kaiserHalf.getD (if i < 32 then i else 63 - i) 0


/-! IDENT (R385) -/

def IDENT.STATUS.READY : Fld := ⟨0, .ident, 0x040, 0, 1, .live, 0x0, 1, 4, false⟩
def IDENT.DEVICE_ID_LO.ID : Fld := ⟨1, .ident, 0x044, 0, 32, .live, 0x0, 1, 4, false⟩
def IDENT.DEVICE_ID_HI.ID : Fld := ⟨2, .ident, 0x048, 0, 32, .live, 0x0, 1, 4, false⟩
def IDENT.PART.CODE : Fld := ⟨3, .ident, 0x04C, 16, 16, .live, 0xa128, 1, 4, false⟩
def IDENT.PART.STEPPING : Fld := ⟨4, .ident, 0x04C, 8, 8, .live, 0xb0, 1, 4, false⟩

/-! SESSION (R343) -/

def SESSION.NONCE.W : Fld := ⟨5, .session, 0x040, 0, 32, .live, 0x0, 8, 4, false⟩
def SESSION.TAG.W : Fld := ⟨6, .session, 0x060, 0, 32, .wo, 0x0, 8, 4, false⟩
def SESSION.CMD.OPEN : Fld := ⟨7, .session, 0x080, 31, 1, .w1p, 0x0, 1, 4, false⟩
def SESSION.CMD.CLOSE : Fld := ⟨8, .session, 0x080, 30, 1, .w1p, 0x0, 1, 4, false⟩
def SESSION.CMD.RENEW : Fld := ⟨9, .session, 0x080, 29, 1, .w1p, 0x0, 1, 4, false⟩
def SESSION.CMD.SLOT : Fld := ⟨10, .session, 0x080, 8, 3, .rw, 0x0, 1, 4, false⟩
def SESSION.CMD.ROLE : Fld := ⟨11, .session, 0x080, 0, 2, .rw, 0x0, 1, 4, false⟩
def SESSION.STAT.STATE : Fld := ⟨12, .session, 0x084, 30, 2, .live, 0x0, 1, 4, false⟩
def SESSION.STAT.ROLE : Fld := ⟨13, .session, 0x084, 28, 2, .live, 0x0, 1, 4, false⟩
def SESSION.STAT.SLOT : Fld := ⟨14, .session, 0x084, 24, 3, .live, 0x0, 1, 4, false⟩
def SESSION.STAT.RESULT : Fld := ⟨15, .session, 0x084, 20, 4, .ro, 0x0, 1, 4, false⟩
def SESSION.STAT.CLOSED_BY : Fld := ⟨16, .session, 0x084, 16, 4, .ro, 0x0, 1, 4, false⟩
def SESSION.STAT.FAILS : Fld := ⟨17, .session, 0x084, 8, 8, .ro, 0x0, 1, 4, true⟩
def SESSION.STAT.LOCK_LEFT : Fld := ⟨18, .session, 0x084, 0, 8, .ro, 0x0, 1, 4, true⟩
def SESSION.IDLE.MIN : Fld := ⟨19, .session, 0x088, 0, 8, .rw, 0xa, 1, 4, false⟩
def SESSION.MDIO_BASE.CLUSTER : Fld := ⟨20, .session, 0x0A0, 0, 2, .rw, 0x0, 1, 4, false⟩

/-! HEARTH (R305) -/

def HEARTH.PSTATE.SUBSTATE : Fld := ⟨21, .hearth, 0x040, 8, 3, .live, 0x0, 1, 4, true⟩
def HEARTH.PSTATE.STATE : Fld := ⟨22, .hearth, 0x040, 4, 2, .live, 0x0, 1, 4, true⟩
def HEARTH.PSTATE.REQ : Fld := ⟨23, .hearth, 0x040, 0, 2, .rw, 0x0, 1, 4, true⟩
def HEARTH.REFUSE.STAGE : Fld := ⟨24, .hearth, 0x044, 28, 4, .ro, 0x0, 1, 4, true⟩
def HEARTH.REFUSE.REASON : Fld := ⟨25, .hearth, 0x044, 24, 4, .ro, 0x0, 1, 4, true⟩
def HEARTH.REFUSE.INSTANCE : Fld := ⟨26, .hearth, 0x044, 16, 8, .ro, 0x0, 1, 4, true⟩
def HEARTH.REFUSE.COUNT : Fld := ⟨27, .hearth, 0x044, 0, 16, .ro, 0x0, 1, 4, true⟩
def HEARTH.WAKE_EN.EN : Fld := ⟨28, .hearth, 0x048, 0, 4, .rw, 0x7, 1, 4, true⟩
def HEARTH.WAKE_CAUSE.CAUSE : Fld := ⟨29, .hearth, 0x04C, 28, 4, .ro, 0x0, 1, 4, true⟩
def HEARTH.WAKE_CAUSE.BLOCK : Fld := ⟨30, .hearth, 0x04C, 16, 8, .ro, 0x0, 1, 4, true⟩
def HEARTH.WAKE_CAUSE.FAILS : Fld := ⟨31, .hearth, 0x04C, 8, 8, .ro, 0x0, 1, 4, true⟩
def HEARTH.WAKE_CAUSE.LINE : Fld := ⟨32, .hearth, 0x04C, 0, 7, .ro, 0x0, 1, 4, true⟩
def HEARTH.TIMER.SEC : Fld := ⟨33, .hearth, 0x050, 0, 32, .rw, 0x0, 1, 4, true⟩
def HEARTH.ETH.DBM : Fld := ⟨34, .hearth, 0x054, 0, 8, .rw, 0xce, 1, 4, true⟩
def HEARTH.TRIM.SRC : Fld := ⟨35, .hearth, 0x058, 30, 2, .rw, 0x1, 1, 4, true⟩
def HEARTH.TRIM.STATE : Fld := ⟨36, .hearth, 0x058, 28, 2, .live, 0x0, 1, 4, true⟩
def HEARTH.TRIM.DEV : Fld := ⟨37, .hearth, 0x058, 8, 8, .ro, 0x0, 1, 4, true⟩
def HEARTH.TRIM.CODE : Fld := ⟨38, .hearth, 0x058, 0, 8, .live, 0x0, 1, 4, true⟩

/-! CLOCKS (R284) -/

def CLOCKS.STAT.CSRC : Fld := ⟨39, .clocks, 0x040, 30, 2, .live, 0x0, 1, 4, false⟩
def CLOCKS.STAT.KOSC : Fld := ⟨40, .clocks, 0x040, 28, 2, .live, 0x0, 1, 4, false⟩
def CLOCKS.STAT.REFCLK : Fld := ⟨41, .clocks, 0x040, 26, 2, .live, 0x0, 1, 4, false⟩
def CLOCKS.STAT.REDUCED : Fld := ⟨42, .clocks, 0x040, 25, 1, .live, 0x0, 1, 4, false⟩
def CLOCKS.STAT.TSRC : Fld := ⟨43, .clocks, 0x040, 23, 2, .live, 0x0, 1, 4, false⟩
def CLOCKS.STAT.LOCK : Fld := ⟨44, .clocks, 0x040, 8, 7, .live, 0x0, 1, 4, false⟩
def CLOCKS.KOSC_DEV.DEV : Fld := ⟨45, .clocks, 0x044, 0, 16, .ro, 0x0, 1, 4, false⟩
def CLOCKS.HANGS.CMUX : Fld := ⟨46, .clocks, 0x048, 16, 16, .ro, 0x0, 1, 4, false⟩
def CLOCKS.HANGS.TMUX : Fld := ⟨47, .clocks, 0x048, 0, 16, .ro, 0x0, 1, 4, false⟩
def CLOCKS.REFJUDGE.TRIPS : Fld := ⟨48, .clocks, 0x04C, 16, 16, .ro, 0x0, 1, 4, false⟩
def CLOCKS.REFJUDGE.COUNT : Fld := ⟨49, .clocks, 0x04C, 0, 16, .live, 0x0, 1, 4, false⟩
def CLOCKS.FM_CTRL.REQUEST : Fld := ⟨50, .clocks, 0x060, 31, 1, .w1p, 0x0, 1, 4, false⟩
def CLOCKS.FM_CTRL.GATE : Fld := ⟨51, .clocks, 0x060, 16, 5, .rw, 0x14, 1, 4, false⟩
def CLOCKS.FM_CTRL.REF : Fld := ⟨52, .clocks, 0x060, 8, 4, .rw, 0x2, 1, 4, false⟩
def CLOCKS.FM_CTRL.MEAS : Fld := ⟨53, .clocks, 0x060, 0, 4, .rw, 0x0, 1, 4, false⟩
def CLOCKS.FM_STAT.REASON : Fld := ⟨54, .clocks, 0x064, 28, 4, .ro, 0x0, 1, 4, false⟩
def CLOCKS.FM_COUNT_LO.COUNT : Fld := ⟨55, .clocks, 0x068, 0, 32, .ro, 0x0, 1, 4, false⟩
def CLOCKS.FM_COUNT_HI.COUNT : Fld := ⟨56, .clocks, 0x06C, 0, 32, .ro, 0x0, 1, 4, false⟩
def CLOCKS.FM_FREQ.HZ : Fld := ⟨57, .clocks, 0x070, 0, 32, .ro, 0x0, 1, 4, false⟩

/-! PERF (R296) -/

def PERF.CTRL.AVS_RETRY : Fld := ⟨58, .perf, 0x040, 31, 1, .w1p, 0x0, 1, 4, false⟩
def PERF.CTRL.TARGET : Fld := ⟨59, .perf, 0x040, 0, 2, .rw, 0x0, 1, 4, false⟩
def PERF.STAT.LEVEL : Fld := ⟨60, .perf, 0x044, 30, 2, .live, 0x3, 1, 4, false⟩
def PERF.STAT.GOING : Fld := ⟨61, .perf, 0x044, 28, 2, .live, 0x0, 1, 4, false⟩
def PERF.STAT.PENDING : Fld := ⟨62, .perf, 0x044, 27, 1, .live, 0x0, 1, 4, false⟩
def PERF.STAT.EMERGENCY : Fld := ⟨63, .perf, 0x044, 26, 1, .ro, 0x0, 1, 4, false⟩
def PERF.STAT.AVS_FAIL : Fld := ⟨64, .perf, 0x044, 25, 1, .live, 0x0, 1, 4, false⟩
def PERF.AVS.RAIL : Fld := ⟨65, .perf, 0x048, 28, 4, .rw, 0x0, 1, 4, false⟩
def PERF.AVS.CLKDIV : Fld := ⟨66, .perf, 0x048, 16, 8, .rw, 0xa, 1, 4, false⟩
def PERF.AVS.SLEW : Fld := ⟨67, .perf, 0x048, 0, 4, .rw, 0x5, 1, 4, false⟩
def PERF.VX.MV : Fld := ⟨68, .perf, 0x04C, 16, 16, .ro, 0x0, 1, 4, false⟩
def PERF.VX.CURRENT : Fld := ⟨69, .perf, 0x04C, 0, 16, .ro, 0x0, 1, 4, false⟩
def PERF.ILIMIT.LIMIT : Fld := ⟨70, .perf, 0x050, 0, 16, .rw, 0x4e20, 1, 4, false⟩
def PERF.AVS_ERR.COUNT : Fld := ⟨71, .perf, 0x054, 0, 32, .ro, 0x0, 1, 4, false⟩

/-! FAULT (R323) -/

def FAULT.CTRL.REBOOT : Fld := ⟨72, .fault, 0x040, 31, 1, .w1p, 0x0, 1, 4, false⟩
def FAULT.CTRL.INJ_REACT : Fld := ⟨73, .fault, 0x040, 8, 1, .rw, 0x0, 1, 4, false⟩
def FAULT.STAT.S3_ACTIVE : Fld := ⟨74, .fault, 0x044, 31, 1, .live, 0x0, 1, 4, false⟩
def FAULT.STAT.FAULT_N : Fld := ⟨75, .fault, 0x044, 30, 1, .live, 0x0, 1, 4, false⟩
def FAULT.STAT.GLOW_FROZEN : Fld := ⟨76, .fault, 0x044, 29, 1, .live, 0x0, 1, 4, false⟩
def FAULT.STAT.HANDLING : Fld := ⟨77, .fault, 0x044, 28, 1, .live, 0x0, 1, 4, false⟩
def FAULT.CLEAR.FIRST : Fld := ⟨78, .fault, 0x048, 31, 1, .wo, 0x0, 1, 4, false⟩
def FAULT.CLEAR.LAST : Fld := ⟨79, .fault, 0x048, 30, 1, .wo, 0x0, 1, 4, false⟩
def FAULT.CLEAR.SEQ : Fld := ⟨80, .fault, 0x048, 0, 16, .wo, 0x0, 1, 4, false⟩
def FAULT.WDOG.PERIOD : Fld := ⟨81, .fault, 0x04C, 0, 16, .rw, 0xfa, 1, 4, false⟩
def FAULT.COUNT_S.COUNT : Fld := ⟨82, .fault, 0x050, 0, 32, .ro, 0x0, 4, 4, true⟩
def FAULT.INJECT.GO : Fld := ⟨83, .fault, 0x060, 31, 1, .w1p, 0x0, 1, 4, false⟩
def FAULT.INJECT.RAIL : Fld := ⟨84, .fault, 0x060, 30, 1, .rw, 0x0, 1, 4, false⟩
def FAULT.INJECT.CLASS : Fld := ⟨85, .fault, 0x060, 28, 2, .rw, 0x0, 1, 4, false⟩
def FAULT.INJECT.CODE : Fld := ⟨86, .fault, 0x060, 16, 8, .rw, 0x0, 1, 4, false⟩
def FAULT.INJECT.SOURCE : Fld := ⟨87, .fault, 0x060, 0, 8, .rw, 0x0, 1, 4, false⟩
def FAULT.FENCE_LO.MAP : Fld := ⟨88, .fault, 0x064, 0, 32, .w1c, 0x0, 1, 4, false⟩
def FAULT.FENCE_HI.MAP : Fld := ⟨89, .fault, 0x068, 0, 32, .w1c, 0x0, 1, 4, false⟩
def FAULT.FENCED.COUNT : Fld := ⟨90, .fault, 0x06C, 0, 32, .ro, 0x0, 1, 4, true⟩

/-! FAULT (R314) -/

def FAULT.REC_HDR.VALID : Fld := ⟨91, .fault, 0x080, 31, 1, .ro, 0x0, 2, 64, true⟩
def FAULT.REC_HDR.INJECTED : Fld := ⟨92, .fault, 0x080, 30, 1, .ro, 0x0, 2, 64, true⟩
def FAULT.REC_HDR.REAL : Fld := ⟨93, .fault, 0x080, 29, 1, .ro, 0x0, 2, 64, true⟩
def FAULT.REC_HDR.CLASS : Fld := ⟨94, .fault, 0x080, 24, 4, .ro, 0x0, 2, 64, true⟩
def FAULT.REC_HDR.CODE : Fld := ⟨95, .fault, 0x080, 16, 8, .ro, 0x0, 2, 64, true⟩
def FAULT.REC_HDR.SEQ : Fld := ⟨96, .fault, 0x080, 0, 16, .ro, 0x0, 2, 64, true⟩
def FAULT.REC_SRC.MERGE : Fld := ⟨97, .fault, 0x084, 24, 8, .ro, 0x0, 2, 64, true⟩
def FAULT.REC_SRC.MASTER : Fld := ⟨98, .fault, 0x084, 16, 8, .ro, 0x0, 2, 64, true⟩
def FAULT.REC_SRC.ACCESS : Fld := ⟨99, .fault, 0x084, 8, 4, .ro, 0x0, 2, 64, true⟩
def FAULT.REC_SRC.SOURCE : Fld := ⟨100, .fault, 0x084, 0, 8, .ro, 0x0, 2, 64, true⟩
def FAULT.REC_ADDR.ADDR : Fld := ⟨101, .fault, 0x088, 0, 32, .ro, 0x0, 2, 64, true⟩
def FAULT.REC_PM0.NS : Fld := ⟨102, .fault, 0x08C, 0, 32, .ro, 0x0, 2, 64, true⟩
def FAULT.REC_PM1.SEC : Fld := ⟨103, .fault, 0x090, 0, 32, .ro, 0x0, 2, 64, true⟩
def FAULT.REC_PM2.SECH : Fld := ⟨104, .fault, 0x094, 16, 16, .ro, 0x0, 2, 64, true⟩
def FAULT.REC_PM2.FRAC : Fld := ⟨105, .fault, 0x094, 0, 8, .ro, 0x0, 2, 64, true⟩
def FAULT.COMPANION_F.MAP : Fld := ⟨106, .fault, 0x0A0, 0, 32, .ro, 0x0, 8, 4, true⟩
def FAULT.COMPANION_L.MAP : Fld := ⟨107, .fault, 0x0E0, 0, 32, .ro, 0x0, 8, 4, true⟩

/-! EVENTS (R328) -/

def EVENTS.CTRL.IB_REFRESH : Fld := ⟨108, .events, 0x040, 24, 8, .rw, 0xa, 1, 4, false⟩
def EVENTS.CTRL.IB_HOLD : Fld := ⟨109, .events, 0x040, 10, 10, .rw, 0x10, 1, 4, false⟩
def EVENTS.CTRL.PIN_HOLD : Fld := ⟨110, .events, 0x040, 0, 10, .rw, 0x0, 1, 4, false⟩
def EVENTS.SUMMARY.B : Fld := ⟨111, .events, 0x044, 16, 16, .live, 0x0, 1, 4, false⟩
def EVENTS.SUMMARY.A : Fld := ⟨112, .events, 0x044, 0, 16, .live, 0x0, 1, 4, false⟩
def EVENTS.FIRST_A.VALID : Fld := ⟨113, .events, 0x048, 31, 1, .live, 0x0, 1, 4, false⟩
def EVENTS.FIRST_A.SOURCE : Fld := ⟨114, .events, 0x048, 0, 9, .live, 0x0, 1, 4, false⟩
def EVENTS.FIRST_B.VALID : Fld := ⟨115, .events, 0x04C, 31, 1, .live, 0x0, 1, 4, false⟩
def EVENTS.FIRST_B.SOURCE : Fld := ⟨116, .events, 0x04C, 0, 9, .live, 0x0, 1, 4, false⟩
def EVENTS.PINS.INTB : Fld := ⟨117, .events, 0x050, 1, 1, .live, 0x0, 1, 4, false⟩
def EVENTS.PINS.INTA : Fld := ⟨118, .events, 0x050, 0, 1, .live, 0x0, 1, 4, false⟩
def EVENTS.IB_SENT.COUNT : Fld := ⟨119, .events, 0x054, 0, 32, .ro, 0x0, 1, 4, false⟩
def EVENTS.RAW.LEVEL : Fld := ⟨120, .events, 0x100, 0, 32, .live, 0x0, 16, 4, false⟩
def EVENTS.ROUTE_A.EN : Fld := ⟨121, .events, 0x140, 0, 32, .rw, 0x0, 16, 4, false⟩
def EVENTS.ROUTE_B.EN : Fld := ⟨122, .events, 0x180, 0, 32, .rw, 0x0, 16, 4, false⟩
def EVENTS.ROUTE_IB.EN : Fld := ⟨123, .events, 0x1C0, 0, 32, .rw, 0x0, 16, 4, false⟩

/-! CALMGR (R237) -/

def CALMGR.CTRL.REQ_ALL : Fld := ⟨124, .calmgr, 0x040, 31, 1, .w1p, 0x0, 1, 4, false⟩
def CALMGR.CTRL.PARTNER_TH : Fld := ⟨125, .calmgr, 0x040, 16, 8, .rw, 0xd3, 1, 4, false⟩
def CALMGR.CTRL.TEMP_EN : Fld := ⟨126, .calmgr, 0x040, 8, 1, .rw, 0x1, 1, 4, false⟩
def CALMGR.CTRL.DELTA_T : Fld := ⟨127, .calmgr, 0x040, 0, 6, .rw, 0x8, 1, 4, false⟩
def CALMGR.STAT.POWERUP_DONE : Fld := ⟨128, .calmgr, 0x044, 31, 1, .live, 0x0, 1, 4, false⟩
def CALMGR.STAT.TXCLR : Fld := ⟨129, .calmgr, 0x044, 30, 1, .live, 0x0, 1, 4, false⟩
def CALMGR.STAT.REFIN_OK : Fld := ⟨130, .calmgr, 0x044, 29, 1, .live, 0x0, 1, 4, false⟩
def CALMGR.REFIN.LEVEL : Fld := ⟨131, .calmgr, 0x048, 0, 16, .ro, 0x0, 1, 4, false⟩
def CALMGR.SLOT.KIND : Fld := ⟨132, .calmgr, 0x050, 30, 2, .live, 0x0, 4, 4, false⟩
def CALMGR.SLOT.LINE : Fld := ⟨133, .calmgr, 0x050, 0, 7, .live, 0x0, 4, 4, false⟩

/-! THERMAL (R295) -/

def THERMAL.TJ.SOURCE : Fld := ⟨134, .thermal, 0x040, 28, 4, .live, 0x0, 1, 4, false⟩
def THERMAL.TJ.TEMP : Fld := ⟨135, .thermal, 0x040, 0, 16, .live, 0x0, 1, 4, false⟩
def THERMAL.PEAK.CLEAR : Fld := ⟨136, .thermal, 0x044, 31, 1, .w1p, 0x0, 1, 4, false⟩
def THERMAL.PEAK.TEMP : Fld := ⟨137, .thermal, 0x044, 0, 16, .ro, 0x0, 1, 4, false⟩
def THERMAL.DAMPER.CAP : Fld := ⟨138, .thermal, 0x048, 30, 2, .live, 0x0, 1, 4, false⟩
def THERMAL.DAMPER.EMERGENCIES : Fld := ⟨139, .thermal, 0x048, 8, 8, .ro, 0x0, 1, 4, false⟩
def THERMAL.DAMPER.STEPS : Fld := ⟨140, .thermal, 0x048, 0, 8, .ro, 0x0, 1, 4, false⟩

/-! TIMEBASE (R287) -/

def TIMEBASE.CTRL.SET : Fld := ⟨141, .timebase, 0x040, 31, 1, .w1p, 0x0, 1, 4, false⟩
def TIMEBASE.CTRL.ADD : Fld := ⟨142, .timebase, 0x040, 30, 1, .w1p, 0x0, 1, 4, false⟩
def TIMEBASE.CTRL.SET_AT_PPS : Fld := ⟨143, .timebase, 0x040, 29, 1, .rw, 0x0, 1, 4, false⟩
def TIMEBASE.CTRL.PPS_WIDTH : Fld := ⟨144, .timebase, 0x040, 16, 8, .rw, 0x64, 1, 4, false⟩
def TIMEBASE.CTRL.PPS_OUT_EN : Fld := ⟨145, .timebase, 0x040, 0, 1, .rw, 0x1, 1, 4, false⟩
def TIMEBASE.RATE.RATE : Fld := ⟨146, .timebase, 0x044, 0, 32, .rw, 0x0, 1, 4, false⟩
def TIMEBASE.OFFSET.NS : Fld := ⟨147, .timebase, 0x048, 0, 32, .rw, 0x0, 1, 4, false⟩
def TIMEBASE.SET_NS.NS : Fld := ⟨148, .timebase, 0x04C, 0, 32, .rw, 0x0, 1, 4, false⟩
def TIMEBASE.SET_SEC_LO.SEC : Fld := ⟨149, .timebase, 0x050, 0, 32, .rw, 0x0, 1, 4, false⟩
def TIMEBASE.SET_SEC_HI.SEC : Fld := ⟨150, .timebase, 0x054, 0, 16, .rw, 0x0, 1, 4, false⟩
def TIMEBASE.NOW0.NS : Fld := ⟨151, .timebase, 0x060, 0, 32, .live, 0x0, 1, 4, false⟩
def TIMEBASE.NOW1.SEC : Fld := ⟨152, .timebase, 0x064, 0, 32, .live, 0x0, 1, 4, false⟩
def TIMEBASE.NOW2.SECH : Fld := ⟨153, .timebase, 0x068, 16, 16, .live, 0x0, 1, 4, false⟩
def TIMEBASE.NOW2.FRAC : Fld := ⟨154, .timebase, 0x068, 0, 8, .live, 0x0, 1, 4, false⟩
def TIMEBASE.PPSIN0.NS : Fld := ⟨155, .timebase, 0x070, 0, 32, .ro, 0x0, 1, 4, false⟩
def TIMEBASE.PPSIN1.SEC : Fld := ⟨156, .timebase, 0x074, 0, 32, .ro, 0x0, 1, 4, false⟩
def TIMEBASE.PPSIN2.SECH : Fld := ⟨157, .timebase, 0x078, 16, 16, .ro, 0x0, 1, 4, false⟩
def TIMEBASE.PPSIN2.FRAC : Fld := ⟨158, .timebase, 0x078, 0, 8, .ro, 0x0, 1, 4, false⟩
def TIMEBASE.STAT.VALID : Fld := ⟨159, .timebase, 0x07C, 31, 1, .live, 0x0, 1, 4, false⟩
def TIMEBASE.STAT.SUSPECT : Fld := ⟨160, .timebase, 0x07C, 30, 1, .live, 0x0, 1, 4, false⟩

/-! PORTMAP (R47) -/

def PORTMAP.QUADS.QUAD7 : Fld := ⟨161, .portmap, 0x040, 28, 4, .rws, 0x0, 4, 4, false⟩
def PORTMAP.QUADS.QUAD6 : Fld := ⟨162, .portmap, 0x040, 24, 4, .rws, 0x0, 4, 4, false⟩
def PORTMAP.QUADS.QUAD5 : Fld := ⟨163, .portmap, 0x040, 20, 4, .rws, 0x0, 4, 4, false⟩
def PORTMAP.QUADS.QUAD4 : Fld := ⟨164, .portmap, 0x040, 16, 4, .rws, 0x0, 4, 4, false⟩
def PORTMAP.QUADS.QUAD3 : Fld := ⟨165, .portmap, 0x040, 12, 4, .rws, 0x0, 4, 4, false⟩
def PORTMAP.QUADS.QUAD2 : Fld := ⟨166, .portmap, 0x040, 8, 4, .rws, 0x0, 4, 4, false⟩
def PORTMAP.QUADS.QUAD1 : Fld := ⟨167, .portmap, 0x040, 4, 4, .rws, 0x0, 4, 4, false⟩
def PORTMAP.QUADS.QUAD0 : Fld := ⟨168, .portmap, 0x040, 0, 4, .rws, 0x0, 4, 4, false⟩

/-! SORTING (R255) -/

def SORTING.QUADLANE.LANE7 : Fld := ⟨169, .sorting, 0x040, 21, 3, .rws, 0x7, 4, 4, false⟩
def SORTING.QUADLANE.LANE6 : Fld := ⟨170, .sorting, 0x040, 18, 3, .rws, 0x6, 4, 4, false⟩
def SORTING.QUADLANE.LANE5 : Fld := ⟨171, .sorting, 0x040, 15, 3, .rws, 0x5, 4, 4, false⟩
def SORTING.QUADLANE.LANE4 : Fld := ⟨172, .sorting, 0x040, 12, 3, .rws, 0x4, 4, 4, false⟩
def SORTING.QUADLANE.LANE3 : Fld := ⟨173, .sorting, 0x040, 9, 3, .rws, 0x3, 4, 4, false⟩
def SORTING.QUADLANE.LANE2 : Fld := ⟨174, .sorting, 0x040, 6, 3, .rws, 0x2, 4, 4, false⟩
def SORTING.QUADLANE.LANE1 : Fld := ⟨175, .sorting, 0x040, 3, 3, .rws, 0x1, 4, 4, false⟩
def SORTING.QUADLANE.LANE0 : Fld := ⟨176, .sorting, 0x040, 0, 3, .rws, 0x0, 4, 4, false⟩
def SORTING.PAUSE_SA_LO.SA : Fld := ⟨177, .sorting, 0x060, 0, 32, .rw, 0x0, 1, 4, false⟩
def SORTING.PAUSE_SA_HI.SA : Fld := ⟨178, .sorting, 0x064, 0, 16, .rw, 0x0, 1, 4, false⟩

/-! SORTING (R252) -/

def SORTING.EQ.CTLE : Fld := ⟨179, .sorting, 0x100, 24, 4, .rw, 0x6, 16, 4, true⟩
def SORTING.EQ.SWING : Fld := ⟨180, .sorting, 0x100, 21, 3, .rw, 0x4, 16, 4, true⟩
def SORTING.EQ.PRE : Fld := ⟨181, .sorting, 0x100, 16, 4, .rw, 0x2, 16, 4, true⟩
def SORTING.EQ.MAIN : Fld := ⟨182, .sorting, 0x100, 8, 6, .rw, 0x22, 16, 4, true⟩
def SORTING.EQ.POST : Fld := ⟨183, .sorting, 0x100, 0, 4, .rw, 0x4, 16, 4, true⟩

/-! LETTERBOX (R49) -/

def LETTERBOX.CMD.OPCODE : Fld := ⟨184, .letterbox, 0x040, 24, 8, .rw, 0x0, 1, 4, false⟩
def LETTERBOX.CMD.TAG : Fld := ⟨185, .letterbox, 0x040, 16, 8, .rw, 0x0, 1, 4, false⟩
def LETTERBOX.CMD.LENGTH : Fld := ⟨186, .letterbox, 0x040, 0, 9, .rw, 0x0, 1, 4, false⟩
def LETTERBOX.DOORBELL.RING : Fld := ⟨187, .letterbox, 0x044, 0, 1, .w1p, 0x0, 1, 4, false⟩
def LETTERBOX.LB_STAT.LAST_TAG : Fld := ⟨188, .letterbox, 0x048, 24, 8, .ro, 0x0, 1, 4, false⟩
def LETTERBOX.LB_STAT.STATUS : Fld := ⟨189, .letterbox, 0x048, 16, 8, .ro, 0x0, 1, 4, false⟩
def LETTERBOX.LB_STAT.RESP_LEN : Fld := ⟨190, .letterbox, 0x048, 7, 9, .ro, 0x0, 1, 4, false⟩
def LETTERBOX.LB_STAT.SLOT_HELD : Fld := ⟨191, .letterbox, 0x048, 1, 1, .live, 0x0, 1, 4, false⟩
def LETTERBOX.LB_STAT.BUSY : Fld := ⟨192, .letterbox, 0x048, 0, 1, .live, 0x0, 1, 4, false⟩
def LETTERBOX.ARG.W : Fld := ⟨193, .letterbox, 0x400, 0, 32, .rw, 0x0, 256, 4, false⟩
def LETTERBOX.RESP.W : Fld := ⟨194, .letterbox, 0x800, 0, 32, .ro, 0x0, 256, 4, false⟩

/-! BOOT (R338) -/

def BOOT.CTRL.CONFIRM : Fld := ⟨195, .boot, 0x040, 31, 1, .w1p, 0x0, 1, 4, false⟩
def BOOT.CTRL.SVN_COMMIT : Fld := ⟨196, .boot, 0x040, 30, 1, .w1p, 0x0, 1, 4, false⟩
def BOOT.CTRL.PREFER : Fld := ⟨197, .boot, 0x040, 0, 1, .rw, 0x0, 1, 4, false⟩
def BOOT.STAT.STATE : Fld := ⟨198, .boot, 0x044, 29, 3, .live, 0x0, 1, 4, false⟩
def BOOT.STAT.SLOT : Fld := ⟨199, .boot, 0x044, 28, 1, .live, 0x0, 1, 4, false⟩
def BOOT.STAT.FALLBACK : Fld := ⟨200, .boot, 0x044, 27, 1, .live, 0x0, 1, 4, false⟩
def BOOT.STAT.UPLOAD : Fld := ⟨201, .boot, 0x044, 26, 1, .live, 0x0, 1, 4, false⟩
def BOOT.SLOT_AB.VALID : Fld := ⟨202, .boot, 0x048, 31, 1, .live, 0x0, 2, 4, false⟩
def BOOT.SLOT_AB.EMPTY : Fld := ⟨203, .boot, 0x048, 30, 1, .live, 0x0, 2, 4, false⟩
def BOOT.SLOT_AB.SVN : Fld := ⟨204, .boot, 0x048, 24, 6, .live, 0x0, 2, 4, false⟩
def BOOT.SLOT_AB.VERSION : Fld := ⟨205, .boot, 0x048, 0, 24, .live, 0x0, 2, 4, false⟩
def BOOT.DIGEST_A.W : Fld := ⟨206, .boot, 0x050, 0, 32, .live, 0x0, 8, 4, false⟩
def BOOT.DIGEST_B.W : Fld := ⟨207, .boot, 0x070, 0, 32, .live, 0x0, 8, 4, false⟩
def BOOT.BOOTCOUNT.COUNT : Fld := ⟨208, .boot, 0x090, 0, 32, .live, 0x0, 1, 4, false⟩

/-! TRUST (R362) -/

def TRUST.LIFECYCLE.ADVANCE : Fld := ⟨209, .trust, 0x040, 31, 1, .w1p, 0x0, 1, 4, false⟩
def TRUST.LIFECYCLE.TO : Fld := ⟨210, .trust, 0x040, 8, 2, .rw, 0x0, 1, 4, false⟩
def TRUST.LIFECYCLE.STATE : Fld := ⟨211, .trust, 0x040, 0, 2, .live, 0x0, 1, 4, false⟩
def TRUST.SVN.RUNNING : Fld := ⟨212, .trust, 0x044, 8, 6, .live, 0x0, 1, 4, false⟩
def TRUST.SVN.OTP : Fld := ⟨213, .trust, 0x044, 0, 6, .live, 0x0, 1, 4, false⟩
def TRUST.SLOT.VALID : Fld := ⟨214, .trust, 0x048, 31, 1, .live, 0x0, 8, 4, false⟩
def TRUST.SLOT.REVOKED : Fld := ⟨215, .trust, 0x048, 30, 1, .live, 0x0, 8, 4, false⟩
def TRUST.SLOT.MAXROLE : Fld := ⟨216, .trust, 0x048, 28, 2, .live, 0x0, 8, 4, false⟩
def TRUST.SLOT.USAGE : Fld := ⟨217, .trust, 0x048, 24, 4, .live, 0x0, 8, 4, false⟩
def TRUST.SLOT.KCV : Fld := ⟨218, .trust, 0x048, 0, 16, .live, 0x0, 8, 4, false⟩
def TRUST.KEYPROG.PROGRAM : Fld := ⟨219, .trust, 0x070, 31, 1, .w1p, 0x0, 1, 4, false⟩
def TRUST.KEYPROG.REVOKE : Fld := ⟨220, .trust, 0x070, 30, 1, .w1p, 0x0, 1, 4, false⟩
def TRUST.KEYPROG.SLOT : Fld := ⟨221, .trust, 0x070, 8, 3, .rw, 0x0, 1, 4, false⟩
def TRUST.KEYPROG.MAXROLE : Fld := ⟨222, .trust, 0x070, 4, 2, .rw, 0x0, 1, 4, false⟩
def TRUST.KEYPROG.USAGE : Fld := ⟨223, .trust, 0x070, 0, 4, .rw, 0x0, 1, 4, false⟩
def TRUST.KEY.W : Fld := ⟨224, .trust, 0x074, 0, 32, .wo, 0x0, 8, 4, false⟩
def TRUST.COMPAT.PENDING : Fld := ⟨225, .trust, 0x0A0, 8, 8, .rw, 0xb0, 1, 4, true⟩
def TRUST.COMPAT.LEVEL : Fld := ⟨226, .trust, 0x0A0, 0, 8, .live, 0xb0, 1, 4, false⟩
def TRUST.ATTEST_IDX_LO.INDEX : Fld := ⟨227, .trust, 0x0A4, 0, 32, .live, 0x0, 1, 4, false⟩
def TRUST.ATTEST_IDX_HI.INDEX : Fld := ⟨228, .trust, 0x0A8, 0, 32, .live, 0x0, 1, 4, false⟩
def TRUST.ATTEST_PUB.W : Fld := ⟨229, .trust, 0x100, 0, 32, .live, 0x0, 16, 4, false⟩
def TRUST.ROOT_HASH.W : Fld := ⟨230, .trust, 0x140, 0, 32, .live, 0x0, 8, 4, false⟩

/-! DEVENV (R43) -/

def DEVENV.RUN_CTRL.CANCEL : Fld := ⟨231, .devenv, 0x040, 9, 1, .w1p, 0x0, 1, 4, false⟩
def DEVENV.RUN_CTRL.RUN : Fld := ⟨232, .devenv, 0x040, 8, 1, .w1p, 0x0, 1, 4, false⟩
def DEVENV.RUN_CTRL.MOMENT : Fld := ⟨233, .devenv, 0x040, 0, 2, .rw, 0x2, 1, 4, false⟩
def DEVENV.RUN_WHEN.WHEN : Fld := ⟨234, .devenv, 0x044, 0, 32, .rw, 0x0, 1, 4, false⟩
def DEVENV.RUN_STAT.MEMBERS : Fld := ⟨235, .devenv, 0x048, 16, 16, .ro, 0x0, 1, 4, false⟩
def DEVENV.RUN_STAT.RESULT : Fld := ⟨236, .devenv, 0x048, 12, 4, .ro, 0x0, 1, 4, false⟩
def DEVENV.RUN_STAT.STEPS : Fld := ⟨237, .devenv, 0x048, 4, 8, .ro, 0x0, 1, 4, false⟩
def DEVENV.RUN_STAT.SPLIT : Fld := ⟨238, .devenv, 0x048, 3, 1, .ro, 0x0, 1, 4, false⟩
def DEVENV.RUN_STAT.SEALWAIT : Fld := ⟨239, .devenv, 0x048, 2, 1, .live, 0x0, 1, 4, false⟩
def DEVENV.RUN_STAT.IN_FLIGHT : Fld := ⟨240, .devenv, 0x048, 1, 1, .live, 0x0, 1, 4, false⟩
def DEVENV.BUSLOCK.OWNER : Fld := ⟨241, .devenv, 0x060, 8, 8, .live, 0x0, 1, 4, false⟩
def DEVENV.BUSLOCK.RELEASE : Fld := ⟨242, .devenv, 0x060, 1, 1, .w1p, 0x0, 1, 4, false⟩
def DEVENV.BUSLOCK.TAKE : Fld := ⟨243, .devenv, 0x060, 0, 1, .w1p, 0x0, 1, 4, false⟩

/-! XENGINE (R113) -/

def XENGINE.CTRL.HOLD_LIMIT : Fld := ⟨244, .xengine, 0x040, 20, 4, .rw, 0x4, 1, 4, false⟩
def XENGINE.CTRL.PILOTSET : Fld := ⟨245, .xengine, 0x040, 16, 2, .rws, 0x0, 1, 4, false⟩
def XENGINE.CTRL.HOLD : Fld := ⟨246, .xengine, 0x040, 15, 1, .rw, 0x0, 1, 4, false⟩
def XENGINE.CTRL.PRD_MU : Fld := ⟨247, .xengine, 0x040, 10, 2, .rw, 0x0, 1, 4, false⟩
def XENGINE.CTRL.FXU_MU : Fld := ⟨248, .xengine, 0x040, 8, 2, .rw, 0x0, 1, 4, false⟩
def XENGINE.CTRL.NXT_M : Fld := ⟨249, .xengine, 0x040, 4, 4, .rw, 0xa, 1, 4, false⟩

/-! XENGINE (R116) -/

def XENGINE.STAT.GROUP : Fld := ⟨250, .xengine, 0x044, 21, 3, .live, 0x0, 1, 4, false⟩
def XENGINE.STAT.JOIN_BUSY : Fld := ⟨251, .xengine, 0x044, 20, 1, .live, 0x0, 1, 4, false⟩
def XENGINE.STAT.HOLD_ACTIVE : Fld := ⟨252, .xengine, 0x044, 19, 1, .live, 0x0, 1, 4, false⟩
def XENGINE.STAT.LEVEL_PENDING : Fld := ⟨253, .xengine, 0x044, 18, 1, .live, 0x0, 1, 4, false⟩
def XENGINE.STAT.LEVEL : Fld := ⟨254, .xengine, 0x044, 16, 2, .live, 0x3, 1, 4, false⟩
def XENGINE.STAT.ACTIVE_COUNT : Fld := ⟨255, .xengine, 0x044, 8, 8, .live, 0x0, 1, 4, false⟩
def XENGINE.STAT.NV : Fld := ⟨256, .xengine, 0x044, 0, 7, .live, 0x21, 1, 4, false⟩
def XENGINE.UE_LAST.MATRIX : Fld := ⟨257, .xengine, 0x048, 21, 2, .ro, 0x0, 1, 4, false⟩
def XENGINE.UE_LAST.INDEX : Fld := ⟨258, .xengine, 0x048, 0, 21, .ro, 0x0, 1, 4, false⟩
def XENGINE.UE_SFC.SFC : Fld := ⟨259, .xengine, 0x04C, 0, 32, .ro, 0x0, 1, 4, false⟩
def XENGINE.CE_COUNT.COUNT : Fld := ⟨260, .xengine, 0x050, 0, 32, .ro, 0x0, 1, 4, false⟩
def XENGINE.UE_COUNT.COUNT : Fld := ⟨261, .xengine, 0x054, 0, 32, .ro, 0x0, 1, 4, false⟩
def XENGINE.SKIP_COUNT.COUNT : Fld := ⟨262, .xengine, 0x058, 0, 32, .ro, 0x0, 1, 4, false⟩
def XENGINE.SAT_COUNT.COUNT : Fld := ⟨263, .xengine, 0x05C, 0, 32, .ro, 0x0, 1, 4, false⟩

/-! XENGINE (R93) -/

def XENGINE.ACTIVE.MASK : Fld := ⟨264, .xengine, 0x060, 0, 32, .live, 0x0, 4, 4, false⟩
def XENGINE.PACTIVE.MASK : Fld := ⟨265, .xengine, 0x070, 0, 32, .live, 0x0, 4, 4, false⟩

/-! XENGINE (R117) -/

def XENGINE.CENSUS_CTRL.REQUEST : Fld := ⟨266, .xengine, 0x080, 31, 1, .w1p, 0x0, 1, 4, false⟩
def XENGINE.CENSUS_CTRL.DIR : Fld := ⟨267, .xengine, 0x080, 8, 2, .rw, 0x0, 1, 4, false⟩
def XENGINE.CENSUS_CTRL.LINE : Fld := ⟨268, .xengine, 0x080, 0, 7, .rw, 0x0, 1, 4, false⟩
def XENGINE.CENSUS_STAT.REASON : Fld := ⟨269, .xengine, 0x084, 16, 4, .ro, 0x0, 1, 4, false⟩
def XENGINE.CENSUS_STAT.COUNT : Fld := ⟨270, .xengine, 0x084, 12, 4, .ro, 0x0, 1, 4, false⟩
def XENGINE.CENSUS_STAT.DIR : Fld := ⟨271, .xengine, 0x084, 8, 2, .ro, 0x0, 1, 4, false⟩
def XENGINE.CENSUS_STAT.LINE : Fld := ⟨272, .xengine, 0x084, 0, 7, .ro, 0x0, 1, 4, false⟩
def XENGINE.CENSUS.VALID : Fld := ⟨273, .xengine, 0x090, 31, 1, .ro, 0x0, 8, 4, false⟩
def XENGINE.CENSUS.NEIGHBOUR : Fld := ⟨274, .xengine, 0x090, 16, 7, .ro, 0x0, 8, 4, false⟩
def XENGINE.CENSUS.LEVEL : Fld := ⟨275, .xengine, 0x090, 0, 16, .ro, 0x0, 8, 4, false⟩

/-! XENGINE (R93) -/

def XENGINE.FROZEN.MASK : Fld := ⟨276, .xengine, 0x0C0, 0, 32, .live, 0x0, 4, 4, false⟩

/-! XENGINE (R92) -/

def XENGINE.NORM.NORM : Fld := ⟨277, .xengine, 0x200, 0, 16, .live, 0x8000, 128, 4, false⟩

/-! XWINDOW (R118) -/

def XWINDOW.SEL.MATRIX : Fld := ⟨278, .xwindow, 0x040, 24, 2, .rw, 0x0, 1, 4, false⟩
def XWINDOW.SEL.TONE : Fld := ⟨279, .xwindow, 0x040, 8, 7, .rw, 0x0, 1, 4, false⟩
def XWINDOW.SEL.VICTIM : Fld := ⟨280, .xwindow, 0x040, 0, 7, .rw, 0x0, 1, 4, false⟩
def XWINDOW.CMD.WHEN : Fld := ⟨281, .xwindow, 0x044, 8, 2, .rw, 0x0, 1, 4, false⟩
def XWINDOW.CMD.WRITE : Fld := ⟨282, .xwindow, 0x044, 1, 1, .w1p, 0x0, 1, 4, false⟩
def XWINDOW.CMD.READ : Fld := ⟨283, .xwindow, 0x044, 0, 1, .w1p, 0x0, 1, 4, false⟩
def XWINDOW.WHEN.SFC : Fld := ⟨284, .xwindow, 0x048, 0, 32, .rw, 0x0, 1, 4, false⟩
def XWINDOW.XW_STAT.STATUS : Fld := ⟨285, .xwindow, 0x050, 16, 4, .ro, 0x0, 1, 4, false⟩
def XWINDOW.XW_STAT.WAITING : Fld := ⟨286, .xwindow, 0x050, 8, 1, .live, 0x0, 1, 4, false⟩
def XWINDOW.XW_STAT.CE : Fld := ⟨287, .xwindow, 0x050, 0, 8, .ro, 0x0, 1, 4, false⟩
def XWINDOW.CAP_SFC.SFC : Fld := ⟨288, .xwindow, 0x054, 0, 32, .ro, 0x0, 1, 4, false⟩
def XWINDOW.CAP_SYM.SYMBOL : Fld := ⟨289, .xwindow, 0x058, 0, 6, .ro, 0x0, 1, 4, false⟩
def XWINDOW.ZEROED.MASK : Fld := ⟨290, .xwindow, 0x060, 0, 32, .ro, 0x0, 4, 4, false⟩
def XWINDOW.RDATA.I : Fld := ⟨291, .xwindow, 0x100, 16, 16, .ro, 0x0, 128, 4, false⟩
def XWINDOW.RDATA.Q : Fld := ⟨292, .xwindow, 0x100, 0, 16, .ro, 0x0, 128, 4, false⟩
def XWINDOW.WDATA.I : Fld := ⟨293, .xwindow, 0x300, 16, 16, .rw, 0x0, 128, 4, false⟩
def XWINDOW.WDATA.Q : Fld := ⟨294, .xwindow, 0x300, 0, 16, .rw, 0x0, 128, 4, false⟩

/-! SYNC (R269) -/

def SYNC.CTRL.IN_DELAY : Fld := ⟨295, .sync, 0x040, 16, 12, .rw, 0x40, 1, 4, false⟩
def SYNC.CTRL.OUT_LEAD : Fld := ⟨296, .sync, 0x040, 4, 8, .rw, 0x40, 1, 4, false⟩
def SYNC.CTRL.MODE : Fld := ⟨297, .sync, 0x040, 0, 2, .rw, 0x0, 1, 4, false⟩
def SYNC.STAT.LOCKED : Fld := ⟨298, .sync, 0x044, 31, 1, .live, 0x0, 1, 4, false⟩
def SYNC.STAT.MISMATCH : Fld := ⟨299, .sync, 0x044, 30, 1, .live, 0x0, 1, 4, false⟩
def SYNC.STAT.LOST : Fld := ⟨300, .sync, 0x044, 29, 1, .live, 0x0, 1, 4, false⟩
def SYNC.STAT.OFFSET : Fld := ⟨301, .sync, 0x044, 0, 16, .ro, 0x0, 1, 4, false⟩

/-! CLUSTER (R215) -/

def CLUSTER.CLRCODE.CODE : Fld := ⟨302, .cluster, 0x080, 0, 14, .rw, 0x2000, 1, 4, true⟩

/-! CTEMP (R295) -/

def CTEMP.TEMP.TEMP : Fld := ⟨303, .ctemp, 0x040, 0, 16, .live, 0x0, 1, 4, false⟩
def CTEMP.MINMAX.CLEAR : Fld := ⟨304, .ctemp, 0x044, 31, 1, .w1p, 0x0, 1, 4, false⟩
def CTEMP.MINMAX.MAX : Fld := ⟨305, .ctemp, 0x044, 16, 15, .ro, 0x0, 1, 4, false⟩
def CTEMP.MINMAX.MIN : Fld := ⟨306, .ctemp, 0x044, 0, 15, .ro, 0x0, 1, 4, false⟩

/-! LANE (R273) -/

def LANE.CTRL.RESTART : Fld := ⟨307, .lane, 0x040, 31, 1, .w1p, 0x0, 1, 4, false⟩
def LANE.CTRL.LOOP : Fld := ⟨308, .lane, 0x040, 8, 3, .rw, 0x0, 1, 4, false⟩
def LANE.CTRL.EQ : Fld := ⟨309, .lane, 0x040, 4, 4, .rw, 0x0, 1, 4, false⟩
def LANE.CTRL.RATE : Fld := ⟨310, .lane, 0x040, 0, 1, .rw, 0x0, 1, 4, false⟩
def LANE.STATUS.LAST_REASON : Fld := ⟨311, .lane, 0x044, 28, 4, .ro, 0x0, 1, 4, false⟩
def LANE.STATUS.DEPTH : Fld := ⟨312, .lane, 0x044, 16, 8, .live, 0x0, 1, 4, false⟩
def LANE.STATUS.CAPS : Fld := ⟨313, .lane, 0x044, 12, 4, .live, 0x0, 1, 4, false⟩
def LANE.STATUS.LEGACY : Fld := ⟨314, .lane, 0x044, 11, 1, .live, 0x0, 1, 4, false⟩
def LANE.STATUS.CDR_LOCK : Fld := ⟨315, .lane, 0x044, 10, 1, .live, 0x0, 1, 4, false⟩
def LANE.STATUS.LOL : Fld := ⟨316, .lane, 0x044, 9, 1, .live, 0x0, 1, 4, false⟩
def LANE.STATUS.LOS : Fld := ⟨317, .lane, 0x044, 8, 1, .live, 0x0, 1, 4, false⟩
def LANE.STATUS.STATE : Fld := ⟨318, .lane, 0x044, 0, 4, .live, 0x0, 1, 4, false⟩
def LANE.PPM.OFFSET : Fld := ⟨319, .lane, 0x048, 0, 16, .live, 0x0, 1, 4, false⟩
def LANE.PRBS_ERR.COUNT : Fld := ⟨320, .lane, 0x04C, 0, 32, .ro, 0x0, 1, 4, false⟩
def LANE.HDR_ERR.COUNT : Fld := ⟨321, .lane, 0x050, 0, 32, .ro, 0x0, 1, 4, false⟩
def LANE.LOS_COUNT.COUNT : Fld := ⟨322, .lane, 0x054, 0, 32, .ro, 0x0, 1, 4, false⟩
def LANE.LOL_COUNT.COUNT : Fld := ⟨323, .lane, 0x058, 0, 32, .ro, 0x0, 1, 4, false⟩
def LANE.CTL_DISCARD.COUNT : Fld := ⟨324, .lane, 0x05C, 0, 32, .ro, 0x0, 1, 4, false⟩

/-! PORT_CTL (R81) -/

def PORT_CTL.PROFILE.RTX_MAX : Fld := ⟨325, .port_ctl, 0x040, 8, 3, .rws, 0x4, 1, 4, false⟩
def PORT_CTL.PROFILE.EXPRESS : Fld := ⟨326, .port_ctl, 0x040, 0, 1, .rws, 0x0, 1, 4, false⟩

/-! PORT_CTL (R83) -/

def PORT_CTL.PLOAD.B : Fld := ⟨327, .port_ctl, 0x044, 16, 13, .live, 0x0, 1, 4, false⟩
def PORT_CTL.PLOAD.FILL : Fld := ⟨328, .port_ctl, 0x044, 4, 12, .live, 0x0, 1, 4, false⟩
def PORT_CTL.PLOAD.CW : Fld := ⟨329, .port_ctl, 0x044, 0, 4, .live, 0x0, 1, 4, false⟩
def PORT_CTL.BOUNDS.BULK : Fld := ⟨330, .port_ctl, 0x048, 16, 16, .live, 0x0, 1, 4, false⟩
def PORT_CTL.BOUNDS.EXPRESS : Fld := ⟨331, .port_ctl, 0x048, 0, 16, .live, 0x0, 1, 4, false⟩
def PORT_CTL.RTXTIME.RTT : Fld := ⟨332, .port_ctl, 0x04C, 16, 16, .live, 0x0, 1, 4, false⟩
def PORT_CTL.RTXTIME.DELTA : Fld := ⟨333, .port_ctl, 0x04C, 0, 16, .live, 0x0, 1, 4, false⟩

/-! PORT_CTL (R272) -/

def PORT_CTL.HOSTCFG.THRU : Fld := ⟨334, .port_ctl, 0x060, 31, 1, .rws, 0x0, 1, 4, false⟩
def PORT_CTL.HOSTCFG.PEER : Fld := ⟨335, .port_ctl, 0x060, 16, 7, .rws, 0x0, 1, 4, false⟩
def PORT_CTL.HOSTCFG.TS_EN : Fld := ⟨336, .port_ctl, 0x060, 12, 1, .rw, 0x0, 1, 4, false⟩
def PORT_CTL.HOSTCFG.PAUSE : Fld := ⟨337, .port_ctl, 0x060, 8, 2, .rw, 0x0, 1, 4, false⟩
def PORT_CTL.HOSTSTAT.HOST_UP : Fld := ⟨338, .port_ctl, 0x064, 31, 1, .live, 0x0, 1, 4, false⟩
def PORT_CTL.HOSTSTAT.PEER_UP : Fld := ⟨339, .port_ctl, 0x064, 30, 1, .live, 0x0, 1, 4, false⟩
def PORT_CTL.HOSTSTAT.STOPPED : Fld := ⟨340, .port_ctl, 0x064, 29, 1, .live, 0x1, 1, 4, false⟩
def PORT_CTL.HOSTSTAT.THRU_ACTIVE : Fld := ⟨341, .port_ctl, 0x064, 28, 1, .live, 0x0, 1, 4, false⟩
def PORT_CTL.HOSTSTAT.HOPS : Fld := ⟨342, .port_ctl, 0x064, 16, 8, .live, 0x0, 1, 4, false⟩
def PORT_CTL.HOSTSTAT.ONWARD : Fld := ⟨343, .port_ctl, 0x064, 0, 16, .live, 0xffff, 1, 4, false⟩
def PORT_CTL.ISSUE.DEPTH : Fld := ⟨344, .port_ctl, 0x068, 16, 8, .live, 0x0, 1, 4, false⟩
def PORT_CTL.ISSUE.RATE : Fld := ⟨345, .port_ctl, 0x068, 0, 16, .live, 0x0, 1, 4, false⟩
def PORT_CTL.CUM.CUM : Fld := ⟨346, .port_ctl, 0x06C, 0, 32, .ro, 0x0, 1, 4, false⟩
def PORT_CTL.RXBLK_LO.N : Fld := ⟨347, .port_ctl, 0x070, 0, 32, .ro, 0x0, 1, 4, false⟩
def PORT_CTL.RXBLK_HI.N : Fld := ⟨348, .port_ctl, 0x074, 0, 32, .ro, 0x0, 1, 4, false⟩
def PORT_CTL.STAMP_OVER.COUNT : Fld := ⟨349, .port_ctl, 0x078, 0, 32, .ro, 0x0, 1, 4, false⟩
def PORT_CTL.INGRESS_DROP.COUNT : Fld := ⟨350, .port_ctl, 0x07C, 0, 32, .ro, 0x0, 1, 4, false⟩
def PORT_CTL.EGRESS_DROP.COUNT : Fld := ⟨351, .port_ctl, 0x080, 0, 32, .ro, 0x0, 1, 4, false⟩
def PORT_CTL.THRU_DROP.COUNT : Fld := ⟨352, .port_ctl, 0x084, 0, 32, .ro, 0x0, 1, 4, false⟩
def PORT_CTL.PAUSE_TX.COUNT : Fld := ⟨353, .port_ctl, 0x088, 0, 32, .ro, 0x0, 1, 4, false⟩

/-! PORT_SEC (R355) -/

def PORT_SEC.SECY_CTRL.ENABLE : Fld := ⟨354, .port_sec, 0x040, 31, 1, .rw, 0x0, 1, 4, false⟩
def PORT_SEC.SECY_CTRL.PROTECT : Fld := ⟨355, .port_sec, 0x040, 30, 1, .rw, 0x1, 1, 4, false⟩
def PORT_SEC.SECY_CTRL.REPLAY : Fld := ⟨356, .port_sec, 0x040, 29, 1, .rw, 0x1, 1, 4, false⟩
def PORT_SEC.SECY_CTRL.INCLUDE_SCI : Fld := ⟨357, .port_sec, 0x040, 28, 1, .rw, 0x0, 1, 4, false⟩
def PORT_SEC.SECY_CTRL.VALIDATE : Fld := ⟨358, .port_sec, 0x040, 26, 2, .rw, 0x0, 1, 4, false⟩
def PORT_SEC.SECY_CTRL.CIPHER : Fld := ⟨359, .port_sec, 0x040, 24, 2, .rw, 0x0, 1, 4, false⟩
def PORT_SEC.SECY_CTRL.OFFSET : Fld := ⟨360, .port_sec, 0x040, 22, 2, .rw, 0x0, 1, 4, false⟩
def PORT_SEC.SECY_CTRL.TX_ACTIVE : Fld := ⟨361, .port_sec, 0x040, 21, 1, .rw, 0x0, 1, 4, false⟩
def PORT_SEC.REPLAY_WIN.WINDOW : Fld := ⟨362, .port_sec, 0x044, 0, 32, .rw, 0x0, 1, 4, false⟩
def PORT_SEC.SCI_TX_LO.SCI : Fld := ⟨363, .port_sec, 0x048, 0, 32, .rw, 0x0, 1, 4, false⟩
def PORT_SEC.SCI_TX_HI.SCI : Fld := ⟨364, .port_sec, 0x04C, 0, 32, .rw, 0x0, 1, 4, false⟩
def PORT_SEC.SCI_RX_LO.SCI : Fld := ⟨365, .port_sec, 0x050, 0, 32, .rw, 0x0, 1, 4, false⟩
def PORT_SEC.SCI_RX_HI.SCI : Fld := ⟨366, .port_sec, 0x054, 0, 32, .rw, 0x0, 1, 4, false⟩
def PORT_SEC.SA_CTRL.INSTALL : Fld := ⟨367, .port_sec, 0x080, 31, 1, .w1p, 0x0, 6, 64, false⟩
def PORT_SEC.SA_CTRL.ENABLE : Fld := ⟨368, .port_sec, 0x080, 30, 1, .rw, 0x0, 6, 64, false⟩
def PORT_SEC.SA_CTRL.EXHAUSTED : Fld := ⟨369, .port_sec, 0x080, 29, 1, .ro, 0x0, 6, 64, false⟩
def PORT_SEC.SA_CTRL.AN : Fld := ⟨370, .port_sec, 0x080, 0, 2, .rw, 0x0, 6, 64, false⟩
def PORT_SEC.SA_PN_LO.PN : Fld := ⟨371, .port_sec, 0x084, 0, 32, .rw, 0x0, 6, 64, false⟩
def PORT_SEC.SA_PN_HI.PN : Fld := ⟨372, .port_sec, 0x088, 0, 32, .rw, 0x0, 6, 64, false⟩
def PORT_SEC.SA_SSCI.SSCI : Fld := ⟨373, .port_sec, 0x08C, 0, 32, .rw, 0x0, 6, 64, false⟩
def PORT_SEC.SA_KEY0.W : Fld := ⟨374, .port_sec, 0x090, 0, 32, .wo, 0x0, 6, 64, false⟩
def PORT_SEC.SA_KEY1.W : Fld := ⟨375, .port_sec, 0x094, 0, 32, .wo, 0x0, 6, 64, false⟩
def PORT_SEC.SA_KEY2.W : Fld := ⟨376, .port_sec, 0x098, 0, 32, .wo, 0x0, 6, 64, false⟩
def PORT_SEC.SA_KEY3.W : Fld := ⟨377, .port_sec, 0x09C, 0, 32, .wo, 0x0, 6, 64, false⟩
def PORT_SEC.SA_KEY4.W : Fld := ⟨378, .port_sec, 0x0A0, 0, 32, .wo, 0x0, 6, 64, false⟩
def PORT_SEC.SA_KEY5.W : Fld := ⟨379, .port_sec, 0x0A4, 0, 32, .wo, 0x0, 6, 64, false⟩
def PORT_SEC.SA_KEY6.W : Fld := ⟨380, .port_sec, 0x0A8, 0, 32, .wo, 0x0, 6, 64, false⟩
def PORT_SEC.SA_KEY7.W : Fld := ⟨381, .port_sec, 0x0AC, 0, 32, .wo, 0x0, 6, 64, false⟩
def PORT_SEC.SA_SALT0.W : Fld := ⟨382, .port_sec, 0x0B0, 0, 32, .wo, 0x0, 6, 64, false⟩
def PORT_SEC.SA_SALT1.W : Fld := ⟨383, .port_sec, 0x0B4, 0, 32, .wo, 0x0, 6, 64, false⟩
def PORT_SEC.SA_SALT2.W : Fld := ⟨384, .port_sec, 0x0B8, 0, 32, .wo, 0x0, 6, 64, false⟩
def PORT_SEC.PAIR_CTRL.REQUIRED : Fld := ⟨385, .port_sec, 0x200, 31, 1, .rw, 0x0, 1, 4, false⟩
def PORT_SEC.PAIR_CTRL.SRC : Fld := ⟨386, .port_sec, 0x200, 30, 1, .rw, 0x0, 1, 4, false⟩
def PORT_SEC.PAIR_CTRL.SLOT : Fld := ⟨387, .port_sec, 0x200, 24, 3, .rw, 0x0, 1, 4, false⟩
def PORT_SEC.PAIR_CTRL.NOKEY : Fld := ⟨388, .port_sec, 0x200, 23, 1, .live, 0x0, 1, 4, false⟩
def PORT_SEC.PAIR_CTRL.FAILS : Fld := ⟨389, .port_sec, 0x200, 0, 16, .ro, 0x0, 1, 4, false⟩
def PORT_SEC.PAIR_KEY.W : Fld := ⟨390, .port_sec, 0x204, 0, 32, .wo, 0x0, 8, 4, false⟩
def PORT_SEC.PAIR_SET.SET : Fld := ⟨391, .port_sec, 0x224, 0, 1, .w1p, 0x0, 1, 4, false⟩
def PORT_SEC.CNT.COUNT : Fld := ⟨392, .port_sec, 0x300, 0, 32, .ro, 0x0, 11, 4, false⟩

/-! LCTL (R121) -/

def LCTL.MODE.BUNDLE : Fld := ⟨393, .lctl, 0x040, 16, 4, .rws, 0x0, 1, 4, false⟩
def LCTL.MODE.SEL : Fld := ⟨394, .lctl, 0x040, 0, 3, .rws, 0x0, 1, 4, false⟩

/-! LTRAIN (R153) -/

def LTRAIN.STATUS.LAST_REASON : Fld := ⟨395, .ltrain, 0x040, 16, 8, .ro, 0x0, 1, 4, false⟩
def LTRAIN.STATUS.LAST_FROM : Fld := ⟨396, .ltrain, 0x040, 12, 4, .ro, 0x0, 1, 4, false⟩
def LTRAIN.STATUS.SUBSTATE : Fld := ⟨397, .ltrain, 0x040, 4, 4, .live, 0x0, 1, 4, false⟩
def LTRAIN.STATUS.STATE : Fld := ⟨398, .ltrain, 0x040, 0, 4, .live, 0x0, 1, 4, false⟩
def LTRAIN.CTRL.AUTOBANK : Fld := ⟨399, .ltrain, 0x044, 16, 8, .rw, 0x0, 1, 4, false⟩
def LTRAIN.CTRL.AUTOWAKE : Fld := ⟨400, .ltrain, 0x044, 4, 1, .rw, 0x1, 1, 4, false⟩
def LTRAIN.CTRL.RESTART : Fld := ⟨401, .ltrain, 0x044, 3, 1, .w1p, 0x0, 1, 4, false⟩
def LTRAIN.CTRL.RETRAIN : Fld := ⟨402, .ltrain, 0x044, 2, 1, .w1p, 0x0, 1, 4, false⟩
def LTRAIN.CTRL.WAKE : Fld := ⟨403, .ltrain, 0x044, 1, 1, .w1p, 0x0, 1, 4, false⟩
def LTRAIN.CTRL.BANK : Fld := ⟨404, .ltrain, 0x044, 0, 1, .w1p, 0x0, 1, 4, false⟩
def LTRAIN.TIMERS.NOANSWER : Fld := ⟨405, .ltrain, 0x048, 24, 8, .rw, 0xa, 1, 4, false⟩
def LTRAIN.TIMERS.QUIET : Fld := ⟨406, .ltrain, 0x048, 16, 8, .rw, 0xa, 1, 4, false⟩
def LTRAIN.TIMERS.BEACON_MS : Fld := ⟨407, .ltrain, 0x048, 8, 8, .rw, 0xa, 1, 4, false⟩
def LTRAIN.TIMERS.JOINWAIT : Fld := ⟨408, .ltrain, 0x048, 0, 8, .rw, 0xa, 1, 4, false⟩
def LTRAIN.SRA.DN : Fld := ⟨409, .ltrain, 0x04C, 20, 4, .rw, 0x6, 1, 4, false⟩
def LTRAIN.SRA.UP : Fld := ⟨410, .ltrain, 0x04C, 16, 4, .rw, 0x6, 1, 4, false⟩
def LTRAIN.SRA.UP_HOLD : Fld := ⟨411, .ltrain, 0x04C, 8, 8, .rw, 0x8, 1, 4, false⟩
def LTRAIN.SRA.ENABLE : Fld := ⟨412, .ltrain, 0x04C, 0, 1, .rw, 0x1, 1, 4, false⟩
def LTRAIN.PARTNER.MEMBER : Fld := ⟨413, .ltrain, 0x050, 24, 8, .ro, 0x0, 1, 4, false⟩
def LTRAIN.PARTNER.MAXBITS : Fld := ⟨414, .ltrain, 0x050, 20, 4, .ro, 0x0, 1, 4, false⟩
def LTRAIN.PARTNER.CAPS : Fld := ⟨415, .ltrain, 0x050, 16, 4, .ro, 0x0, 1, 4, false⟩
def LTRAIN.PARTNER_ID_LO.ID : Fld := ⟨416, .ltrain, 0x054, 0, 32, .ro, 0x0, 1, 4, false⟩
def LTRAIN.PARTNER_ID_HI.ID : Fld := ⟨417, .ltrain, 0x058, 0, 32, .ro, 0x0, 1, 4, false⟩
def LTRAIN.ATTEMPTS.NOANSWER : Fld := ⟨418, .ltrain, 0x060, 16, 16, .ro, 0x0, 1, 4, false⟩
def LTRAIN.ATTEMPTS.ABORTS : Fld := ⟨419, .ltrain, 0x060, 0, 16, .ro, 0x0, 1, 4, false⟩
def LTRAIN.RETRAINS.OK : Fld := ⟨420, .ltrain, 0x064, 16, 16, .ro, 0x0, 1, 4, false⟩
def LTRAIN.RETRAINS.FAIL : Fld := ⟨421, .ltrain, 0x064, 0, 16, .ro, 0x0, 1, 4, false⟩
def LTRAIN.ENTRIES.COUNT : Fld := ⟨422, .ltrain, 0x068, 0, 32, .ro, 0x0, 1, 4, false⟩
def LTRAIN.LC0.NS : Fld := ⟨423, .ltrain, 0x070, 0, 32, .ro, 0x0, 1, 4, false⟩
def LTRAIN.LC1.SEC : Fld := ⟨424, .ltrain, 0x074, 0, 32, .ro, 0x0, 1, 4, false⟩
def LTRAIN.LC2.SECH : Fld := ⟨425, .ltrain, 0x078, 16, 16, .ro, 0x0, 1, 4, false⟩
def LTRAIN.LC2.FRAC : Fld := ⟨426, .ltrain, 0x078, 0, 8, .ro, 0x0, 1, 4, false⟩
def LTRAIN.RANGE.RTTC : Fld := ⟨427, .ltrain, 0x080, 0, 24, .ro, 0x0, 1, 4, false⟩
def LTRAIN.RCORR.CORR : Fld := ⟨428, .ltrain, 0x084, 0, 20, .ro, 0x0, 1, 4, false⟩

/-! LLOAD (R61) -/

def LLOAD.CTRL.MAXBITS : Fld := ⟨429, .lload, 0x040, 8, 4, .rws, 0xe, 1, 4, false⟩
def LLOAD.CTRL.MARGIN : Fld := ⟨430, .lload, 0x040, 0, 8, .rws, 0x3c, 1, 4, false⟩
def LLOAD.SUMMARY.LBITS : Fld := ⟨431, .lload, 0x044, 16, 11, .live, 0x0, 1, 4, false⟩
def LLOAD.SUMMARY.TONES : Fld := ⟨432, .lload, 0x044, 8, 7, .live, 0x0, 1, 4, false⟩
def LLOAD.SUMMARY.MINMARGIN : Fld := ⟨433, .lload, 0x044, 0, 8, .live, 0x0, 1, 4, false⟩

/-! LLOAD (R62) -/

def LLOAD.TABLE_SEQ.SEQ : Fld := ⟨434, .lload, 0x048, 0, 16, .ro, 0x0, 1, 4, false⟩

/-! LLOAD (R59) -/

def LLOAD.ARRIVAL.DELTA : Fld := ⟨435, .lload, 0x04C, 0, 16, .live, 0x0, 1, 4, false⟩
def LLOAD.TADV.TA : Fld := ⟨436, .lload, 0x050, 0, 20, .live, 0x0, 1, 4, false⟩

/-! LLOAD (R62) -/

def LLOAD.HOSTMASK.MASK : Fld := ⟨437, .lload, 0x060, 0, 32, .rws, 0x0, 4, 4, false⟩

/-! LLOAD (R24) -/

def LLOAD.RMASK.MASK : Fld := ⟨438, .lload, 0x070, 0, 32, .live, 0x0, 4, 4, false⟩

/-! LLOAD (R25) -/

def LLOAD.ERASE.MASK : Fld := ⟨439, .lload, 0x080, 0, 32, .live, 0x0, 4, 4, false⟩

/-! LLOAD (R61) -/

def LLOAD.TONE.SNR : Fld := ⟨440, .lload, 0x100, 20, 12, .live, 0x0, 128, 4, false⟩
def LLOAD.TONE.GAIN : Fld := ⟨441, .lload, 0x100, 4, 12, .live, 0x0, 128, 4, false⟩
def LLOAD.TONE.BITS : Fld := ⟨442, .lload, 0x100, 0, 4, .live, 0x0, 128, 4, false⟩

/-! LLOAD (R65) -/

def LLOAD.FEQ.FEQ_I : Fld := ⟨443, .lload, 0x300, 16, 16, .live, 0x0, 128, 4, false⟩
def LLOAD.FEQ.FEQ_Q : Fld := ⟨444, .lload, 0x300, 0, 16, .live, 0x0, 128, 4, false⟩

/-! LMON (R187) -/

def LMON.CHAIN.OWNER : Fld := ⟨445, .lmon, 0x040, 30, 2, .live, 0x0, 1, 4, false⟩
def LMON.CHAIN.PRESET : Fld := ⟨446, .lmon, 0x040, 0, 3, .rw, 0x0, 1, 4, false⟩

/-! LMON (R186) -/

def LMON.NCO.FREQ : Fld := ⟨447, .lmon, 0x044, 0, 32, .rw, 0x0, 1, 4, false⟩

/-! LMON (R189) -/

def LMON.SYNCRST.CANCEL : Fld := ⟨448, .lmon, 0x048, 9, 1, .w1p, 0x0, 1, 4, false⟩
def LMON.SYNCRST.ARM : Fld := ⟨449, .lmon, 0x048, 8, 1, .w1p, 0x0, 1, 4, false⟩
def LMON.SYNCRST.SRC : Fld := ⟨450, .lmon, 0x048, 0, 2, .rw, 0x0, 1, 4, false⟩

/-! LMON (R191) -/

def LMON.CSTAT.VALID : Fld := ⟨451, .lmon, 0x04C, 31, 1, .live, 0x0, 1, 4, false⟩
def LMON.CSTAT.RST_ARMED : Fld := ⟨452, .lmon, 0x04C, 30, 1, .live, 0x0, 1, 4, false⟩
def LMON.CSTAT.BANKSTATE : Fld := ⟨453, .lmon, 0x04C, 28, 2, .live, 0x0, 1, 4, false⟩
def LMON.CSTAT.ACTIVE : Fld := ⟨454, .lmon, 0x04C, 27, 1, .live, 0x0, 1, 4, false⟩
def LMON.CSTAT.LAST_SWAP : Fld := ⟨455, .lmon, 0x04C, 24, 3, .ro, 0x0, 1, 4, false⟩
def LMON.CSTAT.SETTLE_LEFT : Fld := ⟨456, .lmon, 0x04C, 0, 7, .live, 0x0, 1, 4, false⟩
def LMON.BANK.SWAP : Fld := ⟨457, .lmon, 0x050, 0, 1, .w1p, 0x0, 1, 4, false⟩

/-! LMON (R189) -/

def LMON.RST_NS.NS : Fld := ⟨458, .lmon, 0x054, 0, 32, .ro, 0x0, 1, 4, false⟩
def LMON.RST_SEC.SEC : Fld := ⟨459, .lmon, 0x058, 0, 32, .ro, 0x0, 1, 4, false⟩

/-! LMON (R193) -/

def LMON.DET_CFG.RMS_N : Fld := ⟨460, .lmon, 0x060, 24, 5, .rw, 0xa, 1, 4, false⟩
def LMON.DET_CFG.ATT : Fld := ⟨461, .lmon, 0x060, 16, 4, .rw, 0x2, 1, 4, false⟩
def LMON.DET_CFG.REL : Fld := ⟨462, .lmon, 0x060, 8, 4, .rw, 0x8, 1, 4, false⟩
def LMON.DET_CFG.PD : Fld := ⟨463, .lmon, 0x060, 0, 4, .rw, 0x8, 1, 4, false⟩
def LMON.PEAK_TH.TH : Fld := ⟨464, .lmon, 0x064, 0, 16, .rw, 0x8000, 1, 4, false⟩
def LMON.RMS_TH.TH : Fld := ⟨465, .lmon, 0x068, 0, 16, .rw, 0x8000, 1, 4, false⟩
def LMON.ENV_TH.TH : Fld := ⟨466, .lmon, 0x06C, 0, 16, .rw, 0x8000, 1, 4, false⟩
def LMON.PEAK.LEVEL : Fld := ⟨467, .lmon, 0x080, 0, 16, .ro, 0x8000, 1, 4, false⟩
def LMON.RMS.BLOCKS : Fld := ⟨468, .lmon, 0x084, 16, 16, .ro, 0x0, 1, 4, false⟩
def LMON.RMS.LEVEL : Fld := ⟨469, .lmon, 0x084, 0, 16, .ro, 0x8000, 1, 4, false⟩
def LMON.ENV.LEVEL : Fld := ⟨470, .lmon, 0x088, 0, 16, .ro, 0x8000, 1, 4, false⟩

/-! LMON (R194) -/

def LMON.FSREF.DBM : Fld := ⟨471, .lmon, 0x08C, 0, 16, .live, 0x0, 1, 4, false⟩

/-! LMON (R195) -/

def LMON.CAP_CTRL.REQUEST : Fld := ⟨472, .lmon, 0x0A0, 31, 1, .w1p, 0x0, 1, 4, false⟩
def LMON.CAP_CTRL.TRIG : Fld := ⟨473, .lmon, 0x0A0, 24, 2, .rw, 0x0, 1, 4, false⟩
def LMON.CAP_CTRL.TMO : Fld := ⟨474, .lmon, 0x0A0, 16, 8, .rw, 0x64, 1, 4, false⟩
def LMON.CAP_CTRL.COUNT : Fld := ⟨475, .lmon, 0x0A0, 0, 10, .rw, 0x200, 1, 4, false⟩
def LMON.CAP_STAT.REASON : Fld := ⟨476, .lmon, 0x0A4, 28, 4, .ro, 0x0, 1, 4, false⟩
def LMON.CAP_STAT.PRESET : Fld := ⟨477, .lmon, 0x0A4, 25, 3, .ro, 0x0, 1, 4, false⟩
def LMON.CAP_STAT.OWNER : Fld := ⟨478, .lmon, 0x0A4, 23, 2, .ro, 0x0, 1, 4, false⟩
def LMON.CAP_STAT.N : Fld := ⟨479, .lmon, 0x0A4, 0, 10, .ro, 0x0, 1, 4, false⟩
def LMON.CAP_NS.NS : Fld := ⟨480, .lmon, 0x0A8, 0, 32, .ro, 0x0, 1, 4, false⟩
def LMON.CAP_SEC.SEC : Fld := ⟨481, .lmon, 0x0AC, 0, 32, .ro, 0x0, 1, 4, false⟩
def LMON.CAP_NCO.FREQ : Fld := ⟨482, .lmon, 0x0B0, 0, 32, .ro, 0x0, 1, 4, false⟩

/-! LMON (R197) -/

def LMON.CNT_CTRL.CLEAR : Fld := ⟨483, .lmon, 0x0F0, 0, 1, .w1p, 0x0, 1, 4, false⟩
def LMON.OHW_FAIL.COUNT : Fld := ⟨484, .lmon, 0x100, 0, 32, .ro, 0x0, 1, 4, false⟩
def LMON.OHF_FAIL.COUNT : Fld := ⟨485, .lmon, 0x104, 0, 32, .ro, 0x0, 1, 4, false⟩
def LMON.UAS_LINE.COUNT : Fld := ⟨486, .lmon, 0x108, 0, 32, .ro, 0x0, 1, 4, false⟩
def LMON.CW_LO.COUNT : Fld := ⟨487, .lmon, 0x120, 0, 32, .ro, 0x0, 1, 4, false⟩
def LMON.CW_HI.COUNT : Fld := ⟨488, .lmon, 0x124, 0, 32, .ro, 0x0, 1, 4, false⟩
def LMON.CW_FIX_LO.COUNT : Fld := ⟨489, .lmon, 0x128, 0, 32, .ro, 0x0, 1, 4, false⟩
def LMON.CW_FIX_HI.COUNT : Fld := ⟨490, .lmon, 0x12C, 0, 32, .ro, 0x0, 1, 4, false⟩
def LMON.CW_UNCORR.COUNT : Fld := ⟨491, .lmon, 0x130, 0, 32, .ro, 0x0, 1, 4, false⟩
def LMON.ECB.COUNT : Fld := ⟨492, .lmon, 0x134, 0, 32, .ro, 0x0, 1, 4, false⟩
def LMON.DTU_TX_LO.COUNT : Fld := ⟨493, .lmon, 0x138, 0, 32, .ro, 0x0, 1, 4, false⟩
def LMON.DTU_TX_HI.COUNT : Fld := ⟨494, .lmon, 0x13C, 0, 32, .ro, 0x0, 1, 4, false⟩
def LMON.DTU_RTX.COUNT : Fld := ⟨495, .lmon, 0x140, 0, 32, .ro, 0x0, 1, 4, false⟩
def LMON.DTU_RECOV.COUNT : Fld := ⟨496, .lmon, 0x144, 0, 32, .ro, 0x0, 1, 4, false⟩
def LMON.DTU_LOST.COUNT : Fld := ⟨497, .lmon, 0x148, 0, 32, .ro, 0x0, 1, 4, false⟩
def LMON.RTX_FULL.COUNT : Fld := ⟨498, .lmon, 0x14C, 0, 32, .ro, 0x0, 1, 4, false⟩
def LMON.ES.COUNT : Fld := ⟨499, .lmon, 0x150, 0, 32, .ro, 0x0, 1, 4, false⟩
def LMON.SES.COUNT : Fld := ⟨500, .lmon, 0x154, 0, 32, .ro, 0x0, 1, 4, false⟩
def LMON.UAS.COUNT : Fld := ⟨501, .lmon, 0x158, 0, 32, .ro, 0x0, 1, 4, false⟩

/-! LMON (R198) -/

def LMON.EPOCH.COUNT : Fld := ⟨502, .lmon, 0x15C, 0, 32, .ro, 0x0, 1, 4, false⟩
def LMON.SNR_MIN.SNR : Fld := ⟨503, .lmon, 0x160, 20, 12, .ro, 0x0, 1, 4, false⟩
def LMON.SNR_MIN.TONE : Fld := ⟨504, .lmon, 0x160, 0, 7, .ro, 0x0, 1, 4, false⟩
def LMON.SNR_WATCH.TONE : Fld := ⟨505, .lmon, 0x164, 0, 7, .rw, 0x0, 1, 4, false⟩
def LMON.WATCH_MINMAX.MAX : Fld := ⟨506, .lmon, 0x168, 16, 12, .ro, 0x0, 1, 4, false⟩
def LMON.WATCH_MINMAX.MIN : Fld := ⟨507, .lmon, 0x168, 0, 12, .ro, 0xfff, 1, 4, false⟩

/-! LMON (R192) -/

def LMON.BANKA.TAP : Fld := ⟨508, .lmon, 0x200, 0, 18, .rw, 0x0, 64, 4, false⟩
def LMON.BANKB.TAP : Fld := ⟨509, .lmon, 0x300, 0, 18, .rw, 0x0, 64, 4, false⟩

/-! LMON (R195) -/

def LMON.CAP.I : Fld := ⟨510, .lmon, 0x800, 16, 16, .ro, 0x0, 512, 4, false⟩
def LMON.CAP.Q : Fld := ⟨511, .lmon, 0x800, 0, 16, .ro, 0x0, 512, 4, false⟩

/-! LREACH (R181) -/

def LREACH.PROFILE.NETID : Fld := ⟨512, .lreach, 0x040, 24, 8, .rws, 0x5b, 1, 4, false⟩
def LREACH.PROFILE.TXPWR : Fld := ⟨513, .lreach, 0x040, 16, 5, .rws, 0x12, 1, 4, false⟩
def LREACH.PROFILE.SF : Fld := ⟨514, .lreach, 0x040, 12, 4, .rws, 0xc, 1, 4, false⟩
def LREACH.PROFILE.BW : Fld := ⟨515, .lreach, 0x040, 10, 2, .rws, 0x0, 1, 4, false⟩
def LREACH.PROFILE.CR : Fld := ⟨516, .lreach, 0x040, 8, 2, .rws, 0x0, 1, 4, false⟩
def LREACH.DETECT.CAPMARGIN : Fld := ⟨517, .lreach, 0x044, 16, 4, .rw, 0x6, 1, 4, false⟩
def LREACH.DETECT.PCHIRPS : Fld := ⟨518, .lreach, 0x044, 8, 3, .rw, 0x4, 1, 4, false⟩
def LREACH.DETECT.TH : Fld := ⟨519, .lreach, 0x044, 0, 5, .rw, 0x6, 1, 4, false⟩
def LREACH.ALARM.IVL : Fld := ⟨520, .lreach, 0x048, 8, 8, .rw, 0x14, 1, 4, false⟩
def LREACH.ALARM.SLOTS : Fld := ⟨521, .lreach, 0x048, 0, 3, .rw, 0x2, 1, 4, false⟩
def LREACH.STATUS.QFREE : Fld := ⟨522, .lreach, 0x04C, 16, 10, .live, 0x200, 1, 4, false⟩
def LREACH.STATUS.MASK_WAIT : Fld := ⟨523, .lreach, 0x04C, 8, 1, .live, 0x0, 1, 4, false⟩
def LREACH.STATUS.WINDOW : Fld := ⟨524, .lreach, 0x04C, 4, 1, .live, 0x0, 1, 4, false⟩
def LREACH.STATUS.RXSTATE : Fld := ⟨525, .lreach, 0x04C, 0, 4, .live, 0x0, 1, 4, false⟩
def LREACH.RX_OK.COUNT : Fld := ⟨526, .lreach, 0x060, 0, 32, .ro, 0x0, 1, 4, false⟩
def LREACH.CRC_FAIL.COUNT : Fld := ⟨527, .lreach, 0x064, 0, 32, .ro, 0x0, 1, 4, false⟩
def LREACH.HDR_FAIL.COUNT : Fld := ⟨528, .lreach, 0x068, 0, 32, .ro, 0x0, 1, 4, false⟩
def LREACH.SYNC_FAIL.COUNT : Fld := ⟨529, .lreach, 0x06C, 0, 32, .ro, 0x0, 1, 4, false⟩
def LREACH.PREEMPT.COUNT : Fld := ⟨530, .lreach, 0x070, 0, 32, .ro, 0x0, 1, 4, false⟩
def LREACH.CAPTURED.COUNT : Fld := ⟨531, .lreach, 0x074, 0, 32, .ro, 0x0, 1, 4, false⟩
def LREACH.COLLIDED.COUNT : Fld := ⟨532, .lreach, 0x078, 0, 32, .ro, 0x0, 1, 4, false⟩
def LREACH.NO_REPLY.COUNT : Fld := ⟨533, .lreach, 0x07C, 0, 32, .ro, 0x0, 1, 4, false⟩
def LREACH.ALARM_RX.COUNT : Fld := ⟨534, .lreach, 0x080, 0, 32, .ro, 0x0, 1, 4, false⟩
def LREACH.TX_PKT.COUNT : Fld := ⟨535, .lreach, 0x084, 0, 32, .ro, 0x0, 1, 4, false⟩
def LREACH.TXDROP.COUNT : Fld := ⟨536, .lreach, 0x088, 0, 32, .ro, 0x0, 1, 4, false⟩
def LREACH.EP_CFG.ENABLE : Fld := ⟨537, .lreach, 0x100, 31, 1, .rws, 0x0, 16, 16, false⟩
def LREACH.EP_CFG.RETRY : Fld := ⟨538, .lreach, 0x100, 24, 4, .rw, 0x2, 16, 16, false⟩
def LREACH.EP_CFG.POLL_IVL : Fld := ⟨539, .lreach, 0x100, 16, 8, .rws, 0x0, 16, 16, false⟩
def LREACH.EP_CFG.SF : Fld := ⟨540, .lreach, 0x100, 12, 4, .rws, 0xc, 16, 16, false⟩
def LREACH.EP_CFG.BW : Fld := ⟨541, .lreach, 0x100, 10, 2, .rws, 0x0, 16, 16, false⟩
def LREACH.EP_CFG.CR : Fld := ⟨542, .lreach, 0x100, 8, 2, .rws, 0x0, 16, 16, false⟩
def LREACH.EP_STAT.ABSENT : Fld := ⟨543, .lreach, 0x104, 31, 1, .ro, 0x0, 16, 16, false⟩
def LREACH.EP_STAT.RSSI : Fld := ⟨544, .lreach, 0x104, 16, 8, .ro, 0x0, 16, 16, false⟩
def LREACH.EP_STAT.FOFS : Fld := ⟨545, .lreach, 0x104, 0, 16, .ro, 0x0, 16, 16, false⟩
def LREACH.EP_COUNT.RX : Fld := ⟨546, .lreach, 0x108, 16, 16, .ro, 0x0, 16, 16, false⟩
def LREACH.EP_COUNT.NOREPLY : Fld := ⟨547, .lreach, 0x108, 0, 16, .ro, 0x0, 16, 16, false⟩
def LREACH.EP_LAST.SEC : Fld := ⟨548, .lreach, 0x10C, 0, 32, .ro, 0x0, 16, 16, false⟩

/-! LDIAG (R208) -/

def LDIAG.REQ.REFLECT : Fld := ⟨549, .ldiag, 0x040, 31, 1, .w1p, 0x0, 1, 4, false⟩
def LDIAG.REQ.BAND : Fld := ⟨550, .ldiag, 0x040, 8, 2, .rw, 0x0, 1, 4, false⟩
def LDIAG.CFG.VF : Fld := ⟨551, .ldiag, 0x044, 16, 10, .rw, 0x294, 1, 4, false⟩
def LDIAG.CFG.TXPWR : Fld := ⟨552, .ldiag, 0x044, 8, 5, .rw, 0x12, 1, 4, false⟩
def LDIAG.CFG.FAULT_TH : Fld := ⟨553, .ldiag, 0x044, 0, 8, .rw, 0x28, 1, 4, false⟩
def LDIAG.REF_LEN.LEN : Fld := ⟨554, .ldiag, 0x048, 0, 16, .rw, 0x0, 1, 4, false⟩
def LDIAG.RSTAT.REASON : Fld := ⟨555, .ldiag, 0x050, 28, 4, .ro, 0x0, 1, 4, false⟩
def LDIAG.RSTAT.BAND : Fld := ⟨556, .ldiag, 0x050, 26, 2, .ro, 0x0, 1, 4, false⟩
def LDIAG.RSTAT.END : Fld := ⟨557, .ldiag, 0x050, 24, 2, .ro, 0x0, 1, 4, false⟩
def LDIAG.RSTAT.VF_MEAS : Fld := ⟨558, .ldiag, 0x050, 23, 1, .ro, 0x0, 1, 4, false⟩
def LDIAG.RSTAT.MORE : Fld := ⟨559, .ldiag, 0x050, 22, 1, .ro, 0x0, 1, 4, false⟩
def LDIAG.RSTAT.COUNT : Fld := ⟨560, .ldiag, 0x050, 16, 4, .ro, 0x0, 1, 4, false⟩
def LDIAG.RSTAT.LENGTH : Fld := ⟨561, .ldiag, 0x050, 0, 16, .ro, 0x0, 1, 4, false⟩
def LDIAG.VF_USED.VF : Fld := ⟨562, .ldiag, 0x054, 0, 10, .ro, 0x0, 1, 4, false⟩
def LDIAG.NOISE.LEVEL : Fld := ⟨563, .ldiag, 0x058, 0, 16, .ro, 0x0, 1, 4, false⟩
def LDIAG.FAULT.VALID : Fld := ⟨564, .ldiag, 0x060, 31, 1, .ro, 0x0, 8, 4, false⟩
def LDIAG.FAULT.POLARITY : Fld := ⟨565, .ldiag, 0x060, 30, 1, .ro, 0x0, 8, 4, false⟩
def LDIAG.FAULT.LEVEL : Fld := ⟨566, .ldiag, 0x060, 16, 14, .ro, 0x0, 8, 4, false⟩
def LDIAG.FAULT.DIST : Fld := ⟨567, .ldiag, 0x060, 0, 16, .ro, 0x0, 8, 4, false⟩
def LDIAG.IL0.IL_6M4 : Fld := ⟨568, .ldiag, 0x080, 16, 16, .ro, 0x0, 1, 4, false⟩
def LDIAG.IL0.IL_3M2 : Fld := ⟨569, .ldiag, 0x080, 0, 16, .ro, 0x0, 1, 4, false⟩
def LDIAG.IL1.IL_25M6 : Fld := ⟨570, .ldiag, 0x084, 16, 16, .ro, 0x0, 1, 4, false⟩
def LDIAG.IL1.IL_12M8 : Fld := ⟨571, .ldiag, 0x084, 0, 16, .ro, 0x0, 1, 4, false⟩
def LDIAG.RUN_NS.NS : Fld := ⟨572, .ldiag, 0x088, 0, 32, .ro, 0x0, 1, 4, false⟩
def LDIAG.RUN_SEC.SEC : Fld := ⟨573, .ldiag, 0x08C, 0, 32, .ro, 0x0, 1, 4, false⟩
def LDIAG.PROFILE.POL1 : Fld := ⟨574, .ldiag, 0x800, 31, 1, .ro, 0x0, 512, 4, false⟩
def LDIAG.PROFILE.ATT1 : Fld := ⟨575, .ldiag, 0x800, 16, 15, .ro, 0x0, 512, 4, false⟩
def LDIAG.PROFILE.POL0 : Fld := ⟨576, .ldiag, 0x800, 15, 1, .ro, 0x0, 512, 4, false⟩
def LDIAG.PROFILE.ATT0 : Fld := ⟨577, .ldiag, 0x800, 0, 15, .ro, 0x0, 512, 4, false⟩

/-! LAFE (R235) -/

def LAFE.CTRL.RANGE : Fld := ⟨578, .lafe, 0x040, 24, 2, .rws, 0x2, 1, 4, false⟩
def LAFE.CTRL.PGA_AUTO : Fld := ⟨579, .lafe, 0x040, 23, 1, .rw, 0x1, 1, 4, false⟩
def LAFE.CTRL.PGA : Fld := ⟨580, .lafe, 0x040, 16, 7, .rws, 0x18, 1, 4, false⟩
def LAFE.CTRL.TXMASK : Fld := ⟨581, .lafe, 0x040, 0, 6, .rws, 0x0, 1, 4, false⟩
def LAFE.STAT.DRIVER : Fld := ⟨582, .lafe, 0x044, 30, 2, .live, 0x0, 1, 4, false⟩
def LAFE.STAT.SWITCH : Fld := ⟨583, .lafe, 0x044, 29, 1, .live, 0x1, 1, 4, false⟩
def LAFE.STAT.OC : Fld := ⟨584, .lafe, 0x044, 28, 1, .ro, 0x0, 1, 4, false⟩
def LAFE.ADCSUM.CONVERGED : Fld := ⟨585, .lafe, 0x048, 31, 1, .live, 0x0, 1, 4, false⟩
def LAFE.ADCSUM.PAUSED : Fld := ⟨586, .lafe, 0x048, 30, 1, .live, 0x0, 1, 4, false⟩
def LAFE.ADCSUM.SKEW_MAX : Fld := ⟨587, .lafe, 0x048, 16, 8, .live, 0x0, 1, 4, false⟩
def LAFE.ADCSUM.GAIN_MAX : Fld := ⟨588, .lafe, 0x048, 8, 8, .live, 0x0, 1, 4, false⟩
def LAFE.ADCSUM.OFFSET_MAX : Fld := ⟨589, .lafe, 0x048, 0, 8, .live, 0x0, 1, 4, false⟩
def LAFE.DAC_CLIP.COUNT : Fld := ⟨590, .lafe, 0x04C, 0, 32, .ro, 0x0, 1, 4, false⟩
def LAFE.ADC_OVER.COUNT : Fld := ⟨591, .lafe, 0x050, 0, 32, .ro, 0x0, 1, 4, false⟩
def LAFE.CAL_REQ.REQUEST : Fld := ⟨592, .lafe, 0x060, 31, 1, .w1p, 0x0, 1, 4, false⟩
def LAFE.CAL_REQ.FULL : Fld := ⟨593, .lafe, 0x060, 0, 1, .rw, 0x0, 1, 4, false⟩
def LAFE.CAL_STAT.STATE : Fld := ⟨594, .lafe, 0x064, 28, 4, .live, 0x0, 1, 4, false⟩
def LAFE.CAL_STAT.REASON : Fld := ⟨595, .lafe, 0x064, 24, 4, .ro, 0x0, 1, 4, false⟩
def LAFE.CAL_STAT.SOURCE : Fld := ⟨596, .lafe, 0x064, 22, 2, .ro, 0x0, 1, 4, false⟩
def LAFE.CAL_STAT.ATTEMPT : Fld := ⟨597, .lafe, 0x064, 20, 2, .ro, 0x0, 1, 4, false⟩
def LAFE.CAL_STAT.KIND : Fld := ⟨598, .lafe, 0x064, 19, 1, .ro, 0x0, 1, 4, false⟩
def LAFE.CAL_STAT.VALUES : Fld := ⟨599, .lafe, 0x064, 18, 1, .ro, 0x0, 1, 4, true⟩
def LAFE.CAL_STAT.DEGRADED : Fld := ⟨600, .lafe, 0x064, 17, 1, .ro, 0x0, 1, 4, true⟩
def LAFE.CAL_COUNT.COUNT : Fld := ⟨601, .lafe, 0x068, 0, 32, .ro, 0x0, 1, 4, true⟩
def LAFE.ABORTS.GAVE_UP : Fld := ⟨602, .lafe, 0x06C, 16, 16, .ro, 0x0, 1, 4, false⟩
def LAFE.ABORTS.ATTEMPTS : Fld := ⟨603, .lafe, 0x06C, 0, 16, .ro, 0x0, 1, 4, false⟩
def LAFE.CL0.NS : Fld := ⟨604, .lafe, 0x070, 0, 32, .ro, 0x0, 1, 4, true⟩
def LAFE.CL1.SEC : Fld := ⟨605, .lafe, 0x074, 0, 32, .ro, 0x0, 1, 4, true⟩
def LAFE.CL2.SECH : Fld := ⟨606, .lafe, 0x078, 16, 16, .ro, 0x0, 1, 4, true⟩
def LAFE.CL2.FRAC : Fld := ⟨607, .lafe, 0x078, 0, 8, .ro, 0x0, 1, 4, true⟩
def LAFE.CAL_TEMP.TEMP : Fld := ⟨608, .lafe, 0x07C, 0, 16, .ro, 0x0, 1, 4, true⟩
def LAFE.PAIRPWR.DBM : Fld := ⟨609, .lafe, 0x080, 0, 16, .ro, 0x8000, 1, 4, false⟩
def LAFE.LOADDEV.DEV : Fld := ⟨610, .lafe, 0x084, 0, 16, .ro, 0x0, 1, 4, false⟩
def LAFE.SEG.POSITION : Fld := ⟨611, .lafe, 0x100, 24, 6, .ro, 0x0, 67, 4, true⟩
def LAFE.SEG.TRIM : Fld := ⟨612, .lafe, 0x100, 16, 6, .ro, 0x0, 67, 4, true⟩
def LAFE.SEG.ERROR : Fld := ⟨613, .lafe, 0x100, 0, 16, .ro, 0x0, 67, 4, true⟩
def LAFE.LADDER.TRIM : Fld := ⟨614, .lafe, 0x240, 16, 6, .ro, 0x0, 9, 4, true⟩
def LAFE.LADDER.ERROR : Fld := ⟨615, .lafe, 0x240, 0, 16, .ro, 0x0, 9, 4, true⟩
def LAFE.HYB.ECHO_RL : Fld := ⟨616, .lafe, 0x270, 16, 16, .ro, 0x0, 1, 4, true⟩
def LAFE.HYB.RES : Fld := ⟨617, .lafe, 0x270, 8, 6, .ro, 0x20, 1, 4, true⟩
def LAFE.HYB.CAP : Fld := ⟨618, .lafe, 0x270, 0, 6, .ro, 0x20, 1, 4, true⟩
def LAFE.GAIN.DAC_TRIM : Fld := ⟨619, .lafe, 0x274, 16, 16, .ro, 0x0, 1, 4, true⟩
def LAFE.GAIN.ADC_TRIM : Fld := ⟨620, .lafe, 0x274, 0, 16, .ro, 0x0, 1, 4, true⟩

/-! LSTD (R248) -/

def LSTD.ADV.RESTART : Fld := ⟨621, .lstd, 0x040, 31, 1, .w1p, 0x0, 1, 4, false⟩
def LSTD.ADV.MDIX : Fld := ⟨622, .lstd, 0x040, 26, 2, .rw, 0x0, 1, 4, false⟩
def LSTD.ADV.ALT : Fld := ⟨623, .lstd, 0x040, 25, 1, .rw, 0x1, 1, 4, false⟩
def LSTD.ADV.FR : Fld := ⟨624, .lstd, 0x040, 20, 1, .rw, 0x1, 1, 4, false⟩
def LSTD.ADV.EEE : Fld := ⟨625, .lstd, 0x040, 8, 5, .rw, 0x1f, 1, 4, false⟩
def LSTD.ADV.SPEED : Fld := ⟨626, .lstd, 0x040, 0, 5, .rw, 0x1f, 1, 4, false⟩
def LSTD.ALT.AN_WIN : Fld := ⟨627, .lstd, 0x044, 0, 8, .rw, 0x40, 1, 4, false⟩
def LSTD.STATUS.LINK : Fld := ⟨628, .lstd, 0x048, 31, 1, .live, 0x0, 1, 4, false⟩
def LSTD.STATUS.AN_DONE : Fld := ⟨629, .lstd, 0x048, 30, 1, .live, 0x0, 1, 4, false⟩
def LSTD.STATUS.SPEED : Fld := ⟨630, .lstd, 0x048, 27, 3, .live, 0x0, 1, 4, false⟩
def LSTD.STATUS.MASTER : Fld := ⟨631, .lstd, 0x048, 26, 1, .live, 0x0, 1, 4, false⟩
def LSTD.STATUS.MDIX : Fld := ⟨632, .lstd, 0x048, 25, 1, .live, 0x0, 1, 4, false⟩
def LSTD.STATUS.EEE : Fld := ⟨633, .lstd, 0x048, 24, 1, .live, 0x0, 1, 4, false⟩
def LSTD.STATUS.FR : Fld := ⟨634, .lstd, 0x048, 23, 1, .live, 0x0, 1, 4, false⟩
def LSTD.STATUS.TX_LPI : Fld := ⟨635, .lstd, 0x048, 22, 1, .live, 0x0, 1, 4, false⟩
def LSTD.STATUS.RX_LPI : Fld := ⟨636, .lstd, 0x048, 21, 1, .live, 0x0, 1, 4, false⟩
def LSTD.STATUS.APSYN_SEEN : Fld := ⟨637, .lstd, 0x048, 20, 1, .ro, 0x0, 1, 4, false⟩
def LSTD.STATUS.FLP_SEEN : Fld := ⟨638, .lstd, 0x048, 19, 1, .ro, 0x0, 1, 4, false⟩
def LSTD.LP_ABIL.LP_EEE : Fld := ⟨639, .lstd, 0x04C, 16, 16, .ro, 0x0, 1, 4, false⟩
def LSTD.LP_ABIL.LP_BASE : Fld := ⟨640, .lstd, 0x04C, 0, 16, .ro, 0x0, 1, 4, false⟩
def LSTD.LP_MGBT.STAT : Fld := ⟨641, .lstd, 0x050, 0, 16, .ro, 0x0, 1, 4, false⟩
def LSTD.LINK_DOWN.COUNT : Fld := ⟨642, .lstd, 0x060, 0, 32, .ro, 0x0, 1, 4, false⟩
def LSTD.FR_COUNT.COUNT : Fld := ⟨643, .lstd, 0x064, 0, 32, .ro, 0x0, 1, 4, false⟩
def LSTD.PCS_ERR.COUNT : Fld := ⟨644, .lstd, 0x068, 0, 32, .ro, 0x0, 1, 4, false⟩
def LSTD.LPI_TX.COUNT : Fld := ⟨645, .lstd, 0x06C, 0, 32, .ro, 0x0, 1, 4, false⟩
def LSTD.LPI_RX.COUNT : Fld := ⟨646, .lstd, 0x070, 0, 32, .ro, 0x0, 1, 4, false⟩
def LSTD.WAKE_ERR.COUNT : Fld := ⟨647, .lstd, 0x074, 0, 32, .ro, 0x0, 1, 4, false⟩

/-! The common page header (R35): one function of the page for each field. -/

def HDR.PAGE_ID.CLASS (p : Page) : Fld := ⟨768 + p.code * 32 + 0, p, 0x000, 24, 8, .live, 0x0, 1, 4, false⟩
def HDR.PAGE_ID.INSTANCE (p : Page) : Fld := ⟨768 + p.code * 32 + 1, p, 0x000, 12, 12, .live, 0x0, 1, 4, false⟩
def HDR.PAGE_ID.LAYOUT (p : Page) : Fld := ⟨768 + p.code * 32 + 2, p, 0x000, 0, 12, .live, 0x1, 1, 4, false⟩
def HDR.PAGE_CTRL.LOCK (p : Page) : Fld := ⟨768 + p.code * 32 + 3, p, 0x004, 3, 1, .rw, 0x0, 1, 4, true⟩
def HDR.PAGE_CTRL.FREEZE (p : Page) : Fld := ⟨768 + p.code * 32 + 4, p, 0x004, 2, 1, .rw, 0x0, 1, 4, false⟩
def HDR.PAGE_CTRL.SOFT_RESET (p : Page) : Fld := ⟨768 + p.code * 32 + 5, p, 0x004, 1, 1, .w1p, 0x0, 1, 4, false⟩
def HDR.PAGE_CTRL.ENABLE (p : Page) : Fld := ⟨768 + p.code * 32 + 6, p, 0x004, 0, 1, .rw, 0x1, 1, 4, false⟩
def HDR.PAGE_STAT.HEALTH (p : Page) : Fld := ⟨768 + p.code * 32 + 7, p, 0x008, 4, 2, .live, 0x0, 1, 4, false⟩
def HDR.PAGE_STAT.BUSY (p : Page) : Fld := ⟨768 + p.code * 32 + 8, p, 0x008, 1, 1, .live, 0x0, 1, 4, false⟩
def HDR.PAGE_STAT.READY (p : Page) : Fld := ⟨768 + p.code * 32 + 9, p, 0x008, 0, 1, .live, 0x0, 1, 4, false⟩
def HDR.EVT_RAW.RAW (p : Page) : Fld := ⟨768 + p.code * 32 + 10, p, 0x00C, 0, 32, .live, 0x0, 1, 4, false⟩
def HDR.EVT_EN.EN (p : Page) : Fld := ⟨768 + p.code * 32 + 11, p, 0x010, 0, 32, .rw, 0x0, 1, 4, false⟩
def HDR.EVT_PEND.PEND (p : Page) : Fld := ⟨768 + p.code * 32 + 12, p, 0x014, 0, 32, .w1c, 0x0, 1, 4, false⟩
def HDR.EVT_INJECT.INJECT (p : Page) : Fld := ⟨768 + p.code * 32 + 13, p, 0x018, 0, 32, .wo, 0x0, 1, 4, false⟩
def HDR.EVT_COUNT.CLR (p : Page) : Fld := ⟨768 + p.code * 32 + 14, p, 0x01C, 31, 1, .w1p, 0x0, 1, 4, false⟩
def HDR.EVT_COUNT.COUNT (p : Page) : Fld := ⟨768 + p.code * 32 + 15, p, 0x01C, 0, 16, .ro, 0x0, 1, 4, false⟩
def HDR.ENV_CTRL.DISCARD (p : Page) : Fld := ⟨768 + p.code * 32 + 16, p, 0x020, 9, 1, .w1p, 0x0, 1, 4, false⟩
def HDR.ENV_CTRL.POST (p : Page) : Fld := ⟨768 + p.code * 32 + 17, p, 0x020, 8, 1, .w1p, 0x0, 1, 4, false⟩
def HDR.ENV_CTRL.PEEK (p : Page) : Fld := ⟨768 + p.code * 32 + 18, p, 0x020, 4, 1, .rw, 0x0, 1, 4, false⟩
def HDR.ENV_CTRL.MAILRUN (p : Page) : Fld := ⟨768 + p.code * 32 + 19, p, 0x020, 3, 1, .rw, 0x0, 1, 4, false⟩
def HDR.ENV_CTRL.SEALED (p : Page) : Fld := ⟨768 + p.code * 32 + 20, p, 0x020, 2, 1, .rw, 0x0, 1, 4, false⟩
def HDR.ENV_CTRL.MOMENT (p : Page) : Fld := ⟨768 + p.code * 32 + 21, p, 0x020, 0, 2, .rw, 0x0, 1, 4, false⟩
def HDR.ENV_STAT.STEPS (p : Page) : Fld := ⟨768 + p.code * 32 + 22, p, 0x024, 16, 8, .ro, 0x0, 1, 4, false⟩
def HDR.ENV_STAT.RESULT (p : Page) : Fld := ⟨768 + p.code * 32 + 23, p, 0x024, 12, 4, .ro, 0x0, 1, 4, false⟩
def HDR.ENV_STAT.SPLIT (p : Page) : Fld := ⟨768 + p.code * 32 + 24, p, 0x024, 5, 1, .ro, 0x0, 1, 4, false⟩
def HDR.ENV_STAT.SEALWAIT (p : Page) : Fld := ⟨768 + p.code * 32 + 25, p, 0x024, 4, 1, .live, 0x0, 1, 4, false⟩
def HDR.ENV_STAT.IN_FLIGHT (p : Page) : Fld := ⟨768 + p.code * 32 + 26, p, 0x024, 3, 1, .live, 0x0, 1, 4, false⟩
def HDR.ENV_STAT.ARMED (p : Page) : Fld := ⟨768 + p.code * 32 + 27, p, 0x024, 2, 1, .live, 0x0, 1, 4, false⟩
def HDR.ENV_STAT.STAGED (p : Page) : Fld := ⟨768 + p.code * 32 + 28, p, 0x024, 1, 1, .live, 0x0, 1, 4, false⟩
def HDR.ENV_WHEN.WHEN (p : Page) : Fld := ⟨768 + p.code * 32 + 29, p, 0x028, 0, 32, .rw, 0x0, 1, 4, false⟩
def HDR.RESULT_SEQ.STALE (p : Page) : Fld := ⟨768 + p.code * 32 + 30, p, 0x030, 31, 1, .live, 0x0, 1, 4, false⟩
def HDR.RESULT_SEQ.SEQ (p : Page) : Fld := ⟨768 + p.code * 32 + 31, p, 0x030, 0, 16, .ro, 0x0, 1, 4, false⟩

/-- The fields of the common header on page `p`. -/
def headerFields (p : Page) : List Fld :=
  [HDR.PAGE_ID.CLASS p, HDR.PAGE_ID.INSTANCE p, HDR.PAGE_ID.LAYOUT p, HDR.PAGE_CTRL.LOCK p, HDR.PAGE_CTRL.FREEZE p, HDR.PAGE_CTRL.SOFT_RESET p, HDR.PAGE_CTRL.ENABLE p, HDR.PAGE_STAT.HEALTH p, HDR.PAGE_STAT.BUSY p, HDR.PAGE_STAT.READY p, HDR.EVT_RAW.RAW p, HDR.EVT_EN.EN p, HDR.EVT_PEND.PEND p, HDR.EVT_INJECT.INJECT p, HDR.EVT_COUNT.CLR p, HDR.EVT_COUNT.COUNT p, HDR.ENV_CTRL.DISCARD p, HDR.ENV_CTRL.POST p, HDR.ENV_CTRL.PEEK p, HDR.ENV_CTRL.MAILRUN p, HDR.ENV_CTRL.SEALED p, HDR.ENV_CTRL.MOMENT p, HDR.ENV_STAT.STEPS p, HDR.ENV_STAT.RESULT p, HDR.ENV_STAT.SPLIT p, HDR.ENV_STAT.SEALWAIT p, HDR.ENV_STAT.IN_FLIGHT p, HDR.ENV_STAT.ARMED p, HDR.ENV_STAT.STAGED p, HDR.ENV_WHEN.WHEN p, HDR.RESULT_SEQ.STALE p, HDR.RESULT_SEQ.SEQ p]

def identFields : List Fld :=
  [IDENT.STATUS.READY, IDENT.DEVICE_ID_LO.ID, IDENT.DEVICE_ID_HI.ID, IDENT.PART.CODE, IDENT.PART.STEPPING]

def sessionFields : List Fld :=
  [SESSION.NONCE.W, SESSION.TAG.W, SESSION.CMD.OPEN, SESSION.CMD.CLOSE, SESSION.CMD.RENEW,
   SESSION.CMD.SLOT, SESSION.CMD.ROLE, SESSION.STAT.STATE, SESSION.STAT.ROLE, SESSION.STAT.SLOT,
   SESSION.STAT.RESULT, SESSION.STAT.CLOSED_BY, SESSION.STAT.FAILS, SESSION.STAT.LOCK_LEFT, SESSION.IDLE.MIN,
   SESSION.MDIO_BASE.CLUSTER]

def hearthFields : List Fld :=
  [HEARTH.PSTATE.SUBSTATE, HEARTH.PSTATE.STATE, HEARTH.PSTATE.REQ, HEARTH.REFUSE.STAGE, HEARTH.REFUSE.REASON,
   HEARTH.REFUSE.INSTANCE, HEARTH.REFUSE.COUNT, HEARTH.WAKE_EN.EN, HEARTH.WAKE_CAUSE.CAUSE, HEARTH.WAKE_CAUSE.BLOCK,
   HEARTH.WAKE_CAUSE.FAILS, HEARTH.WAKE_CAUSE.LINE, HEARTH.TIMER.SEC, HEARTH.ETH.DBM, HEARTH.TRIM.SRC,
   HEARTH.TRIM.STATE, HEARTH.TRIM.DEV, HEARTH.TRIM.CODE]

def clocksFields : List Fld :=
  [CLOCKS.STAT.CSRC, CLOCKS.STAT.KOSC, CLOCKS.STAT.REFCLK, CLOCKS.STAT.REDUCED, CLOCKS.STAT.TSRC,
   CLOCKS.STAT.LOCK, CLOCKS.KOSC_DEV.DEV, CLOCKS.HANGS.CMUX, CLOCKS.HANGS.TMUX, CLOCKS.REFJUDGE.TRIPS,
   CLOCKS.REFJUDGE.COUNT, CLOCKS.FM_CTRL.REQUEST, CLOCKS.FM_CTRL.GATE, CLOCKS.FM_CTRL.REF, CLOCKS.FM_CTRL.MEAS,
   CLOCKS.FM_STAT.REASON, CLOCKS.FM_COUNT_LO.COUNT, CLOCKS.FM_COUNT_HI.COUNT, CLOCKS.FM_FREQ.HZ]

def perfFields : List Fld :=
  [PERF.CTRL.AVS_RETRY, PERF.CTRL.TARGET, PERF.STAT.LEVEL, PERF.STAT.GOING, PERF.STAT.PENDING,
   PERF.STAT.EMERGENCY, PERF.STAT.AVS_FAIL, PERF.AVS.RAIL, PERF.AVS.CLKDIV, PERF.AVS.SLEW,
   PERF.VX.MV, PERF.VX.CURRENT, PERF.ILIMIT.LIMIT, PERF.AVS_ERR.COUNT]

def faultFields : List Fld :=
  [FAULT.CTRL.REBOOT, FAULT.CTRL.INJ_REACT, FAULT.STAT.S3_ACTIVE, FAULT.STAT.FAULT_N, FAULT.STAT.GLOW_FROZEN,
   FAULT.STAT.HANDLING, FAULT.CLEAR.FIRST, FAULT.CLEAR.LAST, FAULT.CLEAR.SEQ, FAULT.WDOG.PERIOD,
   FAULT.COUNT_S.COUNT, FAULT.INJECT.GO, FAULT.INJECT.RAIL, FAULT.INJECT.CLASS, FAULT.INJECT.CODE,
   FAULT.INJECT.SOURCE, FAULT.FENCE_LO.MAP, FAULT.FENCE_HI.MAP, FAULT.FENCED.COUNT, FAULT.REC_HDR.VALID,
   FAULT.REC_HDR.INJECTED, FAULT.REC_HDR.REAL, FAULT.REC_HDR.CLASS, FAULT.REC_HDR.CODE, FAULT.REC_HDR.SEQ,
   FAULT.REC_SRC.MERGE, FAULT.REC_SRC.MASTER, FAULT.REC_SRC.ACCESS, FAULT.REC_SRC.SOURCE, FAULT.REC_ADDR.ADDR,
   FAULT.REC_PM0.NS, FAULT.REC_PM1.SEC, FAULT.REC_PM2.SECH, FAULT.REC_PM2.FRAC, FAULT.COMPANION_F.MAP,
   FAULT.COMPANION_L.MAP]

def eventsFields : List Fld :=
  [EVENTS.CTRL.IB_REFRESH, EVENTS.CTRL.IB_HOLD, EVENTS.CTRL.PIN_HOLD, EVENTS.SUMMARY.B, EVENTS.SUMMARY.A,
   EVENTS.FIRST_A.VALID, EVENTS.FIRST_A.SOURCE, EVENTS.FIRST_B.VALID, EVENTS.FIRST_B.SOURCE, EVENTS.PINS.INTB,
   EVENTS.PINS.INTA, EVENTS.IB_SENT.COUNT, EVENTS.RAW.LEVEL, EVENTS.ROUTE_A.EN, EVENTS.ROUTE_B.EN,
   EVENTS.ROUTE_IB.EN]

def calmgrFields : List Fld :=
  [CALMGR.CTRL.REQ_ALL, CALMGR.CTRL.PARTNER_TH, CALMGR.CTRL.TEMP_EN, CALMGR.CTRL.DELTA_T, CALMGR.STAT.POWERUP_DONE,
   CALMGR.STAT.TXCLR, CALMGR.STAT.REFIN_OK, CALMGR.REFIN.LEVEL, CALMGR.SLOT.KIND, CALMGR.SLOT.LINE]

def thermalFields : List Fld :=
  [THERMAL.TJ.SOURCE, THERMAL.TJ.TEMP, THERMAL.PEAK.CLEAR, THERMAL.PEAK.TEMP, THERMAL.DAMPER.CAP,
   THERMAL.DAMPER.EMERGENCIES, THERMAL.DAMPER.STEPS]

def timebaseFields : List Fld :=
  [TIMEBASE.CTRL.SET, TIMEBASE.CTRL.ADD, TIMEBASE.CTRL.SET_AT_PPS, TIMEBASE.CTRL.PPS_WIDTH, TIMEBASE.CTRL.PPS_OUT_EN,
   TIMEBASE.RATE.RATE, TIMEBASE.OFFSET.NS, TIMEBASE.SET_NS.NS, TIMEBASE.SET_SEC_LO.SEC, TIMEBASE.SET_SEC_HI.SEC,
   TIMEBASE.NOW0.NS, TIMEBASE.NOW1.SEC, TIMEBASE.NOW2.SECH, TIMEBASE.NOW2.FRAC, TIMEBASE.PPSIN0.NS,
   TIMEBASE.PPSIN1.SEC, TIMEBASE.PPSIN2.SECH, TIMEBASE.PPSIN2.FRAC, TIMEBASE.STAT.VALID, TIMEBASE.STAT.SUSPECT]

def portmapFields : List Fld :=
  [PORTMAP.QUADS.QUAD7, PORTMAP.QUADS.QUAD6, PORTMAP.QUADS.QUAD5, PORTMAP.QUADS.QUAD4, PORTMAP.QUADS.QUAD3,
   PORTMAP.QUADS.QUAD2, PORTMAP.QUADS.QUAD1, PORTMAP.QUADS.QUAD0]

def sortingFields : List Fld :=
  [SORTING.QUADLANE.LANE7, SORTING.QUADLANE.LANE6, SORTING.QUADLANE.LANE5, SORTING.QUADLANE.LANE4, SORTING.QUADLANE.LANE3,
   SORTING.QUADLANE.LANE2, SORTING.QUADLANE.LANE1, SORTING.QUADLANE.LANE0, SORTING.PAUSE_SA_LO.SA, SORTING.PAUSE_SA_HI.SA,
   SORTING.EQ.CTLE, SORTING.EQ.SWING, SORTING.EQ.PRE, SORTING.EQ.MAIN, SORTING.EQ.POST]

def letterboxFields : List Fld :=
  [LETTERBOX.CMD.OPCODE, LETTERBOX.CMD.TAG, LETTERBOX.CMD.LENGTH, LETTERBOX.DOORBELL.RING, LETTERBOX.LB_STAT.LAST_TAG,
   LETTERBOX.LB_STAT.STATUS, LETTERBOX.LB_STAT.RESP_LEN, LETTERBOX.LB_STAT.SLOT_HELD, LETTERBOX.LB_STAT.BUSY, LETTERBOX.ARG.W,
   LETTERBOX.RESP.W]

def bootFields : List Fld :=
  [BOOT.CTRL.CONFIRM, BOOT.CTRL.SVN_COMMIT, BOOT.CTRL.PREFER, BOOT.STAT.STATE, BOOT.STAT.SLOT,
   BOOT.STAT.FALLBACK, BOOT.STAT.UPLOAD, BOOT.SLOT_AB.VALID, BOOT.SLOT_AB.EMPTY, BOOT.SLOT_AB.SVN,
   BOOT.SLOT_AB.VERSION, BOOT.DIGEST_A.W, BOOT.DIGEST_B.W, BOOT.BOOTCOUNT.COUNT]

def trustFields : List Fld :=
  [TRUST.LIFECYCLE.ADVANCE, TRUST.LIFECYCLE.TO, TRUST.LIFECYCLE.STATE, TRUST.SVN.RUNNING, TRUST.SVN.OTP,
   TRUST.SLOT.VALID, TRUST.SLOT.REVOKED, TRUST.SLOT.MAXROLE, TRUST.SLOT.USAGE, TRUST.SLOT.KCV,
   TRUST.KEYPROG.PROGRAM, TRUST.KEYPROG.REVOKE, TRUST.KEYPROG.SLOT, TRUST.KEYPROG.MAXROLE, TRUST.KEYPROG.USAGE,
   TRUST.KEY.W, TRUST.COMPAT.PENDING, TRUST.COMPAT.LEVEL, TRUST.ATTEST_IDX_LO.INDEX, TRUST.ATTEST_IDX_HI.INDEX,
   TRUST.ATTEST_PUB.W, TRUST.ROOT_HASH.W]

def devenvFields : List Fld :=
  [DEVENV.RUN_CTRL.CANCEL, DEVENV.RUN_CTRL.RUN, DEVENV.RUN_CTRL.MOMENT, DEVENV.RUN_WHEN.WHEN, DEVENV.RUN_STAT.MEMBERS,
   DEVENV.RUN_STAT.RESULT, DEVENV.RUN_STAT.STEPS, DEVENV.RUN_STAT.SPLIT, DEVENV.RUN_STAT.SEALWAIT, DEVENV.RUN_STAT.IN_FLIGHT,
   DEVENV.BUSLOCK.OWNER, DEVENV.BUSLOCK.RELEASE, DEVENV.BUSLOCK.TAKE]

def xengineFields : List Fld :=
  [XENGINE.CTRL.HOLD_LIMIT, XENGINE.CTRL.PILOTSET, XENGINE.CTRL.HOLD, XENGINE.CTRL.PRD_MU, XENGINE.CTRL.FXU_MU,
   XENGINE.CTRL.NXT_M, XENGINE.STAT.GROUP, XENGINE.STAT.JOIN_BUSY, XENGINE.STAT.HOLD_ACTIVE, XENGINE.STAT.LEVEL_PENDING,
   XENGINE.STAT.LEVEL, XENGINE.STAT.ACTIVE_COUNT, XENGINE.STAT.NV, XENGINE.UE_LAST.MATRIX, XENGINE.UE_LAST.INDEX,
   XENGINE.UE_SFC.SFC, XENGINE.CE_COUNT.COUNT, XENGINE.UE_COUNT.COUNT, XENGINE.SKIP_COUNT.COUNT, XENGINE.SAT_COUNT.COUNT,
   XENGINE.ACTIVE.MASK, XENGINE.PACTIVE.MASK, XENGINE.CENSUS_CTRL.REQUEST, XENGINE.CENSUS_CTRL.DIR, XENGINE.CENSUS_CTRL.LINE,
   XENGINE.CENSUS_STAT.REASON, XENGINE.CENSUS_STAT.COUNT, XENGINE.CENSUS_STAT.DIR, XENGINE.CENSUS_STAT.LINE, XENGINE.CENSUS.VALID,
   XENGINE.CENSUS.NEIGHBOUR, XENGINE.CENSUS.LEVEL, XENGINE.FROZEN.MASK, XENGINE.NORM.NORM]

def xwindowFields : List Fld :=
  [XWINDOW.SEL.MATRIX, XWINDOW.SEL.TONE, XWINDOW.SEL.VICTIM, XWINDOW.CMD.WHEN, XWINDOW.CMD.WRITE,
   XWINDOW.CMD.READ, XWINDOW.WHEN.SFC, XWINDOW.XW_STAT.STATUS, XWINDOW.XW_STAT.WAITING, XWINDOW.XW_STAT.CE,
   XWINDOW.CAP_SFC.SFC, XWINDOW.CAP_SYM.SYMBOL, XWINDOW.ZEROED.MASK, XWINDOW.RDATA.I, XWINDOW.RDATA.Q,
   XWINDOW.WDATA.I, XWINDOW.WDATA.Q]

def syncFields : List Fld :=
  [SYNC.CTRL.IN_DELAY, SYNC.CTRL.OUT_LEAD, SYNC.CTRL.MODE, SYNC.STAT.LOCKED, SYNC.STAT.MISMATCH,
   SYNC.STAT.LOST, SYNC.STAT.OFFSET]

def clusterFields : List Fld :=
  [CLUSTER.CLRCODE.CODE]

def cpllFields : List Fld :=
  []

def cxsliceFields : List Fld :=
  []

def ctempFields : List Fld :=
  [CTEMP.TEMP.TEMP, CTEMP.MINMAX.CLEAR, CTEMP.MINMAX.MAX, CTEMP.MINMAX.MIN]

def laneFields : List Fld :=
  [LANE.CTRL.RESTART, LANE.CTRL.LOOP, LANE.CTRL.EQ, LANE.CTRL.RATE, LANE.STATUS.LAST_REASON,
   LANE.STATUS.DEPTH, LANE.STATUS.CAPS, LANE.STATUS.LEGACY, LANE.STATUS.CDR_LOCK, LANE.STATUS.LOL,
   LANE.STATUS.LOS, LANE.STATUS.STATE, LANE.PPM.OFFSET, LANE.PRBS_ERR.COUNT, LANE.HDR_ERR.COUNT,
   LANE.LOS_COUNT.COUNT, LANE.LOL_COUNT.COUNT, LANE.CTL_DISCARD.COUNT]

def port_ctlFields : List Fld :=
  [PORT_CTL.PROFILE.RTX_MAX, PORT_CTL.PROFILE.EXPRESS, PORT_CTL.PLOAD.B, PORT_CTL.PLOAD.FILL, PORT_CTL.PLOAD.CW,
   PORT_CTL.BOUNDS.BULK, PORT_CTL.BOUNDS.EXPRESS, PORT_CTL.RTXTIME.RTT, PORT_CTL.RTXTIME.DELTA, PORT_CTL.HOSTCFG.THRU,
   PORT_CTL.HOSTCFG.PEER, PORT_CTL.HOSTCFG.TS_EN, PORT_CTL.HOSTCFG.PAUSE, PORT_CTL.HOSTSTAT.HOST_UP, PORT_CTL.HOSTSTAT.PEER_UP,
   PORT_CTL.HOSTSTAT.STOPPED, PORT_CTL.HOSTSTAT.THRU_ACTIVE, PORT_CTL.HOSTSTAT.HOPS, PORT_CTL.HOSTSTAT.ONWARD, PORT_CTL.ISSUE.DEPTH,
   PORT_CTL.ISSUE.RATE, PORT_CTL.CUM.CUM, PORT_CTL.RXBLK_LO.N, PORT_CTL.RXBLK_HI.N, PORT_CTL.STAMP_OVER.COUNT,
   PORT_CTL.INGRESS_DROP.COUNT, PORT_CTL.EGRESS_DROP.COUNT, PORT_CTL.THRU_DROP.COUNT, PORT_CTL.PAUSE_TX.COUNT]

def port_secFields : List Fld :=
  [PORT_SEC.SECY_CTRL.ENABLE, PORT_SEC.SECY_CTRL.PROTECT, PORT_SEC.SECY_CTRL.REPLAY, PORT_SEC.SECY_CTRL.INCLUDE_SCI, PORT_SEC.SECY_CTRL.VALIDATE,
   PORT_SEC.SECY_CTRL.CIPHER, PORT_SEC.SECY_CTRL.OFFSET, PORT_SEC.SECY_CTRL.TX_ACTIVE, PORT_SEC.REPLAY_WIN.WINDOW, PORT_SEC.SCI_TX_LO.SCI,
   PORT_SEC.SCI_TX_HI.SCI, PORT_SEC.SCI_RX_LO.SCI, PORT_SEC.SCI_RX_HI.SCI, PORT_SEC.SA_CTRL.INSTALL, PORT_SEC.SA_CTRL.ENABLE,
   PORT_SEC.SA_CTRL.EXHAUSTED, PORT_SEC.SA_CTRL.AN, PORT_SEC.SA_PN_LO.PN, PORT_SEC.SA_PN_HI.PN, PORT_SEC.SA_SSCI.SSCI,
   PORT_SEC.SA_KEY0.W, PORT_SEC.SA_KEY1.W, PORT_SEC.SA_KEY2.W, PORT_SEC.SA_KEY3.W, PORT_SEC.SA_KEY4.W,
   PORT_SEC.SA_KEY5.W, PORT_SEC.SA_KEY6.W, PORT_SEC.SA_KEY7.W, PORT_SEC.SA_SALT0.W, PORT_SEC.SA_SALT1.W,
   PORT_SEC.SA_SALT2.W, PORT_SEC.PAIR_CTRL.REQUIRED, PORT_SEC.PAIR_CTRL.SRC, PORT_SEC.PAIR_CTRL.SLOT, PORT_SEC.PAIR_CTRL.NOKEY,
   PORT_SEC.PAIR_CTRL.FAILS, PORT_SEC.PAIR_KEY.W, PORT_SEC.PAIR_SET.SET, PORT_SEC.CNT.COUNT]

def lctlFields : List Fld :=
  [LCTL.MODE.BUNDLE, LCTL.MODE.SEL]

def ltrainFields : List Fld :=
  [LTRAIN.STATUS.LAST_REASON, LTRAIN.STATUS.LAST_FROM, LTRAIN.STATUS.SUBSTATE, LTRAIN.STATUS.STATE, LTRAIN.CTRL.AUTOBANK,
   LTRAIN.CTRL.AUTOWAKE, LTRAIN.CTRL.RESTART, LTRAIN.CTRL.RETRAIN, LTRAIN.CTRL.WAKE, LTRAIN.CTRL.BANK,
   LTRAIN.TIMERS.NOANSWER, LTRAIN.TIMERS.QUIET, LTRAIN.TIMERS.BEACON_MS, LTRAIN.TIMERS.JOINWAIT, LTRAIN.SRA.DN,
   LTRAIN.SRA.UP, LTRAIN.SRA.UP_HOLD, LTRAIN.SRA.ENABLE, LTRAIN.PARTNER.MEMBER, LTRAIN.PARTNER.MAXBITS,
   LTRAIN.PARTNER.CAPS, LTRAIN.PARTNER_ID_LO.ID, LTRAIN.PARTNER_ID_HI.ID, LTRAIN.ATTEMPTS.NOANSWER, LTRAIN.ATTEMPTS.ABORTS,
   LTRAIN.RETRAINS.OK, LTRAIN.RETRAINS.FAIL, LTRAIN.ENTRIES.COUNT, LTRAIN.LC0.NS, LTRAIN.LC1.SEC,
   LTRAIN.LC2.SECH, LTRAIN.LC2.FRAC, LTRAIN.RANGE.RTTC, LTRAIN.RCORR.CORR]

def lloadFields : List Fld :=
  [LLOAD.CTRL.MAXBITS, LLOAD.CTRL.MARGIN, LLOAD.SUMMARY.LBITS, LLOAD.SUMMARY.TONES, LLOAD.SUMMARY.MINMARGIN,
   LLOAD.TABLE_SEQ.SEQ, LLOAD.ARRIVAL.DELTA, LLOAD.TADV.TA, LLOAD.HOSTMASK.MASK, LLOAD.RMASK.MASK,
   LLOAD.ERASE.MASK, LLOAD.TONE.SNR, LLOAD.TONE.GAIN, LLOAD.TONE.BITS, LLOAD.FEQ.FEQ_I,
   LLOAD.FEQ.FEQ_Q]

def lmonFields : List Fld :=
  [LMON.CHAIN.OWNER, LMON.CHAIN.PRESET, LMON.NCO.FREQ, LMON.SYNCRST.CANCEL, LMON.SYNCRST.ARM,
   LMON.SYNCRST.SRC, LMON.CSTAT.VALID, LMON.CSTAT.RST_ARMED, LMON.CSTAT.BANKSTATE, LMON.CSTAT.ACTIVE,
   LMON.CSTAT.LAST_SWAP, LMON.CSTAT.SETTLE_LEFT, LMON.BANK.SWAP, LMON.RST_NS.NS, LMON.RST_SEC.SEC,
   LMON.DET_CFG.RMS_N, LMON.DET_CFG.ATT, LMON.DET_CFG.REL, LMON.DET_CFG.PD, LMON.PEAK_TH.TH,
   LMON.RMS_TH.TH, LMON.ENV_TH.TH, LMON.PEAK.LEVEL, LMON.RMS.BLOCKS, LMON.RMS.LEVEL,
   LMON.ENV.LEVEL, LMON.FSREF.DBM, LMON.CAP_CTRL.REQUEST, LMON.CAP_CTRL.TRIG, LMON.CAP_CTRL.TMO,
   LMON.CAP_CTRL.COUNT, LMON.CAP_STAT.REASON, LMON.CAP_STAT.PRESET, LMON.CAP_STAT.OWNER, LMON.CAP_STAT.N,
   LMON.CAP_NS.NS, LMON.CAP_SEC.SEC, LMON.CAP_NCO.FREQ, LMON.CNT_CTRL.CLEAR, LMON.OHW_FAIL.COUNT,
   LMON.OHF_FAIL.COUNT, LMON.UAS_LINE.COUNT, LMON.CW_LO.COUNT, LMON.CW_HI.COUNT, LMON.CW_FIX_LO.COUNT,
   LMON.CW_FIX_HI.COUNT, LMON.CW_UNCORR.COUNT, LMON.ECB.COUNT, LMON.DTU_TX_LO.COUNT, LMON.DTU_TX_HI.COUNT,
   LMON.DTU_RTX.COUNT, LMON.DTU_RECOV.COUNT, LMON.DTU_LOST.COUNT, LMON.RTX_FULL.COUNT, LMON.ES.COUNT,
   LMON.SES.COUNT, LMON.UAS.COUNT, LMON.EPOCH.COUNT, LMON.SNR_MIN.SNR, LMON.SNR_MIN.TONE,
   LMON.SNR_WATCH.TONE, LMON.WATCH_MINMAX.MAX, LMON.WATCH_MINMAX.MIN, LMON.BANKA.TAP, LMON.BANKB.TAP,
   LMON.CAP.I, LMON.CAP.Q]

def lreachFields : List Fld :=
  [LREACH.PROFILE.NETID, LREACH.PROFILE.TXPWR, LREACH.PROFILE.SF, LREACH.PROFILE.BW, LREACH.PROFILE.CR,
   LREACH.DETECT.CAPMARGIN, LREACH.DETECT.PCHIRPS, LREACH.DETECT.TH, LREACH.ALARM.IVL, LREACH.ALARM.SLOTS,
   LREACH.STATUS.QFREE, LREACH.STATUS.MASK_WAIT, LREACH.STATUS.WINDOW, LREACH.STATUS.RXSTATE, LREACH.RX_OK.COUNT,
   LREACH.CRC_FAIL.COUNT, LREACH.HDR_FAIL.COUNT, LREACH.SYNC_FAIL.COUNT, LREACH.PREEMPT.COUNT, LREACH.CAPTURED.COUNT,
   LREACH.COLLIDED.COUNT, LREACH.NO_REPLY.COUNT, LREACH.ALARM_RX.COUNT, LREACH.TX_PKT.COUNT, LREACH.TXDROP.COUNT,
   LREACH.EP_CFG.ENABLE, LREACH.EP_CFG.RETRY, LREACH.EP_CFG.POLL_IVL, LREACH.EP_CFG.SF, LREACH.EP_CFG.BW,
   LREACH.EP_CFG.CR, LREACH.EP_STAT.ABSENT, LREACH.EP_STAT.RSSI, LREACH.EP_STAT.FOFS, LREACH.EP_COUNT.RX,
   LREACH.EP_COUNT.NOREPLY, LREACH.EP_LAST.SEC]

def ldiagFields : List Fld :=
  [LDIAG.REQ.REFLECT, LDIAG.REQ.BAND, LDIAG.CFG.VF, LDIAG.CFG.TXPWR, LDIAG.CFG.FAULT_TH,
   LDIAG.REF_LEN.LEN, LDIAG.RSTAT.REASON, LDIAG.RSTAT.BAND, LDIAG.RSTAT.END, LDIAG.RSTAT.VF_MEAS,
   LDIAG.RSTAT.MORE, LDIAG.RSTAT.COUNT, LDIAG.RSTAT.LENGTH, LDIAG.VF_USED.VF, LDIAG.NOISE.LEVEL,
   LDIAG.FAULT.VALID, LDIAG.FAULT.POLARITY, LDIAG.FAULT.LEVEL, LDIAG.FAULT.DIST, LDIAG.IL0.IL_6M4,
   LDIAG.IL0.IL_3M2, LDIAG.IL1.IL_25M6, LDIAG.IL1.IL_12M8, LDIAG.RUN_NS.NS, LDIAG.RUN_SEC.SEC,
   LDIAG.PROFILE.POL1, LDIAG.PROFILE.ATT1, LDIAG.PROFILE.POL0, LDIAG.PROFILE.ATT0]

def lafeFields : List Fld :=
  [LAFE.CTRL.RANGE, LAFE.CTRL.PGA_AUTO, LAFE.CTRL.PGA, LAFE.CTRL.TXMASK, LAFE.STAT.DRIVER,
   LAFE.STAT.SWITCH, LAFE.STAT.OC, LAFE.ADCSUM.CONVERGED, LAFE.ADCSUM.PAUSED, LAFE.ADCSUM.SKEW_MAX,
   LAFE.ADCSUM.GAIN_MAX, LAFE.ADCSUM.OFFSET_MAX, LAFE.DAC_CLIP.COUNT, LAFE.ADC_OVER.COUNT, LAFE.CAL_REQ.REQUEST,
   LAFE.CAL_REQ.FULL, LAFE.CAL_STAT.STATE, LAFE.CAL_STAT.REASON, LAFE.CAL_STAT.SOURCE, LAFE.CAL_STAT.ATTEMPT,
   LAFE.CAL_STAT.KIND, LAFE.CAL_STAT.VALUES, LAFE.CAL_STAT.DEGRADED, LAFE.CAL_COUNT.COUNT, LAFE.ABORTS.GAVE_UP,
   LAFE.ABORTS.ATTEMPTS, LAFE.CL0.NS, LAFE.CL1.SEC, LAFE.CL2.SECH, LAFE.CL2.FRAC,
   LAFE.CAL_TEMP.TEMP, LAFE.PAIRPWR.DBM, LAFE.LOADDEV.DEV, LAFE.SEG.POSITION, LAFE.SEG.TRIM,
   LAFE.SEG.ERROR, LAFE.LADDER.TRIM, LAFE.LADDER.ERROR, LAFE.HYB.ECHO_RL, LAFE.HYB.RES,
   LAFE.HYB.CAP, LAFE.GAIN.DAC_TRIM, LAFE.GAIN.ADC_TRIM]

def lstdFields : List Fld :=
  [LSTD.ADV.RESTART, LSTD.ADV.MDIX, LSTD.ADV.ALT, LSTD.ADV.FR, LSTD.ADV.EEE,
   LSTD.ADV.SPEED, LSTD.ALT.AN_WIN, LSTD.STATUS.LINK, LSTD.STATUS.AN_DONE, LSTD.STATUS.SPEED,
   LSTD.STATUS.MASTER, LSTD.STATUS.MDIX, LSTD.STATUS.EEE, LSTD.STATUS.FR, LSTD.STATUS.TX_LPI,
   LSTD.STATUS.RX_LPI, LSTD.STATUS.APSYN_SEEN, LSTD.STATUS.FLP_SEEN, LSTD.LP_ABIL.LP_EEE, LSTD.LP_ABIL.LP_BASE,
   LSTD.LP_MGBT.STAT, LSTD.LINK_DOWN.COUNT, LSTD.FR_COUNT.COUNT, LSTD.PCS_ERR.COUNT, LSTD.LPI_TX.COUNT,
   LSTD.LPI_RX.COUNT, LSTD.WAKE_ERR.COUNT]

/-- The block fields of a page. -/
def blockFields : Page → List Fld
  | .ident => identFields
  | .session => sessionFields
  | .hearth => hearthFields
  | .clocks => clocksFields
  | .perf => perfFields
  | .fault => faultFields
  | .events => eventsFields
  | .calmgr => calmgrFields
  | .thermal => thermalFields
  | .timebase => timebaseFields
  | .portmap => portmapFields
  | .sorting => sortingFields
  | .letterbox => letterboxFields
  | .boot => bootFields
  | .trust => trustFields
  | .devenv => devenvFields
  | .xengine => xengineFields
  | .xwindow => xwindowFields
  | .sync => syncFields
  | .cluster => clusterFields
  | .cpll => cpllFields
  | .cxslice => cxsliceFields
  | .ctemp => ctempFields
  | .lane => laneFields
  | .port_ctl => port_ctlFields
  | .port_sec => port_secFields
  | .lctl => lctlFields
  | .ltrain => ltrainFields
  | .lload => lloadFields
  | .lmon => lmonFields
  | .lreach => lreachFields
  | .ldiag => ldiagFields
  | .lafe => lafeFields
  | .lstd => lstdFields

/-- Every field of a page, the header's first. -/
def pageFields (p : Page) : List Fld := headerFields p ++ blockFields p

/-- Every kind of page. -/
def allPages : List Page :=
  [.ident, .session, .hearth, .clocks, .perf, .fault, .events, .calmgr, .thermal, .timebase, .portmap, .sorting, .letterbox, .boot, .trust, .devenv, .xengine, .xwindow, .sync, .cluster, .cpll, .cxslice, .ctemp, .lane, .port_ctl, .port_sec, .lctl, .ltrain, .lload, .lmon, .lreach, .ldiag, .lafe, .lstd]

/-- The reset value of word `j` of a field: the table's, and the default bank of R186 for the taps
of both banks. -/
def Fld.reset (F : Fld) (j : Nat) : Nat :=
  if F.page = .lmon ∧ (F.off = 0x200 ∨ F.off = 0x300) then kaiserTap j else F.rst

end Sys2Proof.Machine
end

