-- ==== Sys2Proof/Machine/State.lean ====
section
/-! DEFINITION. The state of the part as plain data: every register field (one store, by field), the
envelopes, and the state behind the registers that the rules give the machine. -/

namespace Sys2Proof.Machine

/-! ### Lines (R121 to R126) -/

/-- The line states of R123, in the order of their codes. -/
inductive LineState where
  | off | quiet | beacon | handshake | ranging | joining | training | loading | showtime | banked
  | retrain | leaving | diag | reach | standard | faulted
  deriving DecidableEq, Repr

/-- The code of a line state (R123). -/
def LineState.code : LineState → Nat
  | .off => 0 | .quiet => 1 | .beacon => 2 | .handshake => 3 | .ranging => 4 | .joining => 5
  | .training => 6 | .loading => 7 | .showtime => 8 | .banked => 9 | .retrain => 10
  | .leaving => 11 | .diag => 12 | .reach => 13 | .standard => 14 | .faulted => 15

/-- What a line driver does (R214): the present ranking of HIGHZ, CLEAR and driving. -/
inductive Driver where
  | highz | clear | active
  deriving DecidableEq, Repr

/-! ### Posts and sealed negotiations (R37 to R46) -/

/-- Where an armed post stands: armed; held by R42 until a line of the port is in SHOWTIME; waiting for
another negotiation of its port to end (R41); its negotiation open toward `S`; confirmed for `S`. -/
inductive PostPhase where
  | armed | held | queued | negotiating | confirmed
  deriving DecidableEq, Repr

/-- An armed post of a page (R37, R38).  `target` is the superframe it lands on, where the moment
fixes one. -/
structure Post where
  page : Page
  inst : Nat
  moment : Nat
  target : Option Nat
  sealedPost : Bool
  member : Bool
  phase : PostPhase
  /-- R42 posts it unsealed, decided at POST or RUN: nothing is negotiated and SEALWAIT stays 0. -/
  plain : Bool := false
  deriving DecidableEq, Repr

/-- The mail run in flight (R43, R44). -/
structure MailRun where
  moment : Nat
  target : Option Nat
  begun : Bool
  members : Nat
  /-- LOCK values of the parcel whose pages the run posts: they land when it is over (R359). -/
  locks : List (Page × Nat × Nat) := []
  deriving DecidableEq, Repr

/-- A landing that R46 split: the units still to land on later symbol boundaries (0 the device unit, 1 + c a
cluster, 5 + l a lane, 100 + q a quad), of a run or of the post of one page. -/
structure SplitRest where
  batches : List (List Nat)
  steps : Nat
  run : Bool
  page : Page
  inst : Nat
  /-- Superframe and symbol of the boundary it last landed on. -/
  last : Nat × Nat := (0, 0)
  deriving DecidableEq, Repr

/-- The changes a sealed negotiation of a port carries (R144). -/
inductive Change where
  | sync
  | loading (line : Nat) (up : Bool) (tableId : Nat)
  | showtimeEntry (lines : List Nat)
  | profile (bits : Nat)
  | leave (lines : List Nat) (mode : Nat)
  | calGap (line : Nat)
  | bank
  | afe (line : Nat) (range : Bool) (value : Nat)
  | portDrop (line : Nat)
  | layout (entries : List Nat)
  deriving DecidableEq, Repr

/-- The open sealed negotiation of a port (R40, R41): who proposed it, the superframe it names, the
changes it carries, and whether the partner's agreement (or, as responder, our own) is held. -/
structure Neg where
  ours : Bool
  start : Nat
  target : Nat
  changes : List Change
  count : Nat
  agreed : Bool
  confirmed : Bool
  /-- SEAL messages sent so far: they repeat in turn (R71). -/
  sent : Nat := 0
  /-- Withdrawn with the mail run it served (R44): the withdrawal flag goes out in S − 1. -/
  withdrawn : Bool := false
  /-- When its latest member joined: the agreement must come within 8 superframes of it (R40, R41). -/
  since : Nat := start
  deriving DecidableEq, Repr

/-! ### Management channels (R49 to R55) -/

/-- A letterbox command in Stoker's hands (R50). -/
structure LbCommand where
  ch : Nat
  opcode : Nat
  tag : Nat
  args : List Nat
  discard : Bool
  /-- Stoker has turned to it. -/
  started : Bool := false
  deriving DecidableEq, Repr

/-- An in-band request waiting in the queue (R53, R256). -/
structure InbandReq where
  lane : Nat
  tag : Nat
  write : Bool
  addr : Nat
  count : Nat
  data : List Nat
  missing : Bool
  /-- Bytes of each access (R8): a request block always asks for words. -/
  width : Nat := 4
  deriving DecidableEq, Repr

/-- What an in-band request is answered with (R256): lane, tag, status and words. -/
structure InbandResp where
  lane : Nat
  tag : Nat
  status : Nat
  data : List Nat
  deriving DecidableEq, Repr

/-- An EVENT block sent in-band (R256, R327): its lane, the source with its level, and the postmark's nanoseconds. -/
structure EventBlock where
  lane : Nat
  source : Nat
  level : Bool
  ns : Nat
  deriving DecidableEq, Repr

/-- A management session (R339 to R342): `nonce` and `expired` number draws of the true random
source. -/
structure Session where
  isOpen : Bool := false
  role : Nat := 0
  slot : Nat := 0
  nonce : Nat := 0
  expired : Option Nat := none
  deriving DecidableEq, Repr

/-- The channels: the answer each last gave, the MSPI flags (R52), the MDIO window (R54), the in-band
queue and answers (R53), the letterbox slot and commands (R50), the bus lock (R43, R55). -/
structure Mgmt where
  lastRead : List Nat := []
  lastError : Bool := false
  mspiErr : Bool := false
  mspiDenied : Bool := false
  mspiLate : Bool := false
  mspiAlign : Bool := false
  mspiBadcmd : Bool := false
  mspiStatusByte : Nat := 0
  mdioAddr : Nat := 0
  mdioHold : Nat := 0
  mdioLatch : Nat := 0
  mdioErr : Bool := false
  mdioLate : Bool := false
  mdioLocked : Bool := false
  ibQueue : List InbandReq := []
  ibAnswers : List InbandResp := []
  ibEvents : List EventBlock := []
  /-- By lane, the MRSP, MDATA and EVENT blocks sent on its slots, in order (R256). -/
  ibBlocks : Store (List Block) := []
  lbLease : Option Nat := none
  lbCommands : List LbCommand := []
  busOwner : Nat := 0
  sessions : Store Session := []
  deriving DecidableEq, Repr

/-! ### Trust, boot and flash (R329 to R361) -/

/-- Where the key of a slot comes from: as the module ships (R331) or burnt by the host (R332). -/
inductive KeySource where
  | shipped (slot : Nat)
  | burnt (key : Nat)
  deriving DecidableEq, Repr

/-- A key slot of the OTP (R330). -/
structure KeySlot where
  valid : Bool := false
  revoked : Bool := false
  maxRole : Nat := 0
  usage : Nat := 0
  key : KeySource := .burnt 0
  deriving DecidableEq, Repr

/-- An image slot of the flash (R333): the image the module shipped with, or the words an upload
wrote, with what the last verification found. -/
inductive ImageSource where
  | shipped (slot : Nat)
  | uploaded (length : Nat) (words : List Nat)
  | erased
  deriving DecidableEq, Repr

structure ImageSlot where
  source : ImageSource
  valid : Bool := false
  confirmed : Bool := true
  deriving DecidableEq, Repr

/-- An open firmware upload (R337). -/
structure Upload where
  ch : Nat
  length : Nat
  words : List Nat
  next : Nat
  lastLen : Nat
  deriving DecidableEq, Repr

/-- A parcel being imported or exported on a channel (R358, R359): words and position. -/
structure Transfer where
  words : List Nat := []
  next : Nat := 0
  lastLen : Nat := 0
  length : Nat := 0
  deriving DecidableEq, Repr

structure TrustX where
  lifecycle : Nat := 0
  svn : Nat := 0
  slots : Store KeySlot := []
  prefer : Nat := 0
  trial : Option Nat := none
  bootCount : Nat := 0
  bootState : Nat := 0
  running : Nat := 0
  fallback : Bool := false
  images : Store ImageSlot := []
  bootParcel : List Nat := []
  upload : Option Upload := none
  exports : Store Transfer := []
  imports : Store Transfer := []
  reports : Store (List Nat) := []
  attestNext : Nat := 0
  attestEnd : Nat := 0
  attestOff : Bool := false
  burning : Option (Nat × KeySlot) := none
  compat : Nat := 0xB0
  deriving DecidableEq, Repr

/-! ### Faults and events (R307 to R328) -/

/-- One fault as a source reports it (R307, R309): code, class 0 to 3, source, and the address,
master and type of the access where it arose from one. -/
structure FaultReport where
  code : Nat
  cls : Nat
  source : Nat
  master : Nat := 0
  access : Nat := 0
  addr : Nat := 0
  injected : Bool := false
  deriving DecidableEq, Repr

structure FaultX where
  s3 : Bool := false
  faultN : Bool := false
  glowFrozen : Bool := false
  handling : Option Nat := none
  nextSeq : Nat := 1
  isolated : List Nat := []
  recovering : List Nat := []
  shown : List Nat := []
  ignored : List Nat := []
  watchdogArmed : Bool := false
  thermalHold : Bool := false
  /-- An injected fault that the next sample takes (R317), and the sources that show HEALTH 1 and 2 for an
  injection's handling time. -/
  inject : Option FaultReport := none
  injRecovering : List Nat := []
  injShown : List Nat := []
  /-- Masters whose recovery after a revocation runs (R319). -/
  revoked : List Nat := []
  deriving DecidableEq, Repr

/-- Interrupt pins and in-band event blocks (R326, R327): `hold` a pin or source in its hold time,
`dirty` a source whose level changed during the hold.  `syncOff` counts SYNC_IN edges in a row that lay out
of place (R269). -/
structure EventX where
  pinA : Bool := false
  pinB : Bool := false
  holdA : Bool := false
  holdB : Bool := false
  ibHold : List Nat := []
  ibDirty : List Nat := []
  /-- Postmark nanoseconds of the latest change of level of a source (R327). -/
  ibWhen : Store Nat := []
  levels : List Nat := []
  syncOff : Nat := 0
  /-- High time of SYNC_OUT's latest pulse, and how long before its boundary it rose, in samples (R268). -/
  syncHigh : Nat := 0
  syncLead : Nat := 0
  /-- The bits of the frame being received on SYNC_IN, from its start on (R269). -/
  syncBits : Option (List Bool) := none
  deriving DecidableEq, Repr

/-! ### Clocks, time, levels and power (R274 to R305) -/

inductive KoscState where
  | off | starting | good | bad
  deriving DecidableEq, Repr

inductive RefState where
  | absent | judging | good
  deriving DecidableEq, Repr

/-- The sources of CMUX (R279), and no clock. -/
inductive ClkSrc where
  | hosc | kosc | spll | gated
  deriving DecidableEq, Repr

structure ClockX where
  csrc : ClkSrc := .hosc
  running : Bool := false
  kosc : KoscState := .off
  koscPasses : Nat := 0
  ref : RefState := .absent
  locked : List Nat := []
  started : List Nat := []
  spllTripped : Bool := false
  tsrc : Nat := 0
  holdKosc : Bool := false
  trimCode : Option Int := none
  trimState : Nat := 0
  /-- The FREQMON request in progress: reference clock code and GATE (R283). -/
  fm : Option (Nat × Nat) := none
  coldStep : Nat := 0
  calDone : Bool := false
  refinSeen : Bool := false
  bootDone : Bool := false
  identReady : Bool := false
  absentJudged : Bool := false
  /-- The symbol grid runs (R21). -/
  grid : Bool := false
  rails : List Nat := [0, 1, 2, 3, 4, 5, 6, 7]
  resetHeld : Bool := true
  deriving DecidableEq, Repr

/-- The POSTMARK counter (R7, R286): seconds, nanoseconds, 1/256 ns and the 32-bit sub-fraction. -/
structure TimeX where
  sec : Nat := 0
  ns : Nat := 0
  frac : Nat := 0
  sub : Nat := 0
  valid : Bool := false
  suspect : Bool := false
  setArmed : Bool := false
  ppsOut : Bool := false
  deriving DecidableEq, Repr

/-- A change of performance level in progress (R110, R290, R291); `waiting` while a join holds it back
(R113). -/
inductive LevelPhase where
  | idle | waiting | proposing | nvWait | vxDown | vxUp | nvUpWait
  deriving DecidableEq, Repr

/-- A write over AVSBus (R289): the rail that Select names, AVS_CLK's divider and the value. -/
structure AvsWrite where
  rail : Nat
  clkdiv : Nat
  value : Nat
  deriving DecidableEq, Repr

structure LevelX where
  level : Nat := 3
  going : Nat := 3
  phase : LevelPhase := .idle
  nv : Nat := 33
  cap : Nat := 0
  avsFail : Bool := false
  tries : Nat := 0
  landSfc : Nat := 0
  refused : List Nat := []
  reproposed : Bool := false
  overCurrent : Nat := 0
  /-- Current reads left of the 100 ms between two steps of the current limit (R293). -/
  currentHold : Nat := 0
  stepWanted : Bool := false
  coldRead : Bool := false
  /-- The XPLL clock in 10 MHz, the body bias in 0.01 V and the SRAM write assist in force (R285, R288, R290, R291). -/
  clock : Nat := 40
  bias : Int := 0
  assist : Bool := true
  /-- The last Voltage write, in mV, and the last VoutTransitionRate write over AVSBus (R289). -/
  vxWrite : Option AvsWrite := none
  rateWrite : Option AvsWrite := none
  deriving DecidableEq, Repr

structure PowerX where
  state : Nat := 0
  sub : Nat := 0
  stage : Nat := 0
  hearth : Bool := false
  doze : Bool := false
  gated : List Nat := []
  waking : Bool := false
  retried : Bool := false
  vxReady : Bool := false
  deriving DecidableEq, Repr

/-! ### Lines, ports and lanes -/

/-- A received LOAD segment set of one direction: the TABLE_ID and the segments held (R142). -/
structure LoadSet where
  id : Nat := 0
  segs : Store (List Nat) := []
  deriving DecidableEq, Repr

/-- The state of a line behind its pages (R93, R121 to R154). -/
structure LineX where
  st : LineState := .off
  sub : Nat := 0
  /-- Member of the XENGINE passes (R93). -/
  active : Bool := false
  pilotActive : Bool := false
  frozen : Bool := false
  /-- Declared dead, and inactive from the second symbol boundary (R106, R107). -/
  dying : Bool := false
  /-- The QUIET hold: 0 none, 1 after a no-answer cycle, 2 after an abort, 3 after four PAIR_FAIL, 4
  while pairing has no key (R124, R350). -/
  hold : Nat := 0
  pairFails : Nat := 0
  /-- Pilots are sent on the line (R128, R94). -/
  pilots : Bool := false
  /-- The pilot word the head sends in this block, KIND, CORR, SFC_P, and the one it sends from the next block on
  (R128, R134, R149). -/
  word : Option (Nat × Int × Nat) := none
  wantWord : Option (Nat × Int × Nat) := none
  /-- Dead and inactive: nothing is sent on it until it changes state (R107). -/
  silent : Bool := false
  nonce : Nat := 0
  peerNonce : Nat := 0
  peerId : Nat := 0
  offered : Bool := false
  proofOk : Bool := false
  goSent : Bool := false
  goBlock : Nat := 0
  pairReq : Bool := false
  remoteLine : Nat := 0
  remoteSet : Nat := 0
  /-- The OFFER's mask, sent or received: tone k in bit k (R130, R139). -/
  offerMask : Nat := 0
  rttc : Nat := 0
  taC : Nat := 0
  ta : Nat := 0
  lastP : Option Nat := none
  /-- The SFC of the remote grid, while a V-tail holds it (R22). -/
  remote : Option Nat := none
  trainStart : Nat := 0
  groups : List Nat := []
  snrReady : Bool := false
  loadSent : Bool := false
  /-- Tables in effect: entries of R142 by tone, received and transmitted direction. -/
  rxTable : Store Nat := []
  txTable : Store Nat := []
  rxId : Nat := 0
  txId : Nat := 0
  /-- Tables to come into effect: ours for the received direction, the partner's for ours. -/
  newRx : Option (Nat × Store Nat) := none
  newTx : Option (Nat × Store Nat) := none
  /-- The equaliser taps in force, by tone, of which LLOAD shows the Q4.12 value (R65). -/
  taps : Store Cx := []
  /-- LOAD segments received, by direction (1 upstream). -/
  inLoad : Store LoadSet := []
  sendSegs : List Nat := []
  ohBad : Nat := 0
  berf : Bool := false
  upCount : Nat := 0
  sraPending : Bool := false
  sraRefusals : Nat := 0
  sraDown : Bool := false
  txFrame : List Nat := []
  rxFrame : Store Nat := []
  /-- No TIMING message before this superframe (R60). -/
  timingUntil : Nat := 0
  timingSend : Option Int := none
  taPending : Option (Int × Nat) := none
  retrainStart : Nat := 0
  rejoin : Nat := 0
  /-- The driver holds the clear code in this symbol while the DAC range switches (R219, R220). -/
  rangeSwitch : Bool := false
  /-- Symbols left of the clear code that a landed change of range holds outside SHOWTIME (R219). -/
  rangeHold : Nat := 0
  /-- Gain codes a join lowered (R102 step 7), by tone. -/
  cut : Store Nat := []
  /-- Every tone group has landed with this tail's feedback, seen at a pilot-cycle boundary (R140). -/
  fed : Bool := false
  /-- The round trip in 1/16 sample (R134). -/
  roundTrip : Nat := 0
  /-- Sums of R65 over the training symbols: X Y* and |Y|² by tone, and how many symbols. -/
  accNum : Store Cx := []
  accDen : Store Rat := []
  accCount : Nat := 0
  /-- |e|² summed over the data symbols of the pilot cycle, and their number, by tone (R65). -/
  errSum : Store Rat := []
  errCount : Store Nat := []
  /-- A tail's errors on the latest pilot symbol, by tone (R98). -/
  tailErr : Store Cx := []
  /-- Received power of the latest data symbols and pilot symbols, newest first (R106). -/
  powers : List Rat := []
  pilotPowers : List Rat := []
  /-- Squares of the ADC samples, relative to full scale, and their number: of the pilot cycle and of the
  superframe; samples at full scale and clipped DAC samples of the cycle (R213, R221). -/
  adcSum : Rat := 0
  adcCount : Nat := 0
  adcSumSf : Rat := 0
  adcCountSf : Nat := 0
  adcFull : Nat := 0
  dacClipped : Nat := 0
  /-- TXMASK in force on a V line (R57, R236), and HOSTMASK in force, tone k in bit k (R62). -/
  txMask : Nat := 0
  hostMask : Nat := 0
  /-- New tables of both directions wait for their segments to be sent (R24, R146). -/
  tablesPending : Bool := false
  /-- The type of message the line's frame carried last (R71). -/
  turn : Nat := 0
  /-- The line was in SHOWTIME or BANKED at some time in this POSTMARK second (R197). -/
  upSec : Bool := false
  /-- Pilot cycles in a row with the RMS below −17 dBFS (R221). -/
  lowCycles : Nat := 0
  /-- The second DRIVER_OC came within 1 s: FAULTED until a soft reset of LAFE (R217). -/
  ocHeld : Bool := false
  ocAt : Option Nat := none
  deriving DecidableEq, Repr

/-- A DTU kept in the retransmission buffer (R80). -/
structure DtuCopy where
  dtu : Dtu
  sends : Nat
  /-- Coded bits of the port still to go until its last bit is sent. -/
  left : Nat
  /-- Symbols left of the waiting time of rule 4 of R80 before it can count as missing. -/
  wait : Nat
  missing : Bool
  deriving DecidableEq, Repr

/-- An installed SA of a SecY (R353): association number, packet number, SSCI, key and salt words. -/
structure Sa where
  an : Nat := 0
  pn : Nat := 0
  ssci : Nat := 0
  key : List Nat := []
  salt : List Nat := []
  warned : Bool := false
  exhausted : Bool := false
  deriving DecidableEq, Repr

/-- What a port's receiver counted in this POSTMARK second (R197): codewords decoded and uncorrected,
error control blocks, DTUs expected and lost. -/
structure Tally where
  cw : Nat := 0
  bad : Nat := 0
  ecb : Nat := 0
  dtus : Nat := 0
  lost : Nat := 0
  deriving DecidableEq, Repr

/-- The state of a port behind its pages. -/
structure PortX where
  tally : Tally := {}
  /-- A fall of the issue rate from S − 2 (R27, R258): the rate held until the landing. -/
  lowered : Option Rat := none
  pauseOn : Bool := false
  /-- A frame of the host's stream has begun and not ended (R256). -/
  inFrame : Bool := false
  /-- The superframe of SHOWTIME entry, until a HOSTSTAT has come or been given up (R264). -/
  statSince : Option Nat := none
  /-- The HOSTSTAT fields sent last: flags, ONWARD, HOPS (R263). -/
  lastStat : Nat × Nat × Nat := (0, 0, 0)
  neg : Option Neg := none
  /-- The SEAL code the port's overhead words carry (R70). -/
  sealCode : Nat := 0
  /-- SEAL messages held of a partner's negotiation (R144). -/
  sealHeld : Store (List Nat) := []
  joinFails : Nat := 0
  dropLines : List Nat := []
  dropSince : Option Nat := none
  hostDue : Nat := 0
  /-- UP as the port's SORT blocks last showed it (R256). -/
  sortUp : Bool := false
  waking : Nat := 0
  wakeTries : Nat := 0
  wakeSfc : Nat := 0
  express : Bool := false
  /-- Host blocks waiting in the ingress buffer (R28, R257). -/
  ingress : List Block := []
  /-- What the port's slots carry toward the host, in order: its stream with the control blocks between the frames (R255,
  R256); whether a frame of it has begun and not ended; and what stands where no block waits (R262, R264). -/
  egress : List Block := []
  egressOpen : Bool := false
  fill : Block := remoteFault
  quad : List Block := []
  txBits : List Bool := []
  rxBits : List Bool := []
  rxLlr : List Rat := []
  nextSeq : Nat := 0
  startDue : Bool := true
  held : List DtuCopy := []
  /-- The oldest unacknowledged sequence, which opens the window of ACK_SEQ (R80). -/
  ackBase : Nat := 0
  rxNext : Nat := 0
  /-- The START DTU of this run of sequences has been taken (R81, R82). -/
  rxStarted : Bool := false
  rxHeld : List Dtu := []
  rxBad : List Bool := []
  txScr : Nat := 0
  rxScr : Nat := 0
  onlyEmpty : Bool := false
  /-- The profile or the level changed, and the figures are still to follow (R83). -/
  boundDue : Bool := false
  /-- Sequences sent with EMPTY = 0 and not acknowledged (R80, R82). -/
  unacked : List Nat := []
  /-- A frame is being dropped at the ingress buffer (R259), at the through buffer (R266). -/
  dropping : Bool := false
  /-- Frames in the SecY's hands, transmit and receive, and the SAs installed (R353). -/
  secTx : List Block := []
  secRx : List Block := []
  sas : Store Sa := []
  /-- SAs installed while a frame of their direction is in the SecY's hands: they land at its end (R353). -/
  sasNext : Store Sa := []
  /-- The transmit SA of the frame in the SecY's hands (R353). -/
  secSa : Nat := 0
  /-- The HOST pairing key committed (R349). -/
  pairKey : Option Nat := none
  /-- Control blocks and PAUSE frames that wait for the end of the frame on the port's slots (R256, R261). -/
  control : List Block := []
  /-- The issue accumulator in blocks (R258): what the SecY adds to the stream is debited from it (R354). -/
  credit : Int := 0
  deriving DecidableEq, Repr

/-- What a lane's transmitter carries (R253, R262, R265). -/
inductive LaneSignal where
  | quiet | prbs31 | idleFault | slots | returned
  deriving DecidableEq, Repr

/-- The state of a Postline lane behind its page: what it sends, and markers sent (R256). -/
structure LaneX where
  signal : LaneSignal := .quiet
  markers : Nat := 0
  /-- What LOOP shows in force, so that leaving it is seen (R265). -/
  loop : Nat := 0
  /-- The blocks outside its ports' streams that the lane sent last: an AM block, an EXCHANGE OFFER or four CONFIRMs, or in
  LOOP FAR the block it returned (R265). -/
  sent : List Block := []
  /-- The period in ns at which they go out again, 0 for once (R253). -/
  every : Nat := 0
  /-- Invalid sync headers among the last 64 blocks received (R254, R273). -/
  headers : List Bool := []
  deriving DecidableEq, Repr

/-! ### The line monitor (R183 to R209) -/

/-- A capture asked for (R195): trigger and samples, and, once the first sample is taken, its preset,
owner, NCO and postmark. -/
structure Capture where
  trig : Nat
  count : Nat
  started : Bool := false
  /-- A synchronising reset has landed since the request. -/
  synced : Bool := false
  preset : Nat := 0
  owner : Nat := 0
  nco : Nat := 0
  ns : Nat := 0
  sec : Nat := 0
  /-- The words of the samples taken so far. -/
  taken : List Nat := []
  deriving DecidableEq, Repr

/-- An armed synchronising reset (R189): its source, and the superframe, symbol and second in which it was armed. -/
structure SyncArm where
  src : Nat
  sfc : Nat
  sym : Nat
  sec : Nat
  deriving DecidableEq, Repr

/-- A line's monitor chain: its owner with the preset, the NCO and the Reach profile in use (R187, R189), the mixer's
phase, the decimators' registers and their count of ADC samples (R183), settling (R188), the armed reset (R189), the banks
and the fade (R190, R191), the detectors (R193) and the capture (R195). -/
structure MonX where
  owner : Nat := 0
  preset : Nat := 0
  nco : Nat := 0
  profile : Nat × Nat × Nat := (0, 0, 0)
  phase : Nat := 0
  integ : List Cx := List.replicate 5 Cx.zero
  combs : List Cx := List.replicate 5 Cx.zero
  half : List Cx := []
  fir : List Cx := []
  ticks : Nat := 0
  valid : Bool := false
  settle : Nat := 0
  armed : Option SyncArm := none
  bank : Nat := 0
  active : Nat := 0
  fade : Nat := 0
  peak : Rat := 0
  env : Rat := 0
  sum : Rat := 0
  count : Nat := 0
  cap : Option Capture := none
  /-- COUNT, END and the distances of the last completed reflectometry result (R205). -/
  prev : Option (Nat × Nat × List Nat) := none
  deriving DecidableEq, Repr

/-- A reflectometry run (R202): the band used, its step, the postmark of the first line chirp, at which the pair is back, and
the DAC samples since the load was connected. -/
structure ReflX where
  band : Nat
  step : Nat
  ns : Nat := 0
  sec : Nat := 0
  pos : Nat := 0
  deriving DecidableEq, Repr

/-! ### Calibration (R226 to R235) -/

/-- A line's foreground calibration: the due entry (source and moment), the run's kind, the series, and
the gradual application of new trims (step, old and new trims). -/
structure CalX where
  st : Nat := 0
  due : Option (Nat × Nat) := none
  full : Bool := false
  request : Bool := false
  /-- The power-up calibration of the line has not ended (R218). -/
  powerup : Bool := true
  counted : Nat := 0
  loadFails : Nat := 0
  /-- The spacing after an attempt runs (R232). -/
  spacing : Bool := false
  /-- The boundary S of the gap (R27). -/
  gap : Option Nat := none
  /-- Reconnected after the run, so that SWITCH reads pair. -/
  onLoad : Bool := true
  applied : Nat := 0
  applyTo : List (Int × Int) := []
  /-- The application starts with the end of the run's own gap (R234). -/
  applyHeld : Bool := false
  /-- The moment in ns at which the run in progress started (R229). -/
  since : Nat := 0
  /-- Offset, gain and skew trims of the eight ADC lanes (R224). -/
  lanes : List (Int × Int × Int) := []
  /-- TXCLR_N cleared a run, and its next attempt waits (R231). -/
  cleared : Bool := false
  deriving DecidableEq, Repr

/-! ### Reach (R155 to R182) -/

/-- A packet the Reach modem sends or keeps (R160, R177). -/
structure ReachPkt where
  addr : Nat
  kind : Nat
  seq : Nat
  opens : Bool
  payload : List Nat
  sf : Nat
  bw : Nat
  cr : Nat
  /-- Time in ns that must pass before a handshake message starts, after the end of the one that it replies to (R129). -/
  gap : Nat := 0
  deriving DecidableEq, Repr

/-- A host record waiting in the transmit queue (R177). -/
structure ReachRecord where
  addr : Nat
  kind : Nat
  urgent : Bool
  payload : List Nat
  deriving DecidableEq, Repr

/-- The reception on the decoding path (R165 to R169). -/
structure ReachRx where
  bin : Nat
  power : Int
  sf : Nat
  bw : Nat
  /-- CR of the receiver's profile; `cr` is the packet's. -/
  searchCr : Nat := 0
  cr : Nat := 0
  eps : Int := 0
  snr : Int := 0
  ns : Nat := 0
  sec : Nat := 0
  addr : Nat := 0
  kind : Nat := 0
  seq : Nat := 0
  len : Nat := 0
  deriving DecidableEq, Repr

structure ReachX where
  queue : List ReachRecord := []
  /-- SEQ of the last DATA or POLL to an address (R171). -/
  seqs : Store Nat := []
  tx : Option ReachPkt := none
  chirps : List (Bool × Nat) := []
  /-- DAC samples of the packet sent so far (R156). -/
  pos : Nat := 0
  /-- The peak voltage of the packet being sent (R156). -/
  volts : Rat := 0
  /-- Messages that fell due while a reception was held or another packet was sent (R170). -/
  due : List ReachPkt := []
  rx : Option ReachRx := none
  /-- The POLL whose REPLY is awaited, and how many repeats it has left (R172). -/
  await : Option (ReachPkt × Nat) := none
  /-- A POLL to repeat. -/
  again : Option (ReachPkt × Nat) := none
  /-- POLLs to repeat before which another POLL went out, with their repeats left and where they come from (R172, R176). -/
  repeats : List (ReachPkt × Nat × Nat) := []
  /-- Where the latest POLL came from (R176): 0 a host record, 1 an URGENT one, 2 the poll interval. -/
  pollFrom : Nat := 0
  /-- The reply window of the line's latest BEACON is open (R129). -/
  beaconOpen : Bool := false
  unanswered : Store Nat := []
  polls : List Nat := []
  windowDue : Bool := false
  opening : Bool := false
  windows : Nat := 0
  alarms : List (Nat × Nat) := []
  acks : List (Nat × Nat) := []
  /-- Packets delivered in the last 10 s: ADDR, KIND, SEQ and the second (R171). -/
  seen : List (Nat × Nat × Nat × Nat) := []
  /-- The mask of a wider band is awaited on V lines of the tag (R179). -/
  maskWait : Bool := false
  /-- The powers of the last 16 good packets (R221). -/
  powers : List Int := []
  /-- A post landed during a packet and applies at its end (R179, R219, R222). -/
  held : List Page := []
  deriving DecidableEq, Repr

/-! ### STANDARD quads (R238 to R250) -/

/-- A STANDARD quad, under its first line: a beacon window is open; alternation stopped by a qualified
burst (R242); the advertisement in force, taken from ADV when a negotiation starts (R241): speeds in bits
4:0, EEE speeds in bits 9:5, fast retrain in bit 10, MDIX in bits 12:11, ALT in bit 13. -/
structure StdX where
  beacon : Bool := false
  halted : Bool := false
  adv : Nat := 0
  /-- Message pages sent in the negotiation, pairs whose polarity the core corrects (bit i pair i), and the blocks that went to
  the partner last (R238, R240, R241). -/
  pages : List Nat := []
  inverted : Nat := 0
  out : List Block := []
  deriving DecidableEq, Repr

/-! ### The crosstalk engine (R87 to R120) -/

/-- What stands at a line DAC's input (R214, R218): one code, the samples of a symbol, the codes of a calibration run, or the
samples of a BASE-T core. -/
inductive DacInput where
  | code (c : Nat)
  | samples (cs : List Nat)
  | calibration
  | core
  deriving DecidableEq, Repr

/-- An NXT increment on its way to its landing (R96): passes left, entry, increment. -/
structure NxtInc where
  left : Nat
  key : Nat
  re : Int
  im : Int
  deriving DecidableEq, Repr

/-- The phases of a join (R102). -/
inductive JoinPhase where
  | waiting | first | nxtWritten | second | rowsWritten | fxuWritten | written
  deriving DecidableEq, Repr

structure Join where
  ports : List Nat
  lines : List Nat
  phase : JoinPhase
  start : Nat
  deriving DecidableEq, Repr

/-- What an XWINDOW request waits for (R118). -/
structure XwRequest where
  write : Bool
  matrix : Nat
  tone : Nat
  victim : Nat
  moment : Nat
  target : Option Nat
  master : Nat
  shadow : Bool
  /-- Superframe and symbol in which it was requested, or its row reached the shadow (R118). -/
  since : Nat × Nat
  data : List Nat
  deriving DecidableEq, Repr

structure XeX where
  /-- Entries of the three matrices: key matrix × 2^21 + index (R90), raw Q2.14 parts. -/
  coef : Store (Int × Int) := []
  /-- T_{k,d} of the symbol in progress: key d × 128 + k. -/
  tx : Store Cx := []
  pend : List NxtInc := []
  /-- The input of every line DAC in the symbol in progress: 0x2000 held where nothing is listed (R17, R57, R218). -/
  dac : Store DacInput := []
  /-- Lines whose driver stays CLEAR until their next symbol (R216, R217). -/
  resuming : List Nat := []
  /-- Pilot errors of the cycle: key (t × 128 + v) × 128 + k; the tails' in `feedback`; the amplitudes of the
  pilots they are correlated with, upstream and downstream (R94, R97). -/
  pilotErr : Store Cx := []
  feedback : Store Cx := []
  ampUp : Store Rat := []
  ampDown : Store Rat := []
  /-- Bank C: sums of a join's correlations, and of the powers they are measured against, by entry key
  (R102); the words of it that an error took (R114). -/
  bankC : Store Cx := []
  powerC : Store Rat := []
  lostC : List Nat := []
  /-- Lines, and (line, tone) pairs as line × 128 + tone, left out of this cycle's landings. -/
  excluded : List Nat := []
  badRx : List Nat := []
  badTx : List Nat := []
  /-- Rows of the cycle that has begun, kept apart until the feedback of the one before is whole (R99); rows written
  at the boundary in progress, as key / 2^7 (R119). -/
  nextBadTx : List Nat := []
  written : List Nat := []
  rotated : List Nat := []
  discard : Bool := false
  /-- The bundle tags under beacon erasure (R25). -/
  erasing : List Nat := []
  prevErr : Store Cx := []
  prevBadRx : List Nat := []
  prevExcluded : List Nat := []
  prevBadTx : List Nat := []
  prevRotated : List Nat := []
  prevDiscard : Bool := false
  prevFeedback : Store Cx := []
  prevAmpUp : Store Rat := []
  prevAmpDown : Store Rat := []
  join : Option Join := none
  /-- Join requests waiting, with the superframe of each (R101), and when the first was served. -/
  queue : List (Nat × Nat) := []
  served : Option Nat := none
  lease : Option Nat := none
  /-- The sequencer the port stays reserved for between the leases of its join (R120). -/
  reserved : Option Nat := none
  waiting : List Nat := []
  clearing : List Nat := []
  recover : List Nat := []
  awaiting : List Nat := []
  freshTones : List Nat := []
  hold : Bool := false
  /-- A census in progress: direction and line; its reason and entries from the symbol boundary at which it
  starts (R117). -/
  census : Option (Nat × Nat) := none
  censusTaken : Option (Nat × List (Nat × Int)) := none
  /-- Entries left out of the landings by staging errors (R114), and when NV last rose (R112). -/
  lost : List Nat := []
  nvSince : Nat := 0
  xw : Option XwRequest := none
  deriving DecidableEq, Repr

/-! ### The whole state -/

/-- The state.  `pending` is the queue of commands that wait, first in, first out.  `regs` holds every
register field that differs from its reset value, `staged` the envelopes (R37), `frozen` the values
FREEZE captured (R35), `latched` the HI words R13 latched. -/
structure State where
  pending : List Instr
  regs : Store Nat
  staged : Store Nat
  frozen : Store Nat
  latched : Store Nat
  posts : List Post
  run : Option MailRun
  rest : List SplitRest
  mgmt : Mgmt
  trust : TrustX
  fault : FaultX
  ev : EventX
  clk : ClockX
  time : TimeX
  lvl : LevelX
  pwr : PowerX
  sfc : Nat
  sym : Nat
  lines : Store LineX
  ports : Store PortX
  lanes : Store LaneX
  mon : Store MonX
  refl : Store ReflX
  cal : Store CalX
  reach : Store ReachX
  std : Store StdX
  xe : XeX
  free : Nat
  deriving DecidableEq, Repr

/-- The key slots of a module as shipped (R331): slot 0 the provisioning key with MAXROLE MAINTAIN
and USAGE SESSION, slot 7 the vendor key with MAXROLE VENDOR (DEDUCED, log 8: USAGE SESSION, since the VENDOR
role is available on it). -/
def shippedSlots : Store KeySlot :=
  [(0, { valid := true, maxRole := 2, usage := 1, key := .shipped 0 }),
   (7, { valid := true, maxRole := 3, usage := 1, key := .shipped 7 })]

/-- The image slots of a module as shipped (PRESUMED, log 8: both hold the vendor's image, confirmed). -/
def shippedImages : Store ImageSlot :=
  [(0, { source := .shipped 0 }), (1, { source := .shipped 1 })]

/-- The sessions at reset: closed, each with a nonce of its own (R339). -/
def freshSessions (k : Nat) : Store Session :=
  [(0, { nonce := k }), (1, { nonce := k + 1 }), (2, { nonce := k + 2 })]

/-- The machine right after reset: every register at its Reset column (R10), every envelope empty, no
clock running, every rail good, RESET_N still held (R371 to R373; the cold start is the command
RESET_N_RELEASE), lifecycle PROVISION (R329). -/
def State.reset : State where
  pending := []
  regs := []
  staged := []
  frozen := []
  latched := []
  posts := []
  run := none
  rest := []
  mgmt := { sessions := freshSessions 0 }
  trust := { slots := shippedSlots, images := shippedImages }
  fault := {}
  ev := {}
  clk := {}
  time := {}
  lvl := {}
  pwr := {}
  sfc := 0
  sym := 0
  lines := []
  ports := []
  lanes := []
  mon := []
  refl := []
  cal := []
  reach := []
  std := []
  xe := {}
  free := 3

/-- Why a step stops.  Only one way: a command names a part the device does not have. -/
inductive Fault where
  /-- Raised by every meaning whose command names a line, port, lane, cluster, page instance or
  endpoint that does not exist (R3 to R5, R31).  Safe: the model stops where there is no such part. -/
  | noSuchPart (what : String) (number : Nat)
  deriving DecidableEq, Repr

/-- Why a command has no meaning. -/
inductive Refusal where
  /-- Raised by the dispatch for a command that has no meaning yet.  Safe: the model stops. -/
  | notModelled (mnemonic : String)
  deriving DecidableEq, Repr

end Sys2Proof.Machine
end

