-- ==== Sys2Proof/Machine/Ops.lean ====
section
/-! DEFINITION. The named operations over the state that every meaning uses: reading and writing a
register field, the event registers of a page (R36) and the event tree (R324 to R327), the results
of a page (R48), time captures (R7), the port layout (R4, R33, R47), and the per-line, per-port and
per-lane data. -/

namespace Sys2Proof.Machine

/-! ### Answers -/

/-- The only answer of nearly every meaning: the next state. -/
abbrev Answer := Host.Outcome State Fault Refusal

/-- Go on only where part `n` of `what` exists. -/
def onPart (what : String) (limit n : Nat) (s : State) : Answer :=
  if n < limit then .next s else .fault (.noSuchPart what n)

def onLine (l : Nat) (s : State) : Answer := onPart "line" 128 l s
def onPort (p : Nat) (s : State) : Answer := onPart "port" 128 p s
def onLane (l : Nat) (s : State) : Answer := onPart "lane" 32 l s
def onCluster (c : Nat) (s : State) : Answer := onPart "cluster" 4 c s
def onPage (p : Page) (i : Nat) (s : State) : Answer := onPart "page instance" p.count i s

/-- Act on a line that exists. -/
def withLine (l : Nat) (s : State) (f : State → State) : Answer :=
  match onLine l s with
  | .next s => .next (f s)
  | o => o

/-- Act on a port that exists. -/
def withPort (p : Nat) (s : State) (f : State → State) : Answer :=
  match onPort p s with
  | .next s => .next (f s)
  | o => o

/-- Do `f` where a condition holds, nothing elsewhere. -/
def when (c : Bool) (f : State → State) (s : State) : State := if c then f s else s

/-- The line DSP runs: in RUN and DOZE, before the first stage of an entry stops it, and not in the safe state (R297, R298,
R312). -/
def State.dspRuns (s : State) : Bool :=
  !s.fault.s3 && decide (s.pwr.state ≤ 1) && !s.pwr.waking && s.pwr.stage == 0

/-- What the line DSP of a line does or finds: nothing comes of it while the DSP stands still. -/
@[simp] abbrev withSignal (l : Nat) (s : State) (f : State → State) : Answer := withLine l s fun s => when s.dspRuns f s

/-- A time of a line, or of a port, that has passed: in the safe state nothing comes of it (R312). -/
@[simp] abbrev withTimer (l : Nat) (s : State) (f : State → State) : Answer := withLine l s fun s => when (!s.fault.s3) f s
@[simp] abbrev withPortTimer (p : Nat) (s : State) (f : State → State) : Answer := withPort p s fun s => when (!s.fault.s3) f s

/-- Act on a lane that exists. -/
def withLane (l : Nat) (s : State) (f : State → State) : Answer :=
  match onLane l s with
  | .next s => .next (f s)
  | o => o

/-! ### Register fields -/

/-- The stored value of a field: word `j` of instance `i`. -/
def State.g (s : State) (F : Fld) (i : Nat := 0) (j : Nat := 0) : Nat :=
  s.regs.get (F.reset j) (F.key i j)

/-- Store a value in a field, cut to the field's width. -/
def State.wr (s : State) (F : Fld) (v : Nat) (i : Nat := 0) (j : Nat := 0) : State :=
  { s with regs := s.regs.set (F.reset j) (F.key i j) (v % 2 ^ F.w) }

/-- Advance a saturating counter. -/
def State.bump (s : State) (F : Fld) (i : Nat := 0) (k : Nat := 1) (j : Nat := 0) : State :=
  s.wr F (satAdd F.w (s.g F i j) k) i j

/-- Advance a 64-bit counter held in a LO and a HI word (R13). -/
def State.bump64 (s : State) (lo hi : Fld) (i : Nat := 0) (k : Nat := 1) : State :=
  let n := (s.g hi i * 2 ^ 32 + s.g lo i + k) % 2 ^ 64
  (s.wr lo (n % 2 ^ 32) i).wr hi (n / 2 ^ 32) i

/-- Read the words of an array field as one number, word 0 least significant. -/
def State.gWords (s : State) (F : Fld) (i : Nat) : Nat → Nat → Nat
  | 0, _ => 0
  | n + 1, j => s.g F i j + 2 ^ 32 * State.gWords s F i n (j + 1)

/-- The bytes of the words of an array field, byte 0 of each word in bits 7:0 (R338, R340). -/
def State.gBytes (s : State) (F : Fld) (i n : Nat) : List Nat :=
  (List.range n).flatMap fun j => (List.range 4).map fun b => bits (s.g F i j) (8 * b) 8

/-- Write the words of a list into an array field, from word 0. -/
def State.wrWords (s : State) (F : Fld) (i : Nat) (ws : List Nat) : State :=
  (ws.zipIdx).foldl (fun s (w, j) => s.wr F w i j) s

/-! ### Parts -/

def State.line (s : State) (l : Nat) : LineX := s.lines.get {} l
def State.port (s : State) (p : Nat) : PortX := s.ports.get {} p
def State.lane (s : State) (l : Nat) : LaneX := s.lanes.get {} l
def State.setLine (s : State) (l : Nat) (x : LineX) : State := { s with lines := s.lines.set {} l x }
def State.setPort (s : State) (p : Nat) (x : PortX) : State := { s with ports := s.ports.set {} p x }
def State.setLane (s : State) (l : Nat) (x : LaneX) : State := { s with lanes := s.lanes.set {} l x }
def State.modLine (s : State) (l : Nat) (f : LineX → LineX) : State := s.setLine l (f (s.line l))
def State.modPort (s : State) (p : Nat) (f : PortX → PortX) : State := s.setPort p (f (s.port p))
def State.modLane (s : State) (l : Nat) (f : LaneX → LaneX) : State := s.setLane l (f (s.lane l))
def State.modMgmt (s : State) (f : Mgmt → Mgmt) : State := { s with mgmt := f s.mgmt }
def State.modTrust (s : State) (f : TrustX → TrustX) : State := { s with trust := f s.trust }
def State.modFault (s : State) (f : FaultX → FaultX) : State := { s with fault := f s.fault }
def State.modClk (s : State) (f : ClockX → ClockX) : State := { s with clk := f s.clk }
def State.modLvl (s : State) (f : LevelX → LevelX) : State := { s with lvl := f s.lvl }
def State.modPwr (s : State) (f : PowerX → PowerX) : State := { s with pwr := f s.pwr }

/-- A fresh number for a value the spec leaves open: the state's counter, which then advances. -/
def State.draw (s : State) : Nat × State := (s.free, { s with free := s.free + 1 })

/-- The number of a channel: the instance of its session and letterbox pages. -/
def chIx : Channel → Nat
  | .mspi => 0 | .inband => 1 | .mdio => 2

/-- The master ID of a channel (R319). -/
def chMaster (c : Channel) : Nat := chIx c + 1

def State.session (s : State) (c : Nat) : Session := s.mgmt.sessions.get {} c
def State.setSession (s : State) (c : Nat) (x : Session) : State :=
  s.modMgmt fun m => { m with sessions := m.sessions.set {} c x }

/-! ### Modes and the port layout -/

/-- The line mode in effect (R121). -/
def State.mode (s : State) (l : Nat) : Nat := s.g LCTL.MODE.SEL l

def State.isVHead (s : State) (l : Nat) : Bool := s.mode l == 1
def State.isVTail (s : State) (l : Nat) : Bool := s.mode l == 2
def State.isV (s : State) (l : Nat) : Bool := s.isVHead l || s.isVTail l

/-- QUADj of cluster c (R47), as a field: j = 0 to 7. -/
def quadField : Nat → Fld
  | 0 => PORTMAP.QUADS.QUAD0 | 1 => PORTMAP.QUADS.QUAD1 | 2 => PORTMAP.QUADS.QUAD2
  | 3 => PORTMAP.QUADS.QUAD3 | 4 => PORTMAP.QUADS.QUAD4 | 5 => PORTMAP.QUADS.QUAD5
  | 6 => PORTMAP.QUADS.QUAD6 | _ => PORTMAP.QUADS.QUAD7

/-- The layout code of quad q = 0 to 31 in effect (R47). -/
def State.quad (s : State) (q : Nat) : Nat := s.g (quadField (q % 8)) 0 (q / 8)

/-- The width of the port at position j of a quad of layout `code`: 0 where j is no anchor (R47). -/
def layoutWidth (code j : Nat) : Nat :=
  match code, j with
  | 0, _ => 1
  | 1, 0 => 2 | 1, 2 => 1 | 1, 3 => 1
  | 2, 0 => 1 | 2, 1 => 1 | 2, 2 => 2
  | 3, 0 => 2 | 3, 2 => 2
  | 4, 0 => 4
  | _, _ => 0

/-- The width of port p under the layout in effect, 0 where p is no anchor. -/
def State.width (s : State) (p : Nat) : Nat := layoutWidth (s.quad (p / 4)) (p % 4)

def State.isAnchor (s : State) (p : Nat) : Bool := s.width p != 0

/-- The lines of port p. -/
def State.portLines (s : State) (p : Nat) : List Nat := (List.range (s.width p)).map (p + ·)

/-- The anchor of the port that holds line l under a layout code. -/
def layoutAnchor (code l : Nat) : Nat :=
  let q := l / 4 * 4
  let j := l % 4
  match code, j with
  | 1, 1 => q
  | 2, 3 => q + 2
  | 3, 1 => q
  | 3, 3 => q + 2
  | 4, _ => q
  | _, _ => l

/-- The anchor of the port that holds line l. -/
def State.anchor (s : State) (l : Nat) : Nat := layoutAnchor (s.quad (l / 4)) l

/-- The other lines of the port of line l. -/
def State.portPeers (s : State) (l : Nat) : List Nat :=
  (s.portLines (s.anchor l)).filter (· != l)

def allLines : List Nat := List.range 128
def clusterLines (c : Nat) : List Nat := (List.range 32).map (32 * c + ·)
def clusterLanes (c : Nat) : List Nat := (List.range 8).map (8 * c + ·)

/-- Whether ENABLE of a page is 1 (R35). -/
def State.enabled (s : State) (p : Page) (i : Nat) : Bool := s.g (HDR.PAGE_CTRL.ENABLE p) i == 1

/-! ### Fault source numbers (R308) and the pages of a source -/

/-- The fault source of the unit behind a page. -/
def faultSourceOf (p : Page) (i : Nat) : Nat :=
  match p with
  | .ident => 0 | .session => 1 + i | .hearth => 4 | .clocks => 5 | .perf => 6 | .fault => 7
  | .events => 8 | .calmgr => 9 | .thermal => 10 | .timebase => 11 | .portmap => 12
  | .sorting => 13 | .letterbox => 14 | .boot => 15 | .trust => 16 | .devenv => 17
  | .xengine => 18 | .xwindow => 19 | .sync => 20
  | .cluster | .cpll | .cxslice | .ctemp => 32 + i
  | .lane => 64 + i
  | .port_ctl | .port_sec | .lctl | .ltrain | .lload | .lmon | .lreach | .ldiag | .lafe | .lstd =>
    128 + i

/-- A unit is isolated: a source isolated under R311, or a line of an isolated cluster (R313). -/
def State.isolated (s : State) (src : Nat) : Bool :=
  s.fault.isolated.contains src ||
  (decide (128 ≤ src) && s.fault.isolated.contains (32 + (src - 128) / 32))

/-- PAGE_STAT.HEALTH of a page (R313); a source that RAIL_DISAGREE cut out shows 2 until reset (R307, log 76). -/
def State.health (s : State) (p : Page) (i : Nat) : Nat :=
  let src := faultSourceOf p i
  if s.fault.s3 then 3
  else if s.isolated src || s.fault.shown.contains src || s.fault.ignored.contains src ||
      s.fault.injShown.contains src then 2
  else if s.fault.recovering.contains src || s.fault.injRecovering.contains src then 1
  else 0

/-! ### Key slots (R330 to R332, R349, R350) -/

/-- The value of a slot's key. -/
def keyValue : KeySource → Nat
  | .shipped i => Config.shippedKey i
  | .burnt k => k

def State.slot (s : State) (i : Nat) : KeySlot := s.trust.slots.get {} i

/-- USAGE bits (R331). -/
def useSession : Nat := 0
def usePairing : Nat := 1
def useParcel : Nat := 2

/-- The key of a slot that serves a purpose: VALID, not REVOKED, with the purpose's USAGE bit (R331); none in RETIRED (R329). -/
def State.slotKey (s : State) (i use : Nat) : Option Nat :=
  let x := s.slot i
  if decide (s.trust.lifecycle < 2) && x.valid && !x.revoked && bit x.usage use then some (keyValue x.key) else none

/-- The pairing key K of a port (R349). -/
def State.pairKey (s : State) (p : Nat) : Option Nat :=
  if s.g PORT_SEC.PAIR_CTRL.SRC p = 0 then (s.port p).pairKey
  else (s.slotKey (s.g PORT_SEC.PAIR_CTRL.SLOT p) usePairing).map fun k =>
    Config.kmac256 k [] 256 "APS-PAIRKEY"

/-- Pairing is required and no usable K exists (R350). -/
def State.noKey (s : State) (p : Nat) : Bool :=
  s.g PORT_SEC.PAIR_CTRL.REQUIRED p == 1 && (s.pairKey p).isNone

/-! ### The event tree -/

/-- The event source of a page's output (R324): conditions 8 to 15 of a LANE page feed the next. -/
def eventSourceOf (p : Page) (i : Nat) (second : Bool) : Nat :=
  match p with
  | .cluster => 32 + 8 * i | .cpll => 33 + 8 * i | .cxslice => 34 + 8 * i | .ctemp => 35 + 8 * i
  | .lane => 64 + 2 * i + bnat second
  | .ltrain | .lstd => 128 + 3 * i
  | .lload | .lmon | .ldiag | .lreach | .port_ctl => 129 + 3 * i
  | .lctl | .lafe | .port_sec => 130 + 3 * i
  | p => faultSourceOf p i

/-- A page's event output over the conditions of `mask` (R36). -/
def State.output (s : State) (p : Page) (i mask : Nat) : Bool :=
  s.g (HDR.EVT_PEND.PEND p) i &&& s.g (HDR.EVT_EN.EN p) i &&& mask != 0

/-- The pages that feed event source n, with the conditions that feed it (R324). -/
def sourcePages (n : Nat) : List (Page × Nat × Nat) :=
  let all := 2 ^ 32 - 1
  if n < 32 then
    (match n with
     | 0 => [(.ident, 0, all)] | 1 => [(.session, 0, all)] | 2 => [(.session, 1, all)]
     | 3 => [(.session, 2, all)] | 4 => [(.hearth, 0, all)] | 5 => [(.clocks, 0, all)]
     | 6 => [(.perf, 0, all)] | 7 => [(.fault, 0, all)] | 9 => [(.calmgr, 0, all)]
     | 10 => [(.thermal, 0, all)] | 11 => [(.timebase, 0, all)] | 12 => [(.portmap, 0, all)]
     | 13 => [(.sorting, 0, all)]
     | 14 => [(.letterbox, 0, all), (.letterbox, 1, all), (.letterbox, 2, all)]
     | 15 => [(.boot, 0, all)] | 16 => [(.trust, 0, all)] | 17 => [(.devenv, 0, all)]
     | 18 => [(.xengine, 0, all)] | 19 => [(.xwindow, 0, all)] | 20 => [(.sync, 0, all)]
     | _ => [])
  else if n < 64 then
    let c := (n - 32) / 8
    (match (n - 32) % 8 with
     | 0 => [(.cluster, c, all)] | 1 => [(.cpll, c, all)] | 2 => [(.cxslice, c, all)]
     | 3 => [(.ctemp, c, all)] | _ => [])
  else if n < 128 then [(.lane, (n - 64) / 2, if n % 2 = 0 then 0xFF else 0xFF00)]
  else
    let l := (n - 128) / 3
    (match (n - 128) % 3 with
     | 0 => [(.ltrain, l, all), (.lstd, l, all)]
     | 1 => [(.lload, l, all), (.lmon, l, all), (.ldiag, l, all), (.lreach, l, all),
             (.port_ctl, l, all)]
     | _ => [(.lctl, l, all), (.lafe, l, all), (.port_sec, l, all)])

/-- The level of event source n: the OR of its pages' outputs; a port page counts while its port is
an anchor (R324). -/
def State.sourceLevel (s : State) (n : Nat) : Bool :=
  (sourcePages n).any fun (p, i, m) =>
    (match p with | .port_ctl | .port_sec => s.isAnchor i | _ => true) && s.output p i m

/-- Some source that is 1 is routed by the mask field (R326). -/
def State.routed (s : State) (F : Fld) : Bool :=
  s.ev.levels.any fun n => bit (s.g F 0 (n / 32)) (n % 32)

/-- One interrupt pin taking the level in force, with its hold (R326). -/
def pinNext (want pin hold : Bool) (holdTime : Nat) : Bool × Bool :=
  if want then (if hold then (pin, hold) else (true, false))
  else if pin then (false, holdTime != 0) else (false, hold)

/-- Bring both interrupt pins to the routed levels; they hold their level through EMBER (R326). -/
def State.refreshPins (s : State) : State :=
  if s.pwr.state = 2 then s
  else
  let h := s.g EVENTS.CTRL.PIN_HOLD
  let a := pinNext (s.routed EVENTS.ROUTE_A.EN) s.ev.pinA s.ev.holdA h
  let b := pinNext (s.routed EVENTS.ROUTE_B.EN) s.ev.pinB s.ev.holdB h
  { s with ev := { s.ev with pinA := a.1, holdA := a.2, pinB := b.1, holdB := b.2 } }

/-- The in-band lanes that carry EVENT blocks now: lanes 0 and 16 where they are ACTIVE and in-band
management is accepted (R327).  STATUS.STATE 5 is ACTIVE and CAPS bit 1 in-band (R256, R273). -/
def State.inbandLanes (s : State) : List Nat :=
  [0, 16].filter fun l => s.g LANE.STATUS.STATE l == 5 && bit (s.g LANE.STATUS.CAPS l) 1

/-- Blocks of the in-band channel go out on a lane's slots (R256). -/
def Mgmt.sendBlocks (m : Mgmt) (l : Nat) (bs : List Block) : Mgmt :=
  { m with ibBlocks := m.ibBlocks.set [] l (m.ibBlocks.get [] l ++ bs) }

/-- Send the EVENT block of source n, with the postmark's nanoseconds, on every in-band lane (R256, R327). -/
def State.sendEvent (s : State) (n : Nat) (level : Bool) : State :=
  let k := s.inbandLanes.length
  if k = 0 then s
  else
    let block := controlBlock 8 0 (n * 2 ^ 39 + bnat level * 2 ^ 38 + s.ev.ibWhen.get 0 n % 2 ^ 32)
    let s := s.modMgmt fun m =>
      s.inbandLanes.foldl (fun m l => m.sendBlocks l [block])
        { m with ibEvents := m.ibEvents ++
            s.inbandLanes.map fun l => { lane := l, source := n, level := level, ns := s.ev.ibWhen.get 0 n } }
    s.bump EVENTS.IB_SENT.COUNT 0 k

/-- A block falls due for source n: sent where the source is routed, or after the hold that its last block began (R327). -/
def State.inbandDue (s : State) (n : Nat) (level : Bool) : State :=
  if bit (s.g EVENTS.ROUTE_IB.EN 0 (n / 32)) (n % 32) && !s.inbandLanes.isEmpty then
    if s.ev.ibHold.contains n then
      { s with ev := { s.ev with ibDirty := if s.ev.ibDirty.contains n then s.ev.ibDirty
                                             else n :: s.ev.ibDirty } }
    else
      let s := s.sendEvent n level
      if s.g EVENTS.CTRL.IB_HOLD = 0 then s
      else { s with ev := { s.ev with ibHold := n :: s.ev.ibHold } }
  else s

/-- A change of level of source n, with its postmark's nanoseconds (R327). -/
def State.inbandChange (s : State) (n : Nat) (level : Bool) : State :=
  ({ s with ev := { s.ev with ibWhen := s.ev.ibWhen.set 0 n s.time.ns } } : State).inbandDue n level

/-- Insert into a list kept in rising order without repeats. -/
def insertSorted (n : Nat) : List Nat → List Nat
  | [] => [n]
  | a :: l => if n < a then n :: a :: l else if n = a then a :: l else a :: insertSorted n l

/-- Bring event source n to the level its pages now give it, and what follows from a change. -/
def State.refreshSource (s : State) (n : Nat) : State :=
  let now := s.sourceLevel n
  if now = s.ev.levels.contains n then s
  else
    let ls := if now then insertSorted n s.ev.levels else s.ev.levels.filter (· != n)
    ({ s with ev := { s.ev with levels := ls } }.inbandChange n now).refreshPins

/-- Bring the sources fed by a page up to date. -/
def State.refreshPage (s : State) (p : Page) (i : Nat) : State :=
  let s := s.refreshSource (eventSourceOf p i false)
  if p = .lane then s.refreshSource (eventSourceOf p i true) else s

/-- The number of 1 bits among the low 32 bits of a mask. -/
def popCount (m : Nat) : Nat := ((List.range 32).filter (bit m)).length

/-- Rising edges of the conditions of `mask` on a page: PEND set, EVT_COUNT advanced by their number,
the outputs brought up to date (R36). -/
def State.edges (s : State) (p : Page) (i mask : Nat) : State :=
  if mask = 0 then s
  else
    let s := s.wr (HDR.EVT_PEND.PEND p) (s.g (HDR.EVT_PEND.PEND p) i ||| mask) i
    (s.bump (HDR.EVT_COUNT.COUNT p) i (popCount mask)).refreshPage p i

/-- A condition that is high for one cycle. -/
def State.pulse (s : State) (p : Page) (i b : Nat) : State := s.edges p i (2 ^ b)

/-- A condition that shows a level: a rise is an edge (R36). -/
def State.cond (s : State) (p : Page) (i b : Nat) (on : Bool) : State :=
  let raw := s.g (HDR.EVT_RAW.RAW p) i
  if on = bit raw b then s
  else if on then (s.wr (HDR.EVT_RAW.RAW p) (raw + 2 ^ b) i).edges p i (2 ^ b)
  else s.wr (HDR.EVT_RAW.RAW p) (raw - 2 ^ b) i

/-! ### Results (R48) -/

/-- A request on a page with results begins: BUSY and STALE read 1. -/
def State.beginResult (s : State) (p : Page) (i : Nat) : State :=
  (s.wr (HDR.PAGE_STAT.BUSY p) 1 i).wr (HDR.RESULT_SEQ.STALE p) 1 i

/-- The next SEQ: 0xFFFF is followed by 0x0001. -/
def nextSeq (n : Nat) : Nat := if n = 0xFFFF then 1 else n + 1

/-- A request completes: SEQ advances, STALE and BUSY return to 0. -/
def State.landResult (s : State) (p : Page) (i : Nat) : State :=
  let s := s.wr (HDR.RESULT_SEQ.SEQ p) (nextSeq (s.g (HDR.RESULT_SEQ.SEQ p) i)) i
  (s.wr (HDR.PAGE_STAT.BUSY p) 0 i).wr (HDR.RESULT_SEQ.STALE p) 0 i

def State.busy (s : State) (p : Page) (i : Nat) : Bool := s.g (HDR.PAGE_STAT.BUSY p) i == 1

/-! ### Time (R7, R286) -/

/-- One POSTMARK value captured into a three-word register (R153). -/
def State.capture (s : State) (ns sec sech frac : Fld) (i : Nat := 0) (j : Nat := 0) : State :=
  (((s.wr ns s.time.ns i j).wr sec (s.time.sec % 2 ^ 32) i j).wr sech (s.time.sec / 2 ^ 32) i j).wr
    frac s.time.frac i j

/-- A POSTMARK value captured into a nanoseconds word and a seconds word (R189, R195, R208). -/
def State.capture2 (s : State) (ns sec : Fld) (i : Nat) : State :=
  (s.wr ns s.time.ns i).wr sec (s.time.sec % 2 ^ 32) i

/-! ### Fault records (R314 to R317) -/

/-- The control domain has a clock and the fault manager samples (R307). -/
def State.controlRunning (s : State) : Bool := s.clk.running && s.clk.csrc != .gated

/-- Write a fault into record r (0 FIRST, 1 LAST) with the next SEQ (R314). -/
def State.placeRecord (s : State) (r : Nat) (f : FaultReport) (real : Bool) : State :=
  let s := s.wr FAULT.REC_HDR.VALID 1 0 r
  let s := s.wr FAULT.REC_HDR.INJECTED (bnat f.injected) 0 r
  let s := s.wr FAULT.REC_HDR.REAL (bnat real) 0 r
  let s := s.wr FAULT.REC_HDR.CLASS (2 ^ f.cls) 0 r
  let s := s.wr FAULT.REC_HDR.CODE f.code 0 r
  let s := s.wr FAULT.REC_HDR.SEQ s.fault.nextSeq 0 r
  let s := s.wr FAULT.REC_SRC.MERGE 0 0 r
  let s := s.wr FAULT.REC_SRC.MASTER f.master 0 r
  let s := s.wr FAULT.REC_SRC.ACCESS f.access 0 r
  let s := s.wr FAULT.REC_SRC.SOURCE f.source 0 r
  let s := s.wr FAULT.REC_ADDR.ADDR f.addr 0 r
  let s := s.capture FAULT.REC_PM0.NS FAULT.REC_PM1.SEC FAULT.REC_PM2.SECH FAULT.REC_PM2.FRAC 0 r
  let F := if r = 0 then FAULT.COMPANION_F.MAP else FAULT.COMPANION_L.MAP
  let s := s.wrWords F 0 [0, 0, 0, 0, 0, 0, 0, 0]
  s.modFault fun x => { x with nextSeq := nextSeq x.nextSeq }

/-- Set the COMPANION bit of a source in record r. -/
def State.companion (s : State) (r src : Nat) : State :=
  let F := if r = 0 then FAULT.COMPANION_F.MAP else FAULT.COMPANION_L.MAP
  s.wr F (s.g F 0 (src / 32) ||| 2 ^ (src % 32)) 0 (src / 32)

def State.handlingFirst (s : State) : Bool := s.fault.handling.isSome

/-- Record one fault by R314: merge into FIRST while it is handled, else become FIRST, else LAST.
An S0 record ends handling at its landing (R315). -/
def State.record (s : State) (f : FaultReport) (real : Bool := false) : State :=
  if s.handlingFirst then
    let s := s.wr FAULT.REC_HDR.CLASS (s.g FAULT.REC_HDR.CLASS 0 0 ||| 2 ^ f.cls) 0 0
    ((s.bump FAULT.REC_SRC.MERGE 0 1 0).companion 0 f.source).pulse .fault 0 3
  else if s.g FAULT.REC_HDR.VALID 0 0 = 0 then
    let s := s.placeRecord 0 f real
    if f.cls = 0 then s else s.modFault fun x => { x with handling := some f.source }
  else s.placeRecord 1 f real

/-- The class counter of a fault (R323), and the FAULT conditions a record of its class raises
(R310, R323): 0 FAULT_RECORDED, 1 S2_RECORDED, 2 S3_RECORDED. -/
def State.countFault (s : State) (f : FaultReport) : State :=
  let s := s.bump FAULT.COUNT_S.COUNT 0 1 f.cls
  if f.cls = 0 then s
  else s.edges .fault 0 (1 + (if f.cls = 2 then 2 else 0) + (if f.cls = 3 then 4 else 0))

/-- The FAULT_RECORDED condition of the page of a line or cluster source (R325). -/
def State.unitRecorded (s : State) (f : FaultReport) : State :=
  if f.cls = 0 then s
  else if 128 ≤ f.source then s.pulse .lctl (f.source - 128) 0
  else if 32 ≤ f.source ∧ f.source < 36 then s.pulse .cluster (f.source - 32) 0
  else s

/-- Record a fault that has no isolation to give: its record, counter and events.  The signal of a source
isolated by RAIL_DISAGREE is ignored (R307). -/
def State.log (s : State) (f : FaultReport) : State :=
  if s.fault.ignored.contains f.source then s else ((s.record f).countFault f).unitRecorded f

/-- HEALTH_CHANGED of the page of a line or cluster source (R325). -/
def State.healthChanged (s : State) (src : Nat) : State :=
  if 128 ≤ src then s.pulse .lctl (src - 128) 1
  else if 32 ≤ src ∧ src < 36 then s.pulse .cluster (src - 32) 1
  else s

/-- An S1 recovery of a source begins: HEALTH 1 on its pages (R310). -/
def State.beginRecovery (s : State) (src : Nat) : State :=
  if s.fault.recovering.contains src then s
  else (s.modFault fun x => { x with recovering := src :: x.recovering }).healthChanged src

/-- An S1 recovery of a source ends; the handling of FIRST with it (R315). -/
def State.endRecovery (s : State) (src : Nat) : State :=
  if s.fault.recovering.contains src then
    (s.modFault fun x =>
      { x with recovering := x.recovering.filter (· != src),
               handling := if x.handling = some src then none else x.handling }).healthChanged src
  else s

/-- An S1 fault with its local recovery running (R310). -/
def State.faultS1 (s : State) (code src addr : Nat) : State :=
  (s.log { code := code, cls := 1, source := src, addr := addr }).beginRecovery src

/-- An S1 fault whose recovery is over at once. -/
def State.noteS1 (s : State) (code src addr : Nat) : State :=
  let s := s.log { code := code, cls := 1, source := src, addr := addr }
  s.modFault fun x => { x with handling := if x.handling = some src then none else x.handling }

/-- An S2 fault of a device unit whose action the raising rule states: the unit shows HEALTH 2. -/
def State.faultS2Unit (s : State) (code src addr : Nat) : State :=
  let s := s.log { code := code, cls := 2, source := src, addr := addr }
  s.modFault fun x =>
    { x with shown := if x.shown.contains src then x.shown else src :: x.shown,
             handling := if x.handling = some src then none else x.handling }

/-- ACCESS_ERROR (R309, R345): an access that completed with an error response. -/
def State.accessError (s : State) (master access addr : Nat) : State :=
  if s.controlRunning then
    s.log { code := 0x15, cls := 0, source := 22, master := master, access := access, addr := addr }
  else s

/-- A master is fenced (R319). -/
def State.fenced (s : State) (master : Nat) : Bool :=
  if master < 32 then bit (s.g FAULT.FENCE_LO.MAP) master
  else bit (s.g FAULT.FENCE_HI.MAP) (master - 32)

end Sys2Proof.Machine
end

