-- ==== Sys2Proof/Machine/Seal.lean ====
section
/-! DEFINITION. Posts and sealed negotiations as shared operations: the results a post lands with
(R35, R37), refusing and withdrawing members (R41, R44), and a port's one open negotiation (R40,
R41, R144). -/

namespace Sys2Proof.Machine

/-- ENV_STAT.RESULT codes (R35). -/
def resPosted : Nat := 1
def resLate : Nat := 2
def resRefused : Nat := 3
def resDiscarded : Nat := 4
def resConflict : Nat := 5
def resWithdrawn : Nat := 6

/-- A post's RESULT lands; one that did not post used no boundary (R35). -/
def State.setResult (s : State) (p : Page) (i r : Nat) : State :=
  let s := s.wr (HDR.ENV_STAT.RESULT p) r i
  if r = resPosted then s else (s.wr (HDR.ENV_STAT.STEPS p) 0 i).wr (HDR.ENV_STAT.SPLIT p) 0 i

/-- The armed post of a page. -/
def State.postOf (s : State) (p : Page) (i : Nat) : Option Post :=
  s.posts.find? fun x => x.page = p && x.inst == i

/-- The post has begun and has not ended (R37). -/
def State.inFlight (s : State) (p : Page) (i : Nat) : Bool :=
  match s.postOf p i with
  | some x =>
    x.phase = .negotiating || x.phase = .confirmed ||
      (x.member && (match s.run with | some r => r.begun | none => false)) ||
      s.rest.any fun r => (r.page = p && r.inst == i) || (r.run && x.member)
  | none => false

/-- A post is armed and has not begun (R37). -/
def State.armed (s : State) (p : Page) (i : Nat) : Bool :=
  (s.postOf p i).isSome && !s.inFlight p i

def State.dropPost (s : State) (p : Page) (i : Nat) : State :=
  { s with posts := s.posts.filter fun x => !(x.page = p && x.inst == i) }

/-- A post ends with a result. -/
def State.finishPost (s : State) (p : Page) (i r : Nat) : State :=
  (s.dropPost p i).setResult p i r

def State.setPhase (s : State) (p : Page) (i : Nat) (ph : PostPhase) (target : Option Nat) : State :=
  { s with posts := s.posts.map fun x =>
      if x.page = p && x.inst == i then { x with phase := ph, target := target } else x }

/-- The port a page belongs to under the layout in effect: the port that holds the line of its number
(R40). -/
def State.pagePort (s : State) (p : Page) (i : Nat) : Option Nat :=
  match p with
  | .port_ctl | .port_sec => some (s.anchor i)
  | .lctl | .ltrain | .lload | .lmon | .lreach | .ldiag | .lafe | .lstd => some (s.anchor i)
  | _ => none

/-- The SFC a page's posts count: the remote grid while a V-tail line holds it (R22). -/
def State.pageSfc (s : State) (p : Page) (i : Nat) : Nat :=
  match p with
  | .lctl | .ltrain | .lload | .lmon | .lreach | .ldiag | .lafe | .lstd =>
    if s.isVTail i then (s.line i).remote.getD s.sfc else s.sfc
  | _ => s.sfc

/-- k superframes after an SFC: it counts modulo 2^48 (R20). -/
def sfcAdd (a k : Nat) : Nat := (a + k) % 2 ^ 48

/-- How many superframes lie from one SFC on to another. -/
def sfcFrom (a b : Nat) : Nat := (b + 2 ^ 48 - a % 2 ^ 48) % 2 ^ 48

/-- Superframe t has come: the counter reads it or has passed it. -/
def sfcCome (t now : Nat) : Bool := decide (sfcFrom t now < 2 ^ 47)

/-- How far an SFC match lies ahead of a grid (R39). -/
def sfcAhead (want now : Nat) : Nat := (want % 2 ^ 32 + 2 ^ 32 - now % 2 ^ 32) % 2 ^ 32

/-- An SFC match is late: 0 or 2^31 or more ahead, for a sealed post below 4 too (R39). -/
def sfcLate (isSealed : Bool) (ahead : Nat) : Bool :=
  ahead == 0 || decide (2 ^ 31 ≤ ahead) || (isSealed && decide (ahead < 4))

/-- Posts that are armed count another grid from now on, those that R42 holds or another negotiation keeps waiting too: an
SFC match is judged again under R39, a SUPERFRAME post lands on the first boundary of the new grid, a SYMBOL post needs nothing
(R22). -/
def State.regridPosts (s : State) (sel : Post → Bool) (now : Nat) : State :=
  (s.posts.filter fun x => sel x && (x.phase = .armed || x.phase = .held || x.phase = .queued)).foldl (fun s x =>
    match x.moment, x.target with
    | 3, some t =>
      if sfcLate x.sealedPost (sfcAhead t now) then s.finishPost x.page x.inst resLate
      else s.setPhase x.page x.inst x.phase (some (sfcAdd now (sfcAhead t now)))
    | 2, some _ => s.setPhase x.page x.inst x.phase (some (sfcAdd now (if x.phase = .queued then 4 else 1)))
    | _, _ => s) s

/-- The posts on the pages of one line. -/
def ofLine (l : Nat) (x : Post) : Bool :=
  x.inst == l && (match x.page with
    | .lctl | .ltrain | .lload | .lmon | .lreach | .ldiag | .lafe | .lstd => true | _ => false)

/-- The SFC of the grid a port's negotiations count (R22). -/
def State.portSfc (s : State) (p : Nat) : Nat := s.pageSfc .ltrain p

/-- LOCK values of a parcel take effect (R359). -/
def State.landLocks (s : State) (locks : List (Page × Nat × Nat)) : State :=
  locks.foldl (fun s e => s.wr (HDR.PAGE_CTRL.LOCK e.1) e.2.2 e.2.1) s

/-- The LOCK values that wait for the end of the run in flight. -/
def State.runLocks (s : State) : List (Page × Nat × Nat) :=
  match s.run with
  | some r => r.locks
  | none => []

/-- The mail run ends: RUN_STAT.RESULT lands and the run is no longer in flight (R43); what waited for its end lands (R359). -/
def State.endRun (s : State) (r : Nat) : State :=
  ({ s.wr DEVENV.RUN_STAT.RESULT r with run := none } : State).landLocks s.runLocks

/-- Members of the run that remain: they report `r` and keep their content (R44). -/
def State.dismissMembers (s : State) (r : Nat) : State :=
  s.posts.foldl (fun s x => if x.member then s.finishPost x.page x.inst r else s) s

/-- Every open proposal that a member of the run joined is withdrawn (R44). -/
def State.withdrawRun (s : State) : State :=
  s.posts.foldl (fun s x =>
    if x.member && (x.phase = .negotiating || x.phase = .confirmed) then
      match s.pagePort x.page x.inst with
      | some p => s.modPort p fun y =>
          { y with neg := y.neg.map fun n => { n with withdrawn := true, agreed := false } }
      | none => s
    else s) s

/-- Refuse the posts that `sel` picks; a refused member of the mail run withdraws every other member
and ends the run (R41, R44). -/
def State.refusePosts (s : State) (sel : Post → Bool) : State :=
  let hit := s.posts.filter sel
  let s := hit.foldl (fun s x => s.finishPost x.page x.inst resRefused) s
  if hit.any (·.member) && s.run.isSome then
    let s := s.withdrawRun
    (s.dismissMembers resWithdrawn).endRun resRefused
  else s

/-- The posts that a port's negotiation carries. -/
def State.ofPort (s : State) (port : Nat) (x : Post) : Bool :=
  x.sealedPost && (x.phase = .negotiating || x.phase = .confirmed || x.phase = .held) &&
    s.pagePort x.page x.inst == some port

/-- A port's negotiation ends without effect: every member reports REFUSED (R40, R41). -/
def State.abortNeg (s : State) (port : Nat) : State :=
  let s := s.modPort port fun x => { x with neg := none, sealCode := 0, sealHeld := [], onlyEmpty := false, lowered := none }
  s.refusePosts fun x => s.ofPort port x && x.phase != .held

/-- Whether some line of the port is in SHOWTIME or LEAVING (R42). -/
def State.portUp (s : State) (port : Nat) : Bool :=
  (s.portLines port).any fun l => (s.line l).st = .showtime || (s.line l).st = .leaving

/-- Open a negotiation for a change, or join the open one of the same target, whose agreement is then awaited anew from this
superframe on; where another is open the change waits (R40, R41).  The SEAL code becomes PROPOSE. -/
def State.propose (s : State) (port target : Nat) (cs : List Change) : State :=
  let target := target % 2 ^ 48
  match (s.port port).neg with
  | none =>
    s.modPort port fun x =>
      { x with neg := some { ours := true, start := s.portSfc port, target := target, changes := cs, count := cs.length,
                             agreed := false, confirmed := false },
               sealCode := 1 }
  | some n =>
    if n.ours && n.target == target && !n.confirmed && !n.withdrawn then
      let all := n.changes ++ cs.filter fun c => !n.changes.contains c
      let real := all.filter (· != .sync)
      let all := if real.isEmpty then all else real
      s.modPort port fun x =>
        { x with neg := some { n with since := s.portSfc port, changes := all, count := all.length, agreed := false } }
    else s

end Sys2Proof.Machine
end

