-- ==== Sys2Proof/Machine/Bounds.lean ====
section
/-! DEFINITION. Which tones a line may use (R24, R25, R61, R62), the data positions of a port (R66, R67), the figures
that follow from them: PLOAD, BOUNDS and RTXTIME (R77, R81 to R86), and the loading table shown. -/

namespace Sys2Proof.Machine

/-! ### Tones shut out (R24, R25, R61, R62) -/

/-- The tone is under erasure (R25); masked under R24; excluded by the HOSTMASK in force (R61, R62). -/
def State.erased (s : State) (l k : Nat) : Bool := bit (s.g LLOAD.ERASE.MASK l (k / 32)) (k % 32)
def State.reachMasked (s : State) (l k : Nat) : Bool := bit (s.g LLOAD.RMASK.MASK l (k / 32)) (k % 32)
def State.hostMasked (s : State) (l k : Nat) : Bool := bit (s.line l).hostMask k
def State.masked (s : State) (l k : Nat) : Bool := s.reachMasked l k || s.hostMasked l k

/-! ### Data positions (R66, R67) -/

/-- Overhead bits placed below tone k: the first 32 bits on tones 9 and above. -/
def ohBelow (t : Store Nat) (k : Nat) : Nat :=
  min 32 (((List.range (k - 9)).map fun i => entryBits (t.get 0 (9 + i))).sum)

/-- Overhead bits on tone k. -/
def ohOn (t : Store Nat) (k : Nat) : Nat :=
  if k < 9 then 0 else min (entryBits (t.get 0 k)) (32 - ohBelow t k)

/-- Data positions on tone k. -/
def dataOn (t : Store Nat) (k : Nat) : Nat := entryBits (t.get 0 k) - ohOn t k

/-- L, the loaded bits of a table (R61). -/
def loadedBits (t : Store Nat) : Nat := (t.map fun e => entryBits e.2).sum

/-- A table carries its overhead word: 32 bits on tones 9 and above (R141). -/
def carriesOverhead (t : Store Nat) : Bool :=
  decide (32 ≤ ((t.filter fun e => 9 ≤ e.1).map fun e => entryBits e.2).sum)

/-- The lines of a port that carry data: in SHOWTIME or LEAVING and not in a gap, and a lost line until
its PORT_DROP lands (R28, R105, R148). -/
def State.dataLines (s : State) (p : Nat) : List Nat :=
  (s.portLines p).filter fun l =>
    (((s.line l).st = .showtime || (s.line l).st = .leaving) && !(s.line l).frozen) ||
      (s.port p).dropLines.contains l

/-- The positions of a port's symbol in order: (tone, line, bits) for each tone, lines ascending. -/
def State.positions (s : State) (p : Nat) (table : LineX → Store Nat) : List (Nat × Nat × Nat) :=
  (List.range 127).flatMap fun i => (s.dataLines p).map fun l =>
    (i + 1, l, dataOn (table (s.line l)) (i + 1))

/-- B: the coded bits of a port's data symbol, transmitted direction (R67). -/
def State.codedBits (s : State) (p : Nat) : Nat :=
  ((s.positions p (·.txTable)).map fun x => x.2.2).sum

/-- The tone that carries data position n. -/
def toneOfPosition : List (Nat × Nat × Nat) → Nat → Nat
  | [], _ => 127
  | (k, _, b) :: l, n => if n < b then k else toneOfPosition l (n - b)

/-! ### Port registers (R81 to R86) -/

/-- PLOAD, BOUNDS and RTXTIME, which read 0 on a STANDARD port (R240). -/
def figureFields : List Fld :=
  [PORT_CTL.PLOAD.B, PORT_CTL.PLOAD.CW, PORT_CTL.PLOAD.FILL, PORT_CTL.BOUNDS.EXPRESS, PORT_CTL.BOUNDS.BULK,
   PORT_CTL.RTXTIME.RTT, PORT_CTL.RTXTIME.DELTA]

/-- The round trip in ns of 1/16 samples, to the nearest (R134). -/
def sixteenthsToNs (x : Nat) : Nat := (x * 390625 + 5120000) / 10240000

/-- Recompute PLOAD, BOUNDS and RTXTIME of a port: a new B, bound or Δ, or a change of profile or level, raises
BOUND_CHANGED once, and an Express port with
B < 512 shows EXPRESS_EMPTY (R77, R83 to R86).  The transmitted direction's positions give
b_first and a_last (DESIGN CHOICE, log 56). -/
def State.refreshPort (s : State) (p : Nat) : State :=
  let b := s.codedBits p
  let x := s.port p
  let pos := s.positions p (·.txTable)
  let cw := if x.express then b / 512 else 0
  let ex := if b < 512 then 0xFFFF
    else min 0xFFFF (expressBound s.lvl.level s.lvl.nv (s.width p) (toneOfPosition pos 511)
      (toneOfPosition pos (b - 512)))
  let bulk := bulkBound b
  let delta := retransmitTime b (s.g PORT_CTL.RTXTIME.RTT p)
  let changed := x.boundDue || b != s.g PORT_CTL.PLOAD.B p || ex != s.g PORT_CTL.BOUNDS.EXPRESS p ||
    bulk != s.g PORT_CTL.BOUNDS.BULK p || delta != s.g PORT_CTL.RTXTIME.DELTA p
  let s := (s.wr PORT_CTL.PLOAD.B b p).wr PORT_CTL.PLOAD.CW cw p
  let s := s.wr PORT_CTL.PLOAD.FILL (if x.express then b - 512 * cw else 0) p
  let s := (s.wr PORT_CTL.BOUNDS.EXPRESS ex p).wr PORT_CTL.BOUNDS.BULK bulk p
  let s := s.wr PORT_CTL.RTXTIME.DELTA delta p
  let s := s.modPort p fun x => { x with boundDue := false }
  let s := if changed then s.pulse .port_ctl p 2 else s
  s.cond .port_ctl p 1 (x.express && decide (b < 512))

/-- The figures of every port after a change of performance level, which raises BOUND_CHANGED on every V port (R83). -/
def State.refreshPorts (s : State) : State :=
  (allLines.filter fun p => s.isAnchor p && s.isV p).foldl (fun s p =>
    (s.modPort p fun x => { x with boundDue := true }).refreshPort p) s

/-- The round trip of a port: its lines' largest, in ns (R134). -/
def State.showRoundTrip (s : State) (p : Nat) : State :=
  let r := ((s.portLines p).map fun l => (s.line l).roundTrip).foldl max 0
  (s.wr PORT_CTL.RTXTIME.RTT (sixteenthsToNs r) p).refreshPort p

/-- The tail's TA takes a value; the round trip is then TA + 64 (R60, R134, R135). -/
def State.setTa (s : State) (l : Nat) (ta : Nat) : State :=
  let s := s.modLine l fun x => { x with ta := ta, roundTrip := ta + 64 }
  (s.wr LLOAD.TADV.TA ta l).showRoundTrip (s.anchor l)

/-- The tail's TA takes a correction, never below 0 (R134, R135). -/
def State.correctTa (s : State) (l : Nat) (base : Nat) (corr : Int) : State :=
  s.setTa l (min (2 ^ 20 - 1) ((base : Int) + corr).toNat)

/-! ### The table shown (R61, R62) -/

/-- The entry of a tone in effect on the received direction: 0 on a masked tone. -/
def State.effective (s : State) (l k : Nat) : Nat :=
  if k = 0 ∨ s.masked l k then 0 else (s.line l).rxTable.get 0 k

/-- LLOAD shows the table in effect of the received direction; TABLE_SEQ advances when a b_k or g_k changed, with
LOADING_CHANGED (R62, R63).  That TONE, SUMMARY and TABLE_SEQ follow the received direction only is a DESIGN CHOICE (log 103):
a change of the transmitted table alone advances nothing. -/
def State.showTable (s : State) (l : Nat) : State :=
  let es := (List.range 128).map fun k => (k, s.effective l k)
  let same := es.all fun (k, e) =>
    s.g LLOAD.TONE.BITS l k == entryBits e && s.g LLOAD.TONE.GAIN l k == entryGain e
  if same then s
  else
    let s := es.foldl (fun s (k, e) =>
      (s.wr LLOAD.TONE.BITS (entryBits e) l k).wr LLOAD.TONE.GAIN (entryGain e) l k) s
    let s := s.wr LLOAD.SUMMARY.LBITS ((es.map fun e => entryBits e.2).sum) l
    let s := s.wr LLOAD.SUMMARY.TONES (es.filter fun e => entryBits e.2 != 0).length l
    (s.wr LLOAD.TABLE_SEQ.SEQ ((s.g LLOAD.TABLE_SEQ.SEQ l + 1) % 2 ^ 16) l).pulse .lload l 0

end Sys2Proof.Machine
end

