-- ==== Sys2Proof/Machine/Chain.lean ====
section
/-! DEFINITION. The line monitor chain as shared operations: its owner and what the owner sets (R155,
R187, R200), the landing of a synchronising reset (R188, R189), the detectors' readings (R193) and the
end of a capture (R195, R196). -/

namespace Sys2Proof.Machine

def State.monX (s : State) (l : Nat) : MonX := s.mon.get {} l
def State.modMon (s : State) (l : Nat) (f : MonX → MonX) : State :=
  { s with mon := s.mon.set {} l (f (s.monX l)) }
def State.reachX (s : State) (l : Nat) : ReachX := s.reach.get {} l
def State.modReach (s : State) (l : Nat) (f : ReachX → ReachX) : State :=
  { s with reach := s.reach.set {} l (f (s.reachX l)) }
def State.stdX (s : State) (l : Nat) : StdX := s.std.get {} (l / 4 * 4)
def State.modStd (s : State) (l : Nat) (f : StdX → StdX) : State :=
  { s with std := s.std.set {} (l / 4 * 4) (f (s.stdX l)) }

def State.calX (s : State) (l : Nat) : CalX := s.cal.get {} l
def State.modCal (s : State) (l : Nat) (f : CalX → CalX) : State :=
  { s with cal := s.cal.set {} l (f (s.calX l)) }

/-! ### Packets sent (R156 to R158, R170) -/

/-- A packet goes out under a network word: the receiver is blanked, the packet counted. -/
def State.startTx (s : State) (l netid : Nat) (p : ReachPkt) : State :=
  let s := s.modReach l fun x =>
    { x with
      tx := some p
      pos := 0
      volts := reachVolts (s.g LREACH.PROFILE.TXPWR l)
      chirps := packetChirps netid p.sf p.cr
        (headerWord p.payload.length p.cr p.addr p.kind p.seq p.opens) p.payload }
  (s.wr LREACH.STATUS.RXSTATE 5 l).bump LREACH.TX_PKT.COUNT l

/-- The airtime of a message of `n` bytes in ns (R180). -/
def messageTime (n : Nat) : Nat := airtime 7 1 (22 + ceilDiv (2 * payloadInputs n 0) 7)

/-- The first superframe that starts at least `ns` ns from now. -/
def State.superframeAfter (s : State) (ns : Nat) : Nat :=
  sfcAdd s.sfc (ceilDiv (ns * 10000 + s.sym * 3515625) (64 * 3515625))

/-- The superframe that an OFFER sent after a gap names: it ends 2 µs after that boundary (R131). -/
def State.offerSuperframe (s : State) (gap : Nat) : Nat := s.superframeAfter (gap + messageTime 92 - 2000)

/-- The ranging block that a GO sent after a gap names: the first multiple of 16 at least one superframe after the GO ends
(R129, R134). -/
def State.goBlockAfter (s : State) (gap : Nat) : Nat :=
  ceilDiv (sfcAdd (s.superframeAfter (gap + messageTime 8)) 1) 16 * 16 % 2 ^ 48

/-- `n` bytes of a message from byte `i` replaced. -/
def putField (m : List Nat) (i n v : Nat) : List Nat := m.take i ++ msbBytes n v ++ m.drop (i + n)

/-- A message takes the superframe that it names when it goes out: an OFFER the one it ends in, a GO its ranging block (R130,
R131, R134). -/
def State.stampPkt (s : State) (p : ReachPkt) : ReachPkt :=
  match p.payload.headD 0 with
  | 0x13 => { p with payload := putField p.payload 34 4 (s.offerSuperframe p.gap % 2 ^ 32) }
  | 0x15 => { p with payload := putField p.payload 2 4 (s.goBlockAfter p.gap % 2 ^ 32) }
  | _ => p

/-- The block that a GO names is the line's (R134). -/
def State.noteGo (s : State) (l : Nat) (p : ReachPkt) : State :=
  if p.payload.headD 0 = 0x15 then s.modLine l fun x => { x with goBlock := s.goBlockAfter p.gap } else s

/-- The next message that waits goes out once no reception is held and no packet is sent (R170, R180). -/
def State.sendDue (s : State) (l : Nat) : State :=
  let x := s.reachX l
  match x.due with
  | [] => s
  | p :: rest =>
    if x.tx.isSome || x.rx.isSome then s
    else (((s.modReach l fun x => { x with due := rest }).noteGo l p).startTx l 0xA7 (s.stampPkt p))

/-! ### Owners (R155, R187) -/

/-- Beacon alternation runs on the quad of line l, by the ALT of its negotiation (R241, R242). -/
def State.alternates (s : State) (l : Nat) : Bool :=
  let q := l / 4 * 4
  (s.line q).st = .standard && bit (s.stdX q).adv 13 && s.g LSTD.STATUS.LINK q == 0 && !(s.stdX q).halted

/-- 0 HOST, 1 REACH, 2 REFLECT. -/
def State.chainOwner (s : State) (l : Nat) : Nat :=
  let st := (s.line l).st
  if (s.refl.find l).isSome then 2
  else if st = .reach ∨ st = .beacon ∨ st = .handshake ∨ (st = .standard ∧ s.alternates l) then 1
  else 0

/-- The profile the Reach receiver uses now, as SF, BW and CR: that of a reception, of the POLL whose REPLY is awaited, else
the alarm profile; the beacon profile off REACH lines (R155, R167 to R169, R173, R180). -/
def State.reachNow (s : State) (l : Nat) : Nat × Nat × Nat :=
  if (s.line l).st = .reach then
    match (s.reachX l).rx with
    | some r => (r.sf, r.bw, r.searchCr)
    | none =>
      match (s.reachX l).await with
      | some (p, _) => (p.sf, p.bw, p.cr)
      | none => (s.g LREACH.PROFILE.SF l, s.g LREACH.PROFILE.BW l, s.g LREACH.PROFILE.CR l)
  else (7, 1, 0)

def State.reachSf (s : State) (l : Nat) : Nat := (s.reachNow l).1
def State.reachBw (s : State) (l : Nat) : Nat := (s.reachNow l).2.1

/-- The offset at which the search runs: inside the reply window of a POLL its endpoint's, else 0 (R167), in 0.01 ppm. -/
def State.searchEps (s : State) (l : Nat) : Int :=
  match (s.reachX l).await with
  | some (p, _) => toSigned 16 (s.g LREACH.EP_STAT.FOFS l p.addr)
  | none => 0

/-- The relative frequency offset in force (R167). -/
def State.reachEps (s : State) (l : Nat) : Int :=
  match (s.reachX l).rx with
  | some r => r.eps
  | none => s.searchEps l

/-- FREQ for a centre frequency in kHz, shifted by ε (R186). -/
def ncoWord (kHz : Nat) (eps : Int) : Nat :=
  (((kHz * 2 ^ 32 : Nat) * (100000000 + eps) * 2 + 163840000000000) / (2 * 163840000000000)).toNat

/-- The preset and NCO an owner other than the host sets (R155, R200). -/
def State.ownerSetting (s : State) (l owner : Nat) : Nat × Nat :=
  if owner = 1 then (3 - s.reachBw l, ncoWord (400 + 1600 * 2 ^ s.reachBw l) (s.reachEps l))
  else
    match s.refl.find l with
    | some r => if r.band = 1 then (0, ncoWord 13200 0) else (2, ncoWord 3600 0)
    | none => (0, 0)

/-- The preset and the NCO frequency in use. -/
def State.chainPreset (s : State) (l : Nat) : Nat :=
  if (s.monX l).owner = 0 then s.g LMON.CHAIN.PRESET l else (s.monX l).preset
def State.chainNco (s : State) (l : Nat) : Nat :=
  if (s.monX l).owner = 0 then s.g LMON.NCO.FREQ l else (s.monX l).nco

/-- The chain is there: the line is not OFF (R183). -/
def State.chainOn (s : State) (l : Nat) : Bool := (s.line l).st != .off

/-! ### Detectors (R193) -/

/-- The reading of a power in dBFS, 1/256 dB, as a register value. -/
def dbfsLevel (power : Rat) : Nat :=
  if power = 0 then 0x8000 else ofSigned 16 (clampInt (-32768) 32767 (decibels 256 power))

def State.detectorOver (s : State) (l : Nat) (level th : Fld) : Bool :=
  decide (toSigned 16 (s.g th l) ≤ toSigned 16 (s.g level l))

/-- Bring PEAK and ENV and the three threshold conditions up to date (R199). -/
def State.showDetectors (s : State) (l : Nat) : State :=
  let x := s.monX l
  let s := s.wr LMON.PEAK.LEVEL (dbfsLevel x.peak) l
  let s := s.wr LMON.ENV.LEVEL (dbfsLevel (x.env * x.env)) l
  let s := s.cond .lmon l 1 (s.detectorOver l LMON.PEAK.LEVEL LMON.PEAK_TH.TH)
  let s := s.cond .lmon l 2 (s.detectorOver l LMON.RMS.LEVEL LMON.RMS_TH.TH)
  s.cond .lmon l 3 (s.detectorOver l LMON.ENV.LEVEL LMON.ENV_TH.TH)

/-- FSREF (R194, R221): a tone at the ADC's full scale of 2.0 × 10^(−gain/20) Vppd reads 0 dBFS (DEDUCED, log 65); its power
into 100 Ω in 0.01 dBm at a gain of −6 + 0.5 × PGA dB. -/
def State.fsRef (s : State) (l : Nat) : Int := decibels 100 5 + 600 - 50 * (s.g LAFE.CTRL.PGA l : Nat)

/-- A decay by a power of two: 0 follows at once (R193). -/
def follow (shift : Nat) (a y : Rat) : Rat := a + (y - a) / 2 ^ shift

/-- One valid sample of power p. -/
def State.detect (s : State) (l : Nat) (p : Rat) : State :=
  s.modMon l fun x =>
    let pd := s.g LMON.DET_CFG.PD l
    let old := if pd = 0 then x.peak else x.peak - x.peak / 2 ^ pd
    let y := sqrtRat p
    { x with peak := max p old,
             env := follow (if x.env < y then s.g LMON.DET_CFG.ATT l else s.g LMON.DET_CFG.REL l) x.env y,
             sum := x.sum + p, count := x.count + 1 }

/-- Samples of an RMS block (R193). -/
def State.rmsLength (s : State) (l : Nat) : Nat := 2 ^ clampNat 4 16 (s.g LMON.DET_CFG.RMS_N l)

/-- A complete RMS block updates RMS, and the next one begins (R193).  Where RMS_N is lowered below the samples a block already
has, the next sample ends it and all of them count (the spec does not say: DESIGN CHOICE, log 107). -/
def State.endBlock (s : State) (l : Nat) : State :=
  let x := s.monX l
  if x.count < s.rmsLength l then s
  else
    let s := s.wr LMON.RMS.LEVEL (dbfsLevel (x.sum / x.count)) l
    let s := s.wr LMON.RMS.BLOCKS (s.g LMON.RMS.BLOCKS l + 1) l
    s.modMon l fun x => { x with sum := 0, count := 0 }

/-! ### Captures (R195, R196) -/

/-- The period of a preset's output samples and its group delay (R184), in 1/256 ns and ns. -/
def samplePeriod : Nat → Nat
  | 0 => 10000 | 1 => 20000 | 2 => 40000 | 3 => 80000 | _ => 320000
def groupDelay : Nat → Nat
  | 0 => 1250 | 1 => 2500 | 2 => 5000 | 3 => 10000 | _ => 625

/-- The capture ends: its result lands (R195, R196). -/
def State.finishCapture (s : State) (l reason : Nat) (ws : List Nat) : State :=
  match (s.monX l).cap with
  | none => s
  | some c =>
    let s := s.wrWords LMON.CAP.I l ((List.range 512).map fun i => bits (ws.getD i 0) 16 16)
    let s := s.wrWords LMON.CAP.Q l ((List.range 512).map fun i => bits (ws.getD i 0) 0 16)
    let s := s.wr LMON.CAP_STAT.REASON reason l
    let s := s.wr LMON.CAP_STAT.PRESET (if c.started then c.preset else s.chainPreset l) l
    let s := (s.wr LMON.CAP_STAT.OWNER c.owner l).wr LMON.CAP_STAT.N ws.length l
    let s := (s.wr LMON.CAP_NS.NS c.ns l).wr LMON.CAP_SEC.SEC c.sec l
    let s := (s.wr LMON.CAP_NCO.FREQ c.nco l).modMon l fun x => { x with cap := none }
    (s.landResult .lmon l).pulse .lmon l 0

/-- A capture cut off: the samples taken stand (R196). -/
def State.cutCapture (s : State) (l reason : Nat) : State :=
  match (s.monX l).cap with
  | none => s
  | some c => s.finishCapture l reason c.taken

/-! ### Synchronising resets (R188, R189, R191) -/

/-- The chain begins anew: decimation phases, delay lines, detectors and the settling count (R184, R188). -/
def MonX.restart (x : MonX) (preset : Nat) : MonX :=
  { x with valid := false, settle := if preset = 4 then 1 else 64, bank := 0, fade := 0, peak := 0, env := 0, sum := 0,
           count := 0, ticks := 0, integ := List.replicate 5 Cx.zero, combs := List.replicate 5 Cx.zero, half := [], fir := [] }

/-- A synchronising reset lands. -/
def State.landSync (s : State) (l : Nat) : State :=
  let s := match (s.monX l).cap with
    | some c =>
      if c.started then s.cutCapture l 2 else s.modMon l fun x => { x with cap := some { c with synced := true } }
    | none => s
  let s := if (s.monX l).bank = 2 then s.wr LMON.CSTAT.LAST_SWAP 4 l else s
  let preset := s.chainPreset l
  let s := s.modMon l fun x => x.restart preset
  let s := (s.wr LMON.RMS.LEVEL 0x8000 l).wr LMON.RMS.BLOCKS 0 l
  let s := (s.capture2 LMON.RST_NS.NS LMON.RST_SEC.SEC l).cond .lmon l 4 false
  s.showDetectors l

/-- The owner and its settings follow the line's state: a change of owner or of the Reach receiver's
profile is a synchronising reset (R187, R189). -/
def State.refreshOwner (s : State) (l : Nat) : State :=
  let o := s.chainOwner l
  let x := s.monX l
  let w := if o = 0 then (0, 0) else s.ownerSetting l o
  let pr := if o = 1 then s.reachNow l else (0, 0, 0)
  if o = x.owner ∧ w.1 = x.preset ∧ pr = x.profile then s.modMon l fun x => { x with nco := w.2 }
  else (s.modMon l fun x => { x with owner := o, preset := w.1, nco := w.2, profile := pr }).landSync l

/-- The chain stops: the page is disabled or the line mode becomes OFF (R189, R196); once the line runs again it begins
anew (DEDUCED, log 66). -/
def State.stopChain (s : State) (l : Nat) : State :=
  let s := s.cutCapture l 3
  (s.modMon l fun x =>
    { x.restart (s.chainPreset l) with bank := x.bank, fade := x.fade, peak := x.peak, env := x.env,
                                       sum := x.sum, count := x.count }).cond .lmon l 4 false

/-! ### The samples (R183 to R186, R190, R193, R195) -/

/-! ### The half-band (R183, R184, R186) -/

/-- The response of a filter's taps at n / `turns` cycles a sample. -/
def toneSum (taps : List Rat) (turns n : Nat) : Cx :=
  Cx.sum ((taps.zipIdx).map fun e => Cx.scale e.1 (unitRoot turns (n * e.2 % turns)))

/-- The power gain of a decimating preset with the default bank at n / 100 of its output rate: the CIC, the half-band's taps
and the FIR (R183, R186). -/
def chainPower (half : List Rat) (d n : Nat) : Rat :=
  let fir : List Rat := (List.range 64).map fun i => (toSigned 18 (kaiserTap i) : Rat) / 131072
  (toneSum (List.replicate d (1 / (d : Rat))) (400 * d) n).normSq ^ 5 * (toneSum half 400 n).normSq * (toneSum fir 200 n).normSq

/-- R186 for a half-band, by steps of 1/100 of the output rate: within 0.1 dB up to 0.40 of it, 70 dB down from 0.60. -/
def responseMet (half : List Rat) : Bool :=
  [16, 32, 64, 128].all fun d =>
    ((List.range 41).all fun n =>
      let g := chainPower half d n
      decide (977238 / 1000000 ≤ g ∧ g ≤ 1023292 / 1000000)) &&
    (List.range (200 * d - 59)).all fun n => decide (chainPower half d (60 + n) ≤ 1 / 10 ^ 7)

/-- Taps 0 to 62, by 2^-17, of a symmetric half-band that meets R186: a half-band under a Kaiser window of β = 7.0, with a
droop compensation of three taps. -/
def halfBandKnown : List Int :=
  [-1, 3, 7, -8, -12, 13, 19, -21, -29, 32, 43, -45, -59, 63, 81, -85,
   -107, 113, 139, -146, -178, 186, 225, -235, -281, 292, 346, -360, -423, 439, 514, -532,
   -619, 641, 742, -767, -885, 914, 1052, -1087, -1249, 1290, 1483, -1531, -1763, 1822, 2105, -2178,
   -2534, 2627, 3089, -3211, -3842, 4012, 4933, -5190, -6689, 7122, 10059, -10914, -19594, 17823, 67884]

/-- Tap i of the half-band: the module's own, symmetric, where they meet R186, else those of a filter that does (DESIGN CHOICE,
log 112). -/
def halfBand (i : Nat) : Rat :=
  let j := min i (125 - i)
  if responseMet ((List.range 126).map fun i => Config.halfBandTap (min i (125 - i))) then Config.halfBandTap j
  else (halfBandKnown.getD j 0 : Rat) / 131072

/-- Five integrators in cascade take a sample (R183). -/
def integrate : List Cx → Cx → List Cx
  | [], _ => []
  | a :: r, y => let v := a.add y; v :: integrate r v

/-- Combs in cascade take a sample: what they now hold, and their output (R183). -/
def combine : List Cx → Cx → List Cx × Cx
  | [], y => ([], y)
  | d :: r, y => let o := combine r (y.sub d); (y :: o.1, o.2)

/-- A filter's output: taps by the samples it holds, the newest first. -/
def filtered (tap : Nat → Rat) (ys : List Cx) : Cx := Cx.sum ((ys.zipIdx).map fun e => Cx.scale (tap e.2) e.1)

/-- Tap i of a bank in Q1.17; of the default set where the chain is not the host's (R186, R187). -/
def State.chainTap (s : State) (l bank i : Nat) : Rat :=
  let w := if (s.monX l).owner = 0 then s.g (if bank = 0 then LMON.BANKA.TAP else LMON.BANKB.TAP) l i else kaiserTap i
  (toSigned 18 w : Rat) / 131072

/-- The output of the FIR: the active bank's, or the blend of the two in a fade (R183, R190). -/
def State.firOutput (s : State) (l : Nat) : Cx :=
  let x := s.monX l
  let y := fun bank => filtered (s.chainTap l bank) x.fir
  if x.bank = 0 then y x.active
  else
    let i : Rat := ((x.fade + 1 : Nat) : Rat) / 64
    (Cx.scale (1 - i) (y (1 - x.active))).add (Cx.scale i (y x.active))

/-- An output sample counts toward the fade; the 64th ends it, and a queued swap begins (R190, R191). -/
def State.countFade (s : State) (l : Nat) : State :=
  let x := s.monX l
  if x.bank = 0 then s
  else if x.fade < 63 then s.modMon l fun x => { x with fade := x.fade + 1 }
  else
    (s.modMon l fun x =>
      if x.bank = 1 then { x with bank := 0, fade := 0 }
      else { x with bank := 1, fade := 0, active := 1 - x.active }).pulse .lmon l 5

/-- A capture's trigger holds (R195). -/
def State.triggered (s : State) (l : Nat) (c : Capture) : Bool :=
  match c.trig with
  | 0 => true
  | 1 => c.synced
  | 2 => bit (s.g (HDR.EVT_RAW.RAW .lmon) l) 1
  | _ => bit (s.g (HDR.EVT_RAW.RAW .lmon) l) 3

/-- A sample as a captured word: I and Q in Q1.15 (R195). -/
def sampleWord (y : Cx) : Nat :=
  let part := fun (v : Rat) => ofSigned 16 (clampInt (-32768) 32767 (quantiseTo 15 v))
  part y.re * 2 ^ 16 + part y.im

/-- A valid sample goes to the capture: the first at its trigger, with the postmark of the line lands `back` ADC samples ago
and the group delay before it, and the last one ends it (R195). -/
def State.captureSample (s : State) (l back : Nat) (y : Cx) : State :=
  match (s.monX l).cap with
  | none => s
  | some c =>
    if !c.started && !s.triggered l c then s
    else
      let p := s.chainPreset l
      let at' := s.time.sec * 10 ^ 9 + s.time.ns - groupDelay p - back * 625 / 1024
      let c := if c.started then c
        else { c with started := true, preset := p, owner := (s.monX l).owner, nco := s.chainNco l,
                      ns := at' % 10 ^ 9, sec := at' / 10 ^ 9 % 2 ^ 32 }
      let c := { c with taken := c.taken ++ [sampleWord y] }
      let s := s.modMon l fun x => { x with cap := some c }
      if c.taken.length = c.count then s.finishCapture l 0 c.taken else s

/-- An output sample: forced to 0 while the chain settles and while ENABLE is 0, else valid, through the detectors and the
capture; each one counts toward a fade (R188 to R190, R193, R195). -/
def State.emit (s : State) (l back : Nat) (y : Cx) : State :=
  let s := s.countFade l
  if (s.monX l).settle != 0 || !s.enabled .lmon l then s.modMon l fun x => { x with settle := x.settle - 1 }
  else
    let s := (s.modMon l fun x => { x with valid := true }).cond .lmon l 4 true
    (((s.detect l y.normSq).endBlock l).showDetectors l).captureSample l back y

/-- One ADC sample through the chain (R183 to R185): the mixer, then in STEP the sum of 2,048 of its outputs, else the CIC,
the half-band and the FIR, each on every second output of the one before it.  A tone at the ADC's full scale leaves the mixer
with magnitude 1 (DEDUCED, log 65). -/
def State.feedSample (s : State) (l back : Nat) (code : Int) : State :=
  let x := s.monX l
  let preset := s.chainPreset l
  let y := Cx.scale ((code : Rat) / 1024) (unitRoot (2 ^ 32) ((2 ^ 32 - x.phase) % 2 ^ 32))
  let phase := (x.phase + s.chainNco l) % 2 ^ 32
  let n := x.ticks + 1
  if preset = 4 then
    let sum := (x.integ.headD Cx.zero).add y
    let s := s.modMon l fun x => { x with phase := phase, integ := [if n = 2048 then Cx.zero else sum], ticks := n % 2048 }
    if n = 2048 then s.emit l back (Cx.scale (1 / 2048) sum) else s
  else
    let d := 16 * 2 ^ preset
    let integ := integrate x.integ y
    let s := s.modMon l fun x => { x with phase := phase, integ := integ, ticks := n % (4 * d) }
    if n % d != 0 then s
    else
      let o := combine x.combs (integ.getLastD Cx.zero)
      let v := Cx.scale (1 / ((d : Rat) * d * d * d * d)) o.2
      let half := (v :: x.half).take 126
      let s := s.modMon l fun x => { x with combs := o.1, half := half }
      if n % (2 * d) != 0 then s
      else
        let s := s.modMon l fun x => { x with fir := (filtered halfBand half :: x.fir).take 64 }
        if n % (4 * d) != 0 then s else s.emit l back (s.firOutput l)

/-- ADC samples of a line, the last one now (R183). -/
def State.feed (s : State) (l : Nat) (adc : List Int) : State :=
  if s.chainOn l then
    (adc.zipIdx).foldl (fun s e => s.feedSample l (adc.length - 1 - e.2) (clampInt (-2048) 2047 e.1)) s
  else s

end Sys2Proof.Machine
end

