-- ==== Sys2Proof/Machine/Lines.lean ====
section
/-! DEFINITION. What happens to a line, as shared operations: moving between states with the events of
R154, beacon erasure (R25), Reach masks (R24), going to QUIET with the port's peers (R126), the
disorderly leave (R106), retrain (R147, R148), faults (R311) and join failure (R103, R137). -/

namespace Sys2Proof.Machine

/-! ### Reasons of LTRAIN.STATUS.LAST_REASON (R153) -/

def rsHost : Nat := 1
def rsLos : Nat := 2
def rsHandshake : Nat := 3
def rsPairFail : Nat := 4
def rsRangeFail : Nat := 5
def rsRangeLimit : Nat := 6
def rsJoinFail : Nat := 7
def rsJoinWait : Nat := 8
def rsTrain : Nat := 9
def rsLoad : Nat := 10
def rsLowSnr : Nat := 11
def rsTiming : Nat := 12
def rsErrors : Nat := 13
def rsPeerAbort : Nat := 14
def rsPortPeer : Nat := 15
def rsRetrainFail : Nat := 16
def rsDead : Nat := 17
def rsFault : Nat := 18
def rsCapability : Nat := 19
def rsWake : Nat := 20
def rsOverhead : Nat := 21
def rsDropTimeout : Nat := 22
def rsGapPeer : Nat := 23

/-- The start state of a mode (R122, R124, R125). -/
def startState : Nat → LineState
  | 1 => .beacon | 2 => .quiet | 3 => .standard | 4 => .reach | 5 => .diag | _ => .off

/-- The state a line starts in and its QUIET hold: a V-head line whose port lacks its pairing key stays
in QUIET (R122, R350); in RETIRED every line is OFF (R329). -/
def State.startOf (s : State) (l : Nat) : LineState × Nat :=
  if s.trust.lifecycle = 2 then (.off, 0)
  else if s.isVHead l && s.noKey (s.anchor l) then (.quiet, 4) else (startState (s.mode l), 0)

/-- HANDSHAKE to LOADING. -/
def inBringUp : LineState → Bool
  | .handshake | .ranging | .joining | .training | .loading => true
  | _ => false

/-- The data-carrying group of R154. -/
def inData : LineState → Bool
  | .showtime | .banked | .leaving => true
  | _ => false

/-- The bundle tag in effect (R23). -/
def State.tag (s : State) (l : Nat) : Nat := s.g LCTL.MODE.BUNDLE l

/-! ### Reach masks (R24) -/

/-- K for a Reach bandwidth code (R24): 3.2, 6.4, 12.8 and 25.6 MHz mask 1, 2, 4 and 8 tones. -/
def reachTones (bw : Nat) : Nat := 2 ^ bw

/-- K of a tag: from the widest bandwidth on its REACH lines, the profile's and the enabled
endpoints' (R24). -/
def State.tagMask (s : State) (tag : Nat) : Nat :=
  let bws := allLines.flatMap fun l =>
    if s.tag l == tag && s.mode l == 4 then
      s.g LREACH.PROFILE.BW l ::
        ((List.range 16).filter fun e => s.g LREACH.EP_CFG.ENABLE l e == 1).map
          fun e => s.g LREACH.EP_CFG.BW l e
    else []
  if bws.isEmpty then 0 else reachTones (bws.foldl max 0)

/-- The tone mask of K: bits 1 to K. -/
def maskBits (k : Nat) : Nat := 2 ^ (k + 1) - 2

/-- The mask that R24 wants on a line. -/
def State.wantedMask (s : State) (l : Nat) : Nat := if s.isV l then maskBits (s.tagMask (s.tag l)) else 0

/-! ### Beacon erasure (R25) -/

/-- Set the tones under erasure on a line, and the conditions that show it (R63). -/
def State.setErase (s : State) (l mask : Nat) : State :=
  (s.wr LLOAD.ERASE.MASK mask l 0).cond .lload l 1 (mask != 0)

/-- Tones 1 and 2, but those masked under R24. -/
def State.eraseMask (s : State) (l : Nat) : Nat := 6 - (6 &&& s.g LLOAD.RMASK.MASK l 0)

/-- A NARROW reflectometry run is between its request and the end of its step 7, 10.74 ms after the first line chirp (R201,
R202). -/
def State.reflectBeacons (s : State) (l : Nat) : Bool :=
  match s.refl.find l with
  | some r =>
    let wrap := 2 ^ 32 * 10 ^ 9
    let gone := (s.time.sec % 2 ^ 32 * 10 ^ 9 + s.time.ns + wrap - (r.sec * 10 ^ 9 + r.ns)) % wrap
    r.band == 2 && (r.step == 2 || decide (wrap / 2 ≤ gone) || decide (gone ≤ 10740000))
  | none => false

/-- Some line of the tag is in BEACON or HANDSHAKE, or counts as such: a STANDARD quad in its beacon window
(R244) and a line in a NARROW reflectometry run (R201). -/
def State.tagBeacons (s : State) (tag : Nat) : Bool :=
  allLines.any fun l => s.tag l == tag && ((s.line l).st = .beacon || (s.line l).st = .handshake ||
    ((s.line l).st = .standard && (s.stdX l).beacon) || s.reflectBeacons l)

/-- Tones 1 and 2 are under erasure on a V-head line in SHOWTIME while its tag is, else none. -/
def State.refreshErase (s : State) (l : Nat) : State :=
  if s.isVHead l then
    s.setErase l (if s.xe.erasing.contains (s.tag l) && (s.line l).st = .showtime then s.eraseMask l else 0)
  else s

/-- Erasure starts on every V-head line of the tag in SHOWTIME while a line of the tag beacons. -/
def State.startErasure (s : State) (tag : Nat) : State :=
  if s.tagBeacons tag then
    let s : State := { s with xe := { s.xe with
      erasing := if s.xe.erasing.contains tag then s.xe.erasing else tag :: s.xe.erasing } }
    (allLines.filter fun l => s.tag l == tag).foldl (fun s l => s.refreshErase l) s
  else s

/-- The erasure that a line carries follows its own way into SHOWTIME or out of it; a tail's ends with it (R25). -/
def State.moveErase (s : State) (l : Nat) (old : LineState) : State :=
  if old = .showtime && s.isVTail l then s.setErase l 0 else s.refreshErase l

/-! ### Masks in force (R24) -/

/-- A line's RMASK takes a value (R63 condition MASKED), and its erasure follows (R25). -/
def State.setRmask (s : State) (l mask : Nat) : State :=
  (s.wr LLOAD.RMASK.MASK mask l 0).cond .lload l 2 (mask != 0)|>.refreshErase l |>.showTable l

/-- A line that left SHOWTIME takes the mask wanted at once (R24). -/
def State.settleMask (s : State) (l : Nat) : State :=
  let want := s.wantedMask l
  let s := s.modLine l fun x => { x with tablesPending := false }
  if want = s.g LLOAD.RMASK.MASK l 0 then s else s.setRmask l want

/-! ### Moving a line -/

/-- The Reach modem serves the line in a state (R155, R180, R242). -/
def usesModem (st : LineState) : Bool :=
  st = .reach || st = .beacon || st = .handshake || st = .standard

/-- The modem of a line forgets what it was doing: queue, reception and waits; a handshake packet being sent and those that
wait go out, unless the line is switched off (R124, R180). -/
def State.stopModem (s : State) (l : Nat) (off : Bool) : State :=
  let old := s.reachX l
  let keep := !off && (old.tx.any fun p => p.kind == 5)
  let x : ReachX := { held := old.held }
  let x := if keep then { x with tx := old.tx, chirps := old.chirps, volts := old.volts, due := old.due }
    else if off then x else { x with due := old.due }
  let s := { s with reach := s.reach.set {} l x }
  let s := (s.wr LREACH.STATUS.RXSTATE (if keep then 5 else 0) l).wr LREACH.STATUS.WINDOW 0 l
  let s := ((s.wr LREACH.STATUS.QFREE 0x200 l).wr LREACH.STATUS.MASK_WAIT 0 l).cond .lreach l 8 false
  s.sendDue l

/-! ### Line drivers and DAC inputs (R214 to R218) -/

/-- Rails in the order of R306: VX, VL, VA, VD, VP, VPH, VIO, VH; VD is stable. -/
def railVd : Nat := 3

/-- The state of a line driver (R214, R216 to R218). -/
def State.driver (s : State) (l : Nat) : Driver :=
  let x := s.line l
  if !s.clk.rails.contains railVd || (s.calX l).powerup || s.g LAFE.STAT.OC l == 1 ||
      decide (2 ≤ s.pwr.state) || s.pwr.stage != 0 || s.pwr.waking then .highz
  else if s.g CALMGR.STAT.TXCLR == 1 || s.fault.s3 || s.mode l == 0 || !s.enabled .lctl l ||
      !s.enabled .lafe l || x.rangeSwitch || x.rangeHold != 0 || s.xe.resuming.contains l ||
      (x.st = .reach && (s.reachX l).chirps.isEmpty) || (s.calX l).st == 4 then .clear
  else .active

/-- The CPLL of a line's cluster is locked. -/
def State.lineClock (s : State) (l : Nat) : Bool := s.clk.locked.contains (2 + l / 32)

/-- The DSP of a line runs, with the CPLL of its cluster (R281). -/
def State.lineRuns (s : State) (l : Nat) : Bool := s.lineClock l && s.dspRuns

/-- XPLL runs, and with it the XENGINE (R281), before the third stage of an entry stops it, and not in the safe state (R298,
R312). -/
def State.engineRuns (s : State) : Bool :=
  s.clk.locked.contains 1 && !s.fault.s3 && decide (s.pwr.state ≤ 1) && !s.pwr.waking && decide (s.pwr.stage < 3)

/-- The clear code of a line's cluster (R215). -/
def State.clearCode (s : State) (l : Nat) : Nat := s.g CLUSTER.CLRCODE.CODE (l / 32)

/-- The input of a line's DAC, where `x` is what its transmit path gives (R214, R216, R218). -/
def State.dacInput (s : State) (l : Nat) (x : DacInput) : DacInput :=
  let c := s.calX l
  if s.g CALMGR.STAT.TXCLR == 1 then .code (s.clearCode l)
  else if !s.clk.rails.contains railVd || s.clk.resetHeld || (c.powerup && !s.lineClock l) then
    .code 0x2000
  else if c.powerup || c.st == 4 then .calibration
  else match s.driver l with
    | .active => x
    | _ => .code (s.clearCode l)

/-- The DAC of a line takes its input. -/
def State.setDac (s : State) (l : Nat) (x : DacInput) : State :=
  { s with xe := { s.xe with dac := s.xe.dac.set (.code 0x2000) l (s.dacInput l x) } }

/-- Every line DAC takes its input again, at once: TXCLR_N fell, a clear code changed, a class S3 fault is in force (R214 to
R216). -/
def State.refreshDacs (s : State) : State :=
  allLines.foldl (fun s l => s.setDac l (s.xe.dac.get (.code 0x2000) l)) s

/-! ### The coefficient write port (R120) -/

/-- A master asks for the port. -/
def State.askPort (s : State) (master : Nat) : State :=
  { s with xe := { s.xe with waiting := if s.xe.waiting.contains master then s.xe.waiting
                                         else s.xe.waiting ++ [master] } }

/-- A line's row and column are to be cleared by the XENGINE DMA, which asks for the port (R105, R107, R120). -/
def State.wantClear (s : State) (l : Nat) : State :=
  State.askPort { s with xe := { s.xe with clearing := if s.xe.clearing.contains l then s.xe.clearing
                                                         else s.xe.clearing ++ [l] } } 0x20

/-- The states in which a line's entries are cleared (R93); no line of another mode has any (R19). -/
def clearedIn : LineState → Bool
  | .off | .quiet | .beacon | .handshake | .ranging | .faulted | .diag | .reach | .standard => true
  | _ => false

/-- The states in which a line takes part in the passes: the power of its symbols goes on being compared (R93, R106). -/
def inPasses : LineState → Bool
  | .training | .loading | .showtime | .leaving | .banked => true
  | _ => false

/-- Put a line into a state, with LAST_CHANGE, ENTRIES and the events of R153 and R154.  A V-tail
loses the remote grid in QUIET, OFF and FAULTED, and its posts count the local one (R22).  TXMASK takes effect at TRAINING
(R236). -/
def State.moveLine (s : State) (l : Nat) (st : LineState) (sub : Nat := 0) : State :=
  let old := (s.line l).st
  let lost := (st = .quiet || st = .off || st = .faulted) && (s.line l).remote.isSome
  let s := s.modLine l fun x =>
    { x with st := st, sub := sub, upSec := x.upSec || st = .showtime || st = .banked,
             remote := if st = .quiet ∨ st = .off ∨ st = .faulted then none else x.remote,
             powers := if inPasses st && inPasses x.st then x.powers else [],
             pilotPowers := if inPasses st && inPasses x.st then x.pilotPowers else [],
             silent := x.silent && st = x.st,
             txMask := if st = .training then s.g LAFE.CTRL.TXMASK l else x.txMask }
  let s := if lost then s.regridPosts (ofLine l) s.sfc else s
  if st = old then s
  else
    let s := s.capture LTRAIN.LC0.NS LTRAIN.LC1.SEC LTRAIN.LC2.SECH LTRAIN.LC2.FRAC l
    let s := if old = .retrain && clearedIn st && s.isVHead l then s.wantClear l else s
    let entered := st = .showtime && (old = .loading || old = .retrain)
    let left := inData old && !inData st
    let s := if entered then s.bump LTRAIN.ENTRIES.COUNT l else s
    let s := s.edges .ltrain l
      (1 + 2 * bnat entered + 4 * bnat left + 8 * bnat (st = .retrain) + 16 * bnat (st = .banked) +
        32 * bnat (old = .banked && st = .showtime))
    let s := if st = .beacon ∨ st = .handshake then s.startErasure (s.tag l) else s
    let s := if old = .showtime ∨ st = .showtime then s.moveErase l old else s
    let runs := fun (st : LineState) => st = .showtime || st = .leaving
    let s := if runs old && !runs st then s.settleMask l else s
    let s := if (usesModem old || old = .quiet) && (!usesModem st || old = .reach || st = .reach) then
        s.stopModem l (st = .off || st = .faulted) else s
    let s := if old = .faulted then
        let s : State := { s with xe := { s.xe with resuming := insertSorted l s.xe.resuming } }
        (s.modLine l fun x => { x with ocHeld := false }).wr LAFE.STAT.OC 0 l |>.cond .lafe l 5 false else s
    if st = .off then (s.stopChain l).refreshOwner l else s.refreshOwner l

/-- Record why a line left its state. -/
def State.noteReason (s : State) (l reason : Nat) : State :=
  (s.wr LTRAIN.STATUS.LAST_REASON reason l).wr LTRAIN.STATUS.LAST_FROM (s.line l).st.code l

/-- An active line leaves by another path than a landed orderly leave: it is dead, and becomes
inactive at the second symbol boundary (R106, R107).  A pilot-active line fails its join. -/
def State.leaveActive (s : State) (l : Nat) : State :=
  if (s.line l).active then
    let s := s.modLine l fun x => { x with dying := true }
    { s with xe := { s.xe with discard := true } }
  else s

/-- Forget what a bring-up attempt gathered. -/
def LineX.forget (x : LineX) : LineX :=
  { x with word := none, wantWord := none, pilots := false, pilotActive := false, fed := false, offered := false,
           proofOk := false, goSent := false, loadSent := false, hostMask := 0, cut := [], groups := [], snrReady := false,
           newRx := none, newTx := none, inLoad := [], sendSegs := [], sraPending := false, tablesPending := false, taPending := none,
           timingSend := none, errSum := [], errCount := [], accNum := [], accDen := [], accCount := 0, tailErr := [] }

/-- A V-head line outside the passes starts, stops or rotates its pilots inside a cycle: it is kept from the landings of
R97 and R99 (R128). -/
def State.noteRotated (s : State) (l : Nat) : State :=
  if s.sfc % 128 = 0 ∧ s.sym = 0 then s
  else { s with xe := { s.xe with rotated := insertSorted l s.xe.rotated } }

/-- Forget a bring-up attempt of a line; pilots that it sent end with it (R128). -/
def State.forgetLine (s : State) (l : Nat) : State :=
  let x := s.line l
  let s := if x.pilots && !x.active && !x.pilotActive then s.noteRotated l else s
  s.modLine l LineX.forget

/-- Forget a bring-up attempt of a line that stays in use: a head's pilots go on to the end of their block (R126, R128). -/
def State.forgetAttempt (s : State) (l : Nat) : State :=
  let head := s.isVHead l
  s.modLine l fun x => { x.forget with pilots := x.pilots && head, word := if head then x.word else none }

/-- One line to QUIET with its reason; ABORTS counts returns from HANDSHAKE to LOADING (R153).  A head's
downstream pilots go on to the end of the block (R126). -/
def State.quietOne (s : State) (l reason hold : Nat) : State :=
  let old := (s.line l).st
  let s := s.noteReason l reason
  let s := if inBringUp old then s.bump LTRAIN.ATTEMPTS.ABORTS l else s
  (((s.leaveActive l).forgetAttempt l).modLine l fun x => { x with hold := hold }).moveLine l .quiet

/-- The peers of a line that are in bring-up go to QUIET with PORT_PEER (R126). -/
def State.quietPeers (s : State) (l : Nat) : State :=
  (s.portPeers l).foldl (fun s m =>
    if inBringUp (s.line m).st then s.quietOne m rsPortPeer 2 else s) s

/-! ### Joins (R101 to R103, R136, R137) -/

/-- Queue a port's join request at the back; in one superframe the lower anchor goes first (R101,
R137). -/
def State.queueJoin (s : State) (port : Nat) : State :=
  if s.xe.queue.any fun q => q.2 == port then s
  else
    let first := s.xe.queue.filter fun q => q.1 != s.sfc || decide (q.2 < port)
    let later := s.xe.queue.filter fun q => q.1 == s.sfc && decide (port < q.2)
    { s with xe := { s.xe with queue := first ++ [(s.sfc, port)] ++ later } }

def State.unqueueJoin (s : State) (port : Nat) : State :=
  let first := (s.xe.queue.head?.map (·.2)) == some port
  { s with xe := { s.xe with queue := s.xe.queue.filter fun q => q.2 != port,
                             served := if first then none else s.xe.served } }

/-- Every line of the port is in RANGING/JOIN_WAIT (R126). -/
def State.portWaits (s : State) (port : Nat) : Bool :=
  (s.portLines port).all fun l => (s.line l).st = .ranging && (s.line l).sub == 1

/-- A line of a failed join: a line without upstream pilots to QUIET with LOS, the others back to
JOIN_WAIT with their RANGE_OK words (R137). -/
def State.unjoin (s : State) (missing : List Nat) (l : Nat) : State :=
  let s := s.wantClear l
  if (s.line l).st = .joining then
    if missing.contains l then s.quietOne l rsLos 2
    else (s.modLine l fun x => { x with pilotActive := false }).moveLine l .ranging 1
  else s

/-- The master ID of the sequencer of a join's cluster. -/
def joinMaster (j : Join) : Nat := 0x10 + j.lines.headD 0 / 32

/-- The running join fails (R103): entries of its lines cleared, bank C released, JOIN_FAILED, and
its ports' ways (R137): a port with a line lost goes to QUIET with it, the third failure in a row goes
to QUIET with JOIN_FAIL, the others queue again once all their lines wait. -/
def State.failJoin (s : State) (missing : List Nat) : State :=
  match s.xe.join with
  | none => s
  | some j =>
    let m := joinMaster j
    let s := { s with xe := { s.xe with
      join := none, bankC := [], powerC := [], lostC := [], reserved := none,
      waiting := s.xe.waiting.filter (· != m), lease := s.xe.lease.filter (· != m) } }
    let s := j.lines.foldl (fun s l => s.unjoin missing l) s
    let s := (j.lines.filter missing.contains).foldl (fun s l =>
      if (s.line l).st = .quiet then s.quietPeers l else s) s
    let s := s.pulse .xengine 0 4
    j.ports.foldl (fun s p =>
      let s := s.modPort p fun x => { x with joinFails := x.joinFails + 1 }
      if (s.port p).joinFails ≥ 3 then
        let s := s.modPort p fun x => { x with joinFails := 0 }
        (s.portLines p).foldl (fun s l =>
          if inBringUp (s.line l).st then s.quietOne l rsJoinFail 2 else s) s
      else if s.portWaits p then s.queueJoin p else s) s

/-- The join fails if the line is one of its lines (R103). -/
def State.failJoinOf (s : State) (l : Nat) (missing : List Nat) : State :=
  match s.xe.join with
  | some j => if j.lines.contains l then s.failJoin missing else s
  | none => s

/-- A line in bring-up goes to QUIET; its join fails, its port's request is withdrawn, its peers
follow (R103, R126). -/
def State.quietLine (s : State) (l reason : Nat) (hold : Nat := 2) : State :=
  let p := s.anchor l
  let s := (s.quietOne l reason hold).failJoinOf l [l]
  (s.unqueueJoin p).quietPeers l

/-! ### Leaving SHOWTIME (R41, R82, R147, R148) -/

/-- DTUs counted lost under R81 or R82, expected in this second (R197). -/
def State.countLost (s : State) (p n : Nat) : State :=
  if n = 0 then s
  else (s.bump LMON.DTU_LOST.COUNT p n).modPort p fun x =>
    { x with tally := { x.tally with lost := x.tally.lost + n, dtus := x.tally.dtus + n } }

/-- DTUs not released or acknowledged at this end: those the receiver holds and those missing before the last of
them, and those sent that no acknowledgement covers yet, kept for retransmission or not (R82). -/
def PortX.unreleased (x : PortX) : Nat :=
  (x.rxHeld.map fun d => (d.seq + 2 ^ 16 - x.rxNext) % 2 ^ 16 + 1).foldl max 0 + x.unacked.length

/-- Buffers and receive holds of the line code emptied, sequences from 0 with START (R82). -/
def PortX.restart (x : PortX) : PortX :=
  { x with held := [], unacked := [], rxHeld := [], txBits := [], rxBits := [], rxBad := [], rxLlr := [], nextSeq := 0, ackBase := 0,
           rxNext := 0, rxStarted := false, startDue := true, onlyEmpty := false }

/-- The port left SHOWTIME: retransmission buffers and receive holds emptied, DTUs not released counted as lost on the
anchor's monitor page (R82, R197). -/
def State.emptyPort (s : State) (port : Nat) : State :=
  (s.countLost port (s.port port).unreleased).modPort port fun x =>
    { x.restart with quad := [], dropLines := [], dropSince := none }

/-- A line of a port left SHOWTIME: an open negotiation of the port ends, a port with no line left in SHOWTIME empties
its buffers, and the port's figures follow (R41, R82, R83). -/
def State.leftShowtime (s : State) (l : Nat) : State :=
  let p := s.anchor l
  let s := s.abortNeg p
  (if s.portUp p then s else s.emptyPort p).refreshPort p

/-- A retraining or faulted line of a multi-line port whose other lines run: its positions carry ratio 0, and the head
proposes PORT_DROP, until that lands (R148). -/
def State.dropFromPort (s : State) (l : Nat) : State :=
  let p := s.anchor l
  if s.isV p && s.width p > 1 && s.portUp p then
    let s := s.modPort p fun x =>
      { x with dropLines := if x.dropLines.contains l then x.dropLines else x.dropLines ++ [l],
               dropSince := some (x.dropSince.getD (s.portSfc p)) }
    let s := (s.portLines p).foldl (fun s m =>
      if (s.line m).st = .showtime then s.modLine m fun x => { x with sub := 2 } else s) s
    if s.isVHead p then s.propose p (sfcAdd (s.portSfc p) 4) [.portDrop l] else s
  else s

/-- A port's wake ends (R151). -/
def State.endWake (s : State) (p : Nat) : State :=
  s.modPort p fun x => { x with waking := 0, wakeTries := 0 }

/-- The line's loading cannot carry its overhead word: QUIET with LOW_SNR, from bring-up, from a running port or from
RETRAIN (R141). -/
def State.lowSnr (s : State) (l : Nat) : State :=
  let old := (s.line l).st
  if inBringUp old then s.quietLine l rsLowSnr
  else if inData old then ((s.quietOne l rsLowSnr 2).leftShowtime l).dropFromPort l
  else s.quietOne l rsLowSnr 2

/-- A line enters RETRAIN with its reason (R147): inactive with its entries kept (R104, R107). -/
def State.retrainLine (s : State) (l reason : Nat) : State :=
  if (s.line l).st = .showtime ∨ (s.line l).st = .banked then
    let s := (s.noteReason l reason).leaveActive l
    let s := s.modLine l fun x =>
      { x with retrainStart := sfcAdd (s.pageSfc .ltrain l) (bnat (s.sym != 0)), rejoin := 0, word := none, wantWord := none, lastP := none, ohBad := 0,
               newRx := none, newTx := none, sraPending := false, tablesPending := false, sendSegs := [], errSum := [], errCount := [] }
    (((s.moveLine l .retrain 0).leftShowtime l).dropFromPort l).endWake (s.anchor l)
  else s

/-- What follows from a line's exit from `old` for its port: a running port drops it, a port in bring-up ends (R126,
R148). -/
def State.lineGone (s : State) (l : Nat) (old : LineState) : State :=
  let s := s.failJoinOf l [l]
  if inData old then (s.leftShowtime l).dropFromPort l
  else if old = .retrain then s.dropFromPort l
  else
    let s := s.unqueueJoin (s.anchor l)
    if (s.line l).st = .quiet ∨ (s.line l).st = .faulted then s.quietPeers l else s

/-- LAST_REASON and LAST_FROM record an exit from SHOWTIME or an abort (R153). -/
def State.noteExit (s : State) (l reason : Nat) : State :=
  let st := (s.line l).st
  if inData st || inBringUp st || st = .retrain then s.noteReason l reason else s

/-- A class S2 fault on a line: FAULTED, disorderly leave if active (R124, R311). -/
def State.faultLine (s : State) (l : Nat) : State :=
  let old := (s.line l).st
  ((((s.noteReason l rsFault).leaveActive l).forgetLine l).moveLine l .faulted).lineGone l old

/-- The line takes the start state of its mode (R122): the line enable. -/
def State.startLine (s : State) (l : Nat) : State :=
  let st := s.startOf l
  let s := (((s.noteExit l rsHost).leaveActive l).forgetLine l).modLine l fun x => { x with hold := st.2 }
  s.moveLine l st.1

/-- The line is held OFF: ENABLE 0, mode OFF, or RETIRED (R122, R329). -/
def State.holdOff (s : State) (l : Nat) : State :=
  let old := (s.line l).st
  ((((s.noteExit l rsHost).leaveActive l).forgetLine l).moveLine l .off).lineGone l old

/-- The line returns to the start state of its mode after a release: only where its page is enabled. -/
def State.resumeLine (s : State) (l : Nat) : State :=
  if s.enabled .lctl l then s.startLine l else s.holdOff l

/-- CTRL.RESTART (R124, R125): a V-HEAD line to BEACON, a V-TAIL line to QUIET; none for a line that is
OFF, FAULTED or in another mode. -/
def State.restartLine (s : State) (l : Nat) : State :=
  let old := (s.line l).st
  if old = .off ∨ old = .faulted ∨ !s.isV l then s
  else
    let st := s.startOf l
    let s := (((s.noteReason l rsHost).leaveActive l).forgetAttempt l).modLine l fun x => { x with hold := st.2 }
    (s.moveLine l st.1).lineGone l old

/-! ### New tables of a running line (R24, R61, R146) -/

/-- The segments in which two tables differ. -/
def diffSegs (a b : Store Nat) : List Nat :=
  (List.range 11).filter fun g => (segmentTones g).any fun k => a.get 0 k != b.get 0 k

/-- An entry as this end may have it in force: none on a masked tone, no more than `maxBits` bits, a gain within the codes of
R61; a monitor tone has −6.0 dB. -/
def fitEntry (maxBits : Nat) (masked : Bool) (e : Nat) : Nat :=
  if masked then 0
  else if entryBits e = 0 then (if entryGain e = 0 then 0 else monitorGain)
  else min (entryBits e) maxBits * 2 ^ 12 + clampNat 0x201 0x555 (entryGain e)

/-- A table as this end may have it in force; a tone of `back` that nothing masks any more is a monitor tone again (R61). -/
def fitTo (maxBits : Nat) (masked back : Nat → Bool) (t : Store Nat) : Store Nat :=
  ((List.range 127).map (· + 1)).foldl (fun u k =>
    let e := t.get 0 k
    u.set 0 k (fitEntry maxBits (masked k) (if back k && e == 0 then monitorGain else e))) []

/-- A table in effect brought to the MAXBITS in effect and to a Reach mask: a tone of the Reach band that it no longer
covers is a monitor tone again (R24, R61). -/
def State.remask (s : State) (l want : Nat) (t : Store Nat) : Store Nat :=
  fitTo (maxBitsOf (s.g LLOAD.CTRL.MAXBITS l)) (fun k => bit want k || s.hostMasked l k) (fun k => decide (k ≤ 8)) t

/-- New tables of both directions of a running line, with their differing segments to send; one that cannot carry the
overhead word ends in LOW_SNR (R141, R146). -/
def State.stageTables (s : State) (l : Nat) (rx tx : Store Nat) : State :=
  if !carriesOverhead rx || !carriesOverhead tx then s.lowSnr l
  else
    s.modLine l fun x =>
      { x with newRx := some ((x.rxId + 1) % 256, rx), newTx := some ((x.txId + 1) % 256, tx), sraPending := false,
               tablesPending := false,
               sendSegs := diffSegs x.rxTable rx ++ (diffSegs x.txTable tx).map (16 + ·),
               sub := if x.st = .showtime then 1 else x.sub }

/-- Propose the new tables of both directions of a line for superframe `target`. -/
def State.proposeTables (s : State) (l target : Nat) : State :=
  match (s.line l).newRx, (s.line l).newTx with
  | some (i, _), some (j, _) =>
    let up := s.isVHead l
    s.propose (s.anchor l) target [.loading l up i, .loading l (!up) j]
  | _, _ => s

/-- New tables of both directions of a running line, proposed at once by sealed LOADING changes for a superframe that the
post or the level change fixes (R38, R110). -/
def State.reload (s : State) (l target : Nat) (rx tx : Store Nat) : State :=
  (s.stageTables l rx tx).proposeTables l target

/-- The mask or MAXBITS wanted is not in force: RMASK, or a table in effect, differs from it (R24, R61). -/
def State.lacksMask (s : State) (l : Nat) : Bool :=
  let want := s.wantedMask l
  let x := s.line l
  want != s.g LLOAD.RMASK.MASK l 0 || s.remask l want x.rxTable != x.rxTable || s.remask l want x.txTable != x.txTable

/-- The tables that the mask wanted brings are staged on a running line, and proposed once their segments have been sent (R24,
R146). -/
def State.stageMask (s : State) (l : Nat) : State :=
  let want := s.wantedMask l
  let x := s.line l
  let s := s.stageTables l (s.remask l want x.rxTable) (s.remask l want x.txTable)
  s.modLine l fun x => { x with tablesPending := x.newRx.isSome && x.newTx.isSome }

/-- Masks of R24 after a change of B_max or of a tag: a V line in SHOWTIME follows by sealed LOADING posts of both
directions, any other at once; a BANKED line so masks its pilots at once, and its tables by such posts once it has woken
(DEDUCED, log 61). -/
def State.refreshMasks (s : State) : State :=
  allLines.foldl (fun s l =>
    if s.wantedMask l = s.g LLOAD.RMASK.MASK l 0 then s
    else if (s.line l).st = .showtime ∨ (s.line l).st = .leaving then s.stageMask l
    else s.setRmask l (s.wantedMask l)) s

end Sys2Proof.Machine
end

