-- ==== Sys2Proof/Machine/Matrix.lean ====
section
/-! DEFINITION. The crosstalk engine's matrices and passes as shared operations: entries (R89, R90),
the receive and transmit passes (R87, R88), NXT increments (R96), group landings (R97, R99, R100,
R128), normalisation (R92), errors in the memory (R114), the write port (R120). -/

namespace Sys2Proof.Machine

/-! ### Entries -/

/-- The index of an entry (R90). -/
def entryIndex (k v d : Nat) : Nat := k * 2 ^ 14 + v * 2 ^ 7 + d

/-- The key of an entry of matrix m: 0 NXT, 1 FXU, 2 PRD; 3 holds a V-tail line's echo taps (R60). -/
def coefKey (m k v d : Nat) : Nat := m * 2 ^ 21 + entryIndex k v d

def State.coefRaw (s : State) (key : Nat) : Int × Int := s.xe.coef.get (0, 0) key

def State.setCoef (s : State) (key : Nat) (c : Int × Int) : State :=
  { s with xe := { s.xe with coef := s.xe.coef.set (0, 0) key c } }

/-- The value of an entry: raw parts / 16384 (R90). -/
def State.coef (s : State) (m k v d : Nat) : Cx :=
  let c := s.coefRaw (coefKey m k v d)
  ⟨(c.1 : Rat) / 16384, (c.2 : Rat) / 16384⟩

/-- An entry the XENGINE holds at zero: of a line not in V-head mode, or a diagonal of FXU or PRD
(R19, R89). -/
def State.heldZero (s : State) (m v d : Nat) : Bool :=
  !s.isVHead v || !s.isVHead d || (m != 0 && v == d)

/-- An entry as it reads: 0 where it is held at zero (R19, R89). -/
def State.entry (s : State) (m k v d : Nat) : Int × Int :=
  if s.heldZero m v d then (0, 0) else s.coefRaw (coefKey m k v d)

/-- Store an entry as a write does: 0 where it is held at zero (R89). -/
def State.writeCoef (s : State) (m k v d : Nat) (c : Int × Int) : State :=
  s.setCoef (coefKey m k v d) (if s.heldZero m v d then (0, 0) else c)

/-- One part of an update, saturated to Q2.14 (R90). -/
def satPart (x : Int) : Int := clampInt (-32768) 32767 x

/-- Store an update's result in an entry, each part saturating; a saturated update counts in SAT_COUNT and raises
SAT (R90, R116). -/
def State.updateCoef (s : State) (key : Nat) (re im : Int) : State :=
  let s' := s.setCoef key (satPart re, satPart im)
  if satPart re = re ∧ satPart im = im then s'
  else (s'.bump XENGINE.SAT_COUNT.COUNT).pulse .xengine 0 1

/-- Add an increment to an entry (R90). -/
def State.addCoef (s : State) (key : Nat) (re im : Int) : State :=
  s.updateCoef key ((s.coefRaw key).1 + re) ((s.coefRaw key).2 + im)

/-- Clear the row and the column of a line in all three matrices (R105, R107). -/
def State.clearEntries (s : State) (l : Nat) : State :=
  { s with xe := { s.xe with coef := s.xe.coef.filter fun e =>
      e.1 / 2 ^ 7 % 128 != l && e.1 % 128 != l } }

/-! ### Membership (R93) -/

/-- The line is active in the passes. -/
def State.isActive (s : State) (l : Nat) : Bool :=
  let x := s.line l
  x.active && !x.frozen && s.isVHead l

def State.isPilotActive (s : State) (l : Nat) : Bool := (s.line l).pilotActive && s.isVHead l

def State.activeLines (s : State) : List Nat := allLines.filter s.isActive

/-- The mask word i of a set of lines. -/
def lineMask (sel : Nat → Bool) (i : Nat) : Nat :=
  ((List.range 32).filter fun n => sel (32 * i + n)).foldl (fun m n => m + 2 ^ n) 0

def State.nv (s : State) : Nat := s.lvl.nv

/-- FEQ_k of a line (R65). -/
def State.feq (s : State) (l k : Nat) : Cx := (s.line l).taps.get Cx.zero k

/-- FEQ_k takes a value, which LLOAD shows in Q4.12. -/
def State.setFeq (s : State) (l k : Nat) (c : Cx) : State :=
  let s := s.modLine l fun x => { x with taps := x.taps.set Cx.zero k c }
  (s.wr LLOAD.FEQ.FEQ_I (ofSigned 16 (shownFeq c.re)) l k).wr LLOAD.FEQ.FEQ_Q (ofSigned 16 (shownFeq c.im)) l k

/-- NORM_k (R92). -/
def State.norm (s : State) (k : Nat) : Rat := (s.g XENGINE.NORM.NORM 0 k : Rat) / 32768

/-- T_{k,d} of the symbol in progress. -/
def State.sent (s : State) (d k : Nat) : Cx := s.xe.tx.get Cx.zero (d * 128 + k)

/-! ### Passes (R87, R88) -/

/-- Step 1 of the receive pass: U_v from Y_v.  On a pilot symbol the columns of pilot-active lines
are applied too; of the row of a line that is not active nothing else is (R93); above NV only the diagonal. -/
def State.nextCancel (s : State) (pilot : Bool) (k v : Nat) (y : Cx) : Cx :=
  let ds := (if k ≤ s.nv then allLines else [v]).filter fun d =>
    (s.isActive v && s.isActive d) || (pilot && s.isPilotActive d)
  y.sub (Cx.sum (ds.map fun d => (s.coef 0 k v d).mul (s.sent d k)))

/-- The receive pass on one tone: `u` gives U of each line (R87). -/
def State.fextCancel (s : State) (k v : Nat) (u : Nat → Cx) : Cx :=
  if k ≤ s.nv then
    (u v).add (Cx.sum ((s.activeLines.filter (· != v)).map fun d => (s.coef 1 k v d).mul (u d)))
  else u v

/-- The transmit pass on one tone: `x` gives X of each line (R88). -/
def State.precode (s : State) (k v : Nat) (x : Nat → Cx) : Cx :=
  if k ≤ s.nv then
    Cx.scale (s.norm k)
      ((x v).add (Cx.sum ((s.activeLines.filter (· != v)).map fun d =>
        (s.coef 2 k v d).mul (x d))))
  else x v

/-! ### NXT tracking (R26, R96) -/

/-- m of R96: NXT_M within 6 to 14; 6 on a row in recovery (R114). -/
def State.nxtShift (s : State) (v k : Nat) : Nat :=
  if s.xe.recover.contains (v * 128 + k) then 6 else clampNat 6 14 (s.g XENGINE.CTRL.NXT_M)

/-- The NXT increments of one tone of a victim for its error, to land two symbols later.  A Banked
line's row and column move on pilot symbols only (R26). -/
def State.nxtUpdate (s : State) (pilot : Bool) (v k : Nat) (e : Cx) : List NxtInc :=
  if s.erased v k || s.reachMasked v k then []
  else if (s.line v).st = .banked && !pilot then []
  else
    let eps := e.div (s.feq v k)
    let ds := if k ≤ s.nv then s.activeLines else [v]
    let ds := ds.filter fun d => pilot || (s.line d).st != .banked
    ds.map fun d =>
      let c := Cx.scale (1 / (2 ^ s.nxtShift v k : Nat)) (eps.mul (s.sent d k).conj)
      { left := 2, key := coefKey 0 k v d, re := quantise c.re, im := quantise c.im }

/-- Increments advance one pass; those due land, unless HOLD is in force or a line of theirs is no
longer active (R96, R107, R113). -/
def State.landNxt (s : State) : State :=
  let due := s.xe.pend.filter fun x => x.left ≤ 1
  let rest := (s.xe.pend.filter fun x => x.left > 1).map fun x => { x with left := x.left - 1 }
  let s := { s with xe := { s.xe with pend := rest } }
  if s.xe.hold then s
  else due.foldl (fun s x =>
    if 3 * 2 ^ 21 ≤ x.key then
      let c := s.coefRaw x.key
      s.setCoef x.key (satPart (c.1 + x.re), satPart (c.2 + x.im))
    else if s.isActive (x.key / 2 ^ 7 % 128) && s.isActive (x.key % 128) then
      s.addCoef x.key x.re x.im
    else s) s

/-! ### Group landings (R97 to R100, R128) -/

/-- The tone group estimated in the pilot cycle of a superframe (R97). -/
def groupOf (sfc : Nat) : Nat := sfc / 128 % 8

/-- The tones of a group, tone 0 left out. -/
def groupTones (g : Nat) : List Nat := ((List.range 16).map (16 * g + ·)).filter (· != 0)

/-- An entry is skipped for the lines that sent pilots in only part of the cycle (R128). -/
def rotationSkips (rotated : List Nat) (d : Nat) : Bool :=
  rotated.any fun r => d != r && (d ^^^ r) % 16 == 0

/-- The row, the pilot set and the index t of a line's pilots: of the remote head on a V-tail line
(R94, R131). -/
def State.pilotRow (s : State) (l : Nat) : Nat := if s.isVTail l then (s.line l).remoteLine else l
def State.pilotSet (s : State) (l : Nat) : Nat :=
  if s.isVTail l then (s.line l).remoteSet else s.g XENGINE.CTRL.PILOTSET
def State.pilotIndex (s : State) (l : Nat) : Nat := s.pageSfc .ltrain l % 128

/-- The states before LOADING in which a line has pilots: they leave out no tone but those masked under R24 (R94). -/
def beforeLoading : LineState → Bool
  | .handshake | .ranging | .joining | .training => true
  | _ => false

/-- The amplitude a of a pilot on a tone: the fine gain of a loaded tone, 0.5 on a monitor tone and where no table
is in force, 0 on a tone masked under R24, and on one that HOSTMASK excludes from LOADING on (R61, R94). -/
def pilotGain (st : LineState) (t : Store Nat) (reach host : Bool) (k : Nat) : Rat :=
  if reach then 0
  else if beforeLoading st then 1 / 2
  else if host then 0
  else if entryBits (t.get 0 k) = 0 then 1 / 2
  else gainOf (entryGain (t.get 0 k))

/-- The amplitude of the pilot sent on a line, and of the pilot received on it, whose gains are the partner's. -/
def State.pilotAmp (s : State) (l k : Nat) : Rat :=
  pilotGain (s.line l).st (s.line l).txTable (s.reachMasked l k) (s.hostMasked l k) k
def State.pilotAmpRx (s : State) (l k : Nat) : Rat :=
  pilotGain (s.line l).st (s.line l).rxTable (s.reachMasked l k) (s.hostMasked l k) k

/-- The pilot sent on a line on tone k at index t, with its amplitude (R94). -/
def State.pilotOf (s : State) (l k t : Nat) : Cx :=
  Cx.scale (s.pilotAmp l k) (pilotValue (s.pilotSet l) (s.pilotRow l) k t)

/-- ê_vd: the mean over the cycle of the pilot errors times the disturber's conjugate pilot, with the amplitude
it had in each pilot symbol (R97). -/
def State.correlate (s : State) (errs : Store Cx) (amps : Store Rat) (k v d : Nat) : Cx :=
  Cx.scale (1 / 128) (Cx.sum ((List.range 128).map fun t =>
    (errs.get Cx.zero ((t * 128 + v) * 128 + k)).mul
      (Cx.scale (amps.get 0 ((t * 128 + d) * 128 + k))
        (pilotValue (s.pilotSet d) (s.pilotRow d) k t)).conj))

/-- Entries (v, d) of a group's landing that count as valid, and how many are skipped (R99). -/
def landingPairs (vs ds : List Nat) : List (Nat × Nat) :=
  vs.flatMap fun v => (ds.filter (· != v)).map fun d => (v, d)

/-- Count skipped entries at a landing (R99, R116 condition SKIP). -/
def State.countSkips (s : State) (n : Nat) : State :=
  if n = 0 then s else (s.bump XENGINE.SKIP_COUNT.COUNT 0 n).pulse .xengine 0 8

/-- The increment of one FXU entry (R97). -/
def State.fxuInc (s : State) (k v d : Nat) : Cx :=
  let mu : Rat := 1 / (2 ^ (1 + s.g XENGINE.CTRL.FXU_MU) : Nat)
  Cx.scale (-mu) (((s.correlate s.xe.prevErr s.xe.prevAmpUp k v d).mul (s.feq d k)).div (s.feq v k))

/-- The gain of a training symbol's tone: 1.0, lowered where the join lowered it (R102 step 7, R139). -/
def State.trainingGain (s : State) (l k : Nat) : Rat :=
  min 1 (gainOf (((s.line l).cut.find k).getD 1024))

/-- A tone that training leaves out: by the OFFER's mask, or masked under R24 (R139). -/
def State.trainMasked (s : State) (l k : Nat) : Bool := bit (s.line l).offerMask k || s.reachMasked l k

/-- The states in which an active line sends training symbols (R139, R149). -/
def sendsAtOne : LineState → Bool
  | .joining | .training | .loading | .retrain => true
  | _ => false

/-- The fine gain of a line's transmitted tone k: its training gain where it trains, else its table's, a monitor
tone's included; 0 on a tone left out (R61, R102, R139, R149). -/
def State.fineGain (s : State) (d k : Nat) : Rat :=
  if sendsAtOne (s.line d).st then (if s.trainMasked d k then 0 else s.trainingGain d k)
  else if s.masked d k then 0
  else gainOf (entryGain ((s.line d).txTable.get 0 k))

/-- ρ_{k,v} of R92 with the squared fine gains. -/
def State.rho (s : State) (k v : Nat) : Rat :=
  let g2 := fun d =>
    let g := s.fineGain d k
    if s.isActive d then g * g else 0
  g2 v + ((s.activeLines.filter (· != v)).map fun d => (s.coef 2 k v d).normSq * g2 d).foldl (· + ·) 0

/-- η_k × 10^0.25 of R92: the largest ρ over the active lines. -/
def State.rhoMax (s : State) (k : Nat) : Rat := (s.activeLines.map (s.rho k)).foldl max 0

/-- n × 10^(±1/1000): a step of at most 0.02 dB, by whole powers (R92). -/
def normUp (n : Nat) : Nat :=
  ((List.range (n / 300 + 1)).map (n + ·)).foldl
    (fun best m => if m ^ 1000 ≤ n ^ 1000 * 10 then m else best) n
def normDown (n : Nat) : Nat :=
  ((List.range (n / 300 + 1)).map (n - ·)).foldl
    (fun best m => if n ^ 1000 ≤ m ^ 1000 * 10 then m else best) n

/-- The target of NORM_k in units of 2^-15 for the largest ρ: min(1, 1/√η_k), within 0.5 to 1, rounded down so that
η_k × NORM_k² stays at most 1 (R92). -/
def normTarget (rho : Rat) : Nat :=
  if rho ≤ 0 then 0x8000
  else clampNat 0x4000 0x8000
    (Nat.sqrt (sqrtRat (sqrtRat 10) * (2 ^ 30 : Nat) / rho).floor.toNat)

/-- NORM_k moves toward its target by at most 0.02 dB, and never below 0.5 (R92). -/
def State.stepNorm (s : State) (k : Nat) : State :=
  let n := s.g XENGINE.NORM.NORM 0 k
  let t := normTarget (s.rhoMax k)
  s.wr XENGINE.NORM.NORM (if t ≥ n then min t (normUp n) else max t (normDown n)) 0 k

/-- After a fall of 0.02 dB, and never below 0.5, NORM_k still satisfies η_k NORM_k² ≤ 1 (R92): to the
fourth power, with η_k = ρ / 10^0.25. -/
def State.normHolds (s : State) (k : Nat) : Bool :=
  let n : Rat := (max 0x4000 (normDown (s.g XENGINE.NORM.NORM 0 k)) : Nat) / 32768
  decide (s.rhoMax k ^ 4 * n ^ 8 ≤ 10)

/-- The PRD increments of valid entries (v, d) of one tone, from the tails' reported errors (R99). -/
def State.prdIncs (s : State) (pairs : List (Nat × Nat)) (k : Nat) : List (Nat × Cx) :=
  let mu : Rat := 1 / (2 ^ (1 + s.g XENGINE.CTRL.PRD_MU) : Nat)
  pairs.map fun (v, d) =>
    (coefKey 2 k v d, Cx.scale (-mu) (s.correlate s.xe.prevFeedback s.xe.prevAmpDown k v d))

/-- Increments added to their entries, scaled by `factor` / 1024. -/
def State.addIncs (s : State) (incs : List (Nat × Cx)) (factor : Nat) : State :=
  incs.foldl (fun s (key, c) =>
    let c := Cx.scale ((factor : Rat) / 1024) c
    s.addCoef key (quantise c.re) (quantise c.im)) s

/-- The largest factor in steps of 1/1024 that keeps NORM_k within its fall (R92; the step is a DESIGN
CHOICE, log 24). -/
def State.prdFactor (s : State) (incs : List (Nat × Cx)) (k : Nat) : Nat → Nat
  | 0 => 0
  | n + 1 => if (s.addIncs incs (n + 1)).normHolds k then n + 1 else s.prdFactor incs k n

/-- A PRD update of one tone, measured or reciprocal: the whole increment scaled down where NORM_k would have to
fall by more than 0.02 dB, which raises NORM_LIMITED; then NORM_k moves (R92, R99, R100). -/
def State.landPrdIncs (s : State) (incs : List (Nat × Cx)) (k : Nat) : State :=
  let f := if incs.isEmpty then 1024 else s.prdFactor incs k 1024
  let t := s.addIncs incs f
  (if f < 1024 then t.pulse .xengine 0 7 else t).stepNorm k

/-! ### Memory errors (R114) -/

/-- A corrected error. -/
def State.corrected (s : State) : State := s.bump XENGINE.CE_COUNT.COUNT

/-- The local recovery of an uncorrectable error (R114), and the source that recovers, if any.  A word of staging bank A or
B is taken to hold the increments of its group by tone, victim and disturber in this order (DESIGN CHOICE, log 105); bank B
turns to a new group one superframe later than bank A (R99). -/
def State.recoverEntry (s : State) (m index : Nat) : State :=
  let k := index / 2 ^ 14 % 128
  let v := index / 2 ^ 7 % 128
  if m = 3 then
    if index / 2 ^ 18 < 2 then
      let bank := index / 2 ^ 18
      let key := (bank + 1) * 2 ^ 21 + groupOf (if bank = 0 then s.sfc else s.sfc - 1) * 2 ^ 18 + index % 2 ^ 18
      { s with xe := { s.xe with lost := insertSorted key s.xe.lost } }
    else { s with xe := { s.xe with lostC := insertSorted (Config.stagingEntry (index % 2 ^ 18)) s.xe.lostC } }
  else
    let s := s.setCoef (m * 2 ^ 21 + index) (0, 0)
    if m = 0 then
      let s := s.beginRecovery 18
      { s with xe := { s.xe with recover := insertSorted (v * 128 + k) s.xe.recover } }
    else if k ≤ s.nv then
      let s := s.beginRecovery 18
      { s with xe := { s.xe with awaiting := insertSorted (m * 2 ^ 21 + index) s.xe.awaiting } }
    else { s with xe := { s.xe with freshTones := insertSorted k s.xe.freshTones } }

/-- The UE registers take an error, and UE rises (R114). -/
def State.showUe (s : State) (m index : Nat) : State :=
  let s := (s.bump XENGINE.UE_COUNT.COUNT).wr XENGINE.UE_LAST.MATRIX m
  ((s.wr XENGINE.UE_LAST.INDEX index).wr XENGINE.UE_SFC.SFC (s.sfc % 2 ^ 32)).pulse .xengine 0 0

/-- An uncorrectable error: matrix 0 to 2 at an index, or 3 at a word of the staging banks (bank A,
B or C by word).  Its record, UE registers and local recovery (R114, R309). -/
def State.uncorrectable (s : State) (m index : Nat) : State :=
  let s := s.showUe m index
  let addr := m * 2 ^ 21 + index
  let cls := if m = 3 ∧ index / 2 ^ 18 < 2 then 0 else 1
  let s := s.log { code := 0x0D, cls := cls, source := 18, addr := addr }
  let s := s.recoverEntry m index
  if cls = 1 && !s.fault.recovering.contains 18 then
    s.modFault fun x => { x with handling := if x.handling = some 18 then none else x.handling }
  else s

/-- The XENGINE's recovery ends where nothing is left to recover. -/
def State.recoveryCheck (s : State) : State :=
  if s.xe.recover.isEmpty && s.xe.awaiting.isEmpty then s.endRecovery 18 else s

/-! ### The coefficient write port (R120) -/

/-- The next master in the order of R120: the sequencer the port is reserved for and no other; else a join's
sequencer, then the XENGINE DMA, then XWINDOW in arrival order. -/
def nextWriter (reserved : Option Nat) (waiting : List Nat) : Option Nat :=
  match reserved with
  | some r => waiting.find? (· == r)
  | none =>
    match waiting.find? fun m => 0x10 ≤ m && m ≤ 0x13 with
    | some m => some m
    | none => if waiting.contains 0x20 then some 0x20 else waiting.head?

/-- A master gives the port back. -/
def State.releasePort (s : State) (master : Nat) : State :=
  if s.xe.lease = some master then { s with xe := { s.xe with lease := none } } else s

end Sys2Proof.Machine
end

