-- ==== Sys2Proof/Machine/Ports.lean ====
section
/-! DEFINITION. A port's loading and profile as shared operations: tables coming into effect (R61, R62), and what a
sealed change does at its boundary (R143, R144). -/

namespace Sys2Proof.Machine

/-! ### Tables in effect (R61, R62) -/

/-- The tones of a table in effect: a Reach-masked one carries nothing (R24); HOSTMASK is in the tables agreed (R62). -/
def State.cleanTable (s : State) (l : Nat) (t : Store Nat) : Store Nat :=
  t.filter fun e => !s.reachMasked l e.1 && e.1 != 0 && e.1 < 128

/-- The lines of a port in SHOWTIME with every line there show SUBSTATE normal, else port degraded. -/
def State.refreshDegraded (s : State) (p : Nat) : State :=
  let whole := (s.portLines p).all fun l => (s.line l).st = .showtime
  (s.portLines p).foldl (fun s l =>
    let x := s.line l
    if x.st = .showtime && (x.sub == 0 || x.sub == 2) then
      s.modLine l fun x => { x with sub := if whole then 0 else 2 }
    else s) s

/-- A pending change of loading is over: SUBSTATE shows what remains (R123). -/
def State.clearPending (s : State) (l : Nat) : State :=
  (s.modLine l fun x => { x with sub := if x.st = .showtime && x.sub == 1 then 0 else x.sub }).refreshDegraded
    (s.anchor l)

/-- New tables of a line come into effect: the received direction's, the transmitted's, or both. -/
def State.applyTables (s : State) (l : Nat) (rx tx : Bool) : State :=
  let s := s.modLine l fun x =>
    { x with
      rxTable := match (if rx then x.newRx else none) with
        | some (_, t) => s.cleanTable l t | none => x.rxTable
      rxId := match (if rx then x.newRx else none) with | some (i, _) => i | none => x.rxId
      newRx := if rx then none else x.newRx
      txTable := match (if tx then x.newTx else none) with
        | some (_, t) => s.cleanTable l t | none => x.txTable
      txId := match (if tx then x.newTx else none) with | some (i, _) => i | none => x.txId
      newTx := if tx then none else x.newTx
      sraPending := false
      tablesPending := false
      sraRefusals := 0 }
  (s.clearPending l).showTable l

/-- The mask wanted by R24 comes into force on a running line once both its tables keep clear of it. -/
def State.landMask (s : State) (l : Nat) : State :=
  let want := s.wantedMask l
  let clear := fun (t : Store Nat) => t.all fun e => !bit want e.1 || e.2 == 0
  if clear (s.line l).rxTable && clear (s.line l).txTable then s.setRmask l want else s

/-! ### Sealed changes at their boundary (R144) -/

/-- The profile in force follows PORT_CTL.PROFILE: at a change DTUs still unacknowledged count as lost, the first DTU
after a change to Bulk carries START, and BOUND_CHANGED rises with the figures that follow (R82, R83). -/
def State.applyProfile (s : State) (p : Nat) : State :=
  let want := s.g PORT_CTL.PROFILE.EXPRESS p == 1
  if want = (s.port p).express then s.modPort p fun x => { x with onlyEmpty := false }
  else
    ((s.countLost p (s.port p).unreleased).modPort p fun x => { x.restart with express := want, boundDue := true })

/-- The tables in effect carry the overhead word in both directions (R141). -/
def State.keepsOverhead (s : State) (l : Nat) : Bool :=
  carriesOverhead (s.line l).rxTable && carriesOverhead (s.line l).txTable

/-- One line enters SHOWTIME with its tables (R143 step 6, R149 step 7); without room for the overhead word it ends in
LOW_SNR (R141). -/
def State.enterShowtime (s : State) (l : Nat) : State :=
  let was := (s.line l).st
  let s := s.applyTables l true true
  let s := if was = .retrain then s.bump LTRAIN.RETRAINS.OK l else s
  let s := s.modLine l fun x =>
    { x with active := if s.isVHead l then true else x.active, dying := false, word := none,
             sendSegs := [], inLoad := [], ohBad := 0 }
  if s.keepsOverhead l then s.moveLine l .showtime 0 else s.lowSnr l

/-- A V-head line's NXT row (`row`) or column is rescaled by the ratio of a front end's gains (R91). -/
def State.rescaleNxt (s : State) (l : Nat) (row : Bool) (r : Rat) : State :=
  s.xe.coef.foldl (fun s e =>
    if e.1 / 2 ^ 21 == 0 && (if row then e.1 / 2 ^ 7 % 128 == l else e.1 % 128 == l) then
      s.updateCoef e.1 (quantise (e.2.1 * r / 16384)) (quantise (e.2.2 * r / 16384))
    else s) s

/-- The ratio of two PGA codes' gains, −6 + 0.5 × PGA dB each (R221). -/
def pgaRatio (old new : Nat) : Rat := powerRatio 4 ((new : Int) - old)

/-- The calibrated ratio of two DAC ranges' gains: within 0.5 % of the nominal ratio of the ranges of R211 (R220; log 109). -/
def rangeRatio (l old new : Nat) : Rat :=
  ((2 ^ min new 2 : Nat) : Rat) / (2 ^ min old 2 : Nat) * (1 + withinRat (1 / 200) (Config.rangeError l old new))

/-- A PGA code comes into effect (R91, R222). -/
def State.setPga (s : State) (l v : Nat) : State :=
  let old := s.g LAFE.CTRL.PGA l
  let s := s.wr LAFE.CTRL.PGA v l
  if s.isVHead l && v % 128 != old then s.rescaleNxt l true (pgaRatio old (v % 128)) else s

/-- A DAC range comes into effect (R91, R220). -/
def State.setRange (s : State) (l v : Nat) : State :=
  let old := s.g LAFE.CTRL.RANGE l
  let s := s.wr LAFE.CTRL.RANGE v l
  if s.isVHead l && v % 4 != old then s.rescaleNxt l false (rangeRatio l old (v % 4)) else s

/-- What one change of a landed negotiation does at boundary S (R143, R146, R148, R150, R105, R82).  A line that leaves with
no post of its own mode goes to OFF, or starts anew where the LEAVE names a mode for it (R124; DEDUCED, log 64). -/
def State.landChange (s : State) (p : Nat) : Change → State
  | .loading l up _ =>
    let rx := up == s.isVHead l
    let s := ((s.applyTables l rx (!rx)).landMask l).pulse .ltrain l 6
    if (s.line l).st = .showtime && !s.keepsOverhead l then s.lowSnr l else s
  | .showtimeEntry ls =>
    let first := !s.portUp p
    let s := if first then
        let s := s.modPort p fun x =>
          { x.restart with joinFails := 0, statSince := some (s.portSfc p), hostDue := 4 }
        let s := (s.wr PORT_CTL.HOSTSTAT.PEER_UP 0 p).wr PORT_CTL.HOSTSTAT.HOPS 0 p
        (s.wr PORT_CTL.HOSTSTAT.ONWARD 0xFFFF p).applyProfile p
      else s
    (ls.foldl (fun s l => s.enterShowtime l) s).refreshDegraded p
  | .profile _ => s.applyProfile p
  | .leave ls m =>
    let s := ls.foldl (fun s l =>
      let s := s.modLine l fun x => { x with active := false, dying := false, pilots := false }
      let s := { s with xe := { s.xe with excluded := insertSorted l s.xe.excluded } }
      let s := s.wantClear l
      if (s.postOf .lctl l).isSome then s
      else if m = 0 then (s.forgetLine l).moveLine l .off else s.startLine l) s
    if (s.dataLines p).isEmpty then s.emptyPort p else s.refreshDegraded p
  | .bank =>
    ((s.portLines p).foldl (fun s l =>
      if (s.line l).st = .showtime then s.moveLine l .banked 0 else s) s).emptyPort p
  | .portDrop l =>
    (s.modPort p fun x =>
      { x with dropLines := x.dropLines.filter (· != l),
               dropSince := if (x.dropLines.filter (· != l)).isEmpty then none
                 else x.dropSince }).refreshDegraded p
  | .calGap l =>
    let s := (s.modLine l fun x => { x with frozen := true, sub := 3 }).modCal l fun x =>
      { x with gap := some (s.portSfc p) }
    { s with xe := { s.xe with excluded := insertSorted l s.xe.excluded } }
  | .afe l range v => if range then s.setRange l v else s.setPga l v
  | .sync | .layout _ => s

/-- The profile that a partner's change names is in force at our end too (R82, R144). -/
def State.adoptProfile (s : State) (p : Nat) (ours : Bool) : Change → State
  | .profile b =>
    if ours then s
    else (s.wr PORT_CTL.PROFILE.EXPRESS (b % 2) p).wr PORT_CTL.PROFILE.RTX_MAX (b / 2 % 8) p
  | _ => s

/-- A confirmed negotiation lands at its boundary: every change (the partner's AFE changes are its own
front end's), then the port's figures; its posts
are landed by POST_LANDS on the same boundary. -/
def State.landNeg (s : State) (p : Nat) : State :=
  match (s.port p).neg with
  | some n =>
    if n.confirmed && !n.withdrawn && n.target == s.portSfc p then
      let cs := n.changes.filter fun c => match c with | .afe _ _ _ => n.ours | _ => true
      let s := cs.foldl (fun s c => (s.adoptProfile p n.ours c).landChange p c) s
      (s.modPort p fun x => { x with neg := none, sealCode := 0, sealHeld := [], lowered := none }).refreshPort p
    else s
  | none => s

end Sys2Proof.Machine
end

