-- ==== Sys2Proof/Machine/Secy.lean ====
section
/-! DEFINITION. A port's stream of blocks as shared operations: frames, the SecY (R351 to R354), the
ingress buffer and its frame rule (R259), through-connections (R266), the egress side (R262) and the
control blocks of R256. -/

namespace Sys2Proof.Machine

/-! ### Blocks and frames -/

def Block.pair (b : Block) : Nat × Nat := (b.sync, b.payload)
def blockOf (p : Nat × Nat) : Block := ⟨p.1, p.2⟩

/-- Block types of Clause 49 that start a frame, and that end one (PRESUMED, log 5: the outside standard). -/
def isStart (b : Block) : Bool := b.sync == 2 && [0x78, 0x33, 0x66].contains (b.payload % 256)
def isTerminate (b : Block) : Bool :=
  b.sync == 2 && [0x87, 0x99, 0xAA, 0xB4, 0xCC, 0xD2, 0xE1, 0xFF].contains (b.payload % 256)

/-- The bytes of a block's payload. -/
def Block.bytes (b : Block) : List Nat := (List.range 8).map fun i => b.payload / 256 ^ i % 256

/-- The bytes of a frame given as its blocks, from the destination address to the FCS: what follows the 8 bytes that begin with
the start code, to the terminate code (Clause 49; PRESUMED, log 5). -/
def frameOf (f : List Block) : List Nat :=
  let skip := if ((f.head?).map fun b => b.payload % 256) = some 0x78 then 0 else 4
  let last := match f.getLast? with
    | some b => (b.bytes.drop 1).take ([0x87, 0x99, 0xAA, 0xB4, 0xCC, 0xD2, 0xE1, 0xFF].findIdx (· == b.payload % 256))
    | none => []
  ((f.drop 1).dropLast.flatMap Block.bytes).drop skip ++ last

/-- The EtherType of a frame (R352). -/
def frameType (f : List Block) : Nat := pairAt (frameOf f) 12

/-- The length of a frame once protected: with a SecTAG of 8 bytes, 8 more with an SCI, and an ICV of 16 (IEEE 802.1AE;
PRESUMED, log 5). -/
def protectedLength (sci : Bool) (f : List Block) : Nat := (frameOf f).length + 8 + 8 * bnat sci + 16

/-- The association number and the packet number of a SecTAG (IEEE 802.1AE; PRESUMED, log 5). -/
def secTagAn (f : List Block) : Nat := (frameOf f).getD 14 0 % 4
def secTagPn (f : List Block) : Nat := pairAt (frameOf f) 16 * 2 ^ 16 + pairAt (frameOf f) 18

/-- The last block of a frame becomes an error control block (R352). -/
def spoil (f : List Block) : List Block := f.dropLast ++ [errorBlock]

/-- One block of the stream toward the host; at a frame's end what waited follows (R256). -/
def PortX.push (x : PortX) (b : Block) : PortX :=
  if (x.egressOpen || isStart b) && !isTerminate b then { x with egress := x.egress ++ [b], egressOpen := true }
  else { x with egress := x.egress ++ [b] ++ x.control, egressOpen := false, control := [] }

/-- Blocks that stand between two frames of the stream toward the host (R256, R261). -/
def PortX.between (x : PortX) (bs : List Block) : PortX :=
  if x.egressOpen then { x with control := x.control ++ bs } else { x with egress := x.egress ++ bs }

/-! ### Lanes of a port (R255, R260, R262) -/

/-- LANEj of a cluster's quad map. -/
def laneField : Nat → Fld
  | 0 => SORTING.QUADLANE.LANE0 | 1 => SORTING.QUADLANE.LANE1 | 2 => SORTING.QUADLANE.LANE2
  | 3 => SORTING.QUADLANE.LANE3 | 4 => SORTING.QUADLANE.LANE4 | 5 => SORTING.QUADLANE.LANE5
  | 6 => SORTING.QUADLANE.LANE6 | _ => SORTING.QUADLANE.LANE7

/-- The lane that carries quad q. -/
def State.quadLane (s : State) (q : Nat) : Nat := 8 * (q / 8) + s.g (laneField (q % 8)) 0 (q / 8)

/-- The lane of a port. -/
def State.portLane (s : State) (p : Nat) : Nat := s.quadLane (p / 4)

/-- The ports mapped to a lane. -/
def State.lanePorts (s : State) (l : Nat) : List Nat :=
  allLines.filter fun p => s.isAnchor p && s.portLane p == l

/-- What a port's slots carry where no block waits (R245, R262, R264, R312): the remote fault sequence in the safe state, while
its lane is not ACTIVE or its partner's host is down, low-power idle while a BASE-T partner is in it, else idle. -/
def State.refreshFill (s : State) (p : Nat) : State :=
  let up := s.g LANE.STATUS.STATE (s.portLane p) == 5
  let fill := if s.fault.s3 || !up || (s.isV p && s.portUp p && s.g PORT_CTL.HOSTSTAT.PEER_UP p == 0) then remoteFault
    else if s.mode p = 3 ∧ s.g LSTD.STATUS.RX_LPI p = 1 then lpiBlock else idleBlock
  s.modPort p fun x => { x with fill := fill }

/-- The lane is in a near loopback (R265). -/
def State.nearLoop (s : State) (l : Nat) : Bool :=
  s.g LANE.STATUS.STATE l == 6 && (s.g LANE.CTRL.LOOP l == 1 || s.g LANE.CTRL.LOOP l == 2)

/-- The port carries host data: its lane is ACTIVE and not in legacy mode with another layout than one
W4 port, or is in a near loopback (R260, R262, R265), but for the safe state (R312). -/
def State.hostUp (s : State) (p : Nat) : Bool :=
  let l := s.portLane p
  !s.fault.s3 && ((s.g LANE.STATUS.STATE l == 5 && (s.g LANE.STATUS.LEGACY l == 0 || s.width p == 4)) || s.nearLoop l)

/-- Send a control block on a port's slots, where its lane carries control blocks and the capability
bit was accepted (R256). -/
def State.sendControl (s : State) (p cap : Nat) (b : Block) : State :=
  let l := s.portLane p
  if s.g LANE.STATUS.STATE l == 5 && s.g LANE.STATUS.LEGACY l == 0 && bit (s.g LANE.STATUS.CAPS l) cap then
    s.modPort p fun x => x.between [b]
  else s

/-! ### The SecY -/

/-- The SecY of a V or STANDARD port is in the stream (R351, R355, R266). -/
def State.secyOn (s : State) (p : Nat) : Bool :=
  s.g PORT_SEC.SECY_CTRL.ENABLE p == 1 && s.mode p != 4 && s.g PORT_CTL.HOSTSTAT.THRU_ACTIVE p != 1

def State.xpn (s : State) (p : Nat) : Bool := decide (2 ≤ s.g PORT_SEC.SECY_CTRL.CIPHER p)

/-- The settings and keys a frame is protected or validated under. -/
def State.secySettings (s : State) (p : Nat) (tx : Bool) (sa : Sa) (pn : Nat) : List Nat :=
  let sci := if tx then s.g PORT_SEC.SCI_TX_HI.SCI p * 2 ^ 32 + s.g PORT_SEC.SCI_TX_LO.SCI p
    else s.g PORT_SEC.SCI_RX_HI.SCI p * 2 ^ 32 + s.g PORT_SEC.SCI_RX_LO.SCI p
  [s.g PORT_SEC.SECY_CTRL.CIPHER p, s.g PORT_SEC.SECY_CTRL.OFFSET p % 3,
    s.g PORT_SEC.SECY_CTRL.INCLUDE_SCI p, sci, sa.an, pn, sa.ssci] ++
    sa.key.take (if s.g PORT_SEC.SECY_CTRL.CIPHER p % 2 = 0 then 4 else 8) ++ sa.salt

/-- Advance a SecY counter: index in the order of R355. -/
def State.secyCount (s : State) (p i : Nat) : State := s.bump PORT_SEC.CNT.COUNT p 1 i

def State.setSa (s : State) (p a : Nat) (x : Sa) : State :=
  s.modPort p fun y => { y with sas := y.sas.put a (some x) }

/-- A transmit SA stands at a PN: its threshold, once, and its end (R353). -/
def State.reachPn (s : State) (p a : Nat) (sa : Sa) : State :=
  let x := s.xpn p
  let last := if x then 2 ^ 64 - 1 else 2 ^ 32 - 1
  let warn := if x then 2 ^ 63 + 2 ^ 62 else 0xC0000000
  let warned := sa.warned || decide (warn ≤ sa.pn)
  let done := decide (last ≤ sa.pn)
  let s := s.setSa p a { sa with warned := warned, exhausted := sa.exhausted || done }
  let s := if warned && !sa.warned then s.pulse .port_sec p 0 else s
  if done && !sa.exhausted then
    let s := s.wr PORT_SEC.SA_CTRL.EXHAUSTED 1 p a
    (s.pulse .port_sec p 1).noteS1 0x29 (128 + p) a
  else s

/-- SAs installed land at a frame boundary of their direction, with every word at once (R353). -/
def State.landSas (s : State) (p : Nat) (tx : Bool) : State :=
  let due := (s.port p).sasNext.filter fun e => decide (e.1 < 2) == tx
  let s := s.modPort p fun x =>
    { x with sas := due.foldl (fun t e => t.put e.1 (some e.2)) x.sas,
             sasNext := x.sasNext.filter fun e => decide (e.1 < 2) != tx }
  if tx then due.foldl (fun s e => s.reachPn p e.1 e.2) s else s

/-- A whole frame from the host, under the transmit SA that TX_ACTIVE named at its start: protected, the blocks added debited from
the issue accumulator, passed, or dropped (R352 to R354); with no SA installed there it is dropped as for one that sends no more
(DESIGN CHOICE, log 91). -/
def State.secyOut (s : State) (p : Nat) (f : List Block) : List Block × State :=
  if frameType f = 0x888E ∨ s.g PORT_SEC.SECY_CTRL.PROTECT p = 0 then (f, s)
  else
    let a := (s.port p).secSa
    match (s.port p).sas.find a with
    | none => ([], s.secyCount p 3)
    | some sa =>
      if sa.exhausted then ([], s.secyCount p 3)
      else if 9248 < protectedLength (s.g PORT_SEC.SECY_CTRL.INCLUDE_SCI p == 1) f then ([], s.secyCount p 2)
      else
        let out := Config.secyProtect (s.secySettings p true sa sa.pn) (f.map Block.pair)
        let s := (s.secyCount p 1).reachPn p a { sa with pn := sa.pn + 1 }
        (out.map blockOf, s.modPort p fun x => { x with credit := x.credit - ((out.length : Int) - f.length) })

/-- The installed receive SA with an association number. -/
def State.rxSa (s : State) (p an : Nat) : Option (Nat × Sa) :=
  ([2, 3, 4, 5].filterMap fun a =>
    match (s.port p).sas.find a with
    | some sa =>
      if sa.an = an ∧ s.g PORT_SEC.SA_CTRL.ENABLE p a = 1 then some (a, sa) else none
    | none => none).head?

/-- The packet number of a received frame: with XPN its upper half is that of the lowest acceptable one, or the next where the
lower half has wrapped (IEEE 802.1AE; PRESUMED, log 5). -/
def State.fullPn (s : State) (p : Nat) (sa : Sa) (pn : Nat) : Nat :=
  let low := sa.pn % 2 ^ 32
  if s.xpn p then (sa.pn / 2 ^ 32 + bnat (decide (pn < 2 ^ 31 ∧ 2 ^ 31 ≤ low))) * 2 ^ 32 + pn else pn

/-- What becomes of a received frame that fails: in Strict it is spoilt, else delivered as it is. -/
def State.secyFail (s : State) (p i : Nat) (f : List Block) : List Block × State :=
  let strict := s.g PORT_SEC.SECY_CTRL.VALIDATE p % 3 = 0
  (if strict then spoil f else f, s.secyCount p i)

/-- A whole frame from the line: validated (R352). -/
def State.secyIn (s : State) (p : Nat) (f : List Block) : List Block × State :=
  let w := f.map Block.pair
  let mode := s.g PORT_SEC.SECY_CTRL.VALIDATE p % 3
  if frameType f = 0x888E then (f, s)
  else if frameType f ≠ 0x88E5 then s.secyFail p 9 f
  else if Config.secTagBad w then s.secyFail p 10 f
  else
    match s.rxSa p (secTagAn f) with
    | none => s.secyFail p 8 f
    | some (a, sa) =>
      let pn := s.fullPn p sa (secTagPn f)
      let win := s.g PORT_SEC.REPLAY_WIN.WINDOW p
      if s.g PORT_SEC.SECY_CTRL.REPLAY p = 1 ∧ pn < sa.pn then s.secyFail p 7 f
      else
        let cfg := s.secySettings p false sa pn
        let ok := mode == 2 || Config.secyValidate cfg w
        if ok then
          let low := max sa.pn (pn + 1 - win)
          ((Config.secyOpen cfg w).map blockOf,
            (s.setSa p a { sa with pn := low }).secyCount p 4)
        else
          let r := s.secyFail p (if mode = 0 then 6 else 5) f
          (r.1, r.2.pulse .port_sec p 2)

/-! ### Into the ingress buffer -/

/-- Offer one block to the ingress buffer of a port, room for `cap`: a block that finds it full is
dropped with the rest of its frame, the first dropped one replaced by an error control block; the
drop is counted in `F` with condition `c` (R259, R266). -/
def State.offerBlock (s : State) (p cap : Nat) (F : Fld) (c : Nat) (b : Block) : State :=
  let x := s.port p
  if x.dropping then s.modPort p fun x => { x with dropping := !isTerminate b }
  else if x.ingress.length < cap then s.modPort p fun x => { x with ingress := x.ingress ++ [b] }
  else
    let s := s.modPort p fun x =>
      { x with ingress := x.ingress ++ [errorBlock], dropping := !isTerminate b }
    (s.bump F p).pulse .port_ctl p c

/-- The ingress buffer of a port: 1,024 blocks per slot of its width (R259). -/
def State.ingressRoom (s : State) (p : Nat) : Nat := 1024 * s.width p

/-- Blocks from the host, or returned by a near loopback, reach the buffer. -/
def State.intoIngress (s : State) (p : Nat) (bs : List Block) : State :=
  bs.foldl (fun s b => s.offerBlock p (s.ingressRoom p) PORT_CTL.INGRESS_DROP.COUNT 7 b) s

/-- One block of the host's stream through stage 3 of R17: the SecY takes whole frames, from a frame boundary on (R355). -/
def State.fromHost (s : State) (p : Nat) (b : Block) : State :=
  let first := (s.port p).secTx.isEmpty
  if !first || (s.secyOn p && isStart b) then
    let f := (s.port p).secTx ++ [b]
    let s := if first then s.modPort p fun x => { x with secSa := s.g PORT_SEC.SECY_CTRL.TX_ACTIVE p } else s
    if isTerminate b then
      let r := s.secyOut p f
      ((r.2.modPort p fun x => { x with secTx := [] }).landSas p true).intoIngress p r.1
    else s.modPort p fun x => { x with secTx := f }
  else s.intoIngress p [b]

/-! ### Toward the host -/

/-- Blocks toward the host: discarded and counted while the port carries no host data, else out on its slots, and in a near
loopback back into the ingress buffer as well (R262, R265). -/
def State.toHost (s : State) (p : Nat) (bs : List Block) : State :=
  if bs.isEmpty then s
  else if s.hostUp p then
    let s := s.modPort p fun x => bs.foldl PortX.push x
    if s.nearLoop (s.portLane p) then s.intoIngress p bs else s
  else s.bump PORT_CTL.EGRESS_DROP.COUNT p bs.length

/-- One received block past the SecY. -/
def State.pastSecy (s : State) (p : Nat) (b : Block) : State :=
  if !(s.port p).secRx.isEmpty || (s.secyOn p && isStart b) then
    let f := (s.port p).secRx ++ [b]
    if isTerminate b then
      let r := s.secyIn p f
      ((r.2.modPort p fun x => { x with secRx := [] }).landSas p false).toHost p r.1
    else s.modPort p fun x => { x with secRx := f }
  else s.toHost p [b]

/-- Blocks released by the line side of a port (R18 stage 8): into the port it is connected through to,
past the SecY (R266, R351), all-idle blocks apart, else toward the host. -/
def State.deliver (s : State) (p : Nat) (bs : List Block) : State :=
  if s.g PORT_CTL.HOSTSTAT.THRU_ACTIVE p = 1 then
    (bs.filter (· != idleBlock)).foldl (fun s b =>
      s.offerBlock (s.g PORT_CTL.HOSTCFG.PEER p) 1024 PORT_CTL.THRU_DROP.COUNT 8 b) s
  else bs.foldl (fun s b => s.pastSecy p b) s

end Sys2Proof.Machine
end

