-- ==== Sys2Proof/Machine/Pace.lean ====
section
/-! DEFINITION. A port's rates and its own HOSTSTAT (R258, R263, R264, R266): slot capacity, the line's
rate, the stamp issue rate, and what the port tells its partner. -/

namespace Sys2Proof.Machine

/-- The 64-bit payload rate of one slot in bit/s, by LANE.CTRL.RATE (R255). -/
def slotRate (code : Nat) : Rat :=
  (if code = 0 then 25000000000 else 10000000000) * (16384 / 16385) / 4

/-- The slot capacity of a port in bit/s (R258). -/
def State.slotCapacity (s : State) (p : Nat) : Rat :=
  s.width p * slotRate (s.g LANE.CTRL.RATE (s.portLane p))

/-- The rate of a resolved BASE-T speed in bit/s (R248). -/
def speedRate : Nat → Rat
  | 1 => 100000000 | 2 => 1000000000 | 3 => 2500000000 | 4 => 5000000000 | 5 => 10000000000 | _ => 0

/-- The rate of B coded bits a symbol: Express by whole codewords, Bulk by DTUs (R258). -/
def codedRate (express : Bool) (b : Nat) : Rat :=
  if express then ((b / 512 : Nat) : Rat) * 448 * 2800000 * 256 / 257
  else (b : Rat) * 7 / 8 * 2800000 * 6939 / 7168 * 256 / 257

/-- Stamps granted and not used, in blocks: 32 × CUM − N, compared modulo 2^32 (R257); 0 or less is over credit. -/
def State.stampOwed (s : State) (p : Nat) : Int :=
  toSigned 32 ((32 * s.g PORT_CTL.CUM.CUM p + 2 ^ 32 - s.g PORT_CTL.RXBLK_LO.N p) % 2 ^ 32)

/-- What the port's line side carries now, in bit/s (R258). -/
def State.lineRate (s : State) (p : Nat) : Rat :=
  if s.isV p then
    if (s.portLines p).any fun l => (s.line l).st = .showtime then codedRate (s.port p).express (s.codedBits p) else 0
  else if s.mode p = 3 then
    if s.g LSTD.STATUS.LINK p = 1 then speedRate (s.g LSTD.STATUS.SPEED p) else 0
  else if s.mode p = 4 then
    if (s.stampOwed p + 32) * 8 ≤ (s.g LREACH.STATUS.QFREE p * 64 : Int) then s.slotCapacity p else 0
  else 0

/-- The line rate with a fall that is to land counted in from S − 2 on (R27, R258). -/
def State.pacedRate (s : State) (p : Nat) : Rat :=
  match (s.port p).lowered with
  | some r => min r (s.lineRate p)
  | none => s.lineRate p

/-- The line rate once the changes of the port's open negotiation have landed. -/
def State.rateAfter (s : State) (p : Nat) : Rat :=
  match (s.port p).neg with
  | some n => (n.changes.foldl (fun s c => s.landChange p c) s).lineRate p
  | none => s.lineRate p

/-- From S − 2 of an agreed negotiation the issue follows the lower rate (R258). -/
def State.lowerIssue (s : State) (p : Nat) : State :=
  match (s.port p).neg with
  | some n =>
    if n.agreed && n.target == sfcAdd (s.portSfc p) 2 && decide (s.rateAfter p < s.lineRate p) then
      s.modPort p fun x => { x with lowered := some (s.rateAfter p) }
    else s
  | none => s

def mbps (r : Rat) : Nat := (r / 1000000).floor.toNat

/-- HOST_UP of the port (R263, R266). -/
def State.ownHostUp (s : State) (p : Nat) : Bool :=
  if s.g PORT_CTL.HOSTSTAT.THRU_ACTIVE p = 1 then
    let q := s.g PORT_CTL.HOSTCFG.PEER p
    s.portUp q && s.g PORT_CTL.HOSTSTAT.PEER_UP q == 1
  else s.hostUp p

/-- r_p in bit/s (R258): the smallest limit; 0 where the lane is not ACTIVE or the partner's host is
down. -/
def State.issueRate (s : State) (p : Nat) : Rat :=
  if s.g LANE.STATUS.STATE (s.portLane p) ≠ 5 then 0
  else if s.isV p then
    if s.g PORT_CTL.HOSTSTAT.PEER_UP p = 0 then 0
    else
      let o := s.g PORT_CTL.HOSTSTAT.ONWARD p
      let r := min (s.slotCapacity p) (s.pacedRate p)
      if o = 0xFFFF then r else min r (o * 1000000)
  else min (s.slotCapacity p) (s.pacedRate p)

/-- The HOSTSTAT message of a port (R263, R266): flags, ONWARD and HOPS.  A fall that is proposed counts
in ONWARD at once. -/
def State.hostStat (s : State) (p : Nat) : Nat × Nat × Nat :=
  let up := s.ownHostUp p
  let legacy := s.g LANE.STATUS.LEGACY (s.portLane p)
  if s.g PORT_CTL.HOSTSTAT.THRU_ACTIVE p = 1 then
    let q := s.g PORT_CTL.HOSTCFG.PEER p
    let stopped := s.g LANE.STATUS.STATE (s.portLane q) ≠ 5 ∨ s.g PORT_CTL.HOSTSTAT.PEER_UP q = 0
    let r := if stopped then 0 else mbps (min (s.slotCapacity q) (min (s.pacedRate q) (s.rateAfter q)))
    (bnat up + 2 + 4 * legacy, if up then min r (s.g PORT_CTL.HOSTSTAT.ONWARD q) else 0,
     min 255 (s.g PORT_CTL.HOSTSTAT.HOPS q + 1))
  else (bnat up + 4 * legacy, if up then min 0xFFFE (mbps (s.slotCapacity p)) else 0, 0)

end Sys2Proof.Machine
end

