-- ==== Sys2Proof/Machine/Framing.lean ====
section
/-! DEFINITION. From host blocks to the bits of a port's symbol and back (R17, R18): Express packing
(R76, R77), DTUs and retransmission (R78 to R82), the scrambler and the placing of bits on tones (R66
to R69), and the release of blocks toward the host. -/

namespace Sys2Proof.Machine

/-! ### Transmit -/

/-- The blocks that wait end a frame, or are none. -/
def closesFrame (q : List Block) : Bool := (q.getLast?).all fun b => b.sync != 1 && !isStart b

/-- The next four blocks: the host blocks that wait, with idle after the last ones where fewer than four wait and they end a frame
or no more come (`flush`); else those go on waiting (R72, R76, R262; DESIGN CHOICE, log 57). -/
def takeFour (flush : Bool) (q : List Block) : List Block × List Block :=
  if 4 ≤ q.length then (q.take 4, q.drop 4)
  else if flush || closesFrame q then (q ++ List.replicate (4 - q.length) idleBlock, [])
  else (List.replicate 4 idleBlock, q)

/-- The next 257-bit block. -/
def takeBlock (flush : Bool) (q : List Block) : List Bool × List Block :=
  let t := takeFour flush q
  (transcode4 t.1, t.2)

/-- No more blocks come from the host to a frame that has begun (R262). -/
def State.flushes (s : State) (p : Nat) : Bool := !s.hostUp p && s.g PORT_CTL.HOSTSTAT.THRU_ACTIVE p != 1

/-- Lengthen a stream of 257-bit blocks to `n` bits. -/
def fillStream (flush : Bool) : Nat → Nat → List Bool → List Block → List Bool × List Block
  | 0, _, bs, q => (bs, q)
  | f + 1, n, bs, q =>
    if n ≤ bs.length then (bs, q)
    else
      let t := takeBlock flush q
      fillStream flush f n (bs ++ t.1) t.2

/-- The B bits of an Express port's symbol: C codewords with the fill after the first (R76). -/
def expressSymbol (flush : Bool) (b : Nat) (x : PortX) : List Bool × PortX :=
  let c := b / 512
  if c = 0 then (List.replicate b false, x)
  else
    let f := fillStream flush (448 * c) (448 * c) x.txBits x.ingress
    let cws := (List.range c).map fun i => ldpcEncode 16 ((f.1.drop (448 * i)).take 448)
    ((cws.headD []) ++ List.replicate (b - 512 * c) false ++ (cws.drop 1).flatten,
     { x with txBits := f.1.drop (448 * c), ingress := f.2 })

/-- The blocks a new DTU takes: up to 27 groups of four (R79). -/
def takeGroups (flush : Bool) : Nat → List Block → List (List Bool) × List Block
  | 0, q => ([], q)
  | n + 1, q =>
    if q.isEmpty || (decide (q.length < 4) && !flush && !closesFrame q) then ([], q)
    else
      let t := takeFour flush q
      let r := takeGroups flush n t.2
      (transcode4 t.1 :: r.1, r.2)

/-- How many DTUs the retransmission buffer holds: 64 µs of the port's line data, 2.8 Msym/s of B
bits (R80). -/
def bufferDtus (b : Nat) : Nat := b * 1792 / 81920

/-- The largest number of sends of a DTU (R80 rule 6). -/
def State.maxSends (s : State) (p : Nat) : Nat := 1 + min 4 (s.g PORT_CTL.PROFILE.RTX_MAX p)

/-- The oldest missing DTU that may be sent again (R80 rule 5). -/
def resendable (maxSends : Nat) (held : List DtuCopy) : Option DtuCopy :=
  held.find? fun d => d.missing && decide (d.sends < maxSends)

/-- Symbols before a sent DTU can count as missing: 3 and the round trip, in whole symbols (R80 rule 4; DESIGN CHOICE,
log 110). -/
def State.missWait (s : State) (p : Nat) : Nat :=
  3 + ceilDiv (s.g PORT_CTL.RTXTIME.RTT p * 10000) 3515625

/-- A copy that has been sent for the last time leaves the buffer (R80 rules 1 and 6). -/
def State.spentDtus (s : State) (p : Nat) : State :=
  s.modPort p fun x => { x with held := x.held.filter fun d => decide (d.sends < s.maxSends p) }

/-- The next DTU of a Bulk port: a missing one, else a new one; an empty one where nothing waits or
only EMPTY DTUs may close (R79, R80, R82).  An EMPTY DTU shows the next sequence number (DESIGN CHOICE, log 58). -/
def State.nextDtu (s : State) (p : Nat) : Dtu × State :=
  let x := s.port p
  match resendable (s.maxSends p) x.held with
  | some d =>
    let s := s.modPort p fun x =>
      { x with held := x.held.map fun y =>
          if y.dtu.seq = d.dtu.seq then
            { y with sends := y.sends + 1, missing := false, left := 0, wait := s.missWait p } else y }
    ({ d.dtu with rtx := true }, s.bump LMON.DTU_RTX.COUNT p)
  | none =>
    let g := if x.onlyEmpty then ([], x.ingress) else takeGroups (s.flushes p) 27 x.ingress
    let d : Dtu := { seq := x.nextSeq, rtx := false, empty := g.1.isEmpty, start := x.startDue,
                     blocks := g.1 }
    if d.empty then (d, s.modPort p fun x => { x with startDue := false })
    else
      let room := decide (x.held.length < bufferDtus (s.codedBits p))
      let s := s.bump64 LMON.DTU_TX_LO.COUNT LMON.DTU_TX_HI.COUNT p
      let s := s.modPort p fun x =>
        { x with ingress := g.2, startDue := false, nextSeq := (x.nextSeq + 1) % 2 ^ 16,
                 unacked := x.unacked ++ [x.nextSeq],
                 held := if room then
                     x.held ++ [{ dtu := d, sends := 1, left := 0, wait := s.missWait p, missing := false }]
                   else x.held }
      (d, if room then s else (s.bump LMON.RTX_FULL.COUNT p).pulse .port_ctl p 3)

/-- The coded bits of a DTU: four codewords in position order (R78, R79). -/
def Dtu.coded (d : Dtu) : List Bool :=
  (List.range 4).flatMap fun i => interleave (ldpcEncode 64 ((d.bits.drop (1792 * i)).take 1792))

/-- Lengthen a Bulk port's coded bits to `n`. -/
def State.fillBulk : Nat → Nat → Nat → State → State
  | 0, _, _, s => s
  | f + 1, p, n, s =>
    if n ≤ (s.port p).txBits.length then s
    else
      let d := s.nextDtu p
      let s := d.2.modPort p fun x => { x with txBits := x.txBits ++ d.1.coded }
      let s := s.modPort p fun x => { x with held := x.held.map fun y =>
        if y.dtu.seq = d.1.seq && !d.1.empty then { y with left := x.txBits.length } else y }
      State.fillBulk f p n (s.spentDtus p)

/-- The B coded bits of a port's symbol, and what remains. -/
def State.portBits (s : State) (p : Nat) : List Bool × State :=
  let b := s.codedBits p
  if (s.port p).express then
    let r := expressSymbol (s.flushes p) b (s.port p)
    (r.1, s.setPort p r.2)
  else
    let s := State.fillBulk (b / 8192 + 1) p b s
    ((s.port p).txBits.take b, s.modPort p fun x => { x with txBits := x.txBits.drop b })

/-- A symbol carries `b` bits of the port's DTUs: the wait of a DTU runs from the end of the symbol that carries its last
bit (R80 rule 4). -/
def State.ageDtus (s : State) (p b : Nat) : State :=
  s.modPort p fun x => { x with held := x.held.map fun d =>
    if d.left = 0 then { d with wait := d.wait - 1 } else { d with left := d.left - b } }

/-- The acknowledgement a port sends: ACK_SEQ and ACK_MAP (R69, R80). -/
def ackOf (x : PortX) : Nat × Nat :=
  (x.rxNext % 256,
   ((List.range 3).filter fun i =>
      x.rxHeld.any fun d => d.seq == (x.rxNext + 1 + i) % 2 ^ 16).foldl (fun m i => m + 2 ^ i) 0)

/-- The overhead word of a line in the symbol with index n (R69, R70, R71). -/
def State.ohWord (s : State) (p l n : Nat) : OhWord :=
  let x := s.port p
  let a := ackOf x
  { code := x.sealCode
    berf := s.isVHead l && (s.g LLOAD.ERASE.MASK l 0 != 0)
    ackv := !x.express
    ackSeq := if x.express then 0 else a.1
    ackMap := if x.express then 0 else a.2
    frag := (s.line l).txFrame.getD (n - 1) 0 }

/-- The tone carries a monitor point: no bits, and a gain (R61). -/
def isMonitor (e : Nat) : Bool := entryBits e == 0 && entryGain e != 0

/-- One tone of the placing: the bits placed on it, the scrambler state and the coded bits left: the overhead bits
first, then scrambled data; two scrambler bits on a monitor tone (R61, R66, R68). -/
def placeTone (t : Store Nat) (oh : List Bool) (k : Nat) (scr : Nat) (data : List Bool) :
    List Bool × Nat × List Bool :=
  let e := t.get 0 k
  if isMonitor e then
    let r := scrStep scr
    let q := scrStep r.2
    ([r.1, q.1], q.2, data)
  else
    let h := (oh.drop (ohBelow t k)).take (ohOn t k)
    let n := dataOn t k
    (h ++ xorBits (padTo n (data.take n)) (scrBits n scr),
     (List.range n).foldl (fun st _ => (scrStep st).2) scr, data.drop n)

/-- X of every tone of a port's lines in a data symbol: key line × 128 + tone (R64, R66 to R68).  A masked tone keeps
its bits' places and sends nothing (R61). -/
def State.placeSymbol (s : State) (p n : Nat) (data : List Bool) : Store Cx × Nat :=
  let keys := (List.range 127).flatMap fun i => (s.dataLines p).map fun l => (i + 1, l)
  let r := keys.foldl (fun (st : Store Cx × Nat × List Bool) (k, l) =>
    let t := (s.line l).txTable
    let w := msbBits 32 (s.ohWord p l n).encode
    let o := placeTone t w k st.2.1 st.2.2
    let g := if s.masked l k then 0 else gainOf (entryGain (t.get 0 k))
    (st.1.set Cx.zero (l * 128 + k) (Cx.scale g (point o.1)), o.2.1, o.2.2))
    (([], (s.port p).txScr, data) : Store Cx × Nat × List Bool)
  (r.1, r.2.1)

/-! ### Receive -/

/-- Count one 257-bit block delivered as error control blocks (R72, R77, R81, R197). -/
def State.countError (s : State) (p : Nat) : State :=
  (s.bump LMON.ECB.COUNT p).modPort p fun x => { x with tally := { x.tally with ecb := x.tally.ecb + 1 } }

/-- One codeword's outcome in the counters (R197). -/
def State.countCodeword (s : State) (p : Nat) (fixed ok : Bool) : State :=
  let s := s.bump64 LMON.CW_LO.COUNT LMON.CW_HI.COUNT p
  let s := s.modPort p fun x =>
    { x with tally := { x.tally with cw := x.tally.cw + 1, bad := x.tally.bad + bnat (!ok) } }
  if !ok then s.bump LMON.CW_UNCORR.COUNT p
  else if fixed then s.bump64 LMON.CW_FIX_LO.COUNT LMON.CW_FIX_HI.COUNT p
  else s

/-- Take whole 257-bit blocks off an Express stream; one with a bit of an uncorrected codeword is
delivered as error control blocks (R77). -/
def State.drainExpress : Nat → Nat → State → State
  | 0, _, s => s
  | f + 1, p, s =>
    let x := s.port p
    if x.rxBits.length < 257 then s
    else
      let bad := (x.rxBad.take 257).any id
      let s := s.modPort p fun x => { x with rxBits := x.rxBits.drop 257, rxBad := x.rxBad.drop 257 }
      let s := if bad then (s.deliver p (List.replicate 4 errorBlock)).countError p
        else s.deliver p (expand4 (x.rxBits.take 257))
      State.drainExpress f p s

/-- The decoding of an Express symbol from its B ratios (R75 to R77). -/
def State.rxExpress (s : State) (p : Nat) (l : List Rat) : State :=
  let b := l.length
  let c := b / 512
  let cws := (List.range c).map fun i =>
    if i = 0 then l.take 512 else (l.drop (b - 512 * (c - i))).take 512
  let s := cws.foldl (fun s cw =>
    let d := ldpcDecode 16 6 cw
    let s := s.countCodeword p (!ldpcSatisfied 16 (hardBits cw)) d.2
    s.modPort p fun x =>
      { x with rxBits := x.rxBits ++ d.1, rxBad := x.rxBad ++ List.replicate 448 (!d.2) }) s
  State.drainExpress (2 * c + 1) p s

/-- A DTU's host blocks. -/
def dtuBlocks (d : Dtu) : List Block := d.blocks.flatMap expand4

/-- Release the DTUs held in order (R81). -/
def State.releaseDtus : Nat → Nat → State → State
  | 0, _, s => s
  | f + 1, p, s =>
    match (s.port p).rxHeld.find? fun d => d.seq == (s.port p).rxNext with
    | none => s
    | some d =>
      let s := s.modPort p fun x =>
        { x with rxNext := (x.rxNext + 1) % 2 ^ 16, rxHeld := x.rxHeld.filter fun y => y.seq != d.seq,
                 tally := { x.tally with dtus := x.tally.dtus + 1 } }
      State.releaseDtus f p (s.deliver p (dtuBlocks d))

/-- A received DTU with a good CRC-32: an EMPTY one is released at once, the first START one begins the sequence, a copy
of a released one is discarded, a later one is held (R78, R81, R82). -/
def State.rxDtu (s : State) (p : Nat) (d : Dtu) : State :=
  let s := if d.start && !(s.port p).rxStarted then
      s.modPort p fun x => { x with rxNext := 0, rxHeld := [], rxStarted := true } else s
  let x := s.port p
  if d.empty then s
  else if (d.seq + 2 ^ 16 - x.rxNext) % 2 ^ 16 ≥ 2 ^ 15 || x.rxHeld.any (·.seq == d.seq) then s
  else
    let s := if d.rtx then s.bump LMON.DTU_RECOV.COUNT p else s
    let s := s.modPort p fun x => { x with rxHeld := x.rxHeld ++ [d] }
    State.releaseDtus (x.rxHeld.length + 1) p s

/-- The codewords that a Bulk port's collected ratios complete, and the DTUs those complete. -/
def State.rxBulk : Nat → Nat → State → State
  | 0, _, s => s
  | f + 1, p, s =>
    let x := s.port p
    if 2048 ≤ x.rxLlr.length then
      let cw := deinterleave (x.rxLlr.take 2048)
      let d := ldpcDecode 64 12 cw
      let s := s.countCodeword p (!ldpcSatisfied 64 (hardBits cw)) d.2
      State.rxBulk f p (s.modPort p fun x =>
        { x with rxLlr := x.rxLlr.drop 2048, rxBits := x.rxBits ++ d.1 })
    else if 7168 ≤ x.rxBits.length then
      let s := s.modPort p fun x => { x with rxBits := x.rxBits.drop 7168 }
      State.rxBulk f p (match dtuOf (x.rxBits.take 7168) with
        | some d => s.rxDtu p d
        | none => s)
    else s

/-- The receive side gives up on the missing DTU: four error control blocks, counted as lost, event
DTU_LOST; then the DTUs held follow in order (R81). -/
def State.giveUpDtu (s : State) (p : Nat) : State :=
  let s := (s.deliver p (List.replicate 4 errorBlock)).countError p
  let s := (s.countLost p 1).pulse .port_ctl p 0
  let s := s.modPort p fun x => { x with rxNext := (x.rxNext + 1) % 2 ^ 16 }
  State.releaseDtus ((s.port p).rxHeld.length + 1) p s

/-- An acknowledgement: ACK_SEQ names a sequence in the window that opens at the oldest unacknowledged DTU; DTUs
acknowledged leave the buffer, DTUs missing are marked (R80 rules 2 to 4). -/
def State.takeAck (s : State) (p seq map : Nat) : State :=
  let x := s.port p
  let base := x.ackBase
  let rel := fun q => (q + 2 ^ 16 - base) % 2 ^ 16
  let ack := (base + (seq + 256 - base % 256) % 256) % 2 ^ 16
  if rel x.nextSeq < rel ack then s
  else
    let shown := fun q => (q + 2 ^ 16 - (ack + 1)) % 2 ^ 16
    let acked := fun q => decide (rel q < rel ack) ||
      (decide (shown q < 3) && bit map (shown q))
    let missing := fun q => q == ack ||
      (decide (shown q < 3) && !bit map (shown q) && decide (map / 2 ^ (shown q + 1) != 0))
    s.modPort p fun x =>
      { x with ackBase := ack
               unacked := x.unacked.filter fun q => !acked q
               held := (x.held.filter fun d => !acked d.dtu.seq).map fun d =>
          if d.left = 0 && d.wait = 0 && missing d.dtu.seq then { d with missing := true } else d }

/-- What a tone of a line brings to the receiver: the ratios of its data positions, or the two scrambler bits that a
monitor tone takes in place of data (R61, R68). -/
inductive RxTone where
  | data (ratios : List Rat)
  | monitor
  deriving DecidableEq, Repr

/-- Descramble the tones of a port's symbol in position order (R67, R68). -/
def descramble : Nat → List RxTone → List Rat × Nat
  | scr, [] => ([], scr)
  | scr, .monitor :: l => descramble (scrStep (scrStep scr).2).2 l
  | scr, .data rs :: l =>
    let r := descramble ((List.range rs.length).foldl (fun st _ => (scrStep st).2) scr) l
    (((rs.zip (scrBits rs.length scr)).map fun (x, b) => if b then -x else x) ++ r.1, r.2)

/-- Hand a port the tones of one data symbol. -/
def State.rxSymbol (s : State) (p : Nat) (l : List RxTone) : State :=
  let d := descramble (s.port p).rxScr l
  let s := s.modPort p fun x => { x with rxScr := d.2 }
  if (s.port p).express then s.rxExpress p d.1
  else
    let s := s.modPort p fun x => { x with rxLlr := x.rxLlr ++ d.1 }
    State.rxBulk (d.1.length / 1024 + 4) p s

end Sys2Proof.Machine
end

