-- ==== Sys2Proof/Machine/Overhead.lean ====
section
/-! DEFINITION. The overhead channel as shared operations: the bytes of SEAL and LOAD messages (R142,
R144), which message a line's frame carries in a superframe (R71), taking a partner's SEAL and LOAD
messages (R70, R143), and proposing a change of loading (R145, R146). -/

namespace Sys2Proof.Machine

/-- A byte string padded with zeros to `n` bytes. -/
def padBytes (n : Nat) (l : List Nat) : List Nat := l ++ List.replicate (n - l.length) 0

/-- The index of a line in its port. -/
def State.lineIndex (s : State) (l : Nat) : Nat := l - s.anchor l

/-- A bitmap of line indexes. -/
def State.lineMap (s : State) (ls : List Nat) : Nat := ls.foldl (fun m l => m ||| 2 ^ s.lineIndex l) 0

/-- The profile byte of class 0x02 and 0x03 (R144). -/
def State.profileByte (s : State) (p : Nat) : Nat :=
  s.g PORT_CTL.PROFILE.EXPRESS p + 2 * min 4 (s.g PORT_CTL.PROFILE.RTX_MAX p)

/-- The class and parameters of a change (R144); multi-byte values most significant byte first (PRESUMED, log 5); a LAYOUT
message has one byte a line from byte 3 on (DEDUCED, log 59). -/
def State.changeBytes (s : State) (p : Nat) : Change → Nat × List Nat
  | .sync => (0, [])
  | .loading l up id =>
    let x := s.line l
    let t := if up == s.isVHead l then x.newRx else x.newTx
    let crc := match t with | some (_, t) => tableCrc (t.get 0) | none => 0
    (1, [bnat up, s.lineIndex l, id] ++ msbBytes 4 crc)
  | .showtimeEntry ls =>
    let ports := s.portLines p
    let down := fun l => if s.isVHead l then (s.line l).newTx else (s.line l).newRx
    let up := fun l => if s.isVHead l then (s.line l).newRx else (s.line l).newTx
    let ids := fun f : Nat → Option (Nat × Store Nat) =>
      padBytes 4 (ports.map fun l => match f l with | some (i, _) => i | none => 0)
    let crcs := padBytes 8 (ports.flatMap fun l =>
      match down l with | some (_, t) => msbBytes 2 (tableCrc (t.get 0) % 2 ^ 16) | none => [0, 0])
    (2, [s.lineMap ls] ++ ids down ++ ids up ++ crcs ++ [0, 0, 0, 0] ++ [s.profileByte p])
  | .profile b => (3, [b])
  | .leave ls m => (4, [s.lineMap ls, m])
  | .calGap l => (5, [s.lineIndex l])
  | .bank => (6, [])
  | .afe l range v => (7, [s.lineIndex l, bnat range] ++ msbBytes 2 v)
  | .portDrop l => (8, [s.lineIndex l])
  | .layout es => (9, es)

/-- The payload of message `i` of an open negotiation (R71, R144). -/
def State.sealPayload (s : State) (p : Nat) (n : Neg) (i : Nat) : List Nat :=
  let c := s.changeBytes p (n.changes.getD i .sync)
  msbBytes 2 (n.target % 2 ^ 16) ++ [c.1] ++ padBytes 22 (c.2.take 22) ++ [n.count, i]

/-- The payload of LOAD segment g of a table (R142): `dir` 1 upstream. -/
def loadPayload (dir : Bool) (id g : Nat) (t : Store Nat) : List Nat :=
  [128 * bnat dir + g, id] ++
    (segmentTones g).flatMap (fun k => msbBytes 2 (if k ≤ 127 then t.get 0 k else 0)) ++ [0]

/-- The messages due on a line as its own: LOAD, TIMING (R71); a head's table goes upstream. -/
def State.lineMessages (s : State) (l : Nat) : List (Nat × List Nat) :=
  let x := s.line l
  (match x.sendSegs with
   | g :: _ =>
     (match (if g < 16 then x.newRx else x.newTx) with
      | some (id, t) => [(2, loadPayload (s.isVHead l == decide (g < 16)) id (g % 16) t)]
      | none => [])
   | [] => []) ++
  (match x.timingSend with | some c => [(3, [ofSigned 8 c])] | none => [])

/-- The port-level messages due: every SEAL message while a proposal of ours is open, in turn, and HOSTSTAT while due
(R40, R71). -/
def State.portMessages (s : State) (p : Nat) : List (Nat × List Nat) :=
  let x := s.port p
  (match x.neg with
   | some n => if n.ours then
       (List.range n.changes.length).map fun i => (1, s.sealPayload p n ((n.sent + i) % n.changes.length)) else []
   | none => []) ++
  (if x.hostDue = 0 then []
   else
     let h := s.hostStat p
     [(4, [h.1] ++ msbBytes 2 h.2.1 ++ [h.2.2])])

/-- The line's data symbols carry overhead words, and so a frame (R71, R139, R140, R149). -/
def State.framesOn (s : State) (l : Nat) : Bool :=
  let x := s.line l
  !x.frozen && (x.st = .showtime || x.st = .leaving || x.st = .loading ||
    (x.st = .training && x.sub == 1) || (x.st = .retrain && x.sub == 2))

/-- The lines of a port that carry its port-level messages: those in SHOWTIME outside a gap; while none is, those whose
frames run at all (DEDUCED, log 60: the entry of R143 is negotiated before SHOWTIME). -/
def State.messageLines (s : State) (p : Nat) : List Nat :=
  let up := (s.portLines p).filter fun l => (s.line l).st = .showtime && !(s.line l).frozen
  if up.isEmpty then (s.portLines p).filter s.framesOn else up

/-- The messages due on each line of a port: its own, and the port-level messages, each on the lowest line with no other
message, else on the lowest line (R71). -/
def State.dueMessages (s : State) (p : Nat) : List (Nat × List (Nat × List Nat)) :=
  let own := ((s.portLines p).filter s.framesOn).map fun l => (l, s.lineMessages l)
  let ls := s.messageLines p
  (s.portMessages p).foldl (fun acc m =>
    let free := (ls.find? fun l => acc.all fun a => a.1 != l || a.2.isEmpty)
    match free.orElse fun _ => ls.head? with
    | some l => acc.map fun a => if a.1 == l then (a.1, a.2 ++ [m]) else a
    | none => acc) own

/-- Whose turn it is among the messages due on a line, after the type sent last: SEAL, LOAD, TIMING, HOSTSTAT in turn (R71). -/
def nextTurn (last : Nat) (due : List (Nat × List Nat)) : Option (Nat × List Nat) :=
  (List.range 4).findSome? fun i => due.find? fun m => m.1 == (last + i) % 4 + 1

/-- Bytes 1 to 32 of an upstream frame on a V-head line: the tail's errors on the pilot symbol of the superframe before,
on the 16 tones of its group; 0x80 where there is none (R71, R98). -/
def State.feedbackBytes (s : State) (l : Nat) : List Nat :=
  let g := groupOf (sfcAdd (s.pageSfc .ltrain l) (2 ^ 48 - 1))
  (List.range 16).flatMap fun i =>
    match (s.line l).tailErr.find (16 * g + i) with
    | some e => [ofSigned 8 (clampInt (-127) 127 (roundRat (e.re * 1024))),
                 ofSigned 8 (clampInt (-127) 127 (roundRat (e.im * 1024)))]
    | none => [0x80, 0x80]

/-- Build the overhead frames of a port's lines for the superframe that starts: feedback of a tail, then the message whose
turn it is (R71).  A sent segment leaves the list of segments to send, a sent TIMING message is done, and the next SEAL
message of the negotiation follows. -/
def State.buildFrames (s : State) (p : Nat) : State :=
  let due := s.dueMessages p
  (s.portLines p).foldl (fun s l =>
    let head := if s.isVTail l then s.feedbackBytes l else List.replicate 32 0
    match nextTurn (s.line l).turn ((due.find? fun a => a.1 == l).map (·.2) |>.getD []) with
    | some (t, payload) =>
      let s := s.modLine l fun x =>
        { x with txFrame := head ++ messageBytes t payload,
                 turn := t,
                 sendSegs := if t = 2 then x.sendSegs.drop 1 else x.sendSegs,
                 timingSend := if t = 3 then none else x.timingSend,
                 timingUntil := if t = 3 then sfcAdd (s.portSfc p) 18 else x.timingUntil }
      if t = 1 then s.modPort p fun x => { x with neg := x.neg.map fun n => { n with sent := n.sent + 1 } }
      else if t = 4 then s.modPort p fun x => { x with hostDue := x.hostDue - 1 }
      else s
    | none =>
      s.modLine l fun x => { x with txFrame := head ++ messageBytes 0 [] }) s

/-! ### Changes of loading (R145, R146) -/

/-- A line starts a change of its received table; one that cannot carry the overhead word ends in LOW_SNR (R141, R146). -/
def State.startSra (s : State) (l : Nat) (down : Bool) (t : Store Nat) : State :=
  let x := s.line l
  if t = x.rxTable then s
  else if !carriesOverhead t then s.lowSnr l
  else
    s.modLine l fun x =>
      { x with newRx := some ((x.rxId + 1) % 256, t), sendSegs := diffSegs x.rxTable t,
               sraPending := true, sraDown := down, sub := if x.st = .showtime then 1 else x.sub }

/-- The margin target in force, 0.1 dB, and the highest bits per tone: ours and, once known, the partner's too (R61,
R141). -/
def State.marginTarget (s : State) (l : Nat) : Nat := min 150 (s.g LLOAD.CTRL.MARGIN l)
def State.ownMaxBits (s : State) (l : Nat) : Nat := maxBitsOf (s.g LLOAD.CTRL.MAXBITS l)
def State.maxBits (s : State) (l : Nat) : Nat :=
  let peer := s.g LTRAIN.PARTNER.MAXBITS l
  if peer = 0 then s.ownMaxBits l else min (s.ownMaxBits l) peer

/-- A table may be in force here: no b_k above MAXBITS, gains within the codes of R61, and no loaded tone that is masked or
excluded. -/
def State.tableFits (s : State) (l : Nat) (t : Store Nat) : Bool :=
  t.all fun e => fitEntry (s.ownMaxBits l) (s.masked l e.1 && entryBits e.2 != 0) e.2 == e.2

/-- SNR_k⁰ of a tone in 1/160 dB: as LLOAD shows it before SHOWTIME, where training runs at g = 1.0; on a running line less
20 log10 g_k (R141). -/
def State.loadingSnr (s : State) (l k : Nat) : Int :=
  let snr : Int := 5 * (s.g LLOAD.TONE.SNR l k : Nat)
  if inData (s.line l).st then snr - gainLevel (max 1 (entryGain ((s.line l).rxTable.get 0 k))) else snr

/-- The table of R141: the tones given are loaded, the others keep their entries. -/
def State.loadTable (s : State) (l : Nat) (ks : List Nat) (keep : Store Nat) : Store Nat :=
  ks.foldl (fun t k =>
    t.set 0 k (loadTone (s.loadingSnr l k) (s.marginTarget l) (s.maxBits l) (s.masked l k) (s.erased l k)))
    keep

/-- SRA_CHECK of one line (R145): down for tones below M − DN, else up after UP_HOLD cycles whose mean margin exceeds
M + UP.  Tones under erasure take no part (R25), nor do newly vectored ones in an up change (R112). -/
def State.sraCheck (s : State) (l : Nat) : State :=
  let x := s.line l
  let open_ := match (s.port (s.anchor l)).neg with
    | some n => n.changes.any fun c => match c with | .loading m _ _ => m == l | _ => false
    | none => false
  if x.st != .showtime || s.g LTRAIN.SRA.ENABLE l = 0 || x.sraPending || x.tablesPending || open_ || x.frozen then s
  else
    let m : Int := 16 * (s.marginTarget l : Nat)
    let margin := fun k => toneMargin (s.g LLOAD.TONE.SNR l k) (entryBits (x.rxTable.get 0 k))
    let mine := ((List.range 128).filter fun k => entryBits (x.rxTable.get 0 k) != 0 && !s.erased l k)
    let low := mine.filter fun k => decide (margin k < m - 80 * s.g LTRAIN.SRA.DN l)
    if !low.isEmpty then
      (s.modLine l fun x => { x with upCount := 0 }).startSra l true (s.loadTable l low x.rxTable)
    else
      let total := mine.foldl (fun a k => a + margin k) (0 : Int)
      if !mine.isEmpty && decide (total > (m + 80 * s.g LTRAIN.SRA.UP l) * mine.length) then
        if x.upCount + 1 ≥ max 1 (s.g LTRAIN.SRA.UP_HOLD l) then
          let all := ((List.range 127).map (· + 1)).filter fun k => !s.erased l k && !s.xe.freshTones.contains k
          (s.modLine l fun x => { x with upCount := 0 }).startSra l false (s.loadTable l all x.rxTable)
        else s.modLine l fun x => { x with upCount := x.upCount + 1 }
      else s.modLine l fun x => { x with upCount := 0 }

/-- Propose the pending loading change of a line once every differing segment has been sent; a refused one is proposed
again from the next superframe, the repeated segments with it (R146). -/
def State.proposeSra (s : State) (l : Nat) : State :=
  let x := s.line l
  match x.newRx with
  | some (id, _) =>
    if x.st = .showtime && x.sraPending && (x.sendSegs.isEmpty || x.sraRefusals != 0) then
      s.propose (s.anchor l) (s.portSfc (s.anchor l) + 4) [.loading l (s.isVHead l) id]
    else s
  | none => s

/-- A refused loading change: a down change is proposed again at the next superframe and the fourth
refusal retrains the line; an up change is dropped with SRA_REFUSED (R146, R154). -/
def State.sraRefused (s : State) (l : Nat) : State :=
  let x := s.line l
  let s := s.pulse .ltrain l 7
  if x.sraDown then
    if x.sraRefusals + 1 ≥ 4 then s.retrainLine l rsErrors
    else s.modLine l fun x => { x with sraRefusals := x.sraRefusals + 1 }
  else (s.modLine l fun x => { x with newRx := none, sraPending := false, sendSegs := [] }).clearPending l

/-- Lines in LEAVING return to SHOWTIME, with SUBSTATE as their port stands (R105, R123). -/
def State.stayUp (s : State) (ls : List Nat) : State :=
  ls.foldl (fun s l => if (s.line l).st = .leaving then
    (s.moveLine l .showtime 0).refreshDegraded (s.anchor l) else s) s

/-- Our proposal of a port was not agreed: withdrawn, its posts refused, its own changes go their ways
(R40, R43, R143, R146, R148). -/
def State.negRefused (s : State) (p : Nat) (n : Neg) : State :=
  let s := s.abortNeg p
  let s := s.modPort p fun x => { x with sealCode := 4 }
  n.changes.foldl (fun s c =>
    match c with
    | .loading l up _ =>
      if (s.line l).sraPending && up == s.isVHead l then s.sraRefused l
      else if (s.line l).tablesPending then s
      else (s.modLine l fun x => { x with newRx := none, newTx := none, sendSegs := [] }).clearPending l
    | .leave ls _ => s.stayUp ls
    | _ => s) s

/-- A tail's proposal that gives way to the head's of the same superframe counts as refused, and the tail's words say IDLE
until it agrees (R70). -/
def State.negYields (s : State) (p : Nat) (n : Neg) : State :=
  (s.negRefused p n).modPort p fun x => { x with sealCode := 0 }

/-! ### A partner's messages -/

/-- A table's entries from the segments held: whole when all 11 are held (R142). -/
def tableOfSegs (x : LoadSet) : Option (Store Nat) :=
  if (List.range 11).all fun g => (x.segs.find g).isSome then
    some ((List.range 11).foldl (fun t g =>
      let e := (x.segs.find g).getD []
      ((segmentTones g).zipIdx).foldl (fun t (k, i) =>
        if k ≤ 127 then t.set 0 k (e.getD i 0) else t) t) [])
  else none

/-- Twelve 16-bit entries from a LOAD payload. -/
def segEntries (payload : List Nat) : List Nat :=
  (List.range 12).map fun i => payload.getD (2 + 2 * i) 0 * 256 + payload.getD (3 + 2 * i) 0

/-- The change a SEAL message names, where its class is known (R144). -/
def State.changeOf (s : State) (p : Nat) (m : List Nat) : Option Change :=
  let b := fun i => m.getD i 0
  let lines := fun mask => (s.portLines p).filter fun l => bit mask (s.lineIndex l)
  match b 2 with
  | 0 => some .sync
  | 1 => some (.loading (p + b 4) (b 3 == 1) (b 5))
  | 2 => some (.showtimeEntry (lines (b 3)))
  | 3 => some (.profile (b 3))
  | 4 => some (.leave (lines (b 3)) (b 4))
  | 5 => some (.calGap (p + b 3))
  | 6 => some .bank
  | 7 => some (.afe (p + b 3) (b 4 == 1) (b 5 * 256 + b 6))
  | 8 => some (.portDrop (p + b 3))
  | 9 => some (.layout ((List.range (s.width p)).map fun i => b (3 + i)))
  | _ => none

/-- A table held whole for a direction has the TABLE_ID named, and fits. -/
def State.holdsTable (s : State) (l : Nat) (rx : Bool) (id : Nat) : Bool :=
  match (if rx then (s.line l).newRx else (s.line l).newTx) with
  | some (i, t) => i == id && s.tableFits l t
  | none => false

/-- The CRC of a table held whole. -/
def State.heldCrc (s : State) (l : Nat) (rx : Bool) : Nat :=
  match (if rx then (s.line l).newRx else (s.line l).newTx) with
  | some (_, t) => tableCrc (t.get 0)
  | none => 0

/-- We can apply a change on time: a LOADING or a SHOWTIME_ENTRY names whole tables that we hold, by TABLE_ID and CRC;
every line named is one of the port's in a state the change suits, and every value one the field takes (R70, R143,
R144, R146). -/
def State.canApply (s : State) (p : Nat) (m : List Nat) : Change → Bool
  | .loading l up id =>
    let rx := up == s.isVHead l
    (s.portLines p).contains l && s.holdsTable l rx id &&
      s.heldCrc l rx == (List.range 4).foldl (fun n i => n * 256 + m.getD (6 + i) 0) 0
  | .showtimeEntry ls =>
    !ls.isEmpty && decide (m.getD 24 0 < 16) && ls.all fun l =>
      let i := s.lineIndex l
      let head := s.isVHead l
      s.holdsTable l (!head) (m.getD (4 + i) 0) && s.holdsTable l head (m.getD (8 + i) 0) &&
        s.heldCrc l (!head) % 2 ^ 16 == m.getD (12 + 2 * i) 0 * 256 + m.getD (13 + 2 * i) 0
  | .profile b => decide (b < 16)
  | .leave ls m => !ls.isEmpty && decide (m ≤ 5) && ls.all fun l => (s.line l).st = .showtime || (s.line l).st = .leaving
  | .calGap l => (s.portLines p).contains l && (s.line l).st = .showtime
  | .bank => (s.portLines p).all fun l => (s.line l).st = .showtime
  | .afe l range v => (s.portLines p).contains l && decide (v ≤ if range then 2 else 72)
  | .portDrop l => (s.portLines p).contains l && s.width p > 1
  | .layout es => es.all fun e => decide (e / 64 ≤ 2) && e / 4 % 16 == 0
  | .sync => true

/-- Lines that a partner's LEAVE names enter LEAVING once we hold it (R105), or return. -/
def State.followLeave (s : State) (cs : List Change) (go : Bool) : State :=
  cs.foldl (fun s c => match c with
    | .leave ls _ =>
      if go then ls.foldl (fun s l => if (s.line l).st = .showtime then s.moveLine l .leaving else s) s
      else s.stayUp ls
    | _ => s) s

/-- A partner's proposal ends without confirmation: nothing is applied (R40, R70). -/
def State.dropTheirs (s : State) (p : Nat) : State :=
  match (s.port p).neg with
  | some n =>
    if n.ours then s
    else
      (s.modPort p fun x =>
        { x with neg := none, sealCode := 0, sealHeld := [], onlyEmpty := false }).followLeave
        n.changes false
  | none => s

/-- Judge the partner's proposal: with every message held, every class known and every parameter
applicable, we agree from the next superframe (R70, R144). -/
def State.considerTheirs (s : State) (p : Nat) : State :=
  match (s.port p).neg with
  | some n =>
    let ms := (List.range n.count).filterMap fun i => (s.port p).sealHeld.find i
    let cs := ms.map fun m => (m, s.changeOf p m)
    if n.ours || n.agreed || ms.length != n.count then s
    else if cs.all fun (m, c) => match c with | some c => s.canApply p m c | none => false then
      let cs := cs.flatMap fun (m, c) => match c with
        | some (.showtimeEntry ls) => [.profile (m.getD 24 0), .showtimeEntry ls]
        | some c => [c]
        | none => []
      (s.modPort p fun x => { x with neg := some { n with changes := cs, agreed := true } }).followLeave
        cs true
    else s
  | none => s

end Sys2Proof.Machine
end

