-- ==== Sys2Proof/Machine/Signal.lean ====
section
/-! DEFINITION. The symbol of every V line: what is sent (R17, R57 to R68, R88, R94, R139), what is
done with what is received (R18, R58, R65, R87, R96, R97), arrival and timing advance (R59, R60),
the overhead word (R69 to R71) and the partner's messages (R142 to R144). -/

namespace Sys2Proof.Machine

/-! ### Transmit -/

/-- The multiplier of a pilot word's bit pair: 1, j, −1, −j for 00, 01, 11, 10 (R135). -/
def rotatePair (n : Nat) (c : Cx) : Cx :=
  match n with
  | 0 => c
  | 1 => ⟨-c.im, c.re⟩
  | 3 => ⟨-c.re, -c.im⟩
  | _ => ⟨c.im, -c.re⟩

/-- X of a line on tone k of the pilot symbol, with the rotation of its pilot word (R94, R135). -/
def State.pilotX (s : State) (l k : Nat) : Cx :=
  let x := s.pilotOf l k (s.pilotIndex l)
  match (s.line l).word with
  | some (kind, corr, p) =>
    if s.isVHead l && decide (9 ≤ k ∧ k ≤ 40) then
      rotatePair (bits (pilotWord kind corr p) (2 * (40 - k)) 2) x
    else x
  | none => x

/-- The port's wake turn: the waker in W, the other end in W + 1 (R151). -/
def State.wakeTurn (s : State) (p : Nat) : Bool :=
  let x := s.port p
  (x.waking == 1 && x.wakeSfc == s.portSfc p) || (x.waking == 2 && sfcAdd x.wakeSfc 1 == s.portSfc p)

/-- The line sends training symbols in data symbol n (R139, R140, R149, R151; LOADING and the fast
loading of RETRAIN carry them too, DEDUCED, log 20). -/
def State.sendsTraining (s : State) (l n : Nat) : Bool :=
  let x := s.line l
  match x.st with
  | .training => if s.isVHead l then x.active else !sfcCome (s.pageSfc .ltrain l) x.trainStart
  | .loading => !s.isVHead l || x.active
  | .retrain => x.sub != 0
  | .banked => decide (1 ≤ n ∧ n ≤ 4) && s.wakeTurn (s.anchor l)
  | _ => false

/-- The line's training symbols carry its overhead word (R139, R140 step 4). -/
def State.trainingOverhead (s : State) (l : Nat) : Bool :=
  let x := s.line l
  x.st = .loading || (x.st = .training && x.sub == 1) || (x.st = .retrain && x.sub == 2)

/-- Open tones from 9 up to below k. -/
def State.openBelow (s : State) (l k : Nat) : Nat :=
  (((List.range (k - 9)).map (9 + ·)).filter fun j => !s.trainMasked l j).length

/-- X of a training symbol whose bits are `bs` and whose overhead word is `w` (R139). -/
def State.trainingX (s : State) (l k : Nat) (bs w : List Bool) : Cx :=
  if s.trainMasked l k then Cx.zero
  else
    let i := 2 * s.openBelow l k
    let z := if s.trainingOverhead l && decide (9 ≤ k) && decide (i < 32) then point ((w.drop i).take 2)
      else trainPoint bs k
    Cx.scale (s.trainingGain l k) z

def tones : List Nat := (List.range 127).map (· + 1)

/-- The line sends in this symbol: neither frozen nor dead, with its cluster's clock and the XENGINE's (R93, R107, R281). -/
def State.mayTransmit (s : State) (l : Nat) : Bool :=
  !(s.line l).frozen && !(s.line l).silent && s.lineRuns l && s.engineRuns

/-- The data of every port that runs: coded bits placed on its lines (R17, R66 to R68, R76, R79). -/
def State.sendData (s : State) (n : Nat) : Store Cx × State :=
  (allLines.filter fun p => s.isAnchor p && !(s.dataLines p).isEmpty && s.lineRuns p && s.engineRuns).foldl
    (fun (st : Store Cx × State) p =>
      let b := st.2.portBits p
      let x := b.2.placeSymbol p n b.1
      let sent := x.1.filter fun e => s.isVTail (e.1 / 128) || s.isActive (e.1 / 128)
      (sent.foldl (fun m e => Store.set m Cx.zero e.1 e.2) st.1,
        (b.2.modPort p fun y => { y with txScr := x.2 }).ageDtus p b.1.length))
    ([], s)

/-- X of every line on every tone in the symbol with index n: key line × 128 + tone. -/
def State.symbolX (s : State) (n : Nat) : Store Cx × State :=
  if n = 0 then
    ((allLines.filter fun l => s.isV l && (s.line l).pilots && s.mayTransmit l).foldl (fun m l =>
      tones.foldl (fun m k => Store.set m Cx.zero (l * 128 + k) (s.pilotX l k)) m) [],
     allLines.foldl (fun s p => s.ageDtus p 0) s)
  else
    let d := s.sendData n
    ((allLines.filter fun l => s.isV l && d.2.sendsTraining l n && d.2.mayTransmit l).foldl (fun m l =>
      let bs := trainBits (s.pilotRow l) n
      let w := msbBits 32 (d.2.ohWord (s.anchor l) l n).encode
      tones.foldl (fun m k => Store.set m Cx.zero (l * 128 + k) (d.2.trainingX l k bs w)) m) d.1, d.2)

/-- T of every line: precoded on the active lines, as it is on the others; a Banked line sends nothing on
data symbols but its wake training (R26, R88). -/
def State.symbolT (s : State) (n : Nat) (x : Store Cx) : Store Cx :=
  let out := x.foldl (fun m e =>
    if s.isActive (e.1 / 128) then m else Store.set m Cx.zero e.1 e.2) ([] : Store Cx)
  (s.activeLines.filter fun l => n == 0 || (s.line l).st != .banked || s.sendsTraining l n).foldl
    (fun m l => tones.foldl (fun m k =>
      Store.set m Cx.zero (l * 128 + k) (s.precode k l fun d => x.get Cx.zero (d * 128 + k))) m) out

/-! ### Samples (R56, R57, R211, R213) -/

/-- The peak voltage at the lands of a tone that carries a point of unit energy at a gain of 1.0, into 100 Ω: 2.5 dB below
the PSD mask in force over the 3.2 MHz of a tone (R57, R236). -/
def State.toneVolts (s : State) (l : Nat) : Rat :=
  let psd : Int := -805 - 5 * ((s.line l).txMask : Nat)
  sqrtRat (200 * 3200 * powerRatio 10 psd)

/-- The DAC code of a voltage at the lands and whether it was clipped: the transmit path makes up for the range (R211,
R213). -/
def dacCode (range : Nat) (v : Rat) : Nat × Bool :=
  let c := 0x2000 + roundRat (v * (0x4000 : Nat) / (2 ^ min range 2 : Nat))
  ((clampInt 0 0x3FFF c).toNat, decide (c < 0 ∨ 0x3FFF < c))

/-- Segments switched on by a code, and the code of the ladder (R211). -/
def dacSegments (code : Nat) : Nat := code / 2 ^ 8
def dacLadder (code : Nat) : Nat := code % 2 ^ 8

/-- The physical segments that a code switches on: positions 1 to n of the thermometer order (R211, R212). -/
def State.segmentsOn (s : State) (l code : Nat) : List Nat :=
  (List.range 67).filter fun j =>
    decide (1 ≤ s.g LAFE.SEG.POSITION l j ∧ s.g LAFE.SEG.POSITION l j ≤ dacSegments code)

/-- The voltages of a line's symbol (R57). -/
def State.symbolVolts (s : State) (l : Nat) (t : Store Cx) : List Rat :=
  let a := s.toneVolts l / 2
  (lineSymbol fun k => t.get Cx.zero (l * 128 + k)).map fun x => a * x

/-- The voltages of a chirp packet over the samples of a symbol (R156; the packet is taken to start with a symbol, DESIGN
CHOICE, log 111). -/
def State.packetVolts (s : State) (l : Nat) : List Rat :=
  let x := s.reachX l
  match x.tx with
  | some p =>
    (List.range 576).map fun i =>
      if x.pos + i < packetSamples p.sf p.bw x.chirps.length then packetVolt p.sf p.bw x.volts x.chirps (x.pos + i) else 0
  | none => []

/-- The codes of a reflectometry run over the samples of a symbol, and whether each is clipped: the value-0 up-chirp at SF10
without a gap, 64 or 16 times on the internal load and, once the pair is back, 256 or 64 times on the line, else the clear
code (R200, R202; the first symbol after the grant begins them, DESIGN CHOICE, log 111). -/
def State.runCodes (s : State) (l : Nat) (r : ReflX) : List (Nat × Bool) :=
  let bw := if r.band = 1 then 3 else 1
  let one := packetSamples 10 bw 1
  let reference := (if r.band = 1 then 64 else 16) * one
  let back := reference + 13108
  (List.range 576).map fun i =>
    let m := r.pos + i
    let t := if m < reference then m else m - back
    if m < reference ∨ (back ≤ m ∧ t < 4 * reference) then
      dacCode (s.g LAFE.CTRL.RANGE l) (packetVolt 10 bw (reachVolts (s.g LDIAG.CFG.TXPWR l)) [(true, 0)] (t % one))
    else (s.clearCode l, false)

/-- What a line's transmit path gives in a symbol, and how many of its samples are clipped: the sum of its tones and of a chirp
packet (R57, R156, R213); a BASE-T core's own samples, but for pairs C and D at 100BASE-TX, which
transmit nothing (R238, R239); a reflectometry run's chirps, or its clear code (R202). -/
def State.pathInput (s : State) (l : Nat) (t : Store Cx) : DacInput × Nat :=
  let clips := fun (cs : List (Nat × Bool)) => (DacInput.samples (cs.map (·.1)), (cs.filter (·.2)).length)
  if (s.line l).st = .standard then
    (if s.g LSTD.STATUS.SPEED (l / 4 * 4) = 1 ∧ 2 ≤ l % 4 then .code 0x2000 else .core, 0)
  else if let some r := s.refl.find l then (if r.step < 4 then (.code (s.clearCode l), 0) else clips (s.runCodes l r))
  else
    let sends := s.isV l && t.any fun e => e.1 / 128 == l
    let packet := !(s.reachX l).chirps.isEmpty
    if !sends && !packet then (.code 0x2000, 0)
    else
      let v := if !packet then s.symbolVolts l t
        else if !sends then s.packetVolts l
        else List.zipWith (· + ·) (s.symbolVolts l t) (s.packetVolts l)
      clips (v.map (dacCode (s.g LAFE.CTRL.RANGE l)))

/-- A line's DAC takes the samples of a symbol; clipped ones are counted, and a packet goes on (R17, R156, R213). -/
def State.driveLine (s : State) (t : Store Cx) (l : Nat) : State :=
  let c := s.pathInput l t
  let s := s.setDac l c.1
  let s := if c.2 = 0 then s else s.modLine l fun x => { x with dacClipped := x.dacClipped + c.2 }
  match s.refl.find l with
  | some r => if r.step < 4 then s else { s with refl := s.refl.put l (some { r with pos := r.pos + 576 }) }
  | none => if (s.reachX l).chirps.isEmpty then s else s.modReach l fun x => { x with pos := x.pos + 576 }

/-- Stages 10 and 11 of R17: inverse transform, cyclic extension and samples to the DAC of every line; a driver that waited for
this boundary drives again (R216, R217). -/
def State.drive (s : State) (t : Store Cx) : State :=
  allLines.foldl (fun s l => s.driveLine t l) { s with xe := { s.xe with tx := t, resuming := [] } }

/-- The amplitudes of the downstream pilots that this superframe's group is measured with (R97, R99). -/
def State.noteAmps (s : State) : State :=
  let ks := groupTones (groupOf s.sfc)
  let t := s.sfc % 128
  s.activeLines.foldl (fun s d => ks.foldl (fun s k =>
    let key := (t * 128 + d) * 128 + k
    { s with xe := { s.xe with ampUp := s.xe.ampUp.set 0 key (s.pilotAmpRx d k),
                               ampDown := s.xe.ampDown.set 0 key (s.pilotAmp d k) } }) s) s

/-- The TIME content of a postmark (R256). -/
def timeContent (sec ns frac : Nat) : Nat := sec % 256 * 2 ^ 40 + ns * 2 ^ 8 + frac

/-- The port timestamps event messages (R270). -/
def State.stamps (s : State) (p : Nat) : Bool :=
  s.g PORT_CTL.HOSTCFG.TS_EN p == 1 && s.isV p

/-- A transmitted event message is answered by TX_ID and TIME blocks; no other frame is (R270). -/
def State.stampTx (s : State) (e : TimedMessage) : State :=
  match eventMessage e.frame with
  | some (kind, domain, id) =>
    if s.stamps e.port then
      (s.sendControl e.port 3 (controlBlock 9 1 (id % 2 ^ 16 * 2 ^ 32 + kind * 2 ^ 28 + domain % 256 * 2 ^ 20))).sendControl
        e.port 3 (controlBlock 9 2 (timeContent s.time.sec s.time.ns s.time.frac))
    else s
  | none => s

/-- The clear code of a range change outside SHOWTIME is held for one full symbol (R219). -/
def State.ageRange (s : State) : State :=
  allLines.foldl (fun s l =>
    if (s.line l).rangeHold = 0 then s
    else s.modLine l fun x => { x with rangeHold := x.rangeHold - 1 }) s

/-- The DAC range of the line switches in this symbol: its X and T are taken as zero (R220). -/
def State.switching (s : State) (n l : Nat) : Bool := n == 63 && (s.line l).rangeSwitch

/-- c_k of a direction. -/
def State.censusCoef (s : State) (dir k v d : Nat) : Cx :=
  match dir with
  | 0 => (s.coef 0 k v d).mul (s.feq v k)
  | 1 => ((s.coef 1 k v d).mul (s.feq v k)).div (s.feq d k)
  | _ => s.coef 2 k v d

/-- The mean of |c_k|² over the unmasked vectored tones. -/
def State.censusMean (s : State) (dir v d : Nat) : Rat :=
  let ks := tones.filter fun k => k ≤ s.nv && !s.masked v k
  (ks.map fun k => (s.censusCoef dir k v d).normSq).foldl (· + ·) 0 / ks.length

/-- Insert a neighbour in descending order, the lower line first on ties. -/
def insertNeighbour (x : Nat × Rat) : List (Nat × Rat) → List (Nat × Rat)
  | [] => [x]
  | y :: l => if y.2 < x.2 then x :: y :: l else y :: insertNeighbour x l

/-- A census that waits takes the coefficients in effect at the symbol boundary (R117).  A reserved direction is reported before
a line that is not active, and a mean of 0, which has no level, shows 0 dB (DESIGN CHOICE, log 104). -/
def State.takeCensus (s : State) : State :=
  match s.xe.census, s.xe.censusTaken with
  | some (dir, l), none =>
    let reason := if dir = 3 then 2 else if s.isActive l then 0 else 1
    let es := if reason = 0 then
        (((s.activeLines.filter (· != l)).foldl (fun m d => insertNeighbour (d, s.censusMean dir l d) m)
          []).take 8).map fun (d, x) => (d, decibels 100 x)
      else []
    { s with xe := { s.xe with censusTaken := some (reason, es) } }
  | _, _ => s

/-- Each symbol's transmit side (R17): increments due in this pass land, host blocks are framed,
coded, placed, mapped, precoded, transformed and handed to the DACs.  `events` are the event messages whose first bit
this symbol carries. -/
def execSymbolTx (n : Nat) (events : List TimedMessage) (s : State) : Answer :=
  if s.fault.s3 then .next s else
  let s := { s with sym := n, xe := { s.xe with written := if n = 0 then s.xe.written else [] } }.landNxt.ageRange.takeCensus
  let s := if n = 0 then s.noteAmps else s
  let x := s.symbolX n
  let out := fun (e : Nat × Cx) => !(s.switching n (e.1 / 128))
  let t := (x.2.symbolT n (x.1.filter out)).filter out
  .next (events.foldl (fun s e => s.stampTx e) (x.2.drive t))

/-! ### Receive -/

/-- The lines whose received symbols are used: the active V-head lines and the V-tail lines from
TRAINING on, where their clocks run (R281). -/
def State.rxLines (s : State) : List Nat :=
  allLines.filter fun l =>
    let x := s.line l
    !x.frozen && s.lineRuns l && s.engineRuns && (s.isActive l || (s.isVTail l &&
      (x.st = .training || x.st = .loading || inData x.st || x.st = .retrain)))

/-- The lines of the running join. -/
def State.joining (s : State) : List Nat :=
  match s.xe.join with | some j => j.lines | none => []

/-- The lines of which U is formed: the receiving ones and the joining ones, whose own echo is removed once they are
pilot-active (R87, R93, R102). -/
def State.passLines (s : State) : List Nat :=
  allLines.filter fun l => s.rxLines.contains l || s.joining.contains l

/-- The echo tap of a V-tail line on tone k (R60). -/
def echoKey (l k : Nat) : Nat := coefKey 3 k l l

/-- U of every line of the pass: NEXT and echo cancelled; a V-tail line cancels its own echo (R60, R87). -/
def State.cancelNext (s : State) (pilot : Bool) (ys : Store Cx) : Store Cx :=
  s.passLines.foldl (fun m v => tones.foldl (fun m k =>
    let y := ys.get Cx.zero (v * 128 + k)
    Store.set m Cx.zero (v * 128 + k)
      (if s.isVTail v then y.sub ((s.coef 3 k v v).mul (s.sent v k))
       else s.nextCancel pilot k v y)) m) []

/-- Z of every receiving line: upstream FEXT cancelled (R87). -/
def State.cancelFext (s : State) (us : Store Cx) : Store Cx :=
  s.rxLines.foldl (fun m v => tones.foldl (fun m k =>
    Store.set m Cx.zero (v * 128 + k)
      (if s.isVTail v then us.get Cx.zero (v * 128 + k)
       else s.fextCancel k v fun d => us.get Cx.zero (d * 128 + k))) m) []

/-- The known pilot point as the equaliser sees it: the pilot's amplitude over the gain the equaliser was trained or tracks
at, 1 on a line with tables (R65, R94). -/
def State.pilotPointRx (s : State) (l k : Nat) : Cx :=
  let st := (s.line l).st
  let a := s.pilotAmpRx l k
  let a := if a = 0 then 0 else if st = .training ∨ st = .loading then a else 1
  Cx.scale a (pilotValue (s.pilotSet l) (s.pilotRow l) k (s.pilotIndex l))

/-- The bits of the constellation that a data symbol carries on tone k: 4-QAM in training and on a monitor tone; none on
a tone that is sent nothing (R61, R139). -/
def State.rxBitsOf (s : State) (l k : Nat) : Nat :=
  let x := s.line l
  if x.st = .showtime ∨ x.st = .leaving then
    let e := x.rxTable.get 0 k
    if isMonitor e then 2 else entryBits e
  else if s.trainMasked l k then 0 else 2

/-- The point that a receiver takes the error against: the known pilot point, else the demapper's hard decision (R65,
R96). -/
def State.refPoint (s : State) (n l k : Nat) (z : Cx) : Cx :=
  if n = 0 then s.pilotPointRx l k
  else
    let b := s.rxBitsOf l k
    if b = 0 then Cx.zero else point (demap b z)

/-- FEQ tracks: from SHOWTIME on, and in the first superframes of a fast retrain's training (R65, R149 step 3). -/
def State.feqTracks (s : State) (l n : Nat) : Bool :=
  let x := s.line l
  x.st = .showtime || x.st = .leaving || (x.st = .banked && n == 0) ||
    (x.st = .retrain && x.sub == 1 && decide (sfcFrom x.trainStart (s.pageSfc .ltrain l) ≤ 4))

/-- FEQ_k + step × e × Y* (R65). -/
def State.trackFeq (s : State) (n l k : Nat) (e y : Cx) : State :=
  if s.feqTracks l n && !s.erased l k && !s.reachMasked l k then
    s.setFeq l k ((s.feq l k).add
      (Cx.scale (1 / (2 ^ (if n = 0 then 9 else 12) : Nat)) (e.mul y.conj)))
  else s

/-- The line trains its FEQ in this symbol: 256 training symbols from T + 2 on (R65, R140 step 3). -/
def State.feqTrains (s : State) (l : Nat) : Bool :=
  let x := s.line l
  let t := sfcFrom x.trainStart (s.pageSfc .ltrain l)
  x.st = .training && x.sub == 0 && decide (2 ≤ t ∧ t ≤ 6) && decide (x.accCount < 256)

/-- Σ X Y* and Σ |Y|² of a training symbol whose bits are `bs`, and its count (R65). -/
def State.accumulate (s : State) (l : Nat) (bs : List Bool) (y : Nat → Cx) : State :=
  s.modLine l fun x =>
    (tones.foldl (fun (x : LineX) k =>
      { x with accNum := x.accNum.set Cx.zero k ((x.accNum.get Cx.zero k).add ((trainPoint bs k).mul (y k).conj)),
               accDen := x.accDen.set 0 k (x.accDen.get 0 k + (y k).normSq) })
      { x with accCount := x.accCount + 1 })

/-- The line measures SNR in this data symbol: from MEASURE on, and in P + 5 to P + 20 of a fast retrain (R65, R140 step
4, R149 step 4). -/
def State.measuresSnr (s : State) (l : Nat) : Bool :=
  let x := s.line l
  let t := sfcFrom x.trainStart (s.pageSfc .ltrain l)
  x.st = .showtime || x.st = .leaving || x.st = .loading || (x.st = .training && x.sub == 1) ||
    (x.st = .retrain && decide (5 ≤ t ∧ t ≤ 20) && x.sub == 1)

/-- |e|² of a tone joins the mean of its pilot cycle; not under erasure (R25, R65). -/
def State.countError2 (s : State) (l k : Nat) (e : Cx) : State :=
  if s.measuresSnr l && !s.erased l k && !s.masked l k then
    s.modLine l fun x =>
      { x with errSum := x.errSum.set 0 k (x.errSum.get 0 k + e.normSq),
               errCount := x.errCount.set 0 k (x.errCount.get 0 k + 1) }
  else s

/-- The increment of a V-tail line's echo tap: as the NXT diagonal's (R60, R96). -/
def State.echoUpdate (s : State) (l k : Nat) (e : Cx) : List NxtInc :=
  if s.erased l k || s.reachMasked l k then []
  else
    let c := Cx.scale (1 / (2 ^ s.nxtShift l k : Nat)) ((e.div (s.feq l k)).mul (s.sent l k).conj)
    [{ left := 2, key := echoKey l k, re := quantise c.re, im := quantise c.im }]

/-- The error of a pilot symbol: a V-head line's joins the group's correlations, a V-tail line's goes back as feedback
(R97, R98). -/
def State.notePilotError (s : State) (l k : Nat) (e : Cx) : State :=
  let none_ := s.erased l k || s.masked l k
  if s.isVHead l && k / 16 == groupOf s.sfc then
    if s.erased l k then
      { s with xe := { s.xe with badRx := insertSorted (l * 128 + k) s.xe.badRx } }
    else
      { s with xe := { s.xe with
          pilotErr := s.xe.pilotErr.put ((s.sfc % 128 * 128 + l) * 128 + k) (some e) } }
  else if s.isVTail l && k / 16 == groupOf (s.pageSfc .ltrain l) then
    s.modLine l fun x => { x with tailErr := if none_ then x.tailErr.erase k else x.tailErr.put k (some e) }
  else s

/-- One tone of one line: its error updates FEQ, the NXT row of a V-head line or the echo tap of a
V-tail line, the SNR, and on a pilot symbol the group's correlations (R60, R65, R96, R97). -/
def State.useTone (s : State) (n l k : Nat) (y : Cx) : State :=
  let z := (s.feq l k).mul y
  let e := (s.refPoint n l k z).sub z
  let inc :=
    if s.switching n l then []
    else if s.isVTail l then (if n = 0 then [] else s.echoUpdate l k e)
    else s.nxtUpdate (n == 0) l k e
  let s := { s with xe := { s.xe with pend := s.xe.pend ++ inc } }
  let s := s.trackFeq n l k e y
  if n = 0 then s.notePilotError l k e else s.countError2 l k e

/-- One receiving line of a symbol; a Banked line's data symbols are quiet. -/
def State.useLine (s : State) (n l : Nat) (v : Store Cx) : State :=
  let y := fun k => v.get Cx.zero (l * 128 + k)
  if (s.line l).st = .banked && n != 0 then s
  else
    let s := if n != 0 && s.feqTrains l then s.accumulate l (trainBits (s.pilotRow l) n) y else s
    tones.foldl (fun s k => s.useTone n l k (y k)) s

/-! ### The correlations of a join (R102) -/

/-- A product joins a correlation of bank C, and a power the sum it is measured against. -/
def State.addC (s : State) (key : Nat) (c : Cx) : State :=
  { s with xe := { s.xe with bankC := s.xe.bankC.set Cx.zero key ((s.xe.bankC.get Cx.zero key).add c) } }
def State.addPowerC (s : State) (key : Nat) (c : Cx) : State :=
  { s with xe := { s.xe with powerC := s.xe.powerC.set 0 key (s.xe.powerC.get 0 key + c.normSq) } }

/-- The key of a power sum: what (0 sent pilots of a joining line, 1 its upstream pilots, 2 transmitted values, 3 decided
points of an active line), tone and line. -/
def powerKey (what k l : Nat) : Nat := what * 2 ^ 14 + k * 128 + l

/-- Pilot symbols of a join: step 2 correlates with the pilot sent on line j, step 6 with the pilot its tail sends
(R102). -/
def State.joinPilot (s : State) (first : Bool) (js : List Nat) (us : Store Cx) : State :=
  js.foldl (fun s j => tones.foldl (fun s k =>
    let p := if first then s.sent j k
      else Cx.scale (s.pilotAmpRx j k) (pilotValue (s.pilotSet j) (s.pilotRow j) k (s.pilotIndex j))
    let s := s.addPowerC (powerKey (if first then 0 else 1) k j) p
    (allLines.filter fun v => s.isActive v || js.contains v).foldl (fun s v =>
      s.addC (coefKey (if first then 0 else 1) k v j) ((us.get Cx.zero (v * 128 + k)).mul p.conj)) s) s) s

/-- Data symbols of a join: step 3 correlates U_j with the transmitted values and the decided upstream points of the active
lines; a Banked line has none (R102). -/
def State.joinData (s : State) (n : Nat) (js : List Nat) (us vs : Store Cx) : State :=
  (s.activeLines.filter fun d => (s.line d).st != .banked).foldl (fun s d => tones.foldl (fun s k =>
    let t := s.sent d k
    let x := s.refPoint n d k ((s.feq d k).mul (vs.get Cx.zero (d * 128 + k)))
    let s := (s.addPowerC (powerKey 2 k d) t).addPowerC (powerKey 3 k d) x
    js.foldl (fun s j =>
      let u := us.get Cx.zero (j * 128 + k)
      (s.addC (coefKey 0 k j d) (u.mul t.conj)).addC (coefKey 1 k j d) (u.mul x.conj)) s) s) s

/-- What a symbol gives the running join; after the pilot symbol that opens its writing superframes the sequencer asks for
the write port (R102, R120). -/
def State.joinSymbol (s : State) (n : Nat) (us vs : Store Cx) : State :=
  match s.xe.join with
  | none => s
  | some j =>
    let s := if n = 0 then s.joinPilot (j.phase = .first || j.phase = .nxtWritten) j.lines us
      else if j.phase = .rowsWritten || j.phase = .fxuWritten || j.phase = .written then s
      else s.joinData n j.lines us vs
    if n = 0 && (s.sfc == sfcAdd j.start 127 || s.sfc == sfcAdd j.start 255) then s.askPort (joinMaster j) else s

/-- The partner's confirmed AFE change switches the line's range in symbol 63 (R220 step 3). -/
def State.peerSwitching (s : State) (p l n : Nat) : Bool :=
  n == 63 && (match (s.port p).neg with
    | some x => !x.ours && x.confirmed && x.target == sfcAdd (s.portSfc p) 1 &&
        x.changes.any fun c => match c with | .afe m r _ => m == l && r | _ => false
    | none => false)

/-- The tones of a port's symbol in position order, with the ratios of their data positions: 0 for an erased or masked tone,
for a row in recovery and for a line that is dead or does not receive, or whose partner switches its range in this symbol
(R25, R65, R114, R148, R220).  `got` are the lines with samples. -/
def State.portRatios (s : State) (p n : Nat) (got : List Nat) (vs : Store Cx) : List RxTone :=
  let ls := s.rxLines.filter got.contains
  (List.range 127).flatMap fun i => (s.dataLines p).map fun l =>
    let k := i + 1
    let t := (s.line l).rxTable
    let b := entryBits (t.get 0 k)
    if isMonitor (t.get 0 k) then .monitor
    else if s.erased l k || s.masked l k || s.xe.recover.contains (l * 128 + k) || !ls.contains l ||
        (s.line l).dying || (s.port p).dropLines.contains l || s.peerSwitching p l n then
      .data (List.replicate (dataOn t k) 0)
    else
      .data ((likelihoods b (s.g LLOAD.TONE.SNR l k)
        ((s.feq l k).mul (vs.get Cx.zero (l * 128 + k)))).drop (ohOn t k))

/-- Decode and deliver a data symbol of every port that runs (R18, R75 to R81). -/
def State.receiveData (s : State) (n : Nat) (got : List Nat) (vs : Store Cx) : State :=
  (allLines.filter fun p => s.isAnchor p && !(s.dataLines p).isEmpty).foldl
    (fun s p => s.rxSymbol p (s.portRatios p n got vs)) s

/-- A line declared dead by the power test (R106): RETRAIN from SHOWTIME and BANKED; a LEAVING, TRAINING or LOADING line
becomes inactive where it is (R107, R152). -/
def State.declareDead (s : State) (l : Nat) : State :=
  match (s.line l).st with
  | .showtime | .banked => s.retrainLine l rsDead
  | _ => s.leaveActive l

/-- The power test of R106: the received power over the unmasked tones, against its mean over the 16 comparable symbols
before: data symbols, or pilot symbols for a Banked line.  18 dB is a factor of 10^1.8, compared to the fifth power.  A
V-tail line in SHOWTIME tests its downstream the same way (R125).  Pilot symbols are kept count of in every active state, and
judged in BANKED. -/
def State.powerTest (s : State) (n l : Nat) (ys : Store Cx) : State :=
  let x := s.line l
  let banked := x.st = .banked
  if (banked && n != 0) || x.frozen || x.dying || !(s.isActive l || (s.isVTail l && x.st = .showtime)) then s
  else
    let p := sumRat ((tones.filter fun k => !s.masked l k).map fun k => (ys.get Cx.zero (l * 128 + k)).normSq)
    let old := if n = 0 then x.pilotPowers else x.powers
    let mean := sumRat old / 16
    let dead := banked == (n == 0) && old.length == 16 && decide (0 < mean ∧ p ^ 5 * 10 ^ 9 ≤ mean ^ 5)
    let new := (p :: old).take 16
    let s := s.modLine l fun x =>
      if n = 0 then { x with pilotPowers := new } else { x with powers := new }
    if dead then s.declareDead l else s

/-- The ADC samples of a line join its means and its count of full-scale samples (R221, R224). -/
def State.meterSamples (s : State) (y : LineSamples) : State :=
  let sq := sumRat (y.codes.map fun c => ((c * c : Int) : Rat) / (2048 * 2048 : Nat))
  let full := (y.codes.filter fun c => c ≤ -2048 || 2047 ≤ c).length
  s.modLine y.line fun x =>
    { x with adcSum := x.adcSum + sq, adcCount := x.adcCount + y.codes.length,
             adcSumSf := x.adcSumSf + sq, adcCountSf := x.adcCountSf + y.codes.length,
             adcFull := x.adcFull + full }

/-- Wake training detected on a Banked port (R151): the other end answers in W + 1; an end that sent in W
too answers the same way; a response ends the waker's wait. -/
def State.wakeHeard (s : State) (p : Nat) : State :=
  let x := s.port p
  let t := s.portSfc p
  if (s.portLines p).all fun l => (s.line l).st = .banked then
    if x.waking = 0 then
      let s := s.modPort p fun x => { x with waking := 2, wakeSfc := t }
      (s.portLines p).foldl (fun s l => s.modLine l fun x => { x with sub := 1 }) s
    else if x.waking = 1 && x.wakeSfc == t then s.modPort p fun x => { x with waking := 2 }
    else if x.waking = 1 && sfcAdd x.wakeSfc 1 == t then s.modPort p fun x => { x with waking := 3 }
    else s
  else s

/-- Training symbols in the first superframe of the cycle after JOINING/1: the tail enters TRAINING and
sends training from the following superframe (R125). -/
def State.trainingHeard (s : State) (l : Nat) : State :=
  let x := s.line l
  if s.isVTail l && x.st = .joining && x.sub == 1 && sfcAdd x.trainStart 128 == s.pageSfc .ltrain l then
    (s.modLine l fun x => { x with trainStart := s.pageSfc .ltrain l, accNum := [],
                                   accDen := [], accCount := 0 }).moveLine l .training 0
  else s

/-- δ of an arrival offset in 1/256 ns: 1/16 sample is 9.765625 / 256 ns. -/
def deltaFrac (d : Int) : Int := d * 9765625 / 1000000

/-- A received event message is followed in its port's stream by a TIME or TIME_RTX block, once its frame has ended: the symbol's boundary, with the
anchor's δ on a V-head port (R270). -/
def State.stampRx (s : State) (e : TimedMessage) : State :=
  if s.stamps e.port && (eventMessage e.frame).isSome then
    let d := if s.isVHead e.port then deltaFrac (toSigned 16 (s.g LLOAD.ARRIVAL.DELTA e.port)) else 0
    let t : Int := ((s.time.sec * 10 ^ 9 + s.time.ns) * 256 + s.time.frac : Nat) + d
    let n := t.toNat
    s.sendControl e.port 3 (controlBlock 9 (if e.repeated then 3 else 2)
      (timeContent (n / 256 / 10 ^ 9) (n / 256 % 10 ^ 9) (n % 256)))
  else s

/-- The transform outputs of the lines received: samples 64 to 575 of each local symbol (R58). -/
def windowOf (ys : List LineSamples) : Store Cx :=
  ys.foldl (fun m y => tones.foldl (fun m k =>
    Store.set m Cx.zero (y.line * 128 + k)
      (Cx.scale Config.rxScale (windowBin (y.codes.map fun c => (c : Rat)) k))) m) []

/-- A joining line whose upstream pilots are missing on one of the first 16 pilot symbols of the second cycle fails its
join (R136). -/
def State.joinMissing (s : State) (n : Nat) (missing : List Nat) : State :=
  match s.xe.join with
  | some j =>
    if n = 0 && decide (128 ≤ sfcFrom j.start s.sfc ∧ sfcFrom j.start s.sfc < 144) && missing.any j.lines.contains then
      s.failJoin missing
    else s
  | none => s

/-- Each symbol's receive side (R18).  `ys` are the samples of the lines received; `missing` the joining lines on which no
upstream pilot was found (R136); `wakes` the ports whose wake training is heard (R151), `trains` the tails that see
training symbols (R125); `events` the event messages received. -/
def execSymbolRx (n : Nat) (ys : List LineSamples) (missing wakes trains : List Nat)
    (events : List TimedMessage) (s : State) : Answer :=
  if s.fault.s3 then .next s else
  let s := ys.foldl (fun s y => s.meterSamples y) s
  let got := ys.map (·.line)
  let y := windowOf ys
  let u := s.cancelNext (n == 0) y
  let v := s.cancelFext u
  let s := if n = 0 then s else s.receiveData n got v
  let s := s.joinSymbol n u v
  let s := (s.rxLines.filter got.contains).foldl (fun s l => s.useLine n l v) s
  let s := got.foldl (fun s l => s.powerTest n l y) s
  let s := s.joinMissing n missing
  let s := wakes.foldl (fun s p => s.wakeHeard p) s
  let s := trains.foldl (fun s l => s.trainingHeard l) s
  .next (events.foldl (fun s e => s.stampRx e) s)

/-! ### DTUs held too long (R80, R81) -/

/-- A DTU held for 64 µs leaves the retransmission buffer (R80 rule 1). -/
def execDtuBufferExpire (p seq : Nat) (s : State) : Answer :=
  withPortTimer p s fun s => s.modPort p fun x => { x with held := x.held.filter fun d => d.dtu.seq != seq }

/-- The receive side gives up on the missing DTU once the next later one has been held too long
(R81). -/
def execDtuGiveUp (p : Nat) (s : State) : Answer :=
  withPortTimer p s fun s => if (s.port p).rxHeld.isEmpty || (s.port p).express then s else s.giveUpDtu p

/-! ### Beacon erasure (R25) -/

/-- Two superframes after the last line of a tag left BEACON and HANDSHAKE, its erasure ends (R25). -/
def execBeaconErasureEnd (tag : Nat) (s : State) : Answer :=
  if s.tagBeacons tag || s.fault.s3 then .next s
  else .next (allLines.foldl (fun s l =>
    if s.tag l == tag && s.isVHead l && s.g LLOAD.ERASE.MASK l 0 != 0 then s.setErase l 0 else s)
      { s with xe := { s.xe with erasing := s.xe.erasing.filter (· != tag) } })

/-! ### Arrival and timing advance (R59, R60) -/

/-- The nearest integer to n / d, a half upward (R60 says nothing of ties: DESIGN CHOICE, log 102). -/
def nearest (n : Int) (d : Nat) : Int := (2 * n + d) / (2 * d)

/-- δ is averaged on a V-head line while upstream pilots come on it (R59). -/
def State.averages (s : State) (l : Nat) : Bool :=
  let x := s.line l
  s.isVHead l && (inData x.st || x.st = .retrain || x.st = .training || x.st = .loading ||
    (x.st = .joining && x.pilotActive))

/-- The pilot-active line's average of the first 16 pilot symbols of the second cycle must lie from 0 to 8 samples (R136). -/
def State.joinOffset (s : State) (l : Nat) (sum : Int) : State :=
  match s.xe.join with
  | some j =>
    if j.lines.contains l && decide (128 ≤ sfcFrom j.start s.sfc ∧ sfcFrom j.start s.sfc ≤ 144) &&
        decide (sum < 0 ∨ 2048 < sum) then s.failJoin [] else s
  | none => s

/-- The average of δ over 16 pilot symbols is complete; `sum` is their sum in 1/16 sample.  The round trip is TA + δ
(R134).  A TIMING message is due where it lies more than 1/2 sample from +4 samples and the line has frames (R59, R60, R63). -/
def execDeltaAverage (l : Nat) (sum : Int) (s : State) : Answer :=
  match onLine l s with
  | .next s =>
    if s.averages l && s.dspRuns then
      let avg := nearest sum 16
      let s := (s.wr LLOAD.ARRIVAL.DELTA (ofSigned 16 avg) l).modLine l fun x =>
        { x with roundTrip := ((x.ta : Int) + avg).toNat }
      let s := (s.cond .lload l 3 (decide (sum > 1536 ∨ sum < 512))).showRoundTrip (s.anchor l)
      let x := s.line l
      let far := decide (sum - 1024 > 128 ∨ 1024 - sum > 128)
      let best := x.ta = 0 && decide (0 ≤ sum ∧ sum ≤ 1024)
      if (s.line l).st = .joining then .next (s.joinOffset l sum)
      else if far && !best && x.timingSend.isNone && sfcCome x.timingUntil s.sfc && s.framesOn l then
        let c := clampInt (-16) 16 (nearest (sum - 1024) 16)
        .next (s.modLine l fun x =>
          { x with timingSend := some c, ta := ((x.ta : Int) + c).toNat })
      else .next s
    else .next s
  | o => o

/-- The tail's timing advance changes at the boundary of a TIMING message: never below 0 (R60). -/
def execTaAdjust (l : Nat) (s : State) : Answer :=
  match onLine l s with
  | .next s =>
    match (s.line l).taPending with
    | some (c, due) =>
      if s.dspRuns && sfcCome due (s.pageSfc .ltrain l) then
        .next ((s.correctTa l (s.line l).ta c).modLine l fun x => { x with taPending := none })
      else .next s
    | none => .next s
  | o => o

/-- δ outside 0 to +8 samples on 4 consecutive pilot symbols: fast retrain with TIMING (R60, R147). -/
def execArrivalOutOfBand (l : Nat) (s : State) : Answer :=
  match onLine l s with
  | .next s => if s.isVHead l && s.dspRuns then .next (s.retrainLine l rsTiming) else .next s
  | o => o

/-! ### The overhead word received (R69 to R71, R98) -/

/-- The states in which a line's data symbols carry overhead words. -/
def State.hearsOverhead (s : State) (l : Nat) : Bool :=
  let x := s.line l
  x.st = .training || x.st = .loading || x.st = .showtime || x.st = .leaving || x.st = .retrain

/-- A feedback entry of the tail for the pilot symbol of the previous superframe: real and imaginary bytes
in units of 2^-10; 0x80 means none (R98). -/
def State.takeFeedback (s : State) (l i : Nat) (re im : Option Nat) : State :=
  let prev := sfcAdd s.sfc (2 ^ 48 - 1)
  let k := 16 * groupOf prev + i
  let key := (prev % 128 * 128 + l) * 128 + k
  match re, im with
  | some a, some b =>
    if a = 0x80 ∨ b = 0x80 then
      { s with xe := { s.xe with badTx := insertSorted (l * 128 + k) s.xe.badTx } }
    else
      let e : Cx := ⟨(toSigned 8 a : Rat) / 1024, (toSigned 8 b : Rat) / 1024⟩
      { s with xe := { s.xe with feedback := s.xe.feedback.put key (some e) } }
  | _, _ => { s with xe := { s.xe with badTx := insertSorted (l * 128 + k) s.xe.badTx } }

/-- One byte of the frame: kept, or lost; a complete feedback pair is taken (R71, R98). -/
def State.takeByte (s : State) (l n : Nat) (b : Option Nat) : State :=
  let s := s.modLine l fun x => { x with rxFrame := x.rxFrame.put n b }
  if s.isVHead l && decide (n ≤ 32) && n % 2 == 0 && (s.line l).st != .joining then
    s.takeFeedback l (n / 2 - 1) ((s.line l).rxFrame.find (n - 1)) ((s.line l).rxFrame.find n)
  else s

/-- The frame's message area at byte 63: a lost byte or a failed CRC-16 counts in OHF_FAIL (R71,
R197). -/
def State.endFrame (s : State) (l : Nat) : State :=
  let f := (s.line l).rxFrame
  let bs := (List.range 31).map fun i => f.find (33 + i)
  let whole := bs.all Option.isSome
  let ns := bs.map fun b => b.getD 0
  if whole && crc16 (byteBits (ns.take 29)) == ns.getD 29 0 * 256 + ns.getD 30 0 then s
  else s.bump LMON.OHF_FAIL.COUNT l

/-- The SEAL code of a valid word: AGREE records the partner's agreement, to the end of S − 2 and for 8 superframes, CONFIRM in superframe S − 1 its
confirmation, WITHDRAW ends its proposal; a tail's first proposal gives way to a head's PROPOSE of the same superframe (R40, R70). -/
def State.takeSeal (s : State) (p code : Nat) : State :=
  match (s.port p).neg with
  | some n =>
    let set := fun n => s.modPort p fun x => { x with neg := some n }
    let now := s.portSfc p
    let inTime := decide (2 ≤ sfcFrom now n.target) && decide (sfcFrom n.since now < 8)
    if code = 2 && n.ours && !n.confirmed && !n.withdrawn && inTime then set { n with agreed := true }
    else if code = 3 && !n.ours && n.agreed && n.target == sfcAdd now 1 then
      set { n with confirmed := true }
    else if code = 4 && !n.ours then s.dropTheirs p
    else if code = 1 && n.ours && n.start == now && s.isVTail p then s.negYields p n
    else s
  | none => s

/-- A received overhead word (R69): a failed CRC-8 counts and loses the byte; a good one shows the line
alive, and its SEAL code, BERF, acknowledgement and frame byte are taken. -/
def execOverheadWordRx (l n : Nat) (w : Word) (s : State) : Answer :=
  match onLine l s with
  | .next s =>
    if !s.isV l || !s.hearsOverhead l || (s.line l).frozen || !s.dspRuns then .next s
    else
      let p := s.anchor l
      match ohDecode w.toNat with
      | none =>
        let s := (s.bump LMON.OHW_FAIL.COUNT l).takeByte l n none
        .next (if n = 63 then s.endFrame l else s)
      | some v =>
        let s := s.modLine l fun x => { x with ohBad := 0 }
        let s := s.takeSeal p v.code
        let s := if s.isVTail l && (v.berf != (s.g LLOAD.ERASE.MASK l 0 != 0)) then
            s.setErase l (if v.berf then s.eraseMask l else 0) else s
        let s := if v.ackv && !(s.port p).express then s.takeAck p v.ackSeq v.ackMap else s
        let s := s.takeByte l n (some v.frag)
        .next (if n = 63 then s.endFrame l else s)
  | o => o

/-! ### Messages received whole (R60, R142 to R144) -/

/-- A SEAL message of the partner (R40, R70, R144).  In the superframe in which both ends first propose,
the head's proposal stands; while a proposal of ours is open otherwise, the partner's is not
agreed. -/
def execSealMessageRx (p : Nat) (m : List Nat) (s : State) : Answer :=
  match onPort p s with
  | .next s =>
    if !s.dspRuns then .next s
    else
    let now := s.portSfc p
    let s16 := m.getD 0 0 * 256 + m.getD 1 0
    let ahead := (s16 + 2 ^ 16 - now % 2 ^ 16) % 2 ^ 16
    let target := sfcAdd now ahead
    let s := match (s.port p).neg with
      | some n =>
        if n.ours && s.isVTail p && n.start == now then s.negYields p n
        else if !n.ours && n.target != target && !n.confirmed then s.dropTheirs p
        else s
      | none => s
    let count := m.getD 25 0
    if (s.messageLines p).isEmpty || ahead = 0 || count = 0 || 16 < count || count ≤ m.getD 26 0 then
      .next s
    else
      let open_ : Option State := match (s.port p).neg with
        | none => some (s.modPort p fun x =>
            { x with neg := some { ours := false, start := now, target := target, changes := [],
                                   count := count, agreed := false, confirmed := false },
                     sealHeld := [] })
        | some n => if n.ours then none else some s
      match open_ with
      | none => .next s
      | some s =>
        let s := s.modPort p fun x => { x with sealHeld := x.sealHeld.put (m.getD 26 0) (some m) }
        .next (s.considerTheirs p)
  | o => o

/-- What this end makes of a partner's table for the direction it sends: masked tones zeroed, no tone above MAXBITS, and
gains within their codes (R61, R143 step 3). -/
def State.fitTable (s : State) (l : Nat) (t : Store Nat) : Store Nat :=
  fitTo (s.ownMaxBits l) (s.masked l) (fun _ => false) t

/-- Take a table received whole: with the direction received by us (`rx`) or sent by us.  A head fits the table it is to
send to its own masks and MAXBITS and, where that changes it, returns it under a new TABLE_ID (R143 step 3; for MAXBITS
DEDUCED, log 62); one that cannot carry the overhead word ends the line's attempt with LOW_SNR (R141). -/
def State.takeTable (s : State) (l id : Nat) (rx : Bool) (t : Store Nat) : State :=
  let c := if rx || !s.isVHead l then t else s.fitTable l t
  if !carriesOverhead c then s.lowSnr l
  else if rx then s.modLine l fun x => { x with newRx := some (id, c) }
  else if c = t then s.modLine l fun x => { x with newTx := some (id, c) }
  else s.modLine l fun x =>
    { x with newTx := some ((id + 1) % 256, c), sendSegs := x.sendSegs ++ (List.range 11).map (16 + ·) }

/-- HOSTMASK takes effect at a loading exchange: the mask in force is the registers' (R62). -/
def State.hostMaskOf (s : State) (l : Nat) : Nat :=
  (List.range 4).foldl (fun m i => m + s.g LLOAD.HOSTMASK.MASK l i * 2 ^ (32 * i)) 0

/-- The line computes the table of its received direction and sends it whole; a table that cannot carry
the overhead word sends the line to QUIET with LOW_SNR (R141, R143). -/
def State.authorTable (s : State) (l : Nat) : State :=
  let s := s.modLine l fun x => { x with hostMask := s.hostMaskOf l }
  let t := s.loadTable l tones []
  if carriesOverhead t then
    s.modLine l fun x =>
      { x with newRx := some ((x.rxId + 1) % 256, t), sendSegs := List.range 11, loadSent := true }
  else s.lowSnr l

/-- Every line of the port holds both tables, in LOADING or back for a restore: the head proposes
SHOWTIME_ENTRY (R143 step 4). -/
def State.entryReady (s : State) (p : Nat) : Bool :=
  s.isVHead p && (s.portLines p).all fun l =>
    let x := s.line l
    x.st = .loading && x.newRx.isSome && x.newTx.isSome

def State.proposeEntry (s : State) (p : Nat) : State :=
  if s.entryReady p then s.propose p (sfcAdd (s.portSfc p) 4) [.showtimeEntry (s.portLines p)] else s

/-- The segments of a TABLE_ID held in one direction, with one more: a new set starts from the table in effect where only
differing segments are sent (R142, R146). -/
def LineX.holdSegment (x : LineX) (up rx : Bool) (m : List Nat) : LoadSet :=
  let id := m.getD 1 0
  let old := x.inLoad.get {} (bnat up)
  let t := if rx then x.rxTable else x.txTable
  let base : LoadSet := if old.id = id && !old.segs.isEmpty then old
    else if x.st = .showtime then
      { id := id, segs := (List.range 11).map fun g => (g, (segmentTones g).map fun k =>
          if k ≤ 127 then t.get 0 k else 0) }
    else { id := id }
  { base with segs := base.segs.put (m.getD 0 0 % 16) (some (segEntries m)) }

/-- A segment joins its set; a complete table is taken (R142, R143). -/
def State.takeSegment (s : State) (l : Nat) (m : List Nat) : State :=
  let up := bit (m.getD 0 0) 7
  let rx := up == s.isVHead l
  let new := (s.line l).holdSegment up rx m
  let s := s.modLine l fun x => { x with inLoad := x.inLoad.set {} (bnat up) new }
  match tableOfSegs new with
  | some t => s.takeTable l (m.getD 1 0) rx t
  | none => s

/-- A LOAD message received whole: its segment joins the set of its TABLE_ID, and a partner's proposal that waited for the
complete table is judged (R70, R142, R143, R146). -/
def execLoadMessageRx (l : Nat) (m : List Nat) (s : State) : Answer :=
  withSignal l s fun s =>
    let x := s.line l
    if !s.isV l || !(x.st = .training || x.st = .loading || x.st = .showtime || x.st = .retrain) ||
        10 < m.getD 0 0 % 16 then s
    else
      let s := if s.isVTail l && x.st = .training then (s.moveLine l .loading).authorTable l else s
      let s := (s.takeSegment l m).considerTheirs (s.anchor l)
      if (s.line l).st = .loading then s.proposeEntry (s.anchor l) else s

/-- A TIMING message received whole: the tail adds its correction at the first superframe boundary at
least 2 superframes after the frame that carried it (R60). -/
def execTimingMessageRx (l corr : Nat) (s : State) : Answer :=
  match onLine l s with
  | .next s =>
    if s.isVTail l && s.hearsOverhead l && s.dspRuns then
      .next (s.modLine l fun x =>
        { x with taPending := some (toSigned 8 corr, sfcAdd (s.pageSfc .ltrain l) 3) })
    else .next s
  | o => o

end Sys2Proof.Machine
end

