-- ==== Sys2Proof/Machine/Xengine.lean ====
section
/-! DEFINITION. The rows of the crosstalk engine: group landings (R97 to R100), joins (R101 to R103),
leaves (R105 to R107), scrubbing (R114, R115), holds, the census (R117), XWINDOW (R118, R119) and the
write port (R120). -/

namespace Sys2Proof.Machine

/-! ### Group landings -/

/-- The tones of a group that the level vectors (R97, R108). -/
def State.landingTones (s : State) (g : Nat) : List Nat := (groupTones g).filter fun k => k ≤ s.nv

/-- The lines that take part in a landing: active, and not left out for the cycle (R97, R100). -/
def State.landingLines (s : State) (excluded : List Nat) : List Nat :=
  s.activeLines.filter fun l => !excluded.contains l

/-- A whole cycle of errors of line v on tone k is held. -/
def wholeCycle (errs : Store Cx) (v k : Nat) : Bool :=
  (List.range 128).all fun t => (errs.find ((t * 128 + v) * 128 + k)).isSome

/-- Recovery of the entries a landing re-estimated ends (R114). -/
def State.endAwaiting (s : State) (m : Nat) (ks : List Nat) : State :=
  ({ s with xe := { s.xe with awaiting := s.xe.awaiting.filter fun e =>
      !(e / 2 ^ 21 == m && ks.contains (e / 2 ^ 14 % 128)) } } : State).recoveryCheck

/-- The row of entry (v, d) was written by the host at this boundary (R119). -/
def State.rowWritten (s : State) (m k v : Nat) : Bool := s.xe.written.contains (coefKey m k v 0 / 2 ^ 7)

/-- The PRD increments by reciprocity: for a Banked victim v, what FXU[k,d,v] received (R100). -/
def State.reciprocal (s : State) (incs : List (Nat × Cx)) (k : Nat) : List (Nat × Cx) :=
  incs.filterMap fun (key, c) =>
    let v := key % 128
    let d := key / 2 ^ 7 % 128
    if (s.line v).st = .banked && !s.rowWritten 2 k v then some (coefKey 2 k v d, c) else none

/-- One tone of the FXU landing: valid entries are updated, the others skipped, and the PRD rows of Banked victims follow
(R97, R99, R100). -/
def State.landFxuTone (s : State) (ls : List Nat) (k : Nat) : State :=
  let ps := landingPairs ls ls
  let ok := fun (p : Nat × Nat) =>
    wholeCycle s.xe.prevErr p.1 k && !s.xe.prevBadRx.contains (p.1 * 128 + k) &&
      !rotationSkips s.xe.prevRotated p.2 && !s.xe.lost.contains (coefKey 1 k p.1 p.2)
  let incs := ((ps.filter ok).filter fun p => !s.rowWritten 1 k p.1).map fun (v, d) =>
    (coefKey 1 k v d, s.fxuInc k v d)
  let prd := s.reciprocal incs k
  let s := s.addIncs incs 1024
  let s := if prd.isEmpty then s else s.landPrdIncs prd k
  s.countSkips (ps.filter fun p => !ok p).length

/-- The FXU update of the last cycle's group lands (R97), with the reciprocal PRD increments (R100); none
while HOLD is in force or where the cycle's landings are discarded (R107). -/
def execFxuLanding (s : State) : Answer :=
  if s.sfc % 128 != 0 || s.sfc = 0 || !s.engineRuns then .next s
  else
    let ks := s.landingTones (groupOf (s.sfc - 1))
    let s := if s.xe.hold || s.xe.prevDiscard || ks.isEmpty then s
      else
        (ks.foldl (fun s k => s.landFxuTone (s.landingLines s.xe.prevExcluded) k) s).endAwaiting 1 ks
    .next { s with xe := { s.xe with prevErr := [], prevAmpUp := [],
                                     lost := s.xe.lost.filter fun e => e / 2 ^ 21 != 1 } }

/-- One tone of the PRD landing (R99). -/
def State.landPrd (s : State) (ls : List Nat) (k : Nat) : State :=
  let vs := ls.filter fun v => (s.line v).st != .banked && (s.xe.prevBadTx.contains (v * 128 + k) ||
    (List.range 128).any fun t => (s.xe.prevFeedback.find ((t * 128 + v) * 128 + k)).isSome)
  let ps := landingPairs vs ls
  let ok := fun (p : Nat × Nat) =>
    wholeCycle s.xe.prevFeedback p.1 k && !s.xe.prevBadTx.contains (p.1 * 128 + k) &&
      !rotationSkips s.xe.prevRotated p.2 && !s.xe.lost.contains (coefKey 2 k p.1 p.2)
  let incs := s.prdIncs ((ps.filter ok).filter fun p => !s.rowWritten 2 k p.1) k
  (s.landPrdIncs incs k).countSkips (ps.filter fun p => !ok p).length

/-- A tail's feedback reached the landing of a group: TRAINING counts the groups (R140 step 5). -/
def State.markGroups (s : State) (g : Nat) (ls : List Nat) : State :=
  ls.foldl (fun s l => if (s.line l).st = .training then
    s.modLine l fun x => { x with groups := insertSorted g x.groups } else s) s

/-- The PRD update of the last cycle's group lands one superframe later, with NORM (R92, R99); the newly
vectored tones of the group have then landed an update (R112). -/
def execPrdLanding (s : State) : Answer :=
  if s.sfc % 128 != 1 || s.sfc < 129 || !s.engineRuns then .next s
  else
    let g := groupOf (s.sfc - 2)
    let ks := s.landingTones g
    let ls := s.landingLines s.xe.prevExcluded
    let fed := ls.filter fun v => ks.all fun k => wholeCycle s.xe.prevFeedback v k || s.masked v k
    let s := if s.xe.hold || s.xe.prevDiscard then s
      else
        let s := ((ks.foldl (fun s k => s.landPrd ls k) s).endAwaiting 2 ks).markGroups g fed
        if 129 ≤ sfcFrom s.xe.nvSince s.sfc then
          { s with xe := { s.xe with freshTones := s.xe.freshTones.filter fun k => !ks.contains k } }
        else s
    .next { s with xe := { s.xe with prevFeedback := [], prevAmpDown := [], prevDiscard := false,
                                     lost := s.xe.lost.filter fun e => e / 2 ^ 21 != 2 } }

/-! ### Joins -/

/-- The ports one join takes from the head of the queue: at most 4 lines, one cluster (R101, R136). -/
def State.takeRequests (s : State) : List Nat → Nat → Nat → List Nat
  | [], _, _ => []
  | p :: ps, c, room =>
    if p / 32 = c ∧ s.width p ≤ room then p :: s.takeRequests ps c (room - s.width p) else []

/-- A join starts on the first pilot-cycle boundary at least one superframe after its request is served,
unless HOLD or a level change holds it back (R101, R102 step 1, R113, R136). -/
def execJoinStart (s : State) : Answer :=
  match s.xe.join, s.xe.queue, s.xe.served with
  | none, (_, p) :: _, some t =>
    if s.sfc % 128 = 0 ∧ !sfcCome s.sfc t ∧ !s.xe.hold ∧ s.lvl.phase = .idle ∧ s.engineRuns then
      let ports := s.takeRequests (s.xe.queue.map (·.2)) (p / 32) 4
      let lines := ports.flatMap s.portLines
      let s := { s with xe := { s.xe with
        join := some { ports := ports, lines := lines, phase := .first, start := s.sfc },
        bankC := [], powerC := [], lostC := [],
        queue := s.xe.queue.filter fun q => !ports.contains q.2, served := none } }
      .next (lines.foldl (fun s l =>
        (s.modLine l fun x => { x with word := none, pilots := true }).moveLine l .joining 0) s)
    else .next s
  | _, _, _ => .next s

/-- The port is free for the join's sequencer: no other lease runs, or XWINDOW's row has reached the
shadow (R120). -/
def State.portFreeFor (s : State) (m : Nat) : Bool :=
  match s.xe.lease with
  | none => true
  | some h => h == m || (match s.xe.xw with | some r => r.shadow && r.master == h | none => false)

/-- A correlation of bank C over the power it is measured against: the estimate of one entry, 0 where its word was lost
(R102, R114; the normalisation is DEDUCED, log 52). -/
def State.estimate (s : State) (what m k v d l : Nat) : Cx :=
  let w := s.xe.powerC.get 0 (powerKey what k l)
  if w = 0 ∨ s.xe.lostC.contains (coefKey m k v d) then Cx.zero
  else Cx.scale (1 / w) (s.xe.bankC.get Cx.zero (coefKey m k v d))

/-- Store an estimate of an entry. -/
def State.storeEstimate (s : State) (m k v d : Nat) (c : Cx) : State :=
  s.writeCoef m k v d (satPart (quantise c.re), satPart (quantise c.im))

/-- The V-head lines that a join's columns reach: the active and the joining ones. -/
def State.joinVictims (s : State) (j : Join) : List Nat :=
  allLines.filter fun v => s.isActive v || j.lines.contains v

/-- The sequencer holds the port in its window: superframe `off` of the join. -/
def State.sequencerHolds (s : State) (j : Join) (off : Nat) : Bool :=
  s.sfc == sfcAdd j.start off && s.xe.lease == some (joinMaster j)

/-- The sequencer gives the port back after writing and goes to a phase; `more` keeps the port reserved for its next lease
(R120). -/
def State.joinWritten (s : State) (j : Join) (phase : JoinPhase) (more : Bool) : State :=
  let s := { s with xe := { s.xe with join := some { j with phase := phase }, lease := none,
                                      reserved := if more then some (joinMaster j) else none } }
  if more then s.askPort (joinMaster j) else s

/-- Step 4: the NXT columns and echoes of the joining lines from the correlations with their pilots (R102). -/
def State.writeColumns (s : State) (j : Join) : State :=
  j.lines.foldl (fun s d => (s.joinVictims j).foldl (fun s v => tones.foldl (fun s k =>
    s.storeEstimate 0 k v d (s.estimate 0 0 k v d d)) s) s) s

/-- Step 4 of a join: its columns are written in the lease of its sequencer (R102, R120). -/
def execJoinNxtWrite (s : State) : Answer :=
  match s.xe.join with
  | some j =>
    if j.phase = .first && s.sequencerHolds j 127 && s.engineRuns then
      .next ((s.writeColumns j).joinWritten j .nxtWritten false)
    else .next s
  | none => .next s

/-- Step 5: the joining lines become pilot-active; a join whose step 4 is not written fails (R102,
R103). -/
def execJoinPilotActive (s : State) : Answer :=
  match s.xe.join with
  | some j =>
    if s.fault.s3 then .next s
    else if s.sfc = sfcAdd j.start 128 ∧ j.phase = .nxtWritten then
      let s := { s with xe := { s.xe with join := some { j with phase := .second } } }
      .next (j.lines.foldl (fun s l => s.modLine l fun x => { x with pilotActive := true, sub := 1 }) s)
    else if s.sfc = sfcAdd j.start 128 ∧ j.phase = .first then .next (s.failJoin [])
    else .next s
  | none => .next s

/-- Step 7, NXT rows: U of the joining lines against what the active lines send; and FEQ of the joining lines, 1 over
the direct channel of step 6 (R102). -/
def State.writeRows (s : State) (j : Join) : State :=
  j.lines.foldl (fun s v => tones.foldl (fun s k =>
    let s := (s.activeLines.filter fun d => !j.lines.contains d).foldl (fun s d =>
      s.storeEstimate 0 k v d (s.estimate 2 0 k v d d)) s
    let h := s.estimate 1 1 k v v v
    if h = Cx.zero then s else s.setFeq v k (Cx.div Cx.one h)) s) s

/-- Step 7, FXU columns and rows: column j is −ê_vj × FEQ_j / FEQ_v, with ê_vj the equalised residual of U_v against j's
upstream pilots; row j is U_j against the decided points of line d, times −FEQ_d (R102; ê and the rows' formula are DEDUCED,
log 52). -/
def State.writeFxu (s : State) (j : Join) : State :=
  j.lines.foldl (fun s l => tones.foldl (fun s k =>
    let s := ((s.joinVictims j).filter (· != l)).foldl (fun s v =>
      let e := (s.estimate 1 1 k v l l).mul (s.feq v k)
      s.storeEstimate 1 k v l (Cx.scale (-1) ((e.mul (s.feq l k)).div (s.feq v k)))) s
    (s.activeLines.filter fun d => !j.lines.contains d).foldl (fun s d =>
      s.storeEstimate 1 k l d (Cx.scale (-1) ((s.estimate 3 1 k l d d).mul (s.feq d k)))) s) s) s

/-- Step 7, PRD of a join from FXU: PRD[k,v,j] = FXU[k,j,v] and PRD[k,j,d] = FXU[k,d,j] (R102). -/
def State.writeJoinPrd (s : State) (j : Join) : State :=
  j.lines.foldl (fun s l => ((s.joinVictims j).filter (· != l)).foldl (fun s v => tones.foldl (fun s k =>
    (s.writeCoef 2 k v l (s.entry 1 k l v)).writeCoef 2 k l v (s.entry 1 k v l)) s) s) s

/-- The state with the lines given counted active. -/
def State.withActive (s : State) (ls : List Nat) : State :=
  ls.foldl (fun s l => s.modLine l fun x => { x with active := true }) s

/-- Whether line l is what would move NORM_k by more than 0.02 dB, once the lines given are active. -/
def State.normMoves (s : State) (ls : List Nat) (l k : Nat) : Bool :=
  (s.withActive ls).normHolds k && !(s.withActive (l :: ls)).normHolds k

/-- Lower g_k of a joining line, code by code, until it does not move NORM_k by more than 0.02 dB; the joining lines in `ls`
are done. -/
def State.cutGain (s : State) (ls : List Nat) (l k : Nat) : Nat → State
  | 0 => s
  | n + 1 =>
    if s.normMoves ls l k then
      State.cutGain (s.modLine l fun x => { x with cut := x.cut.put k (some n) }) ls l k n
    else s

/-- Step 7 of a join, one lease of its sequencer after another: NXT rows with FEQ, FXU, and PRD with the gains that would
move NORM lowered; between the leases the port stays reserved (R92, R102, R120). -/
def execJoinCoefWrite (s : State) : Answer :=
  match s.xe.join with
  | some j =>
    if !s.sequencerHolds j 255 || !s.engineRuns then .next s
    else match j.phase with
      | .second => .next ((s.writeRows j).joinWritten j .rowsWritten true)
      | .rowsWritten => .next ((s.writeFxu j).joinWritten j .fxuWritten true)
      | .fxuWritten =>
        let s := s.writeJoinPrd j
        let s := j.lines.foldl (fun s l =>
          (tones.filter (· ≤ s.nv)).foldl (fun s k => s.cutGain (j.lines.takeWhile (· != l)) l k 1024) s) s
        .next (s.joinWritten j .written false)
      | _ => .next s
  | none => .next s

/-- Step 8: the lines become active for all symbols and enter TRAINING; JOIN_LANDED.  A join whose step 7
is not written fails (R102, R103). -/
def execJoinLanded (s : State) : Answer :=
  match s.xe.join with
  | some j =>
    if s.sfc != sfcAdd j.start 256 || s.fault.s3 then .next s
    else if j.phase = .written then
      let s := { s with xe := { s.xe with join := none, bankC := [], powerC := [], lostC := [] } }
      let s := j.lines.foldl (fun s l =>
        (s.modLine l fun x => { x with active := true, dying := false, pilotActive := false,
                                       trainStart := s.sfc, accNum := [], accDen := [], accCount := 0, groups := [],
                                       snrReady := false }).moveLine l .training 0) s
      let s := j.ports.foldl (fun s p => s.modPort p fun x => { x with joinFails := 0 }) s
      .next (s.pulse .xengine 0 3)
    else .next (s.failJoin [])
  | none => .next s

/-! ### The write port -/

/-- XWINDOW.XW_STAT.WAITING: a write waits for the port. -/
def State.showWaiting (s : State) : State :=
  s.wr XWINDOW.XW_STAT.WAITING
    (match s.xe.xw with | some r => bnat (r.write && !r.shadow) | none => 0)

/-- The port is granted to the next master in R120's order; a row of XWINDOW then reaches the
shadow. -/
def execWritePortGrant (s : State) : Answer :=
  match nextWriter s.xe.reserved s.xe.waiting with
  | some m =>
    if s.portFreeFor m && s.engineRuns then
      let s := { s with xe := { s.xe with lease := some m, waiting := s.xe.waiting.filter (· != m) } }
      match s.xe.xw with
      | some r =>
        if r.write && r.master == m then
          .next ({ s with xe := { s.xe with xw := some { r with shadow := true, since := (s.sfc, s.sym) } } } : State).showWaiting
        else .next s
      | none => .next s
    else .next s
  | none => .next s

/-- The XENGINE DMA clears the row and the column of a line that left, in a lease of the port, and asks again while more
lines wait (R105 step 4, R107, R120). -/
def execXengineDmaClear (l : Nat) (s : State) : Answer :=
  match onLine l s with
  | .next s =>
    if s.xe.clearing.contains l && s.xe.lease == some 0x20 && !s.fenced 0x20 && s.engineRuns then
      let s := s.clearEntries l
      let left := s.xe.clearing.filter (· != l)
      let s := { s with xe := { s.xe with clearing := left, lease := none } }
      .next (if left.isEmpty then s else s.askPort 0x20)
    else .next s
  | o => o

/-! ### Disorderly leave (R106, R107) -/

/-- The second symbol boundary after detection: the line is inactive and silent, its pending increments are
dropped, LEAVE_DISORDERLY rises; its entries are to be cleared unless it is in RETRAIN, which keeps its pilots
(R107, R149 step 1). -/
def execDeadLineInactive (l : Nat) (s : State) : Answer :=
  match onLine l s with
  | .next s =>
    if (s.line l).dying && !s.fault.s3 then
      let keep := (s.line l).st = .retrain
      let s := s.modLine l fun x =>
        { x with active := false, dying := false, pilotActive := false, pilots := keep && x.pilots, silent := !keep }
      let s := { s with xe := { s.xe with
        pend := s.xe.pend.filter fun e => e.key / 2 ^ 7 % 128 != l && e.key % 128 != l } }
      let s := s.pulse .xengine 0 5
      .next (if keep then s else s.wantClear l)
    else .next s
  | o => o

/-! ### Scrubbing and recovery (R114, R115) -/

/-- The scrubber reads 1,024 words: `errors` are those it finds in error, by matrix (3 the staging
banks), index and whether a single bit was wrong. -/
def execScrubStep (errors : List (Nat × Nat × Bool)) (s : State) : Answer :=
  .next (when s.engineRuns (fun s =>
    errors.foldl (fun s e => if e.2.2 then s.corrected else s.uncorrectable (e.1 % 4) e.2.1) s) s)

/-- 2,048 symbols after an uncorrectable NXT error the row tracks as before (R114). -/
def execNxtUeRecoveryEnd (l k : Nat) (s : State) : Answer :=
  withTimer l s fun s =>
    ({ s with xe := { s.xe with recover := s.xe.recover.filter (· != l * 128 + k % 128) } } : State).recoveryCheck

/-- HOLD_LIMIT has passed: HOLD clears itself and HOLD_EXPIRED rises (R113, R116). -/
def execHoldExpired (s : State) : Answer :=
  if s.xe.hold && !s.fault.s3 then
    .next (({ s with xe := { s.xe with hold := false } }.wr XENGINE.CTRL.HOLD 0).pulse .xengine 0 6)
  else .next s

/-! ### Census (R117) -/

/-- Begin a census: its coefficients are taken at the next symbol boundary (R117). -/
def State.startCensus (s : State) (dir l : Nat) : State :=
  ({ s with xe := { s.xe with census := some (dir, l), censusTaken := none } } : State).beginResult .xengine 0

/-- The census result lands (R48, R117). -/
def execCensusDone (s : State) : Answer :=
  if !s.engineRuns then .next s
  else
  let s := s.takeCensus
  match s.xe.census, s.xe.censusTaken with
  | some (dir, l), some (reason, es) =>
    let s := (s.wr XENGINE.CENSUS_STAT.REASON reason).wr XENGINE.CENSUS_STAT.COUNT es.length
    let s := (s.wr XENGINE.CENSUS_STAT.DIR dir).wr XENGINE.CENSUS_STAT.LINE l
    let s := (List.range 8).foldl (fun s i =>
      let e := es[i]?
      let s := s.wr XENGINE.CENSUS.VALID (bnat e.isSome) 0 i
      let s := s.wr XENGINE.CENSUS.NEIGHBOUR (match e with | some e => e.1 | none => 0) 0 i
      s.wr XENGINE.CENSUS.LEVEL (match e with | some e => ofSigned 16 e.2 | none => 0) 0 i) s
    let s := { s with xe := { s.xe with census := none, censusTaken := none } }
    .next ((s.landResult .xengine 0).pulse .xengine 0 9)
  | _, _ => .next s

/-! ### XWINDOW (R118, R119) -/

/-- A request completes with a status: result words, SEQ and condition 0. -/
def State.finishXw (s : State) (status ce : Nat) : State :=
  let mine := fun h => match s.xe.xw with | some r => r.write && r.master == h | none => false
  let s := { s with xe := { s.xe with
    xw := none, waiting := s.xe.waiting.filter fun h => !mine h,
    lease := s.xe.lease.filter fun h => !mine h } }
  let s := (s.wr XWINDOW.XW_STAT.STATUS status).wr XWINDOW.XW_STAT.CE ce
  let s := (s.wr XWINDOW.CAP_SFC.SFC (s.sfc % 2 ^ 32)).wr XWINDOW.CAP_SYM.SYMBOL s.sym
  ((s.showWaiting).landResult .xwindow 0).pulse .xwindow 0 0

/-- RDATA and ZEROED read 0. -/
def State.blankXw (s : State) : State :=
  let s := (List.range 128).foldl (fun s d =>
    (s.wr XWINDOW.RDATA.I 0 0 d).wr XWINDOW.RDATA.Q 0 0 d) s
  (List.range 4).foldl (fun s i => s.wr XWINDOW.ZEROED.MASK 0 0 i) s

/-- A READ or WRITE is requested (R118, R119). -/
def State.startXw (s : State) (write : Bool) (master : Nat) : State :=
  let m := s.g XWINDOW.SEL.MATRIX
  let when_ := s.g XWINDOW.CMD.WHEN
  let r : XwRequest :=
    { write := write, matrix := m, tone := s.g XWINDOW.SEL.TONE, victim := s.g XWINDOW.SEL.VICTIM,
      moment := when_,
      target := if when_ = 2 then some (s.g XWINDOW.WHEN.SFC) else none,
      master := master, shadow := false, since := (s.sfc, s.sym),
      data := (List.range 128).map fun d =>
        s.g XWINDOW.WDATA.I 0 d * 2 ^ 16 + s.g XWINDOW.WDATA.Q 0 d }
  let s := s.beginResult .xwindow 0
  if m = 3 ∨ when_ = 3 then s.blankXw.finishXw 3 0
  else
    if when_ = 2 && sfcLate false (sfcAhead (s.g XWINDOW.WHEN.SFC) s.sfc) then s.finishXw 4 0
    else
      let s := { s with xe := { s.xe with xw := some r } }
      if write then (s.askPort master).showWaiting else s

/-- The row is captured between two passes; `bad` gives the entries in error and whether they were
corrected (R114, R118). -/
def State.captureRow (s : State) (r : XwRequest) (bad : List (Nat × Bool)) : State :=
  let s := bad.foldl (fun s e => if e.2 then s.corrected
    else s.uncorrectable r.matrix (entryIndex r.tone r.victim (e.1 % 128))) s
  let s := (List.range 128).foldl (fun s d =>
    let c := s.entry r.matrix r.tone r.victim d
    (s.wr XWINDOW.RDATA.I (ofSigned 16 c.1) 0 d).wr XWINDOW.RDATA.Q (ofSigned 16 c.2) 0 d) s
  let zeroed := fun n => bad.any fun e => e.1 == n && !e.2
  let s := (List.range 4).foldl (fun s i => s.wr XWINDOW.ZEROED.MASK (lineMask zeroed i) 0 i) s
  let ce := (bad.filter fun e => e.2).length
  s.finishXw (if bad.any fun e => !e.2 then 2 else if ce = 0 then 0 else 1) ce

/-- Drop what is under way for a row that the host wrote: pending NXT increments, the increments that land on this boundary,
and the row's accumulation in the pilot cycle; feedback that arrives in a cycle's first superframe is the former cycle's
(R98, R119). -/
def State.dropRow (s : State) (r : XwRequest) : State :=
  let key := r.victim * 128 + r.tone
  let row := coefKey r.matrix r.tone r.victim 0 / 2 ^ 7
  let xe := { s.xe with
    pend := s.xe.pend.filter fun e => !(r.matrix == 0 && e.key / 2 ^ 7 == row),
    written := if s.sym = 0 then insertSorted row s.xe.written else s.xe.written }
  let xe := if r.matrix = 1 then { xe with badRx := insertSorted key xe.badRx }
    else if r.matrix = 2 then
      if s.sfc % 128 = 0 then { xe with nextBadTx := insertSorted key xe.nextBadTx }
      else { xe with badTx := insertSorted key xe.badTx }
    else xe
  { s with xe := xe }

/-- The shadow row replaces the row; every row holds a column of each joining line, so a write while one joins is a CONFLICT
(R89, R119; DEDUCED, log 53). -/
def State.landRow (s : State) (r : XwRequest) : State :=
  let word := fun d => r.data.getD d 0
  let held := fun d => s.heldZero r.matrix r.victim d
  if !s.isVHead r.victim || allLines.any (fun l => s.isVHead l && (s.line l).st = .joining) then s.finishXw 3 0
  else
    let inactive := (List.range 128).any fun d => held d && word d != 0
    let s := (List.range 128).foldl (fun s d =>
      s.writeCoef r.matrix r.tone r.victim d
        (toSigned 16 (word d / 2 ^ 16), toSigned 16 (word d))) s
    (s.dropRow r).finishXw (if inactive then 6 else 0) 0

/-- The boundary of the request, with `elapsed` ns since it was written or its row reached the shadow: the first symbol or
superframe boundary 320 ns or more later, or the target superframe (R118). -/
def State.xwDue (s : State) (r : XwRequest) (elapsed : Nat) : Bool :=
  let later := decide (320 ≤ elapsed) && (s.sfc, s.sym) != r.since
  (!r.write || r.shadow) &&
    (match r.moment, r.target with
     | 0, _ => later
     | 1, _ => later && s.sym == 0
     | _, some t => s.sym == 0 && s.sfc % 2 ^ 32 == t
     | _, none => false)

/-- The target of a request passed while it waited (DESIGN CHOICE, log 54). -/
def State.xwMissed (s : State) (r : XwRequest) : Bool :=
  match r.target with
  | some t =>
    let past := sfcAhead s.sfc t
    decide (past < 2 ^ 31) && (past != 0 || s.sym != 0)
  | none => false

/-- The XWINDOW request lands (R118, R119). -/
def execXwindowLand (elapsed : Nat) (bad : List (Nat × Bool)) (s : State) : Answer :=
  match s.xe.xw with
  | some r =>
    if s.xwDue r elapsed && s.engineRuns then .next (if r.write then s.landRow r else s.captureRow r bad)
    else if s.xwMissed r then .next (s.finishXw 4 0)
    else .next s
  | none => .next s

end Sys2Proof.Machine
end

