-- ==== Sys2Proof/Machine/BringUp.lean ====
section
/-! DEFINITION. Line bring-up, retrain, Banked and the loss of a partner: the rows of R124 to R154. -/

namespace Sys2Proof.Machine

/-! ### Shared -/

/-- Send a message of R130 as one packet of the beacon profile, `gap` ns from now at the earliest; one that falls due while a
reception is held waits for its end (R170, R180). -/
def State.send (s : State) (l : Nat) (m : List Nat) (gap : Nat := 0) : State :=
  (s.modReach l fun x => { x with
    due := x.due ++
      [{ addr := 0, kind := 5, seq := 0, opens := false, payload := m, sf := 7, bw := 1, cr := 0, gap := gap }]
  }).sendDue l

/-- A message starts 200 µs after the end of the one that it replies to (R129). -/
def replyGap : Nat := 200000

/-- `n` bytes of a message from byte `i`, most significant first. -/
def field (m : List Nat) (i n : Nat) : Nat :=
  (List.range n).foldl (fun v j => v * 256 + m.getD (i + j) 0) 0

/-- A message of R130: its length, TYPE and VERSION. -/
def isMessage (m : List Nat) (len type : Nat) : Bool :=
  m.length == len && m.getD 0 0 == type && m.getD 1 0 == 1

/-- ABORT with a reason (R130). -/
def abortBytes (reason : Nat) : List Nat := [0x1F, 1, reason, 0]

/-- A line enters HANDSHAKE with no tables of an earlier bring-up. -/
def State.enterHandshake (s : State) (l : Nat) : State :=
  let mask := s.hostMaskOf l
  let s := s.modLine l fun x =>
    { x with rxTable := [], txTable := [], rxId := 0, txId := 0, newRx := none, newTx := none,
             inLoad := [], sendSegs := [], goSent := false, offered := false, proofOk := false,
             lastP := none, ta := 0, taC := 0, hostMask := mask }
  ((s.showTable l).wr LLOAD.TADV.TA 0 l).moveLine l .handshake

/-- A failed pairing proof, ours or the partner's (R124, R154, R350): QUIET, counted, the fourth in a
row holds for 60 s and records PAIRING_LOCKOUT. -/
def State.pairFailed (s : State) (l : Nat) : State :=
  let n := (s.line l).pairFails + 1
  let s := s.modLine l fun x => { x with pairFails := if n ≥ 4 then 0 else n }
  let s := s.bump PORT_SEC.PAIR_CTRL.FAILS (s.anchor l)
  let s := (s.quietLine l rsPairFail (if n ≥ 4 then 3 else 2)).pulse .ltrain l 8
  if n ≥ 4 then s.noteS1 0x28 (128 + l) 0 else s

/-! ### Enabling and beacons -/

/-- Line enable (R122): the line takes the start state of its mode. -/
def execLineEnable (l : Nat) (s : State) : Answer :=
  withLine l s fun s =>
    when (s.enabled .lctl l && s.mode l != 0 && decide ((s.line l).st = .off)) (·.startLine l) s

/-- The BEACON of a line (R130, R243). -/
def State.beaconBytes (s : State) (l : Nat) : List Nat :=
  let p := s.anchor l
  let w := match s.width p with | 4 => 2 | 2 => 1 | _ => 0
  [0x11, 1] ++ msbBytes 8 Config.deviceId ++ [l, w * 64 + s.lineIndex l,
    s.g XENGINE.CTRL.PILOTSET + 128 * s.g PORT_SEC.PAIR_CTRL.REQUIRED p, 3] ++
    msbBytes 2 (s.g LTRAIN.ATTEMPTS.NOANSWER l) ++ List.replicate 8 0

/-- The quad's lines beacon in the window that alternation opened (R242). -/
def State.inBeaconWindow (s : State) (l : Nat) : Bool :=
  (s.line l).st = .standard && (s.stdX l).beacon

/-- Beacons are sent: in RUN and DOZE, until stage 1 of an entry stops them (R298). -/
def State.beaconsRun (s : State) : Bool := decide (s.pwr.state ≤ 1) && !s.pwr.waking && s.pwr.stage == 0

/-- A beacon slot (R129, R242): a BEACON goes out unless the decoding path holds a reception or the reply window of the
last one is open; the windows of R242 have none. -/
def execBeaconSlot (l : Nat) (s : State) : Answer :=
  withLine l s fun s =>
    when ((decide ((s.line l).st = .beacon) || s.inBeaconWindow l) && !s.noKey (s.anchor l) &&
        (s.reachX l).rx.isNone && !(s.reachX l).beaconOpen && s.beaconsRun && s.lineRuns l)
      (fun s =>
        let on := decide ((s.line l).st = .beacon)
        (s.send l (s.beaconBytes l)).modReach l fun x => { x with beaconOpen := on }) s

/-- Byte 76 + i of an OFFER: the tones that RMASK and HOSTMASK exclude (R130). -/
def State.maskByte (s : State) (l i : Nat) : Nat :=
  ((List.range 8).filter fun n => s.masked l (8 * i + n)).foldl (fun m n => m + 2 ^ n) 0

/-- P_H and P_T of the handshake as the head computes them (R132); zeros where pairing is not
required. -/
def State.headProof (s : State) (l : Nat) : Nat :=
  let x := s.line l
  match s.pairKey (s.anchor l) with
  | some k => if x.pairReq then pairProof k 0x48 x.nonce x.peerNonce Config.deviceId x.peerId l else 0
  | none => 0
def State.tailProofAtHead (s : State) (l : Nat) : Option Nat :=
  let x := s.line l
  (s.pairKey (s.anchor l)).map fun k => pairProof k 0x54 x.peerNonce x.nonce x.peerId Config.deviceId l

/-- The OFFER of a line: it names the superframe in which its last chirp ends (R130, R131). -/
def State.offerBytes (s : State) (l : Nat) (gap : Nat := 0) : List Nat :=
  let x := s.line l
  [0x13, 1] ++ msbBytes 32 x.nonce ++ msbBytes 4 (s.offerSuperframe gap % 2 ^ 32) ++
    [l, s.g XENGINE.CTRL.PILOTSET] ++ msbBytes 3 x.rttc ++ [bnat x.pairReq] ++
    msbBytes 32 (s.headProof l) ++ (List.range 16).map (s.maskByte l)

/-- Send an OFFER; training leaves out the tones that it excludes (R130, R139). -/
def State.sendOffer (s : State) (l : Nat) (gap : Nat := 0) : State :=
  let mask := ((List.range 128).filter (s.masked l)).foldl (fun m k => m + 2 ^ k) 0
  (s.modLine l fun x => { x with offerMask := mask }).send l (s.offerBytes l gap) gap

/-- The partner's member code, capabilities and ID are recorded (R130, R153). -/
def State.recordPartner (s : State) (l : Nat) (m : List Nat) : State :=
  let s := (s.wr LTRAIN.PARTNER.MEMBER (m.getD 10 0) l).wr LTRAIN.PARTNER.MAXBITS (m.getD 11 0 % 16) l
  let s := s.wr LTRAIN.PARTNER.CAPS (m.getD 11 0 / 16 % 4) l
  (s.wr LTRAIN.PARTNER_ID_LO.ID (field m 6 4) l).wr LTRAIN.PARTNER_ID_HI.ID (field m 2 4) l

/-- A valid ANSWER (R124, R133): HANDSHAKE with the coarse round trip and an OFFER; on a STANDARD quad
an ABORT with CAPABILITY (R243).  `rtt` is RTT_c in 1/16 sample. -/
def execAnswerRx (l : Nat) (m : List Nat) (rtt : Nat) (s : State) : Answer :=
  withSignal l s fun s =>
    if !isMessage m 56 0x12 then s
    else if (s.line l).st = .standard && s.g LSTD.ADV.ALT (l / 4 * 4) == 1 then
      let s := (s.send l (abortBytes rsCapability) replyGap).recordPartner l m
      (s.wr LSTD.STATUS.APSYN_SEEN 1 (l / 4 * 4)).pulse .lstd (l / 4 * 4) 3
    else if s.isVHead l && decide ((s.line l).st = .beacon) then
      let d := s.draw
      let s := (d.2.enterHandshake l).recordPartner l m
      let rtt := rtt % 2 ^ 24
      let s := s.modLine l fun x =>
        { x with nonce := Config.random d.1, peerNonce := field m 16 32, peerId := field m 2 8,
                 rttc := rtt, taC := rtt - 512, offered := true,
                 pairReq := s.g PORT_SEC.PAIR_CTRL.REQUIRED (s.anchor l) == 1 }
      let s := s.wr LTRAIN.RANGE.RTTC rtt l
      s.sendOffer l replyGap
    else s

/-- The beacon cycle ends without an ANSWER (R124). -/
def execNoanswerTimeout (l : Nat) (s : State) : Answer :=
  withTimer l s fun s =>
    when (decide ((s.line l).st = .beacon)) (fun s =>
      let s := (s.bump LTRAIN.ATTEMPTS.NOANSWER l).modLine l fun x => { x with hold := 1 }
      ((s.moveLine l .quiet).pulse .ltrain l 9).quietPeers l) s

/-- The QUIET hold of a head ends: BEACON (R124); not while pairing has no key (R350). -/
def execQuietHoldExpire (l : Nat) (s : State) : Answer :=
  withTimer l s fun s =>
    when (s.isVHead l && decide ((s.line l).st = .quiet) && s.enabled .lctl l &&
        !s.noKey (s.anchor l)) (fun s =>
      (s.modLine l fun x => { x with hold := 0 }).moveLine l .beacon) s

/-! ### Handshake -/

/-- What a V-tail expects as P_H, and what it sends as P_T (R132). -/
def State.headProofAtTail (s : State) (l : Nat) : Option Nat :=
  let x := s.line l
  (s.pairKey (s.anchor l)).map fun k =>
    pairProof k 0x48 x.peerNonce x.nonce x.peerId Config.deviceId x.remoteLine
def State.tailProof (s : State) (l : Nat) : Nat :=
  let x := s.line l
  match s.pairKey (s.anchor l) with
  | some k =>
    if x.pairReq then pairProof k 0x54 x.nonce x.peerNonce Config.deviceId x.peerId x.remoteLine else 0
  | none => 0

/-- The tail takes the head's grid from the first OFFER (R22, R131). -/
def State.takeGrid (s : State) (l sfc : Nat) : State :=
  if (s.line l).remote.isSome then s
  else (s.modLine l fun x => { x with remote := some sfc }).regridPosts (ofLine l) sfc

/-- An OFFER at a tail (R125, R131, R132): its proof is checked where either end requires pairing. -/
def execOfferRx (l : Nat) (m : List Nat) (s : State) : Answer :=
  withSignal l s fun s =>
    when (s.isVTail l && decide ((s.line l).st = .handshake) && isMessage m 92 0x13) (fun s =>
      let s := s.takeGrid l (field m 34 4)
      let need := bit (m.getD 43 0) 0 || s.g PORT_SEC.PAIR_CTRL.REQUIRED (s.anchor l) == 1
      let rtt := field m 40 3
      let s := s.modLine l fun x =>
        { x with peerNonce := field m 2 32, remoteLine := m.getD 38 0 % 128, remoteSet := m.getD 39 0 % 4,
                 rttc := rtt, taC := rtt - 512, pairReq := need,
                 offerMask := (List.range 16).foldl (fun n i => n + m.getD (76 + i) 0 * 2 ^ (8 * i)) 0 }
      let s := s.wr LTRAIN.RANGE.RTTC rtt l
      if !need || s.headProofAtTail l == some (field m 44 32) then
        (s.modLine l fun x => { x with proofOk := true, offered := true }).send l
          ([0x14, 1] ++ msbBytes 32 (s.tailProof l) ++ [0, 0]) replyGap
      else (s.send l (abortBytes rsPairFail) replyGap).pairFailed l) s

/-- An OFFER that drew no ACCEPT is sent again every 8 ms (R129). -/
def execOfferRepeat (l : Nat) (s : State) : Answer :=
  withSignal l s fun s =>
    when (s.isVHead l && decide ((s.line l).st = .handshake) && !(s.line l).goSent)
      (·.sendOffer l) s

/-- Send GO (R130): it names its ranging block as it goes out. -/
def State.sendGo (s : State) (l : Nat) (gap : Nat := 0) : State :=
  let b := s.goBlockAfter gap
  (s.modLine l fun x => { x with goSent := true, goBlock := b }).send l
    ([0x15, 1] ++ msbBytes 4 (b % 2 ^ 32) ++ [0, 0]) gap

/-- An ACCEPT at the head (R124, R132, R133): GO, or ABORT with PAIR_FAIL. -/
def execAcceptRx (l : Nat) (m : List Nat) (s : State) : Answer :=
  withSignal l s fun s =>
    when (s.isVHead l && decide ((s.line l).st = .handshake) && (s.line l).offered &&
        isMessage m 36 0x14) (fun s =>
      let x := s.line l
      if x.pairReq && s.tailProofAtHead l != some (field m 2 32) then
        (s.send l (abortBytes rsPairFail) replyGap).pairFailed l
      else
        let s := (s.modLine l fun x => { x with proofOk := true, pairFails := 0 }).sendGo l replyGap
        let s := s.moveLine l .ranging 0
        if x.taC > 2 ^ 20 - 1 then s.quietLine l rsRangeLimit else s) s

/-- GO at a tail: RANGING with TA = TA_c (R125). -/
def execGoRx (l : Nat) (m : List Nat) (s : State) : Answer :=
  withSignal l s fun s =>
    when (s.isVTail l && isMessage m 8 0x15 && (s.line l).proofOk &&
        (decide ((s.line l).st = .handshake) || decide ((s.line l).st = .ranging))) (fun s =>
      let x := s.line l
      let ta := min (2 ^ 20 - 1) x.taC
      let s := s.modLine l fun x => { x with goSent := true, goBlock := field m 2 4, pairFails := 0 }
      (s.setTa l ta).moveLine l .ranging 0) s

/-- ABORT received (R124, R125): PAIR_FAIL counts as one of ours, any other is PEER_ABORT. -/
def execAbortRx (l : Nat) (m : List Nat) (s : State) : Answer :=
  withSignal l s fun s =>
    when (s.isV l && decide ((s.line l).st = .handshake) && isMessage m 4 0x1F) (fun s =>
      if m.getD 2 0 = rsPairFail then s.pairFailed l else s.quietLine l rsPeerAbort) s

/-- 40 ms since the ANSWER without GO (R124, R125). -/
def execHandshakeTimeout (l : Nat) (s : State) : Answer :=
  withTimer l s fun s =>
    when (decide ((s.line l).st = .handshake) && !(s.line l).goSent) (·.quietLine l rsHandshake) s

/-! ### Ranging -/

/-- Block 1 ended at the head (R124, R134): `found` pilots of 16, their average offset in 1/16 sample,
and whether 40 ms have passed since the ANSWER. -/
def execRangingBlockEnd (l found : Nat) (avg : Int) (late : Bool) (s : State) : Answer :=
  withSignal l s fun s =>
    when (s.isVHead l && decide ((s.line l).st = .ranging) && (s.line l).sub == 0) (fun s =>
      if found = 16 ∧ 0 ≤ avg ∧ avg ≤ 960 then
        let x := s.line l
        let corr := avg - 64
        let s := s.modLine l fun x =>
          { x with wantWord := some (0xA5, corr, 0), ta := ((x.taC : Int) + corr).toNat,
                   roundTrip := ((x.taC : Int) + avg).toNat }
        let s := (s.wr LTRAIN.RCORR.CORR (ofSigned 20 corr) l).moveLine l .ranging 1
        let p := s.anchor l
        let s := s.showRoundTrip p
        if s.portWaits p && x.goSent then s.queueJoin p else s
      else if found = 0 ∧ !late then s.sendGo l
      else s.quietLine l rsRangeFail) s

/-- No ranging decision 2 ms after the latest GO (R124). -/
def execRangingDecisionTimeout (l : Nat) (s : State) : Answer :=
  withTimer l s fun s =>
    when (s.isVHead l && decide ((s.line l).st = .ranging) && (s.line l).sub == 0)
      (·.quietLine l rsRangeFail) s

/-- A pilot word at a tail (R125, R135): RANGE_OK ends ranging, and sends a joining line back to
JOIN_WAIT; RETRAIN names P and corrects TA once for each distinct P. -/
def execPilotWordRx (l word : Nat) (s : State) : Answer :=
  withSignal l s fun s =>
    let x := s.line l
    match (if s.isVTail l then pilotWordFields (word % 2 ^ 64) else none) with
    | none => s
    | some (kind, corr, p) =>
      let s := s.wr LTRAIN.RCORR.CORR (ofSigned 20 corr) l
      if kind = 0xA5 ∧ x.st = .ranging ∧ x.sub = 0 then
        ((s.correctTa l x.taC corr).modLine l fun x => { x with pilots := false }).moveLine l .ranging 1
      else if x.st = .joining then
        (s.modLine l fun x => { x with pilots := false }).moveLine l .ranging 1
      else if kind = 0xC3 ∧ x.st = .retrain then
        let now := s.pageSfc .ltrain l
        let full := sfcAdd now ((p + 2 ^ 16 - now % 2 ^ 16) % 2 ^ 16)
        if x.lastP = some p then s
        else (s.correctTa l x.ta corr).modLine l fun x => { x with lastP := some p, rejoin := full, sub := 0 }
      else s

/-- No RANGE_OK word within 2 ms after block 1 (R125). -/
def execTailRangingTimeout (l : Nat) (s : State) : Answer :=
  withTimer l s fun s =>
    when (s.isVTail l && decide ((s.line l).st = .ranging) && (s.line l).sub == 0)
      (·.quietLine l rsRangeFail) s

/-- The first block of a pilot cycle is plain: the tail's join has started, and it is silent for the cycle
(R125, R136). -/
def execTailJoinDetect (l : Nat) (s : State) : Answer :=
  withSignal l s fun s =>
    when (s.isVTail l && decide ((s.line l).st = .ranging) && (s.line l).sub == 1) (fun s =>
      (s.modLine l fun x => { x with pilots := false }).moveLine l .joining 0) s

/-- TIMERS.JOINWAIT expired: the request is withdrawn (R124). -/
def execJoinwaitTimeout (l : Nat) (s : State) : Answer :=
  withTimer l s fun s =>
    when (s.isVHead l && decide ((s.line l).st = .ranging) && (s.line l).sub == 1)
      (·.quietLine l rsJoinWait) s

/-! ### Training and loading -/

/-- FEQ from the sums of the training symbols (R65). -/
def State.setTrainedFeq (s : State) (l : Nat) : State :=
  let x := s.line l
  let s := (tones.filter fun k => x.accDen.get 0 k != 0 && !s.trainMasked l k).foldl (fun s k =>
    s.setFeq l k (Cx.scale (1 / x.accDen.get 0 k) (x.accNum.get Cx.zero k))) s
  s.modLine l fun x => { x with accNum := [], accDen := [], accCount := 0 }

/-- The highest PGA code at which the superframe's samples would have kept an RMS of −14 dBFS, at half a dB a code (R140
step 2, R221; DEDUCED, log 63). -/
def State.settledPga (s : State) (l : Nat) : Nat :=
  let x := s.line l
  let now := s.g LAFE.CTRL.PGA l
  if x.adcCountSf = 0 ∨ x.adcSumSf = 0 then now
  else (clampInt 0 72 ((now : Int) + (-1400 - decibels 100 (x.adcSumSf / x.adcCountSf)) / 50)).toNat

/-- A boundary of TRAINING (R140): in T + 1, and in step 3 of a fast retrain, the PGA settles where PGA_AUTO is 1 (R221); at
T + 7 FEQ is set and the line measures. -/
def execTrainingStep (l : Nat) (s : State) : Answer :=
  withSignal l s fun s =>
    let x := s.line l
    let t := s.pageSfc .ltrain l
    if (x.st = .training ∧ t = sfcAdd x.trainStart 1) ∨
        (x.st = .retrain ∧ x.sub = 1 ∧ sfcFrom x.trainStart t ≤ 4) then
      when (s.g LAFE.CTRL.PGA_AUTO l == 1) (fun s => s.setPga l (s.settledPga l)) s
    else if x.st = .training ∧ x.sub = 0 ∧ sfcCome (sfcAdd x.trainStart 7) t then
      (s.setTrainedFeq l).modLine l fun x =>
        { x with sub := 1, ohBad := 0, rxFrame := [], errSum := [], errCount := [] }
    else s

/-- The tone groups a join's line must see landed: those with a tone the level vectors (R97, R140). -/
def State.groupsDone (s : State) (l : Nat) : Bool :=
  (List.range 8).all fun g => (s.landingTones g).isEmpty || (s.line l).groups.contains g

/-- The end condition of TRAINING at the head: LOADING, with the upstream table sent (R140 step 5, R143
step 1). -/
def execTrainingEnd (l : Nat) (s : State) : Answer :=
  withSignal l s fun s =>
    when (s.isVHead l && decide ((s.line l).st = .training) && (s.line l).snrReady)
      (fun s => (s.moveLine l .loading).authorTable l) s

/-- 40 ms in TRAINING (R124, R140 step 6). -/
def execTrainTimeout (l : Nat) (s : State) : Answer :=
  withTimer l s fun s => when (decide ((s.line l).st = .training)) (·.quietLine l rsTrain) s

/-- 4 ms in LOADING (R124). -/
def execLoadingTimeout (l : Nat) (s : State) : Answer :=
  withTimer l s fun s => when (decide ((s.line l).st = .loading)) (·.quietLine l rsLoad) s

/-! ### Retrain -/

/-- 16 consecutive superframes without a valid overhead word (R147). -/
def execOverheadLoss (l : Nat) (s : State) : Answer :=
  withSignal l s fun s =>
    when (s.isV l && decide ((s.line l).st = .showtime) && decide (17 ≤ (s.line l).ohBad))
      (·.retrainLine l rsOverhead) s

/-- An attempt of fast retrain ends (R149): counted, the line inactive again, the next begins at
step 2; RETRAIN words stop from the next block on. -/
def State.endAttempt (s : State) (l : Nat) : State :=
  let s := (s.bump LTRAIN.RETRAINS.FAIL l).leaveActive l
  s.modLine l fun x =>
    { x with sub := 0, wantWord := none, rejoin := 0, retrainStart := sfcAdd (s.pageSfc .ltrain l) (bnat (s.sym != 0)), newRx := none, newTx := none,
             sendSegs := [], loadSent := false, errSum := [], errCount := [] }

/-- Boundary P (R149 step 3): with the last 16 pilots averaging 0 to +8 samples (`avg` in 1/16 sample)
the line is active with its kept entries and trains; else the attempt ends.  A tail follows P. -/
def execRetrainRejoin (l : Nat) (avg : Int) (s : State) : Answer :=
  withSignal l s fun s =>
    let x := s.line l
    let t := s.pageSfc .ltrain l
    if x.st = .retrain ∧ x.sub = 0 ∧ x.rejoin ≠ 0 ∧ sfcCome x.rejoin t then
      if s.isVHead l && !decide (0 ≤ avg ∧ avg ≤ 128) then s.endAttempt l
      else
        s.modLine l fun x =>
          { x with sub := 1, wantWord := none, trainStart := t, accNum := [], accDen := [], accCount := 0,
                   errSum := [], errCount := [], active := s.isVHead l, dying := false, silent := false,
                   txMask := s.g LAFE.CTRL.TXMASK l }
    else s

/-- LLOAD takes the SNR of the tones measured, 1 over the mean of |e|², and a running line its smallest margin over the loaded
tones not under erasure; the sums start again (R25, R61, R65). -/
def State.showSnr (s : State) (l : Nat) : State :=
  let x := s.line l
  let s := (tones.filter fun k => x.errCount.get 0 k != 0).foldl (fun s k =>
    let sum := x.errSum.get 0 k
    let snr := if sum = 0 then 0xFFF else (clampInt 0 0xFFF (decibels 32 ((x.errCount.get 0 k : Nat) / sum))).toNat
    s.wr LLOAD.TONE.SNR snr l k) s
  let s := s.modLine l fun x => { x with errSum := [], errCount := [] }
  let ms := (tones.filter fun k => entryBits (x.rxTable.get 0 k) != 0 && !s.erased l k).map fun k =>
    toneMargin (s.g LLOAD.TONE.SNR l k) (entryBits (x.rxTable.get 0 k))
  match ms with
  | [] => s
  | m :: ms => if inData x.st then s.wr LLOAD.SUMMARY.MINMARGIN (clampInt 0 255 (ms.foldl min m / 16)).toNat l else s

/-- SNR_MIN and the watched tone; tones under erasure take no part (R25, R198). -/
def State.watchSnr (s : State) (l : Nat) : State :=
  let snr := fun k => s.g LLOAD.TONE.SNR l k
  let loaded := tones.filter fun k => entryBits ((s.line l).rxTable.get 0 k) != 0 && !s.erased l k
  let s := match loaded with
    | [] => s
    | k :: ks =>
      let m := ks.foldl (fun m j => if snr j < snr m then j else m) k
      (s.wr LMON.SNR_MIN.SNR (snr m) l).wr LMON.SNR_MIN.TONE m l
  let w := s.g LMON.SNR_WATCH.TONE l
  let v := s.g LLOAD.TONE.SNR l w
  if s.erased l w then s
  else
    let s := s.wr LMON.WATCH_MINMAX.MAX (max v (s.g LMON.WATCH_MINMAX.MAX l)) l
    s.wr LMON.WATCH_MINMAX.MIN (min v (s.g LMON.WATCH_MINMAX.MIN l)) l

/-- Loaded tones whose margin over training at g = 1.0 falls short of the target with their gains (R141, R149 step 5). -/
def State.shortTones (s : State) (l : Nat) : List Nat :=
  let m : Int := 16 * (s.marginTarget l : Nat)
  tones.filter fun k =>
    let e := (s.line l).rxTable.get 0 k
    entryBits e != 0 && decide (toneMargin (s.g LLOAD.TONE.SNR l k) (entryBits e) + gainLevel (entryGain e) < m)

/-- Superframe P + 21 at the head (R149 steps 4 and 5): the SNR of the 16 superframes, then both tables whole, the upstream
one reloaded where its SNR falls short, both under the mask and MAXBITS in effect (R61); one that cannot carry the overhead word
ends in LOW_SNR (R141). -/
def execRetrainLoadSend (l : Nat) (s : State) : Answer :=
  withSignal l s fun s =>
    let x := s.line l
    if s.isVHead l ∧ x.st = .retrain ∧ x.sub = 1 ∧ sfcCome (sfcAdd x.trainStart 21) s.sfc then
      let s := s.showSnr l
      let want := s.wantedMask l
      let t := s.remask l want (s.loadTable l (s.shortTones l) x.rxTable)
      let tx := s.remask l want x.txTable
      if !carriesOverhead t || !carriesOverhead tx then s.lowSnr l
      else s.modLine l fun x =>
        { x with sub := 2, loadSent := true, newRx := some ((x.rxId + 1) % 256, t),
                 newTx := some ((x.txId + 1) % 256, tx),
                 sendSegs := List.range 11 ++ (List.range 11).map (16 + ·) }
    else s

/-- Superframe P + 43, then every 8 superframes: the head proposes SHOWTIME_ENTRY for its retraining
lines (R149 step 6). -/
def execRetrainEntryPropose (p : Nat) (s : State) : Answer :=
  withPortTimer p s fun s =>
    let ls := (s.portLines p).filter fun l =>
      let x := s.line l
      decide (x.st = .retrain) && x.sub == 2 && sfcCome (sfcAdd x.trainStart 43) s.sfc
    when (s.isVHead p && !ls.isEmpty) (fun s => s.propose p (sfcAdd s.sfc 4) [.showtimeEntry ls]) s

/-- 8 ms without SHOWTIME: the attempt ends (R149). -/
def execRetrainAttemptTimeout (l : Nat) (s : State) : Answer :=
  withTimer l s fun s =>
    when (s.isVHead l && decide ((s.line l).st = .retrain)) (·.endAttempt l) s

/-- A head's line leaves RETRAIN for BEACON with its entries cleared (R104, R124, R152). -/
def State.giveUpRetrain (s : State) (l : Nat) : State :=
  let st := s.startOf l
  let s := (((s.noteReason l rsRetrainFail).leaveActive l).forgetAttempt l).modLine l fun x => { x with hold := st.2 }
  s.moveLine l st.1

/-- 1 s in RETRAIN (R124). -/
def execRetrainGiveUp (l : Nat) (s : State) : Answer :=
  withTimer l s fun s =>
    when (s.isVHead l && decide ((s.line l).st = .retrain)) (·.giveUpRetrain l) s

/-- A tail that lost the downstream pilots goes to QUIET and is silent (R125). -/
def State.tailLost (s : State) (l : Nat) : State :=
  let was := (s.line l).st
  let s := s.quietLine l rsLos
  if inData was then s.leftShowtime l else s

/-- The partner's expected signal absent for 2 ms (R124, R125, R147, R152). -/
def execLosDetect (l : Nat) (s : State) : Answer :=
  withSignal l s fun s =>
    let x := s.line l
    if s.isVTail l then
      when (inBringUp x.st || inData x.st || decide (x.st = .retrain)) (·.tailLost l) s
    else if s.isVHead l then
      match x.st with
      | .joining => if x.sub = 1 then s.quietLine l rsLos else s
      | .training | .loading => s.quietLine l rsLos
      | .showtime | .banked => s.retrainLine l rsLos
      | .retrain => s.giveUpRetrain l
      | _ => s
    else s

/-! ### Banked -/

/-- The head proposes Banked for a port whose lines are all in SHOWTIME (R150). -/
def State.proposeBank (s : State) (p : Nat) : State :=
  when (s.isV p && (s.portLines p).all fun l => decide ((s.line l).st = .showtime))
    (fun s => s.propose p (sfcAdd (s.portSfc p) 4) [.bank]) s

/-- No host block has passed for CTRL.AUTOBANK ms (R150). -/
def execAutobankExpire (p : Nat) (s : State) : Answer :=
  withPortTimer p s fun s => when (s.g LTRAIN.CTRL.AUTOBANK p != 0 && s.isVHead p) (·.proposeBank p) s

/-- Wake a Banked port from the next superframe on (R151). -/
def State.startWake (s : State) (p : Nat) : State :=
  when (s.isV p && s.isAnchor p && (s.port p).waking == 0 &&
      (s.portLines p).all fun l => decide ((s.line l).st = .banked)) (fun s =>
    let s := s.modPort p fun x => { x with waking := 1, wakeTries := 0, wakeSfc := sfcAdd (s.portSfc p) 1 }
    (s.portLines p).foldl (fun s l => s.modLine l fun x => { x with sub := 1 }) s) s

/-- No response in W + 1: the waker tries again, and the fourth failure retrains (R147, R151). -/
def execWakeNoResponse (p : Nat) (s : State) : Answer :=
  withPortTimer p s fun s =>
    let x := s.port p
    if x.waking = 1 ∧ sfcCome (sfcAdd x.wakeSfc 2) (s.portSfc p) then
      if x.wakeTries + 1 ≥ 4 then
        let s := s.endWake p
        (s.portLines p).foldl (fun s l => s.retrainLine l rsWake) s
      else s.modPort p fun x => { x with wakeTries := x.wakeTries + 1, wakeSfc := s.portSfc p }
    else s

/-- Superframe W + 2: data resumes with the tables and coefficients held (R151). -/
def execWakeResume (p : Nat) (s : State) : Answer :=
  withPortTimer p s fun s =>
    let x := s.port p
    if (x.waking = 2 ∨ x.waking = 3) ∧ sfcCome (sfcAdd x.wakeSfc 2) (s.portSfc p) then
      let s := (s.portLines p).foldl (fun s l =>
        when (decide ((s.line l).st = .banked)) (·.moveLine l .showtime 0) s) s
      (s.endWake p).refreshPort p
    else s

end Sys2Proof.Machine
end

