-- ==== Sys2Proof/Machine/Monitor.lean ====
section
/-! DEFINITION. The line monitor's rows (R183 to R199), the per-second counters (R197) and chirp
reflectometry (R200 to R209). -/

namespace Sys2Proof.Machine

/-! ### The monitor chain: what a write starts (R189, R191, R195, R197, R198) -/

/-- SYNCRST.ARM at its source: IMMEDIATE lands at once, another source waits (R189). -/
def State.armSync (s : State) (l src : Nat) : State :=
  if src = 0 then (s.modMon l fun x => { x with armed := none }).landSync l
  else s.modMon l fun x => { x with armed := some { src := src, sfc := s.sfc, sym := s.sym, sec := s.time.sec } }

def State.cancelSync (s : State) (l : Nat) : State := s.modMon l fun x => { x with armed := none }

/-- BANK.SWAP by the table of R191. -/
def State.swapBanks (s : State) (l : Nat) : State :=
  let x := s.monX l
  if x.bank = 0 then
    let s := s.wr LMON.CSTAT.LAST_SWAP 1 l
    if x.owner ≠ 0 ∨ s.chainPreset l = 4 then
      (s.modMon l fun x => { x with active := 1 - x.active }).pulse .lmon l 5
    else s.modMon l fun x => { x with active := 1 - x.active, bank := 1, fade := 0 }
  else if x.bank = 1 then (s.wr LMON.CSTAT.LAST_SWAP 2 l).modMon l fun x => { x with bank := 2 }
  else (s.wr LMON.CSTAT.LAST_SWAP 3 l).pulse .lmon l 6

/-- Taps of a bank can be written only while it is the inactive one in STEADY (R192). -/
def State.tapWritable (s : State) (l bank : Nat) : Bool := (s.monX l).bank == 0 && (s.monX l).active != bank

/-- CAP_CTRL.REQUEST: a capture is armed (R195). -/
def State.startCapture (s : State) (l : Nat) : State :=
  let n := s.g LMON.CAP_CTRL.COUNT l
  let c : Capture :=
    { trig := s.g LMON.CAP_CTRL.TRIG l, count := if n = 0 ∨ 512 < n then 512 else n }
  (s.beginResult .lmon l).modMon l fun x => { x with cap := some c }

/-- The counters that CNT_CTRL.CLEAR clears (R197). -/
def monCounters : List Fld :=
  [LMON.OHW_FAIL.COUNT, LMON.OHF_FAIL.COUNT, LMON.UAS_LINE.COUNT, LMON.CW_LO.COUNT, LMON.CW_HI.COUNT,
   LMON.CW_FIX_LO.COUNT, LMON.CW_FIX_HI.COUNT, LMON.CW_UNCORR.COUNT, LMON.ECB.COUNT,
   LMON.DTU_TX_LO.COUNT, LMON.DTU_TX_HI.COUNT, LMON.DTU_RTX.COUNT, LMON.DTU_RECOV.COUNT,
   LMON.DTU_LOST.COUNT, LMON.RTX_FULL.COUNT, LMON.ES.COUNT, LMON.SES.COUNT, LMON.UAS.COUNT]

/-- The port counters of the page: those after the line counters. -/
def portCounters : List Fld := monCounters.drop 3

def State.clearAll (s : State) (fs : List Fld) (l : Nat) : State := fs.foldl (fun s F => s.wr F 0 l) s

/-- SNR_WATCH starts again (R198): CLEAR and a new tone both restart the watched values. -/
def State.restartWatch (s : State) (l : Nat) : State :=
  (s.wr LMON.WATCH_MINMAX.MIN 0xFFF l).wr LMON.WATCH_MINMAX.MAX 0 l

/-- CNT_CTRL.CLEAR (R197, R198): EPOCH, a counter of the page too, goes to 0 with the others (R197 does not list it: DESIGN
CHOICE, log 107).  An increment of the clear's own cycle is the command after it, and leaves 1. -/
def State.clearCounters (s : State) (l : Nat) : State :=
  let s := (s.clearAll monCounters l).wr LMON.EPOCH.COUNT 0 l
  s.restartWatch l

/-! ### The monitor chain: events -/

/-- The moment of an armed reset, `elapsed` ns after its ARM (R189): the first symbol or superframe boundary 320 ns or more
later, or the next rollover of the POSTMARK seconds. -/
def State.syncMoment (s : State) (a : SyncArm) (elapsed : Nat) : Bool :=
  let boundary := s.clk.grid && decide (320 ≤ elapsed) && (s.sfc, s.sym) != (a.sfc, a.sym)
  match a.src with
  | 1 => boundary
  | 2 => boundary && s.sym == 0
  | _ => s.time.sec != a.sec && s.time.ns == 0

/-- The moment chosen by SYNCRST.SRC comes (R189). -/
def execSyncResetLand (l elapsed : Nat) (s : State) : Answer :=
  withSignal l s fun s =>
    match (s.monX l).armed with
    | some a =>
      when (s.chainOn l && s.syncMoment a elapsed)
        (fun s => (s.modMon l fun x => { x with armed := none }).landSync l) s
    | none => s

/-- The ADC samples up to the first output sample with VALID = 1 (R188). -/
def execMonitorSettled (l : Nat) (adc : List Int) (s : State) : Answer := withSignal l s fun s => s.feed l adc

/-- The ADC samples up to the 64th fade sample (R190, R191). -/
def execFadeDone (l : Nat) (adc : List Int) (s : State) : Answer := withSignal l s fun s => s.feed l adc

/-- The ADC samples up to a crossing of a detector's threshold (R193, R199). -/
def execDetectorOver (l : Nat) (adc : List Int) (s : State) : Answer := withSignal l s fun s => s.feed l adc

/-- The ADC samples up to the end of an RMS block (R193). -/
def execRmsBlockEnd (l : Nat) (adc : List Int) (s : State) : Answer := withSignal l s fun s => s.feed l adc

/-- The ADC samples up to the first one of a capture (R195). -/
def execCaptureTrigger (l : Nat) (adc : List Int) (s : State) : Answer := withSignal l s fun s => s.feed l adc

/-- The ADC samples up to the last one of a capture (R195). -/
def execCaptureDone (l : Nat) (adc : List Int) (s : State) : Answer := withSignal l s fun s => s.feed l adc

/-- TMO ms without the trigger (R196). -/
def execCaptureTimeout (l : Nat) (s : State) : Answer :=
  withTimer l s fun s =>
    match (s.monX l).cap with
    | some c => when (!c.started) (fun s => s.finishCapture l 1 []) s
    | none => s

/-! ### The seconds of POSTMARK (R197, R286) -/

/-- A line's second (R197). -/
def State.lineSecond (s : State) (l : Nat) : State :=
  let x := s.line l
  let up := x.st = .showtime || x.st = .banked
  let s := if s.isV l && !(x.upSec || up) then s.bump LMON.UAS_LINE.COUNT l else s
  s.modLine l fun x => { x with upSec := up }

/-- A port's second: ES, SES and UAS (R197). -/
def State.portSecond (s : State) (p : Nat) : State :=
  let t := (s.port p).tally
  let es := t.bad != 0 || t.lost != 0 || t.ecb != 0
  let ses := es && ((t.cw != 0 && decide (t.cw ≤ 100 * t.bad)) || (t.dtus != 0 && decide (t.dtus ≤ 100 * t.lost)))
  let s := if es then (s.bump LMON.ES.COUNT p).pulse .lmon p 7 else s
  let s := if ses then s.bump LMON.SES.COUNT p else s
  let up := (s.portLines p).any fun l =>
    (s.line l).upSec || (s.line l).st = .showtime || (s.line l).st = .banked
  let s := if up then s else s.bump LMON.UAS.COUNT p
  s.modPort p fun x => { x with tally := {} }

/-- The seconds roll over: PPS_OUT rises, every second is judged, a lockout's remaining seconds fall. -/
def execPostmarkSecond (s : State) : Answer :=
  let s := { s with time := { s.time with sec := (s.time.sec + 1) % 2 ^ 48, ns := 0, frac := 0, sub := 0,
                                          ppsOut := s.g TIMEBASE.CTRL.PPS_OUT_EN == 1 } }
  let s := (allLines.filter s.isAnchor).foldl (fun s p => s.portSecond p) s
  let s := allLines.foldl (fun s l => s.lineSecond l) s
  .next ((List.range 3).foldl (fun s c =>
    s.wr SESSION.STAT.LOCK_LEFT (s.g SESSION.STAT.LOCK_LEFT c - 1) c) s)

/-! ### Reflectometry (R200 to R209) -/

/-- The pair of a reflectometry run is reconnected: its first line chirp is due (R202 steps 5 and 6). -/
def State.pairBack (s : State) (l : Nat) : Bool :=
  match s.refl.find l with
  | some r =>
    let wrap := 2 ^ 32 * 10 ^ 9
    decide ((s.time.sec % 2 ^ 32 * 10 ^ 9 + s.time.ns + wrap - (r.sec * 10 ^ 9 + r.ns)) % wrap < wrap / 2)
  | none => true

/-- The calibration slot of a cluster (R228): the kind of its holder; a reflectometry run releases it with the pair's
reconnection (R202 step 5). -/
def State.slotKind (s : State) (c : Nat) : Nat :=
  let k := s.g CALMGR.SLOT.KIND 0 c
  if k = 3 ∧ s.pairBack (s.g CALMGR.SLOT.LINE 0 c) then 0 else k
def State.setSlot (s : State) (c kind l : Nat) : State :=
  (s.wr CALMGR.SLOT.KIND kind 0 c).wr CALMGR.SLOT.LINE l 0 c
/-- Release the slot where a line holds it. -/
def State.freeSlot (s : State) (l : Nat) : State :=
  let c := l / 32
  if s.slotKind c != 0 && s.g CALMGR.SLOT.LINE 0 c == l then s.setSlot c 0 0 else s

/-- A conflicting line of R201. -/
def State.conflicting (s : State) (l : Nat) : Bool :=
  allLines.any fun m => m != l && s.tag m == s.tag l && (s.isV m || s.mode m == 3) &&
    !((s.line m).st = .off || (s.line m).st = .quiet || (s.line m).st = .faulted)

/-- Every result word of LDIAG at 0 (R203). -/
def State.blankReflect (s : State) (l : Nat) : State :=
  (blockFields .ldiag).foldl (fun s F =>
    if F.acc = .ro then (List.range F.cnt).foldl (fun s j => s.wr F 0 l j) s else s) s

/-- A run, or a refused request, ends with a reason other than OK (R203, R209). -/
def State.endReflect (s : State) (l reason : Nat) : State :=
  let band := match s.refl.find l with
    | some r => if 4 ≤ r.step then r.band else 0
    | none => 0
  let s := if (s.refl.find l).isSome then s.freeSlot l else s
  let s := { s with refl := s.refl.erase l }
  let s := ((s.blankReflect l).wr LDIAG.RSTAT.REASON reason l).wr LDIAG.RSTAT.BAND band l
  ((s.landResult .ldiag l).pulse .ldiag l 1).refreshOwner l

/-- REQ.REFLECT (R201, R202 step 1). -/
def State.startReflect (s : State) (l : Nat) : State :=
  let b := s.g LDIAG.REQ.BAND l
  if (s.line l).st ≠ .diag then s.endReflect l 1
  else if b = 1 ∧ s.conflicting l then s.endReflect l 3
  else
    let band := if b = 1 then 1 else if b = 2 then 2 else if s.conflicting l then 2 else 1
    let s := s.beginResult .ldiag l
    let s := { s with refl := s.refl.put l (some { band := band, step := 2 }) }
    (s.refreshOwner l).startErasure (s.tag l)

/-- A run in progress is interrupted (R203). -/
def State.interruptReflect (s : State) (l : Nat) : State :=
  if (s.refl.find l).isSome then s.endReflect l 5 else s

/-- Step 2 passed and the slot obtained: the load is connected; the first line chirp follows the
reference by the times of R202. -/
def execReflectSlotGrant (l : Nat) (s : State) : Answer :=
  withLine l s fun s =>
    match s.refl.find l with
    | some r =>
      when (r.step == 2 && s.slotKind (l / 32) == 0) (fun s =>
        let at' := s.time.sec * 10 ^ 9 + s.time.ns + 2576000
        let r := { r with step := 4, ns := at' % 10 ^ 9, sec := at' / 10 ^ 9 % 2 ^ 32 }
        ({ s with refl := s.refl.put l (some r) }).setSlot (l / 32) 3 l) s
    | none => s

/-- No slot within 2 ms (R202 step 3). -/
def execReflectSlotTimeout (l : Nat) (s : State) : Answer :=
  withLine l s fun s =>
    when ((s.refl.find l).any (·.step == 2)) (fun s => s.endReflect l 4) s

/-- Insert by rising order of a key. -/
def insertBy {α : Type} (key : α → Rat) (x : α) : List α → List α
  | [] => [x]
  | a :: l => if key x < key a then x :: a :: l else a :: insertBy key x l

def sortBy {α : Type} (key : α → Rat) (l : List α) : List α := l.foldl (fun r x => insertBy key x r) []

/-- The noise floor: the median attenuation of bins 2 to 1,023 (R204). -/
def noiseOf (pts : List (Nat × Bool)) : Nat :=
  let v := sortBy (fun (n : Nat) => (n : Rat)) ((pts.drop 2).map (·.1))
  (v.getD 510 0 + v.getD 511 0) / 2

/-- A reflection: interpolated bin, attenuation, polarity. -/
abbrev Reflection := Rat × Nat × Bool

/-- The line's average less the reference's (R202 step 8). -/
def ownWindow (run : ReflectRun) : Window := List.zipWith (fun a b => (a.1 - b.1, a.2 - b.2)) run.line run.reference

/-- The chirps' power in 1/`unit` dBm (R208). -/
def State.chirpPower (s : State) (l unit : Nat) : Int := (unit : Int) * ((min 24 (s.g LDIAG.CFG.TXPWR l) : Nat) - 10 : Int)

/-- The profile (R202 step 8, R204): the line's average less the reference's, dechirped; each bin as attenuation in 1/256 dB
below the chirps' own power at the lands, and LOW_Z where its real part is negative against the phase of the reference's
strongest bin (DEDUCED, log 71). -/
def State.profileOf (s : State) (l : Nat) (run : ReflectRun) : List (Nat × Bool) :=
  let load := (dechirp 10 true run.reference).foldl (fun (m c : Cx) => if m.normSq < c.normSq then c else m) Cx.zero
  let sent : Rat := s.chirpPower l 256
  (dechirp 10 true (ownWindow run)).map fun (c : Cx) =>
    let level : Rat := (decibels 256 (c.normSq / 2 ^ 20) : Rat) + (s.fsRef l : Rat) * 256 / 100
    (if c.normSq = 0 then 0x7FFF else min 0x7FFF (roundRat (sent - level)).toNat, decide ((c.mul load.conj).re < 0))

/-- Where the maximum of bin i lies, in bins: at the sixteenth of a bin with the highest level, or at the place found by
interpolation where it is within 1/16 bin of that (R200). -/
def placeOf (own : Window) (fine : List (Nat × Rat)) (i : Nat) : Rat :=
  let level := fun (x : Nat) => (dechirpAt 10 own x).normSq
  let best := ((List.range 17).map (· + 16 * i - 8)).foldl (fun m x => if level m < level x then x else m) (16 * i)
  let x : Rat := (best : Rat) / 16
  match fine.find? fun f => f.1 == i with
  | some f => if x - 1 / 16 ≤ f.2 ∧ f.2 ≤ x + 1 / 16 then f.2 else x
  | none => x

/-- The reflections that qualify under R205, strongest first. -/
def reflections (points : List (Nat × Bool)) (place : Nat → Rat) (threshold : Nat) : List Reflection :=
  let att (i : Nat) : Nat := (points.getD i (0x7FFF, false)).1
  let noise := noiseOf points
  let hits := ((List.range 1022).map (· + 2)).filter fun (i : Nat) =>
    decide (att i < att (i - 1)) && (i == 1023 || decide (att i ≤ att (i + 1))) &&
      decide (att i + 2560 ≤ noise) && decide (att i < 256 * threshold)
  let all : List Reflection := hits.map fun (i : Nat) =>
    (place i, att i, (points.getD i (0, false)).2)
  (sortBy (fun (r : Reflection) => (r.2.1 : Rat)) all).foldl (fun kept r =>
    if kept.all fun k => decide (2 ≤ r.1 - k.1 ∨ 2 ≤ k.1 - r.1) then kept ++ [r] else kept) []

/-- Chirp bandwidth of a band in MHz (R200). -/
def bandMHz (band : Nat) : Rat := if band = 1 then 256 / 10 else 64 / 10

/-- A distance in 0.1 m of an interpolated bin (R200): beyond 16 bits the spec states none. -/
def distanceOf (band : Nat) (vf : Rat) (r : Rat) : Nat :=
  let d := (r / bandMHz band * vf * (299792458 / 1000000) / 2 * 10).floor.toNat
  if d < 2 ^ 16 then d else Config.freeWord d 0 % 2 ^ 16

/-- The chirp's sample at which it sweeps through 3.2, 6.4, 12.8 and 25.6 MHz, where that lies within the band (R156, R200,
R207). -/
def sweepAt (band i : Nat) : Option Nat :=
  if band = 1 then [112, 240, 496, 1008][i]? else if i < 2 then [448, 960][i]? else none

/-- The one-way loss in 0.1 dB from an end reflection gated in time: of the bins within the gate round its own, the level at
the moment the sweep passes a frequency (R207; the gate's width is not stated, nor a level of 0: log 84). -/
def State.endLoss (s : State) (l band : Nat) (own : Window) (stop : Option Reflection) (i : Nat) : Nat :=
  match stop, sweepAt band i with
  | some e, some n =>
    let b := (roundRat e.1).toNat
    let y := Cx.sum (((dechirp 10 true own).zipIdx.filter fun c => decide (c.2 ≤ b + Config.gateHalf ∧ b ≤ c.2 + Config.gateHalf)).map
      fun c => c.1.mul (unitRoot 1024 (c.2 * n % 1024)))
    if y.normSq = 0 then Config.freeWord b i % 2 ^ 16
    else ofSigned 16 ((s.chirpPower l 100 - decibels 100 (y.normSq / 2 ^ 20) - s.fsRef l + 10) / 20)
  | _, _ => 0xFFFF

/-- Two distances in 0.1 m differ by more than a band's accuracy (R200, R205): the larger one decides whether 400 m are passed
(the spec does not say which: DESIGN CHOICE, log 108). -/
def differs (band a b : Nat) : Bool :=
  let d := max a b - min a b
  let near := if band = 1 then 10 else 40
  let far := if band = 1 then 400 else 100
  decide ((if max a b ≤ 4000 then near else max a b / far) < d)

/-- A completed run's result (R202 steps 8 and 9, R204 to R207).  Distances are cut to 0.1 m, as in the worked example of
R210; levels and losses go to the nearest, a half upward (R205 and R207 state no rounding: DESIGN CHOICE, log 102).  The first
completed result, with none before it, leaves CHANGED low (DESIGN CHOICE, log 108). -/
def State.landReflect (s : State) (l : Nat) (r : ReflX) (run : ReflectRun) : State :=
  let points := s.profileOf l run
  let hits := reflections points (placeOf (ownWindow run) run.fine) (s.g LDIAG.CFG.FAULT_TH l)
  let list := sortBy (fun (x : Reflection) => x.1) (hits.take 8)
  let len := s.g LDIAG.REF_LEN.LEN l
  let cfg : Rat := (clampNat 400 990 (s.g LDIAG.CFG.VF l) : Nat) / 1000
  let own : Rat := match list.getLast? with
    | some e => if len = 0 ∨ e.1 = 0 then 0 else 2 * (len : Rat) / 10 / ((299792458 / 1000000) * (e.1 / bandMHz r.band))
    | none => 0
  let meas := decide (400 / 1000 ≤ own ∧ own ≤ 990 / 1000)
  let vf := if meas then own else cfg
  let dist := list.map fun x => distanceOf r.band vf x.1
  let stopAt := match list.getLast? with | some e => if e.2.2 then 2 else 1 | none => 0
  let s := s.blankReflect l
  let s := (s.wr LDIAG.RSTAT.BAND r.band l).wr LDIAG.RSTAT.END stopAt l
  let s := (s.wr LDIAG.RSTAT.VF_MEAS (bnat meas) l).wr LDIAG.RSTAT.MORE (bnat (8 < hits.length)) l
  let s := (s.wr LDIAG.RSTAT.COUNT list.length l).wr LDIAG.RSTAT.LENGTH (dist.getLastD 0xFFFF) l
  let s := s.wr LDIAG.VF_USED.VF ((vf * 1000 + 1 / 2).floor.toNat) l
  let s := s.wr LDIAG.NOISE.LEVEL (ofSigned 16 (-(noiseOf points : Int))) l
  let s := (list.zipIdx).foldl (fun s (x, i) =>
    (((s.wr LDIAG.FAULT.VALID 1 l i).wr LDIAG.FAULT.POLARITY (bnat x.2.2) l i).wr LDIAG.FAULT.LEVEL
      ((x.2.1 * 200 + 256) / 512) l i).wr LDIAG.FAULT.DIST (dist.getD i 0) l i) s
  let loss := s.endLoss l r.band (ownWindow run) list.getLast?
  let s := (s.wr LDIAG.IL0.IL_3M2 (loss 0) l).wr LDIAG.IL0.IL_6M4 (loss 1) l
  let s := (s.wr LDIAG.IL1.IL_12M8 (loss 2) l).wr LDIAG.IL1.IL_25M6 (loss 3) l
  let s := (s.wr LDIAG.RUN_NS.NS r.ns l).wr LDIAG.RUN_SEC.SEC r.sec l
  let pt (i : Nat) := points.getD i (0, false)
  let s := (List.range 512).foldl (fun s i =>
    (((s.wr LDIAG.PROFILE.ATT0 (min 0x7FFF (pt (2 * i)).1) l i).wr LDIAG.PROFILE.POL0 (bnat (pt (2 * i)).2) l i).wr
      LDIAG.PROFILE.ATT1 (min 0x7FFF (pt (2 * i + 1)).1) l i).wr LDIAG.PROFILE.POL1 (bnat (pt (2 * i + 1)).2) l i) s
  let changed := match (s.monX l).prev with
    | some (n, e, ds) => n != list.length || e != stopAt || (List.zipWith (differs r.band) ds dist).any id
    | none => false
  let s := s.modMon l fun x => { x with prev := some (list.length, stopAt, dist) }
  let s := (s.landResult .ldiag l).edges .ldiag l (1 + 4 * bnat changed)
  ({ s.freeSlot l with refl := s.refl.erase l }).refreshOwner l

/-- A run ends: by PARTNER_ACTIVE where the band power exceeds −70 dBm in step 2 or 7, by LOAD_FAIL once the slot was taken, or
completed (R202). -/
def execReflectDone (l reason : Nat) (run : ReflectRun) (s : State) : Answer :=
  withLine l s fun s =>
    match s.refl.find l with
    | some r =>
      if reason = 2 ∨ -700 < run.power then s.endReflect l 2
      else when (4 ≤ r.step) (fun s => if reason = 0 then s.landReflect l r run else s.endReflect l reason) s
    | none => s

end Sys2Proof.Machine
end

