-- ==== Sys2Proof/Machine/Cal.lean ====
section
/-! DEFINITION. Foreground calibration: due entries, the slot, runs, gaps, series and the gradual
application of new trims (R27, R212, R218, R223 to R237). -/

namespace Sys2Proof.Machine

/-! ### Due entries (R227) -/

/-- REFIN lies within its range (R225). -/
def State.refinOk (s : State) : Bool := s.g CALMGR.STAT.REFIN_OK == 1

/-- No run is in progress or proposed, no values are being applied and no HOLDOFF runs. -/
def CalX.free (x : CalX) : Bool := x.st == 0 || x.st == 1 || x.st == 2

/-- Give a line a due entry that arose at a moment, or merge the cause into the one it has; SOURCE shows
REQUEST if any request is among the causes, else the earliest cause (R227). -/
def State.markDue (s : State) (l source moment : Nat) (full : Bool) : State :=
  let s := s.modCal l fun x =>
    { x with due := some (x.due.getD (source, moment)), request := x.request || source == 2,
             full := x.full || full, st := if x.st = 0 then 1 else x.st }
  let x := s.calX l
  s.wr LAFE.CAL_STAT.SOURCE (if x.request then 2 else (x.due.getD (0, 0)).1) l

/-- The sensor's temperature differs from CAL_TEMP by more than DELTA_T (R227). -/
def State.tempMoved (s : State) (l : Nat) : Bool :=
  let d := toSigned 16 (s.g CTEMP.TEMP.TEMP (l / 32)) - toSigned 16 (s.g LAFE.CAL_TEMP.TEMP l)
  decide (16 * clampNat 2 32 (s.g CALMGR.CTRL.DELTA_T) < d.natAbs)

/-- The clusters that run: not gated in DOZE, and the device in RUN or DOZE (R227). -/
def State.clusterRuns (s : State) (c : Nat) : Bool :=
  decide (s.pwr.state ≤ 1) && !s.pwr.gated.contains c && !s.pwr.waking

/-- The triggers evaluated at a pilot-cycle boundary with TEMP_EN = 1 (R227): none in HOLDOFF or power-up. -/
def State.temperatureDue (s : State) : State :=
  let d := s.draw
  allLines.foldl (fun s l =>
    let x := s.calX l
    let factory := s.g LAFE.CAL_STAT.VALUES l == 0
    if x.powerup || x.st = 6 || x.due.isSome || !s.clusterRuns (l / 32) then s
    else if s.g CALMGR.CTRL.TEMP_EN == 1 && (factory || s.tempMoved l) then s.markDue l 1 d.1 false
    else s) d.2

/-- The pair-side threshold in 0.1 dBm (R237). -/
def State.partnerTh (s : State) : Int := 10 * clampInt (-70) (-20) (toSigned 8 (s.g CALMGR.CTRL.PARTNER_TH))

/-! ### The end of an attempt (R231, R232) -/

/-- The values a line runs on where its power-up series was given up (R218, R235): those of production
test. -/
def State.factoryValues (s : State) (l : Nat) : State :=
  let put := fun (F : Fld) (s : State) (j n : Nat) => s.wr F (bits (Config.factoryCal l n) F.lo F.w) l j
  let s := (List.range 67).foldl (fun s j =>
    put LAFE.SEG.POSITION (put LAFE.SEG.TRIM (put LAFE.SEG.ERROR s j j) j j) j j) s
  let s := (List.range 9).foldl (fun s j =>
    put LAFE.LADDER.TRIM (put LAFE.LADDER.ERROR s j (67 + j)) j (67 + j)) s
  let s := put LAFE.HYB.CAP (put LAFE.HYB.RES (put LAFE.HYB.ECHO_RL s 0 76) 0 76) 0 76
  put LAFE.GAIN.ADC_TRIM (put LAFE.GAIN.DAC_TRIM s 0 77) 0 77

/-- The fourth counted attempt of a series ended without new values (R232): HOLDOFF, which ends a power-up calibration too. -/
def State.giveUpCal (s : State) (l : Nat) : State :=
  let x := s.calX l
  let s := (s.bump LAFE.ABORTS.GAVE_UP l).pulse .lafe l 2
  let s := if x.loadFails = 4 then s.noteS1 0x11 (128 + l) 0 else s
  let s := if x.powerup then s.factoryValues l else s
  s.modCal l fun x =>
    { x with st := 6, due := none, request := false, full := false, powerup := false,
             onLoad := false, counted := 0, loadFails := 0, spacing := false }

/-- The ends that count as attempts of the series (R231). -/
def countedReason (r : Nat) : Bool := r == 1 || r == 2 || r == 3 || r == 6

/-- An attempt ends without new values: its result lands, the slot is released, and the series goes on or
is given up (R229, R231, R232). -/
def State.endCal (s : State) (l reason : Nat) : State :=
  let s := (s.wr LAFE.CAL_STAT.REASON reason l).bump LAFE.ABORTS.ATTEMPTS l
  let n := (s.calX l).counted + bnat (countedReason reason)
  let s := s.wr LAFE.CAL_STAT.ATTEMPT (n - 1) l
  let s := ((s.landResult .lafe l).pulse .lafe l 1).freeSlot l
  let s := s.modCal l fun x =>
    { x with st := 1, onLoad := x.powerup, counted := n, loadFails := x.loadFails + bnat (reason == 2),
             spacing := countedReason reason, cleared := reason == 4 }
  if reason = 7 then
    s.modCal l fun x =>
      let due := x.due.bind fun d => if d.1 = 2 then none else some d
      { x with due := due, request := false, full := false, st := if due.isSome then 1 else 0, counted := 0, loadFails := 0 }
  else if countedReason reason && 4 ≤ n then s.giveUpCal l
  else s

/-- What a run cut off had measured by then (R229 steps 1 and 3): PAIRPWR from 4 µs after its start and LOADDEV from 14 µs on, or
both; the values, which no command brings, are free within what did not end it. -/
def State.showMeasured (s : State) (l : Nat) (both : Bool) : State :=
  let d := s.draw
  let gone := s.time.sec * 10 ^ 9 + s.time.ns - (s.calX l).since
  let part := fun (i : Nat) (lo hi : Int) => ofSigned 16 (clampInt lo hi (toSigned 16 (Config.freeWord d.1 i % 2 ^ 16)))
  let s := if both || decide (4000 ≤ gone) then d.2.wr LAFE.PAIRPWR.DBM (part 0 (-32768) s.partnerTh) l else d.2
  if both || decide (14000 ≤ gone) then s.wr LAFE.LOADDEV.DEV (part 1 (-50) 50) l else s

/-- A run in progress is cut off (R229, R231). -/
def State.cutRun (s : State) (l reason : Nat) : State := (s.showMeasured l (reason == 3)).endCal l reason

/-- A run or a gap proposal in progress ends early (R231). -/
def State.stopCal (s : State) (l reason : Nat) : State :=
  let x := s.calX l
  if x.st = 4 then s.cutRun l reason
  else if x.st = 3 then
    let p := s.anchor l
    let mine := match (s.port p).neg with
      | some n => n.ours && n.changes.contains (.calGap l)
      | none => false
    (if mine then (s.abortNeg p).modPort p fun x => { x with sealCode := 4 } else s).endCal l reason
  else s

/-! ### Starting (R226, R228, R229) -/

/-- An attempt begins: BUSY, and KIND.  With REFIN out of range it ends at once; a FULL run on a line
that left OFF and DIAG is dropped (R225, R226, R235). -/
def State.beginCal (s : State) (l st : Nat) : State :=
  let x := s.calX l
  let s := (s.beginResult .lafe l).wr LAFE.CAL_STAT.KIND (bnat (x.full || x.powerup)) l
  if x.full && !x.powerup && s.mode l != 0 && s.mode l != 5 then s.endCal l 7
  else if !s.refinOk then s.endCal l 6
  else s.modCal l fun x => { x with st := st, onLoad := x.powerup || st == 4, since := s.time.sec * 10 ^ 9 + s.time.ns }

/-- The Reach line is between exchanges (R178). -/
def State.reachQuiet (s : State) (l : Nat) : Bool :=
  let x := s.reachX l
  x.tx.isNone && x.rx.isNone && x.await.isNone && x.again.isNone && x.repeats.isEmpty && !x.opening && x.acks.isEmpty &&
    x.alarms.isEmpty && s.g LREACH.STATUS.WINDOW l == 0

/-- The placement table allows a run on the line now (R230); in the interval after a BEACON and after a STANDARD line's burst
by the moment of the grant. -/
def State.calPlaced (s : State) (l : Nat) : Bool :=
  let st := (s.line l).st
  match st with
  | .off | .quiet => true
  | .diag => (s.refl.find l).isNone
  | .beacon => s.isVHead l && decide (7 ≤ s.g LTRAIN.TIMERS.BEACON_MS (s.anchor l)) && (s.reachX l).tx.isNone &&
      (s.reachX l).rx.isNone && !(s.reachX l).beaconOpen
  | .showtime => !(s.line l).frozen && (s.port (s.anchor l)).neg.isNone
  | .reach => s.reachQuiet l
  | .standard => s.g LSTD.STATUS.LINK (l / 4 * 4) == 0 && (s.reachX l).tx.isNone
  | _ => false

/-- The line may take the slot: due, free of spacing, application, HOLDOFF and a cleared run's wait. -/
def State.calReady (s : State) (l : Nat) : Bool :=
  let x := s.calX l
  x.due.isSome && x.free && !x.spacing && !x.cleared && !x.powerup

/-- The calibration slot of a cluster goes to the oldest due line that may run, the lower line on a tie;
the lines passed over wait (R228, R230).  A gap is proposed for 10 superframes ahead, so that the partner has the 8 of R27
step 2 to agree by the end of S − 2 (R40; DEDUCED, log 67). -/
def execCalSlotGrant (c : Nat) (s : State) : Answer :=
  match onCluster c s with
  | .next s =>
    if s.slotKind c != 0 || s.g CALMGR.STAT.TXCLR == 1 || s.fault.s3 || !s.clusterRuns c then .next s
    else
      let age := fun (l : Nat) => match (s.calX l).due with | some d => d.2 | none => 0
      let ls := sortBy (fun (l : Nat) => ((age l * 128 + l : Nat) : Rat)) ((clusterLines c).filter s.calReady)
      let s := ls.foldl (fun s l => s.modCal l fun x => { x with st := if x.st = 1 then 2 else x.st }) s
      match ls.find? s.calPlaced with
      | none => .next s
      | some l =>
        if (s.line l).st = .showtime then
          let s := s.beginCal l 3
          if (s.calX l).st = 3 then
            let p := s.anchor l
            .next ((s.setSlot c 2 l).propose p (sfcAdd (s.portSfc p) 10) [.calGap l])
          else .next s
        else
          let s := s.beginCal l 4
          .next (if (s.calX l).st = 4 then s.setSlot c 1 l else s)
  | o => o

/-- Gap proposals that are no longer open were refused or withdrawn (R27 step 2, R228, R231). -/
def State.sweepGaps (s : State) : State :=
  allLines.foldl (fun s l =>
    if (s.calX l).st = 3 && !(s.line l).frozen then
      match (s.port (s.anchor l)).neg with
      | some n => if n.ours && n.changes.contains (.calGap l) then s else s.endCal l 1
      | none => s.endCal l 1
    else s) s

/-! ### Requests (R227) -/

/-- CAL_REQ.REQUEST: a FULL request on a line outside OFF and DIAG completes at once with STATE (R226). -/
def State.requestCal (s : State) (l : Nat) : State :=
  let full := s.g LAFE.CAL_REQ.FULL l == 1
  if full && s.mode l != 0 && s.mode l != 5 then
    let s := (s.wr LAFE.CAL_STAT.REASON 7 l).bump LAFE.ABORTS.ATTEMPTS l
    ((s.beginResult .lafe l).landResult .lafe l).pulse .lafe l 1
  else
    let d := s.draw
    d.2.markDue l 2 d.1 full

/-- CTRL.REQ_ALL: every line due, by one moment (R227). -/
def State.requestAll (s : State) : State :=
  let d := s.draw
  allLines.foldl (fun s l => s.markDue l 2 d.1 false) d.2

/-! ### New values (R212, R223, R226, R234) -/

/-- One of the entries that tie, a choice the spec leaves open. -/
def pickOne (draw i : Nat) (l : List Nat) : Nat := l.getD (Config.freeWord draw i % l.length) (l.headD 0)

/-- The four spares of R212: the largest |e|, the higher j on a tie. -/
def spares (e : Nat → Int) : Nat → List Nat → List Nat
  | 0, _ => []
  | n + 1, js =>
    let m := (js.map fun j => (e j).natAbs).foldl max 0
    match (js.filter fun j => (e j).natAbs == m).getLast? with
    | some j => j :: spares e n (js.filter (· != j))
    | none => []

/-- The thermometer order of R212 over the segments left, with the sum of the residuals placed. -/
def orderSegments (r : Nat → Int) (draw : Nat) : Nat → Int → List Nat → List Nat
  | 0, _, _ => []
  | n + 1, sum, js =>
    let best := js.foldl (fun (m : Int) j => if 0 < sum then min m (r j) else max m (r j)) (r (js.headD 0))
    let j := pickOne draw n (js.filter fun j => r j == best)
    if js.isEmpty then [] else j :: orderSegments r draw n (sum + r j) (js.filter (· != j))

/-- The trim of a measured error, toward 0 within its six bits (R212, R213). -/
def trimOf (e : Int) : Int := clampInt (-32) 31 (-e)

/-- The trims of a line's ADC lanes, the skew trims within ±5 ps in steps of 50 fs (R224). -/
def laneTrims (ts : List (Int × Int × Int)) : List (Int × Int × Int) :=
  ts.map fun t => (t.1, t.2.1, clampInt (-100) 100 t.2.2)

/-- What a run writes: the segments in use in thermometer order, and every trim. -/
structure CalValues where
  order : List Nat
  seg : List Int
  ladder : List Int
  res : Nat
  cap : Nat
  dac : Int
  adc : Int

/-- The values a completed run finds (R212, R223, R226), and whether one of them was limited. -/
def State.calValues (s : State) (l : Nat) (full : Bool) (r : CalResult) : CalValues × State :=
  let e := fun (j : Nat) => r.seg.getD j 0
  let d := s.draw
  let order :=
    if full then
      let out := spares e 4 (List.range 67)
      let kept := (List.range 67).filter fun j => !out.contains j
      orderSegments (fun j => e j + trimOf (e j)) d.1 63 0 kept
    else
      ((List.range 63).map fun i =>
        ((List.range 67).find? fun j => s.g LAFE.SEG.POSITION l j == i + 1).getD 67).filter (· < 67)
  let near := fun (old new top : Nat) => if full then min top new else clampNat (old - 4) (min top (old + 4)) new
  ({ order := order
     seg := (List.range 67).map fun j => if order.contains j then trimOf (e j) else 0
     ladder := r.ladder.map trimOf
     res := near (s.g LAFE.HYB.RES l) r.res 63
     cap := near (s.g LAFE.HYB.CAP l) r.cap 63
     dac := clampInt (-300) 300 r.dac
     adc := clampInt (-300) 300 r.adc }, if full then d.2 else s)

/-- Some value of a run was limited or clamped (R212, R229 step 5). -/
def CalValues.limited (v : CalValues) (r : CalResult) : Bool :=
  (v.order.any fun j => v.seg.getD j 0 + r.seg.getD j 0 != 0) ||
    (List.zipWith (· + ·) v.ladder r.ladder).any (· != 0) || v.dac != r.dac || v.adc != r.adc ||
    decide (63 < r.res ∨ 63 < r.cap)

/-- The trims a line has in its registers, in one list. -/
def State.trims (s : State) (l : Nat) : List Int :=
  ((List.range 67).map fun j => toSigned 6 (s.g LAFE.SEG.TRIM l j)) ++
    ((List.range 9).map fun j => toSigned 6 (s.g LAFE.LADDER.TRIM l j)) ++
    [(s.g LAFE.HYB.RES l : Int), (s.g LAFE.HYB.CAP l : Int), toSigned 16 (s.g LAFE.GAIN.DAC_TRIM l),
     toSigned 16 (s.g LAFE.GAIN.ADC_TRIM l)]

/-- The readbacks take the values of a completed run. -/
def State.showCal (s : State) (l : Nat) (v : CalValues) (r : CalResult) : State :=
  let s := (List.range 67).foldl (fun s j =>
    let pos := match v.order.idxOf? j with | some i => i + 1 | none => 0
    ((s.wr LAFE.SEG.POSITION pos l j).wr LAFE.SEG.TRIM (ofSigned 6 (v.seg.getD j 0)) l j).wr LAFE.SEG.ERROR
      (ofSigned 16 (r.seg.getD j 0)) l j) s
  let s := (List.range 9).foldl (fun s j =>
    (s.wr LAFE.LADDER.TRIM (ofSigned 6 (v.ladder.getD j 0)) l j).wr LAFE.LADDER.ERROR
      (ofSigned 16 (r.ladder.getD j 0)) l j) s
  let s := ((s.wr LAFE.HYB.RES v.res l).wr LAFE.HYB.CAP v.cap l).wr LAFE.HYB.ECHO_RL (min r.echo 65535) l
  (s.wr LAFE.GAIN.DAC_TRIM (ofSigned 16 v.dac) l).wr LAFE.GAIN.ADC_TRIM (ofSigned 16 v.adc) l

/-- A completed run: step 6 and step 7 of R229. -/
def State.completeCal (s : State) (l : Nat) (r : CalResult) : State :=
  let x := s.calX l
  let full := x.full || x.powerup
  let old := s.trims l
  let v := s.calValues l full r
  let s := v.2.showCal l v.1 r
  let now := s.trims l
  let lim := v.1.limited r
  let s := (s.wr LAFE.CAL_STAT.REASON 0 l).wr LAFE.CAL_STAT.ATTEMPT x.counted l
  let s := (s.wr LAFE.CAL_STAT.VALUES 1 l).wr LAFE.CAL_STAT.DEGRADED (bnat lim) l
  let s := (s.cond .lafe l 4 lim).bump LAFE.CAL_COUNT.COUNT l
  let s := s.capture LAFE.CL0.NS LAFE.CL1.SEC LAFE.CL2.SECH LAFE.CL2.FRAC l
  let s := s.wr LAFE.CAL_TEMP.TEMP (s.g CTEMP.TEMP.TEMP (l / 32)) l
  let s := ((s.landResult .lafe l).pulse .lafe l 0).freeSlot l
  let s := v.1.order.foldl (fun s j =>
    if v.1.seg.getD j 0 + r.seg.getD j 0 = 0 then s else s.noteS1 0x10 (128 + l) j) s
  s.modCal l fun x =>
    { x with st := if full then 0 else 5, due := none, request := false, full := false, powerup := false,
             onLoad := false, counted := 0, loadFails := 0, applied := 0, applyHeld := !full && (s.line l).frozen,
             lanes := if full then laneTrims r.lanes else x.lanes,
             applyTo := if full then [] else old.zip now }

/-! ### Runs: events -/

/-- A line whose port left SHOWTIME during its gap retrains once it is reconnected (R147, R230). -/
def State.gapPeer (s : State) (l : Nat) : State :=
  let p := s.anchor l
  if (s.line l).frozen && s.width p != 1 &&
      !(s.portPeers l).any fun m => (s.line m).st = .showtime || (s.line m).st = .leaving then
    (s.modLine l fun x => { x with frozen := false }).retrainLine l rsGapPeer
  else s

/-- A run ends (R229): PAIRPWR and LOADDEV, then PARTNER_ACTIVE, LOAD_FAIL or the new values. -/
def execCalRunDone (l : Nat) (r : CalResult) (s : State) : Answer :=
  withLine l s fun s =>
    when ((s.calX l).st == 4) (fun s =>
      let s := s.wr LAFE.PAIRPWR.DBM (ofSigned 16 r.power) l
      if s.partnerTh < r.power then (s.endCal l 1).gapPeer l
      else
        let s := s.wr LAFE.LOADDEV.DEV (ofSigned 16 r.dev) l
        if s.partnerTh < r.peak then (s.endCal l 1).gapPeer l
        else if 50 < r.dev.natAbs || !r.isolated then (s.endCal l 2).gapPeer l
        else (s.completeCal l r).gapPeer l) s

/-- 2 ms from the start, or 104 µs from S in a gap, without step 6 (R229). -/
def execCalRunTimeout (l : Nat) (s : State) : Answer :=
  withLine l s fun s => when ((s.calX l).st == 4) (fun s => (s.cutRun l 3).gapPeer l) s

/-- The spacing after a counted attempt, or the 10 ms after TXCLR_N's release, has passed (R231, R232): in
the power-up calibration the next attempt starts. -/
def execCalRetryDue (l : Nat) (s : State) : Answer :=
  withLine l s fun s =>
    when (s.g CALMGR.STAT.TXCLR == 0 && !s.fault.s3) (fun s =>
      let s := s.modCal l fun x => { x with spacing := false, cleared := false }
      if (s.calX l).powerup && (s.calX l).st == 1 then s.beginCal l 4 else s) s

/-- 1 s of HOLDOFF has passed (R232): a request of the series is dropped, a later one waits, and the
triggers are evaluated afresh. -/
def execCalHoldoffEnd (l : Nat) (s : State) : Answer :=
  withTimer l s fun s =>
    when ((s.calX l).st == 6) (fun s =>
      let s := s.modCal l fun x => { x with st := if x.due.isSome then 1 else 0, loadFails := 0 }
      let d := s.draw
      if (s.calX l).due.isNone && s.clusterRuns (l / 32) &&
          (s.g LAFE.CAL_STAT.VALUES l == 0 || (s.g CALMGR.CTRL.TEMP_EN == 1 && s.tempMoved l)) then
        d.2.markDue l 1 d.1 false
      else s) s

/-- Step i of the application lands, whatever the line does; after a run in a gap the steps begin with its end.  The sixteenth
ends it (R234). -/
def execCalApplyStep (l : Nat) (s : State) : Answer :=
  withTimer l s fun s =>
    when ((s.calX l).st == 5 && !(s.calX l).applyHeld) (fun s =>
      let n := (s.calX l).applied + 1
      if n < 16 then s.modCal l fun x => { x with applied := n }
      else
        (s.modCal l fun x =>
          { x with applied := 0, applyTo := [], st := if x.due.isSome then 1 else 0 }).pulse .lafe l 3) s

/-- The trims in use while an application runs: old + round(i (new − old) / 16), a half upward (R234 says nothing of ties: DESIGN
CHOICE, log 102). -/
def CalX.inUse (x : CalX) : List Int :=
  x.applyTo.map fun (a, b) => a + (2 * (x.applied : Int) * (b - a) + 16) / 32

/-- Every line has left its power-up calibration: POWERUP_DONE (R218). -/
def execPowerupCalDone (s : State) : Answer :=
  if s.clk.calDone || allLines.any fun l => (s.calX l).powerup then .next s
  else .next ((s.modClk fun x => { x with calDone := true }).pulse .calmgr 0 0)

/-- The power-up calibration of a cluster's lines starts at CPLL lock, all at once (R218, R227). -/
def State.startPowerup (s : State) (c : Nat) : State :=
  let d := s.draw
  (clusterLines c).foldl (fun s l =>
    if (s.calX l).powerup && (s.calX l).due.isNone then
      let s := s.markDue l 0 d.1 true
      if s.g CALMGR.STAT.TXCLR == 1 || s.fault.s3 then s.modCal l fun x => { x with cleared := true }
      else s.beginCal l 4
    else s) d.2

/-! ### A partner heard, a port that drops (R125, R148, R230) -/

/-- A tail in QUIET hears a valid BEACON: HANDSHAKE, and an ANSWER with a fresh nonce (R125, R130).  During a
calibration run the BEACON ends that instead, with PARTNER_ACTIVE (R230). -/
def execBeaconRx (l : Nat) (m : List Nat) (s : State) : Answer :=
  withSignal l s fun s =>
    when (s.isVTail l && decide ((s.line l).st = .quiet) && isMessage m 24 0x11 &&
        !s.noKey (s.anchor l)) (fun s =>
      if (s.calX l).st = 4 then s.cutRun l 1
      else
      let d := s.draw
      let s := d.2.enterHandshake l
      let s := s.modLine l fun x =>
        { x with nonce := Config.random d.1, peerId := field m 2 8, remoteLine := m.getD 10 0 % 128,
                 remoteSet := m.getD 12 0 % 4, pairReq := bit (m.getD 12 0) 7 }
      let s := (s.wr LTRAIN.PARTNER_ID_LO.ID (field m 6 4) l).wr LTRAIN.PARTNER_ID_HI.ID (field m 2 4) l
      let s := s.wr LTRAIN.PARTNER.CAPS (m.getD 13 0 % 4) l
      s.send l ([0x12, 1] ++ msbBytes 8 Config.deviceId ++ [0x80, s.maxBits l % 16 + 48, 0, 0, 0, 0] ++
        msbBytes 32 (s.line l).nonce ++ List.replicate 8 0) replyGap) s

/-- No PORT_DROP landed within 32 superframes: every line of the port retrains (R148), one in a calibration gap
once it is reconnected (R230). -/
def execPortDropTimeout (p : Nat) (s : State) : Answer :=
  withPortTimer p s fun s =>
    match (s.port p).dropSince with
    | some t =>
      if sfcCome (sfcAdd t 32) (s.portSfc p) then
        let s := s.modPort p fun x => { x with dropLines := [], dropSince := none }
        (s.portLines p).foldl (fun s l =>
          when (decide ((s.line l).st = .showtime) && !(s.line l).frozen) (·.retrainLine l rsDropTimeout) s) s
      else s
    | none => s

/-! ### Gaps (R27) -/

/-- The open negotiation of ours that carries the gap of a line. -/
def State.gapNeg (s : State) (l : Nat) : Option Neg :=
  match (s.port (s.anchor l)).neg with
  | some n => if n.ours && n.changes.contains (.calGap l) then some n else none
  | none => none

/-- The partner did not agree within 8 superframes (R27 step 2). -/
def execCalGapAgreeTimeout (l : Nat) (s : State) : Answer :=
  withTimer l s fun s =>
    let p := s.anchor l
    match s.gapNeg l with
    | some n =>
      when (!n.agreed && !n.confirmed && (s.calX l).st == 3 && sfcCome (sfcAdd n.start 8) (s.portSfc p))
        (fun s => s.stopCal l 1) s
    | none => s

/-- Superframe S − 2 of an agreed gap: the port issues stamps for the gap loading (R27 step 3). -/
def execCalGapStampLower (l : Nat) (s : State) : Answer :=
  withTimer l s fun s =>
    let p := s.anchor l
    match (s.port p).neg with
    | some n =>
      when (n.changes.contains (.calGap l) && n.agreed && decide (sfcFrom (s.portSfc p) n.target ≤ 2)) (fun s =>
        let t := s.modLine l fun x => { x with frozen := true }
        s.modPort p fun x => { x with lowered := some (t.lineRate p) }) s
    | none => s

/-- Superframe S: the port is on its gap loading and, where the gap is ours, the run begins (R27 steps 4
and 5). -/
def execCalGapStart (l : Nat) (s : State) : Answer :=
  withTimer l s fun s =>
    when ((s.line l).frozen && (s.calX l).st == 3) (fun s =>
      if s.refinOk then
        s.modCal l fun x => { x with st := 4, onLoad := true, since := s.time.sec * 10 ^ 9 + s.time.ns }
      else s.endCal l 6) s

/-- Superframe S + 5: the line is back and the port on its previous loading, or the line retrains where the port left SHOWTIME
meanwhile (R27 step 7, R230). -/
def execCalGapEnd (l : Nat) (s : State) : Answer :=
  withTimer l s fun s =>
    let p := s.anchor l
    match (s.calX l).gap with
    | some t =>
      when ((s.line l).frozen && sfcCome (sfcAdd t 5) (s.portSfc p)) (fun s =>
        let s := (if (s.calX l).st = 4 then s.cutRun l 3 else s).gapPeer l
        let s := s.modCal l fun x => { x with gap := none, applyHeld := false }
        let s := s.modLine l fun x =>
          { x with frozen := false, ohBad := 0, sub := if x.st = .showtime then 0 else x.sub }
        ((s.modPort p fun x => { x with lowered := none }).refreshDegraded p).refreshPort p) s
    | none => s

end Sys2Proof.Machine
end

