-- ==== Sys2Proof/Machine/Lanes.lean ====
section
/-! DEFINITION. The Postline lanes: bring-up and loss (R251 to R254), loopbacks (R265), control blocks
(R256), stamps (R257, R258), host blocks and PAUSE (R259 to R261), HOSTSTAT (R263, R264) and the SYNC chain
(R268, R269). -/

namespace Sys2Proof.Machine

/-- A PLL is locked: 0 SPLL, 1 XPLL, 2 to 5 CPLL0 to 3, 6 LPLL. -/
def State.locked (s : State) (pll : Nat) : Bool := s.clk.locked.contains pll

/-- LANE.STATUS.STATE codes (R273). -/
def laneOff : Nat := 0
def laneDetect : Nat := 1
def laneTrain : Nat := 2
def laneLock : Nat := 3
def laneExchange : Nat := 4
def laneActive : Nat := 5
def laneLoop : Nat := 6

def State.laneState (s : State) (l : Nat) : Nat := s.g LANE.STATUS.STATE l

/-! ### Slots (R255, R256) -/

/-- The quad a lane carries. -/
def State.laneQuad (s : State) (l : Nat) : Nat :=
  ((List.range 8).map (8 * (l / 8) + ·)).find? (fun q => s.quadLane q == l) |>.getD (8 * (l / 8))

/-- The line of slot i of a lane. -/
def State.slotLine (s : State) (l i : Nat) : Nat := 4 * s.laneQuad l + i % 4

/-- The SORT block of a line's slot (R256). -/
def State.sortBlock (s : State) (line : Nat) : Block :=
  let p := s.anchor line
  let w := match s.width p with | 4 => 2 | 2 => 1 | _ => 0
  controlBlock 4 0 (p * 2 ^ 41 + w * 2 ^ 39 + (line - p) * 2 ^ 37 + s.mode line * 2 ^ 34 +
    bnat (s.ownHostUp p) * 2 ^ 33 + s.g PORT_CTL.HOSTSTAT.THRU_ACTIVE p * 2 ^ 32 +
    min 0xFFFF (mbps (s.issueRate p)) * 2 ^ 16)

/-- SORT blocks go out on every slot of a port; a fall of UP raises HOST_DOWN (R256, R272). -/
def State.sortPort (s : State) (p : Nat) : State :=
  let s := if (s.port p).sortUp && !s.ownHostUp p then s.pulse .port_ctl p 4 else s
  ((s.portLines p).foldl (fun s l => s.sendControl p 2 (s.sortBlock l)) s).modPort p fun x => { x with sortUp := s.ownHostUp p }

/-- SORT blocks go out on every slot of a lane. -/
def State.sortLane (s : State) (l : Nat) : State := (s.lanePorts l).foldl (fun s p => s.sortPort p) s

/-! ### States of a lane -/

/-- A quad in STANDARD mode loses its host lane: idle to the partner, at 2.5 Gb/s and above remote fault (R240). -/
def State.darkenStd (s : State) (p : Nat) : State :=
  if s.mode p = 3 then
    s.modStd p fun x => { x with out := [if 3 ≤ s.g LSTD.STATUS.SPEED p then remoteFault else idleBlock] }
  else s

/-- A block that the partner's PCS can carry: of the sequence ordered sets only the local and the remote fault (R240). -/
def stdCarries (b : Block) : Bool :=
  let fault := fun (i : Nat) => b.payload / 2 ^ i % 2 ^ 24 == 2 ^ 16 || b.payload / 2 ^ i % 2 ^ 24 == 2 * 2 ^ 16
  if b.sync = 1 then true
  else match b.payload % 256 with
    | 0x4B => fault 8
    | 0x2D => fault 40
    | 0x55 => fault 8 && fault 40
    | _ => true

/-- The blocks that wait go to the partner while the link is up and not in low-power idle (R240, R245). -/
def State.flushStd (s : State) (p : Nat) : State :=
  if s.mode p = 3 && s.g LSTD.STATUS.LINK p == 1 && s.g LSTD.STATUS.TX_LPI p == 0 && !(s.port p).ingress.isEmpty then
    (s.modStd p fun x => { x with out := (s.port p).ingress.filter stdCarries }).modPort p fun x => { x with ingress := [] }
  else s

/-- A port's stamp counts start at zero (R257). -/
def State.zeroStamps (s : State) (p : Nat) : State :=
  let s := (s.wr PORT_CTL.CUM.CUM 0 p).wr PORT_CTL.RXBLK_LO.N 0 p
  (s.wr PORT_CTL.RXBLK_HI.N 0 p).modPort p fun x => { x with inFrame := false, credit := 0 }

/-- What a lane sends in a state: PRBS31, idle with remote fault, its slots, or in LOOP FAR what it receives (R253, R262,
R265). -/
def laneSignalOf (st loop : Nat) : LaneSignal :=
  match st with
  | 2 => .prbs31 | 3 => .idleFault | 4 => .idleFault | 5 => .slots
  | 6 => if loop = 3 then .returned else .slots
  | _ => .quiet

/-- A lane changes state, with the events of R272 and R273. -/
def State.laneTo (s : State) (l st : Nat) : State :=
  let old := s.laneState l
  let s := (s.wr LANE.STATUS.STATE st l).modLane l fun x => { x with signal := laneSignalOf st x.loop, every := 0 }
  if st = old then s
  else
    let s := if old = laneActive then
        let s := ((s.wr LANE.STATUS.CAPS 0 l).wr LANE.STATUS.DEPTH 0 l).wr LANE.STATUS.LEGACY 0 l
        (s.lanePorts l).foldl (fun s p => (s.modPort p fun x =>
          { x with pauseOn := false, control := [], egressOpen := false }).darkenStd p)
          (s.pulse .lane l 1)
      else s
    let s := if st = laneActive then
        ((s.lanePorts l).foldl (fun s p => s.zeroStamps p)
          (s.edges .lane l (1 + 4 * s.g LANE.STATUS.LEGACY l))).sortLane l
      else s
    (s.lanePorts l).foldl (fun s p => (if s.ownHostUp p == (s.port p).sortUp then s else s.sortPort p).refreshFill p) s

/-- The lane is served: its page is enabled, LPLL has locked, it is not isolated, its cluster is not gated with it (R297, log 74),
and no stage of an entry has stopped it (R298). -/
def State.laneRuns (s : State) (l : Nat) : Bool :=
  s.enabled .lane l && s.locked 6 && !s.fault.isolated.contains (64 + l) && decide (s.pwr.state ≤ 1) &&
    !s.pwr.waking && decide (s.pwr.stage < 2) &&
    (!s.pwr.gated.contains (l / 8) || ((l == 0 || l == 16) && s.laneState l != laneOff))

/-- CTRL.LOOP: 4 to 7 are treated as 0 (R273). -/
def State.loopCode (s : State) (l : Nat) : Nat :=
  if 3 < s.g LANE.CTRL.LOOP l then 0 else s.g LANE.CTRL.LOOP l

/-- Bring-up starts at DETECT where the lane is served, in LOOP where it is in a loopback, else the lane is OFF (R253, R265). -/
def State.startLane (s : State) (l : Nat) : State :=
  let s := ((s.wr LANE.STATUS.CDR_LOCK 0 l).wr LANE.STATUS.LOS 0 l).wr LANE.STATUS.LOL 0 l
  let s := s.modLane l fun x => { x with loop := if s.laneRuns l then s.loopCode l else 0 }
  s.laneTo l (if !s.laneRuns l then laneOff else if s.loopCode l = 0 then laneDetect else laneLoop)

/-- The lane goes OFF (R298, R311). -/
def State.stopLane (s : State) (l : Nat) : State :=
  ((s.modLane l fun x => { x with loop := 0 }).wr LANE.STATUS.CDR_LOCK 0 l).laneTo l laneOff

/-- CTRL.RESTART (R273): DETECT, and the end of the lane's isolation. -/
def State.restartLane (s : State) (l : Nat) : State :=
  let s := s.modFault fun x => { x with isolated := x.isolated.filter (· != 64 + l) }
  (s.wr LANE.STATUS.LAST_REASON 4 l).startLane l

/-- A lane in DETECT or past it starts again at TRAIN with a new equaliser setting (R252, R253); one in a loopback stays in it
(R265). -/
def State.retrainLane (s : State) (l : Nat) : State :=
  if laneDetect ≤ s.laneState l ∧ s.laneState l ≤ laneActive then
    (s.wr LANE.STATUS.CDR_LOCK 0 l).laneTo l laneTrain
  else s

/-- CTRL.LOOP takes effect at once (R265). -/
def State.loopLane (s : State) (l : Nat) : State :=
  let c := s.loopCode l
  let old := (s.lane l).loop
  if c = old ∨ s.laneState l = laneOff then s
  else
    let s := s.modLane l fun x => { x with loop := c }
    if c = 0 then (s.wr LANE.STATUS.CDR_LOCK 0 l).laneTo l laneLock
    else
      let s := if s.laneState l = laneActive then s.wr LANE.STATUS.LAST_REASON 5 l else s
      s.laneTo l laneLoop

/-! ### Bring-up (R253) -/

/-- The test for far-end termination, every 100 µs. -/
def execLaneDetectProbe (l : Nat) (found : Bool) (s : State) : Answer :=
  withLane l s fun s => when (found && s.laneState l == laneDetect && s.laneRuns l) (·.laneTo l laneTrain) s

/-- 2 ms of PRBS31: its errors count, and do not stop the step. -/
def execLaneTrainEnd (l errors : Nat) (s : State) : Answer :=
  withLane l s fun s =>
    when (s.laneState l == laneTrain) (fun s =>
      let s := s.bump LANE.PRBS_ERR.COUNT l errors
      let s := if errors = 0 then s else s.pulse .lane l 10
      s.laneTo l laneLock) s

/-- The capabilities a lane offers: in-band management on lanes 0 and 16 only (R256). -/
def laneOffer (l : Nat) : Nat := if l = 0 ∨ l = 16 then 15 else 13

/-- The slot map of a lane (R256). -/
def State.slotMap (s : State) (l : Nat) : Nat :=
  ((List.range 4).map fun j => (32 + s.anchor (s.slotLine l j) % 32) * 2 ^ (6 * j)).sum

/-- An EXCHANGE block (R256): 0 OFFER, 1 ACCEPT, 2 CONFIRM. -/
def State.exchangeBlock (s : State) (l sub caps depth : Nat) : Block :=
  controlBlock 2 sub (caps * 2 ^ 40 + depth * 2 ^ 32 + s.slotMap l)

/-- What a lane sends outside its ports' streams. -/
def State.laneSends (s : State) (l : Nat) (bs : List Block) : State := s.modLane l fun x => { x with sent := bs }

/-- CDR lock and 64 valid sync headers: EXCHANGE, and the OFFER goes out every 10 µs; `ppm` is the received rate against LPLL in
0.1 ppm. -/
def execLaneLock (l : Nat) (ppm : Int) (s : State) : Answer :=
  withLane l s fun s =>
    when (s.laneState l == laneLock && s.locked 6) (fun s =>
      let s := ((s.wr LANE.STATUS.CDR_LOCK 1 l).wr LANE.STATUS.LOS 0 l).wr LANE.STATUS.LOL 0 l
      let s := (s.wr LANE.PPM.OFFSET (ofSigned 16 ppm) l).laneTo l laneExchange
      (s.laneSends l [s.exchangeBlock l 0 (laneOffer l) 16]).modLane l fun x => { x with every := 10000 }) s

/-- A valid ACCEPT names a subset of the capabilities, a depth of 1 to 16 and the slot map as offered: the
lane sends CONFIRM in 4 positions and is ACTIVE (R253). -/
def execExchangeAcceptRx (l content : Nat) (s : State) : Answer :=
  withLane l s fun s =>
    let caps := bits content 40 8
    let depth := bits content 32 8
    let good := caps &&& laneOffer l == caps && decide (1 ≤ depth ∧ depth ≤ 16) &&
      bits content 0 24 == s.slotMap l
    when (good && s.laneState l == laneExchange) (fun s =>
      let s := ((s.wr LANE.STATUS.CAPS caps l).wr LANE.STATUS.DEPTH depth l).wr LANE.STATUS.LEGACY 0 l
      (s.laneSends l (List.replicate 4 (s.exchangeBlock l 2 caps depth))).laneTo l laneActive) s

/-- No valid ACCEPT within 2 ms: legacy mode (R253, R260). -/
def execExchangeTimeout (l : Nat) (s : State) : Answer :=
  withLane l s fun s =>
    when (s.laneState l == laneExchange) (fun s =>
      let s := ((s.wr LANE.STATUS.CAPS 0 l).wr LANE.STATUS.DEPTH 0 l).wr LANE.STATUS.LEGACY 1 l
      s.laneTo l laneActive) s

/-! ### Loss (R254) -/

/-- An ACTIVE lane is lost, with a reason and a condition. -/
def State.loseLane (s : State) (l reason c : Nat) : State :=
  let s := (s.wr LANE.STATUS.LAST_REASON reason l).wr LANE.STATUS.CDR_LOCK 0 l
  (s.laneTo l laneLock).pulse .lane l c

/-- Amplitude below 50 mVppd for 1 µs. -/
def execLaneLos (l : Nat) (s : State) : Answer :=
  withLane l s fun s =>
    when (s.laneState l == laneActive)
      (fun s => ((s.bump LANE.LOS_COUNT.COUNT l).wr LANE.STATUS.LOS 1 l).loseLane l 1 8) s

/-- The CDR's offset beyond 300 ppm. -/
def execLaneLol (l : Nat) (s : State) : Answer :=
  withLane l s fun s =>
    when (s.laneState l == laneActive)
      (fun s => ((s.bump LANE.LOL_COUNT.COUNT l).wr LANE.STATUS.LOL 1 l).loseLane l 2 9) s

/-- 16 invalid sync headers within 64 blocks, those counted as they came among them: reported as LOL with reason HDR (R254, R273). -/
def execBlockLockLoss (l : Nat) (s : State) : Answer :=
  withLane l s fun s =>
    when (s.laneState l == laneActive) (fun s =>
      let seen := (s.lane l).headers.countP id
      let s := (s.bump LANE.HDR_ERR.COUNT l (16 - seen)).bump LANE.LOL_COUNT.COUNT l
      let s := s.modLane l fun x => { x with headers := [] }
      (s.wr LANE.STATUS.LOL 1 l).loseLane l 3 9) s

/-- An AM block goes out outside the slots, its marker count advances, and a SORT block follows in every
slot (R256). -/
def execAmBlock (l : Nat) (s : State) : Answer :=
  withLane l s fun s =>
    let st := s.laneState l
    when (s.g LANE.STATUS.LEGACY l == 0 && decide (laneTrain ≤ st ∧ st ≤ laneActive)) (fun s =>
      let n := ((s.lane l).markers + 1) % 2 ^ 16
      let s := s.modLane l fun x => { x with markers := n }
      let s := s.laneSends l [controlBlock 1 0 (l * 2 ^ 43 + n * 2 ^ 24)]
      if st = laneActive then s.sortLane l else s) s

/-! ### Stamps (R257, R258) -/

/-- Stamps run on the port: its lane is ACTIVE with the capability accepted, and it is not through-connected
(R256, R266), nor is the device in the safe state (R312). -/
def State.stampsOn (s : State) (p : Nat) : Bool :=
  let l := s.portLane p
  !s.fault.s3 && s.laneState l == laneActive && s.g LANE.STATUS.LEGACY l == 0 && bit (s.g LANE.STATUS.CAPS l) 0 &&
    s.g PORT_CTL.HOSTSTAT.THRU_ACTIVE p == 0 && s.isAnchor p

/-- The STAMP block of a port. -/
def State.sendStamp (s : State) (p : Nat) : State :=
  s.sendControl p 0 (controlBlock 3 0 (p * 2 ^ 41 + bnat (s.issueRate p = 0) * 2 ^ 40 +
    s.g LANE.STATUS.DEPTH (s.portLane p) * 2 ^ 32 + s.g PORT_CTL.CUM.CUM p))

/-- The accumulator holds 32 blocks of credit: a stamp of them is granted within DEPTH (R257). -/
def State.grantStamp (s : State) (p : Nat) : State :=
  if s.stampsOn p && decide (0 < s.issueRate p) && decide (32 ≤ (s.port p).credit) &&
      decide (s.stampOwed p < (32 * s.g LANE.STATUS.DEPTH (s.portLane p) : Nat)) then
    ((s.modPort p fun x => { x with credit := x.credit - 32 }).wr PORT_CTL.CUM.CUM (s.g PORT_CTL.CUM.CUM p + 1) p).sendStamp p
  else s

/-- The rate of issue brought 32 blocks of credit (log 86): an accumulator that holds a full stamp which could not be granted
gains nothing (R258). -/
def execStampGrant (p : Nat) (s : State) : Answer :=
  withPort p s fun s => when (s.stampsOn p && decide (0 < s.issueRate p)) (fun s =>
    (s.modPort p fun x => { x with credit := if x.credit < 32 then x.credit + 32 else x.credit }).grantStamp p) s

/-- The latest STAMP is sent again, with STOP while issue is stopped (R257, R258). -/
def execStampResend (p : Nat) (s : State) : Answer :=
  withPort p s fun s => when (s.stampsOn p) (·.sendStamp p) s

/-! ### Host blocks (R255 to R261) -/

/-- PAUSE frames are generated on the port (R261). -/
def State.pauses (s : State) (p : Nat) : Bool :=
  match s.g PORT_CTL.HOSTCFG.PAUSE p with
  | 1 => true | 2 => false
  | _ => s.g LANE.STATUS.LEGACY (s.portLane p) == 1

/-- Insert a PAUSE frame with quanta between the port's frames toward the host. -/
def State.sendPause (s : State) (p quanta : Nat) : State :=
  let sa := s.g SORTING.PAUSE_SA_HI.SA * 2 ^ 32 + s.g SORTING.PAUSE_SA_LO.SA
  (s.modPort p fun x => x.between (frameBlocks (pauseFrame sa quanta))).bump
    PORT_CTL.PAUSE_TX.COUNT p

/-- The ingress buffer reached half full: PAUSE, with PAUSE_XOFF. -/
def State.checkPause (s : State) (p : Nat) : State :=
  if s.pauses p && s.hostUp p && !(s.port p).pauseOn &&
      decide (s.ingressRoom p ≤ 2 * (s.port p).ingress.length) then
    ((s.modPort p fun x => { x with pauseOn := true }).sendPause p 0xFFFF).pulse .port_ctl p 9
  else s

/-- Every 200 µs while the buffer stays above one quarter (R261). -/
def execPauseRepeat (p : Nat) (s : State) : Answer :=
  withPort p s fun s =>
    when ((s.port p).pauseOn && decide (s.ingressRoom p < 4 * (s.port p).ingress.length))
      (·.sendPause p 0xFFFF) s

/-- The buffer fell to one quarter (R261). -/
def execPauseXon (p : Nat) (s : State) : Answer :=
  withPort p s fun s =>
    when ((s.port p).pauseOn && decide (4 * (s.port p).ingress.length ≤ s.ingressRoom p))
      (fun s => (s.modPort p fun x => { x with pauseOn := false }).sendPause p 0) s

/-- A control block from the host (R256): its kind must be one the host may send here, outside a frame. -/
def State.hostControl (s : State) (l p : Nat) (b : Block) : State :=
  let kind := b.payload / 2 ^ 12 % 16
  let ok := s.g LANE.STATUS.LEGACY l == 0 && (kind == 1 ||
    ((kind == 5 || kind == 6) && (l == 0 || l == 16) && bit (s.g LANE.STATUS.CAPS l) 1 && !(s.port p).inFrame))
  if ok then s else s.bump LANE.CTL_DISCARD.COUNT l

/-- A counting block: counted, held against the credit, and taken; with AUTOWAKE it wakes a Banked port (R151, R257,
R259). -/
def State.countBlock (s : State) (p : Nat) (b : Block) : State :=
  let beyond := s.stampsOn p && decide (s.stampOwed p ≤ 0)
  let s := s.bump64 PORT_CTL.RXBLK_LO.N PORT_CTL.RXBLK_HI.N p
  let s := if beyond then (s.bump PORT_CTL.STAMP_OVER.COUNT p).pulse .port_ctl p 6 else s
  if s.mode p = 4 then s
  else
    let s := (s.fromHost p b).flushStd p
    let s := s.grantStamp p
    let s := if s.g LTRAIN.CTRL.AUTOWAKE p = 1 then s.startWake p else s
    s.checkPause p

/-- A block received on a slot: of an ACTIVE lane it belongs to its port, with an invalid sync header counted (R273); in LOOP FAR it
returns on PTX (R265). -/
def execHostBlockRx (l slot sync payload : Nat) (s : State) : Answer :=
  withLane l s fun s =>
    let b : Block := ⟨sync, payload⟩
    let bad := sync != 1 && sync != 2
    let s := s.modLane l fun x => { x with headers := (bad :: x.headers).take 64 }
    let s := if bad && s.laneState l == laneActive then s.bump LANE.HDR_ERR.COUNT l else s
    let p := s.anchor (s.slotLine l (if s.g LANE.STATUS.LEGACY l = 1 then 0 else slot))
    if s.laneState l ≠ laneActive then
      (if (s.lane l).signal = .returned then s.laneSends l [b] else s)
    else if sync = 2 ∧ payload % 256 = 0x5A then s.hostControl l p b
    else if b = idleBlock then s
    else
      let s := s.modPort p fun x => { x with inFrame := (x.inFrame || isStart b) && !isTerminate b }
      if !s.hostUp p || s.g PORT_CTL.HOSTSTAT.THRU_ACTIVE p == 1 then s.bump PORT_CTL.INGRESS_DROP.COUNT p
      else s.countBlock p b

/-! ### HOSTSTAT (R263, R264) -/

/-- After a change of its fields a HOSTSTAT goes out in each of the 4 superframes that follow (R263), and a SORT block in
every slot of the port after a change of UP (R256). -/
def State.noteStat (s : State) (p : Nat) : State :=
  let own := s.hostStat p
  let s := if own ≠ (s.port p).lastStat then s.modPort p fun x => { x with hostDue := 4, lastStat := own } else s
  if s.ownHostUp p == (s.port p).sortUp then s else s.sortPort p

/-- HOSTSTAT falls due: every 16 superframes, and in the 4 superframes after a change (R263). -/
def execHoststatSend (p : Nat) (s : State) : Answer :=
  withPort p s fun s =>
    when (s.isV p && s.isAnchor p)
      (fun s => (s.modPort p fun x => { x with hostDue := max 1 x.hostDue }).noteStat p) s

/-- The partner's state changes: PEER_HOST_DOWN on a fall; the ports connected through to this one show
it onward, and SORT follows. -/
def State.takePeer (s : State) (p up onward hops : Nat) : State :=
  let old := s.g PORT_CTL.HOSTSTAT.PEER_UP p
  let s := (s.wr PORT_CTL.HOSTSTAT.PEER_UP up p).wr PORT_CTL.HOSTSTAT.ONWARD onward p
  let s := (s.wr PORT_CTL.HOSTSTAT.HOPS hops p).modPort p fun x => { x with statSince := none }
  let s := if old = 1 ∧ up = 0 then s.pulse .port_ctl p 5 else s
  (if s.g PORT_CTL.HOSTSTAT.THRU_ACTIVE p = 1 then s.noteStat (s.g PORT_CTL.HOSTCFG.PEER p) else s).refreshFill p

/-- A HOSTSTAT message (R263, R264): HOST_UP = 0 implies ONWARD = 0. -/
def execHoststatRx (p : Nat) (m : List Nat) (s : State) : Answer :=
  withPortTimer p s fun s =>
    let up := m.getD 0 0 % 2
    when (s.isV p && s.isAnchor p)
      (fun s => s.takePeer p up (if up = 0 then 0 else m.getD 1 0 * 256 + m.getD 2 0) (m.getD 3 0)) s

/-- No HOSTSTAT within 256 superframes of SHOWTIME entry (R264). -/
def execHoststatTimeout (p : Nat) (s : State) : Answer :=
  withPortTimer p s fun s =>
    match (s.port p).statSince with
    | some t => when (sfcCome (sfcAdd t 256) (s.portSfc p)) (fun s => s.takePeer p 1 0xFFFF 0) s
    | none => s

/-! ### The SYNC chain (R268, R269) -/

/-- SYNC.CTRL.MODE: 3 is treated as 2. -/
def State.syncFollows (s : State) : Bool := s.g SYNC.CTRL.MODE == 1

/-- Some local V-head line is in a state from HANDSHAKE to LEAVING (R269). -/
def State.gridInUse (s : State) : Bool :=
  allLines.any fun l => s.isVHead l && match (s.line l).st with
    | .handshake | .ranging | .joining | .training | .loading | .showtime | .banked | .retrain | .leaving => true
    | _ => false

/-- A SYNC condition rises with its bit. -/
def State.syncBit (s : State) (F : Fld) (c v : Nat) : State := (s.wr F v).cond .sync 0 c (v == 1)

/-- The posts of pages that count the local grid (R22, R39). -/
def State.localPost (s : State) (x : Post) : Bool :=
  match x.page with
  | .lctl | .ltrain | .lload | .lmon | .lreach | .ldiag | .lafe | .lstd => !s.isVTail x.inst
  | _ => true

/-- The bits of a frame of SYNC_IN with one more mark's high time, and the SFC of the superframe that a mark announces where it
begins the next frame after a complete one (R268, R269). -/
def syncMark (bs : Option (List Bool)) (high : Nat) : Option (List Bool) × Option Nat :=
  if high = 512 then
    (some [], (bs.filter fun x => x.length == 63).map fun x => (ofMsb (x.take 48) + 64) % 2 ^ 48)
  else if high = 64 ∨ high = 192 then ((bs.filter fun x => decide (x.length < 63)).map (· ++ [high == 192]), none)
  else (none, none)

/-- The superframe and the symbol of the grid at a mark whose superframe begins IN_DELAY samples later (R269). -/
def State.syncPoint (s : State) (sfc : Nat) : Nat × Nat :=
  let back := ceilDiv (s.g SYNC.CTRL.IN_DELAY) 576
  if back = 0 then (sfc, 0) else (sfcAdd sfc (2 ^ 48 - 1), 64 - back)

/-- A frame of the chain is complete, and its mark announces a superframe (R269): adopted while the grid is free, else it must
match. -/
def State.syncFrame (s : State) (sfc : Nat) : State :=
  let at' := s.syncPoint sfc
  if s.g SYNC.STAT.LOCKED = 0 then
    if s.gridInUse then s.syncBit SYNC.STAT.MISMATCH 1 1
    else
      let s := { s with sfc := at'.1, sym := at'.2 }
      let s := s.regridPosts s.localPost at'.1
      (s.syncBit SYNC.STAT.LOCKED 0 1).syncBit SYNC.STAT.MISMATCH 1 0
  else if at'.1 = s.sfc then s
  else s.syncBit SYNC.STAT.MISMATCH 1 1

/-- A mark of SYNC_IN: `edge` is its rise after the nearest superframe boundary at the lands in 1/16 sample, expected IN_DELAY
samples before it; `high` its high time in samples (R269). -/
def execSyncInEdge (edge : Int) (high : Nat) (s : State) : Answer :=
  if !s.syncFollows then .next s
  else
    let offset := edge + 16 * (s.g SYNC.CTRL.IN_DELAY : Int)
    let m := syncMark s.ev.syncBits high
    let s : State := { s with ev := { s.ev with syncBits := m.1 } }
    let s := s.wr SYNC.STAT.OFFSET (ofSigned 16 (clampInt (-32768) 32767 offset))
    let off := decide (32 < offset.natAbs)
    let n := if off && s.g SYNC.STAT.LOCKED == 1 then s.ev.syncOff + 1 else 0
    let s := { s with ev := { s.ev with syncOff := n } }
    let s := if off then s else s.syncBit SYNC.STAT.LOST 2 0
    let s := if 16 ≤ n then s.syncBit SYNC.STAT.MISMATCH 1 1 else s
    .next (match m.2 with
      | some f => s.syncFrame f
      | none => s)

/-- No edge for 4 superframes (R269); LOCKED stays while the chain is only lost (DEDUCED, log 72). -/
def execSyncLost (s : State) : Answer :=
  if s.syncFollows then .next (s.syncBit SYNC.STAT.LOST 2 1) else .next s

/-- The trim loop holds its code once its source is lost (R275). -/
def State.holdTrim (s : State) (src : Nat) : State :=
  if s.g HEARTH.TRIM.SRC = src ∧ (s.clk.trimState = 1 ∨ s.clk.trimState = 2) then
    (s.modClk fun x => { x with trimState := 3 }).pulse .hearth 0 3
  else s

/-- SYNC.CTRL.MODE is written: outside FOLLOW nothing is followed. -/
def State.syncMode (s : State) : State :=
  if s.syncFollows then s
  else
    let s := (s.syncBit SYNC.STAT.LOCKED 0 0).syncBit SYNC.STAT.MISMATCH 1 0
    ({ s.syncBit SYNC.STAT.LOST 2 0 with ev := { s.ev with syncOff := 0, syncBits := none } } : State).holdTrim 2

end Sys2Proof.Machine
end

