-- ==== Sys2Proof/Machine/Isolation.lean ====
section
/-! DEFINITION. The reactions of the fault manager (R310 to R312, R317, R319): isolating a line, a lane, a
cluster or a device unit, the safe state, the emergency change of level (R111, R294), and what ends when
Stoker restarts (R282). -/

namespace Sys2Proof.Machine

/-! ### Stoker and the letterbox (R50, R281, R282) -/

/-- Letterbox status codes (R50). -/
def lbOk : Nat := 0
def lbBadOpcode : Nat := 1
def lbBadLength : Nat := 2
def lbDenied : Nat := 3
def lbSequence : Nat := 4
def lbVerifyFail : Nat := 5
def lbLeaseExpired : Nat := 6
def lbAborted : Nat := 7

/-- A letterbox command ends: response, tag and status land together (R48, R50); every landing, of LEASE_EXPIRED, DENIED
and ABORTED too, sets LAST_TAG and raises condition 0 (DESIGN CHOICE, log 68). -/
def State.landLetterbox (s : State) (c tag status : Nat) (resp : List Nat) : State :=
  let s := s.modMgmt fun m => { m with lbCommands := m.lbCommands.filter fun x => x.ch != c }
  let s := (s.wrWords LETTERBOX.RESP.W c resp).wr LETTERBOX.LB_STAT.RESP_LEN resp.length c
  let s := (s.wr LETTERBOX.LB_STAT.LAST_TAG tag c).wr LETTERBOX.LB_STAT.STATUS status c
  ((s.landResult .letterbox c).wr LETTERBOX.LB_STAT.BUSY 0 c).pulse .letterbox c 0

/-- The letterbox commands in progress end with ABORTED. -/
def State.abortLetterbox (s : State) : State :=
  s.mgmt.lbCommands.foldl (fun s x => s.landLetterbox x.ch x.tag lbAborted []) s

/-- Stoker restarts from its verified image (R282): commands ABORTED, the frame logic and FREQMON idle. -/
def State.restartStoker (s : State) : State :=
  let s := s.abortLetterbox
  let s := s.modMgmt fun m => { m with mdioHold := 0 }
  let s := s.modClk fun x => { x with fm := none }
  (s.wr (HDR.PAGE_STAT.BUSY .clocks) 0 0).wr (HDR.RESULT_SEQ.STALE .clocks) 0 0

/-! ### The VX rail and the XENGINE's clock (R288 to R291) -/

/-- A Voltage write with commit over AVSBus, in mV (R289). -/
def State.writeVx (s : State) (mv : Nat) : State :=
  let w : AvsWrite := { rail := s.g PERF.AVS.RAIL, clkdiv := s.g PERF.AVS.CLKDIV, value := mv }
  s.modLvl fun x => { x with vxWrite := some w }

/-- VoutTransitionRate is written with AVS.SLEW, once after each start (R289). -/
def State.writeSlew (s : State) : State :=
  let w : AvsWrite := { rail := s.g PERF.AVS.RAIL, clkdiv := s.g PERF.AVS.CLKDIV, value := s.g PERF.AVS.SLEW }
  s.modLvl fun x => { x with rateWrite := some w }

/-- Downward, after NV (R290): XPLL glides, write assist goes on where the level needs it, body bias moves, VX is written. -/
def State.slowTo (s : State) (g : Nat) : State :=
  (s.modLvl fun x =>
    { x with clock := vxClock g, assist := x.assist || writeAssist g, bias := bodyBias g }).writeVx (vxMilliVolt g)

/-- Upward, after VX is confirmed (R291): write assist goes off where the level does not need it, body bias moves, XPLL
glides. -/
def State.speedTo (s : State) (g : Nat) : State :=
  s.modLvl fun x => { x with assist := x.assist && writeAssist g, bias := bodyBias g, clock := vxClock g }

/-! ### Performance level P3 (R111, R293, R294) -/

/-- An emergency change to P3: the cap is P3, and NV falls at the next superframe boundary. -/
def State.emergencyP3 (s : State) : State :=
  let x := s.lvl
  let s := s.modLvl fun x => { x with cap := 3 }
  if x.level = 3 ∧ (x.phase = .idle ∨ x.phase = .vxDown) ∨ (x.going = 3 ∧ x.phase = .vxDown) then s
  else
    let s := s.modLvl fun x =>
      { x with going := 3, phase := .nvWait, landSfc := sfcAdd s.sfc 1, tries := 0 }
    let s := (s.wr PERF.STAT.EMERGENCY 1).bump THERMAL.DAMPER.EMERGENCIES
    s.pulse .thermal 0 2

/-- The level goes to P3 by the steps of R290 alone: NV falls at once (R312). -/
def State.dropToP3 (s : State) : State :=
  if s.lvl.level = 3 then s.modLvl fun x => { x with phase := .idle, going := 3, nv := min x.nv 33 }
  else (s.modLvl fun x => { x with going := 3, phase := .vxDown, nv := min x.nv 33, tries := 0 }).slowTo 3

/-! ### Isolation (R311) -/

/-- The lines of an isolated cluster show it on their own pages (R313). -/
def State.linesChanged (s : State) (src : Nat) : State :=
  if 32 ≤ src ∧ src < 36 then
    ((clusterLines (src - 32)).filter fun l => !s.fault.isolated.contains (128 + l)).foldl (fun s l => s.pulse .lctl l 1) s
  else s

/-- Mark a source isolated. -/
def State.markIsolated (s : State) (src : Nat) : State :=
  if s.fault.isolated.contains src then s
  else ((s.modFault fun x => { x with isolated := src :: x.isolated }).healthChanged src).linesChanged src

/-- A source's isolation ends. -/
def State.release (s : State) (src : Nat) : State :=
  if s.fault.isolated.contains src then
    ((s.modFault fun x => { x with isolated := x.isolated.filter (· != src) }).healthChanged src).linesChanged src
  else s

/-- A line is cut out: FAULTED, its runs interrupted (R124, R203, R231, R311). -/
def State.isolateLine (s : State) (l : Nat) : State :=
  (((s.interruptReflect l).stopCal l 5).faultLine l).markIsolated (128 + l)

/-- A lane is cut out: OFF (R311). -/
def State.isolateLane (s : State) (l : Nat) : State := (s.stopLane l).markIsolated (64 + l)

/-- A cluster is cut out: its lines FAULTED, its lanes OFF, its CPLL stopped (R311). -/
def State.isolateCluster (s : State) (c : Nat) : State :=
  let s := (clusterLines c).foldl (fun s l => ((s.interruptReflect l).stopCal l 5).faultLine l) s
  let s := (clusterLanes c).foldl (fun s l => s.stopLane l) s
  let s := s.modClk fun x =>
    { x with locked := x.locked.filter (· != 2 + c), started := x.started.filter (· != 2 + c) }
  s.markIsolated (32 + c)

/-- The source is a line, a lane or a cluster. -/
def isUnit (src : Nat) : Bool :=
  (32 ≤ src && src < 36) || (64 ≤ src && src < 96) || (128 ≤ src && src < 256)

/-- A source that exists (R308). -/
def isSource (src : Nat) : Bool := decide (src < 24) || isUnit src

/-- Isolate a line, lane or cluster source. -/
def State.isolate (s : State) (src : Nat) : State :=
  if 128 ≤ src then s.isolateLine (src - 128)
  else if 64 ≤ src then s.isolateLane (src - 64)
  else s.isolateCluster (src - 32)

/-- The reaction on a class S2 fault: isolation, or HEALTH 2 of a device unit (R310). -/
def State.reactS2 (s : State) (src : Nat) : State :=
  if isUnit src then s.isolate src
  else s.modFault fun x =>
    { x with shown := if x.shown.contains src then x.shown else src :: x.shown }

/-- Handling of FIRST ends where this source is handled. -/
def State.endHandling (s : State) (src : Nat) : State :=
  s.modFault fun x => { x with handling := if x.handling = some src then none else x.handling }

/-! ### The safe state (R312) -/

/-- An S3 fault's reaction: GLOW frozen, FAULT_N, every driver CLEAR, runs ended, remote fault on every slot, VX to P3. -/
def State.safeState (s : State) : State :=
  if s.fault.s3 then s
  else
    let s := (s.modFault fun x => { x with s3 := true, faultN := true, glowFrozen := true }).refreshDacs
    let s := allLines.foldl (fun s l => ((s.interruptReflect l).stopCal l 4).pulse .lctl l 1) s
    let s := (List.range 4).foldl (fun s c => s.pulse .cluster c 1) s
    (allLines.foldl (fun s p => s.refreshFill p) s).dropToP3

/-! ### Raising a fault -/

/-- A class S2 fault with its reaction (R309, R310). -/
def State.raiseS2 (s : State) (code src addr : Nat) : State :=
  if s.fault.ignored.contains src then s
  else ((s.log { code := code, cls := 2, source := src, addr := addr }).reactS2 src).endHandling src

/-- A class S3 fault with its reaction. -/
def State.raiseS3 (s : State) (code src addr : Nat) : State :=
  if s.fault.ignored.contains src then s
  else (s.log { code := code, cls := 3, source := src, addr := addr }).safeState

/-- RAIL_DISAGREE of a source takes effect (R307): ignored and shown until reset, a unit isolated; for
THERMAL the level goes to P3 and stays. -/
def State.disagree (s : State) (src : Nat) : State :=
  let s := s.reactS2 src
  let s := s.modFault fun x =>
    { x with ignored := if x.ignored.contains src then x.ignored else src :: x.ignored }
  if src = 10 then (s.modFault fun x => { x with thermalHold := true }).emergencyP3 else s

end Sys2Proof.Machine
end

