-- ==== Sys2Proof/Machine/Landing.lean ====
section
/-! DEFINITION. Staged fields coming into effect (R33, R35, R37): the envelope of a page, the effects of
LREACH and LAFE posts, and the posts a REACH line holds to the end of a packet (R179, R219, R222). -/

namespace Sys2Proof.Machine

/-! ### Envelopes (R35, R37) -/

/-- The staged fields of a kind of page. -/
def rwsFields (p : Page) : List Fld := (blockFields p).filter fun F => F.acc = .rws

/-- The fields of a page's envelope with their words. -/
def envelopeWords (p : Page) : List (Fld × Nat) :=
  (rwsFields p).flatMap fun F => (List.range F.cnt).map fun j => (F, j)

def State.stagedAt (s : State) (F : Fld) (i j : Nat) : Option Nat := s.staged.find (F.key i j)

/-- Stage a value: a second write replaces the first. -/
def State.stage (s : State) (F : Fld) (i j v : Nat) : State :=
  { s with staged := s.staged.put (F.key i j) (some (v % 2 ^ F.w)) }

/-- The value of a field once the page's envelope is posted. -/
def State.after (s : State) (F : Fld) (i : Nat := 0) (j : Nat := 0) : Nat :=
  (s.stagedAt F i j).getD (s.g F i j)

def State.hasStaged (s : State) (p : Page) (i : Nat) : Bool :=
  (envelopeWords p).any fun e => (s.stagedAt e.1 i e.2).isSome

/-- One staged field comes into effect and leaves the envelope. -/
def State.applyField (s : State) (F : Fld) (i j : Nat) : State :=
  match s.stagedAt F i j with
  | some v => { s.wr F v i j with staged := s.staged.erase (F.key i j) }
  | none => s

/-- The envelope of a page is emptied. -/
def State.emptyEnvelope (s : State) (p : Page) (i : Nat) : State :=
  (envelopeWords p).foldl (fun s e => { s with staged := s.staged.erase (e.1.key i e.2) }) s

/-- Every staged field of a page comes into effect. -/
def State.applyFields (s : State) (p : Page) (i : Nat) : State :=
  (envelopeWords p).foldl (fun s e => s.applyField e.1 i e.2) s

/-! ### LREACH (R24, R179) -/

/-- The widest bandwidth code configured on a REACH line: its alarm profile's and its enabled
endpoints'. -/
def State.reachWidest (s : State) (l : Nat) : Nat :=
  ((List.range 16).filter fun e => s.g LREACH.EP_CFG.ENABLE l e == 1).foldl
    (fun m e => max m (s.g LREACH.EP_CFG.BW l e)) (s.g LREACH.PROFILE.BW l)

/-- The mask of a bandwidth is in force on every V line of the line's tag that sends data in SHOWTIME or is about to leave it
(R24, R179). -/
def State.bandReady (s : State) (l bw : Nat) : Bool :=
  let want := maskBits (reachTones bw)
  allLines.all fun m => s.tag m != s.tag l || !s.isV m ||
    ((s.line m).st != .showtime && (s.line m).st != .leaving) || s.g LLOAD.RMASK.MASK m 0 &&& want == want

/-- MASK_WAIT follows the masks of the tag (R179). -/
def State.refreshMaskWait (s : State) (l : Nat) : State :=
  let w := (s.line l).st = .reach && !s.bandReady l (s.reachWidest l)
  let s := s.modReach l fun x => { x with maskWait := w }
  (s.wr LREACH.STATUS.MASK_WAIT (bnat w) l).cond .lreach l 8 w

/-- Periodic polls that are due go with their endpoint's ENABLE or POLL_IVL (R181). -/
def State.dropPolls (s : State) (l : Nat) : State :=
  let polled := fun e => s.g LREACH.EP_CFG.ENABLE l e == 1 && s.g LREACH.EP_CFG.POLL_IVL l e != 0
  s.modReach l fun x => { x with polls := x.polls.filter polled }

/-- An LREACH post comes into effect: the masks follow, and the receiver's profile. -/
def State.applyReach (s : State) (l : Nat) : State :=
  let s := ((s.applyFields .lreach l).dropPolls l).refreshMasks
  (s.refreshMaskWait l).refreshOwner l

/-! ### LAFE (R91, R219 to R222) -/

/-- An LAFE post comes into effect: outside SHOWTIME, BANKED and RETRAIN a change of range holds the clear
code for one symbol. -/
def State.applyAfe (s : State) (l : Nat) : State :=
  let range := s.after LAFE.CTRL.RANGE l
  let st := (s.line l).st
  let moves := range != s.g LAFE.CTRL.RANGE l && st != .showtime && st != .banked && st != .retrain &&
    st != .standard
  let s := (s.setRange l range).setPga l (s.after LAFE.CTRL.PGA l)
  let s := if moves then s.modLine l fun x => { x with rangeHold := 2 } else s
  s.applyFields .lafe l

/-! ### Posts held to the end of a packet (R179, R219, R222) -/

/-- A packet is being sent or received on a line. -/
def State.packetOn (s : State) (l : Nat) : Bool := (s.reachX l).tx.isSome || (s.reachX l).rx.isSome

/-- The page's post waits for the end of a packet. -/
def State.heldPost (s : State) (p : Page) (l : Nat) : Bool := (s.reachX l).held.contains p

/-- The posts held on a line come into effect once no packet is on it. -/
def State.releaseHeld (s : State) (l : Nat) : State :=
  if s.packetOn l then s
  else
    let ps := (s.reachX l).held
    let s := s.modReach l fun x => { x with held := [] }
    ps.foldl (fun s p =>
      let s := if p = .lreach then s.applyReach l else s.applyAfe l
      s.finishPost p l resPosted) s

end Sys2Proof.Machine
end

