-- ==== Sys2Proof/Machine/Reach.lean ====
section
/-! DEFINITION. The Reach modem: transmission and its order, reception and capture, polls, alarm windows
and the host's records (R155 to R182). -/

namespace Sys2Proof.Machine

/-! ### Shared -/

/-- One step of the PGA between packets toward the code at which the strongest of the last 16 good packets
would have peaked at −6 dBFS (R221): P dBm peak at P + gain − 6.99 dBFS. -/
def State.reachPga (s : State) (l : Nat) : State :=
  match (s.reachX l).powers with
  | [] => s
  | p :: ps =>
    let best := ps.foldl max p
    let want := clampInt 0 72 ((2 * (699 - best) + 50) / 100)
    let now := s.g LAFE.CTRL.PGA l
    if s.g LAFE.CTRL.PGA_AUTO l = 0 ∨ (now : Int) = want then s
    else s.setPga l (if (now : Int) < want then now + 1 else now - 1)

/-- The receiver's profile follows what the modem does; a change of profile between packets takes a PGA
step of a REACH line with it (R155, R189, R221). -/
def State.reachProfile (s : State) (l : Nat) : State :=
  let old := s.chainPreset l
  let s := s.refreshOwner l
  if s.chainPreset l != old && (s.line l).st = .reach && !s.packetOn l then s.reachPga l else s

/-- Bytes of the transmit queue in use: each record with its prefix (R177). -/
def ReachX.used (x : ReachX) : Nat := (x.queue.map fun r => 16 + r.payload.length).sum

def State.refreshQueue (s : State) (l : Nat) : State :=
  s.wr LREACH.STATUS.QFREE ((32768 - (s.reachX l).used) / 64) l

/-- A record to the host, as a frame on the port's slot (R177, R271). -/
def State.toReachHost (s : State) (l : Nat) (bytes : List Nat) : State :=
  (s.toHost (s.anchor l) (frameBlocks (recordFrame bytes))).pulse .lreach l 0

/-- A STATUS record: LEN 1, the SEQ of the packet concerned; the fields it does not fill read 0 (R177). -/
def State.statusRecord (s : State) (l addr seq code : Nat) : State :=
  s.toReachHost l ([addr * 16 + 7, seq % 8, 0, 1] ++ List.replicate 11 0 ++ [code, seq])

/-- The decoding path gives up its reception; a held post may now apply, and a message that waited goes out. -/
def State.endReception (s : State) (l : Nat) : State :=
  let s := s.modReach l fun x => { x with rx := none }
  let s := s.wr LREACH.STATUS.RXSTATE 0 l
  let s := if s.g LREACH.STATUS.WINDOW l = 0 then
      s.modReach l fun x => { x with acks := x.acks ++ x.alarms, alarms := [] } else s
  ((s.reachProfile l).releaseHeld l).sendDue l

/-! ### Transmission (R157, R170 to R176) -/

/-- The profile of a packet: the endpoint's, or the alarm profile (R171). -/
def State.epProfile (s : State) (l a : Nat) : Nat × Nat × Nat :=
  (s.g LREACH.EP_CFG.SF l a, s.g LREACH.EP_CFG.BW l a, s.g LREACH.EP_CFG.CR l a)
def State.alarmProfile (s : State) (l : Nat) : Nat × Nat × Nat :=
  (s.g LREACH.PROFILE.SF l, s.g LREACH.PROFILE.BW l, s.g LREACH.PROFILE.CR l)

/-- The SEQ of the next DATA or POLL to an address (R171). -/
def ReachX.nextSeq (x : ReachX) (a : Nat) : Nat := (x.seqs.get 0 a + 1) % 8

def reachPkt (pr : Nat × Nat × Nat) (addr kind seq : Nat) (opens : Bool) (payload : List Nat) : ReachPkt :=
  { addr := addr, kind := kind, seq := seq, opens := opens, payload := payload, sf := pr.1, bw := pr.2.1,
    cr := pr.2.2 }

/-- The packet of a host record. -/
def State.recordPkt (s : State) (l : Nat) (r : ReachRecord) : ReachPkt :=
  reachPkt (s.epProfile l r.addr) r.addr r.kind ((s.reachX l).nextSeq r.addr) false r.payload

/-- What may be sent next, with what its sending takes from the state: 0 an ACK, 1 a MARK, 2 a repeated
POLL, 3 record i, 4 periodic poll i, 5 repeat i; and where a POLL comes from, as `pollFrom`. -/
structure ReachChoice where
  pkt : ReachPkt
  kind : Nat
  index : Nat
  origin : Nat := 0
  deriving DecidableEq, Repr

/-- The POLLs to repeat that came from `n`, the one that waits longest first (R172). -/
def ReachX.repeatsOf (x : ReachX) (n : Nat) : List ReachChoice :=
  (x.repeats.zipIdx.filter fun a => a.1.2.2 == n).map
      (fun a => ({ pkt := a.1.1, kind := 5, index := a.2, origin := n } : ReachChoice)) ++
    (if x.pollFrom = n then
      x.again.toList.map fun a => ({ pkt := a.1, kind := 2, index := 0, origin := n } : ReachChoice) else [])

/-- The host's records and the periodic polls that are due, in the order of R176 among themselves, a repeated POLL as what it
repeats; packets that need a band whose mask is awaited wait (R179).  The payload of a periodic POLL is a free value
(log 4); `d` numbers it. -/
def State.reachQueue (s : State) (l d : Nat) : List ReachChoice :=
  let x := s.reachX l
  let rec' := fun (r : ReachRecord × Nat) => ({ pkt := s.recordPkt l r.1, kind := 3, index := r.2,
                                                origin := bnat r.1.urgent } : ReachChoice)
  let again := x.repeatsOf
  let urgent := ((x.queue.zipIdx).filter (·.1.urgent)).map rec'
  let plain := ((x.queue.zipIdx).filter (!·.1.urgent)).map rec'
  let polls := (x.polls.zipIdx).map fun a =>
    ({ pkt := reachPkt (s.epProfile l a.1) a.1 1 (x.nextSeq a.1) false [Config.freeWord d 2 % 256],
       kind := 4, index := a.2, origin := 2 } : ReachChoice)
  (again 1 ++ urgent ++ again 0 ++ plain ++ again 2 ++ polls).filter fun c => s.bandReady l c.pkt.bw

/-- A window is due and alarm windows are on (R175). -/
def State.opensWindow (s : State) (l : Nat) : Bool := (s.reachX l).windowDue && s.g LREACH.ALARM.IVL l != 0

/-- The transmissions that are due, in the order of R176; while a window is due a DATA packet that is next opens it, else a
MARK does (R175), and nothing but ACKs goes before the OPEN packet, which waits for the alarm band's mask (R179).  The SEQ of an
ACK or MARK is a free value (log 4). -/
def State.reachDue (s : State) (l d : Nat) : List ReachChoice :=
  let x := s.reachX l
  let acks : List ReachChoice := x.acks.take 1 |>.map fun a =>
    { pkt := reachPkt (s.alarmProfile l) a.1 4 (Config.freeWord d 0 % 8) false [a.2], kind := 0, index := 0 }
  let mark : ReachChoice :=
    { pkt := reachPkt (s.alarmProfile l) 0 6 (Config.freeWord d 1 % 8) true [x.windows % 256], kind := 1, index := 0 }
  let ready := s.bandReady l (s.g LREACH.PROFILE.BW l)
  let rest := match s.opensWindow l, s.reachQueue l d with
    | true, c :: cs =>
      if !ready then []
      else if c.pkt.kind = 0 then { c with pkt := { c.pkt with opens := true } } :: cs else mark :: c :: cs
    | true, [] => if ready then [mark] else []
    | false, cs => cs
  (if ready then acks else []) ++ rest

/-- The line may start a transmission: none runs, no reception, no reply or alarm window, no calibration
run (R170, R172, R176, R178). -/
def State.reachIdle (s : State) (l : Nat) : Bool :=
  let x := s.reachX l
  (s.line l).st = .reach && x.tx.isNone && x.rx.isNone && x.await.isNone && !x.opening &&
    s.g LREACH.STATUS.WINDOW l == 0 && s.g LREACH.STATUS.RXSTATE l == 0 && (s.calX l).st != 4 && s.lineRuns l

/-- The repeats that a POLL has left once it goes out: those it had, or RETRY for a new one (R172). -/
def State.pollLeft (s : State) (l : Nat) (c : ReachChoice) : Nat :=
  let x := s.reachX l
  let fresh := s.g LREACH.EP_CFG.RETRY l c.pkt.addr
  if c.kind = 2 then (x.again.map (·.2)).getD fresh
  else if c.kind = 5 then (x.repeats[c.index]?.map (·.2.1)).getD fresh
  else fresh

/-- The repeats that go on waiting while a chosen packet goes out: a POLL to repeat waits behind another one (R172, R176). -/
def ReachX.waitingRepeats (x : ReachX) (c : ReachChoice) : List (ReachPkt × Nat × Nat) :=
  let rest := if c.kind = 5 then x.repeats.eraseIdx c.index else x.repeats
  if c.pkt.kind = 1 && c.kind != 2 then rest ++ x.again.toList.map fun a => (a.1, a.2, x.pollFrom) else rest

/-- A chosen packet goes out, and what it came from is taken. -/
def State.startPacket (s : State) (l : Nat) (c : ReachChoice) : State :=
  let p := c.pkt
  let left := s.pollLeft l c
  let s := s.modReach l fun x =>
    { x with
      repeats := x.waitingRepeats c
      seqs := if p.kind ≤ 1 then x.seqs.set 0 p.addr p.seq else x.seqs
      acks := if c.kind = 0 then x.acks.drop 1 else x.acks
      queue := if c.kind = 3 then x.queue.eraseIdx c.index else x.queue
      polls := if c.kind = 4 then x.polls.eraseIdx c.index else x.polls
      again := if p.kind = 1 then some (p, left) else x.again
      pollFrom := if p.kind = 1 then c.origin else x.pollFrom
      windowDue := x.windowDue && !p.opens
      opening := p.opens }
  ((s.startTx l (s.g LREACH.PROFILE.NETID l) p).refreshQueue l).reachProfile l

/-- A due transmission starts (R170, R176). -/
def execReachTxStart (l : Nat) (s : State) : Answer :=
  withSignal l s fun s =>
    let d := s.draw
    match d.2.reachDue l d.1 with
    | c :: _ => if s.reachIdle l then d.2.startPacket l c else s
    | [] => s

/-- The last sample of a packet leaves the line: a POLL's reply window begins, held posts apply (R172,
R179). -/
def execReachTxEnd (l : Nat) (s : State) : Answer :=
  withSignal l s fun s =>
    match (s.reachX l).tx with
    | some p =>
      let s := s.modReach l fun x =>
        { x with tx := none, chirps := [], await := if p.kind = 1 then x.again else x.await,
                 again := if p.kind = 1 then none else x.again }
      (s.reachProfile l).releaseHeld l
    | none => s

/-- 20 µs after the last sample the receiver listens again, and a message that waited goes out (R157, R170). -/
def execBlankingEnd (l : Nat) (s : State) : Answer :=
  withSignal l s fun s =>
    when (s.g LREACH.STATUS.RXSTATE l == 5 && (s.reachX l).tx.isNone) (fun s => (s.wr LREACH.STATUS.RXSTATE 0 l).sendDue l) s

/-! ### Reception (R165 to R169) -/

/-- Two bins of N lie within ±1 of each other. -/
def nearBins (n a b : Nat) : Bool := decide ((a + n - b % n) % n ≤ 1 ∨ (b + n - a % n) % n ≤ 1)

/-- The powers of the bins of a dechirped window (R165). -/
def dechirped (sf : Nat) (up : Bool) (w : Window) : List Rat := (dechirp sf up w).map Cx.normSq

/-- A window's peak: its largest bin, the power there, and the mean of the other bins (R165). -/
def peakOf (ps : List Rat) : Nat × Rat × Rat :=
  let best := (ps.zipIdx).foldl (fun (m : Nat × Rat) e => if m.2 < e.1 then (e.2, e.1) else m) (0, 0)
  (best.1, best.2, (sumRat ps - best.2) / ((ps.length : Rat) - 1))

/-- The ratio of a peak reaches DETECT.TH: 6.0 + 0.5 × value dB, 18 at most (R165, R181). -/
def State.overTh (s : State) (l : Nat) (p : Nat × Rat × Rat) : Bool :=
  decide (0 < p.2.1 ∧ p.2.2 * powerRatio 2 (12 + min 18 (s.g LREACH.DETECT.TH l) : Nat) ≤ p.2.1)

/-- A preamble in consecutive windows: PCHIRPS of them (3 to 6), each over the threshold with its peak within ±1 bin of the
first one's.  Its bin, and its power as the mean of the peaks in 0.01 dBm (R165, R194). -/
def State.preambleOf (s : State) (l : Nat) (ws : List Window) : Option (Nat × Int) :=
  let sf := s.reachSf l
  let n := 2 ^ sf
  let ps := ws.map fun w => peakOf (dechirped sf true w)
  match ps with
  | p :: _ =>
    if ws.length = clampNat 3 6 (s.g LREACH.DETECT.PCHIRPS l) ∧ ps.all fun q => s.overTh l q && nearBins n q.1 p.1 then
      some (p.1, decibels 100 (sumRat (ps.map (·.2.1)) / (ps.length * n * n : Nat)) + s.fsRef l)
    else none
  | [] => none

/-- The decoding path takes a detected packet, under the profile and the offset that the search runs with (R167 to R169); a
BEACON has its answer (R129). -/
def State.beginReception (s : State) (l bin : Nat) (power : Int) : State :=
  let pr := s.reachNow l
  let s := s.modReach l fun x =>
    { x with rx := some { bin := bin, power := power, sf := pr.1, bw := pr.2.1, searchCr := pr.2.2, eps := s.searchEps l },
             beaconOpen := false }
  (s.wr LREACH.STATUS.RXSTATE 1 l).reachProfile l

/-- The modem's receiver is on and not blanked; a V-tail line in QUIET listens for BEACONs (R125). -/
def State.modemHears (s : State) (l : Nat) : Bool :=
  (usesModem (s.line l).st || ((s.line l).st = .quiet && s.isVTail l)) && s.g LREACH.STATUS.RXSTATE l != 5 &&
    (s.reachX l).tx.isNone

/-- A preamble is detected (R165), its windows `shift` chips off those of the reception that runs: a new reception; the same
packet is ignored, another replaces a reception that has not passed its header (R168), and in PAYLOAD the capture rule
decides (R169). -/
def execPreambleDetected (l : Nat) (windows : List Window) (shift : Nat) (s : State) : Answer :=
  withSignal l s fun s =>
    match (if s.modemHears l then s.preambleOf l windows else none) with
    | none => s
    | some (bin, power) =>
      match (s.reachX l).rx with
      | none => s.beginReception l bin power
      | some r =>
        let n := 2 ^ r.sf
        let aligned := decide (shift % n ≤ n / 8 ∨ n ≤ shift % n + n / 8)
        if s.g LREACH.STATUS.RXSTATE l < 4 then
          if aligned && nearBins n bin r.bin then s
          else ((s.bump LREACH.PREEMPT.COUNT l).pulse .lreach l 2).beginReception l bin power
        else if r.power + 100 * (s.g LREACH.DETECT.CAPMARGIN l : Int) ≤ power then
          let s := (s.bump LREACH.CAPTURED.COUNT l).pulse .lreach l 3
          let s := if (s.line l).st = .reach then s.statusRecord l r.addr r.seq 2 else s
          s.beginReception l bin power
        else (s.bump LREACH.COLLIDED.COUNT l).pulse .lreach l 4

/-- The network word the receiver accepts (R159, R180). -/
def State.netWord (s : State) (l : Nat) : Nat :=
  if (s.line l).st = .reach then s.g LREACH.PROFILE.NETID l else 0xA7

/-- The windows after a detection hold, within 10, the Turn (the down reference over the threshold, the up reference under
it), the two Nets of our network at their bins from the Turn's, and the Resume half a band from the preamble (R166). -/
def State.syncGood (s : State) (l : Nat) (x : ReachRx) (ws : List Window) : Bool :=
  let n := 2 ^ x.sf
  let w := netValues x.sf (s.netWord l)
  let up := fun y => peakOf (dechirped x.sf true y)
  let down := fun y => peakOf (dechirped x.sf false y)
  match (ws.take 10).dropWhile fun y => !(s.overTh l (down y) && !s.overTh l (up y)) with
  | turn :: net0 :: net1 :: resume :: _ =>
    -- a down reference mirrors the bins
    let at' := fun y => (n - (down y).1) % n
    (at' net0 + n - at' turn) % n == w.1 && (at' net1 + n - at' turn) % n == w.2 &&
      nearBins n (up resume).1 (x.bin + n / 2)
  | _ => false

/-- The windows after a detection: SYNCED with offset and start postmark, or SYNC_FAIL; the window that follows SYNCED begins
the HEADER (R166). -/
def execSyncConfirm (l : Nat) (windows : List Window) (r : SyncReport) (s : State) : Answer :=
  withSignal l s fun s =>
    match (s.reachX l).rx with
    | some x =>
      if s.g LREACH.STATUS.RXSTATE l = 2 then s.wr LREACH.STATUS.RXSTATE 3 l
      else if s.g LREACH.STATUS.RXSTATE l != 1 then s
      else if s.syncGood l x windows then
        let t := s.time.sec * 10 ^ 9 + s.time.ns - r.ago
        let s := s.modReach l fun y =>
          { y with rx := some { x with eps := r.eps, snr := r.snr, ns := t % 10 ^ 9, sec := t / 10 ^ 9 } }
        (s.wr LREACH.STATUS.RXSTATE 2 l).reachProfile l
      else (s.bump LREACH.SYNC_FAIL.COUNT l).endReception l
    | none => s

/-- The header is decoded: it passes, or the reception ends with HDR_FAIL (R160, R166). -/
def execHeaderDone (l word : Nat) (s : State) : Answer :=
  withSignal l s fun s =>
    match (s.reachX l).rx with
    | some x =>
      if s.g LREACH.STATUS.RXSTATE l != 2 && s.g LREACH.STATUS.RXSTATE l != 3 then s
      else if headerPasses word then
        let x := { x with cr := bits word 19 2, addr := bits word 15 4, kind := bits word 12 3,
                          seq := bits word 8 3, len := bits word 21 11 + 1 }
        (s.modReach l fun y => { y with rx := some x }).wr LREACH.STATUS.RXSTATE 4 l
      else (s.bump LREACH.HDR_FAIL.COUNT l).endReception l
    | none => s

/-- A power in 0.01 dBm as signed dBm: to the nearest, a half upward (DESIGN CHOICE, log 102). -/
def wholeDbm (p : Int) : Int := (2 * p + 100) / 200

/-- The prefix of a packet's record (R177). -/
def packetRecord (x : ReachRx) (payload : List Nat) : List Nat :=
  [x.addr * 16 + x.kind, x.seq] ++ msbBytes 2 payload.length ++ msbBytes 4 x.ns ++ msbBytes 2 (x.sec % 2 ^ 16) ++
    [ofSigned 8 (wholeDbm x.power), ofSigned 8 x.snr] ++ msbBytes 2 (ofSigned 16 x.eps) ++
    [x.sf * 16 + x.bw * 4 + x.cr, 0] ++ payload

/-- A good packet of an enabled endpoint: offset, power, counts and ABSENT (R167, R172, R181). -/
def State.noteEndpoint (s : State) (l : Nat) (x : ReachRx) : State :=
  let s := s.modReach l fun y =>
    { y with unanswered := y.unanswered.erase x.addr, powers := (x.power :: y.powers).take 16 }
  let s := (s.wr LREACH.EP_STAT.FOFS (ofSigned 16 x.eps) l x.addr).wr LREACH.EP_STAT.RSSI
    (ofSigned 8 (wholeDbm x.power)) l x.addr
  let s := (s.wr LREACH.EP_STAT.ABSENT 0 l x.addr).bump LREACH.EP_COUNT.RX l 1 x.addr
  s.wr LREACH.EP_LAST.SEC (x.sec % 2 ^ 32) l x.addr

/-- Deliver a REPLY or ALARM: at most one of an address, kind and SEQ within 10 s (R171). -/
def State.deliverPacket (s : State) (l : Nat) (x : ReachRx) (payload : List Nat) : State :=
  let now := s.time.sec * 10 ^ 9 + s.time.ns
  let seen := (s.reachX l).seen.filter fun e => decide (now < e.2.2.2 + 10 ^ 10)
  if seen.any fun e => e.1 == x.addr && e.2.1 == x.kind && e.2.2.1 == x.seq then
    s.modReach l fun y => { y with seen := seen }
  else
    let s := s.modReach l fun y => { y with seen := (x.addr, x.kind, x.seq, now) :: seen }
    let s := s.toReachHost l (packetRecord x payload)
    if x.kind = 3 then (s.bump LREACH.ALARM_RX.COUNT l).pulse .lreach l 1 else s

/-- A packet with a good CRC-32 (R167, R171, R180): a REACH line takes REPLY and ALARM packets of enabled
endpoints, and acknowledges every ALARM. -/
def State.goodPacket (s : State) (l : Nat) (x : ReachRx) (payload : List Nat) : State :=
  let s := s.bump LREACH.RX_OK.COUNT l
  if (s.line l).st != .reach || (x.kind != 2 && x.kind != 3) ||
      s.g LREACH.EP_CFG.ENABLE l x.addr == 0 then s
  else
    let s := (s.noteEndpoint l x).deliverPacket l x payload
    if x.kind = 3 then s.modReach l fun y => { y with alarms := y.alarms ++ [(x.addr, x.seq)] } else s

/-- A reply window closes with a packet detected in it: the POLL is not unanswered (R172). -/
def State.closeWindow (s : State) (l : Nat) : State :=
  s.modReach l fun y =>
    { y with await := none,
             unanswered := match y.await with | some (p, _) => y.unanswered.erase p.addr | none => y.unanswered }

/-- The payload ends (R161, R166, R167): `bytes` are the payload and the CRC-32 that followed it. -/
def execPacketRxDone (l : Nat) (bytes : List Nat) (s : State) : Answer :=
  withSignal l s fun s =>
    match (s.reachX l).rx with
    | some x =>
      if s.g LREACH.STATUS.RXSTATE l != 4 then s
      else
        let payload := bytes.take x.len
        let s := s.closeWindow l
        let s := if bytes.length == x.len + 4 && crc32 (byteBits payload) == field bytes x.len 4 then
            s.goodPacket l x payload
          else s.bump LREACH.CRC_FAIL.COUNT l
        s.endReception l
    | none => s

/-! ### Polls (R172, R176) -/

/-- The reply window of a POLL, or of a V line's BEACON, ends (R129): for a POLL without a detection NO_REPLY counts and the POLL is repeated, or given
up with a STATUS record, the third in a row marking the endpoint ABSENT (R172). -/
def execReplyTimeout (l : Nat) (s : State) : Answer :=
  withTimer l s fun s =>
    match (s.reachX l).await with
    | some (p, n) =>
      if (s.reachX l).rx.isSome then (s.closeWindow l).reachProfile l
      else
        let s := s.modReach l fun y => { y with await := none }
        let s := (s.bump LREACH.NO_REPLY.COUNT l).pulse .lreach l 5
        let s :=
          if 0 < n then s.modReach l fun y => { y with again := some (p, n - 1) }
          else
            let k := (s.reachX l).unanswered.get 0 p.addr + 1
            let s := s.modReach l fun y => { y with unanswered := y.unanswered.set 0 p.addr k }
            let s := (s.bump LREACH.EP_COUNT.NOREPLY l 1 p.addr).statusRecord l p.addr p.seq 1
            if k ≥ 3 ∧ s.g LREACH.EP_STAT.ABSENT l p.addr = 0 then
              (s.wr LREACH.EP_STAT.ABSENT 1 l p.addr).pulse .lreach l 6
            else s
        s.reachProfile l
    | none => s.modReach l fun y => { y with beaconOpen := false }

/-- An endpoint's poll interval expires: a POLL falls due (R176). -/
def execPollDue (l ep : Nat) (s : State) : Answer :=
  if 16 ≤ ep then .fault (.noSuchPart "endpoint" ep)
  else withTimer l s fun s =>
    when (decide ((s.line l).st = .reach) && s.g LREACH.EP_CFG.ENABLE l ep == 1 &&
        s.g LREACH.EP_CFG.POLL_IVL l ep != 0 && !(s.reachX l).polls.contains ep)
      (·.modReach l fun x => { x with polls := x.polls ++ [ep] }) s

/-! ### Alarm windows (R173 to R175) -/

/-- A window falls due: not before the last one's ACKs have been sent (R175). -/
def execAlarmWindowDue (l : Nat) (s : State) : Answer :=
  withTimer l s fun s =>
    let x := s.reachX l
    when (decide ((s.line l).st = .reach) && s.g LREACH.ALARM.IVL l != 0 && !x.opening &&
        s.g LREACH.STATUS.WINDOW l == 0 && x.acks.isEmpty && x.alarms.isEmpty)
      (·.modReach l fun x => { x with windowDue := true }) s

/-- 200 µs after an OPEN packet its window opens (R173). -/
def execAlarmWindowOpen (l : Nat) (s : State) : Answer :=
  withSignal l s fun s =>
    when ((s.reachX l).opening && (s.reachX l).tx.isNone)
      (fun s => ((s.modReach l fun x => { x with opening := false, windows := x.windows + 1 }).wr
        LREACH.STATUS.WINDOW 1 l).reachProfile l) s

/-- The window ends: the ACKs of its ALARMs fall due, after a reception still in progress (R174). -/
def execAlarmWindowClose (l : Nat) (s : State) : Answer :=
  withTimer l s fun s =>
    when (s.g LREACH.STATUS.WINDOW l == 1) (fun s =>
      let s := s.wr LREACH.STATUS.WINDOW 0 l
      if (s.reachX l).rx.isSome then s
      else s.modReach l fun x => { x with acks := x.acks ++ x.alarms, alarms := [] }) s

/-! ### The host's records (R177, R271) -/

/-- A host frame of a REACH port with its FCS and the record in it: dropped with a bad FCS, a bad KIND or LEN, or no room; a disabled
endpoint is answered with DISABLED, whose SEQ the rules leave open, before the room is looked at (DESIGN CHOICE, log 106); else
it is queued. -/
def execReachRecordRx (port : Nat) (frame fcs : List Nat) (s : State) : Answer :=
  let record := recordOf frame fcs
  withPortTimer port s fun s =>
    let bytes := record.getD []
    let len := field bytes 2 2
    let addr := bytes.getD 0 0 / 16 % 16
    let kind := bytes.getD 0 0 % 8
    let drop := fun (s : State) => (s.bump LREACH.TXDROP.COUNT port).pulse .lreach port 7
    if (s.line port).st != .reach then s
    else if record = none then (s.bump PORT_CTL.INGRESS_DROP.COUNT port).pulse .port_ctl port 7
    else if 1 < kind || len = 0 || 2048 < len || bytes.length < 16 + len then drop s
    else if s.g LREACH.EP_CFG.ENABLE port addr = 0 then
      let d := s.draw
      d.2.statusRecord port addr (Config.freeWord d.1 0 % 8) 3
    else if 32768 < (s.reachX port).used + 16 + len then drop s
    else
      (s.modReach port fun x =>
        { x with queue := x.queue ++ [{ addr := addr, kind := kind, urgent := bit (bytes.getD 1 0) 0,
                                        payload := (bytes.drop 16).take len }] }).refreshQueue port

/-- The wider mask is in force on every V line of the tag: packets in the wider band may be sent (R179). -/
def execReachMaskWaitEnd (l : Nat) (s : State) : Answer :=
  withTimer l s fun s => when (s.reachX l).maskWait (·.refreshMaskWait l) s

end Sys2Proof.Machine
end

