-- ==== Sys2Proof/Machine/FrontEnd.lean ====
section
/-! DEFINITION. The analog front end: drivers, the clear code, TXCLR_N, overcurrent, range switches and
REFIN (R211 to R225). -/

namespace Sys2Proof.Machine

/-- TXCLR_N falls (R216): the clear code on every DAC; runs and gap proposals end (R231), the remainder of a Reach packet is not
sent. -/
def execTxclrAssert (s : State) : Answer :=
  if s.g CALMGR.STAT.TXCLR = 1 then .next s
  else
    let s := ((s.wr CALMGR.STAT.TXCLR 1).pulse .calmgr 0 1).refreshDacs
    .next (allLines.foldl (fun s l =>
      let s := (s.stopCal l 4).interruptReflect l
      if (s.line l).st = .reach && (s.reachX l).tx.isSome then
        s.modReach l fun x => { x with chirps := [] }
      else s) s)

/-- TXCLR_N rises: each line stays CLEAR until its next symbol boundary (R216). -/
def execTxclrRelease (s : State) : Answer :=
  if s.g CALMGR.STAT.TXCLR = 0 then .next s
  else
    let s := (s.wr CALMGR.STAT.TXCLR 0).pulse .calmgr 0 2
    .next { s with xe := { s.xe with resuming := allLines } }

/-- A driver over 120 mA for 1 µs (R217): OC latched, DRIVER_OC recorded, the line FAULTED; a second within
1 s keeps it so until LAFE's soft reset. -/
def execDriverOvercurrent (l : Nat) (s : State) : Answer :=
  withLine l s fun s =>
    let now := s.time.sec * 10 ^ 9 + s.time.ns
    let again := (s.line l).ocAt.any fun t => decide (now ≤ t + 10 ^ 9)
    let s := (s.wr LAFE.STAT.OC 1 l).cond .lafe l 5 true
    let s := s.raiseS2 0x0F (128 + l) 0
    s.modLine l fun x => { x with ocAt := some now, ocHeld := x.ocHeld || again }

/-- Symbol 63 of S − 1 (R220): with our change of range confirmed, the driver holds the clear code. -/
def execRangeSwitchSymbol (l : Nat) (s : State) : Answer :=
  withLine l s fun s =>
    match (s.port (s.anchor l)).neg with
    | some n =>
      when (n.ours && n.confirmed && !n.withdrawn && n.target == sfcAdd (s.portSfc (s.anchor l)) 1 &&
          n.changes.any fun c => match c with | .afe m r _ => m == l && r | _ => false)
        (·.modLine l fun x => { x with rangeSwitch := true }) s
    | none => s

/-- REFIN measured (R225): within 1 % of 1.200 V or not, the two transitions with their events, REFIN_RANGE
recorded once on entry, the first measurement of a cold start included. -/
def execRefinMeasure (level : Nat) (s : State) : Answer :=
  let lv := min level 0xFFFF
  let was := s.g CALMGR.STAT.REFIN_OK == 1
  let bad := !decide (24000 * 99 ≤ 100 * lv ∧ 100 * lv ≤ 24000 * 101)
  let first := !s.clk.refinSeen
  let s := (s.wr CALMGR.REFIN.LEVEL lv).modClk fun x => { x with refinSeen := true }
  if bad && (was || first) then .next (((s.wr CALMGR.STAT.REFIN_OK 0).pulse .calmgr 0 3).noteS1 0x0E 9 lv)
  else if !bad && !was then .next ((s.wr CALMGR.STAT.REFIN_OK 1).pulse .calmgr 0 4)
  else .next s

end Sys2Proof.Machine
end

