-- ==== Sys2Proof/Machine/Standard.lean ====
section
/-! DEFINITION. STANDARD quads: auto-negotiation, beacon alternation, link, EEE and fast retrain (R238 to
R250).  The state of a quad is kept on its first line's page (R248). -/

namespace Sys2Proof.Machine

/-- The first line of the quad of line l. -/
def quadHead (l : Nat) : Nat := l / 4 * 4
def quadLines (l : Nat) : List Nat := (List.range 4).map (quadHead l + ·)

/-- The monitor chains of a quad follow alternation (R187, R242). -/
def State.refreshQuad (s : State) (q : Nat) : State := (quadLines q).foldl (fun s l => s.refreshOwner l) s

/-- The link of a quad is gone, or not yet there: its resolution with it (R248). -/
def State.clearLink (s : State) (q : Nat) : State :=
  [LSTD.STATUS.LINK, LSTD.STATUS.AN_DONE, LSTD.STATUS.SPEED, LSTD.STATUS.MASTER, LSTD.STATUS.MDIX,
    LSTD.STATUS.EEE, LSTD.STATUS.FR, LSTD.STATUS.TX_LPI, LSTD.STATUS.RX_LPI].foldl (fun s F => s.wr F 0 q) s

/-- The message pages that an advertisement needs: code 8 for 1000BASE-T, 9 for the speeds above it, 10 for EEE (R241; the codes
of Clause 28 are PRESUMED, log 113). -/
def advertPages (adv : Nat) : List Nat :=
  (if bit adv 1 then [0x2008] else []) ++ (if adv % 32 / 4 = 0 then [] else [0x2009]) ++
    (if adv / 32 % 32 = 0 then [] else [0x200A])

/-- A negotiation starts with the advertisement ADV then gives (R241): with ALT off, no beacon window stays open (R242). -/
def State.startNegotiation (s : State) (q : Nat) : State :=
  let adv := s.g LSTD.ADV.SPEED q + 2 ^ 5 * s.g LSTD.ADV.EEE q + 2 ^ 10 * s.g LSTD.ADV.FR q +
    2 ^ 11 * s.g LSTD.ADV.MDIX q + 2 ^ 13 * s.g LSTD.ADV.ALT q
  ((s.clearLink q).refreshFill q).modStd q fun x =>
    { x with adv := adv, beacon := x.beacon && bit adv 13, pages := advertPages adv, inverted := 0, out := [] }

/-- The mode lands: status cleared, alternation from an AN window (R241, R242, R248). -/
def State.startStandard (s : State) (q : Nat) : State :=
  let s := (s.wr LSTD.STATUS.APSYN_SEEN 0 q).wr LSTD.STATUS.FLP_SEEN 0 q
  let s := s.modStd q fun x => { x with beacon := false, halted := false }
  (s.startNegotiation q).refreshQuad q

/-- The link is lost: counted, and negotiation starts again (R241, R242, R246). -/
def State.loseLink (s : State) (q : Nat) : State :=
  if s.g LSTD.STATUS.LINK q = 0 then s
  else
    let s := (s.bump LSTD.LINK_DOWN.COUNT q).pulse .lstd q 1
    let s := (s.wr LSTD.STATUS.FLP_SEEN 0 q).modStd q fun x => { x with halted := false }
    (s.startNegotiation q).refreshQuad q

/-- ADV.RESTART (R241): negotiation starts again; a link that was up goes down with it. -/
def State.restartNegotiation (s : State) (q : Nat) : State :=
  if (s.line q).st = .standard then
    if s.g LSTD.STATUS.LINK q = 1 then s.loseLink q else (s.startNegotiation q).refreshQuad q
  else s

/-- Act on the quad of a line in STANDARD mode. -/
def withQuad (l : Nat) (s : State) (f : State → State) : Answer :=
  withSignal l s fun s => when ((s.line (quadHead l)).st = .standard) f s

/-- The resolved speed of two sets of speeds: the highest common one, 0 for none (R241). -/
def commonSpeed (a b : Nat) : Nat :=
  ((List.range 5).filter fun i => bit a i && bit b i).foldl (fun _ i => i + 1) 0

/-- Master by priority resolution, this end a multiport device (R238, R241; the rule of Clauses 28 and 40 is PRESUMED, log 113): a
role that the partner insists on, else over a single-port device, else by the seeds. -/
def resolvedMaster (p : PartnerAbility) : Bool := p.manual == 2 || (p.manual != 1 && (!p.multiport || p.seedLow))

/-- The pages that answer a partner's message pages beyond those both ends need: null message pages (R241). -/
def answerPages (adv : Nat) (pages : List Nat) : List Nat :=
  (pages.filter fun m => m / 2 ^ 13 % 2 == 1 && !(advertPages adv).any (fun a => a % 2 ^ 11 == m % 2 ^ 11)).map fun _ => 0x2001

/-- Auto-negotiation completes with the partner's abilities (R241, R245, R246), or finds a partner without it, which is 100BASE-TX
(R238): pair swap and polarity are corrected at every speed. -/
def execAutonegComplete (l : Nat) (p : PartnerAbility) (s : State) : Answer :=
  withQuad l s fun s =>
    let q := quadHead l
    if s.g LSTD.STATUS.LINK q = 1 then s
    else
      let adv := (s.stdX q).adv
      let sp := commonSpeed (adv % 32) (if p.parallel then p.speeds % 2 else p.speeds)
      let s := (s.wr LSTD.STATUS.AN_DONE 1 q).wr LSTD.STATUS.SPEED sp q
      let mdix := adv / 2 ^ 11 % 4
      let s := (s.wr LSTD.STATUS.MASTER (bnat (resolvedMaster p && decide (2 ≤ sp))) q).wr LSTD.STATUS.MDIX
        (bnat (if mdix = 1 then false else if mdix = 2 then true else p.crossed)) q
      let s := s.wr LSTD.STATUS.EEE
        (bnat (sp != 0 && !p.parallel && bit (adv / 32) (sp - 1) && bit p.eee (sp - 1))) q
      let s := s.wr LSTD.STATUS.FR (bnat (decide (3 ≤ sp) && bit adv 10 && p.fastRetrain)) q
      let s := s.modStd q fun x => { x with inverted := p.inverted % 16, pages := x.pages ++ answerPages adv p.pages }
      let s := (s.wr LSTD.LP_ABIL.LP_BASE p.base q).wr LSTD.LP_ABIL.LP_EEE p.eeeWord q
      (s.wr LSTD.LP_MGBT.STAT p.mgbt q).pulse .lstd q 4

/-- The link comes up at the resolved speed (R240); alternation ends (R242). -/
def execStdLinkUp (l : Nat) (s : State) : Answer :=
  withQuad l s fun s =>
    let q := quadHead l
    when (s.g LSTD.STATUS.AN_DONE q == 1 && s.g LSTD.STATUS.SPEED q != 0 && s.g LSTD.STATUS.LINK q == 0)
      (fun s =>
        let s := (s.wr LSTD.STATUS.LINK 1 q).modStd q fun x => { x with beacon := false }
        ((s.pulse .lstd q 0).refreshQuad q).flushStd q) s

/-- Errored PCS blocks or symbols are counted (R248). -/
def State.countPcs (s : State) (q n : Nat) : State := s.bump LSTD.PCS_ERR.COUNT q n

/-- The link goes down (R246). -/
def execStdLinkDown (l pcs : Nat) (s : State) : Answer :=
  withQuad l s fun s => (s.countPcs (quadHead l) pcs).loseLink (quadHead l)

/-- A fast retrain (R246): one that does not complete in time drops the link. -/
def execStdFastRetrain (l : Nat) (ok : Bool) (pcs : Nat) (s : State) : Answer :=
  withQuad l s fun s =>
    let q := quadHead l
    when (s.g LSTD.STATUS.LINK q == 1 && s.g LSTD.STATUS.FR q == 1) (fun s =>
      let s := ((s.countPcs q pcs).bump LSTD.FR_COUNT.COUNT q).pulse .lstd q 2
      if ok then s else s.loseLink q) s

/-- The host starts or ends low-power idle on the slot; the blocks that waited meanwhile then go out (R245). -/
def execLpiEnter (l : Nat) (enter : Bool) (s : State) : Answer :=
  withQuad l s fun s =>
    let q := quadHead l
    when (s.g LSTD.STATUS.LINK q == 1 && s.g LSTD.STATUS.EEE q == 1) (fun s =>
      let s := if enter && s.g LSTD.STATUS.TX_LPI q == 0 then s.bump LSTD.LPI_TX.COUNT q else s
      (s.wr LSTD.STATUS.TX_LPI (bnat enter) q).flushStd q) s

/-- The partner enters or leaves low-power idle, which the host's slots carry on, perhaps with a wake error (R245, R249). -/
def execPartnerLpi (l : Nat) (enter wakeError : Bool) (s : State) : Answer :=
  withQuad l s fun s =>
    let q := quadHead l
    when (s.g LSTD.STATUS.LINK q == 1 && s.g LSTD.STATUS.EEE q == 1) (fun s =>
      let s := if enter && s.g LSTD.STATUS.RX_LPI q == 0 then s.bump LSTD.LPI_RX.COUNT q else s
      let s := (s.wr LSTD.STATUS.RX_LPI (bnat enter) q).refreshFill q
      if wakeError then (s.bump LSTD.WAKE_ERR.COUNT q).pulse .lstd q 5 else s) s

/-! ### Beacon alternation (R242 to R244) -/

/-- An AN window ends: the beacon window opens, and erasure with it (R242, R244). -/
def execAnWindowEnd (l : Nat) (s : State) : Answer :=
  withQuad l s fun s =>
    let q := quadHead l
    when (s.alternates q) (fun s =>
      let s := s.modStd q fun x => { x with beacon := true }
      (quadLines q).foldl (fun s m => s.startErasure (s.tag m)) s) s

/-- The beacon window ends: an AN window follows. -/
def execBeaconWindowEnd (l : Nat) (s : State) : Answer :=
  withQuad l s fun s => s.modStd (quadHead l) fun x => { x with beacon := false }

/-- A partner's burst is qualified: alternation stops (R242). -/
def execFlpQualified (l : Nat) (s : State) : Answer :=
  withQuad l s fun s =>
    let q := quadHead l
    let s := (s.wr LSTD.STATUS.FLP_SEEN 1 q).modStd q fun x => { x with halted := true, beacon := false }
    s.refreshQuad q

/-- 3 s without a qualified burst: alternation resumes (R242). -/
def execAltResumeTimeout (l : Nat) (s : State) : Answer :=
  withQuad l s fun s =>
    let q := quadHead l
    when (s.g LSTD.STATUS.LINK q == 0) (fun s =>
      (s.modStd q fun x => { x with halted := false }).refreshQuad q) s

/-! ### MMDs 1, 3 and 7 (R250) -/

/-- A register of MMD 1, 3 or 7 that R250 lists. -/
def mmdListed (mmd reg : Nat) : Bool :=
  match mmd with
  | 1 => [0, 1, 4, 129].contains reg
  | 3 => [0, 1, 20, 22, 32, 33].contains reg
  | 7 => [0, 1, 16, 19, 32, 33, 60, 61].contains reg
  | _ => false

/-- The bits of a register that LSTD holds, as a mask, and what they read (R250; their places in the registers of Clause 45 are
PRESUMED, log 113): link and negotiation status, the advertised speeds and EEE, and what the core is able to. -/
def State.mmdMapped (s : State) (q mmd reg : Nat) : Nat × Nat :=
  let speed := fun (i : Nat) => bnat (bit (s.g LSTD.ADV.SPEED q) i)
  let eee := fun (i : Nat) => bnat (bit (s.g LSTD.ADV.EEE q) i)
  let link := s.g LSTD.STATUS.LINK q
  match mmd, reg with
  | 1, 1 => (0x4, 4 * link)
  | 1, 4 => (0x6031, 0x6031)
  | 3, 1 => (0x4, 4 * link)
  | 3, 20 => (0xE, 0xE)
  | 3, 22 => (0xFFFF, s.g LSTD.WAKE_ERR.COUNT q % 2 ^ 16)
  | 3, 32 => (0x1000, 0x1000 * link)
  | 7, 1 => (0x24, 0x20 * s.g LSTD.STATUS.AN_DONE q + 4 * link)
  | 7, 16 => (0x1FF, 0x1 + 0x100 * speed 0)
  | 7, 19 => (0xFFFF, s.g LSTD.LP_ABIL.LP_BASE q)
  | 7, 32 => (0x3180, 0x2000 + 0x1000 * speed 4 + 0x100 * speed 3 + 0x80 * speed 2)
  | 7, 33 => (0xFFFF, s.g LSTD.LP_MGBT.STAT q)
  | 7, 60 => (0xE, 2 * eee 0 + 4 * eee 1 + 8 * eee 4)
  | 7, 61 => (0xFFFF, s.g LSTD.LP_ABIL.LP_EEE q)
  | _, _ => (0, 0)

/-- What a read of such a register returns on a port: LSTD's bits; the others are the BASE-T core's own, free values (log 4). -/
def State.mmdRead (s : State) (p mmd reg : Nat) : Nat × State :=
  let q := quadHead p
  if (s.line q).st != .standard || !mmdListed mmd reg then (0, s)
  else
    let m := s.mmdMapped q mmd reg
    if m.1 = 0xFFFF then (m.2, s)
    else
      let d := s.draw
      ((Config.freeWord d.1 (mmd * 65536 + reg) % 2 ^ 16 &&& (0xFFFF - m.1)) ||| m.2, d.2)

/-- Bits of ADV.SPEED or ADV.EEE, each from its bit of a written word. -/
def State.advertise (s : State) (q : Nat) (F : Fld) (v : Nat) (from' : List (Nat × Nat)) : State :=
  s.wr F (from'.foldl (fun n e => if bit v e.2 then n ||| 2 ^ e.1 else n &&& (0x1F - 2 ^ e.1)) (s.g F q)) q

/-- A write: the reset of 1.0 and the restart of 7.0 restart negotiation; the advertisements of 7.16, 7.32 and 7.60 are those of
ADV (R250; PRESUMED, IEEE 802.3: bit 15 of 1.0, bit 9 of 7.0, the places as for a read, log 113). -/
def State.mmdWrite (s : State) (p mmd reg v : Nat) : State :=
  let q := quadHead p
  if (s.line q).st != .standard then s
  else match mmd, reg with
  | 1, 0 => if bit v 15 then s.restartNegotiation q else s
  | 7, 0 => if bit v 9 then s.restartNegotiation q else s
  | 7, 16 => s.advertise q LSTD.ADV.SPEED v [(0, 8)]
  | 7, 32 => s.advertise q LSTD.ADV.SPEED v [(4, 12), (3, 8), (2, 7)]
  | 7, 60 => s.advertise q LSTD.ADV.EEE v [(0, 1), (1, 2), (4, 3)]
  | _, _ => s

end Sys2Proof.Machine
end

