-- ==== Sys2Proof/Machine/Reset.lean ====
section
/-! DEFINITION. Resets of the device: what RESET_N, REBOOT, a rail trip and HEARTH keep (R10, R305, R312,
R341, R372, R373), and the start of a cold start (R285). -/

namespace Sys2Proof.Machine

/-- The kinds of reset. -/
inductive ResetKind where
  | resetN | reboot | railTrip | hearth | vh
  deriving DecidableEq, Repr

/-- Carry fields over a reset: every word of the fields of instance i. -/
def State.carry (new old : State) (i : Nat) (fs : List Fld) : State :=
  fs.foldl (fun s F => (List.range F.cnt).foldl (fun s j => s.wr F (old.g F i j) i j) s) new

/-- The fields that a REBOOT keeps on the FAULT page (R312, R323). -/
def faultKept : List Fld :=
  [FAULT.REC_HDR.VALID, FAULT.REC_HDR.INJECTED, FAULT.REC_HDR.REAL, FAULT.REC_HDR.CLASS, FAULT.REC_HDR.CODE,
   FAULT.REC_HDR.SEQ, FAULT.REC_SRC.MERGE, FAULT.REC_SRC.MASTER, FAULT.REC_SRC.ACCESS, FAULT.REC_SRC.SOURCE,
   FAULT.REC_ADDR.ADDR, FAULT.REC_PM0.NS, FAULT.REC_PM1.SEC, FAULT.REC_PM2.SECH, FAULT.REC_PM2.FRAC,
   FAULT.COMPANION_F.MAP, FAULT.COMPANION_L.MAP, FAULT.COUNT_S.COUNT, FAULT.FENCED.COUNT]

/-- What flash and OTP hold (R330, R333, R335, R338, R346 to R348, R360). -/
def TrustX.persist (x : TrustX) : TrustX :=
  { lifecycle := x.lifecycle, svn := x.svn, slots := x.slots, prefer := x.prefer, trial := x.trial,
    bootCount := x.bootCount, images := x.images, bootParcel := x.bootParcel, attestNext := x.attestEnd,
    attestEnd := x.attestEnd }

/-- The device after a reset: every register at its R10 value but what the kind of reset keeps; the
commands that wait stay.  The trim loop of the hearth loses its source (R275), and GLOW's
freeze and FAULT_N stay but for RESET_N and REBOOT (R321, R322).  TXCLR_N is a pin and keeps its level. -/
def State.deviceReset (s : State) (k : ResetKind) : State :=
  let s := if k = .vh then s else (s.holdTrim 1).holdTrim 2
  let new : State :=
    { State.reset with
      pending := s.pending
      free := s.free + 3
      trust := s.trust.persist
      mgmt := { sessions := freshSessions s.free }
      clk := { rails := s.clk.rails, resetHeld := s.clk.resetHeld,
               trimCode := if k = .vh then none else s.clk.trimCode,
               trimState := if k = .vh then 0 else s.clk.trimState }
      fault := match k with
        | .reboot => { nextSeq := s.fault.nextSeq }
        | .railTrip | .hearth => { s3 := s.fault.s3, faultN := s.fault.faultN, glowFrozen := s.fault.glowFrozen }
        | _ => {} }
  let new := new.wr CALMGR.STAT.TXCLR (s.g CALMGR.STAT.TXCLR)
  let new := if k = .reboot then new.carry s 0 faultKept else new
  let new := if k = .vh then new
    else
      let new := (new.carry s 0 (pageFields .hearth)).wr HEARTH.PSTATE.REQ 0
      let new := (List.range 3).foldl (fun n c => n.carry s c [SESSION.STAT.FAILS, SESSION.STAT.LOCK_LEFT]) new
      new.refreshSource (eventSourceOf .hearth 0 false)
  if k = .railTrip ∨ k = .hearth then
    (List.range 3).foldl (fun n c =>
      if (s.session c).isOpen then n.wr SESSION.STAT.CLOSED_BY 5 c else n) new
  else new

/-- Every rail is good. -/
def State.railsGood (s : State) : Bool := (List.range 8).all s.clk.rails.contains

/-- CMUX goes to GATED: the control domain has no clock (R279, R284, R285). -/
def State.gateControl (s : State) : State :=
  let s := s.modClk fun x => { x with running := false }
  if s.clk.csrc = .gated then s else (s.modClk fun x => { x with csrc := .gated }).pulse .clocks 0 3

/-- A cold start begins (R285 step 1): KOSC enabled, judgement of REFCLK started, CMUX GATED. -/
def State.coldStart (s : State) : State :=
  let s := s.modTrust fun x => { x with bootCount := satAdd 32 x.bootCount 1 }
  (s.modClk fun x =>
    { x with kosc := .starting, koscPasses := 0, ref := .judging, coldStep := 1, resetHeld := false }).gateControl

end Sys2Proof.Machine
end

