-- ==== Sys2Proof/Machine/Clocks.lean ====
section
/-! DEFINITION. Oscillators, the reference, PLLs, the clock multiplexers and FREQMON, the cold start and
the POSTMARK counter (R274 to R287). -/

namespace Sys2Proof.Machine

/-! ### The multiplexers (R279 to R282) -/

/-- SPLL is available. -/
def State.spllUp (s : State) : Bool := s.locked 0 && !s.clk.spllTripped

/-- The source CMUX takes while the control domain runs (R279, R280). -/
def State.cmuxWant (s : State) : ClkSrc :=
  if !s.clk.running then .gated
  else if s.spllUp then .spll
  else if s.clk.kosc = .good then .kosc
  else if s.clk.holdKosc then .gated
  else .hosc

def State.reduced (s : State) : Bool := s.clk.running && s.clk.csrc = .hosc

/-- Entering the reduced state (R281): Stoker halts, letterbox commands end, in-band management stops. -/
def State.enterReduced (s : State) : State :=
  let s := s.abortLetterbox
  let s := s.modMgmt fun m => { m with lbLease := none, ibQueue := [] }
  s.pulse .clocks 0 5

/-- CMUX moves to the source it should take, with what leaving or entering HOSC does. -/
def State.refreshCmux (s : State) : State :=
  let want := s.cmuxWant
  let old := s.clk.csrc
  if want = old then s
  else
    let s := (s.modClk fun x => { x with csrc := want }).pulse .clocks 0 3
    if want = .hosc then s.enterReduced
    else if old = .hosc && want != .gated then s.restartStoker
    else s

/-- SUSPECT rises with its event (R282, R286, R287). -/
def State.setSuspect (s : State) : State :=
  if s.time.suspect then s
  else ({ s with time := { s.time with suspect := true } }).pulse .timebase 0 2

/-- TMUX: SPLL while available, REFCLK in EMBER while good, KOSC once SPLL has run and is lost (R286, R301). -/
def State.refreshTmux (s : State) : State :=
  if s.spllUp then s.modClk fun x => { x with tsrc := 0 }
  else if s.pwr.state = 2 ∧ s.clk.ref = .good then s.modClk fun x => { x with tsrc := 1 }
  else if s.clk.kosc = .good && decide (4 ≤ s.clk.coldStep) then
    (s.modClk fun x => { x with tsrc := 2 }).setSuspect
  else s

/-- The source of the POSTMARK counter runs. -/
def State.timeRuns (s : State) : Bool :=
  match s.clk.tsrc with
  | 0 => s.spllUp
  | 1 => s.clk.ref = .good
  | _ => s.clk.kosc = .good

def State.refreshClocks (s : State) : State := s.refreshTmux.refreshCmux

/-- REFCLK_LOST is recorded (R279). -/
def State.referenceLost (s : State) : State := (s.faultS2Unit 0x05 5 0).pulse .clocks 0 1

/-- SPLL becomes unavailable (R279, R280). -/
def State.loseSpll (s : State) : State :=
  if s.clk.csrc = .spll then
    if s.clk.kosc = .starting then (s.modClk fun x => { x with holdKosc := true }).refreshClocks
    else s.refreshClocks.referenceLost
  else s.refreshClocks

/-! ### PLLs (R278) -/

/-- Start PLLs that are not running: only while REFCLK is good. -/
def State.startPlls (s : State) (ps : List Nat) : State :=
  if s.clk.ref = .good then
    s.modClk fun x => { x with started := x.started ++ ps.filter fun p => !x.started.contains p }
  else s

/-- The PLLs that follow SPLL: XPLL, the CPLLs of clusters that are neither isolated nor gated, LPLL. -/
def State.otherPlls (s : State) : List Nat :=
  [1] ++ ((List.range 4).filter fun c => !s.fault.isolated.contains (32 + c) && !s.pwr.gated.contains c).map
    (2 + ·) ++ [6]

/-- A PLL loses lock (R254, R278, R279). -/
def State.unlockPll (s : State) (p : Nat) : State :=
  if !s.locked p then s
  else
    let s := s.modClk fun x => { x with locked := x.locked.filter (· != p) }
    let s := s.pulse .clocks 0 6
    if p = 0 then s.loseSpll
    else if p = 6 then
      (List.range 32).foldl (fun s l =>
        if s.laneState l = laneActive then
          ((s.bump LANE.LOL_COUNT.COUNT l).wr LANE.STATUS.LOL 1 l).loseLane l 2 9 else s) s
    else if 2 ≤ p ∧ s.pwr.state = 0 ∧ !s.pwr.waking then s.raiseS2 0x09 (30 + p) 0
    else s

/-- A cluster's sample clock runs: power-up calibrations start, its lines take their start states where
they were cut out or gated, its lanes start (R218, R297, R311). -/
def State.clusterUp (s : State) (c : Nat) : State :=
  let s := s.startPowerup c
  let s := (clusterLines c).foldl (fun s l =>
    let x := s.line l
    if (x.st = .faulted ∨ (x.st = .off ∧ s.mode l ≠ 0)) && !s.fault.isolated.contains (128 + l) && !x.ocHeld
    then s.resumeLine l else s) s
  (clusterLanes c).foldl (fun s l => if s.laneState l = laneOff then s.startLane l else s) s

/-- A PLL locks (R278, R285): SPLL takes the control domain and starts the others, XPLL at 0.40 GHz with no body bias and
write assist on in a cold start; locking also ends a monitor trip (R279). -/
def execPllLock (p : Nat) (s : State) : Answer :=
  if 7 ≤ p then .fault (.noSuchPart "PLL" p)
  else if s.clk.ref != .good || !s.clk.started.contains p || s.locked p then .next s
  else
    let s := s.modClk fun x => { x with locked := insertSorted p x.locked }
    if p = 0 then
      let s := if s.clk.coldStep < 4 then
          (s.modLvl fun x => { x with coldRead := true, clock := vxClock 3, bias := 0, assist := true }).writeSlew
        else s
      let s := s.modClk fun x =>
        { x with spllTripped := false, holdKosc := false, running := true, coldStep := max 4 x.coldStep }
      let s := s.modFault fun x => { x with watchdogArmed := true }
      .next (s.refreshClocks.startPlls s.otherPlls)
    else if p = 6 then
      .next ((List.range 32).foldl (fun s l => if s.laneState l = laneOff then s.startLane l else s) s)
    else if 2 ≤ p then (if s.pwr.waking then .next s else .next (s.clusterUp (p - 2)))
    else .next s

/-- A PLL's lock indication falls. -/
def execPllUnlock (p : Nat) (s : State) : Answer :=
  if 7 ≤ p then .fault (.noSuchPart "PLL" p) else .next (s.unlockPll p)

/-- The SPLL monitor trips on its count (R279). -/
def execSpllMonitorTrip (s : State) : Answer :=
  if s.spllUp then .next ((s.modClk fun x => { x with spllTripped := true }).loseSpll) else .next s

/-- A CPLL restarted for a cluster has not locked within 80 µs: CPLL_UNLOCK again, isolated again
(R311). -/
def execCpllRelockTimeout (c : Nat) (s : State) : Answer :=
  match onCluster c s with
  | .next s =>
    if s.clk.started.contains (2 + c) && !s.locked (2 + c) && !s.fault.isolated.contains (32 + c) then
      .next (s.raiseS2 0x09 (32 + c) 0)
    else .next s
  | o => o

/-! ### HOSC and its trim (R275) -/

/-- The trim source selected is present: REFCLK judged good, or SYNC_IN locked. -/
def State.trimSource (s : State) : Bool :=
  (s.g HEARTH.TRIM.SRC == 1 && s.clk.ref = .good && decide (s.pwr.state ≤ 2)) ||
    (s.g HEARTH.TRIM.SRC == 2 && s.g SYNC.STAT.LOCKED == 1 && decide (s.pwr.state ≤ 1))

/-- The nominal HOSC count of a trim window. -/
def trimNominal (src : Nat) : Rat := if src = 1 then 2 ^ 40 / 156250000 else 512 * (9 / 400000) * 1048576

/-- The deviation of a count in 0.01 %, to the nearest. -/
def deviation (count : Nat) (nominal : Rat) : Int := ((count / nominal - 1) * 10000 + 1 / 2).floor

/-- A trim window ends (R275): a deviation beyond 0.1 % moves the code by one step against it; TRIMMED stands from the first
window that needs no step until the source is lost. -/
def execTrimWindowEnd (count : Nat) (s : State) : Answer :=
  if !s.trimSource then .next s
  else
    let nominal := trimNominal (s.g HEARTH.TRIM.SRC)
    let s := s.wr HEARTH.TRIM.DEV (ofSigned 8 (clampInt (-128) 127 (deviation count nominal)))
    let code := s.clk.trimCode.getD Config.hoscFactory
    let c : Rat := count
    if c * 1000 > nominal * 1001 then
      .next (s.modClk fun x => { x with trimCode := some (clampInt (-128) 127 (code - 1)), trimState := if x.trimState = 2 then 2 else 1 })
    else if c * 1000 < nominal * 999 then
      .next (s.modClk fun x => { x with trimCode := some (clampInt (-128) 127 (code + 1)), trimState := if x.trimState = 2 then 2 else 1 })
    else .next (s.modClk fun x => { x with trimState := 2 })

/-! ### KOSC (R276, R280) -/

/-- The control domain gets its first clock, or a hold ends: Stoker runs, and the watchdog is armed when it
first does (R285 step 2, R320). -/
def State.koscGood (s : State) : State :=
  let s := s.modClk fun x => { x with kosc := .good, holdKosc := false, koscPasses := 0 }
  let s := if s.clk.coldStep = 1 then
      (s.modClk fun x => { x with running := true, coldStep := 2 }).modFault fun x => { x with watchdogArmed := true }
    else s
  s.refreshClocks

/-- KOSC fails: KOSC_FAIL with the deviation; a hold in progress ends on HOSC with CLOCK_FALLBACK. -/
def State.koscBad (s : State) : State :=
  let held := s.clk.holdKosc
  let s := s.modClk fun x => { x with kosc := .bad, koscPasses := 0, holdKosc := false }
  let s := s.refreshClocks.pulse .clocks 0 2
  let s := s.faultS2Unit 0x04 5 (s.g CLOCKS.KOSC_DEV.DEV)
  if held then s.faultS2Unit 0x07 5 1 else s

/-- A window of 256 HOSC cycles ends with a KOSC count (R276). -/
def execKoscWindowEnd (count : Nat) (s : State) : Answer :=
  if s.clk.kosc = .off then .next s
  else
    let dev : Int := ((4 * (count : Int) - 390625) * 16 * 2 + 625) / 1250
    let s := s.wr CLOCKS.KOSC_DEV.DEV (ofSigned 16 (clampInt (-32768) 32767 dev))
    let pass := decide (91797 ≤ count ∧ count ≤ 103516)
    match s.clk.kosc, pass with
    | .starting, true => .next s.koscGood
    | .starting, false => .next s.koscBad
    | .good, false => .next s.koscBad
    | .bad, true =>
      if s.clk.koscPasses + 1 ≥ 4 then .next s.koscGood
      else .next (s.modClk fun x => { x with koscPasses := x.koscPasses + 1 })
    | .bad, false => .next (s.modClk fun x => { x with koscPasses := 0 })
    | _, _ => .next s

/-- No oscillation within 20 µs (R276). -/
def execKoscStartTimeout (s : State) : Answer :=
  if s.clk.kosc = .starting then .next s.koscBad else .next s

/-- The hold of R280 expires with KOSC still STARTING: HOSC, CLOCK_FALLBACK with KOSC_LATE. -/
def execKoscHoldExpire (s : State) : Answer :=
  if s.clk.holdKosc then
    .next (((s.modClk fun x => { x with holdKosc := false }).refreshClocks).faultS2Unit 0x07 5 2)
  else .next s

/-! ### REFCLK (R277) -/

/-- The missing-edge detector trips: REFCLK is bad at once, and its judgement restarts at the next edge, which no command
shows (log 73); every PLL loses lock. -/
def execRefclkTrip (s : State) : Answer :=
  let s := s.bump CLOCKS.REFJUDGE.TRIPS
  let s := s.modClk fun x => { x with ref := .absent, started := [] }
  let s := s.holdTrim 1
  .next ((List.range 7).foldl (fun s p => s.unlockPll p) s)

/-- 65,536 clean cycles: REFCLK is good, and PLLs may start (R277, R285 step 3). -/
def execRefclkGood (s : State) : Answer :=
  if s.clk.resetHeld ∨ s.pwr.state = 3 then .next s
  else
  let s := s.modClk fun x => { x with ref := .good }
  if s.pwr.state ≤ 1 ∨ s.pwr.waking then
    let s := s.startPlls [0]
    .next (if s.spllUp then s.startPlls s.otherPlls else s).refreshTmux
  else .next s.refreshTmux

/-- 10 ms from reset without a good REFCLK (R285). -/
def execRefclkAbsentTimeout (s : State) : Answer :=
  if s.clk.ref = .good || s.clk.absentJudged || s.clk.coldStep = 0 then .next s
  else .next ((s.modClk fun x => { x with absentJudged := true }).faultS2Unit 0x06 5 0)

/-! ### Hung multiplexers (R282) -/

/-- A change of CMUX (0) or TMUX (1) is forced. -/
def execMuxHang (mux : Nat) (s : State) : Answer :=
  if mux = 0 then
    let s := ((s.bump CLOCKS.HANGS.CMUX).pulse .clocks 0 4).restartStoker
    .next (s.noteS1 0x08 5 0)
  else if mux = 1 then
    let s := ((s.bump CLOCKS.HANGS.TMUX).pulse .clocks 0 4).setSuspect
    .next (s.noteS1 0x08 5 1)
  else .fault (.noSuchPart "multiplexer" mux)

/-! ### FREQMON (R283) -/

/-- The nominal frequency of a clock code in Hz: XPLL at the level in effect; 0 for MSPI_SCK and MDC. -/
def State.fmNominal (s : State) (code : Nat) : Nat :=
  match code with
  | 0 => 1048576 | 1 => 400000000 | 2 => 156250000 | 3 => 800000000
  | 4 => vxClock s.lvl.level * 10000000 | 5 | 6 | 7 | 8 => 1638400000 | 9 => 12890625000 | _ => 0

/-- A measurement's result lands (R48, R283). -/
def State.landFreqmon (s : State) (reason count hz : Nat) : State :=
  let s := (s.wr CLOCKS.FM_STAT.REASON reason).wr CLOCKS.FM_COUNT_LO.COUNT (count % 2 ^ 32)
  let s := (s.wr CLOCKS.FM_COUNT_HI.COUNT (count / 2 ^ 32 % 2 ^ 8)).wr CLOCKS.FM_FREQ.HZ (min hz (2 ^ 32 - 1))
  ((s.modClk fun x => { x with fm := none }).landResult .clocks 0).pulse .clocks 0 0

/-- A request (R283): REF without a nominal frequency completes at once with BAD_REF; no such code counts
as such too (log 30).  Its count and frequency are free values. -/
def State.startFreqmon (s : State) : State :=
  let ref := s.g CLOCKS.FM_CTRL.REF
  let s := s.beginResult .clocks 0
  if 10 ≤ ref then
    let d := s.draw
    d.2.landFreqmon 2 (Config.freeWord d.1 0 % 2 ^ 40) (Config.freeWord d.1 1 % 2 ^ 32)
  else s.modClk fun x => { x with fm := some (ref, clampNat 10 24 (s.g CLOCKS.FM_CTRL.GATE)) }

/-- The gate ends. -/
def execFreqmonDone (count : Nat) (s : State) : Answer :=
  match s.clk.fm with
  | some (ref, gate) => .next (s.landFreqmon 0 (min count (2 ^ 40 - 1)) (count * s.fmNominal ref / 2 ^ gate))
  | none => .next s

/-- REF shows no edge for 64 HOSC cycles: the count and the frequency are free values. -/
def execFreqmonRefStopped (s : State) : Answer :=
  match s.clk.fm with
  | some _ =>
    let d := s.draw
    .next (d.2.landFreqmon 1 (Config.freeWord d.1 0 % 2 ^ 40) (Config.freeWord d.1 1 % 2 ^ 32))
  | none => .next s

/-! ### Reset (R285, R371 to R373) -/

/-- RESET_N is released: a cold start where every rail is good. -/
def execResetNRelease (s : State) : Answer :=
  if s.clk.resetHeld then
    if s.railsGood then .next s.coldStart else .next (s.modClk fun x => { x with resetHeld := false })
  else .next s

/-- RESET_N low for a time: below 100 ns ignored, from 1 µs a reset, between them either (R373). -/
def execResetNAssert (ns : Nat) (s : State) : Answer :=
  let d := s.draw
  if 1000 ≤ ns ∨ (100 ≤ ns ∧ Config.freeBit d.1) then
    .next ((d.2.deviceReset .resetN).modClk fun x => { x with resetHeld := true })
  else .next d.2

/-! ### The POSTMARK counter (R286) -/

/-- Advance the counter by an amount in 2^-32 of 1/256 ns; a rollover of the seconds raises PPS_OUT. -/
def State.advanceTime (s : State) (n : Int) : State :=
  let t := s.time
  let total : Int := ((t.ns * 256 + t.frac : Nat) : Int) * 2 ^ 32 + t.sub + n
  let unit : Int := 10 ^ 9 * 256 * 2 ^ 32
  let sec : Int := t.sec + total / unit
  let rest := (total % unit).toNat
  let t := { t with sec := (sec % 2 ^ 48).toNat, ns := rest / 2 ^ 40, frac := rest / 2 ^ 32 % 256,
                    sub := rest % 2 ^ 32,
                    ppsOut := t.ppsOut || (decide (0 < total / unit) && s.g TIMEBASE.CTRL.PPS_OUT_EN == 1) }
  { s with time := t }

/-- The increment of one cycle of the TMUX source, in 2^-32 of 1/256 ns (R286); 1,638.4 + 5.12 × RATE is
cut to a whole step (DESIGN CHOICE, log 102). -/
def State.cycleStep (s : State) : Int :=
  let r := toSigned 32 (s.g TIMEBASE.RATE.RATE)
  match s.clk.tsrc with
  | 0 => 320 * 2 ^ 32 + r
  | 1 => (16384 * 2 ^ 32 * 10 + 512 * r) / 100
  | _ => 640 * 2 ^ 32 + 2 * r

/-- One cycle of the POSTMARK counter's source (log 12). -/
def State.timeTick (s : State) : State := if s.timeRuns then s.advanceTime s.cycleStep else s

/-- A SET lands: the time is loaded and VALID (R286). -/
def State.landSet (s : State) : State :=
  let t := s.time
  let t := { t with ns := s.g TIMEBASE.SET_NS.NS, frac := 0, sub := 0, valid := true, suspect := false,
                    setArmed := false,
                    sec := s.g TIMEBASE.SET_SEC_HI.SEC * 2 ^ 32 + s.g TIMEBASE.SET_SEC_LO.SEC }
  ({ s with time := t }).pulse .timebase 0 1

/-- An ADD: the signed offset is added (R286). -/
def State.landAdd (s : State) : State :=
  let s := s.advanceTime (toSigned 32 (s.g TIMEBASE.OFFSET.NS) * 256 * 2 ^ 32)
  { s with time := { s.time with suspect := false } }

/-- A rising edge of PPS_IN: captured, and an armed SET lands (R286). -/
def execPpsInEdge (s : State) : Answer :=
  let s := (s.capture TIMEBASE.PPSIN0.NS TIMEBASE.PPSIN1.SEC TIMEBASE.PPSIN2.SECH TIMEBASE.PPSIN2.FRAC).pulse
    .timebase 0 0
  .next (if s.time.setArmed then s.landSet else s)

/-- PPS_OUT falls after its width (R286). -/
def execPpsOutFall (s : State) : Answer := .next { s with time := { s.time with ppsOut := false } }

end Sys2Proof.Machine
end

