-- ==== Sys2Proof/Machine/Perf.lean ====
section
/-! DEFINITION. Performance levels, VX and the Damper (R108 to R113, R288 to R296). -/

namespace Sys2Proof.Machine

/-! ### The level to reach -/

/-- The lower of TARGET and the cap; P3 in DOZE and on the way out of RUN (R293, R297, R298). -/
def State.levelGoal (s : State) : Nat :=
  max (max (s.g PERF.CTRL.TARGET) s.lvl.cap)
    (if s.pwr.doze || s.pwr.state != 0 || decide (3 ≤ s.pwr.stage) then 3 else 0)

/-! ### Prediction of R109 -/

/-- The fine gain a line receives on a tone: 1.0 where the tail trains, else its upstream table's, or a monitor tone's (R109,
R139). -/
def State.rxGain (s : State) (l k : Nat) : Rat :=
  let e := (s.line l).rxTable.get 0 k
  if sendsAtOne (s.line l).st then (if s.trainMasked l k then 0 else 1)
  else if s.masked l k then 0 else if entryBits e = 0 then gainOf monitorGain else gainOf (entryGain e)

/-- 1/SNR' upstream of a tone that stops being vectored. -/
def State.upInverse (s : State) (v k : Nat) : Rat :=
  powerRatio 32 (-(s.g LLOAD.TONE.SNR v k : Int)) +
    ((s.activeLines.filter (· != v)).map fun d =>
      let f := ((s.coef 1 k v d).mul (s.feq v k)).div (s.feq d k)
      let n := (s.coef 0 k v d).mul (s.feq v k)
      f.normSq * s.rxGain d k ^ 2 + n.normSq * s.fineGain d k ^ 2).foldl (· + ·) 0

/-- 1/SNR' downstream. -/
def State.downInverse (s : State) (v k : Nat) : Rat :=
  powerRatio 10 (-(gammaOf (entryBits ((s.line v).txTable.get 0 k)) + s.marginTarget v : Nat)) +
    ((s.activeLines.filter (· != v)).map fun d =>
      (s.coef 2 k v d).normSq * s.fineGain d k ^ 2).foldl (· + ·) 0

/-- The tones that stop being vectored between two depths. -/
def lostTones (old new : Nat) : List Nat := ((List.range 128).filter fun k => decide (new < k ∧ k ≤ old))

/-- The unvectored loading of one direction: loaded tones only, by the loading rule on SNR'_k less 20 log10 g_k (R109, R141). -/
def State.unvectored (s : State) (v : Nat) (ks : List Nat) (t : Store Nat) (inverse : Nat → Rat) : Store Nat :=
  (ks.filter fun k => entryBits (t.get 0 k) != 0).foldl (fun t k =>
    t.set 0 k (loadTone (decibels 160 (1 / inverse k) - gainLevel (entryGain (t.get 0 k))) (s.marginTarget v) (s.maxBits v)
      (s.masked v k) (s.erased v k))) t

/-- A V-head line in SHOWTIME with a loaded tone among those that stop being vectored (R110 step 1). -/
def State.losesVectoring (s : State) (ks : List Nat) (l : Nat) : Bool :=
  s.isVHead l && (s.line l).st = .showtime && ks.any fun k =>
    entryBits ((s.line l).rxTable.get 0 k) != 0 || entryBits ((s.line l).txTable.get 0 k) != 0

/-- Propose the unvectored loading of a line for superframe `target`. -/
def State.unvector (s : State) (ks : List Nat) (target l : Nat) : State :=
  let x := s.line l
  s.reload l target (s.unvectored l ks x.rxTable (s.upInverse l)) (s.unvectored l ks x.txTable (s.downInverse l))

/-! ### Starting a change -/

/-- A change toward a level begins: down by proposals (R110 step 1), up by VX (R291). -/
def State.beginChange (s : State) (g : Nat) : State :=
  let s := s.wr PERF.STAT.EMERGENCY 0
  if s.lvl.level < g then
    let ks := lostTones s.lvl.nv (nvOf g)
    let ls := allLines.filter (s.losesVectoring ks)
    let s := s.modLvl fun x =>
      { x with going := g, phase := .proposing, tries := 0, refused := ls,
               reproposed := ls.isEmpty, landSfc := if ls.isEmpty then s.sfc else sfcAdd s.sfc 4 }
    ls.foldl (fun s l => s.unvector ks (sfcAdd s.sfc 4) l) s
  else
    (s.modLvl fun x => { x with going := g, phase := .vxUp, tries := 0 }).writeVx (vxMilliVolt g)

/-- Move toward the goal where nothing is in progress: a change waits for a running join (R113), no upward
change after AVS_FAIL (R292). -/
def State.startLevel (s : State) : State :=
  if (s.lvl.phase != .idle && s.lvl.phase != .waiting) || s.lvl.coldRead || s.fault.s3 || !s.controlRunning ||
      s.pwr.waking || decide (2 ≤ s.pwr.state) then s
  else
    let g := s.levelGoal
    if g = s.lvl.level ∨ (g < s.lvl.level ∧ s.lvl.avsFail) then
      s.modLvl fun x => { x with phase := .idle, going := x.level }
    else if s.xe.join.isSome then s.modLvl fun x => { x with phase := .waiting, going := g }
    else s.beginChange g

/-- A Damper step: the cap goes one below the level in effect; it waits for a running sequence (R293). -/
def State.damperStep (s : State) : State :=
  if s.lvl.phase != .idle && s.lvl.phase != .waiting then s.modLvl fun x => { x with stepWanted := true }
  else if 3 ≤ s.lvl.level then s
  else
    let s := s.modLvl fun x => { x with cap := max x.cap (x.level + 1), stepWanted := false }
    ((s.bump THERMAL.DAMPER.STEPS).pulse .thermal 0 1).startLevel

/-- A change is over at the level shown: LEVEL_CHANGED, then a step that waited, and what is still to do. -/
def State.levelDone (s : State) : State :=
  let s := (s.refreshPorts).pulse .perf 0 0
  (if s.lvl.stepWanted then (s.modLvl fun x => { x with stepWanted := false }).damperStep else s).startLevel

/-! ### The steps of a change -/

/-- Superframe S: the lines whose change was refused are proposed once more, for S + 4 (R110 step 4). -/
def execLevelRepropose (s : State) : Answer :=
  let x := s.lvl
  if x.phase = .proposing ∧ !x.reproposed ∧ s.sfc = x.landSfc then
    let ks := lostTones x.nv (nvOf x.going)
    let ls := x.refused.filter fun l =>
      s.losesVectoring ks l && ((s.line l).newRx.isSome || (s.line l).newTx.isSome)
    let s := s.modLvl fun x =>
      { x with reproposed := true, refused := ls, landSfc := if ls.isEmpty then x.landSfc else sfcAdd s.sfc 4 }
    .next (ls.foldl (fun s l => s.unvector ks (sfcAdd s.sfc 4) l) s)
  else .next s

/-- NORM of the tones above a depth becomes 1.0 (R110 step 5). -/
def State.unityNorm (s : State) (nv : Nat) : State :=
  (lostTones 127 nv).foldl (fun s k => s.wr XENGINE.NORM.NORM 0x8000 0 k) s

/-- Recoveries of FXU and PRD entries above NV end at once: their tones wait for a landing (R112, R114). -/
def State.endAbove (s : State) (nv : Nat) : State :=
  let gone := s.xe.awaiting.filter fun e => decide (nv < e / 2 ^ 14 % 128)
  ({ s with xe := { s.xe with
      awaiting := s.xe.awaiting.filter fun e => !decide (nv < e / 2 ^ 14 % 128),
      freshTones := gone.foldl (fun m e => insertSorted (e / 2 ^ 14 % 128) m) s.xe.freshTones } } : State).recoveryCheck

/-- NV falls (R110 step 5, R111): a running join fails in an emergency, loading exchanges restart with the
new NV, and the clock, write assist, bias and VX go down (R290). -/
def execNvDownLand (s : State) : Answer :=
  let x := s.lvl
  let due := (x.phase = .proposing && sfcCome (sfcAdd x.landSfc 1) s.sfc) ||
    (x.phase = .nvWait && sfcCome x.landSfc s.sfc)
  if due then
    let s := if x.phase = .nvWait then s.failJoin [] else s
    let nv := nvOf x.going
    let s := (s.modLvl fun x => { x with nv := nv, phase := .vxDown, tries := 0, refused := [] }).slowTo x.going
    let s := (((s.unityNorm nv).endAbove nv).pulse .xengine 0 2).refreshPorts
    .next ((allLines.filter fun l => s.isVHead l && (s.line l).st = .loading).foldl (fun s l => s.authorTable l) s)
  else .next s

/-- NORM of the tones that become vectored takes its value (R92, R112). -/
def State.vectorNorm (s : State) (ks : List Nat) : State :=
  ks.foldl (fun s k => s.wr XENGINE.NORM.NORM (normTarget (s.rhoMax k)) 0 k) s

/-- NV rises at the superframe boundary after the clock (R112, R291): stored entries apply again, and rate
adaptation waits for each group's landing. -/
def execNvUpLand (s : State) : Answer :=
  let x := s.lvl
  if x.phase = .nvUpWait ∧ sfcCome x.landSfc s.sfc then
    let nv := nvOf x.going
    let ks := lostTones nv x.nv
    let s := s.modLvl fun x => { x with nv := nv, level := x.going, phase := .idle }
    let s := { s with xe := { s.xe with nvSince := s.sfc,
                                         freshTones := ks.foldl (fun l k => insertSorted k l) s.xe.freshTones } }
    .next ((s.vectorNorm ks).pulse .xengine 0 2).levelDone
  else .next s

/-- Millivolts within 10 of a target. -/
def nearMv (mv target : Nat) : Bool := decide (mv ≤ target + 10 ∧ target ≤ mv + 10)

/-- A VX read (R289): at the target it is confirmed, and the change goes on (R290, R291); the cold start's
first read accepts 0.58 to 0.82 V (R285 step 5), a wake's reads 0.58 V (R301); its failed exchanges count (R289). -/
def execVxConfirmed (r : VxRead) (s : State) : Answer :=
  if !s.controlRunning then .next s
  else
    let s := (s.bump PERF.AVS_ERR.COUNT 0 r.fails).wr PERF.VX.MV r.mv
    if s.pwr.waking then .next (if nearMv r.mv 580 then s.modPwr fun x => { x with vxReady := true } else s)
    else if s.lvl.coldRead then
      if 580 ≤ r.mv ∧ r.mv ≤ 820 then
        .next (s.modLvl fun x => { x with coldRead := false, tries := 0 }).startLevel
      else .next s
    else if !nearMv r.mv (vxMilliVolt s.lvl.going) then .next s
    else
      match s.lvl.phase with
      | .vxDown => .next (s.modLvl fun x => { x with level := x.going, phase := .idle }).levelDone
      | .vxUp => .next ((s.modLvl fun x => { x with phase := .nvUpWait, landSfc := sfcAdd s.sfc 1 }).speedTo s.lvl.going)
      | _ => .next s

/-- A VX write unconfirmed within 1 ms is written again; the second time the change is given up (R292).  A wake's read that
fails counts its exchanges (R289, R301). -/
def execVxConfirmTimeout (fails mv : Nat) (s : State) : Answer :=
  let busy := s.lvl.coldRead || s.lvl.phase = .vxDown || s.lvl.phase = .vxUp
  if !(busy || s.pwr.waking) || !s.controlRunning then .next s
  else
    let s := (s.bump PERF.AVS_ERR.COUNT 0 fails).wr PERF.VX.MV mv
    if !busy then .next s
    else if s.lvl.tries = 0 then
      let s := s.modLvl fun x => { x with tries := 1 }
      .next (if s.lvl.coldRead then s else s.writeVx (vxMilliVolt s.lvl.going))
    else if s.lvl.phase = .vxDown then
      let s := s.noteS1 0x0B 6 mv
      .next (s.modLvl fun x => { x with level := x.going, phase := .idle, tries := 0 }).levelDone
    else
      let s := s.modLvl fun x =>
        { x with phase := .idle, going := x.level, avsFail := true, coldRead := false, tries := 0 }
      .next ((s.faultS2Unit 0x0A 6 mv).pulse .perf 0 1)

/-- PERF.CTRL.AVS_RETRY (R292). -/
def State.retryAvs (s : State) : State := (s.modLvl fun x => { x with avsFail := false }).startLevel

/-- A current read, every 1 ms in RUN and DOZE (R289, R293): failed exchanges count; the tenth in a row above
ILIMIT is a step, with its own 100 ms; an AVSBus status of over-current or over-temperature is an
emergency. -/
def execAvsCurrentRead (fails current : Nat) (alert : Bool) (s : State) : Answer :=
  if !s.controlRunning || decide (2 ≤ s.pwr.state) || s.pwr.waking then .next s
  else
    let s := s.bump PERF.AVS_ERR.COUNT 0 fails
    let s := s.modLvl fun x => { x with currentHold := x.currentHold - 1 }
    let s :=
      if 2 ≤ fails then s.modLvl fun x => { x with overCurrent := 0 }
      else
        let s := s.wr PERF.VX.CURRENT current
        let n := if s.g PERF.ILIMIT.LIMIT < current then min 10 (s.lvl.overCurrent + 1) else 0
        let s := s.modLvl fun x => { x with overCurrent := n }
        if n = 10 ∧ s.lvl.currentHold = 0 ∧ s.lvl.level < 3 then
          ((s.modLvl fun x => { x with currentHold := 100 }).pulse .perf 0 2).damperStep
        else s
    .next (if alert then s.emergencyP3 else s)

/-! ### Temperature -/

/-- The highest of the readings and its sensor, the lowest number on a tie. -/
def hottest : List (Int × Nat) → Int × Nat
  | [] => (0, 0)
  | [x] => x
  | x :: xs => let y := hottest xs; if y.1 ≤ x.1 then x else y

/-- Show Tj, PEAK and the clusters' sensors. -/
def State.showTemps (s : State) (ts : List Int) : State :=
  let h := hottest ts.zipIdx
  let tj := clampInt (-32768) 32767 h.1
  let s := (s.wr THERMAL.TJ.TEMP (ofSigned 16 tj)).wr THERMAL.TJ.SOURCE h.2
  let s := if toSigned 16 (s.g THERMAL.PEAK.TEMP) < tj then s.wr THERMAL.PEAK.TEMP (ofSigned 16 tj) else s
  (List.range 4).foldl (fun s c =>
    let t := clampInt (-32768) 32767 (ts.getD c 0)
    let s := s.wr CTEMP.TEMP.TEMP (ofSigned 16 t) c
    let e := t / 2
    let s := if toSigned 15 (s.g CTEMP.MINMAX.MAX c) < e then s.wr CTEMP.MINMAX.MAX (ofSigned 15 e) c else s
    if e < toSigned 15 (s.g CTEMP.MINMAX.MIN c) then s.wr CTEMP.MINMAX.MIN (ofSigned 15 e) c else s) s

/-- The eight sensors are read (R293, R295): WARN, the Damper's step, the emergency and THERM_TRIP as Tj
reaches their thresholds. -/
def execTempSample (ts : List Int) (s : State) : Answer :=
  if !s.controlRunning then .next s
  else
    let old := toSigned 16 (s.g THERMAL.TJ.TEMP)
    let s := s.showTemps ts
    let tj := toSigned 16 (s.g THERMAL.TJ.TEMP)
    let reaches := fun (t : Int) => decide (old < t ∧ t ≤ tj)
    let s := if reaches 1600 then s.pulse .thermal 0 0 else s
    let s := if reaches 1680 && decide (tj < 1760) then s.damperStep else s
    let s := if reaches 1760 then s.emergencyP3 else s
    .next (if reaches 1840 then s.raiseS3 0x03 10 (ofSigned 32 tj) else s)

/-- 100 ms after a completed step with Tj still at 105 °C or above (R293). -/
def execDamperRepeat (s : State) : Answer :=
  if s.controlRunning ∧ 1680 ≤ toSigned 16 (s.g THERMAL.TJ.TEMP) ∧ s.lvl.phase = .idle then .next s.damperStep
  else .next s

/-- 10 s below 100 °C: the cap rises one level (R293), not while RAIL_DISAGREE of THERMAL holds it (R307). -/
def execDamperCool (s : State) : Answer :=
  if toSigned 16 (s.g THERMAL.TJ.TEMP) < 1600 ∧ s.lvl.cap ≠ 0 ∧ !s.fault.thermalHold then
    .next ((s.modLvl fun x => { x with cap := x.cap - 1 }).pulse .thermal 0 3).startLevel
  else .next s

/-- THERMAL.PEAK.CLEAR (R295). -/
def State.clearPeak (s : State) : State := s.wr THERMAL.PEAK.TEMP (s.g THERMAL.TJ.TEMP)

/-- CTEMP.MINMAX.CLEAR (R295). -/
def State.clearMinmax (s : State) (c : Nat) : State :=
  let e := ofSigned 15 (toSigned 16 (s.g CTEMP.TEMP.TEMP c) / 2)
  (s.wr CTEMP.MINMAX.MIN e c).wr CTEMP.MINMAX.MAX e c

end Sys2Proof.Machine
end

