-- ==== Sys2Proof/Machine/Power.lean ====
section
/-! DEFINITION. Device power states, the staged stops, wakes and clock gating (R297 to R305). -/

namespace Sys2Proof.Machine

/-- The device shows another power state (R305). -/
def State.powerTo (s : State) (st : Nat) : State :=
  let s := if s.pwr.state = st then s else s.pulse .hearth 0 0
  ((s.modPwr fun x => { x with state := st }).wr HEARTH.PSTATE.REQ st).refreshPins

/-! ### DOZE (R297) -/

/-- A cluster is gated: its CPLL stops, its lanes go OFF, lanes 0 and 16 excepted while in-band management is enabled (R53,
R297; log 74). -/
def State.gateCluster (s : State) (c : Nat) : State :=
  let s := s.modPwr fun x => { x with gated := insertSorted c x.gated }
  let s := s.modClk fun x =>
    { x with locked := x.locked.filter (· != 2 + c), started := x.started.filter (· != 2 + c) }
  ((clusterLanes c).filter fun l => !((l == 0 || l == 16) && !s.inbandLanes.isEmpty)).foldl (fun s l => s.stopLane l) s

/-- A gated cluster gets its clock back: its lines and lanes start at the lock of its CPLL. -/
def State.ungateCluster (s : State) (c : Nat) : State :=
  if s.pwr.gated.contains c then
    (s.modPwr fun x => { x with gated := x.gated.filter (· != c) }).startPlls [2 + c]
  else s

/-- In DOZE, clusters whose 32 lines are all OFF are gated at once. -/
def State.refreshGates (s : State) : State :=
  if s.pwr.state = 1 then
    ((List.range 4).filter fun c => !s.pwr.gated.contains c &&
      (clusterLines c).all fun l => (s.line l).st = .off).foldl (fun s c => s.gateCluster c) s
  else s

/-- REQ = DOZE: the level falls to P3, clusters with every line OFF are gated. -/
def State.enterDoze (s : State) : State :=
  (((s.modPwr fun x => { x with doze := true }).powerTo 1).refreshGates).startLevel

/-- From DOZE to RUN. -/
def State.leaveDoze (s : State) : State :=
  let s := s.pwr.gated.foldl (fun s c => s.ungateCluster c) s
  ((s.modPwr fun x => { x with doze := false }).powerTo 0).startLevel

/-! ### The stages of R298 -/

/-- REASON codes of HEARTH.REFUSE (R305). -/
def refuseTimeout : Nat := 13
def refuseWake : Nat := 14

/-- The first line of those given for which a test holds, as a refusal. -/
def refuseLine (reason : Nat) (test : Nat → Bool) : List (Nat × Nat) :=
  ((allLines.filter test).head?.map fun l => (reason, l)).toList

/-- Why stage n refuses: reason and instance (R298). -/
def State.refusals (s : State) (n : Nat) : List (Nat × Nat) :=
  match n with
  | 1 =>
    refuseLine 1 (fun l => s.isV l && (inBringUp (s.line l).st || inData (s.line l).st ||
      decide ((s.line l).st = .retrain))) ++
    ((List.range 4).filter fun c => s.slotKind c != 0 && s.slotKind c != 3).map
      (fun c => (2, s.g CALMGR.SLOT.LINE 0 c)) ++
    refuseLine 3 (fun l => (s.refl.find l).isSome) ++
    refuseLine 4 (fun l => s.mode l == 4 && (!(s.reachX l).queue.isEmpty || s.packetOn l ||
      s.g LREACH.ALARM.IVL l != 0)) ++
    refuseLine 5 (fun l => s.mode l == 3 && s.g LSTD.STATUS.LINK l == 1)
  | 2 => (s.mgmt.ibQueue.map fun r => (6, r.lane))
  | 3 =>
    (if s.xe.join.isSome then [(7, 0)] else []) ++ (if s.lvl.phase = .idle then [] else [(8, 0)]) ++
      (if s.xe.xw.isSome || s.xe.census.isSome then [(9, 0)] else [])
  | 4 => s.mgmt.lbCommands.map fun c => (10, c.ch)
  | _ => if s.mgmt.busOwner = 0 then [] else [(12, s.mgmt.busOwner - 1)]

/-- A stage refuses: REFUSE is written and the stages stopped restart (R299). -/
def State.refuseStage (s : State) (stage reason inst : Nat) : State :=
  let s := (s.wr HEARTH.REFUSE.STAGE stage).wr HEARTH.REFUSE.REASON reason
  let s := (s.wr HEARTH.REFUSE.INSTANCE inst).bump HEARTH.REFUSE.COUNT
  s.modPwr fun x => { x with sub := 2 }

/-- Stage 1 stops: beacons and packets in flight are cut. -/
def State.stopLines (s : State) : State :=
  allLines.foldl (fun s l =>
    if (s.reachX l).tx.isSome then s.modReach l fun x => { x with tx := none, chirps := [] } else s) s

/-- Stage 3 stops: P3 by the steps of R290. -/
def State.stopEngine (s : State) : State :=
  if s.lvl.level = 3 then s
  else
    let s := (s.modLvl fun x => { x with level := 3, going := 3, nv := nvOf 3 }).slowTo 3
    (((s.unityNorm (nvOf 3)).pulse .xengine 0 2).pulse .perf 0 0).refreshPorts

/-- Stage 5 stops, and the device is in EMBER: PLLs and KOSC off, TMUX on REFCLK (R286, R298). -/
def State.enterEmber (s : State) : State :=
  let s := (s.powerTo 2).holdTrim 2
  let s := (s.modClk fun x =>
    { x with locked := [], started := [], kosc := .off, koscPasses := 0, holdKosc := false }).gateControl
  (s.modPwr fun x => { x with sub := 0, stage := 0, doze := false }).refreshTmux

/-- The device is in HEARTH: all other state lost (R297, R305). -/
def State.enterHearth (s : State) : State :=
  let s := (s.deviceReset .hearth).modPwr fun x => { x with state := 3 }
  ((s.modClk fun x => { x with resetHeld := false }).wr HEARTH.PSTATE.REQ 3).pulse .hearth 0 0

/-- What stage n stops. -/
def State.stopStage (s : State) (n : Nat) : State :=
  let s := s.modPwr fun x => { x with stage := n }
  match n with
  | 1 => s.stopLines
  | 2 => (List.range 32).foldl (fun s l => s.stopLane l) s
  | 3 => s.stopEngine
  | 4 => s
  | _ => if s.pwr.hearth then s.enterHearth else s.enterEmber

/-- The next stage stops its blocks or refuses (R298). -/
def execStageStopped (s : State) : Answer :=
  if s.pwr.sub = 1 then
    match s.refusals (s.pwr.stage + 1) with
    | (reason, inst) :: _ => .next (s.refuseStage (s.pwr.stage + 1) reason inst)
    | [] => .next (s.stopStage (s.pwr.stage + 1))
  else .next s

/-- A stage has done neither by 1 ms (R298). -/
def execStageTimeout (s : State) : Answer :=
  if s.pwr.sub = 1 then .next (s.refuseStage (s.pwr.stage + 1) refuseTimeout 0) else .next s

/-- The stages have restarted in reverse order: the level goes back toward TARGET, lanes to DETECT, lines go
on; the device is in RUN and REFUSED rises (R299). -/
def execRollbackComplete (s : State) : Answer :=
  if s.pwr.sub = 2 then
    let lanes := decide (2 ≤ s.pwr.stage)
    let gated := s.pwr.gated
    let s := (s.modPwr fun x => { x with sub := 0, stage := 0, doze := false, hearth := false }).powerTo 0
    let s := gated.foldl (fun s c => s.ungateCluster c) s
    let s := if lanes then (List.range 32).foldl (fun s l => s.startLane l) s else s
    .next (s.startLevel.pulse .hearth 0 1)
  else .next s

/-! ### Wakes (R300 to R303) -/

/-- A wake from EMBER starts (R301 step 1), XPLL at 0.40 GHz; its retry stops every PLL and writes VX again (R302). -/
def State.beginWake (s : State) (sub : Nat) : State :=
  let s := s.modPwr fun x => { x with sub := sub, waking := true, vxReady := false, retried := sub == 4 }
  let s := (s.modClk fun x =>
    { x with kosc := .starting, koscPasses := 0, locked := [], started := [] }).gateControl
  let s := s.modLvl fun x => { x with clock := vxClock 3 }
  let s := if sub = 4 then s.writeVx 580 else s
  (s.startPlls ([0] ++ s.otherPlls)).refreshTmux

/-- A wake out of HEARTH: once every rail is good, an internal reset and a cold start (R303). -/
def State.wakeHearth (s : State) : State :=
  if s.railsGood then
    let s := (s.modPwr fun _ => {}).wr HEARTH.PSTATE.REQ 0
    (s.pulse .hearth 0 0).coldStart
  else s.modPwr fun x => { x with sub := 3, waking := true }

/-- A wake source fires: in EMBER and HEARTH it starts a wake, during an entry it refuses as stage 6
(R298, R300); after WAKE_FAILED only REQ counts (R302). -/
def State.wakeUp (s : State) (cause line : Nat) : State :=
  let enabled := cause == 5 || bit (s.g HEARTH.WAKE_EN.EN) (cause - 1)
  if !enabled then s
  else if s.pwr.sub = 1 then s.refuseStage 6 refuseWake 0
  else if s.pwr.state < 2 || s.pwr.waking || (s.pwr.sub == 5 && cause != 5) then s
  else
    let s := (s.wr HEARTH.WAKE_CAUSE.CAUSE cause).wr HEARTH.WAKE_CAUSE.LINE line
    if s.pwr.state = 3 then s.wakeHearth else s.beginWake 3

/-- ENERGY on a line that is not OFF (R300). -/
def execWakeEnergy (l : Nat) (s : State) : Answer :=
  withLine l s fun s => when ((s.line l).st != .off && s.pwr.state != 3) (·.wakeUp 1 l) s

/-- MSPI_CS_N falls (R300). -/
def execWakeMspi (s : State) : Answer := .next (s.wakeUp 2 0)

/-- 32 MDC edges within 1 ms (R300). -/
def execWakeMdio (s : State) : Answer := .next (s.wakeUp 3 0)

/-- TIMER seconds have passed since entry (R300). -/
def execWakeTimer (s : State) : Answer := .next (when (s.g HEARTH.TIMER.SEC != 0) (·.wakeUp 4 0) s)

/-- The blocks of a wake that are not ready: 0 VX, 1 + p PLL p (R305). -/
def State.notReady (s : State) : List Nat :=
  (if s.pwr.vxReady then [] else [0]) ++
    (([0] ++ s.otherPlls).filter fun p => !s.locked p).map (1 + ·)

/-- 1 ms into a wake VX or a PLL is not ready: the wake restarts once, then stays in WAKE_FAILED on KOSC or
HOSC with WAKE_FAIL (R302). -/
def execWakeNotReady (block : Nat) (s : State) : Answer :=
  if s.pwr.waking && s.pwr.state == 2 && s.notReady.contains block then
    let s := (s.wr HEARTH.WAKE_CAUSE.BLOCK block).bump HEARTH.WAKE_CAUSE.FAILS
    if s.pwr.retried then
      let s := s.modPwr fun x => { x with sub := 5, waking := false }
      let s := (s.modClk fun x => { x with locked := [], started := [], running := true }).refreshClocks
      .next ((s.faultS2Unit 0x0C 4 block).pulse .hearth 0 2)
    else .next (s.beginWake 4)
  else .next s

/-- SRAM is ready: lanes to DETECT, lines resume, temperature triggers are judged, STATE = RUN, and the level
goes toward TARGET (R301 step 5). -/
def execWakeComplete (s : State) : Answer :=
  if s.pwr.waking && s.pwr.state == 2 && s.notReady.isEmpty then
    let s := (s.modPwr fun x => { x with sub := 0, stage := 0, waking := false, doze := false, gated := [] }).powerTo 0
    let s := (List.range 32).foldl (fun s l => s.startLane l) s
    .next s.temperatureDue.startLevel
  else .next s

/-! ### Requests (R298, R302) -/

/-- PSTATE.REQ is written: a request while an entry, a rollback or a wake runs changes nothing, and REQ
reads the state settled in. -/
def State.requestPower (s : State) : State :=
  let req := s.g HEARTH.PSTATE.REQ
  let keep := s.wr HEARTH.PSTATE.REQ s.pwr.state
  if s.pwr.sub = 5 then (if req = 0 then keep.wakeUp 5 0 else keep)
  else if s.pwr.sub != 0 || s.pwr.state == 2 || s.pwr.state == 3 then keep
  else
    match req with
    | 0 => if s.pwr.state = 1 then s.leaveDoze else s
    | 1 => if s.pwr.state = 0 then s.enterDoze else s
    | r => s.modPwr fun x => { x with sub := 1, stage := 0, hearth := r == 3 }

/-- Accesses still in flight at the 256th cycle before a domain is gated are terminated, each with
CLOCK_GATE (R304). -/
def execClockGateTimeout (stuck : List StuckAccess) (s : State) : Answer :=
  .next (stuck.foldl (fun s x =>
    (s.log { code := 0x14, cls := 1, source := 22, master := x.master, access := x.access, addr := x.addr }).endHandling
      22) s)

end Sys2Proof.Machine
end

