-- ==== Sys2Proof/Machine/FaultRows.lean ====
section
/-! DEFINITION. The fault manager's own rows: samples with ties and injected faults, records, leases and
fences, the watchdog, and the event outputs (R307 to R328). -/

namespace Sys2Proof.Machine

/-! ### Sampling (R307, R314 to R317) -/

/-- The record of a tie: highest class, then lowest source (R316). -/
def worst : List FaultReport → Option FaultReport
  | [] => none
  | f :: fs =>
    match worst fs with
    | none => some f
    | some g => if g.cls < f.cls ∨ (f.cls = g.cls ∧ f.source ≤ g.source) then some f else some g

/-- The class counters and the conditions of the faults of one cycle: each condition rises once (R310,
R316, R323). -/
def State.countTie (s : State) (fs : List FaultReport) (injected : Bool) : State :=
  let s := fs.foldl (fun s f => s.bump FAULT.COUNT_S.COUNT 0 1 f.cls) s
  let is := fun c => fs.any fun f => f.cls == c
  let s := s.edges .fault 0 (bnat (fs.any fun f => f.cls != 0) + 2 * bnat (is 2) + 4 * bnat (is 3) +
    16 * bnat injected)
  fs.foldl (fun s f => s.unitRecorded f) s

/-- The faults of one cycle go to a record (R314, R316, R317). -/
def State.recordTie (s : State) (real : List FaultReport) (inj : Option FaultReport) : State :=
  match worst real with
  | none => match inj with | some f => s.record f | none => s
  | some f =>
    if s.handlingFirst then
      let s := real.foldl (fun s f => s.record f) s
      match inj with | some g => s.companion 0 g.source | none => s
    else
      let first := s.g FAULT.REC_HDR.VALID 0 0 = 0
      let r := if first then 0 else 1
      let s := s.record f inj.isSome
      let s := (real.filter (· != f)).foldl (fun s g => s.companion r g.source) s
      match inj with
      | some g =>
        let s := s.companion r g.source
        if first then s.placeRecord 1 g false else s
      | none => s

/-- HEALTH 1 on a source's pages for the handling window. -/
def State.briefRecovery (s : State) (src : Nat) : State :=
  (s.modFault fun x => { x with injRecovering := insertSorted src x.injRecovering }).healthChanged src

/-- A letterbox command in progress whose opcode passes a test ends with ABORTED. -/
def State.abortOpcodes (s : State) (test : Nat → Bool) : State :=
  (s.mgmt.lbCommands.filter fun x => test x.opcode).foldl (fun s x => s.landLetterbox x.ch x.tag lbAborted []) s

/-- What a fault of the trust units ends (R348, R363): attestation stays off after ATTEST_STATE, and a flash write that fails
ends its command. -/
def State.trustFault (s : State) (code : Nat) : State :=
  if code = 0x26 then
    (s.modTrust fun t => { t with attestOff := true }).abortOpcodes (· == 0x40)
  else if code = 0x2A then s.abortOpcodes fun op => op == 0x20 || op == 0x21 || op == 0x22 || op == 0x33
  else s

/-- The reaction on a real fault that a sample took (R310): the local recovery of R114 for XE_UE, a Stoker
restart for STOKER_FAULT, RAIL_DISAGREE's isolation; where its class reaction gives way to an injected one
(`full` false), only the local recovery runs (R317). -/
def State.reactReal (s : State) (f : FaultReport) (full : Bool) : State :=
  if f.code = 0x0D then
    let m := f.addr / 2 ^ 21 % 4
    let s := (s.showUe m (f.addr % 2 ^ 21)).recoverEntry m (f.addr % 2 ^ 21)
    if s.fault.recovering.contains 18 then s else s.endHandling 18
  else if f.cls = 1 then s.briefRecovery f.source
  else
    let s := if f.code = 0x12 then s.restartStoker else s.trustFault f.code
    if !full then s
    else if f.cls = 3 then s.safeState
    else if f.code = 1 then ((s.pulse .fault 0 6).disagree f.source).endHandling f.source
    else if f.cls = 2 then (s.reactS2 f.source).endHandling f.source
    else s

/-- The generic reaction on an injected fault (R317). -/
def State.reactInjected (s : State) (f : FaultReport) : State :=
  if f.cls = 1 then s.briefRecovery f.source
  else if f.cls = 3 then s.safeState
  else if f.cls = 2 then
    if f.code = 1 then (s.disagree f.source).endHandling f.source
    else if isUnit f.source then (s.isolate f.source).endHandling f.source
    else (s.modFault fun x => { x with injShown := insertSorted f.source x.injShown }).healthChanged f.source
  else s

/-- One sample: real faults of sources that are not ignored, and an injected one (R307, R316, R317). -/
def State.sampleFaults (s : State) (real : List FaultReport) (inj : Option FaultReport) : State :=
  let real := real.filter fun f => isSource f.source && !s.fault.ignored.contains f.source
  let s := (s.countTie (real ++ inj.toList) inj.isSome).recordTie real inj
  let outranks := match inj with
    | some g => s.g FAULT.CTRL.INJ_REACT == 1 && real.all fun f => decide (f.cls < g.cls)
    | none => false
  let s := real.foldl (fun s f => s.reactReal f (!outranks)) s
  match inj with
  | some g => if outranks then s.reactInjected g else if real.isEmpty then s.endHandling g.source else s
  | none => s

def FaultInput.report (r : FaultInput) : FaultReport :=
  { code := r.code, cls := r.cls, source := r.source, addr := r.detail }

/-- The injection that waits, unless it drives rails. -/
def State.injectedFault (s : State) : Option FaultReport := s.fault.inject.filter fun f => f.code != 1

/-- A sample of every pair (R307): the faults shown in this cycle, with an injected one that waits. -/
def execFaultSample (reports : List FaultInput) (s : State) : Answer :=
  if !s.controlRunning then .next s
  else
    let inj := s.injectedFault
    let s := if inj.isSome then s.modFault fun x => { x with inject := none } else s
    .next (s.sampleFaults (reports.map FaultInput.report) inj)

/-- A pair shows 0b00 or 0b11 for 4 samples (R307); on the pair an injection drives, the fault is marked
INJECTED (R317). -/
def execRailDisagree (source seen : Nat) (s : State) : Answer :=
  if !isSource source then .fault (.noSuchPart "fault source" source)
  else if !s.controlRunning || s.fault.ignored.contains source || !(seen == 0 || seen == 3) then .next s
  else
    let f : FaultReport := { code := 1, cls := 2, source := source, addr := seen }
    if s.fault.inject.any fun g => g.code == 1 && g.source == source then
      let s := (s.modFault fun x => { x with inject := none }).pulse .fault 0 6
      .next (s.sampleFaults [] (some { f with injected := true }))
    else .next (s.sampleFaults [f] none)

/-- INJECT.GO (R317, R323): the fault described waits for the next sample; one that still waits is sampled
first. -/
def State.inject (s : State) : State :=
  let old := s.injectedFault
  let s := if old.isSome then (s.modFault fun x => { x with inject := none }).sampleFaults [] old else s
  let rail := s.g FAULT.INJECT.RAIL == 1
  let f : FaultReport :=
    { code := if rail then 1 else s.g FAULT.INJECT.CODE, cls := if rail then 2 else s.g FAULT.INJECT.CLASS,
      source := s.g FAULT.INJECT.SOURCE, addr := if rail then 3 else 0, injected := true }
  s.modFault fun x => { x with inject := some f }

/-- Handling of FIRST ends, 1 ms after its landing at the latest (R315), and the HEALTH an injection shows
with it (R317). -/
def execFaultHandlingEnd (s : State) : Answer :=
  let shown := s.fault.injRecovering ++ s.fault.injShown
  let s := s.modFault fun x => { x with handling := none, injRecovering := [], injShown := [] }
  .next (shown.foldl (fun s src => s.healthChanged src) s)

/-! ### Clearing records (R318) -/

/-- The fields of a record. -/
def recordFields (r : Nat) : List (Fld × Nat) :=
  ([FAULT.REC_HDR.VALID, FAULT.REC_HDR.INJECTED, FAULT.REC_HDR.REAL, FAULT.REC_HDR.CLASS, FAULT.REC_HDR.CODE,
    FAULT.REC_HDR.SEQ, FAULT.REC_SRC.MERGE, FAULT.REC_SRC.MASTER, FAULT.REC_SRC.ACCESS, FAULT.REC_SRC.SOURCE,
    FAULT.REC_ADDR.ADDR, FAULT.REC_PM0.NS, FAULT.REC_PM1.SEC, FAULT.REC_PM2.SECH, FAULT.REC_PM2.FRAC].map
      fun F => (F, r)) ++
    (List.range 8).map fun j => (if r = 0 then FAULT.COMPANION_F.MAP else FAULT.COMPANION_L.MAP, j)

/-- A clear acts where it names the SEQ of the record in place. -/
def State.clearRecord (s : State) (r seq : Nat) : State :=
  if s.g FAULT.REC_HDR.VALID 0 r = 1 ∧ s.g FAULT.REC_HDR.SEQ 0 r = seq then
    (recordFields r).foldl (fun s e => s.wr e.1 0 0 e.2) s
  else s

/-- A clear of FIRST while it is handled is refused (R318). -/
def State.clearRefused (s : State) (w : Nat) : Bool := bit w 31 && s.handlingFirst

/-- A write of FAULT.CLEAR. -/
def State.clearRecords (s : State) (w : Nat) : State :=
  let s := if bit w 31 then s.clearRecord 0 (w % 2 ^ 16) else s
  if bit w 30 then s.clearRecord 1 (w % 2 ^ 16) else s

/-! ### Leases and fences (R319) -/

/-- Set or lift a master's fence. -/
def State.setFence (s : State) (m : Nat) (on : Bool) : State :=
  let F := if m < 32 then FAULT.FENCE_LO.MAP else FAULT.FENCE_HI.MAP
  let old := s.g F
  if bit old (m % 32) = on then s
  else s.wr F (if on then old + 2 ^ (m % 32) else old - 2 ^ (m % 32))

/-- The fences that were lifted end their masters' recoveries; the last ends BUS's recovery. -/
def State.refreshRevoked (s : State) : State :=
  if s.fault.revoked.isEmpty then s
  else
    let left := s.fault.revoked.filter s.fenced
    let s := s.modFault fun x => { x with revoked := left }
    if left.isEmpty then s.endRecovery 22 else s

/-- A response goes out on the lane of its request: an MRSP, and the words read after it (R256). -/
def State.respond (s : State) (r : InbandReq) (status : Nat) (data : List Nat) : State :=
  let head := controlBlock 7 status (r.tag * 2 ^ 32 + (r.count - 1) % 16 * 2 ^ 28)
  s.modMgmt fun m =>
    let m := m.sendBlocks r.lane (head :: data.map fun w => controlBlock 6 0 (r.tag * 2 ^ 32 + w))
    { m with ibAnswers := m.ibAnswers ++ [{ lane := r.lane, tag := r.tag, status := status, data := data }] }

/-- The recovery of a revoked master starts (R319). -/
def State.recoverMaster (s : State) (m : Nat) : State :=
  match m with
  | 2 =>
    let q := s.mgmt.ibQueue
    q.foldl (fun s r => s.respond r 1 []) (s.modMgmt fun m => { m with ibQueue := [] })
  | 3 => s.modMgmt fun m => { m with mdioHold := 0 }
  | 8 => s.restartStoker
  | 0x20 => if s.xe.clearing.isEmpty then s else s.askPort 0x20
  | 0x21 => allLines.foldl (fun s l => if (s.calX l).st = 4 then (s.endCal l 3).gapPeer l else s) s
  | 0x22 | 0x23 => s.abortLetterbox
  | m => if 0x10 ≤ m ∧ m ≤ 0x13 then s.failJoin [] else s

/-- A master holds the coefficient write port (0) or the bus lock (1) at 4,096 SPLL cycles: revoked, fenced,
its pending transactions completed with an error, recorded, and its recovery started (R120, R319). -/
def State.revokeLease (s : State) (master resource access addr : Nat) : State :=
  let holds := if resource = 0 then s.xe.lease == some master else master != 0 && s.mgmt.busOwner == master
  if !holds then s
  else
    let row := match s.xe.xw with | some r => resource == 0 && r.master == master | none => false
    let s := if resource = 0 then { s with xe := { s.xe with lease := none } }
      else s.modMgmt fun m => { m with busOwner := 0 }
    let s := if row then s.finishXw 5 0 else s
    let s := (s.setFence master true).modFault fun x => { x with revoked := insertSorted master x.revoked }
    let s := s.log { code := 0x13, cls := 1, source := 22, master := master, access := access,
                     addr := addr / 2 * 2 + resource % 2 }
    ((s.beginRecovery 22).pulse .fault 0 5).recoverMaster master

/-- A master's recovery ends and its fence is lifted (R319). -/
def execFenceRecoveryEnd (master : Nat) (s : State) : Answer :=
  if 64 ≤ master then .fault (.noSuchPart "master" master)
  else if s.fault.revoked.contains master then .next (s.setFence master false).refreshRevoked
  else .next s

/-! ### Watchdog (R320) -/

/-- Stoker runs: not in the reduced state, EMBER, HEARTH or the safe state (R281, R312, R320). -/
def State.stokerRuns (s : State) : Bool :=
  s.controlRunning && !s.reduced && decide (s.pwr.state ≤ 1) && !s.pwr.waking && !s.fault.s3

/-- Stoker restarts the watchdog. -/
def execWatchdogRestart (s : State) : Answer :=
  if s.stokerRuns then .next (s.modFault fun x => { x with watchdogArmed := true }) else .next s

/-- The watchdog expires while it is armed and does not pause: the S3 fault WATCHDOG. -/
def execWatchdogExpire (s : State) : Answer :=
  if s.fault.watchdogArmed && s.stokerRuns then .next (s.raiseS3 0x02 23 0) else .next s

/-! ### REBOOT (R312) -/

/-- REBOOT is refused while Tj is at 100 °C or more. -/
def State.rebootRefused (s : State) : Bool := decide (1600 ≤ toSigned 16 (s.g THERMAL.TJ.TEMP))

/-- An internal reset and a cold start. -/
def State.reboot (s : State) : State := (s.deviceReset .reboot).coldStart

/-! ### Event outputs (R326, R327) -/

/-- PIN_HOLD has passed on INTA_N (0) or INTB_N (1): the pin takes the level in force. -/
def execPinHoldEnd (pin : Nat) (s : State) : Answer :=
  if pin = 0 then .next { s with ev := { s.ev with holdA := false } }.refreshPins
  else if pin = 1 then .next { s with ev := { s.ev with holdB := false } }.refreshPins
  else .fault (.noSuchPart "interrupt pin" pin)

/-- IB_HOLD of a source has passed: a block with the level in force where it changed meanwhile. -/
def execIbHoldEnd (n : Nat) (s : State) : Answer :=
  if 512 ≤ n then .fault (.noSuchPart "event source" n)
  else if !s.ev.ibHold.contains n then .next s
  else
    let dirty := s.ev.ibDirty.contains n
    let s := { s with ev := { s.ev with ibHold := s.ev.ibHold.filter (· != n),
                                         ibDirty := s.ev.ibDirty.filter (· != n) } }
    .next (if dirty then s.inbandDue n (s.ev.levels.contains n) else s)

/-- Every IB_REFRESH ms one block for each routed source at 1, under the hold; none with IB_REFRESH = 0. -/
def execIbRefresh (s : State) : Answer :=
  if s.g EVENTS.CTRL.IB_REFRESH = 0 then .next s
  else
    .next ((s.ev.levels.filter fun n => bit (s.g EVENTS.ROUTE_IB.EN 0 (n / 32)) (n % 32)).foldl
      (fun s n => s.inbandDue n true) s)

end Sys2Proof.Machine
end

