-- ==== Sys2Proof/Machine/Rails.lean ====
section
/-! DEFINITION. The rails (R303, R371, R372). -/

namespace Sys2Proof.Machine

/-- The number of VH among the rails (R306). -/
def railVh : Nat := 7

/-- A rail is good: with every rail good a wake from HEARTH goes on (R303), and, with RESET_N high, a cold
start begins 1 ms later (R372). -/
def execRailGood (rail : Nat) (s : State) : Answer :=
  if 8 ≤ rail then .fault (.noSuchPart "rail" rail)
  else if s.clk.rails.contains rail then .next s
  else
    let s := s.modClk fun x => { x with rails := insertSorted rail x.rails }
    if !s.railsGood then .next s
    else if s.pwr.state = 3 then .next (if s.pwr.waking then s.wakeHearth else s)
    else if s.clk.resetHeld || s.clk.coldStep != 0 then .next s
    else .next s.coldStart

/-- A rail other than VH trips: outside HEARTH everything outside the hearth is reset (R372). -/
def execRailTrip (rail : Nat) (s : State) : Answer :=
  if 8 ≤ rail ∨ rail = railVh then .fault (.noSuchPart "rail" rail)
  else if !s.clk.rails.contains rail then .next s
  else
    let s := s.modClk fun x => { x with rails := x.rails.filter (· != rail) }
    .next (if s.pwr.state = 3 then s else s.deviceReset .railTrip)

/-- VH falls below its range: the hearth is reset as well (R372). -/
def execVhLoss (s : State) : Answer :=
  let s := s.modClk fun x => { x with rails := x.rails.filter (· != railVh) }
  .next (s.deviceReset .vh)

end Sys2Proof.Machine
end

