-- ==== Sys2Proof/Machine/Trust.lean ====
section
/-! DEFINITION. Sessions, keys, the lifecycle, pairing keys, SecY associations and the boot of images
(R329 to R343, R348 to R353, R361). -/

namespace Sys2Proof.Machine

/-! ### Numbers as bytes -/

/-- Byte j of a nonce: word i holds bytes 4i to 4i + 3, byte 4i in bits 7:0 (R340). -/
def nonceBytes (n : Nat) : List Nat := (List.range 32).map fun j => Config.random n / 256 ^ j % 256

/-- Word i of a 256-bit digest whose bytes stand most significant first: bytes 4i to 4i + 3, byte 4i in
bits 7:0 (R338). -/
def digestWord (d i : Nat) : Nat :=
  let b := fun j => d / 256 ^ (31 - (4 * i + j)) % 256
  b 0 + 256 * b 1 + 65536 * b 2 + 16777216 * b 3

/-! ### Sessions (R339 to R343) -/

/-- A channel is locked out after the eighth consecutive failure until the lockout ends (R341). -/
def State.lockedOut (s : State) (c : Nat) : Bool := decide (8 ≤ s.g SESSION.STAT.FAILS c)

/-- The nonce of a channel is replaced; the replaced one is kept only by the 60 s refresh (R339). -/
def State.freshNonce (s : State) (c : Nat) (keep : Bool) : State :=
  let d := s.draw
  let x := d.2.session c
  d.2.setSession c { x with nonce := d.1, expired := if keep then some x.nonce else none }

/-- A slot and role that may open a session in the present lifecycle (R329, R331). -/
def State.roleAllowed (s : State) (slot role : Nat) : Bool :=
  (s.slotKey slot useSession).isSome && decide (role ≤ (s.slot slot).maxRole) &&
    decide (s.trust.lifecycle < 2) &&
    (slot != 7 || s.trust.lifecycle == 0) && (role != 3 || slot == 7)

/-- The tag for a nonce (R339, R340). -/
def sessionTag (key c role nonce : Nat) : Nat :=
  Config.kmac256 key (nonceBytes nonce ++ [c + 1, role]) 256 "APS-SESSION"

/-- The tag the host wrote. -/
def State.hostTag (s : State) (c : Nat) : Nat := field (s.gBytes SESSION.TAG.W c 8) 0 32

/-- The outcome of a checked OPEN (R341): a slot or role that is not allowed ranks before the tag. -/
def State.openResult (s : State) (c : Nat) : Nat :=
  let slot := s.g SESSION.CMD.SLOT c
  let role := s.g SESSION.CMD.ROLE c
  let x := s.session c
  match s.slotKey slot useSession with
  | none => 3
  | some k =>
    if !s.roleAllowed slot role then 3
    else if sessionTag k c role x.nonce = s.hostTag c then 1
    else if x.expired.any fun n => sessionTag k c role n == s.hostTag c then 4
    else 2

/-- What BOOT.STAT.STATE shows (R338): VERIFYING while firmware verification runs (R285 step 7). -/
def State.bootShown (s : State) : Nat :=
  if s.trust.bootState == 0 && decide (2 ≤ s.clk.coldStep) && s.stokerRuns && !s.clk.bootDone then 1 else s.trust.bootState

/-- A failed attempt counts; the eighth locks the channel out for 60 s with SESSION_LOCKOUT (R341). -/
def State.countFailure (s : State) (c : Nat) : State :=
  let s := s.bump SESSION.STAT.FAILS c
  if s.g SESSION.STAT.FAILS c = 8 then
    ((s.wr SESSION.STAT.LOCK_LEFT 60 c).pulse .session c 3).noteS1 0x25 (1 + c) (c + 1)
  else s

/-- An OPEN that is checked: it consumes the nonce (R339, R341). -/
def State.openSession (s : State) (c : Nat) : State :=
  let r := s.openResult c
  let role := s.g SESSION.CMD.ROLE c
  let slot := s.g SESSION.CMD.SLOT c
  let s := (s.wr SESSION.STAT.RESULT r c).freshNonce c false
  if r = 1 then
    let s := s.setSession c { s.session c with isOpen := true, role := role, slot := slot }
    (s.wr SESSION.STAT.FAILS 0 c).pulse .session c 0
  else
    let s := s.pulse .session c 2
    if r = 4 then s else s.countFailure c

/-- An OPEN during a lockout: refused, nothing consumed (R341). -/
def State.openLocked (s : State) (c : Nat) : State := (s.wr SESSION.STAT.RESULT 5 c).pulse .session c 2

/-- A session closes (R342): its bus lock, areas and upload go, a command in progress is discarded. -/
def State.closeSession (s : State) (c reason : Nat) : State :=
  if !(s.session c).isOpen then s
  else
    let s := (s.setSession c { s.session c with isOpen := false, role := 0, slot := 0 }).freshNonce c false
    let s := s.modMgmt fun m =>
      { m with busOwner := if m.busOwner = c + 1 then 0 else m.busOwner,
               lbCommands := m.lbCommands.map fun x => if x.ch == c then { x with discard := true } else x }
    let s := s.modTrust fun t => { t with upload := t.upload.filter fun u => u.ch != c }
    let zeros := List.replicate 256 0
    let s := (s.wrWords LETTERBOX.ARG.W c zeros).wrWords LETTERBOX.RESP.W c zeros
    (s.wr SESSION.STAT.CLOSED_BY reason c).pulse .session c 1

/-- 60 s since the nonce was made (R339). -/
def execNonceExpire (ch : Channel) (s : State) : Answer :=
  if s.controlRunning then .next (s.freshNonce (chIx ch) true) else .next s

/-- The lockout ends: the count returns to 0 (R341). -/
def execLockoutEnd (ch : Channel) (s : State) : Answer :=
  let c := chIx ch
  if s.lockedOut c then .next ((s.wr SESSION.STAT.FAILS 0 c).wr SESSION.STAT.LOCK_LEFT 0 c) else .next s

/-! ### Lifecycle and keys (R329 to R332) -/

/-- A write of ADVANCE toward a state is refused. -/
def State.advanceRefused (s : State) (target : Nat) : Bool := target != s.trust.lifecycle + 1 || target == 3

/-- A pairing key of a port appeared or went: NOKEY, and the lines that wait for one or lose it in BEACON
(R350); lines in later states are unaffected (log 90). -/
def State.refreshPairing (s : State) (p : Nat) : State :=
  let no := s.noKey p && s.isAnchor p
  let s := s.cond .port_sec p 3 no
  (s.portLines p).foldl (fun s l =>
    let x := s.line l
    if no && s.isVHead l && x.st = .beacon then
      (s.modLine l fun x => { x with hold := 4 }).moveLine l .quiet
    else if !no && x.hold == 4 && x.st = .quiet then
      let st := s.startOf l
      (s.modLine l fun x => { x with hold := st.2 }).moveLine l st.1
    else s) s

def State.refreshAllPairing (s : State) : State := allLines.foldl (fun s p => s.refreshPairing p) s

/-- The lifecycle moves: every session closes; in RETIRED every line is held OFF and no slot is usable. -/
def State.advance (s : State) (target : Nat) : State :=
  let s := s.modTrust fun t => { t with lifecycle := target }
  let s := (List.range 3).foldl (fun s c => s.closeSession c 4) s
  let s := if target = 2 then (allLines.foldl (fun s l => s.holdOff l) s).refreshAllPairing else s
  s.pulse .trust 0 2

/-- PROGRAM is refused: the slot is not blank, a burn in progress being in it too, the lifecycle is not PROVISION, or MAXROLE is
VENDOR. -/
def State.programRefused (s : State) (slot maxRole : Nat) : Bool :=
  (s.slot slot).valid || (s.slot slot).revoked || s.trust.burning.any (fun b => b.1 == slot) || s.trust.lifecycle != 0 || maxRole == 3

/-- KEY is cleared, whatever the outcome of PROGRAM: after one that is refused too (R332; DEDUCED, log 77). -/
def State.clearKey (s : State) : State := s.wrWords TRUST.KEY.W 0 (List.replicate 8 0)

/-- The burn in progress ends (R332): the slot is VALID, KEY is cleared; a REVOKED fuse burnt meanwhile stays
burnt. -/
def State.endBurn (s : State) : State :=
  match s.trust.burning with
  | some (i, x) =>
    let s := s.modTrust fun t =>
      { t with slots := t.slots.set {} i { x with revoked := (t.slots.get {} i).revoked }, burning := none }
    s.clearKey.pulse .trust 0 0
  | none => s

/-- PROGRAM (R332): the key written is burnt. -/
def State.program (s : State) (slot maxRole usage : Nat) : State :=
  let key := s.gWords TRUST.KEY.W 0 8 0
  let s := s.endBurn
  s.modTrust fun t =>
    { t with burning := some (slot, { valid := true, maxRole := maxRole, usage := usage, key := .burnt key }) }

/-- The slot is burnt. -/
def execKeyBurnDone (s : State) : Answer := .next s.endBurn.refreshAllPairing

/-- REVOKE is refused for the slot that the writing session opened with, and in RETIRED. -/
def State.revokeRefused (s : State) (c slot : Nat) : Bool :=
  decide (2 ≤ s.trust.lifecycle) || ((s.session c).isOpen && (s.session c).slot == slot)

/-- REVOKE: the fuse is burnt, and sessions on other channels opened through the slot close. -/
def State.revoke (s : State) (slot : Nat) : State :=
  let s := s.modTrust fun t => { t with slots := t.slots.set {} slot { t.slots.get {} slot with revoked := true } }
  let s := (List.range 3).foldl (fun s c =>
    if (s.session c).isOpen && (s.session c).slot == slot then s.closeSession c 3 else s) s
  (s.pulse .trust 0 1).refreshAllPairing

/-! ### Pairing keys and SAs (R349, R353) -/

/-- PAIR_SET: the HOST key is committed and its words cleared. -/
def State.setPairKey (s : State) (p : Nat) : State :=
  let k := s.gWords PORT_SEC.PAIR_KEY.W p 8 0
  let s := s.modPort p fun x => { x with pairKey := some k }
  (s.wrWords PORT_SEC.PAIR_KEY.W p (List.replicate 8 0)).refreshPairing p

/-- The key and salt words of an SA. -/
def saKeyFields : List Fld :=
  [PORT_SEC.SA_KEY0.W, PORT_SEC.SA_KEY1.W, PORT_SEC.SA_KEY2.W, PORT_SEC.SA_KEY3.W, PORT_SEC.SA_KEY4.W,
   PORT_SEC.SA_KEY5.W, PORT_SEC.SA_KEY6.W, PORT_SEC.SA_KEY7.W]
def saSaltFields : List Fld := [PORT_SEC.SA_SALT0.W, PORT_SEC.SA_SALT1.W, PORT_SEC.SA_SALT2.W]

/-- INSTALL is refused on the transmit SA named by TX_ACTIVE, and on a receive SA whose AN matches another enabled
receive SA (R353); SAs 0 and 1 transmit, 2 to 5 receive. -/
def State.installRefused (s : State) (p a an : Nat) : Bool :=
  if a < 2 then s.g PORT_SEC.SECY_CTRL.TX_ACTIVE p == a
  else (List.range 4).any fun r => r + 2 != a &&
    s.g PORT_SEC.SA_CTRL.ENABLE p (r + 2) == 1 && s.g PORT_SEC.SA_CTRL.AN p (r + 2) == an

/-- INSTALL: the SA takes effect at the next frame boundary of its direction, with every word at once. -/
def State.installSa (s : State) (p a : Nat) : State :=
  let x : Sa :=
    { an := s.g PORT_SEC.SA_CTRL.AN p a, pn := s.g PORT_SEC.SA_PN_HI.PN p a * 2 ^ 32 + s.g PORT_SEC.SA_PN_LO.PN p a,
      ssci := s.g PORT_SEC.SA_SSCI.SSCI p a, key := saKeyFields.map fun F => s.g F p a,
      salt := saSaltFields.map fun F => s.g F p a }
  let s := s.wr PORT_SEC.SA_CTRL.EXHAUSTED 0 p a
  let s := if a < 2 then s.wr PORT_SEC.SA_CTRL.ENABLE 1 p a else s
  let s := s.modPort p fun y => { y with sasNext := y.sasNext.put a (some x) }
  if (if a < 2 then (s.port p).secTx else (s.port p).secRx).isEmpty then s.landSas p (decide (a < 2)) else s

/-! ### Images and boot (R333 to R338) -/

/-- Word i of an image. -/
def imageWord : ImageSource → Nat → Nat
  | .shipped k, i => Config.shippedImageWord k i % 2 ^ 32
  | .uploaded _ ws, i => ws.getD i 0
  | .erased, _ => 0xFFFFFFFF

/-- Byte n of an image: byte 4i in bits 7:0 of word i. -/
def imageByte (x : ImageSource) (n : Nat) : Nat := bits (imageWord x (n / 4)) (8 * (n % 4)) 8

/-- Bytes a to a + n − 1 of an image. -/
def imageBytes (x : ImageSource) (a n : Nat) : List Nat := (List.range n).map fun i => imageByte x (a + i)

/-- A field of an image, most significant byte first (R333). -/
def imageField (x : ImageSource) (a n : Nat) : Nat := field (imageBytes x a n) 0 n

def imageSvn (x : ImageSource) : Nat := imageByte x 5
def imageMagic (x : ImageSource) : Bool := imageField x 0 4 == 0x41505346
def imageLength (x : ImageSource) : Nat := imageField x 16 4

/-- The signed message: bytes 0 to 127 and the body. -/
def imageMessage (x : ImageSource) : List Nat := imageBytes x 0 128 ++ imageBytes x 4096 (imageLength x)

/-- The image digest. -/
def imageDigest (x : ImageSource) : Nat := Config.shake256 (imageMessage x)

/-- The length in the header agrees with what was uploaded. -/
def lengthFits : ImageSource → Bool
  | .uploaded n ws => 4096 + imageLength (.uploaded n ws) == n
  | .erased => false
  | .shipped _ => true

/-- The first check of R334 that fails for an image, 0 where all pass. -/
def State.verifyImage (s : State) (x : ImageSource) : Nat :=
  if !(imageMagic x && imageByte x 4 == 1 && decide (1 ≤ imageLength x ∧ imageLength x ≤ 16773120) && lengthFits x)
  then 1
  else if !(List.range 8).all fun i =>
      digestWord (Config.shake256 (imageBytes x 24 68)) i == Config.rootHashWord i % 2 ^ 32 then 2
  else if !Config.xmssVerify (imageBytes x 24 68) (imageBytes x 128 2500) (imageMessage x) then 3
  else if imageSvn x < s.trust.svn then 4
  else 0

def State.image (s : State) (k : Nat) : ImageSlot := s.trust.images.get { source := .erased } k

def State.modImage (s : State) (k : Nat) (f : ImageSlot → ImageSlot) : State :=
  s.modTrust fun t => { t with images := t.images.put k (some (f (t.images.get { source := .erased } k))) }

/-- Verify a slot: its VALID flag, and the record of a failure (R334). -/
def State.trySlot (s : State) (k : Nat) : Bool × State :=
  let x := s.image k
  let r := s.verifyImage x.source
  let s := s.modImage k fun x => { x with valid := r == 0 }
  (r == 0,
    if r = 0 then s
    else if r = 4 then s.noteS1 0x22 15 (k + imageSvn x.source % 64 * 256)
    else s.noteS1 0x20 15 (k + 16 * r))

/-- The image of slot k runs: a TRIAL where it was not confirmed since it was committed (R335). -/
def State.runImage (s : State) (k : Nat) (fallback : Bool) : State :=
  let trial := !(s.image k).confirmed
  let s := s.modTrust fun t =>
    { t with running := k, fallback := fallback, bootState := if trial then 3 else 2,
             trial := if trial then some k else none }
  s.edges .boot 0 (2 * bnat trial + 4 * bnat fallback)

/-- Firmware verification ends (R285 step 7, R334, R335): the slot tried first, after an unconfirmed TRIAL the
other one, then the other; RECOVERY where both fail.  Every cold start reserves a block of attestation
indices (R348). -/
def execBootVerifyDone (s : State) : Answer :=
  if s.clk.bootDone || s.clk.coldStep < 2 || !s.stokerRuns then .next s
  else
    let back := s.trust.trial
    let first := match back with | some t => 1 - t % 2 | none => s.trust.prefer
    let s := s.modTrust fun t =>
      { t with prefer := first, trial := none, attestEnd := t.attestNext + 1024 }
    let a := s.trySlot first
    let s :=
      if a.1 then a.2.runImage first false
      else
        let b := a.2.trySlot (1 - first)
        if b.1 then b.2.runImage (1 - first) true
        else (b.2.faultS2Unit 0x21 15 0).modTrust fun t => { t with bootState := 4 }
    let s := if back.isSome then s.noteS1 0x23 15 (if s.trust.bootState = 4 then first else s.trust.running) else s
    .next (s.modClk fun x => { x with bootDone := true })

/-- CONFIRM ends a TRIAL (R335). -/
def State.confirmBoot (s : State) : State :=
  if s.trust.bootState = 3 then
    (s.modImage s.trust.running fun x => { x with confirmed := true }).modTrust fun t =>
      { t with trial := none, bootState := 2 }
  else s

/-- SVN_COMMIT is refused during a TRIAL, and without a running image (R336). -/
def State.svnRefused (s : State) : Bool := s.trust.bootState != 2

/-- SVN_COMMIT: the OTP SVN rises to the running image's, and slots below it are not VALID at once. -/
def State.commitSvn (s : State) : State :=
  let n := max s.trust.svn (imageSvn (s.image s.trust.running).source)
  let s := s.modTrust fun t => { t with svn := n }
  let s := (List.range 2).foldl (fun s k =>
    if imageSvn (s.image k).source < n then s.modImage k fun x => { x with valid := false } else s) s
  (s.pulse .boot 0 3).pulse .trust 0 3

/-- 10 s without a chunk: the upload is closed (R337). -/
def execFwUploadTimeout (s : State) : Answer := .next (s.modTrust fun t => { t with upload := none })

end Sys2Proof.Machine
end

