-- ==== Sys2Proof/Machine/Envelope.lean ====
section
/-! DEFINITION. Posts from POST to landing (R33, R37 to R47): what a set of pages posted together would leave,
its conflicts, the proposals it makes, its landing by units, and the commands that drive it. -/

namespace Sys2Proof.Machine

/-- Pages posted together: one page, or the members of a mail run. -/
abbrev Pages := List (Page × Nat)

/-- The pages whose posts may be sealed (R35). -/
def sealable : Page → Bool
  | .lctl | .ltrain | .lload | .lafe | .port_ctl | .port_sec => true
  | _ => false

def isPortPage : Page → Bool
  | .port_ctl | .port_sec => true
  | _ => false

def isLinePage : Page → Bool
  | .lctl | .ltrain | .lload | .lmon | .lreach | .ldiag | .lafe | .lstd => true
  | _ => false

/-! ### What a set would leave -/

/-- The value of a field once the set has landed. -/
def State.afterIn (s : State) (set : Pages) (F : Fld) (i : Nat := 0) (j : Nat := 0) : Nat :=
  if set.contains (F.page, i) then s.after F i j else s.g F i j

def State.quadIn (s : State) (set : Pages) (q : Nat) : Nat := s.afterIn set (quadField (q % 8)) 0 (q / 8)
def State.widthIn (s : State) (set : Pages) (p : Nat) : Nat := layoutWidth (s.quadIn set (p / 4)) (p % 4)
def State.anchorIn (s : State) (set : Pages) (l : Nat) : Nat := layoutAnchor (s.quadIn set (l / 4)) l
def State.modeIn (s : State) (set : Pages) (l : Nat) : Nat := s.afterIn set LCTL.MODE.SEL l

/-- The lines whose states decide whether a page's post is negotiated (R42). -/
def State.judged (s : State) (set : Pages) (e : Page × Nat) : List Nat :=
  if isPortPage e.1 then (List.range (s.widthIn set e.2)).map (e.2 + ·)
  else if isLinePage e.1 then [e.2] else []

/-- How R42 treats a sealed post: 0 posted unsealed, 1 negotiated, 2 held. -/
def State.postKind (s : State) (set : Pages) (e : Page × Nat) : Nat :=
  let ls := (s.judged set e).map fun l => (s.line l).st
  if ls.any fun st => st = .showtime || st = .leaving then 1
  else if !ls.isEmpty && ls.all fun st => st = .banked || st = .retrain then 2
  else 0

/-- A dormant port page that stays dormant under the layout to come; a page that is an anchor's before or after the post
belongs to its quad's unit (R33, R45). -/
def State.staysDormant (s : State) (set : Pages) (e : Page × Nat) : Bool :=
  isPortPage e.1 && s.widthIn set e.2 == 0 && s.width e.2 == 0

/-! ### Units (R45, R46) -/

/-- The unit of a page: 0 device, 1 + c cluster, 5 + l lane, 100 + q quad. -/
def pageUnit (p : Page) (i : Nat) : Nat :=
  match p with
  | .cluster | .cpll | .cxslice | .ctemp => 1 + i
  | .lane => 5 + i
  | .port_ctl | .port_sec | .lctl | .ltrain | .lload | .lmon | .lreach | .ldiag | .lafe | .lstd => 100 + i / 4
  | _ => 0

/-- The unit of a staged word: a QUAD field lands with its quad. -/
def fieldUnit (F : Fld) (i j : Nat) : Nat :=
  if F.page = .portmap then 100 + 8 * j + F.lo / 4 else pageUnit F.page i

/-- The staged words of a set, as unit, page and word address. -/
def State.stagedWords (s : State) (set : Pages) : List (Nat × (Page × Nat) × Nat) :=
  ((set.filter fun e => !s.staysDormant set e).flatMap fun e =>
    ((envelopeWords e.1).filter fun w => (s.stagedAt w.1 e.2 w.2).isSome).map fun w =>
      (fieldUnit w.1 e.2 w.2, e, w.1.off + w.1.stride * w.2)).eraseDups

/-- The units of a set in the order of R46: sealed quads, the device, clusters, lanes, the other quads. -/
def unitOrder (ws : List (Nat × (Page × Nat) × Nat)) (sealedUnits : List Nat) : List Nat :=
  let has := fun u => ws.any fun w => w.1 == u
  let quads := ((List.range 32).map (100 + ·)).filter has
  quads.filter sealedUnits.contains ++ (List.range 37).filter has ++ quads.filter fun u => !sealedUnits.contains u

/-- Units placed on boundaries of 1,024 words: a unit that does not fit goes to the next boundary with every
unit after it. -/
def placeUnits (words : Nat → Nat) : List Nat → List Nat → Nat → List (List Nat)
  | [], batch, _ => if batch.isEmpty then [] else [batch]
  | u :: us, batch, n =>
    if n + words u ≤ 1024 || batch.isEmpty then placeUnits words us (batch ++ [u]) (n + words u)
    else batch :: placeUnits words us [u] (words u)

/-- The sealed pages of a set. -/
def State.sealedOf (s : State) (set : Pages) : Pages :=
  set.filter fun e => match s.postOf e.1 e.2 with | some x => x.sealedPost | none => false

/-- The boundaries a set needs, with the units of each (R46). -/
def State.batches (s : State) (set : Pages) : List (List Nat) :=
  let ws := s.stagedWords set
  let su := (s.sealedOf set).map fun e => pageUnit e.1 e.2
  placeUnits (fun u => (ws.filter fun w => w.1 == u).length) (unitOrder ws su) [] 0

/-- More than 1,024 words in sealed units (R46). -/
def State.sealedTooLong (s : State) (set : Pages) : Bool :=
  let su := (s.sealedOf set).map fun e => pageUnit e.1 e.2
  decide (1024 < ((s.stagedWords set).filter fun w => su.contains w.1).length)

/-! ### Conflicts -/

/-- A quad's modes and layout after the set: all four lines STANDARD or none, STANDARD as one W4 port, and
REACH on W1 ports (R47, R121). -/
def State.quadConflict (s : State) (set : Pages) (q : Nat) : Bool :=
  let ls := (List.range 4).map (4 * q + ·)
  let ms := ls.map (s.modeIn set)
  let c := s.quadIn set q
  decide (4 < c) || (ms.contains 3 && (ms.any (· != 3) || c != 4)) ||
    ls.any fun l => s.modeIn set l == 4 && s.widthIn set (s.anchorIn set l) != 1

/-- LCTL: a reserved mode, or a mode other than OFF in RECOVERY and RETIRED (R121, R329, R334). -/
def State.modeConflict (s : State) (set : Pages) (l : Nat) : Bool :=
  decide (5 < s.modeIn set l) || (s.modeIn set l != 0 && (s.trust.bootState == 4 || s.trust.lifecycle == 2))

/-- SORTING: each cluster's quads on different lanes, and no change while a lane of the cluster is in LOCK,
EXCHANGE or ACTIVE (R255). -/
def State.sortingConflict (s : State) (c : Nat) : Bool :=
  let new := (List.range 8).map fun j => s.after (laneField j) 0 c
  let old := (List.range 8).map fun j => s.g (laneField j) 0 c
  new.eraseDups.length != 8 ||
    (new != old && (clusterLanes c).any fun l => laneLock ≤ s.laneState l && s.laneState l ≤ laneActive)

/-- LREACH: reserved values, and the NETID of beacons (R158 to R181). -/
def State.reachConflict (s : State) (l : Nat) : Bool :=
  let bad := fun sf cr => decide (sf < 5 ∨ 12 < sf ∨ cr = 3)
  s.after LREACH.PROFILE.NETID l == 0xA7 || bad (s.after LREACH.PROFILE.SF l) (s.after LREACH.PROFILE.CR l) ||
    (List.range 16).any fun e => bad (s.after LREACH.EP_CFG.SF l e) (s.after LREACH.EP_CFG.CR l e)

/-- LAFE: reserved values, and a gain staged while PGA_AUTO sets it (R213, R219 to R222). -/
def State.afeConflict (s : State) (l : Nat) : Bool :=
  s.after LAFE.CTRL.RANGE l == 3 || decide (72 < s.after LAFE.CTRL.PGA l) ||
    decide (36 < s.after LAFE.CTRL.TXMASK l) ||
    (s.g LAFE.CTRL.PGA_AUTO l == 1 && s.after LAFE.CTRL.PGA l != s.g LAFE.CTRL.PGA l)

/-- THRU set on a port: its peer is set with it by the same post, each other's PEER, both V-mode ports; a connection that stands
and is not posted anew is no cause (R266). -/
def State.thruConflict (s : State) (set : Pages) (p : Nat) : Bool :=
  let on := fun p => s.afterIn set PORT_CTL.HOSTCFG.THRU p == 1
  let peer := fun p => s.afterIn set PORT_CTL.HOSTCFG.PEER p
  let q := peer p
  let v := fun l => s.modeIn set l == 1 || s.modeIn set l == 2
  let stands := s.g PORT_CTL.HOSTSTAT.THRU_ACTIVE p == 1 && peer p == s.g PORT_CTL.HOSTCFG.PEER p && on q && v p
  on p && !stands && !(on q && peer q == p && q != p && set.contains (.port_ctl, q) && s.widthIn set p != 0 &&
    s.widthIn set q != 0 && v p && v q)

/-- PILOTSET moves only while no line is active and no join runs (R113). -/
def State.pilotsetConflict (s : State) : Bool :=
  s.after XENGINE.CTRL.PILOTSET != s.g XENGINE.CTRL.PILOTSET && (!s.activeLines.isEmpty || s.xe.join.isSome)

/-- The conflicts of one page of a set. -/
def State.pageConflict (s : State) (set : Pages) (e : Page × Nat) : Bool :=
  match e.1 with
  | .portmap => (List.range 32).any (s.quadConflict set)
  | .lctl => s.modeConflict set e.2 || s.quadConflict set (e.2 / 4)
  | .sorting => (List.range 4).any s.sortingConflict
  | .lreach => s.reachConflict e.2
  | .lafe => s.afeConflict e.2
  | .port_ctl => s.widthIn set e.2 != 0 && s.thruConflict set e.2
  | .xengine => s.pilotsetConflict
  | _ => false

/-- The highest bits per tone after the post, and whether a table in effect exceeds it (R61). -/
def State.maxBitsAfter (s : State) (l : Nat) : Nat := maxBitsOf (s.after LLOAD.CTRL.MAXBITS l)
def State.overloads (s : State) (l : Nat) : Bool :=
  let exceeds := fun (t : Store Nat) => t.any fun e => decide (s.maxBitsAfter l < entryBits e.2)
  exceeds (s.line l).rxTable || exceeds (s.line l).txTable

/-- A change of the running loading, gain, range or profile of a line in SHOWTIME, which only a sealed post brings (R61,
R62, R82, R91; for MAXBITS DEDUCED, log 62); gain and range of a line in LEAVING land at their post (R219, R222). -/
def State.unsealedChange (s : State) (e : Page × Nat) : Bool :=
  let on := fun l => (s.line l).st = .showtime || (s.line l).st = .leaving
  match e.1 with
  | .lload => on e.2 && (s.overloads e.2 ||
      (List.range 4).any fun j => s.after LLOAD.HOSTMASK.MASK e.2 j != s.g LLOAD.HOSTMASK.MASK e.2 j)
  | .lafe => s.isV e.2 && (s.line e.2).st = .showtime && (s.after LAFE.CTRL.RANGE e.2 != s.g LAFE.CTRL.RANGE e.2 ||
      s.after LAFE.CTRL.PGA e.2 != s.g LAFE.CTRL.PGA e.2)
  | .port_ctl => s.portUp e.2 && s.after PORT_CTL.PROFILE.EXPRESS e.2 != s.g PORT_CTL.PROFILE.EXPRESS e.2
  | _ => false

/-- The set completes with CONFLICT. -/
def State.conflicts (s : State) (set : Pages) : Bool := set.any (s.pageConflict set)

/-! ### Proposals (R40, R105, R144) -/

/-- HOSTMASK after the post, as one mask. -/
def State.hostmaskAfter (s : State) (l : Nat) : Nat :=
  ((List.range 4).map fun j => s.after LLOAD.HOSTMASK.MASK l j * 2 ^ (32 * j)).sum

/-- Lines of a port whose loading the set's HOSTMASK or MAXBITS changes while they run. -/
def State.maskLines (s : State) (set : Pages) (p : Nat) : List Nat :=
  (s.portLines p).filter fun l => set.contains (.lload, l) && s.unsealedChange (.lload, l)

/-- The running lines of a port that the set takes out of their mode or out of the port (R105, R124). -/
def State.leaveLines (s : State) (set : Pages) (p : Nat) : List Nat :=
  (s.portLines p).filter fun l => (s.modeIn set l != s.mode l || s.anchorIn set l != p) &&
    ((s.line l).st = .showtime || (s.line l).st = .banked || (s.line l).st = .leaving)

/-- The changes of R144 that a set brings to a port's partner, HOSTMASK's apart. -/
def State.setChanges (s : State) (set : Pages) (p : Nat) : List Change :=
  let leave := s.leaveLines set p
  let leaves := (leave.map (s.modeIn set)).eraseDups.map fun m =>
    Change.leave (leave.filter fun l => s.modeIn set l == m) m
  let bits := s.afterIn set PORT_CTL.PROFILE.EXPRESS p + 2 * min 4 (s.afterIn set PORT_CTL.PROFILE.RTX_MAX p)
  let afes := ((s.portLines p).filter fun l => set.contains (.lafe, l) && (s.line l).st = .showtime).flatMap fun l =>
    (if s.after LAFE.CTRL.PGA l != s.g LAFE.CTRL.PGA l then [Change.afe l false (s.after LAFE.CTRL.PGA l)] else []) ++
    (if s.after LAFE.CTRL.RANGE l != s.g LAFE.CTRL.RANGE l then [Change.afe l true (s.after LAFE.CTRL.RANGE l)] else [])
  let q := p / 4
  let entry := fun l =>
    64 * (match s.widthIn set (s.anchorIn set l) with | 4 => 2 | 2 => 1 | _ => 0) + (l - s.anchorIn set l)
  leaves ++ (if bits != s.profileByte p then [.profile bits] else []) ++ afes ++
    (if s.quadIn set q != s.quad q then [.layout ((s.portLines p).map entry)] else [])

/-- The messages a port's negotiation would need. -/
def State.messageCount (s : State) (set : Pages) (p : Nat) : Nat :=
  (s.setChanges set p).length + 2 * (s.maskLines set p).length

/-- A line that a proposed LEAVE names is in LEAVING (R105). -/
def State.enterLeaving (s : State) (l : Nat) : State :=
  if (s.line l).st = .showtime ∨ (s.line l).st = .banked then s.moveLine l .leaving else s

/-- Propose a line's tables refitted to what its staged HOSTMASK and MAXBITS allow (R38, R61, R62). -/
def State.refitLine (target : Nat) (s : State) (l : Nat) : State :=
  let gone := s.hostmaskAfter l
  let fit := fitTo (s.maxBitsAfter l) (fun k => bit gone k || s.reachMasked l k) fun k => s.hostMasked l k
  s.reload l target (fit (s.line l).rxTable) (fit (s.line l).txTable)

/-- Propose a set's changes to the partner of port p for superframe `target` of the port's grid. -/
def State.proposeSet (s : State) (set : Pages) (p target : Nat) : State :=
  let cs := s.setChanges set p
  let ms := s.maskLines set p
  let ls := s.leaveLines set p
  let s := s.propose p target (if cs.isEmpty && ms.isEmpty then [.sync] else cs)
  let s := ms.foldl (State.refitLine target) s
  ls.foldl (fun s l => s.enterLeaving l) s

/-- The port's negotiation can carry posts of a target: none is open, or ours of the same target (R41). -/
def State.portFree (s : State) (p target : Nat) : Bool :=
  match (s.port p).neg with
  | none => true
  | some n => n.ours && n.target == target && !n.confirmed && !n.withdrawn

/-! ### Starting a set (R37 to R46) -/

/-- A set ends before it began: each member unarmed with its content and this result, and the run with it (RUN_STAT.RESULT
beyond CONFLICT: DESIGN CHOICE, log 50). -/
def State.failSet (s : State) (set : Pages) (run : Bool) (r : Nat) : State :=
  let s := set.foldl (fun s e => s.finishPost e.1 e.2 r) s
  if run then s.endRun r else s

/-- The superframe counter a set's posts count: of its one page, the local grid for a run. -/
def State.setSfc (s : State) (set : Pages) (run : Bool) : Nat :=
  match set with
  | [e] => if run then s.sfc else s.pageSfc e.1 e.2
  | _ => s.sfc

/-- R42 decided at POST or RUN that the post lands unsealed. -/
def State.postedPlain (s : State) (e : Page × Nat) : Bool :=
  match s.postOf e.1 e.2 with | some x => x.plain | none => false

/-- Sealed posts that R42 posts unsealed, decided for good. -/
def State.decidePlain (s : State) (es : Pages) : State :=
  { s with posts := s.posts.map fun x => if es.contains (x.page, x.inst) then { x with plain := true } else x }

/-- Start a set whose posts are armed, or try again: `target` is its SFC match, or the superframe of a set
that waited for another negotiation (R38, R39, R41, R42).  What an unsealed member of a negotiated run may not change is judged
here, before anything is proposed (R44). -/
def State.startSet (s : State) (set : Pages) (run : Bool) (moment : Nat) (target : Option Nat) : State :=
  let now := s.setSfc set run
  let sealedSet := s.sealedOf set
  let wasHeld := fun (e : Page × Nat) => match s.postOf e.1 e.2 with
    | some x => decide (x.phase = .held) | none => false
  let kind := fun (e : Page × Nat) => if s.postedPlain e then 0 else s.postKind set e
  let held := sealedSet.filter fun e => kind e == 2 || (wasHeld e && kind e != 1)
  let neg := sealedSet.filter fun e => kind e == 1
  let open_ := set.filter fun e => !sealedSet.contains e
  let late := target.any fun t => sfcCome t now || (!sealedSet.isEmpty && decide (sfcFrom now t < 4))
  let ports := (neg.filterMap fun e => s.pagePort e.1 e.2).eraseDups
  let setAll := fun (s : State) (es : Pages) ph t => es.foldl (fun s e => s.setPhase e.1 e.2 ph t) s
  let setRun := fun (s : State) (t : Option Nat) begun => if run then
      { s with run := s.run.map fun r => { r with target := t, begun := begun } } else s
  if late then s.failSet set run resLate
  else if s.sealedTooLong set then s.failSet set run resConflict
  else
  let s := s.decidePlain (sealedSet.filter fun e => !held.contains e && !neg.contains e)
  if !held.isEmpty then setRun (setAll (setAll s set .armed target) held .held target) target false
  else if neg.isEmpty then
    let t := if moment = 2 && s.clk.grid then some (sfcAdd now 1) else target
    setRun (setAll s set .armed t) t false
  else if s.conflicts set || open_.any s.unsealedChange || ports.any fun p => decide (16 < s.messageCount set p) then
    s.failSet set run resConflict
  else
    let t := target.getD (sfcAdd now 4)
    let at' := fun p => sfcAdd (s.portSfc p) (sfcFrom now t)
    if ports.all fun p => s.portFree p (at' p) then
      let s := setAll (setAll s set .armed (some t)) neg .negotiating (some t)
      setRun (ports.foldl (fun s p => s.proposeSet set p (at' p)) s) (some t) true
    else setRun (setAll (setAll s set .armed (some t)) neg .queued (some t)) (some t) false

/-- The pages of the armed members of a run. -/
def State.runPages (s : State) : Pages := (s.posts.filter (·.member)).map fun x => (x.page, x.inst)

/-! ### Host side (R35, R37, R43) -/

/-- A change of RANGE on a line that is BANKED or in RETRAIN waits for SHOWTIME like a sealed one (R219, R220). -/
def State.rangeWaits (s : State) (l : Nat) : Bool :=
  let st := (s.line l).st
  s.isV l && (st = .banked || st = .retrain) && s.after LAFE.CTRL.RANGE l != s.g LAFE.CTRL.RANGE l

/-- ENV_CTRL.POST on a page whose other fields are written (R35, R37 to R39). -/
def State.post (s : State) (p : Page) (i : Nat) : State :=
  let isSealed := s.g (HDR.ENV_CTRL.SEALED p) i == 1
  let member := s.g (HDR.ENV_CTRL.MAILRUN p) i == 1
  let moment := s.g (HDR.ENV_CTRL.MOMENT p) i
  if isSealed && !sealable p then s.setResult p i resConflict
  else
    let now := s.pageSfc p i
    let d := sfcAhead (s.g (HDR.ENV_WHEN.WHEN p) i) now
    if !member && moment == 3 && sfcLate isSealed d then s.setResult p i resLate
    else
      let x : Post := { page := p, inst := i, moment := moment, target := none,
                        sealedPost := isSealed || (p = .lafe && s.rangeWaits i), member := member, phase := .armed }
      let s := { s with posts := s.posts ++ [x] }
      if member then s
      else s.startSet [(p, i)] false moment (if moment = 3 then some (sfcAdd now d) else none)

/-- POST is refused while a post is armed or in flight, and for a member while a run is in flight. -/
def State.postRefused (s : State) (p : Page) (i w : Nat) : Bool :=
  (s.postOf p i).isSome || (bit w 3 && s.run.isSome)

/-- A run that waited starts where it now can, its other sealed members with it (R37); one that DISCARD left without members ends POSTED (DESIGN CHOICE, log 50). -/
def State.retryRun (s : State) : State :=
  match s.run with
  | some r =>
    if r.begun then s
    else if s.runPages.isEmpty then s.endRun resPosted
    else if s.posts.any fun x => x.member && (x.phase = .held || x.phase = .queued ||
        (x.sealedPost && !x.plain && s.postKind s.runPages (x.page, x.inst) == 1)) then
      s.startSet s.runPages true r.moment r.target
    else s
  | none => s

/-- ENV_CTRL.DISCARD (R35, R37): the envelope is emptied; a member leaves its run. -/
def State.discardPost (s : State) (p : Page) (i : Nat) : State :=
  ((s.emptyEnvelope p i).finishPost p i resDiscarded).retryRun

/-- RUN_CTRL.RUN (R43, R44): a V-tail line's page and the moment IMMEDIATE conflict; a run without members ends POSTED at
once (DESIGN CHOICE, log 50). -/
def State.startRun (s : State) : State :=
  let set := s.runPages
  let moment := s.g DEVENV.RUN_CTRL.MOMENT
  let d := sfcAhead (s.g DEVENV.RUN_WHEN.WHEN) s.sfc
  let s := (s.wr DEVENV.RUN_STAT.MEMBERS set.length).wr DEVENV.RUN_STAT.STEPS 0
  let s := s.wr DEVENV.RUN_STAT.SPLIT 0
  if moment = 0 || set.any fun e => isLinePage e.1 && s.isVTail e.2 then s.failSet set true resConflict
  else if moment = 3 && sfcLate (!(s.sealedOf set).isEmpty) d then s.failSet set true resLate
  else if set.isEmpty then s.endRun resPosted
  else
    let s := { s with run := some { moment := moment, target := none, begun := false, members := set.length } }
    s.startSet set true moment (if moment = 3 then some (sfcAdd s.sfc d) else none)

/-- RUN_CTRL.CANCEL (R43): before the run begins, its members return to unarmed with their content; the run's own result is
then DISCARDED, and a CANCEL after its beginning does nothing (DESIGN CHOICE, log 50). -/
def State.cancelRun (s : State) : State :=
  match s.run with
  | some r => if r.begun then s else (s.dismissMembers resDiscarded).endRun resDiscarded
  | none => s.dismissMembers resDiscarded

/-! ### Layout changes at their landing (R33, R47, R354) -/

/-- The SAs, PNs and counters of a port are cleared. -/
def State.clearSecy (s : State) (p : Nat) : State :=
  let s := s.modPort p fun x => { x with sas := [], sasNext := [] }
  let s := (List.range 6).foldl (fun s a =>
    ((s.wr PORT_SEC.SA_CTRL.ENABLE 0 p a).wr PORT_SEC.SA_CTRL.EXHAUSTED 0 p a).wr PORT_SEC.SA_PN_LO.PN 0 p a
      |>.wr PORT_SEC.SA_PN_HI.PN 0 p a) s
  s.wrWords PORT_SEC.CNT.COUNT p (List.replicate 11 0)

/-- A port whose membership the layout changed: one that is no anchor any more forgets its state, a new anchor
takes the content staged for it. -/
def State.settlePort (s : State) (p was : Nat) : State :=
  let now := s.width p
  if now = was then s
  else
    let s := s.clearSecy p
    let s := if now = 0 then s.modPort p fun x => { pairKey := x.pairKey } else s
    let s := if was = 0 then (s.applyFields .port_ctl p).modPort p fun x =>
        { x with express := s.g PORT_CTL.PROFILE.EXPRESS p == 1 } else s
    let s := s.zeroStamps p
    let s := if now = 0 then s else (((s.refreshPort p).refreshDegraded p).sortPort p).refreshFill p
    ((s.refreshPage .port_ctl p).refreshPage .port_sec p).refreshPairing p

/-- The port counters of a line whose port has other members now (R198). -/
def State.newEpoch (s : State) (l : Nat) (was : Nat × Nat) : State :=
  if (s.anchor l, s.width (s.anchor l)) = was then s
  else ((s.clearAll portCounters l).wr LMON.EPOCH.COUNT (s.g LMON.EPOCH.COUNT l + 1) l).pulse .lmon l 8

/-- A quad takes a new layout: negotiations and join requests of ports that vanish end. -/
def State.layoutQuad (s : State) (q code : Nat) : State :=
  let ps := (List.range 4).map (4 * q + ·)
  let was := ps.map s.width
  let port := ps.map fun l => (s.anchor l, s.width (s.anchor l))
  let gone := ps.filter fun p => s.isAnchor p && layoutWidth code (p % 4) != s.width p
  let s := gone.foldl (fun s p =>
    let s := (s.unqueueJoin p).failJoinOf p []
    if layoutWidth code (p % 4) = 0 then (s.abortNeg p).emptyPort p else s) s
  let s := s.wr (quadField (q % 8)) code 0 (q / 8)
  let s := (ps.zip port).foldl (fun s (l, w) => s.newEpoch l w) s
  (ps.zip was).foldl (fun s (p, w) => s.settlePort p w) s

/-! ### What pages do at their landing -/

/-- The line stops what it did under its old mode; a line that was V-head has no entries any more (R19, R89, R105, R106,
R203, R231). -/
def State.endMode (s : State) (l : Nat) : State :=
  let s := if s.isVHead l then s.wantClear l else s
  if (s.line l).st = .leaving && !(s.line l).active then
    ((s.noteExit l rsHost).forgetLine l).moveLine l .off
  else s.holdOff l

/-- The line can run: its cluster's sample clock is locked and nothing holds it cut out. -/
def State.lineServed (s : State) (l : Nat) : Bool :=
  s.locked (2 + l / 32) && !s.fault.isolated.contains (32 + l / 32) && !(s.line l).ocHeld

/-- The line's new mode starts (R122): at once where its cluster runs, else with the cluster. -/
def State.beginMode (s : State) (l : Nat) : State :=
  let c := l / 32
  let s := if s.mode l != 0 then s.ungateCluster c else s
  let s := if (s.line l).ocHeld then s else s.release (128 + l)
  let s := if s.mode l == 3 && l % 4 == 0 then s.startStandard l else s
  if s.lineServed l && s.enabled .lctl l && s.mode l != 0 then s.startLine l else s

/-- An LCTL post lands (R122, R124): a new mode is the line enable, the same mode releases a FAULTED line; one
that is held stays FAULTED (R217, R311).  A calibration or reflectometry run is interrupted (R203, R231). -/
def State.landMode (s : State) (l : Nat) : State :=
  let old := s.mode l
  let s := if s.hasStaged .lctl l then (s.stopCal l 5).interruptReflect l else s
  if (s.line l).st = .faulted && !s.lineServed l then s.applyFields .lctl l
  else if s.after LCTL.MODE.SEL l = old then
    let s := s.applyFields .lctl l
    if (s.line l).st = .faulted then (s.release (128 + l)).resumeLine l else s
  else (s.endMode l).applyFields .lctl l

/-- A line whose port the layout changed starts its bring-up anew in its new port: at boundary S where it left in order,
else by another path than an orderly leave (R105, R106, R124; DEDUCED, log 64). -/
def State.changePort (s : State) (l was : Nat) : State :=
  let st := (s.line l).st
  if s.anchor l = was ∨ !s.isV l ∨ st = .off ∨ st = .beacon ∨ st = .quiet ∨ st = .faulted then s else s.startLine l

/-- THRU_ACTIVE of every port (R266). -/
def State.refreshThru (s : State) : State :=
  let peer := fun p => s.g PORT_CTL.HOSTCFG.PEER p
  let one := fun p => s.g PORT_CTL.HOSTCFG.THRU p == 1 && s.isAnchor p && s.isV p
  allLines.foldl (fun s p =>
    let on := one p && one (peer p) && peer (peer p) == p && peer p != p
    if bnat on = s.g PORT_CTL.HOSTSTAT.THRU_ACTIVE p then s
    else ((s.wr PORT_CTL.HOSTSTAT.THRU_ACTIVE (bnat on) p).sortPort p).refreshFill p) s

/-- The content of a page lands (R37), LCTL and PORTMAP apart; HOSTMASK comes into force on a running line, on any other at
its next loading exchange (R62), as does a profile at the next entry (R82); what R42 posted unsealed waits for them even where the
line has come to run since. -/
def State.landPage (s : State) (e : Page × Nat) : State :=
  match e.1 with
  | .lctl | .portmap => s
  | .port_ctl =>
    let s := s.applyFields .port_ctl e.2
    (if s.portUp e.2 && !s.postedPlain e then s.applyProfile e.2 else s).refreshPort e.2
  | .lload =>
    let s := s.applyFields .lload e.2
    let runs := ((s.line e.2).st = .showtime || (s.line e.2).st = .leaving) && !s.postedPlain e
    (s.modLine e.2 fun x => { x with hostMask := if runs then s.hostMaskOf e.2 else x.hostMask }).showTable e.2
  | .lreach => s.applyReach e.2
  | .lafe => s.applyAfe e.2
  | .sorting => (List.range 32).foldl (fun s l => s.sortLane l) (s.applyFields .sorting 0)
  | p => s.applyFields p e.2

/-- Units of a set land together: modes end, quads take their layouts, modes begin, the other pages follow, and
what depends on them all (R24, R45). -/
def State.landUnits (s : State) (set : Pages) (units : List Nat) : State :=
  let here := set.filter fun e => e.1 != .portmap && units.contains (pageUnit e.1 e.2) && !s.staysDormant set e
  let quads := if set.contains (.portmap, 0) then
      (List.range 32).filter fun q => units.contains (100 + q) && s.quadIn set q != s.quad q else []
  let lines := (here.filter fun e => e.1 = .lctl).map (·.2)
  let moved := lines.filter fun l => s.modeIn set l != s.mode l
  let thru := here.any fun e => e.1 = .port_ctl
  let codes := quads.map fun q => (q, s.quadIn set q)
  let stays := (quads.flatMap fun q => (List.range 4).map fun i => (4 * q + i, s.anchor (4 * q + i))).filter fun e =>
    !moved.contains e.1
  let s := lines.foldl (fun s l => s.landMode l) s
  let s := codes.foldl (fun s (q, c) => s.layoutQuad q c) s
  let s := stays.foldl (fun s e => s.changePort e.1 e.2) s
  let s := moved.foldl (fun s l => s.beginMode l) s
  let s := here.foldl (fun s e => s.landPage e) s
  let s := if lines.isEmpty then s
    else lines.foldl (fun s l => (((s.startErasure (s.tag l)).refreshErase l).sortPort (s.anchor l)).refreshOwner l)
      (s.refreshMasks.refreshGates)
  if thru || !quads.isEmpty || !lines.isEmpty then s.refreshThru else s

/-! ### Landing -/

/-- The post or run is due: at its superframe, at a symbol boundary, or at once (R38). -/
def State.landingDue (s : State) (now moment : Nat) (target : Option Nat) : Bool :=
  match target with
  | some t => s.clk.grid && s.sym == 0 && (if moment = 3 then now == t else sfcCome t now)
  | none => moment == 0 || (s.clk.grid && (moment == 1 || s.sym == 0))

/-- A post that waits for the end of a packet: any of LREACH, and of LAFE on a REACH line (R179, R219, R222). -/
def State.waitsPacket (s : State) (e : Page × Nat) : Bool :=
  (e.1 = .lreach || (e.1 = .lafe && (s.line e.2).st = .reach)) && s.packetOn e.2

/-- The results of a set that has landed, over `steps` boundaries. -/
def State.setLanded (s : State) (set : Pages) (run : Bool) (steps : Nat) : State :=
  let split := bnat (decide (1 < steps))
  let s := set.foldl (fun s e =>
    let s := (s.wr (HDR.ENV_STAT.STEPS e.1) steps e.2).wr (HDR.ENV_STAT.SPLIT e.1) split e.2
    if s.heldPost e.1 e.2 && isLinePage e.1 then
      { s with posts := s.posts.map fun x =>
          if x.page = e.1 && x.inst == e.2 then { x with member := false, phase := .confirmed } else x }
    else
      let s := if e.1 = .portmap then s.emptyEnvelope .portmap 0 else s
      s.finishPost e.1 e.2 resPosted) s
  if run then
    ((s.wr DEVENV.RUN_STAT.STEPS steps).wr DEVENV.RUN_STAT.SPLIT split).endRun resPosted
  else s

/-- The rest of the landing of a run, or of the post of one page. -/
def SplitRest.serves (r : SplitRest) (run : Bool) (e : Page × Nat) : Bool :=
  r.run == run && (run || (r.page = e.1 && r.inst == e.2))

/-- The sealed members of a split run have landed whole on boundary S: their results are those of one boundary (R40 step 4,
R46). -/
def State.sealedLanded (s : State) (es : Pages) : State :=
  es.foldl (fun s e => (s.wr (HDR.ENV_STAT.STEPS e.1) 1 e.2).finishPost e.1 e.2 resPosted) s

/-- Land the first of the boundaries, and keep the others for the symbol boundaries that follow: the posts have begun
(R37). -/
def State.landBatches (s : State) (set : Pages) (run : Bool) (e : Page × Nat) (bs : List (List Nat)) (steps : Nat) :
    State :=
  let held := set.filter s.waitsPacket
  let whole := set.filter fun (e : Page × Nat) => match s.postOf e.1 e.2 with
    | some x => x.phase = .confirmed && x.sealedPost && !x.plain | none => false
  let s := { s with rest := s.rest.filter fun r => !r.serves run e }
  let s := set.foldl (fun (s : State) (e : Page × Nat) => s.setPhase e.1 e.2 .confirmed
    ((s.postOf e.1 e.2).bind fun x => x.target)) s
  let s := match bs with
    | us :: _ =>
      let s := (held.filter fun (e : Page × Nat) => us.contains (pageUnit e.1 e.2)).foldl (fun (s : State) (e : Page × Nat) =>
        s.modReach e.2 fun x => { x with held := x.held ++ [e.1] }) s
      s.landUnits (set.filter fun e => !(isLinePage e.1 && s.heldPost e.1 e.2)) us
    | [] => s
  match bs with
  | _ :: r :: rs =>
    { s.sealedLanded (if steps = 1 then whole else []) with
      rest := s.rest ++ [{ batches := r :: rs, steps := steps, run := run, page := e.1, inst := e.2, last := (s.sfc, s.sym) }] }
  | _ => s.setLanded set run steps

/-- An LAFE post that cannot land now: a change of RANGE on a line that is BANKED or in RETRAIN, whenever it was posted, and a
change of gain or range that R42 posted unsealed on a line that has come to run since, wait and are proposed (R91, R220;
the second DEDUCED, log 101). -/
def State.afeWaits (s : State) (e : Page × Nat) : Bool :=
  e.1 = .lafe && (s.rangeWaits e.2 || (s.postedPlain e && s.unsealedChange e))

/-- Posts that must wait for their lines: held as sealed ones. -/
def State.holdPosts (s : State) (es : Pages) : State :=
  { s with posts := s.posts.map fun x => if es.contains (x.page, x.inst) then
      { x with sealedPost := true, plain := false, phase := .held, target := none } else x }

/-- A set comes into effect: unsealed content is judged here, where no partner has confirmed a member (R44, R47, R62,
R121). -/
def State.landSetNow (s : State) (set : Pages) (run : Bool) (e : Page × Nat) : State :=
  let judgedNow := !set.any fun e => match s.postOf e.1 e.2 with | some x => x.phase = .confirmed | none => false
  let plain := set.filter fun e => !s.postedPlain e
  if judgedNow && (s.conflicts set || plain.any s.unsealedChange) then s.failSet set run resConflict
  else if judgedNow && set.any s.afeWaits then s.holdPosts (set.filter s.afeWaits)
  else
    let s := if run then { s with run := s.run.map fun r => { r with begun := true } } else s
    s.landBatches set run e (s.batches set) 1

/-- POST_LANDS: the post of a page, or the mail run of a member, lands, or a split landing goes on. -/
def execPostLands (p : Page) (i : Nat) (s : State) : Answer :=
  match onPage p i s with
  | .next s =>
    if !s.controlRunning || s.fault.s3 then .next s
    else .next (match s.postOf p i with
    | some x =>
      let ready := fun (y : Post) => y.phase = .armed || y.phase = .confirmed
      match s.rest.find? fun r => (r.run && x.member) || (!r.run && r.page = p && r.inst == i) with
      | some r =>
        if s.clk.grid && r.last == (s.sfc, s.sym) then s
        else s.landBatches (if r.run then s.runPages else [(p, i)]) r.run (p, i) r.batches (r.steps + 1)
      | none =>
      if x.member then
        match s.run with
        | some r =>
          if (s.posts.all fun y => !y.member || ready y) && s.landingDue s.sfc r.moment r.target then
            s.landSetNow s.runPages true (p, i)
          else s
        | none => s
      else if ready x && s.landingDue (s.pageSfc p i) x.moment x.target && !s.heldPost p i then
        s.landSetNow [(p, i)] false (p, i)
      else s
    | none => s)
  | o => o

/-! ### Negotiations of posts (R40 to R42, R44) -/

/-- SEALED_NEGOTIATION_START: posts of the port that R42 held, or that waited for another negotiation, start
where they can; a queued one whose lines no longer run is refused (R41). -/
def execSealedNegotiationStart (port : Nat) (s : State) : Answer :=
  withPortTimer port s fun s =>
    let mine := s.posts.filter fun x => x.sealedPost && !x.member && (x.phase = .held || x.phase = .queued) &&
      s.pagePort x.page x.inst == some port
    let s := mine.foldl (fun s x =>
      let k := s.postKind [(x.page, x.inst)] (x.page, x.inst)
      if k = 1 then s.startSet [(x.page, x.inst)] false x.moment x.target
      else if x.phase = .queued then s.finishPost x.page x.inst resRefused
      else s) s
    s.retryRun

/-- Our proposal of a port is confirmed in superframe S − 1. -/
def State.confirmNeg (s : State) (port : Nat) : State :=
  let ps := s.posts.map fun x =>
    if s.ofPort port x && decide (x.phase = .negotiating) then { x with phase := .confirmed } else x
  let s := { s with posts := ps }
  s.modPort port fun x => { x with sealCode := 3, neg := x.neg.map fun n => { n with confirmed := true } }

/-- The ports that the run in flight negotiates on. -/
def State.runPorts (s : State) : List Nat :=
  ((s.posts.filter fun x => x.member && x.phase = .negotiating).filterMap fun x => s.pagePort x.page x.inst).eraseDups

/-- The negotiation is the leave of dead lines, which needs no partner (R152). -/
def State.leavesDead (s : State) (n : Neg) : Bool :=
  let leave : Change → Bool := fun c => match c with
    | .leave ls _ => ls.all fun l => s.isVHead l && !(s.line l).active
    | _ => false
  n.changes.any leave && n.changes.all fun c => leave c || (match c with | .layout _ | .sync => true | _ => false)

/-- Agreement is held on a port, or none is needed: a dead line's leave lands at the Puond alone (R40, R152). -/
def State.negAgreed (s : State) (p : Nat) : Bool :=
  match (s.port p).neg with | some n => (n.agreed || s.leavesDead n) && !n.withdrawn | none => false

/-- Refuse our proposal of a port. -/
def State.refuseNeg (s : State) (p : Nat) : State :=
  match (s.port p).neg with | some n => s.negRefused p n | none => s

/-- SEAL_CONFIRM at the start of superframe S − 1 (R40, R44): the confirmation where agreement is held, a run as
one; else the withdrawal of every open proposal of the run, the members refused or withdrawn. -/
def execSealConfirm (port : Nat) (s : State) : Answer :=
  withPortTimer port s fun s =>
    match (s.port port).neg with
    | some n =>
      if n.ours && !n.confirmed && n.target == sfcAdd (s.portSfc port) 1 then
        let rp := if s.runPorts.contains port then s.runPorts else [port]
        let lacking := rp.filter fun p => !s.negAgreed p
        if lacking.isEmpty then rp.foldl (fun s p => s.confirmNeg p) s
        else
          let s := s.refusePosts fun x => x.phase != .held && lacking.any fun p => s.ofPort p x
          (rp.foldl (fun s p => s.refuseNeg p) s).sweepGaps
      else s
    | none => s

end Sys2Proof.Machine
end

