-- ==== Sys2Proof/Machine/Grid.lean ====
section
/-! DEFINITION. The symbol grid (R21, R22): what happens at the start of a superframe and of a pilot cycle. -/

namespace Sys2Proof.Machine

/-! ### The grid -/

/-- The CPLLs that the device runs have locked, with SPLL (R21). -/
def State.cpllsLocked (s : State) : Bool :=
  s.locked 0 && (List.range 4).any (fun c => s.locked (2 + c)) &&
    (List.range 4).all fun c => s.locked (2 + c) || s.fault.isolated.contains (32 + c) || s.pwr.gated.contains c

/-- The grid has a clock: every CPLL that the device runs has locked once, and one of them still runs (R21, R281). -/
def State.gridRuns (s : State) : Bool :=
  if s.clk.grid then (List.range 4).any fun c => s.locked (2 + c) else s.cpllsLocked

/-- The grid advances: SFC 0 on the first superframe, or the chain's SFC where SYNC already follows it; a
remote grid with it (R21, R22, R269). -/
def State.advanceGrid (s : State) : State :=
  let n := if s.clk.grid || s.g SYNC.STAT.LOCKED == 1 then (s.sfc + 1) % 2 ^ 48 else 0
  let s := { s.modClk (fun x => { x with grid := true }) with sfc := n, sym := 0 }
  (allLines.filter s.isVTail).foldl (fun s l =>
    s.modLine l fun x => { x with remote := x.remote.map fun r => (r + 1) % 2 ^ 48 }) s

/-- The high time of SYNC_OUT before a superframe (R268): the frame start's SFC, bit 47 first. -/
def syncHigh (sfc : Nat) : Nat :=
  let n := sfc % 64
  if n = 0 then 512
  else if n ≤ 48 then (if bit (sfc / 64 * 64) (48 - n) then 192 else 64) else 64

/-- SYNC_OUT in MASTER and FOLLOW mode rises OUT_LEAD samples before the boundary; it stays low in OFF (R268). -/
def State.pulseSync (s : State) : State :=
  if s.g SYNC.CTRL.MODE ≤ 1 then
    { s with ev := { s.ev with syncHigh := syncHigh s.sfc, syncLead := s.g SYNC.CTRL.OUT_LEAD } }
  else { s with ev := { s.ev with syncHigh := 0, syncLead := 0 } }

/-! ### Ports at a superframe's start -/

/-- A negotiation whose superframe has come without confirmation ends (R40, R70). -/
def State.expireNeg (s : State) (p : Nat) : State :=
  match (s.port p).neg with
  | some n =>
    if sfcCome n.target (s.portSfc p) then (if n.ours then s.negRefused p n else s.dropTheirs p) else s
  | none => s

/-- The SEAL code of the superframe: IDLE where nothing is open, AGREE where we agreed (R70). -/
def State.showSeal (s : State) (p : Nat) : State :=
  match (s.port p).neg with
  | none => s.modPort p fun x => { x with sealCode := 0 }
  | some n => if !n.ours && n.agreed then s.modPort p fun x => { x with sealCode := 2 } else s

/-- Superframe S − 1 of a change of profile: a Bulk port closes only EMPTY DTUs (R82). -/
def State.closeEmpty (s : State) (p : Nat) : State :=
  match (s.port p).neg with
  | some n =>
    let moves := n.changes.any fun c => match c with
      | .profile b => (b % 2 == 1) != (s.port p).express | _ => false
    if moves && n.agreed && n.target == sfcAdd (s.portSfc p) 1 && !(s.port p).express then
      s.modPort p fun x => { x with onlyEmpty := true } else s
  | none => s

/-- The data scramblers of a port start from the superframe's seed (R68); a V-tail port counts the head's lines
and superframes. -/
def State.seedScramblers (s : State) (p : Nat) : State :=
  let seed := dataSeed (s.pilotRow p) (s.portSfc p)
  s.modPort p fun x => { x with txScr := seed, rxScr := seed }

/-- PORT_DROP is proposed again every 4 superframes (R148). -/
def State.retryDrop (s : State) (p : Nat) : State :=
  let x := s.port p
  match x.dropSince with
  | some t =>
    if s.isVHead p && x.neg.isNone && sfcFrom t (s.portSfc p) % 4 == 0 then
      s.propose p (sfcAdd (s.portSfc p) 4) (x.dropLines.map fun l => .portDrop l)
    else s
  | none => s

/-- A mask or a MAXBITS that its line lacks, after its post, a refusal or a wake, is staged and, with its segments sent, proposed
once the port is free (R24, R61, R146). -/
def State.retryMask (s : State) (l : Nat) : State :=
  let x := s.line l
  if s.lacksMask l && x.st = .showtime && !x.frozen && !x.sraPending && (s.port (s.anchor l)).neg.isNone then
    if !x.tablesPending then s.stageMask l
    else if x.sendSegs.isEmpty then s.proposeTables l (sfcAdd (s.portSfc (s.anchor l)) 4)
    else s
  else s

/-- LOAD segments repeat: in LOADING until the proposal, on a running line until S − 2 (R143, R146). -/
def State.repeatSegs (s : State) (l : Nat) : State :=
  let x := s.line l
  let n := (s.port (s.anchor l)).neg
  if !x.sendSegs.isEmpty then s
  else if x.st = .loading && x.loadSent && n.isNone then
    s.modLine l fun x => { x with sendSegs := List.range 11 }
  else
    match n with
    | some n =>
      if inData x.st && n.ours && decide (2 ≤ sfcFrom (s.portSfc (s.anchor l)) n.target) && !sfcCome n.target (s.portSfc (s.anchor l)) then
        let segs := fun (new : Option (Nat × Store Nat)) (old : Store Nat) =>
          match new with | some (_, t) => diffSegs old t | none => []
        let named := fun up => n.changes.any fun c => match c with | .loading m u _ => m == l && u == up | _ => false
        let up := s.isVHead l
        let rx := if named up then segs x.newRx x.rxTable else []
        let tx := if named (!up) then (segs x.newTx x.txTable).map (16 + ·) else []
        s.modLine l fun x => { x with sendSegs := rx ++ tx }
      else s
    | none => s

/-- What a V port does as a superframe starts. -/
def State.portSuperframe (s : State) (p : Nat) : State :=
  let s := (((s.considerTheirs p).showSeal p).lowerIssue p).closeEmpty p
  let s := (s.seedScramblers p).retryDrop p
  let s := (s.portLines p).foldl (fun s l => ((s.retryMask l).proposeSra l).repeatSegs l) s
  let s := s.proposeEntry p
  let s := if s.sfc % 16 = 0 then s.modPort p fun x => { x with hostDue := max 1 x.hostDue } else s
  (s.noteStat p).buildFrames p

/-! ### The end of a line's pilot cycle -/

/-- The end of a pilot cycle of a line: its SNR and what follows from it (R65, R140, R145, R198). -/
def State.snrCycle (s : State) (l : Nat) : State :=
  if (s.line l).errCount.isEmpty || (s.line l).st = .retrain then s
  else ((s.showSnr l).watchSnr l).sraCheck l

/-- The residuals of the background correction that a line's front end reports, and the lane trims that the correction has come
to where it is not paused (R224). -/
def State.showResiduals (s : State) (m : LineMeter) : State :=
  let l := m.line
  let s := if m.lanes.isEmpty || s.g LAFE.ADCSUM.PAUSED l == 1 then s
    else s.modCal l fun x => { x with lanes := laneTrims m.lanes }
  let s := s.wr LAFE.ADCSUM.CONVERGED
    (bnat (decide (m.skew ≤ 2 ∧ m.gain ≤ 5 ∧ m.offset ≤ 8 ∧ m.spur ≤ -7500))) l
  let s := (s.wr LAFE.ADCSUM.SKEW_MAX (min 255 m.skew) l).wr LAFE.ADCSUM.GAIN_MAX (min 255 m.gain) l
  s.wr LAFE.ADCSUM.OFFSET_MAX (min 255 m.offset) l

/-- The PGA code to propose at the end of a pilot cycle in SHOWTIME (R221): 6 lower after an ADC sample at full scale or an RMS
above −11 dBFS, 6 higher after 16 cycles in a row below −17 dBFS. -/
def wantedPga (pga full low : Nat) (rms : Option Int) : Nat :=
  if full != 0 || rms.any fun r => decide (-1100 < r) then pga - 6
  else if 16 ≤ low then min 72 (pga + 6)
  else pga

/-- What a line's front end did over the pilot cycle: clipped and full-scale samples and the RMS, counted from the samples; the
PGA follows in SHOWTIME, whose cycles with samples alone count as low (R213, R221, R224, R236). -/
def State.meterLine (s : State) (l : Nat) : State :=
  let x := s.line l
  let clipped := x.dacClipped
  let full := x.adcFull
  let rms : Option Int := if x.adcCount = 0 ∨ x.adcSum = 0 then none else some (decibels 100 (x.adcSum / x.adcCount))
  let s := (s.bump LAFE.DAC_CLIP.COUNT l clipped).bump LAFE.ADC_OVER.COUNT l full
  let s := (s.cond .lafe l 6 (clipped != 0)).cond .lafe l 7 (full != 0)
  let s := s.wr LAFE.ADCSUM.PAUSED (bnat (rms.all fun r => decide (r < -5000))) l
  let low := if x.st = .showtime && x.adcCount != 0 && rms.all fun r => decide (r < -1700) then x.lowCycles + 1 else 0
  let s := s.modLine l fun x => { x with lowCycles := if 16 ≤ low then 0 else low, adcSum := 0, adcCount := 0,
                                         adcFull := 0, dacClipped := 0 }
  let pga := s.g LAFE.CTRL.PGA l
  let want := wantedPga pga full low rms
  if s.isV l && (s.line l).st = .showtime && s.g LAFE.CTRL.PGA_AUTO l == 1 && want != pga then
    s.propose (s.anchor l) (sfcAdd (s.portSfc (s.anchor l)) 4) [.afe l false want]
  else s

/-- The line's pilot cycles follow the remote grid (R22). -/
def State.onRemoteGrid (s : State) (l : Nat) : Bool := s.isVTail l && (s.line l).remote.isSome

/-- A pilot cycle of a V-tail line's remote grid has ended (R22, R140, R145, R221). -/
def State.remoteCycle (s : State) (l : Nat) : State :=
  if s.onRemoteGrid l && (s.line l).remote.any (· % 128 == 0) then (s.snrCycle l).meterLine l else s

/-! ### Lines at a superframe's start -/

/-- States in which a head sends downstream pilots (R124, R128). -/
def sendsPilots : LineState → Bool
  | .handshake | .ranging | .joining | .training | .loading | .showtime | .banked | .leaving | .retrain => true
  | _ => false

/-- The RETRAIN word of an attempt (R149 step 2): P, and the correction of a δ average outside 0 to 128. -/
def State.retrainWord (s : State) (l : Nat) : State :=
  let x := s.line l
  if x.st = .retrain && x.sub == 0 && x.rejoin == 0 then
    let p := ceilDiv (x.retrainStart + 32) 128 * 128 % 2 ^ 48
    let avg := toSigned 16 (s.g LLOAD.ARRIVAL.DELTA l)
    let corr := if 0 ≤ avg ∧ avg ≤ 128 then 0 else avg - 64
    s.modLine l fun x => { x with wantWord := some (0xC3, corr, p % 2 ^ 16), rejoin := p,
                                  ta := min (2 ^ 20 - 1) ((x.ta : Int) + corr).toNat }
  else s

/-- The word that a head's line sends from a block on: a RETRAIN word up to boundary P alone (R134, R149). -/
def State.blockWord (s : State) (l : Nat) : Option (Nat × Int × Nat) :=
  let x := s.line l
  match x.st with
  | .ranging => x.wantWord
  | .retrain => if sfcCome x.rejoin s.sfc then none else x.wantWord
  | _ => none

/-- The tail's upstream pilots of ranging block 1 start or end with this block (R134). -/
def State.rangingEdge (s : State) (l : Nat) : Bool :=
  let x := s.line l
  x.st = .ranging && x.goSent && (s.sfc == x.goBlock || s.sfc == sfcAdd x.goBlock 16)

/-- An aligned block of 16 superframes starts on a V-head line: its pilots, and the word its state sends; a change inside a
cycle, its tail's included, keeps the line's pilots from the landings of R97 and R99 (R128, R134, R137, R149). -/
def State.pilotBlock (s : State) (l : Nat) : State :=
  let was := s.line l
  let on := sendsPilots was.st && !was.silent
  let s := s.retrainWord l
  let word := s.blockWord l
  let s := s.modLine l fun x => { x with pilots := on, word := word }
  if !was.active && !was.pilotActive && (on != was.pilots || word != was.word || s.rangingEdge l) then s.noteRotated l
  else s

/-- A V-tail line by the remote grid: ranging pilots in block 1, the two cycles of a join, FEQ of a retrain
(R125, R134, R136, R149). -/
def State.tailSuperframe (s : State) (l : Nat) : State :=
  let x := s.line l
  let t := x.remote.getD 0
  if x.remote.isNone then s
  else if x.st = .ranging && x.sub == 0 then
    let on := x.goSent && decide (x.goBlock ≤ t % 2 ^ 32 ∧ t % 2 ^ 32 < x.goBlock + 16)
    s.modLine l fun x => { x with pilots := on }
  else if x.st = .joining && x.sub == 0 && t % 128 == 0 then
    s.modLine l fun x => { x with sub := 1, trainStart := t, pilots := true }
  else if x.st = .joining && x.sub == 1 && t == sfcAdd x.trainStart 129 then
    (s.modLine l fun x => { x with pilots := false }).moveLine l .ranging 1
  else if x.st = .retrain && x.sub == 1 && t == sfcAdd x.trainStart 21 then
    s.modLine l fun x => { x with sub := 2, errSum := [], errCount := [] }
  else s

/-- What a V line does as a superframe starts. -/
def State.lineSuperframe (s : State) (l : Nat) : State :=
  let s := s.modLine l fun x =>
    { x with rangeSwitch := false, rxFrame := [], adcSumSf := 0, adcCountSf := 0,
             ohBad := if x.st = .showtime && !x.frozen then x.ohBad + 1 else x.ohBad }
  if s.isVTail l then (s.remoteCycle l).tailSuperframe l else if s.sfc % 16 = 0 then s.pilotBlock l else s

/-! ### The crosstalk engine at a superframe's start -/

/-- The next join request is served (R101); a level change or HOLD only holds back its start (R113). -/
def State.serveJoin (s : State) : State :=
  if s.xe.join.isNone && s.xe.served.isNone && !s.xe.queue.isEmpty then
    { s with xe := { s.xe with served := some s.sfc } }
  else s

/-- The feedback of the cycle that ended is complete (R99). -/
def State.rollFeedback (s : State) : State :=
  if s.sfc % 128 = 1 then
    { s with xe := { s.xe with prevFeedback := s.xe.feedback, prevBadTx := s.xe.badTx, feedback := [],
                               badTx := s.xe.nextBadTx, nextBadTx := [] } }
  else s

/-- SUPERFRAME_START (R21): the grid advances, confirmed negotiations land and the others of this superframe end,
and every part that counts superframes takes its step.  No grid in the safe state and before the CPLLs have
locked, and none while no CPLL runs. -/
def execSuperframeStart (s : State) : Answer :=
  if s.fault.s3 || !s.controlRunning || decide (2 ≤ s.pwr.state) || s.pwr.waking || !s.gridRuns then
    .next s
  else
    let s := s.advanceGrid.pulseSync
    let anchors := allLines.filter fun p => s.isAnchor p && s.isV p
    let s := anchors.foldl (fun s p => (s.landNeg p).expireNeg p) s
    let s := s.sweepGaps.rollFeedback
    let s := (allLines.filter s.isV).foldl (fun s l => s.lineSuperframe l) s
    let s := anchors.foldl (fun s p => s.portSuperframe p) s
    let s := (allLines.filter fun l => !(s.reachX l).held.isEmpty).foldl (fun s l => s.releaseHeld l) s
    let s := s.serveJoin.refreshGates
    .next (if s.lvl.phase = .waiting && s.xe.join.isNone then s.startLevel else s)

/-! ### The pilot cycle -/

/-- The errors of the cycle that ended wait for their landing; a new cycle is collected (R97, R99, R107). -/
def State.rollCycle (s : State) : State :=
  let frozen := allLines.filter fun l => (s.line l).frozen
  { s with xe := { s.xe with
      prevErr := s.xe.pilotErr, prevBadRx := s.xe.badRx, prevExcluded := s.xe.excluded,
      prevRotated := s.xe.rotated, prevDiscard := s.xe.discard, prevAmpUp := s.xe.ampUp, prevAmpDown := s.xe.ampDown,
      ampUp := [], ampDown := [], pilotErr := [], badRx := [],
      excluded := frozen, rotated := [], discard := false } }

/-- A head in TRAINING (R140 step 5): the groups' landings seen at one boundary, a whole cycle of SNR at the
next. -/
def State.trainCycle (s : State) (l : Nat) : State :=
  if s.isVHead l && (s.line l).st = .training && s.groupsDone l then
    s.modLine l fun x => { x with fed := true, snrReady := x.fed }
  else s

/-- PILOT_CYCLE_START (R21) of the local grid; a V-tail line on the remote one takes its step at that grid's boundary.  `meters`
hold the residuals that the front ends' background correction reports. -/
def execPilotCycleStart (meters : List LineMeter) (s : State) : Answer :=
  if s.fault.s3 || !s.clk.grid || !s.gridRuns || s.sfc % 128 != 0 || s.sym != 0 then .next s
  else
    let s := s.rollCycle
    let mine := allLines.filter fun l => !s.onRemoteGrid l
    let s := (mine.filter s.isV).foldl (fun s l => s.snrCycle l) s
    let s := allLines.foldl (fun s l => s.trainCycle l) s
    let s := mine.foldl (fun s l => s.meterLine l) s
    .next (meters.foldl (fun s m => s.showResiduals m) s).temperatureDue

end Sys2Proof.Machine
end

