-- ==== Sys2Proof/Machine/Live.lean ====
section
/-! DEFINITION. Reading registers: the address map (R31), READY (R34), fields that report the present state of
the hardware (R10), FREEZE and PEEK (R35), the LO and HI latch (R13, R287). -/

namespace Sys2Proof.Machine

/-! ### The address map (R31) -/

/-- The page at place n of a list of pages. -/
def pageAt (ps : List (Page × Nat)) (n : Nat) : Option (Page × Nat) := ps[n]?

/-- The device pages in the order of R31, LETTERBOX banked by channel (R49). -/
def devicePages (c : Nat) : List (Page × Nat) :=
  [(.ident, 0), (.session, 0), (.session, 1), (.session, 2), (.hearth, 0), (.clocks, 0), (.perf, 0), (.fault, 0),
   (.events, 0), (.calmgr, 0), (.thermal, 0), (.timebase, 0), (.portmap, 0), (.sorting, 0), (.letterbox, c),
   (.boot, 0), (.trust, 0), (.devenv, 0), (.xengine, 0), (.xwindow, 0), (.sync, 0)]

/-- The pages of cluster, port and line `i`, in address order. -/
def clusterPages (i : Nat) : List (Page × Nat) := [(.cluster, i), (.cpll, i), (.cxslice, i), (.ctemp, i)]
def portPages (i : Nat) : List (Page × Nat) := [(.port_ctl, i), (.port_sec, i)]
def linePages (i : Nat) : List (Page × Nat) :=
  [(.lctl, i), (.ltrain, i), (.lload, i), (.lmon, i), (.lreach, i), (.ldiag, i), (.lafe, i), (.lstd, i)]

/-- The page, instance and offset that channel c reaches at byte address a (R31, R32). -/
def decodeAddr (c a : Nat) : Option (Page × Nat × Nat) :=
  let found :=
    if a < 0x15000 then pageAt (devicePages c) (a / 4096)
    else if 0x100000 ≤ a ∧ a < 0x140000 then
      pageAt (clusterPages ((a - 0x100000) / 0x10000)) (a % 0x10000 / 4096)
    else if 0x200000 ≤ a ∧ a < 0x220000 then some (.lane, (a - 0x200000) / 4096)
    else if 0x400000 ≤ a ∧ a < 0x500000 then pageAt (portPages ((a - 0x400000) / 0x2000)) (a % 0x2000 / 4096)
    else if 0x1000000 ≤ a ∧ a < 0x1400000 then
      pageAt (linePages ((a - 0x1000000) / 0x8000)) (a % 0x8000 / 4096)
    else none
  found.map fun e => (e.1, e.2, a % 4096)

/-- Number of a page within its region: CLASS without the region's base (R35). -/
def pageNumber : Page → Nat → Nat
  | .ident, _ => 0 | .session, i => 1 + i | .hearth, _ => 4 | .clocks, _ => 5 | .perf, _ => 6 | .fault, _ => 7
  | .events, _ => 8 | .calmgr, _ => 9 | .thermal, _ => 10 | .timebase, _ => 11 | .portmap, _ => 12
  | .sorting, _ => 13 | .letterbox, _ => 14 | .boot, _ => 15 | .trust, _ => 16 | .devenv, _ => 17
  | .xengine, _ => 18 | .xwindow, _ => 19 | .sync, _ => 20
  | .cluster, _ => 0 | .cpll, _ => 1 | .cxslice, _ => 2 | .ctemp, _ => 3
  | .lane, _ => 0 | .port_ctl, _ => 0 | .port_sec, _ => 1
  | .lctl, _ => 0 | .ltrain, _ => 1 | .lload, _ => 2 | .lmon, _ => 3 | .lreach, _ => 4 | .ldiag, _ => 5
  | .lafe, _ => 6 | .lstd, _ => 7

/-- The region of a page: 0 device, 1 cluster, 2 lane, 3 port, 4 line. -/
def pageRegion : Page → Nat
  | .cluster | .cpll | .cxslice | .ctemp => 1
  | .lane => 2
  | .port_ctl | .port_sec => 3
  | .lctl | .ltrain | .lload | .lmon | .lreach | .ldiag | .lafe | .lstd => 4
  | _ => 0

/-- The base address of a page (R31). -/
def pageBase (p : Page) (i : Nat) : Nat :=
  4096 * pageNumber p i +
    match pageRegion p with
    | 1 => 0x100000 + 0x10000 * i
    | 2 => 0x200000 + 0x1000 * i
    | 3 => 0x400000 + 0x2000 * i
    | 4 => 0x1000000 + 0x8000 * i
    | _ => 0

/-- PAGE_ID.CLASS and INSTANCE (R35). -/
def pageClass (p : Page) (i : Nat) : Nat :=
  pageNumber p i + match pageRegion p with | 1 => 0x20 | 2 => 0x30 | 3 => 0x40 | 4 => 0x50 | _ => 1
def pageInstance (p : Page) (i : Nat) : Nat := if pageRegion p = 0 then 0 else i

/-- The address of a word of a field. -/
def Fld.addr (F : Fld) (i j : Nat) : Nat := pageBase F.page i + F.off + F.stride * j

/-- The fields of the word at an offset, with the word's index in each. -/
def fieldsAt (p : Page) (off : Nat) : List (Fld × Nat) :=
  (pageFields p).filterMap fun F =>
    if F.off ≤ off ∧ (off - F.off) % F.stride = 0 ∧ (off - F.off) / F.stride < F.cnt then
      some (F, (off - F.off) / F.stride)
    else none

/-- A page with staged fields (R35). -/
def hasEnvelope (p : Page) : Bool := (blockFields p).any fun F => F.acc = .rws

/-- A page with results (R48): those whose chapter says so. -/
def hasResults : Page → Bool
  | .clocks | .letterbox | .xengine | .xwindow | .lmon | .ldiag | .lafe => true
  | _ => false

/-- A field of MDIO_BASE exists on SESSION_MDIO only (R343); the envelope registers and RESULT_SEQ only on the
pages that have them (R35). -/
def fieldThere (F : Fld) (i : Nat) : Bool :=
  if F = SESSION.MDIO_BASE.CLUSTER then i == 2
  else if F.off = 0x020 ∨ F.off = 0x024 ∨ F.off = 0x028 then hasEnvelope F.page
  else if F.off = 0x030 then hasResults F.page
  else true

/-! ### READY (R33, R34, R385) -/

/-- A dormant port page: its port is no anchor. -/
def State.dormant (s : State) (p : Page) (i : Nat) : Bool := isPortPage p && !s.isAnchor i

/-- PAGE_STAT.READY: the control domain runs, and the page is not dormant. -/
def State.pageReady (s : State) (p : Page) (i : Nat) : Bool := s.controlRunning && !s.dormant p i

/-! ### Fields that report present state (R10) -/

/-- ENV_STAT of a page (R35, R37).  SEALWAIT stands from the proposal, or from the hold of R42, until boundary S (R40);
a post that R42 posts unsealed never shows it. -/
def State.postBegun (s : State) (p : Page) (i : Nat) : Bool :=
  s.inFlight p i || ((p = .lreach || p = .lafe) && s.heldPost p i)
def Post.waits (x : Post) : Bool :=
  x.sealedPost && !x.plain && (x.phase = .held || x.phase = .negotiating || x.phase = .confirmed)
def State.postWaits (s : State) (p : Page) (i : Nat) : Bool :=
  match s.postOf p i with | some x => x.waits | none => false

def State.liveHeader (s : State) (F : Fld) (i : Nat) : Nat :=
  let p := F.page
  if F = HDR.PAGE_ID.CLASS p then pageClass p i
  else if F = HDR.PAGE_ID.INSTANCE p then pageInstance p i
  else if F = HDR.PAGE_STAT.HEALTH p then s.health p i
  else if F = HDR.PAGE_STAT.READY p then bnat (s.pageReady p i)
  else if F = HDR.ENV_STAT.SEALWAIT p then bnat (s.postWaits p i)
  else if F = HDR.ENV_STAT.IN_FLIGHT p then bnat (s.postBegun p i)
  else if F = HDR.ENV_STAT.ARMED p then bnat ((s.postOf p i).isSome && !s.postBegun p i)
  else if F = HDR.ENV_STAT.STAGED p then bnat (s.hasStaged p i)
  else s.g F i

/-- CLOCKS.STAT.REFCLK: after a trip JUDGING from the next edge on, which no command shows (R277, R284, log 73). -/
def State.refShown (s : State) : Nat :=
  match s.clk.ref with
  | .absent => bnat (s.clk.coldStep != 0 && Config.refEdge s.free s.time.ns)
  | .judging => 1
  | .good => 2

/-- IDENT, SESSION, HEARTH, CLOCKS, PERF, FAULT, THERMAL and TIMEBASE (R284, R287, R295, R296, R305, R323, R343,
R385). -/
def State.liveClocks (s : State) (F : Fld) (i j : Nat) : Nat :=
  let x := s.session i
  if F = IDENT.STATUS.READY then bnat s.clk.identReady
  else if F = IDENT.DEVICE_ID_LO.ID then Config.deviceId % 2 ^ 32
  else if F = IDENT.DEVICE_ID_HI.ID then Config.deviceId / 2 ^ 32 % 2 ^ 32
  else if F = SESSION.NONCE.W then Config.random x.nonce / 2 ^ (32 * j) % 2 ^ 32
  else if F = SESSION.STAT.STATE then (if x.isOpen then 1 else if s.lockedOut i then 2 else 0)
  else if F = SESSION.STAT.ROLE then x.role
  else if F = SESSION.STAT.SLOT then x.slot
  else if F = HEARTH.PSTATE.SUBSTATE then s.pwr.sub
  else if F = HEARTH.PSTATE.STATE then s.pwr.state
  else if F = HEARTH.TRIM.STATE then s.clk.trimState
  else if F = HEARTH.TRIM.CODE then ofSigned 8 (s.clk.trimCode.getD Config.hoscFactory)
  else if F = CLOCKS.STAT.CSRC then (match s.clk.csrc with | .hosc => 0 | .kosc => 1 | .spll => 2 | .gated => 3)
  else if F = CLOCKS.STAT.KOSC then (match s.clk.kosc with | .off => 0 | .starting => 1 | .good => 2 | .bad => 3)
  else if F = CLOCKS.STAT.REFCLK then s.refShown
  else if F = CLOCKS.STAT.REDUCED then bnat s.reduced
  else if F = CLOCKS.STAT.TSRC then s.clk.tsrc
  else if F = CLOCKS.STAT.LOCK then ((List.range 7).map fun p => bnat (s.locked p) * 2 ^ p).sum
  else if F = CLOCKS.REFJUDGE.COUNT then
    (match s.refShown with | 0 => 0 | 1 => Config.refCount s.free s.time.ns % 0xFFFF | _ => 0xFFFF)
  else if F = PERF.STAT.LEVEL then s.lvl.level
  else if F = PERF.STAT.GOING then (if s.lvl.phase = .idle then 0 else s.lvl.going)
  else if F = PERF.STAT.PENDING then bnat (s.lvl.phase != .idle)
  else if F = PERF.STAT.AVS_FAIL then bnat s.lvl.avsFail
  else if F = FAULT.STAT.S3_ACTIVE then bnat s.fault.s3
  else if F = FAULT.STAT.FAULT_N then bnat s.fault.faultN
  else if F = FAULT.STAT.GLOW_FROZEN then bnat s.fault.glowFrozen
  else if F = FAULT.STAT.HANDLING then bnat s.handlingFirst
  else if F = THERMAL.DAMPER.CAP then s.lvl.cap
  else if F = TIMEBASE.NOW0.NS then s.time.ns
  else if F = TIMEBASE.NOW1.SEC then s.time.sec % 2 ^ 32
  else if F = TIMEBASE.NOW2.SECH then s.time.sec / 2 ^ 32 % 2 ^ 16
  else if F = TIMEBASE.NOW2.FRAC then s.time.frac
  else if F = TIMEBASE.STAT.VALID then bnat s.time.valid
  else if F = TIMEBASE.STAT.SUSPECT then bnat s.time.suspect
  else s.g F i j

/-- The sources of word j of a route that are 1. -/
def State.routedWord (s : State) (F : Fld) (j : Nat) : Nat :=
  ((s.ev.levels.filter fun n => n / 32 == j && bit (s.g F 0 j) (n % 32)).map fun n => 2 ^ (n % 32)).sum
def State.routeSummary (s : State) (F : Fld) : Nat :=
  ((List.range 16).map fun j => if s.routedWord F j = 0 then 0 else 2 ^ j).sum
def State.firstRouted (s : State) (F : Fld) : Option Nat := s.ev.levels.find? fun n => bit (s.g F 0 (n / 32)) (n % 32)

/-- The image of a slot shows its header only where the magic is found (R338). -/
def State.shownDigest (s : State) (k j : Nat) : Nat :=
  let x := (s.image k).source
  if imageMagic x then digestWord (imageDigest x) j else 0
def State.bootRuns (s : State) : Bool := s.trust.bootState == 2 || s.trust.bootState == 3

/-- EVENTS, CALMGR, LETTERBOX, BOOT, TRUST and DEVENV (R43, R49, R218, R328, R338, R362). -/
def State.liveTrust (s : State) (F : Fld) (i j : Nat) : Nat :=
  let img := (s.image j).source
  let k := s.slot j
  if F = EVENTS.SUMMARY.A then s.routeSummary EVENTS.ROUTE_A.EN
  else if F = EVENTS.SUMMARY.B then s.routeSummary EVENTS.ROUTE_B.EN
  else if F = EVENTS.FIRST_A.VALID then bnat (s.firstRouted EVENTS.ROUTE_A.EN).isSome
  else if F = EVENTS.FIRST_A.SOURCE then (s.firstRouted EVENTS.ROUTE_A.EN).getD 0
  else if F = EVENTS.FIRST_B.VALID then bnat (s.firstRouted EVENTS.ROUTE_B.EN).isSome
  else if F = EVENTS.FIRST_B.SOURCE then (s.firstRouted EVENTS.ROUTE_B.EN).getD 0
  else if F = EVENTS.PINS.INTA then bnat s.ev.pinA
  else if F = EVENTS.PINS.INTB then bnat s.ev.pinB
  else if F = EVENTS.RAW.LEVEL then ((s.ev.levels.filter (· / 32 == j)).map fun n => 2 ^ (n % 32)).sum
  else if F = CALMGR.STAT.POWERUP_DONE then bnat (allLines.all fun l => !(s.calX l).powerup)
  else if F = CALMGR.SLOT.KIND then s.slotKind j
  else if F = CALMGR.SLOT.LINE then (if s.slotKind j = 0 then 0 else s.g F i j)
  else if F = LETTERBOX.LB_STAT.SLOT_HELD then bnat (s.mgmt.lbLease.any (· != i))
  else if F = BOOT.CTRL.PREFER then s.trust.prefer
  else if F = BOOT.STAT.STATE then s.bootShown
  else if F = BOOT.STAT.SLOT then s.trust.running
  else if F = BOOT.STAT.FALLBACK then bnat s.trust.fallback
  else if F = BOOT.STAT.UPLOAD then bnat s.trust.upload.isSome
  else if F = BOOT.SLOT_AB.VALID then bnat (s.image j).valid
  else if F = BOOT.SLOT_AB.EMPTY then bnat (!imageMagic img)
  else if F = BOOT.SLOT_AB.SVN then (if imageMagic img then imageSvn img % 64 else 0)
  else if F = BOOT.SLOT_AB.VERSION then (if imageMagic img then imageField img 6 3 else 0)
  else if F = BOOT.DIGEST_A.W then s.shownDigest 0 j
  else if F = BOOT.DIGEST_B.W then s.shownDigest 1 j
  else if F = BOOT.BOOTCOUNT.COUNT then s.trust.bootCount
  else if F = TRUST.LIFECYCLE.STATE then s.trust.lifecycle
  else if F = TRUST.SVN.RUNNING then (if s.bootRuns then imageSvn (s.image s.trust.running).source % 64 else 0)
  else if F = TRUST.SVN.OTP then s.trust.svn
  else if F = TRUST.SLOT.VALID then bnat k.valid
  else if F = TRUST.SLOT.REVOKED then bnat k.revoked
  else if F = TRUST.SLOT.MAXROLE then k.maxRole
  else if F = TRUST.SLOT.USAGE then k.usage
  else if F = TRUST.SLOT.KCV then (if k.valid then Config.kmac256 (keyValue k.key) [] 16 "APS-KCV" else 0)
  else if F = TRUST.COMPAT.LEVEL then s.trust.compat
  else if F = TRUST.ATTEST_IDX_LO.INDEX then s.trust.attestNext % 2 ^ 32
  else if F = TRUST.ATTEST_IDX_HI.INDEX then s.trust.attestNext / 2 ^ 32
  else if F = TRUST.ATTEST_PUB.W then Config.attestPubWord j
  else if F = TRUST.ROOT_HASH.W then Config.rootHashWord j
  else if F = DEVENV.RUN_STAT.SEALWAIT then bnat (s.run.isSome && s.posts.any fun x => x.member && x.waits)
  else if F = DEVENV.RUN_STAT.IN_FLIGHT then bnat s.run.isSome
  else if F = DEVENV.BUSLOCK.OWNER then s.mgmt.busOwner
  else s.g F i j

/-- XENGINE, PORT_CTL and PORT_SEC (R93, R116, R272, R355). -/
def State.livePorts (s : State) (F : Fld) (i j : Nat) : Nat :=
  let sa := (s.port i).sas.find j
  if F = XENGINE.STAT.GROUP then groupOf s.sfc
  else if F = XENGINE.STAT.JOIN_BUSY then bnat s.xe.join.isSome
  else if F = XENGINE.STAT.HOLD_ACTIVE then bnat s.xe.hold
  else if F = XENGINE.STAT.LEVEL_PENDING then bnat (s.lvl.phase != .idle)
  else if F = XENGINE.STAT.LEVEL then s.lvl.level
  else if F = XENGINE.STAT.ACTIVE_COUNT then s.activeLines.length
  else if F = XENGINE.STAT.NV then s.nv
  else if F = XENGINE.ACTIVE.MASK then lineMask s.isActive j
  else if F = XENGINE.PACTIVE.MASK then lineMask s.isPilotActive j
  else if F = XENGINE.FROZEN.MASK then lineMask (fun l => (s.line l).frozen && s.isVHead l) j
  else if s.mode i = 3 && figureFields.contains F then 0
  else if F = PORT_CTL.HOSTSTAT.HOST_UP then bnat (s.ownHostUp i)
  else if F = PORT_CTL.HOSTSTAT.STOPPED then bnat (!s.stampsOn i || decide (s.issueRate i = 0))
  else if F = PORT_CTL.ISSUE.DEPTH then s.g LANE.STATUS.DEPTH (s.portLane i)
  else if F = PORT_CTL.ISSUE.RATE then min 0xFFFF (mbps (s.issueRate i))
  else if F = PORT_SEC.PAIR_CTRL.NOKEY then bnat (s.noKey i)
  else if F = PORT_SEC.SA_PN_LO.PN then (match sa with | some x => x.pn % 2 ^ 32 | none => s.g F i j)
  else if F = PORT_SEC.SA_PN_HI.PN then (match sa with | some x => x.pn / 2 ^ 32 % 2 ^ 32 | none => s.g F i j)
  else if F = PORT_SEC.SA_CTRL.ENABLE && decide (j < 2) then bnat sa.isSome
  else s.g F i j

/-- The internal load is connected (R218, R229, R202). -/
def State.onInternalLoad (s : State) (l : Nat) : Bool :=
  (s.calX l).onLoad || (s.slotKind (l / 32) == 3 && s.g CALMGR.SLOT.LINE 0 (l / 32) == l)

/-- LTRAIN, LMON, LAFE and LSTD (R153, R187, R191, R194, R214, R235, R248). -/
def State.liveLines (s : State) (F : Fld) (i j : Nat) : Nat :=
  let m := s.monX i
  if F = LTRAIN.STATUS.STATE then (s.line i).st.code
  else if F = LTRAIN.STATUS.SUBSTATE then (s.line i).sub
  else if F = LMON.CHAIN.OWNER then m.owner
  else if F = LMON.CHAIN.PRESET then s.chainPreset i
  else if F = LMON.NCO.FREQ then s.chainNco i
  else if F = LMON.CSTAT.VALID then bnat m.valid
  else if F = LMON.CSTAT.RST_ARMED then bnat m.armed.isSome
  else if F = LMON.CSTAT.BANKSTATE then m.bank
  else if F = LMON.CSTAT.ACTIVE then m.active
  else if F = LMON.CSTAT.SETTLE_LEFT then (if s.chainOn i then m.settle else 0)
  else if F = LMON.FSREF.DBM then ofSigned 16 (s.fsRef i)
  else if F = LAFE.STAT.DRIVER then (match s.driver i with | .highz => 0 | .clear => 1 | .active => 2)
  else if F = LAFE.STAT.SWITCH then bnat (s.onInternalLoad i)
  else if F = LAFE.CAL_STAT.STATE then (s.calX i).st
  else if F.page = .lstd && (F.acc = .ro || F.acc = .live) then
    (if s.mode i = 3 then s.g F (quadHead i) j else 0)
  else s.g F i j

/-- LLOAD: the arrival offset is a V-head line's, the timing advance a V-tail line's, and 0 on other modes (R61). -/
def State.liveLoad (s : State) (F : Fld) (i j : Nat) : Nat :=
  if F = LLOAD.ARRIVAL.DELTA then (if s.isVHead i then s.g F i j else 0)
  else if F = LLOAD.TADV.TA then (if s.isVTail i then s.g F i j else 0)
  else s.g F i j

/-- The value of a field now. -/
def State.value (s : State) (F : Fld) (i j : Nat) : Nat :=
  if F.off < 0x040 then s.liveHeader F i
  else
    match F.page with
    | .ident | .session | .hearth | .clocks | .perf | .fault | .thermal | .timebase => s.liveClocks F i j
    | .events | .calmgr | .letterbox | .boot | .trust | .devenv => s.liveTrust F i j
    | .xengine | .port_ctl | .port_sec => s.livePorts F i j
    | .ltrain | .lmon | .lafe | .lstd => s.liveLines F i j
    | .lload => s.liveLoad F i j
    | _ => s.g F i j

/-! ### FREEZE (R35) -/

/-- The fields that FREEZE holds: the RO status and counter fields of the page's block (log 41). -/
def frozenFields (p : Page) : List Fld := (blockFields p).filter fun F => F.acc = .ro || F.acc = .live

def frozenWords (p : Page) : List (Fld × Nat) :=
  (frozenFields p).flatMap fun F => (List.range F.cnt).map fun j => (F, j)

/-- FREEZE is written 1: the present values are captured. -/
def State.freeze (s : State) (p : Page) (i : Nat) : State :=
  let keep := fun (m : Store Nat) (e : Fld × Nat) => Store.set m (e.1.reset e.2) (e.1.key i e.2) (s.value e.1 i e.2)
  { s with frozen := (frozenWords p).foldl keep s.frozen }

/-- FREEZE returns to 0: the captured values go. -/
def State.thaw (s : State) (p : Page) (i : Nat) : State :=
  let drop := fun (m : Store Nat) (e : Fld × Nat) => Store.erase m (e.1.key i e.2)
  { s with frozen := (frozenWords p).foldl drop s.frozen }

/-! ### What a read shows (R12, R13, R34, R35) -/

/-- The fields that a read of a word latches: HI of a 64-bit counter (R13, R153), the rest of a time on TIMEBASE
(R287). -/
def latchedBy (F : Fld) : List Fld :=
  if F = CLOCKS.FM_COUNT_LO.COUNT then [CLOCKS.FM_COUNT_HI.COUNT]
  else if F = TIMEBASE.NOW0.NS then [TIMEBASE.NOW1.SEC, TIMEBASE.NOW2.SECH, TIMEBASE.NOW2.FRAC]
  else if F = TIMEBASE.PPSIN0.NS then [TIMEBASE.PPSIN1.SEC, TIMEBASE.PPSIN2.SECH, TIMEBASE.PPSIN2.FRAC]
  else if F = TRUST.ATTEST_IDX_LO.INDEX then [TRUST.ATTEST_IDX_HI.INDEX]
  else if F = PORT_CTL.RXBLK_LO.N then [PORT_CTL.RXBLK_HI.N]
  else if F = PORT_SEC.SA_PN_LO.PN then [PORT_SEC.SA_PN_HI.PN]
  else if F = LMON.CW_LO.COUNT then [LMON.CW_HI.COUNT]
  else if F = LMON.CW_FIX_LO.COUNT then [LMON.CW_FIX_HI.COUNT]
  else if F = LMON.DTU_TX_LO.COUNT then [LMON.DTU_TX_HI.COUNT]
  else if F = LTRAIN.PARTNER_ID_LO.ID then [LTRAIN.PARTNER_ID_HI.ID]
  else []

/-- The fields shown from the latch. -/
def latchedFields : List Fld :=
  [CLOCKS.FM_COUNT_HI.COUNT, TIMEBASE.NOW1.SEC, TIMEBASE.NOW2.SECH, TIMEBASE.NOW2.FRAC, TIMEBASE.PPSIN1.SEC,
   TIMEBASE.PPSIN2.SECH, TIMEBASE.PPSIN2.FRAC, TRUST.ATTEST_IDX_HI.INDEX, PORT_CTL.RXBLK_HI.N,
   PORT_SEC.SA_PN_HI.PN, LMON.CW_HI.COUNT, LMON.CW_FIX_HI.COUNT, LMON.DTU_TX_HI.COUNT, LTRAIN.PARTNER_ID_HI.ID]

/-- A field as a read sees it but for the latch: frozen, staged under PEEK, or now. -/
def State.shown (s : State) (F : Fld) (i j : Nat) : Nat :=
  let p := F.page
  match F.acc with
  | .w1p | .wo => 0
  | .rws =>
    if s.g (HDR.ENV_CTRL.PEEK p) i = 1 then (s.stagedAt F i j).getD (s.value F i j) else s.value F i j
  | .ro | .live =>
    if 0x040 ≤ F.off ∧ s.g (HDR.PAGE_CTRL.FREEZE p) i = 1 then s.frozen.get (F.reset j) (F.key i j)
    else s.value F i j
  | .rw | .w1c => s.value F i j

/-- A field on a page whose READY is 0 (R34): its reset value; staged content of a dormant page under PEEK. -/
def State.unreadyField (s : State) (F : Fld) (i j : Nat) : Nat :=
  match F.acc with
  | .w1p | .wo => 0
  | .rws =>
    if s.dormant F.page i && s.g (HDR.ENV_CTRL.PEEK F.page) i == 1 then (s.stagedAt F i j).getD (F.reset j)
    else F.reset j
  | _ => F.reset j

/-- What a read shows of a field. -/
def State.readField (s : State) (F : Fld) (i j : Nat) : Nat :=
  if !fieldThere F i then 0
  else if 0x040 ≤ F.off ∧ !s.pageReady F.page i then s.unreadyField F i j
  else if latchedFields.contains F then s.latched.get 0 (F.key i j)
  else s.shown F i j

/-- What a read of a word returns: reserved bits read as 0 (R11). -/
def State.readWord (s : State) (p : Page) (i off : Nat) : Nat :=
  ((fieldsAt p off).map fun e => s.readField e.1 i e.2 % 2 ^ e.1.w * 2 ^ e.1.lo).sum

/-- A read latches the words that belong to the one read. -/
def State.latch (s : State) (p : Page) (i off : Nat) : State :=
  if !s.pageReady p i then s
  else
    let keep := fun (m : Store Nat) (e : Fld × Nat) =>
      (latchedBy e.1).foldl (fun m (H : Fld) => Store.set m 0 (H.key i e.2) (s.shown H i e.2)) m
    { s with latched := (fieldsAt p off).foldl keep s.latched }

end Sys2Proof.Machine
end

