-- ==== Sys2Proof/Machine/Write.lean ====
section
/-! DEFINITION. Writing registers: clamped values, the fields a word acts on and the refusals of R384, roles
(R344), LOCK (R35), soft reset (R10), and what each page does with a word it accepts. -/

namespace Sys2Proof.Machine

/-- A word to write: the channel, the page, the offset and the value. -/
structure WordWrite where
  ch : Nat
  page : Page
  inst : Nat
  off : Nat
  w : Nat

/-- How an access completes (R345). -/
inductive Verdict where
  | ok | error | denied | locked
  deriving DecidableEq, Repr

/-! ### Values -/

/-- The value a field takes: those of the tables that say so are clamped (R153, R181, R208, R237, R284, R296,
R305, R323; log 42). -/
def clampedField (F : Fld) (v : Nat) : Nat :=
  if F = LTRAIN.TIMERS.BEACON_MS then clampNat 5 100 v
  else if F = LREACH.DETECT.PCHIRPS then clampNat 3 6 v
  else if F = LDIAG.CFG.VF then clampNat 400 990 v
  else if F = CALMGR.CTRL.PARTNER_TH then ofSigned 8 (clampInt (-70) (-20) (toSigned 8 v))
  else if F = CALMGR.CTRL.DELTA_T then clampNat 2 32 v
  else if F = CLOCKS.FM_CTRL.GATE then clampNat 10 24 v
  else if F = PERF.AVS.CLKDIV then clampNat 4 40 v
  else if F = HEARTH.ETH.DBM then ofSigned 8 (clampInt (-70) (-30) (toSigned 8 v))
  else if F = FAULT.WDOG.PERIOD then clampNat 16 4000 v
  else v

/-- The value the word carries for a field; a 1 in a reserved condition is ignored (R11). -/
def WordWrite.carried (x : WordWrite) (F : Fld) : Nat :=
  let v := bits x.w F.lo F.w
  if F.off == 0x010 || F.off == 0x014 || F.off == 0x018 then v &&& condMask F.page else v

/-- The value a field takes from the word. -/
def WordWrite.val (x : WordWrite) (F : Fld) : Nat := clampedField F (x.carried F)

/-- The current value of R384: staged where one is staged, in effect otherwise. -/
def State.current (s : State) (F : Fld) (i j : Nat) : Nat :=
  match F.acc with
  | .rws => (s.stagedAt F i j).getD (s.value F i j)
  | _ => s.value F i j

/-- The word acts on a field (R384). -/
def State.actsOn (s : State) (x : WordWrite) (e : Fld × Nat) : Bool :=
  let F := e.1
  fieldThere F x.inst &&
    match F.acc with
    | .ro | .live => false
    | .wo => true
    | .w1p | .w1c => x.carried F != 0
    | .rw | .rws => x.carried F != s.current F x.inst e.2

/-- The fields of the word, and those it acts on. -/
def WordWrite.fields (x : WordWrite) : List (Fld × Nat) :=
  (fieldsAt x.page x.off).filter fun e => fieldThere e.1 x.inst
def State.acted (s : State) (x : WordWrite) : List (Fld × Nat) := x.fields.filter (s.actsOn x)

/-- A field is among those acted on. -/
def hits (act : List (Fld × Nat)) (F : Fld) : Bool := act.any fun e => e.1 = F

/-! ### Roles (R344) -/

/-- The role of a channel's session. -/
def State.roleOf (s : State) (c : Nat) : Option Nat :=
  if (s.session c).isOpen then some (s.session c).role else none

/-- The page is the channel's own session page. -/
def ownPage (c : Nat) (p : Page) (i : Nat) : Bool := p = .session && i == c

/-- A channel may read a page: IDENT and its own session page always, the others under a session (R34, R344). -/
def State.mayRead (s : State) (c : Nat) (p : Page) (i : Nat) : Bool :=
  p = .ident || ownPage c p i || (s.roleOf c).isSome

/-- The fields that R344 gives to MAINTAIN alone on pages that OPERATE writes. -/
def maintainFields : List Fld :=
  [SORTING.EQ.CTLE, SORTING.EQ.SWING, SORTING.EQ.PRE, SORTING.EQ.MAIN, SORTING.EQ.POST, CLUSTER.CLRCODE.CODE,
   XENGINE.CTRL.PILOTSET, XWINDOW.CMD.WRITE, FAULT.CTRL.REBOOT, FAULT.CTRL.INJ_REACT, FAULT.INJECT.GO,
   FAULT.INJECT.RAIL, FAULT.INJECT.CLASS, FAULT.INJECT.CODE, FAULT.INJECT.SOURCE, FAULT.FENCE_LO.MAP,
   FAULT.FENCE_HI.MAP]

/-- A role may act on a field with a value (R35, R343, R344). The table's LETTERBOX cell gives OBSERVE "R" and its
command rows give OBSERVE ECHO, ATTEST and DIAG 0x80: the command registers ARG, CMD and DOORBELL are open to OBSERVE
here (DEDUCED, log 80). -/
def mayWrite (role : Option Nat) (own : Bool) (F : Fld) (v : Nat) : Bool :=
  match role with
  | none => own && F != SESSION.IDLE.MIN && !(F = HDR.PAGE_CTRL.LOCK F.page && v == 0) &&
      F != HDR.EVT_INJECT.INJECT F.page
  | some r =>
    let maintain := decide (2 ≤ r)
    if F = HDR.PAGE_CTRL.LOCK F.page then v == 1 || maintain
    else if F = HDR.EVT_INJECT.INJECT F.page then maintain
    else
      match F.page with
      | .ident => false
      | .session => own && (F != SESSION.IDLE.MIN || maintain)
      | .boot | .trust => maintain
      | .letterbox => maintain || r == 1 || decide (0x040 ≤ F.off)
      | .port_sec => maintain || (r == 1 && decide (0x080 ≤ F.off ∧ F.off < 0x200))
      | _ => maintain || (r == 1 && !maintainFields.contains F)

/-- The session rules refuse the word; IDENT is never written (R385). -/
def State.denies (s : State) (x : WordWrite) (act : List (Fld × Nat)) : Bool :=
  !s.mayRead x.ch x.page x.inst || x.page = .ident ||
    act.any fun e => !mayWrite (s.roleOf x.ch) (ownPage x.ch x.page x.inst) e.1 (x.val e.1)

/-! ### Refusals (R384) -/

/-- READY is 0: only staged fields of a dormant page accept writes (R33, R34). -/
def State.notReadyRefuses (s : State) (x : WordWrite) (act : List (Fld × Nat)) : Bool :=
  decide (0x040 ≤ x.off) && !s.pageReady x.page x.inst &&
    (!s.dormant x.page x.inst || act.any fun e => e.1.acc != .rws)

/-- LOCK = 1 (R35): RW and RWS block fields, FREEZE, ENABLE and SOFT_RESET. -/
def State.lockRefuses (s : State) (x : WordWrite) (act : List (Fld × Nat)) : Bool :=
  s.g (HDR.PAGE_CTRL.LOCK x.page) x.inst == 1 && act.any fun e =>
    (decide (0x040 ≤ e.1.off) && (e.1.acc = .rw || e.1.acc = .rws)) || e.1 = HDR.PAGE_CTRL.FREEZE x.page ||
      e.1 = HDR.PAGE_CTRL.ENABLE x.page || e.1 = HDR.PAGE_CTRL.SOFT_RESET x.page

/-- A post is armed or in flight (R35, R37). -/
def State.postRefuses (s : State) (x : WordWrite) (act : List (Fld × Nat)) : Bool :=
  (act.any fun e => e.1.acc = .rws) && (s.postOf x.page x.inst).isSome ||
    hits act (HDR.ENV_CTRL.POST x.page) && s.postRefused x.page x.inst x.w ||
    hits act (HDR.ENV_CTRL.DISCARD x.page) && s.postBegun x.page x.inst

/-- A request while BUSY (R48). -/
def requestFields : List Fld :=
  [CLOCKS.FM_CTRL.REQUEST, XENGINE.CENSUS_CTRL.REQUEST, XWINDOW.CMD.READ, XWINDOW.CMD.WRITE,
   LMON.CAP_CTRL.REQUEST, LDIAG.REQ.REFLECT, LAFE.CAL_REQ.REQUEST]

def State.busyRefuses (s : State) (x : WordWrite) (act : List (Fld × Nat)) : Bool :=
  s.busy x.page x.inst && act.any fun e => requestFields.contains e.1

/-- The refusals of the chapters, device and cluster pages (R47 to R50, R215, R252, R312, R318, R329, R332, R336,
R341, R361). -/
def State.deviceRefuses (s : State) (x : WordWrite) (act : List (Fld × Nat)) : Bool :=
  let hit := hits act
  match x.page with
  | .session => hit SESSION.CMD.OPEN && s.lockedOut x.inst
  | .fault => hit FAULT.CTRL.REBOOT && s.rebootRefused || hit FAULT.CLEAR.FIRST && s.clearRefused x.w
  | .sorting => act.any (fun e => e.1.off = 0x100) &&
      x.val SORTING.EQ.PRE + x.val SORTING.EQ.MAIN + x.val SORTING.EQ.POST != 40
  | .boot => hit BOOT.CTRL.SVN_COMMIT && s.svnRefused
  | .trust =>
    hit TRUST.LIFECYCLE.ADVANCE && s.advanceRefused (x.val TRUST.LIFECYCLE.TO) ||
      hit TRUST.KEYPROG.PROGRAM && s.programRefused (x.val TRUST.KEYPROG.SLOT) (x.val TRUST.KEYPROG.MAXROLE) ||
      hit TRUST.KEYPROG.REVOKE && s.revokeRefused x.ch (x.val TRUST.KEYPROG.SLOT) ||
      hit TRUST.COMPAT.PENDING && x.val TRUST.COMPAT.PENDING != 0xB0
  | .devenv => hit DEVENV.RUN_CTRL.RUN && s.run.isSome
  | .cluster => hit CLUSTER.CLRCODE.CODE &&
      !decide (0x1F00 ≤ x.val CLUSTER.CLRCODE.CODE ∧ x.val CLUSTER.CLRCODE.CODE ≤ 0x20FF)
  | _ => false

/-- The refusals of the chapters, port and line pages (R153, R184, R187, R192, R248, R351, R353). -/
def State.lineRefuses (s : State) (x : WordWrite) (act : List (Fld × Nat)) : Bool :=
  let hit := hits act
  let i := x.inst
  match x.page with
  | .port_sec =>
    hit PORT_SEC.SECY_CTRL.ENABLE && x.val PORT_SEC.SECY_CTRL.ENABLE == 1 && s.mode i == 4 ||
      act.any fun e => e.1 = PORT_SEC.SA_CTRL.INSTALL && s.installRefused i e.2 (x.val PORT_SEC.SA_CTRL.AN)
  | .ltrain => !s.isAnchor i && (hit LTRAIN.CTRL.BANK || hit LTRAIN.CTRL.WAKE || hit LTRAIN.CTRL.AUTOBANK ||
      hit LTRAIN.CTRL.AUTOWAKE)
  | .lmon =>
    hit LMON.CHAIN.PRESET && decide (5 ≤ x.val LMON.CHAIN.PRESET) ||
      (s.monX i).owner != 0 && (hit LMON.CHAIN.PRESET || hit LMON.NCO.FREQ || hit LMON.SYNCRST.SRC ||
        hit LMON.SYNCRST.ARM || hit LMON.SYNCRST.CANCEL) ||
      hit LMON.BANKA.TAP && !s.tapWritable i 0 || hit LMON.BANKB.TAP && !s.tapWritable i 1
  | .lstd => i % 4 != 0 && act.any fun e => e.1.off = 0x040 || e.1.off = 0x044
  | _ => false

/-- Some rule refuses the word. -/
def State.refuses (s : State) (x : WordWrite) (act : List (Fld × Nat)) : Bool :=
  s.notReadyRefuses x act || s.lockRefuses x act || s.postRefuses x act || s.busyRefuses x act ||
    s.deviceRefuses x act || s.lineRefuses x act

/-! ### Storing the fields -/

/-- WO fields that are no storage. -/
def actionFields (p : Page) : List Fld :=
  [HDR.EVT_INJECT.INJECT p, FAULT.CLEAR.FIRST, FAULT.CLEAR.LAST, FAULT.CLEAR.SEQ]

/-- One field of an accepted word is stored, staged or cleared (R12).  The monitor chain's settings stay the
host's while another owner has the chain (R187); a field of an armed envelope stays (R37). -/
def State.storeField (s : State) (x : WordWrite) (e : Fld × Nat) : State :=
  let F := e.1
  let v := x.val F
  match F.acc with
  | .rw =>
    if F.page = .lmon && (s.monX x.inst).owner != 0 && (F = LMON.CHAIN.PRESET || F = LMON.NCO.FREQ) then s
    else if F = BOOT.CTRL.PREFER then s.modTrust fun t => { t with prefer := v }
    else s.wr F v x.inst e.2
  | .wo => if (actionFields F.page).contains F then s else s.wr F v x.inst e.2
  | .rws => if (s.postOf x.page x.inst).isSome then s else s.stage F x.inst e.2 v
  | .w1c => s.wr F (s.g F x.inst e.2 - (s.g F x.inst e.2 &&& v)) x.inst e.2
  | _ => s

def State.storeWord (s : State) (x : WordWrite) : State := x.fields.foldl (fun s e => s.storeField x e) s

/-! ### Soft reset (R10, R34, R35) -/

/-- Return the stored fields of a page to their reset values, but those that survive. -/
def State.resetFields (s : State) (p : Page) (i : Nat) : State :=
  let fs := (pageFields p).filter fun F => !F.survives && F.acc != .live && F.acc != .w1p
  fs.foldl (fun s F => (List.range F.cnt).foldl (fun s j => s.wr F (F.reset j) i j) s) s

/-- The fields in effect of a page with staged fields take their reset values as a post would land them. -/
def State.landResetValues (s : State) (p : Page) (i : Nat) : State :=
  if !hasEnvelope p then s
  else
    let s := (envelopeWords p).foldl (fun s e => s.stage e.1 i e.2 (e.1.reset e.2)) s
    (s.landUnits [(p, i)] (List.range 132)).emptyEnvelope p i

/-- An armed post loses its content and is gone; a negotiation that has begun goes on (R37). -/
def State.dropArmed (s : State) (p : Page) (i : Nat) : State :=
  if (s.postOf p i).isSome && !s.postBegun p i then (s.dropPost p i).retryRun else s

/-- A request in progress on a page is given up with the page's soft reset (log 43). -/
def State.giveUpRequest (s : State) (p : Page) (i : Nat) : State :=
  let idle := fun (s : State) => (s.wr (HDR.PAGE_STAT.BUSY p) 0 i).wr (HDR.RESULT_SEQ.STALE p) 0 i
  match p with
  | .clocks => idle (s.modClk fun x => { x with fm := none })
  | .xengine => idle { s with xe := { s.xe with census := none } }
  | .xwindow =>
    let s := match s.xe.xw with | some r => s.releasePort r.master | none => s
    idle { s with xe := { s.xe with xw := none } }
  | .lmon => idle (s.modMon i fun x => { x with cap := none })
  | .letterbox =>
    idle ((s.modMgmt fun m => { m with lbCommands := m.lbCommands.filter (·.ch != i) }).wr LETTERBOX.LB_STAT.BUSY 0 i)
  | _ => s

/-- What the function behind a page does at its soft reset, with the fields back at their reset values (R103,
R124, R203, R217, R231, R311, R354). -/
def State.resetFunction (s old : State) (p : Page) (i : Nat) : State :=
  match p with
  | .perf => s.startLevel
  | .fault => s.refreshRevoked
  | .events => s.refreshPins
  | .timebase => { s with time := { s.time with setArmed := false } }
  | .letterbox => s.modMgmt fun m => { m with lbLease := if m.lbLease = some i then none else m.lbLease }
  | .xengine =>
    let s : State := { s with xe := { s.xe with hold := false } }
    if s.xe.join.isSome then s.failJoin [] else s
  | .sync => s.syncMode
  | .cluster =>
    if s.fault.isolated.contains (32 + i) then (s.release (32 + i)).startPlls [2 + i] else s
  | .lane =>
    if old.g LANE.CTRL.RATE i != 0 || !old.enabled .lane i then s.startLane i
    else if old.g LANE.CTRL.EQ i != 0 then (s.loopLane i).retrainLane i
    else s.loopLane i
  | .port_sec => (s.clearSecy i).refreshPairing i
  | .lmon =>
    let s := ((s.modMon i fun x => { x with bank := 0, active := 0, armed := none }).landSync i).showDetectors i
    (s.wr LMON.RST_NS.NS 0 i).wr LMON.RST_SEC.SEC 0 i
  | .ldiag => s.interruptReflect i
  | .lafe =>
    let s := ((s.interruptReflect i).stopCal i 5).cond .lafe i 5 false
    if (s.line i).ocHeld then
      s.modLine i fun x => { x with ocHeld := false }
    else s
  | .lstd => if i % 4 = 0 then s.refreshQuad i else s
  | _ => s

/-- PAGE_CTRL.SOFT_RESET. -/
def State.softReset (s : State) (p : Page) (i : Nat) : State :=
  let old := s
  let s := ((s.dropArmed p i).giveUpRequest p i).landResetValues p i
  let s := s.resetFields p i
  let latched := latchedFields.filter fun F => F.page = p
  let s := { s with latched := latched.foldl (fun (m : Store Nat) (F : Fld) =>
    (List.range F.cnt).foldl (fun (m : Store Nat) j => Store.erase m (F.key i j)) m) s.latched }
  let s := (s.thaw p i).resetFunction old p i
  let s := s.modFault fun x =>
    { x with shown := x.shown.filter fun n => n != faultSourceOf p i || isUnit n }
  s.refreshPage p i

/-! ### ENABLE (R35, R122, R189, R203, R214, R231, R253) -/

/-- ENABLE of a page changes. -/
def State.enableEffect (s : State) (p : Page) (i : Nat) : State :=
  let on := s.enabled p i
  match p with
  | .lctl =>
    if (s.line i).st = .faulted then s
    else if on then (if s.mode i != 0 && (s.line i).st = .off && s.lineServed i then s.startLine i else s)
    else (s.stopCal i 5).holdOff i
  | .lafe => if on then s else s.stopCal i 5
  | .ldiag => if on then s else s.interruptReflect i
  | .lmon => if on then s.landSync i else s.stopChain i
  | .lane => if on then s.startLane i else s.stopLane i
  | _ => s

/-! ### What pages do with an accepted word -/

/-- The banks of a page: LETTERBOX has one for each channel (R49, R324). -/
def pageBanks (p : Page) (i : Nat) : List Nat := if p = .letterbox then [0, 1, 2] else [i]

/-- The header's actions (R35 to R39).  A word that carries DISCARD and POST discards first (DESIGN CHOICE, log 49: the spec
gives no order). -/
def State.headerEffects (s : State) (x : WordWrite) (act : List (Fld × Nat)) : State :=
  let p := x.page
  let i := x.inst
  let hit := hits act
  let banks := pageBanks p i
  let s := if hit (HDR.PAGE_CTRL.FREEZE p) then
      banks.foldl (fun s i => if bit x.w 2 then s.freeze p i else s.thaw p i) s else s
  let s := if hit (HDR.PAGE_CTRL.ENABLE p) then s.enableEffect p i else s
  let s := if hit (HDR.PAGE_CTRL.SOFT_RESET p) then
      banks.foldl (fun s i => s.softReset p i) s else s
  let s := if hit (HDR.EVT_EN.EN p) || hit (HDR.EVT_PEND.PEND p) then s.refreshPage p i else s
  let s := if hit (HDR.EVT_INJECT.INJECT p) then s.edges p i (x.carried (HDR.EVT_INJECT.INJECT p)) else s
  let s := if hit (HDR.EVT_COUNT.CLR p) then s.wr (HDR.EVT_COUNT.COUNT p) 0 i else s
  let s := if hit (HDR.ENV_CTRL.DISCARD p) then s.discardPost p i else s
  if hit (HDR.ENV_CTRL.POST p) then s.post p i else s

/-- RELEASE, then TAKE of the bus lock by channel c (R43). -/
def State.busLock (s : State) (c : Nat) (release take : Bool) : State :=
  let s := if release && s.mgmt.busOwner == c + 1 then s.modMgmt fun m => { m with busOwner := 0 } else s
  if take && s.mgmt.busOwner == 0 then s.modMgmt fun m => { m with busOwner := c + 1 } else s

/-- Device and cluster pages. -/
def State.deviceEffects (s : State) (x : WordWrite) (act : List (Fld × Nat)) : State :=
  let hit := hits act
  let i := x.inst
  let on := fun (F : Fld) (f : State → State) (s : State) => if hit F then f s else s
  match x.page with
  | .session =>
    on SESSION.CMD.OPEN (·.openSession i) (on SESSION.CMD.RENEW (·.freshNonce i false)
      (on SESSION.CMD.CLOSE (·.closeSession i 1) s))
  | .hearth => on HEARTH.PSTATE.REQ (·.requestPower) s
  | .clocks => on CLOCKS.FM_CTRL.REQUEST (·.startFreqmon) s
  | .perf => on PERF.CTRL.AVS_RETRY (·.retryAvs) (on PERF.CTRL.TARGET (·.startLevel) s)
  | .fault =>
    let s := if x.off = 0x048 then s.clearRecords x.w else s
    let s := if hit FAULT.FENCE_LO.MAP || hit FAULT.FENCE_HI.MAP then s.refreshRevoked else s
    on FAULT.CTRL.REBOOT (·.reboot) (on FAULT.INJECT.GO (·.inject) s)
  | .events => if act.isEmpty then s else s.refreshPins
  | .calmgr => on CALMGR.CTRL.REQ_ALL (·.requestAll) s
  | .thermal => on THERMAL.PEAK.CLEAR (·.clearPeak) s
  | .timebase =>
    let s := if s.g TIMEBASE.CTRL.PPS_OUT_EN = 0 then { s with time := { s.time with ppsOut := false } } else s
    let s := on TIMEBASE.CTRL.SET (fun s =>
      if s.g TIMEBASE.CTRL.SET_AT_PPS = 1 then { s with time := { s.time with setArmed := true } } else s.landSet) s
    on TIMEBASE.CTRL.ADD (·.landAdd) s
  | .sorting =>
    (act.filter fun e => e.1.off = 0x100).head?.elim s fun e =>
      (List.range 32).foldl (fun s l => if s.g LANE.CTRL.EQ l = e.2 then s.retrainLane l else s) s
  | .boot => on BOOT.CTRL.SVN_COMMIT (·.commitSvn) (on BOOT.CTRL.CONFIRM (·.confirmBoot) s)
  | .trust =>
    let slot := x.val TRUST.KEYPROG.SLOT
    let s := on TRUST.KEYPROG.PROGRAM (·.program slot (x.val TRUST.KEYPROG.MAXROLE) (x.val TRUST.KEYPROG.USAGE)) s
    let s := on TRUST.KEYPROG.REVOKE (·.revoke slot) s
    on TRUST.LIFECYCLE.ADVANCE (·.advance (x.val TRUST.LIFECYCLE.TO)) s
  | .devenv =>
    let s := on DEVENV.RUN_CTRL.RUN (·.startRun) (on DEVENV.RUN_CTRL.CANCEL (·.cancelRun) s)
    s.busLock x.ch (hit DEVENV.BUSLOCK.RELEASE) (hit DEVENV.BUSLOCK.TAKE)
  | .xengine =>
    let s := if x.off = 0x040 then { s with xe := { s.xe with hold := s.g XENGINE.CTRL.HOLD == 1 } } else s
    on XENGINE.CENSUS_CTRL.REQUEST
      (fun s => s.startCensus (s.g XENGINE.CENSUS_CTRL.DIR) (s.g XENGINE.CENSUS_CTRL.LINE)) s
  | .xwindow =>
    if hit XWINDOW.CMD.READ then s.startXw false (x.ch + 1)
    else on XWINDOW.CMD.WRITE (·.startXw true (x.ch + 1)) s
  | .sync => on SYNC.CTRL.MODE (·.syncMode) s
  | .cluster => on CLUSTER.CLRCODE.CODE (·.refreshDacs) s
  | .ctemp => on CTEMP.MINMAX.CLEAR (·.clearMinmax i) s
  | _ => s

/-- Lane, port and line pages.  A SYNCRST word that carries CANCEL and ARM cancels and then arms (the spec gives no order: DESIGN
CHOICE, log 106). -/
def State.lineEffects (s : State) (x : WordWrite) (act : List (Fld × Nat)) : State :=
  let hit := hits act
  let i := x.inst
  let on := fun (F : Fld) (f : State → State) (s : State) => if hit F then f s else s
  match x.page with
  | .lane =>
    let s := on LANE.CTRL.LOOP (·.loopLane i) s
    let s := on LANE.CTRL.EQ (·.retrainLane i) s
    let s := on LANE.CTRL.RATE (·.startLane i) s
    on LANE.CTRL.RESTART (·.restartLane i) s
  | .port_ctl => on PORT_CTL.HOSTCFG.PAUSE (·.checkPause i) s
  | .port_sec =>
    let s := act.foldl (fun s e => if e.1 = PORT_SEC.SA_CTRL.INSTALL then s.installSa i e.2 else s) s
    let s := if x.off = 0x200 then s.refreshPairing i else s
    on PORT_SEC.PAIR_SET.SET (·.setPairKey i) s
  | .ltrain =>
    let s := on LTRAIN.CTRL.BANK (·.proposeBank i) s
    let s := on LTRAIN.CTRL.WAKE (·.startWake i) s
    let s := on LTRAIN.CTRL.RETRAIN (fun s => if s.isV i then s.retrainLine i rsHost else s) s
    on LTRAIN.CTRL.RESTART (·.restartLine i) s
  | .lmon =>
    let s := on LMON.CHAIN.PRESET (·.landSync i) s
    let s := on LMON.SYNCRST.CANCEL (·.cancelSync i) s
    let s := on LMON.SYNCRST.ARM (fun s => s.armSync i (s.g LMON.SYNCRST.SRC i)) s
    let s := on LMON.BANK.SWAP (·.swapBanks i) s
    let s := on LMON.CAP_CTRL.REQUEST (·.startCapture i) s
    let s := on LMON.CNT_CTRL.CLEAR (·.clearCounters i) s
    let s := on LMON.SNR_WATCH.TONE (·.restartWatch i) s
    if 0x060 ≤ x.off ∧ x.off ≤ 0x06C then s.showDetectors i else s
  | .ldiag => on LDIAG.REQ.REFLECT (·.startReflect i) s
  | .lafe => on LAFE.CAL_REQ.REQUEST (·.requestCal i) s
  | .lstd => on LSTD.ADV.RESTART (·.restartNegotiation i) s
  | _ => s

/-- Whether the page is one of the device or cluster pages. -/
def isDevicePage (p : Page) : Bool := decide (pageRegion p ≤ 1)

/-- An accepted word: every field takes its value, then the actions follow. -/
def State.applyWord (s : State) (x : WordWrite) : State :=
  let act := s.acted x
  let s := s.storeWord x
  if x.off < 0x040 then s.headerEffects x act
  else if isDevicePage x.page then s.deviceEffects x act
  else s.lineEffects x act

end Sys2Proof.Machine
end

