-- ==== Sys2Proof/Machine/Parcel.lean ====
section
/-! DEFINITION. Parcels (R356 to R360): the configuration as entries, its digest, export, verification and
application of an imported parcel, and the boot parcel. -/

namespace Sys2Proof.Machine

/-! ### Bytes and words -/

/-- A number as n bytes, most significant first. -/
def beBytes (n v : Nat) : List Nat := (List.range n).map fun i => v / 256 ^ (n - 1 - i) % 256

/-- The bytes of words, byte 0 of each word in bits 7:0. -/
def wordsBytes (ws : List Nat) : List Nat := ws.flatMap fun w => (List.range 4).map fun b => bits w (8 * b) 8

/-- Bytes as words; the last word is filled with zeros. -/
def bytesWords (bs : List Nat) : List Nat :=
  (List.range (ceilDiv bs.length 4)).map fun j =>
    ((List.range 4).map fun b => bs.getD (4 * j + b) 0 * 256 ^ b).sum

/-- A postmark as R347 lays it out: seconds 6 bytes, nanoseconds 4, 1/256 ns 1. -/
def State.postmarkBytes (s : State) : List Nat :=
  beBytes 6 s.time.sec ++ beBytes 4 s.time.ns ++ [s.time.frac]

/-! ### The configuration (R356, R357) -/

/-- A field that a parcel carries (R356). -/
def inParcel (F : Fld) : Bool :=
  (F.acc = .rw || F.acc = .rws) &&
    match F.page with
    | .session | .boot => false
    | .trust => F = TRUST.COMPAT.PENDING
    | .timebase => F = TIMEBASE.CTRL.PPS_WIDTH || F = TIMEBASE.CTRL.PPS_OUT_EN
    | .fault => F = FAULT.WDOG.PERIOD
    | .hearth => F != HEARTH.PSTATE.REQ
    | .port_sec => decide (0x040 ≤ F.off ∧ F.off < 0x058 ∨ F.off = 0x200)
    | _ => true

/-- The calibration readbacks of a parcel with CAL (R233, R356). -/
def calFields : List Fld :=
  [LAFE.SEG.POSITION, LAFE.SEG.TRIM, LAFE.SEG.ERROR, LAFE.LADDER.TRIM, LAFE.LADDER.ERROR, LAFE.HYB.ECHO_RL,
   LAFE.HYB.RES, LAFE.HYB.CAP, LAFE.GAIN.DAC_TRIM, LAFE.GAIN.ADC_TRIM]

/-- Every page in address order; of the banked LETTERBOX page, the MSPI bank (log 44). -/
def everyPage : List (Page × Nat) :=
  devicePages 0 ++ (List.range 4).flatMap clusterPages ++ (List.range 32).map (fun l => (.lane, l)) ++
    (List.range 128).flatMap portPages ++ (List.range 128).flatMap linePages

/-- The fields of a word that a parcel carries. -/
def parcelFields (cal : Bool) (p : Page) (i off : Nat) : List (Fld × Nat) :=
  (fieldsAt p off).filter fun e => fieldThere e.1 i && (inParcel e.1 || (cal && calFields.contains e.1))

/-- The entries of the configuration in effect: address and value of every word with such a field. -/
def State.parcelEntries (s : State) (cal : Bool) : List (Nat × Nat) :=
  everyPage.flatMap fun q => (List.range 1024).filterMap fun k =>
    match parcelFields cal q.1 q.2 (4 * k) with
    | [] => none
    | es => some (pageBase q.1 q.2 + 4 * k, (es.map fun e => s.value e.1 q.2 e.2 % 2 ^ e.1.w * 2 ^ e.1.lo).sum)

def entryBytes (es : List (Nat × Nat)) : List Nat := es.flatMap fun e => wordsBytes [e.1, e.2]

/-- The configuration digest (R357). -/
def State.configDigest (s : State) : Nat := Config.shake256 (entryBytes (s.parcelEntries false))

/-- A parcel of the present configuration with its tag under a slot's key. -/
def State.makeParcel (s : State) (slot key : Nat) (cal : Bool) : List Nat :=
  let es := s.parcelEntries cal
  let body := [0x41, 0x50, 0x53, 0x50, 1, bnat cal, 0xB0, s.trust.compat] ++ beBytes 8 Config.deviceId ++
    s.postmarkBytes ++ [slot] ++ beBytes 4 es.length ++ List.replicate 16 0 ++ entryBytes es
  body ++ beBytes 32 (Config.kmac256 key body 256 "APS-PARCEL")

/-! ### Verification (R359) -/

/-- The entries of a parcel given as words. -/
def entriesOf (ws : List Nat) : List (Nat × Nat) :=
  (List.range ((ws.length - 20) / 2)).map fun n => (ws.getD (12 + 2 * n) 0, ws.getD (13 + 2 * n) 0)

def parcelSlot (ws : List Nat) : Nat := (wordsBytes ws).getD 27 0
def parcelCal (ws : List Nat) : Bool := bit ((wordsBytes ws).getD 5 0) 0

/-- A value that passes the rules of the word's fields: none that a write would refuse for its value. -/
def valueAllowed (p : Page) (off v : Nat) : Bool :=
  let x : WordWrite := { ch := 0, page := p, inst := 0, off := off, w := v }
  match p with
  | .sorting => !decide (0x100 ≤ off ∧ off < 0x140) ||
      x.val SORTING.EQ.PRE + x.val SORTING.EQ.MAIN + x.val SORTING.EQ.POST == 40
  | .cluster => off != 0x080 || decide (0x1F00 ≤ x.val CLUSTER.CLRCODE.CODE ∧ x.val CLUSTER.CLRCODE.CODE ≤ 0x20FF)
  | .lmon => off != 0x040 || decide (x.val LMON.CHAIN.PRESET < 5)
  | .trust => x.val TRUST.COMPAT.PENDING == 0xB0
  | _ => true

/-- An entry names fields that R356 allows, with nothing beside them. -/
def entryAllowed (cal : Bool) (e : Nat × Nat) : Bool :=
  match decodeAddr 0 e.1 with
  | some (p, i, off) =>
    let es := parcelFields cal p i off
    decide (e.1 % 4 = 0) && !es.isEmpty && valueAllowed p off e.2 &&
      e.2 == (es.map fun f => bits e.2 f.1.lo f.1.w * 2 ^ f.1.lo).sum
  | none => false

/-- Ascending addresses. -/
def ascending : List (Nat × Nat) → Bool
  | a :: b :: l => decide (a.1 < b.1) && ascending (b :: l)
  | _ => true

/-- The whole parcel passes (R357, R359, R361). -/
def State.parcelGood (s : State) (ws : List Nat) : Bool :=
  let bs := wordsBytes ws
  let n := bs.length - 32
  decide (20 ≤ ws.length) && field bs 0 4 == 0x41505350 && bs.getD 4 0 == 1 && bs.getD 7 0 == 0xB0 &&
    ws.length == 20 + 2 * field bs 28 4 &&
    (match s.slotKey (parcelSlot ws) useParcel with
     | some k => decide (parcelSlot ws < 8) && Config.kmac256 k (bs.take n) 256 "APS-PARCEL" == field bs n 32
     | none => false) &&
    ascending (entriesOf ws) && (entriesOf ws).all (entryAllowed (parcelCal ws))

/-! ### Application (R359) -/

/-- One entry: RW values are written at once with what a write of them does, RWS values staged, calibration
readbacks set where they are the Puond's own; LOCK waits. -/
def State.applyEntry (own cal : Bool) (s : State) (e : Nat × Nat) : State :=
  match decodeAddr 0 e.1 with
  | some (p, i, off) =>
    let x : WordWrite := { ch := 0, page := p, inst := i, off := off, w := e.2 }
    let es := (parcelFields cal p i off).filter fun f => f.1 != HDR.PAGE_CTRL.LOCK p
    let act := es.filter (s.actsOn x)
    let s := es.foldl (fun s f =>
      if f.1.acc = .ro then (if own then s.wr f.1 (x.val f.1) i f.2 else s) else s.storeField x f) s
    if off < 0x040 then s.headerEffects x act
    else if isDevicePage p then s.deviceEffects x act
    else s.lineEffects x act
  | none => s

/-- The LOCK value of an entry. -/
def lockOf (e : Nat × Nat) : Option (Page × Nat × Nat) :=
  match decodeAddr 0 e.1 with
  | some (p, i, off) => if off = 0x004 then some (p, i, bits e.2 3 1) else none
  | none => none

/-- The staged pages post as one unsealed mail run at the next superframe; while another run is in flight they stay staged
(DESIGN CHOICE, log 79).  LOCK values land when the run is over, at once where none starts (R359). -/
def State.runStaged (s : State) (set : Pages) (locks : List (Page × Nat × Nat)) : State :=
  if set.isEmpty || s.run.isSome then s.landLocks locks
  else
    let mk : Page × Nat → Post := fun e =>
      ⟨e.1, e.2, 2, none, false, true, .armed, false⟩
    let armed := s.posts ++ set.map mk
    let going : MailRun := ⟨2, none, false, set.length, locks⟩
    let s := { s with posts := armed, run := some going }
    let s := ((s.wr DEVENV.RUN_STAT.MEMBERS set.length).wr DEVENV.RUN_STAT.STEPS 0).wr DEVENV.RUN_STAT.SPLIT 0
    s.startSet set true 2 none

/-- Apply a parcel: LOCK values land last, once its mail run is over (log 37). -/
def State.applyParcel (s : State) (ws : List Nat) : State :=
  let own := field (wordsBytes ws) 8 8 == Config.deviceId % 2 ^ 64
  let es := entriesOf ws
  let s := es.foldl (fun s e => s.applyEntry own (parcelCal ws) e) s
  let set := everyPage.filter fun q => s.hasStaged q.1 q.2 && (s.postOf q.1 q.2).isNone
  s.runStaged set (es.filterMap lockOf)

/-- The boot parcel, verified and applied after firmware verification (R360). -/
def State.applyBootParcel (s : State) : State :=
  let ws := s.trust.bootParcel
  if ws.isEmpty then s
  else if s.parcelGood ws then s.applyParcel ws
  else s.noteS1 0x27 16 (parcelSlot ws)

/-- Step 8 of R285: firmware verification and power-up calibration are done, the boot parcel is applied, and
IDENT.READY rises. -/
def execIdentReady (s : State) : Answer :=
  if s.clk.bootDone && s.clk.calDone && !s.clk.identReady then
    .next (s.applyBootParcel.modClk fun x => { x with identReady := true })
  else .next s

end Sys2Proof.Machine
end

