-- ==== Sys2Proof/Machine/Letterbox.lean ====
section
/-! DEFINITION. The letterbox (R49, R50) and the commands Stoker runs: ECHO, DIAG (R210), firmware uploads
(R337), parcels (R358, R359) and attestation (R346 to R348). -/

namespace Sys2Proof.Machine

/-- What a command ends with: STATUS and the response words. -/
abbrev Reply := Nat × List Nat

/-! ### Leases and RING (R50) -/

/-- A write of CMD by channel c: refused while another channel holds the lease (R50 step 2). -/
def State.leaseRefused (s : State) (c : Nat) : Bool := s.mgmt.lbLease.any (· != c)
def State.takeLease (s : State) (c : Nat) : State := s.modMgmt fun m => { m with lbLease := some c }

/-- RING is refused without the lease, while the channel's command is BUSY, and while Stoker is halted (R50 step
4, R281). -/
def State.ringRefused (s : State) (c : Nat) : Bool :=
  s.mgmt.lbLease != some c || s.mgmt.lbCommands.any (·.ch == c) || s.reduced

/-- The lowest role of a letterbox opcode (R344), by DIAG's function; none for an opcode R50 does not list. -/
def opcodeRole (op fn : Nat) : Option Nat :=
  match op with
  | 0x01 => some 0
  | 0x10 => some (if fn = 0x01 then 1 else 0)
  | 0x20 => some 2 | 0x21 => some 2 | 0x22 => some 2
  | 0x30 => some 2 | 0x31 => some 2 | 0x32 => some 2 | 0x33 => some 2
  | 0x40 => some 0
  | _ => none

/-- The page and status field of a DIAG request (R210): class 0x53 LMON or 0x55 LDIAG, the line, and where its
request register and its result area stand. -/
def diagPage (w : Nat) : Option (Page × Nat) :=
  let l := bits w 16 7
  match bits w 24 8 with
  | 0x53 => some (.lmon, l)
  | 0x55 => some (.ldiag, l)
  | _ => none
def diagRequest : Page → Nat | .lmon => 0x0A0 | _ => 0x040
def diagStatus : Page → Nat | .lmon => 0x0A4 | _ => 0x050

/-- DIAG function 0x01: the page's request starts with the fields of word 1; a page that is BUSY, or a refused word, ends the
command with ABORTED. -/
def State.startDiag (s : State) (c : Nat) (args : List Nat) : State :=
  match diagPage (args.getD 0 0) with
  | some (p, l) =>
    if args.getD 0 0 % 256 != 1 || args.length < 3 then s
    else
      let x : WordWrite := { ch := c, page := p, inst := l, off := diagRequest p,
                             w := bits (args.getD 1 0) 0 31 + 2 ^ 31 }
      if s.busy p l || s.refuses x (s.acted x) then
        s.modMgmt fun m => { m with lbCommands := m.lbCommands.map fun y =>
          if y.ch == c then { y with discard := true } else y }
      else s.applyWord x
  | none => s

/-- Stoker turns to the command at the front: a DIAG request of it starts (R50, R210). -/
def State.serveNext (s : State) : State :=
  match s.mgmt.lbCommands with
  | x :: rest =>
    if x.started then s
    else
      let s := s.modMgmt fun m => { m with lbCommands := { x with started := true } :: rest }
      if x.opcode = 0x10 ∧ !x.discard then s.startDiag x.ch x.args else s
  | [] => s

/-- RING: the slot is freed and Stoker takes the command; a role too low ends it at once with DENIED (R50,
R345). -/
def State.ring (s : State) (c : Nat) : State :=
  let op := s.g LETTERBOX.CMD.OPCODE c
  let tag := s.g LETTERBOX.CMD.TAG c
  let args := (List.range (s.g LETTERBOX.CMD.LENGTH c)).map fun j => if j < 256 then s.g LETTERBOX.ARG.W c j else 0
  let s := s.modMgmt fun m => { m with lbLease := none }
  let low := match opcodeRole op (args.getD 0 0 % 256), s.roleOf c with
    | some need, some r => decide (r < need)
    | some _, none => true
    | none, _ => false
  if low then s.landLetterbox c tag lbDenied []
  else
    let s := (s.beginResult .letterbox c).wr LETTERBOX.LB_STAT.BUSY 1 c
    let s := s.modMgmt fun m =>
      { m with lbCommands := m.lbCommands ++ [{ ch := c, opcode := op, tag := tag, args := args, discard := false }] }
    s.serveNext

/-- The lease ends before RING: LEASE_EXPIRED lands unless the channel's previous command is BUSY (R50 step
3). -/
def execLetterboxLeaseExpire (ch : Channel) (s : State) : Answer :=
  let c := chIx ch
  if s.mgmt.lbLease = some c then
    let s := s.modMgmt fun m => { m with lbLease := none }
    .next (if s.mgmt.lbCommands.any (·.ch == c) then s
      else s.landLetterbox c (s.g LETTERBOX.CMD.TAG c) lbLeaseExpired [])
  else .next s

/-! ### DIAG (R210) -/

/-- The response: RESULT_SEQ, the status word, and up to 254 result words from the offset. -/
def State.diagReply (s : State) (args : List Nat) : Reply :=
  if args.length < 3 then (lbBadLength, [])
  else
    match diagPage (args.getD 0 0) with
    | some (p, l) =>
      let fn := args.getD 0 0 % 256
      if fn != 1 && fn != 0x80 then (lbBadOpcode, [])
      else
        let off := bits (args.getD 2 0) 0 11
        (lbOk, [s.readWord p l 0x030, s.readWord p l (diagStatus p)] ++
          (List.range (min 254 (512 - off))).map fun j => s.readWord p l (0x800 + 4 * (off + j)))
    | none => (lbBadOpcode, [])

/-- A DIAG command still waits for its page's request. -/
def State.diagWaits (s : State) (x : LbCommand) : Bool :=
  x.opcode == 0x10 && !x.discard && x.args.getD 0 0 % 256 == 1 && decide (3 ≤ x.args.length) &&
    match diagPage (x.args.getD 0 0) with
    | some (p, l) => s.busy p l
    | none => false

/-! ### Firmware (R337) -/

/-- The slot an upload targets: the one that is not running. -/
def State.uploadSlot (s : State) : Nat := 1 - s.trust.running

def State.fwBegin (s : State) (c : Nat) (args : List Nat) : Reply × State :=
  let n := args.getD 0 0
  if args.isEmpty || decide (n < 4097 ∨ 16777216 < n) then ((lbBadLength, []), s)
  else if s.trust.bootState == 3 || s.trust.upload.any fun u => u.ch != c then ((lbSequence, []), s)
  else
    let s := s.modImage s.uploadSlot fun _ => { source := .erased, valid := false, confirmed := false }
    ((lbOk, []), s.modTrust fun t => { t with upload := some { ch := c, length := n, words := [], next := 0, lastLen := 0 } })

/-- A chunk of words for a transfer of `length` bytes: the next one, or a repeat of the last, whole but for the
last (R337). -/
def takeChunk (length : Nat) (words : List Nat) (next lastLen index : Nat) (data : List Nat) :
    Nat ⊕ (List Nat × Nat × Nat) :=
  let base := if index = next then some words
    else if index + 1 = next then some (words.take (words.length - lastLen)) else none
  match base with
  | none => .inl lbSequence
  | some ws =>
    let want := min 255 (ceilDiv length 4 - ws.length)
    if want = 0 then .inl lbSequence
    else if data.length != want then .inl lbBadLength
    else .inr (ws ++ data, index + 1, data.length)

def State.fwChunk (s : State) (c : Nat) (args : List Nat) : Reply × State :=
  match s.trust.upload with
  | some u =>
    if u.ch != c then ((lbSequence, []), s)
    else if args.isEmpty then ((lbBadLength, []), s)
    else
      match takeChunk u.length u.words u.next u.lastLen (args.getD 0 0) (args.drop 1) with
      | .inl r => ((r, []), s)
      | .inr (ws, next, last) =>
        let s := s.modTrust fun t => { t with upload := some { u with words := ws, next := next, lastLen := last } }
        ((lbOk, []), s.modImage s.uploadSlot fun x => { x with source := .uploaded u.length ws })
  | none => ((lbSequence, []), s)

def State.fwCommit (s : State) (c : Nat) : Reply × State :=
  match s.trust.upload with
  | some u =>
    if u.ch != c then ((lbSequence, []), s)
    else
      let s := s.modTrust fun t => { t with upload := none }
      if u.words.length != ceilDiv u.length 4 then ((lbBadLength, []), s)
      else
        let good := s.verifyImage (s.image s.uploadSlot).source == 0
        let s := s.modImage s.uploadSlot fun x => { x with valid := good }
        if good then ((lbOk, []), s.pulse .boot 0 0) else ((lbVerifyFail, []), s)
  | none => ((lbSequence, []), s)

/-! ### Parcels (R358, R359) -/

/-- Part n of an export: the parcel's length, then up to 1,020 bytes. -/
def State.exportPart (s : State) (c : Nat) : Reply × State :=
  match s.trust.exports.find c with
  | some t =>
    let part := (t.words.drop (255 * t.next)).take 255
    if part.isEmpty then ((lbSequence, []), s)
    else
      ((lbOk, t.length :: part),
        s.modTrust fun x => { x with exports := x.exports.put c (some { t with next := t.next + 1 }) })
  | none => ((lbSequence, []), s)

/-- A slot that does not serve PARCEL ends with VERIFY_FAIL (log 45). -/
def State.exportBegin (s : State) (c : Nat) (args : List Nat) : Reply × State :=
  let slot := args.getD 0 0 % 8
  if args.isEmpty then ((lbBadLength, []), s)
  else
    match s.slotKey slot useParcel with
    | some k =>
      let bs := s.makeParcel slot k (bit (args.getD 0 0) 8)
      let t : Transfer := { words := bytesWords bs, length := bs.length }
      (s.modTrust fun x => { x with exports := x.exports.put c (some t) }).exportPart c
    | none => ((lbVerifyFail, []), s)

/-- Index 0 begins an import anew; a chunk shorter than 255 words is the last. -/
def State.importChunk (s : State) (c : Nat) (args : List Nat) : Reply × State :=
  let t := (s.trust.imports.find c).getD {}
  let index := args.getD 0 0
  let data := args.drop 1
  let put := fun (t : Transfer) => s.modTrust fun x => { x with imports := x.imports.put c (some t) }
  if args.isEmpty || data.isEmpty || decide (255 < data.length) then ((lbBadLength, []), s)
  else if index = 0 then ((lbOk, []), put { words := data, next := 1, lastLen := data.length })
  else if index = t.next && t.lastLen == 255 then
    ((lbOk, []), put { words := t.words ++ data, next := index + 1, lastLen := data.length })
  else if index + 1 = t.next then
    ((lbOk, []), put { t with words := t.words.take (t.words.length - t.lastLen) ++ data, lastLen := data.length })
  else ((lbSequence, []), s)

/-- The whole parcel is checked before anything changes; APPLY needs every line OFF, and no mail run in
flight. -/
def State.importCommit (s : State) (c : Nat) (args : List Nat) : Reply × State :=
  match s.trust.imports.find c with
  | some t =>
    let w := args.getD 0 0
    if args.isEmpty then ((lbBadLength, []), s)
    else if !s.parcelGood t.words then ((lbVerifyFail, []), s)
    else if bit w 1 && (s.run.isSome || allLines.any fun l => s.mode l != 0) then ((lbSequence, []), s)
    else
      let s := s.modTrust fun x => { x with imports := x.imports.put c none }
      let s := if bit w 1 then s.applyParcel t.words else s
      ((lbOk, []), if bit w 0 then s.modTrust fun x => { x with bootParcel := t.words } else s)
  | none => ((lbSequence, []), s)

/-! ### Attestation (R346 to R348) -/

/-- The 192-byte body of a report (R347). -/
def State.reportBody (s : State) (nonce : List Nat) : List Nat :=
  let run := s.trust.running
  let other := s.image (1 - run)
  let slot := fun i =>
    let x := s.slot i
    bnat x.valid * 128 + bnat x.revoked * 64 + x.maxRole % 4 * 16 + x.usage % 16
  [0x41, 0x50, 0x53, 0x41, 1, s.trust.lifecycle, 0xB0, s.trust.compat] ++ beBytes 8 Config.deviceId ++ nonce ++
    s.postmarkBytes ++ [s.bootShown, s.trust.svn, run, imageSvn (s.image run).source,
      if other.valid then imageSvn other.source else 0xFF] ++
    beBytes 32 (imageDigest (s.image run).source) ++
    (if other.valid then beBytes 32 (imageDigest other.source) else List.replicate 32 0) ++
    beBytes 32 s.configDigest ++ (List.range 8).map slot ++ beBytes 4 s.trust.bootCount ++
    (List.range 4).flatMap (fun c => beBytes 4 (s.g FAULT.COUNT_S.COUNT 0 c)) ++ [0, 0, 0, 0]

/-- The report length, the offset, and up to 1,016 bytes from it. -/
def reportPart (report : List Nat) (off : Nat) : Reply :=
  (lbOk, [report.length, off] ++ bytesWords ((report.drop off).take 1016))

/-- SIGN: a block of 1,024 indices is reserved where none is left (R348). -/
def State.attestSign (s : State) (c : Nat) (args : List Nat) : Reply × State :=
  if args.length < 9 then ((lbBadLength, []), s)
  else if s.trust.attestOff then ((lbAborted, []), s)
  else
    let n := s.trust.attestNext
    let body := s.reportBody (wordsBytes ((args.drop 1).take 8))
    let report := body ++ (List.range 9893).map fun i => Config.attestSignature n body i % 256
    (reportPart report 0, s.modTrust fun t =>
      { t with attestNext := n + 1, attestEnd := if n < t.attestEnd then t.attestEnd else n + 1024,
               reports := t.reports.put c (some report) })

def State.attest (s : State) (c : Nat) (args : List Nat) : Reply × State :=
  match args.getD 0 0 % 256 with
  | 0x01 => s.attestSign c args
  | 0x80 =>
    if args.length < 2 then ((lbBadLength, []), s)
    else
      match s.trust.reports.find c with
      | some r => (reportPart r (args.getD 1 0), s)
      | none => ((lbSequence, []), s)
  | _ => ((lbBadOpcode, []), s)

/-! ### Running a command -/

/-- The opcodes that work in RECOVERY (R334). -/
def recoveryOpcode (op : Nat) : Bool := op == 0x01 || op == 0x20 || op == 0x21 || op == 0x22

/-- Stoker runs a command to its end. -/
def State.runCommand (s : State) (x : LbCommand) : Reply × State :=
  if 256 < x.args.length then ((lbBadLength, []), s)
  else if s.trust.bootState = 4 ∧ !recoveryOpcode x.opcode then ((lbBadOpcode, []), s)
  else
    match x.opcode with
    | 0x01 => ((lbOk, x.args), s)
    | 0x10 => (s.diagReply x.args, s)
    | 0x20 => s.fwBegin x.ch x.args
    | 0x21 => s.fwChunk x.ch x.args
    | 0x22 => s.fwCommit x.ch
    | 0x30 => s.exportBegin x.ch x.args
    | 0x31 => s.exportPart x.ch
    | 0x32 => s.importChunk x.ch x.args
    | 0x33 => s.importCommit x.ch x.args
    | 0x40 => s.attest x.ch x.args
    | _ => ((lbBadOpcode, []), s)

/-- Stoker finishes the command of a channel, in the order they rang: the response, its length, tag, STATUS and
SEQ land together; of a channel that closed its session, ABORTED with no response (R342). -/
def execLetterboxDone (ch : Channel) (s : State) : Answer :=
  let s := if s.stokerRuns then s.serveNext else s
  match s.mgmt.lbCommands with
  | [] => .next s
  | x :: _ =>
    if x.ch != chIx ch || !s.stokerRuns || s.diagWaits x then .next s
    else
      let r := s.runCommand x
      .next (if x.discard then r.2.landLetterbox x.ch x.tag lbAborted []
        else r.2.landLetterbox x.ch x.tag r.1.1 r.1.2).serveNext

end Sys2Proof.Machine
end

