-- ==== Sys2Proof/Machine/Channels.lean ====
section
/-! DEFINITION. Accesses by the management channels: which are served, refused, denied or locked out, MSPI
frames (R51, R52), in-band requests and their queue (R53, R256), the MDIO window (R54, R250), and the rows that
free the bus lock. -/

namespace Sys2Proof.Machine

/-! ### One access -/

/-- A channel is served (R281, R300, R302): the control domain runs and the device is in RUN or DOZE, or in
WAKE_FAILED; in-band management not in the reduced state. -/
def State.served (s : State) (c : Nat) : Bool :=
  s.controlRunning &&
    (if s.pwr.sub = 5 then c != 1
     else decide (s.pwr.state ≤ 1) && !s.pwr.waking && !(c == 1 && s.reduced))

/-- Only the pages of R281 are reachable (R281, R302, R312). -/
def State.restricted (s : State) : Bool := s.reduced || s.fault.s3 || s.pwr.sub == 5
def openPages : List Page := [.ident, .session, .hearth, .clocks, .thermal, .fault, .events]

/-- Another channel holds the bus lock (R55). -/
def State.lockedFor (s : State) (c : Nat) : Bool := s.mgmt.busOwner != 0 && s.mgmt.busOwner != c + 1

/-- The access type of a record (R314). -/
def accessCode (write burst : Bool) : Nat := (if write then 2 else 1) + (if burst then 2 else 0)

/-- What an access came to: its verdict, the word read, and the state after it. -/
structure Access where
  verdict : Verdict
  data : Nat
  state : State

/-- A word is written to an offset of a page that is reachable. -/
def State.writeWord (s : State) (x : WordWrite) : Verdict × State :=
  let act := s.acted x
  if s.denies x act then (.denied, s)
  else if x.page = .session ∧ hits act SESSION.CMD.OPEN ∧ s.lockedOut x.inst then (.error, s.openLocked x.inst)
  else if x.page = .letterbox ∧ x.off = 0x040 ∧ s.leaseRefused x.ch then (.error, s)
  else if hits act LETTERBOX.DOORBELL.RING && s.ringRefused x.ch then (.error, s)
  else if s.refuses x act then (.error, if x.page = .trust ∧ hits act TRUST.KEYPROG.PROGRAM then s.clearKey else s)
  else
    let s := s.applyWord x
    let s := if x.page = .letterbox ∧ x.off = 0x040 then s.takeLease x.ch else s
    (.ok, if hits act LETTERBOX.DOORBELL.RING then s.ring x.ch else s)

/-- An access that the channel may make: a read (`w` none) or a write of a word at an aligned address. -/
def State.accessPage (s : State) (c addr : Nat) (w : Option Nat) : Access :=
  match decodeAddr c addr with
  | none => ⟨.error, 0, s⟩
  | some (p, i, off) =>
    if s.restricted && !openPages.contains p then ⟨.error, 0, s⟩
    else
      match w with
      | some w =>
        let r := s.writeWord { ch := c, page := p, inst := i, off := off, w := w }
        ⟨r.1, 0, r.2⟩
      | none =>
        if s.mayRead c p i then ⟨.ok, s.readWord p i off, s.latch p i off⟩ else ⟨.denied, 0, s⟩

/-- The record of an access that completed with an error response (R309, R345). -/
def State.recordRefusal (s : State) (c code addr : Nat) (v : Verdict) : State :=
  if v = .ok then s else s.accessError (c + 1) code addr

/-- An access of `width` bytes by channel c (R7, R32, R55, R281, R319, R345). -/
def State.access (s : State) (c addr width code : Nat) (w : Option Nat) : Access :=
  if s.fenced (c + 1) then ⟨.error, 0, s.bump FAULT.FENCED.COUNT⟩
  else
    let a : Access :=
      if !s.served c then ⟨.error, 0, s⟩
      else if s.lockedFor c then ⟨.locked, 0, s⟩
      else if width != 4 || addr % 4 != 0 then ⟨.error, 0, s⟩
      else s.accessPage c addr w
    ⟨a.verdict, a.data, a.state.recordRefusal c code addr a.verdict⟩

/-! ### In-band requests (R53, R256) -/

/-- The words of a request, one after the other: how each completed, and what was read. -/
def State.burst (s : State) (c width code : Nat) : List (Nat × Option Nat) → List Verdict × List Nat × State
  | [] => ([], [], s)
  | e :: es =>
    let a := s.access c e.1 width code e.2
    let r := a.state.burst c width code es
    (a.verdict :: r.1, a.data :: r.2.1, r.2.2)

/-- The first verdict that is not ok (log 48: the status of a request whose words differ). -/
def firstBad (vs : List Verdict) : Verdict := (vs.find? (· != .ok)).getD .ok

/-- MRSP status: OK, ERROR, DENIED. -/
def mrspStatus : Verdict → Nat
  | .ok => 0 | .error => 1 | .denied => 2 | .locked => 1

/-- The words a request names: `count` words from its address on, those of a WRITE from its data. -/
def InbandReq.words (r : InbandReq) : List (Nat × Option Nat) :=
  (List.range r.count).map fun j => (r.addr + 4 * j, if r.write then some (r.data.getD j 0) else none)

/-- One request is served. -/
def State.serveInband (s : State) (r : InbandReq) : State :=
  if r.missing then s.respond r 4 []
  else
    let b := s.burst 1 r.width (accessCode r.write (decide (1 < r.count))) r.words
    b.2.2.respond r (mrspStatus (firstBad b.1)) (if r.write then [] else b.2.1)

/-- The queue is served in arrival order while no other channel holds the bus lock (R53, R55). -/
def State.drainInband (s : State) : State :=
  if s.lockedFor 1 || !s.served 1 then s
  else
    let q := s.mgmt.ibQueue
    q.foldl (fun s r => s.serveInband r) (s.modMgmt fun m => { m with ibQueue := [] })

/-- A request arrives on a lane that carries in-band management: it queues, or is answered BUSY. -/
def State.askInband (s : State) (r : InbandReq) : State :=
  if !s.served 1 || !s.inbandLanes.contains r.lane then s
  else if 16 ≤ s.mgmt.ibQueue.length then s.respond r 3 []
  else (s.modMgmt fun m => { m with ibQueue := m.ibQueue ++ [r] }).drainInband

/-- The lane that carries a request that names none. -/
def State.inbandLane (s : State) : Nat := s.inbandLanes.headD 0

/-! ### What a channel shows of its accesses -/

/-- The answer that MSPI or MDIO gives, and the flags it keeps (R52, R54). -/
def State.answered (s : State) (c : Nat) (v : Verdict) (data : List Nat) : State :=
  s.modMgmt fun m =>
    let m := { m with lastRead := data, lastError := v != .ok }
    if v = .ok then m
    else if c = 0 then { m with mspiErr := true, mspiDenied := m.mspiDenied || v == .denied }
    else { m with mdioErr := true, mdioLocked := m.mdioLocked || v == .locked }

/-- MSPI_CS_N falls with every frame (R300). -/
def State.frameStart (s : State) (c : Nat) : State := if c = 0 then s.wakeUp 2 0 else s

/-- A write of one word by a channel. -/
def State.hostWrite (s : State) (ch : Channel) (addr width : Nat) (w : Nat) : State :=
  let c := chIx ch
  if c = 1 then
    s.askInband { lane := s.inbandLane, tag := 0, write := true, addr := addr, count := 1, data := [w], missing := false,
                  width := width }
  else
    let a := (s.frameStart c).access c addr width 2 (some w)
    (a.state.answered c a.verdict []).drainInband

/-- A read of one word by a channel. -/
def State.hostRead (s : State) (ch : Channel) (addr : Nat) : State :=
  let c := chIx ch
  if c = 1 then
    s.askInband { lane := s.inbandLane, tag := 0, write := false, addr := addr, count := 1, data := [], missing := false }
  else
    let a := (s.frameStart c).access c addr 4 1 none
    a.state.answered c a.verdict [a.data]

/-! ### MSPI frames (R51, R52) -/

/-- Word j of a burst: the address wraps within its 4 KiB page (R51). -/
def burstAddr (addr j : Nat) : Nat := addr / 4096 * 4096 + (addr + 4 * j) % 4096

/-- The flags of a frame: DENIED where the session rules refused any of its words (R52). -/
def State.noteDenied (s : State) (vs : List Verdict) : State :=
  if vs.contains .denied then s.modMgmt fun m => { m with mspiDenied := true } else s

def State.noteAlign (s : State) (on : Bool) : State :=
  if on then s.modMgmt fun m => { m with mspiAlign := true } else s

/-- MSPI write frame; `cut`: MSPI_CS_N rose inside one more word, which is discarded. -/
def execMspiWrite (addr : Nat) (ws : List Word) (cut : Bool) (s : State) : Answer :=
  let s := s.frameStart 0
  let es := (List.range ws.length).map fun j => (burstAddr addr j, some (ws.getD j 0).toNat)
  let b := s.burst 0 4 (accessCode true (decide (1 < ws.length))) es
  let served := s.served 0
  .next ((((b.2.2.answered 0 (firstBad b.1) []).noteDenied b.1).noteAlign (served && (cut || (addr % 4 != 0 && !ws.isEmpty)))).drainInband)

/-- MSPI read frame; `late`: the first word was not ready by the end of the dummy clocks and read 0. -/
def execMspiRead (addr n : Nat) (late : Bool) (s : State) : Answer :=
  let s := s.frameStart 0
  let es := (List.range n).map fun j => (burstAddr addr j, none)
  let b := s.burst 0 4 (accessCode false (decide (1 < n))) es
  let served := s.served 0
  let data := if late then 0 :: b.2.1.drop 1 else b.2.1
  let s := ((b.2.2.answered 0 (firstBad b.1) data).noteDenied b.1).noteAlign (served && addr % 4 != 0 && decide (n ≠ 0))
  .next (if late && served then s.modMgmt fun m => { m with mspiLate := true } else s)

/-- The status byte (R52). -/
def State.mspiStatus (s : State) : Nat :=
  let m := s.mgmt
  bnat m.mspiErr * 128 + bnat m.mspiDenied * 64 + bnat m.mspiLate * 32 + bnat m.mspiAlign * 16 +
    bnat (s.lockedFor 0) * 8 + bnat m.mspiBadcmd * 4 + bnat (s.session 0).isOpen

/-- The sticky flags clear. -/
def State.clearMspiFlags (s : State) : State :=
  s.modMgmt fun m => { m with mspiErr := false, mspiDenied := false, mspiLate := false, mspiAlign := false,
                              mspiBadcmd := false }

/-- Status frame: the flags are returned and cleared. -/
def execMspiStatus (s : State) : Answer :=
  let s := s.frameStart 0
  if s.served 0 then
    let b := s.mspiStatus
    .next (s.clearMspiFlags.modMgmt fun m => { m with mspiStatusByte := b, lastRead := [b], lastError := false })
  else .next (s.modMgmt fun m => { m with mspiStatusByte := 0, lastRead := [0], lastError := true })

/-- Channel reset frame (R52, R319). -/
def execMspiChannelReset (s : State) : Answer :=
  let s := s.frameStart 0
  .next (if s.served 0 then (s.clearMspiFlags.setFence 1 false).refreshRevoked else s)

/-- A frame with another command byte (R52). -/
def execMspiBadCommand (_cmd : Nat) (s : State) : Answer :=
  let s := s.frameStart 0
  .next (if s.served 0 then s.modMgmt fun m => { m with mspiBadcmd := true } else s)

/-! ### In-band rows -/

/-- In-band READ. -/
def execMreqRead (lane tag addr n : Nat) (s : State) : Answer :=
  .next (s.askInband { lane := lane, tag := tag, write := false, addr := addr, count := n, data := [], missing := false })

/-- In-band WRITE with its data. -/
def execMreqWrite (lane tag addr : Nat) (ws : List Word) (s : State) : Answer :=
  .next (s.askInband { lane := lane, tag := tag, write := true, addr := addr, count := ws.length,
                       data := ws.map (·.toNat), missing := false })

/-- An in-band WRITE without all its data by 4 µs. -/
def execMreqIncomplete (lane tag : Nat) (s : State) : Answer :=
  .next (s.askInband { lane := lane, tag := tag, write := true, addr := 0, count := 0, data := [], missing := true })

/-! ### MDIO (R54, R250) -/

/-- The port that PRTAD n addresses, if it is an anchor. -/
def State.mdioPort (s : State) (prtad : Nat) : Option Nat :=
  let p := 32 * s.g SESSION.MDIO_BASE.CLUSTER 2 + prtad
  if s.isAnchor p then some p else none

/-- The address of the window advances by 4. -/
def State.mdioAdvance (s : State) : State :=
  s.modMgmt fun m => { m with mdioAddr := (m.mdioAddr + 4) % 2 ^ 32 }

/-- 30.2 is read: a read whose high half is latched, and the address advances, after an error too (R54; DESIGN CHOICE,
log 69). -/
def State.windowRead (s : State) (late : Bool) : State :=
  let a := s.access 2 s.mgmt.mdioAddr 4 1 none
  let d := if late then 0 else a.data
  let s' := a.state.answered 2 a.verdict [d % 2 ^ 16]
  if !s.served 2 then s'
  else
    (s'.modMgmt fun m => { m with mdioLatch := d / 2 ^ 16 % 2 ^ 16, mdioLate := m.mdioLate || late }).mdioAdvance

/-- 30.3 is written: the write of the held low half and this high half. -/
def State.windowWrite (s : State) (hi : Nat) : State :=
  let a := s.access 2 s.mgmt.mdioAddr 4 2 (some (hi * 2 ^ 16 + s.mgmt.mdioHold))
  let s' := a.state.answered 2 a.verdict []
  if !s.served 2 then s' else s'.mdioAdvance.drainInband

/-- 30.4 is read: the sticky bits are returned and cleared. -/
def State.windowErrors (s : State) : State :=
  let m := s.mgmt
  let v := bnat m.mdioErr + 2 * bnat m.mdioLate + 4 * bnat m.mdioLocked
  s.modMgmt fun m =>
    { m with mdioErr := false, mdioLate := false, mdioLocked := false, lastRead := [v], lastError := false }

/-- An MDIO row on a port that responds. -/
def withMdio (prtad : Nat) (s : State) (f : Nat → State → State) : Answer :=
  match s.mdioPort prtad with
  | some p => .next (f p s)
  | none => .next s

def execMdioWindowRead (prtad : Nat) (late : Bool) (s : State) : Answer :=
  withMdio prtad s fun _ s => s.windowRead late

def execMdioWindowWrite (prtad hi : Nat) (s : State) : Answer :=
  withMdio prtad s fun _ s => s.windowWrite hi

def execMdioErrorRead (prtad : Nat) (s : State) : Answer :=
  withMdio prtad s fun _ s => if s.served 2 then s.windowErrors else s.answered 2 .error [0]

/-- The half of an MMD 30 register (R54). -/
def State.windowAccess (s : State) (reg : Nat) (wr : Option Nat) : State :=
  let show16 := fun (v : Nat) => s.modMgmt fun m => { m with lastRead := [v], lastError := false }
  let a := s.mgmt.mdioAddr
  match reg, wr with
  | 0, none => show16 (a % 2 ^ 16)
  | 0, some v => s.modMgmt fun m => { m with mdioAddr := a / 2 ^ 16 * 2 ^ 16 + v % 2 ^ 16 }
  | 1, none => show16 (a / 2 ^ 16)
  | 1, some v => s.modMgmt fun m => { m with mdioAddr := v % 2 ^ 16 * 2 ^ 16 + a % 2 ^ 16 }
  | 2, none => s.windowRead false
  | 2, some v => s.modMgmt fun m => { m with mdioHold := v % 2 ^ 16 }
  | 3, none => show16 s.mgmt.mdioLatch
  | 3, some v => s.windowWrite (v % 2 ^ 16)
  | 4, none => s.windowErrors
  | _, none => show16 0
  | _, some _ => s

/-- A register of MMD 1, 3 or 7: an access to LSTD of the port's quad (log 46). -/
def State.mmdRegister (s : State) (p mmd reg : Nat) (wr : Option Nat) : State :=
  let refuse := fun (v : Verdict) (s : State) =>
    (s.recordRefusal 2 (accessCode wr.isSome false) ((LSTD.ADV.RESTART).addr (quadHead p) 0) v).answered 2 v [0]
  if s.fenced 3 then (s.bump FAULT.FENCED.COUNT).answered 2 .error [0]
  else if s.lockedFor 2 then refuse .locked s
  else if s.restricted then refuse .error s
  else if (s.roleOf 2).isNone || (wr.isSome && s.roleOf 2 == some 0) then refuse .denied s
  else
    match wr with
    | none =>
      let r := s.mmdRead p mmd reg
      r.2.answered 2 .ok [r.1]
    | some v => ((if (s.line (quadHead p)).st = .standard then s.mmdWrite p mmd reg v else s).answered 2 .ok [])

/-- An MDIO access to a register of an MMD: 30 the window, 1, 3 and 7 the standard partner's. -/
def execMmdAccess (prtad mmd reg : Nat) (wr : Option Nat) (s : State) : Answer :=
  withMdio prtad s fun p s =>
    if !s.served 2 then s.answered 2 .error [0]
    else if mmd = 30 then s.windowAccess reg wr
    else s.mmdRegister p mmd reg wr

/-! ### Rows that free the bus lock -/

/-- A lease at 4,096 SPLL cycles (R319). -/
def execLeaseRevoke (master resource access addr : Nat) (s : State) : Answer :=
  .next (s.revokeLease master resource access addr).drainInband

/-- IDLE minutes without an access (R342). -/
def execSessionIdleTimeout (ch : Channel) (s : State) : Answer :=
  if s.g SESSION.IDLE.MIN (chIx ch) = 0 then .next s else .next (s.closeSession (chIx ch) 2).drainInband

end Sys2Proof.Machine
end

