-- ==== Sys2Proof/Machine/HostCommands.lean ====
section
/-! DEFINITION. The host's rows: each is a write, or a read, of one register by a channel, so the access rules of
R55, R319, R344, R345 and R384 apply to every one of them.  A row that names a trigger carries 1 in it beside
the word given. -/

namespace Sys2Proof.Machine

/-- The word with every bit of a field set. -/
def withOnes (w : Word) (F : Fld) : Nat := w.toNat ||| (2 ^ F.w - 1) * 2 ^ F.lo

/-- The word with a field at a value. -/
def withValue (w : Word) (F : Fld) (v : Nat) : Nat :=
  w.toNat - bits w.toNat F.lo F.w * 2 ^ F.lo + v % 2 ^ F.w * 2 ^ F.lo

/-- A word write of the register that holds a field. -/
def State.writeAt (s : State) (ch : Channel) (F : Fld) (i j w : Nat) : State := s.hostWrite ch (F.addr i j) 4 w

/-- A write that triggers an action field. -/
def State.trigger (s : State) (ch : Channel) (F : Fld) (i j : Nat) (w : Word) : State :=
  s.writeAt ch F i j (withOnes w F)

/-- A row about one page. -/
def withPage (p : Page) (i : Nat) (s : State) (f : State → State) : Answer :=
  if i < p.count then .next (f s) else .fault (.noSuchPart "page" i)

/-- A row about one entry of a register file. -/
def onEntry (n i : Nat) (s : State) (f : State → State) : Answer :=
  if i < n then .next (f s) else .fault (.noSuchPart "register entry" i)

/-! ### Plain accesses -/

/-- A write of a register with no row of its own; a width other than 4 bytes is an error (R12, R384). -/
def execRegisterWrite (ch : Channel) (addr width : Nat) (w : Word) (s : State) : Answer :=
  .next (s.hostWrite ch addr width w.toNat)

/-- A read of a word; that of a 64-bit counter's LO latches its HI (R13). -/
def execCounterLoRead (ch : Channel) (addr : Nat) (s : State) : Answer := .next (s.hostRead ch addr)

/-- EVT_PEND written; edges the hardware sets in the same cycle win (R36); a reserved condition has none (R11). -/
def execEvtPendClear (ch : Channel) (p : Page) (i : Nat) (w hw : Word) (s : State) : Answer :=
  withPage p i s fun s =>
    let s := s.writeAt ch (HDR.EVT_PEND.PEND p) i 0 w.toNat
    if s.controlRunning then s.edges p i (hw.toNat &&& condMask p) else s

/-- A write would be accepted at once. -/
def State.accepts (s : State) (ch : Channel) (addr w : Nat) : Bool :=
  let c := chIx ch
  let s := s.frameStart c
  (c != 1 || (s.mgmt.ibQueue.isEmpty && !s.inbandLanes.isEmpty)) && (s.access c addr 4 2 (some w)).verdict == .ok

/-- EVT_INJECT written; a real edge of the same condition in the same cycle counts once with it (R36). -/
def execEvtInject (ch : Channel) (p : Page) (i : Nat) (w hw : Word) (s : State) : Answer :=
  withPage p i s fun s =>
    let F := HDR.EVT_INJECT.INJECT p
    let hw := hw.toNat &&& condMask p
    let real := if s.accepts ch (F.addr i 0) w.toNat then hw - (hw &&& w.toNat) else hw
    let s := s.writeAt ch F i 0 w.toNat
    if s.controlRunning then s.edges p i real else s

/-! ### Letterbox commands: RING with the opcode in CMD (R50) -/

/-- RING where the channel's CMD names the opcode, and the function where the opcode has one. -/
def State.ringOpcode (s : State) (ch : Channel) (op : Nat) (fn : Option Nat := none) : State :=
  let c := chIx ch
  let fnNow := s.g LETTERBOX.ARG.W c 0 % 256
  if s.g LETTERBOX.CMD.OPCODE c = op ∧ fn.all (· == fnNow) then s.trigger ch LETTERBOX.DOORBELL.RING c 0 0 else s

/-- ECHO (R50). -/
def execEcho (ch : Channel) (s : State) : Answer := .next (s.ringOpcode ch 0x01)

/-- DIAG (R210). -/
def execDiag (ch : Channel) (s : State) : Answer := .next (s.ringOpcode ch 0x10)

/-- FW_BEGIN (R337). -/
def execFwBegin (ch : Channel) (s : State) : Answer := .next (s.ringOpcode ch 0x20)

/-- FW_CHUNK (R337). -/
def execFwChunk (ch : Channel) (s : State) : Answer := .next (s.ringOpcode ch 0x21)

/-- FW_COMMIT (R337). -/
def execFwCommit (ch : Channel) (s : State) : Answer := .next (s.ringOpcode ch 0x22)

/-- PARCEL_EXPORT_BEGIN (R358). -/
def execParcelExportBegin (ch : Channel) (s : State) : Answer := .next (s.ringOpcode ch 0x30)

/-- PARCEL_EXPORT_NEXT (R358). -/
def execParcelExportNext (ch : Channel) (s : State) : Answer := .next (s.ringOpcode ch 0x31)

/-- PARCEL_IMPORT_CHUNK (R359). -/
def execParcelImportChunk (ch : Channel) (s : State) : Answer := .next (s.ringOpcode ch 0x32)

/-- PARCEL_IMPORT_COMMIT (R359). -/
def execParcelImportCommit (ch : Channel) (s : State) : Answer := .next (s.ringOpcode ch 0x33)

/-- ATTEST function SIGN (R346). -/
def execAttestSign (ch : Channel) (s : State) : Answer := .next (s.ringOpcode ch 0x40 (some 0x01))

/-- ATTEST function READ (R346). -/
def execAttestRead (ch : Channel) (s : State) : Answer := .next (s.ringOpcode ch 0x40 (some 0x80))

/-! ### Register writes with rows of their own -/

/-- SOFT_RESET writes (R10, R35). -/
def execSoftReset (ch : Channel) (p : Page) (i : Nat) (w : Word) (s : State) : Answer :=
  withPage p i s fun s => s.trigger ch (HDR.PAGE_CTRL.SOFT_RESET p) i 0 w

/-- PAGE_CTRL.LOCK, either way (R35). -/
def execPageLockWrite (ch : Channel) (p : Page) (i : Nat) (w : Word) (s : State) : Answer :=
  withPage p i s fun s => s.writeAt ch (HDR.PAGE_CTRL.LOCK p) i 0 w.toNat

/-- FREEZE = 1 (R35). -/
def execPageFreeze (ch : Channel) (p : Page) (i : Nat) (w : Word) (s : State) : Answer :=
  withPage p i s fun s => s.trigger ch (HDR.PAGE_CTRL.FREEZE p) i 0 w

/-- EVT_COUNT.CLR (R36). -/
def execEvtCountClr (ch : Channel) (p : Page) (i : Nat) (w : Word) (s : State) : Answer :=
  withPage p i s fun s => s.trigger ch (HDR.EVT_COUNT.CLR p) i 0 w

/-- ENV_CTRL.POST (R37, R38). -/
def execEnvPost (ch : Channel) (p : Page) (i : Nat) (w : Word) (s : State) : Answer :=
  withPage p i s fun s => s.trigger ch (HDR.ENV_CTRL.POST p) i 0 w

/-- ENV_CTRL.DISCARD (R37). -/
def execEnvDiscard (ch : Channel) (p : Page) (i : Nat) (w : Word) (s : State) : Answer :=
  withPage p i s fun s => s.trigger ch (HDR.ENV_CTRL.DISCARD p) i 0 w

/-- RUN_CTRL.RUN (R43). -/
def execMailRun (ch : Channel) (w : Word) (s : State) : Answer :=
  .next (s.trigger ch DEVENV.RUN_CTRL.RUN 0 0 w)

/-- RUN_CTRL.CANCEL (R43). -/
def execMailRunCancel (ch : Channel) (w : Word) (s : State) : Answer :=
  .next (s.trigger ch DEVENV.RUN_CTRL.CANCEL 0 0 w)

/-- BUSLOCK.TAKE (R43, R55). -/
def execBuslockTake (ch : Channel) (w : Word) (s : State) : Answer :=
  .next (s.trigger ch DEVENV.BUSLOCK.TAKE 0 0 w)

/-- BUSLOCK.RELEASE (R43, R55). -/
def execBuslockRelease (ch : Channel) (w : Word) (s : State) : Answer :=
  .next (s.trigger ch DEVENV.BUSLOCK.RELEASE 0 0 w)

/-- The letterbox CMD (R50). -/
def execLetterboxCmd (ch : Channel) (w : Word) (s : State) : Answer :=
  .next (s.writeAt ch LETTERBOX.CMD.OPCODE (chIx ch) 0 w.toNat)

/-- A lower PERF.TARGET (R110, R290). -/
def execLevelDownRequest (ch : Channel) (w : Word) (s : State) : Answer :=
  .next (s.writeAt ch PERF.CTRL.TARGET 0 0 w.toNat)

/-- A higher PERF.TARGET (R291). -/
def execLevelUpRequest (ch : Channel) (w : Word) (s : State) : Answer :=
  .next (s.writeAt ch PERF.CTRL.TARGET 0 0 w.toNat)

/-- XENGINE.CTRL.HOLD = 1 (R113). -/
def execXengineHold (ch : Channel) (w : Word) (s : State) : Answer :=
  .next (s.trigger ch XENGINE.CTRL.HOLD 0 0 w)

/-- CENSUS_CTRL.REQUEST (R117). -/
def execCensusRequest (ch : Channel) (w : Word) (s : State) : Answer :=
  .next (s.trigger ch XENGINE.CENSUS_CTRL.REQUEST 0 0 w)

/-- XWINDOW.CMD.READ (R118). -/
def execXwindowRead (ch : Channel) (w : Word) (s : State) : Answer :=
  .next (s.trigger ch XWINDOW.CMD.READ 0 0 w)

/-- XWINDOW.CMD.WRITE (R118). -/
def execXwindowWrite (ch : Channel) (w : Word) (s : State) : Answer :=
  .next (s.trigger ch XWINDOW.CMD.WRITE 0 0 w)

/-- LCTL ENABLE cleared (R122). -/
def execLineDisable (ch : Channel) (l : Nat) (w : Word) (s : State) : Answer :=
  withLine l s fun s => s.writeAt ch (HDR.PAGE_CTRL.ENABLE .lctl) l 0 (withValue w (HDR.PAGE_CTRL.ENABLE .lctl) 0)

/-- LTRAIN.CTRL.RETRAIN (R153). -/
def execLineRetrain (ch : Channel) (l : Nat) (w : Word) (s : State) : Answer :=
  withLine l s fun s => s.trigger ch LTRAIN.CTRL.RETRAIN l 0 w

/-- LTRAIN.CTRL.RESTART (R153). -/
def execLineRestart (ch : Channel) (l : Nat) (w : Word) (s : State) : Answer :=
  withLine l s fun s => s.trigger ch LTRAIN.CTRL.RESTART l 0 w

/-- LTRAIN.CTRL.BANK (R150). -/
def execBankRequest (ch : Channel) (l : Nat) (w : Word) (s : State) : Answer :=
  withLine l s fun s => s.trigger ch LTRAIN.CTRL.BANK l 0 w

/-- LTRAIN.CTRL.WAKE (R151). -/
def execWakeRequest (ch : Channel) (l : Nat) (w : Word) (s : State) : Answer :=
  withLine l s fun s => s.trigger ch LTRAIN.CTRL.WAKE l 0 w

/-- LMON.CHAIN.PRESET (R187, R189). -/
def execMonitorPresetWrite (ch : Channel) (l : Nat) (w : Word) (s : State) : Answer :=
  withLine l s fun s => s.writeAt ch LMON.CHAIN.PRESET l 0 w.toNat

/-- LMON.NCO.FREQ (R186). -/
def execMonitorNcoWrite (ch : Channel) (l : Nat) (w : Word) (s : State) : Answer :=
  withLine l s fun s => s.writeAt ch LMON.NCO.FREQ l 0 w.toNat

/-- SYNCRST.ARM (R189). -/
def execSyncrstArm (ch : Channel) (l : Nat) (w : Word) (s : State) : Answer :=
  withLine l s fun s => s.trigger ch LMON.SYNCRST.ARM l 0 w

/-- SYNCRST.CANCEL (R189). -/
def execSyncrstCancel (ch : Channel) (l : Nat) (w : Word) (s : State) : Answer :=
  withLine l s fun s => s.trigger ch LMON.SYNCRST.CANCEL l 0 w

/-- BANK.SWAP (R191). -/
def execBankSwap (ch : Channel) (l : Nat) (w : Word) (s : State) : Answer :=
  withLine l s fun s => s.trigger ch LMON.BANK.SWAP l 0 w

/-- CAP_CTRL.REQUEST (R195). -/
def execCaptureRequest (ch : Channel) (l : Nat) (w : Word) (s : State) : Answer :=
  withLine l s fun s => s.trigger ch LMON.CAP_CTRL.REQUEST l 0 w

/-- CNT_CTRL.CLEAR (R197). -/
def execCounterClear (ch : Channel) (l : Nat) (w : Word) (s : State) : Answer :=
  withLine l s fun s => s.trigger ch LMON.CNT_CTRL.CLEAR l 0 w

/-- SNR_WATCH.TONE (R198). -/
def execSnrWatchWrite (ch : Channel) (l : Nat) (w : Word) (s : State) : Answer :=
  withLine l s fun s => s.writeAt ch LMON.SNR_WATCH.TONE l 0 w.toNat

/-- LDIAG.REQ.REFLECT (R202). -/
def execReflectRequest (ch : Channel) (l : Nat) (w : Word) (s : State) : Answer :=
  withLine l s fun s => s.trigger ch LDIAG.REQ.REFLECT l 0 w

/-- CLUSTER.CLRCODE (R215). -/
def execClrcodeWrite (ch : Channel) (c : Nat) (w : Word) (s : State) : Answer :=
  onEntry 4 c s fun s => s.writeAt ch CLUSTER.CLRCODE.CODE c 0 w.toNat

/-- LAFE.CAL_REQ.REQUEST (R227). -/
def execCalRequest (ch : Channel) (l : Nat) (w : Word) (s : State) : Answer :=
  withLine l s fun s => s.trigger ch LAFE.CAL_REQ.REQUEST l 0 w

/-- CALMGR.CTRL.REQ_ALL (R227). -/
def execCalReqAll (ch : Channel) (w : Word) (s : State) : Answer :=
  .next (s.trigger ch CALMGR.CTRL.REQ_ALL 0 0 w)

/-- LSTD.ADV.RESTART (R241). -/
def execAnRestart (ch : Channel) (l : Nat) (w : Word) (s : State) : Answer :=
  withLine l s fun s => s.trigger ch LSTD.ADV.RESTART l 0 w

/-- LANE.CTRL.RESTART (R273). -/
def execLaneRestart (ch : Channel) (lane : Nat) (w : Word) (s : State) : Answer :=
  withLane lane s fun s => s.trigger ch LANE.CTRL.RESTART lane 0 w

/-- LANE.CTRL.LOOP (R265). -/
def execLaneLoopWrite (ch : Channel) (lane : Nat) (w : Word) (s : State) : Answer :=
  withLane lane s fun s => s.writeAt ch LANE.CTRL.LOOP lane 0 w.toNat

/-- LANE.CTRL.RATE (R253). -/
def execLaneRateChange (ch : Channel) (lane : Nat) (w : Word) (s : State) : Answer :=
  withLane lane s fun s => s.writeAt ch LANE.CTRL.RATE lane 0 w.toNat

/-- FM_CTRL.REQUEST (R283). -/
def execFreqmonRequest (ch : Channel) (w : Word) (s : State) : Answer :=
  .next (s.trigger ch CLOCKS.FM_CTRL.REQUEST 0 0 w)

/-- TIMEBASE.CTRL.SET (R286, R287). -/
def execTimebaseSet (ch : Channel) (w : Word) (s : State) : Answer :=
  .next (s.trigger ch TIMEBASE.CTRL.SET 0 0 w)

/-- TIMEBASE.CTRL.ADD (R286, R287). -/
def execTimebaseAdd (ch : Channel) (w : Word) (s : State) : Answer :=
  .next (s.trigger ch TIMEBASE.CTRL.ADD 0 0 w)

/-- PERF.CTRL.AVS_RETRY (R292). -/
def execAvsRetry (ch : Channel) (w : Word) (s : State) : Answer :=
  .next (s.trigger ch PERF.CTRL.AVS_RETRY 0 0 w)

/-- THERMAL.PEAK.CLEAR (R295). -/
def execThermalPeakClear (ch : Channel) (w : Word) (s : State) : Answer :=
  .next (s.trigger ch THERMAL.PEAK.CLEAR 0 0 w)

/-- CTEMP.MINMAX.CLEAR (R295). -/
def execCtempMinmaxClear (ch : Channel) (c : Nat) (w : Word) (s : State) : Answer :=
  onEntry 4 c s fun s => s.trigger ch CTEMP.MINMAX.CLEAR c 0 w

/-- PSTATE.REQ = RUN (R297, R302). -/
def execPstateRun (ch : Channel) (w : Word) (s : State) : Answer :=
  .next (s.writeAt ch HEARTH.PSTATE.REQ 0 0 (withValue w HEARTH.PSTATE.REQ 0))

/-- PSTATE.REQ = DOZE (R297). -/
def execPstateDoze (ch : Channel) (w : Word) (s : State) : Answer :=
  .next (s.writeAt ch HEARTH.PSTATE.REQ 0 0 (withValue w HEARTH.PSTATE.REQ 1))

/-- PSTATE.REQ = EMBER (R298). -/
def execPstateEmber (ch : Channel) (w : Word) (s : State) : Answer :=
  .next (s.writeAt ch HEARTH.PSTATE.REQ 0 0 (withValue w HEARTH.PSTATE.REQ 2))

/-- PSTATE.REQ = HEARTH (R298). -/
def execPstateHearth (ch : Channel) (w : Word) (s : State) : Answer :=
  .next (s.writeAt ch HEARTH.PSTATE.REQ 0 0 (withValue w HEARTH.PSTATE.REQ 3))

/-- FAULT.CTRL.REBOOT (R312). -/
def execFaultReboot (ch : Channel) (w : Word) (s : State) : Answer :=
  .next (s.trigger ch FAULT.CTRL.REBOOT 0 0 w)

/-- FAULT.CLEAR (R318). -/
def execFaultClear (ch : Channel) (w : Word) (s : State) : Answer :=
  .next (s.writeAt ch FAULT.CLEAR.SEQ 0 0 w.toNat)

/-- FAULT.INJECT.GO (R317). -/
def execFaultInject (ch : Channel) (w : Word) (s : State) : Answer :=
  .next (s.trigger ch FAULT.INJECT.GO 0 0 w)

/-- TRUST.LIFECYCLE.ADVANCE (R329). -/
def execLifecycleAdvance (ch : Channel) (w : Word) (s : State) : Answer :=
  .next (s.trigger ch TRUST.LIFECYCLE.ADVANCE 0 0 w)

/-- TRUST.KEYPROG.PROGRAM (R332). -/
def execKeyProgram (ch : Channel) (w : Word) (s : State) : Answer :=
  .next (s.trigger ch TRUST.KEYPROG.PROGRAM 0 0 w)

/-- TRUST.KEYPROG.REVOKE (R332). -/
def execKeyRevoke (ch : Channel) (w : Word) (s : State) : Answer :=
  .next (s.trigger ch TRUST.KEYPROG.REVOKE 0 0 w)

/-- CMD.OPEN on the channel's session page (R339). -/
def execSessionOpen (ch : Channel) (w : Word) (s : State) : Answer :=
  .next (s.trigger ch SESSION.CMD.OPEN (chIx ch) 0 w)

/-- CMD.CLOSE on the channel's session page (R342). -/
def execSessionClose (ch : Channel) (w : Word) (s : State) : Answer :=
  .next (s.trigger ch SESSION.CMD.CLOSE (chIx ch) 0 w)

/-- CMD.RENEW on the channel's session page (R339). -/
def execNonceRenew (ch : Channel) (w : Word) (s : State) : Answer :=
  .next (s.trigger ch SESSION.CMD.RENEW (chIx ch) 0 w)

/-- BOOT.CTRL.CONFIRM (R335). -/
def execBootConfirm (ch : Channel) (w : Word) (s : State) : Answer :=
  .next (s.trigger ch BOOT.CTRL.CONFIRM 0 0 w)

/-- BOOT.CTRL.SVN_COMMIT (R336). -/
def execSvnCommit (ch : Channel) (w : Word) (s : State) : Answer :=
  .next (s.trigger ch BOOT.CTRL.SVN_COMMIT 0 0 w)

/-- TRUST.COMPAT.PENDING (R361). -/
def execCompatPendingWrite (ch : Channel) (w : Word) (s : State) : Answer :=
  .next (s.writeAt ch TRUST.COMPAT.PENDING 0 0 w.toNat)

/-- A FIR tap of bank A (0) or B (R192). -/
def execBankTapWrite (ch : Channel) (l bank i : Nat) (w : Word) (s : State) : Answer :=
  let F := if bank = 0 then LMON.BANKA.TAP else LMON.BANKB.TAP
  if i < F.cnt then withLine l s fun s => s.writeAt ch F l i w.toNat
  else .fault (.noSuchPart "FIR tap" i)

/-- A SORTING.EQ entry (R252). -/
def execEqEntryWrite (ch : Channel) (e : Nat) (w : Word) (s : State) : Answer :=
  onEntry 16 e s fun s => s.writeAt ch SORTING.EQ.CTLE 0 e w.toNat

/-- FAULT.FENCE_LO or FENCE_HI (R323). -/
def execFenceLift (ch : Channel) (hi : Bool) (w : Word) (s : State) : Answer :=
  .next (s.writeAt ch (if hi then FAULT.FENCE_HI.MAP else FAULT.FENCE_LO.MAP) 0 0 w.toNat)

/-- PORT_SEC.PAIR_SET.SET (R349). -/
def execPairSet (ch : Channel) (port : Nat) (w : Word) (s : State) : Answer :=
  withPort port s fun s => s.trigger ch PORT_SEC.PAIR_SET.SET port 0 w

/-- INSTALL of a security association (R353). -/
def execSaInstall (ch : Channel) (port sa : Nat) (w : Word) (s : State) : Answer :=
  if sa < 6 then withPort port s fun s => s.trigger ch PORT_SEC.SA_CTRL.INSTALL port sa w
  else .fault (.noSuchPart "security association" sa)

end Sys2Proof.Machine
end

