-- ==== Sys2Proof/Machine/Dispatch.lean ====
section
/-! DEFINITION. The dispatch: one arm for each command, each a direct call of its meaning. -/

namespace Sys2Proof.Machine

def exec (i : Instr) (s : State) : Host.Outcome State Fault Refusal :=
  match i with
  | .registerWrite ch addr width w => Sys2Proof.Machine.execRegisterWrite ch addr width w s
  | .counterLoRead ch addr => Sys2Proof.Machine.execCounterLoRead ch addr s
  | .softReset ch p ix w => Sys2Proof.Machine.execSoftReset ch p ix w s
  | .pageLockWrite ch p ix w => Sys2Proof.Machine.execPageLockWrite ch p ix w s
  | .pageFreeze ch p ix w => Sys2Proof.Machine.execPageFreeze ch p ix w s
  | .evtPendClear ch p ix w hw => Sys2Proof.Machine.execEvtPendClear ch p ix w hw s
  | .evtInject ch p ix w hw => Sys2Proof.Machine.execEvtInject ch p ix w hw s
  | .evtCountClr ch p ix w => Sys2Proof.Machine.execEvtCountClr ch p ix w s
  | .envPost ch p ix w => Sys2Proof.Machine.execEnvPost ch p ix w s
  | .envDiscard ch p ix w => Sys2Proof.Machine.execEnvDiscard ch p ix w s
  | .postLands p ix => Sys2Proof.Machine.execPostLands p ix s
  | .sealedNegotiationStart port => Sys2Proof.Machine.execSealedNegotiationStart port s
  | .sealConfirm port => Sys2Proof.Machine.execSealConfirm port s
  | .mailRun ch w => Sys2Proof.Machine.execMailRun ch w s
  | .mailRunCancel ch w => Sys2Proof.Machine.execMailRunCancel ch w s
  | .buslockTake ch w => Sys2Proof.Machine.execBuslockTake ch w s
  | .buslockRelease ch w => Sys2Proof.Machine.execBuslockRelease ch w s
  | .leaseRevoke master resource access addr => Sys2Proof.Machine.execLeaseRevoke master resource access addr s
  | .letterboxCmd ch w => Sys2Proof.Machine.execLetterboxCmd ch w s
  | .letterboxLeaseExpire ch => Sys2Proof.Machine.execLetterboxLeaseExpire ch s
  | .echo ch => Sys2Proof.Machine.execEcho ch s
  | .diag ch => Sys2Proof.Machine.execDiag ch s
  | .fwBegin ch => Sys2Proof.Machine.execFwBegin ch s
  | .fwChunk ch => Sys2Proof.Machine.execFwChunk ch s
  | .fwCommit ch => Sys2Proof.Machine.execFwCommit ch s
  | .parcelExportBegin ch => Sys2Proof.Machine.execParcelExportBegin ch s
  | .parcelExportNext ch => Sys2Proof.Machine.execParcelExportNext ch s
  | .parcelImportChunk ch => Sys2Proof.Machine.execParcelImportChunk ch s
  | .parcelImportCommit ch => Sys2Proof.Machine.execParcelImportCommit ch s
  | .attestSign ch => Sys2Proof.Machine.execAttestSign ch s
  | .attestRead ch => Sys2Proof.Machine.execAttestRead ch s
  | .letterboxDone ch => Sys2Proof.Machine.execLetterboxDone ch s
  | .mspiWrite addr ws cut => Sys2Proof.Machine.execMspiWrite addr ws cut s
  | .mspiRead addr n late => Sys2Proof.Machine.execMspiRead addr n late s
  | .mspiStatus => Sys2Proof.Machine.execMspiStatus s
  | .mspiChannelReset => Sys2Proof.Machine.execMspiChannelReset s
  | .mspiBadCommand cmd => Sys2Proof.Machine.execMspiBadCommand cmd s
  | .mreqRead lane tag addr n => Sys2Proof.Machine.execMreqRead lane tag addr n s
  | .mreqWrite lane tag addr ws => Sys2Proof.Machine.execMreqWrite lane tag addr ws s
  | .mreqIncomplete lane tag => Sys2Proof.Machine.execMreqIncomplete lane tag s
  | .mdioWindowRead prtad late => Sys2Proof.Machine.execMdioWindowRead prtad late s
  | .mdioWindowWrite prtad hi => Sys2Proof.Machine.execMdioWindowWrite prtad hi s
  | .mdioErrorRead prtad => Sys2Proof.Machine.execMdioErrorRead prtad s
  | .mmdAccess prtad mmd reg wr => Sys2Proof.Machine.execMmdAccess prtad mmd reg wr s
  | .superframeStart => Sys2Proof.Machine.execSuperframeStart s
  | .pilotCycleStart meters => Sys2Proof.Machine.execPilotCycleStart meters s
  | .symbolTx n events => Sys2Proof.Machine.execSymbolTx n events s
  | .symbolRx n ys missing wakes trains events => Sys2Proof.Machine.execSymbolRx n ys missing wakes trains events s
  | .dtuBufferExpire port seq => Sys2Proof.Machine.execDtuBufferExpire port seq s
  | .dtuGiveUp port => Sys2Proof.Machine.execDtuGiveUp port s
  | .beaconErasureEnd tag => Sys2Proof.Machine.execBeaconErasureEnd tag s
  | .calGapAgreeTimeout l => Sys2Proof.Machine.execCalGapAgreeTimeout l s
  | .calGapStampLower l => Sys2Proof.Machine.execCalGapStampLower l s
  | .calGapStart l => Sys2Proof.Machine.execCalGapStart l s
  | .calGapEnd l => Sys2Proof.Machine.execCalGapEnd l s
  | .deltaAverage l sum => Sys2Proof.Machine.execDeltaAverage l sum s
  | .taAdjust l => Sys2Proof.Machine.execTaAdjust l s
  | .arrivalOutOfBand l => Sys2Proof.Machine.execArrivalOutOfBand l s
  | .overheadWordRx l n w => Sys2Proof.Machine.execOverheadWordRx l n w s
  | .sealMessageRx port payload => Sys2Proof.Machine.execSealMessageRx port payload s
  | .loadMessageRx l payload => Sys2Proof.Machine.execLoadMessageRx l payload s
  | .timingMessageRx l corr => Sys2Proof.Machine.execTimingMessageRx l corr s
  | .hoststatRx port payload => Sys2Proof.Machine.execHoststatRx port payload s
  | .fxuLanding => Sys2Proof.Machine.execFxuLanding s
  | .prdLanding => Sys2Proof.Machine.execPrdLanding s
  | .joinStart => Sys2Proof.Machine.execJoinStart s
  | .joinNxtWrite => Sys2Proof.Machine.execJoinNxtWrite s
  | .joinPilotActive => Sys2Proof.Machine.execJoinPilotActive s
  | .joinCoefWrite => Sys2Proof.Machine.execJoinCoefWrite s
  | .joinLanded => Sys2Proof.Machine.execJoinLanded s
  | .writePortGrant => Sys2Proof.Machine.execWritePortGrant s
  | .xengineDmaClear l => Sys2Proof.Machine.execXengineDmaClear l s
  | .deadLineInactive l => Sys2Proof.Machine.execDeadLineInactive l s
  | .levelDownRequest ch w => Sys2Proof.Machine.execLevelDownRequest ch w s
  | .levelUpRequest ch w => Sys2Proof.Machine.execLevelUpRequest ch w s
  | .levelRepropose => Sys2Proof.Machine.execLevelRepropose s
  | .nvDownLand => Sys2Proof.Machine.execNvDownLand s
  | .nvUpLand => Sys2Proof.Machine.execNvUpLand s
  | .scrubStep errors => Sys2Proof.Machine.execScrubStep errors s
  | .nxtUeRecoveryEnd l k => Sys2Proof.Machine.execNxtUeRecoveryEnd l k s
  | .xengineHold ch w => Sys2Proof.Machine.execXengineHold ch w s
  | .holdExpired => Sys2Proof.Machine.execHoldExpired s
  | .censusRequest ch w => Sys2Proof.Machine.execCensusRequest ch w s
  | .censusDone => Sys2Proof.Machine.execCensusDone s
  | .xwindowRead ch w => Sys2Proof.Machine.execXwindowRead ch w s
  | .xwindowWrite ch w => Sys2Proof.Machine.execXwindowWrite ch w s
  | .xwindowLand elapsed bad => Sys2Proof.Machine.execXwindowLand elapsed bad s
  | .lineEnable l => Sys2Proof.Machine.execLineEnable l s
  | .lineDisable ch l w => Sys2Proof.Machine.execLineDisable ch l w s
  | .beaconSlot l => Sys2Proof.Machine.execBeaconSlot l s
  | .beaconRx l m => Sys2Proof.Machine.execBeaconRx l m s
  | .answerRx l m rtt => Sys2Proof.Machine.execAnswerRx l m rtt s
  | .noanswerTimeout l => Sys2Proof.Machine.execNoanswerTimeout l s
  | .quietHoldExpire l => Sys2Proof.Machine.execQuietHoldExpire l s
  | .offerRx l m => Sys2Proof.Machine.execOfferRx l m s
  | .offerRepeat l => Sys2Proof.Machine.execOfferRepeat l s
  | .acceptRx l m => Sys2Proof.Machine.execAcceptRx l m s
  | .goRx l m => Sys2Proof.Machine.execGoRx l m s
  | .abortRx l m => Sys2Proof.Machine.execAbortRx l m s
  | .handshakeTimeout l => Sys2Proof.Machine.execHandshakeTimeout l s
  | .rangingBlockEnd l found avg late => Sys2Proof.Machine.execRangingBlockEnd l found avg late s
  | .rangingDecisionTimeout l => Sys2Proof.Machine.execRangingDecisionTimeout l s
  | .pilotWordRx l word => Sys2Proof.Machine.execPilotWordRx l word s
  | .tailRangingTimeout l => Sys2Proof.Machine.execTailRangingTimeout l s
  | .tailJoinDetect l => Sys2Proof.Machine.execTailJoinDetect l s
  | .joinwaitTimeout l => Sys2Proof.Machine.execJoinwaitTimeout l s
  | .trainingStep l => Sys2Proof.Machine.execTrainingStep l s
  | .trainingEnd l => Sys2Proof.Machine.execTrainingEnd l s
  | .trainTimeout l => Sys2Proof.Machine.execTrainTimeout l s
  | .loadingTimeout l => Sys2Proof.Machine.execLoadingTimeout l s
  | .overheadLoss l => Sys2Proof.Machine.execOverheadLoss l s
  | .lineRetrain ch l w => Sys2Proof.Machine.execLineRetrain ch l w s
  | .portDropTimeout port => Sys2Proof.Machine.execPortDropTimeout port s
  | .retrainRejoin l avg => Sys2Proof.Machine.execRetrainRejoin l avg s
  | .retrainLoadSend l => Sys2Proof.Machine.execRetrainLoadSend l s
  | .retrainEntryPropose port => Sys2Proof.Machine.execRetrainEntryPropose port s
  | .retrainAttemptTimeout l => Sys2Proof.Machine.execRetrainAttemptTimeout l s
  | .retrainGiveUp l => Sys2Proof.Machine.execRetrainGiveUp l s
  | .lineRestart ch l w => Sys2Proof.Machine.execLineRestart ch l w s
  | .losDetect l => Sys2Proof.Machine.execLosDetect l s
  | .bankRequest ch l w => Sys2Proof.Machine.execBankRequest ch l w s
  | .autobankExpire port => Sys2Proof.Machine.execAutobankExpire port s
  | .wakeRequest ch l w => Sys2Proof.Machine.execWakeRequest ch l w s
  | .wakeNoResponse port => Sys2Proof.Machine.execWakeNoResponse port s
  | .wakeResume port => Sys2Proof.Machine.execWakeResume port s
  | .reachTxStart l => Sys2Proof.Machine.execReachTxStart l s
  | .blankingEnd l => Sys2Proof.Machine.execBlankingEnd l s
  | .preambleDetected l windows shift => Sys2Proof.Machine.execPreambleDetected l windows shift s
  | .syncConfirm l windows r => Sys2Proof.Machine.execSyncConfirm l windows r s
  | .headerDone l word => Sys2Proof.Machine.execHeaderDone l word s
  | .packetRxDone l bytes => Sys2Proof.Machine.execPacketRxDone l bytes s
  | .replyTimeout l => Sys2Proof.Machine.execReplyTimeout l s
  | .alarmWindowDue l => Sys2Proof.Machine.execAlarmWindowDue l s
  | .alarmWindowOpen l => Sys2Proof.Machine.execAlarmWindowOpen l s
  | .alarmWindowClose l => Sys2Proof.Machine.execAlarmWindowClose l s
  | .pollDue l ep => Sys2Proof.Machine.execPollDue l ep s
  | .reachRecordRx port frame fcs => Sys2Proof.Machine.execReachRecordRx port frame fcs s
  | .reachMaskWaitEnd l => Sys2Proof.Machine.execReachMaskWaitEnd l s
  | .monitorPresetWrite ch l w => Sys2Proof.Machine.execMonitorPresetWrite ch l w s
  | .monitorNcoWrite ch l w => Sys2Proof.Machine.execMonitorNcoWrite ch l w s
  | .syncrstArm ch l w => Sys2Proof.Machine.execSyncrstArm ch l w s
  | .syncrstCancel ch l w => Sys2Proof.Machine.execSyncrstCancel ch l w s
  | .syncResetLand l elapsed => Sys2Proof.Machine.execSyncResetLand l elapsed s
  | .bankSwap ch l w => Sys2Proof.Machine.execBankSwap ch l w s
  | .fadeDone l adc => Sys2Proof.Machine.execFadeDone l adc s
  | .bankTapWrite ch l bank ix w => Sys2Proof.Machine.execBankTapWrite ch l bank ix w s
  | .rmsBlockEnd l adc => Sys2Proof.Machine.execRmsBlockEnd l adc s
  | .captureRequest ch l w => Sys2Proof.Machine.execCaptureRequest ch l w s
  | .captureTrigger l adc => Sys2Proof.Machine.execCaptureTrigger l adc s
  | .captureDone l adc => Sys2Proof.Machine.execCaptureDone l adc s
  | .captureTimeout l => Sys2Proof.Machine.execCaptureTimeout l s
  | .counterClear ch l w => Sys2Proof.Machine.execCounterClear ch l w s
  | .snrWatchWrite ch l w => Sys2Proof.Machine.execSnrWatchWrite ch l w s
  | .postmarkSecond => Sys2Proof.Machine.execPostmarkSecond s
  | .reflectRequest ch l w => Sys2Proof.Machine.execReflectRequest ch l w s
  | .reflectSlotGrant l => Sys2Proof.Machine.execReflectSlotGrant l s
  | .reflectDone l reason run => Sys2Proof.Machine.execReflectDone l reason run s
  | .txclrAssert => Sys2Proof.Machine.execTxclrAssert s
  | .txclrRelease => Sys2Proof.Machine.execTxclrRelease s
  | .driverOvercurrent l => Sys2Proof.Machine.execDriverOvercurrent l s
  | .clrcodeWrite ch c w => Sys2Proof.Machine.execClrcodeWrite ch c w s
  | .rangeSwitchSymbol l => Sys2Proof.Machine.execRangeSwitchSymbol l s
  | .refinMeasure level => Sys2Proof.Machine.execRefinMeasure level s
  | .calRequest ch l w => Sys2Proof.Machine.execCalRequest ch l w s
  | .calReqAll ch w => Sys2Proof.Machine.execCalReqAll ch w s
  | .calSlotGrant c => Sys2Proof.Machine.execCalSlotGrant c s
  | .calRunDone l r => Sys2Proof.Machine.execCalRunDone l r s
  | .calRunTimeout l => Sys2Proof.Machine.execCalRunTimeout l s
  | .calRetryDue l => Sys2Proof.Machine.execCalRetryDue l s
  | .calHoldoffEnd l => Sys2Proof.Machine.execCalHoldoffEnd l s
  | .calApplyStep l => Sys2Proof.Machine.execCalApplyStep l s
  | .powerupCalDone => Sys2Proof.Machine.execPowerupCalDone s
  | .anRestart ch l w => Sys2Proof.Machine.execAnRestart ch l w s
  | .anWindowEnd l => Sys2Proof.Machine.execAnWindowEnd l s
  | .beaconWindowEnd l => Sys2Proof.Machine.execBeaconWindowEnd l s
  | .flpQualified l => Sys2Proof.Machine.execFlpQualified l s
  | .altResumeTimeout l => Sys2Proof.Machine.execAltResumeTimeout l s
  | .stdLinkUp l => Sys2Proof.Machine.execStdLinkUp l s
  | .stdLinkDown l pcs => Sys2Proof.Machine.execStdLinkDown l pcs s
  | .stdFastRetrain l ok pcs => Sys2Proof.Machine.execStdFastRetrain l ok pcs s
  | .lpiEnter l enter => Sys2Proof.Machine.execLpiEnter l enter s
  | .laneDetectProbe lane found => Sys2Proof.Machine.execLaneDetectProbe lane found s
  | .laneTrainEnd lane errors => Sys2Proof.Machine.execLaneTrainEnd lane errors s
  | .laneLock lane ppm => Sys2Proof.Machine.execLaneLock lane ppm s
  | .exchangeAcceptRx lane content => Sys2Proof.Machine.execExchangeAcceptRx lane content s
  | .exchangeTimeout lane => Sys2Proof.Machine.execExchangeTimeout lane s
  | .laneLos lane => Sys2Proof.Machine.execLaneLos lane s
  | .laneLol lane => Sys2Proof.Machine.execLaneLol lane s
  | .blockLockLoss lane => Sys2Proof.Machine.execBlockLockLoss lane s
  | .laneRestart ch lane w => Sys2Proof.Machine.execLaneRestart ch lane w s
  | .laneLoopWrite ch lane w => Sys2Proof.Machine.execLaneLoopWrite ch lane w s
  | .laneRateChange ch lane w => Sys2Proof.Machine.execLaneRateChange ch lane w s
  | .eqEntryWrite ch e w => Sys2Proof.Machine.execEqEntryWrite ch e w s
  | .amBlock lane => Sys2Proof.Machine.execAmBlock lane s
  | .hostBlockRx lane slot sync payload => Sys2Proof.Machine.execHostBlockRx lane slot sync payload s
  | .pauseRepeat port => Sys2Proof.Machine.execPauseRepeat port s
  | .pauseXon port => Sys2Proof.Machine.execPauseXon port s
  | .stampGrant port => Sys2Proof.Machine.execStampGrant port s
  | .stampResend port => Sys2Proof.Machine.execStampResend port s
  | .hoststatSend port => Sys2Proof.Machine.execHoststatSend port s
  | .hoststatTimeout port => Sys2Proof.Machine.execHoststatTimeout port s
  | .syncInEdge edge high => Sys2Proof.Machine.execSyncInEdge edge high s
  | .syncLost => Sys2Proof.Machine.execSyncLost s
  | .trimWindowEnd count => Sys2Proof.Machine.execTrimWindowEnd count s
  | .koscWindowEnd count => Sys2Proof.Machine.execKoscWindowEnd count s
  | .refclkTrip => Sys2Proof.Machine.execRefclkTrip s
  | .refclkGood => Sys2Proof.Machine.execRefclkGood s
  | .pllLock pll => Sys2Proof.Machine.execPllLock pll s
  | .pllUnlock pll => Sys2Proof.Machine.execPllUnlock pll s
  | .spllMonitorTrip => Sys2Proof.Machine.execSpllMonitorTrip s
  | .koscHoldExpire => Sys2Proof.Machine.execKoscHoldExpire s
  | .muxHang mux => Sys2Proof.Machine.execMuxHang mux s
  | .freqmonRequest ch w => Sys2Proof.Machine.execFreqmonRequest ch w s
  | .freqmonDone count => Sys2Proof.Machine.execFreqmonDone count s
  | .freqmonRefStopped => Sys2Proof.Machine.execFreqmonRefStopped s
  | .resetNRelease => Sys2Proof.Machine.execResetNRelease s
  | .resetNAssert ns => Sys2Proof.Machine.execResetNAssert ns s
  | .refclkAbsentTimeout => Sys2Proof.Machine.execRefclkAbsentTimeout s
  | .bootVerifyDone => Sys2Proof.Machine.execBootVerifyDone s
  | .identReady => Sys2Proof.Machine.execIdentReady s
  | .timebaseSet ch w => Sys2Proof.Machine.execTimebaseSet ch w s
  | .timebaseAdd ch w => Sys2Proof.Machine.execTimebaseAdd ch w s
  | .ppsInEdge => Sys2Proof.Machine.execPpsInEdge s
  | .ppsOutFall => Sys2Proof.Machine.execPpsOutFall s
  | .avsCurrentRead fails current alert => Sys2Proof.Machine.execAvsCurrentRead fails current alert s
  | .vxConfirmed read => Sys2Proof.Machine.execVxConfirmed read s
  | .vxConfirmTimeout fails mv => Sys2Proof.Machine.execVxConfirmTimeout fails mv s
  | .avsRetry ch w => Sys2Proof.Machine.execAvsRetry ch w s
  | .tempSample temps => Sys2Proof.Machine.execTempSample temps s
  | .damperRepeat => Sys2Proof.Machine.execDamperRepeat s
  | .damperCool => Sys2Proof.Machine.execDamperCool s
  | .thermalPeakClear ch w => Sys2Proof.Machine.execThermalPeakClear ch w s
  | .ctempMinmaxClear ch c w => Sys2Proof.Machine.execCtempMinmaxClear ch c w s
  | .pstateDoze ch w => Sys2Proof.Machine.execPstateDoze ch w s
  | .pstateEmber ch w => Sys2Proof.Machine.execPstateEmber ch w s
  | .pstateHearth ch w => Sys2Proof.Machine.execPstateHearth ch w s
  | .pstateRun ch w => Sys2Proof.Machine.execPstateRun ch w s
  | .stageStopped => Sys2Proof.Machine.execStageStopped s
  | .stageTimeout => Sys2Proof.Machine.execStageTimeout s
  | .rollbackComplete => Sys2Proof.Machine.execRollbackComplete s
  | .wakeEnergy l => Sys2Proof.Machine.execWakeEnergy l s
  | .wakeMspi => Sys2Proof.Machine.execWakeMspi s
  | .wakeMdio => Sys2Proof.Machine.execWakeMdio s
  | .wakeTimer => Sys2Proof.Machine.execWakeTimer s
  | .wakeNotReady block => Sys2Proof.Machine.execWakeNotReady block s
  | .wakeComplete => Sys2Proof.Machine.execWakeComplete s
  | .clockGateTimeout stuck => Sys2Proof.Machine.execClockGateTimeout stuck s
  | .faultSample reports => Sys2Proof.Machine.execFaultSample reports s
  | .railDisagree source seen => Sys2Proof.Machine.execRailDisagree source seen s
  | .faultHandlingEnd => Sys2Proof.Machine.execFaultHandlingEnd s
  | .faultReboot ch w => Sys2Proof.Machine.execFaultReboot ch w s
  | .faultClear ch w => Sys2Proof.Machine.execFaultClear ch w s
  | .faultInject ch w => Sys2Proof.Machine.execFaultInject ch w s
  | .fenceLift ch hi w => Sys2Proof.Machine.execFenceLift ch hi w s
  | .fenceRecoveryEnd master => Sys2Proof.Machine.execFenceRecoveryEnd master s
  | .watchdogRestart => Sys2Proof.Machine.execWatchdogRestart s
  | .watchdogExpire => Sys2Proof.Machine.execWatchdogExpire s
  | .pinHoldEnd pin => Sys2Proof.Machine.execPinHoldEnd pin s
  | .ibHoldEnd source => Sys2Proof.Machine.execIbHoldEnd source s
  | .ibRefresh => Sys2Proof.Machine.execIbRefresh s
  | .lifecycleAdvance ch w => Sys2Proof.Machine.execLifecycleAdvance ch w s
  | .keyProgram ch w => Sys2Proof.Machine.execKeyProgram ch w s
  | .keyRevoke ch w => Sys2Proof.Machine.execKeyRevoke ch w s
  | .keyBurnDone => Sys2Proof.Machine.execKeyBurnDone s
  | .sessionOpen ch w => Sys2Proof.Machine.execSessionOpen ch w s
  | .sessionClose ch w => Sys2Proof.Machine.execSessionClose ch w s
  | .nonceRenew ch w => Sys2Proof.Machine.execNonceRenew ch w s
  | .nonceExpire ch => Sys2Proof.Machine.execNonceExpire ch s
  | .sessionIdleTimeout ch => Sys2Proof.Machine.execSessionIdleTimeout ch s
  | .lockoutEnd ch => Sys2Proof.Machine.execLockoutEnd ch s
  | .bootConfirm ch w => Sys2Proof.Machine.execBootConfirm ch w s
  | .svnCommit ch w => Sys2Proof.Machine.execSvnCommit ch w s
  | .fwUploadTimeout => Sys2Proof.Machine.execFwUploadTimeout s
  | .pairSet ch port w => Sys2Proof.Machine.execPairSet ch port w s
  | .saInstall ch port sa w => Sys2Proof.Machine.execSaInstall ch port sa w s
  | .compatPendingWrite ch w => Sys2Proof.Machine.execCompatPendingWrite ch w s
  | .railGood rail => Sys2Proof.Machine.execRailGood rail s
  | .railTrip rail => Sys2Proof.Machine.execRailTrip rail s
  | .vhLoss => Sys2Proof.Machine.execVhLoss s
  | .cpllRelockTimeout c => Sys2Proof.Machine.execCpllRelockTimeout c s
  | .koscStartTimeout => Sys2Proof.Machine.execKoscStartTimeout s
  | .reflectSlotTimeout l => Sys2Proof.Machine.execReflectSlotTimeout l s
  | .reachTxEnd l => Sys2Proof.Machine.execReachTxEnd l s
  | .autonegComplete l p => Sys2Proof.Machine.execAutonegComplete l p s
  | .partnerLpi l enter wakeError => Sys2Proof.Machine.execPartnerLpi l enter wakeError s
  | .monitorSettled l adc => Sys2Proof.Machine.execMonitorSettled l adc s
  | .detectorOver l adc => Sys2Proof.Machine.execDetectorOver l adc s

end Sys2Proof.Machine
end

