-- ==== Sys2Proof/WellFormed.lean ====
section
/-! DEFINITION. Which commands are well formed: every operand names a part that exists and fits the
width the spec gives it. -/

namespace Sys2Proof

/-- 12-bit ADC codes (R224). -/
def adcCodes (adc : List Int) : Bool := adc.all fun c => decide (-2048 ≤ c) && decide (c ≤ 2047)

/-- The operands of a command are in range (R3 to R5, R31 and the width of each field named). -/
def Instr.wf : Instr → Bool
  | .registerWrite _ addr width _ => addr < 2 ^ 32 && (width == 1 || width == 2 || width == 4)
  | .counterLoRead _ addr => addr < 2 ^ 32
  | .softReset _ p i _ => i < p.count
  | .pageLockWrite _ p i _ => i < p.count
  | .pageFreeze _ p i _ => i < p.count
  | .evtPendClear _ p i _ _ => i < p.count
  | .evtInject _ p i _ _ => i < p.count
  | .evtCountClr _ p i _ => i < p.count
  | .envPost _ p i _ => i < p.count
  | .envDiscard _ p i _ => i < p.count
  | .postLands p i => i < p.count
  | .sealedNegotiationStart port => port < 128
  | .sealConfirm port => port < 128
  | .mailRun _ _ => true
  | .mailRunCancel _ _ => true
  | .buslockTake _ _ => true
  | .buslockRelease _ _ => true
  | .leaseRevoke master resource access addr => master < 64 && resource < 2 && access < 7 && addr < 2 ^ 32
  | .letterboxCmd _ _ => true
  | .letterboxLeaseExpire _ => true
  | .echo _ => true
  | .diag _ => true
  | .fwBegin _ => true
  | .fwChunk _ => true
  | .fwCommit _ => true
  | .parcelExportBegin _ => true
  | .parcelExportNext _ => true
  | .parcelImportChunk _ => true
  | .parcelImportCommit _ => true
  | .attestSign _ => true
  | .attestRead _ => true
  | .letterboxDone _ => true
  | .mspiWrite addr _ _ => addr < 2 ^ 32
  | .mspiRead addr _ _ => addr < 2 ^ 32
  | .mspiStatus => true
  | .mspiChannelReset => true
  | .mspiBadCommand cmd => cmd < 256 && !(cmd == 0x02 || cmd == 0x0B || cmd == 0x05 || cmd == 0x99)
  | .mreqRead lane tag addr n => (lane == 0 || lane == 16) && tag < 2 ^ 16 && addr < 2 ^ 25 && addr % 4 == 0 && 1 ≤ n && n ≤ 16
  | .mreqWrite lane tag addr ws => (lane == 0 || lane == 16) && tag < 2 ^ 16 && addr < 2 ^ 25 && addr % 4 == 0 && 1 ≤ ws.length && ws.length ≤ 16
  | .mreqIncomplete lane tag => (lane == 0 || lane == 16) && tag < 2 ^ 16
  | .mdioWindowRead prtad _ => prtad < 32
  | .mdioWindowWrite prtad hi => prtad < 32 && hi < 2 ^ 16
  | .mdioErrorRead prtad => prtad < 32
  | .mmdAccess prtad mmd reg wr => prtad < 32 && mmd < 32 && reg < 2 ^ 16 && wr.all (· < 2 ^ 16)
  | .superframeStart => true
  | .pilotCycleStart meters => meters.all (fun m => m.line < 128)
  | .symbolTx n events => n < 64 && events.all (fun e => e.port < 128 && e.frame.all (· < 256))
  | .symbolRx n ys missing wakes trains events => n < 64 && ys.all (fun y => y.line < 128 && y.codes.length = 576 && adcCodes y.codes) && (missing ++ wakes ++ trains).all (· < 128) && events.all (fun e => e.port < 128 && e.frame.all (· < 256))
  | .dtuBufferExpire port seq => port < 128 && seq < 2 ^ 16
  | .dtuGiveUp port => port < 128
  | .beaconErasureEnd tag => tag < 16
  | .calGapAgreeTimeout l => l < 128
  | .calGapStampLower l => l < 128
  | .calGapStart l => l < 128
  | .calGapEnd l => l < 128
  | .deltaAverage l _ => l < 128
  | .taAdjust l => l < 128
  | .arrivalOutOfBand l => l < 128
  | .overheadWordRx l n _ => l < 128 && 1 ≤ n && n < 64
  | .sealMessageRx port payload => port < 128 && payload.length == 27 && payload.all (· < 256)
  | .loadMessageRx l payload => l < 128 && payload.length == 27 && payload.all (· < 256)
  | .timingMessageRx l corr => l < 128 && corr < 256
  | .hoststatRx port payload => port < 128 && payload.length == 4 && payload.all (· < 256)
  | .fxuLanding => true
  | .prdLanding => true
  | .joinStart => true
  | .joinNxtWrite => true
  | .joinPilotActive => true
  | .joinCoefWrite => true
  | .joinLanded => true
  | .writePortGrant => true
  | .xengineDmaClear l => l < 128
  | .deadLineInactive l => l < 128
  | .levelDownRequest _ _ => true
  | .levelUpRequest _ _ => true
  | .levelRepropose => true
  | .nvDownLand => true
  | .nvUpLand => true
  | .scrubStep errors => errors.all (fun e => e.1 < 4 && e.2.1 < 2 ^ 21)
  | .nxtUeRecoveryEnd l k => l < 128 && k < 128
  | .xengineHold _ _ => true
  | .holdExpired => true
  | .censusRequest _ _ => true
  | .censusDone => true
  | .xwindowRead _ _ => true
  | .xwindowWrite _ _ => true
  | .xwindowLand _ bad => bad.all (fun e => e.1 < 128)
  | .lineEnable l => l < 128
  | .lineDisable _ l _ => l < 128
  | .beaconSlot l => l < 128
  | .beaconRx l m => l < 128 && m.all (· < 256)
  | .answerRx l m rtt => l < 128 && m.all (· < 256) && rtt < 2 ^ 24
  | .noanswerTimeout l => l < 128
  | .quietHoldExpire l => l < 128
  | .offerRx l m => l < 128 && m.all (· < 256)
  | .offerRepeat l => l < 128
  | .acceptRx l m => l < 128 && m.all (· < 256)
  | .goRx l m => l < 128 && m.all (· < 256)
  | .abortRx l m => l < 128 && m.all (· < 256)
  | .handshakeTimeout l => l < 128
  | .rangingBlockEnd l found _ _ => l < 128 && found ≤ 16
  | .rangingDecisionTimeout l => l < 128
  | .pilotWordRx l word => l < 128 && word < 2 ^ 64
  | .tailRangingTimeout l => l < 128
  | .tailJoinDetect l => l < 128
  | .joinwaitTimeout l => l < 128
  | .trainingStep l => l < 128
  | .trainingEnd l => l < 128
  | .trainTimeout l => l < 128
  | .loadingTimeout l => l < 128
  | .overheadLoss l => l < 128
  | .lineRetrain _ l _ => l < 128
  | .portDropTimeout port => port < 128
  | .retrainRejoin l _ => l < 128
  | .retrainLoadSend l => l < 128
  | .retrainEntryPropose port => port < 128
  | .retrainAttemptTimeout l => l < 128
  | .retrainGiveUp l => l < 128
  | .lineRestart _ l _ => l < 128
  | .losDetect l => l < 128
  | .bankRequest _ l _ => l < 128
  | .autobankExpire port => port < 128
  | .wakeRequest _ l _ => l < 128
  | .wakeNoResponse port => port < 128
  | .wakeResume port => port < 128
  | .reachTxStart l => l < 128
  | .blankingEnd l => l < 128
  | .preambleDetected l _ _ => l < 128
  | .syncConfirm l _ _ => l < 128
  | .headerDone l word => l < 128 && word < 2 ^ 32
  | .packetRxDone l bytes => l < 128 && bytes.all (· < 256)
  | .replyTimeout l => l < 128
  | .alarmWindowDue l => l < 128
  | .alarmWindowOpen l => l < 128
  | .alarmWindowClose l => l < 128
  | .pollDue l _ => l < 128
  | .reachRecordRx port frame fcs => port < 128 && (frame ++ fcs).all (· < 256) && fcs.length == 4
  | .reachMaskWaitEnd l => l < 128
  | .monitorPresetWrite _ l _ => l < 128
  | .monitorNcoWrite _ l _ => l < 128
  | .syncrstArm _ l _ => l < 128
  | .syncrstCancel _ l _ => l < 128
  | .syncResetLand l _ => l < 128
  | .bankSwap _ l _ => l < 128
  | .fadeDone l adc => l < 128 && adcCodes adc
  | .bankTapWrite _ l _ _ _ => l < 128
  | .rmsBlockEnd l adc => l < 128 && adcCodes adc
  | .captureRequest _ l _ => l < 128
  | .captureTrigger l adc => l < 128 && adcCodes adc
  | .captureDone l adc => l < 128 && adcCodes adc
  | .captureTimeout l => l < 128
  | .counterClear _ l _ => l < 128
  | .snrWatchWrite _ l _ => l < 128
  | .postmarkSecond => true
  | .reflectRequest _ l _ => l < 128
  | .reflectSlotGrant l => l < 128
  | .reflectDone l reason run => l < 128 && (reason == 0 || reason == 2 || reason == 4) && ((run.reference.length == 1024 && run.line.length == 1024) || reason != 0)
  | .txclrAssert => true
  | .txclrRelease => true
  | .driverOvercurrent l => l < 128
  | .clrcodeWrite _ c _ => c < 4
  | .rangeSwitchSymbol l => l < 128
  | .refinMeasure _ => true
  | .calRequest _ l _ => l < 128
  | .calReqAll _ _ => true
  | .calSlotGrant c => c < 4
  | .calRunDone l r => l < 128 && r.seg.length == 67 && r.ladder.length == 9
  | .calRunTimeout l => l < 128
  | .calRetryDue l => l < 128
  | .calHoldoffEnd l => l < 128
  | .calApplyStep l => l < 128
  | .powerupCalDone => true
  | .anRestart _ l _ => l < 128
  | .anWindowEnd l => l < 128
  | .beaconWindowEnd l => l < 128
  | .flpQualified l => l < 128
  | .altResumeTimeout l => l < 128
  | .stdLinkUp l => l < 128
  | .stdLinkDown l _ => l < 128
  | .stdFastRetrain l _ _ => l < 128
  | .lpiEnter l _ => l < 128
  | .laneDetectProbe lane _ => lane < 32
  | .laneTrainEnd lane _ => lane < 32
  | .laneLock lane _ => lane < 32
  | .exchangeAcceptRx lane content => lane < 32 && content < 2 ^ 48
  | .exchangeTimeout lane => lane < 32
  | .laneLos lane => lane < 32
  | .laneLol lane => lane < 32
  | .blockLockLoss lane => lane < 32
  | .laneRestart _ lane _ => lane < 32
  | .laneLoopWrite _ lane _ => lane < 32
  | .laneRateChange _ lane _ => lane < 32
  | .eqEntryWrite _ e _ => e < 16
  | .amBlock lane => lane < 32
  | .hostBlockRx lane slot sync payload => lane < 32 && slot < 4 && sync < 4 && payload < 2 ^ 64
  | .pauseRepeat port => port < 128
  | .pauseXon port => port < 128
  | .stampGrant port => port < 128
  | .stampResend port => port < 128
  | .hoststatSend port => port < 128
  | .hoststatTimeout port => port < 128
  | .syncInEdge _ high => high < 2 ^ 16
  | .syncLost => true
  | .trimWindowEnd _ => true
  | .koscWindowEnd _ => true
  | .refclkTrip => true
  | .refclkGood => true
  | .pllLock pll => pll < 7
  | .pllUnlock pll => pll < 7
  | .spllMonitorTrip => true
  | .koscHoldExpire => true
  | .muxHang mux => mux < 2
  | .freqmonRequest _ _ => true
  | .freqmonDone _ => true
  | .freqmonRefStopped => true
  | .resetNRelease => true
  | .resetNAssert _ => true
  | .refclkAbsentTimeout => true
  | .bootVerifyDone => true
  | .identReady => true
  | .timebaseSet _ _ => true
  | .timebaseAdd _ _ => true
  | .ppsInEdge => true
  | .ppsOutFall => true
  | .avsCurrentRead fails current _ => fails ≤ 2 && current < 2 ^ 16
  | .vxConfirmed r => r.mv < 2 ^ 16
  | .vxConfirmTimeout _ mv => mv < 2 ^ 16
  | .avsRetry _ _ => true
  | .tempSample temps => temps.length == 8
  | .damperRepeat => true
  | .damperCool => true
  | .thermalPeakClear _ _ => true
  | .ctempMinmaxClear _ c _ => c < 4
  | .pstateDoze _ _ => true
  | .pstateEmber _ _ => true
  | .pstateHearth _ _ => true
  | .pstateRun _ _ => true
  | .stageStopped => true
  | .stageTimeout => true
  | .rollbackComplete => true
  | .wakeEnergy l => l < 128
  | .wakeMspi => true
  | .wakeMdio => true
  | .wakeTimer => true
  | .wakeNotReady block => block < 8
  | .wakeComplete => true
  | .clockGateTimeout stuck => stuck.all (fun x => x.master < 64 && x.access < 8 && x.addr < 2 ^ 32)
  | .faultSample reports => reports.all (fun r => r.code < 256 && r.cls < 4 && r.source < 256)
  | .railDisagree source seen => source < 256 && seen < 4
  | .faultHandlingEnd => true
  | .faultReboot _ _ => true
  | .faultClear _ _ => true
  | .faultInject _ _ => true
  | .fenceLift _ _ _ => true
  | .fenceRecoveryEnd master => master < 64
  | .watchdogRestart => true
  | .watchdogExpire => true
  | .pinHoldEnd pin => pin < 2
  | .ibHoldEnd source => source < 512
  | .ibRefresh => true
  | .lifecycleAdvance _ _ => true
  | .keyProgram _ _ => true
  | .keyRevoke _ _ => true
  | .keyBurnDone => true
  | .sessionOpen _ _ => true
  | .sessionClose _ _ => true
  | .nonceRenew _ _ => true
  | .nonceExpire _ => true
  | .sessionIdleTimeout _ => true
  | .lockoutEnd _ => true
  | .bootConfirm _ _ => true
  | .svnCommit _ _ => true
  | .fwUploadTimeout => true
  | .pairSet _ port _ => port < 128
  | .saInstall _ port sa _ => port < 128 && sa < 6
  | .compatPendingWrite _ _ => true
  | .railGood rail => rail < 8
  | .railTrip rail => 0 < rail && rail < 8
  | .vhLoss => true
  | .cpllRelockTimeout c => c < 4
  | .koscStartTimeout => true
  | .reflectSlotTimeout l => l < 128
  | .reachTxEnd l => l < 128
  | .autonegComplete l p => l < 128 && p.speeds < 32 && p.eee < 32
  | .partnerLpi l _ _ => l < 128
  | .monitorSettled l adc => l < 128 && adcCodes adc
  | .detectorOver l adc => l < 128 && adcCodes adc

/-- A command whose operands are in range. -/
abbrev Instr.WellFormed (i : Instr) : Prop := i.wf = true

end Sys2Proof
end

