-- ==== Sys2Proof/Safety.lean ====
section
/-! DEFINITION. What counts as a safe run, in the terms claims use. -/

namespace Sys2Proof.Machine

/-- Every command that waits is well formed: it names parts that exist and values that fit (R3 to R5, R31). -/
def State.queueOk (s : State) : Bool := s.pending.all Instr.wf

/-- A step goes on: it neither faults nor refuses. -/
def State.goesOn (s : State) : Bool :=
  match step s with
  | .next _ => true
  | .fault _ => false
  | .refused _ => false

/-- k steps go on. -/
def State.safeFor : Nat → State → Bool
  | 0, _ => true
  | k + 1, s =>
    match step s with
    | .next t => State.safeFor k t
    | .fault _ => false
    | .refused _ => false

/-! ### Access by a channel -/

/-- The power manager rests in RUN or DOZE: a frame wakes nothing (R297, R300). -/
def State.steady (s : State) : Bool := s.pwr.sub == 0 && decide (s.pwr.state ≤ 1) && !s.pwr.waking

/-- The word that holds a field, written by a channel. -/
def Fld.write (F : Fld) (ch : Channel) (i j w : Nat) : WordWrite :=
  { ch := chIx ch, page := F.page, inst := i, off := F.off + F.stride * j, w := w }

/-- The page turns down a word written to it (R32 to R34, R384). -/
def State.turnsDown (s : State) (x : WordWrite) : Bool := s.refuses x (s.acted x)

/-- A write of the word that holds a field is carried out whole when it comes: the device is at rest, no in-band
request waits, and no rule refuses, denies or locks out the write (R55, R319, R344, R384). -/
def State.grants (s : State) (ch : Channel) (F : Fld) (i j w : Nat) : Bool :=
  s.steady && s.mgmt.ibQueue.isEmpty && s.accepts ch (F.addr i j) w

/-- A read of a word is carried out whole when it comes: the device is at rest, no in-band request waits, and no rule
refuses or denies the read (R52 to R55, R344). -/
def State.readable (s : State) (ch : Channel) (addr : Nat) : Bool :=
  s.steady && s.mgmt.ibQueue.isEmpty && (chIx ch != 1 || !s.inbandLanes.isEmpty) &&
    (s.access (chIx ch) addr 4 1 none).verdict == .ok

/-- The channel may read every page: the device is at rest, the channel is served and not fenced, no other channel holds the bus lock, and
its session is open (R52, R54, R55, R319, R344). -/
def State.opensTo (s : State) (ch : Channel) : Bool :=
  s.steady && s.served (chIx ch) && !s.fenced (chIx ch + 1) && !s.lockedFor (chIx ch) && !s.restricted &&
    (s.roleOf (chIx ch)).isSome

/-- The channel got a word it read: MSPI and MDIO show it, the in-band channel answers with it. -/
def State.gave (s : State) (ch : Channel) (v : Nat) (t : State) : Prop :=
  if ch = .inband then
    t.mgmt.ibAnswers = s.mgmt.ibAnswers ++ [{ lane := s.inbandLane, tag := 0, status := 0, data := [v] }]
  else t.mgmt.lastRead = [v] ∧ t.mgmt.lastError = false

/-- An access on MSPI or MDIO completed with an error response and changed nothing but what records it (R345). -/
def State.turnedAway (s t : State) : Prop :=
  t.mgmt.lastError = true ∧ t.lines = s.lines ∧ t.staged = s.staged ∧ t.posts = s.posts ∧ t.ports = s.ports ∧
    t.trust = s.trust ∧ t.xe = s.xe ∧ t.pwr = s.pwr ∧ t.time = s.time ∧ t.mgmt.sessions = s.mgmt.sessions ∧
    t.mgmt.busOwner = s.mgmt.busOwner ∧ t.mgmt.lbCommands = s.mgmt.lbCommands

/-! ### What a command comes to -/

/-- The command answers a next state, of which `P` holds. -/
def State.runsTo (s : State) (c : Instr) (P : State → Prop) : Prop := ∃ t, exec c s = .next t ∧ P t

/-- The line's Reach modem holds no reception and sends nothing, and no message waits (R170). -/
def State.modemFree (s : State) (l : Nat) : Bool :=
  (s.reachX l).tx.isNone && (s.reachX l).rx.isNone && (s.reachX l).due.isEmpty

/-- A message went on the line: it is the packet being sent, the receiver is blanked, and one more packet is counted
(R165, R180). -/
def State.sends (s : State) (l : Nat) (m : List Nat) (t : State) : Prop :=
  (t.reachX l).tx.map ReachPkt.payload = some m ∧ t.g LREACH.STATUS.RXSTATE l = 5 ∧
    t.g LREACH.TX_PKT.COUNT l = satAdd 32 (s.g LREACH.TX_PKT.COUNT l) 1

/-- No GO of the line waits to go out (R170). -/
def State.noGoWaits (s : State) (l : Nat) : Bool := (s.reachX l).due.all fun p => p.payload.headD 0 != 0x15

/-- The received table that a retrain's head sends: its short tones loaded anew under the masks in force (R141, R149). -/
def State.retrainRx (s : State) (l : Nat) : Store Nat :=
  let u := s.showSnr l
  u.remask l (u.wantedMask l) (u.loadTable l (u.shortTones l) (s.line l).rxTable)

/-- The transmitted table that a retrain's head sends, under the masks in force (R149). -/
def State.retrainTx (s : State) (l : Nat) : Store Nat :=
  let u := s.showSnr l
  u.remask l (u.wantedMask l) (s.line l).txTable

/-- One more ADC code completes an output sample of the line's chain (R184, R185). -/
def State.lastTick (s : State) (l : Nat) : Bool :=
  s.chainOn l && (s.monX l).ticks + 1 == (if s.chainPreset l = 4 then 2048 else 64 * 2 ^ s.chainPreset l)

/-- The output sample of STEP that an ADC code completes: the mean of 2,048 mixer outputs (R183, R185). -/
def State.stepOut (s : State) (l : Nat) (code : Int) : Cx :=
  Cx.scale (1 / 2048) (((s.monX l).integ.headD Cx.zero).add (Cx.scale ((clampInt (-2048) 2047 code : Rat) / 1024)
    (unitRoot (2 ^ 32) ((2 ^ 32 - (s.monX l).phase) % 2 ^ 32))))

/-- Every register field but one keeps its value. -/
def State.onlyReg (s : State) (F : Fld) (i j : Nat) (t : State) : Prop :=
  ∀ (G : Fld) (a b : Nat), G.key a b ≠ F.key i j → t.g G a b = s.g G a b

/-- Line l went to QUIET with a reason and a hold: its state, LAST_REASON and LAST_FROM (R153); a line outside bring-up
keeps all it has. -/
def State.quieted (s : State) (l reason hold : Nat) (t : State) : Prop :=
  (t.line l).st = .quiet ∧ (t.line l).sub = 0 ∧ (t.line l).hold = hold ∧
    t.g LTRAIN.STATUS.LAST_REASON l = reason ∧ t.g LTRAIN.STATUS.LAST_FROM l = (s.line l).st.code ∧
    ∀ m, m ≠ l → inBringUp (s.line m).st = false → t.line m = s.line m

/-- Line l went to RETRAIN with a reason (R147); a line that does not run keeps all it has. -/
def State.retrained (s : State) (l reason : Nat) (t : State) : Prop :=
  (t.line l).st = .retrain ∧ (t.line l).sub = 0 ∧
    t.g LTRAIN.STATUS.LAST_REASON l = reason ∧ t.g LTRAIN.STATUS.LAST_FROM l = (s.line l).st.code ∧
    ∀ m, m ≠ l → (s.line m).st ≠ .showtime → t.line m = s.line m

/-- RING with an opcode: with a role that may run it the slot is freed and Stoker has the command with its arguments, BUSY and STALE
are 1, and turns to it at once where no other waits (R50 step 4); a role too low ends it at once with DENIED (R344, R345). -/
def State.rings (s : State) (ch : Channel) (c : Instr) (op need : Nat) : Prop :=
  ∀ r, s.roleOf (chIx ch) = some r → s.g LETTERBOX.CMD.OPCODE (chIx ch) = op →
    s.mgmt.lbCommands.head?.all LbCommand.started = true →
    s.grants ch LETTERBOX.DOORBELL.RING (chIx ch) 0 1 = true →
    (need ≤ r → s.runsTo c fun t =>
      t.g LETTERBOX.LB_STAT.BUSY (chIx ch) = 1 ∧ t.g (HDR.RESULT_SEQ.STALE .letterbox) (chIx ch) = 1 ∧
      t.mgmt.lbLease = none ∧ t.lines = s.lines ∧
      t.mgmt.lbCommands = s.mgmt.lbCommands ++
        [{ ch := chIx ch, opcode := op, tag := s.g LETTERBOX.CMD.TAG (chIx ch), discard := false,
           args := (List.range (s.g LETTERBOX.CMD.LENGTH (chIx ch))).map fun j =>
             if j < 256 then s.g LETTERBOX.ARG.W (chIx ch) j else 0,
           started := s.mgmt.lbCommands.isEmpty }]) ∧
    (r < need → s.runsTo c fun t =>
      t.g LETTERBOX.LB_STAT.STATUS (chIx ch) = lbDenied ∧ t.g LETTERBOX.LB_STAT.RESP_LEN (chIx ch) = 0 ∧
      t.g LETTERBOX.LB_STAT.BUSY (chIx ch) = 0 ∧ t.mgmt.lbLease = none ∧ t.lines = s.lines)

/-- The device rests in EMBER, with a cause of wake enabled (R300). -/
def State.mayWake (s : State) (cause : Nat) : Bool :=
  s.pwr.state == 2 && !s.pwr.waking && s.pwr.sub != 1 && s.pwr.sub != 5 && bit (s.g HEARTH.WAKE_EN.EN) (cause - 1)

/-- A wake began: KOSC starts, the control domain has no clock, and the cause is shown, with its line (R300, R301). -/
def State.wakesBy (s : State) (cause line : Nat) (t : State) : Prop :=
  t.pwr.waking = true ∧ t.pwr.sub = 3 ∧ t.pwr.state = 2 ∧ t.pwr.vxReady = false ∧ t.clk.kosc = .starting ∧
    t.clk.csrc = .gated ∧ t.clk.running = false ∧ t.g HEARTH.WAKE_CAUSE.CAUSE = cause ∧
    t.g HEARTH.WAKE_CAUSE.LINE = line ∧ t.lines = s.lines

/-- The command of the channel that Stoker runs, with arguments that fit, in a state of the boot in which it works; no DIAG waits
behind it, whose start would come with its end (R50, R210, R334). -/
def State.serves (s : State) (ch : Channel) (op : Nat) (args : List Nat) : Bool :=
  s.stokerRuns && decide (args.length ≤ 256) && (s.trust.bootState != 4 || recoveryOpcode op) &&
    match s.mgmt.lbCommands with
    | x :: rest =>
      x.ch == chIx ch && x.opcode == op && x.args == args && !x.discard && x.started &&
        rest.all fun y => y.ch != chIx ch && y.opcode != 0x10
    | [] => false

/-- Stoker finishes that command: the response, its length, the tag and the status land together, BUSY falls and the command is
gone (R50 step 5). -/
def State.answers (s : State) (ch : Channel) (status : Nat) (resp : List Nat) (t : State) : Prop :=
  t.g LETTERBOX.LB_STAT.STATUS (chIx ch) = status ∧ t.g LETTERBOX.LB_STAT.RESP_LEN (chIx ch) = resp.length ∧
    (∀ j, j < resp.length → t.g LETTERBOX.RESP.W (chIx ch) j = resp.getD j 0 % 2 ^ 32) ∧
    t.g LETTERBOX.LB_STAT.BUSY (chIx ch) = 0 ∧
    t.g LETTERBOX.LB_STAT.LAST_TAG (chIx ch) = ((s.mgmt.lbCommands.map LbCommand.tag).headD 0) % 256 ∧
    t.mgmt.lbCommands.map LbCommand.ch = (s.mgmt.lbCommands.drop 1).map LbCommand.ch ∧ t.lines = s.lines

/-- An SA installed takes effect at once: no frame of its direction is under way (R353). -/
def State.saAtOnce (s : State) (p a : Nat) : Bool := (if a < 2 then (s.port p).secTx else (s.port p).secRx).isEmpty

/-- The SA that INSTALL sets up from its registers with an AN; a transmit one that takes effect at once stands at its threshold or its
end where its PN does (R353). -/
def State.saWritten (s : State) (p a an : Nat) : Sa :=
  let pn := s.g PORT_SEC.SA_PN_HI.PN p a * 2 ^ 32 + s.g PORT_SEC.SA_PN_LO.PN p a
  let sends := s.saAtOnce p a && decide (a < 2)
  { an := an, pn := pn, ssci := s.g PORT_SEC.SA_SSCI.SSCI p a, key := saKeyFields.map fun F => s.g F p a,
    salt := saSaltFields.map fun F => s.g F p a,
    warned := sends && decide ((if s.xpn p then 2 ^ 63 + 2 ^ 62 else 0xC0000000) ≤ pn),
    exhausted := sends && decide ((if s.xpn p then 2 ^ 64 - 1 else 2 ^ 32 - 1) ≤ pn) }

end Sys2Proof.Machine

namespace Sys2Proof

/-! ### Which commands reach which state -/

/-- The commands that may change any state: the accesses of the management channels, the letterbox's commands, and what
resets or reboots the device, applies a parcel or stops it. -/
def Instr.reachesAll : Instr → Bool
  | .anRestart .. | .attestRead .. | .attestSign .. | .avsRetry .. | .bankRequest .. | .bankSwap ..
  | .bankTapWrite .. | .bootConfirm .. | .buslockRelease .. | .buslockTake .. | .calReqAll .. | .calRequest ..
  | .captureRequest .. | .censusRequest .. | .clrcodeWrite .. | .compatPendingWrite .. | .counterClear ..
  | .counterLoRead .. | .ctempMinmaxClear .. | .diag .. | .echo .. | .envDiscard .. | .envPost ..
  | .eqEntryWrite .. | .evtCountClr .. | .evtInject .. | .evtPendClear .. | .faultClear .. | .faultInject ..
  | .faultReboot .. | .fenceLift .. | .freqmonRequest .. | .fwBegin .. | .fwChunk .. | .fwCommit ..
  | .identReady | .keyProgram .. | .keyRevoke .. | .laneLoopWrite .. | .laneRateChange .. | .laneRestart ..
  | .leaseRevoke .. | .letterboxCmd .. | .letterboxDone .. | .levelDownRequest .. | .levelUpRequest ..
  | .lifecycleAdvance .. | .lineDisable .. | .lineRestart .. | .lineRetrain .. | .mailRun ..
  | .mailRunCancel .. | .mdioWindowRead .. | .mdioWindowWrite .. | .mmdAccess .. | .monitorNcoWrite ..
  | .monitorPresetWrite .. | .mreqIncomplete .. | .mreqRead .. | .mreqWrite .. | .mspiRead .. | .mspiWrite ..
  | .nonceRenew .. | .pageFreeze .. | .pageLockWrite .. | .pairSet .. | .parcelExportBegin ..
  | .parcelExportNext .. | .parcelImportChunk .. | .parcelImportCommit .. | .pstateDoze .. | .pstateEmber ..
  | .pstateHearth .. | .pstateRun .. | .railTrip .. | .reflectRequest .. | .registerWrite .. | .resetNAssert ..
  | .saInstall .. | .sessionClose .. | .sessionIdleTimeout .. | .sessionOpen .. | .snrWatchWrite ..
  | .softReset .. | .stageStopped | .svnCommit .. | .syncrstArm .. | .syncrstCancel .. | .thermalPeakClear ..
  | .timebaseAdd .. | .timebaseSet .. | .vhLoss | .wakeRequest .. | .xengineHold .. | .xwindowRead ..
  | .xwindowWrite .. => true
  | _ => false

/-- The commands that move the grid's counter. -/
def Instr.movesGrid : Instr → Bool
  | .superframeStart | .syncInEdge .. => true
  | _ => false

/-- The commands that move the time of day or judge it. -/
def Instr.movesTime : Instr → Bool
  | .koscHoldExpire | .koscStartTimeout | .koscWindowEnd .. | .muxHang .. | .pllLock .. | .pllUnlock ..
  | .postmarkSecond | .ppsInEdge | .ppsOutFall | .refclkGood | .refclkTrip | .spllMonitorTrip
  | .wakeNotReady .. => true
  | _ => false

/-- The commands that move the fuses, the keys, the images or the boot. -/
def Instr.movesTrust : Instr → Bool
  | .bootVerifyDone | .fwUploadTimeout | .keyBurnDone | .mspiBadCommand .. | .mspiChannelReset | .mspiStatus
  | .railGood .. | .resetNRelease | .wakeEnergy .. | .wakeMdio | .wakeMspi | .wakeTimer => true
  | _ => false

end Sys2Proof
end

