-- ==== Sys2Proof/Certificates/Slice0/Obligations.lean ====
section
/-! DEFINITION. The statements for the provers. -/

open Sys2Proof Sys2Proof.Machine

/-- For every command c and state s, a step of s with c at the front of its queue is exec of c on s with the queue's rest. On an
empty queue the time passes to the next moment (the model's choice, log 12): the step answers the state with the tick done. -/
def Obligations.StepServesQueue : Prop :=
  ∀ s : State,
    (∀ (c : Instr) (rest : List Instr), step { s with pending := c :: rest } = exec c { s with pending := rest }) ∧
    (s.pending = [] → step s = .next s.timeTick)

/-- After reset every register of every page reads its reset value in the store, with TXCLR_N's and RESET_N's pins as the model's
reset has them; no line runs, nothing is staged, posted, recorded or pending; the superframe counter is 0 (R10, R21); every
session is closed (R342); the device waits in reset with its control domain stopped (R285). -/
def Obligations.ResetState : Prop :=
  (∀ (F : Fld) (i j : Nat), State.reset.g F i j = F.reset j) ∧
  (∀ l, (State.reset.line l).st = .off) ∧
  State.reset.pending = [] ∧ State.reset.posts = [] ∧ State.reset.staged = [] ∧ State.reset.sfc = 0 ∧
  State.reset.run = none ∧ State.reset.controlRunning = false ∧ State.reset.pwr.state = 0 ∧ State.reset.fault.s3 = false ∧
  (∀ c, (State.reset.session c).isOpen = false) ∧ State.reset.queueOk = true

/-- A line whose wait has run out returns to QUIET with the 2 s hold and the reason of its wait (R124, R125): no GO in HANDSHAKE,
no ranging decision and no RANGE_OK word in RANGING, no join in JOIN_WAIT, no end of TRAINING or LOADING. A line outside
bring-up keeps all it has. Said of states outside the safe state (R312; log 75). -/
def Obligations.LineTimeoutsToQuiet : Prop :=
  ∀ (s : State) (l : Nat), l < 128 → s.fault.s3 = false →
    ((s.line l).st = .handshake → (s.line l).goSent = false →
      s.runsTo (.handshakeTimeout l) (s.quieted l rsHandshake 2)) ∧
    (s.isVHead l = true → (s.line l).st = .ranging → (s.line l).sub = 0 →
      s.runsTo (.rangingDecisionTimeout l) (s.quieted l rsRangeFail 2)) ∧
    (s.isVTail l = true → (s.line l).st = .ranging → (s.line l).sub = 0 →
      s.runsTo (.tailRangingTimeout l) (s.quieted l rsRangeFail 2)) ∧
    (s.isVHead l = true → (s.line l).st = .ranging → (s.line l).sub = 1 →
      s.runsTo (.joinwaitTimeout l) (s.quieted l rsJoinWait 2)) ∧
    ((s.line l).st = .training → s.runsTo (.trainTimeout l) (s.quieted l rsTrain 2)) ∧
    ((s.line l).st = .loading → s.runsTo (.loadingTimeout l) (s.quieted l rsLoad 2))

/-- An ABORT received in HANDSHAKE with a reason other than PAIR_FAIL, and the loss of the partner's signal, end a bring-up: QUIET
with PEER_ABORT, or with LOS (R124, R125). Said of states in which the line DSP runs (R297, R298, R312; log 75). -/
def Obligations.LineAborts : Prop :=
  ∀ (s : State) (l : Nat), l < 128 → s.dspRuns = true →
    (∀ m : List Nat, s.isV l = true → (s.line l).st = .handshake → isMessage m 4 0x1F = true →
      m.getD 2 0 ≠ rsPairFail → s.runsTo (.abortRx l m) (s.quieted l rsPeerAbort 2)) ∧
    (s.isVHead l = true →
      (s.line l).st = .training ∨ (s.line l).st = .loading ∨ ((s.line l).st = .joining ∧ (s.line l).sub = 1) →
      s.runsTo (.losDetect l) (s.quieted l rsLos 2))

/-- A head in SHOWTIME or BANKED whose partner's signal is lost retrains with LOS; a line in SHOWTIME without a valid overhead
word for 16 superframes retrains with OVERHEAD (R147). Said of states in which the line DSP runs (R297, R298, R312; log 75). -/
def Obligations.LineRetrains : Prop :=
  ∀ (s : State) (l : Nat), l < 128 → s.dspRuns = true →
    (s.isVHead l = true → (s.line l).st = .showtime ∨ (s.line l).st = .banked →
      s.runsTo (.losDetect l) (s.retrained l rsLos)) ∧
    (s.isV l = true → (s.line l).st = .showtime → 17 ≤ (s.line l).ohBad →
      s.runsTo (.overheadLoss l) (s.retrained l rsOverhead))

/-- Enabling an OFF line puts it in the start state of its mode (R122). A beacon slot of a line in BEACON sends the BEACON message
where the path holds no reception, no reply window is open and the cluster's PLL is locked (R129, R130, R281): it is on the
line, one more packet sent, the receiver blanked. A cycle without an ANSWER puts the line in QUIET with the 50 ms hold and
counts (R124); the end of the hold of an enabled head puts it in BEACON again. The other lines keep all they have, but that
the cycle's end quiets peers in bring-up. Times pass outside the safe state (R312; log 75). -/
def Obligations.BeaconCycle : Prop :=
  ∀ (s : State) (l : Nat), l < 128 →
    (s.enabled .lctl l = true → s.mode l ≠ 0 → (s.line l).st = .off →
      s.runsTo (.lineEnable l) fun t =>
        (t.line l).st = (s.startOf l).1 ∧ (t.line l).hold = (s.startOf l).2 ∧ ∀ m, m ≠ l → t.line m = s.line m) ∧
    ((s.line l).st = .beacon → s.noKey (s.anchor l) = false → s.modemFree l = true → (s.reachX l).beaconOpen = false →
      s.beaconsRun = true → s.lineRuns l = true →
      s.runsTo (.beaconSlot l) fun t =>
        s.sends l (s.beaconBytes l) t ∧ (t.reachX l).beaconOpen = true ∧ t.lines = s.lines) ∧
    ((s.line l).st = .beacon →
      s.fault.s3 = false → s.runsTo (.noanswerTimeout l) fun t =>
        (t.line l).st = .quiet ∧ (t.line l).hold = 1 ∧
        t.g LTRAIN.ATTEMPTS.NOANSWER l = satAdd 16 (s.g LTRAIN.ATTEMPTS.NOANSWER l) 1 ∧
        ∀ m, m ≠ l → inBringUp (s.line m).st = false → t.line m = s.line m) ∧
    (s.isVHead l = true → (s.line l).st = .quiet → s.enabled .lctl l = true → s.noKey (s.anchor l) = false →
      s.fault.s3 = false → s.runsTo (.quietHoldExpire l) fun t =>
        (t.line l).st = .beacon ∧ (t.line l).hold = 0 ∧ ∀ m, m ≠ l → t.line m = s.line m)

/-- At a head: an ANSWER in BEACON opens HANDSHAKE with the round trip measured and the partner's ID kept; an OFFER without an
ACCEPT is sent again; an ACCEPT with the right proof (or with no pairing asked for) sends GO and opens RANGING, where the
coarse TA lies in range, its block the first whole one a superframe after that GO ends (R134); 16 pilots whose average offset
lies in 0 to 60 samples end ranging with CORR = average − 4 samples and the line waits to join. Said of states in which the
line DSP runs (R297, R298, R312; log 75). -/
def Obligations.HeadHandshake : Prop :=
  ∀ (s : State) (l : Nat), l < 128 → s.dspRuns = true → s.isVHead l = true →
    (∀ (m : List Nat) (rtt : Nat), (s.line l).st = .beacon → isMessage m 56 0x12 = true →
      s.runsTo (.answerRx l m rtt) fun t =>
        (t.line l).st = .handshake ∧ (t.line l).rttc = rtt % 2 ^ 24 ∧ (t.line l).peerId = field m 2 8 ∧
        (t.line l).peerNonce = field m 16 32 ∧ (t.line l).offered = true ∧
        t.g LTRAIN.RANGE.RTTC l = rtt % 2 ^ 24 ∧ ∀ k, k ≠ l → t.line k = s.line k) ∧
    ((s.line l).st = .handshake → (s.line l).goSent = false →
      s.runsTo (.offerRepeat l) fun t =>
        (t.line l).st = .handshake ∧ (s.modemFree l = true → s.sends l (s.offerBytes l) t) ∧
        ∀ k, k ≠ l → t.line k = s.line k) ∧
    (∀ m : List Nat, (s.line l).st = .handshake → (s.line l).offered = true → isMessage m 36 0x14 = true →
      (s.line l).pairReq = false ∨ s.tailProofAtHead l = some (field m 2 32) → (s.line l).taC ≤ 2 ^ 20 - 1 →
      s.runsTo (.acceptRx l m) fun t =>
        (t.line l).st = .ranging ∧ (t.line l).sub = 0 ∧ (t.line l).goSent = true ∧
        (s.noGoWaits l = true → (t.line l).goBlock = s.goBlockAfter replyGap) ∧ (t.line l).pairFails = 0 ∧
        ∀ k, k ≠ l → t.line k = s.line k) ∧
    (∀ (avg : Int) (late : Bool), (s.line l).st = .ranging → (s.line l).sub = 0 → 0 ≤ avg → avg ≤ 960 →
      s.runsTo (.rangingBlockEnd l 16 avg late) fun t =>
        (t.line l).st = .ranging ∧ (t.line l).sub = 1 ∧ (t.line l).ta = ((s.line l).taC + (avg - 64)).toNat ∧
        t.g LTRAIN.RCORR.CORR l = ofSigned 20 (avg - 64) ∧ ∀ k, k ≠ l → t.line k = s.line k)

/-- At a tail: a BEACON heard in QUIET opens HANDSHAKE with the partner's ID, or ends a calibration run PARTNER_ACTIVE (R230); an
OFFER with the right proof (or with none asked for by either end) is accepted; a GO opens RANGING with the coarse TA, cut at
2^20 − 1; a RANGE_OK word ends ranging with TA corrected and the pilots silent; the join's first plain block puts the line in
JOINING. Said of states in which the line DSP runs (R297, R298, R312; log 75). -/
def Obligations.TailHandshake : Prop :=
  ∀ (s : State) (l : Nat), l < 128 → s.dspRuns = true → s.isVTail l = true →
    (∀ m : List Nat, (s.line l).st = .quiet → isMessage m 24 0x11 = true → s.noKey (s.anchor l) = false → (s.calX l).st = 4 →
      s.runsTo (.beaconRx l m) fun t =>
        (t.calX l).st ≠ 4 ∧ t.g LAFE.CAL_STAT.REASON l = 1 ∧ (t.line l).st = .quiet ∧ ∀ k, k ≠ l → t.line k = s.line k) ∧
    (∀ m : List Nat, (s.line l).st = .quiet → isMessage m 24 0x11 = true → s.noKey (s.anchor l) = false → (s.calX l).st ≠ 4 →
      s.runsTo (.beaconRx l m) fun t =>
        (t.line l).st = .handshake ∧ (t.line l).peerId = field m 2 8 ∧ (t.line l).remoteLine = m.getD 10 0 % 128 ∧
        ∀ k, k ≠ l → t.line k = s.line k) ∧
    (∀ m : List Nat, (s.line l).st = .handshake → isMessage m 92 0x13 = true → bit (m.getD 43 0) 0 = false →
      s.g PORT_SEC.PAIR_CTRL.REQUIRED (s.anchor l) = 0 →
      s.runsTo (.offerRx l m) fun t =>
        (t.line l).st = .handshake ∧ (t.line l).proofOk = true ∧ (t.line l).offered = true ∧
        (t.line l).peerNonce = field m 2 32 ∧ (t.line l).rttc = field m 40 3 ∧ (t.line l).remote.isSome = true ∧
        ∀ k, k ≠ l → t.line k = s.line k) ∧
    (∀ m : List Nat, (s.line l).st = .handshake ∨ (s.line l).st = .ranging → (s.line l).proofOk = true →
      isMessage m 8 0x15 = true →
      s.runsTo (.goRx l m) fun t =>
        (t.line l).st = .ranging ∧ (t.line l).sub = 0 ∧ (s.noGoWaits l = true → (t.line l).goBlock = field m 2 4) ∧
        (t.line l).ta = min (2 ^ 20 - 1) (s.line l).taC ∧ ∀ k, k ≠ l → t.line k = s.line k) ∧
    (∀ (w : Nat) (corr : Int) (p : Nat), pilotWordFields (w % 2 ^ 64) = some (0xA5, corr, p) → (s.line l).st = .ranging →
      (s.line l).sub = 0 →
      s.runsTo (.pilotWordRx l w) fun t =>
        (t.line l).st = .ranging ∧ (t.line l).sub = 1 ∧ (t.line l).pilots = false ∧
        (t.line l).ta = min (2 ^ 20 - 1) (((s.line l).taC : Int) + corr).toNat ∧ ∀ k, k ≠ l → t.line k = s.line k) ∧
    ((s.line l).st = .ranging → (s.line l).sub = 1 →
      s.runsTo (.tailJoinDetect l) fun t =>
        (t.line l).st = .joining ∧ (t.line l).sub = 0 ∧ (t.line l).pilots = false ∧ ∀ k, k ≠ l → t.line k = s.line k)

/-- In TRAINING from superframe T: at T + 1 a line with PGA_AUTO takes the gain found; from T + 7 on the line measures; at a head
whose SNR is ready, with a table that carries the overhead channel, the end condition opens LOADING (R140, R143). Said of
states in which the line DSP runs (R297, R298, R312; log 75). -/
def Obligations.TrainingAndLoading : Prop :=
  ∀ (s : State) (l : Nat), l < 128 → s.dspRuns = true → (s.line l).st = .training →
    (s.pageSfc .ltrain l = sfcAdd (s.line l).trainStart 1 → s.g LAFE.CTRL.PGA_AUTO l = 1 → s.settledPga l < 128 →
      s.runsTo (.trainingStep l) fun t => t.g LAFE.CTRL.PGA l = s.settledPga l) ∧
    ((s.line l).sub = 0 → sfcCome (sfcAdd (s.line l).trainStart 7) (s.pageSfc .ltrain l) = true →
      s.pageSfc .ltrain l ≠ sfcAdd (s.line l).trainStart 1 →
      s.runsTo (.trainingStep l) fun t =>
        (t.line l).st = .training ∧ (t.line l).sub = 1 ∧ (t.line l).ohBad = 0 ∧ ∀ k, k ≠ l → t.line k = s.line k) ∧
    (s.isVHead l = true → (s.line l).snrReady = true →
      carriesOverhead (((s.moveLine l .loading).modLine l fun x =>
        { x with hostMask := (s.moveLine l .loading).hostMaskOf l }).loadTable l tones []) = true →
      s.runsTo (.trainingEnd l) fun t =>
        (t.line l).st = .loading ∧ (t.line l).loadSent = true ∧ (t.line l).sendSegs = List.range 11 ∧
        ∀ k, k ≠ l → t.line k = s.line k)

/-- In RETRAIN: from the agreed superframe on, the arrival of the partner's pilots within 8 samples lets a head retrain (its words
end with the block, its sums begun anew); 21 superframes later the head, where the table still carries the overhead word,
sends both new tables, each one ID on; an attempt that runs out of time is over and counts in RETRAINS.FAIL; the end of the
last attempt takes the line to the start state of its mode with RETRAIN_FAIL (R147 to R149). What the DSP brings is said of
states in which it runs, and times that pass of states outside the safe state (R297, R298, R312; log 75). -/
def Obligations.RetrainAttempt : Prop :=
  ∀ (s : State) (l : Nat), l < 128 → s.isVHead l = true → (s.line l).st = .retrain →
    (∀ avg : Int, (s.line l).sub = 0 → (s.line l).rejoin ≠ 0 → sfcCome (s.line l).rejoin (s.pageSfc .ltrain l) = true →
      0 ≤ avg → avg ≤ 128 →
      s.dspRuns = true → s.runsTo (.retrainRejoin l avg) fun t =>
        (t.line l).st = .retrain ∧ (t.line l).sub = 1 ∧ (t.line l).wantWord = none ∧
        (t.line l).trainStart = s.pageSfc .ltrain l ∧ (t.line l).active = true ∧ (t.line l).dying = false ∧
        (t.line l).accNum = [] ∧ (t.line l).errSum = [] ∧
        t.regs = s.regs ∧ t.xe = s.xe ∧ ∀ k, k ≠ l → t.line k = s.line k) ∧
    ((s.line l).sub = 1 → sfcCome (sfcAdd (s.line l).trainStart 21) s.sfc = true →
      carriesOverhead (s.retrainRx l) = true → carriesOverhead (s.retrainTx l) = true →
      s.dspRuns = true → s.runsTo (.retrainLoadSend l) fun t =>
        (t.line l).st = .retrain ∧ (t.line l).sub = 2 ∧ (t.line l).loadSent = true ∧
        (t.line l).newTx = some (((s.line l).txId + 1) % 256, s.retrainTx l) ∧
        (t.line l).newRx = some (((s.line l).rxId + 1) % 256, s.retrainRx l) ∧
        ∀ k, k ≠ l → t.line k = s.line k) ∧
    (s.fault.s3 = false → s.runsTo (.retrainAttemptTimeout l) fun t =>
        (t.line l).st = .retrain ∧ (t.line l).sub = 0 ∧ (t.line l).rejoin = 0 ∧
        (t.line l).newRx = none ∧ (t.line l).newTx = none ∧ (t.line l).sendSegs = [] ∧
        t.g LTRAIN.RETRAINS.FAIL l = satAdd 16 (s.g LTRAIN.RETRAINS.FAIL l) 1 ∧ ∀ k, k ≠ l → t.line k = s.line k) ∧
    (s.fault.s3 = false → s.runsTo (.retrainGiveUp l) fun t =>
        (t.line l).st = (s.startOf l).1 ∧ (t.line l).hold = (s.startOf l).2 ∧
        t.g LTRAIN.STATUS.LAST_REASON l = rsRetrainFail ∧ t.g LTRAIN.STATUS.LAST_FROM l = LineState.retrain.code ∧
        ∀ k, k ≠ l → t.line k = s.line k)

/-- At a port's anchor line: a head whose lines have trained for 43 superframes proposes their entry to SHOWTIME four superframes
on; AUTOBANK's end at an idle head proposes to bank a port whose lines all run (R150); a WAKE without a response for two
superframes is sent again, and after the fourth the port's banked lines retrain with WAKE; with its response the banked lines
go to SHOWTIME (R151, R152); a drop not confirmed for 32 superframes sends the port's running lines to RETRAIN with
DROP_TIMEOUT. Said of states outside the safe state (R312; log 75). -/
def Obligations.PortProposals : Prop :=
  ∀ (s : State) (p : Nat), p < 128 →
    (∀ ls : List Nat, s.isVHead p = true → (s.port p).neg = none → ls ≠ [] →
      ls = ((s.portLines p).filter fun l =>
        decide ((s.line l).st = .retrain) && (s.line l).sub == 2 && sfcCome (sfcAdd (s.line l).trainStart 43) s.sfc) →
      s.fault.s3 = false → s.runsTo (.retrainEntryPropose p) fun t =>
        (t.port p).neg = some { ours := true, start := s.portSfc p, target := sfcAdd s.sfc 4, changes := [.showtimeEntry ls],
                                count := 1, agreed := false, confirmed := false } ∧
        t.regs = s.regs ∧ t.lines = s.lines ∧ ∀ q, q ≠ p → t.port q = s.port q) ∧
    (s.isVHead p = true → s.g LTRAIN.CTRL.AUTOBANK p ≠ 0 → (s.port p).neg = none →
      (∀ l ∈ s.portLines p, (s.line l).st = .showtime) →
      s.fault.s3 = false → s.runsTo (.autobankExpire p) fun t =>
        (t.port p).neg = some { ours := true, start := s.portSfc p, target := sfcAdd (s.portSfc p) 4, changes := [.bank],
                                count := 1, agreed := false, confirmed := false } ∧
        t.regs = s.regs ∧ t.lines = s.lines ∧ ∀ q, q ≠ p → t.port q = s.port q) ∧
    ((s.port p).waking = 1 → sfcCome (sfcAdd (s.port p).wakeSfc 2) (s.portSfc p) = true → (s.port p).wakeTries < 3 →
      s.fault.s3 = false → s.runsTo (.wakeNoResponse p) fun t =>
        t.port p = { s.port p with wakeTries := (s.port p).wakeTries + 1, wakeSfc := s.portSfc p } ∧
        t.regs = s.regs ∧ t.lines = s.lines ∧ ∀ q, q ≠ p → t.port q = s.port q) ∧
    ((s.port p).waking = 1 → sfcCome (sfcAdd (s.port p).wakeSfc 2) (s.portSfc p) = true → (s.port p).wakeTries = 3 →
      s.fault.s3 = false → s.runsTo (.wakeNoResponse p) fun t =>
        ∀ l ∈ s.portLines p, (s.line l).st = .banked →
          (t.line l).st = .retrain ∧ t.g LTRAIN.STATUS.LAST_REASON l = rsWake) ∧
    ((s.port p).waking = 2 ∨ (s.port p).waking = 3 → sfcCome (sfcAdd (s.port p).wakeSfc 2) (s.portSfc p) = true →
      s.fault.s3 = false → s.runsTo (.wakeResume p) fun t =>
        (t.port p).waking = 0 ∧ ∀ l ∈ s.portLines p, (s.line l).st = .banked → (t.line l).st = .showtime) ∧
    (∀ since : Nat, (s.port p).dropSince = some since → sfcCome (sfcAdd since 32) (s.portSfc p) = true →
      s.fault.s3 = false → s.runsTo (.portDropTimeout p) fun t =>
        ∀ l ∈ s.portLines p, (s.line l).st = .showtime →
          (t.line l).st = (if (s.line l).frozen = true then .showtime else .retrain))

/-- A packet that is due and may go out on an idle REACH line is sent whole: it is on the line, its OPEN bit announces a window,
RXSTATE shows TX and TX_PKT counts (R157, R170, R176). At its last sample the line sends nothing more and a POLL awaits its
reply (R172), where no post waits for its end; 20 µs later the receiver listens again where no message waits, which changes
RXSTATE alone. What the DSP brings is said of states in which it runs, and times that pass of states outside the safe state
(R297, R298, R312; log 75). -/
def Obligations.ReachTransmits : Prop :=
  ∀ (s : State) (l : Nat), l < 128 →
    (∀ c : ReachChoice, s.reachIdle l = true →
      (s.draw.2.reachDue l s.draw.1).head? = some c →
      s.runsTo (.reachTxStart l) fun t =>
        (t.reachX l).tx = some c.pkt ∧ (t.reachX l).opening = c.pkt.opens ∧ t.g LREACH.STATUS.RXSTATE l = 5 ∧
        t.g LREACH.TX_PKT.COUNT l = satAdd 32 (s.g LREACH.TX_PKT.COUNT l) 1 ∧
        t.lines = s.lines ∧ ∀ k, k ≠ l → t.reachX k = s.reachX k) ∧
    (∀ p : ReachPkt, (s.reachX l).tx = some p → (s.reachX l).held = [] →
      s.dspRuns = true → s.runsTo (.reachTxEnd l) fun t =>
        (t.reachX l).tx = none ∧ (t.reachX l).chirps = [] ∧
        (p.kind = 1 → (t.reachX l).await = (s.reachX l).again ∧ (t.reachX l).again = none)) ∧
    (s.g LREACH.STATUS.RXSTATE l = 5 → (s.reachX l).tx = none → (s.reachX l).due = [] →
      s.dspRuns = true → s.runsTo (.blankingEnd l) fun t =>
        t.g LREACH.STATUS.RXSTATE l = 0 ∧ s.onlyReg LREACH.STATUS.RXSTATE l 0 t ∧ t.reach = s.reach ∧ t.lines = s.lines)

/-- A receiver that listens takes the preamble that its windows hold, under the profile it listens with (R165); windows that hold
our network's Turn, Nets and Resume make it SYNCED, and the next window begins HEADER; a header that passes opens PAYLOAD with
the packet's fields, and the payload's end frees the receiver, where no post and no message waits for it, counting the packet
in RX_OK where its length and CRC-32 are right and in CRC_FAIL otherwise (R166, R167). A preamble that is no stronger than the
packet whose payload is being received by CAPMARGIN leaves that reception alone and counts as a collision (R169). Said of
states in which the line DSP runs (R297, R298, R312; log 75). -/
def Obligations.ReachReceives : Prop :=
  ∀ (s : State) (l : Nat), l < 128 → s.dspRuns = true →
    (∀ (ws : List Window) (bin : Nat) (power : Int) (shift : Nat), s.modemHears l = true → (s.reachX l).rx = none →
      s.preambleOf l ws = some (bin, power) →
      s.runsTo (.preambleDetected l ws shift) fun t =>
        (t.reachX l).rx = some { bin := bin, power := power, sf := s.reachSf l, bw := s.reachBw l,
                                 searchCr := (s.reachNow l).2.2, eps := s.searchEps l } ∧
        (t.reachX l).beaconOpen = false ∧
        t.g LREACH.STATUS.RXSTATE l = 1 ∧ t.lines = s.lines ∧ ∀ k, k ≠ l → t.reachX k = s.reachX k) ∧
    (∀ (r : ReachRx) (ws : List Window) (bin : Nat) (power : Int) (shift : Nat), s.modemHears l = true →
      (s.reachX l).rx = some r → s.preambleOf l ws = some (bin, power) →
      s.g LREACH.STATUS.RXSTATE l = 4 → power < r.power + 100 * (s.g LREACH.DETECT.CAPMARGIN l : Int) →
      s.runsTo (.preambleDetected l ws shift) fun t =>
        t.reach = s.reach ∧ t.lines = s.lines ∧ t.g LREACH.STATUS.RXSTATE l = 4 ∧
        t.g LREACH.COLLIDED.COUNT l = satAdd 32 (s.g LREACH.COLLIDED.COUNT l) 1) ∧
    (∀ (x : ReachRx) (ws : List Window) (r : SyncReport), (s.reachX l).rx = some x → s.g LREACH.STATUS.RXSTATE l = 1 →
      s.syncGood l x ws = true →
      s.runsTo (.syncConfirm l ws r) fun t =>
        (∃ y : ReachRx, (t.reachX l).rx = some y ∧ y.eps = r.eps ∧ y.snr = r.snr ∧ y.bin = x.bin ∧ y.power = x.power ∧
          y.sec * 10 ^ 9 + y.ns = s.time.sec * 10 ^ 9 + s.time.ns - r.ago) ∧
        t.g LREACH.STATUS.RXSTATE l = 2 ∧ t.lines = s.lines ∧ ∀ k, k ≠ l → t.reachX k = s.reachX k) ∧
    (∀ (x : ReachRx) (ws : List Window) (r : SyncReport), (s.reachX l).rx = some x → s.g LREACH.STATUS.RXSTATE l = 2 →
      s.runsTo (.syncConfirm l ws r) fun t =>
        t.g LREACH.STATUS.RXSTATE l = 3 ∧ s.onlyReg LREACH.STATUS.RXSTATE l 0 t ∧ t.reach = s.reach ∧ t.lines = s.lines) ∧
    (∀ (x : ReachRx) (w : Nat), (s.reachX l).rx = some x → s.g LREACH.STATUS.RXSTATE l = 3 → headerPasses w = true →
      s.runsTo (.headerDone l w) fun t =>
        (t.reachX l).rx = some { x with cr := bits w 19 2, addr := bits w 15 4, kind := bits w 12 3, seq := bits w 8 3,
                                        len := bits w 21 11 + 1 } ∧
        t.g LREACH.STATUS.RXSTATE l = 4 ∧ t.lines = s.lines ∧ ∀ k, k ≠ l → t.reachX k = s.reachX k) ∧
    (∀ (x : ReachRx) (bytes : List Nat), (s.reachX l).rx = some x → s.g LREACH.STATUS.RXSTATE l = 4 →
      (s.reachX l).held = [] → (s.reachX l).due = [] →
      s.runsTo (.packetRxDone l bytes) fun t => (t.reachX l).rx = none ∧ t.g LREACH.STATUS.RXSTATE l = 0 ∧
        (if bytes.length = x.len + 4 ∧ crc32 (byteBits (bytes.take x.len)) = field bytes x.len 4 then
           t.g LREACH.RX_OK.COUNT l = satAdd 32 (s.g LREACH.RX_OK.COUNT l) 1
         else t.g LREACH.CRC_FAIL.COUNT l = satAdd 32 (s.g LREACH.CRC_FAIL.COUNT l) 1))

/-- A poll interval's end makes a POLL due; a reply window that ends without a detection repeats the POLL while repeats are left
(R172, R176). An alarm window falls due on a line that holds none, opens after its OPEN packet and closes, its alarms' ACKs
falling due (R173 to R175). A good record in a host frame with a good FCS, for an enabled endpoint, is queued (R177, R271);
the wider mask in force ends the wait for it (R179). What the DSP brings is said of states in which it runs, and times that
pass of states outside the safe state (R297, R298, R312; log 75). -/
def Obligations.ReachWindowsAndPolls : Prop :=
  ∀ (s : State) (l : Nat), l < 128 →
    (∀ ep : Nat, ep < 16 → (s.line l).st = .reach → s.g LREACH.EP_CFG.ENABLE l ep = 1 →
      s.g LREACH.EP_CFG.POLL_IVL l ep ≠ 0 → ep ∉ (s.reachX l).polls →
      s.fault.s3 = false → s.runsTo (.pollDue l ep) fun t =>
        t.reachX l = { s.reachX l with polls := (s.reachX l).polls ++ [ep] } ∧ t.regs = s.regs ∧ t.lines = s.lines ∧
        ∀ k, k ≠ l → t.reachX k = s.reachX k) ∧
    (∀ (p : ReachPkt) (n : Nat), (s.reachX l).await = some (p, n + 1) → (s.reachX l).rx = none →
      s.fault.s3 = false → s.runsTo (.replyTimeout l) fun t =>
        (t.reachX l).await = none ∧ (t.reachX l).again = some (p, n) ∧
        t.g LREACH.NO_REPLY.COUNT l = satAdd 32 (s.g LREACH.NO_REPLY.COUNT l) 1 ∧ t.lines = s.lines ∧
        ∀ k, k ≠ l → t.reachX k = s.reachX k) ∧
    ((s.line l).st = .reach → s.g LREACH.ALARM.IVL l ≠ 0 → (s.reachX l).opening = false →
      s.g LREACH.STATUS.WINDOW l = 0 → (s.reachX l).acks = [] → (s.reachX l).alarms = [] →
      s.fault.s3 = false → s.runsTo (.alarmWindowDue l) fun t =>
        t.reachX l = { s.reachX l with windowDue := true } ∧ t.regs = s.regs ∧ t.lines = s.lines ∧
        ∀ k, k ≠ l → t.reachX k = s.reachX k) ∧
    ((s.reachX l).opening = true → (s.reachX l).tx = none →
      s.dspRuns = true → s.runsTo (.alarmWindowOpen l) fun t =>
        (t.reachX l).opening = false ∧ (t.reachX l).windows = (s.reachX l).windows + 1 ∧
        t.g LREACH.STATUS.WINDOW l = 1 ∧ t.lines = s.lines ∧ ∀ k, k ≠ l → t.reachX k = s.reachX k) ∧
    (s.g LREACH.STATUS.WINDOW l = 1 → (s.reachX l).rx = none →
      s.fault.s3 = false → s.runsTo (.alarmWindowClose l) fun t =>
        t.reachX l = { s.reachX l with acks := (s.reachX l).acks ++ (s.reachX l).alarms, alarms := [] } ∧
        t.g LREACH.STATUS.WINDOW l = 0 ∧ t.lines = s.lines ∧ ∀ k, k ≠ l → t.reachX k = s.reachX k) ∧
    (∀ frame fcs bytes : List Nat, recordOf frame fcs = some bytes → (s.line l).st = .reach → bytes.getD 0 0 % 8 ≤ 1 →
      0 < field bytes 2 2 → field bytes 2 2 ≤ 2048 → 16 + field bytes 2 2 ≤ bytes.length →
      s.g LREACH.EP_CFG.ENABLE l (bytes.getD 0 0 / 16 % 16) ≠ 0 → (s.reachX l).used + 16 + field bytes 2 2 ≤ 32768 →
      s.fault.s3 = false → s.runsTo (.reachRecordRx l frame fcs) fun t =>
        (t.reachX l).queue = (s.reachX l).queue ++
          [{ addr := bytes.getD 0 0 / 16 % 16, kind := bytes.getD 0 0 % 8, urgent := bit (bytes.getD 1 0) 0,
             payload := (bytes.drop 16).take (field bytes 2 2) }] ∧
        t.g LREACH.STATUS.QFREE l = (32768 - (t.reachX l).used) / 64 ∧ t.lines = s.lines ∧
        ∀ k, k ≠ l → t.reachX k = s.reachX k) ∧
    ((s.reachX l).maskWait = true → (s.line l).st = .reach → s.bandReady l (s.reachWidest l) = true →
      s.fault.s3 = false → s.runsTo (.reachMaskWaitEnd l) fun t =>
        t.reachX l = { s.reachX l with maskWait := false } ∧ t.g LREACH.STATUS.MASK_WAIT l = 0 ∧ t.lines = s.lines ∧
        ∀ k, k ≠ l → t.reachX k = s.reachX k)

/-- A line's monitor chain: an armed synchronising reset whose moment comes restarts the chain, settles for the preset's count and
ends a fade (R188, R189, R191). With the ADC code that completes an output sample: a settling chain has one sample less to go,
a settled one of an enabled page sets VALID (with ENABLE = 0 VALID stays, R189); a fade comes one sample further, the 64th
ends it or starts the queued one back (R190, R191); in STEP the sample, the mean of 2,048 mixer outputs (R185), enters the
detectors, and the last of an RMS block shows its mean (R193). The other lines' chains keep all they have. Said of states in
which the line DSP runs (R297, R298, R312; log 75). -/
def Obligations.MonitorChain : Prop :=
  ∀ (s : State) (l : Nat), l < 128 → s.dspRuns = true →
    (∀ (a : SyncArm) (elapsed : Nat), (s.monX l).armed = some a → s.chainOn l = true → s.syncMoment a elapsed = true →
      s.runsTo (.syncResetLand l elapsed) fun t =>
        (t.monX l).armed = none ∧ (t.monX l).valid = false ∧ (t.monX l).settle = (if s.chainPreset l = 4 then 1 else 64) ∧
        (t.monX l).bank = 0 ∧ (t.monX l).active = (s.monX l).active ∧ (t.monX l).peak = 0 ∧ (t.monX l).env = 0 ∧
        t.g LMON.RMS.BLOCKS l = 0 ∧ t.lines = s.lines ∧ ∀ k, k ≠ l → t.monX k = s.monX k) ∧
    (∀ code : Int, s.lastTick l = true →
      (s.runsTo (.monitorSettled l [code]) fun t =>
        (if (s.monX l).settle = 0 ∧ s.enabled .lmon l = true then (t.monX l).settle = 0 ∧ (t.monX l).valid = true
         else (t.monX l).settle = (s.monX l).settle - 1 ∧ (t.monX l).valid = (s.monX l).valid) ∧
        (t.monX l).ticks = 0 ∧ t.lines = s.lines ∧ ∀ k, k ≠ l → t.monX k = s.monX k) ∧
      ((s.monX l).bank ≠ 0 →
        s.runsTo (.fadeDone l [code]) fun t =>
          (if (s.monX l).fade < 63 then
             (t.monX l).fade = (s.monX l).fade + 1 ∧ (t.monX l).bank = (s.monX l).bank ∧
               (t.monX l).active = (s.monX l).active
           else if (s.monX l).bank = 1 then
             (t.monX l).fade = 0 ∧ (t.monX l).bank = 0 ∧ (t.monX l).active = (s.monX l).active
           else (t.monX l).fade = 0 ∧ (t.monX l).bank = 1 ∧ (t.monX l).active = 1 - (s.monX l).active) ∧
          t.lines = s.lines ∧ ∀ k, k ≠ l → t.monX k = s.monX k)) ∧
    (∀ code : Int, s.lastTick l = true → s.chainPreset l = 4 → (s.monX l).settle = 0 → s.enabled .lmon l = true →
      ((s.monX l).count + 1 < s.rmsLength l →
        s.runsTo (.detectorOver l [code]) fun t =>
          (t.monX l).count = (s.monX l).count + 1 ∧ (t.monX l).sum = (s.monX l).sum + (s.stepOut l code).normSq ∧
          (s.stepOut l code).normSq ≤ (t.monX l).peak ∧
          t.g LMON.PEAK.LEVEL l = dbfsLevel (t.monX l).peak % 2 ^ 16 ∧ t.lines = s.lines ∧
          ∀ k, k ≠ l → t.monX k = s.monX k) ∧
      (s.rmsLength l ≤ (s.monX l).count + 1 →
        s.runsTo (.rmsBlockEnd l [code]) fun t =>
          (t.monX l).count = 0 ∧ (t.monX l).sum = 0 ∧
          t.g LMON.RMS.LEVEL l = dbfsLevel (((s.monX l).sum + (s.stepOut l code).normSq) /
            (((s.monX l).count + 1 : Nat) : Rat)) % 2 ^ 16 ∧
          t.g LMON.RMS.BLOCKS l = (s.g LMON.RMS.BLOCKS l + 1) % 2 ^ 16 ∧ t.lines = s.lines ∧
          ∀ k, k ≠ l → t.monX k = s.monX k))

/-- In STEP, with the ADC code that completes a valid output sample: an armed capture whose trigger holds from the start, or came
with a reset, starts with that sample (R195), the preset, owner and frequency of that moment kept; the last sample of a
capture lands all of them as the capture area, with reason 0 and a new SEQ, and no request is left in progress. Without the
trigger a capture ends after TMO with reason 1 and no sample (R196). What the DSP brings is said of states in which it runs,
and times that pass of states outside the safe state (R297, R298, R312; log 75). -/
def Obligations.Captures : Prop :=
  ∀ (s : State) (l : Nat) (c : Capture), l < 128 → (s.monX l).cap = some c →
    (∀ code : Int, s.lastTick l = true → s.chainPreset l = 4 → (s.monX l).settle = 0 → s.enabled .lmon l = true →
      (c.started = false → c.trig = 0 ∨ (c.trig = 1 ∧ c.synced = true) → c.taken.length + 1 < c.count →
        s.dspRuns = true → s.runsTo (.captureTrigger l [code]) fun t =>
          (∃ ns sec, (t.monX l).cap = some { c with started := true, preset := 4, owner := (s.monX l).owner,
                                                    nco := s.chainNco l, ns := ns, sec := sec,
                                                    taken := c.taken ++ [sampleWord (s.stepOut l code)] }) ∧
          t.lines = s.lines ∧ ∀ k, k ≠ l → t.monX k = s.monX k) ∧
      (c.started = true → c.taken.length + 1 = c.count → c.count ≤ 512 →
        s.dspRuns = true → s.runsTo (.captureDone l [code]) fun t =>
          (t.monX l).cap = none ∧ t.g LMON.CAP_STAT.REASON l = 0 ∧ t.g LMON.CAP_STAT.N l = c.count ∧
          (∀ i, i < 512 →
            t.g LMON.CAP.I l i = bits ((c.taken ++ [sampleWord (s.stepOut l code)]).getD i 0) 16 16 ∧
            t.g LMON.CAP.Q l i = bits ((c.taken ++ [sampleWord (s.stepOut l code)]).getD i 0) 0 16) ∧
          t.g (HDR.PAGE_STAT.BUSY .lmon) l = 0 ∧
          t.g (HDR.RESULT_SEQ.SEQ .lmon) l = nextSeq (s.g (HDR.RESULT_SEQ.SEQ .lmon) l) % 2 ^ 16 ∧
          t.lines = s.lines ∧ ∀ k, k ≠ l → t.monX k = s.monX k)) ∧
    (c.started = false →
      s.fault.s3 = false → s.runsTo (.captureTimeout l) fun t =>
        (t.monX l).cap = none ∧ t.g LMON.CAP_STAT.REASON l = 1 ∧ t.g LMON.CAP_STAT.N l = 0 ∧
        t.g (HDR.PAGE_STAT.BUSY .lmon) l = 0 ∧ t.lines = s.lines ∧ ∀ k, k ≠ l → t.monX k = s.monX k)

/-- A second of POSTMARK ends: the seconds advance and the fraction reads 0; PPS_OUT rises where it is enabled; a V line that was
in SHOWTIME or BANKED at no time of it counts an unavailable second and every other line none (R197); a lockout's remaining
seconds fall by one. -/
def Obligations.PostmarkSeconds : Prop :=
  ∀ s : State, s.runsTo .postmarkSecond fun t =>
    t.time.sec = (s.time.sec + 1) % 2 ^ 48 ∧ t.time.ns = 0 ∧ t.time.frac = 0 ∧
    t.time.ppsOut = (s.g TIMEBASE.CTRL.PPS_OUT_EN == 1) ∧
    (∀ c, c < 3 → t.g SESSION.STAT.LOCK_LEFT c = (s.g SESSION.STAT.LOCK_LEFT c - 1) % 2 ^ 8) ∧
    ∀ l, l < 128 →
      t.line l = { s.line l with upSec := decide ((s.line l).st = .showtime) || decide ((s.line l).st = .banked) } ∧
      t.g LMON.UAS_LINE.COUNT l =
        (if s.isV l = true ∧ (s.line l).upSec = false ∧ (s.line l).st ≠ .showtime ∧ (s.line l).st ≠ .banked then
          satAdd 32 (s.g LMON.UAS_LINE.COUNT l) 1 else s.g LMON.UAS_LINE.COUNT l)

/-- A reflectometry run that waits for the cluster's slot takes it when it is free, and the slot shows the run's line (R202,
R228); without it the run ends with LOAD_FAIL. A run that ends with another reason than OK leaves no run on the line, shows
that reason (PARTNER_ACTIVE over −70 dBm, R202), and its result is complete, with no request in progress (R48, R203); a
completed run ends with OK. -/
def Obligations.Reflectometry : Prop :=
  ∀ (s : State) (l : Nat) (r : ReflX), l < 128 → s.refl.find l = some r →
    (r.step = 2 → s.slotKind (l / 32) = 0 →
      s.runsTo (.reflectSlotGrant l) fun t =>
        (∃ ns sec, t.refl.find l = some { r with step := 4, ns := ns, sec := sec }) ∧
        t.g CALMGR.SLOT.KIND 0 (l / 32) = 3 ∧ t.g CALMGR.SLOT.LINE 0 (l / 32) = l ∧ t.lines = s.lines) ∧
    (r.step = 2 →
      s.runsTo (.reflectSlotTimeout l) fun t =>
        t.refl.find l = none ∧ t.g LDIAG.RSTAT.REASON l = 4 ∧ t.g (HDR.PAGE_STAT.BUSY .ldiag) l = 0 ∧
        t.lines = s.lines ∧ ∀ k, k ≠ l → t.refl.find k = s.refl.find k) ∧
    (∀ (reason : Nat) (run : ReflectRun), reason ≠ 0 ∨ -700 < run.power → reason < 16 →
      reason = 2 ∨ -700 < run.power ∨ 4 ≤ r.step →
      s.runsTo (.reflectDone l reason run) fun t =>
        t.refl.find l = none ∧ t.g LDIAG.RSTAT.REASON l = (if -700 < run.power then 2 else reason) ∧ t.g (HDR.PAGE_STAT.BUSY .ldiag) l = 0 ∧
        t.g (HDR.RESULT_SEQ.SEQ .ldiag) l = nextSeq (s.g (HDR.RESULT_SEQ.SEQ .ldiag) l) % 2 ^ 16 ∧
        t.lines = s.lines ∧ ∀ k, k ≠ l → t.refl.find k = s.refl.find k) ∧
    (∀ run : ReflectRun, 4 ≤ r.step → run.power ≤ -700 →
      s.runsTo (.reflectDone l 0 run) fun t =>
        t.refl.find l = none ∧ t.g LDIAG.RSTAT.REASON l = 0 ∧ t.g LDIAG.RSTAT.BAND l = r.band % 2 ^ 2 ∧
        t.g (HDR.PAGE_STAT.BUSY .ldiag) l = 0 ∧ t.lines = s.lines)

/-- TXCLR_N low sets TXCLR and ends every reflectometry run, high clears it (R216). A driver over its current latches OC, and its
line is FAULTED unless the source is ignored (R217). With a confirmed change of range for the next superframe, its last symbol
clears the driver (R220). A measurement of REFIN is shown, and REFIN_OK says whether it lies within one per cent of 1.200 V,
24000 (R225). -/
def Obligations.AnalogFrontEnd : Prop :=
  ∀ s : State,
    (s.g CALMGR.STAT.TXCLR ≠ 1 →
      s.runsTo .txclrAssert fun t => t.g CALMGR.STAT.TXCLR = 1 ∧ ∀ l, l < 128 → t.refl.find l = none) ∧
    (s.g CALMGR.STAT.TXCLR ≠ 0 →
      s.runsTo .txclrRelease fun t => t.g CALMGR.STAT.TXCLR = 0 ∧ t.lines = s.lines ∧ t.reach = s.reach ∧ t.refl = s.refl) ∧
    (∀ l, l < 128 →
      s.runsTo (.driverOvercurrent l) fun t =>
        t.g LAFE.STAT.OC l = 1 ∧ (t.line l).ocAt = some (s.time.sec * 10 ^ 9 + s.time.ns) ∧
        (s.fault.ignored.contains (128 + l) = false → (t.line l).st = .faulted)) ∧
    (∀ (l d : Nat) (n : Neg), l < 128 → (s.port (s.anchor l)).neg = some n → n.ours = true → n.confirmed = true →
      n.withdrawn = false → n.target = sfcAdd (s.portSfc (s.anchor l)) 1 → .afe l true d ∈ n.changes →
      s.runsTo (.rangeSwitchSymbol l) fun t =>
        t.line l = { s.line l with rangeSwitch := true } ∧ t.regs = s.regs ∧ ∀ k, k ≠ l → t.line k = s.line k) ∧
    (∀ level : Nat, level < 2 ^ 16 →
      s.runsTo (.refinMeasure level) fun t =>
        t.g CALMGR.REFIN.LEVEL = level ∧ t.lines = s.lines ∧
        (23760 ≤ level ∧ level ≤ 24240 → t.g CALMGR.STAT.REFIN_OK = 1) ∧
        (level < 23760 ∨ 24240 < level → t.g CALMGR.STAT.REFIN_OK ≠ 1))

/-- On a quad in STANDARD mode: a negotiation that completes shows the highest common speed, the resolved role and the partner's
ability words (R238, R241; the resolution's rule is the model's, log 113); the link comes up at the resolved speed and
alternation ends (R240, R242); a lost link counts and begins the negotiation anew (R246); a fast retrain counts, and one that
fails drops the link; low-power idle shows in TX_LPI and RX_LPI, a wake error counts (R245, R249). Said of states in which the
line DSP runs (R297, R298, R312; log 75). -/
def Obligations.StandardQuads : Prop :=
  ∀ (s : State) (l : Nat), l < 128 → (s.line (quadHead l)).st = .standard → s.dspRuns = true →
    (∀ p : PartnerAbility, s.g LSTD.STATUS.LINK (quadHead l) ≠ 1 →
      s.runsTo (.autonegComplete l p) fun t =>
        t.g LSTD.STATUS.AN_DONE (quadHead l) = 1 ∧
        t.g LSTD.STATUS.SPEED (quadHead l) = commonSpeed ((s.stdX (quadHead l)).adv % 32)
          (if p.parallel = true then p.speeds % 2 else p.speeds) ∧
        t.g LSTD.STATUS.MASTER (quadHead l) =
          bnat (resolvedMaster p && decide (2 ≤ t.g LSTD.STATUS.SPEED (quadHead l))) ∧
        t.g LSTD.LP_ABIL.LP_BASE (quadHead l) = p.base % 2 ^ 16 ∧ t.g LSTD.LP_MGBT.STAT (quadHead l) = p.mgbt % 2 ^ 16 ∧
        (∀ k, quadHead k ≠ quadHead l → t.stdX k = s.stdX k) ∧ t.lines = s.lines) ∧
    (s.g LSTD.STATUS.AN_DONE (quadHead l) = 1 → s.g LSTD.STATUS.SPEED (quadHead l) ≠ 0 →
      s.g LSTD.STATUS.LINK (quadHead l) = 0 →
      s.runsTo (.stdLinkUp l) fun t =>
        t.g LSTD.STATUS.LINK (quadHead l) = 1 ∧ (t.stdX (quadHead l)).beacon = false ∧ t.lines = s.lines) ∧
    (∀ pcs : Nat, s.g LSTD.STATUS.LINK (quadHead l) = 1 →
      s.runsTo (.stdLinkDown l pcs) fun t =>
        t.g LSTD.STATUS.LINK (quadHead l) = 0 ∧ t.g LSTD.STATUS.AN_DONE (quadHead l) = 0 ∧
        t.g LSTD.LINK_DOWN.COUNT (quadHead l) = satAdd 32 (s.g LSTD.LINK_DOWN.COUNT (quadHead l)) 1 ∧
        t.g LSTD.PCS_ERR.COUNT (quadHead l) = satAdd 32 (s.g LSTD.PCS_ERR.COUNT (quadHead l)) pcs ∧ t.lines = s.lines) ∧
    (∀ (ok : Bool) (pcs : Nat), s.g LSTD.STATUS.LINK (quadHead l) = 1 → s.g LSTD.STATUS.FR (quadHead l) = 1 →
      s.runsTo (.stdFastRetrain l ok pcs) fun t =>
        t.g LSTD.STATUS.LINK (quadHead l) = bnat ok ∧
        t.g LSTD.FR_COUNT.COUNT (quadHead l) = satAdd 32 (s.g LSTD.FR_COUNT.COUNT (quadHead l)) 1 ∧ t.lines = s.lines) ∧
    (∀ enter : Bool, s.g LSTD.STATUS.LINK (quadHead l) = 1 → s.g LSTD.STATUS.EEE (quadHead l) = 1 →
      s.runsTo (.lpiEnter l enter) fun t =>
        t.g LSTD.STATUS.TX_LPI (quadHead l) = bnat enter ∧ t.g LSTD.STATUS.RX_LPI (quadHead l) = s.g LSTD.STATUS.RX_LPI (quadHead l) ∧
        (∀ k, quadHead k ≠ quadHead l → t.stdX k = s.stdX k) ∧ t.lines = s.lines) ∧
    (∀ enter err : Bool, s.g LSTD.STATUS.LINK (quadHead l) = 1 → s.g LSTD.STATUS.EEE (quadHead l) = 1 →
      s.runsTo (.partnerLpi l enter err) fun t =>
        t.g LSTD.STATUS.RX_LPI (quadHead l) = bnat enter ∧ t.g LSTD.STATUS.TX_LPI (quadHead l) = s.g LSTD.STATUS.TX_LPI (quadHead l) ∧
        (err = true → t.g LSTD.WAKE_ERR.COUNT (quadHead l) = satAdd 32 (s.g LSTD.WAKE_ERR.COUNT (quadHead l)) 1) ∧
        t.std = s.std ∧ t.lines = s.lines)

/-- On a quad in STANDARD mode that alternates, an AN window's end opens a beacon window and the beacon window's end closes it; a
qualified burst of the partner stops alternation and shows in FLP_SEEN; 3 s without one, with the link down, let it go on
(R242). The other quads keep all they have. Said of states in which the line DSP runs (R297, R298, R312; log 75). -/
def Obligations.BeaconAlternation : Prop :=
  ∀ (s : State) (l : Nat), l < 128 → (s.line (quadHead l)).st = .standard → s.dspRuns = true →
    (s.alternates (quadHead l) = true →
      s.runsTo (.anWindowEnd l) fun t =>
        t.stdX l = { s.stdX l with beacon := true } ∧ ∀ k, quadHead k ≠ quadHead l → t.stdX k = s.stdX k) ∧
    (s.runsTo (.beaconWindowEnd l) fun t =>
        t.stdX l = { s.stdX l with beacon := false } ∧ t.regs = s.regs ∧ t.lines = s.lines ∧
        ∀ k, quadHead k ≠ quadHead l → t.stdX k = s.stdX k) ∧
    (s.runsTo (.flpQualified l) fun t =>
        t.stdX l = { s.stdX l with halted := true, beacon := false } ∧ t.g LSTD.STATUS.FLP_SEEN (quadHead l) = 1 ∧
        t.lines = s.lines ∧ ∀ k, quadHead k ≠ quadHead l → t.stdX k = s.stdX k) ∧
    (s.g LSTD.STATUS.LINK (quadHead l) = 0 →
      s.runsTo (.altResumeTimeout l) fun t =>
        t.stdX l = { s.stdX l with halted := false } ∧ t.lines = s.lines ∧
        ∀ k, quadHead k ≠ quadHead l → t.stdX k = s.stdX k)

/-- A started PLL locks; with SPLL locked the control domain runs on it (R278, R279, R285). A PLL that loses lock is no longer
locked; where SPLL clocked the control domain, the domain moves to KOSC when that is good and else, with no hold, to HOSC
(R279). The missing edges of REFCLK unlock every PLL (R277); a good REFCLK lets SPLL start; its absence for 10 ms is recorded
and shown. -/
def Obligations.PllsAndReference : Prop :=
  ∀ s : State,
    (∀ p, p < 7 → s.clk.ref = .good → p ∈ s.clk.started → s.locked p = false →
      s.runsTo (.pllLock p) fun t => t.locked p = true ∧ (p = 0 → t.clk.csrc = .spll ∧ t.clk.running = true ∧ 4 ≤ t.clk.coldStep)) ∧
    (∀ p, p < 7 → s.locked p = true →
      s.runsTo (.pllUnlock p) fun t => t.locked p = false ∧
        (p = 0 → s.clk.csrc = .spll → s.clk.running = true → s.clk.kosc = .good → t.clk.csrc = .kosc) ∧
        (p = 0 → s.clk.csrc = .spll → s.clk.running = true → s.clk.kosc = .bad → s.clk.holdKosc = false → t.clk.csrc = .hosc)) ∧
    (s.spllUp = true → s.clk.running = true → s.clk.csrc = .spll → s.clk.kosc = .good →
      s.runsTo .spllMonitorTrip fun t => t.clk.spllTripped = true ∧ t.clk.csrc = .kosc ∧ t.locked 0 = true) ∧
    (∀ c, c < 4 → 2 + c ∈ s.clk.started → s.locked (2 + c) = false → s.fault.isolated.contains (32 + c) = false →
      s.fault.ignored.contains (32 + c) = false →
      s.runsTo (.cpllRelockTimeout c) fun t => t.fault.isolated.contains (32 + c) = true ∧ 2 + c ∉ t.clk.started) ∧
    (s.runsTo .refclkTrip fun t =>
        t.clk.ref = .absent ∧ (∀ p, p < 7 → t.locked p = false) ∧
        t.g CLOCKS.REFJUDGE.TRIPS = satAdd 16 (s.g CLOCKS.REFJUDGE.TRIPS) 1) ∧
    (s.clk.resetHeld = false → s.pwr.state ≤ 1 →
      s.runsTo .refclkGood fun t => t.clk.ref = .good ∧ 0 ∈ t.clk.started ∧ t.lines = s.lines) ∧
    (s.clk.ref ≠ .good → s.clk.absentJudged = false → s.clk.coldStep ≠ 0 →
      s.runsTo .refclkAbsentTimeout fun t => t.clk.absentJudged = true ∧ 5 ∈ t.fault.shown ∧ t.lines = s.lines)

/-- A window of KOSC's count shows its deviation and judges it: a count from 91,797 to 103,516 is good at a start, one outside is
bad, and four passes in a row make a bad one good again (R276); no oscillation in time is bad; the end of the hold leaves
KOSC. A trim window moves the code one step against a deviation beyond 0.1 % (R275). A hung multiplexer counts, and a hung
CMUX leaves FREQMON idle (R282). A FREQMON gate that ends gives the count and the frequency, with OK; a stopped reference ends
it with its reason (R283). -/
def Obligations.Oscillators : Prop :=
  ∀ s : State,
    (∀ count, s.clk.kosc = .starting →
      s.runsTo (.koscWindowEnd count) fun t =>
        t.clk.kosc = (if 91797 ≤ count ∧ count ≤ 103516 then .good else .bad) ∧
        t.g CLOCKS.KOSC_DEV.DEV = ofSigned 16 (clampInt (-32768) 32767 (((4 * (count : Int) - 390625) * 16 * 2 + 625) / 1250))) ∧
    (∀ count, s.clk.kosc = .bad → 91797 ≤ count → count ≤ 103516 →
      s.runsTo (.koscWindowEnd count) fun t =>
        (s.clk.koscPasses < 3 → t.clk = { s.clk with koscPasses := s.clk.koscPasses + 1 }) ∧
        (3 ≤ s.clk.koscPasses → t.clk.kosc = .good)) ∧
    (s.clk.kosc = .starting → s.runsTo .koscStartTimeout fun t => t.clk.kosc = .bad ∧ t.clk.holdKosc = false) ∧
    (s.clk.holdKosc = true → s.clk.running = true → s.spllUp = false → s.clk.kosc = .starting →
      s.runsTo .koscHoldExpire fun t => t.clk.holdKosc = false ∧ t.clk.csrc = .hosc) ∧
    (∀ count, s.trimSource = true →
      s.runsTo (.trimWindowEnd count) fun t =>
        t.clk.trimCode =
          (if (count : Rat) * 1000 > trimNominal (s.g HEARTH.TRIM.SRC) * 1001 then
            some (clampInt (-128) 127 (s.clk.trimCode.getD Config.hoscFactory - 1))
          else if (count : Rat) * 1000 < trimNominal (s.g HEARTH.TRIM.SRC) * 999 then
            some (clampInt (-128) 127 (s.clk.trimCode.getD Config.hoscFactory + 1))
          else s.clk.trimCode) ∧ s.onlyReg HEARTH.TRIM.DEV 0 0 t ∧ t.lines = s.lines) ∧
    (s.runsTo (.muxHang 0) fun t => t.g CLOCKS.HANGS.CMUX = satAdd 16 (s.g CLOCKS.HANGS.CMUX) 1 ∧ t.clk.fm = none ∧
        t.g (HDR.PAGE_STAT.BUSY .clocks) = 0 ∧ t.g (HDR.RESULT_SEQ.STALE .clocks) = 0) ∧
    (s.runsTo (.muxHang 1) fun t => t.g CLOCKS.HANGS.TMUX = satAdd 16 (s.g CLOCKS.HANGS.TMUX) 1 ∧ t.time.suspect = true) ∧
    (∀ ref gate count, s.clk.fm = some (ref, gate) → count < 2 ^ 40 →
      s.runsTo (.freqmonDone count) fun t =>
        t.clk.fm = none ∧ t.g CLOCKS.FM_STAT.REASON = 0 ∧ t.g CLOCKS.FM_COUNT_LO.COUNT = count % 2 ^ 32 ∧
        t.g CLOCKS.FM_COUNT_HI.COUNT = count / 2 ^ 32 ∧
        t.g CLOCKS.FM_FREQ.HZ = min (count * s.fmNominal ref / 2 ^ gate) (2 ^ 32 - 1) ∧
        t.g (HDR.PAGE_STAT.BUSY .clocks) = 0 ∧ t.lines = s.lines) ∧
    (s.clk.fm.isSome = true →
      s.runsTo .freqmonRefStopped fun t =>
        t.clk.fm = none ∧ t.g CLOCKS.FM_STAT.REASON = 1 ∧ t.g (HDR.PAGE_STAT.BUSY .clocks) = 0 ∧ t.lines = s.lines)

/-- RESET_N released with every rail good begins a cold start (R285); low for 1 µs or more it resets: every register of a page
other than HEARTH, SESSION and CALMGR takes its reset value, no line, port or session data is left (R10, R373); low for less
than 100 ns it does nothing (R373). A rail that comes is good, and the last one begins a cold start (R372); a rail other than
VH that trips outside HEARTH, and VH's loss, reset. -/
def Obligations.ResetsAndRails : Prop :=
  ∀ s : State,
    (s.clk.resetHeld = true → s.railsGood = true →
      s.runsTo .resetNRelease fun t =>
        t.clk.resetHeld = false ∧ t.clk.coldStep = 1 ∧ t.clk.kosc = .starting ∧ t.clk.ref = .judging ∧ t.clk.csrc = .gated ∧
        t.clk.running = false ∧ t.trust.bootCount = satAdd 32 s.trust.bootCount 1 ∧ t.lines = s.lines ∧
        (s.clk.csrc = .gated → t.regs = s.regs)) ∧
    (∀ ns, 1000 ≤ ns →
      s.runsTo (.resetNAssert ns) fun t =>
        t.clk.resetHeld = true ∧ t.clk.coldStep = 0 ∧ t.lines = [] ∧ t.ports = [] ∧ t.staged = [] ∧ t.posts = [] ∧
        t.fault.faultN = State.reset.fault.faultN ∧ t.pending = s.pending ∧ (∀ c, c < 3 → (t.session c).isOpen = false) ∧
        ∀ (p : Page) (F : Fld) (i j : Nat), F ∈ pageFields p → p ≠ .hearth → p ≠ .session → p ≠ .calmgr → i < 128 → j < 512 →
          t.g F i j = F.reset j) ∧
    (∀ ns, ns < 100 → s.runsTo (.resetNAssert ns) fun t => t = { s with free := s.free + 1 }) ∧
    (∀ r, r < 8 → r ∉ s.clk.rails →
      s.runsTo (.railGood r) fun t => r ∈ t.clk.rails ∧
        ((∀ q, q < 8 → q ≠ r → q ∈ s.clk.rails) → s.pwr.state < 3 → s.clk.resetHeld = false → s.clk.coldStep = 0 →
          t.clk.coldStep = 1)) ∧
    (∀ r, r < 7 → r ∈ s.clk.rails →
      s.runsTo (.railTrip r) fun t => r ∉ t.clk.rails ∧ (s.pwr.state ≠ 3 → t.lines = [] ∧ t.clk.coldStep = 0)) ∧
    (s.runsTo .vhLoss fun t => 7 ∉ t.clk.rails ∧ t.lines = [] ∧ t.clk.trimCode = none ∧ t.clk.coldStep = 0)

/-- A rising edge of PPS_IN is captured in the PPSIN words, and an armed SET loads the counter: the time is valid and no longer
suspect; without one, the time goes on. PPS_OUT falls after its width (R286). -/
def Obligations.PulsePerSecond : Prop :=
  ∀ s : State,
    (s.runsTo .ppsInEdge fun t =>
        t.g TIMEBASE.PPSIN0.NS = s.time.ns % 2 ^ 32 ∧ t.g TIMEBASE.PPSIN1.SEC = s.time.sec % 2 ^ 32 ∧
        t.g TIMEBASE.PPSIN2.SECH = s.time.sec / 2 ^ 32 % 2 ^ 16 ∧ t.g TIMEBASE.PPSIN2.FRAC = s.time.frac % 2 ^ 8 ∧
        t.time = (if s.time.setArmed = true then
          { s.time with ns := s.g TIMEBASE.SET_NS.NS, frac := 0, sub := 0, valid := true, suspect := false, setArmed := false,
                        sec := s.g TIMEBASE.SET_SEC_HI.SEC * 2 ^ 32 + s.g TIMEBASE.SET_SEC_LO.SEC }
          else s.time) ∧ t.lines = s.lines) ∧
    (s.runsTo .ppsOutFall fun t => t = { s with time := { s.time with ppsOut := false } })

/-- A nonce whose life ends is replaced by a new draw, the old one kept as expired (R339); a lockout's end clears the failures
(R341); a burn that completes fills its slot but for a revocation, and clears the key words; boot verification runs the
preferred slot, or after an unconfirmed trial the other one, when its image is good; an upload times out; a device whose boot
and calibration are done is ready. -/
def Obligations.TrustMoments : Prop :=
  ∀ s : State,
    (∀ ch : Channel, s.controlRunning = true →
      s.runsTo (.nonceExpire ch) fun t =>
        (t.session (chIx ch)).nonce = s.free ∧ (t.session (chIx ch)).expired = some (s.session (chIx ch)).nonce ∧
        t.regs = s.regs ∧ t.trust = s.trust ∧ ∀ c, c ≠ chIx ch → t.session c = s.session c) ∧
    (∀ ch : Channel, s.lockedOut (chIx ch) = true →
      s.runsTo (.lockoutEnd ch) fun t =>
        t.g SESSION.STAT.FAILS (chIx ch) = 0 ∧ t.g SESSION.STAT.LOCK_LEFT (chIx ch) = 0 ∧ t.lockedOut (chIx ch) = false ∧
        t.mgmt = s.mgmt ∧ t.trust = s.trust) ∧
    (∀ (i : Nat) (x : KeySlot), s.trust.burning = some (i, x) →
      s.runsTo .keyBurnDone fun t =>
        t.trust.burning = none ∧ t.trust.slots.get {} i = { x with revoked := (s.trust.slots.get {} i).revoked } ∧
        (∀ k, k ≠ i → t.trust.slots.get {} k = s.trust.slots.get {} k) ∧ (∀ j, j < 8 → t.g TRUST.KEY.W 0 j = 0)) ∧
    (∀ k, k = (match s.trust.trial with | some n => 1 - n % 2 | none => s.trust.prefer) →
      s.clk.bootDone = false → 2 ≤ s.clk.coldStep → s.stokerRuns = true →
      s.runsTo .bootVerifyDone fun t =>
        t.clk.bootDone = true ∧ t.trust.lifecycle = s.trust.lifecycle ∧ t.trust.slots = s.trust.slots ∧
        (s.verifyImage (s.image k).source = 0 →
          t.trust.running = k ∧ t.trust.fallback = false ∧
          t.trust.bootState = (if (s.image k).confirmed = true then 2 else 3))) ∧
    (s.runsTo .fwUploadTimeout fun t => t = { s with trust := { s.trust with upload := none } }) ∧
    (s.clk.bootDone = true → s.clk.calDone = true → s.clk.identReady = false →
      s.runsTo .identReady fun t => t.clk.identReady = true)

/-- In an entry, a stage that nothing refuses comes into effect, and the last one rests the device in EMBER, with no PLL locked
and KOSC off (R297, R298); a stage that something refuses, or that takes too long, is refused with its reason and counted, and
the entry rolls back (R298, R299); the rollback's end is RUN again. -/
def Obligations.PowerEntry : Prop :=
  ∀ s : State,
    (s.pwr.sub = 1 → s.pwr.stage < 4 → s.refusals (s.pwr.stage + 1) = [] →
      s.runsTo .stageStopped fun t => t.pwr = { s.pwr with stage := s.pwr.stage + 1 }) ∧
    (s.pwr.sub = 1 → s.pwr.stage = 4 → s.refusals 5 = [] → s.pwr.hearth = false →
      s.runsTo .stageStopped fun t =>
        t.pwr.state = 2 ∧ t.pwr.sub = 0 ∧ t.pwr.stage = 0 ∧ t.clk.locked = [] ∧ t.clk.kosc = .off ∧ t.clk.running = false ∧
        t.clk.csrc = .gated ∧ t.g HEARTH.PSTATE.REQ = 2 ∧ t.lines = s.lines) ∧
    (∀ (reason inst : Nat) (r : List (Nat × Nat)), s.pwr.sub = 1 → s.refusals (s.pwr.stage + 1) = (reason, inst) :: r →
      reason < 16 → inst < 256 → s.pwr.stage < 15 →
      s.runsTo .stageStopped fun t =>
        t.pwr = { s.pwr with sub := 2 } ∧ t.g HEARTH.REFUSE.STAGE = s.pwr.stage + 1 ∧ t.g HEARTH.REFUSE.REASON = reason ∧
        t.g HEARTH.REFUSE.INSTANCE = inst ∧ t.g HEARTH.REFUSE.COUNT = satAdd 16 (s.g HEARTH.REFUSE.COUNT) 1 ∧
        t.lines = s.lines) ∧
    (s.pwr.sub = 1 → s.pwr.stage < 15 →
      s.runsTo .stageTimeout fun t =>
        t.pwr = { s.pwr with sub := 2 } ∧ t.g HEARTH.REFUSE.STAGE = s.pwr.stage + 1 ∧
        t.g HEARTH.REFUSE.REASON = refuseTimeout ∧
        t.g HEARTH.REFUSE.COUNT = satAdd 16 (s.g HEARTH.REFUSE.COUNT) 1 ∧ t.lines = s.lines) ∧
    (s.pwr.sub = 2 →
      s.runsTo .rollbackComplete fun t =>
        t.pwr.sub = 0 ∧ t.pwr.stage = 0 ∧ t.pwr.state = 0 ∧ t.pwr.doze = false ∧ t.pwr.hearth = false ∧
        t.g HEARTH.PSTATE.REQ = 0)

/-- In EMBER an enabled wake begins: its cause is shown, with the line of a wake by energy, KOSC starts and the control domain has
no clock (R300, R301). A block that is not ready in time is shown and counted; the wake is tried once more, and the second
failure ends it (R302). With everything ready the device is in RUN, no cluster gated. Each access stuck at a gated cluster
counts as a fault of class S1 (R304, R309). -/
def Obligations.Wakes : Prop :=
  ∀ s : State,
    (∀ line, line < 128 → s.mayWake 1 = true → (s.line line).st ≠ .off → s.runsTo (.wakeEnergy line) (s.wakesBy 1 line)) ∧
    (s.mayWake 2 = true → s.runsTo .wakeMspi (s.wakesBy 2 0)) ∧
    (s.mayWake 3 = true → s.runsTo .wakeMdio (s.wakesBy 3 0)) ∧
    (s.mayWake 4 = true → s.g HEARTH.TIMER.SEC ≠ 0 → s.runsTo .wakeTimer (s.wakesBy 4 0)) ∧
    (∀ block, block < 256 → s.pwr.waking = true → s.pwr.state = 2 → block ∈ s.notReady →
      s.runsTo (.wakeNotReady block) fun t =>
        t.g HEARTH.WAKE_CAUSE.BLOCK = block ∧ t.g HEARTH.WAKE_CAUSE.FAILS = satAdd 8 (s.g HEARTH.WAKE_CAUSE.FAILS) 1 ∧
        (s.pwr.retried = false → t.pwr.waking = true ∧ t.pwr.sub = 4 ∧ t.pwr.retried = true) ∧
        (s.pwr.retried = true → t.pwr.waking = false ∧ t.pwr.sub = 5 ∧ t.clk.running = true)) ∧
    (s.pwr.waking = true → s.pwr.state = 2 → s.notReady = [] →
      s.runsTo .wakeComplete fun t =>
        t.pwr.state = 0 ∧ t.pwr.sub = 0 ∧ t.pwr.waking = false ∧ t.pwr.gated = [] ∧ t.g HEARTH.PSTATE.REQ = 0) ∧
    (∀ stuck : List StuckAccess, s.fault.ignored.contains 22 = false →
      s.runsTo (.clockGateTimeout stuck) fun t =>
        t.g FAULT.COUNT_S.COUNT 0 1 = (stuck.foldl (fun n _ => satAdd 32 n 1) (s.g FAULT.COUNT_S.COUNT 0 1)) ∧
        t.lines = s.lines ∧ t.pwr = s.pwr)

/-- A sampled fault of class S2 of a unit isolates it, and one of class S3 brings the safe state, FAULT_N asserted (R309, R311,
R313); a rail read as stuck is a class S2 fault of its source (R310). The end of handling closes it (R315); the end of a
revoked master's recovery lifts its fence (R319); a restart of the watchdog arms it and its expiry brings the safe state
(R320). After a pin's hold it shows its routed level outside EMBER (R326, R299); in-band event blocks follow their hold and
refresh times, with the time at which their source took its level (R327). -/
def Obligations.FaultMoments : Prop :=
  ∀ s : State,
    (∀ r : FaultInput, s.controlRunning = true → s.fault.inject = none → isSource r.source = true →
      s.fault.ignored.contains r.source = false → r.code ≠ 1 → r.code ≠ 0x0D →
      s.runsTo (.faultSample [r]) fun t =>
        (r.cls = 2 → isUnit r.source = true → t.fault.isolated.contains r.source = true) ∧
        (r.cls = 3 → t.fault.s3 = true ∧ (s.fault.s3 = false → t.fault.faultN = true)) ∧
        (r.cls = 1 → t.g FAULT.COUNT_S.COUNT 0 1 = satAdd 32 (s.g FAULT.COUNT_S.COUNT 0 1) 1)) ∧
    (∀ source seen, s.controlRunning = true → s.fault.inject = none → isSource source = true →
      s.fault.ignored.contains source = false → seen = 0 ∨ seen = 3 →
      s.runsTo (.railDisagree source seen) fun t =>
        isUnit source = true → t.fault.isolated.contains source = true) ∧
    (s.runsTo .faultHandlingEnd fun t =>
        t.fault = { s.fault with handling := none, injRecovering := [], injShown := [] } ∧ t.lines = s.lines) ∧
    (∀ m, m < 64 → m ∈ s.fault.revoked →
      s.runsTo (.fenceRecoveryEnd m) fun t => t.fenced m = false ∧ m ∉ t.fault.revoked ∧ t.lines = s.lines) ∧
    (s.stokerRuns = true →
      s.runsTo .watchdogRestart fun t => t = { s with fault := { s.fault with watchdogArmed := true } }) ∧
    (s.fault.watchdogArmed = true → s.stokerRuns = true → s.fault.ignored.contains 23 = false →
      s.runsTo .watchdogExpire fun t => t.fault.s3 = true ∧ t.fault.faultN = true) ∧
    (s.pwr.state ≠ 2 →
      (s.runsTo (.pinHoldEnd 0) fun t => t.ev.pinA = s.routed EVENTS.ROUTE_A.EN ∧ t.regs = s.regs ∧ t.lines = s.lines) ∧
      (s.runsTo (.pinHoldEnd 1) fun t => t.ev.pinB = s.routed EVENTS.ROUTE_B.EN ∧ t.regs = s.regs ∧ t.lines = s.lines)) ∧
    (∀ n, n < 512 → n ∈ s.ev.ibHold → n ∉ s.ev.ibDirty →
      s.runsTo (.ibHoldEnd n) fun t => n ∉ t.ev.ibHold ∧ t.mgmt = s.mgmt ∧ t.regs = s.regs) ∧
    (∀ n, n < 512 → n ∈ s.ev.ibHold → n ∈ s.ev.ibDirty → bit (s.g EVENTS.ROUTE_IB.EN 0 (n / 32)) (n % 32) = true →
      s.runsTo (.ibHoldEnd n) fun t =>
        n ∉ t.ev.ibDirty ∧
        t.mgmt.ibEvents = s.mgmt.ibEvents ++ s.inbandLanes.map fun l =>
          { lane := l, source := n, level := s.ev.levels.contains n, ns := s.ev.ibWhen.get 0 n }) ∧
    (s.g EVENTS.CTRL.IB_REFRESH ≠ 0 → s.g EVENTS.CTRL.IB_HOLD = 0 → s.ev.ibHold = [] →
      s.runsTo .ibRefresh fun t =>
        t.mgmt.ibEvents = s.mgmt.ibEvents ++
          (s.ev.levels.filter fun n => bit (s.g EVENTS.ROUTE_IB.EN 0 (n / 32)) (n % 32)).flatMap
            fun n => s.inbandLanes.map fun l => { lane := l, source := n, level := true, ns := s.ev.ibWhen.get 0 n })

/-- The moments of a change of level: the second proposal to the lines that refused (R290); NV falls as the change goes down, the
tones beyond it at unity, and XPLL's clock, the write assist and the body bias go down with it (R110, R288, R290); NV rises
last on the way up, and the level is then the one gone to (R291); a confirmed VX ends the way down and goes on to NV on the
way up; a VX not confirmed is tried once more, and then the way up ends where it began, with AVS_FAIL (R292). A read of VX's
current shows it, and ten in a row over the limit are counted up (R293). -/
def Obligations.PerformanceLevels : Prop :=
  ∀ s : State,
    (s.lvl.phase = .proposing → s.lvl.reproposed = false → s.sfc = s.lvl.landSfc →
      s.runsTo .levelRepropose fun t =>
        t.lvl.reproposed = true ∧ t.lvl.phase = .proposing ∧ t.lvl.level = s.lvl.level ∧ t.lvl.nv = s.lvl.nv) ∧
    ((s.lvl.phase = .proposing ∧ sfcCome (sfcAdd s.lvl.landSfc 1) s.sfc = true) ∨
        (s.lvl.phase = .nvWait ∧ sfcCome s.lvl.landSfc s.sfc = true) →
      s.runsTo .nvDownLand fun t =>
        t.lvl.nv = nvOf s.lvl.going ∧ t.lvl.phase = .vxDown ∧ t.lvl.level = s.lvl.level ∧ t.lvl.refused = [] ∧
        t.lvl.clock = vxClock s.lvl.going ∧ t.lvl.bias = bodyBias s.lvl.going ∧
        t.lvl.assist = (s.lvl.assist || writeAssist s.lvl.going) ∧
        ∀ k, nvOf s.lvl.going < k → k < 128 → t.g XENGINE.NORM.NORM 0 k = 0x8000) ∧
    (s.lvl.phase = .nvUpWait → sfcCome s.lvl.landSfc s.sfc = true →
      s.runsTo .nvUpLand fun t => t.lvl.nv = nvOf s.lvl.going ∧ t.lvl.level = s.lvl.going ∧ t.xe.nvSince = s.sfc) ∧
    (∀ fails mv, mv < 2 ^ 16 → s.controlRunning = true →
      s.runsTo (.vxConfirmed ⟨fails, mv⟩) fun t =>
        t.g PERF.VX.MV = mv ∧ t.g PERF.AVS_ERR.COUNT = satAdd 32 (s.g PERF.AVS_ERR.COUNT) fails ∧
        (s.pwr.waking = true → nearMv mv 580 = true → t.pwr.vxReady = true) ∧
        (s.pwr.waking = false → s.lvl.coldRead = true → 580 ≤ mv → mv ≤ 820 → t.lvl.coldRead = false) ∧
        (s.pwr.waking = false → s.lvl.coldRead = false → nearMv mv (vxMilliVolt s.lvl.going) = true →
          (s.lvl.phase = .vxDown → t.lvl.level = s.lvl.going) ∧
          (s.lvl.phase = .vxUp →
            t.lvl = { s.lvl with phase := .nvUpWait, landSfc := sfcAdd s.sfc 1, clock := vxClock s.lvl.going,
                                 bias := bodyBias s.lvl.going, assist := s.lvl.assist && writeAssist s.lvl.going }))) ∧
    (∀ fails mv, mv < 2 ^ 16 → s.controlRunning = true → s.lvl.phase = .vxUp ∨ s.lvl.phase = .vxDown →
      s.runsTo (.vxConfirmTimeout fails mv) fun t =>
        t.g PERF.VX.MV = mv ∧ t.g PERF.AVS_ERR.COUNT = satAdd 32 (s.g PERF.AVS_ERR.COUNT) fails ∧
        (s.lvl.tries = 0 → t.lvl.tries = 1 ∧ t.lvl.phase = s.lvl.phase ∧ t.lvl.level = s.lvl.level ∧ t.lvl.nv = s.lvl.nv ∧
          (s.lvl.coldRead = false → t.lvl.vxWrite.map AvsWrite.value = some (vxMilliVolt s.lvl.going))) ∧
        (s.lvl.tries ≠ 0 → s.lvl.phase = .vxDown → t.lvl.level = s.lvl.going) ∧
        (s.lvl.tries ≠ 0 → s.lvl.phase = .vxUp →
          t.lvl.phase = .idle ∧ t.lvl.going = s.lvl.level ∧ t.lvl.level = s.lvl.level ∧ t.lvl.avsFail = true)) ∧
    (∀ fails current, fails < 2 → current < 2 ^ 16 → s.controlRunning = true → s.pwr.state < 2 → s.pwr.waking = false →
      s.runsTo (.avsCurrentRead fails current false) fun t =>
        t.g PERF.VX.CURRENT = current ∧ t.g PERF.AVS_ERR.COUNT = satAdd 32 (s.g PERF.AVS_ERR.COUNT) fails ∧
        t.lvl.overCurrent =
          (if s.g PERF.ILIMIT.LIMIT < current then min 10 (s.lvl.overCurrent + 1) else 0))

/-- A sample of the sensors shows the hottest as the junction temperature; one that reaches 115 °C brings the safe state; the
damper steps one level down while the device stays hot and idle, and gives a level back once it has cooled below 100 °C and no
safe state held it (R294 to R296). -/
def Obligations.Thermal : Prop :=
  ∀ s : State,
    (∀ ts : List Int, s.controlRunning = true →
      s.runsTo (.tempSample ts) fun t =>
        t.g THERMAL.TJ.TEMP = ofSigned 16 (clampInt (-32768) 32767 (hottest ts.zipIdx).1) ∧
        (toSigned 16 (s.g THERMAL.TJ.TEMP) < 1840 → 1840 ≤ clampInt (-32768) 32767 (hottest ts.zipIdx).1 →
          s.fault.ignored.contains 10 = false → t.fault.s3 = true)) ∧
    (s.controlRunning = true → 1680 ≤ toSigned 16 (s.g THERMAL.TJ.TEMP) → s.lvl.phase = .idle → s.lvl.level < 3 →
      s.runsTo .damperRepeat fun t =>
        t.lvl.cap = max s.lvl.cap (s.lvl.level + 1) ∧ t.g THERMAL.DAMPER.STEPS = satAdd 8 (s.g THERMAL.DAMPER.STEPS) 1 ∧
        t.lvl.level = s.lvl.level) ∧
    (toSigned 16 (s.g THERMAL.TJ.TEMP) < 1600 → s.lvl.cap ≠ 0 → s.fault.thermalHold = false →
      s.runsTo .damperCool fun t => t.lvl.cap = s.lvl.cap - 1 ∧ t.lvl.level = s.lvl.level)

/-- At the end of the superframe of an FXU or PRD landing, with XPLL locked (R281), the estimates of the cycle are used up; while
HOLD is in force the landing changes no entry (R97, R99, R116). The end of the hold clears CTRL.HOLD. A scrub step counts each
corrected error in CE_COUNT and each uncorrectable one in UE_COUNT (R115), and an uncorrectable entry of the three matrices
reads 0 (R114); a recovery that ends leaves its list. The engine's own rows need XPLL locked, and times pass outside the safe
state only (R281, R312; log 75). -/
def Obligations.EngineLandings : Prop :=
  ∀ s : State,
    (s.sfc % 128 = 0 → s.sfc ≠ 0 → s.engineRuns = true →
      s.runsTo .fxuLanding fun t =>
        t.xe.prevErr = [] ∧ (∀ e ∈ t.xe.lost, e / 2 ^ 21 ≠ 1) ∧ (s.xe.hold = true → t.xe.coef = s.xe.coef) ∧
        t.lines = s.lines) ∧
    (s.sfc % 128 = 1 → 129 ≤ s.sfc → s.engineRuns = true →
      s.runsTo .prdLanding fun t =>
        t.xe.prevFeedback = [] ∧ t.xe.prevDiscard = false ∧ (∀ e ∈ t.xe.lost, e / 2 ^ 21 ≠ 2) ∧
        (s.xe.hold = true → t.xe.coef = s.xe.coef)) ∧
    (s.xe.hold = true →
      s.fault.s3 = false → s.runsTo .holdExpired fun t =>
        t.xe = { s.xe with hold := false } ∧ t.g XENGINE.CTRL.HOLD = 0 ∧ t.lines = s.lines) ∧
    (∀ errors : List (Nat × Nat × Bool),
      s.engineRuns = true → s.runsTo (.scrubStep errors) fun t =>
        t.g XENGINE.CE_COUNT.COUNT = (errors.filter fun e => e.2.2).foldl (fun n _ => satAdd 32 n 1) (s.g XENGINE.CE_COUNT.COUNT) ∧
        t.g XENGINE.UE_COUNT.COUNT =
          (errors.filter fun e => !e.2.2).foldl (fun n _ => satAdd 32 n 1) (s.g XENGINE.UE_COUNT.COUNT) ∧
        (∀ e ∈ errors, e.2.2 = false → e.1 % 4 ≠ 3 → t.coefRaw (e.1 % 4 * 2 ^ 21 + e.2.1) = (0, 0)) ∧ t.lines = s.lines) ∧
    (∀ l k, l < 128 →
      s.fault.s3 = false → s.runsTo (.nxtUeRecoveryEnd l k) fun t =>
        t.xe.recover = s.xe.recover.filter (· != l * 128 + k % 128) ∧ t.xe.coef = s.xe.coef ∧ t.lines = s.lines)

/-- With XPLL locked, a join starts at a pilot-cycle boundary after it is served, its lines in JOINING; in its lease of the port
the writes of step 4 open step 5, where its lines become pilot-active; three leases, between which the port stays reserved,
write step 7 and open step 8, where its lines are active and in TRAINING and the join is over (R101, R102, R120). A join whose
step 4 is not written by then is over, none of its lines made active by it (R103). A dead line is inactive two symbols after
its detection, and silent unless it retrains (R107). The engine's own rows need XPLL locked, and times pass outside the safe
state only (R281, R312; log 75). -/
def Obligations.EngineJoins : Prop :=
  ∀ s : State,
    (∀ (q : Nat × Nat) (qs : List (Nat × Nat)) (since : Nat), s.xe.join = none → s.xe.queue = q :: qs → s.xe.served = some since →
      s.sfc % 128 = 0 → sfcCome s.sfc since = false → s.xe.hold = false → s.lvl.phase = .idle → s.engineRuns = true →
      s.runsTo .joinStart fun t =>
        ∃ j, t.xe.join = some j ∧ j.ports = s.takeRequests (s.xe.queue.map (·.2)) (q.2 / 32) 4 ∧
          j.lines = j.ports.flatMap s.portLines ∧ j.phase = .first ∧ j.start = s.sfc ∧
          (∀ l ∈ j.lines, (t.line l).st = .joining ∧ (t.line l).pilots = true) ∧
          ∀ l, l ∉ j.lines → t.line l = s.line l) ∧
    (∀ j : Join, s.xe.join = some j → j.phase = .first → s.sequencerHolds j 127 = true →
      s.engineRuns = true → s.runsTo .joinNxtWrite fun t =>
        t.xe.join = some { j with phase := .nxtWritten } ∧ t.xe.lease = none ∧ t.xe.reserved = none ∧ t.lines = s.lines ∧
        t.regs = s.regs) ∧
    (∀ j : Join, s.xe.join = some j → j.phase = .first → s.sfc = sfcAdd j.start 128 →
      s.fault.s3 = false → s.runsTo .joinPilotActive fun t => t.xe.join = none) ∧
    (∀ j : Join, s.xe.join = some j → j.phase = .nxtWritten → s.sfc = sfcAdd j.start 128 →
      s.fault.s3 = false → s.runsTo .joinPilotActive fun t =>
        t.xe.join = some { j with phase := .second } ∧ t.regs = s.regs ∧
        (∀ l ∈ j.lines, t.line l = { s.line l with pilotActive := true, sub := 1 }) ∧
        ∀ l, l ∉ j.lines → t.line l = s.line l) ∧
    (∀ j : Join, s.xe.join = some j → s.sequencerHolds j 255 = true →
      (j.phase = .second → s.engineRuns = true → s.runsTo .joinCoefWrite fun t =>
        t.xe.join = some { j with phase := .rowsWritten } ∧ t.xe.lease = none ∧ t.xe.reserved = some (joinMaster j) ∧
        joinMaster j ∈ t.xe.waiting ∧ t.lines = s.lines) ∧
      (j.phase = .rowsWritten → s.engineRuns = true → s.runsTo .joinCoefWrite fun t =>
        t.xe.join = some { j with phase := .fxuWritten } ∧ t.xe.lease = none ∧ t.xe.reserved = some (joinMaster j) ∧
        joinMaster j ∈ t.xe.waiting ∧ t.lines = s.lines) ∧
      (j.phase = .fxuWritten → s.engineRuns = true → s.runsTo .joinCoefWrite fun t =>
        t.xe.join = some { j with phase := .written } ∧ t.xe.lease = none ∧ t.xe.reserved = none)) ∧
    (∀ j : Join, s.xe.join = some j → j.phase = .written → s.sfc = sfcAdd j.start 256 →
      s.fault.s3 = false → s.runsTo .joinLanded fun t =>
        t.xe.join = none ∧
        (∀ l ∈ j.lines, (t.line l).st = .training ∧ (t.line l).sub = 0 ∧ (t.line l).active = true ∧
          (t.line l).pilotActive = false ∧ (t.line l).trainStart = s.sfc) ∧
        ∀ l, l ∉ j.lines → t.line l = s.line l) ∧
    (∀ l, l < 128 → (s.line l).dying = true →
      s.fault.s3 = false → s.runsTo (.deadLineInactive l) fun t =>
        (t.line l).active = false ∧ (t.line l).pilotActive = false ∧ (t.line l).dying = false ∧ (t.line l).st = (s.line l).st ∧
        (t.line l).silent = decide ((s.line l).st ≠ .retrain) ∧
        (∀ e ∈ t.xe.pend, e.key / 2 ^ 7 % 128 ≠ l ∧ e.key % 128 ≠ l) ∧
        ((s.line l).st ≠ .retrain → l ∈ t.xe.clearing) ∧ ∀ k, k ≠ l → t.line k = s.line k)

/-- The free write port goes to the master next in order (R120); with the port, the clearing of a line writes 0 to every entry
that concerns it and to no other (R105). A census that ends shows its line, direction, reason and neighbours (R117). A
coefficient window read that is due captures its row, and a write that is due to the row of a head, where no line joins, puts
its row's words into the matrix (R118, R119). The engine's own rows need XPLL locked, and times pass outside the safe state
only (R281, R312; log 75). -/
def Obligations.EngineWrites : Prop :=
  ∀ s : State,
    (∀ m, nextWriter s.xe.reserved s.xe.waiting = some m → s.portFreeFor m = true →
      s.engineRuns = true → s.runsTo .writePortGrant fun t =>
        t.xe.lease = some m ∧ t.xe.waiting = s.xe.waiting.filter (· != m) ∧ t.xe.coef = s.xe.coef ∧ t.lines = s.lines) ∧
    (∀ l, l < 128 → l ∈ s.xe.clearing → s.xe.lease = some 0x20 → s.fenced 0x20 = false →
      s.engineRuns = true → s.runsTo (.xengineDmaClear l) fun t =>
        l ∉ t.xe.clearing ∧ t.xe.lease = none ∧ t.regs = s.regs ∧ t.lines = s.lines ∧
        ∀ m k v d, m < 3 → k < 128 → v < 128 → d < 128 →
          t.coefRaw (coefKey m k v d) = (if v = l ∨ d = l then (0, 0) else s.coefRaw (coefKey m k v d))) ∧
    (∀ dir l reason (es : List (Nat × Int)), s.xe.census = some (dir, l) → s.xe.censusTaken = some (reason, es) → dir < 4 →
      l < 128 → reason < 16 → es.length ≤ 8 →
      s.engineRuns = true → s.runsTo .censusDone fun t =>
        t.xe = { s.xe with census := none, censusTaken := none } ∧ t.g XENGINE.CENSUS_STAT.REASON = reason ∧ t.g XENGINE.CENSUS_STAT.DIR = dir ∧
        t.g XENGINE.CENSUS_STAT.LINE = l ∧ t.g XENGINE.CENSUS_STAT.COUNT = es.length ∧
        (∀ i, i < 8 → t.g XENGINE.CENSUS.VALID 0 i = bnat (decide (i < es.length))) ∧
        (∀ i (e : Nat × Int), es[i]? = some e → t.g XENGINE.CENSUS.NEIGHBOUR 0 i = e.1 % 128 ∧
          t.g XENGINE.CENSUS.LEVEL 0 i = ofSigned 16 e.2) ∧
        t.g (HDR.PAGE_STAT.BUSY .xengine) = 0 ∧ t.lines = s.lines) ∧
    (∀ (r : XwRequest) (ns : Nat), s.xe.xw = some r → s.xwDue r ns = true → r.write = false →
      s.engineRuns = true → s.runsTo (.xwindowLand ns []) fun t =>
        t.xe.xw = none ∧ t.xe.coef = s.xe.coef ∧ t.g XWINDOW.XW_STAT.STATUS = 0 ∧ t.g (HDR.PAGE_STAT.BUSY .xwindow) = 0 ∧
        (∀ d, d < 128 →
          t.g XWINDOW.RDATA.I 0 d = ofSigned 16 (s.entry r.matrix r.tone r.victim d).1 ∧
          t.g XWINDOW.RDATA.Q 0 d = ofSigned 16 (s.entry r.matrix r.tone r.victim d).2) ∧ t.lines = s.lines) ∧
    (∀ (r : XwRequest) (ns : Nat), s.xe.xw = some r → s.xwDue r ns = true → r.write = true → s.isVHead r.victim = true →
      r.victim < 128 → (∀ d, d < 128 → (s.line d).st ≠ .joining ∧ (s.heldZero r.matrix r.victim d = true → r.data.getD d 0 = 0)) →
      s.engineRuns = true → s.runsTo (.xwindowLand ns []) fun t =>
        t.xe.xw = none ∧ t.g XWINDOW.XW_STAT.STATUS = 0 ∧
        (∀ d, d < 128 → t.coefRaw (coefKey r.matrix r.tone r.victim d) =
          (toSigned 16 (r.data.getD d 0 / 2 ^ 16), toSigned 16 (r.data.getD d 0))) ∧ t.lines = s.lines)

/-- A lane's steps (R253): a far end found in DETECT opens TRAIN; the training's end opens LOCK, its errors counted; the lock
opens EXCHANGE with the offset shown; an ACCEPT that names a subset of the capabilities offered, a depth of 1 to 16 and the
slot map makes the lane ACTIVE with them; without one the lane is ACTIVE in legacy mode (R260). An AM block carries the marker
count, one up (R256). The other lanes stay in their states. -/
def Obligations.LaneBringUp : Prop :=
  ∀ (s : State) (l : Nat), l < 32 →
    (s.laneState l = 1 → s.laneRuns l = true →
      s.runsTo (.laneDetectProbe l true) fun t =>
        t.laneState l = 2 ∧ t.lines = s.lines ∧ ∀ k, k < 32 → k ≠ l → t.laneState k = s.laneState k) ∧
    (∀ errors, s.laneState l = 2 →
      s.runsTo (.laneTrainEnd l errors) fun t =>
        t.laneState l = 3 ∧ t.g LANE.PRBS_ERR.COUNT l = satAdd 32 (s.g LANE.PRBS_ERR.COUNT l) errors ∧ t.lines = s.lines ∧
        ∀ k, k < 32 → k ≠ l → t.laneState k = s.laneState k) ∧
    (∀ ppm : Int, s.laneState l = 3 → s.locked 6 = true →
      s.runsTo (.laneLock l ppm) fun t =>
        t.laneState l = 4 ∧ t.g LANE.STATUS.CDR_LOCK l = 1 ∧ t.g LANE.STATUS.LOS l = 0 ∧ t.g LANE.STATUS.LOL l = 0 ∧
        t.g LANE.PPM.OFFSET l = ofSigned 16 ppm ∧ t.lines = s.lines ∧
        ∀ k, k < 32 → k ≠ l → t.laneState k = s.laneState k) ∧
    (∀ content, s.laneState l = 4 → bits content 40 8 &&& laneOffer l = bits content 40 8 → 1 ≤ bits content 32 8 →
      bits content 32 8 ≤ 16 → bits content 0 24 = s.slotMap l →
      s.runsTo (.exchangeAcceptRx l content) fun t =>
        t.laneState l = 5 ∧ t.g LANE.STATUS.CAPS l = bits content 40 8 ∧ t.g LANE.STATUS.DEPTH l = bits content 32 8 ∧
        t.g LANE.STATUS.LEGACY l = 0 ∧ t.lines = s.lines ∧ ∀ k, k < 32 → k ≠ l → t.laneState k = s.laneState k) ∧
    (s.laneState l = 4 →
      s.runsTo (.exchangeTimeout l) fun t =>
        t.laneState l = 5 ∧ t.g LANE.STATUS.CAPS l = 0 ∧ t.g LANE.STATUS.DEPTH l = 0 ∧ t.g LANE.STATUS.LEGACY l = 1 ∧
        t.lines = s.lines ∧ ∀ k, k < 32 → k ≠ l → t.laneState k = s.laneState k) ∧
    (s.g LANE.STATUS.LEGACY l = 0 → 2 ≤ s.laneState l → s.laneState l ≤ 5 →
      s.runsTo (.amBlock l) fun t =>
        t.lane l = { s.lane l with
          markers := ((s.lane l).markers + 1) % 2 ^ 16
          sent := [controlBlock 1 0 (l * 2 ^ 43 + ((s.lane l).markers + 1) % 2 ^ 16 * 2 ^ 24)] } ∧
        ((∀ p ∈ s.lanePorts l, s.ownHostUp p = (s.port p).sortUp) → t.regs = s.regs) ∧ t.lines = s.lines ∧
        ∀ k, k ≠ l → t.lane k = s.lane k)

/-- An ACTIVE lane that loses its signal, its clock or its block lock goes to LOCK, with the reason of the loss, its counter and
its bit in STATUS (R254); its capabilities read 0, and the other lanes stay in their states. -/
def Obligations.LaneLoss : Prop :=
  ∀ (s : State) (l : Nat), l < 32 → s.laneState l = 5 →
    (s.runsTo (.laneLos l) fun t =>
        t.laneState l = 3 ∧ t.g LANE.STATUS.LAST_REASON l = 1 ∧ t.g LANE.STATUS.LOS l = 1 ∧ t.g LANE.STATUS.CDR_LOCK l = 0 ∧
        t.g LANE.STATUS.CAPS l = 0 ∧ t.g LANE.LOS_COUNT.COUNT l = satAdd 32 (s.g LANE.LOS_COUNT.COUNT l) 1 ∧
        t.lines = s.lines ∧ ∀ k, k < 32 → k ≠ l → t.laneState k = s.laneState k) ∧
    (s.runsTo (.laneLol l) fun t =>
        t.laneState l = 3 ∧ t.g LANE.STATUS.LAST_REASON l = 2 ∧ t.g LANE.STATUS.LOL l = 1 ∧ t.g LANE.STATUS.CDR_LOCK l = 0 ∧
        t.g LANE.STATUS.CAPS l = 0 ∧ t.g LANE.LOL_COUNT.COUNT l = satAdd 32 (s.g LANE.LOL_COUNT.COUNT l) 1 ∧
        t.lines = s.lines ∧ ∀ k, k < 32 → k ≠ l → t.laneState k = s.laneState k) ∧
    (s.runsTo (.blockLockLoss l) fun t =>
        t.laneState l = 3 ∧ t.g LANE.STATUS.LAST_REASON l = 3 ∧ t.g LANE.STATUS.LOL l = 1 ∧ t.g LANE.STATUS.CDR_LOCK l = 0 ∧
        t.g LANE.HDR_ERR.COUNT l = satAdd 32 (s.g LANE.HDR_ERR.COUNT l) (16 - (s.lane l).headers.countP id) ∧
        t.g LANE.LOL_COUNT.COUNT l = satAdd 32 (s.g LANE.LOL_COUNT.COUNT l) 1 ∧
        t.lines = s.lines ∧ ∀ k, k < 32 → k ≠ l → t.laneState k = s.laneState k)

/-- A port's stamp is granted while credit and room allow and advances CUM, a debt of blocks that the SecY added being paid first;
the latest stamp is sent again without it (R257, R258, R354). A host block on a slot of an ACTIVE lane whose host is up counts
in RXBLK, and is dropped and counted where it is not up (R259); an idle block does nothing. PAUSE is repeated while the buffer
stays above a quarter and ended when it fell to one (R261). A received HOSTSTAT is shown (a partner's host that is down makes
the port's slots carry remote fault), and so is its absence for 256 superframes; our own is due, and for 4 superframes after a
change (R263, R264). Times pass outside the safe state (R312; log 75). -/
def Obligations.HostSlots : Prop :=
  ∀ (s : State) (p : Nat), p < 128 →
    (s.stampsOn p = true → 0 < s.issueRate p → 0 ≤ (s.port p).credit →
      s.stampOwed p < (32 * s.g LANE.STATUS.DEPTH (s.portLane p) : Nat) →
      s.runsTo (.stampGrant p) fun t =>
        t.g PORT_CTL.CUM.CUM p = (s.g PORT_CTL.CUM.CUM p + 1) % 2 ^ PORT_CTL.CUM.CUM.w ∧ s.onlyReg PORT_CTL.CUM.CUM p 0 t ∧
        t.lines = s.lines) ∧
    (s.stampsOn p = true → 0 < s.issueRate p → (s.port p).credit < 0 →
      s.runsTo (.stampGrant p) fun t =>
        t.port p = { s.port p with credit := (s.port p).credit + 32 } ∧ t.regs = s.regs ∧ t.lines = s.lines ∧
        ∀ q, q ≠ p → t.port q = s.port q) ∧
    (s.stampsOn p = true → s.runsTo (.stampResend p) fun t => t.regs = s.regs ∧ t.lines = s.lines) ∧
    (∀ l slot sync payload, l < 32 → s.laneState l = 5 → s.g LANE.STATUS.LEGACY l = 0 → s.anchor (s.slotLine l slot) = p →
      sync = 1 →
      s.runsTo (.hostBlockRx l slot sync payload) fun t =>
        (s.hostUp p = false →
          t.g PORT_CTL.INGRESS_DROP.COUNT p = satAdd PORT_CTL.INGRESS_DROP.COUNT.w (s.g PORT_CTL.INGRESS_DROP.COUNT p) 1) ∧
        (s.hostUp p = true → s.g PORT_CTL.HOSTSTAT.THRU_ACTIVE p ≠ 1 →
          t.g PORT_CTL.RXBLK_HI.N p * 2 ^ 32 + t.g PORT_CTL.RXBLK_LO.N p =
            (s.g PORT_CTL.RXBLK_HI.N p * 2 ^ 32 + s.g PORT_CTL.RXBLK_LO.N p + 1) % 2 ^ 64)) ∧
    (∀ l slot, l < 32 →
      s.runsTo (.hostBlockRx l slot idleBlock.sync idleBlock.payload) fun t =>
        t.regs = s.regs ∧ t.ports = s.ports ∧ t.lines = s.lines) ∧
    ((s.port p).pauseOn = true → s.ingressRoom p < 4 * (s.port p).ingress.length →
      s.runsTo (.pauseRepeat p) fun t =>
        (t.port p).pauseOn = true ∧ t.g PORT_CTL.PAUSE_TX.COUNT p = satAdd 32 (s.g PORT_CTL.PAUSE_TX.COUNT p) 1 ∧
        t.lines = s.lines ∧ ∀ q, q ≠ p → t.port q = s.port q) ∧
    ((s.port p).pauseOn = true → 4 * (s.port p).ingress.length ≤ s.ingressRoom p →
      s.runsTo (.pauseXon p) fun t =>
        (t.port p).pauseOn = false ∧ t.g PORT_CTL.PAUSE_TX.COUNT p = satAdd 32 (s.g PORT_CTL.PAUSE_TX.COUNT p) 1 ∧
        t.lines = s.lines ∧ ∀ q, q ≠ p → t.port q = s.port q) ∧
    (s.isV p = true → s.isAnchor p = true → s.hostStat p ≠ (s.port p).lastStat → s.ownHostUp p = (s.port p).sortUp →
      s.runsTo (.hoststatSend p) fun t =>
        t.port p = { s.port p with hostDue := 4, lastStat := s.hostStat p } ∧ t.regs = s.regs ∧ t.lines = s.lines ∧
        ∀ q, q ≠ p → t.port q = s.port q) ∧
    (s.isV p = true → s.isAnchor p = true → s.hostStat p = (s.port p).lastStat → s.ownHostUp p = (s.port p).sortUp →
      s.runsTo (.hoststatSend p) fun t =>
        t.port p = { s.port p with hostDue := max 1 (s.port p).hostDue } ∧ t.regs = s.regs ∧ t.lines = s.lines ∧
        ∀ q, q ≠ p → t.port q = s.port q) ∧
    (∀ m : List Nat, s.g PORT_CTL.HOSTSTAT.THRU_ACTIVE p ≠ 1 → s.isV p = true → s.isAnchor p = true → m.getD 1 0 < 256 → m.getD 2 0 < 256 → m.getD 3 0 < 256 →
      s.fault.s3 = false → s.runsTo (.hoststatRx p m) fun t =>
        t.g PORT_CTL.HOSTSTAT.PEER_UP p = m.getD 0 0 % 2 ∧
        t.g PORT_CTL.HOSTSTAT.ONWARD p = (if m.getD 0 0 % 2 = 0 then 0 else m.getD 1 0 * 256 + m.getD 2 0) ∧
        t.g PORT_CTL.HOSTSTAT.HOPS p = m.getD 3 0 % 2 ^ PORT_CTL.HOSTSTAT.HOPS.w ∧
        t.port p = { s.port p with statSince := none, fill := (t.port p).fill } ∧
        (s.portUp p = true → m.getD 0 0 % 2 = 0 → (t.port p).fill = remoteFault) ∧
        t.lines = s.lines ∧ ∀ q, q ≠ p → t.port q = s.port q) ∧
    (∀ since, s.g PORT_CTL.HOSTSTAT.THRU_ACTIVE p ≠ 1 → (s.port p).statSince = some since → sfcCome (sfcAdd since 256) (s.portSfc p) = true →
      s.fault.s3 = false → s.runsTo (.hoststatTimeout p) fun t =>
        t.g PORT_CTL.HOSTSTAT.PEER_UP p = 1 ∧ t.g PORT_CTL.HOSTSTAT.ONWARD p = 0xFFFF ∧ t.g PORT_CTL.HOSTSTAT.HOPS p = 0 ∧
        t.port p = { s.port p with statSince := none, fill := (t.port p).fill } ∧ t.lines = s.lines ∧
        ∀ q, q ≠ p → t.port q = s.port q)

/-- In FOLLOW a mark of SYNC_IN is measured against its place, IN_DELAY samples before the boundary; a frame of 64 marks whose
high times spell an SFC gives a grid that no line uses its number, with LOCKED set (R268, R269); a locked grid that it matches
goes on as it is. No edge for four superframes sets LOST. Outside FOLLOW the pin does nothing. -/
def Obligations.SyncChain : Prop :=
  ∀ s : State,
    (∀ (edge offset : Int) (bs : List Bool), s.syncFollows = true → s.g SYNC.STAT.LOCKED = 0 → s.gridInUse = false →
      s.ev.syncBits = some bs → bs.length = 63 →
      offset = edge + 16 * (s.g SYNC.CTRL.IN_DELAY : Int) → -32768 ≤ offset → offset ≤ 32767 →
      s.runsTo (.syncInEdge edge 512) fun t =>
        (t.sfc, t.sym) = s.syncPoint ((ofMsb (bs.take 48) + 64) % 2 ^ 48) ∧ t.ev.syncBits = some [] ∧
        t.g SYNC.STAT.LOCKED = 1 ∧ t.g SYNC.STAT.MISMATCH = 0 ∧
        t.g SYNC.STAT.OFFSET = ofSigned 16 offset ∧ t.lines = s.lines) ∧
    (∀ (edge offset : Int) (high : Nat), s.syncFollows = true → s.g SYNC.STAT.LOCKED = 1 →
      offset = edge + 16 * (s.g SYNC.CTRL.IN_DELAY : Int) → -32 ≤ offset → offset ≤ 32 →
      (syncMark s.ev.syncBits high).2.all (fun f => (s.syncPoint f).1 == s.sfc) = true →
      s.runsTo (.syncInEdge edge high) fun t =>
        t.sfc = s.sfc ∧ t.sym = s.sym ∧ t.g SYNC.STAT.LOCKED = 1 ∧ t.g SYNC.STAT.LOST = 0 ∧ t.ev.syncOff = 0 ∧
        t.ev.syncBits = (syncMark s.ev.syncBits high).1 ∧ t.lines = s.lines) ∧
    (s.syncFollows = true → s.runsTo .syncLost fun t => t.g SYNC.STAT.LOST = 1 ∧ t.sfc = s.sfc ∧ t.lines = s.lines) ∧
    (∀ (edge : Int) (high : Nat), s.syncFollows = false → s.runsTo (.syncInEdge edge high) fun t => t = s)

/-- The cluster's free slot goes to its one due line where the placement allows: on an OFF or QUIET line the run starts at once
and the slot shows the line as running (R228 to R230); on a line in SHOWTIME whose port negotiates nothing, a calibration gap
is proposed ten superframes on (log 67), the slot held by it (R27, R228). The other lines' calibrations are untouched. -/
def Obligations.CalibrationSlots : Prop :=
  ∀ (s : State) (c l : Nat), c < 4 → s.slotKind c = 0 → s.g CALMGR.STAT.TXCLR ≠ 1 → s.fault.s3 = false →
    s.clusterRuns c = true → s.refinOk = true → (clusterLines c).filter s.calReady = [l] → (s.calX l).full = false →
    ((s.line l).st = .off ∨ (s.line l).st = .quiet →
      s.runsTo (.calSlotGrant c) fun t =>
        (t.calX l).st = 4 ∧ (t.calX l).onLoad = true ∧ t.slotKind c = 1 ∧ t.g CALMGR.SLOT.LINE 0 c = l ∧
        t.g (HDR.PAGE_STAT.BUSY .lafe) l = 1 ∧ t.lines = s.lines ∧ ∀ k, k ≠ l → t.calX k = s.calX k) ∧
    ((s.line l).st = .showtime → (s.line l).frozen = false → (s.port (s.anchor l)).neg = none →
      s.runsTo (.calSlotGrant c) fun t =>
        (t.calX l).st = 3 ∧ t.slotKind c = 2 ∧ t.g CALMGR.SLOT.LINE 0 c = l ∧
        (t.port (s.anchor l)).neg = some { ours := true, start := s.portSfc (s.anchor l), target := sfcAdd (s.portSfc (s.anchor l)) 10,
                                           changes := [.calGap l], count := 1, agreed := false, confirmed := false } ∧
        t.lines = s.lines ∧ ∀ k, k ≠ l → t.calX k = s.calX k)

/-- A run whose measurements pass ends with OK: the line is no longer due, its values are its own, CAL_COUNT advances and the
result is complete; new values of a TRACK run are applied in steps and those of a FULL run at once (R229, R234, R235). A run
that takes too long ends with TIMEOUT and counts as an attempt (R231). The spacing's end lets the next attempt start (R232);
HOLDOFF ends; the sixteenth step ends the application, whatever the line does, but that a run in a gap holds the steps until
it is over (R234). With every line calibrated, power-up calibration is done (R218). Times pass outside the safe state (R312;
log 75). -/
def Obligations.CalibrationRuns : Prop :=
  ∀ (s : State) (l : Nat), l < 128 →
    (∀ r : CalResult, (s.calX l).st = 4 → r.power ≤ s.partnerTh → r.peak ≤ s.partnerTh → r.dev.natAbs ≤ 50 → r.isolated = true →
      s.runsTo (.calRunDone l r) fun t =>
        (t.calX l).st = (if (s.calX l).full || (s.calX l).powerup then 0 else 5) ∧ (t.calX l).due = none ∧
        (t.calX l).powerup = false ∧ (t.calX l).onLoad = false ∧ t.g LAFE.CAL_STAT.REASON l = 0 ∧
        t.g LAFE.CAL_STAT.VALUES l = 1 ∧ t.g LAFE.CAL_COUNT.COUNT l = satAdd 32 (s.g LAFE.CAL_COUNT.COUNT l) 1 ∧
        t.g LAFE.PAIRPWR.DBM l = ofSigned 16 r.power ∧ t.g (HDR.PAGE_STAT.BUSY .lafe) l = 0 ∧
        ∀ k, k ≠ l → t.calX k = s.calX k) ∧
    (∀ r : CalResult, (s.calX l).st = 4 → s.partnerTh < r.power →
      s.runsTo (.calRunDone l r) fun t =>
        (t.calX l).st ≠ 4 ∧ t.g LAFE.CAL_STAT.REASON l = 1 ∧
        t.g LAFE.CAL_COUNT.COUNT l = s.g LAFE.CAL_COUNT.COUNT l ∧ ∀ k, k ≠ l → t.calX k = s.calX k) ∧
    ((s.calX l).st = 4 →
      s.runsTo (.calRunTimeout l) fun t =>
        (t.calX l).st ≠ 4 ∧ t.g LAFE.CAL_STAT.REASON l = 3 ∧
        t.g LAFE.ABORTS.ATTEMPTS l = satAdd 16 (s.g LAFE.ABORTS.ATTEMPTS l) 1 ∧ ∀ k, k ≠ l → t.calX k = s.calX k) ∧
    (s.g CALMGR.STAT.TXCLR = 0 → s.fault.s3 = false → (s.calX l).powerup = false →
      s.runsTo (.calRetryDue l) fun t =>
        t.calX l = { s.calX l with spacing := false, cleared := false } ∧ t.regs = s.regs ∧ t.lines = s.lines ∧
        ∀ k, k ≠ l → t.calX k = s.calX k) ∧
    ((s.calX l).st = 6 → (s.calX l).due.isSome = true →
      s.fault.s3 = false → s.runsTo (.calHoldoffEnd l) fun t =>
        t.calX l = { s.calX l with st := 1, loadFails := 0 } ∧ t.regs = s.regs ∧ t.lines = s.lines ∧
        ∀ k, k ≠ l → t.calX k = s.calX k) ∧
    ((s.calX l).st = 5 → (s.calX l).applyHeld = false → (s.calX l).applied + 1 < 16 →
      s.fault.s3 = false → s.runsTo (.calApplyStep l) fun t =>
        t.calX l = { s.calX l with applied := (s.calX l).applied + 1 } ∧ t.regs = s.regs ∧ t.lines = s.lines ∧
        ∀ k, k ≠ l → t.calX k = s.calX k) ∧
    ((s.calX l).st = 5 → (s.calX l).applyHeld = false → 16 ≤ (s.calX l).applied + 1 →
      s.fault.s3 = false → s.runsTo (.calApplyStep l) fun t =>
        (t.calX l).st = (if (s.calX l).due.isSome then 1 else 0) ∧ (t.calX l).applyTo = [] ∧ (t.calX l).applied = 0 ∧
        t.lines = s.lines ∧ ∀ k, k ≠ l → t.calX k = s.calX k) ∧
    (s.clk.calDone = false → (∀ k, k < 128 → (s.calX k).powerup = false) →
      s.runsTo .powerupCalDone fun t => t.clk = { s.clk with calDone := true } ∧ t.cal = s.cal ∧ t.lines = s.lines)

/-- A calibration gap (R27): without the partner's agreement for eight superframes its run ends with PARTNER_ACTIVE (R231); an
agreed gap lowers the port's issue from two superframes before it; at its start the frozen line is taken to the internal load,
unless REFIN is bad, which ends the run with REF_BAD; five superframes on the line is thawed and the port's rate no longer
lowered. Said of states outside the safe state (R312; log 75). -/
def Obligations.CalibrationGaps : Prop :=
  ∀ (s : State) (l : Nat), l < 128 → s.fault.s3 = false →
    (∀ n : Neg, s.gapNeg l = some n → n.agreed = false → n.confirmed = false → (s.calX l).st = 3 →
      sfcCome (sfcAdd n.start 8) (s.portSfc (s.anchor l)) = true →
      s.runsTo (.calGapAgreeTimeout l) fun t =>
        (t.calX l).st ≠ 3 ∧ t.g LAFE.CAL_STAT.REASON l = 1 ∧ ∀ k, k ≠ l → t.calX k = s.calX k) ∧
    (∀ n : Neg, (s.port (s.anchor l)).neg = some n → .calGap l ∈ n.changes → n.agreed = true →
      sfcFrom (s.portSfc (s.anchor l)) n.target ≤ 2 →
      s.runsTo (.calGapStampLower l) fun t =>
        t.port (s.anchor l) = { s.port (s.anchor l) with
          lowered := some ((s.modLine l fun x => { x with frozen := true }).lineRate (s.anchor l)) } ∧
        t.regs = s.regs ∧ t.lines = s.lines ∧ ∀ q, q ≠ s.anchor l → t.port q = s.port q) ∧
    ((s.line l).frozen = true → (s.calX l).st = 3 → s.refinOk = true →
      s.runsTo (.calGapStart l) fun t =>
        t.calX l = { s.calX l with st := 4, onLoad := true, since := s.time.sec * 10 ^ 9 + s.time.ns } ∧ t.regs = s.regs ∧ t.lines = s.lines ∧
        ∀ k, k ≠ l → t.calX k = s.calX k) ∧
    ((s.line l).frozen = true → (s.calX l).st = 3 → s.refinOk = false →
      s.runsTo (.calGapStart l) fun t => t.g LAFE.CAL_STAT.REASON l = 6 ∧ (t.calX l).st ≠ 3) ∧
    (∀ since, (s.calX l).gap = some since → (s.line l).frozen = true → sfcCome (sfcAdd since 5) (s.portSfc (s.anchor l)) = true →
      s.runsTo (.calGapEnd l) fun t =>
        (t.line l).frozen = false ∧ (t.line l).ohBad = 0 ∧ (t.calX l).gap = none ∧ (t.port (s.anchor l)).lowered = none)

/-- On a running grid a superframe's start advances the superframe counter by one, modulo 2^48, to symbol 0, and a tail's count of
its partner with it (R21, R22); outside RUN and DOZE, in the safe state, or with no cluster's PLL locked, nothing moves
(R281). A symbol sent is the symbol in progress. A pilot cycle's start moves the pilot errors gathered to the cycle before
(R94, R97). A joining line that is not heard in the first 16 pilot symbols of its second cycle ends the join (R136, R137); in
the safe state no symbol is taken. -/
def Obligations.GridAndCycles : Prop :=
  ∀ s : State,
    (s.fault.s3 = false → s.controlRunning = true → s.pwr.state < 2 → s.pwr.waking = false → s.clk.grid = true →
      s.gridRuns = true →
      s.runsTo .superframeStart fun t =>
        t.sfc = (s.sfc + 1) % 2 ^ 48 ∧ t.sym = 0 ∧ t.clk.grid = true) ∧
    (s.fault.s3 = true ∨ s.controlRunning = false ∨ 2 ≤ s.pwr.state ∨ s.pwr.waking = true ∨ s.gridRuns = false →
      s.runsTo .superframeStart fun t => t = s) ∧
    (∀ (meters : List LineMeter), s.fault.s3 = false → s.clk.grid = true → s.gridRuns = true → s.sfc % 128 = 0 → s.sym = 0 →
      s.runsTo (.pilotCycleStart meters) fun t =>
        t.xe.prevErr = s.xe.pilotErr ∧ t.xe.pilotErr = [] ∧ t.sfc = s.sfc ∧ t.sym = 0) ∧
    (∀ (n : Nat) (events : List TimedMessage), s.fault.s3 = false →
      s.runsTo (.symbolTx n events) fun t => t.sym = n ∧ t.sfc = s.sfc ∧ t.pwr = s.pwr ∧ t.time = s.time) ∧
    (∀ (missing : List Nat) (j : Join) (l : Nat), s.fault.s3 = false → s.xe.join = some j →
      128 ≤ sfcFrom j.start s.sfc → sfcFrom j.start s.sfc < 144 → l ∈ missing → l ∈ j.lines →
      s.runsTo (.symbolRx 0 [] missing [] [] []) fun t => t.xe.join = none ∧ t.sfc = s.sfc ∧ t.sym = s.sym) ∧
    (∀ (n : Nat) (ys : List LineSamples) (missing wakes trains : List Nat) (events : List TimedMessage), s.fault.s3 = true →
      s.runsTo (.symbolRx n ys missing wakes trains events) fun t => t = s)

/-- A DTU whose time in the retransmission buffer ends leaves it (R79); a missing DTU given up counts as lost (R81). With no
beacon on its tag, erasure ends on the heads of the tag. The average arrival offset of a running head is shown (R93); a tail's
correction of timing advance takes effect when it is due, shows in TADV and gives the round trip (R134); an arrival out of
band retrains a running head with TIMING (R147). What the DSP brings is said of states in which it runs, and times that pass
of states outside the safe state (R297, R298, R312; log 75). -/
def Obligations.DtusAndErasure : Prop :=
  ∀ s : State,
    (∀ p seq, p < 128 →
      s.fault.s3 = false → s.runsTo (.dtuBufferExpire p seq) fun t =>
        t.port p = { s.port p with held := (s.port p).held.filter fun d => d.dtu.seq != seq } ∧ t.regs = s.regs ∧
        t.lines = s.lines ∧ ∀ q, q ≠ p → t.port q = s.port q) ∧
    (∀ p, p < 128 → (s.port p).rxHeld ≠ [] → (s.port p).express = false →
      s.fault.s3 = false → s.runsTo (.dtuGiveUp p) fun t =>
        t.g LMON.DTU_LOST.COUNT p = satAdd 32 (s.g LMON.DTU_LOST.COUNT p) 1 ∧ t.lines = s.lines) ∧
    (∀ tag, s.tagBeacons tag = false →
      s.fault.s3 = false → s.runsTo (.beaconErasureEnd tag) fun t =>
        (∀ l, l < 128 → s.tag l = tag → s.isVHead l = true → t.g LLOAD.ERASE.MASK l 0 = 0) ∧ t.lines = s.lines) ∧
    (∀ (l : Nat) (sum : Int), l < 128 → s.isVHead l = true → (s.line l).st = .showtime →
      s.dspRuns = true → s.runsTo (.deltaAverage l sum) fun t =>
        t.g LLOAD.ARRIVAL.DELTA l = ofSigned 16 (nearest sum 16) ∧ (t.line l).st = .showtime ∧
        ∀ k, k ≠ l → t.line k = s.line k) ∧
    (∀ (l : Nat) (c : Int) (due : Nat), l < 128 → (s.line l).taPending = some (c, due) → sfcCome due (s.pageSfc .ltrain l) = true →
      s.dspRuns = true → s.runsTo (.taAdjust l) fun t =>
        t.line l = { s.line l with
          ta := min (2 ^ 20 - 1) (((s.line l).ta : Int) + c).toNat
          roundTrip := min (2 ^ 20 - 1) (((s.line l).ta : Int) + c).toNat + 64
          taPending := none } ∧
        t.g LLOAD.TADV.TA l = min (2 ^ 20 - 1) (((s.line l).ta : Int) + c).toNat ∧
        t.posts = s.posts ∧ t.staged = s.staged ∧ ∀ k, k ≠ l → t.line k = s.line k) ∧
    (∀ l, l < 128 → s.isVHead l = true → (s.line l).st = .showtime ∨ (s.line l).st = .banked →
      s.dspRuns = true → s.runsTo (.arrivalOutOfBand l) (s.retrained l rsTiming))

/-- An overhead word that fails its CRC-8 counts in OHW_FAIL, and a good one ends the run of bad ones (R69). The first message of
another end's proposal opens that negotiation at its target, unless ours is open (R33). A LOAD segment of a new table begins
its set (R142); a tail takes a TIMING correction, due three superframes on. Said of states in which the line DSP runs (R297,
R298, R312; log 75). -/
def Obligations.OverheadReceived : Prop :=
  ∀ s : State,
    (∀ (l n : Nat) (w : Word), l < 128 → s.isV l = true → s.hearsOverhead l = true → (s.line l).frozen = false → n < 63 →
      ohDecode w.toNat = none →
      s.dspRuns = true → s.runsTo (.overheadWordRx l n w) fun t =>
        t.g LMON.OHW_FAIL.COUNT l = satAdd 32 (s.g LMON.OHW_FAIL.COUNT l) 1 ∧ (t.line l).ohBad = (s.line l).ohBad ∧
        (t.line l).rxFrame.find n = none ∧ ∀ k, k ≠ l → t.line k = s.line k) ∧
    (∀ (l n : Nat) (w : Word) (v : OhWord), l < 128 → s.isV l = true → s.hearsOverhead l = true → (s.line l).frozen = false →
      n < 63 → ohDecode w.toNat = some v → v.code ≠ 1 → v.code ≠ 4 →
      s.dspRuns = true → s.runsTo (.overheadWordRx l n w) fun t =>
        (t.line l).ohBad = 0 ∧ (t.line l).rxFrame.find n = some v.frag ∧
        t.g LMON.OHW_FAIL.COUNT l = s.g LMON.OHW_FAIL.COUNT l ∧ ∀ k, k ≠ l → t.line k = s.line k) ∧
    (∀ (p target : Nat) (m : List Nat), p < 128 → s.messageLines p ≠ [] → (s.port p).neg = none →
      (m.getD 0 0 * 256 + m.getD 1 0) % 2 ^ 16 ≠ s.portSfc p % 2 ^ 16 →
      target = sfcAdd (s.portSfc p) ((m.getD 0 0 * 256 + m.getD 1 0 + 2 ^ 16 - s.portSfc p % 2 ^ 16) % 2 ^ 16) →
      m.getD 0 0 < 256 → m.getD 1 0 < 256 → 2 ≤ m.getD 25 0 → m.getD 25 0 ≤ 16 → m.getD 26 0 < m.getD 25 0 →
      s.dspRuns = true → s.runsTo (.sealMessageRx p m) fun t =>
        (t.port p).neg = some { ours := false, start := s.portSfc p, target := target, changes := [], count := m.getD 25 0,
                                agreed := false, confirmed := false } ∧
        (t.port p).sealHeld.find (m.getD 26 0) = some m ∧ t.regs = s.regs ∧ t.lines = s.lines ∧
        ∀ q, q ≠ p → t.port q = s.port q) ∧
    (∀ (l : Nat) (m : List Nat), l < 128 → s.isVHead l = true → (s.line l).st = .training → m.getD 0 0 % 16 ≤ 10 →
      (s.port (s.anchor l)).neg.all (fun n => n.ours || n.agreed) = true →
      ((s.line l).inLoad.get {} (bnat (bit (m.getD 0 0) 7))).id ≠ m.getD 1 0 →
      s.dspRuns = true → s.runsTo (.loadMessageRx l m) fun t =>
        (t.line l).st = .training ∧
        ((t.line l).inLoad.get {} (bnat (bit (m.getD 0 0) 7))) =
          { id := m.getD 1 0, segs := [(m.getD 0 0 % 16, segEntries m)] } ∧
        t.regs = s.regs ∧ ∀ k, k ≠ l → t.line k = s.line k) ∧
    (∀ l corr, l < 128 → s.isVTail l = true → s.hearsOverhead l = true →
      s.dspRuns = true → s.runsTo (.timingMessageRx l corr) fun t =>
        t.line l = { s.line l with taPending := some (toSigned 8 corr, sfcAdd (s.pageSfc .ltrain l) 3) } ∧ t.regs = s.regs ∧
        ∀ k, k ≠ l → t.line k = s.line k)

/-- An armed post of the XENGINE page that is due takes its staged pilot set into effect: RESULT is POSTED, the envelope's post is
over and the value shows (R38, R39). A sealed post that was held or queued starts its negotiation once its line runs in
SHOWTIME, its port's proposal four superframes on (R40 to R42). A queued sealed post whose line no longer runs is refused when
the next negotiation could start (R41). One superframe before its target an agreed proposal of ours is confirmed, and the
posts it carries with it (R33, R40). Said of states outside the safe state (R312; log 75). -/
def Obligations.SealedPosts : Prop :=
  ∀ s : State,
    (∀ (x : Post) (v : Nat), s.controlRunning = true → s.fault.s3 = false → s.rest = [] → s.posts = [x] → x.page = .xengine →
      x.inst = 0 → x.member = false → x.phase = .armed → x.sealedPost = false → s.landingDue s.sfc x.moment x.target = true →
      s.heldPost .xengine 0 = false → s.conflicts [(.xengine, 0)] = false →
      s.stagedAt XENGINE.CTRL.PILOTSET 0 0 = some v → v < 4 →
      s.runsTo (.postLands .xengine 0) fun t =>
        t.g XENGINE.CTRL.PILOTSET = v ∧ t.g (HDR.ENV_STAT.RESULT .xengine) = resPosted ∧ t.posts = [] ∧
        t.stagedAt XENGINE.CTRL.PILOTSET 0 0 = none) ∧
    (∀ (p : Nat) (x : Post), p < 128 → s.posts = [x] → x.sealedPost = true → x.member = false → x.phase = .queued →
      s.pagePort x.page x.inst = some p → s.postKind [(x.page, x.inst)] (x.page, x.inst) ≠ 1 → s.run = none →
      s.fault.s3 = false → s.runsTo (.sealedNegotiationStart p) fun t =>
        t.posts = [] ∧ t.g (HDR.ENV_STAT.RESULT x.page) x.inst = resRefused ∧ t.lines = s.lines) ∧
    (∀ (p : Nat) (x : Post), p < 128 → s.posts = [x] → x.sealedPost = true → x.member = false →
      x.phase = .held ∨ x.phase = .queued → x.plain = false → x.target = none → s.pagePort x.page x.inst = some p →
      s.postKind [(x.page, x.inst)] (x.page, x.inst) = 1 → s.sealedTooLong [(x.page, x.inst)] = false →
      s.conflicts [(x.page, x.inst)] = false → s.messageCount [(x.page, x.inst)] p ≤ 16 →
      s.maskLines [(x.page, x.inst)] p = [] → (s.port p).neg = none → s.run = none →
      s.fault.s3 = false → s.runsTo (.sealedNegotiationStart p) fun t =>
        t.posts = [{ x with phase := .negotiating, target := some (sfcAdd (s.pageSfc x.page x.inst) 4) }] ∧
        ∃ n, (t.port p).neg = some n ∧ n.ours = true ∧ n.start = s.portSfc p ∧ n.target = sfcAdd (s.portSfc p) 4 ∧
          n.agreed = false ∧ n.confirmed = false) ∧
    (∀ (p : Nat) (n : Neg), p < 128 → (s.port p).neg = some n → n.ours = true → n.confirmed = false → n.withdrawn = false →
      n.agreed = true → n.target = sfcAdd (s.portSfc p) 1 → p ∉ s.runPorts →
      s.fault.s3 = false → s.runsTo (.sealConfirm p) fun t =>
        (t.port p).neg = some { n with confirmed := true } ∧ (t.port p).sealCode = 3 ∧ t.regs = s.regs ∧ t.lines = s.lines ∧
        (∀ y ∈ t.posts, s.ofPort p y = true → y.phase ≠ .negotiating) ∧ ∀ q, q ≠ p → t.port q = s.port q)

/-- A granted write of a page's header (R35, R384). EVT_EN takes the bits of the page's conditions, the reserved ones staying 0
(R11); besides it only the count of in-band EVENT blocks may move. LOCK takes its bit, either way; FREEZE written 1 keeps a
counter's value as it is shown; EVT_PEND loses the bits written 1 and gains those the hardware sets in the same cycle, which
win (R36); EVT_INJECT sets its bits as edges, one with a real edge of the same condition; EVT_COUNT.CLR zeroes the count. A
soft reset leaves LOCK, and empties the envelope (R10). A letterbox page is written in the channel's own bank (R49). IDENT
accepts no write (R385), so none is granted there. PEND and COUNT are taken within their widths. -/
def Obligations.HeaderWrites : Prop :=
  ∀ (s : State) (ch : Channel) (p : Page) (i : Nat) (w : Word), i < p.count → (p = .letterbox → i = chIx ch) →
    (s.grants ch (HDR.EVT_EN.EN p) i 0 w.toNat = true →
      s.runsTo (.registerWrite ch ((HDR.EVT_EN.EN p).addr i 0) 4 w) fun t =>
        t.g (HDR.EVT_EN.EN p) i = w.toNat &&& condMask p ∧ t.lines = s.lines ∧
        ∀ (G : Fld) (a b : Nat), G.key a b ≠ (HDR.EVT_EN.EN p).key i 0 → G.key a b ≠ EVENTS.IB_SENT.COUNT.key 0 0 →
          t.g G a b = s.g G a b) ∧
    (s.grants ch (HDR.PAGE_CTRL.LOCK p) i 0 w.toNat = true → w.toNat % 2 = s.g (HDR.PAGE_CTRL.ENABLE p) i →
      w.toNat / 2 % 2 = 0 → w.toNat / 4 % 2 = s.g (HDR.PAGE_CTRL.FREEZE p) i →
      s.runsTo (.pageLockWrite ch p i w) fun t =>
        t.g (HDR.PAGE_CTRL.LOCK p) i = w.toNat / 8 % 2 ∧ s.onlyReg (HDR.PAGE_CTRL.LOCK p) i 0 t ∧ t.lines = s.lines) ∧
    (s.grants ch (HDR.PAGE_CTRL.FREEZE p) i 0 (withOnes w (HDR.PAGE_CTRL.FREEZE p)) = true →
      w.toNat % 2 = s.g (HDR.PAGE_CTRL.ENABLE p) i → w.toNat / 2 % 2 = 0 → w.toNat / 8 % 2 = s.g (HDR.PAGE_CTRL.LOCK p) i →
      s.g (HDR.PAGE_CTRL.FREEZE p) i = 0 →
      s.runsTo (.pageFreeze ch p i w) fun t =>
        t.g (HDR.PAGE_CTRL.FREEZE p) i = 1 ∧ s.onlyReg (HDR.PAGE_CTRL.FREEZE p) i 0 t ∧ t.lines = s.lines ∧
        (p = .lmon → t.shown LMON.DTU_LOST.COUNT i 0 = s.g LMON.DTU_LOST.COUNT i)) ∧
    (∀ hw : Word, s.grants ch (HDR.EVT_PEND.PEND p) i 0 w.toNat = true → s.g (HDR.EVT_PEND.PEND p) i < 2 ^ 32 →
      s.g (HDR.EVT_COUNT.COUNT p) i < 2 ^ 16 →
      s.runsTo (.evtPendClear ch p i w hw) fun t =>
        t.g (HDR.EVT_PEND.PEND p) i =
          (s.g (HDR.EVT_PEND.PEND p) i - (s.g (HDR.EVT_PEND.PEND p) i &&& (w.toNat &&& condMask p))) |||
            (hw.toNat &&& condMask p) ∧
        t.g (HDR.EVT_COUNT.COUNT p) i =
          satAdd 16 (s.g (HDR.EVT_COUNT.COUNT p) i) (popCount (hw.toNat &&& condMask p)) ∧ t.lines = s.lines) ∧
    (∀ hw : Word, s.grants ch (HDR.EVT_INJECT.INJECT p) i 0 w.toNat = true → s.g (HDR.EVT_PEND.PEND p) i < 2 ^ 32 →
      s.g (HDR.EVT_COUNT.COUNT p) i < 2 ^ 16 →
      s.runsTo (.evtInject ch p i w hw) fun t =>
        t.g (HDR.EVT_PEND.PEND p) i =
          s.g (HDR.EVT_PEND.PEND p) i ||| (w.toNat &&& condMask p) ||| (hw.toNat &&& condMask p) ∧
        t.g (HDR.EVT_COUNT.COUNT p) i =
          satAdd 16 (s.g (HDR.EVT_COUNT.COUNT p) i) (popCount ((w.toNat ||| hw.toNat) &&& condMask p)) ∧ t.lines = s.lines) ∧
    (s.grants ch (HDR.EVT_COUNT.CLR p) i 0 (withOnes w (HDR.EVT_COUNT.CLR p)) = true →
      s.runsTo (.evtCountClr ch p i w) fun t =>
        t.g (HDR.EVT_COUNT.COUNT p) i = 0 ∧ s.onlyReg (HDR.EVT_COUNT.COUNT p) i 0 t ∧ t.lines = s.lines) ∧
    (s.grants ch (HDR.PAGE_CTRL.SOFT_RESET p) i 0 (withOnes w (HDR.PAGE_CTRL.SOFT_RESET p)) = true →
      w.toNat % 2 = s.g (HDR.PAGE_CTRL.ENABLE p) i → w.toNat / 4 % 2 = s.g (HDR.PAGE_CTRL.FREEZE p) i →
      w.toNat / 8 % 2 = s.g (HDR.PAGE_CTRL.LOCK p) i →
      s.runsTo (.softReset ch p i w) fun t =>
        t.g (HDR.PAGE_CTRL.LOCK p) i = s.g (HDR.PAGE_CTRL.LOCK p) i ∧ t.g (HDR.EVT_EN.EN p) i = 0 ∧
        ∀ F ∈ pageFields p, F.acc = .rws → ∀ j, j < F.cnt → t.stagedAt F i j = none)

/-- A granted write of an RWS word stages its value and leaves the value in effect (R12). A granted POST arms the page's post: as
a member of the next mail run, or at once on its own (R37, R38), a new RANGE of a line that waits for SHOWTIME as a sealed one
(R42); SEALED where nothing may be sealed ends it with CONFLICT. DISCARD empties the envelope with RESULT DISCARDED. RUN
starts a mail run of the armed members; IMMEDIATE ends it with CONFLICT, and a run without members ends POSTED; CANCEL before
it begins drops the members and keeps their content (R43). TAKE takes a free bus lock and RELEASE frees the channel's own
(R43, R55). -/
def Obligations.EnvelopeWrites : Prop :=
  ∀ (s : State) (ch : Channel) (w : Word),
    (∀ l j, l < 128 → j < 4 → s.postOf .lload l = none → s.grants ch LLOAD.HOSTMASK.MASK l j w.toNat = true →
      s.runsTo (.registerWrite ch (LLOAD.HOSTMASK.MASK.addr l j) 4 w) fun t =>
        t.stagedAt LLOAD.HOSTMASK.MASK l j = some w.toNat ∧ t.regs = s.regs ∧ t.posts = s.posts ∧ t.lines = s.lines) ∧
    (∀ p i, i < p.count → p ≠ .letterbox → hasEnvelope p = true →
      s.grants ch (HDR.ENV_CTRL.POST p) i 0 (withOnes w (HDR.ENV_CTRL.POST p)) = true → w.toNat / 512 % 2 = 0 →
      (w.toNat / 4 % 4 = 2 →
        s.runsTo (.envPost ch p i w) fun t =>
          t.posts = s.posts ++ [{ page := p, inst := i, moment := w.toNat % 4, target := none,
                                  sealedPost := decide (p = .lafe) && s.rangeWaits i, member := true, phase := .armed }] ∧ t.staged = s.staged ∧ t.lines = s.lines) ∧
      (w.toNat % 16 = 0 → (p = .lafe → s.rangeWaits i = false) →
        s.runsTo (.envPost ch p i w) fun t =>
          t.posts = s.posts ++ [{ page := p, inst := i, moment := 0, target := none, sealedPost := false,
                                  member := false, phase := .armed }] ∧ t.staged = s.staged ∧ t.lines = s.lines) ∧
      (w.toNat / 4 % 2 = 1 → sealable p = false →
        s.runsTo (.envPost ch p i w) fun t =>
          t.g (HDR.ENV_STAT.RESULT p) i = resConflict ∧ t.posts = s.posts ∧ t.staged = s.staged ∧ t.lines = s.lines)) ∧
    (∀ p i, i < p.count → p ≠ .letterbox → hasEnvelope p = true →
      s.grants ch (HDR.ENV_CTRL.DISCARD p) i 0 (withOnes w (HDR.ENV_CTRL.DISCARD p)) = true → w.toNat / 256 % 2 = 0 →
      s.run = none →
      s.runsTo (.envDiscard ch p i w) fun t =>
        t.g (HDR.ENV_STAT.RESULT p) i = resDiscarded ∧ t.postOf p i = none ∧
        (∀ F ∈ pageFields p, F.acc = .rws → ∀ j, j < F.cnt → t.stagedAt F i j = none) ∧ t.lines = s.lines) ∧
    (s.grants ch DEVENV.RUN_CTRL.RUN 0 0 (withOnes w DEVENV.RUN_CTRL.RUN) = true → w.toNat / 512 % 2 = 0 →
      (w.toNat % 4 = 0 →
        s.runsTo (.mailRun ch w) fun t =>
          t.run = none ∧ t.g DEVENV.RUN_STAT.RESULT = resConflict ∧ t.lines = s.lines) ∧
      (w.toNat % 4 = 1 ∨ w.toNat % 4 = 2 → s.runPages = [] →
        s.runsTo (.mailRun ch w) fun t =>
          t.run = none ∧ t.g DEVENV.RUN_STAT.RESULT = resPosted ∧ t.g DEVENV.RUN_STAT.MEMBERS = 0 ∧ t.lines = s.lines) ∧
      (∀ x : Post, w.toNat % 4 = 1 → s.posts = [x] → x.member = true → x.sealedPost = false →
        (isLinePage x.page = true → s.isVTail x.inst = false) →
        s.runsTo (.mailRun ch w) fun t =>
          t.run = some { moment := 1, target := none, begun := false, members := 1 } ∧
          t.posts = [{ x with phase := .armed, target := none }] ∧ t.g DEVENV.RUN_STAT.MEMBERS = 1 ∧ t.lines = s.lines)) ∧
    (s.grants ch DEVENV.RUN_CTRL.CANCEL 0 0 (withOnes w DEVENV.RUN_CTRL.CANCEL) = true → w.toNat / 256 % 2 = 0 →
      (∀ r, s.run = some r → r.begun = false) →
      s.runsTo (.mailRunCancel ch w) fun t =>
        (∀ x ∈ s.posts, x.member = true → t.postOf x.page x.inst = none ∧
          t.g (HDR.ENV_STAT.RESULT x.page) x.inst = resDiscarded) ∧
        t.run = none ∧ t.staged = s.staged ∧ t.lines = s.lines) ∧
    (s.grants ch DEVENV.BUSLOCK.TAKE 0 0 (withOnes w DEVENV.BUSLOCK.TAKE) = true → w.toNat / 2 % 2 = 0 →
      s.runsTo (.buslockTake ch w) fun t =>
        t.mgmt.busOwner = chIx ch + 1 ∧ t.regs = s.regs ∧ t.lines = s.lines) ∧
    (s.grants ch DEVENV.BUSLOCK.RELEASE 0 0 (withOnes w DEVENV.BUSLOCK.RELEASE) = true → w.toNat % 2 = 0 →
      s.runsTo (.buslockRelease ch w) fun t =>
        t.mgmt.busOwner = 0 ∧ t.regs = s.regs ∧ t.lines = s.lines)

/-- A granted write of CMD takes the lease and shows the command (R50 step 2). Each command's RING, granted with its opcode in CMD
(and ATTEST's function in word 0), frees the slot and hands Stoker the command with its arguments: BUSY and STALE are 1 (step
4); a role too low ends it at once with DENIED (R344, R345). A lease that ends before RING drops the command, with
LEASE_EXPIRED unless the channel's earlier command runs (step 3). Stoker answers ECHO with its arguments, an opcode of no
command with BAD_OPCODE, and the command of a session that closed with ABORTED, with BUSY 0 and the command's tag (step 5,
R342). FW_BEGIN opens an upload into the slot that does not run, FW_CHUNK adds the next chunk, FW_COMMIT verifies the whole
image (R337); EXPORT_BEGIN answers with the first part of a new parcel, EXPORT_NEXT with the next, IMPORT_CHUNK gathers a
parcel and IMPORT_COMMIT keeps a good one for the boot (R358, R359); SIGN makes a report under the next index and READ returns
a part of it (R346 to R348); DIAG answers with the result words of its page (R210). -/
def Obligations.LetterboxRows : Prop :=
  ∀ (s : State) (ch : Channel),
    (∀ w : Word, s.grants ch LETTERBOX.CMD.OPCODE (chIx ch) 0 w.toNat = true →
      s.runsTo (.letterboxCmd ch w) fun t =>
        t.mgmt.lbLease = some (chIx ch) ∧ t.g LETTERBOX.CMD.OPCODE (chIx ch) = w.toNat / 2 ^ 24 ∧
        t.g LETTERBOX.CMD.TAG (chIx ch) = w.toNat / 2 ^ 16 % 256 ∧ t.g LETTERBOX.CMD.LENGTH (chIx ch) = w.toNat % 512 ∧
        t.mgmt.lbCommands = s.mgmt.lbCommands ∧ t.lines = s.lines) ∧
    s.rings ch (.echo ch) 0x01 0 ∧ s.rings ch (.fwBegin ch) 0x20 2 ∧ s.rings ch (.fwChunk ch) 0x21 2 ∧
    s.rings ch (.fwCommit ch) 0x22 2 ∧ s.rings ch (.parcelExportBegin ch) 0x30 2 ∧
    s.rings ch (.parcelExportNext ch) 0x31 2 ∧ s.rings ch (.parcelImportChunk ch) 0x32 2 ∧
    s.rings ch (.parcelImportCommit ch) 0x33 2 ∧
    (s.g LETTERBOX.ARG.W (chIx ch) 0 % 256 = 0x01 → s.rings ch (.attestSign ch) 0x40 0) ∧
    (s.g LETTERBOX.ARG.W (chIx ch) 0 % 256 = 0x80 → s.rings ch (.attestRead ch) 0x40 0) ∧
    (∀ r, s.roleOf (chIx ch) = some r → s.g LETTERBOX.CMD.OPCODE (chIx ch) = 0x10 →
      1 ≤ r → s.grants ch LETTERBOX.DOORBELL.RING (chIx ch) 0 1 = true →
      (s.g LETTERBOX.CMD.LENGTH (chIx ch) < 3 ∨ s.g LETTERBOX.ARG.W (chIx ch) 0 % 256 ≠ 1 ∨ s.mgmt.lbCommands ≠ [] →
        s.mgmt.lbCommands.head?.all LbCommand.started = true →
        s.runsTo (.diag ch) fun t =>
          t.g LETTERBOX.LB_STAT.BUSY (chIx ch) = 1 ∧ t.mgmt.lbLease = none ∧ t.lines = s.lines ∧
          t.mgmt.lbCommands.map (·.opcode) = s.mgmt.lbCommands.map (·.opcode) ++ [0x10]) ∧
      (∀ l, 3 ≤ s.g LETTERBOX.CMD.LENGTH (chIx ch) → s.g LETTERBOX.ARG.W (chIx ch) 0 % 256 = 1 → s.mgmt.lbCommands = [] →
        diagPage (s.g LETTERBOX.ARG.W (chIx ch) 0) = some (.lmon, l) → s.busy .lmon l = false →
        s.turnsDown (LMON.CAP_CTRL.REQUEST.write ch l 0 (bits (s.g LETTERBOX.ARG.W (chIx ch) 1) 0 31 + 2 ^ 31)) = false →
        s.runsTo (.diag ch) fun t =>
          t.g LETTERBOX.LB_STAT.BUSY (chIx ch) = 1 ∧ t.mgmt.lbLease = none ∧ t.lines = s.lines ∧
          t.mgmt.lbCommands.map (fun x => (x.opcode, x.discard)) = [(0x10, false)] ∧ t.busy .lmon l = true ∧
          (t.monX l).cap.isSome = true)) ∧
    (s.mgmt.lbLease = some (chIx ch) →
      (s.mgmt.lbCommands.any (·.ch == chIx ch) = false →
        s.runsTo (.letterboxLeaseExpire ch) fun t =>
          t.mgmt.lbLease = none ∧ t.g LETTERBOX.LB_STAT.STATUS (chIx ch) = lbLeaseExpired ∧
          t.g (HDR.RESULT_SEQ.SEQ .letterbox) (chIx ch) = nextSeq (s.g (HDR.RESULT_SEQ.SEQ .letterbox) (chIx ch)) % 2 ^ 16 ∧
          t.lines = s.lines) ∧
      (s.mgmt.lbCommands.any (·.ch == chIx ch) = true →
        s.runsTo (.letterboxLeaseExpire ch) fun t => t.mgmt.lbLease = none ∧ t.regs = s.regs ∧ t.lines = s.lines)) ∧
    (∀ x : LbCommand, s.mgmt.lbCommands = [x] → x.ch = chIx ch → s.stokerRuns = true → x.opcode = 0x01 → x.discard = true →
      s.runsTo (.letterboxDone ch) fun t => s.answers ch lbAborted [] t ∧ t.mgmt.lbCommands = []) ∧
    (∀ args, s.serves ch 0x01 args = true →
      s.runsTo (.letterboxDone ch) fun t => s.answers ch lbOk args t ∧ t.trust = s.trust) ∧
    (∀ op args, opcodeRole op 0 = none → s.serves ch op args = true →
      s.runsTo (.letterboxDone ch) fun t => s.answers ch lbBadOpcode [] t ∧ t.trust = s.trust) ∧
    (∀ n args, s.serves ch 0x20 (n :: args) = true → 4097 ≤ n → n ≤ 16777216 → s.trust.bootState ≠ 3 →
      (s.trust.upload.all fun u => u.ch == chIx ch) = true →
      s.runsTo (.letterboxDone ch) fun t => s.answers ch lbOk [] t ∧
        t.trust.upload = some { ch := chIx ch, length := n, words := [], next := 0, lastLen := 0 } ∧
        t.image s.uploadSlot = { source := .erased, valid := false, confirmed := false }) ∧
    (∀ u data, s.trust.upload = some u → u.ch = chIx ch → s.serves ch 0x21 (u.next :: data) = true → data ≠ [] →
      data.length = min 255 (ceilDiv u.length 4 - u.words.length) →
      s.runsTo (.letterboxDone ch) fun t => s.answers ch lbOk [] t ∧
        t.trust.upload = some { u with words := u.words ++ data, next := u.next + 1, lastLen := data.length } ∧
        (t.image s.uploadSlot).source = .uploaded u.length (u.words ++ data)) ∧
    (∀ u args, s.trust.upload = some u → u.ch = chIx ch → s.serves ch 0x22 args = true → u.words.length = ceilDiv u.length 4 →
      s.runsTo (.letterboxDone ch) fun t =>
        s.answers ch (if s.verifyImage (s.image s.uploadSlot).source = 0 then lbOk else lbVerifyFail) [] t ∧
        t.trust.upload = none ∧
        t.image s.uploadSlot =
          { s.image s.uploadSlot with valid := s.verifyImage (s.image s.uploadSlot).source == 0 }) ∧
    (∀ w args k, s.slotKey (w % 8) useParcel = some k → s.serves ch 0x30 (w :: args) = true →
      s.runsTo (.letterboxDone ch) fun t =>
        s.answers ch lbOk ((s.makeParcel (w % 8) k (bit w 8)).length ::
          (bytesWords (s.makeParcel (w % 8) k (bit w 8))).take 255) t ∧
        t.trust.exports.find (chIx ch) =
          some { words := bytesWords (s.makeParcel (w % 8) k (bit w 8)), next := 1, lastLen := 0,
                 length := (s.makeParcel (w % 8) k (bit w 8)).length }) ∧
    (∀ e args, s.trust.exports.find (chIx ch) = some e → 255 * e.next < e.words.length → s.serves ch 0x31 args = true →
      s.runsTo (.letterboxDone ch) fun t =>
        s.answers ch lbOk (e.length :: (e.words.drop (255 * e.next)).take 255) t ∧
        t.trust.exports.find (chIx ch) = some { e with next := e.next + 1 }) ∧
    (∀ data, data ≠ [] → data.length ≤ 255 →
      (s.serves ch 0x32 (0 :: data) = true →
        s.runsTo (.letterboxDone ch) fun t => s.answers ch lbOk [] t ∧
          t.trust.imports.find (chIx ch) = some { words := data, next := 1, lastLen := data.length }) ∧
      (∀ e, s.trust.imports.find (chIx ch) = some e → e.next ≠ 0 → e.lastLen = 255 → s.serves ch 0x32 (e.next :: data) = true →
        s.runsTo (.letterboxDone ch) fun t => s.answers ch lbOk [] t ∧
          t.trust.imports.find (chIx ch) =
            some { e with words := e.words ++ data, next := e.next + 1, lastLen := data.length })) ∧
    (∀ e w args, s.trust.imports.find (chIx ch) = some e → s.parcelGood e.words = true → bit w 1 = false →
      s.serves ch 0x33 (w :: args) = true →
      s.runsTo (.letterboxDone ch) fun t => s.answers ch lbOk [] t ∧
        t.trust.imports.find (chIx ch) = none ∧
        t.trust.bootParcel = (if bit w 0 = true then e.words else s.trust.bootParcel)) ∧
    (∀ w args, w % 256 = 0x01 → 8 ≤ args.length → s.trust.attestOff = false → s.serves ch 0x40 (w :: args) = true →
      s.runsTo (.letterboxDone ch) fun t =>
        t.trust.attestNext = s.trust.attestNext + 1 ∧
        ∃ r, t.trust.reports.find (chIx ch) = some r ∧ r.take 192 = (s.reportBody (wordsBytes (args.take 8))).take 192 ∧
          s.answers ch lbOk ([r.length, 0] ++ bytesWords (r.take 1016)) t) ∧
    (∀ w off args r, w % 256 = 0x80 → s.trust.reports.find (chIx ch) = some r → s.serves ch 0x40 (w :: off :: args) = true →
      s.runsTo (.letterboxDone ch) fun t =>
        s.answers ch lbOk ([r.length, off] ++ bytesWords ((r.drop off).take 1016)) t ∧ t.trust = s.trust) ∧
    (∀ w fields span args p l, diagPage w = some (p, l) → (w % 256 = 0x01 → s.busy p l = false) →
      w % 256 = 0x01 ∨ w % 256 = 0x80 → s.serves ch 0x10 (w :: fields :: span :: args) = true →
      s.runsTo (.letterboxDone ch) fun t =>
        s.answers ch lbOk ([s.readWord p l 0x030, s.readWord p l (diagStatus p)] ++
          (List.range (min 254 (512 - bits span 0 11))).map fun j =>
            s.readWord p l (0x800 + 4 * (bits span 0 11 + j))) t)

/-- A granted PSTATE.REQ takes the device to DOZE, back to RUN, or into the stages of an EMBER or HEARTH entry (R297, R298). A
lower TARGET begins the proposals of a change down, a higher one raises VX first (R290, R291); AVS_RETRY ends AVS_FAIL (R292);
the CLEAR bits of THERMAL and CTEMP take the present temperature as the extremes (R295). REBOOT restarts the device: a cold
start with no S3 fault and every session closed (R312). CLEAR empties the record whose SEQ it names, and no other (R318). GO
of INJECT gives the next sample the fault it describes (R317). A fence bit written 1 is lifted (R319, R323). -/
def Obligations.PowerAndFaultWrites : Prop :=
  ∀ (s : State) (ch : Channel) (w : Word),
    (∀ v, v < 4 → s.grants ch HEARTH.PSTATE.REQ 0 0 (withValue w HEARTH.PSTATE.REQ v) = true → s.g HEARTH.PSTATE.REQ ≠ v →
      (v = 0 → s.pwr.state = 1 →
        s.runsTo (.pstateRun ch w) fun t => t.pwr.state = 0 ∧ t.pwr.gated = [] ∧ t.g HEARTH.PSTATE.REQ = 0) ∧
      (v = 1 → s.pwr.state = 0 →
        s.runsTo (.pstateDoze ch w) fun t => t.pwr.state = 1 ∧ t.g HEARTH.PSTATE.REQ = 1) ∧
      (v = 2 →
        s.runsTo (.pstateEmber ch w) fun t =>
          t.pwr = { s.pwr with sub := 1, stage := 0, hearth := false } ∧ s.onlyReg HEARTH.PSTATE.REQ 0 0 t ∧
          t.g HEARTH.PSTATE.REQ = 2 ∧ t.lines = s.lines) ∧
      (v = 3 →
        s.runsTo (.pstateHearth ch w) fun t =>
          t.pwr = { s.pwr with sub := 1, stage := 0, hearth := true } ∧ s.onlyReg HEARTH.PSTATE.REQ 0 0 t ∧
          t.g HEARTH.PSTATE.REQ = 3 ∧ t.lines = s.lines)) ∧
    (s.grants ch PERF.CTRL.TARGET 0 0 w.toNat = true → w.toNat < 4 → s.g PERF.CTRL.TARGET ≠ w.toNat → s.lvl.phase = .idle →
      s.lvl.coldRead = false → s.lvl.avsFail = false → s.fault.s3 = false → s.xe.join = none → s.pwr.doze = false →
      s.pwr.state = 0 → s.pwr.stage < 3 →
      (s.lvl.level < max w.toNat s.lvl.cap →
        s.runsTo (.levelDownRequest ch w) fun t =>
          t.g PERF.CTRL.TARGET = w.toNat ∧ t.lvl.phase = .proposing ∧ t.lvl.going = max w.toNat s.lvl.cap ∧
          t.lvl.level = s.lvl.level) ∧
      (max w.toNat s.lvl.cap < s.lvl.level →
        s.runsTo (.levelUpRequest ch w) fun t =>
          t.g PERF.CTRL.TARGET = w.toNat ∧ t.lvl.phase = .vxUp ∧ t.lvl.going = max w.toNat s.lvl.cap ∧
          t.lvl.level = s.lvl.level ∧ t.lines = s.lines)) ∧
    (s.grants ch PERF.CTRL.AVS_RETRY 0 0 (withOnes w PERF.CTRL.AVS_RETRY) = true →
      s.runsTo (.avsRetry ch w) fun t => t.lvl.avsFail = false ∧ t.g PERF.CTRL.TARGET = w.toNat % 4) ∧
    (s.grants ch THERMAL.PEAK.CLEAR 0 0 (withOnes w THERMAL.PEAK.CLEAR) = true →
      s.runsTo (.thermalPeakClear ch w) fun t =>
        t.g THERMAL.PEAK.TEMP = s.g THERMAL.TJ.TEMP % 2 ^ 16 ∧ s.onlyReg THERMAL.PEAK.TEMP 0 0 t ∧ t.lines = s.lines) ∧
    (∀ c, c < 4 → s.grants ch CTEMP.MINMAX.CLEAR c 0 (withOnes w CTEMP.MINMAX.CLEAR) = true →
      s.runsTo (.ctempMinmaxClear ch c w) fun t =>
        t.g CTEMP.MINMAX.MIN c = ofSigned 15 (toSigned 16 (s.g CTEMP.TEMP.TEMP c) / 2) ∧
        t.g CTEMP.MINMAX.MAX c = ofSigned 15 (toSigned 16 (s.g CTEMP.TEMP.TEMP c) / 2) ∧
        t.g CTEMP.TEMP.TEMP c = s.g CTEMP.TEMP.TEMP c ∧ t.lines = s.lines) ∧
    (s.grants ch FAULT.CTRL.REBOOT 0 0 (withOnes w FAULT.CTRL.REBOOT) = true →
      s.runsTo (.faultReboot ch w) fun t =>
        t.fault.s3 = false ∧ t.clk.running = false ∧ t.clk.coldStep = 1 ∧ t.pwr = State.reset.pwr ∧ t.lines = State.reset.lines ∧
        (∀ c, c < 3 → (t.session c).isOpen = false) ∧ t.mgmt.busOwner = 0 ∧
        t.trust.bootCount = satAdd 32 s.trust.bootCount 1 ∧ t.pending = s.pending) ∧
    (∀ r, r < 2 → s.grants ch FAULT.CLEAR.SEQ 0 0 w.toNat = true → w.toNat / 2 ^ 30 = 2 - r →
      (s.g FAULT.REC_HDR.VALID 0 r = 1 → s.g FAULT.REC_HDR.SEQ 0 r = w.toNat % 2 ^ 16 →
        s.runsTo (.faultClear ch w) fun t =>
          t.g FAULT.REC_HDR.VALID 0 r = 0 ∧ t.g FAULT.REC_HDR.SEQ 0 r = 0 ∧
          t.g FAULT.REC_HDR.VALID 0 (1 - r) = s.g FAULT.REC_HDR.VALID 0 (1 - r) ∧ t.lines = s.lines) ∧
      (s.g FAULT.REC_HDR.SEQ 0 r ≠ w.toNat % 2 ^ 16 →
        s.runsTo (.faultClear ch w) fun t => t.regs = s.regs ∧ t.lines = s.lines)) ∧
    (s.grants ch FAULT.INJECT.GO 0 0 (withOnes w FAULT.INJECT.GO) = true → s.injectedFault = none →
      w.toNat / 2 ^ 30 % 2 = 0 →
      s.runsTo (.faultInject ch w) fun t =>
        t.fault.inject = some { code := w.toNat / 2 ^ 16 % 256, cls := w.toNat / 2 ^ 28 % 4, source := w.toNat % 256,
                                addr := 0, injected := true } ∧ t.lines = s.lines) ∧
    (∀ hi, s.grants ch (if hi = true then FAULT.FENCE_HI.MAP else FAULT.FENCE_LO.MAP) 0 0 w.toNat = true →
      s.runsTo (.fenceLift ch hi w) fun t =>
        t.g (if hi = true then FAULT.FENCE_HI.MAP else FAULT.FENCE_LO.MAP) =
          (s.g (if hi = true then FAULT.FENCE_HI.MAP else FAULT.FENCE_LO.MAP) -
            (s.g (if hi = true then FAULT.FENCE_HI.MAP else FAULT.FENCE_LO.MAP) &&& w.toNat)) % 2 ^ 32 ∧ t.lines = s.lines)

/-- A granted ADVANCE moves the lifecycle one step on and closes every session (R329, R342). PROGRAM begins the burn of a key
slot, REVOKE withdraws a slot and closes the sessions it opened (R332). OPEN with the tag of R340 opens the session with its
role and slot and zeroes the failures; a wrong tag counts one (R339). CLOSE ends the session and frees its bus lock (R342);
RENEW gives a fresh nonce. CONFIRM ends a trial (R335). PENDING takes the level that B0 supports (R361). PAIR_SET takes the
pairing key and leaves nothing of it to read (R349); INSTALL sets up the security association from its registers, at once or
for the next frame where one is under way; a transmit one whose PN stands at its threshold or its end says so as it takes
effect (R353). -/
def Obligations.TrustWrites : Prop :=
  ∀ (s : State) (ch : Channel) (w : Word),
    (s.grants ch TRUST.LIFECYCLE.ADVANCE 0 0 (withOnes w TRUST.LIFECYCLE.ADVANCE) = true →
      s.runsTo (.lifecycleAdvance ch w) fun t =>
        t.trust.lifecycle = s.trust.lifecycle + 1 ∧ t.trust.lifecycle = w.toNat / 256 % 4 ∧
        ∀ c, c < 3 → (t.session c).isOpen = false) ∧
    (s.grants ch TRUST.KEYPROG.PROGRAM 0 0 (withOnes w TRUST.KEYPROG.PROGRAM) = true → w.toNat / 2 ^ 30 % 2 = 0 →
      s.runsTo (.keyProgram ch w) fun t =>
        t.trust.burning = some (w.toNat / 256 % 8, { valid := true, revoked := false, maxRole := w.toNat / 16 % 4,
                                                     usage := w.toNat % 16, key := .burnt (s.gWords TRUST.KEY.W 0 8 0) }) ∧
        (s.trust.burning = none → t.trust.slots = s.trust.slots) ∧ t.lines = s.lines) ∧
    (s.grants ch TRUST.KEYPROG.REVOKE 0 0 (withOnes w TRUST.KEYPROG.REVOKE) = true → w.toNat / 2 ^ 31 = 0 →
      s.runsTo (.keyRevoke ch w) fun t =>
        t.slot (w.toNat / 256 % 8) = { s.slot (w.toNat / 256 % 8) with revoked := true } ∧
        (∀ k, k ≠ w.toNat / 256 % 8 → t.slot k = s.slot k) ∧
        ∀ c, c < 3 → (s.session c).slot = w.toNat / 256 % 8 → (t.session c).isOpen = false) ∧
    (s.grants ch SESSION.CMD.OPEN (chIx ch) 0 (withOnes w SESSION.CMD.OPEN) = true → w.toNat / 2 ^ 29 % 4 = 0 →
      ∀ k, s.slotKey (w.toNat / 256 % 8) useSession = some k → s.roleAllowed (w.toNat / 256 % 8) (w.toNat % 4) = true →
        (sessionTag k (chIx ch) (w.toNat % 4) (s.session (chIx ch)).nonce = s.hostTag (chIx ch) →
          s.runsTo (.sessionOpen ch w) fun t =>
            (t.session (chIx ch)).isOpen = true ∧ (t.session (chIx ch)).role = w.toNat % 4 ∧
            (t.session (chIx ch)).slot = w.toNat / 256 % 8 ∧ t.g SESSION.STAT.RESULT (chIx ch) = 1 ∧
            t.g SESSION.STAT.FAILS (chIx ch) = 0 ∧ t.lines = s.lines) ∧
        (sessionTag k (chIx ch) (w.toNat % 4) (s.session (chIx ch)).nonce ≠ s.hostTag (chIx ch) →
          (s.session (chIx ch)).expired = none →
          s.runsTo (.sessionOpen ch w) fun t =>
            (t.session (chIx ch)).isOpen = (s.session (chIx ch)).isOpen ∧ t.g SESSION.STAT.RESULT (chIx ch) = 2 ∧
            t.g SESSION.STAT.FAILS (chIx ch) = satAdd 8 (s.g SESSION.STAT.FAILS (chIx ch)) 1 ∧ t.lines = s.lines)) ∧
    (s.grants ch SESSION.CMD.CLOSE (chIx ch) 0 (withOnes w SESSION.CMD.CLOSE) = true → w.toNat / 2 ^ 29 % 2 = 0 →
      w.toNat / 2 ^ 31 = 0 → (s.session (chIx ch)).isOpen = true →
      s.runsTo (.sessionClose ch w) fun t =>
        (t.session (chIx ch)).isOpen = false ∧ t.g SESSION.STAT.CLOSED_BY (chIx ch) = 1 ∧
        t.mgmt.busOwner ≠ chIx ch + 1 ∧ t.posts = s.posts ∧ t.lines = s.lines ∧
        ∀ j, j < 256 → t.g LETTERBOX.ARG.W (chIx ch) j = 0 ∧ t.g LETTERBOX.RESP.W (chIx ch) j = 0) ∧
    (s.grants ch SESSION.CMD.RENEW (chIx ch) 0 (withOnes w SESSION.CMD.RENEW) = true → w.toNat / 2 ^ 30 = 0 →
      s.runsTo (.nonceRenew ch w) fun t =>
        t.session (chIx ch) = { s.session (chIx ch) with nonce := s.draw.1, expired := none } ∧ t.lines = s.lines) ∧
    (s.grants ch BOOT.CTRL.CONFIRM 0 0 (withOnes w BOOT.CTRL.CONFIRM) = true → w.toNat / 2 ^ 30 % 2 = 0 → s.trust.bootState = 3 →
      s.runsTo (.bootConfirm ch w) fun t =>
        t.trust.bootState = 2 ∧ t.trust.trial = none ∧ (t.image s.trust.running).confirmed = true ∧
        t.trust.prefer = w.toNat % 2 ∧ t.lines = s.lines) ∧
    (s.grants ch TRUST.COMPAT.PENDING 0 0 w.toNat = true → w.toNat / 256 % 256 = 0xB0 →
      s.runsTo (.compatPendingWrite ch w) fun t =>
        t.g TRUST.COMPAT.PENDING = 0xB0 ∧ s.onlyReg TRUST.COMPAT.PENDING 0 0 t ∧ t.lines = s.lines) ∧
    (∀ p, p < 128 → s.grants ch PORT_SEC.PAIR_SET.SET p 0 (withOnes w PORT_SEC.PAIR_SET.SET) = true →
      s.runsTo (.pairSet ch p w) fun t =>
        (t.port p).pairKey = some (s.gWords PORT_SEC.PAIR_KEY.W p 8 0) ∧ (∀ j, j < 8 → t.g PORT_SEC.PAIR_KEY.W p j = 0) ∧
        ∀ q, q ≠ p → (t.port q).pairKey = (s.port q).pairKey) ∧
    (∀ p a, p < 128 → a < 6 → s.grants ch PORT_SEC.SA_CTRL.INSTALL p a (withOnes w PORT_SEC.SA_CTRL.INSTALL) = true →
      s.runsTo (.saInstall ch p a w) fun t =>
        (if s.saAtOnce p a = true then (t.port p).sas else (t.port p).sasNext).find a = some (s.saWritten p a (w.toNat % 4)) ∧
        (∀ b, b ≠ a → (s.port p).sasNext.find b = none ∨ s.saAtOnce p a = false →
          (t.port p).sas.find b = (s.port p).sas.find b ∧ (t.port p).sasNext.find b = (s.port p).sasNext.find b) ∧
        t.g PORT_SEC.SA_CTRL.EXHAUSTED p a = bnat (s.saWritten p a (w.toNat % 4)).exhausted ∧
        (a < 2 → t.g PORT_SEC.SA_CTRL.ENABLE p a = 1) ∧ t.lines = s.lines)

/-- R336. A granted SVN_COMMIT raises the OTP SVN to the SVN of the running image, and a slot whose SVN falls below the new one is
not VALID at once; another slot keeps its validity. During a TRIAL the write completes with an error response on MSPI and
MDIO, and on every channel the trust state, the slots and the OTP SVN stay. -/
def Obligations.SvnCommit : Prop :=
  ∀ (s : State) (ch : Channel) (w : Word),
    (s.grants ch BOOT.CTRL.SVN_COMMIT 0 0 (withOnes w BOOT.CTRL.SVN_COMMIT) = true → w.toNat / 2 ^ 31 = 0 →
      s.runsTo (.svnCommit ch w) fun t =>
        t.trust.svn = max s.trust.svn (imageSvn (s.image s.trust.running).source) ∧
        (∀ k, k < 2 → imageSvn (s.image k).source < t.trust.svn → (t.image k).valid = false) ∧
        (∀ k, k < 2 → t.trust.svn ≤ imageSvn (s.image k).source → t.image k = s.image k) ∧ t.lines = s.lines) ∧
    (s.steady = true → s.mgmt.ibQueue = [] → s.trust.bootState = 3 →
      s.runsTo (.svnCommit ch w) fun t =>
        t.trust = s.trust ∧ t.lines = s.lines ∧ (ch ≠ .inband → t.mgmt.lastError = true))

/-- Granted writes of a line's pages. ENABLE 0 takes a line that is not FAULTED to OFF (R122). RETRAIN takes a running V line to
RETRAIN with HOST, and RESTART any V line back to its mode's first state (R153). BANK proposes banking for a port in SHOWTIME
(R150), and WAKE starts to wake a banked one (R151). REFLECT starts a run in DIAG, and elsewhere ends at once with its reason
(R202). REQUEST makes the line due for calibration, and REQ_ALL every line (R227); a FULL request outside OFF and DIAG ends
with STATE (R226). RESTART of the standard partner's negotiation drops the link (R241). -/
def Obligations.LineWrites : Prop :=
  ∀ (s : State) (ch : Channel) (l : Nat) (w : Word), l < 128 →
    (s.grants ch (HDR.PAGE_CTRL.ENABLE .lctl) l 0 (withValue w (HDR.PAGE_CTRL.ENABLE .lctl) 0) = true →
      s.g (HDR.PAGE_CTRL.ENABLE .lctl) l = 1 → w.toNat / 2 % 2 = 0 → w.toNat / 4 % 2 = s.g (HDR.PAGE_CTRL.FREEZE .lctl) l →
      (s.line l).st ≠ .faulted →
      s.runsTo (.lineDisable ch l w) fun t => (t.line l).st = .off ∧ t.g (HDR.PAGE_CTRL.ENABLE .lctl) l = 0) ∧
    (s.grants ch LTRAIN.CTRL.RETRAIN l 0 (withOnes w LTRAIN.CTRL.RETRAIN) = true → w.toNat % 16 / 8 = 0 → w.toNat % 4 = 0 →
      s.isV l = true → (s.line l).st = .showtime ∨ (s.line l).st = .banked →
      s.runsTo (.lineRetrain ch l w) (s.retrained l rsHost)) ∧
    (s.grants ch LTRAIN.CTRL.RESTART l 0 (withOnes w LTRAIN.CTRL.RESTART) = true → w.toNat % 8 = 0 →
      s.isV l = true → (s.line l).st ≠ .off → (s.line l).st ≠ .faulted → s.xe.join = none →
      s.runsTo (.lineRestart ch l w) fun t =>
        (t.line l).st = (s.startOf l).1 ∧ (t.line l).hold = (s.startOf l).2 ∧
        t.g LTRAIN.STATUS.LAST_REASON l = rsHost ∧ t.g LTRAIN.STATUS.LAST_FROM l = (s.line l).st.code) ∧
    (s.grants ch LTRAIN.CTRL.BANK l 0 (withOnes w LTRAIN.CTRL.BANK) = true → w.toNat % 16 / 2 = 0 → s.isV l = true →
      (∀ m ∈ s.portLines l, (s.line m).st = .showtime) → (s.port l).neg = none →
      s.runsTo (.bankRequest ch l w) fun t =>
        (t.port l).neg = some { ours := true, start := s.portSfc l, target := sfcAdd (s.portSfc l) 4, changes := [.bank], count := 1,
                                agreed := false, confirmed := false } ∧ t.lines = s.lines) ∧
    (s.grants ch LTRAIN.CTRL.WAKE l 0 (withOnes w LTRAIN.CTRL.WAKE) = true → w.toNat % 2 = 0 → w.toNat % 16 / 4 = 0 →
      s.isV l = true → s.isAnchor l = true → (s.port l).waking = 0 → (∀ m ∈ s.portLines l, (s.line m).st = .banked) →
      s.runsTo (.wakeRequest ch l w) fun t =>
        (t.port l).waking = 1 ∧ (t.port l).wakeTries = 0 ∧ (t.port l).wakeSfc = sfcAdd (s.portSfc l) 1 ∧
        (∀ m ∈ s.portLines l, t.line m = { s.line m with sub := 1 }) ∧
        ∀ m, m ∉ s.portLines l → t.line m = s.line m) ∧
    (s.grants ch LDIAG.REQ.REFLECT l 0 (withOnes w LDIAG.REQ.REFLECT) = true →
      ((s.line l).st = .diag → w.toNat / 256 % 4 = 2 →
        s.runsTo (.reflectRequest ch l w) fun t =>
          t.refl.find l = some { band := 2, step := 2 } ∧ t.g (HDR.PAGE_STAT.BUSY .ldiag) l = 1 ∧
          t.g (HDR.RESULT_SEQ.STALE .ldiag) l = 1) ∧
      ((s.line l).st ≠ .diag →
        s.runsTo (.reflectRequest ch l w) fun t =>
          t.g LDIAG.RSTAT.REASON l = 1 ∧ t.g (HDR.PAGE_STAT.BUSY .ldiag) l = 0 ∧
          t.g (HDR.RESULT_SEQ.SEQ .ldiag) l = nextSeq (s.g (HDR.RESULT_SEQ.SEQ .ldiag) l) % 2 ^ 16)) ∧
    (s.grants ch LAFE.CAL_REQ.REQUEST l 0 (withOnes w LAFE.CAL_REQ.REQUEST) = true →
      (w.toNat % 2 = 0 →
        s.runsTo (.calRequest ch l w) fun t =>
          (t.calX l).request = true ∧ (t.calX l).due.isSome = true ∧ (t.calX l).full = (s.calX l).full ∧
          t.g LAFE.CAL_STAT.SOURCE l = 2 ∧ t.lines = s.lines ∧ ∀ k, k ≠ l → t.calX k = s.calX k) ∧
      (w.toNat % 2 = 1 → s.mode l ≠ 0 → s.mode l ≠ 5 →
        s.runsTo (.calRequest ch l w) fun t =>
          t.g LAFE.CAL_STAT.REASON l = 7 ∧ t.g LAFE.ABORTS.ATTEMPTS l = satAdd 16 (s.g LAFE.ABORTS.ATTEMPTS l) 1 ∧
          t.g (HDR.PAGE_STAT.BUSY .lafe) l = 0 ∧ t.cal = s.cal ∧ t.lines = s.lines)) ∧
    (s.grants ch CALMGR.CTRL.REQ_ALL 0 0 (withOnes w CALMGR.CTRL.REQ_ALL) = true →
      s.runsTo (.calReqAll ch w) fun t =>
        (t.calX l).request = true ∧ (t.calX l).due.isSome = true ∧ t.g LAFE.CAL_STAT.SOURCE l = 2 ∧ t.lines = s.lines) ∧
    (s.grants ch LSTD.ADV.RESTART l 0 (withOnes w LSTD.ADV.RESTART) = true → (s.line l).st = .standard →
      s.g LSTD.STATUS.LINK l = 1 →
      s.runsTo (.anRestart ch l w) fun t =>
        t.g LSTD.STATUS.LINK l = 0 ∧ t.g LSTD.LINK_DOWN.COUNT l = satAdd 32 (s.g LSTD.LINK_DOWN.COUNT l) 1)

/-- Granted writes of a LMON page. A new PRESET restarts the chain with its settling (R187, R189); FREQ takes the word (R186). ARM
waits for its source, or resets at once with source 0; CANCEL ends the wait (R189). SWAP starts a fade to the other bank, and
while one runs only says so (R190, R191). A tap of an idle bank takes its 18 bits (R192). REQUEST begins a capture (R195),
CLEAR zeroes the counters and restarts the watch (R197), and a new TONE restarts the watch (R198). -/
def Obligations.MonitorWrites : Prop :=
  ∀ (s : State) (ch : Channel) (l : Nat) (w : Word), l < 128 →
    (s.grants ch LMON.CHAIN.PRESET l 0 w.toNat = true → (s.monX l).owner = 0 → s.g LMON.CHAIN.PRESET l ≠ w.toNat % 8 →
      s.runsTo (.monitorPresetWrite ch l w) fun t =>
        t.g LMON.CHAIN.PRESET l = w.toNat % 8 ∧ (t.monX l).valid = false ∧
        (t.monX l).settle = (if w.toNat % 8 = 4 then 1 else 64) ∧ (t.monX l).bank = 0 ∧ t.lines = s.lines ∧
        ∀ k, k ≠ l → t.monX k = s.monX k) ∧
    (s.grants ch LMON.NCO.FREQ l 0 w.toNat = true → (s.monX l).owner = 0 →
      s.runsTo (.monitorNcoWrite ch l w) fun t =>
        t.g LMON.NCO.FREQ l = w.toNat ∧ s.onlyReg LMON.NCO.FREQ l 0 t ∧ t.mon = s.mon ∧ t.lines = s.lines) ∧
    (s.grants ch LMON.SYNCRST.ARM l 0 (withOnes w LMON.SYNCRST.ARM) = true →
      s.runsTo (.syncrstArm ch l w) fun t =>
        (t.monX l).armed = (if w.toNat % 4 = 0 then none
                            else some { src := w.toNat % 4, sfc := s.sfc, sym := s.sym, sec := s.time.sec }) ∧
        (w.toNat % 4 = 0 → (t.monX l).valid = false) ∧ t.lines = s.lines ∧ ∀ k, k ≠ l → t.monX k = s.monX k) ∧
    (s.grants ch LMON.SYNCRST.CANCEL l 0 (withOnes w LMON.SYNCRST.CANCEL) = true → w.toNat / 256 % 2 = 0 →
      s.runsTo (.syncrstCancel ch l w) fun t =>
        t.monX l = { s.monX l with armed := none } ∧ s.onlyReg LMON.SYNCRST.SRC l 0 t ∧ t.lines = s.lines ∧
        ∀ k, k ≠ l → t.monX k = s.monX k) ∧
    (s.grants ch LMON.BANK.SWAP l 0 (withOnes w LMON.BANK.SWAP) = true →
      ((s.monX l).bank = 0 → (s.monX l).owner = 0 → s.chainPreset l ≠ 4 →
        s.runsTo (.bankSwap ch l w) fun t =>
          t.monX l = { s.monX l with active := 1 - (s.monX l).active, bank := 1, fade := 0 } ∧ t.g LMON.CSTAT.LAST_SWAP l = 1 ∧
          s.onlyReg LMON.CSTAT.LAST_SWAP l 0 t ∧ ∀ k, k ≠ l → t.monX k = s.monX k) ∧
      ((s.monX l).bank = 1 →
        s.runsTo (.bankSwap ch l w) fun t =>
          t.monX l = { s.monX l with bank := 2 } ∧ t.g LMON.CSTAT.LAST_SWAP l = 2 ∧
          s.onlyReg LMON.CSTAT.LAST_SWAP l 0 t ∧ ∀ k, k ≠ l → t.monX k = s.monX k) ∧
      (2 ≤ (s.monX l).bank →
        s.runsTo (.bankSwap ch l w) fun t => t.mon = s.mon ∧ t.g LMON.CSTAT.LAST_SWAP l = 3 ∧ t.lines = s.lines)) ∧
    (∀ bank i, i < 64 → s.grants ch (if bank = 0 then LMON.BANKA.TAP else LMON.BANKB.TAP) l i w.toNat = true →
      s.runsTo (.bankTapWrite ch l bank i w) fun t =>
        t.g (if bank = 0 then LMON.BANKA.TAP else LMON.BANKB.TAP) l i = w.toNat % 2 ^ 18 ∧
        s.onlyReg (if bank = 0 then LMON.BANKA.TAP else LMON.BANKB.TAP) l i t ∧ t.mon = s.mon ∧ t.lines = s.lines) ∧
    (s.grants ch LMON.CAP_CTRL.REQUEST l 0 (withOnes w LMON.CAP_CTRL.REQUEST) = true →
      s.runsTo (.captureRequest ch l w) fun t =>
        t.monX l = { s.monX l with cap := some { trig := w.toNat / 2 ^ 24 % 4,
                                                 count := if w.toNat % 1024 = 0 ∨ 512 < w.toNat % 1024 then 512
                                                          else w.toNat % 1024 } } ∧
        t.g (HDR.PAGE_STAT.BUSY .lmon) l = 1 ∧ t.g (HDR.RESULT_SEQ.STALE .lmon) l = 1 ∧ t.lines = s.lines) ∧
    (s.grants ch LMON.CNT_CTRL.CLEAR l 0 (withOnes w LMON.CNT_CTRL.CLEAR) = true →
      s.runsTo (.counterClear ch l w) fun t =>
        (∀ F ∈ monCounters, t.g F l = 0) ∧ t.g LMON.EPOCH.COUNT l = 0 ∧ t.g LMON.WATCH_MINMAX.MIN l = 0xFFF ∧
        t.g LMON.WATCH_MINMAX.MAX l = 0 ∧ t.mon = s.mon ∧ t.lines = s.lines) ∧
    (s.grants ch LMON.SNR_WATCH.TONE l 0 w.toNat = true → s.g LMON.SNR_WATCH.TONE l ≠ w.toNat % 128 →
      s.runsTo (.snrWatchWrite ch l w) fun t =>
        t.g LMON.SNR_WATCH.TONE l = w.toNat % 128 ∧ t.g LMON.WATCH_MINMAX.MIN l = 0xFFF ∧
        t.g LMON.WATCH_MINMAX.MAX l = 0 ∧ t.mon = s.mon ∧ t.lines = s.lines)

/-- Granted writes. HOLD stops the engine's updates (R113); REQUEST of the census and of the frequency monitor, READ and WRITE of
the coefficient window begin with BUSY (R117, R118, R283). CLRCODE takes its 14 bits (R215). A lane RESTART or a new RATE
starts the lane again, in its loopback where LOOP sets one (R253, R273), a new LOOP puts it in its loopback (R265), and a new
equaliser entry retrains the lanes that use it (R252). TIMEBASE.SET sets the time at once, or arms it for the next edge, and
ADD moves it by OFFSET nanoseconds (R286, R287). -/
def Obligations.DeviceWrites : Prop :=
  ∀ (s : State) (ch : Channel) (w : Word),
    (s.grants ch XENGINE.CTRL.HOLD 0 0 (withOnes w XENGINE.CTRL.HOLD) = true →
      s.runsTo (.xengineHold ch w) fun t => t.xe.hold = true ∧ t.g XENGINE.CTRL.HOLD = 1 ∧ t.lines = s.lines) ∧
    (s.grants ch XENGINE.CENSUS_CTRL.REQUEST 0 0 (withOnes w XENGINE.CENSUS_CTRL.REQUEST) = true →
      s.runsTo (.censusRequest ch w) fun t =>
        t.xe.census = some (w.toNat / 256 % 4, w.toNat % 128) ∧ t.xe.censusTaken = none ∧
        t.g (HDR.PAGE_STAT.BUSY .xengine) = 1 ∧ t.g (HDR.RESULT_SEQ.STALE .xengine) = 1 ∧ t.lines = s.lines) ∧
    (s.grants ch XWINDOW.CMD.READ 0 0 (withOnes w XWINDOW.CMD.READ) = true → w.toNat / 256 % 4 < 2 → s.g XWINDOW.SEL.MATRIX ≠ 3 →
      s.runsTo (.xwindowRead ch w) fun t =>
        (∃ r, t.xe.xw = some r ∧ r.write = false ∧ r.matrix = s.g XWINDOW.SEL.MATRIX ∧ r.tone = s.g XWINDOW.SEL.TONE ∧
          r.victim = s.g XWINDOW.SEL.VICTIM ∧ r.master = chIx ch + 1) ∧
        t.g (HDR.PAGE_STAT.BUSY .xwindow) = 1 ∧ t.xe.waiting = s.xe.waiting ∧ t.lines = s.lines) ∧
    (s.grants ch XWINDOW.CMD.WRITE 0 0 (withOnes w XWINDOW.CMD.WRITE) = true → w.toNat % 2 = 0 → w.toNat / 256 % 4 < 2 →
      s.g XWINDOW.SEL.MATRIX ≠ 3 →
      s.runsTo (.xwindowWrite ch w) fun t =>
        (∃ r, t.xe.xw = some r ∧ r.write = true ∧ r.matrix = s.g XWINDOW.SEL.MATRIX ∧ r.master = chIx ch + 1) ∧
        t.g (HDR.PAGE_STAT.BUSY .xwindow) = 1 ∧ t.xe.waiting.contains (chIx ch + 1) = true ∧ t.g XWINDOW.XW_STAT.WAITING = 1 ∧
        t.lines = s.lines) ∧
    (∀ c, c < 4 → s.grants ch CLUSTER.CLRCODE.CODE c 0 w.toNat = true →
      s.runsTo (.clrcodeWrite ch c w) fun t =>
        t.g CLUSTER.CLRCODE.CODE c = w.toNat % 2 ^ 14 ∧ s.onlyReg CLUSTER.CLRCODE.CODE c 0 t ∧ t.lines = s.lines) ∧
    (∀ lane, lane < 32 →
      (s.grants ch LANE.CTRL.RESTART lane 0 (withOnes w LANE.CTRL.RESTART) = true → s.laneRuns lane = true →
        w.toNat / 256 % 8 = 0 ∨ 4 ≤ w.toNat / 256 % 8 →
        s.runsTo (.laneRestart ch lane w) fun t =>
          t.laneState lane = laneDetect ∧ t.g LANE.STATUS.LAST_REASON lane = 4 ∧ t.g LANE.STATUS.CDR_LOCK lane = 0) ∧
      (s.grants ch LANE.CTRL.RATE lane 0 w.toNat = true → w.toNat / 2 ^ 31 = 0 → s.g LANE.CTRL.RATE lane ≠ w.toNat % 2 →
        s.runsTo (.laneRateChange ch lane w) fun t =>
          t.laneState lane = (if s.laneRuns lane = false then laneOff
            else if w.toNat / 256 % 8 = 0 ∨ 4 ≤ w.toNat / 256 % 8 then laneDetect else laneLoop) ∧ t.g LANE.CTRL.RATE lane = w.toNat % 2) ∧
      (s.grants ch LANE.CTRL.LOOP lane 0 w.toNat = true → w.toNat / 2 ^ 31 = 0 → s.g LANE.CTRL.RATE lane = w.toNat % 2 →
        s.g LANE.CTRL.LOOP lane ≠ w.toNat / 256 % 8 → s.laneState lane ≠ laneOff → w.toNat / 256 % 8 < 4 →
        (s.lane lane).loop ≠ w.toNat / 256 % 8 → w.toNat / 256 % 8 ≠ 0 →
        s.runsTo (.laneLoopWrite ch lane w) fun t =>
          t.laneState lane = laneLoop ∧ (t.lane lane).loop = w.toNat / 256 % 8)) ∧
    (∀ e, e < 16 → s.grants ch SORTING.EQ.CTLE 0 e w.toNat = true →
      s.runsTo (.eqEntryWrite ch e w) fun t =>
        t.g SORTING.EQ.CTLE 0 e = w.toNat / 2 ^ 24 % 16 ∧ t.g SORTING.EQ.SWING 0 e = w.toNat / 2 ^ 21 % 8 ∧
        t.g SORTING.EQ.PRE 0 e = w.toNat / 2 ^ 16 % 16 ∧ t.g SORTING.EQ.MAIN 0 e = w.toNat / 256 % 64 ∧
        t.g SORTING.EQ.POST 0 e = w.toNat % 16 ∧
        (s.g SORTING.EQ.CTLE 0 e ≠ w.toNat / 2 ^ 24 % 16 → ∀ lane, lane < 32 → s.g LANE.CTRL.EQ lane = e →
          laneDetect ≤ s.laneState lane → s.laneState lane ≤ laneActive → t.laneState lane = laneTrain)) ∧
    (s.grants ch CLOCKS.FM_CTRL.REQUEST 0 0 (withOnes w CLOCKS.FM_CTRL.REQUEST) = true →
      (w.toNat / 256 % 16 < 10 →
        s.runsTo (.freqmonRequest ch w) fun t =>
          t.clk = { s.clk with fm := some (w.toNat / 256 % 16, clampNat 10 24 (w.toNat / 2 ^ 16 % 32)) } ∧
          t.g (HDR.PAGE_STAT.BUSY .clocks) = 1 ∧ t.lines = s.lines) ∧
      (10 ≤ w.toNat / 256 % 16 →
        s.runsTo (.freqmonRequest ch w) fun t =>
          t.g CLOCKS.FM_STAT.REASON = 2 ∧ t.g (HDR.PAGE_STAT.BUSY .clocks) = 0 ∧ t.lines = s.lines)) ∧
    (s.grants ch TIMEBASE.CTRL.SET 0 0 (withOnes w TIMEBASE.CTRL.SET) = true → w.toNat / 2 ^ 30 % 2 = 0 →
      (w.toNat / 2 ^ 29 % 2 = 1 →
        s.runsTo (.timebaseSet ch w) fun t =>
          t.time.setArmed = true ∧ t.time.ns = s.time.ns ∧ t.time.sec = s.time.sec ∧ t.lines = s.lines) ∧
      (w.toNat / 2 ^ 29 % 2 = 0 →
        s.runsTo (.timebaseSet ch w) fun t =>
          t.time.ns = s.g TIMEBASE.SET_NS.NS ∧ t.time.frac = 0 ∧ t.time.valid = true ∧ t.time.setArmed = false ∧
          t.time.sec = s.g TIMEBASE.SET_SEC_HI.SEC * 2 ^ 32 + s.g TIMEBASE.SET_SEC_LO.SEC ∧ t.lines = s.lines)) ∧
    (s.grants ch TIMEBASE.CTRL.ADD 0 0 (withOnes w TIMEBASE.CTRL.ADD) = true → w.toNat / 2 ^ 31 = 0 →
      s.time.ns < 10 ^ 9 → s.time.frac < 256 → s.time.sub < 2 ^ 32 →
      0 ≤ (s.time.sec * 10 ^ 9 + s.time.ns : Int) + toSigned 32 (s.g TIMEBASE.OFFSET.NS) →
      (s.time.sec * 10 ^ 9 + s.time.ns : Int) + toSigned 32 (s.g TIMEBASE.OFFSET.NS) < 2 ^ 48 * 10 ^ 9 →
      s.runsTo (.timebaseAdd ch w) fun t =>
        (t.time.sec * 10 ^ 9 + t.time.ns : Int) =
          (s.time.sec * 10 ^ 9 + s.time.ns : Int) + toSigned 32 (s.g TIMEBASE.OFFSET.NS) ∧
        t.time.ns < 10 ^ 9 ∧ t.time.frac = s.time.frac ∧ t.time.suspect = false ∧ t.lines = s.lines)

/-- An MSPI write frame carries its word out, and a word that CS_N cuts short sets ALIGN (R51, R52); a read returns the word, or 0
with LATE. A status frame returns the flags and clears them; a channel reset clears them and lifts the fence; an undefined
command byte sets BADCMD (R52). The MDIO window reads and writes at its address, which advances by 4; 30.4 returns its sticky
bits and clears them (R54). An in-band request is answered in place: OK with the words read, BUSY when sixteen wait, and an
incomplete WRITE with status 4; while another channel holds the bus lock it waits (R53, R55, R256). A bus lock held too long
is revoked and its holder fenced (R319). IDLE minutes close a session (R342). -/
def Obligations.ChannelFrames : Prop :=
  ∀ s : State,
    (∀ (l j : Nat) (w : Word) (cut : Bool), l < 128 → j < 4 → s.postOf .lload l = none →
      s.grants .mspi LLOAD.HOSTMASK.MASK l j w.toNat = true →
      s.runsTo (.mspiWrite (LLOAD.HOSTMASK.MASK.addr l j) [w] cut) fun t =>
        t.stagedAt LLOAD.HOSTMASK.MASK l j = some w.toNat ∧ t.mgmt.lastError = false ∧
        t.mgmt.mspiAlign = (s.mgmt.mspiAlign || cut) ∧ t.regs = s.regs ∧ t.lines = s.lines) ∧
    (s.steady = true → s.served 0 = true → s.fenced 1 = false → s.lockedFor 0 = false →
      (∀ late, s.runsTo (.mspiRead (IDENT.PART.CODE.addr 0 0) 1 late) fun t =>
        t.mgmt.lastRead = [if late = true then 0 else 0xA128B000] ∧ t.mgmt.lastError = false ∧
        t.mgmt.mspiLate = (s.mgmt.mspiLate || late) ∧ t.regs = s.regs ∧ t.lines = s.lines)) ∧
    (s.steady = true → s.served 0 = true →
      (s.runsTo .mspiStatus fun t =>
        t.mgmt.mspiStatusByte = s.mspiStatus ∧ t.mgmt.mspiErr = false ∧ t.mgmt.mspiDenied = false ∧ t.mgmt.mspiLate = false ∧
        t.mgmt.mspiAlign = false ∧ t.mgmt.mspiBadcmd = false ∧ t.regs = s.regs ∧ t.lines = s.lines) ∧
      (s.runsTo .mspiChannelReset fun t =>
        t.mgmt.mspiErr = false ∧ t.mgmt.mspiAlign = false ∧ t.fenced 1 = false ∧ t.mgmt.sessions = s.mgmt.sessions ∧
        t.lines = s.lines) ∧
      (∀ cmd, s.runsTo (.mspiBadCommand cmd) fun t =>
        t.mgmt = { s.mgmt with mspiBadcmd := true } ∧ t.regs = s.regs ∧ t.lines = s.lines)) ∧
    (∀ prtad p, s.mdioPort prtad = some p → s.served 2 = true →
      (∀ late, s.fenced 3 = false → s.lockedFor 2 = false → s.mgmt.mdioAddr = IDENT.PART.CODE.addr 0 0 →
        s.runsTo (.mdioWindowRead prtad late) fun t =>
          t.mgmt.lastRead = [if late = true then 0 else 0xB000] ∧
          t.mgmt.mdioLatch = (if late = true then 0 else 0xA128) ∧ t.mgmt.mdioAddr = s.mgmt.mdioAddr + 4 ∧
          t.mgmt.mdioLate = (s.mgmt.mdioLate || late) ∧ t.regs = s.regs ∧ t.lines = s.lines) ∧
      (∀ hi l j, l < 128 → j < 4 → s.postOf .lload l = none → s.mgmt.mdioAddr = LLOAD.HOSTMASK.MASK.addr l j →
        s.grants .mdio LLOAD.HOSTMASK.MASK l j (hi * 2 ^ 16 + s.mgmt.mdioHold) = true →
        s.runsTo (.mdioWindowWrite prtad hi) fun t =>
          t.stagedAt LLOAD.HOSTMASK.MASK l j = some ((hi * 2 ^ 16 + s.mgmt.mdioHold) % 2 ^ 32) ∧
          t.mgmt.mdioAddr = s.mgmt.mdioAddr + 4 ∧ t.regs = s.regs ∧ t.lines = s.lines) ∧
      (s.runsTo (.mdioErrorRead prtad) fun t =>
        t.mgmt.lastRead = [bnat s.mgmt.mdioErr + 2 * bnat s.mgmt.mdioLate + 4 * bnat s.mgmt.mdioLocked] ∧
        t.mgmt.mdioErr = false ∧ t.mgmt.mdioLate = false ∧ t.mgmt.mdioLocked = false ∧ t.regs = s.regs ∧ t.lines = s.lines) ∧
      (s.runsTo (.mmdAccess prtad 30 0 none) fun t =>
        t.mgmt = { s.mgmt with lastRead := [s.mgmt.mdioAddr % 2 ^ 16], lastError := false } ∧ t.regs = s.regs) ∧
      (∀ v, s.runsTo (.mmdAccess prtad 30 2 (some v)) fun t =>
        t.mgmt = { s.mgmt with mdioHold := v % 2 ^ 16 } ∧ t.regs = s.regs)) ∧
    (s.served 1 = true → s.fenced 2 = false → ∀ lane tag, s.inbandLanes.contains lane = true →
      (s.lockedFor 1 = false → s.mgmt.ibQueue = [] →
        s.runsTo (.mreqRead lane tag (IDENT.PART.CODE.addr 0 0) 1) fun t =>
          t.mgmt.ibAnswers = s.mgmt.ibAnswers ++ [{ lane := lane, tag := tag, status := 0, data := [0xA128B000] }] ∧
          t.regs = s.regs ∧ t.lines = s.lines) ∧
      (∀ (l j : Nat) (w : Word), l < 128 → j < 4 → s.postOf .lload l = none →
        s.grants .inband LLOAD.HOSTMASK.MASK l j w.toNat = true → s.lockedFor 1 = false →
        s.runsTo (.mreqWrite lane tag (LLOAD.HOSTMASK.MASK.addr l j) [w]) fun t =>
          t.stagedAt LLOAD.HOSTMASK.MASK l j = some w.toNat ∧
          t.mgmt.ibAnswers = s.mgmt.ibAnswers ++ [{ lane := lane, tag := tag, status := 0, data := [] }] ∧
          t.regs = s.regs ∧ t.lines = s.lines) ∧
      (s.lockedFor 1 = false → s.mgmt.ibQueue = [] →
        s.runsTo (.mreqIncomplete lane tag) fun t =>
          t.mgmt.ibAnswers = s.mgmt.ibAnswers ++ [{ lane := lane, tag := tag, status := 4, data := [] }] ∧
          t.regs = s.regs ∧ t.lines = s.lines) ∧
      (16 ≤ s.mgmt.ibQueue.length → ∀ addr n,
        s.runsTo (.mreqRead lane tag addr n) fun t =>
          t.mgmt.ibAnswers = s.mgmt.ibAnswers ++ [{ lane := lane, tag := tag, status := 3, data := [] }] ∧
          t.mgmt.ibQueue = s.mgmt.ibQueue ∧ t.regs = s.regs ∧ t.lines = s.lines) ∧
      (s.lockedFor 1 = true → s.mgmt.ibQueue.length < 16 → ∀ addr n,
        s.runsTo (.mreqRead lane tag addr n) fun t =>
          t.mgmt.ibQueue = s.mgmt.ibQueue ++
            [{ lane := lane, tag := tag, write := false, addr := addr, count := n, data := [], missing := false }] ∧
          t.mgmt.ibAnswers = s.mgmt.ibAnswers ∧ t.regs = s.regs ∧ t.lines = s.lines)) ∧
    (∀ access addr, s.mgmt.busOwner = 1 → s.mgmt.ibQueue = [] →
      s.runsTo (.leaseRevoke 1 1 access addr) fun t =>
        t.mgmt.busOwner = 0 ∧ t.fenced 1 = true ∧ t.session 0 = s.session 0 ∧ t.lines = s.lines) ∧
    (∀ ch, s.g SESSION.IDLE.MIN (chIx ch) ≠ 0 → (s.session (chIx ch)).isOpen = true → s.mgmt.ibQueue = [] →
      s.runsTo (.sessionIdleTimeout ch) fun t =>
        (t.session (chIx ch)).isOpen = false ∧ t.g SESSION.STAT.CLOSED_BY (chIx ch) = 2 ∧
        t.mgmt.busOwner ≠ chIx ch + 1 ∧ t.posts = s.posts ∧ t.lines = s.lines)

/-- R13, for every 64-bit counter, of every page that is ready, on a channel that may read it: MSPI and MDIO with the device at
rest, the channel served, not fenced, no other channel's bus lock held and a session open (R52, R54, R55, R319, R344); the
in-band channel where the read is carried out (R53). A read of LO returns the low word and latches the matching high word as
it stands; a read of HI returns the value last latched, and latches nothing: so the next read of HI returns the value latched
by the LO read, and a read of HI with no LO read before it the most recent one. -/
def Obligations.CounterReads : Prop :=
  ∀ (s : State) (ch : Channel),
    ∀ e ∈ [(CLOCKS.FM_COUNT_LO.COUNT, CLOCKS.FM_COUNT_HI.COUNT), (TRUST.ATTEST_IDX_LO.INDEX, TRUST.ATTEST_IDX_HI.INDEX),
           (PORT_CTL.RXBLK_LO.N, PORT_CTL.RXBLK_HI.N), (PORT_SEC.SA_PN_LO.PN, PORT_SEC.SA_PN_HI.PN),
           (LMON.CW_LO.COUNT, LMON.CW_HI.COUNT), (LMON.CW_FIX_LO.COUNT, LMON.CW_FIX_HI.COUNT),
           (LMON.DTU_TX_LO.COUNT, LMON.DTU_TX_HI.COUNT)],
    ∀ i j, i < e.1.page.count → j < e.1.cnt → s.pageReady e.1.page i = true →
      (ch ≠ .inband ∧ s.opensTo ch = true ∨ s.readable ch (e.1.addr i j) = true →
        s.runsTo (.counterLoRead ch (e.1.addr i j)) fun t =>
          s.gave ch (s.shown e.1 i j % 2 ^ 32) t ∧ t.latched.get 0 (e.2.key i j) = s.shown e.2 i j ∧
          t.regs = s.regs ∧ t.lines = s.lines) ∧
      (ch ≠ .inband ∧ s.opensTo ch = true ∨ s.readable ch (e.2.addr i j) = true →
        s.runsTo (.counterLoRead ch (e.2.addr i j)) fun t =>
          s.gave ch (s.latched.get 0 (e.2.key i j) % 2 ^ 32) t ∧ t.latched = s.latched ∧ t.regs = s.regs ∧ t.lines = s.lines)

/-- On MSPI and MDIO, an access that is not a whole aligned word, one outside every page, a write without a session, with a role
too low, to a locked register or while another channel holds the bus lock, completes with an error response and changes
nothing (R8, R32, R35, R55, R344, R345); MSPI says DENIED where the session rules refused it and MDIO says LOCKED where the
lock did (R52, R54). An access of a fenced channel is counted (R319). An in-band write without a session answers DENIED. -/
def Obligations.RefusedAccesses : Prop :=
  ∀ (s : State) (ch : Channel) (w : Word), s.steady = true → s.mgmt.ibQueue = [] → s.served (chIx ch) = true →
    (ch ≠ .inband → s.fenced (chIx ch + 1) = false →
      (∀ addr width, width ≠ 4 ∨ addr % 4 ≠ 0 → s.runsTo (.registerWrite ch addr width w) s.turnedAway) ∧
      (∀ addr, (∀ (p : Page) (i : Nat), i < p.count → addr < pageBase p i ∨ pageBase p i + 4096 ≤ addr) →
        (s.runsTo (.registerWrite ch addr 4 w) s.turnedAway) ∧
        (s.runsTo (.counterLoRead ch addr) fun t => s.turnedAway t ∧ t.mgmt.lastRead = [0])) ∧
      (∀ addr, s.lockedFor (chIx ch) = true →
        s.runsTo (.registerWrite ch addr 4 w) fun t => s.turnedAway t ∧ (ch = .mdio → t.mgmt.mdioLocked = true)) ∧
      (s.lockedFor (chIx ch) = false → s.restricted = false →
        (∀ l, l < 128 → s.roleOf (chIx ch) = none →
          (s.runsTo (.registerWrite ch ((HDR.EVT_EN.EN .lload).addr l 0) 4 w) fun t =>
            s.turnedAway t ∧ t.g (HDR.EVT_EN.EN .lload) l = s.g (HDR.EVT_EN.EN .lload) l ∧ (ch = .mspi → t.mgmt.mspiDenied = true)) ∧
          (s.runsTo (.counterLoRead ch ((HDR.EVT_EN.EN .lload).addr l 0)) fun t =>
            s.turnedAway t ∧ t.mgmt.lastRead = [0] ∧ (ch = .mspi → t.mgmt.mspiDenied = true))) ∧
        (∀ l, l < 128 → s.roleOf (chIx ch) = some 0 → s.g (HDR.EVT_EN.EN .lload) l ≠ w.toNat &&& condMask .lload →
          s.runsTo (.registerWrite ch ((HDR.EVT_EN.EN .lload).addr l 0) 4 w) fun t =>
            s.turnedAway t ∧ t.g (HDR.EVT_EN.EN .lload) l = s.g (HDR.EVT_EN.EN .lload) l ∧ (ch = .mspi → t.mgmt.mspiDenied = true)) ∧
        (∀ l, l < 128 → s.roleOf (chIx ch) = some 1 → s.g (HDR.PAGE_CTRL.LOCK .lload) l = 1 → w.toNat / 8 % 2 = 0 →
          s.runsTo (.pageLockWrite ch .lload l w) fun t =>
            s.turnedAway t ∧ t.g (HDR.PAGE_CTRL.LOCK .lload) l = 1) ∧
        (∀ l, l < 128 → (s.monX l).owner = 0 → s.g (HDR.PAGE_CTRL.LOCK .lmon) l = 1 → s.g LMON.NCO.FREQ l ≠ w.toNat →
          s.runsTo (.monitorNcoWrite ch l w) fun t => s.turnedAway t ∧ t.g LMON.NCO.FREQ l = s.g LMON.NCO.FREQ l))) ∧
    (ch ≠ .inband → s.fenced (chIx ch + 1) = true → ∀ addr,
      s.runsTo (.registerWrite ch addr 4 w) fun t =>
        s.turnedAway t ∧ t.g FAULT.FENCED.COUNT = satAdd 32 (s.g FAULT.FENCED.COUNT) 1 ∧
        s.onlyReg FAULT.FENCED.COUNT 0 0 t) ∧
    (∀ lane tag l, s.inbandLanes.contains lane = true → s.fenced 2 = false → s.lockedFor 1 = false → s.restricted = false →
      s.served 1 = true → l < 128 → s.roleOf 1 = none →
      s.runsTo (.mreqWrite lane tag ((HDR.EVT_EN.EN .lload).addr l 0) [w]) fun t =>
        t.mgmt.ibAnswers = s.mgmt.ibAnswers ++ [{ lane := lane, tag := tag, status := 2, data := [] }] ∧
        t.staged = s.staged ∧ t.g (HDR.EVT_EN.EN .lload) l = s.g (HDR.EVT_EN.EN .lload) l ∧ t.lines = s.lines)

/-- From every state whose waiting commands are well formed, a step answers a next state, whose waiting commands are again well
formed: no command of the device faults or is refused as long as it names parts that exist (R3 to R5, R31). -/
def Obligations.Progress : Prop :=
  ∀ s : State, s.queueOk = true → ∃ t, step s = .next t ∧ t.queueOk = true

/-- The fuses only go forward (R330): whatever command runs, from every state, the lifecycle and the OTP SVN do not fall and a
revoked slot stays revoked. -/
def Obligations.FusesOnlyForward : Prop :=
  ∀ s t : State, step s = .next t →
    s.trust.lifecycle ≤ t.trust.lifecycle ∧ s.trust.svn ≤ t.trust.svn ∧
      ∀ i, (s.slot i).revoked = true → (t.slot i).revoked = true

/-- The frame of every command for three kinds of state. Apart from the register accesses and what resets the device, only the
commands named move the superframe counter (R21, R268), only those named move the time of day or judge it (R286, R287), and
only those named move the keys, the images, the lifecycle and the boot (R329, R333). -/
def Obligations.Frames : Prop :=
  ∀ (c : Instr) (s t : State), exec c s = .next t → c.reachesAll = false →
    (c.movesGrid = false → t.sfc = s.sfc) ∧ (c.movesTime = false → t.time = s.time) ∧
      (c.movesTrust = false → t.trust = s.trust)
end

