-- ==== Sys2Proof/Laws/Store.lean ====
section
/-! SUPPORT. The laws of sparse data: a read after a write, and the form every operation keeps. -/

namespace Sys2Proof.Machine

variable {α : Type}

theorem Store.find_erase_self (m : Store α) (k : Nat) : (Store.erase m k).find k = none := by
  induction m with
  | nil => rfl
  | cons a m ih =>
    obtain ⟨b, v⟩ := a
    by_cases h : b = k
    · simp [Store.erase, h, ih]
    · simp [Store.erase, Store.find, h, ih]

theorem Store.find_erase_ne (m : Store α) {k n : Nat} (hn : n ≠ k) : (Store.erase m k).find n = m.find n := by
  induction m with
  | nil => rfl
  | cons a m ih =>
    obtain ⟨b, v⟩ := a
    by_cases h : b = k
    · subst h
      simp [Store.erase, Store.find, ih, Ne.symm hn]
    · simp [Store.erase, Store.find, h, ih]

theorem Store.find_insert_ne (m : Store α) {k n : Nat} (v : α) (hn : n ≠ k) :
    (Store.insert m k v).find n = m.find n := by
  induction m with
  | nil => simp [Store.insert, Store.find, Ne.symm hn]
  | cons a m ih =>
    obtain ⟨b, u⟩ := a
    simp only [Store.insert]
    split
    · simp [Store.find, Ne.symm hn]
    · simp [Store.find, ih]

theorem Store.find_insert_self (m : Store α) {k : Nat} (v : α) (h : m.find k = none) :
    (Store.insert m k v).find k = some v := by
  induction m with
  | nil => simp [Store.insert, Store.find]
  | cons a m ih =>
    obtain ⟨b, u⟩ := a
    simp only [Store.find] at h
    split at h
    · cases h
    · rename_i hb
      simp only [Store.insert]
      split
      · simp [Store.find]
      · simp [Store.find, hb, ih h]

theorem Store.find_put_self (m : Store α) (k : Nat) (v : Option α) : (Store.put m k v).find k = v := by
  cases v with
  | none => exact Store.find_erase_self m k
  | some v => exact Store.find_insert_self _ v (Store.find_erase_self m k)

theorem Store.find_put_ne (m : Store α) {k n : Nat} (v : Option α) (hn : n ≠ k) :
    (Store.put m k v).find n = m.find n := by
  cases v with
  | none => exact Store.find_erase_ne m hn
  | some v => exact (Store.find_insert_ne _ v hn).trans (Store.find_erase_ne m hn)

/-- A read after a write of the same key gives the value written. -/
@[simp] theorem Store.get_set_self [DecidableEq α] (m : Store α) (d v : α) (k : Nat) :
    (Store.set m d k v).get d k = v := by
  unfold Store.get Store.set
  rw [Store.find_put_self]
  split <;> simp_all

/-- A write leaves every other key alone. -/
theorem Store.get_set_ne [DecidableEq α] (m : Store α) (d e v : α) {k n : Nat} (hn : n ≠ k) :
    (Store.set m d k v).get e n = m.get e n := by
  unfold Store.get Store.set
  rw [Store.find_put_ne m _ hn]

/-- Both at once. -/
theorem Store.get_set [DecidableEq α] (m : Store α) (d v : α) (k n : Nat) :
    (Store.set m d k v).get d n = if n = k then v else m.get d n := by
  split
  · rename_i h
    rw [h, Store.get_set_self]
  · rename_i h
    exact Store.get_set_ne m d d v h

theorem Store.mem_erase {m : Store α} {k : Nat} {e : Nat × α} (h : e ∈ Store.erase m k) : e ∈ m ∧ e.1 ≠ k := by
  induction m with
  | nil => cases h
  | cons a m ih =>
    obtain ⟨b, v⟩ := a
    by_cases hb : b = k
    · simp only [Store.erase, hb, if_true] at h
      exact ⟨List.mem_cons_of_mem _ (ih h).1, (ih h).2⟩
    · simp only [Store.erase, hb, if_false, List.mem_cons] at h
      rcases h with rfl | h
      · exact ⟨List.mem_cons_self, hb⟩
      · exact ⟨List.mem_cons_of_mem _ (ih h).1, (ih h).2⟩

theorem Store.mem_insert {m : Store α} {k : Nat} {v : α} {e : Nat × α} (h : e ∈ Store.insert m k v) :
    e = (k, v) ∨ e ∈ m := by
  induction m with
  | nil => simpa [Store.insert] using h
  | cons a m ih =>
    simp only [Store.insert] at h
    split at h
    · simpa using h
    · rcases List.mem_cons.mp h with rfl | h
      · exact .inr List.mem_cons_self
      · rcases ih h with rfl | h
        · exact .inl rfl
        · exact .inr (List.mem_cons_of_mem _ h)

theorem Store.wf_erase {m : Store α} (k : Nat) (h : Store.Wf m) : Store.Wf (Store.erase m k) := by
  induction m with
  | nil => exact h
  | cons a m ih =>
    obtain ⟨b, v⟩ := a
    replace h := List.pairwise_cons.mp h
    simp only [Store.erase]
    split
    · exact ih h.2
    · exact List.pairwise_cons.mpr ⟨fun e he => h.1 e (Store.mem_erase he).1, ih h.2⟩

theorem Store.wf_insert {m : Store α} {k : Nat} (v : α) (h : Store.Wf m) (hk : ∀ e ∈ m, e.1 ≠ k) :
    Store.Wf (Store.insert m k v) := by
  induction m with
  | nil => simp [Store.insert]
  | cons a m ih =>
    obtain ⟨b, u⟩ := a
    replace h := List.pairwise_cons.mp h
    have hb : b ≠ k := hk (b, u) List.mem_cons_self
    simp only [Store.insert]
    split
    · rename_i hlt
      refine List.pairwise_cons.mpr ⟨fun e he => ?_, List.pairwise_cons.mpr h⟩
      rcases List.mem_cons.mp he with rfl | he
      · exact hlt
      · exact Nat.lt_trans hlt (h.1 e he)
    · rename_i hlt
      refine List.pairwise_cons.mpr ⟨fun e he => ?_, ih h.2 fun e he => hk e (List.mem_cons_of_mem _ he)⟩
      rcases Store.mem_insert he with rfl | he
      · exact Nat.lt_of_le_of_ne (Nat.le_of_not_lt hlt) hb
      · exact h.1 e he

/-- Every write keeps the keys strictly rising. -/
theorem Store.wf_set [DecidableEq α] {m : Store α} (d v : α) (k : Nat) (h : Store.Wf m) :
    Store.Wf (Store.set m d k v) := by
  unfold Store.set Store.put
  split
  · exact Store.wf_erase k h
  · exact Store.wf_insert _ (Store.wf_erase k h) fun e he => (Store.mem_erase he).2

/-- A write lists no entry that is equal to the default. -/
theorem Store.set_lists [DecidableEq α] {m : Store α} {d v : α} {k : Nat} {e : Nat × α}
    (h : e ∈ Store.set m d k v) : e ∈ m ∨ (e = (k, v) ∧ v ≠ d) := by
  unfold Store.set Store.put at h
  split at h
  · exact .inl (Store.mem_erase h).1
  · rename_i u hu
    split at hu
    · cases hu
    · rename_i hv
      cases hu
      rcases Store.mem_insert h with rfl | h
      · exact .inr ⟨rfl, hv⟩
      · exact .inl (Store.mem_erase h).1

end Sys2Proof.Machine
end

