-- ==== Sys2Proof/Laws/State.lean ====
section
/-! SUPPORT. The laws of the state's update operations: what each leaves alone, field by field, what a read of a
register, line, port or page part gives after a write. -/

namespace Sys2Proof.Machine

/-! ### wr -/

@[simp] theorem State.wr_staged (s : State) (F : Fld) (v i j : Nat) : (s.wr F v i j).staged = s.staged := by
  simp [State.wr]
@[simp] theorem State.wr_frozen (s : State) (F : Fld) (v i j : Nat) : (s.wr F v i j).frozen = s.frozen := by
  simp [State.wr]
@[simp] theorem State.wr_latched (s : State) (F : Fld) (v i j : Nat) : (s.wr F v i j).latched = s.latched := by
  simp [State.wr]
@[simp] theorem State.wr_posts (s : State) (F : Fld) (v i j : Nat) : (s.wr F v i j).posts = s.posts := by
  simp [State.wr]
@[simp] theorem State.wr_run (s : State) (F : Fld) (v i j : Nat) : (s.wr F v i j).run = s.run := by
  simp [State.wr]
@[simp] theorem State.wr_rest (s : State) (F : Fld) (v i j : Nat) : (s.wr F v i j).rest = s.rest := by
  simp [State.wr]
@[simp] theorem State.wr_mgmt (s : State) (F : Fld) (v i j : Nat) : (s.wr F v i j).mgmt = s.mgmt := by
  simp [State.wr]
@[simp] theorem State.wr_trust (s : State) (F : Fld) (v i j : Nat) : (s.wr F v i j).trust = s.trust := by
  simp [State.wr]
@[simp] theorem State.wr_fault (s : State) (F : Fld) (v i j : Nat) : (s.wr F v i j).fault = s.fault := by
  simp [State.wr]
@[simp] theorem State.wr_ev (s : State) (F : Fld) (v i j : Nat) : (s.wr F v i j).ev = s.ev := by
  simp [State.wr]
@[simp] theorem State.wr_clk (s : State) (F : Fld) (v i j : Nat) : (s.wr F v i j).clk = s.clk := by
  simp [State.wr]
@[simp] theorem State.wr_time (s : State) (F : Fld) (v i j : Nat) : (s.wr F v i j).time = s.time := by
  simp [State.wr]
@[simp] theorem State.wr_lvl (s : State) (F : Fld) (v i j : Nat) : (s.wr F v i j).lvl = s.lvl := by
  simp [State.wr]
@[simp] theorem State.wr_pwr (s : State) (F : Fld) (v i j : Nat) : (s.wr F v i j).pwr = s.pwr := by
  simp [State.wr]
@[simp] theorem State.wr_sfc (s : State) (F : Fld) (v i j : Nat) : (s.wr F v i j).sfc = s.sfc := by
  simp [State.wr]
@[simp] theorem State.wr_sym (s : State) (F : Fld) (v i j : Nat) : (s.wr F v i j).sym = s.sym := by
  simp [State.wr]
@[simp] theorem State.wr_lines (s : State) (F : Fld) (v i j : Nat) : (s.wr F v i j).lines = s.lines := by
  simp [State.wr]
@[simp] theorem State.wr_ports (s : State) (F : Fld) (v i j : Nat) : (s.wr F v i j).ports = s.ports := by
  simp [State.wr]
@[simp] theorem State.wr_lanes (s : State) (F : Fld) (v i j : Nat) : (s.wr F v i j).lanes = s.lanes := by
  simp [State.wr]
@[simp] theorem State.wr_mon (s : State) (F : Fld) (v i j : Nat) : (s.wr F v i j).mon = s.mon := by
  simp [State.wr]
@[simp] theorem State.wr_refl (s : State) (F : Fld) (v i j : Nat) : (s.wr F v i j).refl = s.refl := by
  simp [State.wr]
@[simp] theorem State.wr_cal (s : State) (F : Fld) (v i j : Nat) : (s.wr F v i j).cal = s.cal := by
  simp [State.wr]
@[simp] theorem State.wr_reach (s : State) (F : Fld) (v i j : Nat) : (s.wr F v i j).reach = s.reach := by
  simp [State.wr]
@[simp] theorem State.wr_std (s : State) (F : Fld) (v i j : Nat) : (s.wr F v i j).std = s.std := by
  simp [State.wr]
@[simp] theorem State.wr_xe (s : State) (F : Fld) (v i j : Nat) : (s.wr F v i j).xe = s.xe := by
  simp [State.wr]
@[simp] theorem State.wr_free (s : State) (F : Fld) (v i j : Nat) : (s.wr F v i j).free = s.free := by
  simp [State.wr]

/-! ### bump -/

@[simp] theorem State.bump_staged (s : State) (F : Fld) (i k j : Nat) : (s.bump F i k j).staged = s.staged := by
  simp [State.bump]
@[simp] theorem State.bump_frozen (s : State) (F : Fld) (i k j : Nat) : (s.bump F i k j).frozen = s.frozen := by
  simp [State.bump]
@[simp] theorem State.bump_latched (s : State) (F : Fld) (i k j : Nat) : (s.bump F i k j).latched = s.latched := by
  simp [State.bump]
@[simp] theorem State.bump_posts (s : State) (F : Fld) (i k j : Nat) : (s.bump F i k j).posts = s.posts := by
  simp [State.bump]
@[simp] theorem State.bump_run (s : State) (F : Fld) (i k j : Nat) : (s.bump F i k j).run = s.run := by
  simp [State.bump]
@[simp] theorem State.bump_rest (s : State) (F : Fld) (i k j : Nat) : (s.bump F i k j).rest = s.rest := by
  simp [State.bump]
@[simp] theorem State.bump_mgmt (s : State) (F : Fld) (i k j : Nat) : (s.bump F i k j).mgmt = s.mgmt := by
  simp [State.bump]
@[simp] theorem State.bump_trust (s : State) (F : Fld) (i k j : Nat) : (s.bump F i k j).trust = s.trust := by
  simp [State.bump]
@[simp] theorem State.bump_fault (s : State) (F : Fld) (i k j : Nat) : (s.bump F i k j).fault = s.fault := by
  simp [State.bump]
@[simp] theorem State.bump_ev (s : State) (F : Fld) (i k j : Nat) : (s.bump F i k j).ev = s.ev := by
  simp [State.bump]
@[simp] theorem State.bump_clk (s : State) (F : Fld) (i k j : Nat) : (s.bump F i k j).clk = s.clk := by
  simp [State.bump]
@[simp] theorem State.bump_time (s : State) (F : Fld) (i k j : Nat) : (s.bump F i k j).time = s.time := by
  simp [State.bump]
@[simp] theorem State.bump_lvl (s : State) (F : Fld) (i k j : Nat) : (s.bump F i k j).lvl = s.lvl := by
  simp [State.bump]
@[simp] theorem State.bump_pwr (s : State) (F : Fld) (i k j : Nat) : (s.bump F i k j).pwr = s.pwr := by
  simp [State.bump]
@[simp] theorem State.bump_sfc (s : State) (F : Fld) (i k j : Nat) : (s.bump F i k j).sfc = s.sfc := by
  simp [State.bump]
@[simp] theorem State.bump_sym (s : State) (F : Fld) (i k j : Nat) : (s.bump F i k j).sym = s.sym := by
  simp [State.bump]
@[simp] theorem State.bump_lines (s : State) (F : Fld) (i k j : Nat) : (s.bump F i k j).lines = s.lines := by
  simp [State.bump]
@[simp] theorem State.bump_ports (s : State) (F : Fld) (i k j : Nat) : (s.bump F i k j).ports = s.ports := by
  simp [State.bump]
@[simp] theorem State.bump_lanes (s : State) (F : Fld) (i k j : Nat) : (s.bump F i k j).lanes = s.lanes := by
  simp [State.bump]
@[simp] theorem State.bump_mon (s : State) (F : Fld) (i k j : Nat) : (s.bump F i k j).mon = s.mon := by
  simp [State.bump]
@[simp] theorem State.bump_refl (s : State) (F : Fld) (i k j : Nat) : (s.bump F i k j).refl = s.refl := by
  simp [State.bump]
@[simp] theorem State.bump_cal (s : State) (F : Fld) (i k j : Nat) : (s.bump F i k j).cal = s.cal := by
  simp [State.bump]
@[simp] theorem State.bump_reach (s : State) (F : Fld) (i k j : Nat) : (s.bump F i k j).reach = s.reach := by
  simp [State.bump]
@[simp] theorem State.bump_std (s : State) (F : Fld) (i k j : Nat) : (s.bump F i k j).std = s.std := by
  simp [State.bump]
@[simp] theorem State.bump_xe (s : State) (F : Fld) (i k j : Nat) : (s.bump F i k j).xe = s.xe := by
  simp [State.bump]
@[simp] theorem State.bump_free (s : State) (F : Fld) (i k j : Nat) : (s.bump F i k j).free = s.free := by
  simp [State.bump]

/-! ### setLine -/

@[simp] theorem State.setLine_regs (s : State) (l : Nat) (x : LineX) : (s.setLine l x).regs = s.regs := by
  simp [State.setLine]
@[simp] theorem State.setLine_staged (s : State) (l : Nat) (x : LineX) : (s.setLine l x).staged = s.staged := by
  simp [State.setLine]
@[simp] theorem State.setLine_frozen (s : State) (l : Nat) (x : LineX) : (s.setLine l x).frozen = s.frozen := by
  simp [State.setLine]
@[simp] theorem State.setLine_latched (s : State) (l : Nat) (x : LineX) : (s.setLine l x).latched = s.latched := by
  simp [State.setLine]
@[simp] theorem State.setLine_posts (s : State) (l : Nat) (x : LineX) : (s.setLine l x).posts = s.posts := by
  simp [State.setLine]
@[simp] theorem State.setLine_run (s : State) (l : Nat) (x : LineX) : (s.setLine l x).run = s.run := by
  simp [State.setLine]
@[simp] theorem State.setLine_rest (s : State) (l : Nat) (x : LineX) : (s.setLine l x).rest = s.rest := by
  simp [State.setLine]
@[simp] theorem State.setLine_mgmt (s : State) (l : Nat) (x : LineX) : (s.setLine l x).mgmt = s.mgmt := by
  simp [State.setLine]
@[simp] theorem State.setLine_trust (s : State) (l : Nat) (x : LineX) : (s.setLine l x).trust = s.trust := by
  simp [State.setLine]
@[simp] theorem State.setLine_fault (s : State) (l : Nat) (x : LineX) : (s.setLine l x).fault = s.fault := by
  simp [State.setLine]
@[simp] theorem State.setLine_ev (s : State) (l : Nat) (x : LineX) : (s.setLine l x).ev = s.ev := by
  simp [State.setLine]
@[simp] theorem State.setLine_clk (s : State) (l : Nat) (x : LineX) : (s.setLine l x).clk = s.clk := by
  simp [State.setLine]
@[simp] theorem State.setLine_time (s : State) (l : Nat) (x : LineX) : (s.setLine l x).time = s.time := by
  simp [State.setLine]
@[simp] theorem State.setLine_lvl (s : State) (l : Nat) (x : LineX) : (s.setLine l x).lvl = s.lvl := by
  simp [State.setLine]
@[simp] theorem State.setLine_pwr (s : State) (l : Nat) (x : LineX) : (s.setLine l x).pwr = s.pwr := by
  simp [State.setLine]
@[simp] theorem State.setLine_sfc (s : State) (l : Nat) (x : LineX) : (s.setLine l x).sfc = s.sfc := by
  simp [State.setLine]
@[simp] theorem State.setLine_sym (s : State) (l : Nat) (x : LineX) : (s.setLine l x).sym = s.sym := by
  simp [State.setLine]
@[simp] theorem State.setLine_ports (s : State) (l : Nat) (x : LineX) : (s.setLine l x).ports = s.ports := by
  simp [State.setLine]
@[simp] theorem State.setLine_lanes (s : State) (l : Nat) (x : LineX) : (s.setLine l x).lanes = s.lanes := by
  simp [State.setLine]
@[simp] theorem State.setLine_mon (s : State) (l : Nat) (x : LineX) : (s.setLine l x).mon = s.mon := by
  simp [State.setLine]
@[simp] theorem State.setLine_refl (s : State) (l : Nat) (x : LineX) : (s.setLine l x).refl = s.refl := by
  simp [State.setLine]
@[simp] theorem State.setLine_cal (s : State) (l : Nat) (x : LineX) : (s.setLine l x).cal = s.cal := by
  simp [State.setLine]
@[simp] theorem State.setLine_reach (s : State) (l : Nat) (x : LineX) : (s.setLine l x).reach = s.reach := by
  simp [State.setLine]
@[simp] theorem State.setLine_std (s : State) (l : Nat) (x : LineX) : (s.setLine l x).std = s.std := by
  simp [State.setLine]
@[simp] theorem State.setLine_xe (s : State) (l : Nat) (x : LineX) : (s.setLine l x).xe = s.xe := by
  simp [State.setLine]
@[simp] theorem State.setLine_free (s : State) (l : Nat) (x : LineX) : (s.setLine l x).free = s.free := by
  simp [State.setLine]
@[simp] theorem State.setLine_g (s : State) (l : Nat) (x : LineX) (G : Fld) (a c : Nat) : (s.setLine l x).g G a c = s.g G a c := by
  simp [State.g]

/-! ### setPort -/

@[simp] theorem State.setPort_regs (s : State) (l : Nat) (x : PortX) : (s.setPort l x).regs = s.regs := by
  simp [State.setPort]
@[simp] theorem State.setPort_staged (s : State) (l : Nat) (x : PortX) : (s.setPort l x).staged = s.staged := by
  simp [State.setPort]
@[simp] theorem State.setPort_frozen (s : State) (l : Nat) (x : PortX) : (s.setPort l x).frozen = s.frozen := by
  simp [State.setPort]
@[simp] theorem State.setPort_latched (s : State) (l : Nat) (x : PortX) : (s.setPort l x).latched = s.latched := by
  simp [State.setPort]
@[simp] theorem State.setPort_posts (s : State) (l : Nat) (x : PortX) : (s.setPort l x).posts = s.posts := by
  simp [State.setPort]
@[simp] theorem State.setPort_run (s : State) (l : Nat) (x : PortX) : (s.setPort l x).run = s.run := by
  simp [State.setPort]
@[simp] theorem State.setPort_rest (s : State) (l : Nat) (x : PortX) : (s.setPort l x).rest = s.rest := by
  simp [State.setPort]
@[simp] theorem State.setPort_mgmt (s : State) (l : Nat) (x : PortX) : (s.setPort l x).mgmt = s.mgmt := by
  simp [State.setPort]
@[simp] theorem State.setPort_trust (s : State) (l : Nat) (x : PortX) : (s.setPort l x).trust = s.trust := by
  simp [State.setPort]
@[simp] theorem State.setPort_fault (s : State) (l : Nat) (x : PortX) : (s.setPort l x).fault = s.fault := by
  simp [State.setPort]
@[simp] theorem State.setPort_ev (s : State) (l : Nat) (x : PortX) : (s.setPort l x).ev = s.ev := by
  simp [State.setPort]
@[simp] theorem State.setPort_clk (s : State) (l : Nat) (x : PortX) : (s.setPort l x).clk = s.clk := by
  simp [State.setPort]
@[simp] theorem State.setPort_time (s : State) (l : Nat) (x : PortX) : (s.setPort l x).time = s.time := by
  simp [State.setPort]
@[simp] theorem State.setPort_lvl (s : State) (l : Nat) (x : PortX) : (s.setPort l x).lvl = s.lvl := by
  simp [State.setPort]
@[simp] theorem State.setPort_pwr (s : State) (l : Nat) (x : PortX) : (s.setPort l x).pwr = s.pwr := by
  simp [State.setPort]
@[simp] theorem State.setPort_sfc (s : State) (l : Nat) (x : PortX) : (s.setPort l x).sfc = s.sfc := by
  simp [State.setPort]
@[simp] theorem State.setPort_sym (s : State) (l : Nat) (x : PortX) : (s.setPort l x).sym = s.sym := by
  simp [State.setPort]
@[simp] theorem State.setPort_lines (s : State) (l : Nat) (x : PortX) : (s.setPort l x).lines = s.lines := by
  simp [State.setPort]
@[simp] theorem State.setPort_lanes (s : State) (l : Nat) (x : PortX) : (s.setPort l x).lanes = s.lanes := by
  simp [State.setPort]
@[simp] theorem State.setPort_mon (s : State) (l : Nat) (x : PortX) : (s.setPort l x).mon = s.mon := by
  simp [State.setPort]
@[simp] theorem State.setPort_refl (s : State) (l : Nat) (x : PortX) : (s.setPort l x).refl = s.refl := by
  simp [State.setPort]
@[simp] theorem State.setPort_cal (s : State) (l : Nat) (x : PortX) : (s.setPort l x).cal = s.cal := by
  simp [State.setPort]
@[simp] theorem State.setPort_reach (s : State) (l : Nat) (x : PortX) : (s.setPort l x).reach = s.reach := by
  simp [State.setPort]
@[simp] theorem State.setPort_std (s : State) (l : Nat) (x : PortX) : (s.setPort l x).std = s.std := by
  simp [State.setPort]
@[simp] theorem State.setPort_xe (s : State) (l : Nat) (x : PortX) : (s.setPort l x).xe = s.xe := by
  simp [State.setPort]
@[simp] theorem State.setPort_free (s : State) (l : Nat) (x : PortX) : (s.setPort l x).free = s.free := by
  simp [State.setPort]
@[simp] theorem State.setPort_g (s : State) (l : Nat) (x : PortX) (G : Fld) (a c : Nat) : (s.setPort l x).g G a c = s.g G a c := by
  simp [State.g]

/-! ### setLane -/

@[simp] theorem State.setLane_regs (s : State) (l : Nat) (x : LaneX) : (s.setLane l x).regs = s.regs := by
  simp [State.setLane]
@[simp] theorem State.setLane_staged (s : State) (l : Nat) (x : LaneX) : (s.setLane l x).staged = s.staged := by
  simp [State.setLane]
@[simp] theorem State.setLane_frozen (s : State) (l : Nat) (x : LaneX) : (s.setLane l x).frozen = s.frozen := by
  simp [State.setLane]
@[simp] theorem State.setLane_latched (s : State) (l : Nat) (x : LaneX) : (s.setLane l x).latched = s.latched := by
  simp [State.setLane]
@[simp] theorem State.setLane_posts (s : State) (l : Nat) (x : LaneX) : (s.setLane l x).posts = s.posts := by
  simp [State.setLane]
@[simp] theorem State.setLane_run (s : State) (l : Nat) (x : LaneX) : (s.setLane l x).run = s.run := by
  simp [State.setLane]
@[simp] theorem State.setLane_rest (s : State) (l : Nat) (x : LaneX) : (s.setLane l x).rest = s.rest := by
  simp [State.setLane]
@[simp] theorem State.setLane_mgmt (s : State) (l : Nat) (x : LaneX) : (s.setLane l x).mgmt = s.mgmt := by
  simp [State.setLane]
@[simp] theorem State.setLane_trust (s : State) (l : Nat) (x : LaneX) : (s.setLane l x).trust = s.trust := by
  simp [State.setLane]
@[simp] theorem State.setLane_fault (s : State) (l : Nat) (x : LaneX) : (s.setLane l x).fault = s.fault := by
  simp [State.setLane]
@[simp] theorem State.setLane_ev (s : State) (l : Nat) (x : LaneX) : (s.setLane l x).ev = s.ev := by
  simp [State.setLane]
@[simp] theorem State.setLane_clk (s : State) (l : Nat) (x : LaneX) : (s.setLane l x).clk = s.clk := by
  simp [State.setLane]
@[simp] theorem State.setLane_time (s : State) (l : Nat) (x : LaneX) : (s.setLane l x).time = s.time := by
  simp [State.setLane]
@[simp] theorem State.setLane_lvl (s : State) (l : Nat) (x : LaneX) : (s.setLane l x).lvl = s.lvl := by
  simp [State.setLane]
@[simp] theorem State.setLane_pwr (s : State) (l : Nat) (x : LaneX) : (s.setLane l x).pwr = s.pwr := by
  simp [State.setLane]
@[simp] theorem State.setLane_sfc (s : State) (l : Nat) (x : LaneX) : (s.setLane l x).sfc = s.sfc := by
  simp [State.setLane]
@[simp] theorem State.setLane_sym (s : State) (l : Nat) (x : LaneX) : (s.setLane l x).sym = s.sym := by
  simp [State.setLane]
@[simp] theorem State.setLane_lines (s : State) (l : Nat) (x : LaneX) : (s.setLane l x).lines = s.lines := by
  simp [State.setLane]
@[simp] theorem State.setLane_ports (s : State) (l : Nat) (x : LaneX) : (s.setLane l x).ports = s.ports := by
  simp [State.setLane]
@[simp] theorem State.setLane_mon (s : State) (l : Nat) (x : LaneX) : (s.setLane l x).mon = s.mon := by
  simp [State.setLane]
@[simp] theorem State.setLane_refl (s : State) (l : Nat) (x : LaneX) : (s.setLane l x).refl = s.refl := by
  simp [State.setLane]
@[simp] theorem State.setLane_cal (s : State) (l : Nat) (x : LaneX) : (s.setLane l x).cal = s.cal := by
  simp [State.setLane]
@[simp] theorem State.setLane_reach (s : State) (l : Nat) (x : LaneX) : (s.setLane l x).reach = s.reach := by
  simp [State.setLane]
@[simp] theorem State.setLane_std (s : State) (l : Nat) (x : LaneX) : (s.setLane l x).std = s.std := by
  simp [State.setLane]
@[simp] theorem State.setLane_xe (s : State) (l : Nat) (x : LaneX) : (s.setLane l x).xe = s.xe := by
  simp [State.setLane]
@[simp] theorem State.setLane_free (s : State) (l : Nat) (x : LaneX) : (s.setLane l x).free = s.free := by
  simp [State.setLane]
@[simp] theorem State.setLane_g (s : State) (l : Nat) (x : LaneX) (G : Fld) (a c : Nat) : (s.setLane l x).g G a c = s.g G a c := by
  simp [State.g]

/-! ### modLine -/

@[simp] theorem State.modLine_regs (s : State) (l : Nat) (f : LineX → LineX) : (s.modLine l f).regs = s.regs := by
  simp [State.modLine]
@[simp] theorem State.modLine_staged (s : State) (l : Nat) (f : LineX → LineX) : (s.modLine l f).staged = s.staged := by
  simp [State.modLine]
@[simp] theorem State.modLine_frozen (s : State) (l : Nat) (f : LineX → LineX) : (s.modLine l f).frozen = s.frozen := by
  simp [State.modLine]
@[simp] theorem State.modLine_latched (s : State) (l : Nat) (f : LineX → LineX) : (s.modLine l f).latched = s.latched := by
  simp [State.modLine]
@[simp] theorem State.modLine_posts (s : State) (l : Nat) (f : LineX → LineX) : (s.modLine l f).posts = s.posts := by
  simp [State.modLine]
@[simp] theorem State.modLine_run (s : State) (l : Nat) (f : LineX → LineX) : (s.modLine l f).run = s.run := by
  simp [State.modLine]
@[simp] theorem State.modLine_rest (s : State) (l : Nat) (f : LineX → LineX) : (s.modLine l f).rest = s.rest := by
  simp [State.modLine]
@[simp] theorem State.modLine_mgmt (s : State) (l : Nat) (f : LineX → LineX) : (s.modLine l f).mgmt = s.mgmt := by
  simp [State.modLine]
@[simp] theorem State.modLine_trust (s : State) (l : Nat) (f : LineX → LineX) : (s.modLine l f).trust = s.trust := by
  simp [State.modLine]
@[simp] theorem State.modLine_fault (s : State) (l : Nat) (f : LineX → LineX) : (s.modLine l f).fault = s.fault := by
  simp [State.modLine]
@[simp] theorem State.modLine_ev (s : State) (l : Nat) (f : LineX → LineX) : (s.modLine l f).ev = s.ev := by
  simp [State.modLine]
@[simp] theorem State.modLine_clk (s : State) (l : Nat) (f : LineX → LineX) : (s.modLine l f).clk = s.clk := by
  simp [State.modLine]
@[simp] theorem State.modLine_time (s : State) (l : Nat) (f : LineX → LineX) : (s.modLine l f).time = s.time := by
  simp [State.modLine]
@[simp] theorem State.modLine_lvl (s : State) (l : Nat) (f : LineX → LineX) : (s.modLine l f).lvl = s.lvl := by
  simp [State.modLine]
@[simp] theorem State.modLine_pwr (s : State) (l : Nat) (f : LineX → LineX) : (s.modLine l f).pwr = s.pwr := by
  simp [State.modLine]
@[simp] theorem State.modLine_sfc (s : State) (l : Nat) (f : LineX → LineX) : (s.modLine l f).sfc = s.sfc := by
  simp [State.modLine]
@[simp] theorem State.modLine_sym (s : State) (l : Nat) (f : LineX → LineX) : (s.modLine l f).sym = s.sym := by
  simp [State.modLine]
@[simp] theorem State.modLine_ports (s : State) (l : Nat) (f : LineX → LineX) : (s.modLine l f).ports = s.ports := by
  simp [State.modLine]
@[simp] theorem State.modLine_lanes (s : State) (l : Nat) (f : LineX → LineX) : (s.modLine l f).lanes = s.lanes := by
  simp [State.modLine]
@[simp] theorem State.modLine_mon (s : State) (l : Nat) (f : LineX → LineX) : (s.modLine l f).mon = s.mon := by
  simp [State.modLine]
@[simp] theorem State.modLine_refl (s : State) (l : Nat) (f : LineX → LineX) : (s.modLine l f).refl = s.refl := by
  simp [State.modLine]
@[simp] theorem State.modLine_cal (s : State) (l : Nat) (f : LineX → LineX) : (s.modLine l f).cal = s.cal := by
  simp [State.modLine]
@[simp] theorem State.modLine_reach (s : State) (l : Nat) (f : LineX → LineX) : (s.modLine l f).reach = s.reach := by
  simp [State.modLine]
@[simp] theorem State.modLine_std (s : State) (l : Nat) (f : LineX → LineX) : (s.modLine l f).std = s.std := by
  simp [State.modLine]
@[simp] theorem State.modLine_xe (s : State) (l : Nat) (f : LineX → LineX) : (s.modLine l f).xe = s.xe := by
  simp [State.modLine]
@[simp] theorem State.modLine_free (s : State) (l : Nat) (f : LineX → LineX) : (s.modLine l f).free = s.free := by
  simp [State.modLine]
@[simp] theorem State.modLine_g (s : State) (l : Nat) (f : LineX → LineX) (G : Fld) (a c : Nat) : (s.modLine l f).g G a c = s.g G a c := by
  simp [State.g]

/-! ### modPort -/

@[simp] theorem State.modPort_regs (s : State) (l : Nat) (f : PortX → PortX) : (s.modPort l f).regs = s.regs := by
  simp [State.modPort]
@[simp] theorem State.modPort_staged (s : State) (l : Nat) (f : PortX → PortX) : (s.modPort l f).staged = s.staged := by
  simp [State.modPort]
@[simp] theorem State.modPort_frozen (s : State) (l : Nat) (f : PortX → PortX) : (s.modPort l f).frozen = s.frozen := by
  simp [State.modPort]
@[simp] theorem State.modPort_latched (s : State) (l : Nat) (f : PortX → PortX) : (s.modPort l f).latched = s.latched := by
  simp [State.modPort]
@[simp] theorem State.modPort_posts (s : State) (l : Nat) (f : PortX → PortX) : (s.modPort l f).posts = s.posts := by
  simp [State.modPort]
@[simp] theorem State.modPort_run (s : State) (l : Nat) (f : PortX → PortX) : (s.modPort l f).run = s.run := by
  simp [State.modPort]
@[simp] theorem State.modPort_rest (s : State) (l : Nat) (f : PortX → PortX) : (s.modPort l f).rest = s.rest := by
  simp [State.modPort]
@[simp] theorem State.modPort_mgmt (s : State) (l : Nat) (f : PortX → PortX) : (s.modPort l f).mgmt = s.mgmt := by
  simp [State.modPort]
@[simp] theorem State.modPort_trust (s : State) (l : Nat) (f : PortX → PortX) : (s.modPort l f).trust = s.trust := by
  simp [State.modPort]
@[simp] theorem State.modPort_fault (s : State) (l : Nat) (f : PortX → PortX) : (s.modPort l f).fault = s.fault := by
  simp [State.modPort]
@[simp] theorem State.modPort_ev (s : State) (l : Nat) (f : PortX → PortX) : (s.modPort l f).ev = s.ev := by
  simp [State.modPort]
@[simp] theorem State.modPort_clk (s : State) (l : Nat) (f : PortX → PortX) : (s.modPort l f).clk = s.clk := by
  simp [State.modPort]
@[simp] theorem State.modPort_time (s : State) (l : Nat) (f : PortX → PortX) : (s.modPort l f).time = s.time := by
  simp [State.modPort]
@[simp] theorem State.modPort_lvl (s : State) (l : Nat) (f : PortX → PortX) : (s.modPort l f).lvl = s.lvl := by
  simp [State.modPort]
@[simp] theorem State.modPort_pwr (s : State) (l : Nat) (f : PortX → PortX) : (s.modPort l f).pwr = s.pwr := by
  simp [State.modPort]
@[simp] theorem State.modPort_sfc (s : State) (l : Nat) (f : PortX → PortX) : (s.modPort l f).sfc = s.sfc := by
  simp [State.modPort]
@[simp] theorem State.modPort_sym (s : State) (l : Nat) (f : PortX → PortX) : (s.modPort l f).sym = s.sym := by
  simp [State.modPort]
@[simp] theorem State.modPort_lines (s : State) (l : Nat) (f : PortX → PortX) : (s.modPort l f).lines = s.lines := by
  simp [State.modPort]
@[simp] theorem State.modPort_lanes (s : State) (l : Nat) (f : PortX → PortX) : (s.modPort l f).lanes = s.lanes := by
  simp [State.modPort]
@[simp] theorem State.modPort_mon (s : State) (l : Nat) (f : PortX → PortX) : (s.modPort l f).mon = s.mon := by
  simp [State.modPort]
@[simp] theorem State.modPort_refl (s : State) (l : Nat) (f : PortX → PortX) : (s.modPort l f).refl = s.refl := by
  simp [State.modPort]
@[simp] theorem State.modPort_cal (s : State) (l : Nat) (f : PortX → PortX) : (s.modPort l f).cal = s.cal := by
  simp [State.modPort]
@[simp] theorem State.modPort_reach (s : State) (l : Nat) (f : PortX → PortX) : (s.modPort l f).reach = s.reach := by
  simp [State.modPort]
@[simp] theorem State.modPort_std (s : State) (l : Nat) (f : PortX → PortX) : (s.modPort l f).std = s.std := by
  simp [State.modPort]
@[simp] theorem State.modPort_xe (s : State) (l : Nat) (f : PortX → PortX) : (s.modPort l f).xe = s.xe := by
  simp [State.modPort]
@[simp] theorem State.modPort_free (s : State) (l : Nat) (f : PortX → PortX) : (s.modPort l f).free = s.free := by
  simp [State.modPort]
@[simp] theorem State.modPort_g (s : State) (l : Nat) (f : PortX → PortX) (G : Fld) (a c : Nat) : (s.modPort l f).g G a c = s.g G a c := by
  simp [State.g]

/-! ### modLane -/

@[simp] theorem State.modLane_regs (s : State) (l : Nat) (f : LaneX → LaneX) : (s.modLane l f).regs = s.regs := by
  simp [State.modLane]
@[simp] theorem State.modLane_staged (s : State) (l : Nat) (f : LaneX → LaneX) : (s.modLane l f).staged = s.staged := by
  simp [State.modLane]
@[simp] theorem State.modLane_frozen (s : State) (l : Nat) (f : LaneX → LaneX) : (s.modLane l f).frozen = s.frozen := by
  simp [State.modLane]
@[simp] theorem State.modLane_latched (s : State) (l : Nat) (f : LaneX → LaneX) : (s.modLane l f).latched = s.latched := by
  simp [State.modLane]
@[simp] theorem State.modLane_posts (s : State) (l : Nat) (f : LaneX → LaneX) : (s.modLane l f).posts = s.posts := by
  simp [State.modLane]
@[simp] theorem State.modLane_run (s : State) (l : Nat) (f : LaneX → LaneX) : (s.modLane l f).run = s.run := by
  simp [State.modLane]
@[simp] theorem State.modLane_rest (s : State) (l : Nat) (f : LaneX → LaneX) : (s.modLane l f).rest = s.rest := by
  simp [State.modLane]
@[simp] theorem State.modLane_mgmt (s : State) (l : Nat) (f : LaneX → LaneX) : (s.modLane l f).mgmt = s.mgmt := by
  simp [State.modLane]
@[simp] theorem State.modLane_trust (s : State) (l : Nat) (f : LaneX → LaneX) : (s.modLane l f).trust = s.trust := by
  simp [State.modLane]
@[simp] theorem State.modLane_fault (s : State) (l : Nat) (f : LaneX → LaneX) : (s.modLane l f).fault = s.fault := by
  simp [State.modLane]
@[simp] theorem State.modLane_ev (s : State) (l : Nat) (f : LaneX → LaneX) : (s.modLane l f).ev = s.ev := by
  simp [State.modLane]
@[simp] theorem State.modLane_clk (s : State) (l : Nat) (f : LaneX → LaneX) : (s.modLane l f).clk = s.clk := by
  simp [State.modLane]
@[simp] theorem State.modLane_time (s : State) (l : Nat) (f : LaneX → LaneX) : (s.modLane l f).time = s.time := by
  simp [State.modLane]
@[simp] theorem State.modLane_lvl (s : State) (l : Nat) (f : LaneX → LaneX) : (s.modLane l f).lvl = s.lvl := by
  simp [State.modLane]
@[simp] theorem State.modLane_pwr (s : State) (l : Nat) (f : LaneX → LaneX) : (s.modLane l f).pwr = s.pwr := by
  simp [State.modLane]
@[simp] theorem State.modLane_sfc (s : State) (l : Nat) (f : LaneX → LaneX) : (s.modLane l f).sfc = s.sfc := by
  simp [State.modLane]
@[simp] theorem State.modLane_sym (s : State) (l : Nat) (f : LaneX → LaneX) : (s.modLane l f).sym = s.sym := by
  simp [State.modLane]
@[simp] theorem State.modLane_lines (s : State) (l : Nat) (f : LaneX → LaneX) : (s.modLane l f).lines = s.lines := by
  simp [State.modLane]
@[simp] theorem State.modLane_ports (s : State) (l : Nat) (f : LaneX → LaneX) : (s.modLane l f).ports = s.ports := by
  simp [State.modLane]
@[simp] theorem State.modLane_mon (s : State) (l : Nat) (f : LaneX → LaneX) : (s.modLane l f).mon = s.mon := by
  simp [State.modLane]
@[simp] theorem State.modLane_refl (s : State) (l : Nat) (f : LaneX → LaneX) : (s.modLane l f).refl = s.refl := by
  simp [State.modLane]
@[simp] theorem State.modLane_cal (s : State) (l : Nat) (f : LaneX → LaneX) : (s.modLane l f).cal = s.cal := by
  simp [State.modLane]
@[simp] theorem State.modLane_reach (s : State) (l : Nat) (f : LaneX → LaneX) : (s.modLane l f).reach = s.reach := by
  simp [State.modLane]
@[simp] theorem State.modLane_std (s : State) (l : Nat) (f : LaneX → LaneX) : (s.modLane l f).std = s.std := by
  simp [State.modLane]
@[simp] theorem State.modLane_xe (s : State) (l : Nat) (f : LaneX → LaneX) : (s.modLane l f).xe = s.xe := by
  simp [State.modLane]
@[simp] theorem State.modLane_free (s : State) (l : Nat) (f : LaneX → LaneX) : (s.modLane l f).free = s.free := by
  simp [State.modLane]
@[simp] theorem State.modLane_g (s : State) (l : Nat) (f : LaneX → LaneX) (G : Fld) (a c : Nat) : (s.modLane l f).g G a c = s.g G a c := by
  simp [State.g]

/-! ### modMgmt -/

@[simp] theorem State.modMgmt_regs (s : State) (f : Mgmt → Mgmt) : (s.modMgmt f).regs = s.regs := by
  simp [State.modMgmt]
@[simp] theorem State.modMgmt_staged (s : State) (f : Mgmt → Mgmt) : (s.modMgmt f).staged = s.staged := by
  simp [State.modMgmt]
@[simp] theorem State.modMgmt_frozen (s : State) (f : Mgmt → Mgmt) : (s.modMgmt f).frozen = s.frozen := by
  simp [State.modMgmt]
@[simp] theorem State.modMgmt_latched (s : State) (f : Mgmt → Mgmt) : (s.modMgmt f).latched = s.latched := by
  simp [State.modMgmt]
@[simp] theorem State.modMgmt_posts (s : State) (f : Mgmt → Mgmt) : (s.modMgmt f).posts = s.posts := by
  simp [State.modMgmt]
@[simp] theorem State.modMgmt_run (s : State) (f : Mgmt → Mgmt) : (s.modMgmt f).run = s.run := by
  simp [State.modMgmt]
@[simp] theorem State.modMgmt_rest (s : State) (f : Mgmt → Mgmt) : (s.modMgmt f).rest = s.rest := by
  simp [State.modMgmt]
@[simp] theorem State.modMgmt_trust (s : State) (f : Mgmt → Mgmt) : (s.modMgmt f).trust = s.trust := by
  simp [State.modMgmt]
@[simp] theorem State.modMgmt_fault (s : State) (f : Mgmt → Mgmt) : (s.modMgmt f).fault = s.fault := by
  simp [State.modMgmt]
@[simp] theorem State.modMgmt_ev (s : State) (f : Mgmt → Mgmt) : (s.modMgmt f).ev = s.ev := by
  simp [State.modMgmt]
@[simp] theorem State.modMgmt_clk (s : State) (f : Mgmt → Mgmt) : (s.modMgmt f).clk = s.clk := by
  simp [State.modMgmt]
@[simp] theorem State.modMgmt_time (s : State) (f : Mgmt → Mgmt) : (s.modMgmt f).time = s.time := by
  simp [State.modMgmt]
@[simp] theorem State.modMgmt_lvl (s : State) (f : Mgmt → Mgmt) : (s.modMgmt f).lvl = s.lvl := by
  simp [State.modMgmt]
@[simp] theorem State.modMgmt_pwr (s : State) (f : Mgmt → Mgmt) : (s.modMgmt f).pwr = s.pwr := by
  simp [State.modMgmt]
@[simp] theorem State.modMgmt_sfc (s : State) (f : Mgmt → Mgmt) : (s.modMgmt f).sfc = s.sfc := by
  simp [State.modMgmt]
@[simp] theorem State.modMgmt_sym (s : State) (f : Mgmt → Mgmt) : (s.modMgmt f).sym = s.sym := by
  simp [State.modMgmt]
@[simp] theorem State.modMgmt_lines (s : State) (f : Mgmt → Mgmt) : (s.modMgmt f).lines = s.lines := by
  simp [State.modMgmt]
@[simp] theorem State.modMgmt_ports (s : State) (f : Mgmt → Mgmt) : (s.modMgmt f).ports = s.ports := by
  simp [State.modMgmt]
@[simp] theorem State.modMgmt_lanes (s : State) (f : Mgmt → Mgmt) : (s.modMgmt f).lanes = s.lanes := by
  simp [State.modMgmt]
@[simp] theorem State.modMgmt_mon (s : State) (f : Mgmt → Mgmt) : (s.modMgmt f).mon = s.mon := by
  simp [State.modMgmt]
@[simp] theorem State.modMgmt_refl (s : State) (f : Mgmt → Mgmt) : (s.modMgmt f).refl = s.refl := by
  simp [State.modMgmt]
@[simp] theorem State.modMgmt_cal (s : State) (f : Mgmt → Mgmt) : (s.modMgmt f).cal = s.cal := by
  simp [State.modMgmt]
@[simp] theorem State.modMgmt_reach (s : State) (f : Mgmt → Mgmt) : (s.modMgmt f).reach = s.reach := by
  simp [State.modMgmt]
@[simp] theorem State.modMgmt_std (s : State) (f : Mgmt → Mgmt) : (s.modMgmt f).std = s.std := by
  simp [State.modMgmt]
@[simp] theorem State.modMgmt_xe (s : State) (f : Mgmt → Mgmt) : (s.modMgmt f).xe = s.xe := by
  simp [State.modMgmt]
@[simp] theorem State.modMgmt_free (s : State) (f : Mgmt → Mgmt) : (s.modMgmt f).free = s.free := by
  simp [State.modMgmt]
@[simp] theorem State.modMgmt_self (s : State) (f : Mgmt → Mgmt) : (s.modMgmt f).mgmt = f s.mgmt := by
  simp [State.modMgmt]
@[simp] theorem State.modMgmt_g (s : State) (f : Mgmt → Mgmt) (G : Fld) (a c : Nat) : (s.modMgmt f).g G a c = s.g G a c := by
  simp [State.g]

/-! ### modTrust -/

@[simp] theorem State.modTrust_regs (s : State) (f : TrustX → TrustX) : (s.modTrust f).regs = s.regs := by
  simp [State.modTrust]
@[simp] theorem State.modTrust_staged (s : State) (f : TrustX → TrustX) : (s.modTrust f).staged = s.staged := by
  simp [State.modTrust]
@[simp] theorem State.modTrust_frozen (s : State) (f : TrustX → TrustX) : (s.modTrust f).frozen = s.frozen := by
  simp [State.modTrust]
@[simp] theorem State.modTrust_latched (s : State) (f : TrustX → TrustX) : (s.modTrust f).latched = s.latched := by
  simp [State.modTrust]
@[simp] theorem State.modTrust_posts (s : State) (f : TrustX → TrustX) : (s.modTrust f).posts = s.posts := by
  simp [State.modTrust]
@[simp] theorem State.modTrust_run (s : State) (f : TrustX → TrustX) : (s.modTrust f).run = s.run := by
  simp [State.modTrust]
@[simp] theorem State.modTrust_rest (s : State) (f : TrustX → TrustX) : (s.modTrust f).rest = s.rest := by
  simp [State.modTrust]
@[simp] theorem State.modTrust_mgmt (s : State) (f : TrustX → TrustX) : (s.modTrust f).mgmt = s.mgmt := by
  simp [State.modTrust]
@[simp] theorem State.modTrust_fault (s : State) (f : TrustX → TrustX) : (s.modTrust f).fault = s.fault := by
  simp [State.modTrust]
@[simp] theorem State.modTrust_ev (s : State) (f : TrustX → TrustX) : (s.modTrust f).ev = s.ev := by
  simp [State.modTrust]
@[simp] theorem State.modTrust_clk (s : State) (f : TrustX → TrustX) : (s.modTrust f).clk = s.clk := by
  simp [State.modTrust]
@[simp] theorem State.modTrust_time (s : State) (f : TrustX → TrustX) : (s.modTrust f).time = s.time := by
  simp [State.modTrust]
@[simp] theorem State.modTrust_lvl (s : State) (f : TrustX → TrustX) : (s.modTrust f).lvl = s.lvl := by
  simp [State.modTrust]
@[simp] theorem State.modTrust_pwr (s : State) (f : TrustX → TrustX) : (s.modTrust f).pwr = s.pwr := by
  simp [State.modTrust]
@[simp] theorem State.modTrust_sfc (s : State) (f : TrustX → TrustX) : (s.modTrust f).sfc = s.sfc := by
  simp [State.modTrust]
@[simp] theorem State.modTrust_sym (s : State) (f : TrustX → TrustX) : (s.modTrust f).sym = s.sym := by
  simp [State.modTrust]
@[simp] theorem State.modTrust_lines (s : State) (f : TrustX → TrustX) : (s.modTrust f).lines = s.lines := by
  simp [State.modTrust]
@[simp] theorem State.modTrust_ports (s : State) (f : TrustX → TrustX) : (s.modTrust f).ports = s.ports := by
  simp [State.modTrust]
@[simp] theorem State.modTrust_lanes (s : State) (f : TrustX → TrustX) : (s.modTrust f).lanes = s.lanes := by
  simp [State.modTrust]
@[simp] theorem State.modTrust_mon (s : State) (f : TrustX → TrustX) : (s.modTrust f).mon = s.mon := by
  simp [State.modTrust]
@[simp] theorem State.modTrust_refl (s : State) (f : TrustX → TrustX) : (s.modTrust f).refl = s.refl := by
  simp [State.modTrust]
@[simp] theorem State.modTrust_cal (s : State) (f : TrustX → TrustX) : (s.modTrust f).cal = s.cal := by
  simp [State.modTrust]
@[simp] theorem State.modTrust_reach (s : State) (f : TrustX → TrustX) : (s.modTrust f).reach = s.reach := by
  simp [State.modTrust]
@[simp] theorem State.modTrust_std (s : State) (f : TrustX → TrustX) : (s.modTrust f).std = s.std := by
  simp [State.modTrust]
@[simp] theorem State.modTrust_xe (s : State) (f : TrustX → TrustX) : (s.modTrust f).xe = s.xe := by
  simp [State.modTrust]
@[simp] theorem State.modTrust_free (s : State) (f : TrustX → TrustX) : (s.modTrust f).free = s.free := by
  simp [State.modTrust]
@[simp] theorem State.modTrust_self (s : State) (f : TrustX → TrustX) : (s.modTrust f).trust = f s.trust := by
  simp [State.modTrust]
@[simp] theorem State.modTrust_g (s : State) (f : TrustX → TrustX) (G : Fld) (a c : Nat) : (s.modTrust f).g G a c = s.g G a c := by
  simp [State.g]

/-! ### modFault -/

@[simp] theorem State.modFault_regs (s : State) (f : FaultX → FaultX) : (s.modFault f).regs = s.regs := by
  simp [State.modFault]
@[simp] theorem State.modFault_staged (s : State) (f : FaultX → FaultX) : (s.modFault f).staged = s.staged := by
  simp [State.modFault]
@[simp] theorem State.modFault_frozen (s : State) (f : FaultX → FaultX) : (s.modFault f).frozen = s.frozen := by
  simp [State.modFault]
@[simp] theorem State.modFault_latched (s : State) (f : FaultX → FaultX) : (s.modFault f).latched = s.latched := by
  simp [State.modFault]
@[simp] theorem State.modFault_posts (s : State) (f : FaultX → FaultX) : (s.modFault f).posts = s.posts := by
  simp [State.modFault]
@[simp] theorem State.modFault_run (s : State) (f : FaultX → FaultX) : (s.modFault f).run = s.run := by
  simp [State.modFault]
@[simp] theorem State.modFault_rest (s : State) (f : FaultX → FaultX) : (s.modFault f).rest = s.rest := by
  simp [State.modFault]
@[simp] theorem State.modFault_mgmt (s : State) (f : FaultX → FaultX) : (s.modFault f).mgmt = s.mgmt := by
  simp [State.modFault]
@[simp] theorem State.modFault_trust (s : State) (f : FaultX → FaultX) : (s.modFault f).trust = s.trust := by
  simp [State.modFault]
@[simp] theorem State.modFault_ev (s : State) (f : FaultX → FaultX) : (s.modFault f).ev = s.ev := by
  simp [State.modFault]
@[simp] theorem State.modFault_clk (s : State) (f : FaultX → FaultX) : (s.modFault f).clk = s.clk := by
  simp [State.modFault]
@[simp] theorem State.modFault_time (s : State) (f : FaultX → FaultX) : (s.modFault f).time = s.time := by
  simp [State.modFault]
@[simp] theorem State.modFault_lvl (s : State) (f : FaultX → FaultX) : (s.modFault f).lvl = s.lvl := by
  simp [State.modFault]
@[simp] theorem State.modFault_pwr (s : State) (f : FaultX → FaultX) : (s.modFault f).pwr = s.pwr := by
  simp [State.modFault]
@[simp] theorem State.modFault_sfc (s : State) (f : FaultX → FaultX) : (s.modFault f).sfc = s.sfc := by
  simp [State.modFault]
@[simp] theorem State.modFault_sym (s : State) (f : FaultX → FaultX) : (s.modFault f).sym = s.sym := by
  simp [State.modFault]
@[simp] theorem State.modFault_lines (s : State) (f : FaultX → FaultX) : (s.modFault f).lines = s.lines := by
  simp [State.modFault]
@[simp] theorem State.modFault_ports (s : State) (f : FaultX → FaultX) : (s.modFault f).ports = s.ports := by
  simp [State.modFault]
@[simp] theorem State.modFault_lanes (s : State) (f : FaultX → FaultX) : (s.modFault f).lanes = s.lanes := by
  simp [State.modFault]
@[simp] theorem State.modFault_mon (s : State) (f : FaultX → FaultX) : (s.modFault f).mon = s.mon := by
  simp [State.modFault]
@[simp] theorem State.modFault_refl (s : State) (f : FaultX → FaultX) : (s.modFault f).refl = s.refl := by
  simp [State.modFault]
@[simp] theorem State.modFault_cal (s : State) (f : FaultX → FaultX) : (s.modFault f).cal = s.cal := by
  simp [State.modFault]
@[simp] theorem State.modFault_reach (s : State) (f : FaultX → FaultX) : (s.modFault f).reach = s.reach := by
  simp [State.modFault]
@[simp] theorem State.modFault_std (s : State) (f : FaultX → FaultX) : (s.modFault f).std = s.std := by
  simp [State.modFault]
@[simp] theorem State.modFault_xe (s : State) (f : FaultX → FaultX) : (s.modFault f).xe = s.xe := by
  simp [State.modFault]
@[simp] theorem State.modFault_free (s : State) (f : FaultX → FaultX) : (s.modFault f).free = s.free := by
  simp [State.modFault]
@[simp] theorem State.modFault_self (s : State) (f : FaultX → FaultX) : (s.modFault f).fault = f s.fault := by
  simp [State.modFault]
@[simp] theorem State.modFault_g (s : State) (f : FaultX → FaultX) (G : Fld) (a c : Nat) : (s.modFault f).g G a c = s.g G a c := by
  simp [State.g]

/-! ### modClk -/

@[simp] theorem State.modClk_regs (s : State) (f : ClockX → ClockX) : (s.modClk f).regs = s.regs := by
  simp [State.modClk]
@[simp] theorem State.modClk_staged (s : State) (f : ClockX → ClockX) : (s.modClk f).staged = s.staged := by
  simp [State.modClk]
@[simp] theorem State.modClk_frozen (s : State) (f : ClockX → ClockX) : (s.modClk f).frozen = s.frozen := by
  simp [State.modClk]
@[simp] theorem State.modClk_latched (s : State) (f : ClockX → ClockX) : (s.modClk f).latched = s.latched := by
  simp [State.modClk]
@[simp] theorem State.modClk_posts (s : State) (f : ClockX → ClockX) : (s.modClk f).posts = s.posts := by
  simp [State.modClk]
@[simp] theorem State.modClk_run (s : State) (f : ClockX → ClockX) : (s.modClk f).run = s.run := by
  simp [State.modClk]
@[simp] theorem State.modClk_rest (s : State) (f : ClockX → ClockX) : (s.modClk f).rest = s.rest := by
  simp [State.modClk]
@[simp] theorem State.modClk_mgmt (s : State) (f : ClockX → ClockX) : (s.modClk f).mgmt = s.mgmt := by
  simp [State.modClk]
@[simp] theorem State.modClk_trust (s : State) (f : ClockX → ClockX) : (s.modClk f).trust = s.trust := by
  simp [State.modClk]
@[simp] theorem State.modClk_fault (s : State) (f : ClockX → ClockX) : (s.modClk f).fault = s.fault := by
  simp [State.modClk]
@[simp] theorem State.modClk_ev (s : State) (f : ClockX → ClockX) : (s.modClk f).ev = s.ev := by
  simp [State.modClk]
@[simp] theorem State.modClk_time (s : State) (f : ClockX → ClockX) : (s.modClk f).time = s.time := by
  simp [State.modClk]
@[simp] theorem State.modClk_lvl (s : State) (f : ClockX → ClockX) : (s.modClk f).lvl = s.lvl := by
  simp [State.modClk]
@[simp] theorem State.modClk_pwr (s : State) (f : ClockX → ClockX) : (s.modClk f).pwr = s.pwr := by
  simp [State.modClk]
@[simp] theorem State.modClk_sfc (s : State) (f : ClockX → ClockX) : (s.modClk f).sfc = s.sfc := by
  simp [State.modClk]
@[simp] theorem State.modClk_sym (s : State) (f : ClockX → ClockX) : (s.modClk f).sym = s.sym := by
  simp [State.modClk]
@[simp] theorem State.modClk_lines (s : State) (f : ClockX → ClockX) : (s.modClk f).lines = s.lines := by
  simp [State.modClk]
@[simp] theorem State.modClk_ports (s : State) (f : ClockX → ClockX) : (s.modClk f).ports = s.ports := by
  simp [State.modClk]
@[simp] theorem State.modClk_lanes (s : State) (f : ClockX → ClockX) : (s.modClk f).lanes = s.lanes := by
  simp [State.modClk]
@[simp] theorem State.modClk_mon (s : State) (f : ClockX → ClockX) : (s.modClk f).mon = s.mon := by
  simp [State.modClk]
@[simp] theorem State.modClk_refl (s : State) (f : ClockX → ClockX) : (s.modClk f).refl = s.refl := by
  simp [State.modClk]
@[simp] theorem State.modClk_cal (s : State) (f : ClockX → ClockX) : (s.modClk f).cal = s.cal := by
  simp [State.modClk]
@[simp] theorem State.modClk_reach (s : State) (f : ClockX → ClockX) : (s.modClk f).reach = s.reach := by
  simp [State.modClk]
@[simp] theorem State.modClk_std (s : State) (f : ClockX → ClockX) : (s.modClk f).std = s.std := by
  simp [State.modClk]
@[simp] theorem State.modClk_xe (s : State) (f : ClockX → ClockX) : (s.modClk f).xe = s.xe := by
  simp [State.modClk]
@[simp] theorem State.modClk_free (s : State) (f : ClockX → ClockX) : (s.modClk f).free = s.free := by
  simp [State.modClk]
@[simp] theorem State.modClk_self (s : State) (f : ClockX → ClockX) : (s.modClk f).clk = f s.clk := by
  simp [State.modClk]
@[simp] theorem State.modClk_g (s : State) (f : ClockX → ClockX) (G : Fld) (a c : Nat) : (s.modClk f).g G a c = s.g G a c := by
  simp [State.g]

/-! ### modLvl -/

@[simp] theorem State.modLvl_regs (s : State) (f : LevelX → LevelX) : (s.modLvl f).regs = s.regs := by
  simp [State.modLvl]
@[simp] theorem State.modLvl_staged (s : State) (f : LevelX → LevelX) : (s.modLvl f).staged = s.staged := by
  simp [State.modLvl]
@[simp] theorem State.modLvl_frozen (s : State) (f : LevelX → LevelX) : (s.modLvl f).frozen = s.frozen := by
  simp [State.modLvl]
@[simp] theorem State.modLvl_latched (s : State) (f : LevelX → LevelX) : (s.modLvl f).latched = s.latched := by
  simp [State.modLvl]
@[simp] theorem State.modLvl_posts (s : State) (f : LevelX → LevelX) : (s.modLvl f).posts = s.posts := by
  simp [State.modLvl]
@[simp] theorem State.modLvl_run (s : State) (f : LevelX → LevelX) : (s.modLvl f).run = s.run := by
  simp [State.modLvl]
@[simp] theorem State.modLvl_rest (s : State) (f : LevelX → LevelX) : (s.modLvl f).rest = s.rest := by
  simp [State.modLvl]
@[simp] theorem State.modLvl_mgmt (s : State) (f : LevelX → LevelX) : (s.modLvl f).mgmt = s.mgmt := by
  simp [State.modLvl]
@[simp] theorem State.modLvl_trust (s : State) (f : LevelX → LevelX) : (s.modLvl f).trust = s.trust := by
  simp [State.modLvl]
@[simp] theorem State.modLvl_fault (s : State) (f : LevelX → LevelX) : (s.modLvl f).fault = s.fault := by
  simp [State.modLvl]
@[simp] theorem State.modLvl_ev (s : State) (f : LevelX → LevelX) : (s.modLvl f).ev = s.ev := by
  simp [State.modLvl]
@[simp] theorem State.modLvl_clk (s : State) (f : LevelX → LevelX) : (s.modLvl f).clk = s.clk := by
  simp [State.modLvl]
@[simp] theorem State.modLvl_time (s : State) (f : LevelX → LevelX) : (s.modLvl f).time = s.time := by
  simp [State.modLvl]
@[simp] theorem State.modLvl_pwr (s : State) (f : LevelX → LevelX) : (s.modLvl f).pwr = s.pwr := by
  simp [State.modLvl]
@[simp] theorem State.modLvl_sfc (s : State) (f : LevelX → LevelX) : (s.modLvl f).sfc = s.sfc := by
  simp [State.modLvl]
@[simp] theorem State.modLvl_sym (s : State) (f : LevelX → LevelX) : (s.modLvl f).sym = s.sym := by
  simp [State.modLvl]
@[simp] theorem State.modLvl_lines (s : State) (f : LevelX → LevelX) : (s.modLvl f).lines = s.lines := by
  simp [State.modLvl]
@[simp] theorem State.modLvl_ports (s : State) (f : LevelX → LevelX) : (s.modLvl f).ports = s.ports := by
  simp [State.modLvl]
@[simp] theorem State.modLvl_lanes (s : State) (f : LevelX → LevelX) : (s.modLvl f).lanes = s.lanes := by
  simp [State.modLvl]
@[simp] theorem State.modLvl_mon (s : State) (f : LevelX → LevelX) : (s.modLvl f).mon = s.mon := by
  simp [State.modLvl]
@[simp] theorem State.modLvl_refl (s : State) (f : LevelX → LevelX) : (s.modLvl f).refl = s.refl := by
  simp [State.modLvl]
@[simp] theorem State.modLvl_cal (s : State) (f : LevelX → LevelX) : (s.modLvl f).cal = s.cal := by
  simp [State.modLvl]
@[simp] theorem State.modLvl_reach (s : State) (f : LevelX → LevelX) : (s.modLvl f).reach = s.reach := by
  simp [State.modLvl]
@[simp] theorem State.modLvl_std (s : State) (f : LevelX → LevelX) : (s.modLvl f).std = s.std := by
  simp [State.modLvl]
@[simp] theorem State.modLvl_xe (s : State) (f : LevelX → LevelX) : (s.modLvl f).xe = s.xe := by
  simp [State.modLvl]
@[simp] theorem State.modLvl_free (s : State) (f : LevelX → LevelX) : (s.modLvl f).free = s.free := by
  simp [State.modLvl]
@[simp] theorem State.modLvl_self (s : State) (f : LevelX → LevelX) : (s.modLvl f).lvl = f s.lvl := by
  simp [State.modLvl]
@[simp] theorem State.modLvl_g (s : State) (f : LevelX → LevelX) (G : Fld) (a c : Nat) : (s.modLvl f).g G a c = s.g G a c := by
  simp [State.g]

/-! ### modPwr -/

@[simp] theorem State.modPwr_regs (s : State) (f : PowerX → PowerX) : (s.modPwr f).regs = s.regs := by
  simp [State.modPwr]
@[simp] theorem State.modPwr_staged (s : State) (f : PowerX → PowerX) : (s.modPwr f).staged = s.staged := by
  simp [State.modPwr]
@[simp] theorem State.modPwr_frozen (s : State) (f : PowerX → PowerX) : (s.modPwr f).frozen = s.frozen := by
  simp [State.modPwr]
@[simp] theorem State.modPwr_latched (s : State) (f : PowerX → PowerX) : (s.modPwr f).latched = s.latched := by
  simp [State.modPwr]
@[simp] theorem State.modPwr_posts (s : State) (f : PowerX → PowerX) : (s.modPwr f).posts = s.posts := by
  simp [State.modPwr]
@[simp] theorem State.modPwr_run (s : State) (f : PowerX → PowerX) : (s.modPwr f).run = s.run := by
  simp [State.modPwr]
@[simp] theorem State.modPwr_rest (s : State) (f : PowerX → PowerX) : (s.modPwr f).rest = s.rest := by
  simp [State.modPwr]
@[simp] theorem State.modPwr_mgmt (s : State) (f : PowerX → PowerX) : (s.modPwr f).mgmt = s.mgmt := by
  simp [State.modPwr]
@[simp] theorem State.modPwr_trust (s : State) (f : PowerX → PowerX) : (s.modPwr f).trust = s.trust := by
  simp [State.modPwr]
@[simp] theorem State.modPwr_fault (s : State) (f : PowerX → PowerX) : (s.modPwr f).fault = s.fault := by
  simp [State.modPwr]
@[simp] theorem State.modPwr_ev (s : State) (f : PowerX → PowerX) : (s.modPwr f).ev = s.ev := by
  simp [State.modPwr]
@[simp] theorem State.modPwr_clk (s : State) (f : PowerX → PowerX) : (s.modPwr f).clk = s.clk := by
  simp [State.modPwr]
@[simp] theorem State.modPwr_time (s : State) (f : PowerX → PowerX) : (s.modPwr f).time = s.time := by
  simp [State.modPwr]
@[simp] theorem State.modPwr_lvl (s : State) (f : PowerX → PowerX) : (s.modPwr f).lvl = s.lvl := by
  simp [State.modPwr]
@[simp] theorem State.modPwr_sfc (s : State) (f : PowerX → PowerX) : (s.modPwr f).sfc = s.sfc := by
  simp [State.modPwr]
@[simp] theorem State.modPwr_sym (s : State) (f : PowerX → PowerX) : (s.modPwr f).sym = s.sym := by
  simp [State.modPwr]
@[simp] theorem State.modPwr_lines (s : State) (f : PowerX → PowerX) : (s.modPwr f).lines = s.lines := by
  simp [State.modPwr]
@[simp] theorem State.modPwr_ports (s : State) (f : PowerX → PowerX) : (s.modPwr f).ports = s.ports := by
  simp [State.modPwr]
@[simp] theorem State.modPwr_lanes (s : State) (f : PowerX → PowerX) : (s.modPwr f).lanes = s.lanes := by
  simp [State.modPwr]
@[simp] theorem State.modPwr_mon (s : State) (f : PowerX → PowerX) : (s.modPwr f).mon = s.mon := by
  simp [State.modPwr]
@[simp] theorem State.modPwr_refl (s : State) (f : PowerX → PowerX) : (s.modPwr f).refl = s.refl := by
  simp [State.modPwr]
@[simp] theorem State.modPwr_cal (s : State) (f : PowerX → PowerX) : (s.modPwr f).cal = s.cal := by
  simp [State.modPwr]
@[simp] theorem State.modPwr_reach (s : State) (f : PowerX → PowerX) : (s.modPwr f).reach = s.reach := by
  simp [State.modPwr]
@[simp] theorem State.modPwr_std (s : State) (f : PowerX → PowerX) : (s.modPwr f).std = s.std := by
  simp [State.modPwr]
@[simp] theorem State.modPwr_xe (s : State) (f : PowerX → PowerX) : (s.modPwr f).xe = s.xe := by
  simp [State.modPwr]
@[simp] theorem State.modPwr_free (s : State) (f : PowerX → PowerX) : (s.modPwr f).free = s.free := by
  simp [State.modPwr]
@[simp] theorem State.modPwr_self (s : State) (f : PowerX → PowerX) : (s.modPwr f).pwr = f s.pwr := by
  simp [State.modPwr]
@[simp] theorem State.modPwr_g (s : State) (f : PowerX → PowerX) (G : Fld) (a c : Nat) : (s.modPwr f).g G a c = s.g G a c := by
  simp [State.g]

/-! ### modMon -/

@[simp] theorem State.modMon_regs (s : State) (l : Nat) (f : MonX → MonX) : (s.modMon l f).regs = s.regs := by
  simp [State.modMon]
@[simp] theorem State.modMon_staged (s : State) (l : Nat) (f : MonX → MonX) : (s.modMon l f).staged = s.staged := by
  simp [State.modMon]
@[simp] theorem State.modMon_frozen (s : State) (l : Nat) (f : MonX → MonX) : (s.modMon l f).frozen = s.frozen := by
  simp [State.modMon]
@[simp] theorem State.modMon_latched (s : State) (l : Nat) (f : MonX → MonX) : (s.modMon l f).latched = s.latched := by
  simp [State.modMon]
@[simp] theorem State.modMon_posts (s : State) (l : Nat) (f : MonX → MonX) : (s.modMon l f).posts = s.posts := by
  simp [State.modMon]
@[simp] theorem State.modMon_run (s : State) (l : Nat) (f : MonX → MonX) : (s.modMon l f).run = s.run := by
  simp [State.modMon]
@[simp] theorem State.modMon_rest (s : State) (l : Nat) (f : MonX → MonX) : (s.modMon l f).rest = s.rest := by
  simp [State.modMon]
@[simp] theorem State.modMon_mgmt (s : State) (l : Nat) (f : MonX → MonX) : (s.modMon l f).mgmt = s.mgmt := by
  simp [State.modMon]
@[simp] theorem State.modMon_trust (s : State) (l : Nat) (f : MonX → MonX) : (s.modMon l f).trust = s.trust := by
  simp [State.modMon]
@[simp] theorem State.modMon_fault (s : State) (l : Nat) (f : MonX → MonX) : (s.modMon l f).fault = s.fault := by
  simp [State.modMon]
@[simp] theorem State.modMon_ev (s : State) (l : Nat) (f : MonX → MonX) : (s.modMon l f).ev = s.ev := by
  simp [State.modMon]
@[simp] theorem State.modMon_clk (s : State) (l : Nat) (f : MonX → MonX) : (s.modMon l f).clk = s.clk := by
  simp [State.modMon]
@[simp] theorem State.modMon_time (s : State) (l : Nat) (f : MonX → MonX) : (s.modMon l f).time = s.time := by
  simp [State.modMon]
@[simp] theorem State.modMon_lvl (s : State) (l : Nat) (f : MonX → MonX) : (s.modMon l f).lvl = s.lvl := by
  simp [State.modMon]
@[simp] theorem State.modMon_pwr (s : State) (l : Nat) (f : MonX → MonX) : (s.modMon l f).pwr = s.pwr := by
  simp [State.modMon]
@[simp] theorem State.modMon_sfc (s : State) (l : Nat) (f : MonX → MonX) : (s.modMon l f).sfc = s.sfc := by
  simp [State.modMon]
@[simp] theorem State.modMon_sym (s : State) (l : Nat) (f : MonX → MonX) : (s.modMon l f).sym = s.sym := by
  simp [State.modMon]
@[simp] theorem State.modMon_lines (s : State) (l : Nat) (f : MonX → MonX) : (s.modMon l f).lines = s.lines := by
  simp [State.modMon]
@[simp] theorem State.modMon_ports (s : State) (l : Nat) (f : MonX → MonX) : (s.modMon l f).ports = s.ports := by
  simp [State.modMon]
@[simp] theorem State.modMon_lanes (s : State) (l : Nat) (f : MonX → MonX) : (s.modMon l f).lanes = s.lanes := by
  simp [State.modMon]
@[simp] theorem State.modMon_refl (s : State) (l : Nat) (f : MonX → MonX) : (s.modMon l f).refl = s.refl := by
  simp [State.modMon]
@[simp] theorem State.modMon_cal (s : State) (l : Nat) (f : MonX → MonX) : (s.modMon l f).cal = s.cal := by
  simp [State.modMon]
@[simp] theorem State.modMon_reach (s : State) (l : Nat) (f : MonX → MonX) : (s.modMon l f).reach = s.reach := by
  simp [State.modMon]
@[simp] theorem State.modMon_std (s : State) (l : Nat) (f : MonX → MonX) : (s.modMon l f).std = s.std := by
  simp [State.modMon]
@[simp] theorem State.modMon_xe (s : State) (l : Nat) (f : MonX → MonX) : (s.modMon l f).xe = s.xe := by
  simp [State.modMon]
@[simp] theorem State.modMon_free (s : State) (l : Nat) (f : MonX → MonX) : (s.modMon l f).free = s.free := by
  simp [State.modMon]
@[simp] theorem State.modMon_g (s : State) (l : Nat) (f : MonX → MonX) (G : Fld) (a c : Nat) : (s.modMon l f).g G a c = s.g G a c := by
  simp [State.g]

/-! ### modReach -/

@[simp] theorem State.modReach_regs (s : State) (l : Nat) (f : ReachX → ReachX) : (s.modReach l f).regs = s.regs := by
  simp [State.modReach]
@[simp] theorem State.modReach_staged (s : State) (l : Nat) (f : ReachX → ReachX) : (s.modReach l f).staged = s.staged := by
  simp [State.modReach]
@[simp] theorem State.modReach_frozen (s : State) (l : Nat) (f : ReachX → ReachX) : (s.modReach l f).frozen = s.frozen := by
  simp [State.modReach]
@[simp] theorem State.modReach_latched (s : State) (l : Nat) (f : ReachX → ReachX) : (s.modReach l f).latched = s.latched := by
  simp [State.modReach]
@[simp] theorem State.modReach_posts (s : State) (l : Nat) (f : ReachX → ReachX) : (s.modReach l f).posts = s.posts := by
  simp [State.modReach]
@[simp] theorem State.modReach_run (s : State) (l : Nat) (f : ReachX → ReachX) : (s.modReach l f).run = s.run := by
  simp [State.modReach]
@[simp] theorem State.modReach_rest (s : State) (l : Nat) (f : ReachX → ReachX) : (s.modReach l f).rest = s.rest := by
  simp [State.modReach]
@[simp] theorem State.modReach_mgmt (s : State) (l : Nat) (f : ReachX → ReachX) : (s.modReach l f).mgmt = s.mgmt := by
  simp [State.modReach]
@[simp] theorem State.modReach_trust (s : State) (l : Nat) (f : ReachX → ReachX) : (s.modReach l f).trust = s.trust := by
  simp [State.modReach]
@[simp] theorem State.modReach_fault (s : State) (l : Nat) (f : ReachX → ReachX) : (s.modReach l f).fault = s.fault := by
  simp [State.modReach]
@[simp] theorem State.modReach_ev (s : State) (l : Nat) (f : ReachX → ReachX) : (s.modReach l f).ev = s.ev := by
  simp [State.modReach]
@[simp] theorem State.modReach_clk (s : State) (l : Nat) (f : ReachX → ReachX) : (s.modReach l f).clk = s.clk := by
  simp [State.modReach]
@[simp] theorem State.modReach_time (s : State) (l : Nat) (f : ReachX → ReachX) : (s.modReach l f).time = s.time := by
  simp [State.modReach]
@[simp] theorem State.modReach_lvl (s : State) (l : Nat) (f : ReachX → ReachX) : (s.modReach l f).lvl = s.lvl := by
  simp [State.modReach]
@[simp] theorem State.modReach_pwr (s : State) (l : Nat) (f : ReachX → ReachX) : (s.modReach l f).pwr = s.pwr := by
  simp [State.modReach]
@[simp] theorem State.modReach_sfc (s : State) (l : Nat) (f : ReachX → ReachX) : (s.modReach l f).sfc = s.sfc := by
  simp [State.modReach]
@[simp] theorem State.modReach_sym (s : State) (l : Nat) (f : ReachX → ReachX) : (s.modReach l f).sym = s.sym := by
  simp [State.modReach]
@[simp] theorem State.modReach_lines (s : State) (l : Nat) (f : ReachX → ReachX) : (s.modReach l f).lines = s.lines := by
  simp [State.modReach]
@[simp] theorem State.modReach_ports (s : State) (l : Nat) (f : ReachX → ReachX) : (s.modReach l f).ports = s.ports := by
  simp [State.modReach]
@[simp] theorem State.modReach_lanes (s : State) (l : Nat) (f : ReachX → ReachX) : (s.modReach l f).lanes = s.lanes := by
  simp [State.modReach]
@[simp] theorem State.modReach_mon (s : State) (l : Nat) (f : ReachX → ReachX) : (s.modReach l f).mon = s.mon := by
  simp [State.modReach]
@[simp] theorem State.modReach_refl (s : State) (l : Nat) (f : ReachX → ReachX) : (s.modReach l f).refl = s.refl := by
  simp [State.modReach]
@[simp] theorem State.modReach_cal (s : State) (l : Nat) (f : ReachX → ReachX) : (s.modReach l f).cal = s.cal := by
  simp [State.modReach]
@[simp] theorem State.modReach_std (s : State) (l : Nat) (f : ReachX → ReachX) : (s.modReach l f).std = s.std := by
  simp [State.modReach]
@[simp] theorem State.modReach_xe (s : State) (l : Nat) (f : ReachX → ReachX) : (s.modReach l f).xe = s.xe := by
  simp [State.modReach]
@[simp] theorem State.modReach_free (s : State) (l : Nat) (f : ReachX → ReachX) : (s.modReach l f).free = s.free := by
  simp [State.modReach]
@[simp] theorem State.modReach_g (s : State) (l : Nat) (f : ReachX → ReachX) (G : Fld) (a c : Nat) : (s.modReach l f).g G a c = s.g G a c := by
  simp [State.g]

/-! ### modStd -/

@[simp] theorem State.modStd_regs (s : State) (l : Nat) (f : StdX → StdX) : (s.modStd l f).regs = s.regs := by
  simp [State.modStd]
@[simp] theorem State.modStd_staged (s : State) (l : Nat) (f : StdX → StdX) : (s.modStd l f).staged = s.staged := by
  simp [State.modStd]
@[simp] theorem State.modStd_frozen (s : State) (l : Nat) (f : StdX → StdX) : (s.modStd l f).frozen = s.frozen := by
  simp [State.modStd]
@[simp] theorem State.modStd_latched (s : State) (l : Nat) (f : StdX → StdX) : (s.modStd l f).latched = s.latched := by
  simp [State.modStd]
@[simp] theorem State.modStd_posts (s : State) (l : Nat) (f : StdX → StdX) : (s.modStd l f).posts = s.posts := by
  simp [State.modStd]
@[simp] theorem State.modStd_run (s : State) (l : Nat) (f : StdX → StdX) : (s.modStd l f).run = s.run := by
  simp [State.modStd]
@[simp] theorem State.modStd_rest (s : State) (l : Nat) (f : StdX → StdX) : (s.modStd l f).rest = s.rest := by
  simp [State.modStd]
@[simp] theorem State.modStd_mgmt (s : State) (l : Nat) (f : StdX → StdX) : (s.modStd l f).mgmt = s.mgmt := by
  simp [State.modStd]
@[simp] theorem State.modStd_trust (s : State) (l : Nat) (f : StdX → StdX) : (s.modStd l f).trust = s.trust := by
  simp [State.modStd]
@[simp] theorem State.modStd_fault (s : State) (l : Nat) (f : StdX → StdX) : (s.modStd l f).fault = s.fault := by
  simp [State.modStd]
@[simp] theorem State.modStd_ev (s : State) (l : Nat) (f : StdX → StdX) : (s.modStd l f).ev = s.ev := by
  simp [State.modStd]
@[simp] theorem State.modStd_clk (s : State) (l : Nat) (f : StdX → StdX) : (s.modStd l f).clk = s.clk := by
  simp [State.modStd]
@[simp] theorem State.modStd_time (s : State) (l : Nat) (f : StdX → StdX) : (s.modStd l f).time = s.time := by
  simp [State.modStd]
@[simp] theorem State.modStd_lvl (s : State) (l : Nat) (f : StdX → StdX) : (s.modStd l f).lvl = s.lvl := by
  simp [State.modStd]
@[simp] theorem State.modStd_pwr (s : State) (l : Nat) (f : StdX → StdX) : (s.modStd l f).pwr = s.pwr := by
  simp [State.modStd]
@[simp] theorem State.modStd_sfc (s : State) (l : Nat) (f : StdX → StdX) : (s.modStd l f).sfc = s.sfc := by
  simp [State.modStd]
@[simp] theorem State.modStd_sym (s : State) (l : Nat) (f : StdX → StdX) : (s.modStd l f).sym = s.sym := by
  simp [State.modStd]
@[simp] theorem State.modStd_lines (s : State) (l : Nat) (f : StdX → StdX) : (s.modStd l f).lines = s.lines := by
  simp [State.modStd]
@[simp] theorem State.modStd_ports (s : State) (l : Nat) (f : StdX → StdX) : (s.modStd l f).ports = s.ports := by
  simp [State.modStd]
@[simp] theorem State.modStd_lanes (s : State) (l : Nat) (f : StdX → StdX) : (s.modStd l f).lanes = s.lanes := by
  simp [State.modStd]
@[simp] theorem State.modStd_mon (s : State) (l : Nat) (f : StdX → StdX) : (s.modStd l f).mon = s.mon := by
  simp [State.modStd]
@[simp] theorem State.modStd_refl (s : State) (l : Nat) (f : StdX → StdX) : (s.modStd l f).refl = s.refl := by
  simp [State.modStd]
@[simp] theorem State.modStd_cal (s : State) (l : Nat) (f : StdX → StdX) : (s.modStd l f).cal = s.cal := by
  simp [State.modStd]
@[simp] theorem State.modStd_reach (s : State) (l : Nat) (f : StdX → StdX) : (s.modStd l f).reach = s.reach := by
  simp [State.modStd]
@[simp] theorem State.modStd_xe (s : State) (l : Nat) (f : StdX → StdX) : (s.modStd l f).xe = s.xe := by
  simp [State.modStd]
@[simp] theorem State.modStd_free (s : State) (l : Nat) (f : StdX → StdX) : (s.modStd l f).free = s.free := by
  simp [State.modStd]
@[simp] theorem State.modStd_g (s : State) (l : Nat) (f : StdX → StdX) (G : Fld) (a c : Nat) : (s.modStd l f).g G a c = s.g G a c := by
  simp [State.g]

/-! ### modCal -/

@[simp] theorem State.modCal_regs (s : State) (l : Nat) (f : CalX → CalX) : (s.modCal l f).regs = s.regs := by
  simp [State.modCal]
@[simp] theorem State.modCal_staged (s : State) (l : Nat) (f : CalX → CalX) : (s.modCal l f).staged = s.staged := by
  simp [State.modCal]
@[simp] theorem State.modCal_frozen (s : State) (l : Nat) (f : CalX → CalX) : (s.modCal l f).frozen = s.frozen := by
  simp [State.modCal]
@[simp] theorem State.modCal_latched (s : State) (l : Nat) (f : CalX → CalX) : (s.modCal l f).latched = s.latched := by
  simp [State.modCal]
@[simp] theorem State.modCal_posts (s : State) (l : Nat) (f : CalX → CalX) : (s.modCal l f).posts = s.posts := by
  simp [State.modCal]
@[simp] theorem State.modCal_run (s : State) (l : Nat) (f : CalX → CalX) : (s.modCal l f).run = s.run := by
  simp [State.modCal]
@[simp] theorem State.modCal_rest (s : State) (l : Nat) (f : CalX → CalX) : (s.modCal l f).rest = s.rest := by
  simp [State.modCal]
@[simp] theorem State.modCal_mgmt (s : State) (l : Nat) (f : CalX → CalX) : (s.modCal l f).mgmt = s.mgmt := by
  simp [State.modCal]
@[simp] theorem State.modCal_trust (s : State) (l : Nat) (f : CalX → CalX) : (s.modCal l f).trust = s.trust := by
  simp [State.modCal]
@[simp] theorem State.modCal_fault (s : State) (l : Nat) (f : CalX → CalX) : (s.modCal l f).fault = s.fault := by
  simp [State.modCal]
@[simp] theorem State.modCal_ev (s : State) (l : Nat) (f : CalX → CalX) : (s.modCal l f).ev = s.ev := by
  simp [State.modCal]
@[simp] theorem State.modCal_clk (s : State) (l : Nat) (f : CalX → CalX) : (s.modCal l f).clk = s.clk := by
  simp [State.modCal]
@[simp] theorem State.modCal_time (s : State) (l : Nat) (f : CalX → CalX) : (s.modCal l f).time = s.time := by
  simp [State.modCal]
@[simp] theorem State.modCal_lvl (s : State) (l : Nat) (f : CalX → CalX) : (s.modCal l f).lvl = s.lvl := by
  simp [State.modCal]
@[simp] theorem State.modCal_pwr (s : State) (l : Nat) (f : CalX → CalX) : (s.modCal l f).pwr = s.pwr := by
  simp [State.modCal]
@[simp] theorem State.modCal_sfc (s : State) (l : Nat) (f : CalX → CalX) : (s.modCal l f).sfc = s.sfc := by
  simp [State.modCal]
@[simp] theorem State.modCal_sym (s : State) (l : Nat) (f : CalX → CalX) : (s.modCal l f).sym = s.sym := by
  simp [State.modCal]
@[simp] theorem State.modCal_lines (s : State) (l : Nat) (f : CalX → CalX) : (s.modCal l f).lines = s.lines := by
  simp [State.modCal]
@[simp] theorem State.modCal_ports (s : State) (l : Nat) (f : CalX → CalX) : (s.modCal l f).ports = s.ports := by
  simp [State.modCal]
@[simp] theorem State.modCal_lanes (s : State) (l : Nat) (f : CalX → CalX) : (s.modCal l f).lanes = s.lanes := by
  simp [State.modCal]
@[simp] theorem State.modCal_mon (s : State) (l : Nat) (f : CalX → CalX) : (s.modCal l f).mon = s.mon := by
  simp [State.modCal]
@[simp] theorem State.modCal_refl (s : State) (l : Nat) (f : CalX → CalX) : (s.modCal l f).refl = s.refl := by
  simp [State.modCal]
@[simp] theorem State.modCal_reach (s : State) (l : Nat) (f : CalX → CalX) : (s.modCal l f).reach = s.reach := by
  simp [State.modCal]
@[simp] theorem State.modCal_std (s : State) (l : Nat) (f : CalX → CalX) : (s.modCal l f).std = s.std := by
  simp [State.modCal]
@[simp] theorem State.modCal_xe (s : State) (l : Nat) (f : CalX → CalX) : (s.modCal l f).xe = s.xe := by
  simp [State.modCal]
@[simp] theorem State.modCal_free (s : State) (l : Nat) (f : CalX → CalX) : (s.modCal l f).free = s.free := by
  simp [State.modCal]
@[simp] theorem State.modCal_g (s : State) (l : Nat) (f : CalX → CalX) (G : Fld) (a c : Nat) : (s.modCal l f).g G a c = s.g G a c := by
  simp [State.g]

/-! ### Registers: a read after a write -/

theorem Fld.key_inj {F G : Fld} {i j a b : Nat} (hj : j < 512) (hb : b < 512) (h : F.key i j = G.key a b) :
    F.id % 2048 = G.id % 2048 ∧ F.bank i = G.bank a ∧ j = b := by
  unfold Fld.key at h
  omega

/-- A field read after it is written gives the value written, cut to its width. -/
@[simp] theorem State.g_wr_self (s : State) (F : Fld) (v i j : Nat) : (s.wr F v i j).g F i j = v % 2 ^ F.w := by
  simp [State.g, State.wr]

/-- A write of another field leaves a field alone. -/
theorem State.g_wr_of_id {F G : Fld} (h : G.id % 2048 ≠ F.id % 2048) (s : State) (v i j a b : Nat) :
    (s.wr F v i j).g G a b = s.g G a b := by
  refine Store.get_set_ne _ _ _ _ fun e => h ?_
  unfold Fld.key at e
  omega

/-- Only LETTERBOX holds fields of several instances once (R49). -/
theorem Fld.bank_of_page {F : Fld} (h : F.page ≠ .letterbox) (i : Nat) : F.bank i = i := by
  unfold Fld.bank
  simp [h]

/-- A write of an instance that another register holds leaves a field alone. -/
theorem State.g_wr_of_inst {F G : Fld} {i a j b : Nat} (h : G.bank a ≠ F.bank i) (hj : j < 512) (hb : b < 512) (s : State)
    (v : Nat) : (s.wr F v i j).g G a b = s.g G a b := by
  refine Store.get_set_ne _ _ _ _ fun e => h (Fld.key_inj hb hj e).2.1

/-- A write of another word of the field leaves a word alone. -/
theorem State.g_wr_of_word {F : Fld} {i j b : Nat} (h : b ≠ j) (hj : j < 512) (hb : b < 512) (s : State) (v : Nat) :
    (s.wr F v i j).g F i b = s.g F i b := by
  refine Store.get_set_ne _ _ _ _ fun e => h (Fld.key_inj hb hj e).2.2

@[simp] theorem State.g_bump_self (s : State) (F : Fld) (i k j : Nat) :
    (s.bump F i k j).g F i j = satAdd F.w (s.g F i j) k % 2 ^ F.w := by
  simp [State.bump]

theorem State.g_bump_of_id {F G : Fld} (h : G.id % 2048 ≠ F.id % 2048) (s : State) (i k j a b : Nat) :
    (s.bump F i k j).g G a b = s.g G a b := State.g_wr_of_id h _ _ _ _ _ _

/-! ### Lines, ports, lanes and the parts behind pages -/

@[simp] theorem State.line_modLine_self (s : State) (l : Nat) (f : LineX → LineX) : (s.modLine l f).line l = f (s.line l) := by
  simp [State.line, State.modLine, State.setLine]

theorem State.line_modLine_ne (s : State) {l m : Nat} (h : m ≠ l) (f : LineX → LineX) :
    (s.modLine l f).line m = s.line m := by
  simp [State.line, State.modLine, State.setLine, Store.get_set_ne _ _ _ _ h]

@[simp] theorem State.port_modPort_self (s : State) (l : Nat) (f : PortX → PortX) : (s.modPort l f).port l = f (s.port l) := by
  simp [State.port, State.modPort, State.setPort]

theorem State.port_modPort_ne (s : State) {l m : Nat} (h : m ≠ l) (f : PortX → PortX) :
    (s.modPort l f).port m = s.port m := by
  simp [State.port, State.modPort, State.setPort, Store.get_set_ne _ _ _ _ h]

@[simp] theorem State.lane_modLane_self (s : State) (l : Nat) (f : LaneX → LaneX) : (s.modLane l f).lane l = f (s.lane l) := by
  simp [State.lane, State.modLane, State.setLane]

@[simp] theorem State.monX_modMon_self (s : State) (l : Nat) (f : MonX → MonX) : (s.modMon l f).monX l = f (s.monX l) := by
  simp [State.monX, State.modMon]

@[simp] theorem State.reachX_modReach_self (s : State) (l : Nat) (f : ReachX → ReachX) :
    (s.modReach l f).reachX l = f (s.reachX l) := by
  simp [State.reachX, State.modReach]

@[simp] theorem State.calX_modCal_self (s : State) (l : Nat) (f : CalX → CalX) : (s.modCal l f).calX l = f (s.calX l) := by
  simp [State.calX, State.modCal]

theorem State.calX_modCal_ne (s : State) {l m : Nat} (h : m ≠ l) (f : CalX → CalX) :
    (s.modCal l f).calX m = s.calX m := by
  simp [State.calX, State.modCal, Store.get_set_ne _ _ _ _ h]

@[simp] theorem State.stdX_modStd_self (s : State) (l : Nat) (f : StdX → StdX) : (s.modStd l f).stdX l = f (s.stdX l) := by
  simp [State.stdX, State.modStd]

@[simp] theorem State.session_setSession_self (s : State) (c : Nat) (x : Session) : (s.setSession c x).session c = x := by
  simp [State.session, State.setSession]

theorem State.line_of_lines {s t : State} (h : t.lines = s.lines) (l : Nat) : t.line l = s.line l := by
  unfold State.line
  rw [h]

theorem State.port_of_ports {s t : State} (h : t.ports = s.ports) (p : Nat) : t.port p = s.port p := by
  unfold State.port
  rw [h]

/-! ### Commands about one part -/

theorem onLine_of_lt {l : Nat} (h : l < 128) (s : State) : onLine l s = .next s := if_pos h
theorem onPort_of_lt {p : Nat} (h : p < 128) (s : State) : onPort p s = .next s := if_pos h
theorem onLane_of_lt {l : Nat} (h : l < 32) (s : State) : onLane l s = .next s := if_pos h
theorem onCluster_of_lt {c : Nat} (h : c < 4) (s : State) : onCluster c s = .next s := if_pos h
theorem onPage_of_lt {p : Page} {i : Nat} (h : i < p.count) (s : State) : onPage p i s = .next s := if_pos h

theorem withLine_of_lt {l : Nat} (h : l < 128) (s : State) (f : State → State) : withLine l s f = .next (f s) := by
  simp [withLine, onLine_of_lt h]
theorem withPort_of_lt {p : Nat} (h : p < 128) (s : State) (f : State → State) : withPort p s f = .next (f s) := by
  simp [withPort, onPort_of_lt h]
theorem withLane_of_lt {l : Nat} (h : l < 32) (s : State) (f : State → State) : withLane l s f = .next (f s) := by
  simp [withLane, onLane_of_lt h]
theorem withPage_of_lt {p : Page} {i : Nat} (h : i < p.count) (s : State) (f : State → State) :
    withPage p i s f = .next (f s) := if_pos h
theorem onEntry_of_lt {n i : Nat} (h : i < n) (s : State) (f : State → State) : onEntry n i s f = .next (f s) := if_pos h

@[simp] theorem when_true (f : State → State) (s : State) : when true f s = f s := rfl
@[simp] theorem when_false (f : State → State) (s : State) : when false f s = s := rfl

end Sys2Proof.Machine
end

