-- ==== Sys2Proof/Laws/Events.lean ====
section
/-! SUPPORT. The laws of events, results, time captures and fault records: what they leave alone, and what a
rising edge does to the registers of its page (R36). -/

namespace Sys2Proof.Machine

/-! ### posts -/

@[simp] theorem ite_posts (c : Prop) [Decidable c] (s t : State) :
    (if c then s else t).posts = if c then s.posts else t.posts := by split <;> rfl

@[simp] theorem foldl_posts {β : Type} (f : State → β → State) (h : ∀ s b, (f s b).posts = s.posts)
    (l : List β) (s : State) : (l.foldl f s).posts = s.posts := by
  induction l generalizing s with
  | nil => rfl
  | cons b l ih => rw [List.foldl_cons, ih, h]

@[simp] theorem State.bump64_posts (s : State) (lo hi : Fld) (i k : Nat) : (s.bump64 lo hi i k).posts = s.posts := by
  unfold State.bump64
  rw [State.wr_posts, State.wr_posts]
@[simp] theorem State.wrWords_posts (s : State) (F : Fld) (i : Nat) (ws : List Nat) : (s.wrWords F i ws).posts = s.posts := by
  unfold State.wrWords
  apply foldl_posts
  intro s x
  exact State.wr_posts _ _ _ _ _
@[simp] theorem State.capture_posts (s : State) (ns sec sech frac : Fld) (i j : Nat) : (s.capture ns sec sech frac i j).posts = s.posts := by
  unfold State.capture
  rw [State.wr_posts, State.wr_posts, State.wr_posts, State.wr_posts]
@[simp] theorem State.capture2_posts (s : State) (ns sec : Fld) (i : Nat) : (s.capture2 ns sec i).posts = s.posts := by
  unfold State.capture2
  rw [State.wr_posts, State.wr_posts]
@[simp] theorem State.beginResult_posts (s : State) (p : Page) (i : Nat) : (s.beginResult p i).posts = s.posts := by
  unfold State.beginResult
  rw [State.wr_posts, State.wr_posts]
@[simp] theorem State.landResult_posts (s : State) (p : Page) (i : Nat) : (s.landResult p i).posts = s.posts := by
  unfold State.landResult
  rw [State.wr_posts, State.wr_posts, State.wr_posts]
@[simp] theorem State.refreshPins_posts (s : State)  : s.refreshPins.posts = s.posts := by
  unfold State.refreshPins
  split <;> rfl
@[simp] theorem State.sendEvent_posts (s : State) (n : Nat) (v : Bool) : (s.sendEvent n v).posts = s.posts := by
  simp [State.sendEvent]
@[simp] theorem State.inbandDue_posts (s : State) (n : Nat) (v : Bool) : (s.inbandDue n v).posts = s.posts := by
  simp [State.inbandDue]
@[simp] theorem State.inbandChange_posts (s : State) (n : Nat) (v : Bool) : (s.inbandChange n v).posts = s.posts := by
  simp [State.inbandChange]
@[simp] theorem State.refreshSource_posts (s : State) (n : Nat) : (s.refreshSource n).posts = s.posts := by
  simp [State.refreshSource]
@[simp] theorem State.refreshPage_posts (s : State) (p : Page) (i : Nat) : (s.refreshPage p i).posts = s.posts := by
  simp [State.refreshPage]
@[simp] theorem State.edges_posts (s : State) (p : Page) (i m : Nat) : (s.edges p i m).posts = s.posts := by
  simp [State.edges]
@[simp] theorem State.pulse_posts (s : State) (p : Page) (i b : Nat) : (s.pulse p i b).posts = s.posts := by
  simp [State.pulse]
@[simp] theorem State.cond_posts (s : State) (p : Page) (i b : Nat) (on : Bool) : (s.cond p i b on).posts = s.posts := by
  simp [State.cond]
@[simp] theorem State.placeRecord_posts (s : State) (r : Nat) (f : FaultReport) (real : Bool) : (s.placeRecord r f real).posts = s.posts := by
  unfold State.placeRecord
  dsimp only
  rw [State.modFault_posts, State.wrWords_posts, State.capture_posts, State.wr_posts, State.wr_posts, State.wr_posts, State.wr_posts, State.wr_posts, State.wr_posts, State.wr_posts, State.wr_posts, State.wr_posts, State.wr_posts, State.wr_posts]
@[simp] theorem State.companion_posts (s : State) (r n : Nat) : (s.companion r n).posts = s.posts := by
  simp [State.companion]
@[simp] theorem State.record_posts (s : State) (f : FaultReport) (real : Bool) : (s.record f real).posts = s.posts := by
  simp [State.record]
@[simp] theorem State.countFault_posts (s : State) (f : FaultReport) : (s.countFault f).posts = s.posts := by
  simp [State.countFault]
@[simp] theorem State.unitRecorded_posts (s : State) (f : FaultReport) : (s.unitRecorded f).posts = s.posts := by
  simp [State.unitRecorded]
@[simp] theorem State.log_posts (s : State) (f : FaultReport) : (s.log f).posts = s.posts := by
  simp [State.log]
@[simp] theorem State.healthChanged_posts (s : State) (n : Nat) : (s.healthChanged n).posts = s.posts := by
  simp [State.healthChanged]
@[simp] theorem State.beginRecovery_posts (s : State) (n : Nat) : (s.beginRecovery n).posts = s.posts := by
  simp [State.beginRecovery]
@[simp] theorem State.endRecovery_posts (s : State) (n : Nat) : (s.endRecovery n).posts = s.posts := by
  simp [State.endRecovery]
@[simp] theorem State.faultS1_posts (s : State) (c n a : Nat) : (s.faultS1 c n a).posts = s.posts := by
  simp [State.faultS1]
@[simp] theorem State.noteS1_posts (s : State) (c n a : Nat) : (s.noteS1 c n a).posts = s.posts := by
  simp [State.noteS1]
@[simp] theorem State.faultS2Unit_posts (s : State) (c n a : Nat) : (s.faultS2Unit c n a).posts = s.posts := by
  simp [State.faultS2Unit]
@[simp] theorem State.accessError_posts (s : State) (m x a : Nat) : (s.accessError m x a).posts = s.posts := by
  simp [State.accessError]

/-! ### run -/

@[simp] theorem ite_run (c : Prop) [Decidable c] (s t : State) :
    (if c then s else t).run = if c then s.run else t.run := by split <;> rfl

@[simp] theorem foldl_run {β : Type} (f : State → β → State) (h : ∀ s b, (f s b).run = s.run)
    (l : List β) (s : State) : (l.foldl f s).run = s.run := by
  induction l generalizing s with
  | nil => rfl
  | cons b l ih => rw [List.foldl_cons, ih, h]

@[simp] theorem State.bump64_run (s : State) (lo hi : Fld) (i k : Nat) : (s.bump64 lo hi i k).run = s.run := by
  unfold State.bump64
  rw [State.wr_run, State.wr_run]
@[simp] theorem State.wrWords_run (s : State) (F : Fld) (i : Nat) (ws : List Nat) : (s.wrWords F i ws).run = s.run := by
  unfold State.wrWords
  apply foldl_run
  intro s x
  exact State.wr_run _ _ _ _ _
@[simp] theorem State.capture_run (s : State) (ns sec sech frac : Fld) (i j : Nat) : (s.capture ns sec sech frac i j).run = s.run := by
  unfold State.capture
  rw [State.wr_run, State.wr_run, State.wr_run, State.wr_run]
@[simp] theorem State.capture2_run (s : State) (ns sec : Fld) (i : Nat) : (s.capture2 ns sec i).run = s.run := by
  unfold State.capture2
  rw [State.wr_run, State.wr_run]
@[simp] theorem State.beginResult_run (s : State) (p : Page) (i : Nat) : (s.beginResult p i).run = s.run := by
  unfold State.beginResult
  rw [State.wr_run, State.wr_run]
@[simp] theorem State.landResult_run (s : State) (p : Page) (i : Nat) : (s.landResult p i).run = s.run := by
  unfold State.landResult
  rw [State.wr_run, State.wr_run, State.wr_run]
@[simp] theorem State.refreshPins_run (s : State)  : s.refreshPins.run = s.run := by
  unfold State.refreshPins
  split <;> rfl
@[simp] theorem State.sendEvent_run (s : State) (n : Nat) (v : Bool) : (s.sendEvent n v).run = s.run := by
  simp [State.sendEvent]
@[simp] theorem State.inbandDue_run (s : State) (n : Nat) (v : Bool) : (s.inbandDue n v).run = s.run := by
  simp [State.inbandDue]
@[simp] theorem State.inbandChange_run (s : State) (n : Nat) (v : Bool) : (s.inbandChange n v).run = s.run := by
  simp [State.inbandChange]
@[simp] theorem State.refreshSource_run (s : State) (n : Nat) : (s.refreshSource n).run = s.run := by
  simp [State.refreshSource]
@[simp] theorem State.refreshPage_run (s : State) (p : Page) (i : Nat) : (s.refreshPage p i).run = s.run := by
  simp [State.refreshPage]
@[simp] theorem State.edges_run (s : State) (p : Page) (i m : Nat) : (s.edges p i m).run = s.run := by
  simp [State.edges]
@[simp] theorem State.pulse_run (s : State) (p : Page) (i b : Nat) : (s.pulse p i b).run = s.run := by
  simp [State.pulse]
@[simp] theorem State.cond_run (s : State) (p : Page) (i b : Nat) (on : Bool) : (s.cond p i b on).run = s.run := by
  simp [State.cond]
@[simp] theorem State.placeRecord_run (s : State) (r : Nat) (f : FaultReport) (real : Bool) : (s.placeRecord r f real).run = s.run := by
  unfold State.placeRecord
  dsimp only
  rw [State.modFault_run, State.wrWords_run, State.capture_run, State.wr_run, State.wr_run, State.wr_run, State.wr_run, State.wr_run, State.wr_run, State.wr_run, State.wr_run, State.wr_run, State.wr_run, State.wr_run]
@[simp] theorem State.companion_run (s : State) (r n : Nat) : (s.companion r n).run = s.run := by
  simp [State.companion]
@[simp] theorem State.record_run (s : State) (f : FaultReport) (real : Bool) : (s.record f real).run = s.run := by
  simp [State.record]
@[simp] theorem State.countFault_run (s : State) (f : FaultReport) : (s.countFault f).run = s.run := by
  simp [State.countFault]
@[simp] theorem State.unitRecorded_run (s : State) (f : FaultReport) : (s.unitRecorded f).run = s.run := by
  simp [State.unitRecorded]
@[simp] theorem State.log_run (s : State) (f : FaultReport) : (s.log f).run = s.run := by
  simp [State.log]
@[simp] theorem State.healthChanged_run (s : State) (n : Nat) : (s.healthChanged n).run = s.run := by
  simp [State.healthChanged]
@[simp] theorem State.beginRecovery_run (s : State) (n : Nat) : (s.beginRecovery n).run = s.run := by
  simp [State.beginRecovery]
@[simp] theorem State.endRecovery_run (s : State) (n : Nat) : (s.endRecovery n).run = s.run := by
  simp [State.endRecovery]
@[simp] theorem State.faultS1_run (s : State) (c n a : Nat) : (s.faultS1 c n a).run = s.run := by
  simp [State.faultS1]
@[simp] theorem State.noteS1_run (s : State) (c n a : Nat) : (s.noteS1 c n a).run = s.run := by
  simp [State.noteS1]
@[simp] theorem State.faultS2Unit_run (s : State) (c n a : Nat) : (s.faultS2Unit c n a).run = s.run := by
  simp [State.faultS2Unit]
@[simp] theorem State.accessError_run (s : State) (m x a : Nat) : (s.accessError m x a).run = s.run := by
  simp [State.accessError]

/-! ### trust -/

@[simp] theorem ite_trust (c : Prop) [Decidable c] (s t : State) :
    (if c then s else t).trust = if c then s.trust else t.trust := by split <;> rfl

@[simp] theorem foldl_trust {β : Type} (f : State → β → State) (h : ∀ s b, (f s b).trust = s.trust)
    (l : List β) (s : State) : (l.foldl f s).trust = s.trust := by
  induction l generalizing s with
  | nil => rfl
  | cons b l ih => rw [List.foldl_cons, ih, h]

@[simp] theorem State.bump64_trust (s : State) (lo hi : Fld) (i k : Nat) : (s.bump64 lo hi i k).trust = s.trust := by
  unfold State.bump64
  rw [State.wr_trust, State.wr_trust]
@[simp] theorem State.wrWords_trust (s : State) (F : Fld) (i : Nat) (ws : List Nat) : (s.wrWords F i ws).trust = s.trust := by
  unfold State.wrWords
  apply foldl_trust
  intro s x
  exact State.wr_trust _ _ _ _ _
@[simp] theorem State.capture_trust (s : State) (ns sec sech frac : Fld) (i j : Nat) : (s.capture ns sec sech frac i j).trust = s.trust := by
  unfold State.capture
  rw [State.wr_trust, State.wr_trust, State.wr_trust, State.wr_trust]
@[simp] theorem State.capture2_trust (s : State) (ns sec : Fld) (i : Nat) : (s.capture2 ns sec i).trust = s.trust := by
  unfold State.capture2
  rw [State.wr_trust, State.wr_trust]
@[simp] theorem State.beginResult_trust (s : State) (p : Page) (i : Nat) : (s.beginResult p i).trust = s.trust := by
  unfold State.beginResult
  rw [State.wr_trust, State.wr_trust]
@[simp] theorem State.landResult_trust (s : State) (p : Page) (i : Nat) : (s.landResult p i).trust = s.trust := by
  unfold State.landResult
  rw [State.wr_trust, State.wr_trust, State.wr_trust]
@[simp] theorem State.refreshPins_trust (s : State)  : s.refreshPins.trust = s.trust := by
  unfold State.refreshPins
  split <;> rfl
@[simp] theorem State.sendEvent_trust (s : State) (n : Nat) (v : Bool) : (s.sendEvent n v).trust = s.trust := by
  simp [State.sendEvent]
@[simp] theorem State.inbandDue_trust (s : State) (n : Nat) (v : Bool) : (s.inbandDue n v).trust = s.trust := by
  simp [State.inbandDue]
@[simp] theorem State.inbandChange_trust (s : State) (n : Nat) (v : Bool) : (s.inbandChange n v).trust = s.trust := by
  simp [State.inbandChange]
@[simp] theorem State.refreshSource_trust (s : State) (n : Nat) : (s.refreshSource n).trust = s.trust := by
  simp [State.refreshSource]
@[simp] theorem State.refreshPage_trust (s : State) (p : Page) (i : Nat) : (s.refreshPage p i).trust = s.trust := by
  simp [State.refreshPage]
@[simp] theorem State.edges_trust (s : State) (p : Page) (i m : Nat) : (s.edges p i m).trust = s.trust := by
  simp [State.edges]
@[simp] theorem State.pulse_trust (s : State) (p : Page) (i b : Nat) : (s.pulse p i b).trust = s.trust := by
  simp [State.pulse]
@[simp] theorem State.cond_trust (s : State) (p : Page) (i b : Nat) (on : Bool) : (s.cond p i b on).trust = s.trust := by
  simp [State.cond]
@[simp] theorem State.placeRecord_trust (s : State) (r : Nat) (f : FaultReport) (real : Bool) : (s.placeRecord r f real).trust = s.trust := by
  unfold State.placeRecord
  dsimp only
  rw [State.modFault_trust, State.wrWords_trust, State.capture_trust, State.wr_trust, State.wr_trust, State.wr_trust, State.wr_trust, State.wr_trust, State.wr_trust, State.wr_trust, State.wr_trust, State.wr_trust, State.wr_trust, State.wr_trust]
@[simp] theorem State.companion_trust (s : State) (r n : Nat) : (s.companion r n).trust = s.trust := by
  simp [State.companion]
@[simp] theorem State.record_trust (s : State) (f : FaultReport) (real : Bool) : (s.record f real).trust = s.trust := by
  simp [State.record]
@[simp] theorem State.countFault_trust (s : State) (f : FaultReport) : (s.countFault f).trust = s.trust := by
  simp [State.countFault]
@[simp] theorem State.unitRecorded_trust (s : State) (f : FaultReport) : (s.unitRecorded f).trust = s.trust := by
  simp [State.unitRecorded]
@[simp] theorem State.log_trust (s : State) (f : FaultReport) : (s.log f).trust = s.trust := by
  simp [State.log]
@[simp] theorem State.healthChanged_trust (s : State) (n : Nat) : (s.healthChanged n).trust = s.trust := by
  simp [State.healthChanged]
@[simp] theorem State.beginRecovery_trust (s : State) (n : Nat) : (s.beginRecovery n).trust = s.trust := by
  simp [State.beginRecovery]
@[simp] theorem State.endRecovery_trust (s : State) (n : Nat) : (s.endRecovery n).trust = s.trust := by
  simp [State.endRecovery]
@[simp] theorem State.faultS1_trust (s : State) (c n a : Nat) : (s.faultS1 c n a).trust = s.trust := by
  simp [State.faultS1]
@[simp] theorem State.noteS1_trust (s : State) (c n a : Nat) : (s.noteS1 c n a).trust = s.trust := by
  simp [State.noteS1]
@[simp] theorem State.faultS2Unit_trust (s : State) (c n a : Nat) : (s.faultS2Unit c n a).trust = s.trust := by
  simp [State.faultS2Unit]
@[simp] theorem State.accessError_trust (s : State) (m x a : Nat) : (s.accessError m x a).trust = s.trust := by
  simp [State.accessError]

/-! ### clk -/

@[simp] theorem ite_clk (c : Prop) [Decidable c] (s t : State) :
    (if c then s else t).clk = if c then s.clk else t.clk := by split <;> rfl

@[simp] theorem foldl_clk {β : Type} (f : State → β → State) (h : ∀ s b, (f s b).clk = s.clk)
    (l : List β) (s : State) : (l.foldl f s).clk = s.clk := by
  induction l generalizing s with
  | nil => rfl
  | cons b l ih => rw [List.foldl_cons, ih, h]

@[simp] theorem State.bump64_clk (s : State) (lo hi : Fld) (i k : Nat) : (s.bump64 lo hi i k).clk = s.clk := by
  unfold State.bump64
  rw [State.wr_clk, State.wr_clk]
@[simp] theorem State.wrWords_clk (s : State) (F : Fld) (i : Nat) (ws : List Nat) : (s.wrWords F i ws).clk = s.clk := by
  unfold State.wrWords
  apply foldl_clk
  intro s x
  exact State.wr_clk _ _ _ _ _
@[simp] theorem State.capture_clk (s : State) (ns sec sech frac : Fld) (i j : Nat) : (s.capture ns sec sech frac i j).clk = s.clk := by
  unfold State.capture
  rw [State.wr_clk, State.wr_clk, State.wr_clk, State.wr_clk]
@[simp] theorem State.capture2_clk (s : State) (ns sec : Fld) (i : Nat) : (s.capture2 ns sec i).clk = s.clk := by
  unfold State.capture2
  rw [State.wr_clk, State.wr_clk]
@[simp] theorem State.beginResult_clk (s : State) (p : Page) (i : Nat) : (s.beginResult p i).clk = s.clk := by
  unfold State.beginResult
  rw [State.wr_clk, State.wr_clk]
@[simp] theorem State.landResult_clk (s : State) (p : Page) (i : Nat) : (s.landResult p i).clk = s.clk := by
  unfold State.landResult
  rw [State.wr_clk, State.wr_clk, State.wr_clk]
@[simp] theorem State.refreshPins_clk (s : State)  : s.refreshPins.clk = s.clk := by
  unfold State.refreshPins
  split <;> rfl
@[simp] theorem State.sendEvent_clk (s : State) (n : Nat) (v : Bool) : (s.sendEvent n v).clk = s.clk := by
  simp [State.sendEvent]
@[simp] theorem State.inbandDue_clk (s : State) (n : Nat) (v : Bool) : (s.inbandDue n v).clk = s.clk := by
  simp [State.inbandDue]
@[simp] theorem State.inbandChange_clk (s : State) (n : Nat) (v : Bool) : (s.inbandChange n v).clk = s.clk := by
  simp [State.inbandChange]
@[simp] theorem State.refreshSource_clk (s : State) (n : Nat) : (s.refreshSource n).clk = s.clk := by
  simp [State.refreshSource]
@[simp] theorem State.refreshPage_clk (s : State) (p : Page) (i : Nat) : (s.refreshPage p i).clk = s.clk := by
  simp [State.refreshPage]
@[simp] theorem State.edges_clk (s : State) (p : Page) (i m : Nat) : (s.edges p i m).clk = s.clk := by
  simp [State.edges]
@[simp] theorem State.pulse_clk (s : State) (p : Page) (i b : Nat) : (s.pulse p i b).clk = s.clk := by
  simp [State.pulse]
@[simp] theorem State.cond_clk (s : State) (p : Page) (i b : Nat) (on : Bool) : (s.cond p i b on).clk = s.clk := by
  simp [State.cond]
@[simp] theorem State.placeRecord_clk (s : State) (r : Nat) (f : FaultReport) (real : Bool) : (s.placeRecord r f real).clk = s.clk := by
  unfold State.placeRecord
  dsimp only
  rw [State.modFault_clk, State.wrWords_clk, State.capture_clk, State.wr_clk, State.wr_clk, State.wr_clk, State.wr_clk, State.wr_clk, State.wr_clk, State.wr_clk, State.wr_clk, State.wr_clk, State.wr_clk, State.wr_clk]
@[simp] theorem State.companion_clk (s : State) (r n : Nat) : (s.companion r n).clk = s.clk := by
  simp [State.companion]
@[simp] theorem State.record_clk (s : State) (f : FaultReport) (real : Bool) : (s.record f real).clk = s.clk := by
  simp [State.record]
@[simp] theorem State.countFault_clk (s : State) (f : FaultReport) : (s.countFault f).clk = s.clk := by
  simp [State.countFault]
@[simp] theorem State.unitRecorded_clk (s : State) (f : FaultReport) : (s.unitRecorded f).clk = s.clk := by
  simp [State.unitRecorded]
@[simp] theorem State.log_clk (s : State) (f : FaultReport) : (s.log f).clk = s.clk := by
  simp [State.log]
@[simp] theorem State.healthChanged_clk (s : State) (n : Nat) : (s.healthChanged n).clk = s.clk := by
  simp [State.healthChanged]
@[simp] theorem State.beginRecovery_clk (s : State) (n : Nat) : (s.beginRecovery n).clk = s.clk := by
  simp [State.beginRecovery]
@[simp] theorem State.endRecovery_clk (s : State) (n : Nat) : (s.endRecovery n).clk = s.clk := by
  simp [State.endRecovery]
@[simp] theorem State.faultS1_clk (s : State) (c n a : Nat) : (s.faultS1 c n a).clk = s.clk := by
  simp [State.faultS1]
@[simp] theorem State.noteS1_clk (s : State) (c n a : Nat) : (s.noteS1 c n a).clk = s.clk := by
  simp [State.noteS1]
@[simp] theorem State.faultS2Unit_clk (s : State) (c n a : Nat) : (s.faultS2Unit c n a).clk = s.clk := by
  simp [State.faultS2Unit]
@[simp] theorem State.accessError_clk (s : State) (m x a : Nat) : (s.accessError m x a).clk = s.clk := by
  simp [State.accessError]

/-! ### time -/

@[simp] theorem ite_time (c : Prop) [Decidable c] (s t : State) :
    (if c then s else t).time = if c then s.time else t.time := by split <;> rfl

@[simp] theorem foldl_time {β : Type} (f : State → β → State) (h : ∀ s b, (f s b).time = s.time)
    (l : List β) (s : State) : (l.foldl f s).time = s.time := by
  induction l generalizing s with
  | nil => rfl
  | cons b l ih => rw [List.foldl_cons, ih, h]

@[simp] theorem State.bump64_time (s : State) (lo hi : Fld) (i k : Nat) : (s.bump64 lo hi i k).time = s.time := by
  unfold State.bump64
  rw [State.wr_time, State.wr_time]
@[simp] theorem State.wrWords_time (s : State) (F : Fld) (i : Nat) (ws : List Nat) : (s.wrWords F i ws).time = s.time := by
  unfold State.wrWords
  apply foldl_time
  intro s x
  exact State.wr_time _ _ _ _ _
@[simp] theorem State.capture_time (s : State) (ns sec sech frac : Fld) (i j : Nat) : (s.capture ns sec sech frac i j).time = s.time := by
  unfold State.capture
  rw [State.wr_time, State.wr_time, State.wr_time, State.wr_time]
@[simp] theorem State.capture2_time (s : State) (ns sec : Fld) (i : Nat) : (s.capture2 ns sec i).time = s.time := by
  unfold State.capture2
  rw [State.wr_time, State.wr_time]
@[simp] theorem State.beginResult_time (s : State) (p : Page) (i : Nat) : (s.beginResult p i).time = s.time := by
  unfold State.beginResult
  rw [State.wr_time, State.wr_time]
@[simp] theorem State.landResult_time (s : State) (p : Page) (i : Nat) : (s.landResult p i).time = s.time := by
  unfold State.landResult
  rw [State.wr_time, State.wr_time, State.wr_time]
@[simp] theorem State.refreshPins_time (s : State)  : s.refreshPins.time = s.time := by
  unfold State.refreshPins
  split <;> rfl
@[simp] theorem State.sendEvent_time (s : State) (n : Nat) (v : Bool) : (s.sendEvent n v).time = s.time := by
  simp [State.sendEvent]
@[simp] theorem State.inbandDue_time (s : State) (n : Nat) (v : Bool) : (s.inbandDue n v).time = s.time := by
  simp [State.inbandDue]
@[simp] theorem State.inbandChange_time (s : State) (n : Nat) (v : Bool) : (s.inbandChange n v).time = s.time := by
  simp [State.inbandChange]
@[simp] theorem State.refreshSource_time (s : State) (n : Nat) : (s.refreshSource n).time = s.time := by
  simp [State.refreshSource]
@[simp] theorem State.refreshPage_time (s : State) (p : Page) (i : Nat) : (s.refreshPage p i).time = s.time := by
  simp [State.refreshPage]
@[simp] theorem State.edges_time (s : State) (p : Page) (i m : Nat) : (s.edges p i m).time = s.time := by
  simp [State.edges]
@[simp] theorem State.pulse_time (s : State) (p : Page) (i b : Nat) : (s.pulse p i b).time = s.time := by
  simp [State.pulse]
@[simp] theorem State.cond_time (s : State) (p : Page) (i b : Nat) (on : Bool) : (s.cond p i b on).time = s.time := by
  simp [State.cond]
@[simp] theorem State.placeRecord_time (s : State) (r : Nat) (f : FaultReport) (real : Bool) : (s.placeRecord r f real).time = s.time := by
  unfold State.placeRecord
  dsimp only
  rw [State.modFault_time, State.wrWords_time, State.capture_time, State.wr_time, State.wr_time, State.wr_time, State.wr_time, State.wr_time, State.wr_time, State.wr_time, State.wr_time, State.wr_time, State.wr_time, State.wr_time]
@[simp] theorem State.companion_time (s : State) (r n : Nat) : (s.companion r n).time = s.time := by
  simp [State.companion]
@[simp] theorem State.record_time (s : State) (f : FaultReport) (real : Bool) : (s.record f real).time = s.time := by
  simp [State.record]
@[simp] theorem State.countFault_time (s : State) (f : FaultReport) : (s.countFault f).time = s.time := by
  simp [State.countFault]
@[simp] theorem State.unitRecorded_time (s : State) (f : FaultReport) : (s.unitRecorded f).time = s.time := by
  simp [State.unitRecorded]
@[simp] theorem State.log_time (s : State) (f : FaultReport) : (s.log f).time = s.time := by
  simp [State.log]
@[simp] theorem State.healthChanged_time (s : State) (n : Nat) : (s.healthChanged n).time = s.time := by
  simp [State.healthChanged]
@[simp] theorem State.beginRecovery_time (s : State) (n : Nat) : (s.beginRecovery n).time = s.time := by
  simp [State.beginRecovery]
@[simp] theorem State.endRecovery_time (s : State) (n : Nat) : (s.endRecovery n).time = s.time := by
  simp [State.endRecovery]
@[simp] theorem State.faultS1_time (s : State) (c n a : Nat) : (s.faultS1 c n a).time = s.time := by
  simp [State.faultS1]
@[simp] theorem State.noteS1_time (s : State) (c n a : Nat) : (s.noteS1 c n a).time = s.time := by
  simp [State.noteS1]
@[simp] theorem State.faultS2Unit_time (s : State) (c n a : Nat) : (s.faultS2Unit c n a).time = s.time := by
  simp [State.faultS2Unit]
@[simp] theorem State.accessError_time (s : State) (m x a : Nat) : (s.accessError m x a).time = s.time := by
  simp [State.accessError]

/-! ### lvl -/

@[simp] theorem ite_lvl (c : Prop) [Decidable c] (s t : State) :
    (if c then s else t).lvl = if c then s.lvl else t.lvl := by split <;> rfl

@[simp] theorem foldl_lvl {β : Type} (f : State → β → State) (h : ∀ s b, (f s b).lvl = s.lvl)
    (l : List β) (s : State) : (l.foldl f s).lvl = s.lvl := by
  induction l generalizing s with
  | nil => rfl
  | cons b l ih => rw [List.foldl_cons, ih, h]

@[simp] theorem State.bump64_lvl (s : State) (lo hi : Fld) (i k : Nat) : (s.bump64 lo hi i k).lvl = s.lvl := by
  unfold State.bump64
  rw [State.wr_lvl, State.wr_lvl]
@[simp] theorem State.wrWords_lvl (s : State) (F : Fld) (i : Nat) (ws : List Nat) : (s.wrWords F i ws).lvl = s.lvl := by
  unfold State.wrWords
  apply foldl_lvl
  intro s x
  exact State.wr_lvl _ _ _ _ _
@[simp] theorem State.capture_lvl (s : State) (ns sec sech frac : Fld) (i j : Nat) : (s.capture ns sec sech frac i j).lvl = s.lvl := by
  unfold State.capture
  rw [State.wr_lvl, State.wr_lvl, State.wr_lvl, State.wr_lvl]
@[simp] theorem State.capture2_lvl (s : State) (ns sec : Fld) (i : Nat) : (s.capture2 ns sec i).lvl = s.lvl := by
  unfold State.capture2
  rw [State.wr_lvl, State.wr_lvl]
@[simp] theorem State.beginResult_lvl (s : State) (p : Page) (i : Nat) : (s.beginResult p i).lvl = s.lvl := by
  unfold State.beginResult
  rw [State.wr_lvl, State.wr_lvl]
@[simp] theorem State.landResult_lvl (s : State) (p : Page) (i : Nat) : (s.landResult p i).lvl = s.lvl := by
  unfold State.landResult
  rw [State.wr_lvl, State.wr_lvl, State.wr_lvl]
@[simp] theorem State.refreshPins_lvl (s : State)  : s.refreshPins.lvl = s.lvl := by
  unfold State.refreshPins
  split <;> rfl
@[simp] theorem State.sendEvent_lvl (s : State) (n : Nat) (v : Bool) : (s.sendEvent n v).lvl = s.lvl := by
  simp [State.sendEvent]
@[simp] theorem State.inbandDue_lvl (s : State) (n : Nat) (v : Bool) : (s.inbandDue n v).lvl = s.lvl := by
  simp [State.inbandDue]
@[simp] theorem State.inbandChange_lvl (s : State) (n : Nat) (v : Bool) : (s.inbandChange n v).lvl = s.lvl := by
  simp [State.inbandChange]
@[simp] theorem State.refreshSource_lvl (s : State) (n : Nat) : (s.refreshSource n).lvl = s.lvl := by
  simp [State.refreshSource]
@[simp] theorem State.refreshPage_lvl (s : State) (p : Page) (i : Nat) : (s.refreshPage p i).lvl = s.lvl := by
  simp [State.refreshPage]
@[simp] theorem State.edges_lvl (s : State) (p : Page) (i m : Nat) : (s.edges p i m).lvl = s.lvl := by
  simp [State.edges]
@[simp] theorem State.pulse_lvl (s : State) (p : Page) (i b : Nat) : (s.pulse p i b).lvl = s.lvl := by
  simp [State.pulse]
@[simp] theorem State.cond_lvl (s : State) (p : Page) (i b : Nat) (on : Bool) : (s.cond p i b on).lvl = s.lvl := by
  simp [State.cond]
@[simp] theorem State.placeRecord_lvl (s : State) (r : Nat) (f : FaultReport) (real : Bool) : (s.placeRecord r f real).lvl = s.lvl := by
  unfold State.placeRecord
  dsimp only
  rw [State.modFault_lvl, State.wrWords_lvl, State.capture_lvl, State.wr_lvl, State.wr_lvl, State.wr_lvl, State.wr_lvl, State.wr_lvl, State.wr_lvl, State.wr_lvl, State.wr_lvl, State.wr_lvl, State.wr_lvl, State.wr_lvl]
@[simp] theorem State.companion_lvl (s : State) (r n : Nat) : (s.companion r n).lvl = s.lvl := by
  simp [State.companion]
@[simp] theorem State.record_lvl (s : State) (f : FaultReport) (real : Bool) : (s.record f real).lvl = s.lvl := by
  simp [State.record]
@[simp] theorem State.countFault_lvl (s : State) (f : FaultReport) : (s.countFault f).lvl = s.lvl := by
  simp [State.countFault]
@[simp] theorem State.unitRecorded_lvl (s : State) (f : FaultReport) : (s.unitRecorded f).lvl = s.lvl := by
  simp [State.unitRecorded]
@[simp] theorem State.log_lvl (s : State) (f : FaultReport) : (s.log f).lvl = s.lvl := by
  simp [State.log]
@[simp] theorem State.healthChanged_lvl (s : State) (n : Nat) : (s.healthChanged n).lvl = s.lvl := by
  simp [State.healthChanged]
@[simp] theorem State.beginRecovery_lvl (s : State) (n : Nat) : (s.beginRecovery n).lvl = s.lvl := by
  simp [State.beginRecovery]
@[simp] theorem State.endRecovery_lvl (s : State) (n : Nat) : (s.endRecovery n).lvl = s.lvl := by
  simp [State.endRecovery]
@[simp] theorem State.faultS1_lvl (s : State) (c n a : Nat) : (s.faultS1 c n a).lvl = s.lvl := by
  simp [State.faultS1]
@[simp] theorem State.noteS1_lvl (s : State) (c n a : Nat) : (s.noteS1 c n a).lvl = s.lvl := by
  simp [State.noteS1]
@[simp] theorem State.faultS2Unit_lvl (s : State) (c n a : Nat) : (s.faultS2Unit c n a).lvl = s.lvl := by
  simp [State.faultS2Unit]
@[simp] theorem State.accessError_lvl (s : State) (m x a : Nat) : (s.accessError m x a).lvl = s.lvl := by
  simp [State.accessError]

/-! ### pwr -/

@[simp] theorem ite_pwr (c : Prop) [Decidable c] (s t : State) :
    (if c then s else t).pwr = if c then s.pwr else t.pwr := by split <;> rfl

@[simp] theorem foldl_pwr {β : Type} (f : State → β → State) (h : ∀ s b, (f s b).pwr = s.pwr)
    (l : List β) (s : State) : (l.foldl f s).pwr = s.pwr := by
  induction l generalizing s with
  | nil => rfl
  | cons b l ih => rw [List.foldl_cons, ih, h]

@[simp] theorem State.bump64_pwr (s : State) (lo hi : Fld) (i k : Nat) : (s.bump64 lo hi i k).pwr = s.pwr := by
  unfold State.bump64
  rw [State.wr_pwr, State.wr_pwr]
@[simp] theorem State.wrWords_pwr (s : State) (F : Fld) (i : Nat) (ws : List Nat) : (s.wrWords F i ws).pwr = s.pwr := by
  unfold State.wrWords
  apply foldl_pwr
  intro s x
  exact State.wr_pwr _ _ _ _ _
@[simp] theorem State.capture_pwr (s : State) (ns sec sech frac : Fld) (i j : Nat) : (s.capture ns sec sech frac i j).pwr = s.pwr := by
  unfold State.capture
  rw [State.wr_pwr, State.wr_pwr, State.wr_pwr, State.wr_pwr]
@[simp] theorem State.capture2_pwr (s : State) (ns sec : Fld) (i : Nat) : (s.capture2 ns sec i).pwr = s.pwr := by
  unfold State.capture2
  rw [State.wr_pwr, State.wr_pwr]
@[simp] theorem State.beginResult_pwr (s : State) (p : Page) (i : Nat) : (s.beginResult p i).pwr = s.pwr := by
  unfold State.beginResult
  rw [State.wr_pwr, State.wr_pwr]
@[simp] theorem State.landResult_pwr (s : State) (p : Page) (i : Nat) : (s.landResult p i).pwr = s.pwr := by
  unfold State.landResult
  rw [State.wr_pwr, State.wr_pwr, State.wr_pwr]
@[simp] theorem State.refreshPins_pwr (s : State)  : s.refreshPins.pwr = s.pwr := by
  unfold State.refreshPins
  split <;> rfl
@[simp] theorem State.sendEvent_pwr (s : State) (n : Nat) (v : Bool) : (s.sendEvent n v).pwr = s.pwr := by
  simp [State.sendEvent]
@[simp] theorem State.inbandDue_pwr (s : State) (n : Nat) (v : Bool) : (s.inbandDue n v).pwr = s.pwr := by
  simp [State.inbandDue]
@[simp] theorem State.inbandChange_pwr (s : State) (n : Nat) (v : Bool) : (s.inbandChange n v).pwr = s.pwr := by
  simp [State.inbandChange]
@[simp] theorem State.refreshSource_pwr (s : State) (n : Nat) : (s.refreshSource n).pwr = s.pwr := by
  simp [State.refreshSource]
@[simp] theorem State.refreshPage_pwr (s : State) (p : Page) (i : Nat) : (s.refreshPage p i).pwr = s.pwr := by
  simp [State.refreshPage]
@[simp] theorem State.edges_pwr (s : State) (p : Page) (i m : Nat) : (s.edges p i m).pwr = s.pwr := by
  simp [State.edges]
@[simp] theorem State.pulse_pwr (s : State) (p : Page) (i b : Nat) : (s.pulse p i b).pwr = s.pwr := by
  simp [State.pulse]
@[simp] theorem State.cond_pwr (s : State) (p : Page) (i b : Nat) (on : Bool) : (s.cond p i b on).pwr = s.pwr := by
  simp [State.cond]
@[simp] theorem State.placeRecord_pwr (s : State) (r : Nat) (f : FaultReport) (real : Bool) : (s.placeRecord r f real).pwr = s.pwr := by
  unfold State.placeRecord
  dsimp only
  rw [State.modFault_pwr, State.wrWords_pwr, State.capture_pwr, State.wr_pwr, State.wr_pwr, State.wr_pwr, State.wr_pwr, State.wr_pwr, State.wr_pwr, State.wr_pwr, State.wr_pwr, State.wr_pwr, State.wr_pwr, State.wr_pwr]
@[simp] theorem State.companion_pwr (s : State) (r n : Nat) : (s.companion r n).pwr = s.pwr := by
  simp [State.companion]
@[simp] theorem State.record_pwr (s : State) (f : FaultReport) (real : Bool) : (s.record f real).pwr = s.pwr := by
  simp [State.record]
@[simp] theorem State.countFault_pwr (s : State) (f : FaultReport) : (s.countFault f).pwr = s.pwr := by
  simp [State.countFault]
@[simp] theorem State.unitRecorded_pwr (s : State) (f : FaultReport) : (s.unitRecorded f).pwr = s.pwr := by
  simp [State.unitRecorded]
@[simp] theorem State.log_pwr (s : State) (f : FaultReport) : (s.log f).pwr = s.pwr := by
  simp [State.log]
@[simp] theorem State.healthChanged_pwr (s : State) (n : Nat) : (s.healthChanged n).pwr = s.pwr := by
  simp [State.healthChanged]
@[simp] theorem State.beginRecovery_pwr (s : State) (n : Nat) : (s.beginRecovery n).pwr = s.pwr := by
  simp [State.beginRecovery]
@[simp] theorem State.endRecovery_pwr (s : State) (n : Nat) : (s.endRecovery n).pwr = s.pwr := by
  simp [State.endRecovery]
@[simp] theorem State.faultS1_pwr (s : State) (c n a : Nat) : (s.faultS1 c n a).pwr = s.pwr := by
  simp [State.faultS1]
@[simp] theorem State.noteS1_pwr (s : State) (c n a : Nat) : (s.noteS1 c n a).pwr = s.pwr := by
  simp [State.noteS1]
@[simp] theorem State.faultS2Unit_pwr (s : State) (c n a : Nat) : (s.faultS2Unit c n a).pwr = s.pwr := by
  simp [State.faultS2Unit]
@[simp] theorem State.accessError_pwr (s : State) (m x a : Nat) : (s.accessError m x a).pwr = s.pwr := by
  simp [State.accessError]

/-! ### sfc -/

@[simp] theorem ite_sfc (c : Prop) [Decidable c] (s t : State) :
    (if c then s else t).sfc = if c then s.sfc else t.sfc := by split <;> rfl

@[simp] theorem foldl_sfc {β : Type} (f : State → β → State) (h : ∀ s b, (f s b).sfc = s.sfc)
    (l : List β) (s : State) : (l.foldl f s).sfc = s.sfc := by
  induction l generalizing s with
  | nil => rfl
  | cons b l ih => rw [List.foldl_cons, ih, h]

@[simp] theorem State.bump64_sfc (s : State) (lo hi : Fld) (i k : Nat) : (s.bump64 lo hi i k).sfc = s.sfc := by
  unfold State.bump64
  rw [State.wr_sfc, State.wr_sfc]
@[simp] theorem State.wrWords_sfc (s : State) (F : Fld) (i : Nat) (ws : List Nat) : (s.wrWords F i ws).sfc = s.sfc := by
  unfold State.wrWords
  apply foldl_sfc
  intro s x
  exact State.wr_sfc _ _ _ _ _
@[simp] theorem State.capture_sfc (s : State) (ns sec sech frac : Fld) (i j : Nat) : (s.capture ns sec sech frac i j).sfc = s.sfc := by
  unfold State.capture
  rw [State.wr_sfc, State.wr_sfc, State.wr_sfc, State.wr_sfc]
@[simp] theorem State.capture2_sfc (s : State) (ns sec : Fld) (i : Nat) : (s.capture2 ns sec i).sfc = s.sfc := by
  unfold State.capture2
  rw [State.wr_sfc, State.wr_sfc]
@[simp] theorem State.beginResult_sfc (s : State) (p : Page) (i : Nat) : (s.beginResult p i).sfc = s.sfc := by
  unfold State.beginResult
  rw [State.wr_sfc, State.wr_sfc]
@[simp] theorem State.landResult_sfc (s : State) (p : Page) (i : Nat) : (s.landResult p i).sfc = s.sfc := by
  unfold State.landResult
  rw [State.wr_sfc, State.wr_sfc, State.wr_sfc]
@[simp] theorem State.refreshPins_sfc (s : State)  : s.refreshPins.sfc = s.sfc := by
  unfold State.refreshPins
  split <;> rfl
@[simp] theorem State.sendEvent_sfc (s : State) (n : Nat) (v : Bool) : (s.sendEvent n v).sfc = s.sfc := by
  simp [State.sendEvent]
@[simp] theorem State.inbandDue_sfc (s : State) (n : Nat) (v : Bool) : (s.inbandDue n v).sfc = s.sfc := by
  simp [State.inbandDue]
@[simp] theorem State.inbandChange_sfc (s : State) (n : Nat) (v : Bool) : (s.inbandChange n v).sfc = s.sfc := by
  simp [State.inbandChange]
@[simp] theorem State.refreshSource_sfc (s : State) (n : Nat) : (s.refreshSource n).sfc = s.sfc := by
  simp [State.refreshSource]
@[simp] theorem State.refreshPage_sfc (s : State) (p : Page) (i : Nat) : (s.refreshPage p i).sfc = s.sfc := by
  simp [State.refreshPage]
@[simp] theorem State.edges_sfc (s : State) (p : Page) (i m : Nat) : (s.edges p i m).sfc = s.sfc := by
  simp [State.edges]
@[simp] theorem State.pulse_sfc (s : State) (p : Page) (i b : Nat) : (s.pulse p i b).sfc = s.sfc := by
  simp [State.pulse]
@[simp] theorem State.cond_sfc (s : State) (p : Page) (i b : Nat) (on : Bool) : (s.cond p i b on).sfc = s.sfc := by
  simp [State.cond]
@[simp] theorem State.placeRecord_sfc (s : State) (r : Nat) (f : FaultReport) (real : Bool) : (s.placeRecord r f real).sfc = s.sfc := by
  unfold State.placeRecord
  dsimp only
  rw [State.modFault_sfc, State.wrWords_sfc, State.capture_sfc, State.wr_sfc, State.wr_sfc, State.wr_sfc, State.wr_sfc, State.wr_sfc, State.wr_sfc, State.wr_sfc, State.wr_sfc, State.wr_sfc, State.wr_sfc, State.wr_sfc]
@[simp] theorem State.companion_sfc (s : State) (r n : Nat) : (s.companion r n).sfc = s.sfc := by
  simp [State.companion]
@[simp] theorem State.record_sfc (s : State) (f : FaultReport) (real : Bool) : (s.record f real).sfc = s.sfc := by
  simp [State.record]
@[simp] theorem State.countFault_sfc (s : State) (f : FaultReport) : (s.countFault f).sfc = s.sfc := by
  simp [State.countFault]
@[simp] theorem State.unitRecorded_sfc (s : State) (f : FaultReport) : (s.unitRecorded f).sfc = s.sfc := by
  simp [State.unitRecorded]
@[simp] theorem State.log_sfc (s : State) (f : FaultReport) : (s.log f).sfc = s.sfc := by
  simp [State.log]
@[simp] theorem State.healthChanged_sfc (s : State) (n : Nat) : (s.healthChanged n).sfc = s.sfc := by
  simp [State.healthChanged]
@[simp] theorem State.beginRecovery_sfc (s : State) (n : Nat) : (s.beginRecovery n).sfc = s.sfc := by
  simp [State.beginRecovery]
@[simp] theorem State.endRecovery_sfc (s : State) (n : Nat) : (s.endRecovery n).sfc = s.sfc := by
  simp [State.endRecovery]
@[simp] theorem State.faultS1_sfc (s : State) (c n a : Nat) : (s.faultS1 c n a).sfc = s.sfc := by
  simp [State.faultS1]
@[simp] theorem State.noteS1_sfc (s : State) (c n a : Nat) : (s.noteS1 c n a).sfc = s.sfc := by
  simp [State.noteS1]
@[simp] theorem State.faultS2Unit_sfc (s : State) (c n a : Nat) : (s.faultS2Unit c n a).sfc = s.sfc := by
  simp [State.faultS2Unit]
@[simp] theorem State.accessError_sfc (s : State) (m x a : Nat) : (s.accessError m x a).sfc = s.sfc := by
  simp [State.accessError]

/-! ### sym -/

@[simp] theorem ite_sym (c : Prop) [Decidable c] (s t : State) :
    (if c then s else t).sym = if c then s.sym else t.sym := by split <;> rfl

@[simp] theorem foldl_sym {β : Type} (f : State → β → State) (h : ∀ s b, (f s b).sym = s.sym)
    (l : List β) (s : State) : (l.foldl f s).sym = s.sym := by
  induction l generalizing s with
  | nil => rfl
  | cons b l ih => rw [List.foldl_cons, ih, h]

@[simp] theorem State.bump64_sym (s : State) (lo hi : Fld) (i k : Nat) : (s.bump64 lo hi i k).sym = s.sym := by
  unfold State.bump64
  rw [State.wr_sym, State.wr_sym]
@[simp] theorem State.wrWords_sym (s : State) (F : Fld) (i : Nat) (ws : List Nat) : (s.wrWords F i ws).sym = s.sym := by
  unfold State.wrWords
  apply foldl_sym
  intro s x
  exact State.wr_sym _ _ _ _ _
@[simp] theorem State.capture_sym (s : State) (ns sec sech frac : Fld) (i j : Nat) : (s.capture ns sec sech frac i j).sym = s.sym := by
  unfold State.capture
  rw [State.wr_sym, State.wr_sym, State.wr_sym, State.wr_sym]
@[simp] theorem State.capture2_sym (s : State) (ns sec : Fld) (i : Nat) : (s.capture2 ns sec i).sym = s.sym := by
  unfold State.capture2
  rw [State.wr_sym, State.wr_sym]
@[simp] theorem State.beginResult_sym (s : State) (p : Page) (i : Nat) : (s.beginResult p i).sym = s.sym := by
  unfold State.beginResult
  rw [State.wr_sym, State.wr_sym]
@[simp] theorem State.landResult_sym (s : State) (p : Page) (i : Nat) : (s.landResult p i).sym = s.sym := by
  unfold State.landResult
  rw [State.wr_sym, State.wr_sym, State.wr_sym]
@[simp] theorem State.refreshPins_sym (s : State)  : s.refreshPins.sym = s.sym := by
  unfold State.refreshPins
  split <;> rfl
@[simp] theorem State.sendEvent_sym (s : State) (n : Nat) (v : Bool) : (s.sendEvent n v).sym = s.sym := by
  simp [State.sendEvent]
@[simp] theorem State.inbandDue_sym (s : State) (n : Nat) (v : Bool) : (s.inbandDue n v).sym = s.sym := by
  simp [State.inbandDue]
@[simp] theorem State.inbandChange_sym (s : State) (n : Nat) (v : Bool) : (s.inbandChange n v).sym = s.sym := by
  simp [State.inbandChange]
@[simp] theorem State.refreshSource_sym (s : State) (n : Nat) : (s.refreshSource n).sym = s.sym := by
  simp [State.refreshSource]
@[simp] theorem State.refreshPage_sym (s : State) (p : Page) (i : Nat) : (s.refreshPage p i).sym = s.sym := by
  simp [State.refreshPage]
@[simp] theorem State.edges_sym (s : State) (p : Page) (i m : Nat) : (s.edges p i m).sym = s.sym := by
  simp [State.edges]
@[simp] theorem State.pulse_sym (s : State) (p : Page) (i b : Nat) : (s.pulse p i b).sym = s.sym := by
  simp [State.pulse]
@[simp] theorem State.cond_sym (s : State) (p : Page) (i b : Nat) (on : Bool) : (s.cond p i b on).sym = s.sym := by
  simp [State.cond]
@[simp] theorem State.placeRecord_sym (s : State) (r : Nat) (f : FaultReport) (real : Bool) : (s.placeRecord r f real).sym = s.sym := by
  unfold State.placeRecord
  dsimp only
  rw [State.modFault_sym, State.wrWords_sym, State.capture_sym, State.wr_sym, State.wr_sym, State.wr_sym, State.wr_sym, State.wr_sym, State.wr_sym, State.wr_sym, State.wr_sym, State.wr_sym, State.wr_sym, State.wr_sym]
@[simp] theorem State.companion_sym (s : State) (r n : Nat) : (s.companion r n).sym = s.sym := by
  simp [State.companion]
@[simp] theorem State.record_sym (s : State) (f : FaultReport) (real : Bool) : (s.record f real).sym = s.sym := by
  simp [State.record]
@[simp] theorem State.countFault_sym (s : State) (f : FaultReport) : (s.countFault f).sym = s.sym := by
  simp [State.countFault]
@[simp] theorem State.unitRecorded_sym (s : State) (f : FaultReport) : (s.unitRecorded f).sym = s.sym := by
  simp [State.unitRecorded]
@[simp] theorem State.log_sym (s : State) (f : FaultReport) : (s.log f).sym = s.sym := by
  simp [State.log]
@[simp] theorem State.healthChanged_sym (s : State) (n : Nat) : (s.healthChanged n).sym = s.sym := by
  simp [State.healthChanged]
@[simp] theorem State.beginRecovery_sym (s : State) (n : Nat) : (s.beginRecovery n).sym = s.sym := by
  simp [State.beginRecovery]
@[simp] theorem State.endRecovery_sym (s : State) (n : Nat) : (s.endRecovery n).sym = s.sym := by
  simp [State.endRecovery]
@[simp] theorem State.faultS1_sym (s : State) (c n a : Nat) : (s.faultS1 c n a).sym = s.sym := by
  simp [State.faultS1]
@[simp] theorem State.noteS1_sym (s : State) (c n a : Nat) : (s.noteS1 c n a).sym = s.sym := by
  simp [State.noteS1]
@[simp] theorem State.faultS2Unit_sym (s : State) (c n a : Nat) : (s.faultS2Unit c n a).sym = s.sym := by
  simp [State.faultS2Unit]
@[simp] theorem State.accessError_sym (s : State) (m x a : Nat) : (s.accessError m x a).sym = s.sym := by
  simp [State.accessError]

/-! ### lines -/

@[simp] theorem ite_lines (c : Prop) [Decidable c] (s t : State) :
    (if c then s else t).lines = if c then s.lines else t.lines := by split <;> rfl

@[simp] theorem foldl_lines {β : Type} (f : State → β → State) (h : ∀ s b, (f s b).lines = s.lines)
    (l : List β) (s : State) : (l.foldl f s).lines = s.lines := by
  induction l generalizing s with
  | nil => rfl
  | cons b l ih => rw [List.foldl_cons, ih, h]

@[simp] theorem State.bump64_lines (s : State) (lo hi : Fld) (i k : Nat) : (s.bump64 lo hi i k).lines = s.lines := by
  unfold State.bump64
  rw [State.wr_lines, State.wr_lines]
@[simp] theorem State.wrWords_lines (s : State) (F : Fld) (i : Nat) (ws : List Nat) : (s.wrWords F i ws).lines = s.lines := by
  unfold State.wrWords
  apply foldl_lines
  intro s x
  exact State.wr_lines _ _ _ _ _
@[simp] theorem State.capture_lines (s : State) (ns sec sech frac : Fld) (i j : Nat) : (s.capture ns sec sech frac i j).lines = s.lines := by
  unfold State.capture
  rw [State.wr_lines, State.wr_lines, State.wr_lines, State.wr_lines]
@[simp] theorem State.capture2_lines (s : State) (ns sec : Fld) (i : Nat) : (s.capture2 ns sec i).lines = s.lines := by
  unfold State.capture2
  rw [State.wr_lines, State.wr_lines]
@[simp] theorem State.beginResult_lines (s : State) (p : Page) (i : Nat) : (s.beginResult p i).lines = s.lines := by
  unfold State.beginResult
  rw [State.wr_lines, State.wr_lines]
@[simp] theorem State.landResult_lines (s : State) (p : Page) (i : Nat) : (s.landResult p i).lines = s.lines := by
  unfold State.landResult
  rw [State.wr_lines, State.wr_lines, State.wr_lines]
@[simp] theorem State.refreshPins_lines (s : State)  : s.refreshPins.lines = s.lines := by
  unfold State.refreshPins
  split <;> rfl
@[simp] theorem State.sendEvent_lines (s : State) (n : Nat) (v : Bool) : (s.sendEvent n v).lines = s.lines := by
  simp [State.sendEvent]
@[simp] theorem State.inbandDue_lines (s : State) (n : Nat) (v : Bool) : (s.inbandDue n v).lines = s.lines := by
  simp [State.inbandDue]
@[simp] theorem State.inbandChange_lines (s : State) (n : Nat) (v : Bool) : (s.inbandChange n v).lines = s.lines := by
  simp [State.inbandChange]
@[simp] theorem State.refreshSource_lines (s : State) (n : Nat) : (s.refreshSource n).lines = s.lines := by
  simp [State.refreshSource]
@[simp] theorem State.refreshPage_lines (s : State) (p : Page) (i : Nat) : (s.refreshPage p i).lines = s.lines := by
  simp [State.refreshPage]
@[simp] theorem State.edges_lines (s : State) (p : Page) (i m : Nat) : (s.edges p i m).lines = s.lines := by
  simp [State.edges]
@[simp] theorem State.pulse_lines (s : State) (p : Page) (i b : Nat) : (s.pulse p i b).lines = s.lines := by
  simp [State.pulse]
@[simp] theorem State.cond_lines (s : State) (p : Page) (i b : Nat) (on : Bool) : (s.cond p i b on).lines = s.lines := by
  simp [State.cond]
@[simp] theorem State.placeRecord_lines (s : State) (r : Nat) (f : FaultReport) (real : Bool) : (s.placeRecord r f real).lines = s.lines := by
  unfold State.placeRecord
  dsimp only
  rw [State.modFault_lines, State.wrWords_lines, State.capture_lines, State.wr_lines, State.wr_lines, State.wr_lines, State.wr_lines, State.wr_lines, State.wr_lines, State.wr_lines, State.wr_lines, State.wr_lines, State.wr_lines, State.wr_lines]
@[simp] theorem State.companion_lines (s : State) (r n : Nat) : (s.companion r n).lines = s.lines := by
  simp [State.companion]
@[simp] theorem State.record_lines (s : State) (f : FaultReport) (real : Bool) : (s.record f real).lines = s.lines := by
  simp [State.record]
@[simp] theorem State.countFault_lines (s : State) (f : FaultReport) : (s.countFault f).lines = s.lines := by
  simp [State.countFault]
@[simp] theorem State.unitRecorded_lines (s : State) (f : FaultReport) : (s.unitRecorded f).lines = s.lines := by
  simp [State.unitRecorded]
@[simp] theorem State.log_lines (s : State) (f : FaultReport) : (s.log f).lines = s.lines := by
  simp [State.log]
@[simp] theorem State.healthChanged_lines (s : State) (n : Nat) : (s.healthChanged n).lines = s.lines := by
  simp [State.healthChanged]
@[simp] theorem State.beginRecovery_lines (s : State) (n : Nat) : (s.beginRecovery n).lines = s.lines := by
  simp [State.beginRecovery]
@[simp] theorem State.endRecovery_lines (s : State) (n : Nat) : (s.endRecovery n).lines = s.lines := by
  simp [State.endRecovery]
@[simp] theorem State.faultS1_lines (s : State) (c n a : Nat) : (s.faultS1 c n a).lines = s.lines := by
  simp [State.faultS1]
@[simp] theorem State.noteS1_lines (s : State) (c n a : Nat) : (s.noteS1 c n a).lines = s.lines := by
  simp [State.noteS1]
@[simp] theorem State.faultS2Unit_lines (s : State) (c n a : Nat) : (s.faultS2Unit c n a).lines = s.lines := by
  simp [State.faultS2Unit]
@[simp] theorem State.accessError_lines (s : State) (m x a : Nat) : (s.accessError m x a).lines = s.lines := by
  simp [State.accessError]

/-! ### ports -/

@[simp] theorem ite_ports (c : Prop) [Decidable c] (s t : State) :
    (if c then s else t).ports = if c then s.ports else t.ports := by split <;> rfl

@[simp] theorem foldl_ports {β : Type} (f : State → β → State) (h : ∀ s b, (f s b).ports = s.ports)
    (l : List β) (s : State) : (l.foldl f s).ports = s.ports := by
  induction l generalizing s with
  | nil => rfl
  | cons b l ih => rw [List.foldl_cons, ih, h]

@[simp] theorem State.bump64_ports (s : State) (lo hi : Fld) (i k : Nat) : (s.bump64 lo hi i k).ports = s.ports := by
  unfold State.bump64
  rw [State.wr_ports, State.wr_ports]
@[simp] theorem State.wrWords_ports (s : State) (F : Fld) (i : Nat) (ws : List Nat) : (s.wrWords F i ws).ports = s.ports := by
  unfold State.wrWords
  apply foldl_ports
  intro s x
  exact State.wr_ports _ _ _ _ _
@[simp] theorem State.capture_ports (s : State) (ns sec sech frac : Fld) (i j : Nat) : (s.capture ns sec sech frac i j).ports = s.ports := by
  unfold State.capture
  rw [State.wr_ports, State.wr_ports, State.wr_ports, State.wr_ports]
@[simp] theorem State.capture2_ports (s : State) (ns sec : Fld) (i : Nat) : (s.capture2 ns sec i).ports = s.ports := by
  unfold State.capture2
  rw [State.wr_ports, State.wr_ports]
@[simp] theorem State.beginResult_ports (s : State) (p : Page) (i : Nat) : (s.beginResult p i).ports = s.ports := by
  unfold State.beginResult
  rw [State.wr_ports, State.wr_ports]
@[simp] theorem State.landResult_ports (s : State) (p : Page) (i : Nat) : (s.landResult p i).ports = s.ports := by
  unfold State.landResult
  rw [State.wr_ports, State.wr_ports, State.wr_ports]
@[simp] theorem State.refreshPins_ports (s : State)  : s.refreshPins.ports = s.ports := by
  unfold State.refreshPins
  split <;> rfl
@[simp] theorem State.sendEvent_ports (s : State) (n : Nat) (v : Bool) : (s.sendEvent n v).ports = s.ports := by
  simp [State.sendEvent]
@[simp] theorem State.inbandDue_ports (s : State) (n : Nat) (v : Bool) : (s.inbandDue n v).ports = s.ports := by
  simp [State.inbandDue]
@[simp] theorem State.inbandChange_ports (s : State) (n : Nat) (v : Bool) : (s.inbandChange n v).ports = s.ports := by
  simp [State.inbandChange]
@[simp] theorem State.refreshSource_ports (s : State) (n : Nat) : (s.refreshSource n).ports = s.ports := by
  simp [State.refreshSource]
@[simp] theorem State.refreshPage_ports (s : State) (p : Page) (i : Nat) : (s.refreshPage p i).ports = s.ports := by
  simp [State.refreshPage]
@[simp] theorem State.edges_ports (s : State) (p : Page) (i m : Nat) : (s.edges p i m).ports = s.ports := by
  simp [State.edges]
@[simp] theorem State.pulse_ports (s : State) (p : Page) (i b : Nat) : (s.pulse p i b).ports = s.ports := by
  simp [State.pulse]
@[simp] theorem State.cond_ports (s : State) (p : Page) (i b : Nat) (on : Bool) : (s.cond p i b on).ports = s.ports := by
  simp [State.cond]
@[simp] theorem State.placeRecord_ports (s : State) (r : Nat) (f : FaultReport) (real : Bool) : (s.placeRecord r f real).ports = s.ports := by
  unfold State.placeRecord
  dsimp only
  rw [State.modFault_ports, State.wrWords_ports, State.capture_ports, State.wr_ports, State.wr_ports, State.wr_ports, State.wr_ports, State.wr_ports, State.wr_ports, State.wr_ports, State.wr_ports, State.wr_ports, State.wr_ports, State.wr_ports]
@[simp] theorem State.companion_ports (s : State) (r n : Nat) : (s.companion r n).ports = s.ports := by
  simp [State.companion]
@[simp] theorem State.record_ports (s : State) (f : FaultReport) (real : Bool) : (s.record f real).ports = s.ports := by
  simp [State.record]
@[simp] theorem State.countFault_ports (s : State) (f : FaultReport) : (s.countFault f).ports = s.ports := by
  simp [State.countFault]
@[simp] theorem State.unitRecorded_ports (s : State) (f : FaultReport) : (s.unitRecorded f).ports = s.ports := by
  simp [State.unitRecorded]
@[simp] theorem State.log_ports (s : State) (f : FaultReport) : (s.log f).ports = s.ports := by
  simp [State.log]
@[simp] theorem State.healthChanged_ports (s : State) (n : Nat) : (s.healthChanged n).ports = s.ports := by
  simp [State.healthChanged]
@[simp] theorem State.beginRecovery_ports (s : State) (n : Nat) : (s.beginRecovery n).ports = s.ports := by
  simp [State.beginRecovery]
@[simp] theorem State.endRecovery_ports (s : State) (n : Nat) : (s.endRecovery n).ports = s.ports := by
  simp [State.endRecovery]
@[simp] theorem State.faultS1_ports (s : State) (c n a : Nat) : (s.faultS1 c n a).ports = s.ports := by
  simp [State.faultS1]
@[simp] theorem State.noteS1_ports (s : State) (c n a : Nat) : (s.noteS1 c n a).ports = s.ports := by
  simp [State.noteS1]
@[simp] theorem State.faultS2Unit_ports (s : State) (c n a : Nat) : (s.faultS2Unit c n a).ports = s.ports := by
  simp [State.faultS2Unit]
@[simp] theorem State.accessError_ports (s : State) (m x a : Nat) : (s.accessError m x a).ports = s.ports := by
  simp [State.accessError]

/-! ### lanes -/

@[simp] theorem ite_lanes (c : Prop) [Decidable c] (s t : State) :
    (if c then s else t).lanes = if c then s.lanes else t.lanes := by split <;> rfl

@[simp] theorem foldl_lanes {β : Type} (f : State → β → State) (h : ∀ s b, (f s b).lanes = s.lanes)
    (l : List β) (s : State) : (l.foldl f s).lanes = s.lanes := by
  induction l generalizing s with
  | nil => rfl
  | cons b l ih => rw [List.foldl_cons, ih, h]

@[simp] theorem State.bump64_lanes (s : State) (lo hi : Fld) (i k : Nat) : (s.bump64 lo hi i k).lanes = s.lanes := by
  unfold State.bump64
  rw [State.wr_lanes, State.wr_lanes]
@[simp] theorem State.wrWords_lanes (s : State) (F : Fld) (i : Nat) (ws : List Nat) : (s.wrWords F i ws).lanes = s.lanes := by
  unfold State.wrWords
  apply foldl_lanes
  intro s x
  exact State.wr_lanes _ _ _ _ _
@[simp] theorem State.capture_lanes (s : State) (ns sec sech frac : Fld) (i j : Nat) : (s.capture ns sec sech frac i j).lanes = s.lanes := by
  unfold State.capture
  rw [State.wr_lanes, State.wr_lanes, State.wr_lanes, State.wr_lanes]
@[simp] theorem State.capture2_lanes (s : State) (ns sec : Fld) (i : Nat) : (s.capture2 ns sec i).lanes = s.lanes := by
  unfold State.capture2
  rw [State.wr_lanes, State.wr_lanes]
@[simp] theorem State.beginResult_lanes (s : State) (p : Page) (i : Nat) : (s.beginResult p i).lanes = s.lanes := by
  unfold State.beginResult
  rw [State.wr_lanes, State.wr_lanes]
@[simp] theorem State.landResult_lanes (s : State) (p : Page) (i : Nat) : (s.landResult p i).lanes = s.lanes := by
  unfold State.landResult
  rw [State.wr_lanes, State.wr_lanes, State.wr_lanes]
@[simp] theorem State.refreshPins_lanes (s : State)  : s.refreshPins.lanes = s.lanes := by
  unfold State.refreshPins
  split <;> rfl
@[simp] theorem State.sendEvent_lanes (s : State) (n : Nat) (v : Bool) : (s.sendEvent n v).lanes = s.lanes := by
  simp [State.sendEvent]
@[simp] theorem State.inbandDue_lanes (s : State) (n : Nat) (v : Bool) : (s.inbandDue n v).lanes = s.lanes := by
  simp [State.inbandDue]
@[simp] theorem State.inbandChange_lanes (s : State) (n : Nat) (v : Bool) : (s.inbandChange n v).lanes = s.lanes := by
  simp [State.inbandChange]
@[simp] theorem State.refreshSource_lanes (s : State) (n : Nat) : (s.refreshSource n).lanes = s.lanes := by
  simp [State.refreshSource]
@[simp] theorem State.refreshPage_lanes (s : State) (p : Page) (i : Nat) : (s.refreshPage p i).lanes = s.lanes := by
  simp [State.refreshPage]
@[simp] theorem State.edges_lanes (s : State) (p : Page) (i m : Nat) : (s.edges p i m).lanes = s.lanes := by
  simp [State.edges]
@[simp] theorem State.pulse_lanes (s : State) (p : Page) (i b : Nat) : (s.pulse p i b).lanes = s.lanes := by
  simp [State.pulse]
@[simp] theorem State.cond_lanes (s : State) (p : Page) (i b : Nat) (on : Bool) : (s.cond p i b on).lanes = s.lanes := by
  simp [State.cond]
@[simp] theorem State.placeRecord_lanes (s : State) (r : Nat) (f : FaultReport) (real : Bool) : (s.placeRecord r f real).lanes = s.lanes := by
  unfold State.placeRecord
  dsimp only
  rw [State.modFault_lanes, State.wrWords_lanes, State.capture_lanes, State.wr_lanes, State.wr_lanes, State.wr_lanes, State.wr_lanes, State.wr_lanes, State.wr_lanes, State.wr_lanes, State.wr_lanes, State.wr_lanes, State.wr_lanes, State.wr_lanes]
@[simp] theorem State.companion_lanes (s : State) (r n : Nat) : (s.companion r n).lanes = s.lanes := by
  simp [State.companion]
@[simp] theorem State.record_lanes (s : State) (f : FaultReport) (real : Bool) : (s.record f real).lanes = s.lanes := by
  simp [State.record]
@[simp] theorem State.countFault_lanes (s : State) (f : FaultReport) : (s.countFault f).lanes = s.lanes := by
  simp [State.countFault]
@[simp] theorem State.unitRecorded_lanes (s : State) (f : FaultReport) : (s.unitRecorded f).lanes = s.lanes := by
  simp [State.unitRecorded]
@[simp] theorem State.log_lanes (s : State) (f : FaultReport) : (s.log f).lanes = s.lanes := by
  simp [State.log]
@[simp] theorem State.healthChanged_lanes (s : State) (n : Nat) : (s.healthChanged n).lanes = s.lanes := by
  simp [State.healthChanged]
@[simp] theorem State.beginRecovery_lanes (s : State) (n : Nat) : (s.beginRecovery n).lanes = s.lanes := by
  simp [State.beginRecovery]
@[simp] theorem State.endRecovery_lanes (s : State) (n : Nat) : (s.endRecovery n).lanes = s.lanes := by
  simp [State.endRecovery]
@[simp] theorem State.faultS1_lanes (s : State) (c n a : Nat) : (s.faultS1 c n a).lanes = s.lanes := by
  simp [State.faultS1]
@[simp] theorem State.noteS1_lanes (s : State) (c n a : Nat) : (s.noteS1 c n a).lanes = s.lanes := by
  simp [State.noteS1]
@[simp] theorem State.faultS2Unit_lanes (s : State) (c n a : Nat) : (s.faultS2Unit c n a).lanes = s.lanes := by
  simp [State.faultS2Unit]
@[simp] theorem State.accessError_lanes (s : State) (m x a : Nat) : (s.accessError m x a).lanes = s.lanes := by
  simp [State.accessError]

/-! ### mon -/

@[simp] theorem ite_mon (c : Prop) [Decidable c] (s t : State) :
    (if c then s else t).mon = if c then s.mon else t.mon := by split <;> rfl

@[simp] theorem foldl_mon {β : Type} (f : State → β → State) (h : ∀ s b, (f s b).mon = s.mon)
    (l : List β) (s : State) : (l.foldl f s).mon = s.mon := by
  induction l generalizing s with
  | nil => rfl
  | cons b l ih => rw [List.foldl_cons, ih, h]

@[simp] theorem State.bump64_mon (s : State) (lo hi : Fld) (i k : Nat) : (s.bump64 lo hi i k).mon = s.mon := by
  unfold State.bump64
  rw [State.wr_mon, State.wr_mon]
@[simp] theorem State.wrWords_mon (s : State) (F : Fld) (i : Nat) (ws : List Nat) : (s.wrWords F i ws).mon = s.mon := by
  unfold State.wrWords
  apply foldl_mon
  intro s x
  exact State.wr_mon _ _ _ _ _
@[simp] theorem State.capture_mon (s : State) (ns sec sech frac : Fld) (i j : Nat) : (s.capture ns sec sech frac i j).mon = s.mon := by
  unfold State.capture
  rw [State.wr_mon, State.wr_mon, State.wr_mon, State.wr_mon]
@[simp] theorem State.capture2_mon (s : State) (ns sec : Fld) (i : Nat) : (s.capture2 ns sec i).mon = s.mon := by
  unfold State.capture2
  rw [State.wr_mon, State.wr_mon]
@[simp] theorem State.beginResult_mon (s : State) (p : Page) (i : Nat) : (s.beginResult p i).mon = s.mon := by
  unfold State.beginResult
  rw [State.wr_mon, State.wr_mon]
@[simp] theorem State.landResult_mon (s : State) (p : Page) (i : Nat) : (s.landResult p i).mon = s.mon := by
  unfold State.landResult
  rw [State.wr_mon, State.wr_mon, State.wr_mon]
@[simp] theorem State.refreshPins_mon (s : State)  : s.refreshPins.mon = s.mon := by
  unfold State.refreshPins
  split <;> rfl
@[simp] theorem State.sendEvent_mon (s : State) (n : Nat) (v : Bool) : (s.sendEvent n v).mon = s.mon := by
  simp [State.sendEvent]
@[simp] theorem State.inbandDue_mon (s : State) (n : Nat) (v : Bool) : (s.inbandDue n v).mon = s.mon := by
  simp [State.inbandDue]
@[simp] theorem State.inbandChange_mon (s : State) (n : Nat) (v : Bool) : (s.inbandChange n v).mon = s.mon := by
  simp [State.inbandChange]
@[simp] theorem State.refreshSource_mon (s : State) (n : Nat) : (s.refreshSource n).mon = s.mon := by
  simp [State.refreshSource]
@[simp] theorem State.refreshPage_mon (s : State) (p : Page) (i : Nat) : (s.refreshPage p i).mon = s.mon := by
  simp [State.refreshPage]
@[simp] theorem State.edges_mon (s : State) (p : Page) (i m : Nat) : (s.edges p i m).mon = s.mon := by
  simp [State.edges]
@[simp] theorem State.pulse_mon (s : State) (p : Page) (i b : Nat) : (s.pulse p i b).mon = s.mon := by
  simp [State.pulse]
@[simp] theorem State.cond_mon (s : State) (p : Page) (i b : Nat) (on : Bool) : (s.cond p i b on).mon = s.mon := by
  simp [State.cond]
@[simp] theorem State.placeRecord_mon (s : State) (r : Nat) (f : FaultReport) (real : Bool) : (s.placeRecord r f real).mon = s.mon := by
  unfold State.placeRecord
  dsimp only
  rw [State.modFault_mon, State.wrWords_mon, State.capture_mon, State.wr_mon, State.wr_mon, State.wr_mon, State.wr_mon, State.wr_mon, State.wr_mon, State.wr_mon, State.wr_mon, State.wr_mon, State.wr_mon, State.wr_mon]
@[simp] theorem State.companion_mon (s : State) (r n : Nat) : (s.companion r n).mon = s.mon := by
  simp [State.companion]
@[simp] theorem State.record_mon (s : State) (f : FaultReport) (real : Bool) : (s.record f real).mon = s.mon := by
  simp [State.record]
@[simp] theorem State.countFault_mon (s : State) (f : FaultReport) : (s.countFault f).mon = s.mon := by
  simp [State.countFault]
@[simp] theorem State.unitRecorded_mon (s : State) (f : FaultReport) : (s.unitRecorded f).mon = s.mon := by
  simp [State.unitRecorded]
@[simp] theorem State.log_mon (s : State) (f : FaultReport) : (s.log f).mon = s.mon := by
  simp [State.log]
@[simp] theorem State.healthChanged_mon (s : State) (n : Nat) : (s.healthChanged n).mon = s.mon := by
  simp [State.healthChanged]
@[simp] theorem State.beginRecovery_mon (s : State) (n : Nat) : (s.beginRecovery n).mon = s.mon := by
  simp [State.beginRecovery]
@[simp] theorem State.endRecovery_mon (s : State) (n : Nat) : (s.endRecovery n).mon = s.mon := by
  simp [State.endRecovery]
@[simp] theorem State.faultS1_mon (s : State) (c n a : Nat) : (s.faultS1 c n a).mon = s.mon := by
  simp [State.faultS1]
@[simp] theorem State.noteS1_mon (s : State) (c n a : Nat) : (s.noteS1 c n a).mon = s.mon := by
  simp [State.noteS1]
@[simp] theorem State.faultS2Unit_mon (s : State) (c n a : Nat) : (s.faultS2Unit c n a).mon = s.mon := by
  simp [State.faultS2Unit]
@[simp] theorem State.accessError_mon (s : State) (m x a : Nat) : (s.accessError m x a).mon = s.mon := by
  simp [State.accessError]

/-! ### refl -/

@[simp] theorem ite_refl (c : Prop) [Decidable c] (s t : State) :
    (if c then s else t).refl = if c then s.refl else t.refl := by split <;> rfl

@[simp] theorem foldl_refl {β : Type} (f : State → β → State) (h : ∀ s b, (f s b).refl = s.refl)
    (l : List β) (s : State) : (l.foldl f s).refl = s.refl := by
  induction l generalizing s with
  | nil => rfl
  | cons b l ih => rw [List.foldl_cons, ih, h]

@[simp] theorem State.bump64_refl (s : State) (lo hi : Fld) (i k : Nat) : (s.bump64 lo hi i k).refl = s.refl := by
  unfold State.bump64
  rw [State.wr_refl, State.wr_refl]
@[simp] theorem State.wrWords_refl (s : State) (F : Fld) (i : Nat) (ws : List Nat) : (s.wrWords F i ws).refl = s.refl := by
  unfold State.wrWords
  apply foldl_refl
  intro s x
  exact State.wr_refl _ _ _ _ _
@[simp] theorem State.capture_refl (s : State) (ns sec sech frac : Fld) (i j : Nat) : (s.capture ns sec sech frac i j).refl = s.refl := by
  unfold State.capture
  rw [State.wr_refl, State.wr_refl, State.wr_refl, State.wr_refl]
@[simp] theorem State.capture2_refl (s : State) (ns sec : Fld) (i : Nat) : (s.capture2 ns sec i).refl = s.refl := by
  unfold State.capture2
  rw [State.wr_refl, State.wr_refl]
@[simp] theorem State.beginResult_refl (s : State) (p : Page) (i : Nat) : (s.beginResult p i).refl = s.refl := by
  unfold State.beginResult
  rw [State.wr_refl, State.wr_refl]
@[simp] theorem State.landResult_refl (s : State) (p : Page) (i : Nat) : (s.landResult p i).refl = s.refl := by
  unfold State.landResult
  rw [State.wr_refl, State.wr_refl, State.wr_refl]
@[simp] theorem State.refreshPins_refl (s : State)  : s.refreshPins.refl = s.refl := by
  unfold State.refreshPins
  split <;> rfl
@[simp] theorem State.sendEvent_refl (s : State) (n : Nat) (v : Bool) : (s.sendEvent n v).refl = s.refl := by
  simp [State.sendEvent]
@[simp] theorem State.inbandDue_refl (s : State) (n : Nat) (v : Bool) : (s.inbandDue n v).refl = s.refl := by
  simp [State.inbandDue]
@[simp] theorem State.inbandChange_refl (s : State) (n : Nat) (v : Bool) : (s.inbandChange n v).refl = s.refl := by
  simp [State.inbandChange]
@[simp] theorem State.refreshSource_refl (s : State) (n : Nat) : (s.refreshSource n).refl = s.refl := by
  simp [State.refreshSource]
@[simp] theorem State.refreshPage_refl (s : State) (p : Page) (i : Nat) : (s.refreshPage p i).refl = s.refl := by
  simp [State.refreshPage]
@[simp] theorem State.edges_refl (s : State) (p : Page) (i m : Nat) : (s.edges p i m).refl = s.refl := by
  simp [State.edges]
@[simp] theorem State.pulse_refl (s : State) (p : Page) (i b : Nat) : (s.pulse p i b).refl = s.refl := by
  simp [State.pulse]
@[simp] theorem State.cond_refl (s : State) (p : Page) (i b : Nat) (on : Bool) : (s.cond p i b on).refl = s.refl := by
  simp [State.cond]
@[simp] theorem State.placeRecord_refl (s : State) (r : Nat) (f : FaultReport) (real : Bool) : (s.placeRecord r f real).refl = s.refl := by
  unfold State.placeRecord
  dsimp only
  rw [State.modFault_refl, State.wrWords_refl, State.capture_refl, State.wr_refl, State.wr_refl, State.wr_refl, State.wr_refl, State.wr_refl, State.wr_refl, State.wr_refl, State.wr_refl, State.wr_refl, State.wr_refl, State.wr_refl]
@[simp] theorem State.companion_refl (s : State) (r n : Nat) : (s.companion r n).refl = s.refl := by
  simp [State.companion]
@[simp] theorem State.record_refl (s : State) (f : FaultReport) (real : Bool) : (s.record f real).refl = s.refl := by
  simp [State.record]
@[simp] theorem State.countFault_refl (s : State) (f : FaultReport) : (s.countFault f).refl = s.refl := by
  simp [State.countFault]
@[simp] theorem State.unitRecorded_refl (s : State) (f : FaultReport) : (s.unitRecorded f).refl = s.refl := by
  simp [State.unitRecorded]
@[simp] theorem State.log_refl (s : State) (f : FaultReport) : (s.log f).refl = s.refl := by
  simp [State.log]
@[simp] theorem State.healthChanged_refl (s : State) (n : Nat) : (s.healthChanged n).refl = s.refl := by
  simp [State.healthChanged]
@[simp] theorem State.beginRecovery_refl (s : State) (n : Nat) : (s.beginRecovery n).refl = s.refl := by
  simp [State.beginRecovery]
@[simp] theorem State.endRecovery_refl (s : State) (n : Nat) : (s.endRecovery n).refl = s.refl := by
  simp [State.endRecovery]
@[simp] theorem State.faultS1_refl (s : State) (c n a : Nat) : (s.faultS1 c n a).refl = s.refl := by
  simp [State.faultS1]
@[simp] theorem State.noteS1_refl (s : State) (c n a : Nat) : (s.noteS1 c n a).refl = s.refl := by
  simp [State.noteS1]
@[simp] theorem State.faultS2Unit_refl (s : State) (c n a : Nat) : (s.faultS2Unit c n a).refl = s.refl := by
  simp [State.faultS2Unit]
@[simp] theorem State.accessError_refl (s : State) (m x a : Nat) : (s.accessError m x a).refl = s.refl := by
  simp [State.accessError]

/-! ### cal -/

@[simp] theorem ite_cal (c : Prop) [Decidable c] (s t : State) :
    (if c then s else t).cal = if c then s.cal else t.cal := by split <;> rfl

@[simp] theorem foldl_cal {β : Type} (f : State → β → State) (h : ∀ s b, (f s b).cal = s.cal)
    (l : List β) (s : State) : (l.foldl f s).cal = s.cal := by
  induction l generalizing s with
  | nil => rfl
  | cons b l ih => rw [List.foldl_cons, ih, h]

@[simp] theorem State.bump64_cal (s : State) (lo hi : Fld) (i k : Nat) : (s.bump64 lo hi i k).cal = s.cal := by
  unfold State.bump64
  rw [State.wr_cal, State.wr_cal]
@[simp] theorem State.wrWords_cal (s : State) (F : Fld) (i : Nat) (ws : List Nat) : (s.wrWords F i ws).cal = s.cal := by
  unfold State.wrWords
  apply foldl_cal
  intro s x
  exact State.wr_cal _ _ _ _ _
@[simp] theorem State.capture_cal (s : State) (ns sec sech frac : Fld) (i j : Nat) : (s.capture ns sec sech frac i j).cal = s.cal := by
  unfold State.capture
  rw [State.wr_cal, State.wr_cal, State.wr_cal, State.wr_cal]
@[simp] theorem State.capture2_cal (s : State) (ns sec : Fld) (i : Nat) : (s.capture2 ns sec i).cal = s.cal := by
  unfold State.capture2
  rw [State.wr_cal, State.wr_cal]
@[simp] theorem State.beginResult_cal (s : State) (p : Page) (i : Nat) : (s.beginResult p i).cal = s.cal := by
  unfold State.beginResult
  rw [State.wr_cal, State.wr_cal]
@[simp] theorem State.landResult_cal (s : State) (p : Page) (i : Nat) : (s.landResult p i).cal = s.cal := by
  unfold State.landResult
  rw [State.wr_cal, State.wr_cal, State.wr_cal]
@[simp] theorem State.refreshPins_cal (s : State)  : s.refreshPins.cal = s.cal := by
  unfold State.refreshPins
  split <;> rfl
@[simp] theorem State.sendEvent_cal (s : State) (n : Nat) (v : Bool) : (s.sendEvent n v).cal = s.cal := by
  simp [State.sendEvent]
@[simp] theorem State.inbandDue_cal (s : State) (n : Nat) (v : Bool) : (s.inbandDue n v).cal = s.cal := by
  simp [State.inbandDue]
@[simp] theorem State.inbandChange_cal (s : State) (n : Nat) (v : Bool) : (s.inbandChange n v).cal = s.cal := by
  simp [State.inbandChange]
@[simp] theorem State.refreshSource_cal (s : State) (n : Nat) : (s.refreshSource n).cal = s.cal := by
  simp [State.refreshSource]
@[simp] theorem State.refreshPage_cal (s : State) (p : Page) (i : Nat) : (s.refreshPage p i).cal = s.cal := by
  simp [State.refreshPage]
@[simp] theorem State.edges_cal (s : State) (p : Page) (i m : Nat) : (s.edges p i m).cal = s.cal := by
  simp [State.edges]
@[simp] theorem State.pulse_cal (s : State) (p : Page) (i b : Nat) : (s.pulse p i b).cal = s.cal := by
  simp [State.pulse]
@[simp] theorem State.cond_cal (s : State) (p : Page) (i b : Nat) (on : Bool) : (s.cond p i b on).cal = s.cal := by
  simp [State.cond]
@[simp] theorem State.placeRecord_cal (s : State) (r : Nat) (f : FaultReport) (real : Bool) : (s.placeRecord r f real).cal = s.cal := by
  unfold State.placeRecord
  dsimp only
  rw [State.modFault_cal, State.wrWords_cal, State.capture_cal, State.wr_cal, State.wr_cal, State.wr_cal, State.wr_cal, State.wr_cal, State.wr_cal, State.wr_cal, State.wr_cal, State.wr_cal, State.wr_cal, State.wr_cal]
@[simp] theorem State.companion_cal (s : State) (r n : Nat) : (s.companion r n).cal = s.cal := by
  simp [State.companion]
@[simp] theorem State.record_cal (s : State) (f : FaultReport) (real : Bool) : (s.record f real).cal = s.cal := by
  simp [State.record]
@[simp] theorem State.countFault_cal (s : State) (f : FaultReport) : (s.countFault f).cal = s.cal := by
  simp [State.countFault]
@[simp] theorem State.unitRecorded_cal (s : State) (f : FaultReport) : (s.unitRecorded f).cal = s.cal := by
  simp [State.unitRecorded]
@[simp] theorem State.log_cal (s : State) (f : FaultReport) : (s.log f).cal = s.cal := by
  simp [State.log]
@[simp] theorem State.healthChanged_cal (s : State) (n : Nat) : (s.healthChanged n).cal = s.cal := by
  simp [State.healthChanged]
@[simp] theorem State.beginRecovery_cal (s : State) (n : Nat) : (s.beginRecovery n).cal = s.cal := by
  simp [State.beginRecovery]
@[simp] theorem State.endRecovery_cal (s : State) (n : Nat) : (s.endRecovery n).cal = s.cal := by
  simp [State.endRecovery]
@[simp] theorem State.faultS1_cal (s : State) (c n a : Nat) : (s.faultS1 c n a).cal = s.cal := by
  simp [State.faultS1]
@[simp] theorem State.noteS1_cal (s : State) (c n a : Nat) : (s.noteS1 c n a).cal = s.cal := by
  simp [State.noteS1]
@[simp] theorem State.faultS2Unit_cal (s : State) (c n a : Nat) : (s.faultS2Unit c n a).cal = s.cal := by
  simp [State.faultS2Unit]
@[simp] theorem State.accessError_cal (s : State) (m x a : Nat) : (s.accessError m x a).cal = s.cal := by
  simp [State.accessError]

/-! ### reach -/

@[simp] theorem ite_reach (c : Prop) [Decidable c] (s t : State) :
    (if c then s else t).reach = if c then s.reach else t.reach := by split <;> rfl

@[simp] theorem foldl_reach {β : Type} (f : State → β → State) (h : ∀ s b, (f s b).reach = s.reach)
    (l : List β) (s : State) : (l.foldl f s).reach = s.reach := by
  induction l generalizing s with
  | nil => rfl
  | cons b l ih => rw [List.foldl_cons, ih, h]

@[simp] theorem State.bump64_reach (s : State) (lo hi : Fld) (i k : Nat) : (s.bump64 lo hi i k).reach = s.reach := by
  unfold State.bump64
  rw [State.wr_reach, State.wr_reach]
@[simp] theorem State.wrWords_reach (s : State) (F : Fld) (i : Nat) (ws : List Nat) : (s.wrWords F i ws).reach = s.reach := by
  unfold State.wrWords
  apply foldl_reach
  intro s x
  exact State.wr_reach _ _ _ _ _
@[simp] theorem State.capture_reach (s : State) (ns sec sech frac : Fld) (i j : Nat) : (s.capture ns sec sech frac i j).reach = s.reach := by
  unfold State.capture
  rw [State.wr_reach, State.wr_reach, State.wr_reach, State.wr_reach]
@[simp] theorem State.capture2_reach (s : State) (ns sec : Fld) (i : Nat) : (s.capture2 ns sec i).reach = s.reach := by
  unfold State.capture2
  rw [State.wr_reach, State.wr_reach]
@[simp] theorem State.beginResult_reach (s : State) (p : Page) (i : Nat) : (s.beginResult p i).reach = s.reach := by
  unfold State.beginResult
  rw [State.wr_reach, State.wr_reach]
@[simp] theorem State.landResult_reach (s : State) (p : Page) (i : Nat) : (s.landResult p i).reach = s.reach := by
  unfold State.landResult
  rw [State.wr_reach, State.wr_reach, State.wr_reach]
@[simp] theorem State.refreshPins_reach (s : State)  : s.refreshPins.reach = s.reach := by
  unfold State.refreshPins
  split <;> rfl
@[simp] theorem State.sendEvent_reach (s : State) (n : Nat) (v : Bool) : (s.sendEvent n v).reach = s.reach := by
  simp [State.sendEvent]
@[simp] theorem State.inbandDue_reach (s : State) (n : Nat) (v : Bool) : (s.inbandDue n v).reach = s.reach := by
  simp [State.inbandDue]
@[simp] theorem State.inbandChange_reach (s : State) (n : Nat) (v : Bool) : (s.inbandChange n v).reach = s.reach := by
  simp [State.inbandChange]
@[simp] theorem State.refreshSource_reach (s : State) (n : Nat) : (s.refreshSource n).reach = s.reach := by
  simp [State.refreshSource]
@[simp] theorem State.refreshPage_reach (s : State) (p : Page) (i : Nat) : (s.refreshPage p i).reach = s.reach := by
  simp [State.refreshPage]
@[simp] theorem State.edges_reach (s : State) (p : Page) (i m : Nat) : (s.edges p i m).reach = s.reach := by
  simp [State.edges]
@[simp] theorem State.pulse_reach (s : State) (p : Page) (i b : Nat) : (s.pulse p i b).reach = s.reach := by
  simp [State.pulse]
@[simp] theorem State.cond_reach (s : State) (p : Page) (i b : Nat) (on : Bool) : (s.cond p i b on).reach = s.reach := by
  simp [State.cond]
@[simp] theorem State.placeRecord_reach (s : State) (r : Nat) (f : FaultReport) (real : Bool) : (s.placeRecord r f real).reach = s.reach := by
  unfold State.placeRecord
  dsimp only
  rw [State.modFault_reach, State.wrWords_reach, State.capture_reach, State.wr_reach, State.wr_reach, State.wr_reach, State.wr_reach, State.wr_reach, State.wr_reach, State.wr_reach, State.wr_reach, State.wr_reach, State.wr_reach, State.wr_reach]
@[simp] theorem State.companion_reach (s : State) (r n : Nat) : (s.companion r n).reach = s.reach := by
  simp [State.companion]
@[simp] theorem State.record_reach (s : State) (f : FaultReport) (real : Bool) : (s.record f real).reach = s.reach := by
  simp [State.record]
@[simp] theorem State.countFault_reach (s : State) (f : FaultReport) : (s.countFault f).reach = s.reach := by
  simp [State.countFault]
@[simp] theorem State.unitRecorded_reach (s : State) (f : FaultReport) : (s.unitRecorded f).reach = s.reach := by
  simp [State.unitRecorded]
@[simp] theorem State.log_reach (s : State) (f : FaultReport) : (s.log f).reach = s.reach := by
  simp [State.log]
@[simp] theorem State.healthChanged_reach (s : State) (n : Nat) : (s.healthChanged n).reach = s.reach := by
  simp [State.healthChanged]
@[simp] theorem State.beginRecovery_reach (s : State) (n : Nat) : (s.beginRecovery n).reach = s.reach := by
  simp [State.beginRecovery]
@[simp] theorem State.endRecovery_reach (s : State) (n : Nat) : (s.endRecovery n).reach = s.reach := by
  simp [State.endRecovery]
@[simp] theorem State.faultS1_reach (s : State) (c n a : Nat) : (s.faultS1 c n a).reach = s.reach := by
  simp [State.faultS1]
@[simp] theorem State.noteS1_reach (s : State) (c n a : Nat) : (s.noteS1 c n a).reach = s.reach := by
  simp [State.noteS1]
@[simp] theorem State.faultS2Unit_reach (s : State) (c n a : Nat) : (s.faultS2Unit c n a).reach = s.reach := by
  simp [State.faultS2Unit]
@[simp] theorem State.accessError_reach (s : State) (m x a : Nat) : (s.accessError m x a).reach = s.reach := by
  simp [State.accessError]

/-! ### std -/

@[simp] theorem ite_std (c : Prop) [Decidable c] (s t : State) :
    (if c then s else t).std = if c then s.std else t.std := by split <;> rfl

@[simp] theorem foldl_std {β : Type} (f : State → β → State) (h : ∀ s b, (f s b).std = s.std)
    (l : List β) (s : State) : (l.foldl f s).std = s.std := by
  induction l generalizing s with
  | nil => rfl
  | cons b l ih => rw [List.foldl_cons, ih, h]

@[simp] theorem State.bump64_std (s : State) (lo hi : Fld) (i k : Nat) : (s.bump64 lo hi i k).std = s.std := by
  unfold State.bump64
  rw [State.wr_std, State.wr_std]
@[simp] theorem State.wrWords_std (s : State) (F : Fld) (i : Nat) (ws : List Nat) : (s.wrWords F i ws).std = s.std := by
  unfold State.wrWords
  apply foldl_std
  intro s x
  exact State.wr_std _ _ _ _ _
@[simp] theorem State.capture_std (s : State) (ns sec sech frac : Fld) (i j : Nat) : (s.capture ns sec sech frac i j).std = s.std := by
  unfold State.capture
  rw [State.wr_std, State.wr_std, State.wr_std, State.wr_std]
@[simp] theorem State.capture2_std (s : State) (ns sec : Fld) (i : Nat) : (s.capture2 ns sec i).std = s.std := by
  unfold State.capture2
  rw [State.wr_std, State.wr_std]
@[simp] theorem State.beginResult_std (s : State) (p : Page) (i : Nat) : (s.beginResult p i).std = s.std := by
  unfold State.beginResult
  rw [State.wr_std, State.wr_std]
@[simp] theorem State.landResult_std (s : State) (p : Page) (i : Nat) : (s.landResult p i).std = s.std := by
  unfold State.landResult
  rw [State.wr_std, State.wr_std, State.wr_std]
@[simp] theorem State.refreshPins_std (s : State)  : s.refreshPins.std = s.std := by
  unfold State.refreshPins
  split <;> rfl
@[simp] theorem State.sendEvent_std (s : State) (n : Nat) (v : Bool) : (s.sendEvent n v).std = s.std := by
  simp [State.sendEvent]
@[simp] theorem State.inbandDue_std (s : State) (n : Nat) (v : Bool) : (s.inbandDue n v).std = s.std := by
  simp [State.inbandDue]
@[simp] theorem State.inbandChange_std (s : State) (n : Nat) (v : Bool) : (s.inbandChange n v).std = s.std := by
  simp [State.inbandChange]
@[simp] theorem State.refreshSource_std (s : State) (n : Nat) : (s.refreshSource n).std = s.std := by
  simp [State.refreshSource]
@[simp] theorem State.refreshPage_std (s : State) (p : Page) (i : Nat) : (s.refreshPage p i).std = s.std := by
  simp [State.refreshPage]
@[simp] theorem State.edges_std (s : State) (p : Page) (i m : Nat) : (s.edges p i m).std = s.std := by
  simp [State.edges]
@[simp] theorem State.pulse_std (s : State) (p : Page) (i b : Nat) : (s.pulse p i b).std = s.std := by
  simp [State.pulse]
@[simp] theorem State.cond_std (s : State) (p : Page) (i b : Nat) (on : Bool) : (s.cond p i b on).std = s.std := by
  simp [State.cond]
@[simp] theorem State.placeRecord_std (s : State) (r : Nat) (f : FaultReport) (real : Bool) : (s.placeRecord r f real).std = s.std := by
  unfold State.placeRecord
  dsimp only
  rw [State.modFault_std, State.wrWords_std, State.capture_std, State.wr_std, State.wr_std, State.wr_std, State.wr_std, State.wr_std, State.wr_std, State.wr_std, State.wr_std, State.wr_std, State.wr_std, State.wr_std]
@[simp] theorem State.companion_std (s : State) (r n : Nat) : (s.companion r n).std = s.std := by
  simp [State.companion]
@[simp] theorem State.record_std (s : State) (f : FaultReport) (real : Bool) : (s.record f real).std = s.std := by
  simp [State.record]
@[simp] theorem State.countFault_std (s : State) (f : FaultReport) : (s.countFault f).std = s.std := by
  simp [State.countFault]
@[simp] theorem State.unitRecorded_std (s : State) (f : FaultReport) : (s.unitRecorded f).std = s.std := by
  simp [State.unitRecorded]
@[simp] theorem State.log_std (s : State) (f : FaultReport) : (s.log f).std = s.std := by
  simp [State.log]
@[simp] theorem State.healthChanged_std (s : State) (n : Nat) : (s.healthChanged n).std = s.std := by
  simp [State.healthChanged]
@[simp] theorem State.beginRecovery_std (s : State) (n : Nat) : (s.beginRecovery n).std = s.std := by
  simp [State.beginRecovery]
@[simp] theorem State.endRecovery_std (s : State) (n : Nat) : (s.endRecovery n).std = s.std := by
  simp [State.endRecovery]
@[simp] theorem State.faultS1_std (s : State) (c n a : Nat) : (s.faultS1 c n a).std = s.std := by
  simp [State.faultS1]
@[simp] theorem State.noteS1_std (s : State) (c n a : Nat) : (s.noteS1 c n a).std = s.std := by
  simp [State.noteS1]
@[simp] theorem State.faultS2Unit_std (s : State) (c n a : Nat) : (s.faultS2Unit c n a).std = s.std := by
  simp [State.faultS2Unit]
@[simp] theorem State.accessError_std (s : State) (m x a : Nat) : (s.accessError m x a).std = s.std := by
  simp [State.accessError]

/-! ### xe -/

@[simp] theorem ite_xe (c : Prop) [Decidable c] (s t : State) :
    (if c then s else t).xe = if c then s.xe else t.xe := by split <;> rfl

@[simp] theorem foldl_xe {β : Type} (f : State → β → State) (h : ∀ s b, (f s b).xe = s.xe)
    (l : List β) (s : State) : (l.foldl f s).xe = s.xe := by
  induction l generalizing s with
  | nil => rfl
  | cons b l ih => rw [List.foldl_cons, ih, h]

@[simp] theorem State.bump64_xe (s : State) (lo hi : Fld) (i k : Nat) : (s.bump64 lo hi i k).xe = s.xe := by
  unfold State.bump64
  rw [State.wr_xe, State.wr_xe]
@[simp] theorem State.wrWords_xe (s : State) (F : Fld) (i : Nat) (ws : List Nat) : (s.wrWords F i ws).xe = s.xe := by
  unfold State.wrWords
  apply foldl_xe
  intro s x
  exact State.wr_xe _ _ _ _ _
@[simp] theorem State.capture_xe (s : State) (ns sec sech frac : Fld) (i j : Nat) : (s.capture ns sec sech frac i j).xe = s.xe := by
  unfold State.capture
  rw [State.wr_xe, State.wr_xe, State.wr_xe, State.wr_xe]
@[simp] theorem State.capture2_xe (s : State) (ns sec : Fld) (i : Nat) : (s.capture2 ns sec i).xe = s.xe := by
  unfold State.capture2
  rw [State.wr_xe, State.wr_xe]
@[simp] theorem State.beginResult_xe (s : State) (p : Page) (i : Nat) : (s.beginResult p i).xe = s.xe := by
  unfold State.beginResult
  rw [State.wr_xe, State.wr_xe]
@[simp] theorem State.landResult_xe (s : State) (p : Page) (i : Nat) : (s.landResult p i).xe = s.xe := by
  unfold State.landResult
  rw [State.wr_xe, State.wr_xe, State.wr_xe]
@[simp] theorem State.refreshPins_xe (s : State)  : s.refreshPins.xe = s.xe := by
  unfold State.refreshPins
  split <;> rfl
@[simp] theorem State.sendEvent_xe (s : State) (n : Nat) (v : Bool) : (s.sendEvent n v).xe = s.xe := by
  simp [State.sendEvent]
@[simp] theorem State.inbandDue_xe (s : State) (n : Nat) (v : Bool) : (s.inbandDue n v).xe = s.xe := by
  simp [State.inbandDue]
@[simp] theorem State.inbandChange_xe (s : State) (n : Nat) (v : Bool) : (s.inbandChange n v).xe = s.xe := by
  simp [State.inbandChange]
@[simp] theorem State.refreshSource_xe (s : State) (n : Nat) : (s.refreshSource n).xe = s.xe := by
  simp [State.refreshSource]
@[simp] theorem State.refreshPage_xe (s : State) (p : Page) (i : Nat) : (s.refreshPage p i).xe = s.xe := by
  simp [State.refreshPage]
@[simp] theorem State.edges_xe (s : State) (p : Page) (i m : Nat) : (s.edges p i m).xe = s.xe := by
  simp [State.edges]
@[simp] theorem State.pulse_xe (s : State) (p : Page) (i b : Nat) : (s.pulse p i b).xe = s.xe := by
  simp [State.pulse]
@[simp] theorem State.cond_xe (s : State) (p : Page) (i b : Nat) (on : Bool) : (s.cond p i b on).xe = s.xe := by
  simp [State.cond]
@[simp] theorem State.placeRecord_xe (s : State) (r : Nat) (f : FaultReport) (real : Bool) : (s.placeRecord r f real).xe = s.xe := by
  unfold State.placeRecord
  dsimp only
  rw [State.modFault_xe, State.wrWords_xe, State.capture_xe, State.wr_xe, State.wr_xe, State.wr_xe, State.wr_xe, State.wr_xe, State.wr_xe, State.wr_xe, State.wr_xe, State.wr_xe, State.wr_xe, State.wr_xe]
@[simp] theorem State.companion_xe (s : State) (r n : Nat) : (s.companion r n).xe = s.xe := by
  simp [State.companion]
@[simp] theorem State.record_xe (s : State) (f : FaultReport) (real : Bool) : (s.record f real).xe = s.xe := by
  simp [State.record]
@[simp] theorem State.countFault_xe (s : State) (f : FaultReport) : (s.countFault f).xe = s.xe := by
  simp [State.countFault]
@[simp] theorem State.unitRecorded_xe (s : State) (f : FaultReport) : (s.unitRecorded f).xe = s.xe := by
  simp [State.unitRecorded]
@[simp] theorem State.log_xe (s : State) (f : FaultReport) : (s.log f).xe = s.xe := by
  simp [State.log]
@[simp] theorem State.healthChanged_xe (s : State) (n : Nat) : (s.healthChanged n).xe = s.xe := by
  simp [State.healthChanged]
@[simp] theorem State.beginRecovery_xe (s : State) (n : Nat) : (s.beginRecovery n).xe = s.xe := by
  simp [State.beginRecovery]
@[simp] theorem State.endRecovery_xe (s : State) (n : Nat) : (s.endRecovery n).xe = s.xe := by
  simp [State.endRecovery]
@[simp] theorem State.faultS1_xe (s : State) (c n a : Nat) : (s.faultS1 c n a).xe = s.xe := by
  simp [State.faultS1]
@[simp] theorem State.noteS1_xe (s : State) (c n a : Nat) : (s.noteS1 c n a).xe = s.xe := by
  simp [State.noteS1]
@[simp] theorem State.faultS2Unit_xe (s : State) (c n a : Nat) : (s.faultS2Unit c n a).xe = s.xe := by
  simp [State.faultS2Unit]
@[simp] theorem State.accessError_xe (s : State) (m x a : Nat) : (s.accessError m x a).xe = s.xe := by
  simp [State.accessError]

/-! ### Registers -/

theorem bit_eq_testBit (n i : Nat) : bit n i = n.testBit i := by
  rw [Nat.testBit_eq_decide_div_mod_eq]
  rfl

/-- The fields that event conditions write: RAW, PEND and COUNT of every page, and IB_SENT. -/
def Fld.event (F : Fld) : Bool :=
  F.id % 2048 == 119 || (decide (768 ≤ F.id % 2048) &&
    (F.id % 32 == 10 || F.id % 32 == 12 || F.id % 32 == 15))

/-- The fields that a fault record writes: the record, its companions and the class counters. -/
def Fld.faulty (F : Fld) : Bool := F.id % 2048 == 82 || (decide (91 ≤ F.id % 2048) && decide (F.id % 2048 ≤ 107))

theorem State.g_wr_of_event {F G : Fld} (hF : F.event = true) (hG : G.event = false) (s : State) (v i j a b : Nat) :
    (s.wr F v i j).g G a b = s.g G a b := by
  refine State.g_wr_of_id (fun e => ?_) s v i j a b
  have h32 : G.id % 32 = F.id % 32 := by omega
  unfold Fld.event at hF hG
  rw [e, h32, hF] at hG
  cases hG

theorem State.g_wr_of_faulty {F G : Fld} (hF : F.faulty = true) (hG : G.faulty = false) (s : State) (v i j a b : Nat) :
    (s.wr F v i j).g G a b = s.g G a b := by
  refine State.g_wr_of_id (fun e => ?_) s v i j a b
  unfold Fld.faulty at hF hG
  rw [e, hF] at hG
  cases hG

theorem pend_event (p : Page) : (HDR.EVT_PEND.PEND p).event = true := by cases p <;> rfl
theorem raw_event (p : Page) : (HDR.EVT_RAW.RAW p).event = true := by cases p <;> rfl
theorem count_event (p : Page) : (HDR.EVT_COUNT.COUNT p).event = true := by cases p <;> rfl

@[simp] theorem ite_g (c : Prop) [Decidable c] (s t : State) (G : Fld) (a b : Nat) :
    (if c then s else t).g G a b = if c then s.g G a b else t.g G a b := by split <;> rfl

theorem foldl_g {β : Type} (G : Fld) (a b : Nat) (f : State → β → State) (h : ∀ s x, (f s x).g G a b = s.g G a b)
    (l : List β) (s : State) : (l.foldl f s).g G a b = s.g G a b := by
  induction l generalizing s with
  | nil => rfl
  | cons x l ih => rw [List.foldl_cons, ih, h]

@[simp] theorem State.refreshPins_g (s : State) (G : Fld) (a b : Nat) : s.refreshPins.g G a b = s.g G a b := by
  unfold State.refreshPins
  split <;> rfl

theorem State.sendEvent_g {G : Fld} (hG : G.event = false) (s : State) (n : Nat) (v : Bool) (a b : Nat) :
    (s.sendEvent n v).g G a b = s.g G a b := by
  unfold State.sendEvent
  dsimp only
  split
  · rfl
  · exact State.g_wr_of_event rfl hG _ _ _ _ _ _

theorem State.inbandDue_g {G : Fld} (hG : G.event = false) (s : State) (n : Nat) (v : Bool) (a b : Nat) :
    (s.inbandDue n v).g G a b = s.g G a b := by
  unfold State.inbandDue
  dsimp only
  split
  · split
    · rfl
    · split
      · exact State.sendEvent_g hG _ _ _ _ _
      · exact State.sendEvent_g hG _ _ _ _ _
  · rfl

theorem State.inbandChange_g {G : Fld} (hG : G.event = false) (s : State) (n : Nat) (v : Bool) (a b : Nat) :
    (s.inbandChange n v).g G a b = s.g G a b := by
  unfold State.inbandChange
  exact State.inbandDue_g hG _ _ _ _ _

theorem State.refreshSource_g {G : Fld} (hG : G.event = false) (s : State) (n a b : Nat) :
    (s.refreshSource n).g G a b = s.g G a b := by
  unfold State.refreshSource
  dsimp only
  split
  · rfl
  · rw [State.refreshPins_g]
    exact State.inbandChange_g hG _ _ _ _ _

theorem State.refreshPage_g {G : Fld} (hG : G.event = false) (s : State) (p : Page) (i a b : Nat) :
    (s.refreshPage p i).g G a b = s.g G a b := by
  unfold State.refreshPage
  dsimp only
  split
  · rw [State.refreshSource_g hG, State.refreshSource_g hG]
  · exact State.refreshSource_g hG _ _ _ _

theorem State.edges_g {G : Fld} (hG : G.event = false) (s : State) (p : Page) (i m a b : Nat) :
    (s.edges p i m).g G a b = s.g G a b := by
  unfold State.edges
  dsimp only
  split
  · rfl
  · rw [State.refreshPage_g hG]
    unfold State.bump
    rw [State.g_wr_of_event (count_event p) hG, State.g_wr_of_event (pend_event p) hG]

theorem State.pulse_g {G : Fld} (hG : G.event = false) (s : State) (p : Page) (i n a b : Nat) :
    (s.pulse p i n).g G a b = s.g G a b := State.edges_g hG _ _ _ _ _ _

theorem State.cond_g {G : Fld} (hG : G.event = false) (s : State) (p : Page) (i n : Nat) (on : Bool) (a b : Nat) :
    (s.cond p i n on).g G a b = s.g G a b := by
  unfold State.cond
  dsimp only
  split
  · rfl
  · split
    · rw [State.edges_g hG, State.g_wr_of_event (raw_event p) hG]
    · exact State.g_wr_of_event (raw_event p) hG _ _ _ _ _ _

/-- No refresh of an event source or a pin writes PEND or COUNT of a page. -/
theorem State.sendEvent_evt (s : State) (n : Nat) (v : Bool) (G : Fld) (hG : G.id % 2048 ≠ 119) (a b : Nat) :
    (s.sendEvent n v).g G a b = s.g G a b := by
  unfold State.sendEvent
  dsimp only
  split
  · rfl
  · exact State.g_wr_of_id hG _ _ _ _ _ _

theorem State.inbandDue_evt (s : State) (n : Nat) (v : Bool) (G : Fld) (hG : G.id % 2048 ≠ 119) (a b : Nat) :
    (s.inbandDue n v).g G a b = s.g G a b := by
  unfold State.inbandDue
  dsimp only
  split
  · split
    · rfl
    · split
      · exact State.sendEvent_evt _ _ _ _ hG _ _
      · exact State.sendEvent_evt _ _ _ _ hG _ _
  · rfl

theorem State.inbandChange_evt (s : State) (n : Nat) (v : Bool) (G : Fld) (hG : G.id % 2048 ≠ 119) (a b : Nat) :
    (s.inbandChange n v).g G a b = s.g G a b := by
  unfold State.inbandChange
  exact State.inbandDue_evt _ _ _ _ hG _ _

theorem State.refreshSource_evt (s : State) (n : Nat) (G : Fld) (hG : G.id % 2048 ≠ 119) (a b : Nat) :
    (s.refreshSource n).g G a b = s.g G a b := by
  unfold State.refreshSource
  dsimp only
  split
  · rfl
  · rw [State.refreshPins_g]
    exact State.inbandChange_evt _ _ _ _ hG _ _

theorem State.refreshPage_evt (s : State) (p : Page) (i : Nat) (G : Fld) (hG : G.id % 2048 ≠ 119) (a b : Nat) :
    (s.refreshPage p i).g G a b = s.g G a b := by
  unfold State.refreshPage
  dsimp only
  split
  · rw [State.refreshSource_evt _ _ _ hG, State.refreshSource_evt _ _ _ hG]
  · exact State.refreshSource_evt _ _ _ hG _ _

theorem pend_ne_sent (p : Page) : (HDR.EVT_PEND.PEND p).id % 2048 ≠ 119 := by cases p <;> decide
theorem count_ne_sent (p : Page) : (HDR.EVT_COUNT.COUNT p).id % 2048 ≠ 119 := by cases p <;> decide
theorem pend_ne_count (p q : Page) : (HDR.EVT_PEND.PEND p).id % 2048 ≠ (HDR.EVT_COUNT.COUNT q).id % 2048 := by
  cases p <;> cases q <;> decide

/-- Rising edges set their PEND bits (R36). -/
theorem State.pend_edges (s : State) (p : Page) (i m : Nat) (h : m ≠ 0) :
    (s.edges p i m).g (HDR.EVT_PEND.PEND p) i 0 = (s.g (HDR.EVT_PEND.PEND p) i 0 ||| m) % 2 ^ 32 := by
  unfold State.edges
  rw [if_neg h]
  dsimp only
  rw [State.refreshPage_evt _ _ _ _ (pend_ne_sent p), State.g_bump_of_id (pend_ne_count p p), State.g_wr_self]
  rfl

/-- Rising edges are counted, up to 0xFFFF (R36). -/
theorem State.count_edges (s : State) (p : Page) (i m : Nat) (h : m ≠ 0) :
    (s.edges p i m).g (HDR.EVT_COUNT.COUNT p) i 0 =
      satAdd 16 (s.g (HDR.EVT_COUNT.COUNT p) i 0) (popCount m) % 2 ^ 16 := by
  unfold State.edges
  rw [if_neg h]
  dsimp only
  rw [State.refreshPage_evt _ _ _ _ (count_ne_sent p), State.g_bump_self,
    State.g_wr_of_id (pend_ne_count p p).symm]
  rfl

theorem State.pend_pulse (s : State) (p : Page) (i n : Nat) :
    (s.pulse p i n).g (HDR.EVT_PEND.PEND p) i 0 = (s.g (HDR.EVT_PEND.PEND p) i 0 ||| 2 ^ n) % 2 ^ 32 :=
  State.pend_edges s p i _ (Nat.two_pow_pos n).ne'

/-- A pulse leaves the PEND word of its page with its bit set. -/
theorem State.pulse_pends (s : State) (p : Page) (i n : Nat) (h : n < 32) :
    bit ((s.pulse p i n).g (HDR.EVT_PEND.PEND p) i 0) n = true := by
  rw [State.pend_pulse, bit_eq_testBit, Nat.testBit_mod_two_pow, Nat.testBit_or, Nat.testBit_two_pow_self]
  simp [h]

end Sys2Proof.Machine
end

