-- ==== Sys2Proof/Laws/InbandFrame.lean ====
section
/-! SUPPORT. Which operations leave the in-band queue alone (R53). -/

namespace Sys2Proof.Machine

@[simp] theorem ite_ibQueue (c : Prop) [Decidable c] (s t : State) :
    (if c then s else t).mgmt.ibQueue = if c then s.mgmt.ibQueue else t.mgmt.ibQueue := by split <;> rfl

@[simp] theorem Mgmt.ite_ibQueue (c : Prop) [Decidable c] (m n : Mgmt) :
    (if c then m else n).ibQueue = if c then m.ibQueue else n.ibQueue := by split <;> rfl

@[simp] theorem foldl_ibQueue {β : Type} (f : State → β → State) (h : ∀ s b, (f s b).mgmt.ibQueue = s.mgmt.ibQueue)
    (l : List β) (s : State) : (l.foldl f s).mgmt.ibQueue = s.mgmt.ibQueue := by
  induction l generalizing s with
  | nil => rfl
  | cons b l ih => rw [List.foldl_cons, ih, h]

/-! ### Ops -/

@[simp] theorem when_ibQueue (c : Bool) (f : State → State) (s : State) (hf : ∀ x0, (f x0).mgmt.ibQueue = x0.mgmt.ibQueue) :
    (when c f s).mgmt.ibQueue = s.mgmt.ibQueue := by
  simp [when, hf]

@[simp] theorem Mgmt.sendEach_ibQueue (ls : List Nat) (bs : List Block) (m : Mgmt) :
    (ls.foldl (fun m l => m.sendBlocks l bs) m).ibQueue = m.ibQueue := by
  induction ls generalizing m with
  | nil => rfl
  | cons l ls ih => exact (ih _).trans rfl

@[simp] theorem State.wr_ibQueue (s : State) (F : Fld) (v : Nat) (i : Nat) (j : Nat) :
    (State.wr s F v i j).mgmt.ibQueue = s.mgmt.ibQueue := by
  simp [State.wr]

@[simp] theorem State.bump_ibQueue (s : State) (F : Fld) (i : Nat) (k : Nat) (j : Nat) :
    (State.bump s F i k j).mgmt.ibQueue = s.mgmt.ibQueue := by
  simp [State.bump]

@[simp] theorem State.bump64_ibQueue (s : State) (lo : Fld) (hi : Fld) (i : Nat) (k : Nat) :
    (State.bump64 s lo hi i k).mgmt.ibQueue = s.mgmt.ibQueue := by
  simp [State.bump64]

@[simp] theorem State.wrWords_ibQueue (s : State) (F : Fld) (i : Nat) (ws : List Nat) :
    (State.wrWords s F i ws).mgmt.ibQueue = s.mgmt.ibQueue := by
  simp [State.wrWords]

@[simp] theorem State.setLine_ibQueue (s : State) (l : Nat) (x : LineX) :
    (State.setLine s l x).mgmt.ibQueue = s.mgmt.ibQueue := by
  simp [State.setLine]

@[simp] theorem State.setPort_ibQueue (s : State) (p : Nat) (x : PortX) :
    (State.setPort s p x).mgmt.ibQueue = s.mgmt.ibQueue := by
  simp [State.setPort]

@[simp] theorem State.setLane_ibQueue (s : State) (l : Nat) (x : LaneX) :
    (State.setLane s l x).mgmt.ibQueue = s.mgmt.ibQueue := by
  simp [State.setLane]

@[simp] theorem State.modLine_ibQueue (s : State) (l : Nat) (f : LineX → LineX) :
    (State.modLine s l f).mgmt.ibQueue = s.mgmt.ibQueue := by
  simp [State.modLine]

@[simp] theorem State.modPort_ibQueue (s : State) (p : Nat) (f : PortX → PortX) :
    (State.modPort s p f).mgmt.ibQueue = s.mgmt.ibQueue := by
  simp [State.modPort]

@[simp] theorem State.modLane_ibQueue (s : State) (l : Nat) (f : LaneX → LaneX) :
    (State.modLane s l f).mgmt.ibQueue = s.mgmt.ibQueue := by
  simp [State.modLane]

@[simp] theorem State.modMgmt_ibQueue (s : State) (f : Mgmt → Mgmt) :
    (s.modMgmt f).mgmt.ibQueue = (f s.mgmt).ibQueue := rfl

@[simp] theorem State.modTrust_ibQueue (s : State) (f : TrustX → TrustX) :
    (State.modTrust s f).mgmt.ibQueue = s.mgmt.ibQueue := by
  simp [State.modTrust]

@[simp] theorem State.modFault_ibQueue (s : State) (f : FaultX → FaultX) :
    (State.modFault s f).mgmt.ibQueue = s.mgmt.ibQueue := by
  simp [State.modFault]

@[simp] theorem State.modClk_ibQueue (s : State) (f : ClockX → ClockX) :
    (State.modClk s f).mgmt.ibQueue = s.mgmt.ibQueue := by
  simp [State.modClk]

@[simp] theorem State.modLvl_ibQueue (s : State) (f : LevelX → LevelX) :
    (State.modLvl s f).mgmt.ibQueue = s.mgmt.ibQueue := by
  simp [State.modLvl]

@[simp] theorem State.modPwr_ibQueue (s : State) (f : PowerX → PowerX) :
    (State.modPwr s f).mgmt.ibQueue = s.mgmt.ibQueue := by
  simp [State.modPwr]

@[simp] theorem State.draw_ibQueue (s : State) :
    (State.draw s).2.mgmt.ibQueue = s.mgmt.ibQueue := by
  simp [State.draw]

@[simp] theorem State.setSession_ibQueue (s : State) (c : Nat) (x : Session) :
    (State.setSession s c x).mgmt.ibQueue = s.mgmt.ibQueue := by
  simp [State.setSession]

@[simp] theorem State.refreshPins_ibQueue (s : State) :
    (State.refreshPins s).mgmt.ibQueue = s.mgmt.ibQueue := by
  simp [State.refreshPins]

@[simp] theorem Mgmt.sendBlocks_ibQueue (m : Mgmt) (l : Nat) (bs : List Block) :
    (m.sendBlocks l bs).ibQueue = m.ibQueue := rfl

@[simp] theorem State.sendEvent_ibQueue (s : State) (n : Nat) (level : Bool) :
    (State.sendEvent s n level).mgmt.ibQueue = s.mgmt.ibQueue := by
  simp [State.sendEvent]

@[simp] theorem State.inbandDue_ibQueue (s : State) (n : Nat) (level : Bool) :
    (State.inbandDue s n level).mgmt.ibQueue = s.mgmt.ibQueue := by
  simp [State.inbandDue]

@[simp] theorem State.inbandChange_ibQueue (s : State) (n : Nat) (level : Bool) :
    (State.inbandChange s n level).mgmt.ibQueue = s.mgmt.ibQueue := by
  simp [State.inbandChange]

@[simp] theorem State.refreshSource_ibQueue (s : State) (n : Nat) :
    (State.refreshSource s n).mgmt.ibQueue = s.mgmt.ibQueue := by
  simp [State.refreshSource]

@[simp] theorem State.refreshPage_ibQueue (s : State) (p : Page) (i : Nat) :
    (State.refreshPage s p i).mgmt.ibQueue = s.mgmt.ibQueue := by
  simp [State.refreshPage]

@[simp] theorem State.edges_ibQueue (s : State) (p : Page) (i : Nat) (mask : Nat) :
    (State.edges s p i mask).mgmt.ibQueue = s.mgmt.ibQueue := by
  simp [State.edges]

@[simp] theorem State.pulse_ibQueue (s : State) (p : Page) (i : Nat) (b : Nat) :
    (State.pulse s p i b).mgmt.ibQueue = s.mgmt.ibQueue := by
  simp [State.pulse]

@[simp] theorem State.cond_ibQueue (s : State) (p : Page) (i : Nat) (b : Nat) (on : Bool) :
    (State.cond s p i b on).mgmt.ibQueue = s.mgmt.ibQueue := by
  simp [State.cond]

@[simp] theorem State.beginResult_ibQueue (s : State) (p : Page) (i : Nat) :
    (State.beginResult s p i).mgmt.ibQueue = s.mgmt.ibQueue := by
  simp [State.beginResult]

@[simp] theorem State.landResult_ibQueue (s : State) (p : Page) (i : Nat) :
    (State.landResult s p i).mgmt.ibQueue = s.mgmt.ibQueue := by
  simp [State.landResult]

@[simp] theorem State.capture_ibQueue (s : State) (ns : Fld) (sec : Fld) (sech : Fld) (frac : Fld) (i : Nat) (j : Nat) :
    (State.capture s ns sec sech frac i j).mgmt.ibQueue = s.mgmt.ibQueue := by
  simp [State.capture]

@[simp] theorem State.capture2_ibQueue (s : State) (ns : Fld) (sec : Fld) (i : Nat) :
    (State.capture2 s ns sec i).mgmt.ibQueue = s.mgmt.ibQueue := by
  simp [State.capture2]

@[simp] theorem State.placeRecord_ibQueue (s : State) (r : Nat) (f : FaultReport) (real : Bool) :
    (State.placeRecord s r f real).mgmt.ibQueue = s.mgmt.ibQueue := by
  simp [State.placeRecord]

@[simp] theorem State.companion_ibQueue (s : State) (r : Nat) (src : Nat) :
    (State.companion s r src).mgmt.ibQueue = s.mgmt.ibQueue := by
  simp [State.companion]

@[simp] theorem State.record_ibQueue (s : State) (f : FaultReport) (real : Bool) :
    (State.record s f real).mgmt.ibQueue = s.mgmt.ibQueue := by
  simp [State.record]

@[simp] theorem State.countFault_ibQueue (s : State) (f : FaultReport) :
    (State.countFault s f).mgmt.ibQueue = s.mgmt.ibQueue := by
  simp [State.countFault]

@[simp] theorem State.unitRecorded_ibQueue (s : State) (f : FaultReport) :
    (State.unitRecorded s f).mgmt.ibQueue = s.mgmt.ibQueue := by
  simp [State.unitRecorded]

@[simp] theorem State.log_ibQueue (s : State) (f : FaultReport) :
    (State.log s f).mgmt.ibQueue = s.mgmt.ibQueue := by
  simp [State.log]

@[simp] theorem State.healthChanged_ibQueue (s : State) (src : Nat) :
    (State.healthChanged s src).mgmt.ibQueue = s.mgmt.ibQueue := by
  simp [State.healthChanged]

@[simp] theorem State.beginRecovery_ibQueue (s : State) (src : Nat) :
    (State.beginRecovery s src).mgmt.ibQueue = s.mgmt.ibQueue := by
  simp [State.beginRecovery]

@[simp] theorem State.endRecovery_ibQueue (s : State) (src : Nat) :
    (State.endRecovery s src).mgmt.ibQueue = s.mgmt.ibQueue := by
  simp [State.endRecovery]

@[simp] theorem State.faultS1_ibQueue (s : State) (code : Nat) (src : Nat) (addr : Nat) :
    (State.faultS1 s code src addr).mgmt.ibQueue = s.mgmt.ibQueue := by
  simp [State.faultS1]

@[simp] theorem State.noteS1_ibQueue (s : State) (code : Nat) (src : Nat) (addr : Nat) :
    (State.noteS1 s code src addr).mgmt.ibQueue = s.mgmt.ibQueue := by
  simp [State.noteS1]

@[simp] theorem State.faultS2Unit_ibQueue (s : State) (code : Nat) (src : Nat) (addr : Nat) :
    (State.faultS2Unit s code src addr).mgmt.ibQueue = s.mgmt.ibQueue := by
  simp [State.faultS2Unit]

@[simp] theorem State.accessError_ibQueue (s : State) (master : Nat) (access : Nat) (addr : Nat) :
    (State.accessError s master access addr).mgmt.ibQueue = s.mgmt.ibQueue := by
  simp [State.accessError]

/-! ### Seal -/

@[simp] theorem State.setResult_ibQueue (s : State) (p : Page) (i : Nat) (r : Nat) :
    (State.setResult s p i r).mgmt.ibQueue = s.mgmt.ibQueue := by
  simp [State.setResult]

@[simp] theorem State.dropPost_ibQueue (s : State) (p : Page) (i : Nat) :
    (State.dropPost s p i).mgmt.ibQueue = s.mgmt.ibQueue := by
  simp [State.dropPost]

@[simp] theorem State.finishPost_ibQueue (s : State) (p : Page) (i : Nat) (r : Nat) :
    (State.finishPost s p i r).mgmt.ibQueue = s.mgmt.ibQueue := by
  simp [State.finishPost]

@[simp] theorem State.setPhase_ibQueue (s : State) (p : Page) (i : Nat) (ph : PostPhase) (target : Option Nat) :
    (State.setPhase s p i ph target).mgmt.ibQueue = s.mgmt.ibQueue := by
  simp [State.setPhase]

@[simp] theorem State.regridPosts_ibQueue (s : State) (sel : Post → Bool) (now : Nat) :
    (State.regridPosts s sel now).mgmt.ibQueue = s.mgmt.ibQueue := by
  unfold State.regridPosts
  refine foldl_ibQueue _ (fun s x => ?_) _ _
  try dsimp only
  (repeat' split) <;> simp

@[simp] theorem State.landLocks_ibQueue (s : State) (locks : List (Page × Nat × Nat)) :
    (State.landLocks s locks).mgmt.ibQueue = s.mgmt.ibQueue := by
  simp [State.landLocks]

@[simp] theorem State.endRun_ibQueue (s : State) (r : Nat) :
    (State.endRun s r).mgmt.ibQueue = s.mgmt.ibQueue := by
  simp [State.endRun]

@[simp] theorem State.dismissMembers_ibQueue (s : State) (r : Nat) :
    (State.dismissMembers s r).mgmt.ibQueue = s.mgmt.ibQueue := by
  simp [State.dismissMembers]

@[simp] theorem State.withdrawRun_ibQueue (s : State) :
    (State.withdrawRun s).mgmt.ibQueue = s.mgmt.ibQueue := by
  unfold State.withdrawRun
  refine foldl_ibQueue _ (fun s x => ?_) _ _
  try dsimp only
  (repeat' split) <;> simp

@[simp] theorem State.refusePosts_ibQueue (s : State) (sel : Post → Bool) :
    (State.refusePosts s sel).mgmt.ibQueue = s.mgmt.ibQueue := by
  simp [State.refusePosts]

@[simp] theorem State.abortNeg_ibQueue (s : State) (port : Nat) :
    (State.abortNeg s port).mgmt.ibQueue = s.mgmt.ibQueue := by
  simp [State.abortNeg]

@[simp] theorem State.propose_ibQueue (s : State) (port : Nat) (target : Nat) (cs : List Change) :
    (State.propose s port target cs).mgmt.ibQueue = s.mgmt.ibQueue := by
  unfold State.propose; split <;> simp

/-! ### Bounds -/

@[simp] theorem State.refreshPort_ibQueue (s : State) (p : Nat) :
    (State.refreshPort s p).mgmt.ibQueue = s.mgmt.ibQueue := by
  simp [State.refreshPort]

@[simp] theorem State.refreshPorts_ibQueue (s : State) :
    (State.refreshPorts s).mgmt.ibQueue = s.mgmt.ibQueue := by
  simp [State.refreshPorts]

@[simp] theorem State.showRoundTrip_ibQueue (s : State) (p : Nat) :
    (State.showRoundTrip s p).mgmt.ibQueue = s.mgmt.ibQueue := by
  simp [State.showRoundTrip]

@[simp] theorem State.setTa_ibQueue (s : State) (l : Nat) (ta : Nat) :
    (State.setTa s l ta).mgmt.ibQueue = s.mgmt.ibQueue := by
  simp [State.setTa]

@[simp] theorem State.correctTa_ibQueue (s : State) (l : Nat) (base : Nat) (corr : Int) :
    (State.correctTa s l base corr).mgmt.ibQueue = s.mgmt.ibQueue := by
  simp [State.correctTa]

@[simp] theorem State.showTable_ibQueue (s : State) (l : Nat) :
    (State.showTable s l).mgmt.ibQueue = s.mgmt.ibQueue := by
  simp [State.showTable]

/-! ### Chain -/

@[simp] theorem State.modMon_ibQueue (s : State) (l : Nat) (f : MonX → MonX) :
    (State.modMon s l f).mgmt.ibQueue = s.mgmt.ibQueue := by
  simp [State.modMon]

@[simp] theorem State.modReach_ibQueue (s : State) (l : Nat) (f : ReachX → ReachX) :
    (State.modReach s l f).mgmt.ibQueue = s.mgmt.ibQueue := by
  simp [State.modReach]

@[simp] theorem State.modStd_ibQueue (s : State) (l : Nat) (f : StdX → StdX) :
    (State.modStd s l f).mgmt.ibQueue = s.mgmt.ibQueue := by
  simp [State.modStd]

@[simp] theorem State.modCal_ibQueue (s : State) (l : Nat) (f : CalX → CalX) :
    (State.modCal s l f).mgmt.ibQueue = s.mgmt.ibQueue := by
  simp [State.modCal]

@[simp] theorem State.startTx_ibQueue (s : State) (l : Nat) (netid : Nat) (p : ReachPkt) :
    (State.startTx s l netid p).mgmt.ibQueue = s.mgmt.ibQueue := by
  simp [State.startTx]

@[simp] theorem State.noteGo_ibQueue (s : State) (l : Nat) (p : ReachPkt) :
    (State.noteGo s l p).mgmt.ibQueue = s.mgmt.ibQueue := by
  unfold State.noteGo; (repeat' split) <;> simp

@[simp] theorem State.sendDue_ibQueue (s : State) (l : Nat) :
    (State.sendDue s l).mgmt.ibQueue = s.mgmt.ibQueue := by
  unfold State.sendDue; dsimp only; (repeat' split) <;> simp

@[simp] theorem State.showDetectors_ibQueue (s : State) (l : Nat) :
    (State.showDetectors s l).mgmt.ibQueue = s.mgmt.ibQueue := by
  simp [State.showDetectors]

@[simp] theorem State.detect_ibQueue (s : State) (l : Nat) (p : Rat) :
    (State.detect s l p).mgmt.ibQueue = s.mgmt.ibQueue := by
  simp [State.detect]

@[simp] theorem State.endBlock_ibQueue (s : State) (l : Nat) :
    (State.endBlock s l).mgmt.ibQueue = s.mgmt.ibQueue := by
  simp [State.endBlock]

@[simp] theorem State.finishCapture_ibQueue (s : State) (l : Nat) (reason : Nat) (ws : List Nat) :
    (State.finishCapture s l reason ws).mgmt.ibQueue = s.mgmt.ibQueue := by
  unfold State.finishCapture; split <;> simp

@[simp] theorem State.cutCapture_ibQueue (s : State) (l : Nat) (reason : Nat) :
    (State.cutCapture s l reason).mgmt.ibQueue = s.mgmt.ibQueue := by
  unfold State.cutCapture; split <;> simp

@[simp] theorem State.landSync_ibQueue (s : State) (l : Nat) :
    (State.landSync s l).mgmt.ibQueue = s.mgmt.ibQueue := by
  unfold State.landSync; split <;> simp

@[simp] theorem State.refreshOwner_ibQueue (s : State) (l : Nat) :
    (State.refreshOwner s l).mgmt.ibQueue = s.mgmt.ibQueue := by
  simp [State.refreshOwner]

@[simp] theorem State.stopChain_ibQueue (s : State) (l : Nat) :
    (State.stopChain s l).mgmt.ibQueue = s.mgmt.ibQueue := by
  simp [State.stopChain]

@[simp] theorem State.countFade_ibQueue (s : State) (l : Nat) :
    (State.countFade s l).mgmt.ibQueue = s.mgmt.ibQueue := by
  simp [State.countFade]

@[simp] theorem State.captureSample_ibQueue (s : State) (l : Nat) (back : Nat) (y : Cx) :
    (State.captureSample s l back y).mgmt.ibQueue = s.mgmt.ibQueue := by
  unfold State.captureSample; split <;> simp

@[simp] theorem State.emit_ibQueue (s : State) (l : Nat) (back : Nat) (y : Cx) :
    (State.emit s l back y).mgmt.ibQueue = s.mgmt.ibQueue := by
  simp [State.emit]

@[simp] theorem State.feedSample_ibQueue (s : State) (l : Nat) (back : Nat) (code : Int) :
    (State.feedSample s l back code).mgmt.ibQueue = s.mgmt.ibQueue := by
  simp [State.feedSample]

@[simp] theorem State.feed_ibQueue (s : State) (l : Nat) (adc : List Int) :
    (State.feed s l adc).mgmt.ibQueue = s.mgmt.ibQueue := by
  simp [State.feed]

/-! ### Lines -/

@[simp] theorem State.setErase_ibQueue (s : State) (l : Nat) (mask : Nat) :
    (State.setErase s l mask).mgmt.ibQueue = s.mgmt.ibQueue := by
  simp [State.setErase]

@[simp] theorem State.refreshErase_ibQueue (s : State) (l : Nat) :
    (State.refreshErase s l).mgmt.ibQueue = s.mgmt.ibQueue := by
  unfold State.refreshErase; (repeat' split) <;> simp

@[simp] theorem State.startErasure_ibQueue (s : State) (tag : Nat) :
    (State.startErasure s tag).mgmt.ibQueue = s.mgmt.ibQueue := by
  simp [State.startErasure]

@[simp] theorem State.moveErase_ibQueue (s : State) (l : Nat) (old : LineState) :
    (State.moveErase s l old).mgmt.ibQueue = s.mgmt.ibQueue := by
  unfold State.moveErase; (repeat' split) <;> simp

@[simp] theorem State.setRmask_ibQueue (s : State) (l : Nat) (mask : Nat) :
    (State.setRmask s l mask).mgmt.ibQueue = s.mgmt.ibQueue := by
  simp [State.setRmask]

@[simp] theorem State.settleMask_ibQueue (s : State) (l : Nat) :
    (State.settleMask s l).mgmt.ibQueue = s.mgmt.ibQueue := by
  unfold State.settleMask; dsimp only; (repeat' split) <;> simp

@[simp] theorem State.stopModem_ibQueue (s : State) (l : Nat) (off : Bool) :
    (State.stopModem s l off).mgmt.ibQueue = s.mgmt.ibQueue := by
  simp [State.stopModem]

@[simp] theorem State.setDac_ibQueue (s : State) (l : Nat) (x : DacInput) :
    (State.setDac s l x).mgmt.ibQueue = s.mgmt.ibQueue := by
  simp [State.setDac]

@[simp] theorem State.refreshDacs_ibQueue (s : State) :
    (State.refreshDacs s).mgmt.ibQueue = s.mgmt.ibQueue := by
  simp [State.refreshDacs]

@[simp] theorem State.askPort_ibQueue (s : State) (master : Nat) :
    (State.askPort s master).mgmt.ibQueue = s.mgmt.ibQueue := by
  simp [State.askPort]

@[simp] theorem State.wantClear_ibQueue (s : State) (l : Nat) :
    (State.wantClear s l).mgmt.ibQueue = s.mgmt.ibQueue := by
  simp [State.wantClear]

@[simp] theorem State.moveLine_ibQueue (s : State) (l : Nat) (st : LineState) (sub : Nat) :
    (State.moveLine s l st sub).mgmt.ibQueue = s.mgmt.ibQueue := by
  simp [State.moveLine]

@[simp] theorem State.noteReason_ibQueue (s : State) (l : Nat) (reason : Nat) :
    (State.noteReason s l reason).mgmt.ibQueue = s.mgmt.ibQueue := by
  simp [State.noteReason]

@[simp] theorem State.leaveActive_ibQueue (s : State) (l : Nat) :
    (State.leaveActive s l).mgmt.ibQueue = s.mgmt.ibQueue := by
  simp [State.leaveActive]

@[simp] theorem State.noteRotated_ibQueue (s : State) (l : Nat) :
    (State.noteRotated s l).mgmt.ibQueue = s.mgmt.ibQueue := by
  simp [State.noteRotated]

@[simp] theorem State.forgetLine_ibQueue (s : State) (l : Nat) :
    (State.forgetLine s l).mgmt.ibQueue = s.mgmt.ibQueue := by
  simp [State.forgetLine]

@[simp] theorem State.forgetAttempt_ibQueue (s : State) (l : Nat) :
    (State.forgetAttempt s l).mgmt.ibQueue = s.mgmt.ibQueue := by
  unfold State.forgetAttempt; dsimp only; (repeat' split) <;> simp

@[simp] theorem State.quietOne_ibQueue (s : State) (l : Nat) (reason : Nat) (hold : Nat) :
    (State.quietOne s l reason hold).mgmt.ibQueue = s.mgmt.ibQueue := by
  simp [State.quietOne]

@[simp] theorem State.quietPeers_ibQueue (s : State) (l : Nat) :
    (State.quietPeers s l).mgmt.ibQueue = s.mgmt.ibQueue := by
  simp [State.quietPeers]

@[simp] theorem State.queueJoin_ibQueue (s : State) (port : Nat) :
    (State.queueJoin s port).mgmt.ibQueue = s.mgmt.ibQueue := by
  simp [State.queueJoin]

@[simp] theorem State.unqueueJoin_ibQueue (s : State) (port : Nat) :
    (State.unqueueJoin s port).mgmt.ibQueue = s.mgmt.ibQueue := by
  simp [State.unqueueJoin]

@[simp] theorem State.unjoin_ibQueue (s : State) (missing : List Nat) (l : Nat) :
    (State.unjoin s missing l).mgmt.ibQueue = s.mgmt.ibQueue := by
  simp [State.unjoin]

@[simp] theorem State.failJoin_ibQueue (s : State) (missing : List Nat) :
    (State.failJoin s missing).mgmt.ibQueue = s.mgmt.ibQueue := by
  unfold State.failJoin; split <;> simp

@[simp] theorem State.failJoinOf_ibQueue (s : State) (l : Nat) (missing : List Nat) :
    (State.failJoinOf s l missing).mgmt.ibQueue = s.mgmt.ibQueue := by
  unfold State.failJoinOf; split <;> simp

@[simp] theorem State.quietLine_ibQueue (s : State) (l : Nat) (reason : Nat) (hold : Nat) :
    (State.quietLine s l reason hold).mgmt.ibQueue = s.mgmt.ibQueue := by
  simp [State.quietLine]

@[simp] theorem State.countLost_ibQueue (s : State) (p : Nat) (n : Nat) :
    (State.countLost s p n).mgmt.ibQueue = s.mgmt.ibQueue := by
  simp [State.countLost]

@[simp] theorem State.emptyPort_ibQueue (s : State) (port : Nat) :
    (State.emptyPort s port).mgmt.ibQueue = s.mgmt.ibQueue := by
  simp [State.emptyPort]

@[simp] theorem State.leftShowtime_ibQueue (s : State) (l : Nat) :
    (State.leftShowtime s l).mgmt.ibQueue = s.mgmt.ibQueue := by
  simp [State.leftShowtime]

@[simp] theorem State.dropFromPort_ibQueue (s : State) (l : Nat) :
    (State.dropFromPort s l).mgmt.ibQueue = s.mgmt.ibQueue := by
  simp [State.dropFromPort]

@[simp] theorem State.endWake_ibQueue (s : State) (p : Nat) :
    (State.endWake s p).mgmt.ibQueue = s.mgmt.ibQueue := by
  simp [State.endWake]

@[simp] theorem State.lowSnr_ibQueue (s : State) (l : Nat) :
    (State.lowSnr s l).mgmt.ibQueue = s.mgmt.ibQueue := by
  simp [State.lowSnr]

@[simp] theorem State.retrainLine_ibQueue (s : State) (l : Nat) (reason : Nat) :
    (State.retrainLine s l reason).mgmt.ibQueue = s.mgmt.ibQueue := by
  simp [State.retrainLine]

@[simp] theorem State.lineGone_ibQueue (s : State) (l : Nat) (old : LineState) :
    (State.lineGone s l old).mgmt.ibQueue = s.mgmt.ibQueue := by
  simp [State.lineGone]

@[simp] theorem State.noteExit_ibQueue (s : State) (l : Nat) (reason : Nat) :
    (State.noteExit s l reason).mgmt.ibQueue = s.mgmt.ibQueue := by
  simp [State.noteExit]

@[simp] theorem State.faultLine_ibQueue (s : State) (l : Nat) :
    (State.faultLine s l).mgmt.ibQueue = s.mgmt.ibQueue := by
  simp [State.faultLine]

@[simp] theorem State.startLine_ibQueue (s : State) (l : Nat) :
    (State.startLine s l).mgmt.ibQueue = s.mgmt.ibQueue := by
  simp [State.startLine]

@[simp] theorem State.holdOff_ibQueue (s : State) (l : Nat) :
    (State.holdOff s l).mgmt.ibQueue = s.mgmt.ibQueue := by
  simp [State.holdOff]

@[simp] theorem State.resumeLine_ibQueue (s : State) (l : Nat) :
    (State.resumeLine s l).mgmt.ibQueue = s.mgmt.ibQueue := by
  simp [State.resumeLine]

@[simp] theorem State.restartLine_ibQueue (s : State) (l : Nat) :
    (State.restartLine s l).mgmt.ibQueue = s.mgmt.ibQueue := by
  simp [State.restartLine]

@[simp] theorem State.stageTables_ibQueue (s : State) (l : Nat) (rx tx : Store Nat) :
    (State.stageTables s l rx tx).mgmt.ibQueue = s.mgmt.ibQueue := by
  unfold State.stageTables; (repeat' split) <;> simp

@[simp] theorem State.proposeTables_ibQueue (s : State) (l target : Nat) :
    (State.proposeTables s l target).mgmt.ibQueue = s.mgmt.ibQueue := by
  unfold State.proposeTables; dsimp only; (repeat' split) <;> simp

@[simp] theorem State.reload_ibQueue (s : State) (l : Nat) (target : Nat) (rx : Store Nat) (tx : Store Nat) :
    (State.reload s l target rx tx).mgmt.ibQueue = s.mgmt.ibQueue := by
  simp [State.reload]

@[simp] theorem State.stageMask_ibQueue (s : State) (l : Nat) :
    (State.stageMask s l).mgmt.ibQueue = s.mgmt.ibQueue := by
  simp [State.stageMask]

@[simp] theorem State.refreshMasks_ibQueue (s : State) :
    (State.refreshMasks s).mgmt.ibQueue = s.mgmt.ibQueue := by
  simp [State.refreshMasks]

/-! ### Matrix -/

@[simp] theorem State.setCoef_ibQueue (s : State) (key : Nat) (c : Int × Int) :
    (State.setCoef s key c).mgmt.ibQueue = s.mgmt.ibQueue := by
  simp [State.setCoef]

@[simp] theorem State.writeCoef_ibQueue (s : State) (m : Nat) (k : Nat) (v : Nat) (d : Nat) (c : Int × Int) :
    (State.writeCoef s m k v d c).mgmt.ibQueue = s.mgmt.ibQueue := by
  simp [State.writeCoef]

@[simp] theorem State.updateCoef_ibQueue (s : State) (key : Nat) (re : Int) (im : Int) :
    (State.updateCoef s key re im).mgmt.ibQueue = s.mgmt.ibQueue := by
  simp [State.updateCoef]

@[simp] theorem State.addCoef_ibQueue (s : State) (key : Nat) (re : Int) (im : Int) :
    (State.addCoef s key re im).mgmt.ibQueue = s.mgmt.ibQueue := by
  simp [State.addCoef]

@[simp] theorem State.clearEntries_ibQueue (s : State) (l : Nat) :
    (State.clearEntries s l).mgmt.ibQueue = s.mgmt.ibQueue := by
  simp [State.clearEntries]

@[simp] theorem State.setFeq_ibQueue (s : State) (l : Nat) (k : Nat) (c : Cx) :
    (State.setFeq s l k c).mgmt.ibQueue = s.mgmt.ibQueue := by
  simp [State.setFeq]

@[simp] theorem State.landNxt_ibQueue (s : State) :
    (State.landNxt s).mgmt.ibQueue = s.mgmt.ibQueue := by
  simp [State.landNxt]

@[simp] theorem State.countSkips_ibQueue (s : State) (n : Nat) :
    (State.countSkips s n).mgmt.ibQueue = s.mgmt.ibQueue := by
  simp [State.countSkips]

@[simp] theorem State.stepNorm_ibQueue (s : State) (k : Nat) :
    (State.stepNorm s k).mgmt.ibQueue = s.mgmt.ibQueue := by
  simp [State.stepNorm]

@[simp] theorem State.addIncs_ibQueue (s : State) (incs : List (Nat × Cx)) (factor : Nat) :
    (State.addIncs s incs factor).mgmt.ibQueue = s.mgmt.ibQueue := by
  simp [State.addIncs]

@[simp] theorem State.landPrdIncs_ibQueue (s : State) (incs : List (Nat × Cx)) (k : Nat) :
    (State.landPrdIncs s incs k).mgmt.ibQueue = s.mgmt.ibQueue := by
  simp [State.landPrdIncs]

@[simp] theorem State.corrected_ibQueue (s : State) :
    (State.corrected s).mgmt.ibQueue = s.mgmt.ibQueue := by
  simp [State.corrected]

@[simp] theorem State.recoverEntry_ibQueue (s : State) (m : Nat) (index : Nat) :
    (State.recoverEntry s m index).mgmt.ibQueue = s.mgmt.ibQueue := by
  simp [State.recoverEntry]

@[simp] theorem State.showUe_ibQueue (s : State) (m : Nat) (index : Nat) :
    (State.showUe s m index).mgmt.ibQueue = s.mgmt.ibQueue := by
  simp [State.showUe]

@[simp] theorem State.uncorrectable_ibQueue (s : State) (m : Nat) (index : Nat) :
    (State.uncorrectable s m index).mgmt.ibQueue = s.mgmt.ibQueue := by
  simp [State.uncorrectable]

@[simp] theorem State.recoveryCheck_ibQueue (s : State) :
    (State.recoveryCheck s).mgmt.ibQueue = s.mgmt.ibQueue := by
  simp [State.recoveryCheck]

@[simp] theorem State.releasePort_ibQueue (s : State) (master : Nat) :
    (State.releasePort s master).mgmt.ibQueue = s.mgmt.ibQueue := by
  simp [State.releasePort]

/-! ### Ports -/

@[simp] theorem State.refreshDegraded_ibQueue (s : State) (p : Nat) :
    (State.refreshDegraded s p).mgmt.ibQueue = s.mgmt.ibQueue := by
  simp [State.refreshDegraded]

@[simp] theorem State.clearPending_ibQueue (s : State) (l : Nat) :
    (State.clearPending s l).mgmt.ibQueue = s.mgmt.ibQueue := by
  simp [State.clearPending]

@[simp] theorem State.applyTables_ibQueue (s : State) (l : Nat) (rx : Bool) (tx : Bool) :
    (State.applyTables s l rx tx).mgmt.ibQueue = s.mgmt.ibQueue := by
  simp [State.applyTables]

@[simp] theorem State.landMask_ibQueue (s : State) (l : Nat) :
    (State.landMask s l).mgmt.ibQueue = s.mgmt.ibQueue := by
  simp [State.landMask]

@[simp] theorem State.applyProfile_ibQueue (s : State) (p : Nat) :
    (State.applyProfile s p).mgmt.ibQueue = s.mgmt.ibQueue := by
  simp [State.applyProfile]

@[simp] theorem State.enterShowtime_ibQueue (s : State) (l : Nat) :
    (State.enterShowtime s l).mgmt.ibQueue = s.mgmt.ibQueue := by
  simp [State.enterShowtime]

@[simp] theorem State.rescaleNxt_ibQueue (s : State) (l : Nat) (row : Bool) (r : Rat) :
    (State.rescaleNxt s l row r).mgmt.ibQueue = s.mgmt.ibQueue := by
  simp [State.rescaleNxt]

@[simp] theorem State.setPga_ibQueue (s : State) (l : Nat) (v : Nat) :
    (State.setPga s l v).mgmt.ibQueue = s.mgmt.ibQueue := by
  simp [State.setPga]

@[simp] theorem State.setRange_ibQueue (s : State) (l : Nat) (v : Nat) :
    (State.setRange s l v).mgmt.ibQueue = s.mgmt.ibQueue := by
  simp [State.setRange]

@[simp] theorem State.landChange_ibQueue (s : State) (p : Nat) (a2 : Change) :
    (State.landChange s p a2).mgmt.ibQueue = s.mgmt.ibQueue := by
  unfold State.landChange; split <;> simp

@[simp] theorem State.adoptProfile_ibQueue (s : State) (p : Nat) (ours : Bool) (a3 : Change) :
    (State.adoptProfile s p ours a3).mgmt.ibQueue = s.mgmt.ibQueue := by
  unfold State.adoptProfile; split <;> simp

@[simp] theorem State.landNeg_ibQueue (s : State) (p : Nat) :
    (State.landNeg s p).mgmt.ibQueue = s.mgmt.ibQueue := by
  unfold State.landNeg; split <;> simp

/-! ### Secy -/

@[simp] theorem State.refreshFill_ibQueue (s : State) (p : Nat) :
    (State.refreshFill s p).mgmt.ibQueue = s.mgmt.ibQueue := by
  unfold State.refreshFill; dsimp only; (repeat' split) <;> simp

@[simp] theorem State.sendControl_ibQueue (s : State) (p : Nat) (cap : Nat) (b : Block) :
    (State.sendControl s p cap b).mgmt.ibQueue = s.mgmt.ibQueue := by
  simp [State.sendControl]

@[simp] theorem State.secyCount_ibQueue (s : State) (p : Nat) (i : Nat) :
    (State.secyCount s p i).mgmt.ibQueue = s.mgmt.ibQueue := by
  simp [State.secyCount]

@[simp] theorem State.setSa_ibQueue (s : State) (p : Nat) (a : Nat) (x : Sa) :
    (State.setSa s p a x).mgmt.ibQueue = s.mgmt.ibQueue := by
  simp [State.setSa]

@[simp] theorem State.reachPn_ibQueue (s : State) (p : Nat) (a : Nat) (sa : Sa) :
    (State.reachPn s p a sa).mgmt.ibQueue = s.mgmt.ibQueue := by
  unfold State.reachPn; dsimp only; (repeat' split) <;> simp

@[simp] theorem State.landSas_ibQueue (s : State) (p : Nat) (tx : Bool) :
    (State.landSas s p tx).mgmt.ibQueue = s.mgmt.ibQueue := by
  unfold State.landSas; dsimp only; split <;> simp

@[simp] theorem State.secyOut_ibQueue (s : State) (p : Nat) (f : List Block) :
    (State.secyOut s p f).2.mgmt.ibQueue = s.mgmt.ibQueue := by
  unfold State.secyOut; dsimp only; (repeat' split) <;> simp

@[simp] theorem State.secyFail_ibQueue (s : State) (p : Nat) (i : Nat) (f : List Block) :
    (State.secyFail s p i f).2.mgmt.ibQueue = s.mgmt.ibQueue := by
  simp [State.secyFail]

@[simp] theorem State.secyIn_ibQueue (s : State) (p : Nat) (f : List Block) :
    (State.secyIn s p f).2.mgmt.ibQueue = s.mgmt.ibQueue := by
  unfold State.secyIn; dsimp only; (repeat' split) <;> simp

@[simp] theorem State.offerBlock_ibQueue (s : State) (p : Nat) (cap : Nat) (F : Fld) (c : Nat) (b : Block) :
    (State.offerBlock s p cap F c b).mgmt.ibQueue = s.mgmt.ibQueue := by
  simp [State.offerBlock]

@[simp] theorem State.intoIngress_ibQueue (s : State) (p : Nat) (bs : List Block) :
    (State.intoIngress s p bs).mgmt.ibQueue = s.mgmt.ibQueue := by
  simp [State.intoIngress]

@[simp] theorem State.fromHost_ibQueue (s : State) (p : Nat) (b : Block) :
    (State.fromHost s p b).mgmt.ibQueue = s.mgmt.ibQueue := by
  simp [State.fromHost]

@[simp] theorem State.toHost_ibQueue (s : State) (p : Nat) (bs : List Block) :
    (State.toHost s p bs).mgmt.ibQueue = s.mgmt.ibQueue := by
  simp [State.toHost]

@[simp] theorem State.pastSecy_ibQueue (s : State) (p : Nat) (b : Block) :
    (State.pastSecy s p b).mgmt.ibQueue = s.mgmt.ibQueue := by
  simp [State.pastSecy]

@[simp] theorem State.deliver_ibQueue (s : State) (p : Nat) (bs : List Block) :
    (State.deliver s p bs).mgmt.ibQueue = s.mgmt.ibQueue := by
  simp [State.deliver]

/-! ### Pace -/

@[simp] theorem State.lowerIssue_ibQueue (s : State) (p : Nat) :
    (State.lowerIssue s p).mgmt.ibQueue = s.mgmt.ibQueue := by
  unfold State.lowerIssue; split <;> simp

/-! ### Framing -/

@[simp] theorem State.spentDtus_ibQueue (s : State) (p : Nat) :
    (State.spentDtus s p).mgmt.ibQueue = s.mgmt.ibQueue := by
  simp [State.spentDtus]

@[simp] theorem State.nextDtu_ibQueue (s : State) (p : Nat) :
    (State.nextDtu s p).2.mgmt.ibQueue = s.mgmt.ibQueue := by
  unfold State.nextDtu; dsimp only; (repeat' split) <;> simp

@[simp] theorem State.fillBulk_ibQueue (a0 : Nat) (a1 : Nat) (a2 : Nat) (a3 : State) :
    (State.fillBulk a0 a1 a2 a3).mgmt.ibQueue = a3.mgmt.ibQueue := by
  induction a0 generalizing a3 with
  | zero => rfl
  | succ n ih =>
    unfold State.fillBulk
    try dsimp only
    (repeat' split) <;> simp [ih]

@[simp] theorem State.portBits_ibQueue (s : State) (p : Nat) :
    (State.portBits s p).2.mgmt.ibQueue = s.mgmt.ibQueue := by
  unfold State.portBits
  try dsimp only
  (repeat' split) <;> simp

@[simp] theorem State.ageDtus_ibQueue (s : State) (p : Nat) (b : Nat) :
    (State.ageDtus s p b).mgmt.ibQueue = s.mgmt.ibQueue := by
  simp [State.ageDtus]

@[simp] theorem State.countError_ibQueue (s : State) (p : Nat) :
    (State.countError s p).mgmt.ibQueue = s.mgmt.ibQueue := by
  simp [State.countError]

@[simp] theorem State.countCodeword_ibQueue (s : State) (p : Nat) (fixed : Bool) (ok : Bool) :
    (State.countCodeword s p fixed ok).mgmt.ibQueue = s.mgmt.ibQueue := by
  simp [State.countCodeword]

@[simp] theorem State.drainExpress_ibQueue (a0 : Nat) (a1 : Nat) (a2 : State) :
    (State.drainExpress a0 a1 a2).mgmt.ibQueue = a2.mgmt.ibQueue := by
  induction a0 generalizing a2 with
  | zero => rfl
  | succ n ih =>
    unfold State.drainExpress
    try dsimp only
    (repeat' split) <;> simp [ih]

@[simp] theorem State.rxExpress_ibQueue (s : State) (p : Nat) (l : List Rat) :
    (State.rxExpress s p l).mgmt.ibQueue = s.mgmt.ibQueue := by
  unfold State.rxExpress
  refine (State.drainExpress_ibQueue _ _ _).trans (foldl_ibQueue _ (fun s x => ?_) _ _)
  rw [State.modPort_ibQueue, State.countCodeword_ibQueue]

@[simp] theorem State.releaseDtus_ibQueue (a0 : Nat) (a1 : Nat) (a2 : State) :
    (State.releaseDtus a0 a1 a2).mgmt.ibQueue = a2.mgmt.ibQueue := by
  induction a0 generalizing a2 with
  | zero => rfl
  | succ n ih =>
    unfold State.releaseDtus
    try dsimp only
    (repeat' split) <;> simp [ih]

@[simp] theorem State.rxDtu_ibQueue (s : State) (p : Nat) (d : Dtu) :
    (State.rxDtu s p d).mgmt.ibQueue = s.mgmt.ibQueue := by
  unfold State.rxDtu
  try dsimp only
  (repeat' split) <;> simp

@[simp] theorem State.rxBulk_ibQueue (a0 : Nat) (a1 : Nat) (a2 : State) :
    (State.rxBulk a0 a1 a2).mgmt.ibQueue = a2.mgmt.ibQueue := by
  induction a0 generalizing a2 with
  | zero => rfl
  | succ n ih =>
    unfold State.rxBulk
    dsimp only
    split
    · simp [ih]
    · split
      · rw [ih]
        split <;> simp
      · rfl

@[simp] theorem State.giveUpDtu_ibQueue (s : State) (p : Nat) :
    (State.giveUpDtu s p).mgmt.ibQueue = s.mgmt.ibQueue := by
  unfold State.giveUpDtu
  rw [State.releaseDtus_ibQueue, State.modPort_ibQueue, State.pulse_ibQueue, State.countLost_ibQueue,
    State.countError_ibQueue, State.deliver_ibQueue]

@[simp] theorem State.takeAck_ibQueue (s : State) (p : Nat) (seq : Nat) (map : Nat) :
    (State.takeAck s p seq map).mgmt.ibQueue = s.mgmt.ibQueue := by
  unfold State.takeAck
  dsimp only
  split
  · rfl
  · rw [State.modPort_ibQueue]

@[simp] theorem State.rxSymbol_ibQueue (s : State) (p : Nat) (l : List RxTone) :
    (State.rxSymbol s p l).mgmt.ibQueue = s.mgmt.ibQueue := by
  simp [State.rxSymbol]

/-! ### Overhead -/

@[simp] theorem State.buildFrames_ibQueue (s : State) (p : Nat) :
    (State.buildFrames s p).mgmt.ibQueue = s.mgmt.ibQueue := by
  unfold State.buildFrames
  try dsimp only
  refine (foldl_ibQueue _ (fun s x => ?_) _ _).trans ?_
  · (repeat' split) <;> simp
  · simp

@[simp] theorem State.startSra_ibQueue (s : State) (l : Nat) (down : Bool) (t : Store Nat) :
    (State.startSra s l down t).mgmt.ibQueue = s.mgmt.ibQueue := by
  simp [State.startSra]

@[simp] theorem State.sraCheck_ibQueue (s : State) (l : Nat) :
    (State.sraCheck s l).mgmt.ibQueue = s.mgmt.ibQueue := by
  simp [State.sraCheck]

@[simp] theorem State.proposeSra_ibQueue (s : State) (l : Nat) :
    (State.proposeSra s l).mgmt.ibQueue = s.mgmt.ibQueue := by
  unfold State.proposeSra; dsimp only; (repeat' split) <;> simp

@[simp] theorem State.sraRefused_ibQueue (s : State) (l : Nat) :
    (State.sraRefused s l).mgmt.ibQueue = s.mgmt.ibQueue := by
  simp [State.sraRefused]

@[simp] theorem State.stayUp_ibQueue (s : State) (ls : List Nat) :
    (State.stayUp s ls).mgmt.ibQueue = s.mgmt.ibQueue := by
  unfold State.stayUp; (repeat' split) <;> simp

@[simp] theorem State.negRefused_ibQueue (s : State) (p : Nat) (n : Neg) :
    (State.negRefused s p n).mgmt.ibQueue = s.mgmt.ibQueue := by
  unfold State.negRefused
  try dsimp only
  refine (foldl_ibQueue _ (fun s x => ?_) _ _).trans ?_
  · (repeat' split) <;> simp
  · simp

@[simp] theorem State.negYields_ibQueue (s : State) (p : Nat) (n : Neg) :
    (State.negYields s p n).mgmt.ibQueue = s.mgmt.ibQueue := by
  simp [State.negYields]

@[simp] theorem State.followLeave_ibQueue (s : State) (cs : List Change) (go : Bool) :
    (State.followLeave s cs go).mgmt.ibQueue = s.mgmt.ibQueue := by
  unfold State.followLeave
  refine foldl_ibQueue _ (fun s x => ?_) _ _
  try dsimp only
  (repeat' split) <;> simp

@[simp] theorem State.dropTheirs_ibQueue (s : State) (p : Nat) :
    (State.dropTheirs s p).mgmt.ibQueue = s.mgmt.ibQueue := by
  unfold State.dropTheirs; split <;> simp

@[simp] theorem State.considerTheirs_ibQueue (s : State) (p : Nat) :
    (State.considerTheirs s p).mgmt.ibQueue = s.mgmt.ibQueue := by
  unfold State.considerTheirs; split <;> simp

/-! ### Signal -/

@[simp] theorem State.sendData_ibQueue (s : State) (n : Nat) :
    (State.sendData s n).2.mgmt.ibQueue = s.mgmt.ibQueue := by
  unfold State.sendData
  generalize List.filter _ _ = l
  suffices h : ∀ (l : List Nat) (st : Store Cx × State), st.2.mgmt.ibQueue = s.mgmt.ibQueue →
      (l.foldl (fun (st : Store Cx × State) p =>
        let b := st.2.portBits p
        let x := b.2.placeSymbol p n b.1
        let sent := x.1.filter fun e => s.isVTail (e.1 / 128) || s.isActive (e.1 / 128)
        (sent.foldl (fun m e => Store.set m Cx.zero e.1 e.2) st.1,
          (b.2.modPort p fun y => { y with txScr := x.2 }).ageDtus p b.1.length)) st).2.mgmt.ibQueue = s.mgmt.ibQueue from
    h l ([], s) rfl
  intro l
  induction l with
  | nil => intro st h; exact h
  | cons p l ih =>
    intro st h
    rw [List.foldl_cons]
    exact ih _ (by dsimp only; rw [State.ageDtus_ibQueue, State.modPort_ibQueue, State.portBits_ibQueue, h])

@[simp] theorem State.symbolX_ibQueue (s : State) (n : Nat) :
    (State.symbolX s n).2.mgmt.ibQueue = s.mgmt.ibQueue := by
  unfold State.symbolX; split <;> simp

@[simp] theorem State.driveLine_ibQueue (s : State) (t : Store Cx) (l : Nat) :
    (State.driveLine s t l).mgmt.ibQueue = s.mgmt.ibQueue := by
  unfold State.driveLine; dsimp only; (repeat' split) <;> simp

@[simp] theorem State.drive_ibQueue (s : State) (t : Store Cx) :
    (State.drive s t).mgmt.ibQueue = s.mgmt.ibQueue := by
  simp [State.drive]

@[simp] theorem State.noteAmps_ibQueue (s : State) :
    (State.noteAmps s).mgmt.ibQueue = s.mgmt.ibQueue := by
  simp [State.noteAmps]

@[simp] theorem State.stampTx_ibQueue (s : State) (e : TimedMessage) :
    (State.stampTx s e).mgmt.ibQueue = s.mgmt.ibQueue := by
  unfold State.stampTx; (repeat' split) <;> simp

@[simp] theorem State.ageRange_ibQueue (s : State) :
    (State.ageRange s).mgmt.ibQueue = s.mgmt.ibQueue := by
  simp [State.ageRange]

@[simp] theorem State.takeCensus_ibQueue (s : State) :
    (State.takeCensus s).mgmt.ibQueue = s.mgmt.ibQueue := by
  unfold State.takeCensus; split <;> simp

@[simp] theorem State.trackFeq_ibQueue (s : State) (n : Nat) (l : Nat) (k : Nat) (e : Cx) (y : Cx) :
    (State.trackFeq s n l k e y).mgmt.ibQueue = s.mgmt.ibQueue := by
  simp [State.trackFeq]

@[simp] theorem State.accumulate_ibQueue (s : State) (l : Nat) (bs : List Bool) (y : Nat → Cx) :
    (State.accumulate s l bs y).mgmt.ibQueue = s.mgmt.ibQueue := by
  simp [State.accumulate]

@[simp] theorem State.countError2_ibQueue (s : State) (l : Nat) (k : Nat) (e : Cx) :
    (State.countError2 s l k e).mgmt.ibQueue = s.mgmt.ibQueue := by
  simp [State.countError2]

@[simp] theorem State.notePilotError_ibQueue (s : State) (l : Nat) (k : Nat) (e : Cx) :
    (State.notePilotError s l k e).mgmt.ibQueue = s.mgmt.ibQueue := by
  simp [State.notePilotError]

@[simp] theorem State.useTone_ibQueue (s : State) (n : Nat) (l : Nat) (k : Nat) (y : Cx) :
    (State.useTone s n l k y).mgmt.ibQueue = s.mgmt.ibQueue := by
  simp [State.useTone]

@[simp] theorem State.useLine_ibQueue (s : State) (n : Nat) (l : Nat) (v : Store Cx) :
    (State.useLine s n l v).mgmt.ibQueue = s.mgmt.ibQueue := by
  simp [State.useLine]

@[simp] theorem State.addC_ibQueue (s : State) (key : Nat) (c : Cx) :
    (State.addC s key c).mgmt.ibQueue = s.mgmt.ibQueue := by
  simp [State.addC]

@[simp] theorem State.addPowerC_ibQueue (s : State) (key : Nat) (c : Cx) :
    (State.addPowerC s key c).mgmt.ibQueue = s.mgmt.ibQueue := by
  simp [State.addPowerC]

@[simp] theorem State.joinPilot_ibQueue (s : State) (first : Bool) (js : List Nat) (us : Store Cx) :
    (State.joinPilot s first js us).mgmt.ibQueue = s.mgmt.ibQueue := by
  unfold State.joinPilot
  refine foldl_ibQueue _ (fun s d => ?_) _ _
  refine foldl_ibQueue _ (fun s k => ?_) _ _
  dsimp only
  refine (foldl_ibQueue _ (fun s j => ?_) _ _).trans ?_ <;> simp

@[simp] theorem State.joinData_ibQueue (s : State) (n : Nat) (js : List Nat) (us vs : Store Cx) :
    (State.joinData s n js us vs).mgmt.ibQueue = s.mgmt.ibQueue := by
  unfold State.joinData
  refine foldl_ibQueue _ (fun s d => ?_) _ _
  refine foldl_ibQueue _ (fun s k => ?_) _ _
  dsimp only
  refine (foldl_ibQueue _ (fun s j => ?_) _ _).trans ?_ <;> simp

@[simp] theorem State.joinSymbol_ibQueue (s : State) (n : Nat) (us : Store Cx) (vs : Store Cx) :
    (State.joinSymbol s n us vs).mgmt.ibQueue = s.mgmt.ibQueue := by
  unfold State.joinSymbol; split <;> simp

@[simp] theorem State.receiveData_ibQueue (s : State) (n : Nat) (got : List Nat) (vs : Store Cx) :
    (State.receiveData s n got vs).mgmt.ibQueue = s.mgmt.ibQueue := by
  simp [State.receiveData]

@[simp] theorem State.declareDead_ibQueue (s : State) (l : Nat) :
    (State.declareDead s l).mgmt.ibQueue = s.mgmt.ibQueue := by
  unfold State.declareDead; split <;> simp

@[simp] theorem State.powerTest_ibQueue (s : State) (n : Nat) (l : Nat) (ys : Store Cx) :
    (State.powerTest s n l ys).mgmt.ibQueue = s.mgmt.ibQueue := by
  simp [State.powerTest]

@[simp] theorem State.meterSamples_ibQueue (s : State) (y : LineSamples) :
    (State.meterSamples s y).mgmt.ibQueue = s.mgmt.ibQueue := by
  simp [State.meterSamples]

@[simp] theorem State.wakeHeard_ibQueue (s : State) (p : Nat) :
    (State.wakeHeard s p).mgmt.ibQueue = s.mgmt.ibQueue := by
  simp [State.wakeHeard]

@[simp] theorem State.trainingHeard_ibQueue (s : State) (l : Nat) :
    (State.trainingHeard s l).mgmt.ibQueue = s.mgmt.ibQueue := by
  simp [State.trainingHeard]

@[simp] theorem State.stampRx_ibQueue (s : State) (e : TimedMessage) :
    (State.stampRx s e).mgmt.ibQueue = s.mgmt.ibQueue := by
  simp [State.stampRx]

@[simp] theorem State.joinMissing_ibQueue (s : State) (n : Nat) (missing : List Nat) :
    (State.joinMissing s n missing).mgmt.ibQueue = s.mgmt.ibQueue := by
  unfold State.joinMissing; split <;> simp

@[simp] theorem State.joinOffset_ibQueue (s : State) (l : Nat) (sum : Int) :
    (State.joinOffset s l sum).mgmt.ibQueue = s.mgmt.ibQueue := by
  unfold State.joinOffset; split <;> simp

@[simp] theorem State.takeFeedback_ibQueue (s : State) (l : Nat) (i : Nat) (re : Option Nat) (im : Option Nat) :
    (State.takeFeedback s l i re im).mgmt.ibQueue = s.mgmt.ibQueue := by
  unfold State.takeFeedback; split <;> simp

@[simp] theorem State.takeByte_ibQueue (s : State) (l : Nat) (n : Nat) (b : Option Nat) :
    (State.takeByte s l n b).mgmt.ibQueue = s.mgmt.ibQueue := by
  simp [State.takeByte]

@[simp] theorem State.endFrame_ibQueue (s : State) (l : Nat) :
    (State.endFrame s l).mgmt.ibQueue = s.mgmt.ibQueue := by
  simp [State.endFrame]

@[simp] theorem State.takeSeal_ibQueue (s : State) (p : Nat) (code : Nat) :
    (State.takeSeal s p code).mgmt.ibQueue = s.mgmt.ibQueue := by
  unfold State.takeSeal; split <;> simp

@[simp] theorem State.takeTable_ibQueue (s : State) (l : Nat) (id : Nat) (rx : Bool) (t : Store Nat) :
    (State.takeTable s l id rx t).mgmt.ibQueue = s.mgmt.ibQueue := by
  simp [State.takeTable]

@[simp] theorem State.authorTable_ibQueue (s : State) (l : Nat) :
    (State.authorTable s l).mgmt.ibQueue = s.mgmt.ibQueue := by
  simp [State.authorTable]

@[simp] theorem State.proposeEntry_ibQueue (s : State) (p : Nat) :
    (State.proposeEntry s p).mgmt.ibQueue = s.mgmt.ibQueue := by
  simp [State.proposeEntry]

@[simp] theorem State.takeSegment_ibQueue (s : State) (l : Nat) (m : List Nat) :
    (State.takeSegment s l m).mgmt.ibQueue = s.mgmt.ibQueue := by
  unfold State.takeSegment; dsimp only; (repeat' split) <;> simp

/-! ### Xengine -/

@[simp] theorem State.endAwaiting_ibQueue (s : State) (m : Nat) (ks : List Nat) :
    (State.endAwaiting s m ks).mgmt.ibQueue = s.mgmt.ibQueue := by
  simp [State.endAwaiting]

@[simp] theorem State.landFxuTone_ibQueue (s : State) (ls : List Nat) (k : Nat) :
    (State.landFxuTone s ls k).mgmt.ibQueue = s.mgmt.ibQueue := by
  simp [State.landFxuTone]

@[simp] theorem State.landPrd_ibQueue (s : State) (ls : List Nat) (k : Nat) :
    (State.landPrd s ls k).mgmt.ibQueue = s.mgmt.ibQueue := by
  simp [State.landPrd]

@[simp] theorem State.markGroups_ibQueue (s : State) (g : Nat) (ls : List Nat) :
    (State.markGroups s g ls).mgmt.ibQueue = s.mgmt.ibQueue := by
  simp [State.markGroups]

@[simp] theorem State.storeEstimate_ibQueue (s : State) (m : Nat) (k : Nat) (v : Nat) (d : Nat) (c : Cx) :
    (State.storeEstimate s m k v d c).mgmt.ibQueue = s.mgmt.ibQueue := by
  simp [State.storeEstimate]

@[simp] theorem State.joinWritten_ibQueue (s : State) (j : Join) (phase : JoinPhase) (more : Bool) :
    (State.joinWritten s j phase more).mgmt.ibQueue = s.mgmt.ibQueue := by
  simp [State.joinWritten]

@[simp] theorem State.writeColumns_ibQueue (s : State) (j : Join) :
    (State.writeColumns s j).mgmt.ibQueue = s.mgmt.ibQueue := by
  unfold State.writeColumns
  refine foldl_ibQueue _ (fun s d => ?_) _ _
  refine foldl_ibQueue _ (fun s v => ?_) _ _
  refine foldl_ibQueue _ (fun s k => ?_) _ _
  simp

@[simp] theorem State.writeRows_ibQueue (s : State) (j : Join) :
    (State.writeRows s j).mgmt.ibQueue = s.mgmt.ibQueue := by
  unfold State.writeRows
  refine foldl_ibQueue _ (fun s d => ?_) _ _
  refine foldl_ibQueue _ (fun s k => ?_) _ _
  dsimp only
  split
  · refine foldl_ibQueue _ (fun s j => ?_) _ _
    simp
  · rw [State.setFeq_ibQueue]
    refine foldl_ibQueue _ (fun s j => ?_) _ _
    simp

@[simp] theorem State.writeFxu_ibQueue (s : State) (j : Join) :
    (State.writeFxu s j).mgmt.ibQueue = s.mgmt.ibQueue := by
  unfold State.writeFxu
  refine foldl_ibQueue _ (fun s d => ?_) _ _
  refine foldl_ibQueue _ (fun s k => ?_) _ _
  dsimp only
  refine (foldl_ibQueue _ (fun s j => ?_) _ _).trans ?_
  · simp
  · refine foldl_ibQueue _ (fun s j => ?_) _ _
    simp

@[simp] theorem State.writeJoinPrd_ibQueue (s : State) (j : Join) :
    (State.writeJoinPrd s j).mgmt.ibQueue = s.mgmt.ibQueue := by
  unfold State.writeJoinPrd
  refine foldl_ibQueue _ (fun s d => ?_) _ _
  refine foldl_ibQueue _ (fun s v => ?_) _ _
  refine foldl_ibQueue _ (fun s k => ?_) _ _
  simp

@[simp] theorem State.withActive_ibQueue (s : State) (ls : List Nat) :
    (State.withActive s ls).mgmt.ibQueue = s.mgmt.ibQueue := by
  simp [State.withActive]

@[simp] theorem State.cutGain_ibQueue (s : State) (ls : List Nat) (l : Nat) (k : Nat) (a4 : Nat) :
    (State.cutGain s ls l k a4).mgmt.ibQueue = s.mgmt.ibQueue := by
  induction a4 generalizing s with
  | zero => rfl
  | succ n ih =>
    unfold State.cutGain
    try dsimp only
    (repeat' split) <;> simp [ih]

@[simp] theorem State.showWaiting_ibQueue (s : State) :
    (State.showWaiting s).mgmt.ibQueue = s.mgmt.ibQueue := by
  simp [State.showWaiting]

@[simp] theorem State.startCensus_ibQueue (s : State) (dir : Nat) (l : Nat) :
    (State.startCensus s dir l).mgmt.ibQueue = s.mgmt.ibQueue := by
  simp [State.startCensus]

@[simp] theorem State.finishXw_ibQueue (s : State) (status : Nat) (ce : Nat) :
    (State.finishXw s status ce).mgmt.ibQueue = s.mgmt.ibQueue := by
  simp [State.finishXw]

@[simp] theorem State.blankXw_ibQueue (s : State) :
    (State.blankXw s).mgmt.ibQueue = s.mgmt.ibQueue := by
  simp [State.blankXw]

@[simp] theorem State.startXw_ibQueue (s : State) (write : Bool) (master : Nat) :
    (State.startXw s write master).mgmt.ibQueue = s.mgmt.ibQueue := by
  simp [State.startXw]

@[simp] theorem State.captureRow_ibQueue (s : State) (r : XwRequest) (bad : List (Nat × Bool)) :
    (State.captureRow s r bad).mgmt.ibQueue = s.mgmt.ibQueue := by
  simp [State.captureRow]

@[simp] theorem State.dropRow_ibQueue (s : State) (r : XwRequest) :
    (State.dropRow s r).mgmt.ibQueue = s.mgmt.ibQueue := by
  simp [State.dropRow]

@[simp] theorem State.landRow_ibQueue (s : State) (r : XwRequest) :
    (State.landRow s r).mgmt.ibQueue = s.mgmt.ibQueue := by
  simp [State.landRow]

/-! ### BringUp -/

@[simp] theorem State.send_ibQueue (s : State) (l : Nat) (m : List Nat) (gap : Nat) :
    (State.send s l m gap).mgmt.ibQueue = s.mgmt.ibQueue := by
  simp [State.send]

@[simp] theorem State.enterHandshake_ibQueue (s : State) (l : Nat) :
    (State.enterHandshake s l).mgmt.ibQueue = s.mgmt.ibQueue := by
  simp [State.enterHandshake]

@[simp] theorem State.pairFailed_ibQueue (s : State) (l : Nat) :
    (State.pairFailed s l).mgmt.ibQueue = s.mgmt.ibQueue := by
  simp [State.pairFailed]

@[simp] theorem State.sendOffer_ibQueue (s : State) (l : Nat) (gap : Nat) :
    (State.sendOffer s l gap).mgmt.ibQueue = s.mgmt.ibQueue := by
  simp [State.sendOffer]

@[simp] theorem State.recordPartner_ibQueue (s : State) (l : Nat) (m : List Nat) :
    (State.recordPartner s l m).mgmt.ibQueue = s.mgmt.ibQueue := by
  simp [State.recordPartner]

@[simp] theorem State.takeGrid_ibQueue (s : State) (l : Nat) (sfc : Nat) :
    (State.takeGrid s l sfc).mgmt.ibQueue = s.mgmt.ibQueue := by
  simp [State.takeGrid]

@[simp] theorem State.sendGo_ibQueue (s : State) (l : Nat) (gap : Nat) :
    (State.sendGo s l gap).mgmt.ibQueue = s.mgmt.ibQueue := by
  simp [State.sendGo]

@[simp] theorem State.setTrainedFeq_ibQueue (s : State) (l : Nat) :
    (State.setTrainedFeq s l).mgmt.ibQueue = s.mgmt.ibQueue := by
  simp [State.setTrainedFeq]

@[simp] theorem State.endAttempt_ibQueue (s : State) (l : Nat) :
    (State.endAttempt s l).mgmt.ibQueue = s.mgmt.ibQueue := by
  simp [State.endAttempt]

@[simp] theorem State.showSnr_ibQueue (s : State) (l : Nat) :
    (State.showSnr s l).mgmt.ibQueue = s.mgmt.ibQueue := by
  unfold State.showSnr; dsimp only; (repeat' split) <;> simp

@[simp] theorem State.watchSnr_ibQueue (s : State) (l : Nat) :
    (State.watchSnr s l).mgmt.ibQueue = s.mgmt.ibQueue := by
  unfold State.watchSnr; dsimp only; (repeat' split) <;> simp

@[simp] theorem State.giveUpRetrain_ibQueue (s : State) (l : Nat) :
    (State.giveUpRetrain s l).mgmt.ibQueue = s.mgmt.ibQueue := by
  simp [State.giveUpRetrain]

@[simp] theorem State.tailLost_ibQueue (s : State) (l : Nat) :
    (State.tailLost s l).mgmt.ibQueue = s.mgmt.ibQueue := by
  simp [State.tailLost]

@[simp] theorem State.proposeBank_ibQueue (s : State) (p : Nat) :
    (State.proposeBank s p).mgmt.ibQueue = s.mgmt.ibQueue := by
  simp [State.proposeBank]

@[simp] theorem State.startWake_ibQueue (s : State) (p : Nat) :
    (State.startWake s p).mgmt.ibQueue = s.mgmt.ibQueue := by
  simp [State.startWake]

/-! ### Monitor -/

@[simp] theorem State.armSync_ibQueue (s : State) (l : Nat) (src : Nat) :
    (State.armSync s l src).mgmt.ibQueue = s.mgmt.ibQueue := by
  simp [State.armSync]

@[simp] theorem State.cancelSync_ibQueue (s : State) (l : Nat) :
    (State.cancelSync s l).mgmt.ibQueue = s.mgmt.ibQueue := by
  simp [State.cancelSync]

@[simp] theorem State.swapBanks_ibQueue (s : State) (l : Nat) :
    (State.swapBanks s l).mgmt.ibQueue = s.mgmt.ibQueue := by
  simp [State.swapBanks]

@[simp] theorem State.startCapture_ibQueue (s : State) (l : Nat) :
    (State.startCapture s l).mgmt.ibQueue = s.mgmt.ibQueue := by
  simp [State.startCapture]

@[simp] theorem State.clearAll_ibQueue (s : State) (fs : List Fld) (l : Nat) :
    (State.clearAll s fs l).mgmt.ibQueue = s.mgmt.ibQueue := by
  simp [State.clearAll]

@[simp] theorem State.restartWatch_ibQueue (s : State) (l : Nat) :
    (State.restartWatch s l).mgmt.ibQueue = s.mgmt.ibQueue := by
  simp [State.restartWatch]

@[simp] theorem State.clearCounters_ibQueue (s : State) (l : Nat) :
    (State.clearCounters s l).mgmt.ibQueue = s.mgmt.ibQueue := by
  simp [State.clearCounters]

@[simp] theorem State.lineSecond_ibQueue (s : State) (l : Nat) :
    (State.lineSecond s l).mgmt.ibQueue = s.mgmt.ibQueue := by
  simp [State.lineSecond]

@[simp] theorem State.portSecond_ibQueue (s : State) (p : Nat) :
    (State.portSecond s p).mgmt.ibQueue = s.mgmt.ibQueue := by
  simp [State.portSecond]

@[simp] theorem State.setSlot_ibQueue (s : State) (c : Nat) (kind : Nat) (l : Nat) :
    (State.setSlot s c kind l).mgmt.ibQueue = s.mgmt.ibQueue := by
  simp [State.setSlot]

@[simp] theorem State.freeSlot_ibQueue (s : State) (l : Nat) :
    (State.freeSlot s l).mgmt.ibQueue = s.mgmt.ibQueue := by
  simp [State.freeSlot]

@[simp] theorem State.blankReflect_ibQueue (s : State) (l : Nat) :
    (State.blankReflect s l).mgmt.ibQueue = s.mgmt.ibQueue := by
  simp [State.blankReflect]

@[simp] theorem State.endReflect_ibQueue (s : State) (l : Nat) (reason : Nat) :
    (State.endReflect s l reason).mgmt.ibQueue = s.mgmt.ibQueue := by
  simp [State.endReflect]

@[simp] theorem State.startReflect_ibQueue (s : State) (l : Nat) :
    (State.startReflect s l).mgmt.ibQueue = s.mgmt.ibQueue := by
  simp [State.startReflect]

@[simp] theorem State.interruptReflect_ibQueue (s : State) (l : Nat) :
    (State.interruptReflect s l).mgmt.ibQueue = s.mgmt.ibQueue := by
  simp [State.interruptReflect]

@[simp] theorem State.landReflect_ibQueue (s : State) (l : Nat) (r : ReflX) (run : ReflectRun) :
    (State.landReflect s l r run).mgmt.ibQueue = s.mgmt.ibQueue := by
  simp [State.landReflect]

/-! ### Cal -/

@[simp] theorem State.markDue_ibQueue (s : State) (l : Nat) (source : Nat) (moment : Nat) (full : Bool) :
    (State.markDue s l source moment full).mgmt.ibQueue = s.mgmt.ibQueue := by
  simp [State.markDue]

@[simp] theorem State.temperatureDue_ibQueue (s : State) :
    (State.temperatureDue s).mgmt.ibQueue = s.mgmt.ibQueue := by
  simp [State.temperatureDue]

@[simp] theorem State.factoryValues_ibQueue (s : State) (l : Nat) :
    (State.factoryValues s l).mgmt.ibQueue = s.mgmt.ibQueue := by
  simp [State.factoryValues]

@[simp] theorem State.giveUpCal_ibQueue (s : State) (l : Nat) :
    (State.giveUpCal s l).mgmt.ibQueue = s.mgmt.ibQueue := by
  simp [State.giveUpCal]

@[simp] theorem State.endCal_ibQueue (s : State) (l : Nat) (reason : Nat) :
    (State.endCal s l reason).mgmt.ibQueue = s.mgmt.ibQueue := by
  simp [State.endCal]

@[simp] theorem State.showMeasured_ibQueue (s : State) (l : Nat) (both : Bool) :
    (State.showMeasured s l both).mgmt.ibQueue = s.mgmt.ibQueue := by
  unfold State.showMeasured; dsimp only; (repeat' split) <;> simp

@[simp] theorem State.cutRun_ibQueue (s : State) (l reason : Nat) :
    (State.cutRun s l reason).mgmt.ibQueue = s.mgmt.ibQueue := by
  simp [State.cutRun]

@[simp] theorem State.stopCal_ibQueue (s : State) (l : Nat) (reason : Nat) :
    (State.stopCal s l reason).mgmt.ibQueue = s.mgmt.ibQueue := by
  simp [State.stopCal]

@[simp] theorem State.beginCal_ibQueue (s : State) (l : Nat) (st : Nat) :
    (State.beginCal s l st).mgmt.ibQueue = s.mgmt.ibQueue := by
  simp [State.beginCal]

@[simp] theorem State.sweepGaps_ibQueue (s : State) :
    (State.sweepGaps s).mgmt.ibQueue = s.mgmt.ibQueue := by
  unfold State.sweepGaps
  refine foldl_ibQueue _ (fun s x => ?_) _ _
  try dsimp only
  (repeat' split) <;> simp

@[simp] theorem State.requestCal_ibQueue (s : State) (l : Nat) :
    (State.requestCal s l).mgmt.ibQueue = s.mgmt.ibQueue := by
  simp [State.requestCal]

@[simp] theorem State.requestAll_ibQueue (s : State) :
    (State.requestAll s).mgmt.ibQueue = s.mgmt.ibQueue := by
  simp [State.requestAll]

@[simp] theorem State.calValues_ibQueue (s : State) (l : Nat) (full : Bool) (r : CalResult) :
    (State.calValues s l full r).2.mgmt.ibQueue = s.mgmt.ibQueue := by
  simp [State.calValues]

@[simp] theorem State.showCal_ibQueue (s : State) (l : Nat) (v : CalValues) (r : CalResult) :
    (State.showCal s l v r).mgmt.ibQueue = s.mgmt.ibQueue := by
  simp [State.showCal]

@[simp] theorem State.completeCal_ibQueue (s : State) (l : Nat) (r : CalResult) :
    (State.completeCal s l r).mgmt.ibQueue = s.mgmt.ibQueue := by
  simp [State.completeCal]

@[simp] theorem State.gapPeer_ibQueue (s : State) (l : Nat) :
    (State.gapPeer s l).mgmt.ibQueue = s.mgmt.ibQueue := by
  simp [State.gapPeer]

@[simp] theorem State.startPowerup_ibQueue (s : State) (c : Nat) :
    (State.startPowerup s c).mgmt.ibQueue = s.mgmt.ibQueue := by
  simp [State.startPowerup]

/-! ### Lanes -/

@[simp] theorem State.sortPort_ibQueue (s : State) (p : Nat) :
    (State.sortPort s p).mgmt.ibQueue = s.mgmt.ibQueue := by
  simp [State.sortPort]

@[simp] theorem State.sortLane_ibQueue (s : State) (l : Nat) :
    (State.sortLane s l).mgmt.ibQueue = s.mgmt.ibQueue := by
  simp [State.sortLane]

@[simp] theorem State.darkenStd_ibQueue (s : State) (p : Nat) :
    (State.darkenStd s p).mgmt.ibQueue = s.mgmt.ibQueue := by
  unfold State.darkenStd; (repeat' split) <;> simp

@[simp] theorem State.flushStd_ibQueue (s : State) (p : Nat) :
    (State.flushStd s p).mgmt.ibQueue = s.mgmt.ibQueue := by
  unfold State.flushStd; (repeat' split) <;> simp

@[simp] theorem State.zeroStamps_ibQueue (s : State) (p : Nat) :
    (State.zeroStamps s p).mgmt.ibQueue = s.mgmt.ibQueue := by
  simp [State.zeroStamps]

@[simp] theorem State.laneTo_ibQueue (s : State) (l : Nat) (st : Nat) :
    (State.laneTo s l st).mgmt.ibQueue = s.mgmt.ibQueue := by
  simp [State.laneTo]

@[simp] theorem State.startLane_ibQueue (s : State) (l : Nat) :
    (State.startLane s l).mgmt.ibQueue = s.mgmt.ibQueue := by
  simp [State.startLane]

@[simp] theorem State.stopLane_ibQueue (s : State) (l : Nat) :
    (State.stopLane s l).mgmt.ibQueue = s.mgmt.ibQueue := by
  simp [State.stopLane]

@[simp] theorem State.restartLane_ibQueue (s : State) (l : Nat) :
    (State.restartLane s l).mgmt.ibQueue = s.mgmt.ibQueue := by
  simp [State.restartLane]

@[simp] theorem State.retrainLane_ibQueue (s : State) (l : Nat) :
    (State.retrainLane s l).mgmt.ibQueue = s.mgmt.ibQueue := by
  simp [State.retrainLane]

@[simp] theorem State.loopLane_ibQueue (s : State) (l : Nat) :
    (State.loopLane s l).mgmt.ibQueue = s.mgmt.ibQueue := by
  simp [State.loopLane]

@[simp] theorem State.laneSends_ibQueue (s : State) (l : Nat) (bs : List Block) :
    (State.laneSends s l bs).mgmt.ibQueue = s.mgmt.ibQueue := by
  simp [State.laneSends]

@[simp] theorem State.loseLane_ibQueue (s : State) (l : Nat) (reason : Nat) (c : Nat) :
    (State.loseLane s l reason c).mgmt.ibQueue = s.mgmt.ibQueue := by
  simp [State.loseLane]

@[simp] theorem State.sendStamp_ibQueue (s : State) (p : Nat) :
    (State.sendStamp s p).mgmt.ibQueue = s.mgmt.ibQueue := by
  simp [State.sendStamp]

@[simp] theorem State.grantStamp_ibQueue (s : State) (p : Nat) :
    (State.grantStamp s p).mgmt.ibQueue = s.mgmt.ibQueue := by
  unfold State.grantStamp; (repeat' split) <;> simp

@[simp] theorem State.sendPause_ibQueue (s : State) (p : Nat) (quanta : Nat) :
    (State.sendPause s p quanta).mgmt.ibQueue = s.mgmt.ibQueue := by
  simp [State.sendPause]

@[simp] theorem State.checkPause_ibQueue (s : State) (p : Nat) :
    (State.checkPause s p).mgmt.ibQueue = s.mgmt.ibQueue := by
  simp [State.checkPause]

@[simp] theorem State.hostControl_ibQueue (s : State) (l : Nat) (p : Nat) (b : Block) :
    (State.hostControl s l p b).mgmt.ibQueue = s.mgmt.ibQueue := by
  simp [State.hostControl]

@[simp] theorem State.countBlock_ibQueue (s : State) (p : Nat) (b : Block) :
    (State.countBlock s p b).mgmt.ibQueue = s.mgmt.ibQueue := by
  simp [State.countBlock]

@[simp] theorem State.noteStat_ibQueue (s : State) (p : Nat) :
    (State.noteStat s p).mgmt.ibQueue = s.mgmt.ibQueue := by
  simp [State.noteStat]

@[simp] theorem State.takePeer_ibQueue (s : State) (p : Nat) (up : Nat) (onward : Nat) (hops : Nat) :
    (State.takePeer s p up onward hops).mgmt.ibQueue = s.mgmt.ibQueue := by
  simp [State.takePeer]

@[simp] theorem State.syncBit_ibQueue (s : State) (F : Fld) (c : Nat) (v : Nat) :
    (State.syncBit s F c v).mgmt.ibQueue = s.mgmt.ibQueue := by
  simp [State.syncBit]

@[simp] theorem State.syncFrame_ibQueue (s : State) (sfc : Nat) :
    (State.syncFrame s sfc).mgmt.ibQueue = s.mgmt.ibQueue := by
  simp [State.syncFrame]

@[simp] theorem State.holdTrim_ibQueue (s : State) (src : Nat) :
    (State.holdTrim s src).mgmt.ibQueue = s.mgmt.ibQueue := by
  simp [State.holdTrim]

@[simp] theorem State.syncMode_ibQueue (s : State) :
    (State.syncMode s).mgmt.ibQueue = s.mgmt.ibQueue := by
  simp [State.syncMode]

/-! ### Isolation -/

@[simp] theorem State.landLetterbox_ibQueue (s : State) (c : Nat) (tag : Nat) (status : Nat) (resp : List Nat) :
    (State.landLetterbox s c tag status resp).mgmt.ibQueue = s.mgmt.ibQueue := by
  simp [State.landLetterbox]

@[simp] theorem State.abortLetterbox_ibQueue (s : State) :
    (State.abortLetterbox s).mgmt.ibQueue = s.mgmt.ibQueue := by
  simp [State.abortLetterbox]

@[simp] theorem State.restartStoker_ibQueue (s : State) :
    (State.restartStoker s).mgmt.ibQueue = s.mgmt.ibQueue := by
  simp [State.restartStoker]

@[simp] theorem State.writeVx_ibQueue (s : State) (mv : Nat) :
    (State.writeVx s mv).mgmt.ibQueue = s.mgmt.ibQueue := by
  simp [State.writeVx]

@[simp] theorem State.writeSlew_ibQueue (s : State) :
    (State.writeSlew s).mgmt.ibQueue = s.mgmt.ibQueue := by
  simp [State.writeSlew]

@[simp] theorem State.slowTo_ibQueue (s : State) (g : Nat) :
    (State.slowTo s g).mgmt.ibQueue = s.mgmt.ibQueue := by
  simp [State.slowTo]

@[simp] theorem State.speedTo_ibQueue (s : State) (g : Nat) :
    (State.speedTo s g).mgmt.ibQueue = s.mgmt.ibQueue := by
  simp [State.speedTo]

@[simp] theorem State.emergencyP3_ibQueue (s : State) :
    (State.emergencyP3 s).mgmt.ibQueue = s.mgmt.ibQueue := by
  simp [State.emergencyP3]

@[simp] theorem State.dropToP3_ibQueue (s : State) :
    (State.dropToP3 s).mgmt.ibQueue = s.mgmt.ibQueue := by
  simp [State.dropToP3]

@[simp] theorem State.linesChanged_ibQueue (s : State) (src : Nat) :
    (State.linesChanged s src).mgmt.ibQueue = s.mgmt.ibQueue := by
  simp [State.linesChanged]

@[simp] theorem State.markIsolated_ibQueue (s : State) (src : Nat) :
    (State.markIsolated s src).mgmt.ibQueue = s.mgmt.ibQueue := by
  simp [State.markIsolated]

@[simp] theorem State.release_ibQueue (s : State) (src : Nat) :
    (State.release s src).mgmt.ibQueue = s.mgmt.ibQueue := by
  simp [State.release]

@[simp] theorem State.isolateLine_ibQueue (s : State) (l : Nat) :
    (State.isolateLine s l).mgmt.ibQueue = s.mgmt.ibQueue := by
  simp [State.isolateLine]

@[simp] theorem State.isolateLane_ibQueue (s : State) (l : Nat) :
    (State.isolateLane s l).mgmt.ibQueue = s.mgmt.ibQueue := by
  simp [State.isolateLane]

@[simp] theorem State.isolateCluster_ibQueue (s : State) (c : Nat) :
    (State.isolateCluster s c).mgmt.ibQueue = s.mgmt.ibQueue := by
  simp [State.isolateCluster]

@[simp] theorem State.isolate_ibQueue (s : State) (src : Nat) :
    (State.isolate s src).mgmt.ibQueue = s.mgmt.ibQueue := by
  simp [State.isolate]

@[simp] theorem State.reactS2_ibQueue (s : State) (src : Nat) :
    (State.reactS2 s src).mgmt.ibQueue = s.mgmt.ibQueue := by
  simp [State.reactS2]

@[simp] theorem State.endHandling_ibQueue (s : State) (src : Nat) :
    (State.endHandling s src).mgmt.ibQueue = s.mgmt.ibQueue := by
  simp [State.endHandling]

@[simp] theorem State.safeState_ibQueue (s : State) :
    (State.safeState s).mgmt.ibQueue = s.mgmt.ibQueue := by
  simp [State.safeState]

@[simp] theorem State.raiseS2_ibQueue (s : State) (code : Nat) (src : Nat) (addr : Nat) :
    (State.raiseS2 s code src addr).mgmt.ibQueue = s.mgmt.ibQueue := by
  simp [State.raiseS2]

@[simp] theorem State.raiseS3_ibQueue (s : State) (code : Nat) (src : Nat) (addr : Nat) :
    (State.raiseS3 s code src addr).mgmt.ibQueue = s.mgmt.ibQueue := by
  simp [State.raiseS3]

@[simp] theorem State.disagree_ibQueue (s : State) (src : Nat) :
    (State.disagree s src).mgmt.ibQueue = s.mgmt.ibQueue := by
  simp [State.disagree]

/-! ### Landing -/

@[simp] theorem State.stage_ibQueue (s : State) (F : Fld) (i : Nat) (j : Nat) (v : Nat) :
    (State.stage s F i j v).mgmt.ibQueue = s.mgmt.ibQueue := by
  simp [State.stage]

@[simp] theorem State.applyField_ibQueue (s : State) (F : Fld) (i : Nat) (j : Nat) :
    (State.applyField s F i j).mgmt.ibQueue = s.mgmt.ibQueue := by
  unfold State.applyField; split <;> simp

@[simp] theorem State.emptyEnvelope_ibQueue (s : State) (p : Page) (i : Nat) :
    (State.emptyEnvelope s p i).mgmt.ibQueue = s.mgmt.ibQueue := by
  simp [State.emptyEnvelope]

@[simp] theorem State.applyFields_ibQueue (s : State) (p : Page) (i : Nat) :
    (State.applyFields s p i).mgmt.ibQueue = s.mgmt.ibQueue := by
  simp [State.applyFields]

@[simp] theorem State.refreshMaskWait_ibQueue (s : State) (l : Nat) :
    (State.refreshMaskWait s l).mgmt.ibQueue = s.mgmt.ibQueue := by
  simp [State.refreshMaskWait]

@[simp] theorem State.dropPolls_ibQueue (s : State) (l : Nat) :
    (State.dropPolls s l).mgmt.ibQueue = s.mgmt.ibQueue := by
  simp [State.dropPolls]

@[simp] theorem State.applyReach_ibQueue (s : State) (l : Nat) :
    (State.applyReach s l).mgmt.ibQueue = s.mgmt.ibQueue := by
  simp [State.applyReach]

@[simp] theorem State.applyAfe_ibQueue (s : State) (l : Nat) :
    (State.applyAfe s l).mgmt.ibQueue = s.mgmt.ibQueue := by
  simp [State.applyAfe]

@[simp] theorem State.releaseHeld_ibQueue (s : State) (l : Nat) :
    (State.releaseHeld s l).mgmt.ibQueue = s.mgmt.ibQueue := by
  simp [State.releaseHeld]

/-! ### Reach -/

@[simp] theorem State.reachPga_ibQueue (s : State) (l : Nat) :
    (State.reachPga s l).mgmt.ibQueue = s.mgmt.ibQueue := by
  unfold State.reachPga; split <;> simp

@[simp] theorem State.reachProfile_ibQueue (s : State) (l : Nat) :
    (State.reachProfile s l).mgmt.ibQueue = s.mgmt.ibQueue := by
  simp [State.reachProfile]

@[simp] theorem State.refreshQueue_ibQueue (s : State) (l : Nat) :
    (State.refreshQueue s l).mgmt.ibQueue = s.mgmt.ibQueue := by
  simp [State.refreshQueue]

@[simp] theorem State.toReachHost_ibQueue (s : State) (l : Nat) (bytes : List Nat) :
    (State.toReachHost s l bytes).mgmt.ibQueue = s.mgmt.ibQueue := by
  simp [State.toReachHost]

@[simp] theorem State.statusRecord_ibQueue (s : State) (l : Nat) (addr : Nat) (seq : Nat) (code : Nat) :
    (State.statusRecord s l addr seq code).mgmt.ibQueue = s.mgmt.ibQueue := by
  simp [State.statusRecord]

@[simp] theorem State.endReception_ibQueue (s : State) (l : Nat) :
    (State.endReception s l).mgmt.ibQueue = s.mgmt.ibQueue := by
  simp [State.endReception]

@[simp] theorem State.startPacket_ibQueue (s : State) (l : Nat) (c : ReachChoice) :
    (State.startPacket s l c).mgmt.ibQueue = s.mgmt.ibQueue := by
  simp [State.startPacket]

@[simp] theorem State.beginReception_ibQueue (s : State) (l : Nat) (bin : Nat) (power : Int) :
    (State.beginReception s l bin power).mgmt.ibQueue = s.mgmt.ibQueue := by
  simp [State.beginReception]

@[simp] theorem State.noteEndpoint_ibQueue (s : State) (l : Nat) (x : ReachRx) :
    (State.noteEndpoint s l x).mgmt.ibQueue = s.mgmt.ibQueue := by
  simp [State.noteEndpoint]

@[simp] theorem State.deliverPacket_ibQueue (s : State) (l : Nat) (x : ReachRx) (payload : List Nat) :
    (State.deliverPacket s l x payload).mgmt.ibQueue = s.mgmt.ibQueue := by
  simp [State.deliverPacket]

@[simp] theorem State.goodPacket_ibQueue (s : State) (l : Nat) (x : ReachRx) (payload : List Nat) :
    (State.goodPacket s l x payload).mgmt.ibQueue = s.mgmt.ibQueue := by
  simp [State.goodPacket]

@[simp] theorem State.closeWindow_ibQueue (s : State) (l : Nat) :
    (State.closeWindow s l).mgmt.ibQueue = s.mgmt.ibQueue := by
  simp [State.closeWindow]

/-! ### Standard -/

@[simp] theorem State.refreshQuad_ibQueue (s : State) (q : Nat) :
    (State.refreshQuad s q).mgmt.ibQueue = s.mgmt.ibQueue := by
  simp [State.refreshQuad]

@[simp] theorem State.clearLink_ibQueue (s : State) (q : Nat) :
    (State.clearLink s q).mgmt.ibQueue = s.mgmt.ibQueue := by
  simp [State.clearLink]

@[simp] theorem State.startNegotiation_ibQueue (s : State) (q : Nat) :
    (State.startNegotiation s q).mgmt.ibQueue = s.mgmt.ibQueue := by
  simp [State.startNegotiation]

@[simp] theorem State.startStandard_ibQueue (s : State) (q : Nat) :
    (State.startStandard s q).mgmt.ibQueue = s.mgmt.ibQueue := by
  simp [State.startStandard]

@[simp] theorem State.loseLink_ibQueue (s : State) (q : Nat) :
    (State.loseLink s q).mgmt.ibQueue = s.mgmt.ibQueue := by
  simp [State.loseLink]

@[simp] theorem State.restartNegotiation_ibQueue (s : State) (q : Nat) :
    (State.restartNegotiation s q).mgmt.ibQueue = s.mgmt.ibQueue := by
  simp [State.restartNegotiation]

@[simp] theorem State.countPcs_ibQueue (s : State) (q : Nat) (n : Nat) :
    (State.countPcs s q n).mgmt.ibQueue = s.mgmt.ibQueue := by
  simp [State.countPcs]

@[simp] theorem State.mmdRead_ibQueue (s : State) (p : Nat) (mmd : Nat) (reg : Nat) :
    (State.mmdRead s p mmd reg).2.mgmt.ibQueue = s.mgmt.ibQueue := by
  unfold State.mmdRead; dsimp only; (repeat' split) <;> simp

@[simp] theorem State.advertise_ibQueue (s : State) (q : Nat) (F : Fld) (v : Nat) (from' : List (Nat × Nat)) :
    (State.advertise s q F v from').mgmt.ibQueue = s.mgmt.ibQueue := by
  unfold State.advertise; (repeat' split) <;> simp

@[simp] theorem State.mmdWrite_ibQueue (s : State) (p mmd reg v : Nat) :
    (State.mmdWrite s p mmd reg v).mgmt.ibQueue = s.mgmt.ibQueue := by
  unfold State.mmdWrite; dsimp only; (repeat' split) <;> simp

/-! ### Reset -/

@[simp] theorem State.carry_ibQueue (new : State) (old : State) (i : Nat) (fs : List Fld) :
    (State.carry new old i fs).mgmt.ibQueue = new.mgmt.ibQueue := by
  simp [State.carry]

@[simp] theorem State.gateControl_ibQueue (s : State) :
    (State.gateControl s).mgmt.ibQueue = s.mgmt.ibQueue := by
  unfold State.gateControl; dsimp only; (repeat' split) <;> simp

@[simp] theorem State.coldStart_ibQueue (s : State) :
    (State.coldStart s).mgmt.ibQueue = s.mgmt.ibQueue := by
  simp [State.coldStart]

/-! ### Clocks -/

@[simp] theorem State.setSuspect_ibQueue (s : State) :
    (State.setSuspect s).mgmt.ibQueue = s.mgmt.ibQueue := by
  simp [State.setSuspect]

@[simp] theorem State.refreshTmux_ibQueue (s : State) :
    (State.refreshTmux s).mgmt.ibQueue = s.mgmt.ibQueue := by
  simp [State.refreshTmux]

@[simp] theorem State.referenceLost_ibQueue (s : State) :
    (State.referenceLost s).mgmt.ibQueue = s.mgmt.ibQueue := by
  simp [State.referenceLost]

@[simp] theorem State.startPlls_ibQueue (s : State) (ps : List Nat) :
    (State.startPlls s ps).mgmt.ibQueue = s.mgmt.ibQueue := by
  simp [State.startPlls]

@[simp] theorem State.clusterUp_ibQueue (s : State) (c : Nat) :
    (State.clusterUp s c).mgmt.ibQueue = s.mgmt.ibQueue := by
  simp [State.clusterUp]

@[simp] theorem State.landFreqmon_ibQueue (s : State) (reason : Nat) (count : Nat) (hz : Nat) :
    (State.landFreqmon s reason count hz).mgmt.ibQueue = s.mgmt.ibQueue := by
  simp [State.landFreqmon]

@[simp] theorem State.startFreqmon_ibQueue (s : State) :
    (State.startFreqmon s).mgmt.ibQueue = s.mgmt.ibQueue := by
  simp [State.startFreqmon]

@[simp] theorem State.advanceTime_ibQueue (s : State) (n : Int) :
    (State.advanceTime s n).mgmt.ibQueue = s.mgmt.ibQueue := by
  simp [State.advanceTime]

@[simp] theorem State.timeTick_ibQueue (s : State) :
    (State.timeTick s).mgmt.ibQueue = s.mgmt.ibQueue := by
  simp [State.timeTick]

@[simp] theorem State.landSet_ibQueue (s : State) :
    (State.landSet s).mgmt.ibQueue = s.mgmt.ibQueue := by
  simp [State.landSet]

@[simp] theorem State.landAdd_ibQueue (s : State) :
    (State.landAdd s).mgmt.ibQueue = s.mgmt.ibQueue := by
  simp [State.landAdd]

/-! ### Perf -/

@[simp] theorem State.unvector_ibQueue (s : State) (ks : List Nat) (target : Nat) (l : Nat) :
    (State.unvector s ks target l).mgmt.ibQueue = s.mgmt.ibQueue := by
  simp [State.unvector]

@[simp] theorem State.beginChange_ibQueue (s : State) (g : Nat) :
    (State.beginChange s g).mgmt.ibQueue = s.mgmt.ibQueue := by
  simp [State.beginChange]

@[simp] theorem State.startLevel_ibQueue (s : State) :
    (State.startLevel s).mgmt.ibQueue = s.mgmt.ibQueue := by
  simp [State.startLevel]

@[simp] theorem State.damperStep_ibQueue (s : State) :
    (State.damperStep s).mgmt.ibQueue = s.mgmt.ibQueue := by
  simp [State.damperStep]

@[simp] theorem State.levelDone_ibQueue (s : State) :
    (State.levelDone s).mgmt.ibQueue = s.mgmt.ibQueue := by
  simp [State.levelDone]

@[simp] theorem State.unityNorm_ibQueue (s : State) (nv : Nat) :
    (State.unityNorm s nv).mgmt.ibQueue = s.mgmt.ibQueue := by
  simp [State.unityNorm]

@[simp] theorem State.endAbove_ibQueue (s : State) (nv : Nat) :
    (State.endAbove s nv).mgmt.ibQueue = s.mgmt.ibQueue := by
  simp [State.endAbove]

@[simp] theorem State.vectorNorm_ibQueue (s : State) (ks : List Nat) :
    (State.vectorNorm s ks).mgmt.ibQueue = s.mgmt.ibQueue := by
  simp [State.vectorNorm]

@[simp] theorem State.retryAvs_ibQueue (s : State) :
    (State.retryAvs s).mgmt.ibQueue = s.mgmt.ibQueue := by
  simp [State.retryAvs]

@[simp] theorem State.showTemps_ibQueue (s : State) (ts : List Int) :
    (State.showTemps s ts).mgmt.ibQueue = s.mgmt.ibQueue := by
  simp [State.showTemps]

@[simp] theorem State.clearPeak_ibQueue (s : State) :
    (State.clearPeak s).mgmt.ibQueue = s.mgmt.ibQueue := by
  simp [State.clearPeak]

@[simp] theorem State.clearMinmax_ibQueue (s : State) (c : Nat) :
    (State.clearMinmax s c).mgmt.ibQueue = s.mgmt.ibQueue := by
  simp [State.clearMinmax]

/-! ### Power -/

@[simp] theorem State.powerTo_ibQueue (s : State) (st : Nat) :
    (State.powerTo s st).mgmt.ibQueue = s.mgmt.ibQueue := by
  simp [State.powerTo]

@[simp] theorem State.gateCluster_ibQueue (s : State) (c : Nat) :
    (State.gateCluster s c).mgmt.ibQueue = s.mgmt.ibQueue := by
  simp [State.gateCluster]

@[simp] theorem State.ungateCluster_ibQueue (s : State) (c : Nat) :
    (State.ungateCluster s c).mgmt.ibQueue = s.mgmt.ibQueue := by
  simp [State.ungateCluster]

@[simp] theorem State.refreshGates_ibQueue (s : State) :
    (State.refreshGates s).mgmt.ibQueue = s.mgmt.ibQueue := by
  simp [State.refreshGates]

@[simp] theorem State.enterDoze_ibQueue (s : State) :
    (State.enterDoze s).mgmt.ibQueue = s.mgmt.ibQueue := by
  simp [State.enterDoze]

@[simp] theorem State.leaveDoze_ibQueue (s : State) :
    (State.leaveDoze s).mgmt.ibQueue = s.mgmt.ibQueue := by
  simp [State.leaveDoze]

@[simp] theorem State.refuseStage_ibQueue (s : State) (stage : Nat) (reason : Nat) (inst : Nat) :
    (State.refuseStage s stage reason inst).mgmt.ibQueue = s.mgmt.ibQueue := by
  simp [State.refuseStage]

@[simp] theorem State.stopLines_ibQueue (s : State) :
    (State.stopLines s).mgmt.ibQueue = s.mgmt.ibQueue := by
  simp [State.stopLines]

@[simp] theorem State.stopEngine_ibQueue (s : State) :
    (State.stopEngine s).mgmt.ibQueue = s.mgmt.ibQueue := by
  simp [State.stopEngine]

@[simp] theorem State.enterEmber_ibQueue (s : State) :
    (State.enterEmber s).mgmt.ibQueue = s.mgmt.ibQueue := by
  simp [State.enterEmber]

@[simp] theorem State.beginWake_ibQueue (s : State) (sub : Nat) :
    (State.beginWake s sub).mgmt.ibQueue = s.mgmt.ibQueue := by
  simp [State.beginWake]

@[simp] theorem State.wakeHearth_ibQueue (s : State) :
    (State.wakeHearth s).mgmt.ibQueue = s.mgmt.ibQueue := by
  simp [State.wakeHearth]

@[simp] theorem State.wakeUp_ibQueue (s : State) (cause : Nat) (line : Nat) :
    (State.wakeUp s cause line).mgmt.ibQueue = s.mgmt.ibQueue := by
  simp [State.wakeUp]

@[simp] theorem State.requestPower_ibQueue (s : State) :
    (State.requestPower s).mgmt.ibQueue = s.mgmt.ibQueue := by
  unfold State.requestPower; dsimp only; (repeat' split) <;> simp

/-! ### FaultRows -/

@[simp] theorem State.countTie_ibQueue (s : State) (fs : List FaultReport) (injected : Bool) :
    (State.countTie s fs injected).mgmt.ibQueue = s.mgmt.ibQueue := by
  simp [State.countTie]

@[simp] theorem State.recordTie_ibQueue (s : State) (real : List FaultReport) (inj : Option FaultReport) :
    (State.recordTie s real inj).mgmt.ibQueue = s.mgmt.ibQueue := by
  unfold State.recordTie; dsimp only; (repeat' split) <;> simp

@[simp] theorem State.briefRecovery_ibQueue (s : State) (src : Nat) :
    (State.briefRecovery s src).mgmt.ibQueue = s.mgmt.ibQueue := by
  simp [State.briefRecovery]

@[simp] theorem State.abortOpcodes_ibQueue (s : State) (test : Nat → Bool) :
    (State.abortOpcodes s test).mgmt.ibQueue = s.mgmt.ibQueue := by
  simp [State.abortOpcodes]

@[simp] theorem State.trustFault_ibQueue (s : State) (code : Nat) :
    (State.trustFault s code).mgmt.ibQueue = s.mgmt.ibQueue := by
  simp [State.trustFault]

@[simp] theorem State.reactReal_ibQueue (s : State) (f : FaultReport) (full : Bool) :
    (State.reactReal s f full).mgmt.ibQueue = s.mgmt.ibQueue := by
  simp [State.reactReal]

@[simp] theorem State.reactInjected_ibQueue (s : State) (f : FaultReport) :
    (State.reactInjected s f).mgmt.ibQueue = s.mgmt.ibQueue := by
  simp [State.reactInjected]

@[simp] theorem State.sampleFaults_ibQueue (s : State) (real : List FaultReport) (inj : Option FaultReport) :
    (State.sampleFaults s real inj).mgmt.ibQueue = s.mgmt.ibQueue := by
  unfold State.sampleFaults; split <;> simp

@[simp] theorem State.inject_ibQueue (s : State) :
    (State.inject s).mgmt.ibQueue = s.mgmt.ibQueue := by
  simp [State.inject]

@[simp] theorem State.clearRecord_ibQueue (s : State) (r : Nat) (seq : Nat) :
    (State.clearRecord s r seq).mgmt.ibQueue = s.mgmt.ibQueue := by
  simp [State.clearRecord]

@[simp] theorem State.clearRecords_ibQueue (s : State) (w : Nat) :
    (State.clearRecords s w).mgmt.ibQueue = s.mgmt.ibQueue := by
  simp [State.clearRecords]

@[simp] theorem State.setFence_ibQueue (s : State) (m : Nat) (on : Bool) :
    (State.setFence s m on).mgmt.ibQueue = s.mgmt.ibQueue := by
  simp [State.setFence]

@[simp] theorem State.refreshRevoked_ibQueue (s : State) :
    (State.refreshRevoked s).mgmt.ibQueue = s.mgmt.ibQueue := by
  simp [State.refreshRevoked]

@[simp] theorem State.respond_ibQueue (s : State) (r : InbandReq) (status : Nat) (data : List Nat) :
    (State.respond s r status data).mgmt.ibQueue = s.mgmt.ibQueue := by
  simp [State.respond]

/-! ### Trust -/

@[simp] theorem State.freshNonce_ibQueue (s : State) (c : Nat) (keep : Bool) :
    (State.freshNonce s c keep).mgmt.ibQueue = s.mgmt.ibQueue := by
  simp [State.freshNonce]

@[simp] theorem State.countFailure_ibQueue (s : State) (c : Nat) :
    (State.countFailure s c).mgmt.ibQueue = s.mgmt.ibQueue := by
  simp [State.countFailure]

@[simp] theorem State.openSession_ibQueue (s : State) (c : Nat) :
    (State.openSession s c).mgmt.ibQueue = s.mgmt.ibQueue := by
  simp [State.openSession]

@[simp] theorem State.openLocked_ibQueue (s : State) (c : Nat) :
    (State.openLocked s c).mgmt.ibQueue = s.mgmt.ibQueue := by
  simp [State.openLocked]

@[simp] theorem State.closeSession_ibQueue (s : State) (c : Nat) (reason : Nat) :
    (State.closeSession s c reason).mgmt.ibQueue = s.mgmt.ibQueue := by
  unfold State.closeSession
  split
  · rfl
  · rw [State.pulse_ibQueue, State.wr_ibQueue, State.wrWords_ibQueue, State.wrWords_ibQueue,
      State.modTrust_ibQueue, State.modMgmt_ibQueue, State.freshNonce_ibQueue, State.setSession_ibQueue]

@[simp] theorem State.clearKey_ibQueue (s : State) : (State.clearKey s).mgmt.ibQueue = s.mgmt.ibQueue := by
  simp [State.clearKey]

@[simp] theorem State.endBurn_ibQueue (s : State) :
    (State.endBurn s).mgmt.ibQueue = s.mgmt.ibQueue := by
  unfold State.endBurn; split <;> simp

@[simp] theorem State.refreshPairing_ibQueue (s : State) (p : Nat) :
    (State.refreshPairing s p).mgmt.ibQueue = s.mgmt.ibQueue := by
  simp [State.refreshPairing]

@[simp] theorem State.refreshAllPairing_ibQueue (s : State) :
    (State.refreshAllPairing s).mgmt.ibQueue = s.mgmt.ibQueue := by
  simp [State.refreshAllPairing]

@[simp] theorem State.advance_ibQueue (s : State) (target : Nat) :
    (State.advance s target).mgmt.ibQueue = s.mgmt.ibQueue := by
  simp [State.advance]

@[simp] theorem State.program_ibQueue (s : State) (slot : Nat) (maxRole : Nat) (usage : Nat) :
    (State.program s slot maxRole usage).mgmt.ibQueue = s.mgmt.ibQueue := by
  simp [State.program]

@[simp] theorem State.revoke_ibQueue (s : State) (slot : Nat) :
    (State.revoke s slot).mgmt.ibQueue = s.mgmt.ibQueue := by
  simp [State.revoke]

@[simp] theorem State.setPairKey_ibQueue (s : State) (p : Nat) :
    (State.setPairKey s p).mgmt.ibQueue = s.mgmt.ibQueue := by
  simp [State.setPairKey]

@[simp] theorem State.installSa_ibQueue (s : State) (p : Nat) (a : Nat) :
    (State.installSa s p a).mgmt.ibQueue = s.mgmt.ibQueue := by
  simp [State.installSa]

@[simp] theorem State.modImage_ibQueue (s : State) (k : Nat) (f : ImageSlot → ImageSlot) :
    (State.modImage s k f).mgmt.ibQueue = s.mgmt.ibQueue := by
  simp [State.modImage]

@[simp] theorem State.trySlot_ibQueue (s : State) (k : Nat) :
    (State.trySlot s k).2.mgmt.ibQueue = s.mgmt.ibQueue := by
  simp [State.trySlot]

@[simp] theorem State.runImage_ibQueue (s : State) (k : Nat) (fallback : Bool) :
    (State.runImage s k fallback).mgmt.ibQueue = s.mgmt.ibQueue := by
  simp [State.runImage]

@[simp] theorem State.confirmBoot_ibQueue (s : State) :
    (State.confirmBoot s).mgmt.ibQueue = s.mgmt.ibQueue := by
  simp [State.confirmBoot]

@[simp] theorem State.commitSvn_ibQueue (s : State) :
    (State.commitSvn s).mgmt.ibQueue = s.mgmt.ibQueue := by
  simp [State.commitSvn]

/-! ### Envelope -/

@[simp] theorem State.enterLeaving_ibQueue (s : State) (l : Nat) :
    (State.enterLeaving s l).mgmt.ibQueue = s.mgmt.ibQueue := by
  simp [State.enterLeaving]

@[simp] theorem State.refitLine_ibQueue (target : Nat) (s : State) (l : Nat) :
    (State.refitLine target s l).mgmt.ibQueue = s.mgmt.ibQueue := by
  simp [State.refitLine]

@[simp] theorem State.proposeSet_ibQueue (s : State) (set : Pages) (p : Nat) (target : Nat) :
    (State.proposeSet s set p target).mgmt.ibQueue = s.mgmt.ibQueue := by
  simp [State.proposeSet]

@[simp] theorem State.failSet_ibQueue (s : State) (set : Pages) (run : Bool) (r : Nat) :
    (State.failSet s set run r).mgmt.ibQueue = s.mgmt.ibQueue := by
  simp [State.failSet]

@[simp] theorem State.decidePlain_ibQueue (s : State) (es : Pages) :
    (State.decidePlain s es).mgmt.ibQueue = s.mgmt.ibQueue := by
  unfold State.decidePlain; (repeat' split) <;> simp

@[simp] theorem State.startSet_ibQueue (s : State) (set : Pages) (run : Bool) (moment : Nat) (target : Option Nat) :
    (State.startSet s set run moment target).mgmt.ibQueue = s.mgmt.ibQueue := by
  simp [State.startSet]

@[simp] theorem State.post_ibQueue (s : State) (p : Page) (i : Nat) :
    (State.post s p i).mgmt.ibQueue = s.mgmt.ibQueue := by
  simp [State.post]

@[simp] theorem State.retryRun_ibQueue (s : State) :
    (State.retryRun s).mgmt.ibQueue = s.mgmt.ibQueue := by
  unfold State.retryRun; split <;> simp

@[simp] theorem State.discardPost_ibQueue (s : State) (p : Page) (i : Nat) :
    (State.discardPost s p i).mgmt.ibQueue = s.mgmt.ibQueue := by
  simp [State.discardPost]

@[simp] theorem State.startRun_ibQueue (s : State) :
    (State.startRun s).mgmt.ibQueue = s.mgmt.ibQueue := by
  simp [State.startRun]

@[simp] theorem State.cancelRun_ibQueue (s : State) :
    (State.cancelRun s).mgmt.ibQueue = s.mgmt.ibQueue := by
  unfold State.cancelRun; split <;> simp

@[simp] theorem State.clearSecy_ibQueue (s : State) (p : Nat) :
    (State.clearSecy s p).mgmt.ibQueue = s.mgmt.ibQueue := by
  simp [State.clearSecy]

@[simp] theorem State.settlePort_ibQueue (s : State) (p : Nat) (was : Nat) :
    (State.settlePort s p was).mgmt.ibQueue = s.mgmt.ibQueue := by
  simp [State.settlePort]

@[simp] theorem State.newEpoch_ibQueue (s : State) (l : Nat) (was : Nat × Nat) :
    (State.newEpoch s l was).mgmt.ibQueue = s.mgmt.ibQueue := by
  simp [State.newEpoch]

@[simp] theorem State.layoutQuad_ibQueue (s : State) (q : Nat) (code : Nat) :
    (State.layoutQuad s q code).mgmt.ibQueue = s.mgmt.ibQueue := by
  simp [State.layoutQuad]

@[simp] theorem State.endMode_ibQueue (s : State) (l : Nat) :
    (State.endMode s l).mgmt.ibQueue = s.mgmt.ibQueue := by
  simp [State.endMode]

@[simp] theorem State.beginMode_ibQueue (s : State) (l : Nat) :
    (State.beginMode s l).mgmt.ibQueue = s.mgmt.ibQueue := by
  simp [State.beginMode]

@[simp] theorem State.landMode_ibQueue (s : State) (l : Nat) :
    (State.landMode s l).mgmt.ibQueue = s.mgmt.ibQueue := by
  simp [State.landMode]

@[simp] theorem State.changePort_ibQueue (s : State) (l : Nat) (was : Nat) :
    (State.changePort s l was).mgmt.ibQueue = s.mgmt.ibQueue := by
  simp [State.changePort]

@[simp] theorem State.refreshThru_ibQueue (s : State) :
    (State.refreshThru s).mgmt.ibQueue = s.mgmt.ibQueue := by
  simp [State.refreshThru]

@[simp] theorem State.landPage_ibQueue (s : State) (e : Page × Nat) :
    (State.landPage s e).mgmt.ibQueue = s.mgmt.ibQueue := by
  unfold State.landPage; split <;> simp

@[simp] theorem State.landUnits_ibQueue (s : State) (set : Pages) (units : List Nat) :
    (State.landUnits s set units).mgmt.ibQueue = s.mgmt.ibQueue := by
  simp [State.landUnits]

@[simp] theorem State.setLanded_ibQueue (s : State) (set : Pages) (run : Bool) (steps : Nat) :
    (State.setLanded s set run steps).mgmt.ibQueue = s.mgmt.ibQueue := by
  simp [State.setLanded]

@[simp] theorem State.sealedLanded_ibQueue (s : State) (es : Pages) :
    (State.sealedLanded s es).mgmt.ibQueue = s.mgmt.ibQueue := by
  simp [State.sealedLanded]

@[simp] theorem State.landBatches_ibQueue (s : State) (set : Pages) (run : Bool) (e : Page × Nat) (bs : List (List Nat)) (steps : Nat) :
    (State.landBatches s set run e bs steps).mgmt.ibQueue = s.mgmt.ibQueue := by
  unfold State.landBatches; dsimp only; (repeat' split) <;> simp

@[simp] theorem State.holdPosts_ibQueue (s : State) (es : Pages) :
    (State.holdPosts s es).mgmt.ibQueue = s.mgmt.ibQueue := by
  unfold State.holdPosts; (repeat' split) <;> simp

@[simp] theorem State.landSetNow_ibQueue (s : State) (set : Pages) (run : Bool) (e : Page × Nat) :
    (State.landSetNow s set run e).mgmt.ibQueue = s.mgmt.ibQueue := by
  simp [State.landSetNow]

@[simp] theorem State.confirmNeg_ibQueue (s : State) (port : Nat) :
    (State.confirmNeg s port).mgmt.ibQueue = s.mgmt.ibQueue := by
  simp [State.confirmNeg]

@[simp] theorem State.refuseNeg_ibQueue (s : State) (p : Nat) :
    (State.refuseNeg s p).mgmt.ibQueue = s.mgmt.ibQueue := by
  unfold State.refuseNeg; split <;> simp

/-! ### Grid -/

@[simp] theorem State.advanceGrid_ibQueue (s : State) :
    (State.advanceGrid s).mgmt.ibQueue = s.mgmt.ibQueue := by
  simp [State.advanceGrid]

@[simp] theorem State.pulseSync_ibQueue (s : State) :
    (State.pulseSync s).mgmt.ibQueue = s.mgmt.ibQueue := by
  simp [State.pulseSync]

@[simp] theorem State.expireNeg_ibQueue (s : State) (p : Nat) :
    (State.expireNeg s p).mgmt.ibQueue = s.mgmt.ibQueue := by
  unfold State.expireNeg; split <;> simp

@[simp] theorem State.showSeal_ibQueue (s : State) (p : Nat) :
    (State.showSeal s p).mgmt.ibQueue = s.mgmt.ibQueue := by
  unfold State.showSeal; split <;> simp

@[simp] theorem State.closeEmpty_ibQueue (s : State) (p : Nat) :
    (State.closeEmpty s p).mgmt.ibQueue = s.mgmt.ibQueue := by
  unfold State.closeEmpty; split <;> simp

@[simp] theorem State.seedScramblers_ibQueue (s : State) (p : Nat) :
    (State.seedScramblers s p).mgmt.ibQueue = s.mgmt.ibQueue := by
  simp [State.seedScramblers]

@[simp] theorem State.retryDrop_ibQueue (s : State) (p : Nat) :
    (State.retryDrop s p).mgmt.ibQueue = s.mgmt.ibQueue := by
  unfold State.retryDrop; dsimp only; (repeat' split) <;> simp

@[simp] theorem State.retryMask_ibQueue (s : State) (l : Nat) :
    (State.retryMask s l).mgmt.ibQueue = s.mgmt.ibQueue := by
  simp [State.retryMask]

@[simp] theorem State.repeatSegs_ibQueue (s : State) (l : Nat) :
    (State.repeatSegs s l).mgmt.ibQueue = s.mgmt.ibQueue := by
  unfold State.repeatSegs; dsimp only; (repeat' split) <;> simp

@[simp] theorem State.portSuperframe_ibQueue (s : State) (p : Nat) :
    (State.portSuperframe s p).mgmt.ibQueue = s.mgmt.ibQueue := by
  simp [State.portSuperframe]

@[simp] theorem State.snrCycle_ibQueue (s : State) (l : Nat) :
    (State.snrCycle s l).mgmt.ibQueue = s.mgmt.ibQueue := by
  unfold State.snrCycle; (repeat' split) <;> simp

@[simp] theorem State.showResiduals_ibQueue (s : State) (m : LineMeter) :
    (State.showResiduals s m).mgmt.ibQueue = s.mgmt.ibQueue := by
  unfold State.showResiduals; dsimp only; (repeat' split) <;> simp

@[simp] theorem State.meterLine_ibQueue (s : State) (l : Nat) :
    (State.meterLine s l).mgmt.ibQueue = s.mgmt.ibQueue := by
  simp [State.meterLine]

@[simp] theorem State.remoteCycle_ibQueue (s : State) (l : Nat) :
    (State.remoteCycle s l).mgmt.ibQueue = s.mgmt.ibQueue := by
  unfold State.remoteCycle; (repeat' split) <;> simp

@[simp] theorem State.retrainWord_ibQueue (s : State) (l : Nat) :
    (State.retrainWord s l).mgmt.ibQueue = s.mgmt.ibQueue := by
  simp [State.retrainWord]

@[simp] theorem State.pilotBlock_ibQueue (s : State) (l : Nat) :
    (State.pilotBlock s l).mgmt.ibQueue = s.mgmt.ibQueue := by
  simp [State.pilotBlock]

@[simp] theorem State.tailSuperframe_ibQueue (s : State) (l : Nat) :
    (State.tailSuperframe s l).mgmt.ibQueue = s.mgmt.ibQueue := by
  simp [State.tailSuperframe]

@[simp] theorem State.lineSuperframe_ibQueue (s : State) (l : Nat) :
    (State.lineSuperframe s l).mgmt.ibQueue = s.mgmt.ibQueue := by
  simp [State.lineSuperframe]

@[simp] theorem State.serveJoin_ibQueue (s : State) :
    (State.serveJoin s).mgmt.ibQueue = s.mgmt.ibQueue := by
  simp [State.serveJoin]

@[simp] theorem State.rollFeedback_ibQueue (s : State) :
    (State.rollFeedback s).mgmt.ibQueue = s.mgmt.ibQueue := by
  simp [State.rollFeedback]

@[simp] theorem State.rollCycle_ibQueue (s : State) :
    (State.rollCycle s).mgmt.ibQueue = s.mgmt.ibQueue := by
  simp [State.rollCycle]

@[simp] theorem State.trainCycle_ibQueue (s : State) (l : Nat) :
    (State.trainCycle s l).mgmt.ibQueue = s.mgmt.ibQueue := by
  simp [State.trainCycle]

/-! ### Live -/

@[simp] theorem State.freeze_ibQueue (s : State) (p : Page) (i : Nat) :
    (State.freeze s p i).mgmt.ibQueue = s.mgmt.ibQueue := by
  simp [State.freeze]

@[simp] theorem State.thaw_ibQueue (s : State) (p : Page) (i : Nat) :
    (State.thaw s p i).mgmt.ibQueue = s.mgmt.ibQueue := by
  simp [State.thaw]

@[simp] theorem State.latch_ibQueue (s : State) (p : Page) (i : Nat) (off : Nat) :
    (State.latch s p i off).mgmt.ibQueue = s.mgmt.ibQueue := by
  simp [State.latch]

/-! ### Write -/

@[simp] theorem State.storeField_ibQueue (s : State) (x : WordWrite) (e : Fld × Nat) :
    (State.storeField s x e).mgmt.ibQueue = s.mgmt.ibQueue := by
  unfold State.storeField; dsimp only; (repeat' split) <;> simp

@[simp] theorem State.storeWord_ibQueue (s : State) (x : WordWrite) :
    (State.storeWord s x).mgmt.ibQueue = s.mgmt.ibQueue := by
  simp [State.storeWord]

@[simp] theorem State.resetFields_ibQueue (s : State) (p : Page) (i : Nat) :
    (State.resetFields s p i).mgmt.ibQueue = s.mgmt.ibQueue := by
  simp [State.resetFields]

@[simp] theorem State.landResetValues_ibQueue (s : State) (p : Page) (i : Nat) :
    (State.landResetValues s p i).mgmt.ibQueue = s.mgmt.ibQueue := by
  simp [State.landResetValues]

@[simp] theorem State.dropArmed_ibQueue (s : State) (p : Page) (i : Nat) :
    (State.dropArmed s p i).mgmt.ibQueue = s.mgmt.ibQueue := by
  simp [State.dropArmed]

@[simp] theorem State.giveUpRequest_ibQueue (s : State) (p : Page) (i : Nat) :
    (State.giveUpRequest s p i).mgmt.ibQueue = s.mgmt.ibQueue := by
  unfold State.giveUpRequest; dsimp only; (repeat' split) <;> simp

@[simp] theorem State.resetFunction_ibQueue (s : State) (old : State) (p : Page) (i : Nat) :
    (State.resetFunction s old p i).mgmt.ibQueue = s.mgmt.ibQueue := by
  unfold State.resetFunction; split <;> simp

@[simp] theorem State.softReset_ibQueue (s : State) (p : Page) (i : Nat) :
    (State.softReset s p i).mgmt.ibQueue = s.mgmt.ibQueue := by
  simp [State.softReset]

@[simp] theorem State.enableEffect_ibQueue (s : State) (p : Page) (i : Nat) :
    (State.enableEffect s p i).mgmt.ibQueue = s.mgmt.ibQueue := by
  unfold State.enableEffect; split <;> simp

@[simp] theorem State.headerEffects_ibQueue (s : State) (x : WordWrite) (act : List (Fld × Nat)) :
    (State.headerEffects s x act).mgmt.ibQueue = s.mgmt.ibQueue := by
  simp [State.headerEffects]

@[simp] theorem State.busLock_ibQueue (s : State) (c : Nat) (release : Bool) (take : Bool) :
    (State.busLock s c release take).mgmt.ibQueue = s.mgmt.ibQueue := by
  simp [State.busLock]

@[simp] theorem State.lineEffects_ibQueue (s : State) (x : WordWrite) (act : List (Fld × Nat)) :
    (State.lineEffects s x act).mgmt.ibQueue = s.mgmt.ibQueue := by
  unfold State.lineEffects; split <;> simp

/-! ### Parcel -/

@[simp] theorem State.runStaged_ibQueue (s : State) (set : Pages) (locks : List (Page × Nat × Nat)) :
    (State.runStaged s set locks).mgmt.ibQueue = s.mgmt.ibQueue := by
  simp [State.runStaged]

/-! ### Letterbox -/

@[simp] theorem State.takeLease_ibQueue (s : State) (c : Nat) :
    (State.takeLease s c).mgmt.ibQueue = s.mgmt.ibQueue := by
  simp [State.takeLease]

@[simp] theorem State.fwBegin_ibQueue (s : State) (c : Nat) (args : List Nat) :
    (State.fwBegin s c args).2.mgmt.ibQueue = s.mgmt.ibQueue := by
  unfold State.fwBegin; dsimp only; (repeat' split) <;> simp

@[simp] theorem State.fwChunk_ibQueue (s : State) (c : Nat) (args : List Nat) :
    (State.fwChunk s c args).2.mgmt.ibQueue = s.mgmt.ibQueue := by
  unfold State.fwChunk; dsimp only; (repeat' split) <;> simp

@[simp] theorem State.fwCommit_ibQueue (s : State) (c : Nat) :
    (State.fwCommit s c).2.mgmt.ibQueue = s.mgmt.ibQueue := by
  unfold State.fwCommit; dsimp only; (repeat' split) <;> simp

@[simp] theorem State.exportPart_ibQueue (s : State) (c : Nat) :
    (State.exportPart s c).2.mgmt.ibQueue = s.mgmt.ibQueue := by
  unfold State.exportPart; dsimp only; (repeat' split) <;> simp

@[simp] theorem State.exportBegin_ibQueue (s : State) (c : Nat) (args : List Nat) :
    (State.exportBegin s c args).2.mgmt.ibQueue = s.mgmt.ibQueue := by
  unfold State.exportBegin; dsimp only; (repeat' split) <;> simp

@[simp] theorem State.importChunk_ibQueue (s : State) (c : Nat) (args : List Nat) :
    (State.importChunk s c args).2.mgmt.ibQueue = s.mgmt.ibQueue := by
  unfold State.importChunk; dsimp only; (repeat' split) <;> simp

@[simp] theorem State.attestSign_ibQueue (s : State) (c : Nat) (args : List Nat) :
    (State.attestSign s c args).2.mgmt.ibQueue = s.mgmt.ibQueue := by
  unfold State.attestSign; dsimp only; (repeat' split) <;> simp

@[simp] theorem State.attest_ibQueue (s : State) (c : Nat) (args : List Nat) :
    (State.attest s c args).2.mgmt.ibQueue = s.mgmt.ibQueue := by
  unfold State.attest; simp; (repeat' split) <;> simp_all

/-! ### Channels -/

@[simp] theorem State.recordRefusal_ibQueue (s : State) (c : Nat) (code : Nat) (addr : Nat) (v : Verdict) :
    (State.recordRefusal s c code addr v).mgmt.ibQueue = s.mgmt.ibQueue := by
  simp [State.recordRefusal]

@[simp] theorem State.frameStart_ibQueue (s : State) (c : Nat) :
    (State.frameStart s c).mgmt.ibQueue = s.mgmt.ibQueue := by
  simp [State.frameStart]

@[simp] theorem State.noteDenied_ibQueue (s : State) (vs : List Verdict) :
    (State.noteDenied s vs).mgmt.ibQueue = s.mgmt.ibQueue := by
  simp [State.noteDenied]

@[simp] theorem State.noteAlign_ibQueue (s : State) (on : Bool) :
    (State.noteAlign s on).mgmt.ibQueue = s.mgmt.ibQueue := by
  simp [State.noteAlign]

@[simp] theorem State.clearMspiFlags_ibQueue (s : State) :
    (State.clearMspiFlags s).mgmt.ibQueue = s.mgmt.ibQueue := by
  simp [State.clearMspiFlags]

@[simp] theorem State.mdioAdvance_ibQueue (s : State) :
    (State.mdioAdvance s).mgmt.ibQueue = s.mgmt.ibQueue := by
  simp [State.mdioAdvance]

@[simp] theorem State.windowErrors_ibQueue (s : State) :
    (State.windowErrors s).mgmt.ibQueue = s.mgmt.ibQueue := by
  simp [State.windowErrors]

end Sys2Proof.Machine
end

