-- ==== Sys2Proof/Laws/Access.lean ====
section
/-! SUPPORT. What an access by a channel comes to: the address map, a granted write (R384), and the fields a word
acts on. -/

namespace Sys2Proof.Machine

/-- A line page's byte address, decoded. -/
theorem decodeAddr_line (c k i o : Nat) (p : Page) (hk : k < 8) (hi : i < 128) (h : o < 4096)
    (hp : pageAt (linePages i) k = some (p, i)) :
    decodeAddr c (4096 * k + (0x1000000 + 0x8000 * i) + o) = some (p, i, o) := by
  unfold decodeAddr
  rw [if_neg (by omega), if_neg (by omega), if_neg (by omega), if_neg (by omega), if_pos (by omega),
    show (4096 * k + (0x1000000 + 0x8000 * i) + o) % 0x8000 / 4096 = k by omega,
    show (4096 * k + (0x1000000 + 0x8000 * i) + o - 0x1000000) / 0x8000 = i by omega, hp,
    show (4096 * k + (0x1000000 + 0x8000 * i) + o) % 4096 = o by omega]
  rfl

theorem decodeAddr_port (c k i o : Nat) (p : Page) (hk : k < 2) (hi : i < 128) (h : o < 4096)
    (hp : pageAt (portPages i) k = some (p, i)) :
    decodeAddr c (4096 * k + (0x400000 + 0x2000 * i) + o) = some (p, i, o) := by
  unfold decodeAddr
  rw [if_neg (by omega), if_neg (by omega), if_neg (by omega), if_pos (by omega),
    show (4096 * k + (0x400000 + 0x2000 * i) + o) % 0x2000 / 4096 = k by omega,
    show (4096 * k + (0x400000 + 0x2000 * i) + o - 0x400000) / 0x2000 = i by omega, hp,
    show (4096 * k + (0x400000 + 0x2000 * i) + o) % 4096 = o by omega]
  rfl

theorem decodeAddr_cluster (c k i o : Nat) (p : Page) (hk : k < 4) (hi : i < 4) (h : o < 4096)
    (hp : pageAt (clusterPages i) k = some (p, i)) :
    decodeAddr c (4096 * k + (0x100000 + 0x10000 * i) + o) = some (p, i, o) := by
  unfold decodeAddr
  rw [if_neg (by omega), if_pos (by omega),
    show (4096 * k + (0x100000 + 0x10000 * i) + o) % 0x10000 / 4096 = k by omega,
    show (4096 * k + (0x100000 + 0x10000 * i) + o - 0x100000) / 0x10000 = i by omega, hp,
    show (4096 * k + (0x100000 + 0x10000 * i) + o) % 4096 = o by omega]
  rfl

theorem decodeAddr_lane (c i o : Nat) (hi : i < 32) (h : o < 4096) :
    decodeAddr c (4096 * 0 + (0x200000 + 0x1000 * i) + o) = some (.lane, i, o) := by
  unfold decodeAddr
  rw [if_neg (by omega), if_neg (by omega), if_pos (by omega),
    show (4096 * 0 + (0x200000 + 0x1000 * i) + o - 0x200000) / 4096 = i by omega,
    show (4096 * 0 + (0x200000 + 0x1000 * i) + o) % 4096 = o by omega]
  rfl

theorem decodeAddr_device (c n o i : Nat) (p : Page) (hn : n < 21) (h : o < 4096)
    (hp : pageAt (devicePages c) n = some (p, i)) : decodeAddr c (4096 * n + 0 + o) = some (p, i, o) := by
  unfold decodeAddr
  rw [if_pos (by omega), show (4096 * n + 0 + o) / 4096 = n by omega, hp,
    show (4096 * n + 0 + o) % 4096 = o by omega]
  rfl

/-- A byte address within a page names that page, the letterbox by the channel's own bank (R31, R49). -/
theorem decodeAddr_base (c : Nat) (p : Page) (i o : Nat) (hi : i < p.count)
    (hl : p = .letterbox → i = c) (h : o < 4096) :
    decodeAddr c (pageBase p i + o) = some (p, i, o) := by
  cases p <;> simp only [Page.count] at hi
  case ident => (obtain rfl : i = 0 := by omega); exact decodeAddr_device c 0 o 0 _ (by decide) h rfl
  case hearth => (obtain rfl : i = 0 := by omega); exact decodeAddr_device c 4 o 0 _ (by decide) h rfl
  case clocks => (obtain rfl : i = 0 := by omega); exact decodeAddr_device c 5 o 0 _ (by decide) h rfl
  case perf => (obtain rfl : i = 0 := by omega); exact decodeAddr_device c 6 o 0 _ (by decide) h rfl
  case fault => (obtain rfl : i = 0 := by omega); exact decodeAddr_device c 7 o 0 _ (by decide) h rfl
  case events => (obtain rfl : i = 0 := by omega); exact decodeAddr_device c 8 o 0 _ (by decide) h rfl
  case calmgr => (obtain rfl : i = 0 := by omega); exact decodeAddr_device c 9 o 0 _ (by decide) h rfl
  case thermal => (obtain rfl : i = 0 := by omega); exact decodeAddr_device c 10 o 0 _ (by decide) h rfl
  case timebase => (obtain rfl : i = 0 := by omega); exact decodeAddr_device c 11 o 0 _ (by decide) h rfl
  case portmap => (obtain rfl : i = 0 := by omega); exact decodeAddr_device c 12 o 0 _ (by decide) h rfl
  case sorting => (obtain rfl : i = 0 := by omega); exact decodeAddr_device c 13 o 0 _ (by decide) h rfl
  case boot => (obtain rfl : i = 0 := by omega); exact decodeAddr_device c 15 o 0 _ (by decide) h rfl
  case trust => (obtain rfl : i = 0 := by omega); exact decodeAddr_device c 16 o 0 _ (by decide) h rfl
  case devenv => (obtain rfl : i = 0 := by omega); exact decodeAddr_device c 17 o 0 _ (by decide) h rfl
  case xengine => (obtain rfl : i = 0 := by omega); exact decodeAddr_device c 18 o 0 _ (by decide) h rfl
  case xwindow => (obtain rfl : i = 0 := by omega); exact decodeAddr_device c 19 o 0 _ (by decide) h rfl
  case sync => (obtain rfl : i = 0 := by omega); exact decodeAddr_device c 20 o 0 _ (by decide) h rfl
  case session =>
    refine decodeAddr_device c (1 + i) o i _ (by omega) h ?_
    have h3 : i = 0 ∨ i = 1 ∨ i = 2 := by omega
    rcases h3 with rfl | rfl | rfl <;> rfl
  case letterbox =>
    obtain rfl := hl rfl
    exact decodeAddr_device _ 14 o _ _ (by decide) h rfl
  case lane => exact decodeAddr_lane c i o hi h
  case cluster => exact decodeAddr_cluster c 0 i o _ (by decide) hi h rfl
  case cpll => exact decodeAddr_cluster c 1 i o _ (by decide) hi h rfl
  case cxslice => exact decodeAddr_cluster c 2 i o _ (by decide) hi h rfl
  case ctemp => exact decodeAddr_cluster c 3 i o _ (by decide) hi h rfl
  case port_ctl => exact decodeAddr_port c 0 i o _ (by decide) hi h rfl
  case port_sec => exact decodeAddr_port c 1 i o _ (by decide) hi h rfl
  case lctl => exact decodeAddr_line c 0 i o _ (by decide) hi h rfl
  case ltrain => exact decodeAddr_line c 1 i o _ (by decide) hi h rfl
  case lload => exact decodeAddr_line c 2 i o _ (by decide) hi h rfl
  case lmon => exact decodeAddr_line c 3 i o _ (by decide) hi h rfl
  case lreach => exact decodeAddr_line c 4 i o _ (by decide) hi h rfl
  case ldiag => exact decodeAddr_line c 5 i o _ (by decide) hi h rfl
  case lafe => exact decodeAddr_line c 6 i o _ (by decide) hi h rfl
  case lstd => exact decodeAddr_line c 7 i o _ (by decide) hi h rfl

/-- A frame in RUN or DOZE wakes nothing. -/
theorem State.frameStart_steady (s : State) (c : Nat) (h : s.steady = true) : s.frameStart c = s := by
  simp only [State.steady, Bool.and_eq_true, beq_iff_eq, decide_eq_true_eq, Bool.not_eq_true'] at h
  unfold State.frameStart State.wakeUp
  dsimp only
  rw [if_neg (show ¬ s.pwr.sub = 1 by omega)]
  have h2 : (decide (s.pwr.state < 2) || s.pwr.waking || (s.pwr.sub == 5 && (2 : Nat) != 5)) = true := by
    simp only [Bool.or_eq_true, decide_eq_true_eq]
    left; left; omega
  rw [if_pos h2]
  split
  · split <;> rfl
  · rfl

/-- What a granted access comes to: the write of R384, with the access rules passed. -/
theorem State.access_write_ok (s : State) (c addr w : Nat) (h : (s.access c addr 4 2 (some w)).verdict = .ok) :
    s.fenced (c + 1) = false ∧ s.served c = true ∧ s.lockedFor c = false ∧ addr % 4 = 0 ∧
      ∃ e, decodeAddr c addr = some e ∧ (s.restricted = false ∨ openPages.contains e.1 = true) ∧
        (s.writeWord { ch := c, page := e.1, inst := e.2.1, off := e.2.2, w := w }).1 = .ok ∧
        (s.access c addr 4 2 (some w)).state =
          (s.writeWord { ch := c, page := e.1, inst := e.2.1, off := e.2.2, w := w }).2 := by
  unfold State.access at h ⊢
  by_cases h1 : s.fenced (c + 1) = true
  · simp [h1] at h
  simp only [h1] at h ⊢
  by_cases h2 : s.served c = true
  swap
  · simp [h2] at h
  by_cases h3 : s.lockedFor c = true
  · simp [h2, h3] at h
  by_cases h4 : addr % 4 = 0
  swap
  · simp [h2, h3, h4] at h
  simp only [h2, h3, h4] at h ⊢
  unfold State.accessPage at h ⊢
  cases h5 : decodeAddr c addr with
  | none => simp [h5] at h
  | some e =>
    obtain ⟨p, i, off⟩ := e
    simp only [h5] at h ⊢
    simp only [if_false, Bool.false_eq_true, bne_self_eq_false, Bool.or_self, Bool.not_true] at h ⊢
    by_cases h6 : (s.restricted && !openPages.contains p) = true
    · rw [if_pos h6] at h; cases h
    · rw [if_neg h6] at h ⊢
      refine ⟨by simp, trivial, by simp, trivial, (p, i, off), rfl, ?_, h, ?_⟩
      · simp only [Bool.and_eq_true, Bool.not_eq_true', not_and, Bool.not_eq_false] at h6
        by_cases hr : s.restricted = true
        · exact .inr (h6 hr)
        · exact .inl (by simpa using hr)
      · unfold State.recordRefusal
        exact if_pos h

/-- The data of the channels but for what they last answered. -/
def Mgmt.core (m : Mgmt) : Mgmt := { m with lastRead := [], lastError := false, ibAnswers := [], ibBlocks := [] }

theorem State.modMgmt_eq_self (s : State) (f : Mgmt → Mgmt) (h : f s.mgmt = s.mgmt) : s.modMgmt f = s := by
  unfold State.modMgmt; rw [h]

theorem State.modMgmt_modMgmt (s : State) (f g : Mgmt → Mgmt) : (s.modMgmt f).modMgmt g = s.modMgmt (g ∘ f) := rfl

theorem State.drainInband_nil (s : State) (h : s.mgmt.ibQueue = []) : s.drainInband = s := by
  unfold State.drainInband
  split
  · rfl
  · simp only [h, List.foldl_nil]
    refine State.modMgmt_eq_self _ _ ?_
    rw [← h]

/-- A request that finds the queue empty is served at once. -/
theorem State.askInband_one (s : State) (r : InbandReq) (h2 : s.served 1 = true) (h3 : s.lockedFor 1 = false)
    (hib : s.mgmt.ibQueue = []) (hl : s.inbandLanes.contains r.lane = true) : s.askInband r = s.serveInband r := by
  unfold State.askInband
  rw [if_neg (by rw [h2, hl]; decide), if_neg (by simp [hib])]
  generalize ht : (s.modMgmt fun m => { m with ibQueue := m.ibQueue ++ [r] }) = t
  have t1 : t.lockedFor 1 = false := by subst ht; exact h3
  have t2 : t.served 1 = true := by subst ht; exact h2
  have t3 : t.mgmt.ibQueue = [r] := by subst ht; simp [State.modMgmt, hib]
  have t4 : (t.modMgmt fun m => { m with ibQueue := [] }) = s := by
    subst ht
    rw [State.modMgmt_modMgmt]
    refine State.modMgmt_eq_self s _ ?_
    simp only [Function.comp]
    rw [← hib]
  unfold State.drainInband
  rw [if_neg (by simp [t1, t2])]
  simp only [t3, t4, List.foldl_cons, List.foldl_nil]

/-- A granted write: the word is written by R384, and only what the channel last answered is added. -/
theorem State.hostWrite_granted (s : State) (ch : Channel) (F : Fld) (i j w : Nat) (h : s.grants ch F i j w = true)
    (hi : i < F.page.count) (hl : F.page = .letterbox → i = chIx ch) (ho : F.off + F.stride * j < 4096)
    (hq : (s.writeWord (F.write ch i j w)).2.mgmt.ibQueue = []) :
    (s.writeWord (F.write ch i j w)).1 = .ok ∧
      ∃ m : Mgmt, m.core = (s.writeWord (F.write ch i j w)).2.mgmt.core ∧
        s.hostWrite ch (F.addr i j) 4 w = (s.writeWord (F.write ch i j w)).2.modMgmt fun _ => m := by
  unfold State.grants at h
  simp only [Bool.and_eq_true, List.isEmpty_iff] at h
  obtain ⟨⟨hst, hib⟩, ha⟩ := h
  unfold State.accepts at ha
  dsimp only at ha
  simp only [State.frameStart_steady s _ hst, Bool.and_eq_true, beq_iff_eq] at ha
  obtain ⟨hc, hv⟩ := ha
  obtain ⟨h1, h2, h3, h4, e, he, h5, h6, h7⟩ := State.access_write_ok s _ _ _ hv
  have hd : decodeAddr (chIx ch) (F.addr i j) = some (F.page, i, F.off + F.stride * j) := by
    have := decodeAddr_base (chIx ch) F.page i (F.off + F.stride * j) hi hl ho
    simpa [Fld.addr, Nat.add_assoc] using this
  rw [hd] at he
  cases he
  refine ⟨h6, ?_⟩
  unfold State.hostWrite
  dsimp only
  by_cases hch : chIx ch = 1
  · rw [if_pos hch]
    rw [hch] at hc h2 h3 h7
    simp only [bne_self_eq_false, Bool.false_or, Bool.and_eq_true, List.isEmpty_iff, Bool.not_eq_true'] at hc
    have hlane : s.inbandLanes.contains s.inbandLane = true := by
      unfold State.inbandLane
      cases hL : s.inbandLanes with
      | nil => simp [hL] at hc
      | cons a b => simp
    rw [State.askInband_one s _ h2 h3 hib hlane]
    unfold State.serveInband
    simp only [Bool.false_eq_true, if_false]
    simp only [InbandReq.words, List.range_one, List.map_cons, List.map_nil, Nat.mul_zero, Nat.add_zero,
      List.getD_cons_zero, if_true, Nat.lt_irrefl, decide_false, State.burst, accessCode]
    simp only [Bool.false_eq_true, if_false, Nat.add_zero, h7, Fld.write]
    rw [hch]
    unfold State.respond State.modMgmt
    refine ⟨_, ?_, rfl⟩
    rfl
  · rw [if_neg hch, State.frameStart_steady s _ hst, hv, h7]
    have : ((s.writeWord (F.write ch i j w)).2.answered (chIx ch) .ok []).mgmt.ibQueue = [] := by
      simpa [State.answered] using hq
    change ∃ m : Mgmt, _ ∧ ((s.writeWord (F.write ch i j w)).2.answered (chIx ch) .ok []).drainInband = _
    rw [State.drainInband_nil _ this]
    refine ⟨_, ?_, rfl⟩
    simp [Mgmt.core]

theorem State.deviceReset_ibQueue_nil (s : State) (k) : (s.deviceReset k).mgmt.ibQueue = [] := by
  unfold State.deviceReset
  dsimp only
  (repeat' split) <;> simp

theorem State.reboot_ibQueue_nil (s : State) : s.reboot.mgmt.ibQueue = [] := by
  unfold State.reboot
  rw [State.coldStart_ibQueue, State.deviceReset_ibQueue_nil]

theorem State.deviceEffects_ibQueue_nil (s : State) (x : WordWrite) (act : List (Fld × Nat))
    (h : s.mgmt.ibQueue = []) : (s.deviceEffects x act).mgmt.ibQueue = [] := by
  unfold State.deviceEffects
  dsimp only
  split <;> try (simp [h]; done)
  · by_cases hr : hits act FAULT.CTRL.REBOOT = true
    · rw [if_pos hr]; exact State.reboot_ibQueue_nil _
    · rw [if_neg hr]; simp [h]
  · simp only [List.head?_filter]
    cases List.find? (fun e => decide (e.1.off = 256)) act <;> simp [h]

theorem State.applyWord_ibQueue_nil (s : State) (x : WordWrite) (h : s.mgmt.ibQueue = []) :
    (s.applyWord x).mgmt.ibQueue = [] := by
  unfold State.applyWord
  dsimp only
  (repeat' split)
  · simp [h]
  · exact State.deviceEffects_ibQueue_nil _ _ _ (by simpa using h)
  · simp [h]

theorem State.startDiag_ibQueue_nil (s : State) (c : Nat) (args : List Nat) (h : s.mgmt.ibQueue = []) :
    (s.startDiag c args).mgmt.ibQueue = [] := by
  unfold State.startDiag
  split
  · split
    · exact h
    · dsimp only
      split
      · simpa using h
      · exact State.applyWord_ibQueue_nil _ _ h
  · exact h

theorem State.serveNext_ibQueue_nil (s : State) (h : s.mgmt.ibQueue = []) : s.serveNext.mgmt.ibQueue = [] := by
  unfold State.serveNext
  dsimp only
  split
  · split
    · exact h
    · split
      · exact State.startDiag_ibQueue_nil _ _ _ (by simpa using h)
      · simpa using h
  · exact h

theorem State.ring_ibQueue_nil (s : State) (c : Nat) (h : s.mgmt.ibQueue = []) : (s.ring c).mgmt.ibQueue = [] := by
  unfold State.ring
  extract_lets op tag args s1 low s2 s3
  by_cases hl : low = true
  · rw [if_pos hl]; simp [s1, h]
  · rw [if_neg hl]
    exact State.serveNext_ibQueue_nil _ (by simp [s3, s2, s1, h])

theorem State.writeWord_ibQueue_nil (s : State) (x : WordWrite) (h : s.mgmt.ibQueue = []) :
    (s.writeWord x).2.mgmt.ibQueue = [] := by
  unfold State.writeWord
  dsimp only
  have ha := State.applyWord_ibQueue_nil s x h
  split
  · exact h
  · split
    · simp [h]
    · split
      · exact h
      · split
        · exact h
        · split
          · dsimp only
            split <;> simp [h]
          · dsimp only
            (repeat' split) <;> first | exact State.ring_ibQueue_nil _ _ (by simpa using ha) | simpa using ha

/-- Every field in the register at an offset of a page is a field of that page. -/
theorem fieldsAt_page {p : Page} {off : Nat} {e : Fld × Nat} (h : e ∈ fieldsAt p off) : e.1 ∈ pageFields p := by
  unfold fieldsAt at h
  obtain ⟨F, hF, h2⟩ := List.mem_filterMap.1 h
  split at h2 <;> simp at h2
  subst h2
  exact hF

theorem pageFields_page (p : Page) : ∀ F ∈ pageFields p, F.page = p := by
  cases p <;> decide

theorem hits_page (s : State) (x : WordWrite) (F : Fld) (h : hits (s.acted x) F = true) : F.page = x.page := by
  unfold hits at h
  obtain ⟨e, he, hF⟩ := List.any_eq_true.1 h
  have h1 : e ∈ fieldsAt x.page x.off := by
    unfold State.acted WordWrite.fields at he
    exact (List.mem_filter.1 (List.mem_filter.1 he).1).1
  have := pageFields_page _ _ (fieldsAt_page h1)
  simpa [← of_decide_eq_true hF] using this

/-- An accepted word outside the letterbox: its effect is `applyWord`. -/
theorem State.writeWord_ok (s : State) (x : WordWrite) (hp : x.page ≠ .letterbox) (h : (s.writeWord x).1 = .ok) :
    s.denies x (s.acted x) = false ∧ s.refuses x (s.acted x) = false ∧ (s.writeWord x).2 = s.applyWord x := by
  have hr : hits (s.acted x) LETTERBOX.DOORBELL.RING = false := by
    by_contra hc
    exact hp (hits_page s x _ (by simpa using hc)).symm
  unfold State.writeWord at h ⊢
  dsimp only at h ⊢
  simp only [hp, hr, false_and, if_false, Bool.false_and] at h ⊢
  by_cases h1 : s.denies x (s.acted x) = true
  · rw [if_pos h1] at h; cases h
  rw [if_neg h1] at h ⊢
  split at h
  · cases h
  · rename_i h2
    rw [if_neg h2]
    by_cases h3 : s.refuses x (s.acted x) = true
    · simp [h3] at h
    · simp [h3, h1]

theorem hits_iff (s : State) (x : WordWrite) (F : Fld) :
    hits (s.acted x) F = true ↔ ∃ j, (F, j) ∈ x.fields ∧ s.actsOn x (F, j) = true := by
  unfold hits State.acted
  rw [List.any_eq_true]
  constructor
  · rintro ⟨⟨G, j⟩, he, hF⟩
    obtain rfl : G = F := of_decide_eq_true hF
    exact ⟨j, List.mem_filter.1 he⟩
  · rintro ⟨j, hj⟩
    exact ⟨(F, j), List.mem_filter.2 hj, by simp⟩

/-- What a word carries for a field that is no row of event bits is its bits. -/
theorem WordWrite.carried_bits (x : WordWrite) (F : Fld) (h : F.off ≠ 0x010 ∧ F.off ≠ 0x014 ∧ F.off ≠ 0x018) :
    x.carried F = bits x.w F.lo F.w := by
  simp [WordWrite.carried, h]

/-- A trigger field that the word carries at something other than 0 is acted on. -/
theorem hits_w1p (s : State) (x : WordWrite) (F : Fld) (j : Nat) (hF : F.acc = .w1p) (hj : (F, j) ∈ x.fields)
    (hb : x.carried F ≠ 0) : hits (s.acted x) F = true := by
  refine (hits_iff s x F).2 ⟨j, hj, ?_⟩
  have : fieldThere F x.inst = true := by
    unfold WordWrite.fields at hj
    exact (List.mem_filter.1 hj).2
  simp [State.actsOn, hF, this, hb]

/-- A trigger field whose bits are 0, or that the word does not hold, is not. -/
theorem hits_false (s : State) (x : WordWrite) (F : Fld) (h : ∀ j, (F, j) ∉ x.fields) : hits (s.acted x) F = false := by
  by_contra hc
  obtain ⟨j, hj, _⟩ := (hits_iff s x F).1 (by simpa using hc)
  exact h j hj

theorem hits_w1p_zero (s : State) (x : WordWrite) (F : Fld) (hF : F.acc = .w1p)
    (hb : x.carried F = 0) : hits (s.acted x) F = false := by
  by_contra hc
  obtain ⟨j, hj, ha⟩ := (hits_iff s x F).1 (by simpa using hc)
  simp [State.actsOn, hF, hb] at ha

theorem bits_testBit (v lo w k : Nat) : (bits v lo w).testBit k = (decide (k < w) && v.testBit (lo + k)) := by
  unfold bits
  rw [Nat.testBit_mod_two_pow, Nat.testBit_div_two_pow, Nat.add_comm]

theorem ones_testBit (n lo k : Nat) : ((2 ^ n - 1) * 2 ^ lo).testBit k = (decide (lo ≤ k) && decide (k - lo < n)) := by
  rw [Nat.testBit_mul_two_pow, Nat.testBit_two_pow_sub_one]

theorem bits_withOnes (w : Word) (F : Fld) : bits (withOnes w F) F.lo F.w = 2 ^ F.w - 1 := by
  refine Nat.eq_of_testBit_eq fun k => ?_
  rw [bits_testBit, Nat.testBit_two_pow_sub_one]
  unfold withOnes
  rw [Nat.testBit_or, ones_testBit]
  by_cases h : k < F.w <;> simp [h]

/-- Setting one field leaves the bits of another alone. -/
theorem bits_withOnes_other (w : Word) (F G : Fld) (h : G.lo + G.w ≤ F.lo ∨ F.lo + F.w ≤ G.lo) :
    bits (withOnes w F) G.lo G.w = bits w.toNat G.lo G.w := by
  refine Nat.eq_of_testBit_eq fun k => ?_
  rw [bits_testBit, bits_testBit]
  unfold withOnes
  rw [Nat.testBit_or, ones_testBit]
  by_cases hk : k < G.w
  · have : (decide (F.lo ≤ G.lo + k) && decide (G.lo + k - F.lo < F.w)) = false := by
      rcases h with h | h <;> simp <;> omega
    simp [this]
  · simp [hk]

/-- A granted write outside the letterbox: the word is applied, and only what the channel last answered is added. -/
theorem State.writeAt_granted (s : State) (ch : Channel) (F : Fld) (i j w : Nat) (h : s.grants ch F i j w = true)
    (hi : i < F.page.count) (hl : F.page ≠ .letterbox) (ho : F.off + F.stride * j < 4096) :
    s.denies (F.write ch i j w) (s.acted (F.write ch i j w)) = false ∧
      s.refuses (F.write ch i j w) (s.acted (F.write ch i j w)) = false ∧
      ∃ m : Mgmt, m.core = (s.applyWord (F.write ch i j w)).mgmt.core ∧
        s.writeAt ch F i j w = (s.applyWord (F.write ch i j w)).modMgmt fun _ => m := by
  have hib : s.mgmt.ibQueue = [] := by
    unfold State.grants at h
    simp only [Bool.and_eq_true, List.isEmpty_iff] at h
    exact h.1.2
  obtain ⟨hok, m, hm, ht⟩ := State.hostWrite_granted s ch F i j w h hi (fun hp => absurd hp hl) ho
    (State.writeWord_ibQueue_nil _ _ hib)
  obtain ⟨h1, h2, h3⟩ := State.writeWord_ok s (F.write ch i j w) hl hok
  rw [h3] at hm ht
  exact ⟨h1, h2, m, hm, ht⟩

end Sys2Proof.Machine
end

