-- ==== Sys2Proof/Laws/Fuses.lean ====
section
/-! SUPPORT. What each meaning does to the one-time-programmable fuses. -/

namespace Sys2Proof.Machine

abbrev OtpData := Nat × Nat × Store KeySlot

/-- Lifecycle, SVN and key slots. -/

def TrustX.otp (x : TrustX) : OtpData := (x.lifecycle, x.svn, x.slots)

@[simp] theorem TrustX.otp_eta (x : TrustX) : (x.lifecycle, x.svn, x.slots) = x.otp := rfl

@[simp] theorem TrustX.otp_mk (a b : Nat) (c : Store KeySlot) (d : Nat) (e : Option Nat) (f g h : Nat) (i : Bool)
    (j : Store ImageSlot) (k : List Nat) (l : Option Upload) (m n : Store Transfer) (o : Store (List Nat)) (p q : Nat) (r : Bool) (t : Option (Nat × KeySlot)) (u : Nat) :
    TrustX.otp ⟨a,b,c,d,e,f,g,h,i,j,k,l,m,n,o,p,q,r,t,u⟩ = (a, b, c) := rfl

@[simp] theorem State.modTrust_trust (s : State) (f : TrustX → TrustX) : (s.modTrust f).trust = f s.trust := rfl

/-- The fuses of the next state, where there is one, is `q`. -/

def Answer.burns (a : Answer) (q : OtpData) : Prop := ∀ t, a = .next t → t.trust.otp = q

@[simp] theorem Answer.burns_next (t : State) (q : OtpData) : Answer.burns (.next t) q ↔ t.trust.otp = q := by
  simp [Answer.burns]

@[simp] theorem Answer.burns_fault (r : Fault) (q : OtpData) : Answer.burns (.fault r) q := by
  simp [Answer.burns]

@[simp] theorem TrustX.ite_otp (c : Prop) [Decidable c] (x y : TrustX) :
    (if c then x else y).otp = if c then x.otp else y.otp := by split <;> rfl

@[simp] theorem ite_otp (c : Prop) [Decidable c] (s t : State) :
    (if c then s else t).trust.otp = if c then s.trust.otp else t.trust.otp := by split <;> rfl

@[simp] theorem ite_burns (c : Prop) [Decidable c] (a b : Answer) (q : OtpData) :
    Answer.burns (if c then a else b) q ↔ if c then Answer.burns a q else Answer.burns b q := by split <;> rfl

@[simp] theorem foldl_otp {β : Type} (f : State → β → State) (h : ∀ s b, (f s b).trust.otp = s.trust.otp)
    (l : List β) (s : State) : (l.foldl f s).trust.otp = s.trust.otp := by
  induction l generalizing s with
  | nil => rfl
  | cons b l ih => rw [List.foldl_cons, ih, h]

/-! ### Ops -/

@[simp] theorem onPart_otp (what : String) (limit : Nat) (n : Nat) (s : State) :
    (onPart what limit n s).burns s.trust.otp := by
  simp [onPart]

@[simp] theorem onLine_otp (l : Nat) (s : State) :
    (onLine l s).burns s.trust.otp := by
  simp [onLine]

@[simp] theorem onPort_otp (p : Nat) (s : State) :
    (onPort p s).burns s.trust.otp := by
  simp [onPort]

@[simp] theorem onLane_otp (l : Nat) (s : State) :
    (onLane l s).burns s.trust.otp := by
  simp [onLane]

@[simp] theorem onCluster_otp (c : Nat) (s : State) :
    (onCluster c s).burns s.trust.otp := by
  simp [onCluster]

@[simp] theorem onPage_otp (p : Page) (i : Nat) (s : State) :
    (onPage p i s).burns s.trust.otp := by
  simp [onPage]

@[simp] theorem withLine_otp (l : Nat) (s : State) (f : State → State) (hf : ∀ x0, (f x0).trust.otp = x0.trust.otp) :
    (withLine l s f).burns s.trust.otp := by
  unfold withLine onLine onPart
  by_cases h : l < 128 <;> simp only [h, if_true, if_false]
  · (repeat' split) <;> simp [hf]
  · simp

@[simp] theorem withPort_otp (p : Nat) (s : State) (f : State → State) (hf : ∀ x0, (f x0).trust.otp = x0.trust.otp) :
    (withPort p s f).burns s.trust.otp := by
  unfold withPort onPort onPart
  by_cases h : p < 128 <;> simp only [h, if_true, if_false]
  · (repeat' split) <;> simp [hf]
  · simp

@[simp] theorem when_otp (c : Bool) (f : State → State) (s : State) (hf : ∀ x0, (f x0).trust.otp = x0.trust.otp) :
    (when c f s).trust.otp = s.trust.otp := by
  simp [when, hf]

@[simp] theorem withSignal_otp (l : Nat) (s : State) (f : State → State) (hf : ∀ x0, (f x0).trust.otp = x0.trust.otp) :
    (withSignal l s f).burns s.trust.otp :=
  withLine_otp _ _ _ fun _ => when_otp _ _ _ hf

@[simp] theorem withTimer_otp (l : Nat) (s : State) (f : State → State) (hf : ∀ x0, (f x0).trust.otp = x0.trust.otp) :
    (withTimer l s f).burns s.trust.otp :=
  withLine_otp _ _ _ fun _ => when_otp _ _ _ hf

@[simp] theorem withPortTimer_otp (p : Nat) (s : State) (f : State → State) (hf : ∀ x0, (f x0).trust.otp = x0.trust.otp) :
    (withPortTimer p s f).burns s.trust.otp :=
  withPort_otp _ _ _ fun _ => when_otp _ _ _ hf

@[simp] theorem withLane_otp (l : Nat) (s : State) (f : State → State) (hf : ∀ x0, (f x0).trust.otp = x0.trust.otp) :
    (withLane l s f).burns s.trust.otp := by
  unfold withLane onLane onPart
  by_cases h : l < 32 <;> simp only [h, if_true, if_false]
  · (repeat' split) <;> simp [hf]
  · simp

@[simp] theorem State.wr_otp (s : State) (F : Fld) (v : Nat) (i : Nat) (j : Nat) :
    (State.wr s F v i j).trust.otp = s.trust.otp := by
  simp [State.wr]

@[simp] theorem State.bump_otp (s : State) (F : Fld) (i : Nat) (k : Nat) (j : Nat) :
    (State.bump s F i k j).trust.otp = s.trust.otp := by
  simp [State.bump]

@[simp] theorem State.bump64_otp (s : State) (lo : Fld) (hi : Fld) (i : Nat) (k : Nat) :
    (State.bump64 s lo hi i k).trust.otp = s.trust.otp := by
  simp [State.bump64]

@[simp] theorem State.wrWords_otp (s : State) (F : Fld) (i : Nat) (ws : List Nat) :
    (State.wrWords s F i ws).trust.otp = s.trust.otp := by
  simp [State.wrWords]

@[simp] theorem State.setLine_otp (s : State) (l : Nat) (x : LineX) :
    (State.setLine s l x).trust.otp = s.trust.otp := by
  simp [State.setLine]

@[simp] theorem State.setPort_otp (s : State) (p : Nat) (x : PortX) :
    (State.setPort s p x).trust.otp = s.trust.otp := by
  simp [State.setPort]

@[simp] theorem State.setLane_otp (s : State) (l : Nat) (x : LaneX) :
    (State.setLane s l x).trust.otp = s.trust.otp := by
  simp [State.setLane]

@[simp] theorem State.modLine_otp (s : State) (l : Nat) (f : LineX → LineX) :
    (State.modLine s l f).trust.otp = s.trust.otp := by
  simp [State.modLine]

@[simp] theorem State.modPort_otp (s : State) (p : Nat) (f : PortX → PortX) :
    (State.modPort s p f).trust.otp = s.trust.otp := by
  simp [State.modPort]

@[simp] theorem State.modLane_otp (s : State) (l : Nat) (f : LaneX → LaneX) :
    (State.modLane s l f).trust.otp = s.trust.otp := by
  simp [State.modLane]

@[simp] theorem State.modMgmt_otp (s : State) (f : Mgmt → Mgmt) :
    (State.modMgmt s f).trust.otp = s.trust.otp := by
  simp [State.modMgmt]

@[simp] theorem State.modFault_otp (s : State) (f : FaultX → FaultX) :
    (State.modFault s f).trust.otp = s.trust.otp := by
  simp [State.modFault]

@[simp] theorem State.modClk_otp (s : State) (f : ClockX → ClockX) :
    (State.modClk s f).trust.otp = s.trust.otp := by
  simp [State.modClk]

@[simp] theorem State.modLvl_otp (s : State) (f : LevelX → LevelX) :
    (State.modLvl s f).trust.otp = s.trust.otp := by
  simp [State.modLvl]

@[simp] theorem State.modPwr_otp (s : State) (f : PowerX → PowerX) :
    (State.modPwr s f).trust.otp = s.trust.otp := by
  simp [State.modPwr]

@[simp] theorem State.draw_otp (s : State) :
    (State.draw s).2.trust.otp = s.trust.otp := by
  simp [State.draw]

@[simp] theorem State.setSession_otp (s : State) (c : Nat) (x : Session) :
    (State.setSession s c x).trust.otp = s.trust.otp := by
  simp [State.setSession]

@[simp] theorem State.refreshPins_otp (s : State) :
    (State.refreshPins s).trust.otp = s.trust.otp := by
  simp [State.refreshPins]

@[simp] theorem State.sendEvent_otp (s : State) (n : Nat) (level : Bool) :
    (State.sendEvent s n level).trust.otp = s.trust.otp := by
  simp [State.sendEvent]

@[simp] theorem State.inbandDue_otp (s : State) (n : Nat) (level : Bool) :
    (State.inbandDue s n level).trust.otp = s.trust.otp := by
  simp [State.inbandDue]

@[simp] theorem State.inbandChange_otp (s : State) (n : Nat) (level : Bool) :
    (State.inbandChange s n level).trust.otp = s.trust.otp := by
  simp [State.inbandChange]

@[simp] theorem State.refreshSource_otp (s : State) (n : Nat) :
    (State.refreshSource s n).trust.otp = s.trust.otp := by
  simp [State.refreshSource]

@[simp] theorem State.refreshPage_otp (s : State) (p : Page) (i : Nat) :
    (State.refreshPage s p i).trust.otp = s.trust.otp := by
  simp [State.refreshPage]

@[simp] theorem State.edges_otp (s : State) (p : Page) (i : Nat) (mask : Nat) :
    (State.edges s p i mask).trust.otp = s.trust.otp := by
  simp [State.edges]

@[simp] theorem State.pulse_otp (s : State) (p : Page) (i : Nat) (b : Nat) :
    (State.pulse s p i b).trust.otp = s.trust.otp := by
  simp [State.pulse]

@[simp] theorem State.cond_otp (s : State) (p : Page) (i : Nat) (b : Nat) (on : Bool) :
    (State.cond s p i b on).trust.otp = s.trust.otp := by
  simp [State.cond]

@[simp] theorem State.beginResult_otp (s : State) (p : Page) (i : Nat) :
    (State.beginResult s p i).trust.otp = s.trust.otp := by
  simp [State.beginResult]

@[simp] theorem State.landResult_otp (s : State) (p : Page) (i : Nat) :
    (State.landResult s p i).trust.otp = s.trust.otp := by
  simp [State.landResult]

@[simp] theorem State.capture_otp (s : State) (ns : Fld) (sec : Fld) (sech : Fld) (frac : Fld) (i : Nat) (j : Nat) :
    (State.capture s ns sec sech frac i j).trust.otp = s.trust.otp := by
  simp [State.capture]

@[simp] theorem State.capture2_otp (s : State) (ns : Fld) (sec : Fld) (i : Nat) :
    (State.capture2 s ns sec i).trust.otp = s.trust.otp := by
  simp [State.capture2]

@[simp] theorem State.placeRecord_otp (s : State) (r : Nat) (f : FaultReport) (real : Bool) :
    (State.placeRecord s r f real).trust.otp = s.trust.otp := by
  simp [State.placeRecord]

@[simp] theorem State.companion_otp (s : State) (r : Nat) (src : Nat) :
    (State.companion s r src).trust.otp = s.trust.otp := by
  simp [State.companion]

@[simp] theorem State.record_otp (s : State) (f : FaultReport) (real : Bool) :
    (State.record s f real).trust.otp = s.trust.otp := by
  simp [State.record]

@[simp] theorem State.countFault_otp (s : State) (f : FaultReport) :
    (State.countFault s f).trust.otp = s.trust.otp := by
  simp [State.countFault]

@[simp] theorem State.unitRecorded_otp (s : State) (f : FaultReport) :
    (State.unitRecorded s f).trust.otp = s.trust.otp := by
  simp [State.unitRecorded]

@[simp] theorem State.log_otp (s : State) (f : FaultReport) :
    (State.log s f).trust.otp = s.trust.otp := by
  simp [State.log]

@[simp] theorem State.healthChanged_otp (s : State) (src : Nat) :
    (State.healthChanged s src).trust.otp = s.trust.otp := by
  simp [State.healthChanged]

@[simp] theorem State.beginRecovery_otp (s : State) (src : Nat) :
    (State.beginRecovery s src).trust.otp = s.trust.otp := by
  simp [State.beginRecovery]

@[simp] theorem State.endRecovery_otp (s : State) (src : Nat) :
    (State.endRecovery s src).trust.otp = s.trust.otp := by
  simp [State.endRecovery]

@[simp] theorem State.faultS1_otp (s : State) (code : Nat) (src : Nat) (addr : Nat) :
    (State.faultS1 s code src addr).trust.otp = s.trust.otp := by
  simp [State.faultS1]

@[simp] theorem State.noteS1_otp (s : State) (code : Nat) (src : Nat) (addr : Nat) :
    (State.noteS1 s code src addr).trust.otp = s.trust.otp := by
  simp [State.noteS1]

@[simp] theorem State.faultS2Unit_otp (s : State) (code : Nat) (src : Nat) (addr : Nat) :
    (State.faultS2Unit s code src addr).trust.otp = s.trust.otp := by
  simp [State.faultS2Unit]

@[simp] theorem State.accessError_otp (s : State) (master : Nat) (access : Nat) (addr : Nat) :
    (State.accessError s master access addr).trust.otp = s.trust.otp := by
  simp [State.accessError]

/-! ### Seal -/

@[simp] theorem State.setResult_otp (s : State) (p : Page) (i : Nat) (r : Nat) :
    (State.setResult s p i r).trust.otp = s.trust.otp := by
  simp [State.setResult]

@[simp] theorem State.dropPost_otp (s : State) (p : Page) (i : Nat) :
    (State.dropPost s p i).trust.otp = s.trust.otp := by
  simp [State.dropPost]

@[simp] theorem State.finishPost_otp (s : State) (p : Page) (i : Nat) (r : Nat) :
    (State.finishPost s p i r).trust.otp = s.trust.otp := by
  simp [State.finishPost]

@[simp] theorem State.setPhase_otp (s : State) (p : Page) (i : Nat) (ph : PostPhase) (target : Option Nat) :
    (State.setPhase s p i ph target).trust.otp = s.trust.otp := by
  simp [State.setPhase]

@[simp] theorem State.regridPosts_otp (s : State) (sel : Post → Bool) (now : Nat) :
    (State.regridPosts s sel now).trust.otp = s.trust.otp := by
  unfold State.regridPosts
  refine foldl_otp _ (fun s x => ?_) _ _
  try dsimp only
  (repeat' split) <;> simp

@[simp] theorem State.landLocks_otp (s : State) (locks : List (Page × Nat × Nat)) :
    (State.landLocks s locks).trust.otp = s.trust.otp := by
  simp [State.landLocks]

@[simp] theorem State.endRun_otp (s : State) (r : Nat) :
    (State.endRun s r).trust.otp = s.trust.otp := by
  simp [State.endRun]

@[simp] theorem State.dismissMembers_otp (s : State) (r : Nat) :
    (State.dismissMembers s r).trust.otp = s.trust.otp := by
  simp [State.dismissMembers]

@[simp] theorem State.withdrawRun_otp (s : State) :
    (State.withdrawRun s).trust.otp = s.trust.otp := by
  unfold State.withdrawRun
  refine foldl_otp _ (fun s x => ?_) _ _
  try dsimp only
  (repeat' split) <;> simp

@[simp] theorem State.refusePosts_otp (s : State) (sel : Post → Bool) :
    (State.refusePosts s sel).trust.otp = s.trust.otp := by
  simp [State.refusePosts]

@[simp] theorem State.abortNeg_otp (s : State) (port : Nat) :
    (State.abortNeg s port).trust.otp = s.trust.otp := by
  simp [State.abortNeg]

@[simp] theorem State.propose_otp (s : State) (port : Nat) (target : Nat) (cs : List Change) :
    (State.propose s port target cs).trust.otp = s.trust.otp := by
  unfold State.propose; split <;> simp

/-! ### Bounds -/

@[simp] theorem State.refreshPort_otp (s : State) (p : Nat) :
    (State.refreshPort s p).trust.otp = s.trust.otp := by
  simp [State.refreshPort]

@[simp] theorem State.refreshPorts_otp (s : State) :
    (State.refreshPorts s).trust.otp = s.trust.otp := by
  simp [State.refreshPorts]

@[simp] theorem State.showRoundTrip_otp (s : State) (p : Nat) :
    (State.showRoundTrip s p).trust.otp = s.trust.otp := by
  simp [State.showRoundTrip]

@[simp] theorem State.setTa_otp (s : State) (l : Nat) (ta : Nat) :
    (State.setTa s l ta).trust.otp = s.trust.otp := by
  simp [State.setTa]

@[simp] theorem State.correctTa_otp (s : State) (l : Nat) (base : Nat) (corr : Int) :
    (State.correctTa s l base corr).trust.otp = s.trust.otp := by
  simp [State.correctTa]

@[simp] theorem State.showTable_otp (s : State) (l : Nat) :
    (State.showTable s l).trust.otp = s.trust.otp := by
  simp [State.showTable]

/-! ### Chain -/

@[simp] theorem State.modMon_otp (s : State) (l : Nat) (f : MonX → MonX) :
    (State.modMon s l f).trust.otp = s.trust.otp := by
  simp [State.modMon]

@[simp] theorem State.modReach_otp (s : State) (l : Nat) (f : ReachX → ReachX) :
    (State.modReach s l f).trust.otp = s.trust.otp := by
  simp [State.modReach]

@[simp] theorem State.modStd_otp (s : State) (l : Nat) (f : StdX → StdX) :
    (State.modStd s l f).trust.otp = s.trust.otp := by
  simp [State.modStd]

@[simp] theorem State.modCal_otp (s : State) (l : Nat) (f : CalX → CalX) :
    (State.modCal s l f).trust.otp = s.trust.otp := by
  simp [State.modCal]

@[simp] theorem State.startTx_otp (s : State) (l : Nat) (netid : Nat) (p : ReachPkt) :
    (State.startTx s l netid p).trust.otp = s.trust.otp := by
  simp [State.startTx]

@[simp] theorem State.noteGo_otp (s : State) (l : Nat) (p : ReachPkt) :
    (State.noteGo s l p).trust.otp = s.trust.otp := by
  unfold State.noteGo; (repeat' split) <;> simp

@[simp] theorem State.sendDue_otp (s : State) (l : Nat) :
    (State.sendDue s l).trust.otp = s.trust.otp := by
  unfold State.sendDue; dsimp only; (repeat' split) <;> simp

@[simp] theorem State.showDetectors_otp (s : State) (l : Nat) :
    (State.showDetectors s l).trust.otp = s.trust.otp := by
  simp [State.showDetectors]

@[simp] theorem State.detect_otp (s : State) (l : Nat) (p : Rat) :
    (State.detect s l p).trust.otp = s.trust.otp := by
  simp [State.detect]

@[simp] theorem State.endBlock_otp (s : State) (l : Nat) :
    (State.endBlock s l).trust.otp = s.trust.otp := by
  simp [State.endBlock]

@[simp] theorem State.finishCapture_otp (s : State) (l : Nat) (reason : Nat) (ws : List Nat) :
    (State.finishCapture s l reason ws).trust.otp = s.trust.otp := by
  unfold State.finishCapture; split <;> simp

@[simp] theorem State.cutCapture_otp (s : State) (l : Nat) (reason : Nat) :
    (State.cutCapture s l reason).trust.otp = s.trust.otp := by
  unfold State.cutCapture; split <;> simp

@[simp] theorem State.landSync_otp (s : State) (l : Nat) :
    (State.landSync s l).trust.otp = s.trust.otp := by
  unfold State.landSync; split <;> simp

@[simp] theorem State.refreshOwner_otp (s : State) (l : Nat) :
    (State.refreshOwner s l).trust.otp = s.trust.otp := by
  simp [State.refreshOwner]

@[simp] theorem State.stopChain_otp (s : State) (l : Nat) :
    (State.stopChain s l).trust.otp = s.trust.otp := by
  simp [State.stopChain]

@[simp] theorem State.countFade_otp (s : State) (l : Nat) :
    (State.countFade s l).trust.otp = s.trust.otp := by
  simp [State.countFade]

@[simp] theorem State.captureSample_otp (s : State) (l : Nat) (back : Nat) (y : Cx) :
    (State.captureSample s l back y).trust.otp = s.trust.otp := by
  unfold State.captureSample; split <;> simp

@[simp] theorem State.emit_otp (s : State) (l : Nat) (back : Nat) (y : Cx) :
    (State.emit s l back y).trust.otp = s.trust.otp := by
  simp [State.emit]

@[simp] theorem State.feedSample_otp (s : State) (l : Nat) (back : Nat) (code : Int) :
    (State.feedSample s l back code).trust.otp = s.trust.otp := by
  simp [State.feedSample]

@[simp] theorem State.feed_otp (s : State) (l : Nat) (adc : List Int) :
    (State.feed s l adc).trust.otp = s.trust.otp := by
  simp [State.feed]

/-! ### Lines -/

@[simp] theorem State.setErase_otp (s : State) (l : Nat) (mask : Nat) :
    (State.setErase s l mask).trust.otp = s.trust.otp := by
  simp [State.setErase]

@[simp] theorem State.refreshErase_otp (s : State) (l : Nat) :
    (State.refreshErase s l).trust.otp = s.trust.otp := by
  unfold State.refreshErase; (repeat' split) <;> simp

@[simp] theorem State.startErasure_otp (s : State) (tag : Nat) :
    (State.startErasure s tag).trust.otp = s.trust.otp := by
  simp [State.startErasure]

@[simp] theorem State.moveErase_otp (s : State) (l : Nat) (old : LineState) :
    (State.moveErase s l old).trust.otp = s.trust.otp := by
  unfold State.moveErase; (repeat' split) <;> simp

@[simp] theorem State.setRmask_otp (s : State) (l : Nat) (mask : Nat) :
    (State.setRmask s l mask).trust.otp = s.trust.otp := by
  simp [State.setRmask]

@[simp] theorem State.settleMask_otp (s : State) (l : Nat) :
    (State.settleMask s l).trust.otp = s.trust.otp := by
  unfold State.settleMask; dsimp only; (repeat' split) <;> simp

@[simp] theorem State.stopModem_otp (s : State) (l : Nat) (off : Bool) :
    (State.stopModem s l off).trust.otp = s.trust.otp := by
  simp [State.stopModem]

@[simp] theorem State.setDac_otp (s : State) (l : Nat) (x : DacInput) :
    (State.setDac s l x).trust.otp = s.trust.otp := by
  simp [State.setDac]

@[simp] theorem State.refreshDacs_otp (s : State) :
    (State.refreshDacs s).trust.otp = s.trust.otp := by
  simp [State.refreshDacs]

@[simp] theorem State.askPort_otp (s : State) (master : Nat) :
    (State.askPort s master).trust.otp = s.trust.otp := by
  simp [State.askPort]

@[simp] theorem State.wantClear_otp (s : State) (l : Nat) :
    (State.wantClear s l).trust.otp = s.trust.otp := by
  simp [State.wantClear]

@[simp] theorem State.moveLine_otp (s : State) (l : Nat) (st : LineState) (sub : Nat) :
    (State.moveLine s l st sub).trust.otp = s.trust.otp := by
  simp [State.moveLine]

@[simp] theorem State.noteReason_otp (s : State) (l : Nat) (reason : Nat) :
    (State.noteReason s l reason).trust.otp = s.trust.otp := by
  simp [State.noteReason]

@[simp] theorem State.leaveActive_otp (s : State) (l : Nat) :
    (State.leaveActive s l).trust.otp = s.trust.otp := by
  simp [State.leaveActive]

@[simp] theorem State.noteRotated_otp (s : State) (l : Nat) :
    (State.noteRotated s l).trust.otp = s.trust.otp := by
  simp [State.noteRotated]

@[simp] theorem State.forgetLine_otp (s : State) (l : Nat) :
    (State.forgetLine s l).trust.otp = s.trust.otp := by
  simp [State.forgetLine]

@[simp] theorem State.forgetAttempt_otp (s : State) (l : Nat) :
    (State.forgetAttempt s l).trust.otp = s.trust.otp := by
  unfold State.forgetAttempt; dsimp only; (repeat' split) <;> simp

@[simp] theorem State.quietOne_otp (s : State) (l : Nat) (reason : Nat) (hold : Nat) :
    (State.quietOne s l reason hold).trust.otp = s.trust.otp := by
  simp [State.quietOne]

@[simp] theorem State.quietPeers_otp (s : State) (l : Nat) :
    (State.quietPeers s l).trust.otp = s.trust.otp := by
  simp [State.quietPeers]

@[simp] theorem State.queueJoin_otp (s : State) (port : Nat) :
    (State.queueJoin s port).trust.otp = s.trust.otp := by
  simp [State.queueJoin]

@[simp] theorem State.unqueueJoin_otp (s : State) (port : Nat) :
    (State.unqueueJoin s port).trust.otp = s.trust.otp := by
  simp [State.unqueueJoin]

@[simp] theorem State.unjoin_otp (s : State) (missing : List Nat) (l : Nat) :
    (State.unjoin s missing l).trust.otp = s.trust.otp := by
  simp [State.unjoin]

@[simp] theorem State.failJoin_otp (s : State) (missing : List Nat) :
    (State.failJoin s missing).trust.otp = s.trust.otp := by
  unfold State.failJoin; split <;> simp

@[simp] theorem State.failJoinOf_otp (s : State) (l : Nat) (missing : List Nat) :
    (State.failJoinOf s l missing).trust.otp = s.trust.otp := by
  unfold State.failJoinOf; split <;> simp

@[simp] theorem State.quietLine_otp (s : State) (l : Nat) (reason : Nat) (hold : Nat) :
    (State.quietLine s l reason hold).trust.otp = s.trust.otp := by
  simp [State.quietLine]

@[simp] theorem State.countLost_otp (s : State) (p : Nat) (n : Nat) :
    (State.countLost s p n).trust.otp = s.trust.otp := by
  simp [State.countLost]

@[simp] theorem State.emptyPort_otp (s : State) (port : Nat) :
    (State.emptyPort s port).trust.otp = s.trust.otp := by
  simp [State.emptyPort]

@[simp] theorem State.leftShowtime_otp (s : State) (l : Nat) :
    (State.leftShowtime s l).trust.otp = s.trust.otp := by
  simp [State.leftShowtime]

@[simp] theorem State.dropFromPort_otp (s : State) (l : Nat) :
    (State.dropFromPort s l).trust.otp = s.trust.otp := by
  simp [State.dropFromPort]

@[simp] theorem State.endWake_otp (s : State) (p : Nat) :
    (State.endWake s p).trust.otp = s.trust.otp := by
  simp [State.endWake]

@[simp] theorem State.lowSnr_otp (s : State) (l : Nat) :
    (State.lowSnr s l).trust.otp = s.trust.otp := by
  simp [State.lowSnr]

@[simp] theorem State.retrainLine_otp (s : State) (l : Nat) (reason : Nat) :
    (State.retrainLine s l reason).trust.otp = s.trust.otp := by
  simp [State.retrainLine]

@[simp] theorem State.lineGone_otp (s : State) (l : Nat) (old : LineState) :
    (State.lineGone s l old).trust.otp = s.trust.otp := by
  simp [State.lineGone]

@[simp] theorem State.noteExit_otp (s : State) (l : Nat) (reason : Nat) :
    (State.noteExit s l reason).trust.otp = s.trust.otp := by
  simp [State.noteExit]

@[simp] theorem State.faultLine_otp (s : State) (l : Nat) :
    (State.faultLine s l).trust.otp = s.trust.otp := by
  simp [State.faultLine]

@[simp] theorem State.startLine_otp (s : State) (l : Nat) :
    (State.startLine s l).trust.otp = s.trust.otp := by
  simp [State.startLine]

@[simp] theorem State.holdOff_otp (s : State) (l : Nat) :
    (State.holdOff s l).trust.otp = s.trust.otp := by
  simp [State.holdOff]

@[simp] theorem State.resumeLine_otp (s : State) (l : Nat) :
    (State.resumeLine s l).trust.otp = s.trust.otp := by
  simp [State.resumeLine]

@[simp] theorem State.restartLine_otp (s : State) (l : Nat) :
    (State.restartLine s l).trust.otp = s.trust.otp := by
  simp [State.restartLine]

@[simp] theorem State.stageTables_otp (s : State) (l : Nat) (rx tx : Store Nat) :
    (State.stageTables s l rx tx).trust.otp = s.trust.otp := by
  unfold State.stageTables; (repeat' split) <;> simp

@[simp] theorem State.proposeTables_otp (s : State) (l target : Nat) :
    (State.proposeTables s l target).trust.otp = s.trust.otp := by
  unfold State.proposeTables; dsimp only; (repeat' split) <;> simp

@[simp] theorem State.reload_otp (s : State) (l : Nat) (target : Nat) (rx : Store Nat) (tx : Store Nat) :
    (State.reload s l target rx tx).trust.otp = s.trust.otp := by
  simp [State.reload]

@[simp] theorem State.stageMask_otp (s : State) (l : Nat) :
    (State.stageMask s l).trust.otp = s.trust.otp := by
  simp [State.stageMask]

@[simp] theorem State.refreshMasks_otp (s : State) :
    (State.refreshMasks s).trust.otp = s.trust.otp := by
  simp [State.refreshMasks]

/-! ### Matrix -/

@[simp] theorem State.setCoef_otp (s : State) (key : Nat) (c : Int × Int) :
    (State.setCoef s key c).trust.otp = s.trust.otp := by
  simp [State.setCoef]

@[simp] theorem State.writeCoef_otp (s : State) (m : Nat) (k : Nat) (v : Nat) (d : Nat) (c : Int × Int) :
    (State.writeCoef s m k v d c).trust.otp = s.trust.otp := by
  simp [State.writeCoef]

@[simp] theorem State.updateCoef_otp (s : State) (key : Nat) (re : Int) (im : Int) :
    (State.updateCoef s key re im).trust.otp = s.trust.otp := by
  simp [State.updateCoef]

@[simp] theorem State.addCoef_otp (s : State) (key : Nat) (re : Int) (im : Int) :
    (State.addCoef s key re im).trust.otp = s.trust.otp := by
  simp [State.addCoef]

@[simp] theorem State.clearEntries_otp (s : State) (l : Nat) :
    (State.clearEntries s l).trust.otp = s.trust.otp := by
  simp [State.clearEntries]

@[simp] theorem State.setFeq_otp (s : State) (l : Nat) (k : Nat) (c : Cx) :
    (State.setFeq s l k c).trust.otp = s.trust.otp := by
  simp [State.setFeq]

@[simp] theorem State.landNxt_otp (s : State) :
    (State.landNxt s).trust.otp = s.trust.otp := by
  simp [State.landNxt]

@[simp] theorem State.countSkips_otp (s : State) (n : Nat) :
    (State.countSkips s n).trust.otp = s.trust.otp := by
  simp [State.countSkips]

@[simp] theorem State.stepNorm_otp (s : State) (k : Nat) :
    (State.stepNorm s k).trust.otp = s.trust.otp := by
  simp [State.stepNorm]

@[simp] theorem State.addIncs_otp (s : State) (incs : List (Nat × Cx)) (factor : Nat) :
    (State.addIncs s incs factor).trust.otp = s.trust.otp := by
  simp [State.addIncs]

@[simp] theorem State.landPrdIncs_otp (s : State) (incs : List (Nat × Cx)) (k : Nat) :
    (State.landPrdIncs s incs k).trust.otp = s.trust.otp := by
  simp [State.landPrdIncs]

@[simp] theorem State.corrected_otp (s : State) :
    (State.corrected s).trust.otp = s.trust.otp := by
  simp [State.corrected]

@[simp] theorem State.recoverEntry_otp (s : State) (m : Nat) (index : Nat) :
    (State.recoverEntry s m index).trust.otp = s.trust.otp := by
  simp [State.recoverEntry]

@[simp] theorem State.showUe_otp (s : State) (m : Nat) (index : Nat) :
    (State.showUe s m index).trust.otp = s.trust.otp := by
  simp [State.showUe]

@[simp] theorem State.uncorrectable_otp (s : State) (m : Nat) (index : Nat) :
    (State.uncorrectable s m index).trust.otp = s.trust.otp := by
  simp [State.uncorrectable]

@[simp] theorem State.recoveryCheck_otp (s : State) :
    (State.recoveryCheck s).trust.otp = s.trust.otp := by
  simp [State.recoveryCheck]

@[simp] theorem State.releasePort_otp (s : State) (master : Nat) :
    (State.releasePort s master).trust.otp = s.trust.otp := by
  simp [State.releasePort]

/-! ### Ports -/

@[simp] theorem State.refreshDegraded_otp (s : State) (p : Nat) :
    (State.refreshDegraded s p).trust.otp = s.trust.otp := by
  simp [State.refreshDegraded]

@[simp] theorem State.clearPending_otp (s : State) (l : Nat) :
    (State.clearPending s l).trust.otp = s.trust.otp := by
  simp [State.clearPending]

@[simp] theorem State.applyTables_otp (s : State) (l : Nat) (rx : Bool) (tx : Bool) :
    (State.applyTables s l rx tx).trust.otp = s.trust.otp := by
  simp [State.applyTables]

@[simp] theorem State.landMask_otp (s : State) (l : Nat) :
    (State.landMask s l).trust.otp = s.trust.otp := by
  simp [State.landMask]

@[simp] theorem State.applyProfile_otp (s : State) (p : Nat) :
    (State.applyProfile s p).trust.otp = s.trust.otp := by
  simp [State.applyProfile]

@[simp] theorem State.enterShowtime_otp (s : State) (l : Nat) :
    (State.enterShowtime s l).trust.otp = s.trust.otp := by
  simp [State.enterShowtime]

@[simp] theorem State.rescaleNxt_otp (s : State) (l : Nat) (row : Bool) (r : Rat) :
    (State.rescaleNxt s l row r).trust.otp = s.trust.otp := by
  simp [State.rescaleNxt]

@[simp] theorem State.setPga_otp (s : State) (l : Nat) (v : Nat) :
    (State.setPga s l v).trust.otp = s.trust.otp := by
  simp [State.setPga]

@[simp] theorem State.setRange_otp (s : State) (l : Nat) (v : Nat) :
    (State.setRange s l v).trust.otp = s.trust.otp := by
  simp [State.setRange]

@[simp] theorem State.landChange_otp (s : State) (p : Nat) (a2 : Change) :
    (State.landChange s p a2).trust.otp = s.trust.otp := by
  unfold State.landChange; split <;> simp

@[simp] theorem State.adoptProfile_otp (s : State) (p : Nat) (ours : Bool) (a3 : Change) :
    (State.adoptProfile s p ours a3).trust.otp = s.trust.otp := by
  unfold State.adoptProfile; split <;> simp

@[simp] theorem State.landNeg_otp (s : State) (p : Nat) :
    (State.landNeg s p).trust.otp = s.trust.otp := by
  unfold State.landNeg; split <;> simp

/-! ### Secy -/

@[simp] theorem State.refreshFill_otp (s : State) (p : Nat) :
    (State.refreshFill s p).trust.otp = s.trust.otp := by
  unfold State.refreshFill; dsimp only; (repeat' split) <;> simp

@[simp] theorem State.sendControl_otp (s : State) (p : Nat) (cap : Nat) (b : Block) :
    (State.sendControl s p cap b).trust.otp = s.trust.otp := by
  simp [State.sendControl]

@[simp] theorem State.secyCount_otp (s : State) (p : Nat) (i : Nat) :
    (State.secyCount s p i).trust.otp = s.trust.otp := by
  simp [State.secyCount]

@[simp] theorem State.setSa_otp (s : State) (p : Nat) (a : Nat) (x : Sa) :
    (State.setSa s p a x).trust.otp = s.trust.otp := by
  simp [State.setSa]

@[simp] theorem State.reachPn_otp (s : State) (p : Nat) (a : Nat) (sa : Sa) :
    (State.reachPn s p a sa).trust.otp = s.trust.otp := by
  unfold State.reachPn; dsimp only; (repeat' split) <;> simp

@[simp] theorem State.landSas_otp (s : State) (p : Nat) (tx : Bool) :
    (State.landSas s p tx).trust.otp = s.trust.otp := by
  unfold State.landSas; dsimp only; split <;> simp

@[simp] theorem State.secyOut_otp (s : State) (p : Nat) (f : List Block) :
    (State.secyOut s p f).2.trust.otp = s.trust.otp := by
  unfold State.secyOut; dsimp only; (repeat' split) <;> simp

@[simp] theorem State.secyFail_otp (s : State) (p : Nat) (i : Nat) (f : List Block) :
    (State.secyFail s p i f).2.trust.otp = s.trust.otp := by
  simp [State.secyFail]

@[simp] theorem State.secyIn_otp (s : State) (p : Nat) (f : List Block) :
    (State.secyIn s p f).2.trust.otp = s.trust.otp := by
  unfold State.secyIn; dsimp only; (repeat' split) <;> simp

@[simp] theorem State.offerBlock_otp (s : State) (p : Nat) (cap : Nat) (F : Fld) (c : Nat) (b : Block) :
    (State.offerBlock s p cap F c b).trust.otp = s.trust.otp := by
  simp [State.offerBlock]

@[simp] theorem State.intoIngress_otp (s : State) (p : Nat) (bs : List Block) :
    (State.intoIngress s p bs).trust.otp = s.trust.otp := by
  simp [State.intoIngress]

@[simp] theorem State.fromHost_otp (s : State) (p : Nat) (b : Block) :
    (State.fromHost s p b).trust.otp = s.trust.otp := by
  simp [State.fromHost]

@[simp] theorem State.toHost_otp (s : State) (p : Nat) (bs : List Block) :
    (State.toHost s p bs).trust.otp = s.trust.otp := by
  simp [State.toHost]

@[simp] theorem State.pastSecy_otp (s : State) (p : Nat) (b : Block) :
    (State.pastSecy s p b).trust.otp = s.trust.otp := by
  simp [State.pastSecy]

@[simp] theorem State.deliver_otp (s : State) (p : Nat) (bs : List Block) :
    (State.deliver s p bs).trust.otp = s.trust.otp := by
  simp [State.deliver]

/-! ### Pace -/

@[simp] theorem State.lowerIssue_otp (s : State) (p : Nat) :
    (State.lowerIssue s p).trust.otp = s.trust.otp := by
  unfold State.lowerIssue; split <;> simp

/-! ### Framing -/

@[simp] theorem State.spentDtus_otp (s : State) (p : Nat) :
    (State.spentDtus s p).trust.otp = s.trust.otp := by
  simp [State.spentDtus]

@[simp] theorem State.nextDtu_otp (s : State) (p : Nat) :
    (State.nextDtu s p).2.trust.otp = s.trust.otp := by
  unfold State.nextDtu; dsimp only; (repeat' split) <;> simp

@[simp] theorem State.fillBulk_otp (a0 : Nat) (a1 : Nat) (a2 : Nat) (a3 : State) :
    (State.fillBulk a0 a1 a2 a3).trust.otp = a3.trust.otp := by
  induction a0 generalizing a3 with
  | zero => rfl
  | succ n ih =>
    unfold State.fillBulk
    try dsimp only
    (repeat' split) <;> simp [ih]

@[simp] theorem State.portBits_otp (s : State) (p : Nat) :
    (State.portBits s p).2.trust.otp = s.trust.otp := by
  unfold State.portBits
  try dsimp only
  (repeat' split) <;> simp

@[simp] theorem State.ageDtus_otp (s : State) (p : Nat) (b : Nat) :
    (State.ageDtus s p b).trust.otp = s.trust.otp := by
  simp [State.ageDtus]

@[simp] theorem State.countError_otp (s : State) (p : Nat) :
    (State.countError s p).trust.otp = s.trust.otp := by
  simp [State.countError]

@[simp] theorem State.countCodeword_otp (s : State) (p : Nat) (fixed : Bool) (ok : Bool) :
    (State.countCodeword s p fixed ok).trust.otp = s.trust.otp := by
  simp [State.countCodeword]

@[simp] theorem State.drainExpress_otp (a0 : Nat) (a1 : Nat) (a2 : State) :
    (State.drainExpress a0 a1 a2).trust.otp = a2.trust.otp := by
  induction a0 generalizing a2 with
  | zero => rfl
  | succ n ih =>
    unfold State.drainExpress
    try dsimp only
    (repeat' split) <;> simp [ih]

@[simp] theorem State.rxExpress_otp (s : State) (p : Nat) (l : List Rat) :
    (State.rxExpress s p l).trust.otp = s.trust.otp := by
  unfold State.rxExpress
  refine (State.drainExpress_otp _ _ _).trans (foldl_otp _ (fun s x => ?_) _ _)
  rw [State.modPort_otp, State.countCodeword_otp]

@[simp] theorem State.releaseDtus_otp (a0 : Nat) (a1 : Nat) (a2 : State) :
    (State.releaseDtus a0 a1 a2).trust.otp = a2.trust.otp := by
  induction a0 generalizing a2 with
  | zero => rfl
  | succ n ih =>
    unfold State.releaseDtus
    try dsimp only
    (repeat' split) <;> simp [ih]

@[simp] theorem State.rxDtu_otp (s : State) (p : Nat) (d : Dtu) :
    (State.rxDtu s p d).trust.otp = s.trust.otp := by
  unfold State.rxDtu
  try dsimp only
  (repeat' split) <;> simp

@[simp] theorem State.rxBulk_otp (a0 : Nat) (a1 : Nat) (a2 : State) :
    (State.rxBulk a0 a1 a2).trust.otp = a2.trust.otp := by
  induction a0 generalizing a2 with
  | zero => rfl
  | succ n ih =>
    unfold State.rxBulk
    dsimp only
    split
    · simp [ih]
    · split
      · rw [ih]
        split <;> simp
      · rfl

@[simp] theorem State.giveUpDtu_otp (s : State) (p : Nat) :
    (State.giveUpDtu s p).trust.otp = s.trust.otp := by
  unfold State.giveUpDtu
  rw [State.releaseDtus_otp, State.modPort_otp, State.pulse_otp, State.countLost_otp,
    State.countError_otp, State.deliver_otp]

@[simp] theorem State.takeAck_otp (s : State) (p : Nat) (seq : Nat) (map : Nat) :
    (State.takeAck s p seq map).trust.otp = s.trust.otp := by
  unfold State.takeAck
  dsimp only
  split
  · rfl
  · rw [State.modPort_otp]

@[simp] theorem State.rxSymbol_otp (s : State) (p : Nat) (l : List RxTone) :
    (State.rxSymbol s p l).trust.otp = s.trust.otp := by
  simp [State.rxSymbol]

/-! ### Overhead -/

@[simp] theorem State.buildFrames_otp (s : State) (p : Nat) :
    (State.buildFrames s p).trust.otp = s.trust.otp := by
  unfold State.buildFrames
  try dsimp only
  refine (foldl_otp _ (fun s x => ?_) _ _).trans ?_
  · (repeat' split) <;> simp
  · simp

@[simp] theorem State.startSra_otp (s : State) (l : Nat) (down : Bool) (t : Store Nat) :
    (State.startSra s l down t).trust.otp = s.trust.otp := by
  simp [State.startSra]

@[simp] theorem State.sraCheck_otp (s : State) (l : Nat) :
    (State.sraCheck s l).trust.otp = s.trust.otp := by
  simp [State.sraCheck]

@[simp] theorem State.proposeSra_otp (s : State) (l : Nat) :
    (State.proposeSra s l).trust.otp = s.trust.otp := by
  unfold State.proposeSra; dsimp only; (repeat' split) <;> simp

@[simp] theorem State.sraRefused_otp (s : State) (l : Nat) :
    (State.sraRefused s l).trust.otp = s.trust.otp := by
  simp [State.sraRefused]

@[simp] theorem State.stayUp_otp (s : State) (ls : List Nat) :
    (State.stayUp s ls).trust.otp = s.trust.otp := by
  unfold State.stayUp; (repeat' split) <;> simp

@[simp] theorem State.negRefused_otp (s : State) (p : Nat) (n : Neg) :
    (State.negRefused s p n).trust.otp = s.trust.otp := by
  unfold State.negRefused
  try dsimp only
  refine (foldl_otp _ (fun s x => ?_) _ _).trans ?_
  · (repeat' split) <;> simp
  · simp

@[simp] theorem State.negYields_otp (s : State) (p : Nat) (n : Neg) :
    (State.negYields s p n).trust.otp = s.trust.otp := by
  simp [State.negYields]

@[simp] theorem State.followLeave_otp (s : State) (cs : List Change) (go : Bool) :
    (State.followLeave s cs go).trust.otp = s.trust.otp := by
  unfold State.followLeave
  refine foldl_otp _ (fun s x => ?_) _ _
  try dsimp only
  (repeat' split) <;> simp

@[simp] theorem State.dropTheirs_otp (s : State) (p : Nat) :
    (State.dropTheirs s p).trust.otp = s.trust.otp := by
  unfold State.dropTheirs; split <;> simp

@[simp] theorem State.considerTheirs_otp (s : State) (p : Nat) :
    (State.considerTheirs s p).trust.otp = s.trust.otp := by
  unfold State.considerTheirs; split <;> simp

/-! ### Signal -/

@[simp] theorem State.sendData_otp (s : State) (n : Nat) :
    (State.sendData s n).2.trust.otp = s.trust.otp := by
  unfold State.sendData
  generalize List.filter _ _ = l
  suffices h : ∀ (l : List Nat) (st : Store Cx × State), st.2.trust.otp = s.trust.otp →
      (l.foldl (fun (st : Store Cx × State) p =>
        let b := st.2.portBits p
        let x := b.2.placeSymbol p n b.1
        let sent := x.1.filter fun e => s.isVTail (e.1 / 128) || s.isActive (e.1 / 128)
        (sent.foldl (fun m e => Store.set m Cx.zero e.1 e.2) st.1,
          (b.2.modPort p fun y => { y with txScr := x.2 }).ageDtus p b.1.length)) st).2.trust.otp = s.trust.otp from
    h l ([], s) rfl
  intro l
  induction l with
  | nil => intro st h; exact h
  | cons p l ih =>
    intro st h
    rw [List.foldl_cons]
    exact ih _ (by dsimp only; rw [State.ageDtus_otp, State.modPort_otp, State.portBits_otp, h])

@[simp] theorem State.symbolX_otp (s : State) (n : Nat) :
    (State.symbolX s n).2.trust.otp = s.trust.otp := by
  unfold State.symbolX; split <;> simp

@[simp] theorem State.driveLine_otp (s : State) (t : Store Cx) (l : Nat) :
    (State.driveLine s t l).trust.otp = s.trust.otp := by
  unfold State.driveLine; dsimp only; (repeat' split) <;> simp

@[simp] theorem State.drive_otp (s : State) (t : Store Cx) :
    (State.drive s t).trust.otp = s.trust.otp := by
  simp [State.drive]

@[simp] theorem State.noteAmps_otp (s : State) :
    (State.noteAmps s).trust.otp = s.trust.otp := by
  simp [State.noteAmps]

@[simp] theorem State.stampTx_otp (s : State) (e : TimedMessage) :
    (State.stampTx s e).trust.otp = s.trust.otp := by
  unfold State.stampTx; (repeat' split) <;> simp

@[simp] theorem State.ageRange_otp (s : State) :
    (State.ageRange s).trust.otp = s.trust.otp := by
  simp [State.ageRange]

@[simp] theorem State.takeCensus_otp (s : State) :
    (State.takeCensus s).trust.otp = s.trust.otp := by
  unfold State.takeCensus; split <;> simp

@[simp] theorem execSymbolTx_otp (n : Nat) (events : List TimedMessage) (s : State) :
    (execSymbolTx n events s).burns s.trust.otp := by
  simp [execSymbolTx]

@[simp] theorem State.trackFeq_otp (s : State) (n : Nat) (l : Nat) (k : Nat) (e : Cx) (y : Cx) :
    (State.trackFeq s n l k e y).trust.otp = s.trust.otp := by
  simp [State.trackFeq]

@[simp] theorem State.accumulate_otp (s : State) (l : Nat) (bs : List Bool) (y : Nat → Cx) :
    (State.accumulate s l bs y).trust.otp = s.trust.otp := by
  simp [State.accumulate]

@[simp] theorem State.countError2_otp (s : State) (l : Nat) (k : Nat) (e : Cx) :
    (State.countError2 s l k e).trust.otp = s.trust.otp := by
  simp [State.countError2]

@[simp] theorem State.notePilotError_otp (s : State) (l : Nat) (k : Nat) (e : Cx) :
    (State.notePilotError s l k e).trust.otp = s.trust.otp := by
  simp [State.notePilotError]

@[simp] theorem State.useTone_otp (s : State) (n : Nat) (l : Nat) (k : Nat) (y : Cx) :
    (State.useTone s n l k y).trust.otp = s.trust.otp := by
  simp [State.useTone]

@[simp] theorem State.useLine_otp (s : State) (n : Nat) (l : Nat) (v : Store Cx) :
    (State.useLine s n l v).trust.otp = s.trust.otp := by
  simp [State.useLine]

@[simp] theorem State.addC_otp (s : State) (key : Nat) (c : Cx) :
    (State.addC s key c).trust.otp = s.trust.otp := by
  simp [State.addC]

@[simp] theorem State.addPowerC_otp (s : State) (key : Nat) (c : Cx) :
    (State.addPowerC s key c).trust.otp = s.trust.otp := by
  simp [State.addPowerC]

@[simp] theorem State.joinPilot_otp (s : State) (first : Bool) (js : List Nat) (us : Store Cx) :
    (State.joinPilot s first js us).trust.otp = s.trust.otp := by
  unfold State.joinPilot
  refine foldl_otp _ (fun s d => ?_) _ _
  refine foldl_otp _ (fun s k => ?_) _ _
  dsimp only
  refine (foldl_otp _ (fun s j => ?_) _ _).trans ?_ <;> simp

@[simp] theorem State.joinData_otp (s : State) (n : Nat) (js : List Nat) (us vs : Store Cx) :
    (State.joinData s n js us vs).trust.otp = s.trust.otp := by
  unfold State.joinData
  refine foldl_otp _ (fun s d => ?_) _ _
  refine foldl_otp _ (fun s k => ?_) _ _
  dsimp only
  refine (foldl_otp _ (fun s j => ?_) _ _).trans ?_ <;> simp

@[simp] theorem State.joinSymbol_otp (s : State) (n : Nat) (us : Store Cx) (vs : Store Cx) :
    (State.joinSymbol s n us vs).trust.otp = s.trust.otp := by
  unfold State.joinSymbol; split <;> simp

@[simp] theorem State.receiveData_otp (s : State) (n : Nat) (got : List Nat) (vs : Store Cx) :
    (State.receiveData s n got vs).trust.otp = s.trust.otp := by
  simp [State.receiveData]

@[simp] theorem State.declareDead_otp (s : State) (l : Nat) :
    (State.declareDead s l).trust.otp = s.trust.otp := by
  unfold State.declareDead; split <;> simp

@[simp] theorem State.powerTest_otp (s : State) (n : Nat) (l : Nat) (ys : Store Cx) :
    (State.powerTest s n l ys).trust.otp = s.trust.otp := by
  simp [State.powerTest]

@[simp] theorem State.meterSamples_otp (s : State) (y : LineSamples) :
    (State.meterSamples s y).trust.otp = s.trust.otp := by
  simp [State.meterSamples]

@[simp] theorem State.wakeHeard_otp (s : State) (p : Nat) :
    (State.wakeHeard s p).trust.otp = s.trust.otp := by
  simp [State.wakeHeard]

@[simp] theorem State.trainingHeard_otp (s : State) (l : Nat) :
    (State.trainingHeard s l).trust.otp = s.trust.otp := by
  simp [State.trainingHeard]

@[simp] theorem State.stampRx_otp (s : State) (e : TimedMessage) :
    (State.stampRx s e).trust.otp = s.trust.otp := by
  simp [State.stampRx]

@[simp] theorem State.joinMissing_otp (s : State) (n : Nat) (missing : List Nat) :
    (State.joinMissing s n missing).trust.otp = s.trust.otp := by
  unfold State.joinMissing; split <;> simp

@[simp] theorem execSymbolRx_otp (n : Nat) (ys : List LineSamples) (missing : List Nat) (wakes : List Nat) (trains : List Nat) (events : List TimedMessage) (s : State) :
    (execSymbolRx n ys missing wakes trains events s).burns s.trust.otp := by
  unfold execSymbolRx; dsimp only; (repeat' split) <;> simp

@[simp] theorem execDtuBufferExpire_otp (p : Nat) (seq : Nat) (s : State) :
    (execDtuBufferExpire p seq s).burns s.trust.otp := by
  simp [execDtuBufferExpire]

@[simp] theorem execDtuGiveUp_otp (p : Nat) (s : State) :
    (execDtuGiveUp p s).burns s.trust.otp := by
  refine withPortTimer_otp _ _ _ fun s => ?_
  try dsimp only
  (repeat' split) <;> simp

@[simp] theorem execBeaconErasureEnd_otp (tag : Nat) (s : State) :
    (execBeaconErasureEnd tag s).burns s.trust.otp := by
  simp [execBeaconErasureEnd]

@[simp] theorem State.joinOffset_otp (s : State) (l : Nat) (sum : Int) :
    (State.joinOffset s l sum).trust.otp = s.trust.otp := by
  unfold State.joinOffset; split <;> simp

@[simp] theorem execDeltaAverage_otp (l : Nat) (sum : Int) (s : State) :
    (execDeltaAverage l sum s).burns s.trust.otp := by
  unfold execDeltaAverage onLine onPart
  by_cases h : l < 128 <;> simp only [h, if_true, if_false]
  · (repeat' split) <;> simp
  · simp

@[simp] theorem execTaAdjust_otp (l : Nat) (s : State) :
    (execTaAdjust l s).burns s.trust.otp := by
  unfold execTaAdjust onLine onPart
  by_cases h : l < 128 <;> simp only [h, if_true, if_false]
  · (repeat' split) <;> simp
  · simp

@[simp] theorem execArrivalOutOfBand_otp (l : Nat) (s : State) :
    (execArrivalOutOfBand l s).burns s.trust.otp := by
  unfold execArrivalOutOfBand onLine onPart
  by_cases h : l < 128 <;> simp only [h, if_true, if_false]
  · (repeat' split) <;> simp
  · simp

@[simp] theorem State.takeFeedback_otp (s : State) (l : Nat) (i : Nat) (re : Option Nat) (im : Option Nat) :
    (State.takeFeedback s l i re im).trust.otp = s.trust.otp := by
  unfold State.takeFeedback; split <;> simp

@[simp] theorem State.takeByte_otp (s : State) (l : Nat) (n : Nat) (b : Option Nat) :
    (State.takeByte s l n b).trust.otp = s.trust.otp := by
  simp [State.takeByte]

@[simp] theorem State.endFrame_otp (s : State) (l : Nat) :
    (State.endFrame s l).trust.otp = s.trust.otp := by
  simp [State.endFrame]

@[simp] theorem State.takeSeal_otp (s : State) (p : Nat) (code : Nat) :
    (State.takeSeal s p code).trust.otp = s.trust.otp := by
  unfold State.takeSeal; split <;> simp

@[simp] theorem execOverheadWordRx_otp (l : Nat) (n : Nat) (w : Word) (s : State) :
    (execOverheadWordRx l n w s).burns s.trust.otp := by
  unfold execOverheadWordRx onLine onPart
  by_cases h : l < 128 <;> simp only [h, if_true, if_false]
  · (repeat' split) <;> simp
  · simp

@[simp] theorem execSealMessageRx_otp (p : Nat) (m : List Nat) (s : State) :
    (execSealMessageRx p m s).burns s.trust.otp := by
  unfold execSealMessageRx onPort onPart
  by_cases h : p < 128 <;> simp only [h, if_true, if_false]
  · (repeat' split) <;>
      first
      | (simp; done)
      | (rename_i h2; (repeat' split at h2) <;> cases h2 <;> simp)
  · simp

@[simp] theorem State.takeTable_otp (s : State) (l : Nat) (id : Nat) (rx : Bool) (t : Store Nat) :
    (State.takeTable s l id rx t).trust.otp = s.trust.otp := by
  simp [State.takeTable]

@[simp] theorem State.authorTable_otp (s : State) (l : Nat) :
    (State.authorTable s l).trust.otp = s.trust.otp := by
  simp [State.authorTable]

@[simp] theorem State.proposeEntry_otp (s : State) (p : Nat) :
    (State.proposeEntry s p).trust.otp = s.trust.otp := by
  simp [State.proposeEntry]

@[simp] theorem State.takeSegment_otp (s : State) (l : Nat) (m : List Nat) :
    (State.takeSegment s l m).trust.otp = s.trust.otp := by
  unfold State.takeSegment; dsimp only; (repeat' split) <;> simp

@[simp] theorem execLoadMessageRx_otp (l : Nat) (m : List Nat) (s : State) :
    (execLoadMessageRx l m s).burns s.trust.otp := by
  refine withSignal_otp _ _ _ fun s => ?_
  dsimp only
  (repeat' split) <;> simp

@[simp] theorem execTimingMessageRx_otp (l : Nat) (corr : Nat) (s : State) :
    (execTimingMessageRx l corr s).burns s.trust.otp := by
  unfold execTimingMessageRx onLine onPart
  by_cases h : l < 128 <;> simp only [h, if_true, if_false]
  · (repeat' split) <;> simp
  · simp

/-! ### Xengine -/

@[simp] theorem State.endAwaiting_otp (s : State) (m : Nat) (ks : List Nat) :
    (State.endAwaiting s m ks).trust.otp = s.trust.otp := by
  simp [State.endAwaiting]

@[simp] theorem State.landFxuTone_otp (s : State) (ls : List Nat) (k : Nat) :
    (State.landFxuTone s ls k).trust.otp = s.trust.otp := by
  simp [State.landFxuTone]

@[simp] theorem execFxuLanding_otp (s : State) :
    (execFxuLanding s).burns s.trust.otp := by
  simp [execFxuLanding]

@[simp] theorem State.landPrd_otp (s : State) (ls : List Nat) (k : Nat) :
    (State.landPrd s ls k).trust.otp = s.trust.otp := by
  simp [State.landPrd]

@[simp] theorem State.markGroups_otp (s : State) (g : Nat) (ls : List Nat) :
    (State.markGroups s g ls).trust.otp = s.trust.otp := by
  simp [State.markGroups]

@[simp] theorem execPrdLanding_otp (s : State) :
    (execPrdLanding s).burns s.trust.otp := by
  simp [execPrdLanding]

@[simp] theorem execJoinStart_otp (s : State) :
    (execJoinStart s).burns s.trust.otp := by
  unfold execJoinStart; split <;> simp

@[simp] theorem State.storeEstimate_otp (s : State) (m : Nat) (k : Nat) (v : Nat) (d : Nat) (c : Cx) :
    (State.storeEstimate s m k v d c).trust.otp = s.trust.otp := by
  simp [State.storeEstimate]

@[simp] theorem State.joinWritten_otp (s : State) (j : Join) (phase : JoinPhase) (more : Bool) :
    (State.joinWritten s j phase more).trust.otp = s.trust.otp := by
  simp [State.joinWritten]

@[simp] theorem State.writeColumns_otp (s : State) (j : Join) :
    (State.writeColumns s j).trust.otp = s.trust.otp := by
  unfold State.writeColumns
  refine foldl_otp _ (fun s d => ?_) _ _
  refine foldl_otp _ (fun s v => ?_) _ _
  refine foldl_otp _ (fun s k => ?_) _ _
  simp

@[simp] theorem execJoinNxtWrite_otp (s : State) :
    (execJoinNxtWrite s).burns s.trust.otp := by
  unfold execJoinNxtWrite; split <;> simp

@[simp] theorem execJoinPilotActive_otp (s : State) :
    (execJoinPilotActive s).burns s.trust.otp := by
  unfold execJoinPilotActive; split <;> simp

@[simp] theorem State.writeRows_otp (s : State) (j : Join) :
    (State.writeRows s j).trust.otp = s.trust.otp := by
  unfold State.writeRows
  refine foldl_otp _ (fun s d => ?_) _ _
  refine foldl_otp _ (fun s k => ?_) _ _
  dsimp only
  split
  · refine foldl_otp _ (fun s j => ?_) _ _
    simp
  · rw [State.setFeq_otp]
    refine foldl_otp _ (fun s j => ?_) _ _
    simp

@[simp] theorem State.writeFxu_otp (s : State) (j : Join) :
    (State.writeFxu s j).trust.otp = s.trust.otp := by
  unfold State.writeFxu
  refine foldl_otp _ (fun s d => ?_) _ _
  refine foldl_otp _ (fun s k => ?_) _ _
  dsimp only
  refine (foldl_otp _ (fun s j => ?_) _ _).trans ?_
  · simp
  · refine foldl_otp _ (fun s j => ?_) _ _
    simp

@[simp] theorem State.writeJoinPrd_otp (s : State) (j : Join) :
    (State.writeJoinPrd s j).trust.otp = s.trust.otp := by
  unfold State.writeJoinPrd
  refine foldl_otp _ (fun s d => ?_) _ _
  refine foldl_otp _ (fun s v => ?_) _ _
  refine foldl_otp _ (fun s k => ?_) _ _
  simp

@[simp] theorem State.withActive_otp (s : State) (ls : List Nat) :
    (State.withActive s ls).trust.otp = s.trust.otp := by
  simp [State.withActive]

@[simp] theorem State.cutGain_otp (s : State) (ls : List Nat) (l : Nat) (k : Nat) (a4 : Nat) :
    (State.cutGain s ls l k a4).trust.otp = s.trust.otp := by
  induction a4 generalizing s with
  | zero => rfl
  | succ n ih =>
    unfold State.cutGain
    try dsimp only
    (repeat' split) <;> simp [ih]

@[simp] theorem execJoinCoefWrite_otp (s : State) :
    (execJoinCoefWrite s).burns s.trust.otp := by
  unfold execJoinCoefWrite; dsimp only; (repeat' split) <;> simp

@[simp] theorem execJoinLanded_otp (s : State) :
    (execJoinLanded s).burns s.trust.otp := by
  unfold execJoinLanded; split <;> simp

@[simp] theorem State.showWaiting_otp (s : State) :
    (State.showWaiting s).trust.otp = s.trust.otp := by
  simp [State.showWaiting]

@[simp] theorem execWritePortGrant_otp (s : State) :
    (execWritePortGrant s).burns s.trust.otp := by
  unfold execWritePortGrant; dsimp only; (repeat' split) <;> simp

@[simp] theorem execXengineDmaClear_otp (l : Nat) (s : State) :
    (execXengineDmaClear l s).burns s.trust.otp := by
  unfold execXengineDmaClear onLine onPart
  by_cases h : l < 128 <;> simp only [h, if_true, if_false]
  · (repeat' split) <;> simp
  · simp

@[simp] theorem execDeadLineInactive_otp (l : Nat) (s : State) :
    (execDeadLineInactive l s).burns s.trust.otp := by
  unfold execDeadLineInactive onLine onPart
  by_cases h : l < 128 <;> simp only [h, if_true, if_false]
  · (repeat' split) <;> simp
  · simp

@[simp] theorem execScrubStep_otp (errors : List (Nat × Nat × Bool)) (s : State) :
    (execScrubStep errors s).burns s.trust.otp := by
  simp [execScrubStep]

@[simp] theorem execNxtUeRecoveryEnd_otp (l : Nat) (k : Nat) (s : State) :
    (execNxtUeRecoveryEnd l k s).burns s.trust.otp := by
  simp [execNxtUeRecoveryEnd]

@[simp] theorem execHoldExpired_otp (s : State) :
    (execHoldExpired s).burns s.trust.otp := by
  simp [execHoldExpired]

@[simp] theorem State.startCensus_otp (s : State) (dir : Nat) (l : Nat) :
    (State.startCensus s dir l).trust.otp = s.trust.otp := by
  simp [State.startCensus]

@[simp] theorem execCensusDone_otp (s : State) :
    (execCensusDone s).burns s.trust.otp := by
  unfold execCensusDone; dsimp only; (repeat' split) <;> simp

@[simp] theorem State.finishXw_otp (s : State) (status : Nat) (ce : Nat) :
    (State.finishXw s status ce).trust.otp = s.trust.otp := by
  simp [State.finishXw]

@[simp] theorem State.blankXw_otp (s : State) :
    (State.blankXw s).trust.otp = s.trust.otp := by
  simp [State.blankXw]

@[simp] theorem State.startXw_otp (s : State) (write : Bool) (master : Nat) :
    (State.startXw s write master).trust.otp = s.trust.otp := by
  simp [State.startXw]

@[simp] theorem State.captureRow_otp (s : State) (r : XwRequest) (bad : List (Nat × Bool)) :
    (State.captureRow s r bad).trust.otp = s.trust.otp := by
  simp [State.captureRow]

@[simp] theorem State.dropRow_otp (s : State) (r : XwRequest) :
    (State.dropRow s r).trust.otp = s.trust.otp := by
  simp [State.dropRow]

@[simp] theorem State.landRow_otp (s : State) (r : XwRequest) :
    (State.landRow s r).trust.otp = s.trust.otp := by
  simp [State.landRow]

@[simp] theorem execXwindowLand_otp (elapsed : Nat) (bad : List (Nat × Bool)) (s : State) :
    (execXwindowLand elapsed bad s).burns s.trust.otp := by
  unfold execXwindowLand; split <;> simp

/-! ### BringUp -/

@[simp] theorem State.send_otp (s : State) (l : Nat) (m : List Nat) (gap : Nat) :
    (State.send s l m gap).trust.otp = s.trust.otp := by
  simp [State.send]

@[simp] theorem State.enterHandshake_otp (s : State) (l : Nat) :
    (State.enterHandshake s l).trust.otp = s.trust.otp := by
  simp [State.enterHandshake]

@[simp] theorem State.pairFailed_otp (s : State) (l : Nat) :
    (State.pairFailed s l).trust.otp = s.trust.otp := by
  simp [State.pairFailed]

@[simp] theorem execLineEnable_otp (l : Nat) (s : State) :
    (execLineEnable l s).burns s.trust.otp := by
  simp [execLineEnable]

@[simp] theorem execBeaconSlot_otp (l : Nat) (s : State) :
    (execBeaconSlot l s).burns s.trust.otp := by
  simp [execBeaconSlot]

@[simp] theorem State.sendOffer_otp (s : State) (l : Nat) (gap : Nat) :
    (State.sendOffer s l gap).trust.otp = s.trust.otp := by
  simp [State.sendOffer]

@[simp] theorem State.recordPartner_otp (s : State) (l : Nat) (m : List Nat) :
    (State.recordPartner s l m).trust.otp = s.trust.otp := by
  simp [State.recordPartner]

@[simp] theorem execAnswerRx_otp (l : Nat) (m : List Nat) (rtt : Nat) (s : State) :
    (execAnswerRx l m rtt s).burns s.trust.otp := by
  simp [execAnswerRx]

@[simp] theorem execNoanswerTimeout_otp (l : Nat) (s : State) :
    (execNoanswerTimeout l s).burns s.trust.otp := by
  simp [execNoanswerTimeout]

@[simp] theorem execQuietHoldExpire_otp (l : Nat) (s : State) :
    (execQuietHoldExpire l s).burns s.trust.otp := by
  simp [execQuietHoldExpire]

@[simp] theorem State.takeGrid_otp (s : State) (l : Nat) (sfc : Nat) :
    (State.takeGrid s l sfc).trust.otp = s.trust.otp := by
  simp [State.takeGrid]

@[simp] theorem execOfferRx_otp (l : Nat) (m : List Nat) (s : State) :
    (execOfferRx l m s).burns s.trust.otp := by
  simp [execOfferRx]

@[simp] theorem execOfferRepeat_otp (l : Nat) (s : State) :
    (execOfferRepeat l s).burns s.trust.otp := by
  simp [execOfferRepeat]

@[simp] theorem State.sendGo_otp (s : State) (l : Nat) (gap : Nat) :
    (State.sendGo s l gap).trust.otp = s.trust.otp := by
  simp [State.sendGo]

@[simp] theorem execAcceptRx_otp (l : Nat) (m : List Nat) (s : State) :
    (execAcceptRx l m s).burns s.trust.otp := by
  simp [execAcceptRx]

@[simp] theorem execGoRx_otp (l : Nat) (m : List Nat) (s : State) :
    (execGoRx l m s).burns s.trust.otp := by
  simp [execGoRx]

@[simp] theorem execAbortRx_otp (l : Nat) (m : List Nat) (s : State) :
    (execAbortRx l m s).burns s.trust.otp := by
  simp [execAbortRx]

@[simp] theorem execHandshakeTimeout_otp (l : Nat) (s : State) :
    (execHandshakeTimeout l s).burns s.trust.otp := by
  simp [execHandshakeTimeout]

@[simp] theorem execRangingBlockEnd_otp (l : Nat) (found : Nat) (avg : Int) (late : Bool) (s : State) :
    (execRangingBlockEnd l found avg late s).burns s.trust.otp := by
  simp [execRangingBlockEnd]

@[simp] theorem execRangingDecisionTimeout_otp (l : Nat) (s : State) :
    (execRangingDecisionTimeout l s).burns s.trust.otp := by
  simp [execRangingDecisionTimeout]

@[simp] theorem execPilotWordRx_otp (l : Nat) (word : Nat) (s : State) :
    (execPilotWordRx l word s).burns s.trust.otp := by
  refine withSignal_otp _ _ _ fun s => ?_
  try dsimp only
  (repeat' split) <;> simp

@[simp] theorem execTailRangingTimeout_otp (l : Nat) (s : State) :
    (execTailRangingTimeout l s).burns s.trust.otp := by
  simp [execTailRangingTimeout]

@[simp] theorem execTailJoinDetect_otp (l : Nat) (s : State) :
    (execTailJoinDetect l s).burns s.trust.otp := by
  simp [execTailJoinDetect]

@[simp] theorem execJoinwaitTimeout_otp (l : Nat) (s : State) :
    (execJoinwaitTimeout l s).burns s.trust.otp := by
  simp [execJoinwaitTimeout]

@[simp] theorem State.setTrainedFeq_otp (s : State) (l : Nat) :
    (State.setTrainedFeq s l).trust.otp = s.trust.otp := by
  simp [State.setTrainedFeq]

@[simp] theorem execTrainingStep_otp (l : Nat) (s : State) :
    (execTrainingStep l s).burns s.trust.otp := by
  simp [execTrainingStep]

@[simp] theorem execTrainingEnd_otp (l : Nat) (s : State) :
    (execTrainingEnd l s).burns s.trust.otp := by
  simp [execTrainingEnd]

@[simp] theorem execTrainTimeout_otp (l : Nat) (s : State) :
    (execTrainTimeout l s).burns s.trust.otp := by
  simp [execTrainTimeout]

@[simp] theorem execLoadingTimeout_otp (l : Nat) (s : State) :
    (execLoadingTimeout l s).burns s.trust.otp := by
  simp [execLoadingTimeout]

@[simp] theorem execOverheadLoss_otp (l : Nat) (s : State) :
    (execOverheadLoss l s).burns s.trust.otp := by
  simp [execOverheadLoss]

@[simp] theorem State.endAttempt_otp (s : State) (l : Nat) :
    (State.endAttempt s l).trust.otp = s.trust.otp := by
  simp [State.endAttempt]

@[simp] theorem execRetrainRejoin_otp (l : Nat) (avg : Int) (s : State) :
    (execRetrainRejoin l avg s).burns s.trust.otp := by
  simp [execRetrainRejoin]

@[simp] theorem State.showSnr_otp (s : State) (l : Nat) :
    (State.showSnr s l).trust.otp = s.trust.otp := by
  unfold State.showSnr; dsimp only; (repeat' split) <;> simp

@[simp] theorem State.watchSnr_otp (s : State) (l : Nat) :
    (State.watchSnr s l).trust.otp = s.trust.otp := by
  unfold State.watchSnr; dsimp only; (repeat' split) <;> simp

@[simp] theorem execRetrainLoadSend_otp (l : Nat) (s : State) :
    (execRetrainLoadSend l s).burns s.trust.otp := by
  simp [execRetrainLoadSend]

@[simp] theorem execRetrainEntryPropose_otp (p : Nat) (s : State) :
    (execRetrainEntryPropose p s).burns s.trust.otp := by
  simp [execRetrainEntryPropose]

@[simp] theorem execRetrainAttemptTimeout_otp (l : Nat) (s : State) :
    (execRetrainAttemptTimeout l s).burns s.trust.otp := by
  simp [execRetrainAttemptTimeout]

@[simp] theorem State.giveUpRetrain_otp (s : State) (l : Nat) :
    (State.giveUpRetrain s l).trust.otp = s.trust.otp := by
  simp [State.giveUpRetrain]

@[simp] theorem execRetrainGiveUp_otp (l : Nat) (s : State) :
    (execRetrainGiveUp l s).burns s.trust.otp := by
  simp [execRetrainGiveUp]

@[simp] theorem State.tailLost_otp (s : State) (l : Nat) :
    (State.tailLost s l).trust.otp = s.trust.otp := by
  simp [State.tailLost]

@[simp] theorem execLosDetect_otp (l : Nat) (s : State) :
    (execLosDetect l s).burns s.trust.otp := by
  refine withSignal_otp _ _ _ fun s => ?_
  try dsimp only
  (repeat' split) <;> simp

@[simp] theorem State.proposeBank_otp (s : State) (p : Nat) :
    (State.proposeBank s p).trust.otp = s.trust.otp := by
  simp [State.proposeBank]

@[simp] theorem execAutobankExpire_otp (p : Nat) (s : State) :
    (execAutobankExpire p s).burns s.trust.otp := by
  simp [execAutobankExpire]

@[simp] theorem State.startWake_otp (s : State) (p : Nat) :
    (State.startWake s p).trust.otp = s.trust.otp := by
  simp [State.startWake]

@[simp] theorem execWakeNoResponse_otp (p : Nat) (s : State) :
    (execWakeNoResponse p s).burns s.trust.otp := by
  simp [execWakeNoResponse]

@[simp] theorem execWakeResume_otp (p : Nat) (s : State) :
    (execWakeResume p s).burns s.trust.otp := by
  refine withPortTimer_otp _ _ _ fun s => ?_
  try dsimp only
  (repeat' split) <;> simp

/-! ### Monitor -/

@[simp] theorem State.armSync_otp (s : State) (l : Nat) (src : Nat) :
    (State.armSync s l src).trust.otp = s.trust.otp := by
  simp [State.armSync]

@[simp] theorem State.cancelSync_otp (s : State) (l : Nat) :
    (State.cancelSync s l).trust.otp = s.trust.otp := by
  simp [State.cancelSync]

@[simp] theorem State.swapBanks_otp (s : State) (l : Nat) :
    (State.swapBanks s l).trust.otp = s.trust.otp := by
  simp [State.swapBanks]

@[simp] theorem State.startCapture_otp (s : State) (l : Nat) :
    (State.startCapture s l).trust.otp = s.trust.otp := by
  simp [State.startCapture]

@[simp] theorem State.clearAll_otp (s : State) (fs : List Fld) (l : Nat) :
    (State.clearAll s fs l).trust.otp = s.trust.otp := by
  simp [State.clearAll]

@[simp] theorem State.restartWatch_otp (s : State) (l : Nat) :
    (State.restartWatch s l).trust.otp = s.trust.otp := by
  simp [State.restartWatch]

@[simp] theorem State.clearCounters_otp (s : State) (l : Nat) :
    (State.clearCounters s l).trust.otp = s.trust.otp := by
  simp [State.clearCounters]

@[simp] theorem execSyncResetLand_otp (l elapsed : Nat) (s : State) :
    (execSyncResetLand l elapsed s).burns s.trust.otp := by
  unfold execSyncResetLand
  refine withSignal_otp _ _ _ fun s => ?_
  (repeat' split) <;> simp

@[simp] theorem execMonitorSettled_otp (l : Nat) (adc : List Int) (s : State) :
    (execMonitorSettled l adc s).burns s.trust.otp := by
  simp [execMonitorSettled]

@[simp] theorem execFadeDone_otp (l : Nat) (adc : List Int) (s : State) :
    (execFadeDone l adc s).burns s.trust.otp := by
  simp [execFadeDone]

@[simp] theorem execDetectorOver_otp (l : Nat) (adc : List Int) (s : State) :
    (execDetectorOver l adc s).burns s.trust.otp := by
  simp [execDetectorOver]

@[simp] theorem execRmsBlockEnd_otp (l : Nat) (adc : List Int) (s : State) :
    (execRmsBlockEnd l adc s).burns s.trust.otp := by
  simp [execRmsBlockEnd]

@[simp] theorem execCaptureTrigger_otp (l : Nat) (adc : List Int) (s : State) :
    (execCaptureTrigger l adc s).burns s.trust.otp := by
  simp [execCaptureTrigger]

@[simp] theorem execCaptureDone_otp (l : Nat) (adc : List Int) (s : State) :
    (execCaptureDone l adc s).burns s.trust.otp := by
  simp [execCaptureDone]

@[simp] theorem execCaptureTimeout_otp (l : Nat) (s : State) :
    (execCaptureTimeout l s).burns s.trust.otp := by
  refine withTimer_otp _ _ _ fun s => ?_
  try dsimp only
  (repeat' split) <;> simp

@[simp] theorem State.lineSecond_otp (s : State) (l : Nat) :
    (State.lineSecond s l).trust.otp = s.trust.otp := by
  simp [State.lineSecond]

@[simp] theorem State.portSecond_otp (s : State) (p : Nat) :
    (State.portSecond s p).trust.otp = s.trust.otp := by
  simp [State.portSecond]

@[simp] theorem execPostmarkSecond_otp (s : State) :
    (execPostmarkSecond s).burns s.trust.otp := by
  simp [execPostmarkSecond]

@[simp] theorem State.setSlot_otp (s : State) (c : Nat) (kind : Nat) (l : Nat) :
    (State.setSlot s c kind l).trust.otp = s.trust.otp := by
  simp [State.setSlot]

@[simp] theorem State.freeSlot_otp (s : State) (l : Nat) :
    (State.freeSlot s l).trust.otp = s.trust.otp := by
  simp [State.freeSlot]

@[simp] theorem State.blankReflect_otp (s : State) (l : Nat) :
    (State.blankReflect s l).trust.otp = s.trust.otp := by
  simp [State.blankReflect]

@[simp] theorem State.endReflect_otp (s : State) (l : Nat) (reason : Nat) :
    (State.endReflect s l reason).trust.otp = s.trust.otp := by
  simp [State.endReflect]

@[simp] theorem State.startReflect_otp (s : State) (l : Nat) :
    (State.startReflect s l).trust.otp = s.trust.otp := by
  simp [State.startReflect]

@[simp] theorem State.interruptReflect_otp (s : State) (l : Nat) :
    (State.interruptReflect s l).trust.otp = s.trust.otp := by
  simp [State.interruptReflect]

@[simp] theorem execReflectSlotGrant_otp (l : Nat) (s : State) :
    (execReflectSlotGrant l s).burns s.trust.otp := by
  refine withLine_otp _ _ _ fun s => ?_
  try dsimp only
  (repeat' split) <;> simp

@[simp] theorem execReflectSlotTimeout_otp (l : Nat) (s : State) :
    (execReflectSlotTimeout l s).burns s.trust.otp := by
  simp [execReflectSlotTimeout]

@[simp] theorem State.landReflect_otp (s : State) (l : Nat) (r : ReflX) (run : ReflectRun) :
    (State.landReflect s l r run).trust.otp = s.trust.otp := by
  simp [State.landReflect]

@[simp] theorem execReflectDone_otp (l : Nat) (reason : Nat) (run : ReflectRun) (s : State) :
    (execReflectDone l reason run s).burns s.trust.otp := by
  refine withLine_otp _ _ _ fun s => ?_
  try dsimp only
  (repeat' split) <;> simp

/-! ### Cal -/

@[simp] theorem State.markDue_otp (s : State) (l : Nat) (source : Nat) (moment : Nat) (full : Bool) :
    (State.markDue s l source moment full).trust.otp = s.trust.otp := by
  simp [State.markDue]

@[simp] theorem State.temperatureDue_otp (s : State) :
    (State.temperatureDue s).trust.otp = s.trust.otp := by
  simp [State.temperatureDue]

@[simp] theorem State.factoryValues_otp (s : State) (l : Nat) :
    (State.factoryValues s l).trust.otp = s.trust.otp := by
  simp [State.factoryValues]

@[simp] theorem State.giveUpCal_otp (s : State) (l : Nat) :
    (State.giveUpCal s l).trust.otp = s.trust.otp := by
  simp [State.giveUpCal]

@[simp] theorem State.endCal_otp (s : State) (l : Nat) (reason : Nat) :
    (State.endCal s l reason).trust.otp = s.trust.otp := by
  simp [State.endCal]

@[simp] theorem State.showMeasured_otp (s : State) (l : Nat) (both : Bool) :
    (State.showMeasured s l both).trust.otp = s.trust.otp := by
  unfold State.showMeasured; dsimp only; (repeat' split) <;> simp

@[simp] theorem State.cutRun_otp (s : State) (l reason : Nat) :
    (State.cutRun s l reason).trust.otp = s.trust.otp := by
  simp [State.cutRun]

@[simp] theorem State.stopCal_otp (s : State) (l : Nat) (reason : Nat) :
    (State.stopCal s l reason).trust.otp = s.trust.otp := by
  simp [State.stopCal]

@[simp] theorem State.beginCal_otp (s : State) (l : Nat) (st : Nat) :
    (State.beginCal s l st).trust.otp = s.trust.otp := by
  simp [State.beginCal]

@[simp] theorem execCalSlotGrant_otp (c : Nat) (s : State) :
    (execCalSlotGrant c s).burns s.trust.otp := by
  unfold execCalSlotGrant onCluster onPart
  by_cases h : c < 4 <;> simp only [h, if_true, if_false]
  · (repeat' split) <;> simp
  · simp

@[simp] theorem State.sweepGaps_otp (s : State) :
    (State.sweepGaps s).trust.otp = s.trust.otp := by
  unfold State.sweepGaps
  refine foldl_otp _ (fun s x => ?_) _ _
  try dsimp only
  (repeat' split) <;> simp

@[simp] theorem State.requestCal_otp (s : State) (l : Nat) :
    (State.requestCal s l).trust.otp = s.trust.otp := by
  simp [State.requestCal]

@[simp] theorem State.requestAll_otp (s : State) :
    (State.requestAll s).trust.otp = s.trust.otp := by
  simp [State.requestAll]

@[simp] theorem State.calValues_otp (s : State) (l : Nat) (full : Bool) (r : CalResult) :
    (State.calValues s l full r).2.trust.otp = s.trust.otp := by
  simp [State.calValues]

@[simp] theorem State.showCal_otp (s : State) (l : Nat) (v : CalValues) (r : CalResult) :
    (State.showCal s l v r).trust.otp = s.trust.otp := by
  simp [State.showCal]

@[simp] theorem State.completeCal_otp (s : State) (l : Nat) (r : CalResult) :
    (State.completeCal s l r).trust.otp = s.trust.otp := by
  simp [State.completeCal]

@[simp] theorem State.gapPeer_otp (s : State) (l : Nat) :
    (State.gapPeer s l).trust.otp = s.trust.otp := by
  simp [State.gapPeer]

@[simp] theorem execCalRunDone_otp (l : Nat) (r : CalResult) (s : State) :
    (execCalRunDone l r s).burns s.trust.otp := by
  simp [execCalRunDone]

@[simp] theorem execCalRunTimeout_otp (l : Nat) (s : State) :
    (execCalRunTimeout l s).burns s.trust.otp := by
  simp [execCalRunTimeout]

@[simp] theorem execCalRetryDue_otp (l : Nat) (s : State) :
    (execCalRetryDue l s).burns s.trust.otp := by
  simp [execCalRetryDue]

@[simp] theorem execCalHoldoffEnd_otp (l : Nat) (s : State) :
    (execCalHoldoffEnd l s).burns s.trust.otp := by
  simp [execCalHoldoffEnd]

@[simp] theorem execCalApplyStep_otp (l : Nat) (s : State) :
    (execCalApplyStep l s).burns s.trust.otp := by
  simp [execCalApplyStep]

@[simp] theorem execPowerupCalDone_otp (s : State) :
    (execPowerupCalDone s).burns s.trust.otp := by
  simp [execPowerupCalDone]

@[simp] theorem State.startPowerup_otp (s : State) (c : Nat) :
    (State.startPowerup s c).trust.otp = s.trust.otp := by
  simp [State.startPowerup]

@[simp] theorem execBeaconRx_otp (l : Nat) (m : List Nat) (s : State) :
    (execBeaconRx l m s).burns s.trust.otp := by
  simp [execBeaconRx]

@[simp] theorem execPortDropTimeout_otp (p : Nat) (s : State) :
    (execPortDropTimeout p s).burns s.trust.otp := by
  refine withPortTimer_otp _ _ _ fun s => ?_
  try dsimp only
  (repeat' split) <;> simp

@[simp] theorem execCalGapAgreeTimeout_otp (l : Nat) (s : State) :
    (execCalGapAgreeTimeout l s).burns s.trust.otp := by
  refine withTimer_otp _ _ _ fun s => ?_
  try dsimp only
  (repeat' split) <;> simp

@[simp] theorem execCalGapStampLower_otp (l : Nat) (s : State) :
    (execCalGapStampLower l s).burns s.trust.otp := by
  refine withTimer_otp _ _ _ fun s => ?_
  try dsimp only
  (repeat' split) <;> simp

@[simp] theorem execCalGapStart_otp (l : Nat) (s : State) :
    (execCalGapStart l s).burns s.trust.otp := by
  simp [execCalGapStart]

@[simp] theorem execCalGapEnd_otp (l : Nat) (s : State) :
    (execCalGapEnd l s).burns s.trust.otp := by
  refine withTimer_otp _ _ _ fun s => ?_
  try dsimp only
  (repeat' split) <;> simp

/-! ### Lanes -/

@[simp] theorem State.sortPort_otp (s : State) (p : Nat) :
    (State.sortPort s p).trust.otp = s.trust.otp := by
  simp [State.sortPort]

@[simp] theorem State.sortLane_otp (s : State) (l : Nat) :
    (State.sortLane s l).trust.otp = s.trust.otp := by
  simp [State.sortLane]

@[simp] theorem State.darkenStd_otp (s : State) (p : Nat) :
    (State.darkenStd s p).trust.otp = s.trust.otp := by
  unfold State.darkenStd; (repeat' split) <;> simp

@[simp] theorem State.flushStd_otp (s : State) (p : Nat) :
    (State.flushStd s p).trust.otp = s.trust.otp := by
  unfold State.flushStd; (repeat' split) <;> simp

@[simp] theorem State.zeroStamps_otp (s : State) (p : Nat) :
    (State.zeroStamps s p).trust.otp = s.trust.otp := by
  simp [State.zeroStamps]

@[simp] theorem State.laneTo_otp (s : State) (l : Nat) (st : Nat) :
    (State.laneTo s l st).trust.otp = s.trust.otp := by
  simp [State.laneTo]

@[simp] theorem State.startLane_otp (s : State) (l : Nat) :
    (State.startLane s l).trust.otp = s.trust.otp := by
  simp [State.startLane]

@[simp] theorem State.stopLane_otp (s : State) (l : Nat) :
    (State.stopLane s l).trust.otp = s.trust.otp := by
  simp [State.stopLane]

@[simp] theorem State.restartLane_otp (s : State) (l : Nat) :
    (State.restartLane s l).trust.otp = s.trust.otp := by
  simp [State.restartLane]

@[simp] theorem State.retrainLane_otp (s : State) (l : Nat) :
    (State.retrainLane s l).trust.otp = s.trust.otp := by
  simp [State.retrainLane]

@[simp] theorem State.loopLane_otp (s : State) (l : Nat) :
    (State.loopLane s l).trust.otp = s.trust.otp := by
  simp [State.loopLane]

@[simp] theorem execLaneDetectProbe_otp (l : Nat) (found : Bool) (s : State) :
    (execLaneDetectProbe l found s).burns s.trust.otp := by
  simp [execLaneDetectProbe]

@[simp] theorem execLaneTrainEnd_otp (l : Nat) (errors : Nat) (s : State) :
    (execLaneTrainEnd l errors s).burns s.trust.otp := by
  simp [execLaneTrainEnd]

@[simp] theorem State.laneSends_otp (s : State) (l : Nat) (bs : List Block) :
    (State.laneSends s l bs).trust.otp = s.trust.otp := by
  simp [State.laneSends]

@[simp] theorem execLaneLock_otp (l : Nat) (ppm : Int) (s : State) :
    (execLaneLock l ppm s).burns s.trust.otp := by
  simp [execLaneLock]

@[simp] theorem execExchangeAcceptRx_otp (l : Nat) (content : Nat) (s : State) :
    (execExchangeAcceptRx l content s).burns s.trust.otp := by
  simp [execExchangeAcceptRx]

@[simp] theorem execExchangeTimeout_otp (l : Nat) (s : State) :
    (execExchangeTimeout l s).burns s.trust.otp := by
  simp [execExchangeTimeout]

@[simp] theorem State.loseLane_otp (s : State) (l : Nat) (reason : Nat) (c : Nat) :
    (State.loseLane s l reason c).trust.otp = s.trust.otp := by
  simp [State.loseLane]

@[simp] theorem execLaneLos_otp (l : Nat) (s : State) :
    (execLaneLos l s).burns s.trust.otp := by
  simp [execLaneLos]

@[simp] theorem execLaneLol_otp (l : Nat) (s : State) :
    (execLaneLol l s).burns s.trust.otp := by
  simp [execLaneLol]

@[simp] theorem execBlockLockLoss_otp (l : Nat) (s : State) :
    (execBlockLockLoss l s).burns s.trust.otp := by
  simp [execBlockLockLoss]

@[simp] theorem execAmBlock_otp (l : Nat) (s : State) :
    (execAmBlock l s).burns s.trust.otp := by
  simp [execAmBlock]

@[simp] theorem State.sendStamp_otp (s : State) (p : Nat) :
    (State.sendStamp s p).trust.otp = s.trust.otp := by
  simp [State.sendStamp]

@[simp] theorem State.grantStamp_otp (s : State) (p : Nat) :
    (State.grantStamp s p).trust.otp = s.trust.otp := by
  unfold State.grantStamp; (repeat' split) <;> simp

@[simp] theorem execStampGrant_otp (p : Nat) (s : State) :
    (execStampGrant p s).burns s.trust.otp := by
  simp [execStampGrant]

@[simp] theorem execStampResend_otp (p : Nat) (s : State) :
    (execStampResend p s).burns s.trust.otp := by
  simp [execStampResend]

@[simp] theorem State.sendPause_otp (s : State) (p : Nat) (quanta : Nat) :
    (State.sendPause s p quanta).trust.otp = s.trust.otp := by
  simp [State.sendPause]

@[simp] theorem State.checkPause_otp (s : State) (p : Nat) :
    (State.checkPause s p).trust.otp = s.trust.otp := by
  simp [State.checkPause]

@[simp] theorem execPauseRepeat_otp (p : Nat) (s : State) :
    (execPauseRepeat p s).burns s.trust.otp := by
  simp [execPauseRepeat]

@[simp] theorem execPauseXon_otp (p : Nat) (s : State) :
    (execPauseXon p s).burns s.trust.otp := by
  simp [execPauseXon]

@[simp] theorem State.hostControl_otp (s : State) (l : Nat) (p : Nat) (b : Block) :
    (State.hostControl s l p b).trust.otp = s.trust.otp := by
  simp [State.hostControl]

@[simp] theorem State.countBlock_otp (s : State) (p : Nat) (b : Block) :
    (State.countBlock s p b).trust.otp = s.trust.otp := by
  simp [State.countBlock]

@[simp] theorem execHostBlockRx_otp (l : Nat) (slot : Nat) (sync : Nat) (payload : Nat) (s : State) :
    (execHostBlockRx l slot sync payload s).burns s.trust.otp := by
  simp [execHostBlockRx]

@[simp] theorem State.noteStat_otp (s : State) (p : Nat) :
    (State.noteStat s p).trust.otp = s.trust.otp := by
  simp [State.noteStat]

@[simp] theorem execHoststatSend_otp (p : Nat) (s : State) :
    (execHoststatSend p s).burns s.trust.otp := by
  simp [execHoststatSend]

@[simp] theorem State.takePeer_otp (s : State) (p : Nat) (up : Nat) (onward : Nat) (hops : Nat) :
    (State.takePeer s p up onward hops).trust.otp = s.trust.otp := by
  simp [State.takePeer]

@[simp] theorem execHoststatRx_otp (p : Nat) (m : List Nat) (s : State) :
    (execHoststatRx p m s).burns s.trust.otp := by
  simp [execHoststatRx]

@[simp] theorem execHoststatTimeout_otp (p : Nat) (s : State) :
    (execHoststatTimeout p s).burns s.trust.otp := by
  refine withPortTimer_otp _ _ _ fun s => ?_
  try dsimp only
  (repeat' split) <;> simp

@[simp] theorem State.syncBit_otp (s : State) (F : Fld) (c : Nat) (v : Nat) :
    (State.syncBit s F c v).trust.otp = s.trust.otp := by
  simp [State.syncBit]

@[simp] theorem State.syncFrame_otp (s : State) (sfc : Nat) :
    (State.syncFrame s sfc).trust.otp = s.trust.otp := by
  simp [State.syncFrame]

@[simp] theorem execSyncInEdge_otp (edge : Int) (high : Nat) (s : State) :
    (execSyncInEdge edge high s).burns s.trust.otp := by
  unfold execSyncInEdge; dsimp only; (repeat' split) <;> simp

@[simp] theorem execSyncLost_otp (s : State) :
    (execSyncLost s).burns s.trust.otp := by
  simp [execSyncLost]

@[simp] theorem State.holdTrim_otp (s : State) (src : Nat) :
    (State.holdTrim s src).trust.otp = s.trust.otp := by
  simp [State.holdTrim]

@[simp] theorem State.syncMode_otp (s : State) :
    (State.syncMode s).trust.otp = s.trust.otp := by
  simp [State.syncMode]

/-! ### Isolation -/

@[simp] theorem State.landLetterbox_otp (s : State) (c : Nat) (tag : Nat) (status : Nat) (resp : List Nat) :
    (State.landLetterbox s c tag status resp).trust.otp = s.trust.otp := by
  simp [State.landLetterbox]

@[simp] theorem State.abortLetterbox_otp (s : State) :
    (State.abortLetterbox s).trust.otp = s.trust.otp := by
  simp [State.abortLetterbox]

@[simp] theorem State.restartStoker_otp (s : State) :
    (State.restartStoker s).trust.otp = s.trust.otp := by
  simp [State.restartStoker]

@[simp] theorem State.writeVx_otp (s : State) (mv : Nat) :
    (State.writeVx s mv).trust.otp = s.trust.otp := by
  simp [State.writeVx]

@[simp] theorem State.writeSlew_otp (s : State) :
    (State.writeSlew s).trust.otp = s.trust.otp := by
  simp [State.writeSlew]

@[simp] theorem State.slowTo_otp (s : State) (g : Nat) :
    (State.slowTo s g).trust.otp = s.trust.otp := by
  simp [State.slowTo]

@[simp] theorem State.speedTo_otp (s : State) (g : Nat) :
    (State.speedTo s g).trust.otp = s.trust.otp := by
  simp [State.speedTo]

@[simp] theorem State.emergencyP3_otp (s : State) :
    (State.emergencyP3 s).trust.otp = s.trust.otp := by
  simp [State.emergencyP3]

@[simp] theorem State.dropToP3_otp (s : State) :
    (State.dropToP3 s).trust.otp = s.trust.otp := by
  simp [State.dropToP3]

@[simp] theorem State.linesChanged_otp (s : State) (src : Nat) :
    (State.linesChanged s src).trust.otp = s.trust.otp := by
  simp [State.linesChanged]

@[simp] theorem State.markIsolated_otp (s : State) (src : Nat) :
    (State.markIsolated s src).trust.otp = s.trust.otp := by
  simp [State.markIsolated]

@[simp] theorem State.release_otp (s : State) (src : Nat) :
    (State.release s src).trust.otp = s.trust.otp := by
  simp [State.release]

@[simp] theorem State.isolateLine_otp (s : State) (l : Nat) :
    (State.isolateLine s l).trust.otp = s.trust.otp := by
  simp [State.isolateLine]

@[simp] theorem State.isolateLane_otp (s : State) (l : Nat) :
    (State.isolateLane s l).trust.otp = s.trust.otp := by
  simp [State.isolateLane]

@[simp] theorem State.isolateCluster_otp (s : State) (c : Nat) :
    (State.isolateCluster s c).trust.otp = s.trust.otp := by
  simp [State.isolateCluster]

@[simp] theorem State.isolate_otp (s : State) (src : Nat) :
    (State.isolate s src).trust.otp = s.trust.otp := by
  simp [State.isolate]

@[simp] theorem State.reactS2_otp (s : State) (src : Nat) :
    (State.reactS2 s src).trust.otp = s.trust.otp := by
  simp [State.reactS2]

@[simp] theorem State.endHandling_otp (s : State) (src : Nat) :
    (State.endHandling s src).trust.otp = s.trust.otp := by
  simp [State.endHandling]

@[simp] theorem State.safeState_otp (s : State) :
    (State.safeState s).trust.otp = s.trust.otp := by
  simp [State.safeState]

@[simp] theorem State.raiseS2_otp (s : State) (code : Nat) (src : Nat) (addr : Nat) :
    (State.raiseS2 s code src addr).trust.otp = s.trust.otp := by
  simp [State.raiseS2]

@[simp] theorem State.raiseS3_otp (s : State) (code : Nat) (src : Nat) (addr : Nat) :
    (State.raiseS3 s code src addr).trust.otp = s.trust.otp := by
  simp [State.raiseS3]

@[simp] theorem State.disagree_otp (s : State) (src : Nat) :
    (State.disagree s src).trust.otp = s.trust.otp := by
  simp [State.disagree]

/-! ### Landing -/

@[simp] theorem State.stage_otp (s : State) (F : Fld) (i : Nat) (j : Nat) (v : Nat) :
    (State.stage s F i j v).trust.otp = s.trust.otp := by
  simp [State.stage]

@[simp] theorem State.applyField_otp (s : State) (F : Fld) (i : Nat) (j : Nat) :
    (State.applyField s F i j).trust.otp = s.trust.otp := by
  unfold State.applyField; split <;> simp

@[simp] theorem State.emptyEnvelope_otp (s : State) (p : Page) (i : Nat) :
    (State.emptyEnvelope s p i).trust.otp = s.trust.otp := by
  simp [State.emptyEnvelope]

@[simp] theorem State.applyFields_otp (s : State) (p : Page) (i : Nat) :
    (State.applyFields s p i).trust.otp = s.trust.otp := by
  simp [State.applyFields]

@[simp] theorem State.refreshMaskWait_otp (s : State) (l : Nat) :
    (State.refreshMaskWait s l).trust.otp = s.trust.otp := by
  simp [State.refreshMaskWait]

@[simp] theorem State.dropPolls_otp (s : State) (l : Nat) :
    (State.dropPolls s l).trust.otp = s.trust.otp := by
  simp [State.dropPolls]

@[simp] theorem State.applyReach_otp (s : State) (l : Nat) :
    (State.applyReach s l).trust.otp = s.trust.otp := by
  simp [State.applyReach]

@[simp] theorem State.applyAfe_otp (s : State) (l : Nat) :
    (State.applyAfe s l).trust.otp = s.trust.otp := by
  simp [State.applyAfe]

@[simp] theorem State.releaseHeld_otp (s : State) (l : Nat) :
    (State.releaseHeld s l).trust.otp = s.trust.otp := by
  simp [State.releaseHeld]

/-! ### Reach -/

@[simp] theorem State.reachPga_otp (s : State) (l : Nat) :
    (State.reachPga s l).trust.otp = s.trust.otp := by
  unfold State.reachPga; split <;> simp

@[simp] theorem State.reachProfile_otp (s : State) (l : Nat) :
    (State.reachProfile s l).trust.otp = s.trust.otp := by
  simp [State.reachProfile]

@[simp] theorem State.refreshQueue_otp (s : State) (l : Nat) :
    (State.refreshQueue s l).trust.otp = s.trust.otp := by
  simp [State.refreshQueue]

@[simp] theorem State.toReachHost_otp (s : State) (l : Nat) (bytes : List Nat) :
    (State.toReachHost s l bytes).trust.otp = s.trust.otp := by
  simp [State.toReachHost]

@[simp] theorem State.statusRecord_otp (s : State) (l : Nat) (addr : Nat) (seq : Nat) (code : Nat) :
    (State.statusRecord s l addr seq code).trust.otp = s.trust.otp := by
  simp [State.statusRecord]

@[simp] theorem State.endReception_otp (s : State) (l : Nat) :
    (State.endReception s l).trust.otp = s.trust.otp := by
  simp [State.endReception]

@[simp] theorem State.startPacket_otp (s : State) (l : Nat) (c : ReachChoice) :
    (State.startPacket s l c).trust.otp = s.trust.otp := by
  simp [State.startPacket]

@[simp] theorem execReachTxStart_otp (l : Nat) (s : State) :
    (execReachTxStart l s).burns s.trust.otp := by
  refine withSignal_otp _ _ _ fun s => ?_
  try dsimp only
  (repeat' split) <;> simp

@[simp] theorem execReachTxEnd_otp (l : Nat) (s : State) :
    (execReachTxEnd l s).burns s.trust.otp := by
  refine withSignal_otp _ _ _ fun s => ?_
  try dsimp only
  (repeat' split) <;> simp

@[simp] theorem execBlankingEnd_otp (l : Nat) (s : State) :
    (execBlankingEnd l s).burns s.trust.otp := by
  simp [execBlankingEnd]

@[simp] theorem State.beginReception_otp (s : State) (l : Nat) (bin : Nat) (power : Int) :
    (State.beginReception s l bin power).trust.otp = s.trust.otp := by
  simp [State.beginReception]

@[simp] theorem execPreambleDetected_otp (l : Nat) (windows : List Window) (shift : Nat) (s : State) :
    (execPreambleDetected l windows shift s).burns s.trust.otp := by
  unfold execPreambleDetected
  refine withSignal_otp _ _ _ fun s => ?_
  split
  · rfl
  · split
    · simp
    · dsimp only
      (repeat' split) <;> simp

@[simp] theorem execSyncConfirm_otp (l : Nat) (windows : List Window) (r : SyncReport) (s : State) :
    (execSyncConfirm l windows r s).burns s.trust.otp := by
  unfold execSyncConfirm
  refine withSignal_otp _ _ _ fun s => ?_
  dsimp only
  (repeat' split) <;> simp

@[simp] theorem execHeaderDone_otp (l : Nat) (word : Nat) (s : State) :
    (execHeaderDone l word s).burns s.trust.otp := by
  refine withSignal_otp _ _ _ fun s => ?_
  try dsimp only
  (repeat' split) <;> simp

@[simp] theorem State.noteEndpoint_otp (s : State) (l : Nat) (x : ReachRx) :
    (State.noteEndpoint s l x).trust.otp = s.trust.otp := by
  simp [State.noteEndpoint]

@[simp] theorem State.deliverPacket_otp (s : State) (l : Nat) (x : ReachRx) (payload : List Nat) :
    (State.deliverPacket s l x payload).trust.otp = s.trust.otp := by
  simp [State.deliverPacket]

@[simp] theorem State.goodPacket_otp (s : State) (l : Nat) (x : ReachRx) (payload : List Nat) :
    (State.goodPacket s l x payload).trust.otp = s.trust.otp := by
  simp [State.goodPacket]

@[simp] theorem State.closeWindow_otp (s : State) (l : Nat) :
    (State.closeWindow s l).trust.otp = s.trust.otp := by
  simp [State.closeWindow]

@[simp] theorem execPacketRxDone_otp (l : Nat) (bytes : List Nat) (s : State) :
    (execPacketRxDone l bytes s).burns s.trust.otp := by
  refine withSignal_otp _ _ _ fun s => ?_
  try dsimp only
  (repeat' split) <;> simp

@[simp] theorem execReplyTimeout_otp (l : Nat) (s : State) :
    (execReplyTimeout l s).burns s.trust.otp := by
  refine withTimer_otp _ _ _ fun s => ?_
  try dsimp only
  (repeat' split) <;> simp

@[simp] theorem execPollDue_otp (l : Nat) (ep : Nat) (s : State) :
    (execPollDue l ep s).burns s.trust.otp := by
  simp [execPollDue]

@[simp] theorem execAlarmWindowDue_otp (l : Nat) (s : State) :
    (execAlarmWindowDue l s).burns s.trust.otp := by
  simp [execAlarmWindowDue]

@[simp] theorem execAlarmWindowOpen_otp (l : Nat) (s : State) :
    (execAlarmWindowOpen l s).burns s.trust.otp := by
  simp [execAlarmWindowOpen]

@[simp] theorem execAlarmWindowClose_otp (l : Nat) (s : State) :
    (execAlarmWindowClose l s).burns s.trust.otp := by
  simp [execAlarmWindowClose]

@[simp] theorem execReachRecordRx_otp (port : Nat) (frame fcs : List Nat) (s : State) :
    (execReachRecordRx port frame fcs s).burns s.trust.otp := by
  simp [execReachRecordRx]

@[simp] theorem execReachMaskWaitEnd_otp (l : Nat) (s : State) :
    (execReachMaskWaitEnd l s).burns s.trust.otp := by
  simp [execReachMaskWaitEnd]

/-! ### FrontEnd -/

@[simp] theorem execTxclrAssert_otp (s : State) :
    (execTxclrAssert s).burns s.trust.otp := by
  simp [execTxclrAssert]

@[simp] theorem execTxclrRelease_otp (s : State) :
    (execTxclrRelease s).burns s.trust.otp := by
  simp [execTxclrRelease]

@[simp] theorem execDriverOvercurrent_otp (l : Nat) (s : State) :
    (execDriverOvercurrent l s).burns s.trust.otp := by
  simp [execDriverOvercurrent]

@[simp] theorem execRangeSwitchSymbol_otp (l : Nat) (s : State) :
    (execRangeSwitchSymbol l s).burns s.trust.otp := by
  refine withLine_otp _ _ _ fun s => ?_
  try dsimp only
  (repeat' split) <;> simp

@[simp] theorem execRefinMeasure_otp (level : Nat) (s : State) :
    (execRefinMeasure level s).burns s.trust.otp := by
  simp [execRefinMeasure]

/-! ### Standard -/

@[simp] theorem State.refreshQuad_otp (s : State) (q : Nat) :
    (State.refreshQuad s q).trust.otp = s.trust.otp := by
  simp [State.refreshQuad]

@[simp] theorem State.clearLink_otp (s : State) (q : Nat) :
    (State.clearLink s q).trust.otp = s.trust.otp := by
  simp [State.clearLink]

@[simp] theorem State.startNegotiation_otp (s : State) (q : Nat) :
    (State.startNegotiation s q).trust.otp = s.trust.otp := by
  simp [State.startNegotiation]

@[simp] theorem State.startStandard_otp (s : State) (q : Nat) :
    (State.startStandard s q).trust.otp = s.trust.otp := by
  simp [State.startStandard]

@[simp] theorem State.loseLink_otp (s : State) (q : Nat) :
    (State.loseLink s q).trust.otp = s.trust.otp := by
  simp [State.loseLink]

@[simp] theorem State.restartNegotiation_otp (s : State) (q : Nat) :
    (State.restartNegotiation s q).trust.otp = s.trust.otp := by
  simp [State.restartNegotiation]

@[simp] theorem withQuad_otp (l : Nat) (s : State) (f : State → State) (hf : ∀ x0, (f x0).trust.otp = x0.trust.otp) :
    (withQuad l s f).burns s.trust.otp := by
  simp [withQuad, hf]

@[simp] theorem execAutonegComplete_otp (l : Nat) (p : PartnerAbility) (s : State) :
    (execAutonegComplete l p s).burns s.trust.otp := by
  simp [execAutonegComplete]

@[simp] theorem execStdLinkUp_otp (l : Nat) (s : State) :
    (execStdLinkUp l s).burns s.trust.otp := by
  simp [execStdLinkUp]

@[simp] theorem State.countPcs_otp (s : State) (q : Nat) (n : Nat) :
    (State.countPcs s q n).trust.otp = s.trust.otp := by
  simp [State.countPcs]

@[simp] theorem execStdLinkDown_otp (l : Nat) (pcs : Nat) (s : State) :
    (execStdLinkDown l pcs s).burns s.trust.otp := by
  simp [execStdLinkDown]

@[simp] theorem execStdFastRetrain_otp (l : Nat) (ok : Bool) (pcs : Nat) (s : State) :
    (execStdFastRetrain l ok pcs s).burns s.trust.otp := by
  simp [execStdFastRetrain]

@[simp] theorem execLpiEnter_otp (l : Nat) (enter : Bool) (s : State) :
    (execLpiEnter l enter s).burns s.trust.otp := by
  simp [execLpiEnter]

@[simp] theorem execPartnerLpi_otp (l : Nat) (enter : Bool) (wakeError : Bool) (s : State) :
    (execPartnerLpi l enter wakeError s).burns s.trust.otp := by
  simp [execPartnerLpi]

@[simp] theorem execAnWindowEnd_otp (l : Nat) (s : State) :
    (execAnWindowEnd l s).burns s.trust.otp := by
  refine withQuad_otp _ _ _ fun s => ?_
  try dsimp only
  (repeat' split) <;> simp

@[simp] theorem execBeaconWindowEnd_otp (l : Nat) (s : State) :
    (execBeaconWindowEnd l s).burns s.trust.otp := by
  simp [execBeaconWindowEnd]

@[simp] theorem execFlpQualified_otp (l : Nat) (s : State) :
    (execFlpQualified l s).burns s.trust.otp := by
  simp [execFlpQualified]

@[simp] theorem execAltResumeTimeout_otp (l : Nat) (s : State) :
    (execAltResumeTimeout l s).burns s.trust.otp := by
  simp [execAltResumeTimeout]

@[simp] theorem State.mmdRead_otp (s : State) (p : Nat) (mmd : Nat) (reg : Nat) :
    (State.mmdRead s p mmd reg).2.trust.otp = s.trust.otp := by
  unfold State.mmdRead; dsimp only; (repeat' split) <;> simp

@[simp] theorem State.advertise_otp (s : State) (q : Nat) (F : Fld) (v : Nat) (from' : List (Nat × Nat)) :
    (State.advertise s q F v from').trust.otp = s.trust.otp := by
  unfold State.advertise; (repeat' split) <;> simp

@[simp] theorem State.mmdWrite_otp (s : State) (p mmd reg v : Nat) :
    (State.mmdWrite s p mmd reg v).trust.otp = s.trust.otp := by
  unfold State.mmdWrite; dsimp only; (repeat' split) <;> simp

/-! ### Reset -/

@[simp] theorem State.carry_otp (new : State) (old : State) (i : Nat) (fs : List Fld) :
    (State.carry new old i fs).trust.otp = new.trust.otp := by
  simp [State.carry]

@[simp] theorem State.deviceReset_otp (s : State) (k : ResetKind) :
    (State.deviceReset s k).trust.otp = s.trust.otp := by
  unfold State.deviceReset
  dsimp only
  (repeat' split) <;> simp_all [TrustX.persist]

@[simp] theorem State.gateControl_otp (s : State) :
    (State.gateControl s).trust.otp = s.trust.otp := by
  unfold State.gateControl; dsimp only; (repeat' split) <;> simp

@[simp] theorem State.coldStart_otp (s : State) :
    (State.coldStart s).trust.otp = s.trust.otp := by
  simp [State.coldStart]

/-! ### Clocks -/

@[simp] theorem State.enterReduced_otp (s : State) :
    (State.enterReduced s).trust.otp = s.trust.otp := by
  simp [State.enterReduced]

@[simp] theorem State.refreshCmux_otp (s : State) :
    (State.refreshCmux s).trust.otp = s.trust.otp := by
  simp [State.refreshCmux]

@[simp] theorem State.setSuspect_otp (s : State) :
    (State.setSuspect s).trust.otp = s.trust.otp := by
  simp [State.setSuspect]

@[simp] theorem State.refreshTmux_otp (s : State) :
    (State.refreshTmux s).trust.otp = s.trust.otp := by
  simp [State.refreshTmux]

@[simp] theorem State.refreshClocks_otp (s : State) :
    (State.refreshClocks s).trust.otp = s.trust.otp := by
  simp [State.refreshClocks]

@[simp] theorem State.referenceLost_otp (s : State) :
    (State.referenceLost s).trust.otp = s.trust.otp := by
  simp [State.referenceLost]

@[simp] theorem State.loseSpll_otp (s : State) :
    (State.loseSpll s).trust.otp = s.trust.otp := by
  simp [State.loseSpll]

@[simp] theorem State.startPlls_otp (s : State) (ps : List Nat) :
    (State.startPlls s ps).trust.otp = s.trust.otp := by
  simp [State.startPlls]

@[simp] theorem State.unlockPll_otp (s : State) (p : Nat) :
    (State.unlockPll s p).trust.otp = s.trust.otp := by
  simp [State.unlockPll]

@[simp] theorem State.clusterUp_otp (s : State) (c : Nat) :
    (State.clusterUp s c).trust.otp = s.trust.otp := by
  simp [State.clusterUp]

@[simp] theorem execPllLock_otp (p : Nat) (s : State) :
    (execPllLock p s).burns s.trust.otp := by
  simp [execPllLock]

@[simp] theorem execPllUnlock_otp (p : Nat) (s : State) :
    (execPllUnlock p s).burns s.trust.otp := by
  simp [execPllUnlock]

@[simp] theorem execSpllMonitorTrip_otp (s : State) :
    (execSpllMonitorTrip s).burns s.trust.otp := by
  simp [execSpllMonitorTrip]

@[simp] theorem execCpllRelockTimeout_otp (c : Nat) (s : State) :
    (execCpllRelockTimeout c s).burns s.trust.otp := by
  unfold execCpllRelockTimeout onCluster onPart
  by_cases h : c < 4 <;> simp only [h, if_true, if_false]
  · (repeat' split) <;> simp
  · simp

@[simp] theorem execTrimWindowEnd_otp (count : Nat) (s : State) :
    (execTrimWindowEnd count s).burns s.trust.otp := by
  simp [execTrimWindowEnd]

@[simp] theorem State.koscGood_otp (s : State) :
    (State.koscGood s).trust.otp = s.trust.otp := by
  simp [State.koscGood]

@[simp] theorem State.koscBad_otp (s : State) :
    (State.koscBad s).trust.otp = s.trust.otp := by
  simp [State.koscBad]

@[simp] theorem execKoscWindowEnd_otp (count : Nat) (s : State) :
    (execKoscWindowEnd count s).burns s.trust.otp := by
  unfold execKoscWindowEnd; dsimp only; (repeat' split) <;> simp

@[simp] theorem execKoscStartTimeout_otp (s : State) :
    (execKoscStartTimeout s).burns s.trust.otp := by
  simp [execKoscStartTimeout]

@[simp] theorem execKoscHoldExpire_otp (s : State) :
    (execKoscHoldExpire s).burns s.trust.otp := by
  simp [execKoscHoldExpire]

@[simp] theorem execRefclkTrip_otp (s : State) :
    (execRefclkTrip s).burns s.trust.otp := by
  simp [execRefclkTrip]

@[simp] theorem execRefclkGood_otp (s : State) :
    (execRefclkGood s).burns s.trust.otp := by
  simp [execRefclkGood]

@[simp] theorem execRefclkAbsentTimeout_otp (s : State) :
    (execRefclkAbsentTimeout s).burns s.trust.otp := by
  simp [execRefclkAbsentTimeout]

@[simp] theorem execMuxHang_otp (mux : Nat) (s : State) :
    (execMuxHang mux s).burns s.trust.otp := by
  simp [execMuxHang]

@[simp] theorem State.landFreqmon_otp (s : State) (reason : Nat) (count : Nat) (hz : Nat) :
    (State.landFreqmon s reason count hz).trust.otp = s.trust.otp := by
  simp [State.landFreqmon]

@[simp] theorem State.startFreqmon_otp (s : State) :
    (State.startFreqmon s).trust.otp = s.trust.otp := by
  simp [State.startFreqmon]

@[simp] theorem execFreqmonDone_otp (count : Nat) (s : State) :
    (execFreqmonDone count s).burns s.trust.otp := by
  unfold execFreqmonDone; split <;> simp

@[simp] theorem execFreqmonRefStopped_otp (s : State) :
    (execFreqmonRefStopped s).burns s.trust.otp := by
  unfold execFreqmonRefStopped; split <;> simp

@[simp] theorem execResetNRelease_otp (s : State) :
    (execResetNRelease s).burns s.trust.otp := by
  simp [execResetNRelease]

@[simp] theorem execResetNAssert_otp (ns : Nat) (s : State) :
    (execResetNAssert ns s).burns s.trust.otp := by
  simp [execResetNAssert]

@[simp] theorem State.advanceTime_otp (s : State) (n : Int) :
    (State.advanceTime s n).trust.otp = s.trust.otp := by
  simp [State.advanceTime]

@[simp] theorem State.timeTick_otp (s : State) :
    (State.timeTick s).trust.otp = s.trust.otp := by
  simp [State.timeTick]

@[simp] theorem State.landSet_otp (s : State) :
    (State.landSet s).trust.otp = s.trust.otp := by
  simp [State.landSet]

@[simp] theorem State.landAdd_otp (s : State) :
    (State.landAdd s).trust.otp = s.trust.otp := by
  simp [State.landAdd]

@[simp] theorem execPpsInEdge_otp (s : State) :
    (execPpsInEdge s).burns s.trust.otp := by
  simp [execPpsInEdge]

@[simp] theorem execPpsOutFall_otp (s : State) :
    (execPpsOutFall s).burns s.trust.otp := by
  simp [execPpsOutFall]

/-! ### Perf -/

@[simp] theorem State.unvector_otp (s : State) (ks : List Nat) (target : Nat) (l : Nat) :
    (State.unvector s ks target l).trust.otp = s.trust.otp := by
  simp [State.unvector]

@[simp] theorem State.beginChange_otp (s : State) (g : Nat) :
    (State.beginChange s g).trust.otp = s.trust.otp := by
  simp [State.beginChange]

@[simp] theorem State.startLevel_otp (s : State) :
    (State.startLevel s).trust.otp = s.trust.otp := by
  simp [State.startLevel]

@[simp] theorem State.damperStep_otp (s : State) :
    (State.damperStep s).trust.otp = s.trust.otp := by
  simp [State.damperStep]

@[simp] theorem State.levelDone_otp (s : State) :
    (State.levelDone s).trust.otp = s.trust.otp := by
  simp [State.levelDone]

@[simp] theorem execLevelRepropose_otp (s : State) :
    (execLevelRepropose s).burns s.trust.otp := by
  simp [execLevelRepropose]

@[simp] theorem State.unityNorm_otp (s : State) (nv : Nat) :
    (State.unityNorm s nv).trust.otp = s.trust.otp := by
  simp [State.unityNorm]

@[simp] theorem State.endAbove_otp (s : State) (nv : Nat) :
    (State.endAbove s nv).trust.otp = s.trust.otp := by
  simp [State.endAbove]

@[simp] theorem execNvDownLand_otp (s : State) :
    (execNvDownLand s).burns s.trust.otp := by
  simp [execNvDownLand]

@[simp] theorem State.vectorNorm_otp (s : State) (ks : List Nat) :
    (State.vectorNorm s ks).trust.otp = s.trust.otp := by
  simp [State.vectorNorm]

@[simp] theorem execNvUpLand_otp (s : State) :
    (execNvUpLand s).burns s.trust.otp := by
  simp [execNvUpLand]

@[simp] theorem execVxConfirmed_otp (read : VxRead) (s : State) :
    (execVxConfirmed read s).burns s.trust.otp := by
  unfold execVxConfirmed; dsimp only; (repeat' split) <;> simp

@[simp] theorem execVxConfirmTimeout_otp (fails : Nat) (mv : Nat) (s : State) :
    (execVxConfirmTimeout fails mv s).burns s.trust.otp := by
  simp [execVxConfirmTimeout]

@[simp] theorem State.retryAvs_otp (s : State) :
    (State.retryAvs s).trust.otp = s.trust.otp := by
  simp [State.retryAvs]

@[simp] theorem execAvsCurrentRead_otp (fails : Nat) (current : Nat) (alert : Bool) (s : State) :
    (execAvsCurrentRead fails current alert s).burns s.trust.otp := by
  simp [execAvsCurrentRead]

@[simp] theorem State.showTemps_otp (s : State) (ts : List Int) :
    (State.showTemps s ts).trust.otp = s.trust.otp := by
  simp [State.showTemps]

@[simp] theorem execTempSample_otp (ts : List Int) (s : State) :
    (execTempSample ts s).burns s.trust.otp := by
  simp [execTempSample]

@[simp] theorem execDamperRepeat_otp (s : State) :
    (execDamperRepeat s).burns s.trust.otp := by
  simp [execDamperRepeat]

@[simp] theorem execDamperCool_otp (s : State) :
    (execDamperCool s).burns s.trust.otp := by
  simp [execDamperCool]

@[simp] theorem State.clearPeak_otp (s : State) :
    (State.clearPeak s).trust.otp = s.trust.otp := by
  simp [State.clearPeak]

@[simp] theorem State.clearMinmax_otp (s : State) (c : Nat) :
    (State.clearMinmax s c).trust.otp = s.trust.otp := by
  simp [State.clearMinmax]

/-! ### Power -/

@[simp] theorem State.powerTo_otp (s : State) (st : Nat) :
    (State.powerTo s st).trust.otp = s.trust.otp := by
  simp [State.powerTo]

@[simp] theorem State.gateCluster_otp (s : State) (c : Nat) :
    (State.gateCluster s c).trust.otp = s.trust.otp := by
  simp [State.gateCluster]

@[simp] theorem State.ungateCluster_otp (s : State) (c : Nat) :
    (State.ungateCluster s c).trust.otp = s.trust.otp := by
  simp [State.ungateCluster]

@[simp] theorem State.refreshGates_otp (s : State) :
    (State.refreshGates s).trust.otp = s.trust.otp := by
  simp [State.refreshGates]

@[simp] theorem State.enterDoze_otp (s : State) :
    (State.enterDoze s).trust.otp = s.trust.otp := by
  simp [State.enterDoze]

@[simp] theorem State.leaveDoze_otp (s : State) :
    (State.leaveDoze s).trust.otp = s.trust.otp := by
  simp [State.leaveDoze]

@[simp] theorem State.refuseStage_otp (s : State) (stage : Nat) (reason : Nat) (inst : Nat) :
    (State.refuseStage s stage reason inst).trust.otp = s.trust.otp := by
  simp [State.refuseStage]

@[simp] theorem State.stopLines_otp (s : State) :
    (State.stopLines s).trust.otp = s.trust.otp := by
  simp [State.stopLines]

@[simp] theorem State.stopEngine_otp (s : State) :
    (State.stopEngine s).trust.otp = s.trust.otp := by
  simp [State.stopEngine]

@[simp] theorem State.enterEmber_otp (s : State) :
    (State.enterEmber s).trust.otp = s.trust.otp := by
  simp [State.enterEmber]

@[simp] theorem State.enterHearth_otp (s : State) :
    (State.enterHearth s).trust.otp = s.trust.otp := by
  simp [State.enterHearth]

@[simp] theorem State.stopStage_otp (s : State) (n : Nat) :
    (State.stopStage s n).trust.otp = s.trust.otp := by
  unfold State.stopStage; split <;> simp

@[simp] theorem execStageStopped_otp (s : State) :
    (execStageStopped s).burns s.trust.otp := by
  unfold execStageStopped; simp; (repeat' split) <;> simp_all

@[simp] theorem execStageTimeout_otp (s : State) :
    (execStageTimeout s).burns s.trust.otp := by
  simp [execStageTimeout]

@[simp] theorem execRollbackComplete_otp (s : State) :
    (execRollbackComplete s).burns s.trust.otp := by
  simp [execRollbackComplete]

@[simp] theorem State.beginWake_otp (s : State) (sub : Nat) :
    (State.beginWake s sub).trust.otp = s.trust.otp := by
  simp [State.beginWake]

@[simp] theorem State.wakeHearth_otp (s : State) :
    (State.wakeHearth s).trust.otp = s.trust.otp := by
  simp [State.wakeHearth]

@[simp] theorem State.wakeUp_otp (s : State) (cause : Nat) (line : Nat) :
    (State.wakeUp s cause line).trust.otp = s.trust.otp := by
  simp [State.wakeUp]

@[simp] theorem execWakeEnergy_otp (l : Nat) (s : State) :
    (execWakeEnergy l s).burns s.trust.otp := by
  simp [execWakeEnergy]

@[simp] theorem execWakeMspi_otp (s : State) :
    (execWakeMspi s).burns s.trust.otp := by
  simp [execWakeMspi]

@[simp] theorem execWakeMdio_otp (s : State) :
    (execWakeMdio s).burns s.trust.otp := by
  simp [execWakeMdio]

@[simp] theorem execWakeTimer_otp (s : State) :
    (execWakeTimer s).burns s.trust.otp := by
  simp [execWakeTimer]

@[simp] theorem execWakeNotReady_otp (block : Nat) (s : State) :
    (execWakeNotReady block s).burns s.trust.otp := by
  simp [execWakeNotReady]

@[simp] theorem execWakeComplete_otp (s : State) :
    (execWakeComplete s).burns s.trust.otp := by
  simp [execWakeComplete]

@[simp] theorem State.requestPower_otp (s : State) :
    (State.requestPower s).trust.otp = s.trust.otp := by
  unfold State.requestPower; dsimp only; (repeat' split) <;> simp

@[simp] theorem execClockGateTimeout_otp (stuck : List StuckAccess) (s : State) :
    (execClockGateTimeout stuck s).burns s.trust.otp := by
  simp [execClockGateTimeout]

/-! ### FaultRows -/

@[simp] theorem State.countTie_otp (s : State) (fs : List FaultReport) (injected : Bool) :
    (State.countTie s fs injected).trust.otp = s.trust.otp := by
  simp [State.countTie]

@[simp] theorem State.recordTie_otp (s : State) (real : List FaultReport) (inj : Option FaultReport) :
    (State.recordTie s real inj).trust.otp = s.trust.otp := by
  unfold State.recordTie; dsimp only; (repeat' split) <;> simp

@[simp] theorem State.briefRecovery_otp (s : State) (src : Nat) :
    (State.briefRecovery s src).trust.otp = s.trust.otp := by
  simp [State.briefRecovery]

@[simp] theorem State.abortOpcodes_otp (s : State) (test : Nat → Bool) :
    (State.abortOpcodes s test).trust.otp = s.trust.otp := by
  simp [State.abortOpcodes]

@[simp] theorem State.trustFault_otp (s : State) (code : Nat) :
    (State.trustFault s code).trust.otp = s.trust.otp := by
  simp [State.trustFault]

@[simp] theorem State.reactReal_otp (s : State) (f : FaultReport) (full : Bool) :
    (State.reactReal s f full).trust.otp = s.trust.otp := by
  simp [State.reactReal]

@[simp] theorem State.reactInjected_otp (s : State) (f : FaultReport) :
    (State.reactInjected s f).trust.otp = s.trust.otp := by
  simp [State.reactInjected]

@[simp] theorem State.sampleFaults_otp (s : State) (real : List FaultReport) (inj : Option FaultReport) :
    (State.sampleFaults s real inj).trust.otp = s.trust.otp := by
  unfold State.sampleFaults; split <;> simp

@[simp] theorem execFaultSample_otp (reports : List FaultInput) (s : State) :
    (execFaultSample reports s).burns s.trust.otp := by
  simp [execFaultSample]

@[simp] theorem execRailDisagree_otp (source : Nat) (seen : Nat) (s : State) :
    (execRailDisagree source seen s).burns s.trust.otp := by
  simp [execRailDisagree]

@[simp] theorem State.inject_otp (s : State) :
    (State.inject s).trust.otp = s.trust.otp := by
  simp [State.inject]

@[simp] theorem execFaultHandlingEnd_otp (s : State) :
    (execFaultHandlingEnd s).burns s.trust.otp := by
  simp [execFaultHandlingEnd]

@[simp] theorem State.clearRecord_otp (s : State) (r : Nat) (seq : Nat) :
    (State.clearRecord s r seq).trust.otp = s.trust.otp := by
  simp [State.clearRecord]

@[simp] theorem State.clearRecords_otp (s : State) (w : Nat) :
    (State.clearRecords s w).trust.otp = s.trust.otp := by
  simp [State.clearRecords]

@[simp] theorem State.setFence_otp (s : State) (m : Nat) (on : Bool) :
    (State.setFence s m on).trust.otp = s.trust.otp := by
  simp [State.setFence]

@[simp] theorem State.refreshRevoked_otp (s : State) :
    (State.refreshRevoked s).trust.otp = s.trust.otp := by
  simp [State.refreshRevoked]

@[simp] theorem State.respond_otp (s : State) (r : InbandReq) (status : Nat) (data : List Nat) :
    (State.respond s r status data).trust.otp = s.trust.otp := by
  simp [State.respond]

@[simp] theorem State.recoverMaster_otp (s : State) (m : Nat) :
    (State.recoverMaster s m).trust.otp = s.trust.otp := by
  unfold State.recoverMaster; split <;> simp

@[simp] theorem State.revokeLease_otp (s : State) (master : Nat) (resource : Nat) (access : Nat) (addr : Nat) :
    (State.revokeLease s master resource access addr).trust.otp = s.trust.otp := by
  simp [State.revokeLease]

@[simp] theorem execFenceRecoveryEnd_otp (master : Nat) (s : State) :
    (execFenceRecoveryEnd master s).burns s.trust.otp := by
  simp [execFenceRecoveryEnd]

@[simp] theorem execWatchdogRestart_otp (s : State) :
    (execWatchdogRestart s).burns s.trust.otp := by
  simp [execWatchdogRestart]

@[simp] theorem execWatchdogExpire_otp (s : State) :
    (execWatchdogExpire s).burns s.trust.otp := by
  simp [execWatchdogExpire]

@[simp] theorem State.reboot_otp (s : State) :
    (State.reboot s).trust.otp = s.trust.otp := by
  simp [State.reboot]

@[simp] theorem execPinHoldEnd_otp (pin : Nat) (s : State) :
    (execPinHoldEnd pin s).burns s.trust.otp := by
  simp [execPinHoldEnd]

@[simp] theorem execIbHoldEnd_otp (n : Nat) (s : State) :
    (execIbHoldEnd n s).burns s.trust.otp := by
  simp [execIbHoldEnd]

@[simp] theorem execIbRefresh_otp (s : State) :
    (execIbRefresh s).burns s.trust.otp := by
  simp [execIbRefresh]

/-! ### Rails -/

@[simp] theorem execRailGood_otp (rail : Nat) (s : State) :
    (execRailGood rail s).burns s.trust.otp := by
  simp [execRailGood]

@[simp] theorem execRailTrip_otp (rail : Nat) (s : State) :
    (execRailTrip rail s).burns s.trust.otp := by
  simp [execRailTrip]

@[simp] theorem execVhLoss_otp (s : State) :
    (execVhLoss s).burns s.trust.otp := by
  simp [execVhLoss]

/-! ### Trust -/

@[simp] theorem State.freshNonce_otp (s : State) (c : Nat) (keep : Bool) :
    (State.freshNonce s c keep).trust.otp = s.trust.otp := by
  simp [State.freshNonce]

@[simp] theorem State.countFailure_otp (s : State) (c : Nat) :
    (State.countFailure s c).trust.otp = s.trust.otp := by
  simp [State.countFailure]

@[simp] theorem State.openSession_otp (s : State) (c : Nat) :
    (State.openSession s c).trust.otp = s.trust.otp := by
  simp [State.openSession]

@[simp] theorem State.openLocked_otp (s : State) (c : Nat) :
    (State.openLocked s c).trust.otp = s.trust.otp := by
  simp [State.openLocked]

@[simp] theorem State.closeSession_otp (s : State) (c : Nat) (reason : Nat) :
    (State.closeSession s c reason).trust.otp = s.trust.otp := by
  unfold State.closeSession
  split
  · rfl
  · rw [State.pulse_otp, State.wr_otp, State.wrWords_otp, State.wrWords_otp, State.modTrust_trust, TrustX.otp_mk,
      TrustX.otp_eta, State.modMgmt_otp, State.freshNonce_otp, State.setSession_otp]

@[simp] theorem execNonceExpire_otp (ch : Channel) (s : State) :
    (execNonceExpire ch s).burns s.trust.otp := by
  simp [execNonceExpire]

@[simp] theorem execLockoutEnd_otp (ch : Channel) (s : State) :
    (execLockoutEnd ch s).burns s.trust.otp := by
  simp [execLockoutEnd]

@[simp] theorem State.refreshPairing_otp (s : State) (p : Nat) :
    (State.refreshPairing s p).trust.otp = s.trust.otp := by
  simp [State.refreshPairing]

@[simp] theorem State.refreshAllPairing_otp (s : State) :
    (State.refreshAllPairing s).trust.otp = s.trust.otp := by
  simp [State.refreshAllPairing]

@[simp] theorem State.setPairKey_otp (s : State) (p : Nat) :
    (State.setPairKey s p).trust.otp = s.trust.otp := by
  simp [State.setPairKey]

@[simp] theorem State.installSa_otp (s : State) (p : Nat) (a : Nat) :
    (State.installSa s p a).trust.otp = s.trust.otp := by
  simp [State.installSa]

@[simp] theorem State.modImage_otp (s : State) (k : Nat) (f : ImageSlot → ImageSlot) :
    (State.modImage s k f).trust.otp = s.trust.otp := by
  simp [State.modImage]

@[simp] theorem State.trySlot_otp (s : State) (k : Nat) :
    (State.trySlot s k).2.trust.otp = s.trust.otp := by
  simp [State.trySlot]

@[simp] theorem State.runImage_otp (s : State) (k : Nat) (fallback : Bool) :
    (State.runImage s k fallback).trust.otp = s.trust.otp := by
  simp [State.runImage]

@[simp] theorem execBootVerifyDone_otp (s : State) :
    (execBootVerifyDone s).burns s.trust.otp := by
  simp [execBootVerifyDone]

@[simp] theorem State.confirmBoot_otp (s : State) :
    (State.confirmBoot s).trust.otp = s.trust.otp := by
  simp [State.confirmBoot]

@[simp] theorem execFwUploadTimeout_otp (s : State) :
    (execFwUploadTimeout s).burns s.trust.otp := by
  simp [execFwUploadTimeout]

/-! ### Envelope -/

@[simp] theorem State.enterLeaving_otp (s : State) (l : Nat) :
    (State.enterLeaving s l).trust.otp = s.trust.otp := by
  simp [State.enterLeaving]

@[simp] theorem State.refitLine_otp (target : Nat) (s : State) (l : Nat) :
    (State.refitLine target s l).trust.otp = s.trust.otp := by
  simp [State.refitLine]

@[simp] theorem State.proposeSet_otp (s : State) (set : Pages) (p : Nat) (target : Nat) :
    (State.proposeSet s set p target).trust.otp = s.trust.otp := by
  simp [State.proposeSet]

@[simp] theorem State.failSet_otp (s : State) (set : Pages) (run : Bool) (r : Nat) :
    (State.failSet s set run r).trust.otp = s.trust.otp := by
  simp [State.failSet]

@[simp] theorem State.decidePlain_otp (s : State) (es : Pages) :
    (State.decidePlain s es).trust.otp = s.trust.otp := by
  unfold State.decidePlain; (repeat' split) <;> simp

@[simp] theorem State.startSet_otp (s : State) (set : Pages) (run : Bool) (moment : Nat) (target : Option Nat) :
    (State.startSet s set run moment target).trust.otp = s.trust.otp := by
  simp [State.startSet]

@[simp] theorem State.post_otp (s : State) (p : Page) (i : Nat) :
    (State.post s p i).trust.otp = s.trust.otp := by
  simp [State.post]

@[simp] theorem State.retryRun_otp (s : State) :
    (State.retryRun s).trust.otp = s.trust.otp := by
  unfold State.retryRun; split <;> simp

@[simp] theorem State.discardPost_otp (s : State) (p : Page) (i : Nat) :
    (State.discardPost s p i).trust.otp = s.trust.otp := by
  simp [State.discardPost]

@[simp] theorem State.startRun_otp (s : State) :
    (State.startRun s).trust.otp = s.trust.otp := by
  simp [State.startRun]

@[simp] theorem State.cancelRun_otp (s : State) :
    (State.cancelRun s).trust.otp = s.trust.otp := by
  unfold State.cancelRun; split <;> simp

@[simp] theorem State.clearSecy_otp (s : State) (p : Nat) :
    (State.clearSecy s p).trust.otp = s.trust.otp := by
  simp [State.clearSecy]

@[simp] theorem State.settlePort_otp (s : State) (p : Nat) (was : Nat) :
    (State.settlePort s p was).trust.otp = s.trust.otp := by
  simp [State.settlePort]

@[simp] theorem State.newEpoch_otp (s : State) (l : Nat) (was : Nat × Nat) :
    (State.newEpoch s l was).trust.otp = s.trust.otp := by
  simp [State.newEpoch]

@[simp] theorem State.layoutQuad_otp (s : State) (q : Nat) (code : Nat) :
    (State.layoutQuad s q code).trust.otp = s.trust.otp := by
  simp [State.layoutQuad]

@[simp] theorem State.endMode_otp (s : State) (l : Nat) :
    (State.endMode s l).trust.otp = s.trust.otp := by
  simp [State.endMode]

@[simp] theorem State.beginMode_otp (s : State) (l : Nat) :
    (State.beginMode s l).trust.otp = s.trust.otp := by
  simp [State.beginMode]

@[simp] theorem State.landMode_otp (s : State) (l : Nat) :
    (State.landMode s l).trust.otp = s.trust.otp := by
  simp [State.landMode]

@[simp] theorem State.changePort_otp (s : State) (l : Nat) (was : Nat) :
    (State.changePort s l was).trust.otp = s.trust.otp := by
  simp [State.changePort]

@[simp] theorem State.refreshThru_otp (s : State) :
    (State.refreshThru s).trust.otp = s.trust.otp := by
  simp [State.refreshThru]

@[simp] theorem State.landPage_otp (s : State) (e : Page × Nat) :
    (State.landPage s e).trust.otp = s.trust.otp := by
  unfold State.landPage; split <;> simp

@[simp] theorem State.landUnits_otp (s : State) (set : Pages) (units : List Nat) :
    (State.landUnits s set units).trust.otp = s.trust.otp := by
  simp [State.landUnits]

@[simp] theorem State.setLanded_otp (s : State) (set : Pages) (run : Bool) (steps : Nat) :
    (State.setLanded s set run steps).trust.otp = s.trust.otp := by
  simp [State.setLanded]

@[simp] theorem State.sealedLanded_otp (s : State) (es : Pages) :
    (State.sealedLanded s es).trust.otp = s.trust.otp := by
  simp [State.sealedLanded]

@[simp] theorem State.landBatches_otp (s : State) (set : Pages) (run : Bool) (e : Page × Nat) (bs : List (List Nat)) (steps : Nat) :
    (State.landBatches s set run e bs steps).trust.otp = s.trust.otp := by
  unfold State.landBatches; dsimp only; (repeat' split) <;> simp

@[simp] theorem State.holdPosts_otp (s : State) (es : Pages) :
    (State.holdPosts s es).trust.otp = s.trust.otp := by
  unfold State.holdPosts; (repeat' split) <;> simp

@[simp] theorem State.landSetNow_otp (s : State) (set : Pages) (run : Bool) (e : Page × Nat) :
    (State.landSetNow s set run e).trust.otp = s.trust.otp := by
  simp [State.landSetNow]

@[simp] theorem execPostLands_otp (p : Page) (i : Nat) (s : State) :
    (execPostLands p i s).burns s.trust.otp := by
  unfold execPostLands onPage onPart
  by_cases h : i < p.count <;> simp only [h, if_true, if_false]
  · split
    · simp
    · rw [Answer.burns_next]
      try dsimp only
      (repeat' split) <;> simp
  · simp

@[simp] theorem execSealedNegotiationStart_otp (port : Nat) (s : State) :
    (execSealedNegotiationStart port s).burns s.trust.otp := by
  simp [execSealedNegotiationStart]

@[simp] theorem State.confirmNeg_otp (s : State) (port : Nat) :
    (State.confirmNeg s port).trust.otp = s.trust.otp := by
  simp [State.confirmNeg]

@[simp] theorem State.refuseNeg_otp (s : State) (p : Nat) :
    (State.refuseNeg s p).trust.otp = s.trust.otp := by
  unfold State.refuseNeg; split <;> simp

@[simp] theorem execSealConfirm_otp (port : Nat) (s : State) :
    (execSealConfirm port s).burns s.trust.otp := by
  refine withPortTimer_otp _ _ _ fun s => ?_
  try dsimp only
  (repeat' split) <;> simp

/-! ### Grid -/

@[simp] theorem State.advanceGrid_otp (s : State) :
    (State.advanceGrid s).trust.otp = s.trust.otp := by
  simp [State.advanceGrid]

@[simp] theorem State.pulseSync_otp (s : State) :
    (State.pulseSync s).trust.otp = s.trust.otp := by
  simp [State.pulseSync]

@[simp] theorem State.expireNeg_otp (s : State) (p : Nat) :
    (State.expireNeg s p).trust.otp = s.trust.otp := by
  unfold State.expireNeg; split <;> simp

@[simp] theorem State.showSeal_otp (s : State) (p : Nat) :
    (State.showSeal s p).trust.otp = s.trust.otp := by
  unfold State.showSeal; split <;> simp

@[simp] theorem State.closeEmpty_otp (s : State) (p : Nat) :
    (State.closeEmpty s p).trust.otp = s.trust.otp := by
  unfold State.closeEmpty; split <;> simp

@[simp] theorem State.seedScramblers_otp (s : State) (p : Nat) :
    (State.seedScramblers s p).trust.otp = s.trust.otp := by
  simp [State.seedScramblers]

@[simp] theorem State.retryDrop_otp (s : State) (p : Nat) :
    (State.retryDrop s p).trust.otp = s.trust.otp := by
  unfold State.retryDrop; dsimp only; (repeat' split) <;> simp

@[simp] theorem State.retryMask_otp (s : State) (l : Nat) :
    (State.retryMask s l).trust.otp = s.trust.otp := by
  simp [State.retryMask]

@[simp] theorem State.repeatSegs_otp (s : State) (l : Nat) :
    (State.repeatSegs s l).trust.otp = s.trust.otp := by
  unfold State.repeatSegs; dsimp only; (repeat' split) <;> simp

@[simp] theorem State.portSuperframe_otp (s : State) (p : Nat) :
    (State.portSuperframe s p).trust.otp = s.trust.otp := by
  simp [State.portSuperframe]

@[simp] theorem State.snrCycle_otp (s : State) (l : Nat) :
    (State.snrCycle s l).trust.otp = s.trust.otp := by
  unfold State.snrCycle; (repeat' split) <;> simp

@[simp] theorem State.showResiduals_otp (s : State) (m : LineMeter) :
    (State.showResiduals s m).trust.otp = s.trust.otp := by
  unfold State.showResiduals; dsimp only; (repeat' split) <;> simp

@[simp] theorem State.meterLine_otp (s : State) (l : Nat) :
    (State.meterLine s l).trust.otp = s.trust.otp := by
  simp [State.meterLine]

@[simp] theorem State.remoteCycle_otp (s : State) (l : Nat) :
    (State.remoteCycle s l).trust.otp = s.trust.otp := by
  unfold State.remoteCycle; (repeat' split) <;> simp

@[simp] theorem State.retrainWord_otp (s : State) (l : Nat) :
    (State.retrainWord s l).trust.otp = s.trust.otp := by
  simp [State.retrainWord]

@[simp] theorem State.pilotBlock_otp (s : State) (l : Nat) :
    (State.pilotBlock s l).trust.otp = s.trust.otp := by
  simp [State.pilotBlock]

@[simp] theorem State.tailSuperframe_otp (s : State) (l : Nat) :
    (State.tailSuperframe s l).trust.otp = s.trust.otp := by
  simp [State.tailSuperframe]

@[simp] theorem State.lineSuperframe_otp (s : State) (l : Nat) :
    (State.lineSuperframe s l).trust.otp = s.trust.otp := by
  simp [State.lineSuperframe]

@[simp] theorem State.serveJoin_otp (s : State) :
    (State.serveJoin s).trust.otp = s.trust.otp := by
  simp [State.serveJoin]

@[simp] theorem State.rollFeedback_otp (s : State) :
    (State.rollFeedback s).trust.otp = s.trust.otp := by
  simp [State.rollFeedback]

@[simp] theorem execSuperframeStart_otp (s : State) :
    (execSuperframeStart s).burns s.trust.otp := by
  simp [execSuperframeStart]

@[simp] theorem State.rollCycle_otp (s : State) :
    (State.rollCycle s).trust.otp = s.trust.otp := by
  simp [State.rollCycle]

@[simp] theorem State.trainCycle_otp (s : State) (l : Nat) :
    (State.trainCycle s l).trust.otp = s.trust.otp := by
  simp [State.trainCycle]

@[simp] theorem execPilotCycleStart_otp (meters : List LineMeter) (s : State) :
    (execPilotCycleStart meters s).burns s.trust.otp := by
  simp [execPilotCycleStart]

/-! ### Live -/

@[simp] theorem State.freeze_otp (s : State) (p : Page) (i : Nat) :
    (State.freeze s p i).trust.otp = s.trust.otp := by
  simp [State.freeze]

@[simp] theorem State.thaw_otp (s : State) (p : Page) (i : Nat) :
    (State.thaw s p i).trust.otp = s.trust.otp := by
  simp [State.thaw]

@[simp] theorem State.latch_otp (s : State) (p : Page) (i : Nat) (off : Nat) :
    (State.latch s p i off).trust.otp = s.trust.otp := by
  simp [State.latch]

/-! ### Write -/

@[simp] theorem State.storeField_otp (s : State) (x : WordWrite) (e : Fld × Nat) :
    (State.storeField s x e).trust.otp = s.trust.otp := by
  unfold State.storeField; dsimp only; (repeat' split) <;> simp

@[simp] theorem State.storeWord_otp (s : State) (x : WordWrite) :
    (State.storeWord s x).trust.otp = s.trust.otp := by
  simp [State.storeWord]

@[simp] theorem State.resetFields_otp (s : State) (p : Page) (i : Nat) :
    (State.resetFields s p i).trust.otp = s.trust.otp := by
  simp [State.resetFields]

@[simp] theorem State.landResetValues_otp (s : State) (p : Page) (i : Nat) :
    (State.landResetValues s p i).trust.otp = s.trust.otp := by
  simp [State.landResetValues]

@[simp] theorem State.dropArmed_otp (s : State) (p : Page) (i : Nat) :
    (State.dropArmed s p i).trust.otp = s.trust.otp := by
  simp [State.dropArmed]

@[simp] theorem State.giveUpRequest_otp (s : State) (p : Page) (i : Nat) :
    (State.giveUpRequest s p i).trust.otp = s.trust.otp := by
  unfold State.giveUpRequest; dsimp only; (repeat' split) <;> simp

@[simp] theorem State.resetFunction_otp (s : State) (old : State) (p : Page) (i : Nat) :
    (State.resetFunction s old p i).trust.otp = s.trust.otp := by
  unfold State.resetFunction; split <;> simp

@[simp] theorem State.softReset_otp (s : State) (p : Page) (i : Nat) :
    (State.softReset s p i).trust.otp = s.trust.otp := by
  simp [State.softReset]

@[simp] theorem State.enableEffect_otp (s : State) (p : Page) (i : Nat) :
    (State.enableEffect s p i).trust.otp = s.trust.otp := by
  unfold State.enableEffect; split <;> simp

@[simp] theorem State.headerEffects_otp (s : State) (x : WordWrite) (act : List (Fld × Nat)) :
    (State.headerEffects s x act).trust.otp = s.trust.otp := by
  simp [State.headerEffects]

@[simp] theorem State.busLock_otp (s : State) (c : Nat) (release : Bool) (take : Bool) :
    (State.busLock s c release take).trust.otp = s.trust.otp := by
  simp [State.busLock]

@[simp] theorem State.lineEffects_otp (s : State) (x : WordWrite) (act : List (Fld × Nat)) :
    (State.lineEffects s x act).trust.otp = s.trust.otp := by
  unfold State.lineEffects; split <;> simp

/-! ### Parcel -/

@[simp] theorem State.runStaged_otp (s : State) (set : Pages) (locks : List (Page × Nat × Nat)) :
    (State.runStaged s set locks).trust.otp = s.trust.otp := by
  simp [State.runStaged]

/-! ### Letterbox -/

@[simp] theorem State.takeLease_otp (s : State) (c : Nat) :
    (State.takeLease s c).trust.otp = s.trust.otp := by
  simp [State.takeLease]

@[simp] theorem execLetterboxLeaseExpire_otp (ch : Channel) (s : State) :
    (execLetterboxLeaseExpire ch s).burns s.trust.otp := by
  simp [execLetterboxLeaseExpire]

@[simp] theorem State.fwBegin_otp (s : State) (c : Nat) (args : List Nat) :
    (State.fwBegin s c args).2.trust.otp = s.trust.otp := by
  unfold State.fwBegin; dsimp only; (repeat' split) <;> simp

@[simp] theorem State.fwChunk_otp (s : State) (c : Nat) (args : List Nat) :
    (State.fwChunk s c args).2.trust.otp = s.trust.otp := by
  unfold State.fwChunk; dsimp only; (repeat' split) <;> simp

@[simp] theorem State.fwCommit_otp (s : State) (c : Nat) :
    (State.fwCommit s c).2.trust.otp = s.trust.otp := by
  unfold State.fwCommit; dsimp only; (repeat' split) <;> simp

@[simp] theorem State.exportPart_otp (s : State) (c : Nat) :
    (State.exportPart s c).2.trust.otp = s.trust.otp := by
  unfold State.exportPart; dsimp only; (repeat' split) <;> simp

@[simp] theorem State.exportBegin_otp (s : State) (c : Nat) (args : List Nat) :
    (State.exportBegin s c args).2.trust.otp = s.trust.otp := by
  unfold State.exportBegin; dsimp only; (repeat' split) <;> simp

@[simp] theorem State.importChunk_otp (s : State) (c : Nat) (args : List Nat) :
    (State.importChunk s c args).2.trust.otp = s.trust.otp := by
  unfold State.importChunk; dsimp only; (repeat' split) <;> simp

@[simp] theorem State.attestSign_otp (s : State) (c : Nat) (args : List Nat) :
    (State.attestSign s c args).2.trust.otp = s.trust.otp := by
  unfold State.attestSign; dsimp only; (repeat' split) <;> simp

@[simp] theorem State.attest_otp (s : State) (c : Nat) (args : List Nat) :
    (State.attest s c args).2.trust.otp = s.trust.otp := by
  unfold State.attest; simp; (repeat' split) <;> simp_all

/-! ### Channels -/

@[simp] theorem State.recordRefusal_otp (s : State) (c : Nat) (code : Nat) (addr : Nat) (v : Verdict) :
    (State.recordRefusal s c code addr v).trust.otp = s.trust.otp := by
  simp [State.recordRefusal]

@[simp] theorem State.answered_otp (s : State) (c : Nat) (v : Verdict) (data : List Nat) :
    (State.answered s c v data).trust.otp = s.trust.otp := by
  simp [State.answered]

@[simp] theorem State.frameStart_otp (s : State) (c : Nat) :
    (State.frameStart s c).trust.otp = s.trust.otp := by
  simp [State.frameStart]

@[simp] theorem State.noteDenied_otp (s : State) (vs : List Verdict) :
    (State.noteDenied s vs).trust.otp = s.trust.otp := by
  simp [State.noteDenied]

@[simp] theorem State.noteAlign_otp (s : State) (on : Bool) :
    (State.noteAlign s on).trust.otp = s.trust.otp := by
  simp [State.noteAlign]

@[simp] theorem State.clearMspiFlags_otp (s : State) :
    (State.clearMspiFlags s).trust.otp = s.trust.otp := by
  simp [State.clearMspiFlags]

@[simp] theorem execMspiStatus_otp (s : State) :
    (execMspiStatus s).burns s.trust.otp := by
  simp [execMspiStatus]

@[simp] theorem execMspiChannelReset_otp (s : State) :
    (execMspiChannelReset s).burns s.trust.otp := by
  simp [execMspiChannelReset]

@[simp] theorem execMspiBadCommand_otp (_cmd : Nat) (s : State) :
    (execMspiBadCommand _cmd s).burns s.trust.otp := by
  simp [execMspiBadCommand]

@[simp] theorem State.mdioAdvance_otp (s : State) :
    (State.mdioAdvance s).trust.otp = s.trust.otp := by
  simp [State.mdioAdvance]

@[simp] theorem State.windowErrors_otp (s : State) :
    (State.windowErrors s).trust.otp = s.trust.otp := by
  simp [State.windowErrors]

@[simp] theorem withMdio_otp (prtad : Nat) (s : State) (f : Nat → State → State) (hf : ∀ x0 x1, (f x0 x1).trust.otp = x1.trust.otp) :
    (withMdio prtad s f).burns s.trust.otp := by
  unfold withMdio; split <;> simp [hf]

@[simp] theorem execMdioErrorRead_otp (prtad : Nat) (s : State) :
    (execMdioErrorRead prtad s).burns s.trust.otp := by
  simp [execMdioErrorRead]

@[simp] theorem State.mmdRegister_otp (s : State) (p : Nat) (mmd : Nat) (reg : Nat) (wr : Option Nat) :
    (State.mmdRegister s p mmd reg wr).trust.otp = s.trust.otp := by
  unfold State.mmdRegister; dsimp only; (repeat' split) <;> simp

/-! ### HostCommands -/

@[simp] theorem withPage_otp (p : Page) (i : Nat) (s : State) (f : State → State) (hf : ∀ x0, (f x0).trust.otp = x0.trust.otp) :
    (withPage p i s f).burns s.trust.otp := by
  simp [withPage, hf]

@[simp] theorem onEntry_otp (n : Nat) (i : Nat) (s : State) (f : State → State) (hf : ∀ x0, (f x0).trust.otp = x0.trust.otp) :
    (onEntry n i s f).burns s.trust.otp := by
  simp [onEntry, hf]

end Sys2Proof.Machine
end

