-- ==== Sys2Proof/Laws/FuseOrder.lean ====
section
/-! SUPPORT. Commands that burn fuses: they only go forward (R329, R330, R336). -/

namespace Sys2Proof.Machine

/-- The fuses of `t` are those of `s` or burnt further: the lifecycle and the SVN do not fall, and a revoked
slot stays revoked. -/
def FuseLe (s t : State) : Prop :=
  s.trust.lifecycle ≤ t.trust.lifecycle ∧ s.trust.svn ≤ t.trust.svn ∧
    ∀ i, (s.slot i).revoked = true → (t.slot i).revoked = true

theorem FuseLe.refl (s : State) : FuseLe s s := ⟨Nat.le_refl _, Nat.le_refl _, fun _ h => h⟩

theorem FuseLe.trans {s t u : State} (h : FuseLe s t) (k : FuseLe t u) : FuseLe s u :=
  ⟨Nat.le_trans h.1 k.1, Nat.le_trans h.2.1 k.2.1, fun i hi => k.2.2 i (h.2.2 i hi)⟩

theorem lifecycle_of_otp {s t : State} (h : t.trust.otp = s.trust.otp) : t.trust.lifecycle = s.trust.lifecycle :=
  congrArg Prod.fst h

theorem FuseLe.of_otp {s t : State} (h : t.trust.otp = s.trust.otp) : FuseLe s t := by
  simp only [TrustX.otp, Prod.mk.injEq] at h
  refine ⟨h.1.ge, h.2.1.ge, fun i hi => ?_⟩
  unfold State.slot
  rw [h.2.2]
  exact hi

theorem FuseLe.otp_trans {s t u : State} (h : t.trust.otp = s.trust.otp) (k : FuseLe t u) : FuseLe s u :=
  (FuseLe.of_otp h).trans k

theorem FuseLe.trans_otp {s t u : State} (h : FuseLe s t) (k : u.trust.otp = t.trust.otp) : FuseLe s u :=
  h.trans (FuseLe.of_otp k)

theorem foldl_fuses {β : Type} (f : State → β → State) (h : ∀ s b, FuseLe s (f s b)) (l : List β) (s : State) :
    FuseLe s (l.foldl f s) := by
  induction l generalizing s with
  | nil => exact FuseLe.refl s
  | cons b l ih => exact (h s b).trans (ih _)

theorem when_fuses {c : Prop} [Decidable c] {s : State} {f : State → State} (h : FuseLe s (f s)) :
    FuseLe s (if c then f s else s) := by
  split
  · exact h
  · exact FuseLe.refl s

/-- A write of one key slot that keeps its REVOKED fuse. -/
theorem FuseLe.setSlot (s : State) (i : Nat) (x : KeySlot) (b : Option (Nat × KeySlot))
    (h : (s.slot i).revoked = true → x.revoked = true) :
    FuseLe s (s.modTrust fun t => { t with slots := t.slots.set {} i x, burning := b }) := by
  refine ⟨Nat.le_refl _, Nat.le_refl _, fun j hj => ?_⟩
  unfold State.slot at hj h ⊢
  show (Store.get (s.trust.slots.set {} i x) {} j).revoked = true
  rw [Store.get_set]
  split
  · rename_i e
    exact h (e ▸ hj)
  · exact hj

@[simp] theorem State.clearKey_otp (s : State) : (State.clearKey s).trust.otp = s.trust.otp := by
  simp [State.clearKey]

theorem State.endBurn_fuses (s : State) : FuseLe s s.endBurn ∧ s.endBurn.trust.lifecycle = s.trust.lifecycle := by
  unfold State.endBurn
  split
  · rename_i i x _
    dsimp only
    have h := FuseLe.setSlot s i { x with revoked := (s.trust.slots.get {} i).revoked } none fun h => h
    have hl : (s.modTrust fun t => { t with
        slots := t.slots.set {} i { x with revoked := (s.trust.slots.get {} i).revoked },
        burning := none }).trust.lifecycle = s.trust.lifecycle := rfl
    refine ⟨FuseLe.trans_otp h ?_, (lifecycle_of_otp ?_).trans hl⟩
    all_goals
      rw [State.pulse_otp, State.clearKey_otp]
      rfl
  · exact ⟨FuseLe.refl s, rfl⟩

theorem State.program_fuses (s : State) (slot m u : Nat) :
    FuseLe s (s.program slot m u) ∧ (s.program slot m u).trust.lifecycle = s.trust.lifecycle := by
  unfold State.program
  exact ⟨s.endBurn_fuses.1.trans_otp (by simp), s.endBurn_fuses.2⟩

theorem State.revoke_fuses (s : State) (slot : Nat) :
    FuseLe s (s.revoke slot) ∧ (s.revoke slot).trust.lifecycle = s.trust.lifecycle := by
  unfold State.revoke
  dsimp only
  have h : FuseLe s (s.modTrust fun t =>
      { t with slots := t.slots.set {} slot { t.slots.get {} slot with revoked := true } }) :=
    FuseLe.setSlot s slot _ s.trust.burning fun _ => rfl
  have hl : (s.modTrust fun t =>
      { t with slots := t.slots.set {} slot { t.slots.get {} slot with revoked := true } }).trust.lifecycle =
      s.trust.lifecycle := rfl
  revert h hl
  generalize (s.modTrust fun t =>
      { t with slots := t.slots.set {} slot { t.slots.get {} slot with revoked := true } }) = u
  intro h hl
  have k : ((((List.range 3).foldl (fun s c =>
      if (s.session c).isOpen && (s.session c).slot == slot then s.closeSession c 3 else s) u).pulse .trust 0
        1).refreshAllPairing).trust.otp = u.trust.otp := by
    rw [State.refreshAllPairing_otp, State.pulse_otp]
    exact foldl_otp _ (fun s c => by simp) _ _
  exact ⟨h.trans_otp k, (lifecycle_of_otp k).trans hl⟩

theorem State.commitSvn_fuses (s : State) : FuseLe s s.commitSvn := by
  unfold State.commitSvn
  dsimp only
  refine FuseLe.trans_otp (t := s.modTrust fun t =>
    { t with svn := max s.trust.svn (imageSvn (s.image s.trust.running).source) })
    ⟨Nat.le_refl _, Nat.le_max_left _ _, fun _ h => h⟩ ?_
  rw [State.pulse_otp, State.pulse_otp]
  exact foldl_otp _ (fun s k => by simp) _ _

theorem State.advance_fuses (s : State) (n : Nat) (h : s.trust.lifecycle ≤ n) : FuseLe s (s.advance n) := by
  unfold State.advance
  dsimp only
  refine FuseLe.trans_otp (t := s.modTrust fun t => { t with lifecycle := n }) ⟨h, Nat.le_refl _, fun _ h => h⟩ ?_
  have hc : ∀ u : State, ((List.range 3).foldl (fun s c => s.closeSession c 4) u).trust.otp = u.trust.otp :=
    fun u => foldl_otp _ (fun s c => State.closeSession_otp s c 4) _ u
  rw [State.pulse_otp]
  split
  · rw [State.refreshAllPairing_otp, foldl_otp _ State.holdOff_otp, hc]
  · rw [hc]

theorem State.deviceEffects_fuses (s : State) (x : WordWrite) (act : List (Fld × Nat))
    (h : x.page = .trust → hits act TRUST.LIFECYCLE.ADVANCE = true → s.trust.lifecycle ≤ x.val TRUST.LIFECYCLE.TO) :
    FuseLe s (s.deviceEffects x act) := by
  unfold State.deviceEffects
  dsimp only
  split
  case h_11 =>
    split
    · refine FuseLe.trans ?_ (State.commitSvn_fuses _)
      exact FuseLe.of_otp (by split <;> simp)
    · exact FuseLe.of_otp (by split <;> simp)
  case h_12 hp =>
    have h1 : FuseLe s (if hits act TRUST.KEYPROG.PROGRAM then
        s.program (x.val TRUST.KEYPROG.SLOT) (x.val TRUST.KEYPROG.MAXROLE) (x.val TRUST.KEYPROG.USAGE) else s) ∧
        (if hits act TRUST.KEYPROG.PROGRAM then
        s.program (x.val TRUST.KEYPROG.SLOT) (x.val TRUST.KEYPROG.MAXROLE) (x.val TRUST.KEYPROG.USAGE)
          else s).trust.lifecycle = s.trust.lifecycle := by
      split
      · exact State.program_fuses _ _ _ _
      · exact ⟨FuseLe.refl s, rfl⟩
    revert h1
    generalize (if hits act TRUST.KEYPROG.PROGRAM then
        s.program (x.val TRUST.KEYPROG.SLOT) (x.val TRUST.KEYPROG.MAXROLE) (x.val TRUST.KEYPROG.USAGE) else s) = t
    intro h1
    have h2 : FuseLe t (if hits act TRUST.KEYPROG.REVOKE then t.revoke (x.val TRUST.KEYPROG.SLOT) else t) ∧
        (if hits act TRUST.KEYPROG.REVOKE then t.revoke (x.val TRUST.KEYPROG.SLOT) else t).trust.lifecycle =
          t.trust.lifecycle := by
      split
      · exact State.revoke_fuses _ _
      · exact ⟨FuseLe.refl t, rfl⟩
    revert h2
    generalize (if hits act TRUST.KEYPROG.REVOKE then t.revoke (x.val TRUST.KEYPROG.SLOT) else t) = u
    intro h2
    refine (h1.1.trans h2.1).trans ?_
    split
    · rename_i ha
      refine State.advance_fuses _ _ ?_
      rw [h2.2, h1.2]
      exact h hp ha
    · exact FuseLe.refl u
  case h_10 =>
    exact FuseLe.of_otp (by
      simp only [List.head?_filter]
      cases List.find? (fun e => decide (e.1.off = 256)) act <;> simp)
  all_goals exact FuseLe.of_otp (by simp)

theorem State.applyWord_fuses (s : State) (x : WordWrite) (h : s.refuses x (s.acted x) = false) :
    FuseLe s (s.applyWord x) := by
  unfold State.applyWord
  dsimp only
  have h0 : (s.storeWord x).trust.otp = s.trust.otp := State.storeWord_otp s x
  split
  · exact FuseLe.of_otp (by simp)
  · split
    · refine FuseLe.otp_trans h0 (State.deviceEffects_fuses _ _ _ fun hp ha => ?_)
      have hl : (s.storeWord x).trust.lifecycle = s.trust.lifecycle := congrArg Prod.fst h0
      rw [hl]
      simp only [State.refuses, State.deviceRefuses, Bool.or_eq_false_iff] at h
      have hd := h.1.2
      simp only [hp, ha, Bool.true_and, Bool.or_eq_false_iff, State.advanceRefused] at hd
      have := hd.1.1.1.1
      simp only [bne_eq_false_iff_eq] at this
      exact this ▸ Nat.le_succ _
    · exact FuseLe.of_otp (by simp)

theorem State.startDiag_fuses (s : State) (c : Nat) (args : List Nat) : FuseLe s (s.startDiag c args) := by
  unfold State.startDiag
  split
  · dsimp only
    split
    · exact FuseLe.refl s
    · split
      · exact FuseLe.of_otp (by simp)
      · rename_i h
        simp only [Bool.or_eq_true, not_or, Bool.not_eq_true] at h
        exact State.applyWord_fuses _ _ h.2
  · exact FuseLe.refl s

theorem State.serveNext_fuses (s : State) : FuseLe s s.serveNext := by
  unfold State.serveNext
  dsimp only
  split
  · split
    · exact FuseLe.refl s
    · split
      · exact FuseLe.otp_trans (by simp) (State.startDiag_fuses _ _ _)
      · exact FuseLe.of_otp (by simp)
  · exact FuseLe.refl s

theorem State.ring_fuses (s : State) (c : Nat) : FuseLe s (s.ring c) := by
  unfold State.ring
  dsimp only
  refine FuseLe.otp_trans (t := s.modMgmt fun m => { m with lbLease := none }) (by simp) ?_
  generalize (s.modMgmt fun m => { m with lbLease := none }) = u
  split
  all_goals
    split
    · exact FuseLe.of_otp (by simp)
    · exact FuseLe.otp_trans (by simp) (State.serveNext_fuses _)

theorem State.writeWord_fuses (s : State) (x : WordWrite) : FuseLe s (s.writeWord x).2 := by
  unfold State.writeWord
  dsimp only
  split; exact FuseLe.refl s
  split; exact FuseLe.of_otp (by simp)
  split; exact FuseLe.refl s
  split; exact FuseLe.refl s
  split
  · dsimp only
    split
    · exact FuseLe.of_otp (by simp)
    · exact FuseLe.refl s
  rename_i h
  have h1 : FuseLe s (if x.page = .letterbox ∧ x.off = 0x040 then (s.applyWord x).takeLease x.ch
      else s.applyWord x) := by
    have := State.applyWord_fuses s x (by simpa using h)
    split
    · exact this.trans_otp (by simp)
    · exact this
  split
  · exact h1.trans (State.ring_fuses _ _)
  · exact h1

theorem State.accessPage_fuses (s : State) (c addr : Nat) (w : Option Nat) :
    FuseLe s (s.accessPage c addr w).state := by
  unfold State.accessPage
  split
  · exact FuseLe.refl s
  · split
    · exact FuseLe.refl s
    · split
      · exact State.writeWord_fuses _ _
      · split
        · exact FuseLe.of_otp (by simp)
        · exact FuseLe.refl s

theorem State.access_fuses (s : State) (c addr width code : Nat) (w : Option Nat) :
    FuseLe s (s.access c addr width code w).state := by
  unfold State.access
  split
  · exact FuseLe.of_otp (by simp)
  · dsimp only
    (repeat' split) <;> refine FuseLe.trans_otp ?_ (State.recordRefusal_otp _ _ _ _ _)
    all_goals first | exact FuseLe.refl s | exact State.accessPage_fuses _ _ _ _

theorem State.burst_fuses (c width code : Nat) (es : List (Nat × Option Nat)) (s : State) :
    FuseLe s (s.burst c width code es).2.2 := by
  induction es generalizing s with
  | nil => exact FuseLe.refl s
  | cons e es ih => exact (State.access_fuses s c e.1 width code e.2).trans (ih _)

theorem State.serveInband_fuses (s : State) (r : InbandReq) : FuseLe s (s.serveInband r) := by
  unfold State.serveInband
  split
  · exact FuseLe.of_otp (by simp)
  · exact (State.burst_fuses 1 _ _ r.words s).trans_otp (State.respond_otp _ _ _ _)

theorem State.drainInband_fuses (s : State) : FuseLe s s.drainInband := by
  unfold State.drainInband
  split
  · exact FuseLe.refl s
  · exact FuseLe.otp_trans (by simp) (foldl_fuses _ State.serveInband_fuses _ _)

theorem State.askInband_fuses (s : State) (r : InbandReq) : FuseLe s (s.askInband r) := by
  unfold State.askInband
  split
  · exact FuseLe.refl s
  · split
    · exact FuseLe.of_otp (by simp)
    · exact FuseLe.otp_trans (by simp) (State.drainInband_fuses _)

theorem State.hostWrite_fuses (s : State) (ch : Channel) (addr width w : Nat) :
    FuseLe s (s.hostWrite ch addr width w) := by
  unfold State.hostWrite
  dsimp only
  split
  · exact State.askInband_fuses _ _
  · exact (((FuseLe.of_otp (State.frameStart_otp s _)).trans (State.access_fuses _ _ _ _ _ _)).trans_otp
      (State.answered_otp _ _ _ _)).trans (State.drainInband_fuses _)

theorem State.hostRead_fuses (s : State) (ch : Channel) (addr : Nat) : FuseLe s (s.hostRead ch addr) := by
  unfold State.hostRead
  dsimp only
  split
  · exact State.askInband_fuses _ _
  · exact ((FuseLe.of_otp (State.frameStart_otp s _)).trans (State.access_fuses _ _ _ _ _ _)).trans_otp
      (State.answered_otp _ _ _ _)

theorem State.trigger_fuses (s : State) (ch : Channel) (F : Fld) (i j : Nat) (w : Word) :
    FuseLe s (s.trigger ch F i j w) := State.hostWrite_fuses _ _ _ _ _

theorem State.writeAt_fuses (s : State) (ch : Channel) (F : Fld) (i j w : Nat) :
    FuseLe s (s.writeAt ch F i j w) := State.hostWrite_fuses _ _ _ _ _

theorem State.ringOpcode_fuses (s : State) (ch : Channel) (op : Nat) (fn : Option Nat) :
    FuseLe s (s.ringOpcode ch op fn) := by
  unfold State.ringOpcode
  dsimp only
  split
  · exact State.trigger_fuses _ _ _ _ _ _
  · exact FuseLe.refl s

theorem State.windowRead_fuses (s : State) (late : Bool) : FuseLe s (s.windowRead late) := by
  unfold State.windowRead
  dsimp only
  have h := State.access_fuses s 2 s.mgmt.mdioAddr 4 1 none
  split <;> exact h.trans_otp (by simp)

theorem State.windowWrite_fuses (s : State) (hi : Nat) : FuseLe s (s.windowWrite hi) := by
  unfold State.windowWrite
  dsimp only
  have h := State.access_fuses s 2 s.mgmt.mdioAddr 4 2 (some (hi * 2 ^ 16 + s.mgmt.mdioHold))
  split
  · exact h.trans_otp (State.answered_otp _ _ _ _)
  · exact (h.trans_otp (by rw [State.mdioAdvance_otp, State.answered_otp])).trans (State.drainInband_fuses _)

theorem State.windowAccess_fuses (s : State) (reg : Nat) (wr : Option Nat) : FuseLe s (s.windowAccess reg wr) := by
  unfold State.windowAccess
  dsimp only
  split <;> first
    | exact State.windowRead_fuses _ _
    | exact State.windowWrite_fuses _ _
    | exact FuseLe.of_otp (by simp)

/-- A parcel entry never burns a fuse: no field of TRUST that burns one is in a parcel (R355, R356). -/
theorem State.applyEntry_fuses (own cal : Bool) (s : State) (e : Nat × Nat) : FuseLe s (s.applyEntry own cal e) := by
  unfold State.applyEntry
  split
  · rename_i p i off _
    dsimp only
    have h0 : ∀ (l : List (Fld × Nat)) (x : WordWrite) (s : State), (l.foldl (fun s f =>
        if f.1.acc = .ro then (if own then s.wr f.1 (x.val f.1) i f.2 else s) else s.storeField x f) s).trust.otp =
        s.trust.otp := fun l x s => foldl_otp _ (fun s f => by simp) l s
    split
    · exact FuseLe.of_otp (by rw [State.headerEffects_otp, h0])
    · split
      · refine FuseLe.otp_trans (h0 _ _ s) (State.deviceEffects_fuses _ _ _ fun hp ha => ?_)
        exfalso
        simp only [hits, List.any_eq_true, List.mem_filter, parcelFields, decide_eq_true_eq] at ha
        obtain ⟨⟨F, j⟩, ⟨⟨⟨_, hm⟩, _⟩, _⟩, rfl⟩ := ha
        have : inParcel TRUST.LIFECYCLE.ADVANCE = false ∧ calFields.contains TRUST.LIFECYCLE.ADVANCE = false := by
          decide
        rw [this.1, this.2] at hm
        simp at hm
      · exact FuseLe.of_otp (by rw [State.lineEffects_otp, h0])
  · exact FuseLe.refl s

theorem State.applyParcel_fuses (s : State) (ws : List Nat) : FuseLe s (s.applyParcel ws) := by
  unfold State.applyParcel
  dsimp only
  have h := foldl_fuses _ (State.applyEntry_fuses (field (wordsBytes ws) 8 8 == Config.deviceId % 2 ^ 64)
    (parcelCal ws)) (entriesOf ws) s
  refine h.trans_otp ?_
  exact State.runStaged_otp _ _ _

theorem State.applyBootParcel_fuses (s : State) : FuseLe s s.applyBootParcel := by
  unfold State.applyBootParcel
  dsimp only
  split
  · exact FuseLe.refl s
  · split
    · exact State.applyParcel_fuses _ _
    · exact FuseLe.of_otp (by simp)

theorem State.importCommit_fuses (s : State) (c : Nat) (args : List Nat) : FuseLe s (s.importCommit c args).2 := by
  unfold State.importCommit
  split
  · rename_i t _
    dsimp only
    split; exact FuseLe.refl s
    split; exact FuseLe.refl s
    split; exact FuseLe.refl s
    have h : FuseLe s (if bit (args.getD 0 0) 1 then (s.modTrust fun x =>
        { x with imports := x.imports.put c none }).applyParcel t.words else s.modTrust fun x =>
        { x with imports := x.imports.put c none }) := by
      split
      · exact FuseLe.otp_trans (by simp) (State.applyParcel_fuses _ _)
      · exact FuseLe.of_otp (by simp)
    split
    · exact h.trans_otp (by simp)
    · exact h
  · exact FuseLe.refl s

theorem State.runCommand_fuses (s : State) (x : LbCommand) : FuseLe s (s.runCommand x).2 := by
  unfold State.runCommand
  split
  · exact FuseLe.refl s
  · split
    · exact FuseLe.refl s
    · split <;> first
        | exact State.importCommit_fuses _ _ _
        | exact FuseLe.of_otp (by simp)

/-- The next state of an answer, where there is one, has the fuses of `s` or further. -/
def Answer.fuses (a : Answer) (s : State) : Prop := ∀ t, a = .next t → FuseLe s t

theorem Answer.fuses_next {s t : State} (h : FuseLe s t) : Answer.fuses (.next t) s := by
  intro u e
  cases e
  exact h

theorem Answer.fuses_fault (r : Fault) (s : State) : Answer.fuses (.fault r) s := by
  intro u e
  cases e

theorem Answer.fuses_of_burns {a : Answer} {s : State} (h : a.burns s.trust.otp) : Answer.fuses a s :=
  fun t e => FuseLe.of_otp (h t e)

theorem withLine_fuses {l : Nat} {s : State} {f : State → State} (h : FuseLe s (f s)) :
    Answer.fuses (withLine l s f) s := by
  unfold withLine onLine onPart
  by_cases hl : l < 128 <;> simp only [hl, if_true, if_false]
  · exact Answer.fuses_next h
  · exact Answer.fuses_fault _ _

theorem withPort_fuses {p : Nat} {s : State} {f : State → State} (h : FuseLe s (f s)) :
    Answer.fuses (withPort p s f) s := by
  unfold withPort onPort onPart
  by_cases hl : p < 128 <;> simp only [hl, if_true, if_false]
  · exact Answer.fuses_next h
  · exact Answer.fuses_fault _ _

theorem withLane_fuses {l : Nat} {s : State} {f : State → State} (h : FuseLe s (f s)) :
    Answer.fuses (withLane l s f) s := by
  unfold withLane onLane onPart
  by_cases hl : l < 32 <;> simp only [hl, if_true, if_false]
  · exact Answer.fuses_next h
  · exact Answer.fuses_fault _ _

theorem withPage_fuses {p : Page} {i : Nat} {s : State} {f : State → State} (h : FuseLe s (f s)) :
    Answer.fuses (withPage p i s f) s := by
  unfold withPage
  split
  · exact Answer.fuses_next h
  · exact Answer.fuses_fault _ _

theorem onEntry_fuses {n i : Nat} {s : State} {f : State → State} (h : FuseLe s (f s)) :
    Answer.fuses (onEntry n i s f) s := by
  unfold onEntry
  split
  · exact Answer.fuses_next h
  · exact Answer.fuses_fault _ _

theorem withMdio_fuses {p : Nat} {s : State} {f : Nat → State → State} (h : ∀ q, FuseLe s (f q s)) :
    Answer.fuses (withMdio p s f) s := by
  unfold withMdio
  split
  · exact Answer.fuses_next (h _)
  · exact Answer.fuses_next (FuseLe.refl s)

@[simp] theorem execMspiWrite_fuses (addr : Nat) (ws : List Word) (cut : Bool) (s : State) :
    (execMspiWrite addr ws cut s).fuses s := by
  refine Answer.fuses_next (FuseLe.trans ?_ (State.drainInband_fuses _))
  refine (FuseLe.otp_trans (State.frameStart_otp s 0) (State.burst_fuses 0 4 (accessCode true (decide (1 < ws.length)))
    ((List.range ws.length).map fun j => (burstAddr addr j, some (ws.getD j 0).toNat)) _)).trans_otp ?_
  rw [State.noteAlign_otp, State.noteDenied_otp, State.answered_otp]

@[simp] theorem execMspiRead_fuses (addr n : Nat) (late : Bool) (s : State) : (execMspiRead addr n late s).fuses s := by
  refine Answer.fuses_next ?_
  refine (FuseLe.otp_trans (State.frameStart_otp s 0) (State.burst_fuses 0 4 (accessCode false (decide (1 < n)))
    ((List.range n).map fun j => (burstAddr addr j, none)) _)).trans_otp ?_
  split <;> simp

@[simp] theorem execMmdAccess_fuses (p mmd reg : Nat) (wr : Option Nat) (s : State) : (execMmdAccess p mmd reg wr s).fuses s := by
  refine withMdio_fuses fun q => ?_
  split
  · exact FuseLe.of_otp (by simp)
  · split
    · exact State.windowAccess_fuses _ _ _
    · exact FuseLe.of_otp (by simp)

@[simp] theorem execIdentReady_fuses (s : State) : (execIdentReady s).fuses s := by
  unfold execIdentReady
  split
  · exact Answer.fuses_next ((State.applyBootParcel_fuses s).trans_otp (by simp))
  · exact Answer.fuses_next (FuseLe.refl s)

@[simp] theorem execLetterboxDone_fuses (ch : Channel) (s : State) : (execLetterboxDone ch s).fuses s := by
  have h0 : FuseLe s (if s.stokerRuns then s.serveNext else s) := by
    split
    · exact State.serveNext_fuses s
    · exact FuseLe.refl s
  unfold execLetterboxDone
  revert h0
  generalize (if s.stokerRuns then s.serveNext else s) = u
  intro h0
  dsimp only
  split
  · exact Answer.fuses_next h0
  · rename_i x _ _
    split
    · exact Answer.fuses_next h0
    · refine Answer.fuses_next (h0.trans (FuseLe.trans ?_ (State.serveNext_fuses _)))
      split <;> exact (State.runCommand_fuses u x).trans_otp (by simp)

@[simp] theorem execEvtPendClear_fuses (ch : Channel) (p : Page) (i : Nat) (w hw : Word) (s : State) :
    (execEvtPendClear ch p i w hw s).fuses s := by
  refine withPage_fuses ?_
  dsimp only
  split
  · exact (State.writeAt_fuses _ _ _ _ _ _).trans_otp (State.edges_otp _ _ _ _)
  · exact State.writeAt_fuses _ _ _ _ _ _

@[simp] theorem execEvtInject_fuses (ch : Channel) (p : Page) (i : Nat) (w hw : Word) (s : State) :
    (execEvtInject ch p i w hw s).fuses s := by
  refine withPage_fuses ?_
  dsimp only
  split
  · exact (State.writeAt_fuses _ _ _ _ _ _).trans_otp (State.edges_otp _ _ _ _)
  · exact State.writeAt_fuses _ _ _ _ _ _

@[simp] theorem execLeaseRevoke_fuses (m r a d : Nat) (s : State) : (execLeaseRevoke m r a d s).fuses s :=
  Answer.fuses_next (FuseLe.otp_trans (State.revokeLease_otp _ _ _ _ _) (State.drainInband_fuses _))

@[simp] theorem execSessionIdleTimeout_fuses (ch : Channel) (s : State) : (execSessionIdleTimeout ch s).fuses s := by
  unfold execSessionIdleTimeout
  split
  · exact Answer.fuses_next (FuseLe.refl s)
  · exact Answer.fuses_next (FuseLe.otp_trans (State.closeSession_otp _ _ _) (State.drainInband_fuses _))

@[simp] theorem execBankTapWrite_fuses (ch : Channel) (l b i : Nat) (w : Word) (s : State) :
    (execBankTapWrite ch l b i w s).fuses s := by
  unfold execBankTapWrite
  dsimp only
  by_cases h : i < (if b = 0 then LMON.BANKA.TAP else LMON.BANKB.TAP).cnt <;> simp only [h, if_true, if_false]
  · exact withLine_fuses (State.writeAt_fuses _ _ _ _ _ _)
  · exact Answer.fuses_fault _ _

@[simp] theorem execSaInstall_fuses (ch : Channel) (p sa : Nat) (w : Word) (s : State) : (execSaInstall ch p sa w s).fuses s := by
  unfold execSaInstall
  split
  · exact withPort_fuses (State.trigger_fuses _ _ _ _ _ _)
  · exact Answer.fuses_fault _ _

@[simp] theorem execKeyBurnDone_fuses (s : State) : Answer.fuses (execKeyBurnDone s) s := by
  intro t h
  unfold execKeyBurnDone at h
  injection h with h
  subst h
  exact s.endBurn_fuses.1.trans_otp (State.refreshAllPairing_otp _)

@[simp] theorem execSymbolTx_fuses (n : Nat) (events : List TimedMessage) (s : State) : Answer.fuses (execSymbolTx n events s) s :=
  Answer.fuses_of_burns (execSymbolTx_otp n events s)

@[simp] theorem execSymbolRx_fuses (n : Nat) (ys : List LineSamples) (missing : List Nat) (wakes : List Nat) (trains : List Nat) (events : List TimedMessage) (s : State) : Answer.fuses (execSymbolRx n ys missing wakes trains events s) s :=
  Answer.fuses_of_burns (execSymbolRx_otp n ys missing wakes trains events s)

@[simp] theorem execDtuBufferExpire_fuses (p : Nat) (seq : Nat) (s : State) : Answer.fuses (execDtuBufferExpire p seq s) s :=
  Answer.fuses_of_burns (execDtuBufferExpire_otp p seq s)

@[simp] theorem execDtuGiveUp_fuses (p : Nat) (s : State) : Answer.fuses (execDtuGiveUp p s) s :=
  Answer.fuses_of_burns (execDtuGiveUp_otp p s)

@[simp] theorem execBeaconErasureEnd_fuses (tag : Nat) (s : State) : Answer.fuses (execBeaconErasureEnd tag s) s :=
  Answer.fuses_of_burns (execBeaconErasureEnd_otp tag s)

@[simp] theorem execDeltaAverage_fuses (l : Nat) (sum : Int) (s : State) : Answer.fuses (execDeltaAverage l sum s) s :=
  Answer.fuses_of_burns (execDeltaAverage_otp l sum s)

@[simp] theorem execTaAdjust_fuses (l : Nat) (s : State) : Answer.fuses (execTaAdjust l s) s :=
  Answer.fuses_of_burns (execTaAdjust_otp l s)

@[simp] theorem execArrivalOutOfBand_fuses (l : Nat) (s : State) : Answer.fuses (execArrivalOutOfBand l s) s :=
  Answer.fuses_of_burns (execArrivalOutOfBand_otp l s)

@[simp] theorem execOverheadWordRx_fuses (l : Nat) (n : Nat) (w : Word) (s : State) : Answer.fuses (execOverheadWordRx l n w s) s :=
  Answer.fuses_of_burns (execOverheadWordRx_otp l n w s)

@[simp] theorem execSealMessageRx_fuses (p : Nat) (m : List Nat) (s : State) : Answer.fuses (execSealMessageRx p m s) s :=
  Answer.fuses_of_burns (execSealMessageRx_otp p m s)

@[simp] theorem execLoadMessageRx_fuses (l : Nat) (m : List Nat) (s : State) : Answer.fuses (execLoadMessageRx l m s) s :=
  Answer.fuses_of_burns (execLoadMessageRx_otp l m s)

@[simp] theorem execTimingMessageRx_fuses (l : Nat) (corr : Nat) (s : State) : Answer.fuses (execTimingMessageRx l corr s) s :=
  Answer.fuses_of_burns (execTimingMessageRx_otp l corr s)

@[simp] theorem execFxuLanding_fuses (s : State) : Answer.fuses (execFxuLanding s) s :=
  Answer.fuses_of_burns (execFxuLanding_otp s)

@[simp] theorem execPrdLanding_fuses (s : State) : Answer.fuses (execPrdLanding s) s :=
  Answer.fuses_of_burns (execPrdLanding_otp s)

@[simp] theorem execJoinStart_fuses (s : State) : Answer.fuses (execJoinStart s) s :=
  Answer.fuses_of_burns (execJoinStart_otp s)

@[simp] theorem execJoinNxtWrite_fuses (s : State) : Answer.fuses (execJoinNxtWrite s) s :=
  Answer.fuses_of_burns (execJoinNxtWrite_otp s)

@[simp] theorem execJoinPilotActive_fuses (s : State) : Answer.fuses (execJoinPilotActive s) s :=
  Answer.fuses_of_burns (execJoinPilotActive_otp s)

@[simp] theorem execJoinCoefWrite_fuses (s : State) : Answer.fuses (execJoinCoefWrite s) s :=
  Answer.fuses_of_burns (execJoinCoefWrite_otp s)

@[simp] theorem execJoinLanded_fuses (s : State) : Answer.fuses (execJoinLanded s) s :=
  Answer.fuses_of_burns (execJoinLanded_otp s)

@[simp] theorem execWritePortGrant_fuses (s : State) : Answer.fuses (execWritePortGrant s) s :=
  Answer.fuses_of_burns (execWritePortGrant_otp s)

@[simp] theorem execXengineDmaClear_fuses (l : Nat) (s : State) : Answer.fuses (execXengineDmaClear l s) s :=
  Answer.fuses_of_burns (execXengineDmaClear_otp l s)

@[simp] theorem execDeadLineInactive_fuses (l : Nat) (s : State) : Answer.fuses (execDeadLineInactive l s) s :=
  Answer.fuses_of_burns (execDeadLineInactive_otp l s)

@[simp] theorem execScrubStep_fuses (errors : List (Nat × Nat × Bool)) (s : State) : Answer.fuses (execScrubStep errors s) s :=
  Answer.fuses_of_burns (execScrubStep_otp errors s)

@[simp] theorem execNxtUeRecoveryEnd_fuses (l : Nat) (k : Nat) (s : State) : Answer.fuses (execNxtUeRecoveryEnd l k s) s :=
  Answer.fuses_of_burns (execNxtUeRecoveryEnd_otp l k s)

@[simp] theorem execHoldExpired_fuses (s : State) : Answer.fuses (execHoldExpired s) s :=
  Answer.fuses_of_burns (execHoldExpired_otp s)

@[simp] theorem execCensusDone_fuses (s : State) : Answer.fuses (execCensusDone s) s :=
  Answer.fuses_of_burns (execCensusDone_otp s)

@[simp] theorem execXwindowLand_fuses (elapsed : Nat) (bad : List (Nat × Bool)) (s : State) : Answer.fuses (execXwindowLand elapsed bad s) s :=
  Answer.fuses_of_burns (execXwindowLand_otp elapsed bad s)

@[simp] theorem execLineEnable_fuses (l : Nat) (s : State) : Answer.fuses (execLineEnable l s) s :=
  Answer.fuses_of_burns (execLineEnable_otp l s)

@[simp] theorem execBeaconSlot_fuses (l : Nat) (s : State) : Answer.fuses (execBeaconSlot l s) s :=
  Answer.fuses_of_burns (execBeaconSlot_otp l s)

@[simp] theorem execBeaconRx_fuses (l : Nat) (m : List Nat) (s : State) : Answer.fuses (execBeaconRx l m s) s :=
  Answer.fuses_of_burns (execBeaconRx_otp l m s)

@[simp] theorem execAnswerRx_fuses (l : Nat) (m : List Nat) (rtt : Nat) (s : State) : Answer.fuses (execAnswerRx l m rtt s) s :=
  Answer.fuses_of_burns (execAnswerRx_otp l m rtt s)

@[simp] theorem execNoanswerTimeout_fuses (l : Nat) (s : State) : Answer.fuses (execNoanswerTimeout l s) s :=
  Answer.fuses_of_burns (execNoanswerTimeout_otp l s)

@[simp] theorem execQuietHoldExpire_fuses (l : Nat) (s : State) : Answer.fuses (execQuietHoldExpire l s) s :=
  Answer.fuses_of_burns (execQuietHoldExpire_otp l s)

@[simp] theorem execOfferRx_fuses (l : Nat) (m : List Nat) (s : State) : Answer.fuses (execOfferRx l m s) s :=
  Answer.fuses_of_burns (execOfferRx_otp l m s)

@[simp] theorem execOfferRepeat_fuses (l : Nat) (s : State) : Answer.fuses (execOfferRepeat l s) s :=
  Answer.fuses_of_burns (execOfferRepeat_otp l s)

@[simp] theorem execAcceptRx_fuses (l : Nat) (m : List Nat) (s : State) : Answer.fuses (execAcceptRx l m s) s :=
  Answer.fuses_of_burns (execAcceptRx_otp l m s)

@[simp] theorem execGoRx_fuses (l : Nat) (m : List Nat) (s : State) : Answer.fuses (execGoRx l m s) s :=
  Answer.fuses_of_burns (execGoRx_otp l m s)

@[simp] theorem execAbortRx_fuses (l : Nat) (m : List Nat) (s : State) : Answer.fuses (execAbortRx l m s) s :=
  Answer.fuses_of_burns (execAbortRx_otp l m s)

@[simp] theorem execHandshakeTimeout_fuses (l : Nat) (s : State) : Answer.fuses (execHandshakeTimeout l s) s :=
  Answer.fuses_of_burns (execHandshakeTimeout_otp l s)

@[simp] theorem execRangingBlockEnd_fuses (l : Nat) (found : Nat) (avg : Int) (late : Bool) (s : State) : Answer.fuses (execRangingBlockEnd l found avg late s) s :=
  Answer.fuses_of_burns (execRangingBlockEnd_otp l found avg late s)

@[simp] theorem execRangingDecisionTimeout_fuses (l : Nat) (s : State) : Answer.fuses (execRangingDecisionTimeout l s) s :=
  Answer.fuses_of_burns (execRangingDecisionTimeout_otp l s)

@[simp] theorem execPilotWordRx_fuses (l : Nat) (word : Nat) (s : State) : Answer.fuses (execPilotWordRx l word s) s :=
  Answer.fuses_of_burns (execPilotWordRx_otp l word s)

@[simp] theorem execTailRangingTimeout_fuses (l : Nat) (s : State) : Answer.fuses (execTailRangingTimeout l s) s :=
  Answer.fuses_of_burns (execTailRangingTimeout_otp l s)

@[simp] theorem execTailJoinDetect_fuses (l : Nat) (s : State) : Answer.fuses (execTailJoinDetect l s) s :=
  Answer.fuses_of_burns (execTailJoinDetect_otp l s)

@[simp] theorem execJoinwaitTimeout_fuses (l : Nat) (s : State) : Answer.fuses (execJoinwaitTimeout l s) s :=
  Answer.fuses_of_burns (execJoinwaitTimeout_otp l s)

@[simp] theorem execTrainingStep_fuses (l : Nat) (s : State) : Answer.fuses (execTrainingStep l s) s :=
  Answer.fuses_of_burns (execTrainingStep_otp l s)

@[simp] theorem execTrainingEnd_fuses (l : Nat) (s : State) : Answer.fuses (execTrainingEnd l s) s :=
  Answer.fuses_of_burns (execTrainingEnd_otp l s)

@[simp] theorem execTrainTimeout_fuses (l : Nat) (s : State) : Answer.fuses (execTrainTimeout l s) s :=
  Answer.fuses_of_burns (execTrainTimeout_otp l s)

@[simp] theorem execLoadingTimeout_fuses (l : Nat) (s : State) : Answer.fuses (execLoadingTimeout l s) s :=
  Answer.fuses_of_burns (execLoadingTimeout_otp l s)

@[simp] theorem execOverheadLoss_fuses (l : Nat) (s : State) : Answer.fuses (execOverheadLoss l s) s :=
  Answer.fuses_of_burns (execOverheadLoss_otp l s)

@[simp] theorem execPortDropTimeout_fuses (p : Nat) (s : State) : Answer.fuses (execPortDropTimeout p s) s :=
  Answer.fuses_of_burns (execPortDropTimeout_otp p s)

@[simp] theorem execRetrainRejoin_fuses (l : Nat) (avg : Int) (s : State) : Answer.fuses (execRetrainRejoin l avg s) s :=
  Answer.fuses_of_burns (execRetrainRejoin_otp l avg s)

@[simp] theorem execRetrainLoadSend_fuses (l : Nat) (s : State) : Answer.fuses (execRetrainLoadSend l s) s :=
  Answer.fuses_of_burns (execRetrainLoadSend_otp l s)

@[simp] theorem execRetrainEntryPropose_fuses (p : Nat) (s : State) : Answer.fuses (execRetrainEntryPropose p s) s :=
  Answer.fuses_of_burns (execRetrainEntryPropose_otp p s)

@[simp] theorem execRetrainAttemptTimeout_fuses (l : Nat) (s : State) : Answer.fuses (execRetrainAttemptTimeout l s) s :=
  Answer.fuses_of_burns (execRetrainAttemptTimeout_otp l s)

@[simp] theorem execRetrainGiveUp_fuses (l : Nat) (s : State) : Answer.fuses (execRetrainGiveUp l s) s :=
  Answer.fuses_of_burns (execRetrainGiveUp_otp l s)

@[simp] theorem execLosDetect_fuses (l : Nat) (s : State) : Answer.fuses (execLosDetect l s) s :=
  Answer.fuses_of_burns (execLosDetect_otp l s)

@[simp] theorem execAutobankExpire_fuses (p : Nat) (s : State) : Answer.fuses (execAutobankExpire p s) s :=
  Answer.fuses_of_burns (execAutobankExpire_otp p s)

@[simp] theorem execWakeNoResponse_fuses (p : Nat) (s : State) : Answer.fuses (execWakeNoResponse p s) s :=
  Answer.fuses_of_burns (execWakeNoResponse_otp p s)

@[simp] theorem execWakeResume_fuses (p : Nat) (s : State) : Answer.fuses (execWakeResume p s) s :=
  Answer.fuses_of_burns (execWakeResume_otp p s)

@[simp] theorem execSyncResetLand_fuses (l elapsed : Nat) (s : State) : Answer.fuses (execSyncResetLand l elapsed s) s :=
  Answer.fuses_of_burns (execSyncResetLand_otp l elapsed s)

@[simp] theorem execMonitorSettled_fuses (l : Nat) (adc : List Int) (s : State) : Answer.fuses (execMonitorSettled l adc s) s :=
  Answer.fuses_of_burns (execMonitorSettled_otp l adc s)

@[simp] theorem execFadeDone_fuses (l : Nat) (adc : List Int) (s : State) : Answer.fuses (execFadeDone l adc s) s :=
  Answer.fuses_of_burns (execFadeDone_otp l adc s)

@[simp] theorem execDetectorOver_fuses (l : Nat) (adc : List Int) (s : State) : Answer.fuses (execDetectorOver l adc s) s :=
  Answer.fuses_of_burns (execDetectorOver_otp l adc s)

@[simp] theorem execRmsBlockEnd_fuses (l : Nat) (adc : List Int) (s : State) : Answer.fuses (execRmsBlockEnd l adc s) s :=
  Answer.fuses_of_burns (execRmsBlockEnd_otp l adc s)

@[simp] theorem execCaptureTrigger_fuses (l : Nat) (adc : List Int) (s : State) : Answer.fuses (execCaptureTrigger l adc s) s :=
  Answer.fuses_of_burns (execCaptureTrigger_otp l adc s)

@[simp] theorem execCaptureDone_fuses (l : Nat) (adc : List Int) (s : State) : Answer.fuses (execCaptureDone l adc s) s :=
  Answer.fuses_of_burns (execCaptureDone_otp l adc s)

@[simp] theorem execCaptureTimeout_fuses (l : Nat) (s : State) : Answer.fuses (execCaptureTimeout l s) s :=
  Answer.fuses_of_burns (execCaptureTimeout_otp l s)

@[simp] theorem execPostmarkSecond_fuses (s : State) : Answer.fuses (execPostmarkSecond s) s :=
  Answer.fuses_of_burns (execPostmarkSecond_otp s)

@[simp] theorem execReflectSlotGrant_fuses (l : Nat) (s : State) : Answer.fuses (execReflectSlotGrant l s) s :=
  Answer.fuses_of_burns (execReflectSlotGrant_otp l s)

@[simp] theorem execReflectSlotTimeout_fuses (l : Nat) (s : State) : Answer.fuses (execReflectSlotTimeout l s) s :=
  Answer.fuses_of_burns (execReflectSlotTimeout_otp l s)

@[simp] theorem execReflectDone_fuses (l : Nat) (reason : Nat) (run : ReflectRun) (s : State) : Answer.fuses (execReflectDone l reason run s) s :=
  Answer.fuses_of_burns (execReflectDone_otp l reason run s)

@[simp] theorem execCalSlotGrant_fuses (c : Nat) (s : State) : Answer.fuses (execCalSlotGrant c s) s :=
  Answer.fuses_of_burns (execCalSlotGrant_otp c s)

@[simp] theorem execCalRunDone_fuses (l : Nat) (r : CalResult) (s : State) : Answer.fuses (execCalRunDone l r s) s :=
  Answer.fuses_of_burns (execCalRunDone_otp l r s)

@[simp] theorem execCalRunTimeout_fuses (l : Nat) (s : State) : Answer.fuses (execCalRunTimeout l s) s :=
  Answer.fuses_of_burns (execCalRunTimeout_otp l s)

@[simp] theorem execCalRetryDue_fuses (l : Nat) (s : State) : Answer.fuses (execCalRetryDue l s) s :=
  Answer.fuses_of_burns (execCalRetryDue_otp l s)

@[simp] theorem execCalHoldoffEnd_fuses (l : Nat) (s : State) : Answer.fuses (execCalHoldoffEnd l s) s :=
  Answer.fuses_of_burns (execCalHoldoffEnd_otp l s)

@[simp] theorem execCalApplyStep_fuses (l : Nat) (s : State) : Answer.fuses (execCalApplyStep l s) s :=
  Answer.fuses_of_burns (execCalApplyStep_otp l s)

@[simp] theorem execPowerupCalDone_fuses (s : State) : Answer.fuses (execPowerupCalDone s) s :=
  Answer.fuses_of_burns (execPowerupCalDone_otp s)

@[simp] theorem execCalGapAgreeTimeout_fuses (l : Nat) (s : State) : Answer.fuses (execCalGapAgreeTimeout l s) s :=
  Answer.fuses_of_burns (execCalGapAgreeTimeout_otp l s)

@[simp] theorem execCalGapStampLower_fuses (l : Nat) (s : State) : Answer.fuses (execCalGapStampLower l s) s :=
  Answer.fuses_of_burns (execCalGapStampLower_otp l s)

@[simp] theorem execCalGapStart_fuses (l : Nat) (s : State) : Answer.fuses (execCalGapStart l s) s :=
  Answer.fuses_of_burns (execCalGapStart_otp l s)

@[simp] theorem execCalGapEnd_fuses (l : Nat) (s : State) : Answer.fuses (execCalGapEnd l s) s :=
  Answer.fuses_of_burns (execCalGapEnd_otp l s)

@[simp] theorem execReachTxStart_fuses (l : Nat) (s : State) : Answer.fuses (execReachTxStart l s) s :=
  Answer.fuses_of_burns (execReachTxStart_otp l s)

@[simp] theorem execReachTxEnd_fuses (l : Nat) (s : State) : Answer.fuses (execReachTxEnd l s) s :=
  Answer.fuses_of_burns (execReachTxEnd_otp l s)

@[simp] theorem execBlankingEnd_fuses (l : Nat) (s : State) : Answer.fuses (execBlankingEnd l s) s :=
  Answer.fuses_of_burns (execBlankingEnd_otp l s)

@[simp] theorem execPreambleDetected_fuses (l : Nat) (windows : List Window) (shift : Nat) (s : State) : Answer.fuses (execPreambleDetected l windows shift s) s :=
  Answer.fuses_of_burns (execPreambleDetected_otp l windows shift s)

@[simp] theorem execSyncConfirm_fuses (l : Nat) (windows : List Window) (r : SyncReport) (s : State) : Answer.fuses (execSyncConfirm l windows r s) s :=
  Answer.fuses_of_burns (execSyncConfirm_otp l windows r s)

@[simp] theorem execHeaderDone_fuses (l : Nat) (word : Nat) (s : State) : Answer.fuses (execHeaderDone l word s) s :=
  Answer.fuses_of_burns (execHeaderDone_otp l word s)

@[simp] theorem execPacketRxDone_fuses (l : Nat) (bytes : List Nat) (s : State) : Answer.fuses (execPacketRxDone l bytes s) s :=
  Answer.fuses_of_burns (execPacketRxDone_otp l bytes s)

@[simp] theorem execReplyTimeout_fuses (l : Nat) (s : State) : Answer.fuses (execReplyTimeout l s) s :=
  Answer.fuses_of_burns (execReplyTimeout_otp l s)

@[simp] theorem execPollDue_fuses (l : Nat) (ep : Nat) (s : State) : Answer.fuses (execPollDue l ep s) s :=
  Answer.fuses_of_burns (execPollDue_otp l ep s)

@[simp] theorem execAlarmWindowDue_fuses (l : Nat) (s : State) : Answer.fuses (execAlarmWindowDue l s) s :=
  Answer.fuses_of_burns (execAlarmWindowDue_otp l s)

@[simp] theorem execAlarmWindowOpen_fuses (l : Nat) (s : State) : Answer.fuses (execAlarmWindowOpen l s) s :=
  Answer.fuses_of_burns (execAlarmWindowOpen_otp l s)

@[simp] theorem execAlarmWindowClose_fuses (l : Nat) (s : State) : Answer.fuses (execAlarmWindowClose l s) s :=
  Answer.fuses_of_burns (execAlarmWindowClose_otp l s)

@[simp] theorem execReachRecordRx_fuses (port : Nat) (frame fcs : List Nat) (s : State) : Answer.fuses (execReachRecordRx port frame fcs s) s :=
  Answer.fuses_of_burns (execReachRecordRx_otp port frame fcs s)

@[simp] theorem execReachMaskWaitEnd_fuses (l : Nat) (s : State) : Answer.fuses (execReachMaskWaitEnd l s) s :=
  Answer.fuses_of_burns (execReachMaskWaitEnd_otp l s)

@[simp] theorem execLaneDetectProbe_fuses (l : Nat) (found : Bool) (s : State) : Answer.fuses (execLaneDetectProbe l found s) s :=
  Answer.fuses_of_burns (execLaneDetectProbe_otp l found s)

@[simp] theorem execLaneTrainEnd_fuses (l : Nat) (errors : Nat) (s : State) : Answer.fuses (execLaneTrainEnd l errors s) s :=
  Answer.fuses_of_burns (execLaneTrainEnd_otp l errors s)

@[simp] theorem execLaneLock_fuses (l : Nat) (ppm : Int) (s : State) : Answer.fuses (execLaneLock l ppm s) s :=
  Answer.fuses_of_burns (execLaneLock_otp l ppm s)

@[simp] theorem execExchangeAcceptRx_fuses (l : Nat) (content : Nat) (s : State) : Answer.fuses (execExchangeAcceptRx l content s) s :=
  Answer.fuses_of_burns (execExchangeAcceptRx_otp l content s)

@[simp] theorem execExchangeTimeout_fuses (l : Nat) (s : State) : Answer.fuses (execExchangeTimeout l s) s :=
  Answer.fuses_of_burns (execExchangeTimeout_otp l s)

@[simp] theorem execLaneLos_fuses (l : Nat) (s : State) : Answer.fuses (execLaneLos l s) s :=
  Answer.fuses_of_burns (execLaneLos_otp l s)

@[simp] theorem execLaneLol_fuses (l : Nat) (s : State) : Answer.fuses (execLaneLol l s) s :=
  Answer.fuses_of_burns (execLaneLol_otp l s)

@[simp] theorem execBlockLockLoss_fuses (l : Nat) (s : State) : Answer.fuses (execBlockLockLoss l s) s :=
  Answer.fuses_of_burns (execBlockLockLoss_otp l s)

@[simp] theorem execAmBlock_fuses (l : Nat) (s : State) : Answer.fuses (execAmBlock l s) s :=
  Answer.fuses_of_burns (execAmBlock_otp l s)

@[simp] theorem execStampGrant_fuses (p : Nat) (s : State) : Answer.fuses (execStampGrant p s) s :=
  Answer.fuses_of_burns (execStampGrant_otp p s)

@[simp] theorem execStampResend_fuses (p : Nat) (s : State) : Answer.fuses (execStampResend p s) s :=
  Answer.fuses_of_burns (execStampResend_otp p s)

@[simp] theorem execPauseRepeat_fuses (p : Nat) (s : State) : Answer.fuses (execPauseRepeat p s) s :=
  Answer.fuses_of_burns (execPauseRepeat_otp p s)

@[simp] theorem execPauseXon_fuses (p : Nat) (s : State) : Answer.fuses (execPauseXon p s) s :=
  Answer.fuses_of_burns (execPauseXon_otp p s)

@[simp] theorem execHostBlockRx_fuses (l : Nat) (slot : Nat) (sync : Nat) (payload : Nat) (s : State) : Answer.fuses (execHostBlockRx l slot sync payload s) s :=
  Answer.fuses_of_burns (execHostBlockRx_otp l slot sync payload s)

@[simp] theorem execHoststatSend_fuses (p : Nat) (s : State) : Answer.fuses (execHoststatSend p s) s :=
  Answer.fuses_of_burns (execHoststatSend_otp p s)

@[simp] theorem execHoststatRx_fuses (p : Nat) (m : List Nat) (s : State) : Answer.fuses (execHoststatRx p m s) s :=
  Answer.fuses_of_burns (execHoststatRx_otp p m s)

@[simp] theorem execHoststatTimeout_fuses (p : Nat) (s : State) : Answer.fuses (execHoststatTimeout p s) s :=
  Answer.fuses_of_burns (execHoststatTimeout_otp p s)

@[simp] theorem execSyncInEdge_fuses (edge : Int) (high : Nat) (s : State) : Answer.fuses (execSyncInEdge edge high s) s :=
  Answer.fuses_of_burns (execSyncInEdge_otp edge high s)

@[simp] theorem execSyncLost_fuses (s : State) : Answer.fuses (execSyncLost s) s :=
  Answer.fuses_of_burns (execSyncLost_otp s)

@[simp] theorem execTxclrAssert_fuses (s : State) : Answer.fuses (execTxclrAssert s) s :=
  Answer.fuses_of_burns (execTxclrAssert_otp s)

@[simp] theorem execTxclrRelease_fuses (s : State) : Answer.fuses (execTxclrRelease s) s :=
  Answer.fuses_of_burns (execTxclrRelease_otp s)

@[simp] theorem execDriverOvercurrent_fuses (l : Nat) (s : State) : Answer.fuses (execDriverOvercurrent l s) s :=
  Answer.fuses_of_burns (execDriverOvercurrent_otp l s)

@[simp] theorem execRangeSwitchSymbol_fuses (l : Nat) (s : State) : Answer.fuses (execRangeSwitchSymbol l s) s :=
  Answer.fuses_of_burns (execRangeSwitchSymbol_otp l s)

@[simp] theorem execRefinMeasure_fuses (level : Nat) (s : State) : Answer.fuses (execRefinMeasure level s) s :=
  Answer.fuses_of_burns (execRefinMeasure_otp level s)

@[simp] theorem execAutonegComplete_fuses (l : Nat) (p : PartnerAbility) (s : State) : Answer.fuses (execAutonegComplete l p s) s :=
  Answer.fuses_of_burns (execAutonegComplete_otp l p s)

@[simp] theorem execStdLinkUp_fuses (l : Nat) (s : State) : Answer.fuses (execStdLinkUp l s) s :=
  Answer.fuses_of_burns (execStdLinkUp_otp l s)

@[simp] theorem execStdLinkDown_fuses (l : Nat) (pcs : Nat) (s : State) : Answer.fuses (execStdLinkDown l pcs s) s :=
  Answer.fuses_of_burns (execStdLinkDown_otp l pcs s)

@[simp] theorem execStdFastRetrain_fuses (l : Nat) (ok : Bool) (pcs : Nat) (s : State) : Answer.fuses (execStdFastRetrain l ok pcs s) s :=
  Answer.fuses_of_burns (execStdFastRetrain_otp l ok pcs s)

@[simp] theorem execLpiEnter_fuses (l : Nat) (enter : Bool) (s : State) : Answer.fuses (execLpiEnter l enter s) s :=
  Answer.fuses_of_burns (execLpiEnter_otp l enter s)

@[simp] theorem execPartnerLpi_fuses (l : Nat) (enter : Bool) (wakeError : Bool) (s : State) : Answer.fuses (execPartnerLpi l enter wakeError s) s :=
  Answer.fuses_of_burns (execPartnerLpi_otp l enter wakeError s)

@[simp] theorem execAnWindowEnd_fuses (l : Nat) (s : State) : Answer.fuses (execAnWindowEnd l s) s :=
  Answer.fuses_of_burns (execAnWindowEnd_otp l s)

@[simp] theorem execBeaconWindowEnd_fuses (l : Nat) (s : State) : Answer.fuses (execBeaconWindowEnd l s) s :=
  Answer.fuses_of_burns (execBeaconWindowEnd_otp l s)

@[simp] theorem execFlpQualified_fuses (l : Nat) (s : State) : Answer.fuses (execFlpQualified l s) s :=
  Answer.fuses_of_burns (execFlpQualified_otp l s)

@[simp] theorem execAltResumeTimeout_fuses (l : Nat) (s : State) : Answer.fuses (execAltResumeTimeout l s) s :=
  Answer.fuses_of_burns (execAltResumeTimeout_otp l s)

@[simp] theorem execPllLock_fuses (p : Nat) (s : State) : Answer.fuses (execPllLock p s) s :=
  Answer.fuses_of_burns (execPllLock_otp p s)

@[simp] theorem execPllUnlock_fuses (p : Nat) (s : State) : Answer.fuses (execPllUnlock p s) s :=
  Answer.fuses_of_burns (execPllUnlock_otp p s)

@[simp] theorem execSpllMonitorTrip_fuses (s : State) : Answer.fuses (execSpllMonitorTrip s) s :=
  Answer.fuses_of_burns (execSpllMonitorTrip_otp s)

@[simp] theorem execCpllRelockTimeout_fuses (c : Nat) (s : State) : Answer.fuses (execCpllRelockTimeout c s) s :=
  Answer.fuses_of_burns (execCpllRelockTimeout_otp c s)

@[simp] theorem execTrimWindowEnd_fuses (count : Nat) (s : State) : Answer.fuses (execTrimWindowEnd count s) s :=
  Answer.fuses_of_burns (execTrimWindowEnd_otp count s)

@[simp] theorem execKoscWindowEnd_fuses (count : Nat) (s : State) : Answer.fuses (execKoscWindowEnd count s) s :=
  Answer.fuses_of_burns (execKoscWindowEnd_otp count s)

@[simp] theorem execKoscStartTimeout_fuses (s : State) : Answer.fuses (execKoscStartTimeout s) s :=
  Answer.fuses_of_burns (execKoscStartTimeout_otp s)

@[simp] theorem execKoscHoldExpire_fuses (s : State) : Answer.fuses (execKoscHoldExpire s) s :=
  Answer.fuses_of_burns (execKoscHoldExpire_otp s)

@[simp] theorem execRefclkTrip_fuses (s : State) : Answer.fuses (execRefclkTrip s) s :=
  Answer.fuses_of_burns (execRefclkTrip_otp s)

@[simp] theorem execRefclkGood_fuses (s : State) : Answer.fuses (execRefclkGood s) s :=
  Answer.fuses_of_burns (execRefclkGood_otp s)

@[simp] theorem execRefclkAbsentTimeout_fuses (s : State) : Answer.fuses (execRefclkAbsentTimeout s) s :=
  Answer.fuses_of_burns (execRefclkAbsentTimeout_otp s)

@[simp] theorem execMuxHang_fuses (mux : Nat) (s : State) : Answer.fuses (execMuxHang mux s) s :=
  Answer.fuses_of_burns (execMuxHang_otp mux s)

@[simp] theorem execFreqmonDone_fuses (count : Nat) (s : State) : Answer.fuses (execFreqmonDone count s) s :=
  Answer.fuses_of_burns (execFreqmonDone_otp count s)

@[simp] theorem execFreqmonRefStopped_fuses (s : State) : Answer.fuses (execFreqmonRefStopped s) s :=
  Answer.fuses_of_burns (execFreqmonRefStopped_otp s)

@[simp] theorem execResetNRelease_fuses (s : State) : Answer.fuses (execResetNRelease s) s :=
  Answer.fuses_of_burns (execResetNRelease_otp s)

@[simp] theorem execResetNAssert_fuses (ns : Nat) (s : State) : Answer.fuses (execResetNAssert ns s) s :=
  Answer.fuses_of_burns (execResetNAssert_otp ns s)

@[simp] theorem execPpsInEdge_fuses (s : State) : Answer.fuses (execPpsInEdge s) s :=
  Answer.fuses_of_burns (execPpsInEdge_otp s)

@[simp] theorem execPpsOutFall_fuses (s : State) : Answer.fuses (execPpsOutFall s) s :=
  Answer.fuses_of_burns (execPpsOutFall_otp s)

@[simp] theorem execLevelRepropose_fuses (s : State) : Answer.fuses (execLevelRepropose s) s :=
  Answer.fuses_of_burns (execLevelRepropose_otp s)

@[simp] theorem execNvDownLand_fuses (s : State) : Answer.fuses (execNvDownLand s) s :=
  Answer.fuses_of_burns (execNvDownLand_otp s)

@[simp] theorem execNvUpLand_fuses (s : State) : Answer.fuses (execNvUpLand s) s :=
  Answer.fuses_of_burns (execNvUpLand_otp s)

@[simp] theorem execVxConfirmed_fuses (read : VxRead) (s : State) : Answer.fuses (execVxConfirmed read s) s :=
  Answer.fuses_of_burns (execVxConfirmed_otp read s)

@[simp] theorem execVxConfirmTimeout_fuses (fails : Nat) (mv : Nat) (s : State) : Answer.fuses (execVxConfirmTimeout fails mv s) s :=
  Answer.fuses_of_burns (execVxConfirmTimeout_otp fails mv s)

@[simp] theorem execAvsCurrentRead_fuses (fails : Nat) (current : Nat) (alert : Bool) (s : State) : Answer.fuses (execAvsCurrentRead fails current alert s) s :=
  Answer.fuses_of_burns (execAvsCurrentRead_otp fails current alert s)

@[simp] theorem execTempSample_fuses (ts : List Int) (s : State) : Answer.fuses (execTempSample ts s) s :=
  Answer.fuses_of_burns (execTempSample_otp ts s)

@[simp] theorem execDamperRepeat_fuses (s : State) : Answer.fuses (execDamperRepeat s) s :=
  Answer.fuses_of_burns (execDamperRepeat_otp s)

@[simp] theorem execDamperCool_fuses (s : State) : Answer.fuses (execDamperCool s) s :=
  Answer.fuses_of_burns (execDamperCool_otp s)

@[simp] theorem execStageStopped_fuses (s : State) : Answer.fuses (execStageStopped s) s :=
  Answer.fuses_of_burns (execStageStopped_otp s)

@[simp] theorem execStageTimeout_fuses (s : State) : Answer.fuses (execStageTimeout s) s :=
  Answer.fuses_of_burns (execStageTimeout_otp s)

@[simp] theorem execRollbackComplete_fuses (s : State) : Answer.fuses (execRollbackComplete s) s :=
  Answer.fuses_of_burns (execRollbackComplete_otp s)

@[simp] theorem execWakeEnergy_fuses (l : Nat) (s : State) : Answer.fuses (execWakeEnergy l s) s :=
  Answer.fuses_of_burns (execWakeEnergy_otp l s)

@[simp] theorem execWakeMspi_fuses (s : State) : Answer.fuses (execWakeMspi s) s :=
  Answer.fuses_of_burns (execWakeMspi_otp s)

@[simp] theorem execWakeMdio_fuses (s : State) : Answer.fuses (execWakeMdio s) s :=
  Answer.fuses_of_burns (execWakeMdio_otp s)

@[simp] theorem execWakeTimer_fuses (s : State) : Answer.fuses (execWakeTimer s) s :=
  Answer.fuses_of_burns (execWakeTimer_otp s)

@[simp] theorem execWakeNotReady_fuses (block : Nat) (s : State) : Answer.fuses (execWakeNotReady block s) s :=
  Answer.fuses_of_burns (execWakeNotReady_otp block s)

@[simp] theorem execWakeComplete_fuses (s : State) : Answer.fuses (execWakeComplete s) s :=
  Answer.fuses_of_burns (execWakeComplete_otp s)

@[simp] theorem execClockGateTimeout_fuses (stuck : List StuckAccess) (s : State) : Answer.fuses (execClockGateTimeout stuck s) s :=
  Answer.fuses_of_burns (execClockGateTimeout_otp stuck s)

@[simp] theorem execFaultSample_fuses (reports : List FaultInput) (s : State) : Answer.fuses (execFaultSample reports s) s :=
  Answer.fuses_of_burns (execFaultSample_otp reports s)

@[simp] theorem execRailDisagree_fuses (source : Nat) (seen : Nat) (s : State) : Answer.fuses (execRailDisagree source seen s) s :=
  Answer.fuses_of_burns (execRailDisagree_otp source seen s)

@[simp] theorem execFaultHandlingEnd_fuses (s : State) : Answer.fuses (execFaultHandlingEnd s) s :=
  Answer.fuses_of_burns (execFaultHandlingEnd_otp s)

@[simp] theorem execFenceRecoveryEnd_fuses (master : Nat) (s : State) : Answer.fuses (execFenceRecoveryEnd master s) s :=
  Answer.fuses_of_burns (execFenceRecoveryEnd_otp master s)

@[simp] theorem execWatchdogRestart_fuses (s : State) : Answer.fuses (execWatchdogRestart s) s :=
  Answer.fuses_of_burns (execWatchdogRestart_otp s)

@[simp] theorem execWatchdogExpire_fuses (s : State) : Answer.fuses (execWatchdogExpire s) s :=
  Answer.fuses_of_burns (execWatchdogExpire_otp s)

@[simp] theorem execPinHoldEnd_fuses (pin : Nat) (s : State) : Answer.fuses (execPinHoldEnd pin s) s :=
  Answer.fuses_of_burns (execPinHoldEnd_otp pin s)

@[simp] theorem execIbHoldEnd_fuses (n : Nat) (s : State) : Answer.fuses (execIbHoldEnd n s) s :=
  Answer.fuses_of_burns (execIbHoldEnd_otp n s)

@[simp] theorem execIbRefresh_fuses (s : State) : Answer.fuses (execIbRefresh s) s :=
  Answer.fuses_of_burns (execIbRefresh_otp s)

@[simp] theorem execRailGood_fuses (rail : Nat) (s : State) : Answer.fuses (execRailGood rail s) s :=
  Answer.fuses_of_burns (execRailGood_otp rail s)

@[simp] theorem execRailTrip_fuses (rail : Nat) (s : State) : Answer.fuses (execRailTrip rail s) s :=
  Answer.fuses_of_burns (execRailTrip_otp rail s)

@[simp] theorem execVhLoss_fuses (s : State) : Answer.fuses (execVhLoss s) s :=
  Answer.fuses_of_burns (execVhLoss_otp s)

@[simp] theorem execNonceExpire_fuses (ch : Channel) (s : State) : Answer.fuses (execNonceExpire ch s) s :=
  Answer.fuses_of_burns (execNonceExpire_otp ch s)

@[simp] theorem execLockoutEnd_fuses (ch : Channel) (s : State) : Answer.fuses (execLockoutEnd ch s) s :=
  Answer.fuses_of_burns (execLockoutEnd_otp ch s)

@[simp] theorem execBootVerifyDone_fuses (s : State) : Answer.fuses (execBootVerifyDone s) s :=
  Answer.fuses_of_burns (execBootVerifyDone_otp s)

@[simp] theorem execFwUploadTimeout_fuses (s : State) : Answer.fuses (execFwUploadTimeout s) s :=
  Answer.fuses_of_burns (execFwUploadTimeout_otp s)

@[simp] theorem execPostLands_fuses (p : Page) (i : Nat) (s : State) : Answer.fuses (execPostLands p i s) s :=
  Answer.fuses_of_burns (execPostLands_otp p i s)

@[simp] theorem execSealedNegotiationStart_fuses (port : Nat) (s : State) : Answer.fuses (execSealedNegotiationStart port s) s :=
  Answer.fuses_of_burns (execSealedNegotiationStart_otp port s)

@[simp] theorem execSealConfirm_fuses (port : Nat) (s : State) : Answer.fuses (execSealConfirm port s) s :=
  Answer.fuses_of_burns (execSealConfirm_otp port s)

@[simp] theorem execSuperframeStart_fuses (s : State) : Answer.fuses (execSuperframeStart s) s :=
  Answer.fuses_of_burns (execSuperframeStart_otp s)

@[simp] theorem execPilotCycleStart_fuses (meters : List LineMeter) (s : State) : Answer.fuses (execPilotCycleStart meters s) s :=
  Answer.fuses_of_burns (execPilotCycleStart_otp meters s)

@[simp] theorem execLetterboxLeaseExpire_fuses (ch : Channel) (s : State) : Answer.fuses (execLetterboxLeaseExpire ch s) s :=
  Answer.fuses_of_burns (execLetterboxLeaseExpire_otp ch s)

@[simp] theorem execMspiStatus_fuses (s : State) : Answer.fuses (execMspiStatus s) s :=
  Answer.fuses_of_burns (execMspiStatus_otp s)

@[simp] theorem execMspiChannelReset_fuses (s : State) : Answer.fuses (execMspiChannelReset s) s :=
  Answer.fuses_of_burns (execMspiChannelReset_otp s)

@[simp] theorem execMspiBadCommand_fuses (_cmd : Nat) (s : State) : Answer.fuses (execMspiBadCommand _cmd s) s :=
  Answer.fuses_of_burns (execMspiBadCommand_otp _cmd s)

@[simp] theorem execMreqRead_fuses (lane : Nat) (tag : Nat) (addr : Nat) (n : Nat) (s : State) : Answer.fuses (execMreqRead lane tag addr n s) s :=
  Answer.fuses_next (State.askInband_fuses _ _)

@[simp] theorem execMreqWrite_fuses (lane : Nat) (tag : Nat) (addr : Nat) (ws : List Word) (s : State) : Answer.fuses (execMreqWrite lane tag addr ws s) s :=
  Answer.fuses_next (State.askInband_fuses _ _)

@[simp] theorem execMreqIncomplete_fuses (lane : Nat) (tag : Nat) (s : State) : Answer.fuses (execMreqIncomplete lane tag s) s :=
  Answer.fuses_next (State.askInband_fuses _ _)

@[simp] theorem execMdioWindowRead_fuses (prtad : Nat) (late : Bool) (s : State) : Answer.fuses (execMdioWindowRead prtad late s) s :=
  withMdio_fuses fun _ => (State.windowRead_fuses _ _)

@[simp] theorem execMdioWindowWrite_fuses (prtad : Nat) (hi : Nat) (s : State) : Answer.fuses (execMdioWindowWrite prtad hi s) s :=
  withMdio_fuses fun _ => (State.windowWrite_fuses _ _)

@[simp] theorem execMdioErrorRead_fuses (prtad : Nat) (s : State) : Answer.fuses (execMdioErrorRead prtad s) s :=
  Answer.fuses_of_burns (execMdioErrorRead_otp prtad s)

@[simp] theorem execRegisterWrite_fuses (ch : Channel) (addr : Nat) (width : Nat) (w : Word) (s : State) : Answer.fuses (execRegisterWrite ch addr width w s) s :=
  Answer.fuses_next (State.hostWrite_fuses _ _ _ _ _)

@[simp] theorem execCounterLoRead_fuses (ch : Channel) (addr : Nat) (s : State) : Answer.fuses (execCounterLoRead ch addr s) s :=
  Answer.fuses_next (State.hostRead_fuses _ _ _)

@[simp] theorem execEcho_fuses (ch : Channel) (s : State) : Answer.fuses (execEcho ch s) s :=
  Answer.fuses_next (State.ringOpcode_fuses _ _ _ _)

@[simp] theorem execDiag_fuses (ch : Channel) (s : State) : Answer.fuses (execDiag ch s) s :=
  Answer.fuses_next (State.ringOpcode_fuses _ _ _ _)

@[simp] theorem execFwBegin_fuses (ch : Channel) (s : State) : Answer.fuses (execFwBegin ch s) s :=
  Answer.fuses_next (State.ringOpcode_fuses _ _ _ _)

@[simp] theorem execFwChunk_fuses (ch : Channel) (s : State) : Answer.fuses (execFwChunk ch s) s :=
  Answer.fuses_next (State.ringOpcode_fuses _ _ _ _)

@[simp] theorem execFwCommit_fuses (ch : Channel) (s : State) : Answer.fuses (execFwCommit ch s) s :=
  Answer.fuses_next (State.ringOpcode_fuses _ _ _ _)

@[simp] theorem execParcelExportBegin_fuses (ch : Channel) (s : State) : Answer.fuses (execParcelExportBegin ch s) s :=
  Answer.fuses_next (State.ringOpcode_fuses _ _ _ _)

@[simp] theorem execParcelExportNext_fuses (ch : Channel) (s : State) : Answer.fuses (execParcelExportNext ch s) s :=
  Answer.fuses_next (State.ringOpcode_fuses _ _ _ _)

@[simp] theorem execParcelImportChunk_fuses (ch : Channel) (s : State) : Answer.fuses (execParcelImportChunk ch s) s :=
  Answer.fuses_next (State.ringOpcode_fuses _ _ _ _)

@[simp] theorem execParcelImportCommit_fuses (ch : Channel) (s : State) : Answer.fuses (execParcelImportCommit ch s) s :=
  Answer.fuses_next (State.ringOpcode_fuses _ _ _ _)

@[simp] theorem execAttestSign_fuses (ch : Channel) (s : State) : Answer.fuses (execAttestSign ch s) s :=
  Answer.fuses_next (State.ringOpcode_fuses _ _ _ _)

@[simp] theorem execAttestRead_fuses (ch : Channel) (s : State) : Answer.fuses (execAttestRead ch s) s :=
  Answer.fuses_next (State.ringOpcode_fuses _ _ _ _)

@[simp] theorem execSoftReset_fuses (ch : Channel) (p : Page) (i : Nat) (w : Word) (s : State) : Answer.fuses (execSoftReset ch p i w s) s :=
  withPage_fuses (State.trigger_fuses _ _ _ _ _ _)

@[simp] theorem execPageLockWrite_fuses (ch : Channel) (p : Page) (i : Nat) (w : Word) (s : State) : Answer.fuses (execPageLockWrite ch p i w s) s :=
  withPage_fuses (State.writeAt_fuses _ _ _ _ _ _)

@[simp] theorem execPageFreeze_fuses (ch : Channel) (p : Page) (i : Nat) (w : Word) (s : State) : Answer.fuses (execPageFreeze ch p i w s) s :=
  withPage_fuses (State.trigger_fuses _ _ _ _ _ _)

@[simp] theorem execEvtCountClr_fuses (ch : Channel) (p : Page) (i : Nat) (w : Word) (s : State) : Answer.fuses (execEvtCountClr ch p i w s) s :=
  withPage_fuses (State.trigger_fuses _ _ _ _ _ _)

@[simp] theorem execEnvPost_fuses (ch : Channel) (p : Page) (i : Nat) (w : Word) (s : State) : Answer.fuses (execEnvPost ch p i w s) s :=
  withPage_fuses (State.trigger_fuses _ _ _ _ _ _)

@[simp] theorem execEnvDiscard_fuses (ch : Channel) (p : Page) (i : Nat) (w : Word) (s : State) : Answer.fuses (execEnvDiscard ch p i w s) s :=
  withPage_fuses (State.trigger_fuses _ _ _ _ _ _)

@[simp] theorem execMailRun_fuses (ch : Channel) (w : Word) (s : State) : Answer.fuses (execMailRun ch w s) s :=
  Answer.fuses_next (State.trigger_fuses _ _ _ _ _ _)

@[simp] theorem execMailRunCancel_fuses (ch : Channel) (w : Word) (s : State) : Answer.fuses (execMailRunCancel ch w s) s :=
  Answer.fuses_next (State.trigger_fuses _ _ _ _ _ _)

@[simp] theorem execBuslockTake_fuses (ch : Channel) (w : Word) (s : State) : Answer.fuses (execBuslockTake ch w s) s :=
  Answer.fuses_next (State.trigger_fuses _ _ _ _ _ _)

@[simp] theorem execBuslockRelease_fuses (ch : Channel) (w : Word) (s : State) : Answer.fuses (execBuslockRelease ch w s) s :=
  Answer.fuses_next (State.trigger_fuses _ _ _ _ _ _)

@[simp] theorem execLetterboxCmd_fuses (ch : Channel) (w : Word) (s : State) : Answer.fuses (execLetterboxCmd ch w s) s :=
  Answer.fuses_next (State.writeAt_fuses _ _ _ _ _ _)

@[simp] theorem execLevelDownRequest_fuses (ch : Channel) (w : Word) (s : State) : Answer.fuses (execLevelDownRequest ch w s) s :=
  Answer.fuses_next (State.writeAt_fuses _ _ _ _ _ _)

@[simp] theorem execLevelUpRequest_fuses (ch : Channel) (w : Word) (s : State) : Answer.fuses (execLevelUpRequest ch w s) s :=
  Answer.fuses_next (State.writeAt_fuses _ _ _ _ _ _)

@[simp] theorem execXengineHold_fuses (ch : Channel) (w : Word) (s : State) : Answer.fuses (execXengineHold ch w s) s :=
  Answer.fuses_next (State.trigger_fuses _ _ _ _ _ _)

@[simp] theorem execCensusRequest_fuses (ch : Channel) (w : Word) (s : State) : Answer.fuses (execCensusRequest ch w s) s :=
  Answer.fuses_next (State.trigger_fuses _ _ _ _ _ _)

@[simp] theorem execXwindowRead_fuses (ch : Channel) (w : Word) (s : State) : Answer.fuses (execXwindowRead ch w s) s :=
  Answer.fuses_next (State.trigger_fuses _ _ _ _ _ _)

@[simp] theorem execXwindowWrite_fuses (ch : Channel) (w : Word) (s : State) : Answer.fuses (execXwindowWrite ch w s) s :=
  Answer.fuses_next (State.trigger_fuses _ _ _ _ _ _)

@[simp] theorem execLineDisable_fuses (ch : Channel) (l : Nat) (w : Word) (s : State) : Answer.fuses (execLineDisable ch l w s) s :=
  withLine_fuses (State.writeAt_fuses _ _ _ _ _ _)

@[simp] theorem execLineRetrain_fuses (ch : Channel) (l : Nat) (w : Word) (s : State) : Answer.fuses (execLineRetrain ch l w s) s :=
  withLine_fuses (State.trigger_fuses _ _ _ _ _ _)

@[simp] theorem execLineRestart_fuses (ch : Channel) (l : Nat) (w : Word) (s : State) : Answer.fuses (execLineRestart ch l w s) s :=
  withLine_fuses (State.trigger_fuses _ _ _ _ _ _)

@[simp] theorem execBankRequest_fuses (ch : Channel) (l : Nat) (w : Word) (s : State) : Answer.fuses (execBankRequest ch l w s) s :=
  withLine_fuses (State.trigger_fuses _ _ _ _ _ _)

@[simp] theorem execWakeRequest_fuses (ch : Channel) (l : Nat) (w : Word) (s : State) : Answer.fuses (execWakeRequest ch l w s) s :=
  withLine_fuses (State.trigger_fuses _ _ _ _ _ _)

@[simp] theorem execMonitorPresetWrite_fuses (ch : Channel) (l : Nat) (w : Word) (s : State) : Answer.fuses (execMonitorPresetWrite ch l w s) s :=
  withLine_fuses (State.writeAt_fuses _ _ _ _ _ _)

@[simp] theorem execMonitorNcoWrite_fuses (ch : Channel) (l : Nat) (w : Word) (s : State) : Answer.fuses (execMonitorNcoWrite ch l w s) s :=
  withLine_fuses (State.writeAt_fuses _ _ _ _ _ _)

@[simp] theorem execSyncrstArm_fuses (ch : Channel) (l : Nat) (w : Word) (s : State) : Answer.fuses (execSyncrstArm ch l w s) s :=
  withLine_fuses (State.trigger_fuses _ _ _ _ _ _)

@[simp] theorem execSyncrstCancel_fuses (ch : Channel) (l : Nat) (w : Word) (s : State) : Answer.fuses (execSyncrstCancel ch l w s) s :=
  withLine_fuses (State.trigger_fuses _ _ _ _ _ _)

@[simp] theorem execBankSwap_fuses (ch : Channel) (l : Nat) (w : Word) (s : State) : Answer.fuses (execBankSwap ch l w s) s :=
  withLine_fuses (State.trigger_fuses _ _ _ _ _ _)

@[simp] theorem execCaptureRequest_fuses (ch : Channel) (l : Nat) (w : Word) (s : State) : Answer.fuses (execCaptureRequest ch l w s) s :=
  withLine_fuses (State.trigger_fuses _ _ _ _ _ _)

@[simp] theorem execCounterClear_fuses (ch : Channel) (l : Nat) (w : Word) (s : State) : Answer.fuses (execCounterClear ch l w s) s :=
  withLine_fuses (State.trigger_fuses _ _ _ _ _ _)

@[simp] theorem execSnrWatchWrite_fuses (ch : Channel) (l : Nat) (w : Word) (s : State) : Answer.fuses (execSnrWatchWrite ch l w s) s :=
  withLine_fuses (State.writeAt_fuses _ _ _ _ _ _)

@[simp] theorem execReflectRequest_fuses (ch : Channel) (l : Nat) (w : Word) (s : State) : Answer.fuses (execReflectRequest ch l w s) s :=
  withLine_fuses (State.trigger_fuses _ _ _ _ _ _)

@[simp] theorem execClrcodeWrite_fuses (ch : Channel) (c : Nat) (w : Word) (s : State) : Answer.fuses (execClrcodeWrite ch c w s) s :=
  onEntry_fuses (State.writeAt_fuses _ _ _ _ _ _)

@[simp] theorem execCalRequest_fuses (ch : Channel) (l : Nat) (w : Word) (s : State) : Answer.fuses (execCalRequest ch l w s) s :=
  withLine_fuses (State.trigger_fuses _ _ _ _ _ _)

@[simp] theorem execCalReqAll_fuses (ch : Channel) (w : Word) (s : State) : Answer.fuses (execCalReqAll ch w s) s :=
  Answer.fuses_next (State.trigger_fuses _ _ _ _ _ _)

@[simp] theorem execAnRestart_fuses (ch : Channel) (l : Nat) (w : Word) (s : State) : Answer.fuses (execAnRestart ch l w s) s :=
  withLine_fuses (State.trigger_fuses _ _ _ _ _ _)

@[simp] theorem execLaneRestart_fuses (ch : Channel) (lane : Nat) (w : Word) (s : State) : Answer.fuses (execLaneRestart ch lane w s) s :=
  withLane_fuses (State.trigger_fuses _ _ _ _ _ _)

@[simp] theorem execLaneLoopWrite_fuses (ch : Channel) (lane : Nat) (w : Word) (s : State) : Answer.fuses (execLaneLoopWrite ch lane w s) s :=
  withLane_fuses (State.writeAt_fuses _ _ _ _ _ _)

@[simp] theorem execLaneRateChange_fuses (ch : Channel) (lane : Nat) (w : Word) (s : State) : Answer.fuses (execLaneRateChange ch lane w s) s :=
  withLane_fuses (State.writeAt_fuses _ _ _ _ _ _)

@[simp] theorem execFreqmonRequest_fuses (ch : Channel) (w : Word) (s : State) : Answer.fuses (execFreqmonRequest ch w s) s :=
  Answer.fuses_next (State.trigger_fuses _ _ _ _ _ _)

@[simp] theorem execTimebaseSet_fuses (ch : Channel) (w : Word) (s : State) : Answer.fuses (execTimebaseSet ch w s) s :=
  Answer.fuses_next (State.trigger_fuses _ _ _ _ _ _)

@[simp] theorem execTimebaseAdd_fuses (ch : Channel) (w : Word) (s : State) : Answer.fuses (execTimebaseAdd ch w s) s :=
  Answer.fuses_next (State.trigger_fuses _ _ _ _ _ _)

@[simp] theorem execAvsRetry_fuses (ch : Channel) (w : Word) (s : State) : Answer.fuses (execAvsRetry ch w s) s :=
  Answer.fuses_next (State.trigger_fuses _ _ _ _ _ _)

@[simp] theorem execThermalPeakClear_fuses (ch : Channel) (w : Word) (s : State) : Answer.fuses (execThermalPeakClear ch w s) s :=
  Answer.fuses_next (State.trigger_fuses _ _ _ _ _ _)

@[simp] theorem execCtempMinmaxClear_fuses (ch : Channel) (c : Nat) (w : Word) (s : State) : Answer.fuses (execCtempMinmaxClear ch c w s) s :=
  onEntry_fuses (State.trigger_fuses _ _ _ _ _ _)

@[simp] theorem execPstateRun_fuses (ch : Channel) (w : Word) (s : State) : Answer.fuses (execPstateRun ch w s) s :=
  Answer.fuses_next (State.writeAt_fuses _ _ _ _ _ _)

@[simp] theorem execPstateDoze_fuses (ch : Channel) (w : Word) (s : State) : Answer.fuses (execPstateDoze ch w s) s :=
  Answer.fuses_next (State.writeAt_fuses _ _ _ _ _ _)

@[simp] theorem execPstateEmber_fuses (ch : Channel) (w : Word) (s : State) : Answer.fuses (execPstateEmber ch w s) s :=
  Answer.fuses_next (State.writeAt_fuses _ _ _ _ _ _)

@[simp] theorem execPstateHearth_fuses (ch : Channel) (w : Word) (s : State) : Answer.fuses (execPstateHearth ch w s) s :=
  Answer.fuses_next (State.writeAt_fuses _ _ _ _ _ _)

@[simp] theorem execFaultReboot_fuses (ch : Channel) (w : Word) (s : State) : Answer.fuses (execFaultReboot ch w s) s :=
  Answer.fuses_next (State.trigger_fuses _ _ _ _ _ _)

@[simp] theorem execFaultClear_fuses (ch : Channel) (w : Word) (s : State) : Answer.fuses (execFaultClear ch w s) s :=
  Answer.fuses_next (State.writeAt_fuses _ _ _ _ _ _)

@[simp] theorem execFaultInject_fuses (ch : Channel) (w : Word) (s : State) : Answer.fuses (execFaultInject ch w s) s :=
  Answer.fuses_next (State.trigger_fuses _ _ _ _ _ _)

@[simp] theorem execLifecycleAdvance_fuses (ch : Channel) (w : Word) (s : State) : Answer.fuses (execLifecycleAdvance ch w s) s :=
  Answer.fuses_next (State.trigger_fuses _ _ _ _ _ _)

@[simp] theorem execKeyProgram_fuses (ch : Channel) (w : Word) (s : State) : Answer.fuses (execKeyProgram ch w s) s :=
  Answer.fuses_next (State.trigger_fuses _ _ _ _ _ _)

@[simp] theorem execKeyRevoke_fuses (ch : Channel) (w : Word) (s : State) : Answer.fuses (execKeyRevoke ch w s) s :=
  Answer.fuses_next (State.trigger_fuses _ _ _ _ _ _)

@[simp] theorem execSessionOpen_fuses (ch : Channel) (w : Word) (s : State) : Answer.fuses (execSessionOpen ch w s) s :=
  Answer.fuses_next (State.trigger_fuses _ _ _ _ _ _)

@[simp] theorem execSessionClose_fuses (ch : Channel) (w : Word) (s : State) : Answer.fuses (execSessionClose ch w s) s :=
  Answer.fuses_next (State.trigger_fuses _ _ _ _ _ _)

@[simp] theorem execNonceRenew_fuses (ch : Channel) (w : Word) (s : State) : Answer.fuses (execNonceRenew ch w s) s :=
  Answer.fuses_next (State.trigger_fuses _ _ _ _ _ _)

@[simp] theorem execBootConfirm_fuses (ch : Channel) (w : Word) (s : State) : Answer.fuses (execBootConfirm ch w s) s :=
  Answer.fuses_next (State.trigger_fuses _ _ _ _ _ _)

@[simp] theorem execSvnCommit_fuses (ch : Channel) (w : Word) (s : State) : Answer.fuses (execSvnCommit ch w s) s :=
  Answer.fuses_next (State.trigger_fuses _ _ _ _ _ _)

@[simp] theorem execCompatPendingWrite_fuses (ch : Channel) (w : Word) (s : State) : Answer.fuses (execCompatPendingWrite ch w s) s :=
  Answer.fuses_next (State.writeAt_fuses _ _ _ _ _ _)

@[simp] theorem execEqEntryWrite_fuses (ch : Channel) (e : Nat) (w : Word) (s : State) : Answer.fuses (execEqEntryWrite ch e w s) s :=
  onEntry_fuses (State.writeAt_fuses _ _ _ _ _ _)

@[simp] theorem execFenceLift_fuses (ch : Channel) (hi : Bool) (w : Word) (s : State) : Answer.fuses (execFenceLift ch hi w s) s :=
  Answer.fuses_next (State.writeAt_fuses _ _ _ _ _ _)

@[simp] theorem execPairSet_fuses (ch : Channel) (port : Nat) (w : Word) (s : State) : Answer.fuses (execPairSet ch port w s) s :=
  withPort_fuses (State.trigger_fuses _ _ _ _ _ _)

end Sys2Proof.Machine
end

