-- ==== Sys2Proof/Laws/LinesFrame.lean ====
section
/-! SUPPORT. Which operations leave the field `lines` of the state alone. -/

namespace Sys2Proof.Machine

/-! ### Ops -/

@[simp] theorem when_lines (c : Bool) (f : State → State) (s : State) (hf : ∀ x0, (f x0).lines = x0.lines) :
    (when c f s).lines = s.lines := by
  simp [when, hf]

@[simp] theorem State.draw_lines (s : State) :
    (State.draw s).2.lines = s.lines := by
  simp [State.draw]

@[simp] theorem State.setSession_lines (s : State) (c : Nat) (x : Session) :
    (State.setSession s c x).lines = s.lines := by
  simp [State.setSession]

/-! ### Seal -/

@[simp] theorem State.setResult_lines (s : State) (p : Page) (i : Nat) (r : Nat) :
    (State.setResult s p i r).lines = s.lines := by
  simp [State.setResult]

@[simp] theorem State.dropPost_lines (s : State) (p : Page) (i : Nat) :
    (State.dropPost s p i).lines = s.lines := by
  simp [State.dropPost]

@[simp] theorem State.finishPost_lines (s : State) (p : Page) (i : Nat) (r : Nat) :
    (State.finishPost s p i r).lines = s.lines := by
  simp [State.finishPost]

@[simp] theorem State.setPhase_lines (s : State) (p : Page) (i : Nat) (ph : PostPhase) (target : Option Nat) :
    (State.setPhase s p i ph target).lines = s.lines := by
  simp [State.setPhase]

@[simp] theorem State.regridPosts_lines (s : State) (sel : Post → Bool) (now : Nat) :
    (State.regridPosts s sel now).lines = s.lines := by
  unfold State.regridPosts
  refine foldl_lines _ (fun s x => ?_) _ _
  try dsimp only
  (repeat' split) <;> simp

@[simp] theorem State.landLocks_lines (s : State) (locks : List (Page × Nat × Nat)) :
    (State.landLocks s locks).lines = s.lines := by
  simp [State.landLocks]

@[simp] theorem State.endRun_lines (s : State) (r : Nat) :
    (State.endRun s r).lines = s.lines := by
  simp [State.endRun]

@[simp] theorem State.dismissMembers_lines (s : State) (r : Nat) :
    (State.dismissMembers s r).lines = s.lines := by
  simp [State.dismissMembers]

@[simp] theorem State.withdrawRun_lines (s : State) :
    (State.withdrawRun s).lines = s.lines := by
  unfold State.withdrawRun
  refine foldl_lines _ (fun s x => ?_) _ _
  try dsimp only
  (repeat' split) <;> simp

@[simp] theorem State.refusePosts_lines (s : State) (sel : Post → Bool) :
    (State.refusePosts s sel).lines = s.lines := by
  simp [State.refusePosts]

@[simp] theorem State.abortNeg_lines (s : State) (port : Nat) :
    (State.abortNeg s port).lines = s.lines := by
  simp [State.abortNeg]

@[simp] theorem State.propose_lines (s : State) (port : Nat) (target : Nat) (cs : List Change) :
    (State.propose s port target cs).lines = s.lines := by
  unfold State.propose; split <;> simp

/-! ### Bounds -/

@[simp] theorem State.refreshPort_lines (s : State) (p : Nat) :
    (State.refreshPort s p).lines = s.lines := by
  simp [State.refreshPort]

@[simp] theorem State.refreshPorts_lines (s : State) :
    (State.refreshPorts s).lines = s.lines := by
  simp [State.refreshPorts]

@[simp] theorem State.showRoundTrip_lines (s : State) (p : Nat) :
    (State.showRoundTrip s p).lines = s.lines := by
  simp [State.showRoundTrip]

@[simp] theorem State.showTable_lines (s : State) (l : Nat) :
    (State.showTable s l).lines = s.lines := by
  simp [State.showTable]

/-! ### Chain -/

@[simp] theorem State.startTx_lines (s : State) (l : Nat) (netid : Nat) (p : ReachPkt) :
    (State.startTx s l netid p).lines = s.lines := by
  simp [State.startTx]

@[simp] theorem State.showDetectors_lines (s : State) (l : Nat) :
    (State.showDetectors s l).lines = s.lines := by
  simp [State.showDetectors]

@[simp] theorem State.detect_lines (s : State) (l : Nat) (p : Rat) :
    (State.detect s l p).lines = s.lines := by
  simp [State.detect]

@[simp] theorem State.endBlock_lines (s : State) (l : Nat) :
    (State.endBlock s l).lines = s.lines := by
  simp [State.endBlock]

@[simp] theorem State.finishCapture_lines (s : State) (l : Nat) (reason : Nat) (ws : List Nat) :
    (State.finishCapture s l reason ws).lines = s.lines := by
  unfold State.finishCapture; split <;> simp

@[simp] theorem State.cutCapture_lines (s : State) (l : Nat) (reason : Nat) :
    (State.cutCapture s l reason).lines = s.lines := by
  unfold State.cutCapture; split <;> simp

@[simp] theorem State.landSync_lines (s : State) (l : Nat) :
    (State.landSync s l).lines = s.lines := by
  unfold State.landSync; split <;> simp

@[simp] theorem State.refreshOwner_lines (s : State) (l : Nat) :
    (State.refreshOwner s l).lines = s.lines := by
  simp [State.refreshOwner]

@[simp] theorem State.stopChain_lines (s : State) (l : Nat) :
    (State.stopChain s l).lines = s.lines := by
  simp [State.stopChain]

@[simp] theorem State.countFade_lines (s : State) (l : Nat) :
    (State.countFade s l).lines = s.lines := by
  simp [State.countFade]

@[simp] theorem State.captureSample_lines (s : State) (l : Nat) (back : Nat) (y : Cx) :
    (State.captureSample s l back y).lines = s.lines := by
  unfold State.captureSample; split <;> simp

@[simp] theorem State.emit_lines (s : State) (l : Nat) (back : Nat) (y : Cx) :
    (State.emit s l back y).lines = s.lines := by
  simp [State.emit]

@[simp] theorem State.feedSample_lines (s : State) (l : Nat) (back : Nat) (code : Int) :
    (State.feedSample s l back code).lines = s.lines := by
  simp [State.feedSample]

@[simp] theorem State.feed_lines (s : State) (l : Nat) (adc : List Int) :
    (State.feed s l adc).lines = s.lines := by
  simp [State.feed]

/-! ### Lines -/

@[simp] theorem State.setErase_lines (s : State) (l : Nat) (mask : Nat) :
    (State.setErase s l mask).lines = s.lines := by
  simp [State.setErase]

@[simp] theorem State.refreshErase_lines (s : State) (l : Nat) :
    (State.refreshErase s l).lines = s.lines := by
  unfold State.refreshErase; (repeat' split) <;> simp

@[simp] theorem State.startErasure_lines (s : State) (tag : Nat) :
    (State.startErasure s tag).lines = s.lines := by
  simp [State.startErasure]

@[simp] theorem State.moveErase_lines (s : State) (l : Nat) (old : LineState) :
    (State.moveErase s l old).lines = s.lines := by
  unfold State.moveErase; (repeat' split) <;> simp

@[simp] theorem State.setRmask_lines (s : State) (l : Nat) (mask : Nat) :
    (State.setRmask s l mask).lines = s.lines := by
  simp [State.setRmask]

@[simp] theorem State.setDac_lines (s : State) (l : Nat) (x : DacInput) :
    (State.setDac s l x).lines = s.lines := by
  simp [State.setDac]

@[simp] theorem State.refreshDacs_lines (s : State) :
    (State.refreshDacs s).lines = s.lines := by
  simp [State.refreshDacs]

@[simp] theorem State.askPort_lines (s : State) (master : Nat) :
    (State.askPort s master).lines = s.lines := by
  simp [State.askPort]

@[simp] theorem State.wantClear_lines (s : State) (l : Nat) :
    (State.wantClear s l).lines = s.lines := by
  simp [State.wantClear]

@[simp] theorem State.noteReason_lines (s : State) (l : Nat) (reason : Nat) :
    (State.noteReason s l reason).lines = s.lines := by
  simp [State.noteReason]

@[simp] theorem State.noteRotated_lines (s : State) (l : Nat) :
    (State.noteRotated s l).lines = s.lines := by
  simp [State.noteRotated]

@[simp] theorem State.queueJoin_lines (s : State) (port : Nat) :
    (State.queueJoin s port).lines = s.lines := by
  simp [State.queueJoin]

@[simp] theorem State.unqueueJoin_lines (s : State) (port : Nat) :
    (State.unqueueJoin s port).lines = s.lines := by
  simp [State.unqueueJoin]

@[simp] theorem State.countLost_lines (s : State) (p : Nat) (n : Nat) :
    (State.countLost s p n).lines = s.lines := by
  simp [State.countLost]

@[simp] theorem State.emptyPort_lines (s : State) (port : Nat) :
    (State.emptyPort s port).lines = s.lines := by
  simp [State.emptyPort]

@[simp] theorem State.leftShowtime_lines (s : State) (l : Nat) :
    (State.leftShowtime s l).lines = s.lines := by
  simp [State.leftShowtime]

@[simp] theorem State.endWake_lines (s : State) (p : Nat) :
    (State.endWake s p).lines = s.lines := by
  simp [State.endWake]

@[simp] theorem State.noteExit_lines (s : State) (l : Nat) (reason : Nat) :
    (State.noteExit s l reason).lines = s.lines := by
  simp [State.noteExit]

@[simp] theorem State.proposeTables_lines (s : State) (l target : Nat) :
    (State.proposeTables s l target).lines = s.lines := by
  unfold State.proposeTables; dsimp only; (repeat' split) <;> simp

/-! ### Matrix -/

@[simp] theorem State.setCoef_lines (s : State) (key : Nat) (c : Int × Int) :
    (State.setCoef s key c).lines = s.lines := by
  simp [State.setCoef]

@[simp] theorem State.writeCoef_lines (s : State) (m : Nat) (k : Nat) (v : Nat) (d : Nat) (c : Int × Int) :
    (State.writeCoef s m k v d c).lines = s.lines := by
  simp [State.writeCoef]

@[simp] theorem State.updateCoef_lines (s : State) (key : Nat) (re : Int) (im : Int) :
    (State.updateCoef s key re im).lines = s.lines := by
  simp [State.updateCoef]

@[simp] theorem State.addCoef_lines (s : State) (key : Nat) (re : Int) (im : Int) :
    (State.addCoef s key re im).lines = s.lines := by
  simp [State.addCoef]

@[simp] theorem State.clearEntries_lines (s : State) (l : Nat) :
    (State.clearEntries s l).lines = s.lines := by
  simp [State.clearEntries]

@[simp] theorem State.landNxt_lines (s : State) :
    (State.landNxt s).lines = s.lines := by
  simp [State.landNxt]

@[simp] theorem State.countSkips_lines (s : State) (n : Nat) :
    (State.countSkips s n).lines = s.lines := by
  simp [State.countSkips]

@[simp] theorem State.stepNorm_lines (s : State) (k : Nat) :
    (State.stepNorm s k).lines = s.lines := by
  simp [State.stepNorm]

@[simp] theorem State.addIncs_lines (s : State) (incs : List (Nat × Cx)) (factor : Nat) :
    (State.addIncs s incs factor).lines = s.lines := by
  simp [State.addIncs]

@[simp] theorem State.landPrdIncs_lines (s : State) (incs : List (Nat × Cx)) (k : Nat) :
    (State.landPrdIncs s incs k).lines = s.lines := by
  simp [State.landPrdIncs]

@[simp] theorem State.corrected_lines (s : State) :
    (State.corrected s).lines = s.lines := by
  simp [State.corrected]

@[simp] theorem State.recoverEntry_lines (s : State) (m : Nat) (index : Nat) :
    (State.recoverEntry s m index).lines = s.lines := by
  simp [State.recoverEntry]

@[simp] theorem State.showUe_lines (s : State) (m : Nat) (index : Nat) :
    (State.showUe s m index).lines = s.lines := by
  simp [State.showUe]

@[simp] theorem State.uncorrectable_lines (s : State) (m : Nat) (index : Nat) :
    (State.uncorrectable s m index).lines = s.lines := by
  simp [State.uncorrectable]

@[simp] theorem State.recoveryCheck_lines (s : State) :
    (State.recoveryCheck s).lines = s.lines := by
  simp [State.recoveryCheck]

@[simp] theorem State.releasePort_lines (s : State) (master : Nat) :
    (State.releasePort s master).lines = s.lines := by
  simp [State.releasePort]

/-! ### Ports -/

@[simp] theorem State.landMask_lines (s : State) (l : Nat) :
    (State.landMask s l).lines = s.lines := by
  simp [State.landMask]

@[simp] theorem State.applyProfile_lines (s : State) (p : Nat) :
    (State.applyProfile s p).lines = s.lines := by
  simp [State.applyProfile]

@[simp] theorem State.rescaleNxt_lines (s : State) (l : Nat) (row : Bool) (r : Rat) :
    (State.rescaleNxt s l row r).lines = s.lines := by
  simp [State.rescaleNxt]

@[simp] theorem State.setPga_lines (s : State) (l : Nat) (v : Nat) :
    (State.setPga s l v).lines = s.lines := by
  simp [State.setPga]

@[simp] theorem State.setRange_lines (s : State) (l : Nat) (v : Nat) :
    (State.setRange s l v).lines = s.lines := by
  simp [State.setRange]

@[simp] theorem State.adoptProfile_lines (s : State) (p : Nat) (ours : Bool) (a3 : Change) :
    (State.adoptProfile s p ours a3).lines = s.lines := by
  unfold State.adoptProfile; split <;> simp

/-! ### Secy -/

@[simp] theorem State.refreshFill_lines (s : State) (p : Nat) :
    (State.refreshFill s p).lines = s.lines := by
  unfold State.refreshFill; dsimp only; (repeat' split) <;> simp

@[simp] theorem State.sendControl_lines (s : State) (p : Nat) (cap : Nat) (b : Block) :
    (State.sendControl s p cap b).lines = s.lines := by
  simp [State.sendControl]

@[simp] theorem State.secyCount_lines (s : State) (p : Nat) (i : Nat) :
    (State.secyCount s p i).lines = s.lines := by
  simp [State.secyCount]

@[simp] theorem State.setSa_lines (s : State) (p : Nat) (a : Nat) (x : Sa) :
    (State.setSa s p a x).lines = s.lines := by
  simp [State.setSa]

@[simp] theorem State.reachPn_lines (s : State) (p : Nat) (a : Nat) (sa : Sa) :
    (State.reachPn s p a sa).lines = s.lines := by
  unfold State.reachPn; dsimp only; (repeat' split) <;> simp

@[simp] theorem State.landSas_lines (s : State) (p : Nat) (tx : Bool) :
    (State.landSas s p tx).lines = s.lines := by
  unfold State.landSas; dsimp only; split <;> simp

@[simp] theorem State.secyOut_lines (s : State) (p : Nat) (f : List Block) :
    (State.secyOut s p f).2.lines = s.lines := by
  unfold State.secyOut; dsimp only; (repeat' split) <;> simp

@[simp] theorem State.secyFail_lines (s : State) (p : Nat) (i : Nat) (f : List Block) :
    (State.secyFail s p i f).2.lines = s.lines := by
  simp [State.secyFail]

@[simp] theorem State.secyIn_lines (s : State) (p : Nat) (f : List Block) :
    (State.secyIn s p f).2.lines = s.lines := by
  unfold State.secyIn; dsimp only; (repeat' split) <;> simp

@[simp] theorem State.offerBlock_lines (s : State) (p : Nat) (cap : Nat) (F : Fld) (c : Nat) (b : Block) :
    (State.offerBlock s p cap F c b).lines = s.lines := by
  simp [State.offerBlock]

@[simp] theorem State.intoIngress_lines (s : State) (p : Nat) (bs : List Block) :
    (State.intoIngress s p bs).lines = s.lines := by
  simp [State.intoIngress]

@[simp] theorem State.fromHost_lines (s : State) (p : Nat) (b : Block) :
    (State.fromHost s p b).lines = s.lines := by
  simp [State.fromHost]

@[simp] theorem State.toHost_lines (s : State) (p : Nat) (bs : List Block) :
    (State.toHost s p bs).lines = s.lines := by
  simp [State.toHost]

@[simp] theorem State.pastSecy_lines (s : State) (p : Nat) (b : Block) :
    (State.pastSecy s p b).lines = s.lines := by
  simp [State.pastSecy]

@[simp] theorem State.deliver_lines (s : State) (p : Nat) (bs : List Block) :
    (State.deliver s p bs).lines = s.lines := by
  simp [State.deliver]

/-! ### Pace -/

@[simp] theorem State.lowerIssue_lines (s : State) (p : Nat) :
    (State.lowerIssue s p).lines = s.lines := by
  unfold State.lowerIssue; split <;> simp

/-! ### Framing -/

@[simp] theorem State.spentDtus_lines (s : State) (p : Nat) :
    (State.spentDtus s p).lines = s.lines := by
  simp [State.spentDtus]

@[simp] theorem State.nextDtu_lines (s : State) (p : Nat) :
    (State.nextDtu s p).2.lines = s.lines := by
  unfold State.nextDtu; dsimp only; (repeat' split) <;> simp

@[simp] theorem State.fillBulk_lines (a0 : Nat) (a1 : Nat) (a2 : Nat) (a3 : State) :
    (State.fillBulk a0 a1 a2 a3).lines = a3.lines := by
  induction a0 generalizing a3 with
  | zero => rfl
  | succ n ih =>
    unfold State.fillBulk
    try dsimp only
    (repeat' split) <;> simp [ih]

@[simp] theorem State.portBits_lines (s : State) (p : Nat) :
    (State.portBits s p).2.lines = s.lines := by
  unfold State.portBits
  try dsimp only
  (repeat' split) <;> simp

@[simp] theorem State.ageDtus_lines (s : State) (p : Nat) (b : Nat) :
    (State.ageDtus s p b).lines = s.lines := by
  simp [State.ageDtus]

@[simp] theorem State.countError_lines (s : State) (p : Nat) :
    (State.countError s p).lines = s.lines := by
  simp [State.countError]

@[simp] theorem State.countCodeword_lines (s : State) (p : Nat) (fixed : Bool) (ok : Bool) :
    (State.countCodeword s p fixed ok).lines = s.lines := by
  simp [State.countCodeword]

@[simp] theorem State.drainExpress_lines (a0 : Nat) (a1 : Nat) (a2 : State) :
    (State.drainExpress a0 a1 a2).lines = a2.lines := by
  induction a0 generalizing a2 with
  | zero => rfl
  | succ n ih =>
    unfold State.drainExpress
    try dsimp only
    (repeat' split) <;> simp [ih]

@[simp] theorem State.rxExpress_lines (s : State) (p : Nat) (l : List Rat) :
    (State.rxExpress s p l).lines = s.lines := by
  unfold State.rxExpress
  refine (State.drainExpress_lines _ _ _).trans (foldl_lines _ (fun s x => ?_) _ _)
  rw [State.modPort_lines, State.countCodeword_lines]

@[simp] theorem State.releaseDtus_lines (a0 : Nat) (a1 : Nat) (a2 : State) :
    (State.releaseDtus a0 a1 a2).lines = a2.lines := by
  induction a0 generalizing a2 with
  | zero => rfl
  | succ n ih =>
    unfold State.releaseDtus
    try dsimp only
    (repeat' split) <;> simp [ih]

@[simp] theorem State.rxDtu_lines (s : State) (p : Nat) (d : Dtu) :
    (State.rxDtu s p d).lines = s.lines := by
  unfold State.rxDtu
  try dsimp only
  (repeat' split) <;> simp

@[simp] theorem State.rxBulk_lines (a0 : Nat) (a1 : Nat) (a2 : State) :
    (State.rxBulk a0 a1 a2).lines = a2.lines := by
  induction a0 generalizing a2 with
  | zero => rfl
  | succ n ih =>
    unfold State.rxBulk
    dsimp only
    split
    · simp [ih]
    · split
      · rw [ih]
        split <;> simp
      · rfl

@[simp] theorem State.giveUpDtu_lines (s : State) (p : Nat) :
    (State.giveUpDtu s p).lines = s.lines := by
  unfold State.giveUpDtu
  rw [State.releaseDtus_lines, State.modPort_lines, State.pulse_lines, State.countLost_lines,
    State.countError_lines, State.deliver_lines]

@[simp] theorem State.takeAck_lines (s : State) (p : Nat) (seq : Nat) (map : Nat) :
    (State.takeAck s p seq map).lines = s.lines := by
  unfold State.takeAck
  dsimp only
  split
  · rfl
  · rw [State.modPort_lines]

@[simp] theorem State.rxSymbol_lines (s : State) (p : Nat) (l : List RxTone) :
    (State.rxSymbol s p l).lines = s.lines := by
  simp [State.rxSymbol]

/-! ### Overhead -/

@[simp] theorem State.proposeSra_lines (s : State) (l : Nat) :
    (State.proposeSra s l).lines = s.lines := by
  unfold State.proposeSra; dsimp only; (repeat' split) <;> simp

/-! ### Signal -/

@[simp] theorem State.sendData_lines (s : State) (n : Nat) :
    (State.sendData s n).2.lines = s.lines := by
  unfold State.sendData
  generalize List.filter _ _ = l
  suffices h : ∀ (l : List Nat) (st : Store Cx × State), st.2.lines = s.lines →
      (l.foldl (fun (st : Store Cx × State) p =>
        let b := st.2.portBits p
        let x := b.2.placeSymbol p n b.1
        let sent := x.1.filter fun e => s.isVTail (e.1 / 128) || s.isActive (e.1 / 128)
        (sent.foldl (fun m e => Store.set m Cx.zero e.1 e.2) st.1,
          (b.2.modPort p fun y => { y with txScr := x.2 }).ageDtus p b.1.length)) st).2.lines = s.lines from
    h l ([], s) rfl
  intro l
  induction l with
  | nil => intro st h; exact h
  | cons p l ih =>
    intro st h
    rw [List.foldl_cons]
    exact ih _ (by dsimp only; rw [State.ageDtus_lines, State.modPort_lines, State.portBits_lines, h])

@[simp] theorem State.symbolX_lines (s : State) (n : Nat) :
    (State.symbolX s n).2.lines = s.lines := by
  unfold State.symbolX; split <;> simp

@[simp] theorem State.noteAmps_lines (s : State) :
    (State.noteAmps s).lines = s.lines := by
  simp [State.noteAmps]

@[simp] theorem State.stampTx_lines (s : State) (e : TimedMessage) :
    (State.stampTx s e).lines = s.lines := by
  unfold State.stampTx; (repeat' split) <;> simp

@[simp] theorem State.takeCensus_lines (s : State) :
    (State.takeCensus s).lines = s.lines := by
  unfold State.takeCensus; split <;> simp

@[simp] theorem State.addC_lines (s : State) (key : Nat) (c : Cx) :
    (State.addC s key c).lines = s.lines := by
  simp [State.addC]

@[simp] theorem State.addPowerC_lines (s : State) (key : Nat) (c : Cx) :
    (State.addPowerC s key c).lines = s.lines := by
  simp [State.addPowerC]

@[simp] theorem State.joinPilot_lines (s : State) (first : Bool) (js : List Nat) (us : Store Cx) :
    (State.joinPilot s first js us).lines = s.lines := by
  unfold State.joinPilot
  refine foldl_lines _ (fun s d => ?_) _ _
  refine foldl_lines _ (fun s k => ?_) _ _
  dsimp only
  refine (foldl_lines _ (fun s j => ?_) _ _).trans ?_ <;> simp

@[simp] theorem State.joinData_lines (s : State) (n : Nat) (js : List Nat) (us vs : Store Cx) :
    (State.joinData s n js us vs).lines = s.lines := by
  unfold State.joinData
  refine foldl_lines _ (fun s d => ?_) _ _
  refine foldl_lines _ (fun s k => ?_) _ _
  dsimp only
  refine (foldl_lines _ (fun s j => ?_) _ _).trans ?_ <;> simp

@[simp] theorem State.joinSymbol_lines (s : State) (n : Nat) (us : Store Cx) (vs : Store Cx) :
    (State.joinSymbol s n us vs).lines = s.lines := by
  unfold State.joinSymbol; split <;> simp

@[simp] theorem State.receiveData_lines (s : State) (n : Nat) (got : List Nat) (vs : Store Cx) :
    (State.receiveData s n got vs).lines = s.lines := by
  simp [State.receiveData]

@[simp] theorem State.stampRx_lines (s : State) (e : TimedMessage) :
    (State.stampRx s e).lines = s.lines := by
  simp [State.stampRx]

@[simp] theorem State.takeFeedback_lines (s : State) (l : Nat) (i : Nat) (re : Option Nat) (im : Option Nat) :
    (State.takeFeedback s l i re im).lines = s.lines := by
  unfold State.takeFeedback; split <;> simp

@[simp] theorem State.endFrame_lines (s : State) (l : Nat) :
    (State.endFrame s l).lines = s.lines := by
  simp [State.endFrame]

@[simp] theorem State.proposeEntry_lines (s : State) (p : Nat) :
    (State.proposeEntry s p).lines = s.lines := by
  simp [State.proposeEntry]

/-! ### Xengine -/

@[simp] theorem State.endAwaiting_lines (s : State) (m : Nat) (ks : List Nat) :
    (State.endAwaiting s m ks).lines = s.lines := by
  simp [State.endAwaiting]

@[simp] theorem State.landFxuTone_lines (s : State) (ls : List Nat) (k : Nat) :
    (State.landFxuTone s ls k).lines = s.lines := by
  simp [State.landFxuTone]

@[simp] theorem State.landPrd_lines (s : State) (ls : List Nat) (k : Nat) :
    (State.landPrd s ls k).lines = s.lines := by
  simp [State.landPrd]

@[simp] theorem State.storeEstimate_lines (s : State) (m : Nat) (k : Nat) (v : Nat) (d : Nat) (c : Cx) :
    (State.storeEstimate s m k v d c).lines = s.lines := by
  simp [State.storeEstimate]

@[simp] theorem State.joinWritten_lines (s : State) (j : Join) (phase : JoinPhase) (more : Bool) :
    (State.joinWritten s j phase more).lines = s.lines := by
  simp [State.joinWritten]

@[simp] theorem State.writeColumns_lines (s : State) (j : Join) :
    (State.writeColumns s j).lines = s.lines := by
  unfold State.writeColumns
  refine foldl_lines _ (fun s d => ?_) _ _
  refine foldl_lines _ (fun s v => ?_) _ _
  refine foldl_lines _ (fun s k => ?_) _ _
  simp

@[simp] theorem State.writeFxu_lines (s : State) (j : Join) :
    (State.writeFxu s j).lines = s.lines := by
  unfold State.writeFxu
  refine foldl_lines _ (fun s d => ?_) _ _
  refine foldl_lines _ (fun s k => ?_) _ _
  dsimp only
  refine (foldl_lines _ (fun s j => ?_) _ _).trans ?_
  · simp
  · refine foldl_lines _ (fun s j => ?_) _ _
    simp

@[simp] theorem State.writeJoinPrd_lines (s : State) (j : Join) :
    (State.writeJoinPrd s j).lines = s.lines := by
  unfold State.writeJoinPrd
  refine foldl_lines _ (fun s d => ?_) _ _
  refine foldl_lines _ (fun s v => ?_) _ _
  refine foldl_lines _ (fun s k => ?_) _ _
  simp

@[simp] theorem State.showWaiting_lines (s : State) :
    (State.showWaiting s).lines = s.lines := by
  simp [State.showWaiting]

@[simp] theorem State.startCensus_lines (s : State) (dir : Nat) (l : Nat) :
    (State.startCensus s dir l).lines = s.lines := by
  simp [State.startCensus]

@[simp] theorem State.finishXw_lines (s : State) (status : Nat) (ce : Nat) :
    (State.finishXw s status ce).lines = s.lines := by
  simp [State.finishXw]

@[simp] theorem State.blankXw_lines (s : State) :
    (State.blankXw s).lines = s.lines := by
  simp [State.blankXw]

@[simp] theorem State.startXw_lines (s : State) (write : Bool) (master : Nat) :
    (State.startXw s write master).lines = s.lines := by
  simp [State.startXw]

@[simp] theorem State.captureRow_lines (s : State) (r : XwRequest) (bad : List (Nat × Bool)) :
    (State.captureRow s r bad).lines = s.lines := by
  simp [State.captureRow]

@[simp] theorem State.dropRow_lines (s : State) (r : XwRequest) :
    (State.dropRow s r).lines = s.lines := by
  simp [State.dropRow]

@[simp] theorem State.landRow_lines (s : State) (r : XwRequest) :
    (State.landRow s r).lines = s.lines := by
  simp [State.landRow]

/-! ### BringUp -/

@[simp] theorem State.recordPartner_lines (s : State) (l : Nat) (m : List Nat) :
    (State.recordPartner s l m).lines = s.lines := by
  simp [State.recordPartner]

@[simp] theorem State.watchSnr_lines (s : State) (l : Nat) :
    (State.watchSnr s l).lines = s.lines := by
  unfold State.watchSnr; dsimp only; (repeat' split) <;> simp

@[simp] theorem State.proposeBank_lines (s : State) (p : Nat) :
    (State.proposeBank s p).lines = s.lines := by
  simp [State.proposeBank]

/-! ### Monitor -/

@[simp] theorem State.armSync_lines (s : State) (l : Nat) (src : Nat) :
    (State.armSync s l src).lines = s.lines := by
  simp [State.armSync]

@[simp] theorem State.cancelSync_lines (s : State) (l : Nat) :
    (State.cancelSync s l).lines = s.lines := by
  simp [State.cancelSync]

@[simp] theorem State.swapBanks_lines (s : State) (l : Nat) :
    (State.swapBanks s l).lines = s.lines := by
  simp [State.swapBanks]

@[simp] theorem State.startCapture_lines (s : State) (l : Nat) :
    (State.startCapture s l).lines = s.lines := by
  simp [State.startCapture]

@[simp] theorem State.clearAll_lines (s : State) (fs : List Fld) (l : Nat) :
    (State.clearAll s fs l).lines = s.lines := by
  simp [State.clearAll]

@[simp] theorem State.restartWatch_lines (s : State) (l : Nat) :
    (State.restartWatch s l).lines = s.lines := by
  simp [State.restartWatch]

@[simp] theorem State.clearCounters_lines (s : State) (l : Nat) :
    (State.clearCounters s l).lines = s.lines := by
  simp [State.clearCounters]

@[simp] theorem State.portSecond_lines (s : State) (p : Nat) :
    (State.portSecond s p).lines = s.lines := by
  simp [State.portSecond]

@[simp] theorem State.setSlot_lines (s : State) (c : Nat) (kind : Nat) (l : Nat) :
    (State.setSlot s c kind l).lines = s.lines := by
  simp [State.setSlot]

@[simp] theorem State.freeSlot_lines (s : State) (l : Nat) :
    (State.freeSlot s l).lines = s.lines := by
  simp [State.freeSlot]

@[simp] theorem State.blankReflect_lines (s : State) (l : Nat) :
    (State.blankReflect s l).lines = s.lines := by
  simp [State.blankReflect]

@[simp] theorem State.endReflect_lines (s : State) (l : Nat) (reason : Nat) :
    (State.endReflect s l reason).lines = s.lines := by
  simp [State.endReflect]

@[simp] theorem State.startReflect_lines (s : State) (l : Nat) :
    (State.startReflect s l).lines = s.lines := by
  simp [State.startReflect]

@[simp] theorem State.interruptReflect_lines (s : State) (l : Nat) :
    (State.interruptReflect s l).lines = s.lines := by
  simp [State.interruptReflect]

@[simp] theorem State.landReflect_lines (s : State) (l : Nat) (r : ReflX) (run : ReflectRun) :
    (State.landReflect s l r run).lines = s.lines := by
  simp [State.landReflect]

/-! ### Cal -/

@[simp] theorem State.markDue_lines (s : State) (l : Nat) (source : Nat) (moment : Nat) (full : Bool) :
    (State.markDue s l source moment full).lines = s.lines := by
  simp [State.markDue]

@[simp] theorem State.temperatureDue_lines (s : State) :
    (State.temperatureDue s).lines = s.lines := by
  simp [State.temperatureDue]

@[simp] theorem State.factoryValues_lines (s : State) (l : Nat) :
    (State.factoryValues s l).lines = s.lines := by
  simp [State.factoryValues]

@[simp] theorem State.giveUpCal_lines (s : State) (l : Nat) :
    (State.giveUpCal s l).lines = s.lines := by
  simp [State.giveUpCal]

@[simp] theorem State.endCal_lines (s : State) (l : Nat) (reason : Nat) :
    (State.endCal s l reason).lines = s.lines := by
  simp [State.endCal]

@[simp] theorem State.showMeasured_lines (s : State) (l : Nat) (both : Bool) :
    (State.showMeasured s l both).lines = s.lines := by
  unfold State.showMeasured; dsimp only; (repeat' split) <;> simp

@[simp] theorem State.cutRun_lines (s : State) (l reason : Nat) :
    (State.cutRun s l reason).lines = s.lines := by
  simp [State.cutRun]

@[simp] theorem State.stopCal_lines (s : State) (l : Nat) (reason : Nat) :
    (State.stopCal s l reason).lines = s.lines := by
  simp [State.stopCal]

@[simp] theorem State.beginCal_lines (s : State) (l : Nat) (st : Nat) :
    (State.beginCal s l st).lines = s.lines := by
  simp [State.beginCal]

@[simp] theorem State.sweepGaps_lines (s : State) :
    (State.sweepGaps s).lines = s.lines := by
  unfold State.sweepGaps
  refine foldl_lines _ (fun s x => ?_) _ _
  try dsimp only
  (repeat' split) <;> simp

@[simp] theorem State.requestCal_lines (s : State) (l : Nat) :
    (State.requestCal s l).lines = s.lines := by
  simp [State.requestCal]

@[simp] theorem State.requestAll_lines (s : State) :
    (State.requestAll s).lines = s.lines := by
  simp [State.requestAll]

@[simp] theorem State.calValues_lines (s : State) (l : Nat) (full : Bool) (r : CalResult) :
    (State.calValues s l full r).2.lines = s.lines := by
  simp [State.calValues]

@[simp] theorem State.showCal_lines (s : State) (l : Nat) (v : CalValues) (r : CalResult) :
    (State.showCal s l v r).lines = s.lines := by
  simp [State.showCal]

@[simp] theorem State.completeCal_lines (s : State) (l : Nat) (r : CalResult) :
    (State.completeCal s l r).lines = s.lines := by
  simp [State.completeCal]

@[simp] theorem State.startPowerup_lines (s : State) (c : Nat) :
    (State.startPowerup s c).lines = s.lines := by
  simp [State.startPowerup]

/-! ### Lanes -/

@[simp] theorem State.sortPort_lines (s : State) (p : Nat) :
    (State.sortPort s p).lines = s.lines := by
  simp [State.sortPort]

@[simp] theorem State.sortLane_lines (s : State) (l : Nat) :
    (State.sortLane s l).lines = s.lines := by
  simp [State.sortLane]

@[simp] theorem State.darkenStd_lines (s : State) (p : Nat) :
    (State.darkenStd s p).lines = s.lines := by
  unfold State.darkenStd; (repeat' split) <;> simp

@[simp] theorem State.flushStd_lines (s : State) (p : Nat) :
    (State.flushStd s p).lines = s.lines := by
  unfold State.flushStd; (repeat' split) <;> simp

@[simp] theorem State.zeroStamps_lines (s : State) (p : Nat) :
    (State.zeroStamps s p).lines = s.lines := by
  simp [State.zeroStamps]

@[simp] theorem State.laneTo_lines (s : State) (l : Nat) (st : Nat) :
    (State.laneTo s l st).lines = s.lines := by
  simp [State.laneTo]

@[simp] theorem State.startLane_lines (s : State) (l : Nat) :
    (State.startLane s l).lines = s.lines := by
  simp [State.startLane]

@[simp] theorem State.stopLane_lines (s : State) (l : Nat) :
    (State.stopLane s l).lines = s.lines := by
  simp [State.stopLane]

@[simp] theorem State.restartLane_lines (s : State) (l : Nat) :
    (State.restartLane s l).lines = s.lines := by
  simp [State.restartLane]

@[simp] theorem State.retrainLane_lines (s : State) (l : Nat) :
    (State.retrainLane s l).lines = s.lines := by
  simp [State.retrainLane]

@[simp] theorem State.loopLane_lines (s : State) (l : Nat) :
    (State.loopLane s l).lines = s.lines := by
  simp [State.loopLane]

@[simp] theorem State.laneSends_lines (s : State) (l : Nat) (bs : List Block) :
    (State.laneSends s l bs).lines = s.lines := by
  simp [State.laneSends]

@[simp] theorem State.loseLane_lines (s : State) (l : Nat) (reason : Nat) (c : Nat) :
    (State.loseLane s l reason c).lines = s.lines := by
  simp [State.loseLane]

@[simp] theorem State.sendStamp_lines (s : State) (p : Nat) :
    (State.sendStamp s p).lines = s.lines := by
  simp [State.sendStamp]

@[simp] theorem State.grantStamp_lines (s : State) (p : Nat) :
    (State.grantStamp s p).lines = s.lines := by
  unfold State.grantStamp; (repeat' split) <;> simp

@[simp] theorem State.sendPause_lines (s : State) (p : Nat) (quanta : Nat) :
    (State.sendPause s p quanta).lines = s.lines := by
  simp [State.sendPause]

@[simp] theorem State.checkPause_lines (s : State) (p : Nat) :
    (State.checkPause s p).lines = s.lines := by
  simp [State.checkPause]

@[simp] theorem State.hostControl_lines (s : State) (l : Nat) (p : Nat) (b : Block) :
    (State.hostControl s l p b).lines = s.lines := by
  simp [State.hostControl]

@[simp] theorem State.noteStat_lines (s : State) (p : Nat) :
    (State.noteStat s p).lines = s.lines := by
  simp [State.noteStat]

@[simp] theorem State.takePeer_lines (s : State) (p : Nat) (up : Nat) (onward : Nat) (hops : Nat) :
    (State.takePeer s p up onward hops).lines = s.lines := by
  simp [State.takePeer]

@[simp] theorem State.syncBit_lines (s : State) (F : Fld) (c : Nat) (v : Nat) :
    (State.syncBit s F c v).lines = s.lines := by
  simp [State.syncBit]

@[simp] theorem State.syncFrame_lines (s : State) (sfc : Nat) :
    (State.syncFrame s sfc).lines = s.lines := by
  simp [State.syncFrame]

@[simp] theorem State.holdTrim_lines (s : State) (src : Nat) :
    (State.holdTrim s src).lines = s.lines := by
  simp [State.holdTrim]

@[simp] theorem State.syncMode_lines (s : State) :
    (State.syncMode s).lines = s.lines := by
  simp [State.syncMode]

/-! ### Isolation -/

@[simp] theorem State.landLetterbox_lines (s : State) (c : Nat) (tag : Nat) (status : Nat) (resp : List Nat) :
    (State.landLetterbox s c tag status resp).lines = s.lines := by
  simp [State.landLetterbox]

@[simp] theorem State.abortLetterbox_lines (s : State) :
    (State.abortLetterbox s).lines = s.lines := by
  simp [State.abortLetterbox]

@[simp] theorem State.restartStoker_lines (s : State) :
    (State.restartStoker s).lines = s.lines := by
  simp [State.restartStoker]

@[simp] theorem State.writeVx_lines (s : State) (mv : Nat) :
    (State.writeVx s mv).lines = s.lines := by
  simp [State.writeVx]

@[simp] theorem State.writeSlew_lines (s : State) :
    (State.writeSlew s).lines = s.lines := by
  simp [State.writeSlew]

@[simp] theorem State.slowTo_lines (s : State) (g : Nat) :
    (State.slowTo s g).lines = s.lines := by
  simp [State.slowTo]

@[simp] theorem State.speedTo_lines (s : State) (g : Nat) :
    (State.speedTo s g).lines = s.lines := by
  simp [State.speedTo]

@[simp] theorem State.emergencyP3_lines (s : State) :
    (State.emergencyP3 s).lines = s.lines := by
  simp [State.emergencyP3]

@[simp] theorem State.dropToP3_lines (s : State) :
    (State.dropToP3 s).lines = s.lines := by
  simp [State.dropToP3]

@[simp] theorem State.linesChanged_lines (s : State) (src : Nat) :
    (State.linesChanged s src).lines = s.lines := by
  simp [State.linesChanged]

@[simp] theorem State.markIsolated_lines (s : State) (src : Nat) :
    (State.markIsolated s src).lines = s.lines := by
  simp [State.markIsolated]

@[simp] theorem State.release_lines (s : State) (src : Nat) :
    (State.release s src).lines = s.lines := by
  simp [State.release]

@[simp] theorem State.isolateLane_lines (s : State) (l : Nat) :
    (State.isolateLane s l).lines = s.lines := by
  simp [State.isolateLane]

@[simp] theorem State.endHandling_lines (s : State) (src : Nat) :
    (State.endHandling s src).lines = s.lines := by
  simp [State.endHandling]

@[simp] theorem State.safeState_lines (s : State) :
    (State.safeState s).lines = s.lines := by
  simp [State.safeState]

@[simp] theorem State.raiseS3_lines (s : State) (code : Nat) (src : Nat) (addr : Nat) :
    (State.raiseS3 s code src addr).lines = s.lines := by
  simp [State.raiseS3]

/-! ### Landing -/

@[simp] theorem State.stage_lines (s : State) (F : Fld) (i : Nat) (j : Nat) (v : Nat) :
    (State.stage s F i j v).lines = s.lines := by
  simp [State.stage]

@[simp] theorem State.applyField_lines (s : State) (F : Fld) (i : Nat) (j : Nat) :
    (State.applyField s F i j).lines = s.lines := by
  unfold State.applyField; split <;> simp

@[simp] theorem State.emptyEnvelope_lines (s : State) (p : Page) (i : Nat) :
    (State.emptyEnvelope s p i).lines = s.lines := by
  simp [State.emptyEnvelope]

@[simp] theorem State.applyFields_lines (s : State) (p : Page) (i : Nat) :
    (State.applyFields s p i).lines = s.lines := by
  simp [State.applyFields]

@[simp] theorem State.refreshMaskWait_lines (s : State) (l : Nat) :
    (State.refreshMaskWait s l).lines = s.lines := by
  simp [State.refreshMaskWait]

@[simp] theorem State.dropPolls_lines (s : State) (l : Nat) :
    (State.dropPolls s l).lines = s.lines := by
  simp [State.dropPolls]

/-! ### Reach -/

@[simp] theorem State.reachPga_lines (s : State) (l : Nat) :
    (State.reachPga s l).lines = s.lines := by
  unfold State.reachPga; split <;> simp

@[simp] theorem State.reachProfile_lines (s : State) (l : Nat) :
    (State.reachProfile s l).lines = s.lines := by
  simp [State.reachProfile]

@[simp] theorem State.refreshQueue_lines (s : State) (l : Nat) :
    (State.refreshQueue s l).lines = s.lines := by
  simp [State.refreshQueue]

@[simp] theorem State.toReachHost_lines (s : State) (l : Nat) (bytes : List Nat) :
    (State.toReachHost s l bytes).lines = s.lines := by
  simp [State.toReachHost]

@[simp] theorem State.statusRecord_lines (s : State) (l : Nat) (addr : Nat) (seq : Nat) (code : Nat) :
    (State.statusRecord s l addr seq code).lines = s.lines := by
  simp [State.statusRecord]

@[simp] theorem State.startPacket_lines (s : State) (l : Nat) (c : ReachChoice) :
    (State.startPacket s l c).lines = s.lines := by
  simp [State.startPacket]

@[simp] theorem State.beginReception_lines (s : State) (l : Nat) (bin : Nat) (power : Int) :
    (State.beginReception s l bin power).lines = s.lines := by
  simp [State.beginReception]

@[simp] theorem State.noteEndpoint_lines (s : State) (l : Nat) (x : ReachRx) :
    (State.noteEndpoint s l x).lines = s.lines := by
  simp [State.noteEndpoint]

@[simp] theorem State.deliverPacket_lines (s : State) (l : Nat) (x : ReachRx) (payload : List Nat) :
    (State.deliverPacket s l x payload).lines = s.lines := by
  simp [State.deliverPacket]

@[simp] theorem State.goodPacket_lines (s : State) (l : Nat) (x : ReachRx) (payload : List Nat) :
    (State.goodPacket s l x payload).lines = s.lines := by
  simp [State.goodPacket]

@[simp] theorem State.closeWindow_lines (s : State) (l : Nat) :
    (State.closeWindow s l).lines = s.lines := by
  simp [State.closeWindow]

/-! ### Standard -/

@[simp] theorem State.refreshQuad_lines (s : State) (q : Nat) :
    (State.refreshQuad s q).lines = s.lines := by
  simp [State.refreshQuad]

@[simp] theorem State.clearLink_lines (s : State) (q : Nat) :
    (State.clearLink s q).lines = s.lines := by
  simp [State.clearLink]

@[simp] theorem State.startNegotiation_lines (s : State) (q : Nat) :
    (State.startNegotiation s q).lines = s.lines := by
  simp [State.startNegotiation]

@[simp] theorem State.startStandard_lines (s : State) (q : Nat) :
    (State.startStandard s q).lines = s.lines := by
  simp [State.startStandard]

@[simp] theorem State.loseLink_lines (s : State) (q : Nat) :
    (State.loseLink s q).lines = s.lines := by
  simp [State.loseLink]

@[simp] theorem State.restartNegotiation_lines (s : State) (q : Nat) :
    (State.restartNegotiation s q).lines = s.lines := by
  simp [State.restartNegotiation]

@[simp] theorem State.countPcs_lines (s : State) (q : Nat) (n : Nat) :
    (State.countPcs s q n).lines = s.lines := by
  simp [State.countPcs]

@[simp] theorem State.mmdRead_lines (s : State) (p : Nat) (mmd : Nat) (reg : Nat) :
    (State.mmdRead s p mmd reg).2.lines = s.lines := by
  unfold State.mmdRead; dsimp only; (repeat' split) <;> simp

@[simp] theorem State.advertise_lines (s : State) (q : Nat) (F : Fld) (v : Nat) (from' : List (Nat × Nat)) :
    (State.advertise s q F v from').lines = s.lines := by
  unfold State.advertise; (repeat' split) <;> simp

@[simp] theorem State.mmdWrite_lines (s : State) (p mmd reg v : Nat) :
    (State.mmdWrite s p mmd reg v).lines = s.lines := by
  unfold State.mmdWrite; dsimp only; (repeat' split) <;> simp

/-! ### Reset -/

@[simp] theorem State.carry_lines (new : State) (old : State) (i : Nat) (fs : List Fld) :
    (State.carry new old i fs).lines = new.lines := by
  simp [State.carry]

@[simp] theorem State.gateControl_lines (s : State) :
    (State.gateControl s).lines = s.lines := by
  unfold State.gateControl; dsimp only; (repeat' split) <;> simp

@[simp] theorem State.coldStart_lines (s : State) :
    (State.coldStart s).lines = s.lines := by
  simp [State.coldStart]

/-! ### Clocks -/

@[simp] theorem State.enterReduced_lines (s : State) :
    (State.enterReduced s).lines = s.lines := by
  simp [State.enterReduced]

@[simp] theorem State.refreshCmux_lines (s : State) :
    (State.refreshCmux s).lines = s.lines := by
  simp [State.refreshCmux]

@[simp] theorem State.setSuspect_lines (s : State) :
    (State.setSuspect s).lines = s.lines := by
  simp [State.setSuspect]

@[simp] theorem State.refreshTmux_lines (s : State) :
    (State.refreshTmux s).lines = s.lines := by
  simp [State.refreshTmux]

@[simp] theorem State.refreshClocks_lines (s : State) :
    (State.refreshClocks s).lines = s.lines := by
  simp [State.refreshClocks]

@[simp] theorem State.referenceLost_lines (s : State) :
    (State.referenceLost s).lines = s.lines := by
  simp [State.referenceLost]

@[simp] theorem State.loseSpll_lines (s : State) :
    (State.loseSpll s).lines = s.lines := by
  simp [State.loseSpll]

@[simp] theorem State.startPlls_lines (s : State) (ps : List Nat) :
    (State.startPlls s ps).lines = s.lines := by
  simp [State.startPlls]

@[simp] theorem State.koscGood_lines (s : State) :
    (State.koscGood s).lines = s.lines := by
  simp [State.koscGood]

@[simp] theorem State.koscBad_lines (s : State) :
    (State.koscBad s).lines = s.lines := by
  simp [State.koscBad]

@[simp] theorem State.landFreqmon_lines (s : State) (reason : Nat) (count : Nat) (hz : Nat) :
    (State.landFreqmon s reason count hz).lines = s.lines := by
  simp [State.landFreqmon]

@[simp] theorem State.startFreqmon_lines (s : State) :
    (State.startFreqmon s).lines = s.lines := by
  simp [State.startFreqmon]

@[simp] theorem State.advanceTime_lines (s : State) (n : Int) :
    (State.advanceTime s n).lines = s.lines := by
  simp [State.advanceTime]

@[simp] theorem State.timeTick_lines (s : State) :
    (State.timeTick s).lines = s.lines := by
  simp [State.timeTick]

@[simp] theorem State.landSet_lines (s : State) :
    (State.landSet s).lines = s.lines := by
  simp [State.landSet]

@[simp] theorem State.landAdd_lines (s : State) :
    (State.landAdd s).lines = s.lines := by
  simp [State.landAdd]

/-! ### Perf -/

@[simp] theorem State.unityNorm_lines (s : State) (nv : Nat) :
    (State.unityNorm s nv).lines = s.lines := by
  simp [State.unityNorm]

@[simp] theorem State.endAbove_lines (s : State) (nv : Nat) :
    (State.endAbove s nv).lines = s.lines := by
  simp [State.endAbove]

@[simp] theorem State.vectorNorm_lines (s : State) (ks : List Nat) :
    (State.vectorNorm s ks).lines = s.lines := by
  simp [State.vectorNorm]

@[simp] theorem State.showTemps_lines (s : State) (ts : List Int) :
    (State.showTemps s ts).lines = s.lines := by
  simp [State.showTemps]

@[simp] theorem State.clearPeak_lines (s : State) :
    (State.clearPeak s).lines = s.lines := by
  simp [State.clearPeak]

@[simp] theorem State.clearMinmax_lines (s : State) (c : Nat) :
    (State.clearMinmax s c).lines = s.lines := by
  simp [State.clearMinmax]

/-! ### Power -/

@[simp] theorem State.powerTo_lines (s : State) (st : Nat) :
    (State.powerTo s st).lines = s.lines := by
  simp [State.powerTo]

@[simp] theorem State.gateCluster_lines (s : State) (c : Nat) :
    (State.gateCluster s c).lines = s.lines := by
  simp [State.gateCluster]

@[simp] theorem State.ungateCluster_lines (s : State) (c : Nat) :
    (State.ungateCluster s c).lines = s.lines := by
  simp [State.ungateCluster]

@[simp] theorem State.refreshGates_lines (s : State) :
    (State.refreshGates s).lines = s.lines := by
  simp [State.refreshGates]

@[simp] theorem State.refuseStage_lines (s : State) (stage : Nat) (reason : Nat) (inst : Nat) :
    (State.refuseStage s stage reason inst).lines = s.lines := by
  simp [State.refuseStage]

@[simp] theorem State.stopLines_lines (s : State) :
    (State.stopLines s).lines = s.lines := by
  simp [State.stopLines]

@[simp] theorem State.stopEngine_lines (s : State) :
    (State.stopEngine s).lines = s.lines := by
  simp [State.stopEngine]

@[simp] theorem State.enterEmber_lines (s : State) :
    (State.enterEmber s).lines = s.lines := by
  simp [State.enterEmber]

@[simp] theorem State.beginWake_lines (s : State) (sub : Nat) :
    (State.beginWake s sub).lines = s.lines := by
  simp [State.beginWake]

@[simp] theorem State.wakeHearth_lines (s : State) :
    (State.wakeHearth s).lines = s.lines := by
  simp [State.wakeHearth]

@[simp] theorem State.wakeUp_lines (s : State) (cause : Nat) (line : Nat) :
    (State.wakeUp s cause line).lines = s.lines := by
  simp [State.wakeUp]

/-! ### FaultRows -/

@[simp] theorem State.countTie_lines (s : State) (fs : List FaultReport) (injected : Bool) :
    (State.countTie s fs injected).lines = s.lines := by
  simp [State.countTie]

@[simp] theorem State.recordTie_lines (s : State) (real : List FaultReport) (inj : Option FaultReport) :
    (State.recordTie s real inj).lines = s.lines := by
  unfold State.recordTie; dsimp only; (repeat' split) <;> simp

@[simp] theorem State.briefRecovery_lines (s : State) (src : Nat) :
    (State.briefRecovery s src).lines = s.lines := by
  simp [State.briefRecovery]

@[simp] theorem State.abortOpcodes_lines (s : State) (test : Nat → Bool) :
    (State.abortOpcodes s test).lines = s.lines := by
  simp [State.abortOpcodes]

@[simp] theorem State.trustFault_lines (s : State) (code : Nat) :
    (State.trustFault s code).lines = s.lines := by
  simp [State.trustFault]

@[simp] theorem State.clearRecord_lines (s : State) (r : Nat) (seq : Nat) :
    (State.clearRecord s r seq).lines = s.lines := by
  simp [State.clearRecord]

@[simp] theorem State.clearRecords_lines (s : State) (w : Nat) :
    (State.clearRecords s w).lines = s.lines := by
  simp [State.clearRecords]

@[simp] theorem State.setFence_lines (s : State) (m : Nat) (on : Bool) :
    (State.setFence s m on).lines = s.lines := by
  simp [State.setFence]

@[simp] theorem State.refreshRevoked_lines (s : State) :
    (State.refreshRevoked s).lines = s.lines := by
  simp [State.refreshRevoked]

@[simp] theorem State.respond_lines (s : State) (r : InbandReq) (status : Nat) (data : List Nat) :
    (State.respond s r status data).lines = s.lines := by
  simp [State.respond]

/-! ### Trust -/

@[simp] theorem State.freshNonce_lines (s : State) (c : Nat) (keep : Bool) :
    (State.freshNonce s c keep).lines = s.lines := by
  simp [State.freshNonce]

@[simp] theorem State.countFailure_lines (s : State) (c : Nat) :
    (State.countFailure s c).lines = s.lines := by
  simp [State.countFailure]

@[simp] theorem State.openSession_lines (s : State) (c : Nat) :
    (State.openSession s c).lines = s.lines := by
  simp [State.openSession]

@[simp] theorem State.openLocked_lines (s : State) (c : Nat) :
    (State.openLocked s c).lines = s.lines := by
  simp [State.openLocked]

@[simp] theorem State.closeSession_lines (s : State) (c : Nat) (reason : Nat) :
    (State.closeSession s c reason).lines = s.lines := by
  unfold State.closeSession
  split
  · rfl
  · rw [State.pulse_lines, State.wr_lines, State.wrWords_lines, State.wrWords_lines,
      State.modTrust_lines, State.modMgmt_lines, State.freshNonce_lines, State.setSession_lines]

@[simp] theorem State.clearKey_lines (s : State) : (State.clearKey s).lines = s.lines := by
  simp [State.clearKey]

@[simp] theorem State.endBurn_lines (s : State) :
    (State.endBurn s).lines = s.lines := by
  unfold State.endBurn; split <;> simp

@[simp] theorem State.program_lines (s : State) (slot : Nat) (maxRole : Nat) (usage : Nat) :
    (State.program s slot maxRole usage).lines = s.lines := by
  simp [State.program]

@[simp] theorem State.installSa_lines (s : State) (p : Nat) (a : Nat) :
    (State.installSa s p a).lines = s.lines := by
  simp [State.installSa]

@[simp] theorem State.modImage_lines (s : State) (k : Nat) (f : ImageSlot → ImageSlot) :
    (State.modImage s k f).lines = s.lines := by
  simp [State.modImage]

@[simp] theorem State.trySlot_lines (s : State) (k : Nat) :
    (State.trySlot s k).2.lines = s.lines := by
  simp [State.trySlot]

@[simp] theorem State.runImage_lines (s : State) (k : Nat) (fallback : Bool) :
    (State.runImage s k fallback).lines = s.lines := by
  simp [State.runImage]

@[simp] theorem State.confirmBoot_lines (s : State) :
    (State.confirmBoot s).lines = s.lines := by
  simp [State.confirmBoot]

@[simp] theorem State.commitSvn_lines (s : State) :
    (State.commitSvn s).lines = s.lines := by
  simp [State.commitSvn]

/-! ### Envelope -/

@[simp] theorem State.failSet_lines (s : State) (set : Pages) (run : Bool) (r : Nat) :
    (State.failSet s set run r).lines = s.lines := by
  simp [State.failSet]

@[simp] theorem State.decidePlain_lines (s : State) (es : Pages) :
    (State.decidePlain s es).lines = s.lines := by
  unfold State.decidePlain; (repeat' split) <;> simp

@[simp] theorem State.cancelRun_lines (s : State) :
    (State.cancelRun s).lines = s.lines := by
  unfold State.cancelRun; split <;> simp

@[simp] theorem State.clearSecy_lines (s : State) (p : Nat) :
    (State.clearSecy s p).lines = s.lines := by
  simp [State.clearSecy]

@[simp] theorem State.newEpoch_lines (s : State) (l : Nat) (was : Nat × Nat) :
    (State.newEpoch s l was).lines = s.lines := by
  simp [State.newEpoch]

@[simp] theorem State.refreshThru_lines (s : State) :
    (State.refreshThru s).lines = s.lines := by
  simp [State.refreshThru]

@[simp] theorem State.setLanded_lines (s : State) (set : Pages) (run : Bool) (steps : Nat) :
    (State.setLanded s set run steps).lines = s.lines := by
  simp [State.setLanded]

@[simp] theorem State.sealedLanded_lines (s : State) (es : Pages) :
    (State.sealedLanded s es).lines = s.lines := by
  simp [State.sealedLanded]

@[simp] theorem State.holdPosts_lines (s : State) (es : Pages) :
    (State.holdPosts s es).lines = s.lines := by
  unfold State.holdPosts; (repeat' split) <;> simp

@[simp] theorem State.confirmNeg_lines (s : State) (port : Nat) :
    (State.confirmNeg s port).lines = s.lines := by
  simp [State.confirmNeg]

/-! ### Grid -/

@[simp] theorem State.pulseSync_lines (s : State) :
    (State.pulseSync s).lines = s.lines := by
  simp [State.pulseSync]

@[simp] theorem State.showSeal_lines (s : State) (p : Nat) :
    (State.showSeal s p).lines = s.lines := by
  unfold State.showSeal; split <;> simp

@[simp] theorem State.closeEmpty_lines (s : State) (p : Nat) :
    (State.closeEmpty s p).lines = s.lines := by
  unfold State.closeEmpty; split <;> simp

@[simp] theorem State.seedScramblers_lines (s : State) (p : Nat) :
    (State.seedScramblers s p).lines = s.lines := by
  simp [State.seedScramblers]

@[simp] theorem State.retryDrop_lines (s : State) (p : Nat) :
    (State.retryDrop s p).lines = s.lines := by
  unfold State.retryDrop; dsimp only; (repeat' split) <;> simp

@[simp] theorem State.showResiduals_lines (s : State) (m : LineMeter) :
    (State.showResiduals s m).lines = s.lines := by
  unfold State.showResiduals; dsimp only; (repeat' split) <;> simp

@[simp] theorem State.serveJoin_lines (s : State) :
    (State.serveJoin s).lines = s.lines := by
  simp [State.serveJoin]

@[simp] theorem State.rollFeedback_lines (s : State) :
    (State.rollFeedback s).lines = s.lines := by
  simp [State.rollFeedback]

@[simp] theorem State.rollCycle_lines (s : State) :
    (State.rollCycle s).lines = s.lines := by
  simp [State.rollCycle]

/-! ### Live -/

@[simp] theorem State.freeze_lines (s : State) (p : Page) (i : Nat) :
    (State.freeze s p i).lines = s.lines := by
  simp [State.freeze]

@[simp] theorem State.thaw_lines (s : State) (p : Page) (i : Nat) :
    (State.thaw s p i).lines = s.lines := by
  simp [State.thaw]

@[simp] theorem State.latch_lines (s : State) (p : Page) (i : Nat) (off : Nat) :
    (State.latch s p i off).lines = s.lines := by
  simp [State.latch]

/-! ### Write -/

@[simp] theorem State.storeField_lines (s : State) (x : WordWrite) (e : Fld × Nat) :
    (State.storeField s x e).lines = s.lines := by
  unfold State.storeField; dsimp only; (repeat' split) <;> simp

@[simp] theorem State.storeWord_lines (s : State) (x : WordWrite) :
    (State.storeWord s x).lines = s.lines := by
  simp [State.storeWord]

@[simp] theorem State.resetFields_lines (s : State) (p : Page) (i : Nat) :
    (State.resetFields s p i).lines = s.lines := by
  simp [State.resetFields]

@[simp] theorem State.giveUpRequest_lines (s : State) (p : Page) (i : Nat) :
    (State.giveUpRequest s p i).lines = s.lines := by
  unfold State.giveUpRequest; dsimp only; (repeat' split) <;> simp

@[simp] theorem State.busLock_lines (s : State) (c : Nat) (release : Bool) (take : Bool) :
    (State.busLock s c release take).lines = s.lines := by
  simp [State.busLock]

/-! ### Parcel -/

/-! ### Letterbox -/

@[simp] theorem State.takeLease_lines (s : State) (c : Nat) :
    (State.takeLease s c).lines = s.lines := by
  simp [State.takeLease]

@[simp] theorem State.fwBegin_lines (s : State) (c : Nat) (args : List Nat) :
    (State.fwBegin s c args).2.lines = s.lines := by
  unfold State.fwBegin; dsimp only; (repeat' split) <;> simp

@[simp] theorem State.fwChunk_lines (s : State) (c : Nat) (args : List Nat) :
    (State.fwChunk s c args).2.lines = s.lines := by
  unfold State.fwChunk; dsimp only; (repeat' split) <;> simp

@[simp] theorem State.fwCommit_lines (s : State) (c : Nat) :
    (State.fwCommit s c).2.lines = s.lines := by
  unfold State.fwCommit; dsimp only; (repeat' split) <;> simp

@[simp] theorem State.exportPart_lines (s : State) (c : Nat) :
    (State.exportPart s c).2.lines = s.lines := by
  unfold State.exportPart; dsimp only; (repeat' split) <;> simp

@[simp] theorem State.exportBegin_lines (s : State) (c : Nat) (args : List Nat) :
    (State.exportBegin s c args).2.lines = s.lines := by
  unfold State.exportBegin; dsimp only; (repeat' split) <;> simp

@[simp] theorem State.importChunk_lines (s : State) (c : Nat) (args : List Nat) :
    (State.importChunk s c args).2.lines = s.lines := by
  unfold State.importChunk; dsimp only; (repeat' split) <;> simp

@[simp] theorem State.attestSign_lines (s : State) (c : Nat) (args : List Nat) :
    (State.attestSign s c args).2.lines = s.lines := by
  unfold State.attestSign; dsimp only; (repeat' split) <;> simp

@[simp] theorem State.attest_lines (s : State) (c : Nat) (args : List Nat) :
    (State.attest s c args).2.lines = s.lines := by
  unfold State.attest; simp; (repeat' split) <;> simp_all

/-! ### Channels -/

@[simp] theorem State.recordRefusal_lines (s : State) (c : Nat) (code : Nat) (addr : Nat) (v : Verdict) :
    (State.recordRefusal s c code addr v).lines = s.lines := by
  simp [State.recordRefusal]

@[simp] theorem State.answered_lines (s : State) (c : Nat) (v : Verdict) (data : List Nat) :
    (State.answered s c v data).lines = s.lines := by
  simp [State.answered]

@[simp] theorem State.frameStart_lines (s : State) (c : Nat) :
    (State.frameStart s c).lines = s.lines := by
  simp [State.frameStart]

@[simp] theorem State.noteDenied_lines (s : State) (vs : List Verdict) :
    (State.noteDenied s vs).lines = s.lines := by
  simp [State.noteDenied]

@[simp] theorem State.noteAlign_lines (s : State) (on : Bool) :
    (State.noteAlign s on).lines = s.lines := by
  simp [State.noteAlign]

@[simp] theorem State.clearMspiFlags_lines (s : State) :
    (State.clearMspiFlags s).lines = s.lines := by
  simp [State.clearMspiFlags]

@[simp] theorem State.mdioAdvance_lines (s : State) :
    (State.mdioAdvance s).lines = s.lines := by
  simp [State.mdioAdvance]

@[simp] theorem State.windowErrors_lines (s : State) :
    (State.windowErrors s).lines = s.lines := by
  simp [State.windowErrors]

@[simp] theorem State.mmdRegister_lines (s : State) (p : Nat) (mmd : Nat) (reg : Nat) (wr : Option Nat) :
    (State.mmdRegister s p mmd reg wr).lines = s.lines := by
  unfold State.mmdRegister; dsimp only; (repeat' split) <;> simp

end Sys2Proof.Machine
end

