-- ==== Sys2Proof/Laws/RareFrame.lean ====
section
/-! SUPPORT. Registers that few commands write, and which operations leave them alone. -/

namespace Sys2Proof.Machine

/-- The registers whose writers are few. -/

def rareFields : List Fld :=
  [LTRAIN.STATUS.LAST_REASON, LTRAIN.STATUS.LAST_FROM, LTRAIN.RCORR.CORR, LTRAIN.RANGE.RTTC, LTRAIN.RETRAINS.FAIL,
   LTRAIN.ATTEMPTS.NOANSWER]

def Fld.rare (F : Fld) : Bool := rareFields.any fun G => G.id % 2048 == F.id % 2048

/-- What the registers with few writers hold. -/

def Store.rare (m : Store Nat) : Nat → Nat → Nat → Nat := fun k i j =>
  let F := rareFields.getD k LTRAIN.RCORR.CORR
  m.get (F.reset j) (F.key i j)

@[simp] theorem Store.ite_rare (c : Prop) [Decidable c] (m n : Store Nat) :
    Store.rare (if c then m else n) = if c then m.rare else n.rare := by split <;> rfl

@[simp] theorem HDR.PAGE_ID.CLASS_rare (p : Page) : (HDR.PAGE_ID.CLASS p).rare = false := by cases p <;> rfl

@[simp] theorem HDR.PAGE_ID.INSTANCE_rare (p : Page) : (HDR.PAGE_ID.INSTANCE p).rare = false := by cases p <;> rfl

@[simp] theorem HDR.PAGE_ID.LAYOUT_rare (p : Page) : (HDR.PAGE_ID.LAYOUT p).rare = false := by cases p <;> rfl

@[simp] theorem HDR.PAGE_CTRL.LOCK_rare (p : Page) : (HDR.PAGE_CTRL.LOCK p).rare = false := by cases p <;> rfl

@[simp] theorem HDR.PAGE_CTRL.FREEZE_rare (p : Page) : (HDR.PAGE_CTRL.FREEZE p).rare = false := by cases p <;> rfl

@[simp] theorem HDR.PAGE_CTRL.SOFT_RESET_rare (p : Page) : (HDR.PAGE_CTRL.SOFT_RESET p).rare = false := by cases p <;> rfl

@[simp] theorem HDR.PAGE_CTRL.ENABLE_rare (p : Page) : (HDR.PAGE_CTRL.ENABLE p).rare = false := by cases p <;> rfl

@[simp] theorem HDR.PAGE_STAT.HEALTH_rare (p : Page) : (HDR.PAGE_STAT.HEALTH p).rare = false := by cases p <;> rfl

@[simp] theorem HDR.PAGE_STAT.BUSY_rare (p : Page) : (HDR.PAGE_STAT.BUSY p).rare = false := by cases p <;> rfl

@[simp] theorem HDR.PAGE_STAT.READY_rare (p : Page) : (HDR.PAGE_STAT.READY p).rare = false := by cases p <;> rfl

@[simp] theorem HDR.EVT_RAW.RAW_rare (p : Page) : (HDR.EVT_RAW.RAW p).rare = false := by cases p <;> rfl

@[simp] theorem HDR.EVT_EN.EN_rare (p : Page) : (HDR.EVT_EN.EN p).rare = false := by cases p <;> rfl

@[simp] theorem HDR.EVT_PEND.PEND_rare (p : Page) : (HDR.EVT_PEND.PEND p).rare = false := by cases p <;> rfl

@[simp] theorem HDR.EVT_INJECT.INJECT_rare (p : Page) : (HDR.EVT_INJECT.INJECT p).rare = false := by cases p <;> rfl

@[simp] theorem HDR.EVT_COUNT.CLR_rare (p : Page) : (HDR.EVT_COUNT.CLR p).rare = false := by cases p <;> rfl

@[simp] theorem HDR.EVT_COUNT.COUNT_rare (p : Page) : (HDR.EVT_COUNT.COUNT p).rare = false := by cases p <;> rfl

@[simp] theorem HDR.ENV_CTRL.DISCARD_rare (p : Page) : (HDR.ENV_CTRL.DISCARD p).rare = false := by cases p <;> rfl

@[simp] theorem HDR.ENV_CTRL.POST_rare (p : Page) : (HDR.ENV_CTRL.POST p).rare = false := by cases p <;> rfl

@[simp] theorem HDR.ENV_CTRL.PEEK_rare (p : Page) : (HDR.ENV_CTRL.PEEK p).rare = false := by cases p <;> rfl

@[simp] theorem HDR.ENV_CTRL.MAILRUN_rare (p : Page) : (HDR.ENV_CTRL.MAILRUN p).rare = false := by cases p <;> rfl

@[simp] theorem HDR.ENV_CTRL.SEALED_rare (p : Page) : (HDR.ENV_CTRL.SEALED p).rare = false := by cases p <;> rfl

@[simp] theorem HDR.ENV_CTRL.MOMENT_rare (p : Page) : (HDR.ENV_CTRL.MOMENT p).rare = false := by cases p <;> rfl

@[simp] theorem HDR.ENV_STAT.STEPS_rare (p : Page) : (HDR.ENV_STAT.STEPS p).rare = false := by cases p <;> rfl

@[simp] theorem HDR.ENV_STAT.RESULT_rare (p : Page) : (HDR.ENV_STAT.RESULT p).rare = false := by cases p <;> rfl

@[simp] theorem HDR.ENV_STAT.SPLIT_rare (p : Page) : (HDR.ENV_STAT.SPLIT p).rare = false := by cases p <;> rfl

@[simp] theorem HDR.ENV_STAT.SEALWAIT_rare (p : Page) : (HDR.ENV_STAT.SEALWAIT p).rare = false := by cases p <;> rfl

@[simp] theorem HDR.ENV_STAT.IN_FLIGHT_rare (p : Page) : (HDR.ENV_STAT.IN_FLIGHT p).rare = false := by cases p <;> rfl

@[simp] theorem HDR.ENV_STAT.ARMED_rare (p : Page) : (HDR.ENV_STAT.ARMED p).rare = false := by cases p <;> rfl

@[simp] theorem HDR.ENV_STAT.STAGED_rare (p : Page) : (HDR.ENV_STAT.STAGED p).rare = false := by cases p <;> rfl

@[simp] theorem HDR.ENV_WHEN.WHEN_rare (p : Page) : (HDR.ENV_WHEN.WHEN p).rare = false := by cases p <;> rfl

@[simp] theorem HDR.RESULT_SEQ.STALE_rare (p : Page) : (HDR.RESULT_SEQ.STALE p).rare = false := by cases p <;> rfl

@[simp] theorem HDR.RESULT_SEQ.SEQ_rare (p : Page) : (HDR.RESULT_SEQ.SEQ p).rare = false := by cases p <;> rfl

@[simp] theorem Fld.ite_rare (c : Prop) [Decidable c] (F G : Fld) :
    Fld.rare (if c then F else G) = if c then F.rare else G.rare := by split <;> rfl

@[simp] theorem ite_rare (c : Prop) [Decidable c] (s t : State) :
    (if c then s else t).regs.rare = if c then s.regs.rare else t.regs.rare := by split <;> rfl

@[simp] theorem foldl_rare {β : Type} (f : State → β → State) (h : ∀ s b, (f s b).regs.rare = s.regs.rare)
    (l : List β) (s : State) : (l.foldl f s).regs.rare = s.regs.rare := by
  induction l generalizing s with
  | nil => rfl
  | cons b l ih => rw [List.foldl_cons, ih, h]

/-! ### Ops -/

@[simp] theorem when_rare (c : Bool) (f : State → State) (s : State) (hf : ∀ x0, (f x0).regs.rare = x0.regs.rare) :
    (when c f s).regs.rare = s.regs.rare := by
  simp +decide [when, hf]

@[simp] theorem State.wr_rare (s : State) (F : Fld) (v i j : Nat) (h : F.rare = false) :
    (State.wr s F v i j).regs.rare = s.regs.rare := by
  funext k a b
  refine State.g_wr_of_id (F := F) (G := rareFields.getD k LTRAIN.RCORR.CORR) (fun e => ?_) s v i j a b
  unfold Fld.rare at h
  have hm : (rareFields.getD k LTRAIN.RCORR.CORR) ∈ rareFields := by
    unfold rareFields
    by_cases hk : k < 6
    · interval_cases k <;> decide
    · rw [List.getD_eq_default _ _ (by simp; omega)]; decide
  have := List.any_eq_false.1 h _ hm
  simp at this
  exact this (by simpa using e)

@[simp] theorem State.bump_rare (s : State) (F : Fld) (i k j : Nat) (h : F.rare = false) :
    (State.bump s F i k j).regs.rare = s.regs.rare := State.wr_rare _ _ _ _ _ h

@[simp] theorem State.bump64_rare (s : State) (lo hi : Fld) (i k : Nat) (h : lo.rare = false) (h2 : hi.rare = false) :
    (State.bump64 s lo hi i k).regs.rare = s.regs.rare := by
  unfold State.bump64
  dsimp only
  rw [State.wr_rare _ _ _ _ _ h2, State.wr_rare _ _ _ _ _ h]

@[simp] theorem State.wrWords_rare (s : State) (F : Fld) (i : Nat) (ws : List Nat) (h : F.rare = false) :
    (State.wrWords s F i ws).regs.rare = s.regs.rare := by
  unfold State.wrWords
  exact foldl_rare _ (fun s b => State.wr_rare _ _ _ _ _ h) _ _

@[simp] theorem State.setLine_rare (s : State) (l : Nat) (x : LineX) :
    (State.setLine s l x).regs.rare = s.regs.rare := by
  simp +decide [State.setLine]

@[simp] theorem State.setPort_rare (s : State) (p : Nat) (x : PortX) :
    (State.setPort s p x).regs.rare = s.regs.rare := by
  simp +decide [State.setPort]

@[simp] theorem State.setLane_rare (s : State) (l : Nat) (x : LaneX) :
    (State.setLane s l x).regs.rare = s.regs.rare := by
  simp +decide [State.setLane]

@[simp] theorem State.modLine_rare (s : State) (l : Nat) (f : LineX → LineX) :
    (State.modLine s l f).regs.rare = s.regs.rare := by
  simp +decide [State.modLine]

@[simp] theorem State.modPort_rare (s : State) (p : Nat) (f : PortX → PortX) :
    (State.modPort s p f).regs.rare = s.regs.rare := by
  simp +decide [State.modPort]

@[simp] theorem State.modLane_rare (s : State) (l : Nat) (f : LaneX → LaneX) :
    (State.modLane s l f).regs.rare = s.regs.rare := by
  simp +decide [State.modLane]

@[simp] theorem State.modMgmt_rare (s : State) (f : Mgmt → Mgmt) :
    (State.modMgmt s f).regs.rare = s.regs.rare := by
  simp +decide [State.modMgmt]

@[simp] theorem State.modTrust_rare (s : State) (f : TrustX → TrustX) :
    (State.modTrust s f).regs.rare = s.regs.rare := by
  simp +decide [State.modTrust]

@[simp] theorem State.modFault_rare (s : State) (f : FaultX → FaultX) :
    (State.modFault s f).regs.rare = s.regs.rare := by
  simp +decide [State.modFault]

@[simp] theorem State.modClk_rare (s : State) (f : ClockX → ClockX) :
    (State.modClk s f).regs.rare = s.regs.rare := by
  simp +decide [State.modClk]

@[simp] theorem State.modLvl_rare (s : State) (f : LevelX → LevelX) :
    (State.modLvl s f).regs.rare = s.regs.rare := by
  simp +decide [State.modLvl]

@[simp] theorem State.modPwr_rare (s : State) (f : PowerX → PowerX) :
    (State.modPwr s f).regs.rare = s.regs.rare := by
  simp +decide [State.modPwr]

@[simp] theorem State.draw_rare (s : State) :
    (State.draw s).2.regs.rare = s.regs.rare := by
  simp +decide [State.draw]

@[simp] theorem State.setSession_rare (s : State) (c : Nat) (x : Session) :
    (State.setSession s c x).regs.rare = s.regs.rare := by
  simp +decide [State.setSession]

@[simp] theorem State.refreshPins_rare (s : State) :
    (State.refreshPins s).regs.rare = s.regs.rare := by
  simp +decide [State.refreshPins]

@[simp] theorem State.sendEvent_rare (s : State) (n : Nat) (level : Bool) :
    (State.sendEvent s n level).regs.rare = s.regs.rare := by
  simp +decide [State.sendEvent]

@[simp] theorem State.inbandDue_rare (s : State) (n : Nat) (level : Bool) :
    (State.inbandDue s n level).regs.rare = s.regs.rare := by
  simp +decide [State.inbandDue]

@[simp] theorem State.inbandChange_rare (s : State) (n : Nat) (level : Bool) :
    (State.inbandChange s n level).regs.rare = s.regs.rare := by
  simp +decide [State.inbandChange]

@[simp] theorem State.refreshSource_rare (s : State) (n : Nat) :
    (State.refreshSource s n).regs.rare = s.regs.rare := by
  simp +decide [State.refreshSource]

@[simp] theorem State.refreshPage_rare (s : State) (p : Page) (i : Nat) :
    (State.refreshPage s p i).regs.rare = s.regs.rare := by
  simp +decide [State.refreshPage]

@[simp] theorem State.edges_rare (s : State) (p : Page) (i : Nat) (mask : Nat) :
    (State.edges s p i mask).regs.rare = s.regs.rare := by
  simp +decide [State.edges]

@[simp] theorem State.pulse_rare (s : State) (p : Page) (i : Nat) (b : Nat) :
    (State.pulse s p i b).regs.rare = s.regs.rare := by
  simp +decide [State.pulse]

@[simp] theorem State.cond_rare (s : State) (p : Page) (i : Nat) (b : Nat) (on : Bool) :
    (State.cond s p i b on).regs.rare = s.regs.rare := by
  simp +decide [State.cond]

@[simp] theorem State.beginResult_rare (s : State) (p : Page) (i : Nat) :
    (State.beginResult s p i).regs.rare = s.regs.rare := by
  simp +decide [State.beginResult]

@[simp] theorem State.landResult_rare (s : State) (p : Page) (i : Nat) :
    (State.landResult s p i).regs.rare = s.regs.rare := by
  simp +decide [State.landResult]

@[simp] theorem State.capture_rare (s : State) (ns sec sech frac : Fld) (i j : Nat) (h1 : ns.rare = false)
    (h2 : sec.rare = false) (h3 : sech.rare = false) (h4 : frac.rare = false) :
    (State.capture s ns sec sech frac i j).regs.rare = s.regs.rare := by
  unfold State.capture
  rw [State.wr_rare _ _ _ _ _ h4, State.wr_rare _ _ _ _ _ h3, State.wr_rare _ _ _ _ _ h2, State.wr_rare _ _ _ _ _ h1]

@[simp] theorem State.capture2_rare (s : State) (ns sec : Fld) (i : Nat) (h1 : ns.rare = false)
    (h2 : sec.rare = false) : (State.capture2 s ns sec i).regs.rare = s.regs.rare := by
  unfold State.capture2
  rw [State.wr_rare _ _ _ _ _ h2, State.wr_rare _ _ _ _ _ h1]

@[simp] theorem State.placeRecord_rare (s : State) (r : Nat) (f : FaultReport) (real : Bool) :
    (State.placeRecord s r f real).regs.rare = s.regs.rare := by
  simp +decide [State.placeRecord]

@[simp] theorem State.companion_rare (s : State) (r src : Nat) : (State.companion s r src).regs.rare = s.regs.rare := by
  unfold State.companion
  dsimp only
  split <;> exact State.wr_rare _ _ _ _ _ (by rfl)

@[simp] theorem State.record_rare (s : State) (f : FaultReport) (real : Bool) :
    (State.record s f real).regs.rare = s.regs.rare := by
  simp +decide [State.record]

@[simp] theorem State.countFault_rare (s : State) (f : FaultReport) :
    (State.countFault s f).regs.rare = s.regs.rare := by
  simp +decide [State.countFault]

@[simp] theorem State.unitRecorded_rare (s : State) (f : FaultReport) :
    (State.unitRecorded s f).regs.rare = s.regs.rare := by
  simp +decide [State.unitRecorded]

@[simp] theorem State.log_rare (s : State) (f : FaultReport) :
    (State.log s f).regs.rare = s.regs.rare := by
  simp +decide [State.log]

@[simp] theorem State.healthChanged_rare (s : State) (src : Nat) :
    (State.healthChanged s src).regs.rare = s.regs.rare := by
  simp +decide [State.healthChanged]

@[simp] theorem State.beginRecovery_rare (s : State) (src : Nat) :
    (State.beginRecovery s src).regs.rare = s.regs.rare := by
  simp +decide [State.beginRecovery]

@[simp] theorem State.endRecovery_rare (s : State) (src : Nat) :
    (State.endRecovery s src).regs.rare = s.regs.rare := by
  simp +decide [State.endRecovery]

@[simp] theorem State.faultS1_rare (s : State) (code : Nat) (src : Nat) (addr : Nat) :
    (State.faultS1 s code src addr).regs.rare = s.regs.rare := by
  simp +decide [State.faultS1]

@[simp] theorem State.noteS1_rare (s : State) (code : Nat) (src : Nat) (addr : Nat) :
    (State.noteS1 s code src addr).regs.rare = s.regs.rare := by
  simp +decide [State.noteS1]

@[simp] theorem State.faultS2Unit_rare (s : State) (code : Nat) (src : Nat) (addr : Nat) :
    (State.faultS2Unit s code src addr).regs.rare = s.regs.rare := by
  simp +decide [State.faultS2Unit]

@[simp] theorem State.accessError_rare (s : State) (master : Nat) (access : Nat) (addr : Nat) :
    (State.accessError s master access addr).regs.rare = s.regs.rare := by
  simp +decide [State.accessError]

/-! ### Seal -/

@[simp] theorem State.setResult_rare (s : State) (p : Page) (i : Nat) (r : Nat) :
    (State.setResult s p i r).regs.rare = s.regs.rare := by
  simp +decide [State.setResult]

@[simp] theorem State.dropPost_rare (s : State) (p : Page) (i : Nat) :
    (State.dropPost s p i).regs.rare = s.regs.rare := by
  simp +decide [State.dropPost]

@[simp] theorem State.finishPost_rare (s : State) (p : Page) (i : Nat) (r : Nat) :
    (State.finishPost s p i r).regs.rare = s.regs.rare := by
  simp +decide [State.finishPost]

@[simp] theorem State.setPhase_rare (s : State) (p : Page) (i : Nat) (ph : PostPhase) (target : Option Nat) :
    (State.setPhase s p i ph target).regs.rare = s.regs.rare := by
  simp +decide [State.setPhase]

@[simp] theorem State.regridPosts_rare (s : State) (sel : Post → Bool) (now : Nat) :
    (State.regridPosts s sel now).regs.rare = s.regs.rare := by
  unfold State.regridPosts
  refine foldl_rare _ (fun s x => ?_) _ _
  try dsimp only
  (repeat' split) <;> simp +decide

@[simp] theorem State.landLocks_rare (s : State) (locks : List (Page × Nat × Nat)) :
    (State.landLocks s locks).regs.rare = s.regs.rare := by
  simp +decide [State.landLocks]

@[simp] theorem State.endRun_rare (s : State) (r : Nat) :
    (State.endRun s r).regs.rare = s.regs.rare := by
  simp +decide [State.endRun]

@[simp] theorem State.dismissMembers_rare (s : State) (r : Nat) :
    (State.dismissMembers s r).regs.rare = s.regs.rare := by
  simp +decide [State.dismissMembers]

@[simp] theorem State.withdrawRun_rare (s : State) :
    (State.withdrawRun s).regs.rare = s.regs.rare := by
  unfold State.withdrawRun
  refine foldl_rare _ (fun s x => ?_) _ _
  try dsimp only
  (repeat' split) <;> simp +decide

@[simp] theorem State.refusePosts_rare (s : State) (sel : Post → Bool) :
    (State.refusePosts s sel).regs.rare = s.regs.rare := by
  simp +decide [State.refusePosts]

@[simp] theorem State.abortNeg_rare (s : State) (port : Nat) :
    (State.abortNeg s port).regs.rare = s.regs.rare := by
  simp +decide [State.abortNeg]

@[simp] theorem State.propose_rare (s : State) (port : Nat) (target : Nat) (cs : List Change) :
    (State.propose s port target cs).regs.rare = s.regs.rare := by
  unfold State.propose; split <;> simp +decide

/-! ### Bounds -/

@[simp] theorem State.refreshPort_rare (s : State) (p : Nat) :
    (State.refreshPort s p).regs.rare = s.regs.rare := by
  simp +decide [State.refreshPort]

@[simp] theorem State.refreshPorts_rare (s : State) :
    (State.refreshPorts s).regs.rare = s.regs.rare := by
  simp +decide [State.refreshPorts]

@[simp] theorem State.showRoundTrip_rare (s : State) (p : Nat) :
    (State.showRoundTrip s p).regs.rare = s.regs.rare := by
  simp +decide [State.showRoundTrip]

@[simp] theorem State.setTa_rare (s : State) (l : Nat) (ta : Nat) :
    (State.setTa s l ta).regs.rare = s.regs.rare := by
  simp +decide [State.setTa]

@[simp] theorem State.correctTa_rare (s : State) (l : Nat) (base : Nat) (corr : Int) :
    (State.correctTa s l base corr).regs.rare = s.regs.rare := by
  simp +decide [State.correctTa]

@[simp] theorem State.showTable_rare (s : State) (l : Nat) :
    (State.showTable s l).regs.rare = s.regs.rare := by
  simp +decide [State.showTable]

/-! ### Chain -/

@[simp] theorem State.modMon_rare (s : State) (l : Nat) (f : MonX → MonX) :
    (State.modMon s l f).regs.rare = s.regs.rare := by
  simp +decide [State.modMon]

@[simp] theorem State.modReach_rare (s : State) (l : Nat) (f : ReachX → ReachX) :
    (State.modReach s l f).regs.rare = s.regs.rare := by
  simp +decide [State.modReach]

@[simp] theorem State.modStd_rare (s : State) (l : Nat) (f : StdX → StdX) :
    (State.modStd s l f).regs.rare = s.regs.rare := by
  simp +decide [State.modStd]

@[simp] theorem State.modCal_rare (s : State) (l : Nat) (f : CalX → CalX) :
    (State.modCal s l f).regs.rare = s.regs.rare := by
  simp +decide [State.modCal]

@[simp] theorem State.startTx_rare (s : State) (l : Nat) (netid : Nat) (p : ReachPkt) :
    (State.startTx s l netid p).regs.rare = s.regs.rare := by
  simp +decide [State.startTx]

@[simp] theorem State.noteGo_rare (s : State) (l : Nat) (p : ReachPkt) :
    (State.noteGo s l p).regs.rare = s.regs.rare := by
  unfold State.noteGo; (repeat' split) <;> simp +decide

@[simp] theorem State.sendDue_rare (s : State) (l : Nat) :
    (State.sendDue s l).regs.rare = s.regs.rare := by
  unfold State.sendDue; dsimp only; (repeat' split) <;> simp +decide

@[simp] theorem State.showDetectors_rare (s : State) (l : Nat) :
    (State.showDetectors s l).regs.rare = s.regs.rare := by
  simp +decide [State.showDetectors]

@[simp] theorem State.detect_rare (s : State) (l : Nat) (p : Rat) :
    (State.detect s l p).regs.rare = s.regs.rare := by
  simp +decide [State.detect]

@[simp] theorem State.endBlock_rare (s : State) (l : Nat) :
    (State.endBlock s l).regs.rare = s.regs.rare := by
  simp +decide [State.endBlock]

@[simp] theorem State.finishCapture_rare (s : State) (l : Nat) (reason : Nat) (ws : List Nat) :
    (State.finishCapture s l reason ws).regs.rare = s.regs.rare := by
  unfold State.finishCapture; split <;> simp +decide

@[simp] theorem State.cutCapture_rare (s : State) (l : Nat) (reason : Nat) :
    (State.cutCapture s l reason).regs.rare = s.regs.rare := by
  unfold State.cutCapture; split <;> simp +decide

@[simp] theorem State.landSync_rare (s : State) (l : Nat) :
    (State.landSync s l).regs.rare = s.regs.rare := by
  unfold State.landSync; split <;> simp +decide

@[simp] theorem State.refreshOwner_rare (s : State) (l : Nat) :
    (State.refreshOwner s l).regs.rare = s.regs.rare := by
  simp +decide [State.refreshOwner]

@[simp] theorem State.stopChain_rare (s : State) (l : Nat) :
    (State.stopChain s l).regs.rare = s.regs.rare := by
  simp +decide [State.stopChain]

@[simp] theorem State.countFade_rare (s : State) (l : Nat) :
    (State.countFade s l).regs.rare = s.regs.rare := by
  simp +decide [State.countFade]

@[simp] theorem State.captureSample_rare (s : State) (l : Nat) (back : Nat) (y : Cx) :
    (State.captureSample s l back y).regs.rare = s.regs.rare := by
  unfold State.captureSample; split <;> simp +decide

@[simp] theorem State.emit_rare (s : State) (l : Nat) (back : Nat) (y : Cx) :
    (State.emit s l back y).regs.rare = s.regs.rare := by
  simp +decide [State.emit]

@[simp] theorem State.feedSample_rare (s : State) (l : Nat) (back : Nat) (code : Int) :
    (State.feedSample s l back code).regs.rare = s.regs.rare := by
  simp +decide [State.feedSample]

@[simp] theorem State.feed_rare (s : State) (l : Nat) (adc : List Int) :
    (State.feed s l adc).regs.rare = s.regs.rare := by
  simp +decide [State.feed]

/-! ### Lines -/

@[simp] theorem State.setErase_rare (s : State) (l : Nat) (mask : Nat) :
    (State.setErase s l mask).regs.rare = s.regs.rare := by
  simp +decide [State.setErase]

@[simp] theorem State.refreshErase_rare (s : State) (l : Nat) :
    (State.refreshErase s l).regs.rare = s.regs.rare := by
  unfold State.refreshErase; (repeat' split) <;> simp +decide

@[simp] theorem State.startErasure_rare (s : State) (tag : Nat) :
    (State.startErasure s tag).regs.rare = s.regs.rare := by
  simp +decide [State.startErasure]

@[simp] theorem State.moveErase_rare (s : State) (l : Nat) (old : LineState) :
    (State.moveErase s l old).regs.rare = s.regs.rare := by
  unfold State.moveErase; (repeat' split) <;> simp +decide

@[simp] theorem State.setRmask_rare (s : State) (l : Nat) (mask : Nat) :
    (State.setRmask s l mask).regs.rare = s.regs.rare := by
  simp +decide [State.setRmask]

@[simp] theorem State.settleMask_rare (s : State) (l : Nat) :
    (State.settleMask s l).regs.rare = s.regs.rare := by
  unfold State.settleMask; dsimp only; (repeat' split) <;> simp +decide

@[simp] theorem State.stopModem_rare (s : State) (l : Nat) (off : Bool) :
    (State.stopModem s l off).regs.rare = s.regs.rare := by
  simp +decide [State.stopModem]

@[simp] theorem State.setDac_rare (s : State) (l : Nat) (x : DacInput) :
    (State.setDac s l x).regs.rare = s.regs.rare := by
  simp +decide [State.setDac]

@[simp] theorem State.refreshDacs_rare (s : State) :
    (State.refreshDacs s).regs.rare = s.regs.rare := by
  simp +decide [State.refreshDacs]

@[simp] theorem State.askPort_rare (s : State) (master : Nat) :
    (State.askPort s master).regs.rare = s.regs.rare := by
  simp +decide [State.askPort]

@[simp] theorem State.wantClear_rare (s : State) (l : Nat) :
    (State.wantClear s l).regs.rare = s.regs.rare := by
  simp +decide [State.wantClear]

@[simp] theorem State.moveLine_rare (s : State) (l : Nat) (st : LineState) (sub : Nat) :
    (State.moveLine s l st sub).regs.rare = s.regs.rare := by
  simp +decide [State.moveLine]

@[simp] theorem State.leaveActive_rare (s : State) (l : Nat) :
    (State.leaveActive s l).regs.rare = s.regs.rare := by
  simp +decide [State.leaveActive]

@[simp] theorem State.noteRotated_rare (s : State) (l : Nat) :
    (State.noteRotated s l).regs.rare = s.regs.rare := by
  simp +decide [State.noteRotated]

@[simp] theorem State.forgetLine_rare (s : State) (l : Nat) :
    (State.forgetLine s l).regs.rare = s.regs.rare := by
  simp +decide [State.forgetLine]

@[simp] theorem State.forgetAttempt_rare (s : State) (l : Nat) :
    (State.forgetAttempt s l).regs.rare = s.regs.rare := by
  unfold State.forgetAttempt; dsimp only; (repeat' split) <;> simp +decide

@[simp] theorem State.queueJoin_rare (s : State) (port : Nat) :
    (State.queueJoin s port).regs.rare = s.regs.rare := by
  simp +decide [State.queueJoin]

@[simp] theorem State.unqueueJoin_rare (s : State) (port : Nat) :
    (State.unqueueJoin s port).regs.rare = s.regs.rare := by
  simp +decide [State.unqueueJoin]

@[simp] theorem State.countLost_rare (s : State) (p : Nat) (n : Nat) :
    (State.countLost s p n).regs.rare = s.regs.rare := by
  simp +decide [State.countLost]

@[simp] theorem State.emptyPort_rare (s : State) (port : Nat) :
    (State.emptyPort s port).regs.rare = s.regs.rare := by
  simp +decide [State.emptyPort]

@[simp] theorem State.leftShowtime_rare (s : State) (l : Nat) :
    (State.leftShowtime s l).regs.rare = s.regs.rare := by
  simp +decide [State.leftShowtime]

@[simp] theorem State.dropFromPort_rare (s : State) (l : Nat) :
    (State.dropFromPort s l).regs.rare = s.regs.rare := by
  simp +decide [State.dropFromPort]

@[simp] theorem State.endWake_rare (s : State) (p : Nat) :
    (State.endWake s p).regs.rare = s.regs.rare := by
  simp +decide [State.endWake]

@[simp] theorem State.proposeTables_rare (s : State) (l target : Nat) :
    (State.proposeTables s l target).regs.rare = s.regs.rare := by
  unfold State.proposeTables; dsimp only; (repeat' split) <;> simp +decide

/-! ### Matrix -/

@[simp] theorem State.setCoef_rare (s : State) (key : Nat) (c : Int × Int) :
    (State.setCoef s key c).regs.rare = s.regs.rare := by
  simp +decide [State.setCoef]

@[simp] theorem State.writeCoef_rare (s : State) (m : Nat) (k : Nat) (v : Nat) (d : Nat) (c : Int × Int) :
    (State.writeCoef s m k v d c).regs.rare = s.regs.rare := by
  simp +decide [State.writeCoef]

@[simp] theorem State.updateCoef_rare (s : State) (key : Nat) (re : Int) (im : Int) :
    (State.updateCoef s key re im).regs.rare = s.regs.rare := by
  simp +decide [State.updateCoef]

@[simp] theorem State.addCoef_rare (s : State) (key : Nat) (re : Int) (im : Int) :
    (State.addCoef s key re im).regs.rare = s.regs.rare := by
  simp +decide [State.addCoef]

@[simp] theorem State.clearEntries_rare (s : State) (l : Nat) :
    (State.clearEntries s l).regs.rare = s.regs.rare := by
  simp +decide [State.clearEntries]

@[simp] theorem State.setFeq_rare (s : State) (l : Nat) (k : Nat) (c : Cx) :
    (State.setFeq s l k c).regs.rare = s.regs.rare := by
  simp +decide [State.setFeq]

@[simp] theorem State.landNxt_rare (s : State) :
    (State.landNxt s).regs.rare = s.regs.rare := by
  simp +decide [State.landNxt]

@[simp] theorem State.countSkips_rare (s : State) (n : Nat) :
    (State.countSkips s n).regs.rare = s.regs.rare := by
  simp +decide [State.countSkips]

@[simp] theorem State.stepNorm_rare (s : State) (k : Nat) :
    (State.stepNorm s k).regs.rare = s.regs.rare := by
  simp +decide [State.stepNorm]

@[simp] theorem State.addIncs_rare (s : State) (incs : List (Nat × Cx)) (factor : Nat) :
    (State.addIncs s incs factor).regs.rare = s.regs.rare := by
  simp +decide [State.addIncs]

@[simp] theorem State.landPrdIncs_rare (s : State) (incs : List (Nat × Cx)) (k : Nat) :
    (State.landPrdIncs s incs k).regs.rare = s.regs.rare := by
  simp +decide [State.landPrdIncs]

@[simp] theorem State.corrected_rare (s : State) :
    (State.corrected s).regs.rare = s.regs.rare := by
  simp +decide [State.corrected]

@[simp] theorem State.recoverEntry_rare (s : State) (m : Nat) (index : Nat) :
    (State.recoverEntry s m index).regs.rare = s.regs.rare := by
  simp +decide [State.recoverEntry]

@[simp] theorem State.showUe_rare (s : State) (m : Nat) (index : Nat) :
    (State.showUe s m index).regs.rare = s.regs.rare := by
  simp +decide [State.showUe]

@[simp] theorem State.uncorrectable_rare (s : State) (m : Nat) (index : Nat) :
    (State.uncorrectable s m index).regs.rare = s.regs.rare := by
  simp +decide [State.uncorrectable]

@[simp] theorem State.recoveryCheck_rare (s : State) :
    (State.recoveryCheck s).regs.rare = s.regs.rare := by
  simp +decide [State.recoveryCheck]

@[simp] theorem State.releasePort_rare (s : State) (master : Nat) :
    (State.releasePort s master).regs.rare = s.regs.rare := by
  simp +decide [State.releasePort]

/-! ### Ports -/

@[simp] theorem State.refreshDegraded_rare (s : State) (p : Nat) :
    (State.refreshDegraded s p).regs.rare = s.regs.rare := by
  simp +decide [State.refreshDegraded]

@[simp] theorem State.clearPending_rare (s : State) (l : Nat) :
    (State.clearPending s l).regs.rare = s.regs.rare := by
  simp +decide [State.clearPending]

@[simp] theorem State.applyTables_rare (s : State) (l : Nat) (rx : Bool) (tx : Bool) :
    (State.applyTables s l rx tx).regs.rare = s.regs.rare := by
  simp +decide [State.applyTables]

@[simp] theorem State.landMask_rare (s : State) (l : Nat) :
    (State.landMask s l).regs.rare = s.regs.rare := by
  simp +decide [State.landMask]

@[simp] theorem State.applyProfile_rare (s : State) (p : Nat) :
    (State.applyProfile s p).regs.rare = s.regs.rare := by
  simp +decide [State.applyProfile]

@[simp] theorem State.rescaleNxt_rare (s : State) (l : Nat) (row : Bool) (r : Rat) :
    (State.rescaleNxt s l row r).regs.rare = s.regs.rare := by
  simp +decide [State.rescaleNxt]

@[simp] theorem State.setPga_rare (s : State) (l : Nat) (v : Nat) :
    (State.setPga s l v).regs.rare = s.regs.rare := by
  simp +decide [State.setPga]

@[simp] theorem State.setRange_rare (s : State) (l : Nat) (v : Nat) :
    (State.setRange s l v).regs.rare = s.regs.rare := by
  simp +decide [State.setRange]

@[simp] theorem State.adoptProfile_rare (s : State) (p : Nat) (ours : Bool) (a3 : Change) :
    (State.adoptProfile s p ours a3).regs.rare = s.regs.rare := by
  unfold State.adoptProfile; split <;> simp +decide

/-! ### Secy -/

@[simp] theorem State.refreshFill_rare (s : State) (p : Nat) :
    (State.refreshFill s p).regs.rare = s.regs.rare := by
  unfold State.refreshFill; dsimp only; (repeat' split) <;> simp +decide

@[simp] theorem State.sendControl_rare (s : State) (p : Nat) (cap : Nat) (b : Block) :
    (State.sendControl s p cap b).regs.rare = s.regs.rare := by
  simp +decide [State.sendControl]

@[simp] theorem State.secyCount_rare (s : State) (p : Nat) (i : Nat) :
    (State.secyCount s p i).regs.rare = s.regs.rare := by
  simp +decide [State.secyCount]

@[simp] theorem State.setSa_rare (s : State) (p : Nat) (a : Nat) (x : Sa) :
    (State.setSa s p a x).regs.rare = s.regs.rare := by
  simp +decide [State.setSa]

@[simp] theorem State.reachPn_rare (s : State) (p : Nat) (a : Nat) (sa : Sa) :
    (State.reachPn s p a sa).regs.rare = s.regs.rare := by
  unfold State.reachPn; dsimp only; (repeat' split) <;> simp +decide

@[simp] theorem State.landSas_rare (s : State) (p : Nat) (tx : Bool) :
    (State.landSas s p tx).regs.rare = s.regs.rare := by
  unfold State.landSas; dsimp only; split <;> simp +decide

@[simp] theorem State.secyOut_rare (s : State) (p : Nat) (f : List Block) :
    (State.secyOut s p f).2.regs.rare = s.regs.rare := by
  unfold State.secyOut; dsimp only; (repeat' split) <;> simp +decide

@[simp] theorem State.secyFail_rare (s : State) (p : Nat) (i : Nat) (f : List Block) :
    (State.secyFail s p i f).2.regs.rare = s.regs.rare := by
  simp +decide [State.secyFail]

@[simp] theorem State.secyIn_rare (s : State) (p : Nat) (f : List Block) :
    (State.secyIn s p f).2.regs.rare = s.regs.rare := by
  unfold State.secyIn; dsimp only; (repeat' split) <;> simp +decide

@[simp] theorem State.offerBlock_rare (s : State) (p : Nat) (cap : Nat) (F : Fld) (c : Nat) (b : Block) (h : F.rare = false) :
    (State.offerBlock s p cap F c b).regs.rare = s.regs.rare := by
  simp +decide [State.offerBlock, h]

@[simp] theorem State.intoIngress_rare (s : State) (p : Nat) (bs : List Block) :
    (State.intoIngress s p bs).regs.rare = s.regs.rare := by
  simp +decide [State.intoIngress]

@[simp] theorem State.fromHost_rare (s : State) (p : Nat) (b : Block) :
    (State.fromHost s p b).regs.rare = s.regs.rare := by
  simp +decide [State.fromHost]

@[simp] theorem State.toHost_rare (s : State) (p : Nat) (bs : List Block) :
    (State.toHost s p bs).regs.rare = s.regs.rare := by
  simp +decide [State.toHost]

@[simp] theorem State.pastSecy_rare (s : State) (p : Nat) (b : Block) :
    (State.pastSecy s p b).regs.rare = s.regs.rare := by
  simp +decide [State.pastSecy]

@[simp] theorem State.deliver_rare (s : State) (p : Nat) (bs : List Block) :
    (State.deliver s p bs).regs.rare = s.regs.rare := by
  simp +decide [State.deliver]

/-! ### Pace -/

@[simp] theorem State.lowerIssue_rare (s : State) (p : Nat) :
    (State.lowerIssue s p).regs.rare = s.regs.rare := by
  unfold State.lowerIssue; split <;> simp +decide

/-! ### Framing -/

@[simp] theorem State.spentDtus_rare (s : State) (p : Nat) :
    (State.spentDtus s p).regs.rare = s.regs.rare := by
  simp +decide [State.spentDtus]

@[simp] theorem State.nextDtu_rare (s : State) (p : Nat) :
    (State.nextDtu s p).2.regs.rare = s.regs.rare := by
  unfold State.nextDtu; dsimp only; (repeat' split) <;> simp +decide

@[simp] theorem State.fillBulk_rare (a0 : Nat) (a1 : Nat) (a2 : Nat) (a3 : State) :
    (State.fillBulk a0 a1 a2 a3).regs.rare = a3.regs.rare := by
  induction a0 generalizing a3 with
  | zero => rfl
  | succ n ih =>
    unfold State.fillBulk
    try dsimp only
    (repeat' split) <;> simp +decide [ih]

@[simp] theorem State.portBits_rare (s : State) (p : Nat) :
    (State.portBits s p).2.regs.rare = s.regs.rare := by
  unfold State.portBits
  try dsimp only
  (repeat' split) <;> simp +decide

@[simp] theorem State.ageDtus_rare (s : State) (p : Nat) (b : Nat) :
    (State.ageDtus s p b).regs.rare = s.regs.rare := by
  simp +decide [State.ageDtus]

@[simp] theorem State.countError_rare (s : State) (p : Nat) :
    (State.countError s p).regs.rare = s.regs.rare := by
  simp +decide [State.countError]

@[simp] theorem State.countCodeword_rare (s : State) (p : Nat) (fixed : Bool) (ok : Bool) :
    (State.countCodeword s p fixed ok).regs.rare = s.regs.rare := by
  simp +decide [State.countCodeword]

@[simp] theorem State.drainExpress_rare (a0 : Nat) (a1 : Nat) (a2 : State) :
    (State.drainExpress a0 a1 a2).regs.rare = a2.regs.rare := by
  induction a0 generalizing a2 with
  | zero => rfl
  | succ n ih =>
    unfold State.drainExpress
    try dsimp only
    (repeat' split) <;> simp +decide [ih]

@[simp] theorem State.rxExpress_rare (s : State) (p : Nat) (l : List Rat) :
    (State.rxExpress s p l).regs.rare = s.regs.rare := by
  unfold State.rxExpress
  refine (State.drainExpress_rare _ _ _).trans (foldl_rare _ (fun s x => ?_) _ _)
  rw [State.modPort_rare, State.countCodeword_rare]

@[simp] theorem State.releaseDtus_rare (a0 : Nat) (a1 : Nat) (a2 : State) :
    (State.releaseDtus a0 a1 a2).regs.rare = a2.regs.rare := by
  induction a0 generalizing a2 with
  | zero => rfl
  | succ n ih =>
    unfold State.releaseDtus
    try dsimp only
    (repeat' split) <;> simp +decide [ih]

@[simp] theorem State.rxDtu_rare (s : State) (p : Nat) (d : Dtu) :
    (State.rxDtu s p d).regs.rare = s.regs.rare := by
  unfold State.rxDtu
  try dsimp only
  (repeat' split) <;> simp +decide

@[simp] theorem State.rxBulk_rare (a0 : Nat) (a1 : Nat) (a2 : State) :
    (State.rxBulk a0 a1 a2).regs.rare = a2.regs.rare := by
  induction a0 generalizing a2 with
  | zero => rfl
  | succ n ih =>
    unfold State.rxBulk
    dsimp only
    split
    · simp +decide [ih]
    · split
      · rw [ih]
        split <;> simp +decide
      · rfl

@[simp] theorem State.giveUpDtu_rare (s : State) (p : Nat) :
    (State.giveUpDtu s p).regs.rare = s.regs.rare := by
  unfold State.giveUpDtu
  rw [State.releaseDtus_rare, State.modPort_rare, State.pulse_rare, State.countLost_rare,
    State.countError_rare, State.deliver_rare]

@[simp] theorem State.takeAck_rare (s : State) (p : Nat) (seq : Nat) (map : Nat) :
    (State.takeAck s p seq map).regs.rare = s.regs.rare := by
  unfold State.takeAck
  dsimp only
  split
  · rfl
  · rw [State.modPort_rare]

@[simp] theorem State.rxSymbol_rare (s : State) (p : Nat) (l : List RxTone) :
    (State.rxSymbol s p l).regs.rare = s.regs.rare := by
  simp +decide [State.rxSymbol]

/-! ### Overhead -/

@[simp] theorem State.buildFrames_rare (s : State) (p : Nat) :
    (State.buildFrames s p).regs.rare = s.regs.rare := by
  unfold State.buildFrames
  try dsimp only
  refine (foldl_rare _ (fun s x => ?_) _ _).trans ?_
  · (repeat' split) <;> simp +decide
  · simp +decide

@[simp] theorem State.proposeSra_rare (s : State) (l : Nat) :
    (State.proposeSra s l).regs.rare = s.regs.rare := by
  unfold State.proposeSra; dsimp only; (repeat' split) <;> simp +decide

@[simp] theorem State.stayUp_rare (s : State) (ls : List Nat) :
    (State.stayUp s ls).regs.rare = s.regs.rare := by
  unfold State.stayUp; (repeat' split) <;> simp +decide

@[simp] theorem State.followLeave_rare (s : State) (cs : List Change) (go : Bool) :
    (State.followLeave s cs go).regs.rare = s.regs.rare := by
  unfold State.followLeave
  refine foldl_rare _ (fun s x => ?_) _ _
  try dsimp only
  (repeat' split) <;> simp +decide

@[simp] theorem State.dropTheirs_rare (s : State) (p : Nat) :
    (State.dropTheirs s p).regs.rare = s.regs.rare := by
  unfold State.dropTheirs; split <;> simp +decide

@[simp] theorem State.considerTheirs_rare (s : State) (p : Nat) :
    (State.considerTheirs s p).regs.rare = s.regs.rare := by
  unfold State.considerTheirs; split <;> simp +decide

/-! ### Signal -/

@[simp] theorem State.sendData_rare (s : State) (n : Nat) :
    (State.sendData s n).2.regs.rare = s.regs.rare := by
  unfold State.sendData
  generalize List.filter _ _ = l
  suffices h : ∀ (l : List Nat) (st : Store Cx × State), st.2.regs.rare = s.regs.rare →
      (l.foldl (fun (st : Store Cx × State) p =>
        let b := st.2.portBits p
        let x := b.2.placeSymbol p n b.1
        let sent := x.1.filter fun e => s.isVTail (e.1 / 128) || s.isActive (e.1 / 128)
        (sent.foldl (fun m e => Store.set m Cx.zero e.1 e.2) st.1,
          (b.2.modPort p fun y => { y with txScr := x.2 }).ageDtus p b.1.length)) st).2.regs.rare = s.regs.rare from
    h l ([], s) rfl
  intro l
  induction l with
  | nil => intro st h; exact h
  | cons p l ih =>
    intro st h
    rw [List.foldl_cons]
    exact ih _ (by dsimp only; rw [State.ageDtus_rare, State.modPort_rare, State.portBits_rare, h])

@[simp] theorem State.symbolX_rare (s : State) (n : Nat) :
    (State.symbolX s n).2.regs.rare = s.regs.rare := by
  unfold State.symbolX; split <;> simp +decide

@[simp] theorem State.driveLine_rare (s : State) (t : Store Cx) (l : Nat) :
    (State.driveLine s t l).regs.rare = s.regs.rare := by
  unfold State.driveLine; dsimp only; (repeat' split) <;> simp +decide

@[simp] theorem State.drive_rare (s : State) (t : Store Cx) :
    (State.drive s t).regs.rare = s.regs.rare := by
  simp +decide [State.drive]

@[simp] theorem State.noteAmps_rare (s : State) :
    (State.noteAmps s).regs.rare = s.regs.rare := by
  simp +decide [State.noteAmps]

@[simp] theorem State.stampTx_rare (s : State) (e : TimedMessage) :
    (State.stampTx s e).regs.rare = s.regs.rare := by
  unfold State.stampTx; (repeat' split) <;> simp +decide

@[simp] theorem State.ageRange_rare (s : State) :
    (State.ageRange s).regs.rare = s.regs.rare := by
  simp +decide [State.ageRange]

@[simp] theorem State.takeCensus_rare (s : State) :
    (State.takeCensus s).regs.rare = s.regs.rare := by
  unfold State.takeCensus; split <;> simp +decide

@[simp] theorem State.trackFeq_rare (s : State) (n : Nat) (l : Nat) (k : Nat) (e : Cx) (y : Cx) :
    (State.trackFeq s n l k e y).regs.rare = s.regs.rare := by
  simp +decide [State.trackFeq]

@[simp] theorem State.accumulate_rare (s : State) (l : Nat) (bs : List Bool) (y : Nat → Cx) :
    (State.accumulate s l bs y).regs.rare = s.regs.rare := by
  simp +decide [State.accumulate]

@[simp] theorem State.countError2_rare (s : State) (l : Nat) (k : Nat) (e : Cx) :
    (State.countError2 s l k e).regs.rare = s.regs.rare := by
  simp +decide [State.countError2]

@[simp] theorem State.notePilotError_rare (s : State) (l : Nat) (k : Nat) (e : Cx) :
    (State.notePilotError s l k e).regs.rare = s.regs.rare := by
  simp +decide [State.notePilotError]

@[simp] theorem State.useTone_rare (s : State) (n : Nat) (l : Nat) (k : Nat) (y : Cx) :
    (State.useTone s n l k y).regs.rare = s.regs.rare := by
  simp +decide [State.useTone]

@[simp] theorem State.useLine_rare (s : State) (n : Nat) (l : Nat) (v : Store Cx) :
    (State.useLine s n l v).regs.rare = s.regs.rare := by
  simp +decide [State.useLine]

@[simp] theorem State.addC_rare (s : State) (key : Nat) (c : Cx) :
    (State.addC s key c).regs.rare = s.regs.rare := by
  simp +decide [State.addC]

@[simp] theorem State.addPowerC_rare (s : State) (key : Nat) (c : Cx) :
    (State.addPowerC s key c).regs.rare = s.regs.rare := by
  simp +decide [State.addPowerC]

@[simp] theorem State.joinPilot_rare (s : State) (first : Bool) (js : List Nat) (us : Store Cx) :
    (State.joinPilot s first js us).regs.rare = s.regs.rare := by
  unfold State.joinPilot
  refine foldl_rare _ (fun s d => ?_) _ _
  refine foldl_rare _ (fun s k => ?_) _ _
  dsimp only
  refine (foldl_rare _ (fun s j => ?_) _ _).trans ?_ <;> simp +decide

@[simp] theorem State.joinData_rare (s : State) (n : Nat) (js : List Nat) (us vs : Store Cx) :
    (State.joinData s n js us vs).regs.rare = s.regs.rare := by
  unfold State.joinData
  refine foldl_rare _ (fun s d => ?_) _ _
  refine foldl_rare _ (fun s k => ?_) _ _
  dsimp only
  refine (foldl_rare _ (fun s j => ?_) _ _).trans ?_ <;> simp +decide

@[simp] theorem State.joinSymbol_rare (s : State) (n : Nat) (us : Store Cx) (vs : Store Cx) :
    (State.joinSymbol s n us vs).regs.rare = s.regs.rare := by
  unfold State.joinSymbol; split <;> simp +decide

@[simp] theorem State.receiveData_rare (s : State) (n : Nat) (got : List Nat) (vs : Store Cx) :
    (State.receiveData s n got vs).regs.rare = s.regs.rare := by
  simp +decide [State.receiveData]

@[simp] theorem State.meterSamples_rare (s : State) (y : LineSamples) :
    (State.meterSamples s y).regs.rare = s.regs.rare := by
  simp +decide [State.meterSamples]

@[simp] theorem State.wakeHeard_rare (s : State) (p : Nat) :
    (State.wakeHeard s p).regs.rare = s.regs.rare := by
  simp +decide [State.wakeHeard]

@[simp] theorem State.trainingHeard_rare (s : State) (l : Nat) :
    (State.trainingHeard s l).regs.rare = s.regs.rare := by
  simp +decide [State.trainingHeard]

@[simp] theorem State.stampRx_rare (s : State) (e : TimedMessage) :
    (State.stampRx s e).regs.rare = s.regs.rare := by
  simp +decide [State.stampRx]

@[simp] theorem State.takeFeedback_rare (s : State) (l : Nat) (i : Nat) (re : Option Nat) (im : Option Nat) :
    (State.takeFeedback s l i re im).regs.rare = s.regs.rare := by
  unfold State.takeFeedback; split <;> simp +decide

@[simp] theorem State.takeByte_rare (s : State) (l : Nat) (n : Nat) (b : Option Nat) :
    (State.takeByte s l n b).regs.rare = s.regs.rare := by
  simp +decide [State.takeByte]

@[simp] theorem State.endFrame_rare (s : State) (l : Nat) :
    (State.endFrame s l).regs.rare = s.regs.rare := by
  simp +decide [State.endFrame]

@[simp] theorem State.proposeEntry_rare (s : State) (p : Nat) :
    (State.proposeEntry s p).regs.rare = s.regs.rare := by
  simp +decide [State.proposeEntry]

/-! ### Xengine -/

@[simp] theorem State.endAwaiting_rare (s : State) (m : Nat) (ks : List Nat) :
    (State.endAwaiting s m ks).regs.rare = s.regs.rare := by
  simp +decide [State.endAwaiting]

@[simp] theorem State.landFxuTone_rare (s : State) (ls : List Nat) (k : Nat) :
    (State.landFxuTone s ls k).regs.rare = s.regs.rare := by
  simp +decide [State.landFxuTone]

@[simp] theorem State.landPrd_rare (s : State) (ls : List Nat) (k : Nat) :
    (State.landPrd s ls k).regs.rare = s.regs.rare := by
  simp +decide [State.landPrd]

@[simp] theorem State.markGroups_rare (s : State) (g : Nat) (ls : List Nat) :
    (State.markGroups s g ls).regs.rare = s.regs.rare := by
  simp +decide [State.markGroups]

@[simp] theorem State.storeEstimate_rare (s : State) (m : Nat) (k : Nat) (v : Nat) (d : Nat) (c : Cx) :
    (State.storeEstimate s m k v d c).regs.rare = s.regs.rare := by
  simp +decide [State.storeEstimate]

@[simp] theorem State.joinWritten_rare (s : State) (j : Join) (phase : JoinPhase) (more : Bool) :
    (State.joinWritten s j phase more).regs.rare = s.regs.rare := by
  simp +decide [State.joinWritten]

@[simp] theorem State.writeColumns_rare (s : State) (j : Join) :
    (State.writeColumns s j).regs.rare = s.regs.rare := by
  unfold State.writeColumns
  refine foldl_rare _ (fun s d => ?_) _ _
  refine foldl_rare _ (fun s v => ?_) _ _
  refine foldl_rare _ (fun s k => ?_) _ _
  simp +decide

@[simp] theorem State.writeRows_rare (s : State) (j : Join) :
    (State.writeRows s j).regs.rare = s.regs.rare := by
  unfold State.writeRows
  refine foldl_rare _ (fun s d => ?_) _ _
  refine foldl_rare _ (fun s k => ?_) _ _
  dsimp only
  split
  · refine foldl_rare _ (fun s j => ?_) _ _
    simp +decide
  · rw [State.setFeq_rare]
    refine foldl_rare _ (fun s j => ?_) _ _
    simp +decide

@[simp] theorem State.writeFxu_rare (s : State) (j : Join) :
    (State.writeFxu s j).regs.rare = s.regs.rare := by
  unfold State.writeFxu
  refine foldl_rare _ (fun s d => ?_) _ _
  refine foldl_rare _ (fun s k => ?_) _ _
  dsimp only
  refine (foldl_rare _ (fun s j => ?_) _ _).trans ?_
  · simp +decide
  · refine foldl_rare _ (fun s j => ?_) _ _
    simp +decide

@[simp] theorem State.writeJoinPrd_rare (s : State) (j : Join) :
    (State.writeJoinPrd s j).regs.rare = s.regs.rare := by
  unfold State.writeJoinPrd
  refine foldl_rare _ (fun s d => ?_) _ _
  refine foldl_rare _ (fun s v => ?_) _ _
  refine foldl_rare _ (fun s k => ?_) _ _
  simp +decide

@[simp] theorem State.withActive_rare (s : State) (ls : List Nat) :
    (State.withActive s ls).regs.rare = s.regs.rare := by
  simp +decide [State.withActive]

@[simp] theorem State.cutGain_rare (s : State) (ls : List Nat) (l : Nat) (k : Nat) (a4 : Nat) :
    (State.cutGain s ls l k a4).regs.rare = s.regs.rare := by
  induction a4 generalizing s with
  | zero => rfl
  | succ n ih =>
    unfold State.cutGain
    try dsimp only
    (repeat' split) <;> simp +decide [ih]

@[simp] theorem State.showWaiting_rare (s : State) :
    (State.showWaiting s).regs.rare = s.regs.rare := by
  simp +decide [State.showWaiting]

@[simp] theorem State.startCensus_rare (s : State) (dir : Nat) (l : Nat) :
    (State.startCensus s dir l).regs.rare = s.regs.rare := by
  simp +decide [State.startCensus]

@[simp] theorem State.finishXw_rare (s : State) (status : Nat) (ce : Nat) :
    (State.finishXw s status ce).regs.rare = s.regs.rare := by
  simp +decide [State.finishXw]

@[simp] theorem State.blankXw_rare (s : State) :
    (State.blankXw s).regs.rare = s.regs.rare := by
  simp +decide [State.blankXw]

@[simp] theorem State.startXw_rare (s : State) (write : Bool) (master : Nat) :
    (State.startXw s write master).regs.rare = s.regs.rare := by
  simp +decide [State.startXw]

@[simp] theorem State.captureRow_rare (s : State) (r : XwRequest) (bad : List (Nat × Bool)) :
    (State.captureRow s r bad).regs.rare = s.regs.rare := by
  simp +decide [State.captureRow]

@[simp] theorem State.dropRow_rare (s : State) (r : XwRequest) :
    (State.dropRow s r).regs.rare = s.regs.rare := by
  simp +decide [State.dropRow]

@[simp] theorem State.landRow_rare (s : State) (r : XwRequest) :
    (State.landRow s r).regs.rare = s.regs.rare := by
  simp +decide [State.landRow]

/-! ### BringUp -/

@[simp] theorem State.send_rare (s : State) (l : Nat) (m : List Nat) (gap : Nat) :
    (State.send s l m gap).regs.rare = s.regs.rare := by
  simp +decide [State.send]

@[simp] theorem State.enterHandshake_rare (s : State) (l : Nat) :
    (State.enterHandshake s l).regs.rare = s.regs.rare := by
  simp +decide [State.enterHandshake]

@[simp] theorem State.sendOffer_rare (s : State) (l : Nat) (gap : Nat) :
    (State.sendOffer s l gap).regs.rare = s.regs.rare := by
  simp +decide [State.sendOffer]

@[simp] theorem State.recordPartner_rare (s : State) (l : Nat) (m : List Nat) :
    (State.recordPartner s l m).regs.rare = s.regs.rare := by
  simp +decide [State.recordPartner]

@[simp] theorem State.takeGrid_rare (s : State) (l : Nat) (sfc : Nat) :
    (State.takeGrid s l sfc).regs.rare = s.regs.rare := by
  simp +decide [State.takeGrid]

@[simp] theorem State.sendGo_rare (s : State) (l : Nat) (gap : Nat) :
    (State.sendGo s l gap).regs.rare = s.regs.rare := by
  simp +decide [State.sendGo]

@[simp] theorem State.setTrainedFeq_rare (s : State) (l : Nat) :
    (State.setTrainedFeq s l).regs.rare = s.regs.rare := by
  simp +decide [State.setTrainedFeq]

@[simp] theorem State.showSnr_rare (s : State) (l : Nat) :
    (State.showSnr s l).regs.rare = s.regs.rare := by
  unfold State.showSnr; dsimp only; (repeat' split) <;> simp +decide

@[simp] theorem State.watchSnr_rare (s : State) (l : Nat) :
    (State.watchSnr s l).regs.rare = s.regs.rare := by
  unfold State.watchSnr; dsimp only; (repeat' split) <;> simp +decide

@[simp] theorem State.proposeBank_rare (s : State) (p : Nat) :
    (State.proposeBank s p).regs.rare = s.regs.rare := by
  simp +decide [State.proposeBank]

@[simp] theorem State.startWake_rare (s : State) (p : Nat) :
    (State.startWake s p).regs.rare = s.regs.rare := by
  simp +decide [State.startWake]

/-! ### Monitor -/

@[simp] theorem State.armSync_rare (s : State) (l : Nat) (src : Nat) :
    (State.armSync s l src).regs.rare = s.regs.rare := by
  simp +decide [State.armSync]

@[simp] theorem State.cancelSync_rare (s : State) (l : Nat) :
    (State.cancelSync s l).regs.rare = s.regs.rare := by
  simp +decide [State.cancelSync]

@[simp] theorem State.swapBanks_rare (s : State) (l : Nat) :
    (State.swapBanks s l).regs.rare = s.regs.rare := by
  simp +decide [State.swapBanks]

@[simp] theorem State.startCapture_rare (s : State) (l : Nat) :
    (State.startCapture s l).regs.rare = s.regs.rare := by
  simp +decide [State.startCapture]

@[simp] theorem State.restartWatch_rare (s : State) (l : Nat) :
    (State.restartWatch s l).regs.rare = s.regs.rare := by
  simp +decide [State.restartWatch]

@[simp] theorem State.lineSecond_rare (s : State) (l : Nat) :
    (State.lineSecond s l).regs.rare = s.regs.rare := by
  simp +decide [State.lineSecond]

@[simp] theorem State.portSecond_rare (s : State) (p : Nat) :
    (State.portSecond s p).regs.rare = s.regs.rare := by
  simp +decide [State.portSecond]

@[simp] theorem State.setSlot_rare (s : State) (c : Nat) (kind : Nat) (l : Nat) :
    (State.setSlot s c kind l).regs.rare = s.regs.rare := by
  simp +decide [State.setSlot]

@[simp] theorem State.freeSlot_rare (s : State) (l : Nat) :
    (State.freeSlot s l).regs.rare = s.regs.rare := by
  simp +decide [State.freeSlot]

/-! ### Cal -/

@[simp] theorem State.markDue_rare (s : State) (l : Nat) (source : Nat) (moment : Nat) (full : Bool) :
    (State.markDue s l source moment full).regs.rare = s.regs.rare := by
  simp +decide [State.markDue]

@[simp] theorem State.temperatureDue_rare (s : State) :
    (State.temperatureDue s).regs.rare = s.regs.rare := by
  simp +decide [State.temperatureDue]

@[simp] theorem State.factoryValues_rare (s : State) (l : Nat) :
    (State.factoryValues s l).regs.rare = s.regs.rare := by
  simp +decide [State.factoryValues]

@[simp] theorem State.giveUpCal_rare (s : State) (l : Nat) :
    (State.giveUpCal s l).regs.rare = s.regs.rare := by
  simp +decide [State.giveUpCal]

@[simp] theorem State.endCal_rare (s : State) (l : Nat) (reason : Nat) :
    (State.endCal s l reason).regs.rare = s.regs.rare := by
  simp +decide [State.endCal]

@[simp] theorem State.showMeasured_rare (s : State) (l : Nat) (both : Bool) :
    (State.showMeasured s l both).regs.rare = s.regs.rare := by
  unfold State.showMeasured; dsimp only; (repeat' split) <;> simp +decide

@[simp] theorem State.cutRun_rare (s : State) (l reason : Nat) :
    (State.cutRun s l reason).regs.rare = s.regs.rare := by
  simp +decide [State.cutRun]

@[simp] theorem State.stopCal_rare (s : State) (l : Nat) (reason : Nat) :
    (State.stopCal s l reason).regs.rare = s.regs.rare := by
  simp +decide [State.stopCal]

@[simp] theorem State.beginCal_rare (s : State) (l : Nat) (st : Nat) :
    (State.beginCal s l st).regs.rare = s.regs.rare := by
  simp +decide [State.beginCal]

@[simp] theorem State.sweepGaps_rare (s : State) :
    (State.sweepGaps s).regs.rare = s.regs.rare := by
  unfold State.sweepGaps
  refine foldl_rare _ (fun s x => ?_) _ _
  try dsimp only
  (repeat' split) <;> simp +decide

@[simp] theorem State.requestCal_rare (s : State) (l : Nat) :
    (State.requestCal s l).regs.rare = s.regs.rare := by
  simp +decide [State.requestCal]

@[simp] theorem State.requestAll_rare (s : State) :
    (State.requestAll s).regs.rare = s.regs.rare := by
  simp +decide [State.requestAll]

@[simp] theorem State.calValues_rare (s : State) (l : Nat) (full : Bool) (r : CalResult) :
    (State.calValues s l full r).2.regs.rare = s.regs.rare := by
  simp +decide [State.calValues]

@[simp] theorem State.showCal_rare (s : State) (l : Nat) (v : CalValues) (r : CalResult) :
    (State.showCal s l v r).regs.rare = s.regs.rare := by
  simp +decide [State.showCal]

@[simp] theorem State.completeCal_rare (s : State) (l : Nat) (r : CalResult) :
    (State.completeCal s l r).regs.rare = s.regs.rare := by
  simp +decide [State.completeCal]

@[simp] theorem State.startPowerup_rare (s : State) (c : Nat) :
    (State.startPowerup s c).regs.rare = s.regs.rare := by
  simp +decide [State.startPowerup]

/-! ### Lanes -/

@[simp] theorem State.sortPort_rare (s : State) (p : Nat) :
    (State.sortPort s p).regs.rare = s.regs.rare := by
  simp +decide [State.sortPort]

@[simp] theorem State.sortLane_rare (s : State) (l : Nat) :
    (State.sortLane s l).regs.rare = s.regs.rare := by
  simp +decide [State.sortLane]

@[simp] theorem State.darkenStd_rare (s : State) (p : Nat) :
    (State.darkenStd s p).regs.rare = s.regs.rare := by
  unfold State.darkenStd; (repeat' split) <;> simp +decide

@[simp] theorem State.flushStd_rare (s : State) (p : Nat) :
    (State.flushStd s p).regs.rare = s.regs.rare := by
  unfold State.flushStd; (repeat' split) <;> simp +decide

@[simp] theorem State.zeroStamps_rare (s : State) (p : Nat) :
    (State.zeroStamps s p).regs.rare = s.regs.rare := by
  simp +decide [State.zeroStamps]

@[simp] theorem State.laneTo_rare (s : State) (l : Nat) (st : Nat) :
    (State.laneTo s l st).regs.rare = s.regs.rare := by
  simp +decide [State.laneTo]

@[simp] theorem State.startLane_rare (s : State) (l : Nat) :
    (State.startLane s l).regs.rare = s.regs.rare := by
  simp +decide [State.startLane]

@[simp] theorem State.stopLane_rare (s : State) (l : Nat) :
    (State.stopLane s l).regs.rare = s.regs.rare := by
  simp +decide [State.stopLane]

@[simp] theorem State.restartLane_rare (s : State) (l : Nat) :
    (State.restartLane s l).regs.rare = s.regs.rare := by
  simp +decide [State.restartLane]

@[simp] theorem State.retrainLane_rare (s : State) (l : Nat) :
    (State.retrainLane s l).regs.rare = s.regs.rare := by
  simp +decide [State.retrainLane]

@[simp] theorem State.loopLane_rare (s : State) (l : Nat) :
    (State.loopLane s l).regs.rare = s.regs.rare := by
  simp +decide [State.loopLane]

@[simp] theorem State.laneSends_rare (s : State) (l : Nat) (bs : List Block) :
    (State.laneSends s l bs).regs.rare = s.regs.rare := by
  simp +decide [State.laneSends]

@[simp] theorem State.loseLane_rare (s : State) (l : Nat) (reason : Nat) (c : Nat) :
    (State.loseLane s l reason c).regs.rare = s.regs.rare := by
  simp +decide [State.loseLane]

@[simp] theorem State.sendStamp_rare (s : State) (p : Nat) :
    (State.sendStamp s p).regs.rare = s.regs.rare := by
  simp +decide [State.sendStamp]

@[simp] theorem State.grantStamp_rare (s : State) (p : Nat) :
    (State.grantStamp s p).regs.rare = s.regs.rare := by
  unfold State.grantStamp; (repeat' split) <;> simp +decide

@[simp] theorem State.sendPause_rare (s : State) (p : Nat) (quanta : Nat) :
    (State.sendPause s p quanta).regs.rare = s.regs.rare := by
  simp +decide [State.sendPause]

@[simp] theorem State.checkPause_rare (s : State) (p : Nat) :
    (State.checkPause s p).regs.rare = s.regs.rare := by
  simp +decide [State.checkPause]

@[simp] theorem State.hostControl_rare (s : State) (l : Nat) (p : Nat) (b : Block) :
    (State.hostControl s l p b).regs.rare = s.regs.rare := by
  simp +decide [State.hostControl]

@[simp] theorem State.countBlock_rare (s : State) (p : Nat) (b : Block) :
    (State.countBlock s p b).regs.rare = s.regs.rare := by
  simp +decide [State.countBlock]

@[simp] theorem State.noteStat_rare (s : State) (p : Nat) :
    (State.noteStat s p).regs.rare = s.regs.rare := by
  simp +decide [State.noteStat]

@[simp] theorem State.takePeer_rare (s : State) (p : Nat) (up : Nat) (onward : Nat) (hops : Nat) :
    (State.takePeer s p up onward hops).regs.rare = s.regs.rare := by
  simp +decide [State.takePeer]

@[simp] theorem State.holdTrim_rare (s : State) (src : Nat) :
    (State.holdTrim s src).regs.rare = s.regs.rare := by
  simp +decide [State.holdTrim]

/-! ### Isolation -/

@[simp] theorem State.landLetterbox_rare (s : State) (c : Nat) (tag : Nat) (status : Nat) (resp : List Nat) :
    (State.landLetterbox s c tag status resp).regs.rare = s.regs.rare := by
  simp +decide [State.landLetterbox]

@[simp] theorem State.abortLetterbox_rare (s : State) :
    (State.abortLetterbox s).regs.rare = s.regs.rare := by
  simp +decide [State.abortLetterbox]

@[simp] theorem State.restartStoker_rare (s : State) :
    (State.restartStoker s).regs.rare = s.regs.rare := by
  simp +decide [State.restartStoker]

@[simp] theorem State.writeVx_rare (s : State) (mv : Nat) :
    (State.writeVx s mv).regs.rare = s.regs.rare := by
  simp +decide [State.writeVx]

@[simp] theorem State.writeSlew_rare (s : State) :
    (State.writeSlew s).regs.rare = s.regs.rare := by
  simp +decide [State.writeSlew]

@[simp] theorem State.slowTo_rare (s : State) (g : Nat) :
    (State.slowTo s g).regs.rare = s.regs.rare := by
  simp +decide [State.slowTo]

@[simp] theorem State.speedTo_rare (s : State) (g : Nat) :
    (State.speedTo s g).regs.rare = s.regs.rare := by
  simp +decide [State.speedTo]

@[simp] theorem State.emergencyP3_rare (s : State) :
    (State.emergencyP3 s).regs.rare = s.regs.rare := by
  simp +decide [State.emergencyP3]

@[simp] theorem State.dropToP3_rare (s : State) :
    (State.dropToP3 s).regs.rare = s.regs.rare := by
  simp +decide [State.dropToP3]

@[simp] theorem State.linesChanged_rare (s : State) (src : Nat) :
    (State.linesChanged s src).regs.rare = s.regs.rare := by
  simp +decide [State.linesChanged]

@[simp] theorem State.markIsolated_rare (s : State) (src : Nat) :
    (State.markIsolated s src).regs.rare = s.regs.rare := by
  simp +decide [State.markIsolated]

@[simp] theorem State.release_rare (s : State) (src : Nat) :
    (State.release s src).regs.rare = s.regs.rare := by
  simp +decide [State.release]

@[simp] theorem State.isolateLane_rare (s : State) (l : Nat) :
    (State.isolateLane s l).regs.rare = s.regs.rare := by
  simp +decide [State.isolateLane]

@[simp] theorem State.endHandling_rare (s : State) (src : Nat) :
    (State.endHandling s src).regs.rare = s.regs.rare := by
  simp +decide [State.endHandling]

/-! ### Landing -/

@[simp] theorem State.stage_rare (s : State) (F : Fld) (i : Nat) (j : Nat) (v : Nat) :
    (State.stage s F i j v).regs.rare = s.regs.rare := by
  simp +decide [State.stage]

@[simp] theorem State.emptyEnvelope_rare (s : State) (p : Page) (i : Nat) :
    (State.emptyEnvelope s p i).regs.rare = s.regs.rare := by
  simp +decide [State.emptyEnvelope]

@[simp] theorem State.refreshMaskWait_rare (s : State) (l : Nat) :
    (State.refreshMaskWait s l).regs.rare = s.regs.rare := by
  simp +decide [State.refreshMaskWait]

@[simp] theorem State.dropPolls_rare (s : State) (l : Nat) :
    (State.dropPolls s l).regs.rare = s.regs.rare := by
  simp +decide [State.dropPolls]

/-! ### Reach -/

@[simp] theorem State.reachPga_rare (s : State) (l : Nat) :
    (State.reachPga s l).regs.rare = s.regs.rare := by
  unfold State.reachPga; split <;> simp +decide

@[simp] theorem State.reachProfile_rare (s : State) (l : Nat) :
    (State.reachProfile s l).regs.rare = s.regs.rare := by
  simp +decide [State.reachProfile]

@[simp] theorem State.refreshQueue_rare (s : State) (l : Nat) :
    (State.refreshQueue s l).regs.rare = s.regs.rare := by
  simp +decide [State.refreshQueue]

@[simp] theorem State.toReachHost_rare (s : State) (l : Nat) (bytes : List Nat) :
    (State.toReachHost s l bytes).regs.rare = s.regs.rare := by
  simp +decide [State.toReachHost]

@[simp] theorem State.statusRecord_rare (s : State) (l : Nat) (addr : Nat) (seq : Nat) (code : Nat) :
    (State.statusRecord s l addr seq code).regs.rare = s.regs.rare := by
  simp +decide [State.statusRecord]

@[simp] theorem State.startPacket_rare (s : State) (l : Nat) (c : ReachChoice) :
    (State.startPacket s l c).regs.rare = s.regs.rare := by
  simp +decide [State.startPacket]

@[simp] theorem State.beginReception_rare (s : State) (l : Nat) (bin : Nat) (power : Int) :
    (State.beginReception s l bin power).regs.rare = s.regs.rare := by
  simp +decide [State.beginReception]

@[simp] theorem State.noteEndpoint_rare (s : State) (l : Nat) (x : ReachRx) :
    (State.noteEndpoint s l x).regs.rare = s.regs.rare := by
  simp +decide [State.noteEndpoint]

@[simp] theorem State.deliverPacket_rare (s : State) (l : Nat) (x : ReachRx) (payload : List Nat) :
    (State.deliverPacket s l x payload).regs.rare = s.regs.rare := by
  simp +decide [State.deliverPacket]

@[simp] theorem State.goodPacket_rare (s : State) (l : Nat) (x : ReachRx) (payload : List Nat) :
    (State.goodPacket s l x payload).regs.rare = s.regs.rare := by
  simp +decide [State.goodPacket]

@[simp] theorem State.closeWindow_rare (s : State) (l : Nat) :
    (State.closeWindow s l).regs.rare = s.regs.rare := by
  simp +decide [State.closeWindow]

/-! ### Standard -/

@[simp] theorem State.refreshQuad_rare (s : State) (q : Nat) :
    (State.refreshQuad s q).regs.rare = s.regs.rare := by
  simp +decide [State.refreshQuad]

@[simp] theorem State.clearLink_rare (s : State) (q : Nat) :
    (State.clearLink s q).regs.rare = s.regs.rare := by
  simp +decide [State.clearLink]

@[simp] theorem State.startNegotiation_rare (s : State) (q : Nat) :
    (State.startNegotiation s q).regs.rare = s.regs.rare := by
  simp +decide [State.startNegotiation]

@[simp] theorem State.startStandard_rare (s : State) (q : Nat) :
    (State.startStandard s q).regs.rare = s.regs.rare := by
  simp +decide [State.startStandard]

@[simp] theorem State.loseLink_rare (s : State) (q : Nat) :
    (State.loseLink s q).regs.rare = s.regs.rare := by
  simp +decide [State.loseLink]

@[simp] theorem State.restartNegotiation_rare (s : State) (q : Nat) :
    (State.restartNegotiation s q).regs.rare = s.regs.rare := by
  simp +decide [State.restartNegotiation]

@[simp] theorem State.countPcs_rare (s : State) (q : Nat) (n : Nat) :
    (State.countPcs s q n).regs.rare = s.regs.rare := by
  simp +decide [State.countPcs]

@[simp] theorem State.mmdRead_rare (s : State) (p : Nat) (mmd : Nat) (reg : Nat) :
    (State.mmdRead s p mmd reg).2.regs.rare = s.regs.rare := by
  unfold State.mmdRead; dsimp only; (repeat' split) <;> simp +decide

/-! ### Reset -/

@[simp] theorem State.gateControl_rare (s : State) :
    (State.gateControl s).regs.rare = s.regs.rare := by
  unfold State.gateControl; dsimp only; (repeat' split) <;> simp +decide

@[simp] theorem State.coldStart_rare (s : State) :
    (State.coldStart s).regs.rare = s.regs.rare := by
  simp +decide [State.coldStart]

/-! ### Clocks -/

@[simp] theorem State.enterReduced_rare (s : State) :
    (State.enterReduced s).regs.rare = s.regs.rare := by
  simp +decide [State.enterReduced]

@[simp] theorem State.refreshCmux_rare (s : State) :
    (State.refreshCmux s).regs.rare = s.regs.rare := by
  simp +decide [State.refreshCmux]

@[simp] theorem State.setSuspect_rare (s : State) :
    (State.setSuspect s).regs.rare = s.regs.rare := by
  simp +decide [State.setSuspect]

@[simp] theorem State.refreshTmux_rare (s : State) :
    (State.refreshTmux s).regs.rare = s.regs.rare := by
  simp +decide [State.refreshTmux]

@[simp] theorem State.refreshClocks_rare (s : State) :
    (State.refreshClocks s).regs.rare = s.regs.rare := by
  simp +decide [State.refreshClocks]

@[simp] theorem State.referenceLost_rare (s : State) :
    (State.referenceLost s).regs.rare = s.regs.rare := by
  simp +decide [State.referenceLost]

@[simp] theorem State.loseSpll_rare (s : State) :
    (State.loseSpll s).regs.rare = s.regs.rare := by
  simp +decide [State.loseSpll]

@[simp] theorem State.startPlls_rare (s : State) (ps : List Nat) :
    (State.startPlls s ps).regs.rare = s.regs.rare := by
  simp +decide [State.startPlls]

@[simp] theorem State.koscGood_rare (s : State) :
    (State.koscGood s).regs.rare = s.regs.rare := by
  simp +decide [State.koscGood]

@[simp] theorem State.koscBad_rare (s : State) :
    (State.koscBad s).regs.rare = s.regs.rare := by
  simp +decide [State.koscBad]

@[simp] theorem State.landFreqmon_rare (s : State) (reason : Nat) (count : Nat) (hz : Nat) :
    (State.landFreqmon s reason count hz).regs.rare = s.regs.rare := by
  simp +decide [State.landFreqmon]

@[simp] theorem State.startFreqmon_rare (s : State) :
    (State.startFreqmon s).regs.rare = s.regs.rare := by
  simp +decide [State.startFreqmon]

@[simp] theorem State.advanceTime_rare (s : State) (n : Int) :
    (State.advanceTime s n).regs.rare = s.regs.rare := by
  simp +decide [State.advanceTime]

@[simp] theorem State.timeTick_rare (s : State) :
    (State.timeTick s).regs.rare = s.regs.rare := by
  simp +decide [State.timeTick]

@[simp] theorem State.landSet_rare (s : State) :
    (State.landSet s).regs.rare = s.regs.rare := by
  simp +decide [State.landSet]

@[simp] theorem State.landAdd_rare (s : State) :
    (State.landAdd s).regs.rare = s.regs.rare := by
  simp +decide [State.landAdd]

/-! ### Perf -/

@[simp] theorem State.unityNorm_rare (s : State) (nv : Nat) :
    (State.unityNorm s nv).regs.rare = s.regs.rare := by
  simp +decide [State.unityNorm]

@[simp] theorem State.endAbove_rare (s : State) (nv : Nat) :
    (State.endAbove s nv).regs.rare = s.regs.rare := by
  simp +decide [State.endAbove]

@[simp] theorem State.vectorNorm_rare (s : State) (ks : List Nat) :
    (State.vectorNorm s ks).regs.rare = s.regs.rare := by
  simp +decide [State.vectorNorm]

@[simp] theorem State.showTemps_rare (s : State) (ts : List Int) :
    (State.showTemps s ts).regs.rare = s.regs.rare := by
  simp +decide [State.showTemps]

@[simp] theorem State.clearPeak_rare (s : State) :
    (State.clearPeak s).regs.rare = s.regs.rare := by
  simp +decide [State.clearPeak]

@[simp] theorem State.clearMinmax_rare (s : State) (c : Nat) :
    (State.clearMinmax s c).regs.rare = s.regs.rare := by
  simp +decide [State.clearMinmax]

/-! ### Power -/

@[simp] theorem State.powerTo_rare (s : State) (st : Nat) :
    (State.powerTo s st).regs.rare = s.regs.rare := by
  simp +decide [State.powerTo]

@[simp] theorem State.gateCluster_rare (s : State) (c : Nat) :
    (State.gateCluster s c).regs.rare = s.regs.rare := by
  simp +decide [State.gateCluster]

@[simp] theorem State.ungateCluster_rare (s : State) (c : Nat) :
    (State.ungateCluster s c).regs.rare = s.regs.rare := by
  simp +decide [State.ungateCluster]

@[simp] theorem State.refreshGates_rare (s : State) :
    (State.refreshGates s).regs.rare = s.regs.rare := by
  simp +decide [State.refreshGates]

@[simp] theorem State.refuseStage_rare (s : State) (stage : Nat) (reason : Nat) (inst : Nat) :
    (State.refuseStage s stage reason inst).regs.rare = s.regs.rare := by
  simp +decide [State.refuseStage]

@[simp] theorem State.stopLines_rare (s : State) :
    (State.stopLines s).regs.rare = s.regs.rare := by
  simp +decide [State.stopLines]

@[simp] theorem State.stopEngine_rare (s : State) :
    (State.stopEngine s).regs.rare = s.regs.rare := by
  simp +decide [State.stopEngine]

@[simp] theorem State.enterEmber_rare (s : State) :
    (State.enterEmber s).regs.rare = s.regs.rare := by
  simp +decide [State.enterEmber]

@[simp] theorem State.beginWake_rare (s : State) (sub : Nat) :
    (State.beginWake s sub).regs.rare = s.regs.rare := by
  simp +decide [State.beginWake]

@[simp] theorem State.wakeHearth_rare (s : State) :
    (State.wakeHearth s).regs.rare = s.regs.rare := by
  simp +decide [State.wakeHearth]

@[simp] theorem State.wakeUp_rare (s : State) (cause : Nat) (line : Nat) :
    (State.wakeUp s cause line).regs.rare = s.regs.rare := by
  simp +decide [State.wakeUp]

/-! ### FaultRows -/

@[simp] theorem State.countTie_rare (s : State) (fs : List FaultReport) (injected : Bool) :
    (State.countTie s fs injected).regs.rare = s.regs.rare := by
  simp +decide [State.countTie]

@[simp] theorem State.recordTie_rare (s : State) (real : List FaultReport) (inj : Option FaultReport) :
    (State.recordTie s real inj).regs.rare = s.regs.rare := by
  unfold State.recordTie; dsimp only; (repeat' split) <;> simp +decide

@[simp] theorem State.briefRecovery_rare (s : State) (src : Nat) :
    (State.briefRecovery s src).regs.rare = s.regs.rare := by
  simp +decide [State.briefRecovery]

@[simp] theorem State.abortOpcodes_rare (s : State) (test : Nat → Bool) :
    (State.abortOpcodes s test).regs.rare = s.regs.rare := by
  simp +decide [State.abortOpcodes]

@[simp] theorem State.trustFault_rare (s : State) (code : Nat) :
    (State.trustFault s code).regs.rare = s.regs.rare := by
  simp +decide [State.trustFault]

@[simp] theorem State.setFence_rare (s : State) (m : Nat) (on : Bool) :
    (State.setFence s m on).regs.rare = s.regs.rare := by
  simp +decide [State.setFence]

@[simp] theorem State.refreshRevoked_rare (s : State) :
    (State.refreshRevoked s).regs.rare = s.regs.rare := by
  simp +decide [State.refreshRevoked]

@[simp] theorem State.respond_rare (s : State) (r : InbandReq) (status : Nat) (data : List Nat) :
    (State.respond s r status data).regs.rare = s.regs.rare := by
  simp +decide [State.respond]

/-! ### Trust -/

@[simp] theorem State.freshNonce_rare (s : State) (c : Nat) (keep : Bool) :
    (State.freshNonce s c keep).regs.rare = s.regs.rare := by
  simp +decide [State.freshNonce]

@[simp] theorem State.countFailure_rare (s : State) (c : Nat) :
    (State.countFailure s c).regs.rare = s.regs.rare := by
  simp +decide [State.countFailure]

@[simp] theorem State.openSession_rare (s : State) (c : Nat) :
    (State.openSession s c).regs.rare = s.regs.rare := by
  simp +decide [State.openSession]

@[simp] theorem State.openLocked_rare (s : State) (c : Nat) :
    (State.openLocked s c).regs.rare = s.regs.rare := by
  simp +decide [State.openLocked]

@[simp] theorem State.clearKey_rare (s : State) : (State.clearKey s).regs.rare = s.regs.rare := by
  simp +decide [State.clearKey]

@[simp] theorem State.endBurn_rare (s : State) :
    (State.endBurn s).regs.rare = s.regs.rare := by
  unfold State.endBurn; split <;> simp +decide

@[simp] theorem State.program_rare (s : State) (slot : Nat) (maxRole : Nat) (usage : Nat) :
    (State.program s slot maxRole usage).regs.rare = s.regs.rare := by
  simp +decide [State.program]

@[simp] theorem State.installSa_rare (s : State) (p : Nat) (a : Nat) :
    (State.installSa s p a).regs.rare = s.regs.rare := by
  simp +decide [State.installSa]

@[simp] theorem State.modImage_rare (s : State) (k : Nat) (f : ImageSlot → ImageSlot) :
    (State.modImage s k f).regs.rare = s.regs.rare := by
  simp +decide [State.modImage]

@[simp] theorem State.trySlot_rare (s : State) (k : Nat) :
    (State.trySlot s k).2.regs.rare = s.regs.rare := by
  simp +decide [State.trySlot]

@[simp] theorem State.runImage_rare (s : State) (k : Nat) (fallback : Bool) :
    (State.runImage s k fallback).regs.rare = s.regs.rare := by
  simp +decide [State.runImage]

@[simp] theorem State.confirmBoot_rare (s : State) :
    (State.confirmBoot s).regs.rare = s.regs.rare := by
  simp +decide [State.confirmBoot]

@[simp] theorem State.commitSvn_rare (s : State) :
    (State.commitSvn s).regs.rare = s.regs.rare := by
  simp +decide [State.commitSvn]

/-! ### Envelope -/

@[simp] theorem State.enterLeaving_rare (s : State) (l : Nat) :
    (State.enterLeaving s l).regs.rare = s.regs.rare := by
  simp +decide [State.enterLeaving]

@[simp] theorem State.failSet_rare (s : State) (set : Pages) (run : Bool) (r : Nat) :
    (State.failSet s set run r).regs.rare = s.regs.rare := by
  simp +decide [State.failSet]

@[simp] theorem State.decidePlain_rare (s : State) (es : Pages) :
    (State.decidePlain s es).regs.rare = s.regs.rare := by
  unfold State.decidePlain; (repeat' split) <;> simp +decide

@[simp] theorem State.cancelRun_rare (s : State) :
    (State.cancelRun s).regs.rare = s.regs.rare := by
  unfold State.cancelRun; split <;> simp +decide

@[simp] theorem State.clearSecy_rare (s : State) (p : Nat) :
    (State.clearSecy s p).regs.rare = s.regs.rare := by
  simp +decide [State.clearSecy]

@[simp] theorem State.refreshThru_rare (s : State) :
    (State.refreshThru s).regs.rare = s.regs.rare := by
  simp +decide [State.refreshThru]

@[simp] theorem State.setLanded_rare (s : State) (set : Pages) (run : Bool) (steps : Nat) :
    (State.setLanded s set run steps).regs.rare = s.regs.rare := by
  simp +decide [State.setLanded]

@[simp] theorem State.sealedLanded_rare (s : State) (es : Pages) :
    (State.sealedLanded s es).regs.rare = s.regs.rare := by
  simp +decide [State.sealedLanded]

@[simp] theorem State.holdPosts_rare (s : State) (es : Pages) :
    (State.holdPosts s es).regs.rare = s.regs.rare := by
  unfold State.holdPosts; (repeat' split) <;> simp +decide

@[simp] theorem State.confirmNeg_rare (s : State) (port : Nat) :
    (State.confirmNeg s port).regs.rare = s.regs.rare := by
  simp +decide [State.confirmNeg]

/-! ### Grid -/

@[simp] theorem State.advanceGrid_rare (s : State) :
    (State.advanceGrid s).regs.rare = s.regs.rare := by
  simp +decide [State.advanceGrid]

@[simp] theorem State.pulseSync_rare (s : State) :
    (State.pulseSync s).regs.rare = s.regs.rare := by
  simp +decide [State.pulseSync]

@[simp] theorem State.showSeal_rare (s : State) (p : Nat) :
    (State.showSeal s p).regs.rare = s.regs.rare := by
  unfold State.showSeal; split <;> simp +decide

@[simp] theorem State.closeEmpty_rare (s : State) (p : Nat) :
    (State.closeEmpty s p).regs.rare = s.regs.rare := by
  unfold State.closeEmpty; split <;> simp +decide

@[simp] theorem State.seedScramblers_rare (s : State) (p : Nat) :
    (State.seedScramblers s p).regs.rare = s.regs.rare := by
  simp +decide [State.seedScramblers]

@[simp] theorem State.retryDrop_rare (s : State) (p : Nat) :
    (State.retryDrop s p).regs.rare = s.regs.rare := by
  unfold State.retryDrop; dsimp only; (repeat' split) <;> simp +decide

@[simp] theorem State.repeatSegs_rare (s : State) (l : Nat) :
    (State.repeatSegs s l).regs.rare = s.regs.rare := by
  unfold State.repeatSegs; dsimp only; (repeat' split) <;> simp +decide

@[simp] theorem State.showResiduals_rare (s : State) (m : LineMeter) :
    (State.showResiduals s m).regs.rare = s.regs.rare := by
  unfold State.showResiduals; dsimp only; (repeat' split) <;> simp +decide

@[simp] theorem State.meterLine_rare (s : State) (l : Nat) :
    (State.meterLine s l).regs.rare = s.regs.rare := by
  simp +decide [State.meterLine]

@[simp] theorem State.retrainWord_rare (s : State) (l : Nat) :
    (State.retrainWord s l).regs.rare = s.regs.rare := by
  simp +decide [State.retrainWord]

@[simp] theorem State.pilotBlock_rare (s : State) (l : Nat) :
    (State.pilotBlock s l).regs.rare = s.regs.rare := by
  simp +decide [State.pilotBlock]

@[simp] theorem State.tailSuperframe_rare (s : State) (l : Nat) :
    (State.tailSuperframe s l).regs.rare = s.regs.rare := by
  simp +decide [State.tailSuperframe]

@[simp] theorem State.serveJoin_rare (s : State) :
    (State.serveJoin s).regs.rare = s.regs.rare := by
  simp +decide [State.serveJoin]

@[simp] theorem State.rollFeedback_rare (s : State) :
    (State.rollFeedback s).regs.rare = s.regs.rare := by
  simp +decide [State.rollFeedback]

@[simp] theorem State.rollCycle_rare (s : State) :
    (State.rollCycle s).regs.rare = s.regs.rare := by
  simp +decide [State.rollCycle]

@[simp] theorem State.trainCycle_rare (s : State) (l : Nat) :
    (State.trainCycle s l).regs.rare = s.regs.rare := by
  simp +decide [State.trainCycle]

/-! ### Live -/

@[simp] theorem State.freeze_rare (s : State) (p : Page) (i : Nat) :
    (State.freeze s p i).regs.rare = s.regs.rare := by
  simp +decide [State.freeze]

@[simp] theorem State.thaw_rare (s : State) (p : Page) (i : Nat) :
    (State.thaw s p i).regs.rare = s.regs.rare := by
  simp +decide [State.thaw]

@[simp] theorem State.latch_rare (s : State) (p : Page) (i : Nat) (off : Nat) :
    (State.latch s p i off).regs.rare = s.regs.rare := by
  simp +decide [State.latch]

/-! ### Write -/

@[simp] theorem State.giveUpRequest_rare (s : State) (p : Page) (i : Nat) :
    (State.giveUpRequest s p i).regs.rare = s.regs.rare := by
  unfold State.giveUpRequest; dsimp only; (repeat' split) <;> simp +decide

@[simp] theorem State.busLock_rare (s : State) (c : Nat) (release : Bool) (take : Bool) :
    (State.busLock s c release take).regs.rare = s.regs.rare := by
  simp +decide [State.busLock]

/-! ### Parcel -/

/-! ### Letterbox -/

@[simp] theorem State.takeLease_rare (s : State) (c : Nat) :
    (State.takeLease s c).regs.rare = s.regs.rare := by
  simp +decide [State.takeLease]

@[simp] theorem State.fwBegin_rare (s : State) (c : Nat) (args : List Nat) :
    (State.fwBegin s c args).2.regs.rare = s.regs.rare := by
  unfold State.fwBegin; dsimp only; (repeat' split) <;> simp +decide

@[simp] theorem State.fwChunk_rare (s : State) (c : Nat) (args : List Nat) :
    (State.fwChunk s c args).2.regs.rare = s.regs.rare := by
  unfold State.fwChunk; dsimp only; (repeat' split) <;> simp +decide

@[simp] theorem State.fwCommit_rare (s : State) (c : Nat) :
    (State.fwCommit s c).2.regs.rare = s.regs.rare := by
  unfold State.fwCommit; dsimp only; (repeat' split) <;> simp +decide

@[simp] theorem State.exportPart_rare (s : State) (c : Nat) :
    (State.exportPart s c).2.regs.rare = s.regs.rare := by
  unfold State.exportPart; dsimp only; (repeat' split) <;> simp +decide

@[simp] theorem State.exportBegin_rare (s : State) (c : Nat) (args : List Nat) :
    (State.exportBegin s c args).2.regs.rare = s.regs.rare := by
  unfold State.exportBegin; dsimp only; (repeat' split) <;> simp +decide

@[simp] theorem State.importChunk_rare (s : State) (c : Nat) (args : List Nat) :
    (State.importChunk s c args).2.regs.rare = s.regs.rare := by
  unfold State.importChunk; dsimp only; (repeat' split) <;> simp +decide

@[simp] theorem State.attestSign_rare (s : State) (c : Nat) (args : List Nat) :
    (State.attestSign s c args).2.regs.rare = s.regs.rare := by
  unfold State.attestSign; dsimp only; (repeat' split) <;> simp +decide

/-! ### Channels -/

@[simp] theorem State.recordRefusal_rare (s : State) (c : Nat) (code : Nat) (addr : Nat) (v : Verdict) :
    (State.recordRefusal s c code addr v).regs.rare = s.regs.rare := by
  simp +decide [State.recordRefusal]

@[simp] theorem State.answered_rare (s : State) (c : Nat) (v : Verdict) (data : List Nat) :
    (State.answered s c v data).regs.rare = s.regs.rare := by
  simp +decide [State.answered]

@[simp] theorem State.frameStart_rare (s : State) (c : Nat) :
    (State.frameStart s c).regs.rare = s.regs.rare := by
  simp +decide [State.frameStart]

@[simp] theorem State.noteDenied_rare (s : State) (vs : List Verdict) :
    (State.noteDenied s vs).regs.rare = s.regs.rare := by
  simp +decide [State.noteDenied]

@[simp] theorem State.noteAlign_rare (s : State) (on : Bool) :
    (State.noteAlign s on).regs.rare = s.regs.rare := by
  simp +decide [State.noteAlign]

@[simp] theorem State.clearMspiFlags_rare (s : State) :
    (State.clearMspiFlags s).regs.rare = s.regs.rare := by
  simp +decide [State.clearMspiFlags]

@[simp] theorem State.mdioAdvance_rare (s : State) :
    (State.mdioAdvance s).regs.rare = s.regs.rare := by
  simp +decide [State.mdioAdvance]

@[simp] theorem State.windowErrors_rare (s : State) :
    (State.windowErrors s).regs.rare = s.regs.rare := by
  simp +decide [State.windowErrors]

end Sys2Proof.Machine
end

