-- ==== Sys2Proof/Laws/Lines.lean ====
section
/-! SUPPORT. What the shared operations on a line do (R122, R124, R147, R154). -/

namespace Sys2Proof.Machine


theorem State.modLine_at (s : State) (l k : Nat) (f : LineX → LineX) :
    (s.modLine l f).lines.get {} k = if k = l then f (s.lines.get {} l) else s.lines.get {} k :=
  Store.get_set s.lines {} _ l k

/-- What touches line l alone, and neither its state, substate and hold nor its place in the passes. -/
def State.SameMove (l : Nat) (s t : State) : Prop :=
  (∀ m, m ≠ l → t.line m = s.line m) ∧ (t.line l).st = (s.line l).st ∧ (t.line l).sub = (s.line l).sub ∧
    (t.line l).hold = (s.line l).hold ∧ (t.line l).active = (s.line l).active

theorem State.SameMove.trans {l : Nat} {s t u : State} (h : State.SameMove l s t) (k : State.SameMove l t u) :
    State.SameMove l s u :=
  ⟨fun m hm => (k.1 m hm).trans (h.1 m hm), k.2.1.trans h.2.1, k.2.2.1.trans h.2.2.1, k.2.2.2.1.trans h.2.2.2.1,
    k.2.2.2.2.trans h.2.2.2.2⟩

theorem State.SameMove.of {l : Nat} {s t : State} (h : t.lines = s.lines) : State.SameMove l s t := by
  have e := fun m => State.line_of_lines h m
  refine ⟨fun m _ => e m, ?_⟩
  rw [e l]
  exact ⟨rfl, rfl, rfl, rfl⟩

theorem State.SameMove.modLine (s : State) (l : Nat) (f : LineX → LineX)
    (h : ∀ x, (f x).st = x.st ∧ (f x).sub = x.sub ∧ (f x).hold = x.hold ∧ (f x).active = x.active) :
    State.SameMove l s (s.modLine l f) := by
  refine ⟨fun m hm => State.line_modLine_ne s hm f, ?_⟩
  rw [State.line_modLine_self]
  exact h _

theorem State.noteGo_move (s : State) (l : Nat) (p : ReachPkt) : State.SameMove l s (s.noteGo l p) := by
  unfold State.noteGo
  split
  · exact .modLine s l _ fun _ => ⟨rfl, rfl, rfl, rfl⟩
  · exact .of rfl

theorem State.sendDue_move (s : State) (l : Nat) : State.SameMove l s (s.sendDue l) := by
  unfold State.sendDue
  dsimp only
  split
  · exact .of rfl
  · split
    · exact .of rfl
    · rename_i p rest _ _
      have h1 : State.SameMove l s (s.modReach l fun x => { x with due := rest }) := .of (State.modReach_lines _ _ _)
      exact (h1.trans (State.noteGo_move _ l p)).trans (.of (State.startTx_lines _ _ _ _))

theorem State.stopModem_move (s : State) (l : Nat) (off : Bool) : State.SameMove l s (s.stopModem l off) := by
  unfold State.stopModem
  exact (State.SameMove.of (by simp)).trans (State.sendDue_move _ l)

theorem State.settleMask_move (s : State) (l : Nat) : State.SameMove l s (s.settleMask l) := by
  unfold State.settleMask
  extract_lets want s1
  have h1 : State.SameMove l s s1 := .modLine s l _ fun _ => ⟨rfl, rfl, rfl, rfl⟩
  exact h1.trans (.of (by split <;> simp))

/-- A line that moves: its new state and substate, its hold and its place in the passes kept, every other line as
before (R154). -/
theorem State.moveLine_line (s : State) (l : Nat) (st : LineState) (sub : Nat) :
    (∀ m, m ≠ l → (s.moveLine l st sub).line m = s.line m) ∧
    ((s.moveLine l st sub).line l).st = st ∧ ((s.moveLine l st sub).line l).sub = sub ∧
      ((s.moveLine l st sub).line l).hold = (s.line l).hold ∧
      ((s.moveLine l st sub).line l).active = (s.line l).active := by
  unfold State.moveLine
  extract_lets old lost s1 s2 s3 s4 entered left s5 s6 s7 s8 runs s9 s10 x11 s11 s12
  have h1 : (∀ m, m ≠ l → s1.line m = s.line m) ∧ (s1.line l).st = st ∧ (s1.line l).sub = sub ∧
      (s1.line l).hold = (s.line l).hold ∧ (s1.line l).active = (s.line l).active := by
    refine ⟨fun m hm => State.line_modLine_ne s hm _, ?_⟩
    simp only [s1, State.line_modLine_self]
    exact ⟨trivial, trivial, trivial, trivial⟩
  have h2 : State.SameMove l s1 s2 := .of (by simp only [s2]; split <;> simp)
  have done : ∀ t, State.SameMove l s2 t → (∀ m, m ≠ l → t.line m = s.line m) ∧ (t.line l).st = st ∧
      (t.line l).sub = sub ∧ (t.line l).hold = (s.line l).hold ∧ (t.line l).active = (s.line l).active := fun t ht =>
    have e := h2.trans ht
    ⟨fun m hm => (e.1 m hm).trans (h1.1 m hm), e.2.1.trans h1.2.1, e.2.2.1.trans h1.2.2.1,
      e.2.2.2.1.trans h1.2.2.2.1, e.2.2.2.2.trans h1.2.2.2.2⟩
  refine done _ ?_
  split
  · exact .of rfl
  · have h8 : State.SameMove l s2 s8 := .of (by
      simp only [s8, s7, s6, s5, s4, s3]
      (repeat' split) <;> simp)
    have h9 : State.SameMove l s8 s9 := by
      simp only [s9]
      split
      · exact State.settleMask_move _ _
      · exact .of rfl
    have h10 : State.SameMove l s9 s10 := by
      simp only [s10]
      split
      · exact State.stopModem_move _ _ _
      · exact .of rfl
    have h11 : State.SameMove l s10 s12 := by
      have hm : State.SameMove l s11 (s11.modLine l fun x => { x with ocHeld := false }) :=
        .modLine _ _ _ fun _ => ⟨rfl, rfl, rfl, rfl⟩
      have h10 : State.SameMove l s10 s11 := .of rfl
      by_cases hf : old = .faulted
      · have e : s12 = ((s11.modLine l fun x => { x with ocHeld := false }).wr LAFE.STAT.OC 0 l).cond .lafe l 5 false :=
          if_pos hf
        rw [e]
        exact (h10.trans hm).trans (.of ((State.cond_lines _ _ _ _ _).trans (State.wr_lines _ _ _ _ _)))
      · have e : s12 = s10 := if_neg hf
        rw [e]
        exact .of rfl
    refine (((h8.trans h9).trans h10).trans h11).trans (.of ?_)
    split <;> simp

/-- What a step leaves of a line: its data, and why it last left its state. -/
def State.KeepsLine (m : Nat) (s t : State) : Prop :=
  t.line m = s.line m ∧ t.g LTRAIN.STATUS.LAST_REASON m = s.g LTRAIN.STATUS.LAST_REASON m ∧
    t.g LTRAIN.STATUS.LAST_FROM m = s.g LTRAIN.STATUS.LAST_FROM m

theorem State.KeepsLine.refl (m : Nat) (s : State) : State.KeepsLine m s s := ⟨rfl, rfl, rfl⟩

theorem State.KeepsLine.trans {m : Nat} {s t u : State} (h : State.KeepsLine m s t) (k : State.KeepsLine m t u) :
    State.KeepsLine m s u :=
  ⟨k.1.trans h.1, k.2.1.trans h.2.1, k.2.2.trans h.2.2⟩

theorem State.reason_of_rare {s t : State} (h : t.regs.rare = s.regs.rare) (i : Nat) :
    t.g LTRAIN.STATUS.LAST_REASON i = s.g LTRAIN.STATUS.LAST_REASON i := congrFun (congrFun (congrFun h 0) i) 0

theorem State.from_of_rare {s t : State} (h : t.regs.rare = s.regs.rare) (i : Nat) :
    t.g LTRAIN.STATUS.LAST_FROM i = s.g LTRAIN.STATUS.LAST_FROM i := congrFun (congrFun (congrFun h 1) i) 0

theorem State.rcorr_of_rare {s t : State} (h : t.regs.rare = s.regs.rare) (i : Nat) :
    t.g LTRAIN.RCORR.CORR i = s.g LTRAIN.RCORR.CORR i := congrFun (congrFun (congrFun h 2) i) 0

theorem State.rttc_of_rare {s t : State} (h : t.regs.rare = s.regs.rare) (i : Nat) :
    t.g LTRAIN.RANGE.RTTC i = s.g LTRAIN.RANGE.RTTC i := congrFun (congrFun (congrFun h 3) i) 0

theorem State.fail_of_rare {s t : State} (h : t.regs.rare = s.regs.rare) (i : Nat) :
    t.g LTRAIN.RETRAINS.FAIL i = s.g LTRAIN.RETRAINS.FAIL i := congrFun (congrFun (congrFun h 4) i) 0

theorem State.noanswer_of_rare {s t : State} (h : t.regs.rare = s.regs.rare) (i : Nat) :
    t.g LTRAIN.ATTEMPTS.NOANSWER i = s.g LTRAIN.ATTEMPTS.NOANSWER i := congrFun (congrFun (congrFun h 5) i) 0

/-- What touches neither the lines nor the registers with few writers keeps every line. -/
theorem State.KeepsLine.of {s t : State} (m : Nat) (h : t.lines = s.lines) (k : t.regs.rare = s.regs.rare) :
    State.KeepsLine m s t :=
  ⟨State.line_of_lines h m, State.reason_of_rare k m, State.from_of_rare k m⟩

theorem State.leaveActive_line (s : State) (l : Nat) :
    (∀ m, m ≠ l → (s.leaveActive l).line m = s.line m) ∧ ((s.leaveActive l).line l).st = (s.line l).st := by
  unfold State.leaveActive
  split
  · dsimp only
    refine ⟨fun m h => (State.line_of_lines (by rfl) m).trans (State.line_modLine_ne s h fun x => { x with dying := true }), ?_⟩
    show ((s.modLine l fun x => { x with dying := true }).line l).st = _
    simp
  · exact ⟨fun m _ => rfl, rfl⟩

theorem State.forgetLine_line (s : State) (l : Nat) :
    (∀ m, m ≠ l → (s.forgetLine l).line m = s.line m) ∧ (s.forgetLine l).line l = (s.line l).forget := by
  unfold State.forgetLine
  extract_lets x s1
  have h1 : s1.lines = s.lines := by simp only [s1]; split <;> simp
  refine ⟨fun m h => ?_, ?_⟩
  · rw [State.line_modLine_ne _ h, State.line_of_lines h1]
  · rw [State.line_modLine_self, State.line_of_lines h1]

theorem State.forgetAttempt_line (s : State) (l : Nat) :
    (∀ m, m ≠ l → (s.forgetAttempt l).line m = s.line m) ∧ ((s.forgetAttempt l).line l).st = (s.line l).st := by
  unfold State.forgetAttempt
  exact ⟨fun m hm => State.line_modLine_ne s hm _, by rw [State.line_modLine_self]; rfl⟩

theorem State.noteReason_spec (s : State) (l r : Nat) :
    (s.noteReason l r).g LTRAIN.STATUS.LAST_REASON l = r % 2 ^ LTRAIN.STATUS.LAST_REASON.w ∧
      (s.noteReason l r).g LTRAIN.STATUS.LAST_FROM l = (s.line l).st.code % 2 ^ LTRAIN.STATUS.LAST_FROM.w ∧
      ∀ m, m ≠ l → State.KeepsLine m s (s.noteReason l r) := by
  unfold State.noteReason
  refine ⟨?_, ?_, fun m h => ⟨State.line_of_lines (by simp) m, ?_, ?_⟩⟩
  · rw [State.g_wr_of_id (by decide), State.g_wr_self]
  · rw [State.g_wr_self]
  · rw [State.g_wr_of_id (by decide), State.g_wr_of_inst (by simpa [Fld.bank_of_page (show LTRAIN.STATUS.LAST_FROM.page ≠ .letterbox by decide), Fld.bank_of_page (show LTRAIN.STATUS.LAST_REASON.page ≠ .letterbox by decide)] using h) (by decide) (by decide)]
  · rw [State.g_wr_of_inst (by simpa [Fld.bank_of_page (show LTRAIN.STATUS.LAST_FROM.page ≠ .letterbox by decide), Fld.bank_of_page (show LTRAIN.STATUS.LAST_REASON.page ≠ .letterbox by decide)] using h) (by decide) (by decide), State.g_wr_of_id (by decide)]

/-- One line to QUIET: its state, its hold and the reason; the others stay (R124, R126, R153). -/
theorem State.quietOne_spec (s : State) (l r h : Nat) :
    ((s.quietOne l r h).line l).st = .quiet ∧ ((s.quietOne l r h).line l).sub = 0 ∧
      ((s.quietOne l r h).line l).hold = h ∧
      (s.quietOne l r h).g LTRAIN.STATUS.LAST_REASON l = r % 2 ^ LTRAIN.STATUS.LAST_REASON.w ∧
      (s.quietOne l r h).g LTRAIN.STATUS.LAST_FROM l = (s.line l).st.code % 2 ^ LTRAIN.STATUS.LAST_FROM.w ∧
      ∀ m, m ≠ l → State.KeepsLine m s (s.quietOne l r h) := by
  obtain ⟨n1, n2, n3⟩ := State.noteReason_spec s l r
  unfold State.quietOne
  extract_lets old s1 s2
  set s3 := ((s2.leaveActive l).forgetAttempt l).modLine l fun x => { x with hold := h } with hs3
  have r2 : s2.regs.rare = s1.regs.rare := by simp only [s2]; split <;> simp +decide
  have l2 : s2.lines = s1.lines := by simp only [s2]; split <;> simp
  have r3 : s3.regs.rare = s1.regs.rare := by rw [← r2]; simp +decide [s3]
  have l3 : ∀ m, m ≠ l → s3.line m = s1.line m := fun m hm => by
    rw [hs3, State.line_modLine_ne _ hm, (State.forgetAttempt_line _ l).1 m hm, (State.leaveActive_line s2 l).1 m hm,
      State.line_of_lines l2]
  have h3 : (s3.line l).hold = h := by simp [s3]
  obtain ⟨m1, m2, m3, m4, -⟩ := State.moveLine_line s3 l .quiet 0
  have rm : (s3.moveLine l .quiet 0).regs.rare = s1.regs.rare := by rw [← r3]; simp +decide
  exact ⟨m2, m3, m4.trans h3, (State.reason_of_rare rm l).trans n1, (State.from_of_rare rm l).trans n2, fun m hm =>
    (n3 m hm).trans ⟨(m1 m hm).trans (l3 m hm), State.reason_of_rare rm m, State.from_of_rare rm m⟩⟩

/-- A line outside bring-up keeps what it has while peers are quieted. -/
theorem State.quietAll_keeps (ls : List Nat) (r : Nat) (m : Nat) : ∀ (s : State),
    inBringUp (s.line m).st = false ∨ m ∉ ls →
    State.KeepsLine m s (ls.foldl (fun s k => if inBringUp (s.line k).st then s.quietOne k r 2 else s) s) := by
  induction ls with
  | nil => intro s _; exact .refl m s
  | cons k ls ih =>
    intro s h
    rw [List.foldl_cons]
    have step : State.KeepsLine m s (if inBringUp (s.line k).st then s.quietOne k r 2 else s) := by
      split
      · rename_i hk
        refine (State.quietOne_spec s k r 2).2.2.2.2.2 m ?_
        rintro rfl
        rcases h with h | h
        · rw [h] at hk; cases hk
        · exact h List.mem_cons_self
      · exact .refl m s
    refine step.trans (ih _ ?_)
    rcases h with h | h
    · left; rw [step.1]; exact h
    · right; exact fun hm => h (List.mem_cons_of_mem _ hm)

theorem State.quietPeers_keeps (s : State) (l m : Nat) (h : inBringUp (s.line m).st = false ∨ m = l) :
    State.KeepsLine m s (s.quietPeers l) := by
  refine State.quietAll_keeps _ _ m s ?_
  rcases h with h | rfl
  · exact .inl h
  · right; simp [State.portPeers]

theorem State.unjoin_keeps (s : State) (ms : List Nat) (k m : Nat) (h : inBringUp (s.line m).st = false) :
    State.KeepsLine m s (s.unjoin ms k) := by
  have w : State.KeepsLine m s (s.wantClear k) := .of m (by simp) (by simp +decide)
  unfold State.unjoin
  dsimp only
  split
  · rename_i hj
    have hk : m ≠ k := by
      rintro rfl
      rw [w.1] at hj
      rw [hj] at h
      cases h
    split
    · exact w.trans ((State.quietOne_spec _ _ _ _).2.2.2.2.2 m hk)
    · refine w.trans ⟨?_, State.reason_of_rare (by simp +decide) m, State.from_of_rare (by simp +decide) m⟩
      rw [(State.moveLine_line _ _ _ _).1 m hk, State.line_modLine_ne _ hk]
  · exact w

theorem State.foldl_keeps {β : Type} (P : State → Prop) (m : Nat) (f : State → β → State)
    (hf : ∀ s b, P s → State.KeepsLine m s (f s b)) (hP : ∀ s t, State.KeepsLine m s t → P s → P t) :
    ∀ (ls : List β) (s : State), P s → State.KeepsLine m s (ls.foldl f s) := by
  intro ls
  induction ls with
  | nil => intro s _; exact .refl m s
  | cons b ls ih =>
    intro s h
    rw [List.foldl_cons]
    exact (hf s b h).trans (ih _ (hP _ _ (hf s b h) h))

theorem State.failJoin_keeps (s : State) (ms : List Nat) (m : Nat) (h : inBringUp (s.line m).st = false) :
    State.KeepsLine m s (s.failJoin ms) := by
  have hP : ∀ s t, State.KeepsLine m s t → inBringUp (s.line m).st = false → inBringUp (t.line m).st = false :=
    fun s t k hs => by rw [k.1]; exact hs
  unfold State.failJoin
  split
  · exact .refl m s
  · rename_i j _
    extract_lets _ _ s1 s2 s3 s4
    have k1 : State.KeepsLine m s s1 := .of m rfl rfl
    have k2 : State.KeepsLine m s1 s2 := State.foldl_keeps (fun s => inBringUp (s.line m).st = false) m _
      (fun s b hs => State.unjoin_keeps s ms b m hs) hP _ _ (hP _ _ k1 h)
    have k2' : State.KeepsLine m s2 s3 := by
      refine State.foldl_keeps (fun s => inBringUp (s.line m).st = false) m _ (fun s b hs => ?_) hP _ _
        (hP _ _ k2 (hP _ _ k1 h))
      split
      · exact State.quietPeers_keeps _ _ m (.inl hs)
      · exact .refl m s
    have k3 : State.KeepsLine m s3 s4 := .of m (by simp [s4]) (by simp +decide [s4])
    have k := ((k1.trans k2).trans k2').trans k3
    refine k.trans (State.foldl_keeps (fun s => inBringUp (s.line m).st = false) m _ ?_ hP _ _ (hP _ _ k h))
    intro s p hs
    dsimp only
    have a1 : State.KeepsLine m s (s.modPort p fun x => { x with joinFails := x.joinFails + 1 }) :=
      .of m (by simp) (by simp)
    split
    · have a2 := a1.trans (State.KeepsLine.of m (t := (s.modPort p fun x => { x with joinFails := x.joinFails + 1 }).modPort p
        fun x => { x with joinFails := 0 }) (by simp) (by simp))
      exact a2.trans (State.quietAll_keeps _ _ m _ (.inl (hP _ _ a2 hs)))
    · split
      · exact a1.trans (.of m (by simp) (by simp +decide))
      · exact a1

theorem State.failJoinOf_keeps (s : State) (l : Nat) (ms : List Nat) (m : Nat) (h : inBringUp (s.line m).st = false) :
    State.KeepsLine m s (s.failJoinOf l ms) := by
  unfold State.failJoinOf
  split
  · split
    · exact State.failJoin_keeps s ms m h
    · exact .refl m s
  · exact .refl m s

/-- A line in bring-up goes to QUIET, with its hold and its reason; a line outside bring-up is not touched
(R103, R124, R126). -/
theorem State.quietLine_spec (s : State) (l r h : Nat) :
    ((s.quietLine l r h).line l).st = .quiet ∧ ((s.quietLine l r h).line l).sub = 0 ∧
      ((s.quietLine l r h).line l).hold = h ∧
      (s.quietLine l r h).g LTRAIN.STATUS.LAST_REASON l = r % 2 ^ LTRAIN.STATUS.LAST_REASON.w ∧
      (s.quietLine l r h).g LTRAIN.STATUS.LAST_FROM l = (s.line l).st.code % 2 ^ LTRAIN.STATUS.LAST_FROM.w ∧
      ∀ m, m ≠ l → inBringUp (s.line m).st = false → State.KeepsLine m s (s.quietLine l r h) := by
  obtain ⟨q1, q2, q3, q4, q5, q6⟩ := State.quietOne_spec s l r h
  have tail : ∀ m, inBringUp ((s.quietOne l r h).line m).st = false →
      State.KeepsLine m (s.quietOne l r h) (s.quietLine l r h) := by
    intro m hm
    have k1 := State.failJoinOf_keeps (s.quietOne l r h) l [l] m hm
    have k2 : State.KeepsLine m ((s.quietOne l r h).failJoinOf l [l])
        (((s.quietOne l r h).failJoinOf l [l]).unqueueJoin (s.anchor l)) := .of m (by simp) (by simp)
    have k := k1.trans k2
    refine k.trans (State.quietPeers_keeps _ l m (.inl ?_))
    rw [k.1]; exact hm
  have kl := tail l (by rw [q1]; rfl)
  refine ⟨by rw [kl.1]; exact q1, by rw [kl.1]; exact q2, by rw [kl.1]; exact q3, kl.2.1.trans q4, kl.2.2.trans q5, ?_⟩
  intro m hm hb
  have := q6 m hm
  exact this.trans (tail m (by rw [this.1]; exact hb))

theorem State.noteExit_spec (s : State) (l r : Nat) :
    (s.noteExit l r).lines = s.lines ∧ ∀ m, m ≠ l → State.KeepsLine m s (s.noteExit l r) := by
  unfold State.noteExit
  dsimp only
  split
  · exact ⟨by simp, (State.noteReason_spec s l r).2.2⟩
  · exact ⟨rfl, fun m _ => .refl m s⟩

/-- What a line drops when it leaves its group: its place in the passes and what its state held. -/
theorem State.dropped_line (s : State) (l : Nat) :
    (∀ m, m ≠ l → ((s.leaveActive l).forgetLine l).line m = s.line m) ∧
      ((s.leaveActive l).forgetLine l).regs.rare = s.regs.rare :=
  ⟨fun m h => by rw [(State.forgetLine_line _ l).1 m h, (State.leaveActive_line s l).1 m h], by simp +decide⟩

/-- A line takes the start state of its mode (R122). -/
theorem State.startLine_spec (s : State) (l : Nat) :
    ((s.startLine l).line l).st = (s.startOf l).1 ∧ ((s.startLine l).line l).sub = 0 ∧
      ((s.startLine l).line l).hold = (s.startOf l).2 ∧ ∀ m, m ≠ l → State.KeepsLine m s (s.startLine l) := by
  obtain ⟨e1, e2⟩ := State.noteExit_spec s l rsHost
  unfold State.startLine
  extract_lets st s1
  obtain ⟨m1, m2, m3, m4, -⟩ := State.moveLine_line s1 l st.1 0
  have r1 : (s1.moveLine l st.1 0).regs.rare = (s.noteExit l rsHost).regs.rare := by simp +decide [s1]
  refine ⟨m2, m3, m4.trans (by simp [s1, st]), fun m hm =>
    (e2 m hm).trans ⟨?_, State.reason_of_rare r1 m, State.from_of_rare r1 m⟩⟩
  rw [m1 m hm]
  simp only [s1]
  rw [State.line_modLine_ne _ hm, (State.dropped_line _ l).1 m hm]

/-- A line out of SHOWTIME keeps what it has when a line is dropped from its port (R148). -/
theorem State.dropFromPort_keeps (s : State) (l m : Nat) (h : (s.line m).st ≠ .showtime) :
    State.KeepsLine m s (s.dropFromPort l) := by
  unfold State.dropFromPort
  extract_lets p s1 s2
  split
  · have k1 : State.KeepsLine m s s1 := .of m (by simp [s1]) (by simp [s1])
    have hP : ∀ s t, State.KeepsLine m s t → (s.line m).st ≠ .showtime → (t.line m).st ≠ .showtime :=
      fun s t k hs => by rw [k.1]; exact hs
    have k2 : State.KeepsLine m s1 s2 := by
      refine State.foldl_keeps (fun s => (s.line m).st ≠ .showtime) m _ (fun t b ht => ?_) hP _ _ (hP _ _ k1 h)
      split
      · rename_i hb
        have hm : m ≠ b := by rintro rfl; exact ht hb
        exact ⟨State.line_modLine_ne _ hm _, by simp, by simp⟩
      · exact .refl m t
    exact (k1.trans k2).trans (.of m (by simp) (by simp +decide))
  · exact .refl m s

theorem State.leave_keeps (t : State) (l p m : Nat) (h : (t.line m).st ≠ .showtime) :
    State.KeepsLine m t (((t.leftShowtime l).dropFromPort l).endWake p) := by
  have k1 : State.KeepsLine m t (t.leftShowtime l) := .of m (by simp) (by simp +decide)
  exact (k1.trans (State.dropFromPort_keeps _ l m (by rw [k1.1]; exact h))).trans (.of m (by simp) (by simp))

/-- A line that runs retrains, with its reason (R147); a line that does not run is not touched. -/
theorem State.retrainLine_spec (s : State) (l r : Nat)
    (h : (s.line l).st = .showtime ∨ (s.line l).st = .banked) :
    ((s.retrainLine l r).line l).st = .retrain ∧ ((s.retrainLine l r).line l).sub = 0 ∧
      (s.retrainLine l r).g LTRAIN.STATUS.LAST_REASON l = r % 2 ^ LTRAIN.STATUS.LAST_REASON.w ∧
      (s.retrainLine l r).g LTRAIN.STATUS.LAST_FROM l = (s.line l).st.code % 2 ^ LTRAIN.STATUS.LAST_FROM.w ∧
      ∀ m, m ≠ l → (s.line m).st ≠ .showtime → State.KeepsLine m s (s.retrainLine l r) := by
  obtain ⟨n1, n2, n3⟩ := State.noteReason_spec s l r
  unfold State.retrainLine
  rw [if_pos h]
  extract_lets s1 s2
  have l2 : ∀ m, m ≠ l → s2.line m = s.line m := fun m hm => by
    simp only [s2]
    rw [State.line_modLine_ne _ hm]
    simp only [s1]
    rw [(State.leaveActive_line _ l).1 m hm, (n3 m hm).1]
  obtain ⟨m1, m2, m3, -, -⟩ := State.moveLine_line s2 l .retrain 0
  have rm : (s2.moveLine l .retrain 0).regs.rare = (s.noteReason l r).regs.rare := by simp +decide [s2, s1]
  have k2 := fun m h => State.leave_keeps (s2.moveLine l .retrain 0) l (s2.anchor l) m h
  have kl := k2 l (by rw [m2]; decide)
  refine ⟨by rw [kl.1]; exact m2, by rw [kl.1]; exact m3, kl.2.1.trans ((State.reason_of_rare rm l).trans n1),
    kl.2.2.trans ((State.from_of_rare rm l).trans n2), fun m hm hs => ?_⟩
  have e := (m1 m hm).trans (l2 m hm)
  have k := k2 m (by rw [e]; exact hs)
  exact ⟨k.1.trans e, k.2.1.trans ((State.reason_of_rare rm m).trans (n3 m hm).2.1),
    k.2.2.trans ((State.from_of_rare rm m).trans (n3 m hm).2.2)⟩

/-- What follows a line's leaving its group: its join, its port's data and its peers; a line outside bring-up and out
of SHOWTIME is not touched (R82, R103, R126, R148). -/
theorem State.lineGone_keeps (s : State) (l m : Nat) (old : LineState) (h : inBringUp (s.line m).st = false)
    (h2 : (s.line m).st ≠ .showtime) : State.KeepsLine m s (s.lineGone l old) := by
  have k := State.failJoinOf_keeps s l [l] m h
  unfold State.lineGone
  dsimp only
  refine k.trans ?_
  have h : inBringUp ((s.failJoinOf l [l]).line m).st = false := by rw [k.1]; exact h
  have h2 : ((s.failJoinOf l [l]).line m).st ≠ .showtime := by rw [k.1]; exact h2
  generalize s.failJoinOf l [l] = t at h h2 ⊢
  split
  · have k1 : State.KeepsLine m t (t.leftShowtime l) := .of m (by simp) (by simp +decide)
    exact k1.trans (State.dropFromPort_keeps _ l m (by rw [k1.1]; exact h2))
  · split
    · exact State.dropFromPort_keeps _ l m h2
    · have k1 : State.KeepsLine m t (t.unqueueJoin (t.anchor l)) := .of m (by simp) (by simp)
      split
      · exact k1.trans (State.quietPeers_keeps _ l m (.inl (by rw [k1.1]; exact h)))
      · exact k1

/-- A line held OFF (R122). -/
theorem State.holdOff_spec (s : State) (l : Nat) :
    ((s.holdOff l).line l).st = .off ∧ ∀ m, m ≠ l → inBringUp (s.line m).st = false → (s.line m).st ≠ .showtime →
      State.KeepsLine m s (s.holdOff l) := by
  obtain ⟨e1, e2⟩ := State.noteExit_spec s l rsHost
  unfold State.holdOff
  extract_lets old
  obtain ⟨d1, d2⟩ := State.dropped_line (s.noteExit l rsHost) l
  obtain ⟨m1, m2, -, -, -⟩ := State.moveLine_line (((s.noteExit l rsHost).leaveActive l).forgetLine l) l .off 0
  have rm : ((((s.noteExit l rsHost).leaveActive l).forgetLine l).moveLine l .off 0).regs.rare =
      (s.noteExit l rsHost).regs.rare := by simp +decide
  have kl := State.lineGone_keeps ((((s.noteExit l rsHost).leaveActive l).forgetLine l).moveLine l .off 0) l l old
    (by rw [m2]; rfl) (by rw [m2]; decide)
  refine ⟨by rw [kl.1]; exact m2, fun m hm hb hs => ?_⟩
  have e : State.KeepsLine m s _ := (e2 m hm).trans
    ⟨(m1 m hm).trans (d1 m hm), State.reason_of_rare rm m, State.from_of_rare rm m⟩
  exact e.trans (State.lineGone_keeps _ l m old (by rw [e.1]; exact hb) (by rw [e.1]; exact hs))

/-- An S2 fault of a line: FAULTED (R124, R311). -/
theorem State.faultLine_spec (s : State) (l : Nat) :
    ((s.faultLine l).line l).st = .faulted ∧
      (s.faultLine l).g LTRAIN.STATUS.LAST_REASON l = rsFault % 2 ^ LTRAIN.STATUS.LAST_REASON.w ∧
      ∀ m, m ≠ l → inBringUp (s.line m).st = false → (s.line m).st ≠ .showtime →
      State.KeepsLine m s (s.faultLine l) := by
  obtain ⟨n1, n2, n3⟩ := State.noteReason_spec s l rsFault
  unfold State.faultLine
  extract_lets old
  obtain ⟨d1, d2⟩ := State.dropped_line (s.noteReason l rsFault) l
  obtain ⟨m1, m2, -, -, -⟩ := State.moveLine_line (((s.noteReason l rsFault).leaveActive l).forgetLine l) l .faulted 0
  have rm : ((((s.noteReason l rsFault).leaveActive l).forgetLine l).moveLine l .faulted 0).regs.rare =
      (s.noteReason l rsFault).regs.rare := by simp +decide
  have kl := State.lineGone_keeps ((((s.noteReason l rsFault).leaveActive l).forgetLine l).moveLine l .faulted 0) l l old
    (by rw [m2]; rfl) (by rw [m2]; decide)
  refine ⟨by rw [kl.1]; exact m2, kl.2.1.trans ((State.reason_of_rare rm l).trans n1), fun m hm hb hs => ?_⟩
  have e : State.KeepsLine m s _ := (n3 m hm).trans
    ⟨(m1 m hm).trans (d1 m hm), State.reason_of_rare rm m, State.from_of_rare rm m⟩
  exact e.trans (State.lineGone_keeps _ l m old (by rw [e.1]; exact hb) (by rw [e.1]; exact hs))

theorem State.startOf_calm (s : State) (l : Nat) (h : s.isV l = true) :
    inBringUp (s.startOf l).1 = false ∧ (s.startOf l).1 ≠ .showtime := by
  unfold State.startOf
  have : s.mode l = 1 ∨ s.mode l = 2 := by
    unfold State.isV State.isVHead State.isVTail at h
    simpa using h
  split
  · exact ⟨rfl, by decide⟩
  · split
    · exact ⟨rfl, by decide⟩
    · rcases this with h | h <;> rw [h] <;> exact ⟨rfl, by decide⟩

/-- The registers that a line's start state depends on. -/
def startIds : List Nat :=
  [LCTL.MODE.SEL.id, PORT_SEC.PAIR_CTRL.REQUIRED.id, PORT_SEC.PAIR_CTRL.SRC.id, PORT_SEC.PAIR_CTRL.SLOT.id,
   PORTMAP.QUADS.QUAD0.id, PORTMAP.QUADS.QUAD1.id, PORTMAP.QUADS.QUAD2.id, PORTMAP.QUADS.QUAD3.id,
   PORTMAP.QUADS.QUAD4.id, PORTMAP.QUADS.QUAD5.id, PORTMAP.QUADS.QUAD6.id, PORTMAP.QUADS.QUAD7.id]

theorem quadField_mem (n : Nat) : (quadField n).id % 2048 ∈ startIds := by
  unfold quadField
  split <;> decide

theorem State.anchor_wr (s : State) (F : Fld) (h : F.id % 2048 ∉ startIds) (v i j l : Nat) :
    (s.wr F v i j).anchor l = s.anchor l := by
  unfold State.anchor State.quad
  rw [State.g_wr_of_id (fun e => h (e ▸ quadField_mem _))]

theorem State.startOf_wr (s : State) (F : Fld) (h : F.id % 2048 ∉ startIds) (v i j l : Nat) :
    (s.wr F v i j).startOf l = s.startOf l := by
  have hg : ∀ G : Fld, G.id % 2048 ∈ startIds → ∀ a b, (s.wr F v i j).g G a b = s.g G a b := fun G hG a b =>
    State.g_wr_of_id (fun e => h (e ▸ hG)) _ _ _ _ _ _
  unfold State.startOf State.isVHead State.noKey State.pairKey State.slotKey State.slot State.mode
  rw [State.anchor_wr s F h]
  simp only [hg _ (show LCTL.MODE.SEL.id % 2048 ∈ startIds by decide),
    hg _ (show PORT_SEC.PAIR_CTRL.REQUIRED.id % 2048 ∈ startIds by decide),
    hg _ (show PORT_SEC.PAIR_CTRL.SRC.id % 2048 ∈ startIds by decide),
    hg _ (show PORT_SEC.PAIR_CTRL.SLOT.id % 2048 ∈ startIds by decide)]
  rfl

/-- CTRL.RESTART (R124, R125). -/
theorem State.restartLine_spec (s : State) (l : Nat) (h1 : (s.line l).st ≠ .off) (h2 : (s.line l).st ≠ .faulted)
    (h3 : s.isV l = true) :
    ((s.restartLine l).line l).st = (s.startOf l).1 ∧
      (s.restartLine l).g LTRAIN.STATUS.LAST_REASON l = rsHost % 2 ^ LTRAIN.STATUS.LAST_REASON.w ∧
      (s.restartLine l).g LTRAIN.STATUS.LAST_FROM l = (s.line l).st.code % 2 ^ LTRAIN.STATUS.LAST_FROM.w := by
  obtain ⟨n1, n2, n3⟩ := State.noteReason_spec s l rsHost
  unfold State.restartLine
  extract_lets old st s1
  rw [if_neg (by simp [old, h1, h2, h3])]
  obtain ⟨m1, m2, -, -, -⟩ := State.moveLine_line s1 l st.1 0
  have rm : (s1.moveLine l st.1 0).regs.rare = (s.noteReason l rsHost).regs.rare := by simp +decide [s1]
  have k := State.lineGone_keeps (s1.moveLine l st.1 0) l l old (by rw [m2]; exact (State.startOf_calm s l h3).1)
    (by rw [m2]; exact (State.startOf_calm s l h3).2)
  exact ⟨by rw [k.1]; exact m2, k.2.1.trans ((State.reason_of_rare rm l).trans n1),
    k.2.2.trans ((State.from_of_rare rm l).trans n2)⟩

/-! ### The other registers with few writers -/

/-- RCORR, RANGE, RETRAINS.FAIL and ATTEMPTS.NOANSWER of every line are as they were. -/
def State.KeepsRest (s t : State) : Prop := ∀ k, 2 ≤ k → t.regs.rare k = s.regs.rare k

theorem State.KeepsRest.of {s t : State} (h : t.regs.rare = s.regs.rare) : State.KeepsRest s t :=
  fun k _ => congrFun h k

theorem State.KeepsRest.trans {s t u : State} (h : State.KeepsRest s t) (k : State.KeepsRest t u) : State.KeepsRest s u :=
  fun n hn => (k n hn).trans (h n hn)

theorem State.KeepsRest.foldl {β : Type} (f : State → β → State) (h : ∀ s b, State.KeepsRest s (f s b)) :
    ∀ (ls : List β) (s : State), State.KeepsRest s (ls.foldl f s) := by
  intro ls
  induction ls with
  | nil => intro s; exact .of rfl
  | cons b ls ih => intro s; rw [List.foldl_cons]; exact (h s b).trans (ih _)

theorem State.KeepsRest.rcorr {s t : State} (h : State.KeepsRest s t) (i : Nat) :
    t.g LTRAIN.RCORR.CORR i = s.g LTRAIN.RCORR.CORR i := congrFun (congrFun (h 2 (by decide)) i) 0
theorem State.KeepsRest.rttc {s t : State} (h : State.KeepsRest s t) (i : Nat) :
    t.g LTRAIN.RANGE.RTTC i = s.g LTRAIN.RANGE.RTTC i := congrFun (congrFun (h 3 (by decide)) i) 0
theorem State.KeepsRest.fail {s t : State} (h : State.KeepsRest s t) (i : Nat) :
    t.g LTRAIN.RETRAINS.FAIL i = s.g LTRAIN.RETRAINS.FAIL i := congrFun (congrFun (h 4 (by decide)) i) 0
theorem State.KeepsRest.noanswer {s t : State} (h : State.KeepsRest s t) (i : Nat) :
    t.g LTRAIN.ATTEMPTS.NOANSWER i = s.g LTRAIN.ATTEMPTS.NOANSWER i := congrFun (congrFun (h 5 (by decide)) i) 0

theorem rareFields_rest (k : Nat) (h : 2 ≤ k) :
    (rareFields.getD k LTRAIN.RCORR.CORR).id % 2048 ≠ LTRAIN.STATUS.LAST_REASON.id % 2048 ∧
      (rareFields.getD k LTRAIN.RCORR.CORR).id % 2048 ≠ LTRAIN.STATUS.LAST_FROM.id % 2048 := by
  unfold rareFields
  by_cases hk : k < 6
  · interval_cases k <;> decide
  · rw [List.getD_eq_default _ _ (by simp; omega)]; decide

theorem State.noteReason_rest (s : State) (l r : Nat) : State.KeepsRest s (s.noteReason l r) := by
  intro k hk
  obtain ⟨h1, h2⟩ := rareFields_rest k hk
  funext i j
  unfold State.noteReason
  exact (State.g_wr_of_id (G := rareFields.getD k LTRAIN.RCORR.CORR) h2 _ _ _ _ _ _).trans
    (State.g_wr_of_id h1 _ _ _ _ _ _)

theorem State.quietOne_rest (s : State) (l r h : Nat) : State.KeepsRest s (s.quietOne l r h) := by
  refine (State.noteReason_rest s l r).trans (.of ?_)
  unfold State.quietOne
  dsimp only
  split <;> simp +decide

theorem State.quietPeers_rest (s : State) (l : Nat) : State.KeepsRest s (s.quietPeers l) := by
  refine .foldl _ (fun s m => ?_) _ _
  split
  · exact State.quietOne_rest _ _ _ _
  · exact .of rfl

theorem State.failJoinOf_rest (s : State) (l : Nat) (ms : List Nat) : State.KeepsRest s (s.failJoinOf l ms) := by
  have hq : ∀ (p r : Nat) (s : State), State.KeepsRest s ((s.portLines p).foldl (fun s l =>
      if inBringUp (s.line l).st then s.quietOne l r 2 else s) s) := by
    intro p r s
    refine .foldl _ (fun s m => ?_) _ _
    split
    · exact State.quietOne_rest _ _ _ _
    · exact .of rfl
  have hf : State.KeepsRest s (s.failJoin ms) := by
    unfold State.failJoin
    split
    · exact .of rfl
    · rename_i j _
      extract_lets _ _ s1 s2 s3 s4
      have k2 : State.KeepsRest s1 s2 := by
        refine .foldl _ (fun s m => ?_) _ _
        unfold State.unjoin
        dsimp only
        split
        · split
          · exact (KeepsRest.of (by simp +decide)).trans (State.quietOne_rest _ _ _ _)
          · exact .of (by simp +decide)
        · exact .of (by simp +decide)
      have k2' : State.KeepsRest s2 s3 := by
        refine .foldl _ (fun s m => ?_) _ _
        split
        · exact State.quietPeers_rest _ _
        · exact .of rfl
      have k3 : State.KeepsRest s3 s4 := .of (by simp +decide [s4])
      refine (State.KeepsRest.of (s := s) (t := s1) rfl).trans (((k2.trans k2').trans k3).trans (.foldl _ (fun s p => ?_) _ _))
      dsimp only
      split
      · exact (KeepsRest.of (by simp)).trans (hq _ _ _)
      · split
        · exact .of (by simp +decide)
        · exact .of (by simp)
  unfold State.failJoinOf
  split
  · split
    · exact hf
    · exact .of rfl
  · exact .of rfl

theorem State.quietLine_rest (s : State) (l r h : Nat) : State.KeepsRest s (s.quietLine l r h) := by
  unfold State.quietLine
  exact (((State.quietOne_rest s l r h).trans (State.failJoinOf_rest _ l [l])).trans (.of (by simp))).trans
    (State.quietPeers_rest _ l)

/-- A count that stops at its largest value fits its width. -/
theorem satAdd_mod (w a k : Nat) : satAdd w a k % 2 ^ w = satAdd w a k := by
  unfold satAdd
  refine Nat.mod_eq_of_lt ?_
  have := Nat.two_pow_pos w
  omega

theorem State.vHead_not_tail {s : State} {l : Nat} (h : s.isVHead l = true) : s.isVTail l = false := by
  unfold State.isVHead State.isVTail at *
  simp at h ⊢
  omega

theorem State.vHead_isV {s : State} {l : Nat} (h : s.isVHead l = true) : s.isV l = true := by
  simp [State.isV, h]

/-! ### The lines after an operation, by line -/

theorem State.leaveActive_at (s : State) (l k : Nat) :
    (s.leaveActive l).lines.get {} k =
      if k = l then { s.lines.get {} l with dying := (s.lines.get {} l).dying || (s.lines.get {} l).active }
      else s.lines.get {} k := by
  unfold State.leaveActive
  split
  · rename_i h
    show (s.modLine l fun x => { x with dying := true }).lines.get {} k = _
    rw [State.modLine_at]
    have h : (s.lines.get {} l).active = true := h
    split <;> simp [h]
  · rename_i h
    have h : (s.lines.get {} l).active = false := Bool.eq_false_iff.mpr h
    split
    · rename_i hk
      rw [hk]
      generalize s.lines.get {} l = x at *
      cases x
      simp_all
    · rfl

theorem State.enterHandshake_line (s : State) (l k : Nat) :
    ((s.enterHandshake l).line l).st = .handshake ∧ (k ≠ l → (s.enterHandshake l).line k = s.line k) := by
  unfold State.enterHandshake
  obtain ⟨m1, m2, -⟩ := State.moveLine_line (((s.modLine l _).showTable l).wr LLOAD.TADV.TA 0 l) l .handshake 0
  refine ⟨m2, fun h => (m1 k h).trans ?_⟩
  rw [State.line_of_lines (State.wr_lines _ _ _ _ _), State.line_of_lines (State.showTable_lines _ _),
    State.line_modLine_ne _ h]

end Sys2Proof.Machine
end

