-- ==== Sys2Proof/Laws/Runs.lean ====
section
/-! SUPPORT. How a command comes to a next state, by the shape of its row. -/

namespace Sys2Proof.Machine

/-- A row over one line. -/
theorem runs_line {l : Nat} (h : l < 128) {c : Instr} {s : State} {f : State → State} {P : State → Prop}
    (he : exec c s = withLine l s f) (hp : P (f s)) : s.runsTo c P :=
  ⟨_, he.trans (withLine_of_lt h s f), hp⟩

/-- A row over one line that acts under a guard. -/
theorem runs_when {l : Nat} (h : l < 128) {c : Instr} {s : State} {g : State → Bool} {f : State → State}
    {P : State → Prop} (he : exec c s = withLine l s fun s => when (g s) f s) (hg : g s = true) (hp : P (f s)) :
    s.runsTo c P :=
  ⟨_, he.trans (withLine_of_lt h s _), by rw [hg]; exact hp⟩

/-- A row over one port. -/
theorem runs_port {l : Nat} (h : l < 128) {c : Instr} {s : State} {f : State → State} {P : State → Prop}
    (he : exec c s = withPort l s f) (hp : P (f s)) : s.runsTo c P :=
  ⟨_, he.trans (withPort_of_lt h s f), hp⟩

/-- A row over one port that acts under a guard. -/
theorem runs_port_when {l : Nat} (h : l < 128) {c : Instr} {s : State} {g : State → Bool} {f : State → State}
    {P : State → Prop} (he : exec c s = withPort l s fun s => when (g s) f s) (hg : g s = true) (hp : P (f s)) :
    s.runsTo c P :=
  ⟨_, he.trans (withPort_of_lt h s _), by rw [hg]; exact hp⟩

/-- A row that the line DSP brings, under a guard, while the DSP runs. -/
theorem runs_signal {l : Nat} (h : l < 128) {c : Instr} {s : State} {g : State → Bool} {f : State → State} {P : State → Prop}
    (he : exec c s = withSignal l s fun s => when (g s) f s) (hd : s.dspRuns = true) (hg : g s = true) (hp : P (f s)) :
    s.runsTo c P :=
  ⟨_, he.trans (withLine_of_lt h s _), by simpa only [hd, hg, when_true] using hp⟩

/-- A time of a line that has passed, under a guard, outside the safe state. -/
theorem runs_timer {l : Nat} (h : l < 128) {c : Instr} {s : State} {g : State → Bool} {f : State → State} {P : State → Prop}
    (he : exec c s = withTimer l s fun s => when (g s) f s) (h3 : s.fault.s3 = false) (hg : g s = true) (hp : P (f s)) :
    s.runsTo c P :=
  ⟨_, he.trans (withLine_of_lt h s _), by simpa only [h3, Bool.not_false, hg, when_true] using hp⟩

/-- A time of a port that has passed, under a guard, outside the safe state. -/
theorem runs_port_timer {p : Nat} (h : p < 128) {c : Instr} {s : State} {g : State → Bool} {f : State → State}
    {P : State → Prop} (he : exec c s = withPortTimer p s fun s => when (g s) f s) (h3 : s.fault.s3 = false)
    (hg : g s = true) (hp : P (f s)) : s.runsTo c P :=
  ⟨_, he.trans (withPort_of_lt h s _), by simpa only [h3, Bool.not_false, hg, when_true] using hp⟩

/-- While the line DSP runs the device is not in the safe state. -/
theorem State.dspRuns_s3 {s : State} (h : s.dspRuns = true) : s.fault.s3 = false := by
  unfold State.dspRuns at h
  cases hs : s.fault.s3 <;> simp_all

/-- A row over the block that acts under a guard. -/
theorem runs_block {c : Instr} {s : State} {g : State → Bool} {f : State → State} {P : State → Prop}
    (he : exec c s = .next (when (g s) f s)) (hg : g s = true) (hp : P (f s)) : s.runsTo c P :=
  ⟨_, he, by rw [hg]; exact hp⟩

/-- The way of a line into QUIET. -/
theorem quieted_quietLine (s : State) (l r h : Nat) (hr : r < 256) : s.quieted l r h (s.quietLine l r h) := by
  obtain ⟨q1, q2, q3, q4, q5, q6⟩ := State.quietLine_spec s l r h
  refine ⟨q1, q2, q3, ?_, ?_, fun m hm hb => (q6 m hm hb).1⟩
  · rw [q4]
    exact Nat.mod_eq_of_lt hr
  · rw [q5]
    cases (s.line l).st <;> rfl

/-- The way of a running line into RETRAIN. -/
theorem retrained_retrainLine (s : State) (l r : Nat) (hr : r < 256)
    (h : (s.line l).st = .showtime ∨ (s.line l).st = .banked) :
    s.retrained l r (s.retrainLine l r) := by
  obtain ⟨q1, q2, q4, q5, q6⟩ := State.retrainLine_spec s l r h
  refine ⟨q1, q2, ?_, ?_, fun m hm hb => (q6 m hm hb).1⟩
  · rw [q4]
    exact Nat.mod_eq_of_lt hr
  · rw [q5]
    cases (s.line l).st <;> rfl

end Sys2Proof.Machine
end

