-- ==== Sys2Proof/Laws/Parts.lean ====
section
/-! SUPPORT. The data of a part after an operation on one part, and the registers after one write. -/

namespace Sys2Proof.Machine

theorem State.modPort_at (s : State) (l k : Nat) (f : PortX → PortX) :
    (s.modPort l f).ports.get {} k = if k = l then f (s.ports.get {} l) else s.ports.get {} k :=
  Store.get_set s.ports {} _ l k

theorem State.modLane_at (s : State) (l k : Nat) (f : LaneX → LaneX) :
    (s.modLane l f).lanes.get {} k = if k = l then f (s.lanes.get {} l) else s.lanes.get {} k :=
  Store.get_set s.lanes {} _ l k

theorem State.modMon_at (s : State) (l k : Nat) (f : MonX → MonX) :
    (s.modMon l f).mon.get {} k = if k = l then f (s.mon.get {} l) else s.mon.get {} k :=
  Store.get_set s.mon {} _ l k

theorem State.modReach_at (s : State) (l k : Nat) (f : ReachX → ReachX) :
    (s.modReach l f).reach.get {} k = if k = l then f (s.reach.get {} l) else s.reach.get {} k :=
  Store.get_set s.reach {} _ l k

theorem State.modCal_at (s : State) (l k : Nat) (f : CalX → CalX) :
    (s.modCal l f).cal.get {} k = if k = l then f (s.cal.get {} l) else s.cal.get {} k :=
  Store.get_set s.cal {} _ l k

/-- A write touches one register field. -/
theorem State.wr_onlyReg (s : State) (F : Fld) (v i j : Nat) : s.onlyReg F i j (s.wr F v i j) := by
  intro G a b h
  exact Store.get_set_ne s.regs (F.reset j) (G.reset b) _ h

/-- The first proposal of a port (R33). -/
theorem State.propose_none (s : State) (p target : Nat) (cs : List Change) (h : (s.port p).neg = none) :
    s.propose p target cs = s.modPort p fun x =>
      { x with neg := some { ours := true, start := s.portSfc p, target := target % 2 ^ 48, changes := cs, count := cs.length,
                             agreed := false, confirmed := false },
               sealCode := 1 } := by
  unfold State.propose
  dsimp only
  rw [h]

end Sys2Proof.Machine
end

