-- ==== Sys2Proof/Laws/Queue.lean ====
section
/-! SUPPORT. No meaning touches the queue of waiting commands. -/

namespace Sys2Proof.Machine

/-- The queue of the next state, where there is one, is `q`. -/

def Answer.keeps (a : Answer) (q : List Instr) : Prop := ∀ t, a = .next t → t.pending = q

@[simp] theorem Answer.keeps_next (t : State) (q : List Instr) : Answer.keeps (.next t) q ↔ t.pending = q := by
  simp [Answer.keeps]

@[simp] theorem Answer.keeps_fault (r : Fault) (q : List Instr) : Answer.keeps (.fault r) q := by
  simp [Answer.keeps]

@[simp] theorem ite_pending (c : Prop) [Decidable c] (s t : State) :
    (if c then s else t).pending = if c then s.pending else t.pending := by split <;> rfl

@[simp] theorem ite_keeps (c : Prop) [Decidable c] (a b : Answer) (q : List Instr) :
    Answer.keeps (if c then a else b) q ↔ if c then Answer.keeps a q else Answer.keeps b q := by split <;> rfl

@[simp] theorem foldl_pending {β : Type} (f : State → β → State) (h : ∀ s b, (f s b).pending = s.pending)
    (l : List β) (s : State) : (l.foldl f s).pending = s.pending := by
  induction l generalizing s with
  | nil => rfl
  | cons b l ih => rw [List.foldl_cons, ih, h]

/-! ### Ops -/

@[simp] theorem onPart_pending (what : String) (limit : Nat) (n : Nat) (s : State) :
    (onPart what limit n s).keeps s.pending := by
  simp [onPart]

@[simp] theorem onLine_pending (l : Nat) (s : State) :
    (onLine l s).keeps s.pending := by
  simp [onLine]

@[simp] theorem onPort_pending (p : Nat) (s : State) :
    (onPort p s).keeps s.pending := by
  simp [onPort]

@[simp] theorem onLane_pending (l : Nat) (s : State) :
    (onLane l s).keeps s.pending := by
  simp [onLane]

@[simp] theorem onCluster_pending (c : Nat) (s : State) :
    (onCluster c s).keeps s.pending := by
  simp [onCluster]

@[simp] theorem onPage_pending (p : Page) (i : Nat) (s : State) :
    (onPage p i s).keeps s.pending := by
  simp [onPage]

@[simp] theorem withLine_pending (l : Nat) (s : State) (f : State → State) (hf : ∀ x0, (f x0).pending = x0.pending) :
    (withLine l s f).keeps s.pending := by
  unfold withLine onLine onPart
  by_cases h : l < 128 <;> simp only [h, if_true, if_false]
  · (repeat' split) <;> simp [hf]
  · simp

@[simp] theorem withPort_pending (p : Nat) (s : State) (f : State → State) (hf : ∀ x0, (f x0).pending = x0.pending) :
    (withPort p s f).keeps s.pending := by
  unfold withPort onPort onPart
  by_cases h : p < 128 <;> simp only [h, if_true, if_false]
  · (repeat' split) <;> simp [hf]
  · simp

@[simp] theorem when_pending (c : Bool) (f : State → State) (s : State) (hf : ∀ x0, (f x0).pending = x0.pending) :
    (when c f s).pending = s.pending := by
  simp [when, hf]

@[simp] theorem withSignal_pending (l : Nat) (s : State) (f : State → State) (hf : ∀ x0, (f x0).pending = x0.pending) :
    (withSignal l s f).keeps s.pending :=
  withLine_pending _ _ _ fun _ => when_pending _ _ _ hf

@[simp] theorem withTimer_pending (l : Nat) (s : State) (f : State → State) (hf : ∀ x0, (f x0).pending = x0.pending) :
    (withTimer l s f).keeps s.pending :=
  withLine_pending _ _ _ fun _ => when_pending _ _ _ hf

@[simp] theorem withPortTimer_pending (p : Nat) (s : State) (f : State → State) (hf : ∀ x0, (f x0).pending = x0.pending) :
    (withPortTimer p s f).keeps s.pending :=
  withPort_pending _ _ _ fun _ => when_pending _ _ _ hf

@[simp] theorem withLane_pending (l : Nat) (s : State) (f : State → State) (hf : ∀ x0, (f x0).pending = x0.pending) :
    (withLane l s f).keeps s.pending := by
  unfold withLane onLane onPart
  by_cases h : l < 32 <;> simp only [h, if_true, if_false]
  · (repeat' split) <;> simp [hf]
  · simp

@[simp] theorem State.wr_pending (s : State) (F : Fld) (v : Nat) (i : Nat) (j : Nat) :
    (State.wr s F v i j).pending = s.pending := by
  simp [State.wr]

@[simp] theorem State.bump_pending (s : State) (F : Fld) (i : Nat) (k : Nat) (j : Nat) :
    (State.bump s F i k j).pending = s.pending := by
  simp [State.bump]

@[simp] theorem State.bump64_pending (s : State) (lo : Fld) (hi : Fld) (i : Nat) (k : Nat) :
    (State.bump64 s lo hi i k).pending = s.pending := by
  simp [State.bump64]

@[simp] theorem State.wrWords_pending (s : State) (F : Fld) (i : Nat) (ws : List Nat) :
    (State.wrWords s F i ws).pending = s.pending := by
  simp [State.wrWords]

@[simp] theorem State.setLine_pending (s : State) (l : Nat) (x : LineX) :
    (State.setLine s l x).pending = s.pending := by
  simp [State.setLine]

@[simp] theorem State.setPort_pending (s : State) (p : Nat) (x : PortX) :
    (State.setPort s p x).pending = s.pending := by
  simp [State.setPort]

@[simp] theorem State.setLane_pending (s : State) (l : Nat) (x : LaneX) :
    (State.setLane s l x).pending = s.pending := by
  simp [State.setLane]

@[simp] theorem State.modLine_pending (s : State) (l : Nat) (f : LineX → LineX) :
    (State.modLine s l f).pending = s.pending := by
  simp [State.modLine]

@[simp] theorem State.modPort_pending (s : State) (p : Nat) (f : PortX → PortX) :
    (State.modPort s p f).pending = s.pending := by
  simp [State.modPort]

@[simp] theorem State.modLane_pending (s : State) (l : Nat) (f : LaneX → LaneX) :
    (State.modLane s l f).pending = s.pending := by
  simp [State.modLane]

@[simp] theorem State.modMgmt_pending (s : State) (f : Mgmt → Mgmt) :
    (State.modMgmt s f).pending = s.pending := by
  simp [State.modMgmt]

@[simp] theorem State.modTrust_pending (s : State) (f : TrustX → TrustX) :
    (State.modTrust s f).pending = s.pending := by
  simp [State.modTrust]

@[simp] theorem State.modFault_pending (s : State) (f : FaultX → FaultX) :
    (State.modFault s f).pending = s.pending := by
  simp [State.modFault]

@[simp] theorem State.modClk_pending (s : State) (f : ClockX → ClockX) :
    (State.modClk s f).pending = s.pending := by
  simp [State.modClk]

@[simp] theorem State.modLvl_pending (s : State) (f : LevelX → LevelX) :
    (State.modLvl s f).pending = s.pending := by
  simp [State.modLvl]

@[simp] theorem State.modPwr_pending (s : State) (f : PowerX → PowerX) :
    (State.modPwr s f).pending = s.pending := by
  simp [State.modPwr]

@[simp] theorem State.draw_pending (s : State) :
    (State.draw s).2.pending = s.pending := by
  simp [State.draw]

@[simp] theorem State.setSession_pending (s : State) (c : Nat) (x : Session) :
    (State.setSession s c x).pending = s.pending := by
  simp [State.setSession]

@[simp] theorem State.refreshPins_pending (s : State) :
    (State.refreshPins s).pending = s.pending := by
  simp [State.refreshPins]

@[simp] theorem State.sendEvent_pending (s : State) (n : Nat) (level : Bool) :
    (State.sendEvent s n level).pending = s.pending := by
  simp [State.sendEvent]

@[simp] theorem State.inbandDue_pending (s : State) (n : Nat) (level : Bool) :
    (State.inbandDue s n level).pending = s.pending := by
  simp [State.inbandDue]

@[simp] theorem State.inbandChange_pending (s : State) (n : Nat) (level : Bool) :
    (State.inbandChange s n level).pending = s.pending := by
  simp [State.inbandChange]

@[simp] theorem State.refreshSource_pending (s : State) (n : Nat) :
    (State.refreshSource s n).pending = s.pending := by
  simp [State.refreshSource]

@[simp] theorem State.refreshPage_pending (s : State) (p : Page) (i : Nat) :
    (State.refreshPage s p i).pending = s.pending := by
  simp [State.refreshPage]

@[simp] theorem State.edges_pending (s : State) (p : Page) (i : Nat) (mask : Nat) :
    (State.edges s p i mask).pending = s.pending := by
  simp [State.edges]

@[simp] theorem State.pulse_pending (s : State) (p : Page) (i : Nat) (b : Nat) :
    (State.pulse s p i b).pending = s.pending := by
  simp [State.pulse]

@[simp] theorem State.cond_pending (s : State) (p : Page) (i : Nat) (b : Nat) (on : Bool) :
    (State.cond s p i b on).pending = s.pending := by
  simp [State.cond]

@[simp] theorem State.beginResult_pending (s : State) (p : Page) (i : Nat) :
    (State.beginResult s p i).pending = s.pending := by
  simp [State.beginResult]

@[simp] theorem State.landResult_pending (s : State) (p : Page) (i : Nat) :
    (State.landResult s p i).pending = s.pending := by
  simp [State.landResult]

@[simp] theorem State.capture_pending (s : State) (ns : Fld) (sec : Fld) (sech : Fld) (frac : Fld) (i : Nat) (j : Nat) :
    (State.capture s ns sec sech frac i j).pending = s.pending := by
  simp [State.capture]

@[simp] theorem State.capture2_pending (s : State) (ns : Fld) (sec : Fld) (i : Nat) :
    (State.capture2 s ns sec i).pending = s.pending := by
  simp [State.capture2]

@[simp] theorem State.placeRecord_pending (s : State) (r : Nat) (f : FaultReport) (real : Bool) :
    (State.placeRecord s r f real).pending = s.pending := by
  simp [State.placeRecord]

@[simp] theorem State.companion_pending (s : State) (r : Nat) (src : Nat) :
    (State.companion s r src).pending = s.pending := by
  simp [State.companion]

@[simp] theorem State.record_pending (s : State) (f : FaultReport) (real : Bool) :
    (State.record s f real).pending = s.pending := by
  simp [State.record]

@[simp] theorem State.countFault_pending (s : State) (f : FaultReport) :
    (State.countFault s f).pending = s.pending := by
  simp [State.countFault]

@[simp] theorem State.unitRecorded_pending (s : State) (f : FaultReport) :
    (State.unitRecorded s f).pending = s.pending := by
  simp [State.unitRecorded]

@[simp] theorem State.log_pending (s : State) (f : FaultReport) :
    (State.log s f).pending = s.pending := by
  simp [State.log]

@[simp] theorem State.healthChanged_pending (s : State) (src : Nat) :
    (State.healthChanged s src).pending = s.pending := by
  simp [State.healthChanged]

@[simp] theorem State.beginRecovery_pending (s : State) (src : Nat) :
    (State.beginRecovery s src).pending = s.pending := by
  simp [State.beginRecovery]

@[simp] theorem State.endRecovery_pending (s : State) (src : Nat) :
    (State.endRecovery s src).pending = s.pending := by
  simp [State.endRecovery]

@[simp] theorem State.faultS1_pending (s : State) (code : Nat) (src : Nat) (addr : Nat) :
    (State.faultS1 s code src addr).pending = s.pending := by
  simp [State.faultS1]

@[simp] theorem State.noteS1_pending (s : State) (code : Nat) (src : Nat) (addr : Nat) :
    (State.noteS1 s code src addr).pending = s.pending := by
  simp [State.noteS1]

@[simp] theorem State.faultS2Unit_pending (s : State) (code : Nat) (src : Nat) (addr : Nat) :
    (State.faultS2Unit s code src addr).pending = s.pending := by
  simp [State.faultS2Unit]

@[simp] theorem State.accessError_pending (s : State) (master : Nat) (access : Nat) (addr : Nat) :
    (State.accessError s master access addr).pending = s.pending := by
  simp [State.accessError]

/-! ### Seal -/

@[simp] theorem State.setResult_pending (s : State) (p : Page) (i : Nat) (r : Nat) :
    (State.setResult s p i r).pending = s.pending := by
  simp [State.setResult]

@[simp] theorem State.dropPost_pending (s : State) (p : Page) (i : Nat) :
    (State.dropPost s p i).pending = s.pending := by
  simp [State.dropPost]

@[simp] theorem State.finishPost_pending (s : State) (p : Page) (i : Nat) (r : Nat) :
    (State.finishPost s p i r).pending = s.pending := by
  simp [State.finishPost]

@[simp] theorem State.setPhase_pending (s : State) (p : Page) (i : Nat) (ph : PostPhase) (target : Option Nat) :
    (State.setPhase s p i ph target).pending = s.pending := by
  simp [State.setPhase]

@[simp] theorem State.regridPosts_pending (s : State) (sel : Post → Bool) (now : Nat) :
    (State.regridPosts s sel now).pending = s.pending := by
  unfold State.regridPosts
  refine foldl_pending _ (fun s x => ?_) _ _
  try dsimp only
  (repeat' split) <;> simp

@[simp] theorem State.landLocks_pending (s : State) (locks : List (Page × Nat × Nat)) :
    (State.landLocks s locks).pending = s.pending := by
  simp [State.landLocks]

@[simp] theorem State.endRun_pending (s : State) (r : Nat) :
    (State.endRun s r).pending = s.pending := by
  simp [State.endRun]

@[simp] theorem State.dismissMembers_pending (s : State) (r : Nat) :
    (State.dismissMembers s r).pending = s.pending := by
  simp [State.dismissMembers]

@[simp] theorem State.withdrawRun_pending (s : State) :
    (State.withdrawRun s).pending = s.pending := by
  unfold State.withdrawRun
  refine foldl_pending _ (fun s x => ?_) _ _
  try dsimp only
  (repeat' split) <;> simp

@[simp] theorem State.refusePosts_pending (s : State) (sel : Post → Bool) :
    (State.refusePosts s sel).pending = s.pending := by
  simp [State.refusePosts]

@[simp] theorem State.abortNeg_pending (s : State) (port : Nat) :
    (State.abortNeg s port).pending = s.pending := by
  simp [State.abortNeg]

@[simp] theorem State.propose_pending (s : State) (port : Nat) (target : Nat) (cs : List Change) :
    (State.propose s port target cs).pending = s.pending := by
  unfold State.propose; split <;> simp

/-! ### Bounds -/

@[simp] theorem State.refreshPort_pending (s : State) (p : Nat) :
    (State.refreshPort s p).pending = s.pending := by
  simp [State.refreshPort]

@[simp] theorem State.refreshPorts_pending (s : State) :
    (State.refreshPorts s).pending = s.pending := by
  simp [State.refreshPorts]

@[simp] theorem State.showRoundTrip_pending (s : State) (p : Nat) :
    (State.showRoundTrip s p).pending = s.pending := by
  simp [State.showRoundTrip]

@[simp] theorem State.setTa_pending (s : State) (l : Nat) (ta : Nat) :
    (State.setTa s l ta).pending = s.pending := by
  simp [State.setTa]

@[simp] theorem State.correctTa_pending (s : State) (l : Nat) (base : Nat) (corr : Int) :
    (State.correctTa s l base corr).pending = s.pending := by
  simp [State.correctTa]

@[simp] theorem State.showTable_pending (s : State) (l : Nat) :
    (State.showTable s l).pending = s.pending := by
  simp [State.showTable]

/-! ### Chain -/

@[simp] theorem State.modMon_pending (s : State) (l : Nat) (f : MonX → MonX) :
    (State.modMon s l f).pending = s.pending := by
  simp [State.modMon]

@[simp] theorem State.modReach_pending (s : State) (l : Nat) (f : ReachX → ReachX) :
    (State.modReach s l f).pending = s.pending := by
  simp [State.modReach]

@[simp] theorem State.modStd_pending (s : State) (l : Nat) (f : StdX → StdX) :
    (State.modStd s l f).pending = s.pending := by
  simp [State.modStd]

@[simp] theorem State.modCal_pending (s : State) (l : Nat) (f : CalX → CalX) :
    (State.modCal s l f).pending = s.pending := by
  simp [State.modCal]

@[simp] theorem State.startTx_pending (s : State) (l : Nat) (netid : Nat) (p : ReachPkt) :
    (State.startTx s l netid p).pending = s.pending := by
  simp [State.startTx]

@[simp] theorem State.noteGo_pending (s : State) (l : Nat) (p : ReachPkt) :
    (State.noteGo s l p).pending = s.pending := by
  unfold State.noteGo; (repeat' split) <;> simp

@[simp] theorem State.sendDue_pending (s : State) (l : Nat) :
    (State.sendDue s l).pending = s.pending := by
  unfold State.sendDue; dsimp only; (repeat' split) <;> simp

@[simp] theorem State.showDetectors_pending (s : State) (l : Nat) :
    (State.showDetectors s l).pending = s.pending := by
  simp [State.showDetectors]

@[simp] theorem State.detect_pending (s : State) (l : Nat) (p : Rat) :
    (State.detect s l p).pending = s.pending := by
  simp [State.detect]

@[simp] theorem State.endBlock_pending (s : State) (l : Nat) :
    (State.endBlock s l).pending = s.pending := by
  simp [State.endBlock]

@[simp] theorem State.finishCapture_pending (s : State) (l : Nat) (reason : Nat) (ws : List Nat) :
    (State.finishCapture s l reason ws).pending = s.pending := by
  unfold State.finishCapture; split <;> simp

@[simp] theorem State.cutCapture_pending (s : State) (l : Nat) (reason : Nat) :
    (State.cutCapture s l reason).pending = s.pending := by
  unfold State.cutCapture; split <;> simp

@[simp] theorem State.landSync_pending (s : State) (l : Nat) :
    (State.landSync s l).pending = s.pending := by
  unfold State.landSync; split <;> simp

@[simp] theorem State.refreshOwner_pending (s : State) (l : Nat) :
    (State.refreshOwner s l).pending = s.pending := by
  simp [State.refreshOwner]

@[simp] theorem State.stopChain_pending (s : State) (l : Nat) :
    (State.stopChain s l).pending = s.pending := by
  simp [State.stopChain]

@[simp] theorem State.countFade_pending (s : State) (l : Nat) :
    (State.countFade s l).pending = s.pending := by
  simp [State.countFade]

@[simp] theorem State.captureSample_pending (s : State) (l : Nat) (back : Nat) (y : Cx) :
    (State.captureSample s l back y).pending = s.pending := by
  unfold State.captureSample; split <;> simp

@[simp] theorem State.emit_pending (s : State) (l : Nat) (back : Nat) (y : Cx) :
    (State.emit s l back y).pending = s.pending := by
  simp [State.emit]

@[simp] theorem State.feedSample_pending (s : State) (l : Nat) (back : Nat) (code : Int) :
    (State.feedSample s l back code).pending = s.pending := by
  simp [State.feedSample]

@[simp] theorem State.feed_pending (s : State) (l : Nat) (adc : List Int) :
    (State.feed s l adc).pending = s.pending := by
  simp [State.feed]

/-! ### Lines -/

@[simp] theorem State.setErase_pending (s : State) (l : Nat) (mask : Nat) :
    (State.setErase s l mask).pending = s.pending := by
  simp [State.setErase]

@[simp] theorem State.refreshErase_pending (s : State) (l : Nat) :
    (State.refreshErase s l).pending = s.pending := by
  unfold State.refreshErase; (repeat' split) <;> simp

@[simp] theorem State.startErasure_pending (s : State) (tag : Nat) :
    (State.startErasure s tag).pending = s.pending := by
  simp [State.startErasure]

@[simp] theorem State.moveErase_pending (s : State) (l : Nat) (old : LineState) :
    (State.moveErase s l old).pending = s.pending := by
  unfold State.moveErase; (repeat' split) <;> simp

@[simp] theorem State.setRmask_pending (s : State) (l : Nat) (mask : Nat) :
    (State.setRmask s l mask).pending = s.pending := by
  simp [State.setRmask]

@[simp] theorem State.settleMask_pending (s : State) (l : Nat) :
    (State.settleMask s l).pending = s.pending := by
  unfold State.settleMask; dsimp only; (repeat' split) <;> simp

@[simp] theorem State.stopModem_pending (s : State) (l : Nat) (off : Bool) :
    (State.stopModem s l off).pending = s.pending := by
  simp [State.stopModem]

@[simp] theorem State.setDac_pending (s : State) (l : Nat) (x : DacInput) :
    (State.setDac s l x).pending = s.pending := by
  simp [State.setDac]

@[simp] theorem State.refreshDacs_pending (s : State) :
    (State.refreshDacs s).pending = s.pending := by
  simp [State.refreshDacs]

@[simp] theorem State.askPort_pending (s : State) (master : Nat) :
    (State.askPort s master).pending = s.pending := by
  simp [State.askPort]

@[simp] theorem State.wantClear_pending (s : State) (l : Nat) :
    (State.wantClear s l).pending = s.pending := by
  simp [State.wantClear]

@[simp] theorem State.moveLine_pending (s : State) (l : Nat) (st : LineState) (sub : Nat) :
    (State.moveLine s l st sub).pending = s.pending := by
  simp [State.moveLine]

@[simp] theorem State.noteReason_pending (s : State) (l : Nat) (reason : Nat) :
    (State.noteReason s l reason).pending = s.pending := by
  simp [State.noteReason]

@[simp] theorem State.leaveActive_pending (s : State) (l : Nat) :
    (State.leaveActive s l).pending = s.pending := by
  simp [State.leaveActive]

@[simp] theorem State.noteRotated_pending (s : State) (l : Nat) :
    (State.noteRotated s l).pending = s.pending := by
  simp [State.noteRotated]

@[simp] theorem State.forgetLine_pending (s : State) (l : Nat) :
    (State.forgetLine s l).pending = s.pending := by
  simp [State.forgetLine]

@[simp] theorem State.forgetAttempt_pending (s : State) (l : Nat) :
    (State.forgetAttempt s l).pending = s.pending := by
  unfold State.forgetAttempt; dsimp only; (repeat' split) <;> simp

@[simp] theorem State.quietOne_pending (s : State) (l : Nat) (reason : Nat) (hold : Nat) :
    (State.quietOne s l reason hold).pending = s.pending := by
  simp [State.quietOne]

@[simp] theorem State.quietPeers_pending (s : State) (l : Nat) :
    (State.quietPeers s l).pending = s.pending := by
  simp [State.quietPeers]

@[simp] theorem State.queueJoin_pending (s : State) (port : Nat) :
    (State.queueJoin s port).pending = s.pending := by
  simp [State.queueJoin]

@[simp] theorem State.unqueueJoin_pending (s : State) (port : Nat) :
    (State.unqueueJoin s port).pending = s.pending := by
  simp [State.unqueueJoin]

@[simp] theorem State.unjoin_pending (s : State) (missing : List Nat) (l : Nat) :
    (State.unjoin s missing l).pending = s.pending := by
  simp [State.unjoin]

@[simp] theorem State.failJoin_pending (s : State) (missing : List Nat) :
    (State.failJoin s missing).pending = s.pending := by
  unfold State.failJoin; split <;> simp

@[simp] theorem State.failJoinOf_pending (s : State) (l : Nat) (missing : List Nat) :
    (State.failJoinOf s l missing).pending = s.pending := by
  unfold State.failJoinOf; split <;> simp

@[simp] theorem State.quietLine_pending (s : State) (l : Nat) (reason : Nat) (hold : Nat) :
    (State.quietLine s l reason hold).pending = s.pending := by
  simp [State.quietLine]

@[simp] theorem State.countLost_pending (s : State) (p : Nat) (n : Nat) :
    (State.countLost s p n).pending = s.pending := by
  simp [State.countLost]

@[simp] theorem State.emptyPort_pending (s : State) (port : Nat) :
    (State.emptyPort s port).pending = s.pending := by
  simp [State.emptyPort]

@[simp] theorem State.leftShowtime_pending (s : State) (l : Nat) :
    (State.leftShowtime s l).pending = s.pending := by
  simp [State.leftShowtime]

@[simp] theorem State.dropFromPort_pending (s : State) (l : Nat) :
    (State.dropFromPort s l).pending = s.pending := by
  simp [State.dropFromPort]

@[simp] theorem State.endWake_pending (s : State) (p : Nat) :
    (State.endWake s p).pending = s.pending := by
  simp [State.endWake]

@[simp] theorem State.lowSnr_pending (s : State) (l : Nat) :
    (State.lowSnr s l).pending = s.pending := by
  simp [State.lowSnr]

@[simp] theorem State.retrainLine_pending (s : State) (l : Nat) (reason : Nat) :
    (State.retrainLine s l reason).pending = s.pending := by
  simp [State.retrainLine]

@[simp] theorem State.lineGone_pending (s : State) (l : Nat) (old : LineState) :
    (State.lineGone s l old).pending = s.pending := by
  simp [State.lineGone]

@[simp] theorem State.noteExit_pending (s : State) (l : Nat) (reason : Nat) :
    (State.noteExit s l reason).pending = s.pending := by
  simp [State.noteExit]

@[simp] theorem State.faultLine_pending (s : State) (l : Nat) :
    (State.faultLine s l).pending = s.pending := by
  simp [State.faultLine]

@[simp] theorem State.startLine_pending (s : State) (l : Nat) :
    (State.startLine s l).pending = s.pending := by
  simp [State.startLine]

@[simp] theorem State.holdOff_pending (s : State) (l : Nat) :
    (State.holdOff s l).pending = s.pending := by
  simp [State.holdOff]

@[simp] theorem State.resumeLine_pending (s : State) (l : Nat) :
    (State.resumeLine s l).pending = s.pending := by
  simp [State.resumeLine]

@[simp] theorem State.restartLine_pending (s : State) (l : Nat) :
    (State.restartLine s l).pending = s.pending := by
  simp [State.restartLine]

@[simp] theorem State.stageTables_pending (s : State) (l : Nat) (rx tx : Store Nat) :
    (State.stageTables s l rx tx).pending = s.pending := by
  unfold State.stageTables; (repeat' split) <;> simp

@[simp] theorem State.proposeTables_pending (s : State) (l target : Nat) :
    (State.proposeTables s l target).pending = s.pending := by
  unfold State.proposeTables; dsimp only; (repeat' split) <;> simp

@[simp] theorem State.reload_pending (s : State) (l : Nat) (target : Nat) (rx : Store Nat) (tx : Store Nat) :
    (State.reload s l target rx tx).pending = s.pending := by
  simp [State.reload]

@[simp] theorem State.stageMask_pending (s : State) (l : Nat) :
    (State.stageMask s l).pending = s.pending := by
  simp [State.stageMask]

@[simp] theorem State.refreshMasks_pending (s : State) :
    (State.refreshMasks s).pending = s.pending := by
  simp [State.refreshMasks]

/-! ### Matrix -/

@[simp] theorem State.setCoef_pending (s : State) (key : Nat) (c : Int × Int) :
    (State.setCoef s key c).pending = s.pending := by
  simp [State.setCoef]

@[simp] theorem State.writeCoef_pending (s : State) (m : Nat) (k : Nat) (v : Nat) (d : Nat) (c : Int × Int) :
    (State.writeCoef s m k v d c).pending = s.pending := by
  simp [State.writeCoef]

@[simp] theorem State.updateCoef_pending (s : State) (key : Nat) (re : Int) (im : Int) :
    (State.updateCoef s key re im).pending = s.pending := by
  simp [State.updateCoef]

@[simp] theorem State.addCoef_pending (s : State) (key : Nat) (re : Int) (im : Int) :
    (State.addCoef s key re im).pending = s.pending := by
  simp [State.addCoef]

@[simp] theorem State.clearEntries_pending (s : State) (l : Nat) :
    (State.clearEntries s l).pending = s.pending := by
  simp [State.clearEntries]

@[simp] theorem State.setFeq_pending (s : State) (l : Nat) (k : Nat) (c : Cx) :
    (State.setFeq s l k c).pending = s.pending := by
  simp [State.setFeq]

@[simp] theorem State.landNxt_pending (s : State) :
    (State.landNxt s).pending = s.pending := by
  simp [State.landNxt]

@[simp] theorem State.countSkips_pending (s : State) (n : Nat) :
    (State.countSkips s n).pending = s.pending := by
  simp [State.countSkips]

@[simp] theorem State.stepNorm_pending (s : State) (k : Nat) :
    (State.stepNorm s k).pending = s.pending := by
  simp [State.stepNorm]

@[simp] theorem State.addIncs_pending (s : State) (incs : List (Nat × Cx)) (factor : Nat) :
    (State.addIncs s incs factor).pending = s.pending := by
  simp [State.addIncs]

@[simp] theorem State.landPrdIncs_pending (s : State) (incs : List (Nat × Cx)) (k : Nat) :
    (State.landPrdIncs s incs k).pending = s.pending := by
  simp [State.landPrdIncs]

@[simp] theorem State.corrected_pending (s : State) :
    (State.corrected s).pending = s.pending := by
  simp [State.corrected]

@[simp] theorem State.recoverEntry_pending (s : State) (m : Nat) (index : Nat) :
    (State.recoverEntry s m index).pending = s.pending := by
  simp [State.recoverEntry]

@[simp] theorem State.showUe_pending (s : State) (m : Nat) (index : Nat) :
    (State.showUe s m index).pending = s.pending := by
  simp [State.showUe]

@[simp] theorem State.uncorrectable_pending (s : State) (m : Nat) (index : Nat) :
    (State.uncorrectable s m index).pending = s.pending := by
  simp [State.uncorrectable]

@[simp] theorem State.recoveryCheck_pending (s : State) :
    (State.recoveryCheck s).pending = s.pending := by
  simp [State.recoveryCheck]

@[simp] theorem State.releasePort_pending (s : State) (master : Nat) :
    (State.releasePort s master).pending = s.pending := by
  simp [State.releasePort]

/-! ### Ports -/

@[simp] theorem State.refreshDegraded_pending (s : State) (p : Nat) :
    (State.refreshDegraded s p).pending = s.pending := by
  simp [State.refreshDegraded]

@[simp] theorem State.clearPending_pending (s : State) (l : Nat) :
    (State.clearPending s l).pending = s.pending := by
  simp [State.clearPending]

@[simp] theorem State.applyTables_pending (s : State) (l : Nat) (rx : Bool) (tx : Bool) :
    (State.applyTables s l rx tx).pending = s.pending := by
  simp [State.applyTables]

@[simp] theorem State.landMask_pending (s : State) (l : Nat) :
    (State.landMask s l).pending = s.pending := by
  simp [State.landMask]

@[simp] theorem State.applyProfile_pending (s : State) (p : Nat) :
    (State.applyProfile s p).pending = s.pending := by
  simp [State.applyProfile]

@[simp] theorem State.enterShowtime_pending (s : State) (l : Nat) :
    (State.enterShowtime s l).pending = s.pending := by
  simp [State.enterShowtime]

@[simp] theorem State.rescaleNxt_pending (s : State) (l : Nat) (row : Bool) (r : Rat) :
    (State.rescaleNxt s l row r).pending = s.pending := by
  simp [State.rescaleNxt]

@[simp] theorem State.setPga_pending (s : State) (l : Nat) (v : Nat) :
    (State.setPga s l v).pending = s.pending := by
  simp [State.setPga]

@[simp] theorem State.setRange_pending (s : State) (l : Nat) (v : Nat) :
    (State.setRange s l v).pending = s.pending := by
  simp [State.setRange]

@[simp] theorem State.landChange_pending (s : State) (p : Nat) (a2 : Change) :
    (State.landChange s p a2).pending = s.pending := by
  unfold State.landChange; split <;> simp

@[simp] theorem State.adoptProfile_pending (s : State) (p : Nat) (ours : Bool) (a3 : Change) :
    (State.adoptProfile s p ours a3).pending = s.pending := by
  unfold State.adoptProfile; split <;> simp

@[simp] theorem State.landNeg_pending (s : State) (p : Nat) :
    (State.landNeg s p).pending = s.pending := by
  unfold State.landNeg; split <;> simp

/-! ### Secy -/

@[simp] theorem State.refreshFill_pending (s : State) (p : Nat) :
    (State.refreshFill s p).pending = s.pending := by
  unfold State.refreshFill; dsimp only; (repeat' split) <;> simp

@[simp] theorem State.sendControl_pending (s : State) (p : Nat) (cap : Nat) (b : Block) :
    (State.sendControl s p cap b).pending = s.pending := by
  simp [State.sendControl]

@[simp] theorem State.secyCount_pending (s : State) (p : Nat) (i : Nat) :
    (State.secyCount s p i).pending = s.pending := by
  simp [State.secyCount]

@[simp] theorem State.setSa_pending (s : State) (p : Nat) (a : Nat) (x : Sa) :
    (State.setSa s p a x).pending = s.pending := by
  simp [State.setSa]

@[simp] theorem State.reachPn_pending (s : State) (p : Nat) (a : Nat) (sa : Sa) :
    (State.reachPn s p a sa).pending = s.pending := by
  unfold State.reachPn; dsimp only; (repeat' split) <;> simp

@[simp] theorem State.landSas_pending (s : State) (p : Nat) (tx : Bool) :
    (State.landSas s p tx).pending = s.pending := by
  unfold State.landSas; dsimp only; split <;> simp

@[simp] theorem State.secyOut_pending (s : State) (p : Nat) (f : List Block) :
    (State.secyOut s p f).2.pending = s.pending := by
  unfold State.secyOut; dsimp only; (repeat' split) <;> simp

@[simp] theorem State.secyFail_pending (s : State) (p : Nat) (i : Nat) (f : List Block) :
    (State.secyFail s p i f).2.pending = s.pending := by
  simp [State.secyFail]

@[simp] theorem State.secyIn_pending (s : State) (p : Nat) (f : List Block) :
    (State.secyIn s p f).2.pending = s.pending := by
  unfold State.secyIn; dsimp only; (repeat' split) <;> simp

@[simp] theorem State.offerBlock_pending (s : State) (p : Nat) (cap : Nat) (F : Fld) (c : Nat) (b : Block) :
    (State.offerBlock s p cap F c b).pending = s.pending := by
  simp [State.offerBlock]

@[simp] theorem State.intoIngress_pending (s : State) (p : Nat) (bs : List Block) :
    (State.intoIngress s p bs).pending = s.pending := by
  simp [State.intoIngress]

@[simp] theorem State.fromHost_pending (s : State) (p : Nat) (b : Block) :
    (State.fromHost s p b).pending = s.pending := by
  simp [State.fromHost]

@[simp] theorem State.toHost_pending (s : State) (p : Nat) (bs : List Block) :
    (State.toHost s p bs).pending = s.pending := by
  simp [State.toHost]

@[simp] theorem State.pastSecy_pending (s : State) (p : Nat) (b : Block) :
    (State.pastSecy s p b).pending = s.pending := by
  simp [State.pastSecy]

@[simp] theorem State.deliver_pending (s : State) (p : Nat) (bs : List Block) :
    (State.deliver s p bs).pending = s.pending := by
  simp [State.deliver]

/-! ### Pace -/

@[simp] theorem State.lowerIssue_pending (s : State) (p : Nat) :
    (State.lowerIssue s p).pending = s.pending := by
  unfold State.lowerIssue; split <;> simp

/-! ### Framing -/

@[simp] theorem State.spentDtus_pending (s : State) (p : Nat) :
    (State.spentDtus s p).pending = s.pending := by
  simp [State.spentDtus]

@[simp] theorem State.nextDtu_pending (s : State) (p : Nat) :
    (State.nextDtu s p).2.pending = s.pending := by
  unfold State.nextDtu; dsimp only; (repeat' split) <;> simp

@[simp] theorem State.fillBulk_pending (a0 : Nat) (a1 : Nat) (a2 : Nat) (a3 : State) :
    (State.fillBulk a0 a1 a2 a3).pending = a3.pending := by
  induction a0 generalizing a3 with
  | zero => rfl
  | succ n ih =>
    unfold State.fillBulk
    try dsimp only
    (repeat' split) <;> simp [ih]

@[simp] theorem State.portBits_pending (s : State) (p : Nat) :
    (State.portBits s p).2.pending = s.pending := by
  unfold State.portBits
  try dsimp only
  (repeat' split) <;> simp

@[simp] theorem State.ageDtus_pending (s : State) (p : Nat) (b : Nat) :
    (State.ageDtus s p b).pending = s.pending := by
  simp [State.ageDtus]

@[simp] theorem State.countError_pending (s : State) (p : Nat) :
    (State.countError s p).pending = s.pending := by
  simp [State.countError]

@[simp] theorem State.countCodeword_pending (s : State) (p : Nat) (fixed : Bool) (ok : Bool) :
    (State.countCodeword s p fixed ok).pending = s.pending := by
  simp [State.countCodeword]

@[simp] theorem State.drainExpress_pending (a0 : Nat) (a1 : Nat) (a2 : State) :
    (State.drainExpress a0 a1 a2).pending = a2.pending := by
  induction a0 generalizing a2 with
  | zero => rfl
  | succ n ih =>
    unfold State.drainExpress
    try dsimp only
    (repeat' split) <;> simp [ih]

@[simp] theorem State.rxExpress_pending (s : State) (p : Nat) (l : List Rat) :
    (State.rxExpress s p l).pending = s.pending := by
  unfold State.rxExpress
  refine (State.drainExpress_pending _ _ _).trans (foldl_pending _ (fun s x => ?_) _ _)
  rw [State.modPort_pending, State.countCodeword_pending]

@[simp] theorem State.releaseDtus_pending (a0 : Nat) (a1 : Nat) (a2 : State) :
    (State.releaseDtus a0 a1 a2).pending = a2.pending := by
  induction a0 generalizing a2 with
  | zero => rfl
  | succ n ih =>
    unfold State.releaseDtus
    try dsimp only
    (repeat' split) <;> simp [ih]

@[simp] theorem State.rxDtu_pending (s : State) (p : Nat) (d : Dtu) :
    (State.rxDtu s p d).pending = s.pending := by
  unfold State.rxDtu
  try dsimp only
  (repeat' split) <;> simp

@[simp] theorem State.rxBulk_pending (a0 : Nat) (a1 : Nat) (a2 : State) :
    (State.rxBulk a0 a1 a2).pending = a2.pending := by
  induction a0 generalizing a2 with
  | zero => rfl
  | succ n ih =>
    unfold State.rxBulk
    dsimp only
    split
    · simp [ih]
    · split
      · rw [ih]
        split <;> simp
      · rfl

@[simp] theorem State.giveUpDtu_pending (s : State) (p : Nat) :
    (State.giveUpDtu s p).pending = s.pending := by
  unfold State.giveUpDtu
  rw [State.releaseDtus_pending, State.modPort_pending, State.pulse_pending, State.countLost_pending,
    State.countError_pending, State.deliver_pending]

@[simp] theorem State.takeAck_pending (s : State) (p : Nat) (seq : Nat) (map : Nat) :
    (State.takeAck s p seq map).pending = s.pending := by
  unfold State.takeAck
  dsimp only
  split
  · rfl
  · rw [State.modPort_pending]

@[simp] theorem State.rxSymbol_pending (s : State) (p : Nat) (l : List RxTone) :
    (State.rxSymbol s p l).pending = s.pending := by
  simp [State.rxSymbol]

/-! ### Overhead -/

@[simp] theorem State.buildFrames_pending (s : State) (p : Nat) :
    (State.buildFrames s p).pending = s.pending := by
  unfold State.buildFrames
  try dsimp only
  refine (foldl_pending _ (fun s x => ?_) _ _).trans ?_
  · (repeat' split) <;> simp
  · simp

@[simp] theorem State.startSra_pending (s : State) (l : Nat) (down : Bool) (t : Store Nat) :
    (State.startSra s l down t).pending = s.pending := by
  simp [State.startSra]

@[simp] theorem State.sraCheck_pending (s : State) (l : Nat) :
    (State.sraCheck s l).pending = s.pending := by
  simp [State.sraCheck]

@[simp] theorem State.proposeSra_pending (s : State) (l : Nat) :
    (State.proposeSra s l).pending = s.pending := by
  unfold State.proposeSra; dsimp only; (repeat' split) <;> simp

@[simp] theorem State.sraRefused_pending (s : State) (l : Nat) :
    (State.sraRefused s l).pending = s.pending := by
  simp [State.sraRefused]

@[simp] theorem State.stayUp_pending (s : State) (ls : List Nat) :
    (State.stayUp s ls).pending = s.pending := by
  unfold State.stayUp; (repeat' split) <;> simp

@[simp] theorem State.negRefused_pending (s : State) (p : Nat) (n : Neg) :
    (State.negRefused s p n).pending = s.pending := by
  unfold State.negRefused
  try dsimp only
  refine (foldl_pending _ (fun s x => ?_) _ _).trans ?_
  · (repeat' split) <;> simp
  · simp

@[simp] theorem State.negYields_pending (s : State) (p : Nat) (n : Neg) :
    (State.negYields s p n).pending = s.pending := by
  simp [State.negYields]

@[simp] theorem State.followLeave_pending (s : State) (cs : List Change) (go : Bool) :
    (State.followLeave s cs go).pending = s.pending := by
  unfold State.followLeave
  refine foldl_pending _ (fun s x => ?_) _ _
  try dsimp only
  (repeat' split) <;> simp

@[simp] theorem State.dropTheirs_pending (s : State) (p : Nat) :
    (State.dropTheirs s p).pending = s.pending := by
  unfold State.dropTheirs; split <;> simp

@[simp] theorem State.considerTheirs_pending (s : State) (p : Nat) :
    (State.considerTheirs s p).pending = s.pending := by
  unfold State.considerTheirs; split <;> simp

/-! ### Signal -/

@[simp] theorem State.sendData_pending (s : State) (n : Nat) :
    (State.sendData s n).2.pending = s.pending := by
  unfold State.sendData
  generalize List.filter _ _ = l
  suffices h : ∀ (l : List Nat) (st : Store Cx × State), st.2.pending = s.pending →
      (l.foldl (fun (st : Store Cx × State) p =>
        let b := st.2.portBits p
        let x := b.2.placeSymbol p n b.1
        let sent := x.1.filter fun e => s.isVTail (e.1 / 128) || s.isActive (e.1 / 128)
        (sent.foldl (fun m e => Store.set m Cx.zero e.1 e.2) st.1,
          (b.2.modPort p fun y => { y with txScr := x.2 }).ageDtus p b.1.length)) st).2.pending = s.pending from
    h l ([], s) rfl
  intro l
  induction l with
  | nil => intro st h; exact h
  | cons p l ih =>
    intro st h
    rw [List.foldl_cons]
    exact ih _ (by dsimp only; rw [State.ageDtus_pending, State.modPort_pending, State.portBits_pending, h])

@[simp] theorem State.symbolX_pending (s : State) (n : Nat) :
    (State.symbolX s n).2.pending = s.pending := by
  unfold State.symbolX; split <;> simp

@[simp] theorem State.driveLine_pending (s : State) (t : Store Cx) (l : Nat) :
    (State.driveLine s t l).pending = s.pending := by
  unfold State.driveLine; dsimp only; (repeat' split) <;> simp

@[simp] theorem State.drive_pending (s : State) (t : Store Cx) :
    (State.drive s t).pending = s.pending := by
  simp [State.drive]

@[simp] theorem State.noteAmps_pending (s : State) :
    (State.noteAmps s).pending = s.pending := by
  simp [State.noteAmps]

@[simp] theorem State.stampTx_pending (s : State) (e : TimedMessage) :
    (State.stampTx s e).pending = s.pending := by
  unfold State.stampTx; (repeat' split) <;> simp

@[simp] theorem State.ageRange_pending (s : State) :
    (State.ageRange s).pending = s.pending := by
  simp [State.ageRange]

@[simp] theorem State.takeCensus_pending (s : State) :
    (State.takeCensus s).pending = s.pending := by
  unfold State.takeCensus; split <;> simp

@[simp] theorem execSymbolTx_pending (n : Nat) (events : List TimedMessage) (s : State) :
    (execSymbolTx n events s).keeps s.pending := by
  simp [execSymbolTx]

@[simp] theorem State.trackFeq_pending (s : State) (n : Nat) (l : Nat) (k : Nat) (e : Cx) (y : Cx) :
    (State.trackFeq s n l k e y).pending = s.pending := by
  simp [State.trackFeq]

@[simp] theorem State.accumulate_pending (s : State) (l : Nat) (bs : List Bool) (y : Nat → Cx) :
    (State.accumulate s l bs y).pending = s.pending := by
  simp [State.accumulate]

@[simp] theorem State.countError2_pending (s : State) (l : Nat) (k : Nat) (e : Cx) :
    (State.countError2 s l k e).pending = s.pending := by
  simp [State.countError2]

@[simp] theorem State.notePilotError_pending (s : State) (l : Nat) (k : Nat) (e : Cx) :
    (State.notePilotError s l k e).pending = s.pending := by
  simp [State.notePilotError]

@[simp] theorem State.useTone_pending (s : State) (n : Nat) (l : Nat) (k : Nat) (y : Cx) :
    (State.useTone s n l k y).pending = s.pending := by
  simp [State.useTone]

@[simp] theorem State.useLine_pending (s : State) (n : Nat) (l : Nat) (v : Store Cx) :
    (State.useLine s n l v).pending = s.pending := by
  simp [State.useLine]

@[simp] theorem State.addC_pending (s : State) (key : Nat) (c : Cx) :
    (State.addC s key c).pending = s.pending := by
  simp [State.addC]

@[simp] theorem State.addPowerC_pending (s : State) (key : Nat) (c : Cx) :
    (State.addPowerC s key c).pending = s.pending := by
  simp [State.addPowerC]

@[simp] theorem State.joinPilot_pending (s : State) (first : Bool) (js : List Nat) (us : Store Cx) :
    (State.joinPilot s first js us).pending = s.pending := by
  unfold State.joinPilot
  refine foldl_pending _ (fun s d => ?_) _ _
  refine foldl_pending _ (fun s k => ?_) _ _
  dsimp only
  refine (foldl_pending _ (fun s j => ?_) _ _).trans ?_ <;> simp

@[simp] theorem State.joinData_pending (s : State) (n : Nat) (js : List Nat) (us vs : Store Cx) :
    (State.joinData s n js us vs).pending = s.pending := by
  unfold State.joinData
  refine foldl_pending _ (fun s d => ?_) _ _
  refine foldl_pending _ (fun s k => ?_) _ _
  dsimp only
  refine (foldl_pending _ (fun s j => ?_) _ _).trans ?_ <;> simp

@[simp] theorem State.joinSymbol_pending (s : State) (n : Nat) (us : Store Cx) (vs : Store Cx) :
    (State.joinSymbol s n us vs).pending = s.pending := by
  unfold State.joinSymbol; split <;> simp

@[simp] theorem State.receiveData_pending (s : State) (n : Nat) (got : List Nat) (vs : Store Cx) :
    (State.receiveData s n got vs).pending = s.pending := by
  simp [State.receiveData]

@[simp] theorem State.declareDead_pending (s : State) (l : Nat) :
    (State.declareDead s l).pending = s.pending := by
  unfold State.declareDead; split <;> simp

@[simp] theorem State.powerTest_pending (s : State) (n : Nat) (l : Nat) (ys : Store Cx) :
    (State.powerTest s n l ys).pending = s.pending := by
  simp [State.powerTest]

@[simp] theorem State.meterSamples_pending (s : State) (y : LineSamples) :
    (State.meterSamples s y).pending = s.pending := by
  simp [State.meterSamples]

@[simp] theorem State.wakeHeard_pending (s : State) (p : Nat) :
    (State.wakeHeard s p).pending = s.pending := by
  simp [State.wakeHeard]

@[simp] theorem State.trainingHeard_pending (s : State) (l : Nat) :
    (State.trainingHeard s l).pending = s.pending := by
  simp [State.trainingHeard]

@[simp] theorem State.stampRx_pending (s : State) (e : TimedMessage) :
    (State.stampRx s e).pending = s.pending := by
  simp [State.stampRx]

@[simp] theorem State.joinMissing_pending (s : State) (n : Nat) (missing : List Nat) :
    (State.joinMissing s n missing).pending = s.pending := by
  unfold State.joinMissing; split <;> simp

@[simp] theorem execSymbolRx_pending (n : Nat) (ys : List LineSamples) (missing : List Nat) (wakes : List Nat) (trains : List Nat) (events : List TimedMessage) (s : State) :
    (execSymbolRx n ys missing wakes trains events s).keeps s.pending := by
  unfold execSymbolRx; dsimp only; (repeat' split) <;> simp

@[simp] theorem execDtuBufferExpire_pending (p : Nat) (seq : Nat) (s : State) :
    (execDtuBufferExpire p seq s).keeps s.pending := by
  simp [execDtuBufferExpire]

@[simp] theorem execDtuGiveUp_pending (p : Nat) (s : State) :
    (execDtuGiveUp p s).keeps s.pending := by
  refine withPortTimer_pending _ _ _ fun s => ?_
  try dsimp only
  (repeat' split) <;> simp

@[simp] theorem execBeaconErasureEnd_pending (tag : Nat) (s : State) :
    (execBeaconErasureEnd tag s).keeps s.pending := by
  simp [execBeaconErasureEnd]

@[simp] theorem State.joinOffset_pending (s : State) (l : Nat) (sum : Int) :
    (State.joinOffset s l sum).pending = s.pending := by
  unfold State.joinOffset; split <;> simp

@[simp] theorem execDeltaAverage_pending (l : Nat) (sum : Int) (s : State) :
    (execDeltaAverage l sum s).keeps s.pending := by
  unfold execDeltaAverage onLine onPart
  by_cases h : l < 128 <;> simp only [h, if_true, if_false]
  · (repeat' split) <;> simp
  · simp

@[simp] theorem execTaAdjust_pending (l : Nat) (s : State) :
    (execTaAdjust l s).keeps s.pending := by
  unfold execTaAdjust onLine onPart
  by_cases h : l < 128 <;> simp only [h, if_true, if_false]
  · (repeat' split) <;> simp
  · simp

@[simp] theorem execArrivalOutOfBand_pending (l : Nat) (s : State) :
    (execArrivalOutOfBand l s).keeps s.pending := by
  unfold execArrivalOutOfBand onLine onPart
  by_cases h : l < 128 <;> simp only [h, if_true, if_false]
  · (repeat' split) <;> simp
  · simp

@[simp] theorem State.takeFeedback_pending (s : State) (l : Nat) (i : Nat) (re : Option Nat) (im : Option Nat) :
    (State.takeFeedback s l i re im).pending = s.pending := by
  unfold State.takeFeedback; split <;> simp

@[simp] theorem State.takeByte_pending (s : State) (l : Nat) (n : Nat) (b : Option Nat) :
    (State.takeByte s l n b).pending = s.pending := by
  simp [State.takeByte]

@[simp] theorem State.endFrame_pending (s : State) (l : Nat) :
    (State.endFrame s l).pending = s.pending := by
  simp [State.endFrame]

@[simp] theorem State.takeSeal_pending (s : State) (p : Nat) (code : Nat) :
    (State.takeSeal s p code).pending = s.pending := by
  unfold State.takeSeal; split <;> simp

@[simp] theorem execOverheadWordRx_pending (l : Nat) (n : Nat) (w : Word) (s : State) :
    (execOverheadWordRx l n w s).keeps s.pending := by
  unfold execOverheadWordRx onLine onPart
  by_cases h : l < 128 <;> simp only [h, if_true, if_false]
  · (repeat' split) <;> simp
  · simp

@[simp] theorem execSealMessageRx_pending (p : Nat) (m : List Nat) (s : State) :
    (execSealMessageRx p m s).keeps s.pending := by
  unfold execSealMessageRx onPort onPart
  by_cases h : p < 128 <;> simp only [h, if_true, if_false]
  · (repeat' split) <;>
      first
      | (simp; done)
      | (rename_i h2; (repeat' split at h2) <;> cases h2 <;> simp)
  · simp

@[simp] theorem State.takeTable_pending (s : State) (l : Nat) (id : Nat) (rx : Bool) (t : Store Nat) :
    (State.takeTable s l id rx t).pending = s.pending := by
  simp [State.takeTable]

@[simp] theorem State.authorTable_pending (s : State) (l : Nat) :
    (State.authorTable s l).pending = s.pending := by
  simp [State.authorTable]

@[simp] theorem State.proposeEntry_pending (s : State) (p : Nat) :
    (State.proposeEntry s p).pending = s.pending := by
  simp [State.proposeEntry]

@[simp] theorem State.takeSegment_pending (s : State) (l : Nat) (m : List Nat) :
    (State.takeSegment s l m).pending = s.pending := by
  unfold State.takeSegment; dsimp only; (repeat' split) <;> simp

@[simp] theorem execLoadMessageRx_pending (l : Nat) (m : List Nat) (s : State) :
    (execLoadMessageRx l m s).keeps s.pending := by
  refine withSignal_pending _ _ _ fun s => ?_
  dsimp only
  (repeat' split) <;> simp

@[simp] theorem execTimingMessageRx_pending (l : Nat) (corr : Nat) (s : State) :
    (execTimingMessageRx l corr s).keeps s.pending := by
  unfold execTimingMessageRx onLine onPart
  by_cases h : l < 128 <;> simp only [h, if_true, if_false]
  · (repeat' split) <;> simp
  · simp

/-! ### Xengine -/

@[simp] theorem State.endAwaiting_pending (s : State) (m : Nat) (ks : List Nat) :
    (State.endAwaiting s m ks).pending = s.pending := by
  simp [State.endAwaiting]

@[simp] theorem State.landFxuTone_pending (s : State) (ls : List Nat) (k : Nat) :
    (State.landFxuTone s ls k).pending = s.pending := by
  simp [State.landFxuTone]

@[simp] theorem execFxuLanding_pending (s : State) :
    (execFxuLanding s).keeps s.pending := by
  simp [execFxuLanding]

@[simp] theorem State.landPrd_pending (s : State) (ls : List Nat) (k : Nat) :
    (State.landPrd s ls k).pending = s.pending := by
  simp [State.landPrd]

@[simp] theorem State.markGroups_pending (s : State) (g : Nat) (ls : List Nat) :
    (State.markGroups s g ls).pending = s.pending := by
  simp [State.markGroups]

@[simp] theorem execPrdLanding_pending (s : State) :
    (execPrdLanding s).keeps s.pending := by
  simp [execPrdLanding]

@[simp] theorem execJoinStart_pending (s : State) :
    (execJoinStart s).keeps s.pending := by
  unfold execJoinStart; split <;> simp

@[simp] theorem State.storeEstimate_pending (s : State) (m : Nat) (k : Nat) (v : Nat) (d : Nat) (c : Cx) :
    (State.storeEstimate s m k v d c).pending = s.pending := by
  simp [State.storeEstimate]

@[simp] theorem State.joinWritten_pending (s : State) (j : Join) (phase : JoinPhase) (more : Bool) :
    (State.joinWritten s j phase more).pending = s.pending := by
  simp [State.joinWritten]

@[simp] theorem State.writeColumns_pending (s : State) (j : Join) :
    (State.writeColumns s j).pending = s.pending := by
  unfold State.writeColumns
  refine foldl_pending _ (fun s d => ?_) _ _
  refine foldl_pending _ (fun s v => ?_) _ _
  refine foldl_pending _ (fun s k => ?_) _ _
  simp

@[simp] theorem execJoinNxtWrite_pending (s : State) :
    (execJoinNxtWrite s).keeps s.pending := by
  unfold execJoinNxtWrite; split <;> simp

@[simp] theorem execJoinPilotActive_pending (s : State) :
    (execJoinPilotActive s).keeps s.pending := by
  unfold execJoinPilotActive; split <;> simp

@[simp] theorem State.writeRows_pending (s : State) (j : Join) :
    (State.writeRows s j).pending = s.pending := by
  unfold State.writeRows
  refine foldl_pending _ (fun s d => ?_) _ _
  refine foldl_pending _ (fun s k => ?_) _ _
  dsimp only
  split
  · refine foldl_pending _ (fun s j => ?_) _ _
    simp
  · rw [State.setFeq_pending]
    refine foldl_pending _ (fun s j => ?_) _ _
    simp

@[simp] theorem State.writeFxu_pending (s : State) (j : Join) :
    (State.writeFxu s j).pending = s.pending := by
  unfold State.writeFxu
  refine foldl_pending _ (fun s d => ?_) _ _
  refine foldl_pending _ (fun s k => ?_) _ _
  dsimp only
  refine (foldl_pending _ (fun s j => ?_) _ _).trans ?_
  · simp
  · refine foldl_pending _ (fun s j => ?_) _ _
    simp

@[simp] theorem State.writeJoinPrd_pending (s : State) (j : Join) :
    (State.writeJoinPrd s j).pending = s.pending := by
  unfold State.writeJoinPrd
  refine foldl_pending _ (fun s d => ?_) _ _
  refine foldl_pending _ (fun s v => ?_) _ _
  refine foldl_pending _ (fun s k => ?_) _ _
  simp

@[simp] theorem State.withActive_pending (s : State) (ls : List Nat) :
    (State.withActive s ls).pending = s.pending := by
  simp [State.withActive]

@[simp] theorem State.cutGain_pending (s : State) (ls : List Nat) (l : Nat) (k : Nat) (a4 : Nat) :
    (State.cutGain s ls l k a4).pending = s.pending := by
  induction a4 generalizing s with
  | zero => rfl
  | succ n ih =>
    unfold State.cutGain
    try dsimp only
    (repeat' split) <;> simp [ih]

@[simp] theorem execJoinCoefWrite_pending (s : State) :
    (execJoinCoefWrite s).keeps s.pending := by
  unfold execJoinCoefWrite; dsimp only; (repeat' split) <;> simp

@[simp] theorem execJoinLanded_pending (s : State) :
    (execJoinLanded s).keeps s.pending := by
  unfold execJoinLanded; split <;> simp

@[simp] theorem State.showWaiting_pending (s : State) :
    (State.showWaiting s).pending = s.pending := by
  simp [State.showWaiting]

@[simp] theorem execWritePortGrant_pending (s : State) :
    (execWritePortGrant s).keeps s.pending := by
  unfold execWritePortGrant; dsimp only; (repeat' split) <;> simp

@[simp] theorem execXengineDmaClear_pending (l : Nat) (s : State) :
    (execXengineDmaClear l s).keeps s.pending := by
  unfold execXengineDmaClear onLine onPart
  by_cases h : l < 128 <;> simp only [h, if_true, if_false]
  · (repeat' split) <;> simp
  · simp

@[simp] theorem execDeadLineInactive_pending (l : Nat) (s : State) :
    (execDeadLineInactive l s).keeps s.pending := by
  unfold execDeadLineInactive onLine onPart
  by_cases h : l < 128 <;> simp only [h, if_true, if_false]
  · (repeat' split) <;> simp
  · simp

@[simp] theorem execScrubStep_pending (errors : List (Nat × Nat × Bool)) (s : State) :
    (execScrubStep errors s).keeps s.pending := by
  simp [execScrubStep]

@[simp] theorem execNxtUeRecoveryEnd_pending (l : Nat) (k : Nat) (s : State) :
    (execNxtUeRecoveryEnd l k s).keeps s.pending := by
  simp [execNxtUeRecoveryEnd]

@[simp] theorem execHoldExpired_pending (s : State) :
    (execHoldExpired s).keeps s.pending := by
  simp [execHoldExpired]

@[simp] theorem State.startCensus_pending (s : State) (dir : Nat) (l : Nat) :
    (State.startCensus s dir l).pending = s.pending := by
  simp [State.startCensus]

@[simp] theorem execCensusDone_pending (s : State) :
    (execCensusDone s).keeps s.pending := by
  unfold execCensusDone; dsimp only; (repeat' split) <;> simp

@[simp] theorem State.finishXw_pending (s : State) (status : Nat) (ce : Nat) :
    (State.finishXw s status ce).pending = s.pending := by
  simp [State.finishXw]

@[simp] theorem State.blankXw_pending (s : State) :
    (State.blankXw s).pending = s.pending := by
  simp [State.blankXw]

@[simp] theorem State.startXw_pending (s : State) (write : Bool) (master : Nat) :
    (State.startXw s write master).pending = s.pending := by
  simp [State.startXw]

@[simp] theorem State.captureRow_pending (s : State) (r : XwRequest) (bad : List (Nat × Bool)) :
    (State.captureRow s r bad).pending = s.pending := by
  simp [State.captureRow]

@[simp] theorem State.dropRow_pending (s : State) (r : XwRequest) :
    (State.dropRow s r).pending = s.pending := by
  simp [State.dropRow]

@[simp] theorem State.landRow_pending (s : State) (r : XwRequest) :
    (State.landRow s r).pending = s.pending := by
  simp [State.landRow]

@[simp] theorem execXwindowLand_pending (elapsed : Nat) (bad : List (Nat × Bool)) (s : State) :
    (execXwindowLand elapsed bad s).keeps s.pending := by
  unfold execXwindowLand; split <;> simp

/-! ### BringUp -/

@[simp] theorem State.send_pending (s : State) (l : Nat) (m : List Nat) (gap : Nat) :
    (State.send s l m gap).pending = s.pending := by
  simp [State.send]

@[simp] theorem State.enterHandshake_pending (s : State) (l : Nat) :
    (State.enterHandshake s l).pending = s.pending := by
  simp [State.enterHandshake]

@[simp] theorem State.pairFailed_pending (s : State) (l : Nat) :
    (State.pairFailed s l).pending = s.pending := by
  simp [State.pairFailed]

@[simp] theorem execLineEnable_pending (l : Nat) (s : State) :
    (execLineEnable l s).keeps s.pending := by
  simp [execLineEnable]

@[simp] theorem execBeaconSlot_pending (l : Nat) (s : State) :
    (execBeaconSlot l s).keeps s.pending := by
  simp [execBeaconSlot]

@[simp] theorem State.sendOffer_pending (s : State) (l : Nat) (gap : Nat) :
    (State.sendOffer s l gap).pending = s.pending := by
  simp [State.sendOffer]

@[simp] theorem State.recordPartner_pending (s : State) (l : Nat) (m : List Nat) :
    (State.recordPartner s l m).pending = s.pending := by
  simp [State.recordPartner]

@[simp] theorem execAnswerRx_pending (l : Nat) (m : List Nat) (rtt : Nat) (s : State) :
    (execAnswerRx l m rtt s).keeps s.pending := by
  simp [execAnswerRx]

@[simp] theorem execNoanswerTimeout_pending (l : Nat) (s : State) :
    (execNoanswerTimeout l s).keeps s.pending := by
  simp [execNoanswerTimeout]

@[simp] theorem execQuietHoldExpire_pending (l : Nat) (s : State) :
    (execQuietHoldExpire l s).keeps s.pending := by
  simp [execQuietHoldExpire]

@[simp] theorem State.takeGrid_pending (s : State) (l : Nat) (sfc : Nat) :
    (State.takeGrid s l sfc).pending = s.pending := by
  simp [State.takeGrid]

@[simp] theorem execOfferRx_pending (l : Nat) (m : List Nat) (s : State) :
    (execOfferRx l m s).keeps s.pending := by
  simp [execOfferRx]

@[simp] theorem execOfferRepeat_pending (l : Nat) (s : State) :
    (execOfferRepeat l s).keeps s.pending := by
  simp [execOfferRepeat]

@[simp] theorem State.sendGo_pending (s : State) (l : Nat) (gap : Nat) :
    (State.sendGo s l gap).pending = s.pending := by
  simp [State.sendGo]

@[simp] theorem execAcceptRx_pending (l : Nat) (m : List Nat) (s : State) :
    (execAcceptRx l m s).keeps s.pending := by
  simp [execAcceptRx]

@[simp] theorem execGoRx_pending (l : Nat) (m : List Nat) (s : State) :
    (execGoRx l m s).keeps s.pending := by
  simp [execGoRx]

@[simp] theorem execAbortRx_pending (l : Nat) (m : List Nat) (s : State) :
    (execAbortRx l m s).keeps s.pending := by
  simp [execAbortRx]

@[simp] theorem execHandshakeTimeout_pending (l : Nat) (s : State) :
    (execHandshakeTimeout l s).keeps s.pending := by
  simp [execHandshakeTimeout]

@[simp] theorem execRangingBlockEnd_pending (l : Nat) (found : Nat) (avg : Int) (late : Bool) (s : State) :
    (execRangingBlockEnd l found avg late s).keeps s.pending := by
  simp [execRangingBlockEnd]

@[simp] theorem execRangingDecisionTimeout_pending (l : Nat) (s : State) :
    (execRangingDecisionTimeout l s).keeps s.pending := by
  simp [execRangingDecisionTimeout]

@[simp] theorem execPilotWordRx_pending (l : Nat) (word : Nat) (s : State) :
    (execPilotWordRx l word s).keeps s.pending := by
  refine withSignal_pending _ _ _ fun s => ?_
  try dsimp only
  (repeat' split) <;> simp

@[simp] theorem execTailRangingTimeout_pending (l : Nat) (s : State) :
    (execTailRangingTimeout l s).keeps s.pending := by
  simp [execTailRangingTimeout]

@[simp] theorem execTailJoinDetect_pending (l : Nat) (s : State) :
    (execTailJoinDetect l s).keeps s.pending := by
  simp [execTailJoinDetect]

@[simp] theorem execJoinwaitTimeout_pending (l : Nat) (s : State) :
    (execJoinwaitTimeout l s).keeps s.pending := by
  simp [execJoinwaitTimeout]

@[simp] theorem State.setTrainedFeq_pending (s : State) (l : Nat) :
    (State.setTrainedFeq s l).pending = s.pending := by
  simp [State.setTrainedFeq]

@[simp] theorem execTrainingStep_pending (l : Nat) (s : State) :
    (execTrainingStep l s).keeps s.pending := by
  simp [execTrainingStep]

@[simp] theorem execTrainingEnd_pending (l : Nat) (s : State) :
    (execTrainingEnd l s).keeps s.pending := by
  simp [execTrainingEnd]

@[simp] theorem execTrainTimeout_pending (l : Nat) (s : State) :
    (execTrainTimeout l s).keeps s.pending := by
  simp [execTrainTimeout]

@[simp] theorem execLoadingTimeout_pending (l : Nat) (s : State) :
    (execLoadingTimeout l s).keeps s.pending := by
  simp [execLoadingTimeout]

@[simp] theorem execOverheadLoss_pending (l : Nat) (s : State) :
    (execOverheadLoss l s).keeps s.pending := by
  simp [execOverheadLoss]

@[simp] theorem State.endAttempt_pending (s : State) (l : Nat) :
    (State.endAttempt s l).pending = s.pending := by
  simp [State.endAttempt]

@[simp] theorem execRetrainRejoin_pending (l : Nat) (avg : Int) (s : State) :
    (execRetrainRejoin l avg s).keeps s.pending := by
  simp [execRetrainRejoin]

@[simp] theorem State.showSnr_pending (s : State) (l : Nat) :
    (State.showSnr s l).pending = s.pending := by
  unfold State.showSnr; dsimp only; (repeat' split) <;> simp

@[simp] theorem State.watchSnr_pending (s : State) (l : Nat) :
    (State.watchSnr s l).pending = s.pending := by
  unfold State.watchSnr; dsimp only; (repeat' split) <;> simp

@[simp] theorem execRetrainLoadSend_pending (l : Nat) (s : State) :
    (execRetrainLoadSend l s).keeps s.pending := by
  simp [execRetrainLoadSend]

@[simp] theorem execRetrainEntryPropose_pending (p : Nat) (s : State) :
    (execRetrainEntryPropose p s).keeps s.pending := by
  simp [execRetrainEntryPropose]

@[simp] theorem execRetrainAttemptTimeout_pending (l : Nat) (s : State) :
    (execRetrainAttemptTimeout l s).keeps s.pending := by
  simp [execRetrainAttemptTimeout]

@[simp] theorem State.giveUpRetrain_pending (s : State) (l : Nat) :
    (State.giveUpRetrain s l).pending = s.pending := by
  simp [State.giveUpRetrain]

@[simp] theorem execRetrainGiveUp_pending (l : Nat) (s : State) :
    (execRetrainGiveUp l s).keeps s.pending := by
  simp [execRetrainGiveUp]

@[simp] theorem State.tailLost_pending (s : State) (l : Nat) :
    (State.tailLost s l).pending = s.pending := by
  simp [State.tailLost]

@[simp] theorem execLosDetect_pending (l : Nat) (s : State) :
    (execLosDetect l s).keeps s.pending := by
  refine withSignal_pending _ _ _ fun s => ?_
  try dsimp only
  (repeat' split) <;> simp

@[simp] theorem State.proposeBank_pending (s : State) (p : Nat) :
    (State.proposeBank s p).pending = s.pending := by
  simp [State.proposeBank]

@[simp] theorem execAutobankExpire_pending (p : Nat) (s : State) :
    (execAutobankExpire p s).keeps s.pending := by
  simp [execAutobankExpire]

@[simp] theorem State.startWake_pending (s : State) (p : Nat) :
    (State.startWake s p).pending = s.pending := by
  simp [State.startWake]

@[simp] theorem execWakeNoResponse_pending (p : Nat) (s : State) :
    (execWakeNoResponse p s).keeps s.pending := by
  simp [execWakeNoResponse]

@[simp] theorem execWakeResume_pending (p : Nat) (s : State) :
    (execWakeResume p s).keeps s.pending := by
  refine withPortTimer_pending _ _ _ fun s => ?_
  try dsimp only
  (repeat' split) <;> simp

/-! ### Monitor -/

@[simp] theorem State.armSync_pending (s : State) (l : Nat) (src : Nat) :
    (State.armSync s l src).pending = s.pending := by
  simp [State.armSync]

@[simp] theorem State.cancelSync_pending (s : State) (l : Nat) :
    (State.cancelSync s l).pending = s.pending := by
  simp [State.cancelSync]

@[simp] theorem State.swapBanks_pending (s : State) (l : Nat) :
    (State.swapBanks s l).pending = s.pending := by
  simp [State.swapBanks]

@[simp] theorem State.startCapture_pending (s : State) (l : Nat) :
    (State.startCapture s l).pending = s.pending := by
  simp [State.startCapture]

@[simp] theorem State.clearAll_pending (s : State) (fs : List Fld) (l : Nat) :
    (State.clearAll s fs l).pending = s.pending := by
  simp [State.clearAll]

@[simp] theorem State.restartWatch_pending (s : State) (l : Nat) :
    (State.restartWatch s l).pending = s.pending := by
  simp [State.restartWatch]

@[simp] theorem State.clearCounters_pending (s : State) (l : Nat) :
    (State.clearCounters s l).pending = s.pending := by
  simp [State.clearCounters]

@[simp] theorem execSyncResetLand_pending (l elapsed : Nat) (s : State) :
    (execSyncResetLand l elapsed s).keeps s.pending := by
  unfold execSyncResetLand
  refine withSignal_pending _ _ _ fun s => ?_
  (repeat' split) <;> simp

@[simp] theorem execMonitorSettled_pending (l : Nat) (adc : List Int) (s : State) :
    (execMonitorSettled l adc s).keeps s.pending := by
  simp [execMonitorSettled]

@[simp] theorem execFadeDone_pending (l : Nat) (adc : List Int) (s : State) :
    (execFadeDone l adc s).keeps s.pending := by
  simp [execFadeDone]

@[simp] theorem execDetectorOver_pending (l : Nat) (adc : List Int) (s : State) :
    (execDetectorOver l adc s).keeps s.pending := by
  simp [execDetectorOver]

@[simp] theorem execRmsBlockEnd_pending (l : Nat) (adc : List Int) (s : State) :
    (execRmsBlockEnd l adc s).keeps s.pending := by
  simp [execRmsBlockEnd]

@[simp] theorem execCaptureTrigger_pending (l : Nat) (adc : List Int) (s : State) :
    (execCaptureTrigger l adc s).keeps s.pending := by
  simp [execCaptureTrigger]

@[simp] theorem execCaptureDone_pending (l : Nat) (adc : List Int) (s : State) :
    (execCaptureDone l adc s).keeps s.pending := by
  simp [execCaptureDone]

@[simp] theorem execCaptureTimeout_pending (l : Nat) (s : State) :
    (execCaptureTimeout l s).keeps s.pending := by
  refine withTimer_pending _ _ _ fun s => ?_
  try dsimp only
  (repeat' split) <;> simp

@[simp] theorem State.lineSecond_pending (s : State) (l : Nat) :
    (State.lineSecond s l).pending = s.pending := by
  simp [State.lineSecond]

@[simp] theorem State.portSecond_pending (s : State) (p : Nat) :
    (State.portSecond s p).pending = s.pending := by
  simp [State.portSecond]

@[simp] theorem execPostmarkSecond_pending (s : State) :
    (execPostmarkSecond s).keeps s.pending := by
  simp [execPostmarkSecond]

@[simp] theorem State.setSlot_pending (s : State) (c : Nat) (kind : Nat) (l : Nat) :
    (State.setSlot s c kind l).pending = s.pending := by
  simp [State.setSlot]

@[simp] theorem State.freeSlot_pending (s : State) (l : Nat) :
    (State.freeSlot s l).pending = s.pending := by
  simp [State.freeSlot]

@[simp] theorem State.blankReflect_pending (s : State) (l : Nat) :
    (State.blankReflect s l).pending = s.pending := by
  simp [State.blankReflect]

@[simp] theorem State.endReflect_pending (s : State) (l : Nat) (reason : Nat) :
    (State.endReflect s l reason).pending = s.pending := by
  simp [State.endReflect]

@[simp] theorem State.startReflect_pending (s : State) (l : Nat) :
    (State.startReflect s l).pending = s.pending := by
  simp [State.startReflect]

@[simp] theorem State.interruptReflect_pending (s : State) (l : Nat) :
    (State.interruptReflect s l).pending = s.pending := by
  simp [State.interruptReflect]

@[simp] theorem execReflectSlotGrant_pending (l : Nat) (s : State) :
    (execReflectSlotGrant l s).keeps s.pending := by
  refine withLine_pending _ _ _ fun s => ?_
  try dsimp only
  (repeat' split) <;> simp

@[simp] theorem execReflectSlotTimeout_pending (l : Nat) (s : State) :
    (execReflectSlotTimeout l s).keeps s.pending := by
  simp [execReflectSlotTimeout]

@[simp] theorem State.landReflect_pending (s : State) (l : Nat) (r : ReflX) (run : ReflectRun) :
    (State.landReflect s l r run).pending = s.pending := by
  simp [State.landReflect]

@[simp] theorem execReflectDone_pending (l : Nat) (reason : Nat) (run : ReflectRun) (s : State) :
    (execReflectDone l reason run s).keeps s.pending := by
  refine withLine_pending _ _ _ fun s => ?_
  try dsimp only
  (repeat' split) <;> simp

/-! ### Cal -/

@[simp] theorem State.markDue_pending (s : State) (l : Nat) (source : Nat) (moment : Nat) (full : Bool) :
    (State.markDue s l source moment full).pending = s.pending := by
  simp [State.markDue]

@[simp] theorem State.temperatureDue_pending (s : State) :
    (State.temperatureDue s).pending = s.pending := by
  simp [State.temperatureDue]

@[simp] theorem State.factoryValues_pending (s : State) (l : Nat) :
    (State.factoryValues s l).pending = s.pending := by
  simp [State.factoryValues]

@[simp] theorem State.giveUpCal_pending (s : State) (l : Nat) :
    (State.giveUpCal s l).pending = s.pending := by
  simp [State.giveUpCal]

@[simp] theorem State.endCal_pending (s : State) (l : Nat) (reason : Nat) :
    (State.endCal s l reason).pending = s.pending := by
  simp [State.endCal]

@[simp] theorem State.showMeasured_pending (s : State) (l : Nat) (both : Bool) :
    (State.showMeasured s l both).pending = s.pending := by
  unfold State.showMeasured; dsimp only; (repeat' split) <;> simp

@[simp] theorem State.cutRun_pending (s : State) (l reason : Nat) :
    (State.cutRun s l reason).pending = s.pending := by
  simp [State.cutRun]

@[simp] theorem State.stopCal_pending (s : State) (l : Nat) (reason : Nat) :
    (State.stopCal s l reason).pending = s.pending := by
  simp [State.stopCal]

@[simp] theorem State.beginCal_pending (s : State) (l : Nat) (st : Nat) :
    (State.beginCal s l st).pending = s.pending := by
  simp [State.beginCal]

@[simp] theorem execCalSlotGrant_pending (c : Nat) (s : State) :
    (execCalSlotGrant c s).keeps s.pending := by
  unfold execCalSlotGrant onCluster onPart
  by_cases h : c < 4 <;> simp only [h, if_true, if_false]
  · (repeat' split) <;> simp
  · simp

@[simp] theorem State.sweepGaps_pending (s : State) :
    (State.sweepGaps s).pending = s.pending := by
  unfold State.sweepGaps
  refine foldl_pending _ (fun s x => ?_) _ _
  try dsimp only
  (repeat' split) <;> simp

@[simp] theorem State.requestCal_pending (s : State) (l : Nat) :
    (State.requestCal s l).pending = s.pending := by
  simp [State.requestCal]

@[simp] theorem State.requestAll_pending (s : State) :
    (State.requestAll s).pending = s.pending := by
  simp [State.requestAll]

@[simp] theorem State.calValues_pending (s : State) (l : Nat) (full : Bool) (r : CalResult) :
    (State.calValues s l full r).2.pending = s.pending := by
  simp [State.calValues]

@[simp] theorem State.showCal_pending (s : State) (l : Nat) (v : CalValues) (r : CalResult) :
    (State.showCal s l v r).pending = s.pending := by
  simp [State.showCal]

@[simp] theorem State.completeCal_pending (s : State) (l : Nat) (r : CalResult) :
    (State.completeCal s l r).pending = s.pending := by
  simp [State.completeCal]

@[simp] theorem State.gapPeer_pending (s : State) (l : Nat) :
    (State.gapPeer s l).pending = s.pending := by
  simp [State.gapPeer]

@[simp] theorem execCalRunDone_pending (l : Nat) (r : CalResult) (s : State) :
    (execCalRunDone l r s).keeps s.pending := by
  simp [execCalRunDone]

@[simp] theorem execCalRunTimeout_pending (l : Nat) (s : State) :
    (execCalRunTimeout l s).keeps s.pending := by
  simp [execCalRunTimeout]

@[simp] theorem execCalRetryDue_pending (l : Nat) (s : State) :
    (execCalRetryDue l s).keeps s.pending := by
  simp [execCalRetryDue]

@[simp] theorem execCalHoldoffEnd_pending (l : Nat) (s : State) :
    (execCalHoldoffEnd l s).keeps s.pending := by
  simp [execCalHoldoffEnd]

@[simp] theorem execCalApplyStep_pending (l : Nat) (s : State) :
    (execCalApplyStep l s).keeps s.pending := by
  simp [execCalApplyStep]

@[simp] theorem execPowerupCalDone_pending (s : State) :
    (execPowerupCalDone s).keeps s.pending := by
  simp [execPowerupCalDone]

@[simp] theorem State.startPowerup_pending (s : State) (c : Nat) :
    (State.startPowerup s c).pending = s.pending := by
  simp [State.startPowerup]

@[simp] theorem execBeaconRx_pending (l : Nat) (m : List Nat) (s : State) :
    (execBeaconRx l m s).keeps s.pending := by
  simp [execBeaconRx]

@[simp] theorem execPortDropTimeout_pending (p : Nat) (s : State) :
    (execPortDropTimeout p s).keeps s.pending := by
  refine withPortTimer_pending _ _ _ fun s => ?_
  try dsimp only
  (repeat' split) <;> simp

@[simp] theorem execCalGapAgreeTimeout_pending (l : Nat) (s : State) :
    (execCalGapAgreeTimeout l s).keeps s.pending := by
  refine withTimer_pending _ _ _ fun s => ?_
  try dsimp only
  (repeat' split) <;> simp

@[simp] theorem execCalGapStampLower_pending (l : Nat) (s : State) :
    (execCalGapStampLower l s).keeps s.pending := by
  refine withTimer_pending _ _ _ fun s => ?_
  try dsimp only
  (repeat' split) <;> simp

@[simp] theorem execCalGapStart_pending (l : Nat) (s : State) :
    (execCalGapStart l s).keeps s.pending := by
  simp [execCalGapStart]

@[simp] theorem execCalGapEnd_pending (l : Nat) (s : State) :
    (execCalGapEnd l s).keeps s.pending := by
  refine withTimer_pending _ _ _ fun s => ?_
  try dsimp only
  (repeat' split) <;> simp

/-! ### Lanes -/

@[simp] theorem State.sortPort_pending (s : State) (p : Nat) :
    (State.sortPort s p).pending = s.pending := by
  simp [State.sortPort]

@[simp] theorem State.sortLane_pending (s : State) (l : Nat) :
    (State.sortLane s l).pending = s.pending := by
  simp [State.sortLane]

@[simp] theorem State.darkenStd_pending (s : State) (p : Nat) :
    (State.darkenStd s p).pending = s.pending := by
  unfold State.darkenStd; (repeat' split) <;> simp

@[simp] theorem State.flushStd_pending (s : State) (p : Nat) :
    (State.flushStd s p).pending = s.pending := by
  unfold State.flushStd; (repeat' split) <;> simp

@[simp] theorem State.zeroStamps_pending (s : State) (p : Nat) :
    (State.zeroStamps s p).pending = s.pending := by
  simp [State.zeroStamps]

@[simp] theorem State.laneTo_pending (s : State) (l : Nat) (st : Nat) :
    (State.laneTo s l st).pending = s.pending := by
  simp [State.laneTo]

@[simp] theorem State.startLane_pending (s : State) (l : Nat) :
    (State.startLane s l).pending = s.pending := by
  simp [State.startLane]

@[simp] theorem State.stopLane_pending (s : State) (l : Nat) :
    (State.stopLane s l).pending = s.pending := by
  simp [State.stopLane]

@[simp] theorem State.restartLane_pending (s : State) (l : Nat) :
    (State.restartLane s l).pending = s.pending := by
  simp [State.restartLane]

@[simp] theorem State.retrainLane_pending (s : State) (l : Nat) :
    (State.retrainLane s l).pending = s.pending := by
  simp [State.retrainLane]

@[simp] theorem State.loopLane_pending (s : State) (l : Nat) :
    (State.loopLane s l).pending = s.pending := by
  simp [State.loopLane]

@[simp] theorem execLaneDetectProbe_pending (l : Nat) (found : Bool) (s : State) :
    (execLaneDetectProbe l found s).keeps s.pending := by
  simp [execLaneDetectProbe]

@[simp] theorem execLaneTrainEnd_pending (l : Nat) (errors : Nat) (s : State) :
    (execLaneTrainEnd l errors s).keeps s.pending := by
  simp [execLaneTrainEnd]

@[simp] theorem State.laneSends_pending (s : State) (l : Nat) (bs : List Block) :
    (State.laneSends s l bs).pending = s.pending := by
  simp [State.laneSends]

@[simp] theorem execLaneLock_pending (l : Nat) (ppm : Int) (s : State) :
    (execLaneLock l ppm s).keeps s.pending := by
  simp [execLaneLock]

@[simp] theorem execExchangeAcceptRx_pending (l : Nat) (content : Nat) (s : State) :
    (execExchangeAcceptRx l content s).keeps s.pending := by
  simp [execExchangeAcceptRx]

@[simp] theorem execExchangeTimeout_pending (l : Nat) (s : State) :
    (execExchangeTimeout l s).keeps s.pending := by
  simp [execExchangeTimeout]

@[simp] theorem State.loseLane_pending (s : State) (l : Nat) (reason : Nat) (c : Nat) :
    (State.loseLane s l reason c).pending = s.pending := by
  simp [State.loseLane]

@[simp] theorem execLaneLos_pending (l : Nat) (s : State) :
    (execLaneLos l s).keeps s.pending := by
  simp [execLaneLos]

@[simp] theorem execLaneLol_pending (l : Nat) (s : State) :
    (execLaneLol l s).keeps s.pending := by
  simp [execLaneLol]

@[simp] theorem execBlockLockLoss_pending (l : Nat) (s : State) :
    (execBlockLockLoss l s).keeps s.pending := by
  simp [execBlockLockLoss]

@[simp] theorem execAmBlock_pending (l : Nat) (s : State) :
    (execAmBlock l s).keeps s.pending := by
  simp [execAmBlock]

@[simp] theorem State.sendStamp_pending (s : State) (p : Nat) :
    (State.sendStamp s p).pending = s.pending := by
  simp [State.sendStamp]

@[simp] theorem State.grantStamp_pending (s : State) (p : Nat) :
    (State.grantStamp s p).pending = s.pending := by
  unfold State.grantStamp; (repeat' split) <;> simp

@[simp] theorem execStampGrant_pending (p : Nat) (s : State) :
    (execStampGrant p s).keeps s.pending := by
  simp [execStampGrant]

@[simp] theorem execStampResend_pending (p : Nat) (s : State) :
    (execStampResend p s).keeps s.pending := by
  simp [execStampResend]

@[simp] theorem State.sendPause_pending (s : State) (p : Nat) (quanta : Nat) :
    (State.sendPause s p quanta).pending = s.pending := by
  simp [State.sendPause]

@[simp] theorem State.checkPause_pending (s : State) (p : Nat) :
    (State.checkPause s p).pending = s.pending := by
  simp [State.checkPause]

@[simp] theorem execPauseRepeat_pending (p : Nat) (s : State) :
    (execPauseRepeat p s).keeps s.pending := by
  simp [execPauseRepeat]

@[simp] theorem execPauseXon_pending (p : Nat) (s : State) :
    (execPauseXon p s).keeps s.pending := by
  simp [execPauseXon]

@[simp] theorem State.hostControl_pending (s : State) (l : Nat) (p : Nat) (b : Block) :
    (State.hostControl s l p b).pending = s.pending := by
  simp [State.hostControl]

@[simp] theorem State.countBlock_pending (s : State) (p : Nat) (b : Block) :
    (State.countBlock s p b).pending = s.pending := by
  simp [State.countBlock]

@[simp] theorem execHostBlockRx_pending (l : Nat) (slot : Nat) (sync : Nat) (payload : Nat) (s : State) :
    (execHostBlockRx l slot sync payload s).keeps s.pending := by
  simp [execHostBlockRx]

@[simp] theorem State.noteStat_pending (s : State) (p : Nat) :
    (State.noteStat s p).pending = s.pending := by
  simp [State.noteStat]

@[simp] theorem execHoststatSend_pending (p : Nat) (s : State) :
    (execHoststatSend p s).keeps s.pending := by
  simp [execHoststatSend]

@[simp] theorem State.takePeer_pending (s : State) (p : Nat) (up : Nat) (onward : Nat) (hops : Nat) :
    (State.takePeer s p up onward hops).pending = s.pending := by
  simp [State.takePeer]

@[simp] theorem execHoststatRx_pending (p : Nat) (m : List Nat) (s : State) :
    (execHoststatRx p m s).keeps s.pending := by
  simp [execHoststatRx]

@[simp] theorem execHoststatTimeout_pending (p : Nat) (s : State) :
    (execHoststatTimeout p s).keeps s.pending := by
  refine withPortTimer_pending _ _ _ fun s => ?_
  try dsimp only
  (repeat' split) <;> simp

@[simp] theorem State.syncBit_pending (s : State) (F : Fld) (c : Nat) (v : Nat) :
    (State.syncBit s F c v).pending = s.pending := by
  simp [State.syncBit]

@[simp] theorem State.syncFrame_pending (s : State) (sfc : Nat) :
    (State.syncFrame s sfc).pending = s.pending := by
  simp [State.syncFrame]

@[simp] theorem execSyncInEdge_pending (edge : Int) (high : Nat) (s : State) :
    (execSyncInEdge edge high s).keeps s.pending := by
  unfold execSyncInEdge; dsimp only; (repeat' split) <;> simp

@[simp] theorem execSyncLost_pending (s : State) :
    (execSyncLost s).keeps s.pending := by
  simp [execSyncLost]

@[simp] theorem State.holdTrim_pending (s : State) (src : Nat) :
    (State.holdTrim s src).pending = s.pending := by
  simp [State.holdTrim]

@[simp] theorem State.syncMode_pending (s : State) :
    (State.syncMode s).pending = s.pending := by
  simp [State.syncMode]

/-! ### Isolation -/

@[simp] theorem State.landLetterbox_pending (s : State) (c : Nat) (tag : Nat) (status : Nat) (resp : List Nat) :
    (State.landLetterbox s c tag status resp).pending = s.pending := by
  simp [State.landLetterbox]

@[simp] theorem State.abortLetterbox_pending (s : State) :
    (State.abortLetterbox s).pending = s.pending := by
  simp [State.abortLetterbox]

@[simp] theorem State.restartStoker_pending (s : State) :
    (State.restartStoker s).pending = s.pending := by
  simp [State.restartStoker]

@[simp] theorem State.writeVx_pending (s : State) (mv : Nat) :
    (State.writeVx s mv).pending = s.pending := by
  simp [State.writeVx]

@[simp] theorem State.writeSlew_pending (s : State) :
    (State.writeSlew s).pending = s.pending := by
  simp [State.writeSlew]

@[simp] theorem State.slowTo_pending (s : State) (g : Nat) :
    (State.slowTo s g).pending = s.pending := by
  simp [State.slowTo]

@[simp] theorem State.speedTo_pending (s : State) (g : Nat) :
    (State.speedTo s g).pending = s.pending := by
  simp [State.speedTo]

@[simp] theorem State.emergencyP3_pending (s : State) :
    (State.emergencyP3 s).pending = s.pending := by
  simp [State.emergencyP3]

@[simp] theorem State.dropToP3_pending (s : State) :
    (State.dropToP3 s).pending = s.pending := by
  simp [State.dropToP3]

@[simp] theorem State.linesChanged_pending (s : State) (src : Nat) :
    (State.linesChanged s src).pending = s.pending := by
  simp [State.linesChanged]

@[simp] theorem State.markIsolated_pending (s : State) (src : Nat) :
    (State.markIsolated s src).pending = s.pending := by
  simp [State.markIsolated]

@[simp] theorem State.release_pending (s : State) (src : Nat) :
    (State.release s src).pending = s.pending := by
  simp [State.release]

@[simp] theorem State.isolateLine_pending (s : State) (l : Nat) :
    (State.isolateLine s l).pending = s.pending := by
  simp [State.isolateLine]

@[simp] theorem State.isolateLane_pending (s : State) (l : Nat) :
    (State.isolateLane s l).pending = s.pending := by
  simp [State.isolateLane]

@[simp] theorem State.isolateCluster_pending (s : State) (c : Nat) :
    (State.isolateCluster s c).pending = s.pending := by
  simp [State.isolateCluster]

@[simp] theorem State.isolate_pending (s : State) (src : Nat) :
    (State.isolate s src).pending = s.pending := by
  simp [State.isolate]

@[simp] theorem State.reactS2_pending (s : State) (src : Nat) :
    (State.reactS2 s src).pending = s.pending := by
  simp [State.reactS2]

@[simp] theorem State.endHandling_pending (s : State) (src : Nat) :
    (State.endHandling s src).pending = s.pending := by
  simp [State.endHandling]

@[simp] theorem State.safeState_pending (s : State) :
    (State.safeState s).pending = s.pending := by
  simp [State.safeState]

@[simp] theorem State.raiseS2_pending (s : State) (code : Nat) (src : Nat) (addr : Nat) :
    (State.raiseS2 s code src addr).pending = s.pending := by
  simp [State.raiseS2]

@[simp] theorem State.raiseS3_pending (s : State) (code : Nat) (src : Nat) (addr : Nat) :
    (State.raiseS3 s code src addr).pending = s.pending := by
  simp [State.raiseS3]

@[simp] theorem State.disagree_pending (s : State) (src : Nat) :
    (State.disagree s src).pending = s.pending := by
  simp [State.disagree]

/-! ### Landing -/

@[simp] theorem State.stage_pending (s : State) (F : Fld) (i : Nat) (j : Nat) (v : Nat) :
    (State.stage s F i j v).pending = s.pending := by
  simp [State.stage]

@[simp] theorem State.applyField_pending (s : State) (F : Fld) (i : Nat) (j : Nat) :
    (State.applyField s F i j).pending = s.pending := by
  unfold State.applyField; split <;> simp

@[simp] theorem State.emptyEnvelope_pending (s : State) (p : Page) (i : Nat) :
    (State.emptyEnvelope s p i).pending = s.pending := by
  simp [State.emptyEnvelope]

@[simp] theorem State.applyFields_pending (s : State) (p : Page) (i : Nat) :
    (State.applyFields s p i).pending = s.pending := by
  simp [State.applyFields]

@[simp] theorem State.refreshMaskWait_pending (s : State) (l : Nat) :
    (State.refreshMaskWait s l).pending = s.pending := by
  simp [State.refreshMaskWait]

@[simp] theorem State.dropPolls_pending (s : State) (l : Nat) :
    (State.dropPolls s l).pending = s.pending := by
  simp [State.dropPolls]

@[simp] theorem State.applyReach_pending (s : State) (l : Nat) :
    (State.applyReach s l).pending = s.pending := by
  simp [State.applyReach]

@[simp] theorem State.applyAfe_pending (s : State) (l : Nat) :
    (State.applyAfe s l).pending = s.pending := by
  simp [State.applyAfe]

@[simp] theorem State.releaseHeld_pending (s : State) (l : Nat) :
    (State.releaseHeld s l).pending = s.pending := by
  simp [State.releaseHeld]

/-! ### Reach -/

@[simp] theorem State.reachPga_pending (s : State) (l : Nat) :
    (State.reachPga s l).pending = s.pending := by
  unfold State.reachPga; split <;> simp

@[simp] theorem State.reachProfile_pending (s : State) (l : Nat) :
    (State.reachProfile s l).pending = s.pending := by
  simp [State.reachProfile]

@[simp] theorem State.refreshQueue_pending (s : State) (l : Nat) :
    (State.refreshQueue s l).pending = s.pending := by
  simp [State.refreshQueue]

@[simp] theorem State.toReachHost_pending (s : State) (l : Nat) (bytes : List Nat) :
    (State.toReachHost s l bytes).pending = s.pending := by
  simp [State.toReachHost]

@[simp] theorem State.statusRecord_pending (s : State) (l : Nat) (addr : Nat) (seq : Nat) (code : Nat) :
    (State.statusRecord s l addr seq code).pending = s.pending := by
  simp [State.statusRecord]

@[simp] theorem State.endReception_pending (s : State) (l : Nat) :
    (State.endReception s l).pending = s.pending := by
  simp [State.endReception]

@[simp] theorem State.startPacket_pending (s : State) (l : Nat) (c : ReachChoice) :
    (State.startPacket s l c).pending = s.pending := by
  simp [State.startPacket]

@[simp] theorem execReachTxStart_pending (l : Nat) (s : State) :
    (execReachTxStart l s).keeps s.pending := by
  refine withSignal_pending _ _ _ fun s => ?_
  try dsimp only
  (repeat' split) <;> simp

@[simp] theorem execReachTxEnd_pending (l : Nat) (s : State) :
    (execReachTxEnd l s).keeps s.pending := by
  refine withSignal_pending _ _ _ fun s => ?_
  try dsimp only
  (repeat' split) <;> simp

@[simp] theorem execBlankingEnd_pending (l : Nat) (s : State) :
    (execBlankingEnd l s).keeps s.pending := by
  simp [execBlankingEnd]

@[simp] theorem State.beginReception_pending (s : State) (l : Nat) (bin : Nat) (power : Int) :
    (State.beginReception s l bin power).pending = s.pending := by
  simp [State.beginReception]

@[simp] theorem execPreambleDetected_pending (l : Nat) (windows : List Window) (shift : Nat) (s : State) :
    (execPreambleDetected l windows shift s).keeps s.pending := by
  unfold execPreambleDetected
  refine withSignal_pending _ _ _ fun s => ?_
  split
  · rfl
  · split
    · simp
    · dsimp only
      (repeat' split) <;> simp

@[simp] theorem execSyncConfirm_pending (l : Nat) (windows : List Window) (r : SyncReport) (s : State) :
    (execSyncConfirm l windows r s).keeps s.pending := by
  unfold execSyncConfirm
  refine withSignal_pending _ _ _ fun s => ?_
  dsimp only
  (repeat' split) <;> simp

@[simp] theorem execHeaderDone_pending (l : Nat) (word : Nat) (s : State) :
    (execHeaderDone l word s).keeps s.pending := by
  refine withSignal_pending _ _ _ fun s => ?_
  try dsimp only
  (repeat' split) <;> simp

@[simp] theorem State.noteEndpoint_pending (s : State) (l : Nat) (x : ReachRx) :
    (State.noteEndpoint s l x).pending = s.pending := by
  simp [State.noteEndpoint]

@[simp] theorem State.deliverPacket_pending (s : State) (l : Nat) (x : ReachRx) (payload : List Nat) :
    (State.deliverPacket s l x payload).pending = s.pending := by
  simp [State.deliverPacket]

@[simp] theorem State.goodPacket_pending (s : State) (l : Nat) (x : ReachRx) (payload : List Nat) :
    (State.goodPacket s l x payload).pending = s.pending := by
  simp [State.goodPacket]

@[simp] theorem State.closeWindow_pending (s : State) (l : Nat) :
    (State.closeWindow s l).pending = s.pending := by
  simp [State.closeWindow]

@[simp] theorem execPacketRxDone_pending (l : Nat) (bytes : List Nat) (s : State) :
    (execPacketRxDone l bytes s).keeps s.pending := by
  refine withSignal_pending _ _ _ fun s => ?_
  try dsimp only
  (repeat' split) <;> simp

@[simp] theorem execReplyTimeout_pending (l : Nat) (s : State) :
    (execReplyTimeout l s).keeps s.pending := by
  refine withTimer_pending _ _ _ fun s => ?_
  try dsimp only
  (repeat' split) <;> simp

@[simp] theorem execPollDue_pending (l : Nat) (ep : Nat) (s : State) :
    (execPollDue l ep s).keeps s.pending := by
  simp [execPollDue]

@[simp] theorem execAlarmWindowDue_pending (l : Nat) (s : State) :
    (execAlarmWindowDue l s).keeps s.pending := by
  simp [execAlarmWindowDue]

@[simp] theorem execAlarmWindowOpen_pending (l : Nat) (s : State) :
    (execAlarmWindowOpen l s).keeps s.pending := by
  simp [execAlarmWindowOpen]

@[simp] theorem execAlarmWindowClose_pending (l : Nat) (s : State) :
    (execAlarmWindowClose l s).keeps s.pending := by
  simp [execAlarmWindowClose]

@[simp] theorem execReachRecordRx_pending (port : Nat) (frame fcs : List Nat) (s : State) :
    (execReachRecordRx port frame fcs s).keeps s.pending := by
  simp [execReachRecordRx]

@[simp] theorem execReachMaskWaitEnd_pending (l : Nat) (s : State) :
    (execReachMaskWaitEnd l s).keeps s.pending := by
  simp [execReachMaskWaitEnd]

/-! ### FrontEnd -/

@[simp] theorem execTxclrAssert_pending (s : State) :
    (execTxclrAssert s).keeps s.pending := by
  simp [execTxclrAssert]

@[simp] theorem execTxclrRelease_pending (s : State) :
    (execTxclrRelease s).keeps s.pending := by
  simp [execTxclrRelease]

@[simp] theorem execDriverOvercurrent_pending (l : Nat) (s : State) :
    (execDriverOvercurrent l s).keeps s.pending := by
  simp [execDriverOvercurrent]

@[simp] theorem execRangeSwitchSymbol_pending (l : Nat) (s : State) :
    (execRangeSwitchSymbol l s).keeps s.pending := by
  refine withLine_pending _ _ _ fun s => ?_
  try dsimp only
  (repeat' split) <;> simp

@[simp] theorem execRefinMeasure_pending (level : Nat) (s : State) :
    (execRefinMeasure level s).keeps s.pending := by
  simp [execRefinMeasure]

/-! ### Standard -/

@[simp] theorem State.refreshQuad_pending (s : State) (q : Nat) :
    (State.refreshQuad s q).pending = s.pending := by
  simp [State.refreshQuad]

@[simp] theorem State.clearLink_pending (s : State) (q : Nat) :
    (State.clearLink s q).pending = s.pending := by
  simp [State.clearLink]

@[simp] theorem State.startNegotiation_pending (s : State) (q : Nat) :
    (State.startNegotiation s q).pending = s.pending := by
  simp [State.startNegotiation]

@[simp] theorem State.startStandard_pending (s : State) (q : Nat) :
    (State.startStandard s q).pending = s.pending := by
  simp [State.startStandard]

@[simp] theorem State.loseLink_pending (s : State) (q : Nat) :
    (State.loseLink s q).pending = s.pending := by
  simp [State.loseLink]

@[simp] theorem State.restartNegotiation_pending (s : State) (q : Nat) :
    (State.restartNegotiation s q).pending = s.pending := by
  simp [State.restartNegotiation]

@[simp] theorem withQuad_pending (l : Nat) (s : State) (f : State → State) (hf : ∀ x0, (f x0).pending = x0.pending) :
    (withQuad l s f).keeps s.pending := by
  simp [withQuad, hf]

@[simp] theorem execAutonegComplete_pending (l : Nat) (p : PartnerAbility) (s : State) :
    (execAutonegComplete l p s).keeps s.pending := by
  simp [execAutonegComplete]

@[simp] theorem execStdLinkUp_pending (l : Nat) (s : State) :
    (execStdLinkUp l s).keeps s.pending := by
  simp [execStdLinkUp]

@[simp] theorem State.countPcs_pending (s : State) (q : Nat) (n : Nat) :
    (State.countPcs s q n).pending = s.pending := by
  simp [State.countPcs]

@[simp] theorem execStdLinkDown_pending (l : Nat) (pcs : Nat) (s : State) :
    (execStdLinkDown l pcs s).keeps s.pending := by
  simp [execStdLinkDown]

@[simp] theorem execStdFastRetrain_pending (l : Nat) (ok : Bool) (pcs : Nat) (s : State) :
    (execStdFastRetrain l ok pcs s).keeps s.pending := by
  simp [execStdFastRetrain]

@[simp] theorem execLpiEnter_pending (l : Nat) (enter : Bool) (s : State) :
    (execLpiEnter l enter s).keeps s.pending := by
  simp [execLpiEnter]

@[simp] theorem execPartnerLpi_pending (l : Nat) (enter : Bool) (wakeError : Bool) (s : State) :
    (execPartnerLpi l enter wakeError s).keeps s.pending := by
  simp [execPartnerLpi]

@[simp] theorem execAnWindowEnd_pending (l : Nat) (s : State) :
    (execAnWindowEnd l s).keeps s.pending := by
  refine withQuad_pending _ _ _ fun s => ?_
  try dsimp only
  (repeat' split) <;> simp

@[simp] theorem execBeaconWindowEnd_pending (l : Nat) (s : State) :
    (execBeaconWindowEnd l s).keeps s.pending := by
  simp [execBeaconWindowEnd]

@[simp] theorem execFlpQualified_pending (l : Nat) (s : State) :
    (execFlpQualified l s).keeps s.pending := by
  simp [execFlpQualified]

@[simp] theorem execAltResumeTimeout_pending (l : Nat) (s : State) :
    (execAltResumeTimeout l s).keeps s.pending := by
  simp [execAltResumeTimeout]

@[simp] theorem State.mmdRead_pending (s : State) (p : Nat) (mmd : Nat) (reg : Nat) :
    (State.mmdRead s p mmd reg).2.pending = s.pending := by
  unfold State.mmdRead; dsimp only; (repeat' split) <;> simp

@[simp] theorem State.advertise_pending (s : State) (q : Nat) (F : Fld) (v : Nat) (from' : List (Nat × Nat)) :
    (State.advertise s q F v from').pending = s.pending := by
  unfold State.advertise; (repeat' split) <;> simp

@[simp] theorem State.mmdWrite_pending (s : State) (p mmd reg v : Nat) :
    (State.mmdWrite s p mmd reg v).pending = s.pending := by
  unfold State.mmdWrite; dsimp only; (repeat' split) <;> simp

/-! ### Reset -/

@[simp] theorem State.carry_pending (new : State) (old : State) (i : Nat) (fs : List Fld) :
    (State.carry new old i fs).pending = new.pending := by
  simp [State.carry]

@[simp] theorem State.deviceReset_pending (s : State) (k : ResetKind) :
    (State.deviceReset s k).pending = s.pending := by
  unfold State.deviceReset
  dsimp only
  (repeat' split) <;> simp_all

@[simp] theorem State.gateControl_pending (s : State) :
    (State.gateControl s).pending = s.pending := by
  unfold State.gateControl; dsimp only; (repeat' split) <;> simp

@[simp] theorem State.coldStart_pending (s : State) :
    (State.coldStart s).pending = s.pending := by
  simp [State.coldStart]

/-! ### Clocks -/

@[simp] theorem State.enterReduced_pending (s : State) :
    (State.enterReduced s).pending = s.pending := by
  simp [State.enterReduced]

@[simp] theorem State.refreshCmux_pending (s : State) :
    (State.refreshCmux s).pending = s.pending := by
  simp [State.refreshCmux]

@[simp] theorem State.setSuspect_pending (s : State) :
    (State.setSuspect s).pending = s.pending := by
  simp [State.setSuspect]

@[simp] theorem State.refreshTmux_pending (s : State) :
    (State.refreshTmux s).pending = s.pending := by
  simp [State.refreshTmux]

@[simp] theorem State.refreshClocks_pending (s : State) :
    (State.refreshClocks s).pending = s.pending := by
  simp [State.refreshClocks]

@[simp] theorem State.referenceLost_pending (s : State) :
    (State.referenceLost s).pending = s.pending := by
  simp [State.referenceLost]

@[simp] theorem State.loseSpll_pending (s : State) :
    (State.loseSpll s).pending = s.pending := by
  simp [State.loseSpll]

@[simp] theorem State.startPlls_pending (s : State) (ps : List Nat) :
    (State.startPlls s ps).pending = s.pending := by
  simp [State.startPlls]

@[simp] theorem State.unlockPll_pending (s : State) (p : Nat) :
    (State.unlockPll s p).pending = s.pending := by
  simp [State.unlockPll]

@[simp] theorem State.clusterUp_pending (s : State) (c : Nat) :
    (State.clusterUp s c).pending = s.pending := by
  simp [State.clusterUp]

@[simp] theorem execPllLock_pending (p : Nat) (s : State) :
    (execPllLock p s).keeps s.pending := by
  simp [execPllLock]

@[simp] theorem execPllUnlock_pending (p : Nat) (s : State) :
    (execPllUnlock p s).keeps s.pending := by
  simp [execPllUnlock]

@[simp] theorem execSpllMonitorTrip_pending (s : State) :
    (execSpllMonitorTrip s).keeps s.pending := by
  simp [execSpllMonitorTrip]

@[simp] theorem execCpllRelockTimeout_pending (c : Nat) (s : State) :
    (execCpllRelockTimeout c s).keeps s.pending := by
  unfold execCpllRelockTimeout onCluster onPart
  by_cases h : c < 4 <;> simp only [h, if_true, if_false]
  · (repeat' split) <;> simp
  · simp

@[simp] theorem execTrimWindowEnd_pending (count : Nat) (s : State) :
    (execTrimWindowEnd count s).keeps s.pending := by
  simp [execTrimWindowEnd]

@[simp] theorem State.koscGood_pending (s : State) :
    (State.koscGood s).pending = s.pending := by
  simp [State.koscGood]

@[simp] theorem State.koscBad_pending (s : State) :
    (State.koscBad s).pending = s.pending := by
  simp [State.koscBad]

@[simp] theorem execKoscWindowEnd_pending (count : Nat) (s : State) :
    (execKoscWindowEnd count s).keeps s.pending := by
  unfold execKoscWindowEnd; dsimp only; (repeat' split) <;> simp

@[simp] theorem execKoscStartTimeout_pending (s : State) :
    (execKoscStartTimeout s).keeps s.pending := by
  simp [execKoscStartTimeout]

@[simp] theorem execKoscHoldExpire_pending (s : State) :
    (execKoscHoldExpire s).keeps s.pending := by
  simp [execKoscHoldExpire]

@[simp] theorem execRefclkTrip_pending (s : State) :
    (execRefclkTrip s).keeps s.pending := by
  simp [execRefclkTrip]

@[simp] theorem execRefclkGood_pending (s : State) :
    (execRefclkGood s).keeps s.pending := by
  simp [execRefclkGood]

@[simp] theorem execRefclkAbsentTimeout_pending (s : State) :
    (execRefclkAbsentTimeout s).keeps s.pending := by
  simp [execRefclkAbsentTimeout]

@[simp] theorem execMuxHang_pending (mux : Nat) (s : State) :
    (execMuxHang mux s).keeps s.pending := by
  simp [execMuxHang]

@[simp] theorem State.landFreqmon_pending (s : State) (reason : Nat) (count : Nat) (hz : Nat) :
    (State.landFreqmon s reason count hz).pending = s.pending := by
  simp [State.landFreqmon]

@[simp] theorem State.startFreqmon_pending (s : State) :
    (State.startFreqmon s).pending = s.pending := by
  simp [State.startFreqmon]

@[simp] theorem execFreqmonDone_pending (count : Nat) (s : State) :
    (execFreqmonDone count s).keeps s.pending := by
  unfold execFreqmonDone; split <;> simp

@[simp] theorem execFreqmonRefStopped_pending (s : State) :
    (execFreqmonRefStopped s).keeps s.pending := by
  unfold execFreqmonRefStopped; split <;> simp

@[simp] theorem execResetNRelease_pending (s : State) :
    (execResetNRelease s).keeps s.pending := by
  simp [execResetNRelease]

@[simp] theorem execResetNAssert_pending (ns : Nat) (s : State) :
    (execResetNAssert ns s).keeps s.pending := by
  simp [execResetNAssert]

@[simp] theorem State.advanceTime_pending (s : State) (n : Int) :
    (State.advanceTime s n).pending = s.pending := by
  simp [State.advanceTime]

@[simp] theorem State.timeTick_pending (s : State) :
    (State.timeTick s).pending = s.pending := by
  simp [State.timeTick]

@[simp] theorem State.landSet_pending (s : State) :
    (State.landSet s).pending = s.pending := by
  simp [State.landSet]

@[simp] theorem State.landAdd_pending (s : State) :
    (State.landAdd s).pending = s.pending := by
  simp [State.landAdd]

@[simp] theorem execPpsInEdge_pending (s : State) :
    (execPpsInEdge s).keeps s.pending := by
  simp [execPpsInEdge]

@[simp] theorem execPpsOutFall_pending (s : State) :
    (execPpsOutFall s).keeps s.pending := by
  simp [execPpsOutFall]

/-! ### Perf -/

@[simp] theorem State.unvector_pending (s : State) (ks : List Nat) (target : Nat) (l : Nat) :
    (State.unvector s ks target l).pending = s.pending := by
  simp [State.unvector]

@[simp] theorem State.beginChange_pending (s : State) (g : Nat) :
    (State.beginChange s g).pending = s.pending := by
  simp [State.beginChange]

@[simp] theorem State.startLevel_pending (s : State) :
    (State.startLevel s).pending = s.pending := by
  simp [State.startLevel]

@[simp] theorem State.damperStep_pending (s : State) :
    (State.damperStep s).pending = s.pending := by
  simp [State.damperStep]

@[simp] theorem State.levelDone_pending (s : State) :
    (State.levelDone s).pending = s.pending := by
  simp [State.levelDone]

@[simp] theorem execLevelRepropose_pending (s : State) :
    (execLevelRepropose s).keeps s.pending := by
  simp [execLevelRepropose]

@[simp] theorem State.unityNorm_pending (s : State) (nv : Nat) :
    (State.unityNorm s nv).pending = s.pending := by
  simp [State.unityNorm]

@[simp] theorem State.endAbove_pending (s : State) (nv : Nat) :
    (State.endAbove s nv).pending = s.pending := by
  simp [State.endAbove]

@[simp] theorem execNvDownLand_pending (s : State) :
    (execNvDownLand s).keeps s.pending := by
  simp [execNvDownLand]

@[simp] theorem State.vectorNorm_pending (s : State) (ks : List Nat) :
    (State.vectorNorm s ks).pending = s.pending := by
  simp [State.vectorNorm]

@[simp] theorem execNvUpLand_pending (s : State) :
    (execNvUpLand s).keeps s.pending := by
  simp [execNvUpLand]

@[simp] theorem execVxConfirmed_pending (read : VxRead) (s : State) :
    (execVxConfirmed read s).keeps s.pending := by
  unfold execVxConfirmed; dsimp only; (repeat' split) <;> simp

@[simp] theorem execVxConfirmTimeout_pending (fails : Nat) (mv : Nat) (s : State) :
    (execVxConfirmTimeout fails mv s).keeps s.pending := by
  simp [execVxConfirmTimeout]

@[simp] theorem State.retryAvs_pending (s : State) :
    (State.retryAvs s).pending = s.pending := by
  simp [State.retryAvs]

@[simp] theorem execAvsCurrentRead_pending (fails : Nat) (current : Nat) (alert : Bool) (s : State) :
    (execAvsCurrentRead fails current alert s).keeps s.pending := by
  simp [execAvsCurrentRead]

@[simp] theorem State.showTemps_pending (s : State) (ts : List Int) :
    (State.showTemps s ts).pending = s.pending := by
  simp [State.showTemps]

@[simp] theorem execTempSample_pending (ts : List Int) (s : State) :
    (execTempSample ts s).keeps s.pending := by
  simp [execTempSample]

@[simp] theorem execDamperRepeat_pending (s : State) :
    (execDamperRepeat s).keeps s.pending := by
  simp [execDamperRepeat]

@[simp] theorem execDamperCool_pending (s : State) :
    (execDamperCool s).keeps s.pending := by
  simp [execDamperCool]

@[simp] theorem State.clearPeak_pending (s : State) :
    (State.clearPeak s).pending = s.pending := by
  simp [State.clearPeak]

@[simp] theorem State.clearMinmax_pending (s : State) (c : Nat) :
    (State.clearMinmax s c).pending = s.pending := by
  simp [State.clearMinmax]

/-! ### Power -/

@[simp] theorem State.powerTo_pending (s : State) (st : Nat) :
    (State.powerTo s st).pending = s.pending := by
  simp [State.powerTo]

@[simp] theorem State.gateCluster_pending (s : State) (c : Nat) :
    (State.gateCluster s c).pending = s.pending := by
  simp [State.gateCluster]

@[simp] theorem State.ungateCluster_pending (s : State) (c : Nat) :
    (State.ungateCluster s c).pending = s.pending := by
  simp [State.ungateCluster]

@[simp] theorem State.refreshGates_pending (s : State) :
    (State.refreshGates s).pending = s.pending := by
  simp [State.refreshGates]

@[simp] theorem State.enterDoze_pending (s : State) :
    (State.enterDoze s).pending = s.pending := by
  simp [State.enterDoze]

@[simp] theorem State.leaveDoze_pending (s : State) :
    (State.leaveDoze s).pending = s.pending := by
  simp [State.leaveDoze]

@[simp] theorem State.refuseStage_pending (s : State) (stage : Nat) (reason : Nat) (inst : Nat) :
    (State.refuseStage s stage reason inst).pending = s.pending := by
  simp [State.refuseStage]

@[simp] theorem State.stopLines_pending (s : State) :
    (State.stopLines s).pending = s.pending := by
  simp [State.stopLines]

@[simp] theorem State.stopEngine_pending (s : State) :
    (State.stopEngine s).pending = s.pending := by
  simp [State.stopEngine]

@[simp] theorem State.enterEmber_pending (s : State) :
    (State.enterEmber s).pending = s.pending := by
  simp [State.enterEmber]

@[simp] theorem State.enterHearth_pending (s : State) :
    (State.enterHearth s).pending = s.pending := by
  simp [State.enterHearth]

@[simp] theorem State.stopStage_pending (s : State) (n : Nat) :
    (State.stopStage s n).pending = s.pending := by
  unfold State.stopStage; split <;> simp

@[simp] theorem execStageStopped_pending (s : State) :
    (execStageStopped s).keeps s.pending := by
  unfold execStageStopped; simp; (repeat' split) <;> simp_all

@[simp] theorem execStageTimeout_pending (s : State) :
    (execStageTimeout s).keeps s.pending := by
  simp [execStageTimeout]

@[simp] theorem execRollbackComplete_pending (s : State) :
    (execRollbackComplete s).keeps s.pending := by
  simp [execRollbackComplete]

@[simp] theorem State.beginWake_pending (s : State) (sub : Nat) :
    (State.beginWake s sub).pending = s.pending := by
  simp [State.beginWake]

@[simp] theorem State.wakeHearth_pending (s : State) :
    (State.wakeHearth s).pending = s.pending := by
  simp [State.wakeHearth]

@[simp] theorem State.wakeUp_pending (s : State) (cause : Nat) (line : Nat) :
    (State.wakeUp s cause line).pending = s.pending := by
  simp [State.wakeUp]

@[simp] theorem execWakeEnergy_pending (l : Nat) (s : State) :
    (execWakeEnergy l s).keeps s.pending := by
  simp [execWakeEnergy]

@[simp] theorem execWakeMspi_pending (s : State) :
    (execWakeMspi s).keeps s.pending := by
  simp [execWakeMspi]

@[simp] theorem execWakeMdio_pending (s : State) :
    (execWakeMdio s).keeps s.pending := by
  simp [execWakeMdio]

@[simp] theorem execWakeTimer_pending (s : State) :
    (execWakeTimer s).keeps s.pending := by
  simp [execWakeTimer]

@[simp] theorem execWakeNotReady_pending (block : Nat) (s : State) :
    (execWakeNotReady block s).keeps s.pending := by
  simp [execWakeNotReady]

@[simp] theorem execWakeComplete_pending (s : State) :
    (execWakeComplete s).keeps s.pending := by
  simp [execWakeComplete]

@[simp] theorem State.requestPower_pending (s : State) :
    (State.requestPower s).pending = s.pending := by
  unfold State.requestPower; dsimp only; (repeat' split) <;> simp

@[simp] theorem execClockGateTimeout_pending (stuck : List StuckAccess) (s : State) :
    (execClockGateTimeout stuck s).keeps s.pending := by
  simp [execClockGateTimeout]

/-! ### FaultRows -/

@[simp] theorem State.countTie_pending (s : State) (fs : List FaultReport) (injected : Bool) :
    (State.countTie s fs injected).pending = s.pending := by
  simp [State.countTie]

@[simp] theorem State.recordTie_pending (s : State) (real : List FaultReport) (inj : Option FaultReport) :
    (State.recordTie s real inj).pending = s.pending := by
  unfold State.recordTie; dsimp only; (repeat' split) <;> simp

@[simp] theorem State.briefRecovery_pending (s : State) (src : Nat) :
    (State.briefRecovery s src).pending = s.pending := by
  simp [State.briefRecovery]

@[simp] theorem State.abortOpcodes_pending (s : State) (test : Nat → Bool) :
    (State.abortOpcodes s test).pending = s.pending := by
  simp [State.abortOpcodes]

@[simp] theorem State.trustFault_pending (s : State) (code : Nat) :
    (State.trustFault s code).pending = s.pending := by
  simp [State.trustFault]

@[simp] theorem State.reactReal_pending (s : State) (f : FaultReport) (full : Bool) :
    (State.reactReal s f full).pending = s.pending := by
  simp [State.reactReal]

@[simp] theorem State.reactInjected_pending (s : State) (f : FaultReport) :
    (State.reactInjected s f).pending = s.pending := by
  simp [State.reactInjected]

@[simp] theorem State.sampleFaults_pending (s : State) (real : List FaultReport) (inj : Option FaultReport) :
    (State.sampleFaults s real inj).pending = s.pending := by
  unfold State.sampleFaults; split <;> simp

@[simp] theorem execFaultSample_pending (reports : List FaultInput) (s : State) :
    (execFaultSample reports s).keeps s.pending := by
  simp [execFaultSample]

@[simp] theorem execRailDisagree_pending (source : Nat) (seen : Nat) (s : State) :
    (execRailDisagree source seen s).keeps s.pending := by
  simp [execRailDisagree]

@[simp] theorem State.inject_pending (s : State) :
    (State.inject s).pending = s.pending := by
  simp [State.inject]

@[simp] theorem execFaultHandlingEnd_pending (s : State) :
    (execFaultHandlingEnd s).keeps s.pending := by
  simp [execFaultHandlingEnd]

@[simp] theorem State.clearRecord_pending (s : State) (r : Nat) (seq : Nat) :
    (State.clearRecord s r seq).pending = s.pending := by
  simp [State.clearRecord]

@[simp] theorem State.clearRecords_pending (s : State) (w : Nat) :
    (State.clearRecords s w).pending = s.pending := by
  simp [State.clearRecords]

@[simp] theorem State.setFence_pending (s : State) (m : Nat) (on : Bool) :
    (State.setFence s m on).pending = s.pending := by
  simp [State.setFence]

@[simp] theorem State.refreshRevoked_pending (s : State) :
    (State.refreshRevoked s).pending = s.pending := by
  simp [State.refreshRevoked]

@[simp] theorem State.respond_pending (s : State) (r : InbandReq) (status : Nat) (data : List Nat) :
    (State.respond s r status data).pending = s.pending := by
  simp [State.respond]

@[simp] theorem State.recoverMaster_pending (s : State) (m : Nat) :
    (State.recoverMaster s m).pending = s.pending := by
  unfold State.recoverMaster; split <;> simp

@[simp] theorem State.revokeLease_pending (s : State) (master : Nat) (resource : Nat) (access : Nat) (addr : Nat) :
    (State.revokeLease s master resource access addr).pending = s.pending := by
  simp [State.revokeLease]

@[simp] theorem execFenceRecoveryEnd_pending (master : Nat) (s : State) :
    (execFenceRecoveryEnd master s).keeps s.pending := by
  simp [execFenceRecoveryEnd]

@[simp] theorem execWatchdogRestart_pending (s : State) :
    (execWatchdogRestart s).keeps s.pending := by
  simp [execWatchdogRestart]

@[simp] theorem execWatchdogExpire_pending (s : State) :
    (execWatchdogExpire s).keeps s.pending := by
  simp [execWatchdogExpire]

@[simp] theorem State.reboot_pending (s : State) :
    (State.reboot s).pending = s.pending := by
  simp [State.reboot]

@[simp] theorem execPinHoldEnd_pending (pin : Nat) (s : State) :
    (execPinHoldEnd pin s).keeps s.pending := by
  simp [execPinHoldEnd]

@[simp] theorem execIbHoldEnd_pending (n : Nat) (s : State) :
    (execIbHoldEnd n s).keeps s.pending := by
  simp [execIbHoldEnd]

@[simp] theorem execIbRefresh_pending (s : State) :
    (execIbRefresh s).keeps s.pending := by
  simp [execIbRefresh]

/-! ### Rails -/

@[simp] theorem execRailGood_pending (rail : Nat) (s : State) :
    (execRailGood rail s).keeps s.pending := by
  simp [execRailGood]

@[simp] theorem execRailTrip_pending (rail : Nat) (s : State) :
    (execRailTrip rail s).keeps s.pending := by
  simp [execRailTrip]

@[simp] theorem execVhLoss_pending (s : State) :
    (execVhLoss s).keeps s.pending := by
  simp [execVhLoss]

/-! ### Trust -/

@[simp] theorem State.freshNonce_pending (s : State) (c : Nat) (keep : Bool) :
    (State.freshNonce s c keep).pending = s.pending := by
  simp [State.freshNonce]

@[simp] theorem State.countFailure_pending (s : State) (c : Nat) :
    (State.countFailure s c).pending = s.pending := by
  simp [State.countFailure]

@[simp] theorem State.openSession_pending (s : State) (c : Nat) :
    (State.openSession s c).pending = s.pending := by
  simp [State.openSession]

@[simp] theorem State.openLocked_pending (s : State) (c : Nat) :
    (State.openLocked s c).pending = s.pending := by
  simp [State.openLocked]

@[simp] theorem State.closeSession_pending (s : State) (c : Nat) (reason : Nat) :
    (State.closeSession s c reason).pending = s.pending := by
  unfold State.closeSession
  split
  · rfl
  · rw [State.pulse_pending, State.wr_pending, State.wrWords_pending, State.wrWords_pending,
      State.modTrust_pending, State.modMgmt_pending, State.freshNonce_pending, State.setSession_pending]

@[simp] theorem execNonceExpire_pending (ch : Channel) (s : State) :
    (execNonceExpire ch s).keeps s.pending := by
  simp [execNonceExpire]

@[simp] theorem execLockoutEnd_pending (ch : Channel) (s : State) :
    (execLockoutEnd ch s).keeps s.pending := by
  simp [execLockoutEnd]

@[simp] theorem State.clearKey_pending (s : State) : (State.clearKey s).pending = s.pending := by
  simp [State.clearKey]

@[simp] theorem State.endBurn_pending (s : State) :
    (State.endBurn s).pending = s.pending := by
  unfold State.endBurn; split <;> simp

@[simp] theorem State.refreshPairing_pending (s : State) (p : Nat) :
    (State.refreshPairing s p).pending = s.pending := by
  simp [State.refreshPairing]

@[simp] theorem State.refreshAllPairing_pending (s : State) :
    (State.refreshAllPairing s).pending = s.pending := by
  simp [State.refreshAllPairing]

@[simp] theorem State.advance_pending (s : State) (target : Nat) :
    (State.advance s target).pending = s.pending := by
  simp [State.advance]

@[simp] theorem State.program_pending (s : State) (slot : Nat) (maxRole : Nat) (usage : Nat) :
    (State.program s slot maxRole usage).pending = s.pending := by
  simp [State.program]

@[simp] theorem execKeyBurnDone_pending (s : State) :
    (execKeyBurnDone s).keeps s.pending := by
  simp [execKeyBurnDone]

@[simp] theorem State.revoke_pending (s : State) (slot : Nat) :
    (State.revoke s slot).pending = s.pending := by
  simp [State.revoke]

@[simp] theorem State.setPairKey_pending (s : State) (p : Nat) :
    (State.setPairKey s p).pending = s.pending := by
  simp [State.setPairKey]

@[simp] theorem State.installSa_pending (s : State) (p : Nat) (a : Nat) :
    (State.installSa s p a).pending = s.pending := by
  simp [State.installSa]

@[simp] theorem State.modImage_pending (s : State) (k : Nat) (f : ImageSlot → ImageSlot) :
    (State.modImage s k f).pending = s.pending := by
  simp [State.modImage]

@[simp] theorem State.trySlot_pending (s : State) (k : Nat) :
    (State.trySlot s k).2.pending = s.pending := by
  simp [State.trySlot]

@[simp] theorem State.runImage_pending (s : State) (k : Nat) (fallback : Bool) :
    (State.runImage s k fallback).pending = s.pending := by
  simp [State.runImage]

@[simp] theorem execBootVerifyDone_pending (s : State) :
    (execBootVerifyDone s).keeps s.pending := by
  simp [execBootVerifyDone]

@[simp] theorem State.confirmBoot_pending (s : State) :
    (State.confirmBoot s).pending = s.pending := by
  simp [State.confirmBoot]

@[simp] theorem State.commitSvn_pending (s : State) :
    (State.commitSvn s).pending = s.pending := by
  simp [State.commitSvn]

@[simp] theorem execFwUploadTimeout_pending (s : State) :
    (execFwUploadTimeout s).keeps s.pending := by
  simp [execFwUploadTimeout]

/-! ### Envelope -/

@[simp] theorem State.enterLeaving_pending (s : State) (l : Nat) :
    (State.enterLeaving s l).pending = s.pending := by
  simp [State.enterLeaving]

@[simp] theorem State.refitLine_pending (target : Nat) (s : State) (l : Nat) :
    (State.refitLine target s l).pending = s.pending := by
  simp [State.refitLine]

@[simp] theorem State.proposeSet_pending (s : State) (set : Pages) (p : Nat) (target : Nat) :
    (State.proposeSet s set p target).pending = s.pending := by
  simp [State.proposeSet]

@[simp] theorem State.failSet_pending (s : State) (set : Pages) (run : Bool) (r : Nat) :
    (State.failSet s set run r).pending = s.pending := by
  simp [State.failSet]

@[simp] theorem State.decidePlain_pending (s : State) (es : Pages) :
    (State.decidePlain s es).pending = s.pending := by
  unfold State.decidePlain; (repeat' split) <;> simp

@[simp] theorem State.startSet_pending (s : State) (set : Pages) (run : Bool) (moment : Nat) (target : Option Nat) :
    (State.startSet s set run moment target).pending = s.pending := by
  simp [State.startSet]

@[simp] theorem State.post_pending (s : State) (p : Page) (i : Nat) :
    (State.post s p i).pending = s.pending := by
  simp [State.post]

@[simp] theorem State.retryRun_pending (s : State) :
    (State.retryRun s).pending = s.pending := by
  unfold State.retryRun; split <;> simp

@[simp] theorem State.discardPost_pending (s : State) (p : Page) (i : Nat) :
    (State.discardPost s p i).pending = s.pending := by
  simp [State.discardPost]

@[simp] theorem State.startRun_pending (s : State) :
    (State.startRun s).pending = s.pending := by
  simp [State.startRun]

@[simp] theorem State.cancelRun_pending (s : State) :
    (State.cancelRun s).pending = s.pending := by
  unfold State.cancelRun; split <;> simp

@[simp] theorem State.clearSecy_pending (s : State) (p : Nat) :
    (State.clearSecy s p).pending = s.pending := by
  simp [State.clearSecy]

@[simp] theorem State.settlePort_pending (s : State) (p : Nat) (was : Nat) :
    (State.settlePort s p was).pending = s.pending := by
  simp [State.settlePort]

@[simp] theorem State.newEpoch_pending (s : State) (l : Nat) (was : Nat × Nat) :
    (State.newEpoch s l was).pending = s.pending := by
  simp [State.newEpoch]

@[simp] theorem State.layoutQuad_pending (s : State) (q : Nat) (code : Nat) :
    (State.layoutQuad s q code).pending = s.pending := by
  simp [State.layoutQuad]

@[simp] theorem State.endMode_pending (s : State) (l : Nat) :
    (State.endMode s l).pending = s.pending := by
  simp [State.endMode]

@[simp] theorem State.beginMode_pending (s : State) (l : Nat) :
    (State.beginMode s l).pending = s.pending := by
  simp [State.beginMode]

@[simp] theorem State.landMode_pending (s : State) (l : Nat) :
    (State.landMode s l).pending = s.pending := by
  simp [State.landMode]

@[simp] theorem State.changePort_pending (s : State) (l : Nat) (was : Nat) :
    (State.changePort s l was).pending = s.pending := by
  simp [State.changePort]

@[simp] theorem State.refreshThru_pending (s : State) :
    (State.refreshThru s).pending = s.pending := by
  simp [State.refreshThru]

@[simp] theorem State.landPage_pending (s : State) (e : Page × Nat) :
    (State.landPage s e).pending = s.pending := by
  unfold State.landPage; split <;> simp

@[simp] theorem State.landUnits_pending (s : State) (set : Pages) (units : List Nat) :
    (State.landUnits s set units).pending = s.pending := by
  simp [State.landUnits]

@[simp] theorem State.setLanded_pending (s : State) (set : Pages) (run : Bool) (steps : Nat) :
    (State.setLanded s set run steps).pending = s.pending := by
  simp [State.setLanded]

@[simp] theorem State.sealedLanded_pending (s : State) (es : Pages) :
    (State.sealedLanded s es).pending = s.pending := by
  simp [State.sealedLanded]

@[simp] theorem State.landBatches_pending (s : State) (set : Pages) (run : Bool) (e : Page × Nat) (bs : List (List Nat)) (steps : Nat) :
    (State.landBatches s set run e bs steps).pending = s.pending := by
  unfold State.landBatches; dsimp only; (repeat' split) <;> simp

@[simp] theorem State.holdPosts_pending (s : State) (es : Pages) :
    (State.holdPosts s es).pending = s.pending := by
  unfold State.holdPosts; (repeat' split) <;> simp

@[simp] theorem State.landSetNow_pending (s : State) (set : Pages) (run : Bool) (e : Page × Nat) :
    (State.landSetNow s set run e).pending = s.pending := by
  simp [State.landSetNow]

@[simp] theorem execPostLands_pending (p : Page) (i : Nat) (s : State) :
    (execPostLands p i s).keeps s.pending := by
  unfold execPostLands onPage onPart
  by_cases h : i < p.count <;> simp only [h, if_true, if_false]
  · split
    · simp
    · rw [Answer.keeps_next]
      try dsimp only
      (repeat' split) <;> simp
  · simp

@[simp] theorem execSealedNegotiationStart_pending (port : Nat) (s : State) :
    (execSealedNegotiationStart port s).keeps s.pending := by
  simp [execSealedNegotiationStart]

@[simp] theorem State.confirmNeg_pending (s : State) (port : Nat) :
    (State.confirmNeg s port).pending = s.pending := by
  simp [State.confirmNeg]

@[simp] theorem State.refuseNeg_pending (s : State) (p : Nat) :
    (State.refuseNeg s p).pending = s.pending := by
  unfold State.refuseNeg; split <;> simp

@[simp] theorem execSealConfirm_pending (port : Nat) (s : State) :
    (execSealConfirm port s).keeps s.pending := by
  refine withPortTimer_pending _ _ _ fun s => ?_
  try dsimp only
  (repeat' split) <;> simp

/-! ### Grid -/

@[simp] theorem State.advanceGrid_pending (s : State) :
    (State.advanceGrid s).pending = s.pending := by
  simp [State.advanceGrid]

@[simp] theorem State.pulseSync_pending (s : State) :
    (State.pulseSync s).pending = s.pending := by
  simp [State.pulseSync]

@[simp] theorem State.expireNeg_pending (s : State) (p : Nat) :
    (State.expireNeg s p).pending = s.pending := by
  unfold State.expireNeg; split <;> simp

@[simp] theorem State.showSeal_pending (s : State) (p : Nat) :
    (State.showSeal s p).pending = s.pending := by
  unfold State.showSeal; split <;> simp

@[simp] theorem State.closeEmpty_pending (s : State) (p : Nat) :
    (State.closeEmpty s p).pending = s.pending := by
  unfold State.closeEmpty; split <;> simp

@[simp] theorem State.seedScramblers_pending (s : State) (p : Nat) :
    (State.seedScramblers s p).pending = s.pending := by
  simp [State.seedScramblers]

@[simp] theorem State.retryDrop_pending (s : State) (p : Nat) :
    (State.retryDrop s p).pending = s.pending := by
  unfold State.retryDrop; dsimp only; (repeat' split) <;> simp

@[simp] theorem State.retryMask_pending (s : State) (l : Nat) :
    (State.retryMask s l).pending = s.pending := by
  simp [State.retryMask]

@[simp] theorem State.repeatSegs_pending (s : State) (l : Nat) :
    (State.repeatSegs s l).pending = s.pending := by
  unfold State.repeatSegs; dsimp only; (repeat' split) <;> simp

@[simp] theorem State.portSuperframe_pending (s : State) (p : Nat) :
    (State.portSuperframe s p).pending = s.pending := by
  simp [State.portSuperframe]

@[simp] theorem State.snrCycle_pending (s : State) (l : Nat) :
    (State.snrCycle s l).pending = s.pending := by
  unfold State.snrCycle; (repeat' split) <;> simp

@[simp] theorem State.showResiduals_pending (s : State) (m : LineMeter) :
    (State.showResiduals s m).pending = s.pending := by
  unfold State.showResiduals; dsimp only; (repeat' split) <;> simp

@[simp] theorem State.meterLine_pending (s : State) (l : Nat) :
    (State.meterLine s l).pending = s.pending := by
  simp [State.meterLine]

@[simp] theorem State.remoteCycle_pending (s : State) (l : Nat) :
    (State.remoteCycle s l).pending = s.pending := by
  unfold State.remoteCycle; (repeat' split) <;> simp

@[simp] theorem State.retrainWord_pending (s : State) (l : Nat) :
    (State.retrainWord s l).pending = s.pending := by
  simp [State.retrainWord]

@[simp] theorem State.pilotBlock_pending (s : State) (l : Nat) :
    (State.pilotBlock s l).pending = s.pending := by
  simp [State.pilotBlock]

@[simp] theorem State.tailSuperframe_pending (s : State) (l : Nat) :
    (State.tailSuperframe s l).pending = s.pending := by
  simp [State.tailSuperframe]

@[simp] theorem State.lineSuperframe_pending (s : State) (l : Nat) :
    (State.lineSuperframe s l).pending = s.pending := by
  simp [State.lineSuperframe]

@[simp] theorem State.serveJoin_pending (s : State) :
    (State.serveJoin s).pending = s.pending := by
  simp [State.serveJoin]

@[simp] theorem State.rollFeedback_pending (s : State) :
    (State.rollFeedback s).pending = s.pending := by
  simp [State.rollFeedback]

@[simp] theorem execSuperframeStart_pending (s : State) :
    (execSuperframeStart s).keeps s.pending := by
  simp [execSuperframeStart]

@[simp] theorem State.rollCycle_pending (s : State) :
    (State.rollCycle s).pending = s.pending := by
  simp [State.rollCycle]

@[simp] theorem State.trainCycle_pending (s : State) (l : Nat) :
    (State.trainCycle s l).pending = s.pending := by
  simp [State.trainCycle]

@[simp] theorem execPilotCycleStart_pending (meters : List LineMeter) (s : State) :
    (execPilotCycleStart meters s).keeps s.pending := by
  simp [execPilotCycleStart]

/-! ### Live -/

@[simp] theorem State.freeze_pending (s : State) (p : Page) (i : Nat) :
    (State.freeze s p i).pending = s.pending := by
  simp [State.freeze]

@[simp] theorem State.thaw_pending (s : State) (p : Page) (i : Nat) :
    (State.thaw s p i).pending = s.pending := by
  simp [State.thaw]

@[simp] theorem State.latch_pending (s : State) (p : Page) (i : Nat) (off : Nat) :
    (State.latch s p i off).pending = s.pending := by
  simp [State.latch]

/-! ### Write -/

@[simp] theorem State.storeField_pending (s : State) (x : WordWrite) (e : Fld × Nat) :
    (State.storeField s x e).pending = s.pending := by
  unfold State.storeField; dsimp only; (repeat' split) <;> simp

@[simp] theorem State.storeWord_pending (s : State) (x : WordWrite) :
    (State.storeWord s x).pending = s.pending := by
  simp [State.storeWord]

@[simp] theorem State.resetFields_pending (s : State) (p : Page) (i : Nat) :
    (State.resetFields s p i).pending = s.pending := by
  simp [State.resetFields]

@[simp] theorem State.landResetValues_pending (s : State) (p : Page) (i : Nat) :
    (State.landResetValues s p i).pending = s.pending := by
  simp [State.landResetValues]

@[simp] theorem State.dropArmed_pending (s : State) (p : Page) (i : Nat) :
    (State.dropArmed s p i).pending = s.pending := by
  simp [State.dropArmed]

@[simp] theorem State.giveUpRequest_pending (s : State) (p : Page) (i : Nat) :
    (State.giveUpRequest s p i).pending = s.pending := by
  unfold State.giveUpRequest; dsimp only; (repeat' split) <;> simp

@[simp] theorem State.resetFunction_pending (s : State) (old : State) (p : Page) (i : Nat) :
    (State.resetFunction s old p i).pending = s.pending := by
  unfold State.resetFunction; split <;> simp

@[simp] theorem State.softReset_pending (s : State) (p : Page) (i : Nat) :
    (State.softReset s p i).pending = s.pending := by
  simp [State.softReset]

@[simp] theorem State.enableEffect_pending (s : State) (p : Page) (i : Nat) :
    (State.enableEffect s p i).pending = s.pending := by
  unfold State.enableEffect; split <;> simp

@[simp] theorem State.headerEffects_pending (s : State) (x : WordWrite) (act : List (Fld × Nat)) :
    (State.headerEffects s x act).pending = s.pending := by
  simp [State.headerEffects]

@[simp] theorem State.busLock_pending (s : State) (c : Nat) (release : Bool) (take : Bool) :
    (State.busLock s c release take).pending = s.pending := by
  simp [State.busLock]

@[simp] theorem State.deviceEffects_pending (s : State) (x : WordWrite) (act : List (Fld × Nat)) :
    (State.deviceEffects s x act).pending = s.pending := by
  unfold State.deviceEffects
  dsimp only
  split <;> try (simp; done)
  · simp only [List.head?_filter]
    cases List.find? (fun e => decide (e.1.off = 256)) act <;> simp

@[simp] theorem State.lineEffects_pending (s : State) (x : WordWrite) (act : List (Fld × Nat)) :
    (State.lineEffects s x act).pending = s.pending := by
  unfold State.lineEffects; split <;> simp

@[simp] theorem State.applyWord_pending (s : State) (x : WordWrite) :
    (State.applyWord s x).pending = s.pending := by
  simp [State.applyWord]

/-! ### Parcel -/

@[simp] theorem State.applyEntry_pending (own : Bool) (cal : Bool) (s : State) (e : Nat × Nat) :
    (State.applyEntry own cal s e).pending = s.pending := by
  unfold State.applyEntry; split <;> simp

@[simp] theorem State.runStaged_pending (s : State) (set : Pages) (locks : List (Page × Nat × Nat)) :
    (State.runStaged s set locks).pending = s.pending := by
  simp [State.runStaged]

@[simp] theorem State.applyParcel_pending (s : State) (ws : List Nat) :
    (State.applyParcel s ws).pending = s.pending := by
  simp [State.applyParcel]

@[simp] theorem State.applyBootParcel_pending (s : State) :
    (State.applyBootParcel s).pending = s.pending := by
  simp [State.applyBootParcel]

@[simp] theorem execIdentReady_pending (s : State) :
    (execIdentReady s).keeps s.pending := by
  simp [execIdentReady]

/-! ### Letterbox -/

@[simp] theorem State.takeLease_pending (s : State) (c : Nat) :
    (State.takeLease s c).pending = s.pending := by
  simp [State.takeLease]

@[simp] theorem State.startDiag_pending (s : State) (c : Nat) (args : List Nat) :
    (State.startDiag s c args).pending = s.pending := by
  unfold State.startDiag; split <;> simp

@[simp] theorem State.serveNext_pending (s : State) :
    (State.serveNext s).pending = s.pending := by
  unfold State.serveNext; dsimp only; (repeat' split) <;> simp

@[simp] theorem State.ring_pending (s : State) (c : Nat) :
    (State.ring s c).pending = s.pending := by
  simp [State.ring]

@[simp] theorem execLetterboxLeaseExpire_pending (ch : Channel) (s : State) :
    (execLetterboxLeaseExpire ch s).keeps s.pending := by
  simp [execLetterboxLeaseExpire]

@[simp] theorem State.fwBegin_pending (s : State) (c : Nat) (args : List Nat) :
    (State.fwBegin s c args).2.pending = s.pending := by
  unfold State.fwBegin; dsimp only; (repeat' split) <;> simp

@[simp] theorem State.fwChunk_pending (s : State) (c : Nat) (args : List Nat) :
    (State.fwChunk s c args).2.pending = s.pending := by
  unfold State.fwChunk; dsimp only; (repeat' split) <;> simp

@[simp] theorem State.fwCommit_pending (s : State) (c : Nat) :
    (State.fwCommit s c).2.pending = s.pending := by
  unfold State.fwCommit; dsimp only; (repeat' split) <;> simp

@[simp] theorem State.exportPart_pending (s : State) (c : Nat) :
    (State.exportPart s c).2.pending = s.pending := by
  unfold State.exportPart; dsimp only; (repeat' split) <;> simp

@[simp] theorem State.exportBegin_pending (s : State) (c : Nat) (args : List Nat) :
    (State.exportBegin s c args).2.pending = s.pending := by
  unfold State.exportBegin; dsimp only; (repeat' split) <;> simp

@[simp] theorem State.importChunk_pending (s : State) (c : Nat) (args : List Nat) :
    (State.importChunk s c args).2.pending = s.pending := by
  unfold State.importChunk; dsimp only; (repeat' split) <;> simp

@[simp] theorem State.importCommit_pending (s : State) (c : Nat) (args : List Nat) :
    (State.importCommit s c args).2.pending = s.pending := by
  unfold State.importCommit; dsimp only; (repeat' split) <;> simp

@[simp] theorem State.attestSign_pending (s : State) (c : Nat) (args : List Nat) :
    (State.attestSign s c args).2.pending = s.pending := by
  unfold State.attestSign; dsimp only; (repeat' split) <;> simp

@[simp] theorem State.attest_pending (s : State) (c : Nat) (args : List Nat) :
    (State.attest s c args).2.pending = s.pending := by
  unfold State.attest; simp; (repeat' split) <;> simp_all

@[simp] theorem State.runCommand_pending (s : State) (x : LbCommand) :
    (State.runCommand s x).2.pending = s.pending := by
  unfold State.runCommand; simp; (repeat' split) <;> simp_all

@[simp] theorem execLetterboxDone_pending (ch : Channel) (s : State) :
    (execLetterboxDone ch s).keeps s.pending := by
  unfold execLetterboxDone; dsimp only; (repeat' split) <;> simp

/-! ### Channels -/

@[simp] theorem State.writeWord_pending (s : State) (x : WordWrite) :
    (State.writeWord s x).2.pending = s.pending := by
  unfold State.writeWord; dsimp only; (repeat' split) <;> simp

@[simp] theorem State.accessPage_pending (s : State) (c addr : Nat) (w : Option Nat) :
    (State.accessPage s c addr w).state.pending = s.pending := by
  unfold State.accessPage
  (repeat' split) <;> simp

@[simp] theorem State.recordRefusal_pending (s : State) (c : Nat) (code : Nat) (addr : Nat) (v : Verdict) :
    (State.recordRefusal s c code addr v).pending = s.pending := by
  simp [State.recordRefusal]

@[simp] theorem State.access_pending (s : State) (c addr width code : Nat) (w : Option Nat) :
    (State.access s c addr width code w).state.pending = s.pending := by
  unfold State.access
  (repeat' split) <;> simp

@[simp] theorem State.burst_pending (s : State) (c width code : Nat) (a4 : List (Nat × Option Nat)) :
    (State.burst s c width code a4).2.2.pending = s.pending := by
  induction a4 generalizing s with
  | nil => rfl
  | cons e es ih => simp [State.burst, ih]

@[simp] theorem State.serveInband_pending (s : State) (r : InbandReq) :
    (State.serveInband s r).pending = s.pending := by
  simp [State.serveInband]

@[simp] theorem State.drainInband_pending (s : State) :
    (State.drainInband s).pending = s.pending := by
  simp [State.drainInband]

@[simp] theorem State.askInband_pending (s : State) (r : InbandReq) :
    (State.askInband s r).pending = s.pending := by
  simp [State.askInband]

@[simp] theorem State.answered_pending (s : State) (c : Nat) (v : Verdict) (data : List Nat) :
    (State.answered s c v data).pending = s.pending := by
  simp [State.answered]

@[simp] theorem State.frameStart_pending (s : State) (c : Nat) :
    (State.frameStart s c).pending = s.pending := by
  simp [State.frameStart]

@[simp] theorem State.hostWrite_pending (s : State) (ch : Channel) (addr : Nat) (width : Nat) (w : Nat) :
    (State.hostWrite s ch addr width w).pending = s.pending := by
  unfold State.hostWrite
  dsimp only
  split <;> simp

@[simp] theorem State.hostRead_pending (s : State) (ch : Channel) (addr : Nat) :
    (State.hostRead s ch addr).pending = s.pending := by
  unfold State.hostRead
  dsimp only
  split <;> simp

@[simp] theorem State.noteDenied_pending (s : State) (vs : List Verdict) :
    (State.noteDenied s vs).pending = s.pending := by
  simp [State.noteDenied]

@[simp] theorem State.noteAlign_pending (s : State) (on : Bool) :
    (State.noteAlign s on).pending = s.pending := by
  simp [State.noteAlign]

@[simp] theorem execMspiWrite_pending (addr : Nat) (ws : List Word) (cut : Bool) (s : State) :
    (execMspiWrite addr ws cut s).keeps s.pending := by
  simp [execMspiWrite]

@[simp] theorem execMspiRead_pending (addr : Nat) (n : Nat) (late : Bool) (s : State) :
    (execMspiRead addr n late s).keeps s.pending := by
  simp [execMspiRead]

@[simp] theorem State.clearMspiFlags_pending (s : State) :
    (State.clearMspiFlags s).pending = s.pending := by
  simp [State.clearMspiFlags]

@[simp] theorem execMspiStatus_pending (s : State) :
    (execMspiStatus s).keeps s.pending := by
  simp [execMspiStatus]

@[simp] theorem execMspiChannelReset_pending (s : State) :
    (execMspiChannelReset s).keeps s.pending := by
  simp [execMspiChannelReset]

@[simp] theorem execMspiBadCommand_pending (_cmd : Nat) (s : State) :
    (execMspiBadCommand _cmd s).keeps s.pending := by
  simp [execMspiBadCommand]

@[simp] theorem execMreqRead_pending (lane : Nat) (tag : Nat) (addr : Nat) (n : Nat) (s : State) :
    (execMreqRead lane tag addr n s).keeps s.pending := by
  simp [execMreqRead]

@[simp] theorem execMreqWrite_pending (lane : Nat) (tag : Nat) (addr : Nat) (ws : List Word) (s : State) :
    (execMreqWrite lane tag addr ws s).keeps s.pending := by
  simp [execMreqWrite]

@[simp] theorem execMreqIncomplete_pending (lane : Nat) (tag : Nat) (s : State) :
    (execMreqIncomplete lane tag s).keeps s.pending := by
  simp [execMreqIncomplete]

@[simp] theorem State.mdioAdvance_pending (s : State) :
    (State.mdioAdvance s).pending = s.pending := by
  simp [State.mdioAdvance]

@[simp] theorem State.windowRead_pending (s : State) (late : Bool) :
    (State.windowRead s late).pending = s.pending := by
  simp [State.windowRead]

@[simp] theorem State.windowWrite_pending (s : State) (hi : Nat) :
    (State.windowWrite s hi).pending = s.pending := by
  simp [State.windowWrite]

@[simp] theorem State.windowErrors_pending (s : State) :
    (State.windowErrors s).pending = s.pending := by
  simp [State.windowErrors]

@[simp] theorem withMdio_pending (prtad : Nat) (s : State) (f : Nat → State → State) (hf : ∀ x0 x1, (f x0 x1).pending = x1.pending) :
    (withMdio prtad s f).keeps s.pending := by
  unfold withMdio; split <;> simp [hf]

@[simp] theorem execMdioWindowRead_pending (prtad : Nat) (late : Bool) (s : State) :
    (execMdioWindowRead prtad late s).keeps s.pending := by
  simp [execMdioWindowRead]

@[simp] theorem execMdioWindowWrite_pending (prtad : Nat) (hi : Nat) (s : State) :
    (execMdioWindowWrite prtad hi s).keeps s.pending := by
  simp [execMdioWindowWrite]

@[simp] theorem execMdioErrorRead_pending (prtad : Nat) (s : State) :
    (execMdioErrorRead prtad s).keeps s.pending := by
  simp [execMdioErrorRead]

@[simp] theorem State.windowAccess_pending (s : State) (reg : Nat) (wr : Option Nat) :
    (State.windowAccess s reg wr).pending = s.pending := by
  unfold State.windowAccess; split <;> simp

@[simp] theorem State.mmdRegister_pending (s : State) (p : Nat) (mmd : Nat) (reg : Nat) (wr : Option Nat) :
    (State.mmdRegister s p mmd reg wr).pending = s.pending := by
  unfold State.mmdRegister; dsimp only; (repeat' split) <;> simp

@[simp] theorem execMmdAccess_pending (prtad : Nat) (mmd : Nat) (reg : Nat) (wr : Option Nat) (s : State) :
    (execMmdAccess prtad mmd reg wr s).keeps s.pending := by
  simp [execMmdAccess]

@[simp] theorem execLeaseRevoke_pending (master : Nat) (resource : Nat) (access : Nat) (addr : Nat) (s : State) :
    (execLeaseRevoke master resource access addr s).keeps s.pending := by
  simp [execLeaseRevoke]

@[simp] theorem execSessionIdleTimeout_pending (ch : Channel) (s : State) :
    (execSessionIdleTimeout ch s).keeps s.pending := by
  simp [execSessionIdleTimeout]

/-! ### HostCommands -/

@[simp] theorem State.writeAt_pending (s : State) (ch : Channel) (F : Fld) (i : Nat) (j : Nat) (w : Nat) :
    (State.writeAt s ch F i j w).pending = s.pending := by
  simp [State.writeAt]

@[simp] theorem State.trigger_pending (s : State) (ch : Channel) (F : Fld) (i : Nat) (j : Nat) (w : Word) :
    (State.trigger s ch F i j w).pending = s.pending := by
  simp [State.trigger]

@[simp] theorem withPage_pending (p : Page) (i : Nat) (s : State) (f : State → State) (hf : ∀ x0, (f x0).pending = x0.pending) :
    (withPage p i s f).keeps s.pending := by
  simp [withPage, hf]

@[simp] theorem onEntry_pending (n : Nat) (i : Nat) (s : State) (f : State → State) (hf : ∀ x0, (f x0).pending = x0.pending) :
    (onEntry n i s f).keeps s.pending := by
  simp [onEntry, hf]

@[simp] theorem execRegisterWrite_pending (ch : Channel) (addr : Nat) (width : Nat) (w : Word) (s : State) :
    (execRegisterWrite ch addr width w s).keeps s.pending := by
  simp [execRegisterWrite]

@[simp] theorem execCounterLoRead_pending (ch : Channel) (addr : Nat) (s : State) :
    (execCounterLoRead ch addr s).keeps s.pending := by
  simp [execCounterLoRead]

@[simp] theorem execEvtPendClear_pending (ch : Channel) (p : Page) (i : Nat) (w : Word) (hw : Word) (s : State) :
    (execEvtPendClear ch p i w hw s).keeps s.pending := by
  simp [execEvtPendClear]

@[simp] theorem execEvtInject_pending (ch : Channel) (p : Page) (i : Nat) (w : Word) (hw : Word) (s : State) :
    (execEvtInject ch p i w hw s).keeps s.pending := by
  simp [execEvtInject]

@[simp] theorem State.ringOpcode_pending (s : State) (ch : Channel) (op : Nat) (fn : Option Nat) :
    (State.ringOpcode s ch op fn).pending = s.pending := by
  simp [State.ringOpcode]

@[simp] theorem execEcho_pending (ch : Channel) (s : State) :
    (execEcho ch s).keeps s.pending := by
  simp [execEcho]

@[simp] theorem execDiag_pending (ch : Channel) (s : State) :
    (execDiag ch s).keeps s.pending := by
  simp [execDiag]

@[simp] theorem execFwBegin_pending (ch : Channel) (s : State) :
    (execFwBegin ch s).keeps s.pending := by
  simp [execFwBegin]

@[simp] theorem execFwChunk_pending (ch : Channel) (s : State) :
    (execFwChunk ch s).keeps s.pending := by
  simp [execFwChunk]

@[simp] theorem execFwCommit_pending (ch : Channel) (s : State) :
    (execFwCommit ch s).keeps s.pending := by
  simp [execFwCommit]

@[simp] theorem execParcelExportBegin_pending (ch : Channel) (s : State) :
    (execParcelExportBegin ch s).keeps s.pending := by
  simp [execParcelExportBegin]

@[simp] theorem execParcelExportNext_pending (ch : Channel) (s : State) :
    (execParcelExportNext ch s).keeps s.pending := by
  simp [execParcelExportNext]

@[simp] theorem execParcelImportChunk_pending (ch : Channel) (s : State) :
    (execParcelImportChunk ch s).keeps s.pending := by
  simp [execParcelImportChunk]

@[simp] theorem execParcelImportCommit_pending (ch : Channel) (s : State) :
    (execParcelImportCommit ch s).keeps s.pending := by
  simp [execParcelImportCommit]

@[simp] theorem execAttestSign_pending (ch : Channel) (s : State) :
    (execAttestSign ch s).keeps s.pending := by
  simp [execAttestSign]

@[simp] theorem execAttestRead_pending (ch : Channel) (s : State) :
    (execAttestRead ch s).keeps s.pending := by
  simp [execAttestRead]

@[simp] theorem execSoftReset_pending (ch : Channel) (p : Page) (i : Nat) (w : Word) (s : State) :
    (execSoftReset ch p i w s).keeps s.pending := by
  simp [execSoftReset]

@[simp] theorem execPageLockWrite_pending (ch : Channel) (p : Page) (i : Nat) (w : Word) (s : State) :
    (execPageLockWrite ch p i w s).keeps s.pending := by
  simp [execPageLockWrite]

@[simp] theorem execPageFreeze_pending (ch : Channel) (p : Page) (i : Nat) (w : Word) (s : State) :
    (execPageFreeze ch p i w s).keeps s.pending := by
  simp [execPageFreeze]

@[simp] theorem execEvtCountClr_pending (ch : Channel) (p : Page) (i : Nat) (w : Word) (s : State) :
    (execEvtCountClr ch p i w s).keeps s.pending := by
  simp [execEvtCountClr]

@[simp] theorem execEnvPost_pending (ch : Channel) (p : Page) (i : Nat) (w : Word) (s : State) :
    (execEnvPost ch p i w s).keeps s.pending := by
  simp [execEnvPost]

@[simp] theorem execEnvDiscard_pending (ch : Channel) (p : Page) (i : Nat) (w : Word) (s : State) :
    (execEnvDiscard ch p i w s).keeps s.pending := by
  simp [execEnvDiscard]

@[simp] theorem execMailRun_pending (ch : Channel) (w : Word) (s : State) :
    (execMailRun ch w s).keeps s.pending := by
  simp [execMailRun]

@[simp] theorem execMailRunCancel_pending (ch : Channel) (w : Word) (s : State) :
    (execMailRunCancel ch w s).keeps s.pending := by
  simp [execMailRunCancel]

@[simp] theorem execBuslockTake_pending (ch : Channel) (w : Word) (s : State) :
    (execBuslockTake ch w s).keeps s.pending := by
  simp [execBuslockTake]

@[simp] theorem execBuslockRelease_pending (ch : Channel) (w : Word) (s : State) :
    (execBuslockRelease ch w s).keeps s.pending := by
  simp [execBuslockRelease]

@[simp] theorem execLetterboxCmd_pending (ch : Channel) (w : Word) (s : State) :
    (execLetterboxCmd ch w s).keeps s.pending := by
  simp [execLetterboxCmd]

@[simp] theorem execLevelDownRequest_pending (ch : Channel) (w : Word) (s : State) :
    (execLevelDownRequest ch w s).keeps s.pending := by
  simp [execLevelDownRequest]

@[simp] theorem execLevelUpRequest_pending (ch : Channel) (w : Word) (s : State) :
    (execLevelUpRequest ch w s).keeps s.pending := by
  simp [execLevelUpRequest]

@[simp] theorem execXengineHold_pending (ch : Channel) (w : Word) (s : State) :
    (execXengineHold ch w s).keeps s.pending := by
  simp [execXengineHold]

@[simp] theorem execCensusRequest_pending (ch : Channel) (w : Word) (s : State) :
    (execCensusRequest ch w s).keeps s.pending := by
  simp [execCensusRequest]

@[simp] theorem execXwindowRead_pending (ch : Channel) (w : Word) (s : State) :
    (execXwindowRead ch w s).keeps s.pending := by
  simp [execXwindowRead]

@[simp] theorem execXwindowWrite_pending (ch : Channel) (w : Word) (s : State) :
    (execXwindowWrite ch w s).keeps s.pending := by
  simp [execXwindowWrite]

@[simp] theorem execLineDisable_pending (ch : Channel) (l : Nat) (w : Word) (s : State) :
    (execLineDisable ch l w s).keeps s.pending := by
  simp [execLineDisable]

@[simp] theorem execLineRetrain_pending (ch : Channel) (l : Nat) (w : Word) (s : State) :
    (execLineRetrain ch l w s).keeps s.pending := by
  simp [execLineRetrain]

@[simp] theorem execLineRestart_pending (ch : Channel) (l : Nat) (w : Word) (s : State) :
    (execLineRestart ch l w s).keeps s.pending := by
  simp [execLineRestart]

@[simp] theorem execBankRequest_pending (ch : Channel) (l : Nat) (w : Word) (s : State) :
    (execBankRequest ch l w s).keeps s.pending := by
  simp [execBankRequest]

@[simp] theorem execWakeRequest_pending (ch : Channel) (l : Nat) (w : Word) (s : State) :
    (execWakeRequest ch l w s).keeps s.pending := by
  simp [execWakeRequest]

@[simp] theorem execMonitorPresetWrite_pending (ch : Channel) (l : Nat) (w : Word) (s : State) :
    (execMonitorPresetWrite ch l w s).keeps s.pending := by
  simp [execMonitorPresetWrite]

@[simp] theorem execMonitorNcoWrite_pending (ch : Channel) (l : Nat) (w : Word) (s : State) :
    (execMonitorNcoWrite ch l w s).keeps s.pending := by
  simp [execMonitorNcoWrite]

@[simp] theorem execSyncrstArm_pending (ch : Channel) (l : Nat) (w : Word) (s : State) :
    (execSyncrstArm ch l w s).keeps s.pending := by
  simp [execSyncrstArm]

@[simp] theorem execSyncrstCancel_pending (ch : Channel) (l : Nat) (w : Word) (s : State) :
    (execSyncrstCancel ch l w s).keeps s.pending := by
  simp [execSyncrstCancel]

@[simp] theorem execBankSwap_pending (ch : Channel) (l : Nat) (w : Word) (s : State) :
    (execBankSwap ch l w s).keeps s.pending := by
  simp [execBankSwap]

@[simp] theorem execCaptureRequest_pending (ch : Channel) (l : Nat) (w : Word) (s : State) :
    (execCaptureRequest ch l w s).keeps s.pending := by
  simp [execCaptureRequest]

@[simp] theorem execCounterClear_pending (ch : Channel) (l : Nat) (w : Word) (s : State) :
    (execCounterClear ch l w s).keeps s.pending := by
  simp [execCounterClear]

@[simp] theorem execSnrWatchWrite_pending (ch : Channel) (l : Nat) (w : Word) (s : State) :
    (execSnrWatchWrite ch l w s).keeps s.pending := by
  simp [execSnrWatchWrite]

@[simp] theorem execReflectRequest_pending (ch : Channel) (l : Nat) (w : Word) (s : State) :
    (execReflectRequest ch l w s).keeps s.pending := by
  simp [execReflectRequest]

@[simp] theorem execClrcodeWrite_pending (ch : Channel) (c : Nat) (w : Word) (s : State) :
    (execClrcodeWrite ch c w s).keeps s.pending := by
  simp [execClrcodeWrite]

@[simp] theorem execCalRequest_pending (ch : Channel) (l : Nat) (w : Word) (s : State) :
    (execCalRequest ch l w s).keeps s.pending := by
  simp [execCalRequest]

@[simp] theorem execCalReqAll_pending (ch : Channel) (w : Word) (s : State) :
    (execCalReqAll ch w s).keeps s.pending := by
  simp [execCalReqAll]

@[simp] theorem execAnRestart_pending (ch : Channel) (l : Nat) (w : Word) (s : State) :
    (execAnRestart ch l w s).keeps s.pending := by
  simp [execAnRestart]

@[simp] theorem execLaneRestart_pending (ch : Channel) (lane : Nat) (w : Word) (s : State) :
    (execLaneRestart ch lane w s).keeps s.pending := by
  simp [execLaneRestart]

@[simp] theorem execLaneLoopWrite_pending (ch : Channel) (lane : Nat) (w : Word) (s : State) :
    (execLaneLoopWrite ch lane w s).keeps s.pending := by
  simp [execLaneLoopWrite]

@[simp] theorem execLaneRateChange_pending (ch : Channel) (lane : Nat) (w : Word) (s : State) :
    (execLaneRateChange ch lane w s).keeps s.pending := by
  simp [execLaneRateChange]

@[simp] theorem execFreqmonRequest_pending (ch : Channel) (w : Word) (s : State) :
    (execFreqmonRequest ch w s).keeps s.pending := by
  simp [execFreqmonRequest]

@[simp] theorem execTimebaseSet_pending (ch : Channel) (w : Word) (s : State) :
    (execTimebaseSet ch w s).keeps s.pending := by
  simp [execTimebaseSet]

@[simp] theorem execTimebaseAdd_pending (ch : Channel) (w : Word) (s : State) :
    (execTimebaseAdd ch w s).keeps s.pending := by
  simp [execTimebaseAdd]

@[simp] theorem execAvsRetry_pending (ch : Channel) (w : Word) (s : State) :
    (execAvsRetry ch w s).keeps s.pending := by
  simp [execAvsRetry]

@[simp] theorem execThermalPeakClear_pending (ch : Channel) (w : Word) (s : State) :
    (execThermalPeakClear ch w s).keeps s.pending := by
  simp [execThermalPeakClear]

@[simp] theorem execCtempMinmaxClear_pending (ch : Channel) (c : Nat) (w : Word) (s : State) :
    (execCtempMinmaxClear ch c w s).keeps s.pending := by
  simp [execCtempMinmaxClear]

@[simp] theorem execPstateRun_pending (ch : Channel) (w : Word) (s : State) :
    (execPstateRun ch w s).keeps s.pending := by
  simp [execPstateRun]

@[simp] theorem execPstateDoze_pending (ch : Channel) (w : Word) (s : State) :
    (execPstateDoze ch w s).keeps s.pending := by
  simp [execPstateDoze]

@[simp] theorem execPstateEmber_pending (ch : Channel) (w : Word) (s : State) :
    (execPstateEmber ch w s).keeps s.pending := by
  simp [execPstateEmber]

@[simp] theorem execPstateHearth_pending (ch : Channel) (w : Word) (s : State) :
    (execPstateHearth ch w s).keeps s.pending := by
  simp [execPstateHearth]

@[simp] theorem execFaultReboot_pending (ch : Channel) (w : Word) (s : State) :
    (execFaultReboot ch w s).keeps s.pending := by
  simp [execFaultReboot]

@[simp] theorem execFaultClear_pending (ch : Channel) (w : Word) (s : State) :
    (execFaultClear ch w s).keeps s.pending := by
  simp [execFaultClear]

@[simp] theorem execFaultInject_pending (ch : Channel) (w : Word) (s : State) :
    (execFaultInject ch w s).keeps s.pending := by
  simp [execFaultInject]

@[simp] theorem execLifecycleAdvance_pending (ch : Channel) (w : Word) (s : State) :
    (execLifecycleAdvance ch w s).keeps s.pending := by
  simp [execLifecycleAdvance]

@[simp] theorem execKeyProgram_pending (ch : Channel) (w : Word) (s : State) :
    (execKeyProgram ch w s).keeps s.pending := by
  simp [execKeyProgram]

@[simp] theorem execKeyRevoke_pending (ch : Channel) (w : Word) (s : State) :
    (execKeyRevoke ch w s).keeps s.pending := by
  simp [execKeyRevoke]

@[simp] theorem execSessionOpen_pending (ch : Channel) (w : Word) (s : State) :
    (execSessionOpen ch w s).keeps s.pending := by
  simp [execSessionOpen]

@[simp] theorem execSessionClose_pending (ch : Channel) (w : Word) (s : State) :
    (execSessionClose ch w s).keeps s.pending := by
  simp [execSessionClose]

@[simp] theorem execNonceRenew_pending (ch : Channel) (w : Word) (s : State) :
    (execNonceRenew ch w s).keeps s.pending := by
  simp [execNonceRenew]

@[simp] theorem execBootConfirm_pending (ch : Channel) (w : Word) (s : State) :
    (execBootConfirm ch w s).keeps s.pending := by
  simp [execBootConfirm]

@[simp] theorem execSvnCommit_pending (ch : Channel) (w : Word) (s : State) :
    (execSvnCommit ch w s).keeps s.pending := by
  simp [execSvnCommit]

@[simp] theorem execCompatPendingWrite_pending (ch : Channel) (w : Word) (s : State) :
    (execCompatPendingWrite ch w s).keeps s.pending := by
  simp [execCompatPendingWrite]

@[simp] theorem execBankTapWrite_pending (ch : Channel) (l : Nat) (bank : Nat) (i : Nat) (w : Word) (s : State) :
    (execBankTapWrite ch l bank i w s).keeps s.pending := by
  simp [execBankTapWrite]

@[simp] theorem execEqEntryWrite_pending (ch : Channel) (e : Nat) (w : Word) (s : State) :
    (execEqEntryWrite ch e w s).keeps s.pending := by
  simp [execEqEntryWrite]

@[simp] theorem execFenceLift_pending (ch : Channel) (hi : Bool) (w : Word) (s : State) :
    (execFenceLift ch hi w s).keeps s.pending := by
  simp [execFenceLift]

@[simp] theorem execPairSet_pending (ch : Channel) (port : Nat) (w : Word) (s : State) :
    (execPairSet ch port w s).keeps s.pending := by
  simp [execPairSet]

@[simp] theorem execSaInstall_pending (ch : Channel) (port : Nat) (sa : Nat) (w : Word) (s : State) :
    (execSaInstall ch port sa w s).keeps s.pending := by
  simp [execSaInstall]

end Sys2Proof.Machine
end

