-- ==== Sys2Proof/Machine/Lands.lean ====
section
/-! DEFINITION. The land map (R365 to R368): what each of the 63 × 63 lands carries. -/

namespace Sys2Proof.Machine

/-- What a land carries: a rail numbered as in R306, one side of a line or of a lane's transmitter or receiver, a control signal of
R368, or VSS. -/
inductive Land where
  | vss
  | rail (rail : Nat)
  | line (line : Nat) (positive : Bool)
  | ptx (lane : Nat) (positive : Bool)
  | prx (lane : Nat) (positive : Bool)
  | control (name : String)
  deriving DecidableEq, Repr

/-- The line whose pair stands in a row, in an odd column (R367): the rows of its cluster are the P land's and the N land's. -/
def lineLand (r k : Nat) : Option Land :=
  let at_ := fun (c : Nat) (p : Bool) => if k % 2 = 1 then some (Land.line (32 * c + k / 2) p) else none
  match r with
  | 1 => at_ 0 true | 2 => at_ 0 false
  | 4 => at_ 1 true | 5 => at_ 1 false
  | 63 => at_ 2 true | 62 => at_ 2 false
  | 60 => at_ 3 true | 59 => at_ 3 false
  | _ => none

/-- The lane whose pair stands in a column, three rows a lane (R367). -/
def laneLand (r k : Nat) : Option Land :=
  let l := (r - 9) / 3
  let p := (r - 9) % 3 == 0
  if r < 9 ∨ 56 < r ∨ (r - 9) % 3 = 2 then none
  else match k with
    | 63 => some (.ptx l p) | 61 => some (.prx l p)
    | 59 => some (.ptx (16 + l) p) | 57 => some (.prx (16 + l) p)
    | _ => none

/-- The control lands (R368). -/
def controlLands : List ((Nat × Nat) × String) :=
  [((30, 1), "REFCLK_P"), ((31, 1), "REFCLK_N"), ((34, 1), "REFIN"), ((12, 2), "PPS_IN"), ((12, 4), "PPS_OUT"),
   ((14, 2), "SYNC_IN"), ((14, 4), "SYNC_OUT"), ((18, 2), "MSPI_SCK"), ((18, 4), "MSPI_CS_N"),
   ((20, 2), "MSPI_IO0"), ((20, 4), "MSPI_IO1"), ((22, 2), "MSPI_IO2"), ((22, 4), "MSPI_IO3"),
   ((26, 2), "MDC"), ((26, 4), "MDIO"), ((38, 2), "AVS_CLK"), ((38, 4), "AVS_MDATA"), ((40, 2), "AVS_SDATA"),
   ((44, 2), "INTA_N"), ((44, 4), "INTB_N"), ((46, 2), "FAULT_N"), ((46, 4), "GLOW"), ((48, 2), "TXCLR_N"),
   ((48, 4), "RESET_N"), ((52, 1), "TST0"), ((52, 2), "TST1"), ((52, 3), "TST2"), ((52, 4), "TST3"),
   ((54, 1), "TST4"), ((54, 2), "TST5"), ((54, 3), "TST6"), ((54, 4), "TST7")]

def controlLand (r k : Nat) : Option Land := (controlLands.find? fun e => e.1 == (r, k)).map fun e => .control e.2

/-- The rail whose region a land lies in (R366). -/
def railRegion (r k : Nat) : Option Nat :=
  let core := decide (8 ≤ k ∧ k ≤ 54)
  if core && decide (7 ≤ r ∧ r ≤ 8 ∨ 56 ≤ r ∧ r ≤ 57) then some 3
  else if core && decide (9 ≤ r ∧ r ≤ 12 ∨ 52 ≤ r ∧ r ≤ 55) then some 2
  else if decide (24 ≤ r ∧ r ≤ 40 ∧ 23 ≤ k ∧ k ≤ 39) then some 0
  else if core && decide (13 ≤ r ∧ r ≤ 51) then some 1
  else if decide (9 ≤ r ∧ r ≤ 40 ∧ 55 ≤ k ∧ k ≤ 56) then some 4
  else if decide (41 ≤ r ∧ r ≤ 55 ∧ 55 ≤ k ∧ k ≤ 56) then some 5
  else if decide (9 ≤ r ∧ r ≤ 40 ∧ 5 ≤ k ∧ k ≤ 7) then some 6
  else if decide (41 ≤ r ∧ r ≤ 44 ∧ 5 ≤ k ∧ k ≤ 7) then some 7
  else none

/-- What the land in row r and column k carries, both from 1 to 63 (R365, R366): the signal that a rule names there, else in a
rail's region the rail where r + k is odd, else VSS. -/
def landAt (r k : Nat) : Land :=
  ((lineLand r k).or ((laneLand r k).or (controlLand r k))).getD
    (match railRegion r k with
     | some n => if (r + k) % 2 = 1 then .rail n else .vss
     | none => .vss)

/-- The lands that carry a rail. -/
def railLands (n : Nat) : Nat :=
  ((List.range 63).map fun r => ((List.range 63).filter fun k => landAt (r + 1) (k + 1) == .rail n).length).sum

end Sys2Proof.Machine
end

