-- ==== Sys2Proof/Tests/Slice0.lean ====
section
/-! SUPPORT. The model's own tests: what WellFormed refuses, addresses and check values from the manual's worked
examples, and for every obligation with hypotheses states and operands that meet them. -/

set_option maxRecDepth 100000
set_option Elab.async false

namespace Sys2Proof.Tests
open Sys2Proof.Machine

/-! ### What is not well formed -/

/-- Ill-formed terms, part 0. -/
def illFormed0 : List Instr :=
  [.registerWrite .mspi (2 ^ 32) 4 0,
   .registerWrite .mspi 0 3 0,
   .counterLoRead .mspi (2 ^ 32),
   .softReset .mspi .hearth 1 0,
   .pageLockWrite .mspi .hearth 1 0,
   .pageFreeze .mspi .hearth 1 0,
   .evtPendClear .mspi .hearth 1 0 0,
   .evtInject .mspi .hearth 1 0 0,
   .evtCountClr .mspi .hearth 1 0,
   .envPost .mspi .hearth 1 0,
   .envDiscard .mspi .hearth 1 0,
   .postLands .hearth 1,
   .sealedNegotiationStart 128,
   .sealConfirm 128,
   .leaseRevoke 64 0 0 0,
   .leaseRevoke 0 2 0 0,
   .leaseRevoke 0 0 7 0,
   .leaseRevoke 0 0 0 (2 ^ 32),
   .mspiWrite (2 ^ 32) [] false,
   .mspiRead (2 ^ 32) 1 false,
   .mspiBadCommand 256,
   .mspiBadCommand 0x02,
   .mspiBadCommand 0x0B,
   .mspiBadCommand 0x05,
   .mspiBadCommand 0x99,
   .mreqRead 1 0 0 1,
   .mreqRead 0 (2 ^ 16) 0 1,
   .mreqRead 0 0 (2 ^ 25) 1,
   .mreqRead 0 0 2 1,
   .mreqRead 0 0 0 0]

/-- Ill-formed terms, part 1. -/
def illFormed1 : List Instr :=
  [.mreqRead 0 0 0 (16 + 1),
   .mreqWrite 1 0 0 [0],
   .mreqWrite 0 (2 ^ 16) 0 [0],
   .mreqWrite 0 0 (2 ^ 25) [0],
   .mreqWrite 0 0 2 [0],
   .mreqWrite 0 0 0 [],
   .mreqWrite 0 0 0 (List.replicate 17 0),
   .mreqIncomplete 1 0,
   .mreqIncomplete 0 (2 ^ 16),
   .mdioWindowRead 32 false,
   .mdioWindowWrite 32 0,
   .mdioWindowWrite 0 (2 ^ 16),
   .mdioErrorRead 32,
   .mmdAccess 32 0 0 none,
   .mmdAccess 0 32 0 none,
   .mmdAccess 0 0 (2 ^ 16) none,
   .mmdAccess 0 0 0 (some (2 ^ 16)),
   .pilotCycleStart [{ line := 128, skew := 0, gain := 0, offset := 0 }],
   .symbolTx 64 [],
   .symbolTx 1 [⟨128, [], false⟩],
   .symbolTx 1 [⟨0, [256], false⟩],
   .symbolRx 64 [] [] [] [] [],
   .symbolRx 1 [⟨128, List.replicate 576 0⟩] [] [] [] [],
   .symbolRx 1 [⟨0, List.replicate 575 0⟩] [] [] [] [],
   .symbolRx 1 [⟨0, List.replicate 576 2048⟩] [] [] [] [],
   .symbolRx 1 [] [128] [] [] [],
   .symbolRx 1 [] [] [128] [] [],
   .symbolRx 1 [] [] [] [128] [],
   .symbolRx 1 [] [] [] [] [⟨128, [], false⟩],
   .symbolRx 1 [] [] [] [] [⟨0, [256], false⟩]]

/-- Ill-formed terms, part 2. -/
def illFormed2 : List Instr :=
  [.dtuBufferExpire 128 0,
   .dtuBufferExpire 0 (2 ^ 16),
   .dtuGiveUp 128,
   .beaconErasureEnd 16,
   .calGapAgreeTimeout 128,
   .calGapStampLower 128,
   .calGapStart 128,
   .calGapEnd 128,
   .deltaAverage 128 0,
   .taAdjust 128,
   .arrivalOutOfBand 128,
   .overheadWordRx 128 1 0,
   .overheadWordRx 0 0 0,
   .overheadWordRx 0 64 0,
   .sealMessageRx 128 (List.replicate 27 0),
   .sealMessageRx 0 [],
   .sealMessageRx 0 (List.replicate 27 256),
   .loadMessageRx 128 (List.replicate 27 0),
   .loadMessageRx 0 [],
   .loadMessageRx 0 (List.replicate 27 256),
   .timingMessageRx 128 0,
   .timingMessageRx 0 256,
   .hoststatRx 128 (List.replicate 4 0),
   .hoststatRx 0 [],
   .hoststatRx 0 (List.replicate 4 256),
   .xengineDmaClear 128,
   .deadLineInactive 128,
   .scrubStep [(4, 0, false)],
   .scrubStep [(0, 2 ^ 21, false)],
   .nxtUeRecoveryEnd 128 0]

/-- Ill-formed terms, part 3. -/
def illFormed3 : List Instr :=
  [.nxtUeRecoveryEnd 0 128,
   .xwindowLand 0 [(128, false)],
   .lineEnable 128,
   .lineDisable .mspi 128 0,
   .beaconSlot 128,
   .beaconRx 128 [],
   .beaconRx 0 [256],
   .answerRx 128 [] 0,
   .answerRx 0 [256] 0,
   .answerRx 0 [] (2 ^ 24),
   .noanswerTimeout 128,
   .quietHoldExpire 128,
   .offerRx 128 [],
   .offerRx 0 [256],
   .offerRepeat 128,
   .acceptRx 128 [],
   .acceptRx 0 [256],
   .goRx 128 [],
   .goRx 0 [256],
   .abortRx 128 [],
   .abortRx 0 [256],
   .handshakeTimeout 128,
   .rangingBlockEnd 128 0 0 false,
   .rangingBlockEnd 0 (16 + 1) 0 false,
   .rangingDecisionTimeout 128,
   .pilotWordRx 128 0,
   .pilotWordRx 0 (2 ^ 64),
   .tailRangingTimeout 128,
   .tailJoinDetect 128,
   .joinwaitTimeout 128]

/-- Ill-formed terms, part 4. -/
def illFormed4 : List Instr :=
  [.trainingStep 128,
   .trainingEnd 128,
   .trainTimeout 128,
   .loadingTimeout 128,
   .overheadLoss 128,
   .lineRetrain .mspi 128 0,
   .portDropTimeout 128,
   .retrainRejoin 128 0,
   .retrainLoadSend 128,
   .retrainEntryPropose 128,
   .retrainAttemptTimeout 128,
   .retrainGiveUp 128,
   .lineRestart .mspi 128 0,
   .losDetect 128,
   .bankRequest .mspi 128 0,
   .autobankExpire 128,
   .wakeRequest .mspi 128 0,
   .wakeNoResponse 128,
   .wakeResume 128,
   .reachTxStart 128,
   .blankingEnd 128,
   .preambleDetected 128 [] 0,
   .syncConfirm 128 [] ⟨0, 0, 0⟩,
   .headerDone 128 0,
   .headerDone 0 (2 ^ 32),
   .packetRxDone 128 [],
   .packetRxDone 0 [256],
   .replyTimeout 128,
   .alarmWindowDue 128,
   .alarmWindowOpen 128]

/-- Ill-formed terms, part 5. -/
def illFormed5 : List Instr :=
  [.alarmWindowClose 128,
   .pollDue 128 0,
   .reachRecordRx 128 [] [0, 0, 0, 0],
   .reachRecordRx 0 [256] [0, 0, 0, 0],
   .reachRecordRx 0 [] [0],
   .reachMaskWaitEnd 128,
   .monitorPresetWrite .mspi 128 0,
   .monitorNcoWrite .mspi 128 0,
   .syncrstArm .mspi 128 0,
   .syncrstCancel .mspi 128 0,
   .syncResetLand 128 0,
   .bankSwap .mspi 128 0,
   .fadeDone 128 [],
   .fadeDone 0 [2048],
   .fadeDone 0 [-2049],
   .bankTapWrite .mspi 128 0 0 0,
   .rmsBlockEnd 128 [],
   .rmsBlockEnd 0 [2048],
   .rmsBlockEnd 0 [-2049],
   .captureRequest .mspi 128 0,
   .captureTrigger 128 [],
   .captureTrigger 0 [2048],
   .captureTrigger 0 [-2049],
   .captureDone 128 [],
   .captureDone 0 [2048],
   .captureDone 0 [-2049],
   .captureTimeout 128,
   .counterClear .mspi 128 0,
   .snrWatchWrite .mspi 128 0,
   .reflectRequest .mspi 128 0,
   .reflectSlotGrant 128]

/-- Ill-formed terms, part 6. -/
def illFormed6 : List Instr :=
  [.reflectDone 128 0 ⟨List.replicate 1024 (0, 0), List.replicate 1024 (0, 0), [], -1000⟩,
   .reflectDone 0 1 ⟨List.replicate 1024 (0, 0), List.replicate 1024 (0, 0), [], -1000⟩,
   .reflectDone 0 0 ⟨List.replicate 1023 (0, 0), List.replicate 1024 (0, 0), [], -1000⟩,
   .reflectDone 0 0 ⟨List.replicate 1024 (0, 0), List.replicate 1023 (0, 0), [], -1000⟩,
   .driverOvercurrent 128,
   .clrcodeWrite .mspi 4 0,
   .rangeSwitchSymbol 128,
   .calRequest .mspi 128 0,
   .calSlotGrant 4,
   .calRunDone 128 ⟨0, 0, 0, false, List.replicate 67 0, List.replicate 9 0, 0, 0, 0, 0, 0, []⟩,
   .calRunDone 0 ⟨0, 0, 0, false, List.replicate 66 0, List.replicate 9 0, 0, 0, 0, 0, 0, []⟩,
   .calRunDone 0 ⟨0, 0, 0, false, List.replicate 67 0, List.replicate 8 0, 0, 0, 0, 0, 0, []⟩,
   .calRunTimeout 128,
   .calRetryDue 128,
   .calHoldoffEnd 128,
   .calApplyStep 128,
   .anRestart .mspi 128 0,
   .anWindowEnd 128,
   .beaconWindowEnd 128,
   .flpQualified 128,
   .altResumeTimeout 128,
   .stdLinkUp 128,
   .stdLinkDown 128 0,
   .stdFastRetrain 128 false 0,
   .lpiEnter 128 false,
   .laneDetectProbe 32 false,
   .laneTrainEnd 32 0,
   .laneLock 32 0,
   .exchangeAcceptRx 32 0,
   .exchangeAcceptRx 0 (2 ^ 48)]

/-- Ill-formed terms, part 7. -/
def illFormed7 : List Instr :=
  [.exchangeTimeout 32,
   .laneLos 32,
   .laneLol 32,
   .blockLockLoss 32,
   .laneRestart .mspi 32 0,
   .laneLoopWrite .mspi 32 0,
   .laneRateChange .mspi 32 0,
   .eqEntryWrite .mspi 16 0,
   .amBlock 32,
   .hostBlockRx 32 0 0 0,
   .hostBlockRx 0 4 0 0,
   .hostBlockRx 0 0 4 0,
   .hostBlockRx 0 0 0 (2 ^ 64),
   .pauseRepeat 128,
   .pauseXon 128,
   .stampGrant 128,
   .stampResend 128,
   .hoststatSend 128,
   .hoststatTimeout 128,
   .syncInEdge 0 (2 ^ 16),
   .pllLock 7,
   .pllUnlock 7,
   .muxHang 2,
   .avsCurrentRead (2 + 1) 0 false,
   .avsCurrentRead 0 (2 ^ 16) false,
   .vxConfirmed ⟨0, 2 ^ 16⟩,
   .vxConfirmTimeout 0 (2 ^ 16),
   .tempSample [],
   .ctempMinmaxClear .mspi 4 0,
   .wakeEnergy 128]

/-- Ill-formed terms, part 8. -/
def illFormed8 : List Instr :=
  [.wakeNotReady 8,
   .clockGateTimeout [⟨64, 0, 0⟩],
   .clockGateTimeout [⟨0, 8, 0⟩],
   .clockGateTimeout [⟨0, 0, 2 ^ 32⟩],
   .faultSample [⟨256, 0, 0, 0⟩],
   .faultSample [⟨0, 4, 0, 0⟩],
   .faultSample [⟨0, 0, 256, 0⟩],
   .railDisagree 256 0,
   .railDisagree 0 4,
   .fenceRecoveryEnd 64,
   .pinHoldEnd 2,
   .ibHoldEnd 512,
   .pairSet .mspi 128 0,
   .saInstall .mspi 128 0 0,
   .saInstall .mspi 0 6 0,
   .railGood 8,
   .railTrip 0,
   .railTrip 8,
   .cpllRelockTimeout 4,
   .reflectSlotTimeout 128,
   .reachTxEnd 128,
   .autonegComplete 128 { speeds := 0, eee := 0, fastRetrain := false, base := 0, eeeWord := 0, mgbt := 0, crossed := false },
   .autonegComplete 0 { speeds := 32, eee := 0, fastRetrain := false, base := 0, eeeWord := 0, mgbt := 0, crossed := false },
   .autonegComplete 0 { speeds := 0, eee := 32, fastRetrain := false, base := 0, eeeWord := 0, mgbt := 0, crossed := false },
   .partnerLpi 128 false false,
   .monitorSettled 128 [],
   .monitorSettled 0 [2048],
   .monitorSettled 0 [-2049],
   .detectorOver 128 [],
   .detectorOver 0 [2048]]

/-- Ill-formed terms, part 9. -/
def illFormed9 : List Instr :=
  [.detectorOver 0 [-2049]]

/-- Each check of WellFormed refuses a term that breaks it and it alone. -/
theorem test_illFormed_refused : ∀ c ∈ illFormed0 ++ illFormed1 ++ illFormed2 ++ illFormed3 ++ illFormed4 ++ illFormed5 ++ illFormed6 ++ illFormed7 ++ illFormed8 ++ illFormed9, c.wf = false := by decide +kernel

/-- Well-formed terms, part 0. -/
def wellFormed0 : List Instr :=
  [.registerWrite .mspi 0 4 0,
   .counterLoRead .mspi 0,
   .softReset .mspi .hearth 0 0,
   .pageLockWrite .mspi .hearth 0 0,
   .pageFreeze .mspi .hearth 0 0,
   .evtPendClear .mspi .hearth 0 0 0,
   .evtInject .mspi .hearth 0 0 0,
   .evtCountClr .mspi .hearth 0 0,
   .envPost .mspi .hearth 0 0,
   .envDiscard .mspi .hearth 0 0,
   .postLands .hearth 0,
   .sealedNegotiationStart 0,
   .sealConfirm 0,
   .leaseRevoke 0 0 0 0,
   .mspiWrite 0 [] false,
   .mspiRead 0 1 false,
   .mspiBadCommand 0,
   .mreqRead 0 0 0 1,
   .mreqWrite 0 0 0 [0],
   .mreqIncomplete 0 0,
   .mdioWindowRead 0 false,
   .mdioWindowWrite 0 0,
   .mdioErrorRead 0,
   .mmdAccess 0 0 0 none,
   .pilotCycleStart [],
   .symbolTx 1 [],
   .symbolRx 1 [] [] [] [] [],
   .dtuBufferExpire 0 0,
   .dtuGiveUp 0,
   .beaconErasureEnd 0]

/-- Well-formed terms, part 1. -/
def wellFormed1 : List Instr :=
  [.calGapAgreeTimeout 0,
   .calGapStampLower 0,
   .calGapStart 0,
   .calGapEnd 0,
   .deltaAverage 0 0,
   .taAdjust 0,
   .arrivalOutOfBand 0,
   .overheadWordRx 0 1 0,
   .sealMessageRx 0 (List.replicate 27 0),
   .loadMessageRx 0 (List.replicate 27 0),
   .timingMessageRx 0 0,
   .hoststatRx 0 (List.replicate 4 0),
   .xengineDmaClear 0,
   .deadLineInactive 0,
   .scrubStep [],
   .nxtUeRecoveryEnd 0 0,
   .xwindowLand 0 [],
   .lineEnable 0,
   .lineDisable .mspi 0 0,
   .beaconSlot 0,
   .beaconRx 0 [],
   .answerRx 0 [] 0,
   .noanswerTimeout 0,
   .quietHoldExpire 0,
   .offerRx 0 [],
   .offerRepeat 0,
   .acceptRx 0 [],
   .goRx 0 [],
   .abortRx 0 [],
   .handshakeTimeout 0]

/-- Well-formed terms, part 2. -/
def wellFormed2 : List Instr :=
  [.rangingBlockEnd 0 0 0 false,
   .rangingDecisionTimeout 0,
   .pilotWordRx 0 0,
   .tailRangingTimeout 0,
   .tailJoinDetect 0,
   .joinwaitTimeout 0,
   .trainingStep 0,
   .trainingEnd 0,
   .trainTimeout 0,
   .loadingTimeout 0,
   .overheadLoss 0,
   .lineRetrain .mspi 0 0,
   .portDropTimeout 0,
   .retrainRejoin 0 0,
   .retrainLoadSend 0,
   .retrainEntryPropose 0,
   .retrainAttemptTimeout 0,
   .retrainGiveUp 0,
   .lineRestart .mspi 0 0,
   .losDetect 0,
   .bankRequest .mspi 0 0,
   .autobankExpire 0,
   .wakeRequest .mspi 0 0,
   .wakeNoResponse 0,
   .wakeResume 0,
   .reachTxStart 0,
   .blankingEnd 0,
   .preambleDetected 0 [] 0,
   .syncConfirm 0 [] ⟨0, 0, 0⟩,
   .headerDone 0 0]

/-- Well-formed terms, part 3. -/
def wellFormed3 : List Instr :=
  [.packetRxDone 0 [],
   .replyTimeout 0,
   .alarmWindowDue 0,
   .alarmWindowOpen 0,
   .alarmWindowClose 0,
   .pollDue 0 0,
   .reachRecordRx 0 [] [0, 0, 0, 0],
   .reachMaskWaitEnd 0,
   .monitorPresetWrite .mspi 0 0,
   .monitorNcoWrite .mspi 0 0,
   .syncrstArm .mspi 0 0,
   .syncrstCancel .mspi 0 0,
   .syncResetLand 0 0,
   .bankSwap .mspi 0 0,
   .fadeDone 0 [],
   .bankTapWrite .mspi 0 0 0 0,
   .rmsBlockEnd 0 [],
   .captureRequest .mspi 0 0,
   .captureTrigger 0 [],
   .captureDone 0 [],
   .captureTimeout 0,
   .counterClear .mspi 0 0,
   .snrWatchWrite .mspi 0 0,
   .reflectRequest .mspi 0 0,
   .reflectSlotGrant 0,
   .reflectDone 0 0 ⟨List.replicate 1024 (0, 0), List.replicate 1024 (0, 0), [], -1000⟩,
   .driverOvercurrent 0,
   .clrcodeWrite .mspi 0 0,
   .rangeSwitchSymbol 0,
   .calRequest .mspi 0 0]

/-- Well-formed terms, part 4. -/
def wellFormed4 : List Instr :=
  [.calSlotGrant 0,
   .calRunDone 0 ⟨0, 0, 0, false, List.replicate 67 0, List.replicate 9 0, 0, 0, 0, 0, 0, []⟩,
   .calRunTimeout 0,
   .calRetryDue 0,
   .calHoldoffEnd 0,
   .calApplyStep 0,
   .anRestart .mspi 0 0,
   .anWindowEnd 0,
   .beaconWindowEnd 0,
   .flpQualified 0,
   .altResumeTimeout 0,
   .stdLinkUp 0,
   .stdLinkDown 0 0,
   .stdFastRetrain 0 false 0,
   .lpiEnter 0 false,
   .laneDetectProbe 0 false,
   .laneTrainEnd 0 0,
   .laneLock 0 0,
   .exchangeAcceptRx 0 0,
   .exchangeTimeout 0,
   .laneLos 0,
   .laneLol 0,
   .blockLockLoss 0,
   .laneRestart .mspi 0 0,
   .laneLoopWrite .mspi 0 0,
   .laneRateChange .mspi 0 0,
   .eqEntryWrite .mspi 0 0,
   .amBlock 0,
   .hostBlockRx 0 0 0 0,
   .pauseRepeat 0]

/-- Well-formed terms, part 5. -/
def wellFormed5 : List Instr :=
  [.pauseXon 0,
   .stampGrant 0,
   .stampResend 0,
   .hoststatSend 0,
   .hoststatTimeout 0,
   .syncInEdge 0 0,
   .pllLock 0,
   .pllUnlock 0,
   .muxHang 0,
   .avsCurrentRead 0 0 false,
   .vxConfirmed ⟨0, 0⟩,
   .vxConfirmTimeout 0 0,
   .tempSample (List.replicate 8 0),
   .ctempMinmaxClear .mspi 0 0,
   .wakeEnergy 0,
   .wakeNotReady 0,
   .clockGateTimeout [],
   .faultSample [],
   .railDisagree 0 0,
   .fenceRecoveryEnd 0,
   .pinHoldEnd 0,
   .ibHoldEnd 0,
   .pairSet .mspi 0 0,
   .saInstall .mspi 0 0 0,
   .railGood 0,
   .railTrip 1,
   .cpllRelockTimeout 0,
   .reflectSlotTimeout 0,
   .reachTxEnd 0,
   .autonegComplete 0 { speeds := 0, eee := 0, fastRetrain := false, base := 0, eeeWord := 0, mgbt := 0, crossed := false }]

/-- Well-formed terms, part 6. -/
def wellFormed6 : List Instr :=
  [.partnerLpi 0 false false,
   .monitorSettled 0 [],
   .detectorOver 0 []]

/-- The terms above with every operand in range are well formed: it is the broken operand that is refused. -/
theorem test_wellFormed_accepted : ∀ c ∈ wellFormed0 ++ wellFormed1 ++ wellFormed2 ++ wellFormed3 ++ wellFormed4 ++ wellFormed5 ++ wellFormed6, c.wf = true := by decide +kernel

/-! ### Small states -/

/-- A device at rest: clocks locked, booted, calibrated, the three sessions open with MAINTAIN. -/
def up : State :=
  { State.reset with
    clk := { csrc := .spll, running := true, kosc := .good, ref := .good, locked := [0, 1, 2, 3, 4, 5, 6],
             started := [0, 1, 2, 3, 4, 5, 6], coldStep := 6, calDone := true, bootDone := true,
             identReady := true, grid := true, resetHeld := false }
    mgmt := { sessions := [(0, { isOpen := true, role := 2 }), (1, { isOpen := true, role := 2, nonce := 1 }),
                           (2, { isOpen := true, role := 2, nonce := 2 })] }
    trust := { slots := shippedSlots, images := shippedImages, bootState := 3 }
    sfc := 300 }

/-- A line of a mode, with what stands behind its pages. -/
def ln (mode l : Nat) (x : LineX) : State := (up.wr LCTL.MODE.SEL mode l).setLine l x

/-- The same with the state of its port. -/
def pt (mode l : Nat) (x : LineX) (p : PortX) : State := (ln mode l x).setPort l p

/-- A line in a state, with what its Reach modem holds. -/
def rch (l : Nat) (st : LineState) (x : ReachX) : State := (up.setLine l { st := st }).modReach l fun _ => x

/-- A line in a state, with what its monitor holds. -/
def mon (l : Nat) (x : MonX) : State := (up.setLine l { st := .showtime }).modMon l fun _ => x

/-- A line with what its calibration holds. -/
def cal (l : Nat) (x : CalX) : State := up.modCal l fun _ => x


/-- A window at spreading factor 7 with the samples ns of a chirp of value v, the others 0. -/
def win (up : Bool) (v : Nat) (ns : List Nat) : Window :=
  (List.range 128).map fun n =>
    if n ∈ ns then ((chirpSample 7 up v n).re, (chirpSample 7 up v n).im) else (0, 0)

/-- A line in REACH at spreading factor 7 with the lowest threshold, its receiver in a state. -/
def rcv (l rxs : Nat) (x : ReachX) : State :=
  ((((rch l .reach x).wr LREACH.PROFILE.SF 7 l).wr LREACH.DETECT.TH 0 l).wr LREACH.DETECT.PCHIRPS 3 l).wr LREACH.STATUS.RXSTATE rxs l

/-- A line whose monitor runs STEP and stands before its last ADC code of a window. -/
def step4 (l : Nat) (x : MonX) : State := (mon l { x with ticks := 2047 }).wr LMON.CHAIN.PRESET 4 l

/-- The same with in-band management on lane 0 and role VENDOR on every channel. -/
def upI : State :=
  { (up.wr LANE.STATUS.STATE 5 0).wr LANE.STATUS.CAPS 15 0 with
    mgmt := { up.mgmt with sessions := [(0, { isOpen := true, role := 3, slot := 7 }),
                                        (1, { isOpen := true, role := 3, slot := 7, nonce := 1 }),
                                        (2, { isOpen := true, role := 3, slot := 7, nonce := 2 })] } }

/-- The same with a line of a mode and the state of its port. -/
def upV (mode l : Nat) (x : LineX) (p : PortX) : State := ((upI.wr LCTL.MODE.SEL mode l).setLine l x).setPort l p

/-! ### Worked examples and check values -/

/-- R14, R28, R31: the addresses of LCTL[37].MODE.SEL and of LDIAG[39].REQ and LAFE[97].CTRL, from the worked examples. -/
theorem test_addresses : LCTL.MODE.SEL.addr 37 0 = 0x01128040 ∧ LDIAG.REQ.REFLECT.addr 39 0 = 0x0113D040 ∧
    LAFE.CTRL.RANGE.addr 97 0 = 0x0130E040 ∧ PORTMAP.QUADS.QUAD0.addr 0 1 = 0xC044 := by decide

/-- The range-change example of 08_front_end_calibration: LAFE[97].CTRL reads 0x0294000C with RANGE HIGH, PGA_AUTO 1, PGA 0x14 and TXMASK 12. -/
theorem test_afe_control : ((up.wr LAFE.CTRL.TXMASK 12 97).wr LAFE.CTRL.PGA 0x14 97).readWord .lafe 97 0x040 = 0x0294000C := by
  decide +kernel

/-- The PLOAD example of 03_line_symbol: B = 6,324 leaves 12 codewords and 180 fill bits and reads 0x18B40B4C. -/
theorem test_pload : (((up.wr PORT_CTL.PLOAD.B 6324 40).wr PORT_CTL.PLOAD.CW (6324 / 512) 40).wr PORT_CTL.PLOAD.FILL
    (6324 % 512) 40).readWord .port_ctl 40 PORT_CTL.PLOAD.B.off = 0x18B40B4C := by decide +kernel

/-- R85, R86 at the same port: the Bulk bound is 2,111 ns and Δ 4,093 ns at a round trip of 1,788 ns. -/
theorem test_bulk_bound : bulkBound 6324 = 2111 ∧ retransmitTime 6324 1788 = 4093 := by decide

/-- R159: the Net values of NETID 0x5B at SF12. -/
theorem test_net_values : netValues 12 0x5B = (2944, 1408) := by decide

/-- The gate-alarm example of 06_reach_mode: a 16-byte ALARM at SF12, CR 1/2 has 12 chirps, 6 header chirps and 28 payload chirps, 58.88 ms. -/
theorem test_alarm_airtime : (packetChirps 0 12 0 0 (List.replicate 16 0)).length = 46 ∧ airtime 12 0 46 = 58880000 := by
  decide +kernel

/-- The check values of the two CRCs over the digits 1 to 9, most significant bit first. -/
theorem test_crc : crc16 ([49, 50, 51, 52, 53, 54, 55, 56, 57].flatMap (msbBits 8)) = 0x29B1 ∧
    crc32 ([49, 50, 51, 52, 53, 54, 55, 56, 57].flatMap (msbBits 8)) = 0xFC891918 := by decide +kernel

/-- The closure-day example of 11_hearth_clocks_power: stage 4 refused by the letterbox of the MSPI channel reads 0x4A010001. -/
theorem test_refuse : ((((up.wr HEARTH.REFUSE.STAGE 4).wr HEARTH.REFUSE.REASON 10).wr HEARTH.REFUSE.INSTANCE 1).wr
    HEARTH.REFUSE.COUNT 1).readWord .hearth 0 HEARTH.REFUSE.STAGE.off = 0x4A010001 := by decide +kernel

/-- The index of NXT[40, 60, 61], from the worked example of 12_faults_events. -/
theorem test_matrix_index : coefKey 0 40 60 61 % 2 ^ 21 = 0xA1E3D := by decide

/-- A command at the front of the queue is the one that step runs. -/
theorem test_step_front : (match step { up with pending := [.txclrAssert, .txclrRelease] } with
    | .next t => t.pending == [.txclrRelease] && t.g CALMGR.STAT.TXCLR == 1
    | _ => false) = true := by decide +kernel

/-- A command that names a line which does not exist faults. -/
theorem test_no_such_line : (match exec (.beaconSlot 128) up with
    | .fault (.noSuchPart _ _) => true
    | _ => false) = true := by decide +kernel

/-- The lands of R365 to R368 on each rail. -/
theorem test_rail_lands : (List.range 8).map railLands = [145, 772, 188, 94, 32, 15, 48, 6] := by decide +kernel

/-! ### Witnesses of the obligations' hypotheses -/

/-- States and operands that meet the hypotheses of LineTimeoutsToQuiet, clause by clause. -/
theorem wit_LineTimeoutsToQuiet :
    (∃ (s : State) (l : Nat), l < 128 ∧ s.fault.s3 = false ∧ ((s.line l).st = LineState.handshake) ∧
      ((s.line l).goSent = false)) ∧
    (∃ (s : State) (l : Nat), l < 128 ∧ s.fault.s3 = false ∧ s.isVHead l = true ∧
      ((s.line l).st = LineState.ranging) ∧ ((s.line l).sub = 0)) ∧
    (∃ (s : State) (l : Nat), l < 128 ∧ s.fault.s3 = false ∧ s.isVTail l = true ∧
      ((s.line l).st = LineState.ranging) ∧ ((s.line l).sub = 0)) ∧
    (∃ (s : State) (l : Nat), l < 128 ∧ s.fault.s3 = false ∧ s.isVHead l = true ∧
      ((s.line l).st = LineState.ranging) ∧ ((s.line l).sub = 1)) ∧
    (∃ (s : State) (l : Nat), l < 128 ∧ s.fault.s3 = false ∧ ((s.line l).st = LineState.training)) ∧
    (∃ (s : State) (l : Nat), l < 128 ∧ s.fault.s3 = false ∧ ((s.line l).st = LineState.loading)) :=
  ⟨⟨ln 1 127 { st := .handshake }, 127, by decide +kernel⟩,
   ⟨ln 1 127 { st := .ranging }, 127, by decide +kernel⟩,
   ⟨ln 2 127 { st := .ranging }, 127, by decide +kernel⟩,
   ⟨ln 1 127 { st := .ranging, sub := 1 }, 127, by decide +kernel⟩,
   ⟨ln 1 127 { st := .training }, 127, by decide +kernel⟩,
   ⟨ln 1 127 { st := .loading }, 127, by decide +kernel⟩⟩

/-- States and operands that meet the hypotheses of LineAborts, clause by clause. -/
theorem wit_LineAborts :
    (∃ (s : State) (l : Nat) (m : List Nat), l < 128 ∧ s.dspRuns = true ∧ s.isV l = true ∧
      ((s.line l).st = LineState.handshake) ∧ isMessage m 4 31 = true ∧ m.getD 2 0 ≠ rsPairFail) ∧
    (∃ (s : State) (l : Nat), l < 128 ∧ s.dspRuns = true ∧ s.isVHead l = true ∧
      ((s.line l).st = LineState.training ∨ (s.line l).st = LineState.loading ∨ (s.line l).st = LineState.joining ∧
      (s.line l).sub = 1)) :=
  ⟨⟨ln 2 0 { st := .handshake }, 0, [31, 1, 5, 0], by decide +kernel⟩,
   ⟨ln 1 3 { st := .joining, sub := 1 }, 3, by decide +kernel⟩⟩

/-- States and operands that meet the hypotheses of LineRetrains, clause by clause. -/
theorem wit_LineRetrains :
    (∃ (s : State) (l : Nat), l < 128 ∧ s.dspRuns = true ∧ s.isVHead l = true ∧
      ((s.line l).st = LineState.showtime ∨ (s.line l).st = LineState.banked)) ∧
    (∃ (s : State) (l : Nat), l < 128 ∧ s.dspRuns = true ∧ s.isV l = true ∧ ((s.line l).st = LineState.showtime) ∧
      (17 ≤ (s.line l).ohBad)) :=
  ⟨⟨ln 1 3 { st := .banked }, 3, by decide +kernel⟩,
   ⟨ln 2 3 { st := .showtime, ohBad := 17 }, 3, by decide +kernel⟩⟩

/-- States and operands that meet the hypotheses of BeaconCycle, clause by clause. -/
theorem wit_BeaconCycle :
    (∃ (s : State) (l : Nat), l < 128 ∧ s.enabled Page.lctl l = true ∧ s.mode l ≠ 0 ∧ ((s.line l).st = LineState.off)) ∧
    (∃ (s : State) (l : Nat), l < 128 ∧ ((s.line l).st = LineState.beacon) ∧ (s.noKey (s.anchor l) = false) ∧
      s.modemFree l = true ∧ ((s.reachX l).beaconOpen = false) ∧ s.beaconsRun = true ∧ s.lineRuns l = true) ∧
    (∃ (s : State) (l : Nat), l < 128 ∧ ((s.line l).st = LineState.beacon) ∧ s.fault.s3 = false) ∧
    (∃ (s : State) (l : Nat), l < 128 ∧ s.isVHead l = true ∧ ((s.line l).st = LineState.quiet) ∧
      s.enabled Page.lctl l = true ∧ (s.noKey (s.anchor l) = false) ∧ s.fault.s3 = false) :=
  ⟨⟨ln 1 127 {}, 127, by decide +kernel⟩,
   ⟨ln 1 127 { st := .beacon }, 127, by decide +kernel⟩,
   ⟨ln 1 127 { st := .beacon }, 127, by decide +kernel⟩,
   ⟨ln 1 127 { st := .quiet, hold := 2 }, 127, by decide +kernel⟩⟩

/-- States and operands that meet the hypotheses of HeadHandshake, clause by clause. -/
theorem wit_HeadHandshake :
    (∃ (s : State) (l : Nat) (m : List Nat), l < 128 ∧ s.dspRuns = true ∧ s.isVHead l = true ∧
      ((s.line l).st = LineState.beacon) ∧ isMessage m 56 18 = true) ∧
    (∃ (s : State) (l : Nat), l < 128 ∧ s.dspRuns = true ∧ s.isVHead l = true ∧
      ((s.line l).st = LineState.handshake) ∧ ((s.line l).goSent = false)) ∧
    (∃ (s : State) (l : Nat) (m : List Nat), l < 128 ∧ s.dspRuns = true ∧ s.isVHead l = true ∧
      ((s.line l).st = LineState.handshake) ∧ ((s.line l).offered = true) ∧ isMessage m 36 20 = true ∧
      ((s.line l).pairReq = false ∨ s.tailProofAtHead l = some (field m 2 32)) ∧ ((s.line l).taC ≤ 2 ^ 20 - 1)) ∧
    (∃ (s : State) (l : Nat) (avg : Int), l < 128 ∧ s.dspRuns = true ∧ s.isVHead l = true ∧
      ((s.line l).st = LineState.ranging) ∧ ((s.line l).sub = 0) ∧ 0 ≤ avg ∧ avg ≤ 960) :=
  ⟨⟨ln 1 127 { st := .beacon }, 127, ([18, 1] ++ List.replicate 54 7), by decide +kernel⟩,
   ⟨ln 1 127 { st := .handshake, offered := true }, 127, by decide +kernel⟩,
   ⟨ln 1 127 { st := .handshake, offered := true }, 127, ([20, 1] ++ List.replicate 34 7), by decide +kernel⟩,
   ⟨ln 1 127 { st := .ranging }, 127, 960, by decide +kernel⟩⟩

/-- States and operands that meet the hypotheses of TailHandshake, clause by clause. -/
theorem wit_TailHandshake :
    (∃ (s : State) (l : Nat) (m : List Nat), l < 128 ∧ s.dspRuns = true ∧ s.isVTail l = true ∧
      ((s.line l).st = LineState.quiet) ∧ isMessage m 24 17 = true ∧ (s.noKey (s.anchor l) = false) ∧
      ((s.calX l).st = 4)) ∧
    (∃ (s : State) (l : Nat) (m : List Nat), l < 128 ∧ s.dspRuns = true ∧ s.isVTail l = true ∧
      ((s.line l).st = LineState.quiet) ∧ isMessage m 24 17 = true ∧ (s.noKey (s.anchor l) = false) ∧
      ((s.calX l).st ≠ 4)) ∧
    (∃ (s : State) (l : Nat) (m : List Nat), l < 128 ∧ s.dspRuns = true ∧ s.isVTail l = true ∧
      ((s.line l).st = LineState.handshake) ∧ isMessage m 92 19 = true ∧ (bit (m.getD 43 0) 0 = false) ∧
      (s.g PORT_SEC.PAIR_CTRL.REQUIRED (s.anchor l) = 0)) ∧
    (∃ (s : State) (l : Nat) (m : List Nat), l < 128 ∧ s.dspRuns = true ∧ s.isVTail l = true ∧
      ((s.line l).st = LineState.handshake ∨ (s.line l).st = LineState.ranging) ∧ ((s.line l).proofOk = true) ∧
      isMessage m 8 21 = true) ∧
    (∃ (s : State) (l : Nat) (w : Nat) (corr : Int) (p : Nat), l < 128 ∧ s.dspRuns = true ∧ s.isVTail l = true ∧
      (pilotWordFields (w % 2 ^ 64) = some (165, corr, p)) ∧ ((s.line l).st = LineState.ranging) ∧
      ((s.line l).sub = 0)) ∧
    (∃ (s : State) (l : Nat), l < 128 ∧ s.dspRuns = true ∧ s.isVTail l = true ∧ ((s.line l).st = LineState.ranging) ∧
      ((s.line l).sub = 1)) :=
  ⟨⟨(ln 2 127 { st := .quiet }).modCal 127 fun x => { x with st := 4 }, 127, ([17, 1] ++ List.replicate 22 7), by decide +kernel⟩,
   ⟨ln 2 127 { st := .quiet }, 127, ([17, 1] ++ List.replicate 22 7), by decide +kernel⟩,
   ⟨ln 2 127 { st := .handshake }, 127, ([19, 1] ++ List.replicate 90 6), by decide +kernel⟩,
   ⟨ln 2 127 { st := .ranging, proofOk := true }, 127, [21, 1, 1, 2, 3, 4, 5, 6], by decide +kernel⟩,
   ⟨ln 2 127 { st := .ranging }, 127, pilotWord 165 (-5) 600, -5, 600, by decide +kernel⟩,
   ⟨ln 2 127 { st := .ranging, sub := 1 }, 127, by decide +kernel⟩⟩

/-- States and operands that meet the hypotheses of TrainingAndLoading, clause by clause. -/
theorem wit_TrainingAndLoading :
    (∃ (s : State) (l : Nat), l < 128 ∧ s.dspRuns = true ∧ ((s.line l).st = LineState.training) ∧
      (s.pageSfc Page.ltrain l = sfcAdd (s.line l).trainStart 1) ∧ s.g LAFE.CTRL.PGA_AUTO l = 1 ∧
      s.settledPga l < 128) ∧
    (∃ (s : State) (l : Nat), l < 128 ∧ s.dspRuns = true ∧ ((s.line l).st = LineState.training) ∧
      ((s.line l).sub = 0) ∧ (sfcCome (sfcAdd (s.line l).trainStart 7) (s.pageSfc Page.ltrain l) = true) ∧
      (s.pageSfc Page.ltrain l ≠ sfcAdd (s.line l).trainStart 1)) :=
  ⟨⟨(ln 1 127 { st := .training, trainStart := 299 }).wr LAFE.CTRL.PGA_AUTO 1 127, 127, by decide +kernel⟩,
   ⟨ln 1 127 { st := .training, trainStart := 293 }, 127, by decide +kernel⟩⟩

/-- States and operands that meet the hypotheses of RetrainAttempt, clause by clause. -/
theorem wit_RetrainAttempt :
    (∃ (s : State) (l : Nat) (avg : Int), l < 128 ∧ s.isVHead l = true ∧ ((s.line l).st = LineState.retrain) ∧
      ((s.line l).sub = 0) ∧ ((s.line l).rejoin ≠ 0) ∧ (sfcCome (s.line l).rejoin (s.pageSfc Page.ltrain l) = true) ∧
      0 ≤ avg ∧ avg ≤ 128 ∧ s.dspRuns = true) ∧
    (∃ (s : State) (l : Nat), l < 128 ∧ s.isVHead l = true ∧ ((s.line l).st = LineState.retrain) ∧
      ((s.line l).sub = 1) ∧ (sfcCome (sfcAdd (s.line l).trainStart 21) s.sfc = true) ∧
      (carriesOverhead (s.retrainRx l) = true) ∧ (carriesOverhead (s.retrainTx l) = true) ∧ s.dspRuns = true) ∧
    (∃ (s : State) (l : Nat), l < 128 ∧ s.isVHead l = true ∧ ((s.line l).st = LineState.retrain) ∧ s.fault.s3 = false) ∧
    (∃ (s : State) (l : Nat), l < 128 ∧ s.isVHead l = true ∧ ((s.line l).st = LineState.retrain) ∧ s.fault.s3 = false) :=
  ⟨⟨ln 1 127 { st := .retrain, rejoin := 300 }, 127, 128, by decide +kernel⟩,
   ⟨(List.range 8).foldl (fun s k => s.wr LLOAD.TONE.SNR 900 127 (20 + k)) (ln 1 127 { st := .retrain, sub := 1, trainStart := 279, rxTable := (List.range 8).map fun k => (20 + k, 0x6004), txTable := (List.range 8).map fun k => (20 + k, 0x6004) }), 127, by decide +kernel⟩,
   ⟨ln 1 127 { st := .retrain }, 127, by decide +kernel⟩,
   ⟨ln 1 127 { st := .retrain }, 127, by decide +kernel⟩⟩

/-- States and operands that meet the hypotheses of PortProposals, clause by clause. -/
theorem wit_PortProposals :
    (∃ (s : State) (p : Nat) (ls : List Nat), p < 128 ∧ s.isVHead p = true ∧ ((s.port p).neg = none) ∧ ls ≠ [] ∧
      (ls = List.filter (fun (l : Nat) => decide ((s.line l).st = LineState.retrain) && (s.line l).sub == 2 && sfcCome (sfcAdd (s.line l).trainStart 43) s.sfc) (s.portLines p)) ∧
      s.fault.s3 = false) ∧
    (∃ (s : State) (p : Nat), p < 128 ∧ s.isVHead p = true ∧ s.g LTRAIN.CTRL.AUTOBANK p ≠ 0 ∧
      ((s.port p).neg = none) ∧ (∀ l ∈ s.portLines p, (s.line l).st = LineState.showtime) ∧ s.fault.s3 = false) ∧
    (∃ (s : State) (p : Nat), p < 128 ∧ ((s.port p).waking = 1) ∧
      (sfcCome (sfcAdd (s.port p).wakeSfc 2) (s.portSfc p) = true) ∧ ((s.port p).wakeTries < 3) ∧ s.fault.s3 = false) ∧
    (∃ (s : State) (p : Nat), p < 128 ∧ ((s.port p).waking = 1) ∧
      (sfcCome (sfcAdd (s.port p).wakeSfc 2) (s.portSfc p) = true) ∧ ((s.port p).wakeTries = 3) ∧ s.fault.s3 = false) ∧
    (∃ (s : State) (p : Nat), p < 128 ∧ ((s.port p).waking = 2 ∨ (s.port p).waking = 3) ∧
      (sfcCome (sfcAdd (s.port p).wakeSfc 2) (s.portSfc p) = true) ∧ s.fault.s3 = false) ∧
    (∃ (s : State) (p : Nat) (since : Nat), p < 128 ∧ ((s.port p).dropSince = some since) ∧
      (sfcCome (sfcAdd since 32) (s.portSfc p) = true) ∧ s.fault.s3 = false) :=
  ⟨⟨pt 1 127 { st := .retrain, sub := 2, trainStart := 257 } {}, 127, [127], by decide +kernel⟩,
   ⟨(pt 1 127 { st := .showtime } {}).wr LTRAIN.CTRL.AUTOBANK 255 127, 127, by decide +kernel⟩,
   ⟨pt 1 127 { st := .banked } { waking := 1, wakeSfc := 298, wakeTries := 2 }, 127, by decide +kernel⟩,
   ⟨pt 1 127 { st := .banked } { waking := 1, wakeSfc := 298, wakeTries := 3 }, 127, by decide +kernel⟩,
   ⟨pt 1 127 { st := .banked } { waking := 2, wakeSfc := 298 }, 127, by decide +kernel⟩,
   ⟨pt 1 127 { st := .showtime } { dropSince := some 268 }, 127, 268, by decide +kernel⟩⟩

/-- States and operands that meet the hypotheses of ReachTransmits, clause by clause. -/
theorem wit_ReachTransmits :
    (∃ (s : State) (l : Nat) (c : ReachChoice), l < 128 ∧ s.reachIdle l = true ∧
      ((s.draw.2.reachDue l s.draw.1).head? = some c)) ∧
    (∃ (s : State) (l : Nat) (p : ReachPkt), l < 128 ∧ ((s.reachX l).tx = some p) ∧ ((s.reachX l).held = []) ∧
      s.dspRuns = true) ∧
    (∃ (s : State) (l : Nat), l < 128 ∧ s.g LREACH.STATUS.RXSTATE l = 5 ∧ ((s.reachX l).tx = none) ∧
      ((s.reachX l).due = []) ∧ s.dspRuns = true) :=
  ⟨⟨rch 127 .reach { queue := [{ addr := 15, kind := 0, urgent := false, payload := [1] }] }, 127, { pkt := { addr := 15, kind := 0, seq := 1, opens := false, payload := [1], sf := 12, bw := 0, cr := 0 }, kind := 3, index := 0 }, by decide +kernel⟩,
   ⟨rch 127 .reach { tx := some { addr := 3, kind := 0, seq := 0, opens := false, payload := [1], sf := 9, bw := 0, cr := 0 } }, 127, { addr := 3, kind := 0, seq := 0, opens := false, payload := [1], sf := 9, bw := 0, cr := 0 }, by decide +kernel⟩,
   ⟨(rch 127 .reach {}).wr LREACH.STATUS.RXSTATE 5 127, 127, by decide +kernel⟩⟩

/-- States and operands that meet the hypotheses of ReachReceives, clause by clause. -/
theorem wit_ReachReceives :
    (∃ (s : State) (l : Nat) (ws : List Window) (bin : Nat) (power : Int), l < 128 ∧ s.dspRuns = true ∧
      s.modemHears l = true ∧ ((s.reachX l).rx = none) ∧ (s.preambleOf l ws = some (bin, power))) ∧
    (∃ (s : State) (l : Nat) (r : ReachRx) (ws : List Window) (bin : Nat) (power : Int), l < 128 ∧ s.dspRuns = true ∧
      s.modemHears l = true ∧ ((s.reachX l).rx = some r) ∧ (s.preambleOf l ws = some (bin, power)) ∧
      s.g LREACH.STATUS.RXSTATE l = 4 ∧ (power < r.power + 100 * ↑(s.g LREACH.DETECT.CAPMARGIN l))) ∧
    (∃ (s : State) (l : Nat) (x : ReachRx) (ws : List Window), l < 128 ∧ s.dspRuns = true ∧
      ((s.reachX l).rx = some x) ∧ s.g LREACH.STATUS.RXSTATE l = 1 ∧ s.syncGood l x ws = true) ∧
    (∃ (s : State) (l : Nat) (x : ReachRx), l < 128 ∧ s.dspRuns = true ∧ ((s.reachX l).rx = some x) ∧
      s.g LREACH.STATUS.RXSTATE l = 2) ∧
    (∃ (s : State) (l : Nat) (x : ReachRx) (w : Nat), l < 128 ∧ s.dspRuns = true ∧ ((s.reachX l).rx = some x) ∧
      s.g LREACH.STATUS.RXSTATE l = 3 ∧ headerPasses w = true) ∧
    (∃ (s : State) (l : Nat) (x : ReachRx), l < 128 ∧ s.dspRuns = true ∧ ((s.reachX l).rx = some x) ∧
      s.g LREACH.STATUS.RXSTATE l = 4 ∧ ((s.reachX l).held = []) ∧ ((s.reachX l).due = [])) :=
  ⟨⟨rcv 127 0 {}, 127, List.replicate 3 (win true 0 [0, 19, 41, 70, 101]), 0, -2717, by decide +kernel⟩,
   ⟨rcv 127 4 { rx := some { bin := 0, power := -500, sf := 7, bw := 0 } }, 127, { bin := 0, power := -500, sf := 7, bw := 0 }, List.replicate 3 (win true 127 [0, 19, 41, 70, 101]), 127, -2717, by decide +kernel⟩,
   ⟨rcv 127 1 { rx := some { bin := 0, power := -500, sf := 7, bw := 0 } }, 127, { bin := 0, power := -500, sf := 7, bw := 0 }, [win false 0 [0, 19, 41, 70, 101], win false 92 [0, 19, 41, 70, 101], win false 44 [0, 19, 41, 70, 101], win true 64 [0, 19, 41, 70, 101]], by decide +kernel⟩,
   ⟨rcv 127 2 { rx := some { bin := 0, power := -500, sf := 7, bw := 0 } }, 127, { bin := 0, power := -500, sf := 7, bw := 0 }, by decide +kernel⟩,
   ⟨rcv 127 3 { rx := some { bin := 0, power := -500, sf := 7, bw := 0 } }, 127, { bin := 0, power := -500, sf := 7, bw := 0 }, headerWord 5 1 3 0 2 false, by decide +kernel⟩,
   ⟨rcv 127 4 { rx := some { bin := 0, power := -500, sf := 7, bw := 0 } }, 127, { bin := 0, power := -500, sf := 7, bw := 0 }, by decide +kernel⟩⟩

/-- States and operands that meet the hypotheses of ReachWindowsAndPolls, clause by clause. -/
theorem wit_ReachWindowsAndPolls :
    (∃ (s : State) (l : Nat) (ep : Nat), l < 128 ∧ ep < 16 ∧ ((s.line l).st = LineState.reach) ∧
      s.g LREACH.EP_CFG.ENABLE l ep = 1 ∧ s.g LREACH.EP_CFG.POLL_IVL l ep ≠ 0 ∧ (ep ∉ (s.reachX l).polls) ∧
      s.fault.s3 = false) ∧
    (∃ (s : State) (l : Nat) (p : ReachPkt) (n : Nat), l < 128 ∧ ((s.reachX l).await = some (p, n + 1)) ∧
      ((s.reachX l).rx = none) ∧ s.fault.s3 = false) ∧
    (∃ (s : State) (l : Nat), l < 128 ∧ ((s.line l).st = LineState.reach) ∧ s.g LREACH.ALARM.IVL l ≠ 0 ∧
      ((s.reachX l).opening = false) ∧ s.g LREACH.STATUS.WINDOW l = 0 ∧ ((s.reachX l).acks = []) ∧
      ((s.reachX l).alarms = []) ∧ s.fault.s3 = false) ∧
    (∃ (s : State) (l : Nat), l < 128 ∧ ((s.reachX l).opening = true) ∧ ((s.reachX l).tx = none) ∧ s.dspRuns = true) ∧
    (∃ (s : State) (l : Nat), l < 128 ∧ s.g LREACH.STATUS.WINDOW l = 1 ∧ ((s.reachX l).rx = none) ∧
      s.fault.s3 = false) ∧
    (∃ (s : State) (l : Nat) (frame fcs : List Nat) (bytes : List Nat), l < 128 ∧ recordOf frame fcs = some bytes ∧
      ((s.line l).st = LineState.reach) ∧ bytes.getD 0 0 % 8 ≤ 1 ∧ 0 < field bytes 2 2 ∧ field bytes 2 2 ≤ 2048 ∧
      16 + field bytes 2 2 ≤ bytes.length ∧ (s.g LREACH.EP_CFG.ENABLE l (bytes.getD 0 0 / 16 % 16) ≠ 0) ∧
      ((s.reachX l).used + 16 + field bytes 2 2 ≤ 32768) ∧ s.fault.s3 = false) ∧
    (∃ (s : State) (l : Nat), l < 128 ∧ ((s.reachX l).maskWait = true) ∧ ((s.line l).st = LineState.reach) ∧
      (s.bandReady l (s.reachWidest l) = true) ∧ s.fault.s3 = false) :=
  ⟨⟨((rch 127 .reach {}).wr LREACH.EP_CFG.ENABLE 1 127 15).wr LREACH.EP_CFG.POLL_IVL 2 127 15, 127, 15, by decide +kernel⟩,
   ⟨rch 127 .reach { await := some ({ addr := 3, kind := 1, seq := 0, opens := false, payload := [1], sf := 9, bw := 0, cr := 0 }, 1) }, 127, { addr := 3, kind := 1, seq := 0, opens := false, payload := [1], sf := 9, bw := 0, cr := 0 }, 0, by decide +kernel⟩,
   ⟨(rch 127 .reach {}).wr LREACH.ALARM.IVL 3 127, 127, by decide +kernel⟩,
   ⟨rch 127 .reach { opening := true }, 127, by decide +kernel⟩,
   ⟨(rch 127 .reach {}).wr LREACH.STATUS.WINDOW 1 127, 127, by decide +kernel⟩,
   ⟨(rch 127 .reach {}).wr LREACH.EP_CFG.ENABLE 1 127 15, 127, List.replicate 14 0 ++ [0xF0, 0, 0, 1] ++ List.replicate 13 0, fcsBytes (List.replicate 14 0 ++ [0xF0, 0, 0, 1] ++ List.replicate 13 0), [0xF0, 0, 0, 1] ++ List.replicate 13 0, by decide +kernel⟩,
   ⟨rch 127 .reach { maskWait := true }, 127, by decide +kernel⟩⟩

/-- States and operands that meet the hypotheses of MonitorChain, clause by clause. -/
theorem wit_MonitorChain :
    (∃ (s : State) (l : Nat) (a : SyncArm) (elapsed : Nat), l < 128 ∧ s.dspRuns = true ∧ ((s.monX l).armed = some a) ∧
      s.chainOn l = true ∧ s.syncMoment a elapsed = true) ∧
    (∃ (s : State) (l : Nat), l < 128 ∧ s.dspRuns = true ∧ s.lastTick l = true) ∧
    (∃ (s : State) (l : Nat), l < 128 ∧ s.dspRuns = true ∧ s.lastTick l = true ∧ ((s.monX l).bank ≠ 0)) ∧
    (∃ (s : State) (l : Nat), l < 128 ∧ s.dspRuns = true ∧ s.lastTick l = true ∧ s.chainPreset l = 4 ∧
      ((s.monX l).settle = 0) ∧ s.enabled Page.lmon l = true ∧ ((s.monX l).count + 1 < s.rmsLength l)) ∧
    (∃ (s : State) (l : Nat), l < 128 ∧ s.dspRuns = true ∧ s.lastTick l = true ∧ s.chainPreset l = 4 ∧
      ((s.monX l).settle = 0) ∧ s.enabled Page.lmon l = true ∧ (s.rmsLength l ≤ (s.monX l).count + 1)) :=
  ⟨⟨mon 127 { armed := some { src := 1, sfc := 299, sym := 0, sec := 0 } }, 127, { src := 1, sfc := 299, sym := 0, sec := 0 }, 320, by decide +kernel⟩,
   ⟨step4 127 { settle := 1 }, 127, by decide +kernel⟩,
   ⟨step4 127 { bank := 1, fade := 63 }, 127, by decide +kernel⟩,
   ⟨(step4 127 { settle := 0, valid := true }).wr (HDR.PAGE_CTRL.ENABLE .lmon) 1 127, 127, by decide +kernel⟩,
   ⟨((step4 127 { settle := 0, valid := true, count := 15 }).wr LMON.DET_CFG.RMS_N 0 127).wr (HDR.PAGE_CTRL.ENABLE .lmon) 1 127, 127, by decide +kernel⟩⟩

/-- States and operands that meet the hypotheses of Captures, clause by clause. -/
theorem wit_Captures :
    (∃ (s : State) (l : Nat) (c : Capture), l < 128 ∧ ((s.monX l).cap = some c) ∧ s.lastTick l = true ∧
      s.chainPreset l = 4 ∧ ((s.monX l).settle = 0) ∧ s.enabled Page.lmon l = true ∧ c.started = false ∧
      (c.trig = 0 ∨ c.trig = 1 ∧ c.synced = true) ∧ c.taken.length + 1 < c.count ∧ s.dspRuns = true) ∧
    (∃ (s : State) (l : Nat) (c : Capture), l < 128 ∧ ((s.monX l).cap = some c) ∧ s.lastTick l = true ∧
      s.chainPreset l = 4 ∧ ((s.monX l).settle = 0) ∧ s.enabled Page.lmon l = true ∧ c.started = true ∧
      c.taken.length + 1 = c.count ∧ c.count ≤ 512 ∧ s.dspRuns = true) ∧
    (∃ (s : State) (l : Nat) (c : Capture), l < 128 ∧ ((s.monX l).cap = some c) ∧ c.started = false ∧
      s.fault.s3 = false) :=
  ⟨⟨(step4 127 { settle := 0, valid := true, cap := some { trig := 0, count := 512 } }).wr (HDR.PAGE_CTRL.ENABLE .lmon) 1 127, 127, { trig := 0, count := 512 }, by decide +kernel⟩,
   ⟨(step4 127 { settle := 0, valid := true, cap := some { trig := 0, count := 2, started := true, taken := [7] } }).wr (HDR.PAGE_CTRL.ENABLE .lmon) 1 127, 127, { trig := 0, count := 2, started := true, taken := [7] }, by decide +kernel⟩,
   ⟨mon 127 { valid := true, cap := some { trig := 3, count := 512 } }, 127, { trig := 3, count := 512 }, by decide +kernel⟩⟩

/-- States and operands that meet the hypotheses of Reflectometry, clause by clause. -/
theorem wit_Reflectometry :
    (∃ (s : State) (l : Nat) (r : ReflX), l < 128 ∧ s.refl.find l = some r ∧ r.step = 2 ∧ (s.slotKind (l / 32) = 0)) ∧
    (∃ (s : State) (l : Nat) (r : ReflX), l < 128 ∧ s.refl.find l = some r ∧ r.step = 2) ∧
    (∃ (s : State) (l : Nat) (r : ReflX) (reason : Nat) (run : ReflectRun), l < 128 ∧ s.refl.find l = some r ∧
      (reason ≠ 0 ∨ -700 < run.power) ∧ reason < 16 ∧ (reason = 2 ∨ -700 < run.power ∨ 4 ≤ r.step)) ∧
    (∃ (s : State) (l : Nat) (r : ReflX) (run : ReflectRun), l < 128 ∧ s.refl.find l = some r ∧ 4 ≤ r.step ∧
      run.power ≤ -700) :=
  ⟨⟨{ up with refl := [(127, { band := 0, step := 2 })] }, 127, { band := 0, step := 2 }, by decide +kernel⟩,
   ⟨{ up with refl := [(127, { band := 0, step := 2 })] }, 127, { band := 0, step := 2 }, by decide +kernel⟩,
   ⟨{ up with refl := [(127, { band := 0, step := 4 })] }, 127, { band := 0, step := 4 }, 15, { reference := [], line := [], fine := [] }, by decide +kernel⟩,
   ⟨{ up with refl := [(127, { band := 0, step := 5 })] }, 127, { band := 0, step := 5 }, { reference := [(1, 0)], line := [(1, 0)], fine := [] }, by decide +kernel⟩⟩

/-- States and operands that meet the hypotheses of AnalogFrontEnd, clause by clause. -/
theorem wit_AnalogFrontEnd :
    (∃ (s : State), s.g CALMGR.STAT.TXCLR ≠ 1) ∧
    (∃ (s : State), s.g CALMGR.STAT.TXCLR ≠ 0) ∧
    (∃ (l : Nat), l < 128) ∧
    (∃ (s : State) (l : Nat) (d : Nat) (n : Neg), l < 128 ∧ ((s.port (s.anchor l)).neg = some n) ∧ n.ours = true ∧
      n.confirmed = true ∧ n.withdrawn = false ∧ (n.target = sfcAdd (s.portSfc (s.anchor l)) 1) ∧
      Change.afe l true d ∈ n.changes) ∧
    (∃ (level : Nat), level < 2 ^ 16) :=
  ⟨⟨up.wr CALMGR.STAT.TXCLR 0, by decide +kernel⟩,
   ⟨up.wr CALMGR.STAT.TXCLR 1, by decide +kernel⟩,
   ⟨127, by decide +kernel⟩,
   ⟨pt 1 127 { st := .showtime } { neg := some { ours := true, start := 297, target := 301, changes := [.afe 127 true 3], count := 1, agreed := true, confirmed := true } }, 127, 3, { ours := true, start := 297, target := 301, changes := [.afe 127 true 3], count := 1, agreed := true, confirmed := true }, by decide +kernel⟩,
   ⟨65535, by decide +kernel⟩⟩

/-- States and operands that meet the hypotheses of StandardQuads, clause by clause. -/
theorem wit_StandardQuads :
    (∃ (s : State) (l : Nat), l < 128 ∧ ((s.line (quadHead l)).st = LineState.standard) ∧ s.dspRuns = true ∧
      (s.g LSTD.STATUS.LINK (quadHead l) ≠ 1)) ∧
    (∃ (s : State) (l : Nat), l < 128 ∧ ((s.line (quadHead l)).st = LineState.standard) ∧ s.dspRuns = true ∧
      (s.g LSTD.STATUS.AN_DONE (quadHead l) = 1) ∧ (s.g LSTD.STATUS.SPEED (quadHead l) ≠ 0) ∧
      (s.g LSTD.STATUS.LINK (quadHead l) = 0)) ∧
    (∃ (s : State) (l : Nat), l < 128 ∧ ((s.line (quadHead l)).st = LineState.standard) ∧ s.dspRuns = true ∧
      (s.g LSTD.STATUS.LINK (quadHead l) = 1)) ∧
    (∃ (s : State) (l : Nat), l < 128 ∧ ((s.line (quadHead l)).st = LineState.standard) ∧ s.dspRuns = true ∧
      (s.g LSTD.STATUS.LINK (quadHead l) = 1) ∧ (s.g LSTD.STATUS.FR (quadHead l) = 1)) ∧
    (∃ (s : State) (l : Nat), l < 128 ∧ ((s.line (quadHead l)).st = LineState.standard) ∧ s.dspRuns = true ∧
      (s.g LSTD.STATUS.LINK (quadHead l) = 1) ∧ (s.g LSTD.STATUS.EEE (quadHead l) = 1)) ∧
    (∃ (s : State) (l : Nat), l < 128 ∧ ((s.line (quadHead l)).st = LineState.standard) ∧ s.dspRuns = true ∧
      (s.g LSTD.STATUS.LINK (quadHead l) = 1) ∧ (s.g LSTD.STATUS.EEE (quadHead l) = 1)) :=
  ⟨⟨ln 3 124 { st := .standard }, 127, by decide +kernel⟩,
   ⟨((ln 3 124 { st := .standard }).wr LSTD.STATUS.AN_DONE 1 124).wr LSTD.STATUS.SPEED 2 124, 127, by decide +kernel⟩,
   ⟨(ln 3 124 { st := .standard }).wr LSTD.STATUS.LINK 1 124, 127, by decide +kernel⟩,
   ⟨((ln 3 124 { st := .standard }).wr LSTD.STATUS.LINK 1 124).wr LSTD.STATUS.FR 1 124, 127, by decide +kernel⟩,
   ⟨((ln 3 124 { st := .standard }).wr LSTD.STATUS.LINK 1 124).wr LSTD.STATUS.EEE 1 124, 127, by decide +kernel⟩,
   ⟨((ln 3 124 { st := .standard }).wr LSTD.STATUS.LINK 1 124).wr LSTD.STATUS.EEE 1 124, 127, by decide +kernel⟩⟩

/-- States and operands that meet the hypotheses of BeaconAlternation, clause by clause. -/
theorem wit_BeaconAlternation :
    (∃ (s : State) (l : Nat), l < 128 ∧ ((s.line (quadHead l)).st = LineState.standard) ∧ s.dspRuns = true ∧
      (s.alternates (quadHead l) = true)) ∧
    (∃ (s : State) (l : Nat), l < 128 ∧ ((s.line (quadHead l)).st = LineState.standard) ∧ s.dspRuns = true) ∧
    (∃ (s : State) (l : Nat), l < 128 ∧ ((s.line (quadHead l)).st = LineState.standard) ∧ s.dspRuns = true) ∧
    (∃ (s : State) (l : Nat), l < 128 ∧ ((s.line (quadHead l)).st = LineState.standard) ∧ s.dspRuns = true ∧
      (s.g LSTD.STATUS.LINK (quadHead l) = 0)) :=
  ⟨⟨{ (ln 3 124 { st := .standard }) with std := [(124, { adv := 2 ^ 13 })] }, 127, by decide +kernel⟩,
   ⟨ln 3 124 { st := .standard }, 127, by decide +kernel⟩,
   ⟨ln 3 124 { st := .standard }, 127, by decide +kernel⟩,
   ⟨ln 3 124 { st := .standard }, 127, by decide +kernel⟩⟩

/-- States and operands that meet the hypotheses of PllsAndReference, clause by clause. -/
theorem wit_PllsAndReference :
    (∃ (s : State) (p : Nat), p < 7 ∧ s.clk.ref = RefState.good ∧ p ∈ s.clk.started ∧ s.locked p = false) ∧
    (∃ (s : State) (p : Nat), p < 7 ∧ s.locked p = true) ∧
    (∃ (s : State), s.spllUp = true ∧ s.clk.running = true ∧ s.clk.csrc = ClkSrc.spll ∧ s.clk.kosc = KoscState.good) ∧
    (∃ (s : State) (c : Nat), c < 4 ∧ 2 + c ∈ s.clk.started ∧ (s.locked (2 + c) = false) ∧
      (s.fault.isolated.contains (32 + c) = false) ∧ (s.fault.ignored.contains (32 + c) = false)) ∧
    (∃ (s : State), s.clk.resetHeld = false ∧ s.pwr.state ≤ 1) ∧
    (∃ (s : State), s.clk.ref ≠ RefState.good ∧ s.clk.absentJudged = false ∧ s.clk.coldStep ≠ 0) :=
  ⟨⟨up.modClk fun x => { x with locked := [0, 1, 2, 3, 4, 5] }, 6, by decide +kernel⟩,
   ⟨up, 6, by decide +kernel⟩,
   ⟨up, by decide +kernel⟩,
   ⟨up.modClk fun x => { x with locked := [0] }, 3, by decide +kernel⟩,
   ⟨up, by decide +kernel⟩,
   ⟨up.modClk fun x => { x with ref := .judging }, by decide +kernel⟩⟩

/-- States and operands that meet the hypotheses of Oscillators, clause by clause. -/
theorem wit_Oscillators :
    (∃ (s : State), s.clk.kosc = KoscState.starting) ∧
    (∃ (s : State) (count : Nat), s.clk.kosc = KoscState.bad ∧ 91797 ≤ count ∧ count ≤ 103516) ∧
    (∃ (s : State), s.clk.kosc = KoscState.starting) ∧
    (∃ (s : State), s.clk.holdKosc = true ∧ s.clk.running = true ∧ s.spllUp = false ∧ s.clk.kosc = KoscState.starting) ∧
    (∃ (s : State), s.trimSource = true) ∧
    (∃ (s : State) (ref : Nat) (gate : Nat) (count : Nat), (s.clk.fm = some (ref, gate)) ∧ count < 2 ^ 40) ∧
    (∃ (s : State), s.clk.fm.isSome = true) :=
  ⟨⟨up.modClk fun x => { x with kosc := .starting }, by decide +kernel⟩,
   ⟨up.modClk fun x => { x with kosc := .bad }, 103516, by decide +kernel⟩,
   ⟨up.modClk fun x => { x with kosc := .starting }, by decide +kernel⟩,
   ⟨up.modClk fun x => { x with kosc := .starting, holdKosc := true, locked := [] }, by decide +kernel⟩,
   ⟨up.wr HEARTH.TRIM.SRC 1, by decide +kernel⟩,
   ⟨up.modClk fun x => { x with fm := some (3, 5) }, 3, 5, 2 ^ 40 - 1, by decide +kernel⟩,
   ⟨up.modClk fun x => { x with fm := some (3, 5) }, by decide +kernel⟩⟩

/-- States and operands that meet the hypotheses of ResetsAndRails, clause by clause. -/
theorem wit_ResetsAndRails :
    (∃ (s : State), s.clk.resetHeld = true ∧ s.railsGood = true) ∧
    (∃ (ns : Nat), 1000 ≤ ns) ∧
    (∃ (ns : Nat), ns < 100) ∧
    (∃ (s : State) (r : Nat), r < 8 ∧ r ∉ s.clk.rails) ∧
    (∃ (s : State) (r : Nat), r < 7 ∧ r ∈ s.clk.rails) :=
  ⟨⟨State.reset, by decide +kernel⟩,
   ⟨1000, by decide +kernel⟩,
   ⟨99, by decide +kernel⟩,
   ⟨up.modClk fun x => { x with rails := [0, 1, 2] }, 7, by decide +kernel⟩,
   ⟨up, 6, by decide +kernel⟩⟩

/-- States and operands that meet the hypotheses of TrustMoments, clause by clause. -/
theorem wit_TrustMoments :
    (∃ (s : State), s.controlRunning = true) ∧
    (∃ (s : State) (ch : Channel), (s.lockedOut (chIx ch) = true)) ∧
    (∃ (s : State) (i : Nat) (x : KeySlot), (s.trust.burning = some (i, x))) ∧
    (∃ (s : State) (k : Nat), (k = (match s.trust.trial with | some n => 1 - n % 2 | none => s.trust.prefer)) ∧
      s.clk.bootDone = false ∧ 2 ≤ s.clk.coldStep ∧ s.stokerRuns = true) ∧
    (∃ (s : State), s.clk.bootDone = true ∧ s.clk.calDone = true ∧ s.clk.identReady = false) :=
  ⟨⟨up, by decide +kernel⟩,
   ⟨up.wr SESSION.STAT.FAILS 8 1, .inband, by decide +kernel⟩,
   ⟨up.modTrust fun x => { x with burning := some (6, { valid := true, maxRole := 2, usage := 1, key := .burnt 77 }) }, 6, { valid := true, maxRole := 2, usage := 1, key := .burnt 77 }, by decide +kernel⟩,
   ⟨up.modClk fun x => { x with bootDone := false, coldStep := 2 }, 0, by decide +kernel⟩,
   ⟨up.modClk fun x => { x with identReady := false }, by decide +kernel⟩⟩

/-- States and operands that meet the hypotheses of PowerEntry, clause by clause. -/
theorem wit_PowerEntry :
    (∃ (s : State), s.pwr.sub = 1 ∧ s.pwr.stage < 4 ∧ (s.refusals (s.pwr.stage + 1) = [])) ∧
    (∃ (s : State), s.pwr.sub = 1 ∧ s.pwr.stage = 4 ∧ s.refusals 5 = [] ∧ s.pwr.hearth = false) ∧
    (∃ (s : State) (reason : Nat) (inst : Nat) (r : List (Nat × Nat)), s.pwr.sub = 1 ∧
      (s.refusals (s.pwr.stage + 1) = (reason, inst) :: r) ∧ reason < 16 ∧ inst < 256 ∧ s.pwr.stage < 15) ∧
    (∃ (s : State), s.pwr.sub = 1 ∧ s.pwr.stage < 15) ∧
    (∃ (s : State), s.pwr.sub = 2) :=
  ⟨⟨up.modPwr fun x => { x with sub := 1, stage := 3 }, by decide +kernel⟩,
   ⟨up.modPwr fun x => { x with sub := 1, stage := 4 }, by decide +kernel⟩,
   ⟨(up.setLine 127 { st := .showtime }).wr LCTL.MODE.SEL 1 127 |>.modPwr fun x => { x with sub := 1, stage := 0 }, 1, 127, [], by decide +kernel⟩,
   ⟨up.modPwr fun x => { x with sub := 1, stage := 14 }, by decide +kernel⟩,
   ⟨up.modPwr fun x => { x with sub := 2 }, by decide +kernel⟩⟩

/-- States and operands that meet the hypotheses of Wakes, clause by clause. -/
theorem wit_Wakes :
    (∃ (s : State) (line : Nat), line < 128 ∧ s.mayWake 1 = true ∧ ((s.line line).st ≠ LineState.off)) ∧
    (∃ (s : State), s.mayWake 2 = true) ∧
    (∃ (s : State), s.mayWake 3 = true) ∧
    (∃ (s : State), s.mayWake 4 = true ∧ s.g HEARTH.TIMER.SEC ≠ 0) ∧
    (∃ (s : State) (block : Nat), block < 256 ∧ s.pwr.waking = true ∧ s.pwr.state = 2 ∧ block ∈ s.notReady) ∧
    (∃ (s : State), s.pwr.waking = true ∧ s.pwr.state = 2 ∧ s.notReady = []) ∧
    (∃ (s : State), s.fault.ignored.contains 22 = false) :=
  ⟨⟨((up.setLine 127 { st := .quiet }).wr HEARTH.TIMER.SEC 1 |>.wr HEARTH.WAKE_EN.EN 1).modPwr fun x => { x with state := 2 }, 127, by decide +kernel⟩,
   ⟨((up.setLine 127 { st := .quiet }).wr HEARTH.TIMER.SEC 1 |>.wr HEARTH.WAKE_EN.EN 2).modPwr fun x => { x with state := 2 }, by decide +kernel⟩,
   ⟨((up.setLine 127 { st := .quiet }).wr HEARTH.TIMER.SEC 1 |>.wr HEARTH.WAKE_EN.EN 4).modPwr fun x => { x with state := 2 }, by decide +kernel⟩,
   ⟨((up.setLine 127 { st := .quiet }).wr HEARTH.TIMER.SEC 1 |>.wr HEARTH.WAKE_EN.EN 8).modPwr fun x => { x with state := 2 }, by decide +kernel⟩,
   ⟨up.modPwr fun x => { x with state := 2, waking := true }, 0, by decide +kernel⟩,
   ⟨up.modPwr fun x => { x with state := 2, waking := true, vxReady := true }, by decide +kernel⟩,
   ⟨up, by decide +kernel⟩⟩

/-- States and operands that meet the hypotheses of FaultMoments, clause by clause. -/
theorem wit_FaultMoments :
    (∃ (s : State) (r : FaultInput), s.controlRunning = true ∧ s.fault.inject = none ∧ isSource r.source = true ∧
      s.fault.ignored.contains r.source = false ∧ r.code ≠ 1 ∧ r.code ≠ 13) ∧
    (∃ (s : State) (source : Nat) (seen : Nat), s.controlRunning = true ∧ s.fault.inject = none ∧
      isSource source = true ∧ s.fault.ignored.contains source = false ∧ (seen = 0 ∨ seen = 3)) ∧
    (∃ (s : State) (m : Nat), m < 64 ∧ m ∈ s.fault.revoked) ∧
    (∃ (s : State), s.stokerRuns = true) ∧
    (∃ (s : State), s.fault.watchdogArmed = true ∧ s.stokerRuns = true ∧ s.fault.ignored.contains 23 = false) ∧
    (∃ (s : State), s.pwr.state ≠ 2) ∧
    (∃ (s : State), s.pwr.state ≠ 2) ∧
    (∃ (s : State) (n : Nat), n < 512 ∧ n ∈ s.ev.ibHold ∧ n ∉ s.ev.ibDirty) ∧
    (∃ (s : State) (n : Nat), n < 512 ∧ n ∈ s.ev.ibHold ∧ n ∈ s.ev.ibDirty ∧
      (bit (s.g EVENTS.ROUTE_IB.EN 0 (n / 32)) (n % 32) = true)) ∧
    (∃ (s : State), s.g EVENTS.CTRL.IB_REFRESH ≠ 0 ∧ s.g EVENTS.CTRL.IB_HOLD = 0 ∧ s.ev.ibHold = []) :=
  ⟨⟨up, ⟨0x10, 3, 255, 7⟩, by decide +kernel⟩,
   ⟨up, 3, 0, by decide +kernel⟩,
   ⟨up.modFault fun x => { x with revoked := [63] }, 63, by decide +kernel⟩,
   ⟨up, by decide +kernel⟩,
   ⟨up.modFault fun x => { x with watchdogArmed := true }, by decide +kernel⟩,
   ⟨up, by decide +kernel⟩,
   ⟨up, by decide +kernel⟩,
   ⟨{ up with ev := { ibHold := [511] } }, 511, by decide +kernel⟩,
   ⟨{ up.wr EVENTS.ROUTE_IB.EN (2 ^ 31) 0 15 with ev := { ibHold := [511], ibDirty := [511] } }, 511, by decide +kernel⟩,
   ⟨(up.wr EVENTS.CTRL.IB_REFRESH 1).wr EVENTS.CTRL.IB_HOLD 0, by decide +kernel⟩⟩

/-- States and operands that meet the hypotheses of PerformanceLevels, clause by clause. -/
theorem wit_PerformanceLevels :
    (∃ (s : State), s.lvl.phase = LevelPhase.proposing ∧ s.lvl.reproposed = false ∧ s.sfc = s.lvl.landSfc) ∧
    (∃ (s : State), (s.lvl.phase = LevelPhase.proposing ∧
      sfcCome (sfcAdd s.lvl.landSfc 1) s.sfc = true ∨ s.lvl.phase = LevelPhase.nvWait ∧
      sfcCome s.lvl.landSfc s.sfc = true)) ∧
    (∃ (s : State), s.lvl.phase = LevelPhase.nvUpWait ∧ sfcCome s.lvl.landSfc s.sfc = true) ∧
    (∃ (s : State) (mv : Nat), mv < 2 ^ 16 ∧ s.controlRunning = true) ∧
    (∃ (s : State) (mv : Nat), mv < 2 ^ 16 ∧ s.controlRunning = true ∧
      (s.lvl.phase = LevelPhase.vxUp ∨ s.lvl.phase = LevelPhase.vxDown)) ∧
    (∃ (s : State) (fails : Nat) (current : Nat), fails < 2 ∧ current < 2 ^ 16 ∧ s.controlRunning = true ∧
      s.pwr.state < 2 ∧ s.pwr.waking = false) :=
  ⟨⟨up.modLvl fun x => { x with phase := .proposing, landSfc := 300 }, by decide +kernel⟩,
   ⟨up.modLvl fun x => { x with phase := .proposing, landSfc := 299 }, by decide +kernel⟩,
   ⟨up.modLvl fun x => { x with phase := .nvUpWait, landSfc := 300 }, by decide +kernel⟩,
   ⟨up.modLvl fun x => { x with phase := .vxDown }, 65535, by decide +kernel⟩,
   ⟨up.modLvl fun x => { x with phase := .vxDown }, 65535, by decide +kernel⟩,
   ⟨up, 1, 65535, by decide +kernel⟩⟩

/-- States and operands that meet the hypotheses of Thermal, clause by clause. -/
theorem wit_Thermal :
    (∃ (s : State), s.controlRunning = true) ∧
    (∃ (s : State), s.controlRunning = true ∧ (1680 ≤ toSigned 16 (s.g THERMAL.TJ.TEMP)) ∧
      s.lvl.phase = LevelPhase.idle ∧ s.lvl.level < 3) ∧
    (∃ (s : State), (toSigned 16 (s.g THERMAL.TJ.TEMP) < 1600) ∧ s.lvl.cap ≠ 0 ∧ s.fault.thermalHold = false) :=
  ⟨⟨up, by decide +kernel⟩,
   ⟨(up.wr THERMAL.TJ.TEMP 1680).modLvl fun x => { x with level := 2 }, by decide +kernel⟩,
   ⟨(up.wr THERMAL.TJ.TEMP 1599).modLvl fun x => { x with cap := 1 }, by decide +kernel⟩⟩

/-- States and operands that meet the hypotheses of EngineLandings, clause by clause. -/
theorem wit_EngineLandings :
    (∃ (s : State), s.sfc % 128 = 0 ∧ s.sfc ≠ 0 ∧ s.engineRuns = true) ∧
    (∃ (s : State), s.sfc % 128 = 1 ∧ 129 ≤ s.sfc ∧ s.engineRuns = true) ∧
    (∃ (s : State), s.xe.hold = true ∧ s.fault.s3 = false) ∧
    (∃ (s : State), s.engineRuns = true) ∧
    (∃ (s : State) (l : Nat), l < 128 ∧ s.fault.s3 = false) :=
  ⟨⟨{ up with sfc := 128 }, by decide +kernel⟩,
   ⟨{ up with sfc := 129 }, by decide +kernel⟩,
   ⟨{ up with xe := { hold := true } }, by decide +kernel⟩,
   ⟨up, by decide +kernel⟩,
   ⟨up, 127, by decide +kernel⟩⟩

/-- States and operands that meet the hypotheses of EngineJoins, clause by clause. -/
theorem wit_EngineJoins :
    (∃ (s : State) (q : Nat × Nat) (qs : List (Nat × Nat)) (since : Nat), s.xe.join = none ∧ s.xe.queue = q :: qs ∧
      s.xe.served = some since ∧ s.sfc % 128 = 0 ∧ sfcCome s.sfc since = false ∧ s.xe.hold = false ∧
      s.lvl.phase = LevelPhase.idle ∧ s.engineRuns = true) ∧
    (∃ (s : State) (j : Join), s.xe.join = some j ∧ j.phase = JoinPhase.first ∧ s.sequencerHolds j 127 = true ∧
      s.engineRuns = true) ∧
    (∃ (s : State) (j : Join), s.xe.join = some j ∧ j.phase = JoinPhase.first ∧ s.sfc = sfcAdd j.start 128 ∧
      s.fault.s3 = false) ∧
    (∃ (s : State) (j : Join), s.xe.join = some j ∧ j.phase = JoinPhase.nxtWritten ∧ s.sfc = sfcAdd j.start 128 ∧
      s.fault.s3 = false) ∧
    (∃ (s : State) (j : Join), s.xe.join = some j ∧ s.sequencerHolds j 255 = true ∧ j.phase = JoinPhase.second ∧
      s.engineRuns = true) ∧
    (∃ (s : State) (j : Join), s.xe.join = some j ∧ s.sequencerHolds j 255 = true ∧ j.phase = JoinPhase.rowsWritten ∧
      s.engineRuns = true) ∧
    (∃ (s : State) (j : Join), s.xe.join = some j ∧ s.sequencerHolds j 255 = true ∧ j.phase = JoinPhase.fxuWritten ∧
      s.engineRuns = true) ∧
    (∃ (s : State) (j : Join), s.xe.join = some j ∧ j.phase = JoinPhase.written ∧ s.sfc = sfcAdd j.start 256 ∧
      s.fault.s3 = false) ∧
    (∃ (s : State) (l : Nat), l < 128 ∧ ((s.line l).dying = true) ∧ s.fault.s3 = false) :=
  ⟨⟨{ up with sfc := 384, xe := { queue := [(300, 127)], served := some 383 } }, (300, 127), [], 383, by decide +kernel⟩,
   ⟨{ up with sfc := 383, xe := { join := some { ports := [127], lines := [127], phase := .first, start := 256 }, lease := some 0x13 } }, { ports := [127], lines := [127], phase := .first, start := 256 }, by decide +kernel⟩,
   ⟨{ up with sfc := 384, xe := { join := some { ports := [127], lines := [127], phase := .first, start := 256 } } }, { ports := [127], lines := [127], phase := .first, start := 256 }, by decide +kernel⟩,
   ⟨{ up with sfc := 384, xe := { join := some { ports := [127], lines := [127], phase := .nxtWritten, start := 256 } } }, { ports := [127], lines := [127], phase := .nxtWritten, start := 256 }, by decide +kernel⟩,
   ⟨{ up with sfc := 511, xe := { join := some { ports := [127], lines := [127], phase := .second, start := 256 }, lease := some 0x13 } }, { ports := [127], lines := [127], phase := .second, start := 256 }, by decide +kernel⟩,
   ⟨{ up with sfc := 511, xe := { join := some { ports := [127], lines := [127], phase := .rowsWritten, start := 256 }, lease := some 0x13 } }, { ports := [127], lines := [127], phase := .rowsWritten, start := 256 }, by decide +kernel⟩,
   ⟨{ up with sfc := 511, xe := { join := some { ports := [127], lines := [127], phase := .fxuWritten, start := 256 }, lease := some 0x13 } }, { ports := [127], lines := [127], phase := .fxuWritten, start := 256 }, by decide +kernel⟩,
   ⟨{ up with sfc := 512, xe := { join := some { ports := [127], lines := [127], phase := .written, start := 256 } } }, { ports := [127], lines := [127], phase := .written, start := 256 }, by decide +kernel⟩,
   ⟨up.setLine 127 { st := .showtime, dying := true, active := true }, 127, by decide +kernel⟩⟩

/-- States and operands that meet the hypotheses of EngineWrites, clause by clause. -/
theorem wit_EngineWrites :
    (∃ (s : State) (m : Nat), nextWriter s.xe.reserved s.xe.waiting = some m ∧ s.portFreeFor m = true ∧
      s.engineRuns = true) ∧
    (∃ (s : State) (l : Nat), l < 128 ∧ l ∈ s.xe.clearing ∧ s.xe.lease = some 32 ∧ s.fenced 32 = false ∧
      s.engineRuns = true) ∧
    (∃ (s : State) (dir : Nat) (l : Nat) (reason : Nat) (es : List (Nat × Int)), (s.xe.census = some (dir, l)) ∧
      (s.xe.censusTaken = some (reason, es)) ∧ dir < 4 ∧ l < 128 ∧ reason < 16 ∧ es.length ≤ 8 ∧ s.engineRuns = true) ∧
    (∃ (s : State) (r : XwRequest) (ns : Nat), s.xe.xw = some r ∧ s.xwDue r ns = true ∧ r.write = false ∧
      s.engineRuns = true) ∧
    (∃ (s : State) (r : XwRequest) (ns : Nat), s.xe.xw = some r ∧ s.xwDue r ns = true ∧ r.write = true ∧
      s.isVHead r.victim = true ∧ r.victim < 128 ∧ (∀ d < 128, (s.line d).st ≠ LineState.joining ∧
      (s.heldZero r.matrix r.victim d = true → r.data.getD d 0 = 0)) ∧ s.engineRuns = true) :=
  ⟨⟨{ up with xe := { waiting := [0x20, 0x10] } }, 0x10, by decide +kernel⟩,
   ⟨{ up with xe := { clearing := [127], lease := some 0x20, coef := [(coefKey 0 1 127 1, (3, 4)), (coefKey 0 1 7 1, (5, 6)), (coefKey 1 1 1 127, (5, 6))] } }, 127, by decide +kernel⟩,
   ⟨{ up with xe := { census := some (3, 127), censusTaken := some (15, [(5, -7)]) } }, 3, 127, 15, [(5, -7)], by decide +kernel⟩,
   ⟨{ up with xe := { xw := some ⟨false, 0, 5, 6, 0, none, 1, false, (299, 0), []⟩ } }, ⟨false, 0, 5, 6, 0, none, 1, false, (299, 0), []⟩, 320, by decide +kernel⟩,
   ⟨{ ln 1 127 {} with xe := { xw := some ⟨true, 0, 5, 127, 0, none, 1, true, (299, 0), List.replicate 127 0 ++ [0x80007FFF]⟩ } }, ⟨true, 0, 5, 127, 0, none, 1, true, (299, 0), List.replicate 127 0 ++ [0x80007FFF]⟩, 320, by decide +kernel⟩⟩

/-- States and operands that meet the hypotheses of LaneBringUp, clause by clause. -/
theorem wit_LaneBringUp :
    (∃ (s : State) (l : Nat), l < 32 ∧ s.laneState l = 1 ∧ s.laneRuns l = true) ∧
    (∃ (s : State) (l : Nat), l < 32 ∧ s.laneState l = 2) ∧
    (∃ (s : State) (l : Nat), l < 32 ∧ s.laneState l = 3 ∧ s.locked 6 = true) ∧
    (∃ (s : State) (l : Nat) (content : Nat), l < 32 ∧ s.laneState l = 4 ∧
      bits content 40 8 &&& laneOffer l = bits content 40 8 ∧ 1 ≤ bits content 32 8 ∧ bits content 32 8 ≤ 16 ∧
      bits content 0 24 = s.slotMap l) ∧
    (∃ (s : State) (l : Nat), l < 32 ∧ s.laneState l = 4) ∧
    (∃ (s : State) (l : Nat), l < 32 ∧ s.g LANE.STATUS.LEGACY l = 0 ∧ 2 ≤ s.laneState l ∧ s.laneState l ≤ 5) :=
  ⟨⟨up.wr LANE.STATUS.STATE 1 31, 31, by decide +kernel⟩,
   ⟨up.wr LANE.STATUS.STATE 2 31, 31, by decide +kernel⟩,
   ⟨up.wr LANE.STATUS.STATE 3 31, 31, by decide +kernel⟩,
   ⟨up.wr LANE.STATUS.STATE 4 31, 31, (up.slotMap 31 + 16 * 2 ^ 32 + 13 * 2 ^ 40), by decide +kernel⟩,
   ⟨up.wr LANE.STATUS.STATE 4 31, 31, by decide +kernel⟩,
   ⟨up.wr LANE.STATUS.STATE 5 31, 31, by decide +kernel⟩⟩

/-- States and operands that meet the hypotheses of LaneLoss, clause by clause. -/
theorem wit_LaneLoss :
    (∃ (s : State) (l : Nat), l < 32 ∧ s.laneState l = 5) ∧
    (∃ (s : State) (l : Nat), l < 32 ∧ s.laneState l = 5) ∧
    (∃ (s : State) (l : Nat), l < 32 ∧ s.laneState l = 5) :=
  ⟨⟨up.wr LANE.STATUS.STATE 5 31, 31, by decide +kernel⟩,
   ⟨up.wr LANE.STATUS.STATE 5 31, 31, by decide +kernel⟩,
   ⟨up.wr LANE.STATUS.STATE 5 31, 31, by decide +kernel⟩⟩

/-- States and operands that meet the hypotheses of HostSlots, clause by clause. -/
theorem wit_HostSlots :
    (∃ (s : State) (p : Nat), p < 128 ∧ s.stampsOn p = true ∧ 0 < s.issueRate p ∧ (0 ≤ (s.port p).credit) ∧
      (s.stampOwed p < ↑(32 * s.g LANE.STATUS.DEPTH (s.portLane p)))) ∧
    (∃ (s : State) (p : Nat), p < 128 ∧ s.stampsOn p = true ∧ 0 < s.issueRate p ∧ ((s.port p).credit < 0)) ∧
    (∃ (s : State) (p : Nat), p < 128 ∧ s.stampsOn p = true) ∧
    (∃ (s : State) (p : Nat) (l : Nat) (slot : Nat) (sync : Nat), p < 128 ∧ l < 32 ∧ s.laneState l = 5 ∧
      s.g LANE.STATUS.LEGACY l = 0 ∧ (s.anchor (s.slotLine l slot) = p) ∧ sync = 1) ∧
    (∃ (p : Nat) (l : Nat), p < 128 ∧ l < 32) ∧
    (∃ (s : State) (p : Nat), p < 128 ∧ ((s.port p).pauseOn = true) ∧
      (s.ingressRoom p < 4 * (s.port p).ingress.length)) ∧
    (∃ (s : State) (p : Nat), p < 128 ∧ ((s.port p).pauseOn = true) ∧
      (4 * (s.port p).ingress.length ≤ s.ingressRoom p)) ∧
    (∃ (s : State) (p : Nat), p < 128 ∧ s.isV p = true ∧ s.isAnchor p = true ∧ (s.hostStat p ≠ (s.port p).lastStat) ∧
      (s.ownHostUp p = (s.port p).sortUp)) ∧
    (∃ (s : State) (p : Nat), p < 128 ∧ s.isV p = true ∧ s.isAnchor p = true ∧ (s.hostStat p = (s.port p).lastStat) ∧
      (s.ownHostUp p = (s.port p).sortUp)) ∧
    (∃ (s : State) (p : Nat) (m : List Nat), p < 128 ∧ s.g PORT_CTL.HOSTSTAT.THRU_ACTIVE p ≠ 1 ∧ s.isV p = true ∧
      s.isAnchor p = true ∧ m.getD 1 0 < 256 ∧ m.getD 2 0 < 256 ∧ m.getD 3 0 < 256 ∧ s.fault.s3 = false) ∧
    (∃ (s : State) (p : Nat) (since : Nat), p < 128 ∧ s.g PORT_CTL.HOSTSTAT.THRU_ACTIVE p ≠ 1 ∧
      ((s.port p).statSince = some since) ∧ (sfcCome (sfcAdd since 256) (s.portSfc p) = true) ∧ s.fault.s3 = false) :=
  ⟨⟨(((upI.wr LANE.STATUS.STATE 5 31).wr LANE.STATUS.CAPS 15 31 |>.wr LANE.STATUS.DEPTH 16 31).wr LCTL.MODE.SEL 1 127).setLine 127 { st := .showtime, txTable := (List.range 12).map fun k => (16 + k, 0x8004), rxTable := [(20, 0x8004)] } |>.wr PORT_CTL.HOSTSTAT.PEER_UP 1 127 |>.wr PORT_CTL.HOSTSTAT.ONWARD 0xFFFF 127, 127, by decide +kernel⟩,
   ⟨((((upI.wr LANE.STATUS.STATE 5 31).wr LANE.STATUS.CAPS 15 31 |>.wr LANE.STATUS.DEPTH 16 31).wr LCTL.MODE.SEL 1 127).setLine 127 { st := .showtime, txTable := (List.range 12).map fun k => (16 + k, 0x8004), rxTable := [(20, 0x8004)] } |>.wr PORT_CTL.HOSTSTAT.PEER_UP 1 127 |>.wr PORT_CTL.HOSTSTAT.ONWARD 0xFFFF 127).modPort 127 fun x => { x with credit := -3 }, 127, by decide +kernel⟩,
   ⟨(((upI.wr LANE.STATUS.STATE 5 31).wr LANE.STATUS.CAPS 15 31 |>.wr LANE.STATUS.DEPTH 16 31).wr LCTL.MODE.SEL 1 127).setLine 127 { st := .showtime, txTable := [(20, 0x8004)], rxTable := [(20, 0x8004)] }, 127, by decide +kernel⟩,
   ⟨(((upI.wr LANE.STATUS.STATE 5 31).wr LANE.STATUS.CAPS 15 31 |>.wr LANE.STATUS.DEPTH 16 31).wr LCTL.MODE.SEL 1 127).setLine 127 { st := .showtime }, 127, 31, 3, 1, by decide +kernel⟩,
   ⟨127, 31, by decide +kernel⟩,
   ⟨upV 1 127 { st := .showtime } { pauseOn := true, ingress := List.replicate 40000 ⟨1, 5⟩ }, 127, by decide +kernel⟩,
   ⟨upV 1 127 { st := .showtime } { pauseOn := true, ingress := [] }, 127, by decide +kernel⟩,
   ⟨upV 1 127 { st := .showtime } { lastStat := (9, 9, 9) }, 127, by decide +kernel⟩,
   ⟨upV 1 127 { st := .showtime } { lastStat := (upV 1 127 { st := .showtime } {}).hostStat 127 }, 127, by decide +kernel⟩,
   ⟨upV 1 127 { st := .showtime } { statSince := some 4 }, 127, [1, 255, 255, 255], by decide +kernel⟩,
   ⟨upV 1 127 { st := .showtime } { statSince := some 44 }, 127, 44, by decide +kernel⟩⟩

/-- States and operands that meet the hypotheses of SyncChain, clause by clause. -/
theorem wit_SyncChain :
    (∃ (s : State) (edge : Int) (offset : Int) (bs : List Bool), s.syncFollows = true ∧ s.g SYNC.STAT.LOCKED = 0 ∧
      s.gridInUse = false ∧ s.ev.syncBits = some bs ∧ bs.length = 63 ∧
      (offset = edge + 16 * ↑(s.g SYNC.CTRL.IN_DELAY)) ∧ -32768 ≤ offset ∧ offset ≤ 32767) ∧
    (∃ (s : State) (edge : Int) (offset : Int) (high : Nat), s.syncFollows = true ∧ s.g SYNC.STAT.LOCKED = 1 ∧
      (offset = edge + 16 * ↑(s.g SYNC.CTRL.IN_DELAY)) ∧ -32 ≤ offset ∧ offset ≤ 32 ∧
      (Option.all (fun (f : Nat) => (s.syncPoint f).1 == s.sfc) (syncMark s.ev.syncBits high).2 = true)) ∧
    (∃ (s : State), s.syncFollows = true) ∧
    (∃ (s : State), s.syncFollows = false) :=
  ⟨⟨{ ((up.wr SYNC.CTRL.IN_DELAY 600).wr SYNC.CTRL.MODE 1) with ev := { up.ev with syncBits := some (List.replicate 63 true) } }, 32767 - 16 * 600, 32767, List.replicate 63 true, by decide +kernel⟩,
   ⟨((up.wr SYNC.CTRL.IN_DELAY 64).wr SYNC.CTRL.MODE 1).wr SYNC.STAT.LOCKED 1, -992, 32, 64, by decide +kernel⟩,
   ⟨up.wr SYNC.CTRL.MODE 1, by decide +kernel⟩,
   ⟨up, by decide +kernel⟩⟩

/-- States and operands that meet the hypotheses of CalibrationSlots, clause by clause. -/
theorem wit_CalibrationSlots :
    (∃ (s : State) (c : Nat) (l : Nat), c < 4 ∧ s.slotKind c = 0 ∧ s.g CALMGR.STAT.TXCLR ≠ 1 ∧ s.fault.s3 = false ∧
      s.clusterRuns c = true ∧ s.refinOk = true ∧ (List.filter s.calReady (clusterLines c) = [l]) ∧
      ((s.calX l).full = false) ∧ ((s.line l).st = LineState.off ∨ (s.line l).st = LineState.quiet)) ∧
    (∃ (s : State) (c : Nat) (l : Nat), c < 4 ∧ s.slotKind c = 0 ∧ s.g CALMGR.STAT.TXCLR ≠ 1 ∧ s.fault.s3 = false ∧
      s.clusterRuns c = true ∧ s.refinOk = true ∧ (List.filter s.calReady (clusterLines c) = [l]) ∧
      ((s.calX l).full = false) ∧ ((s.line l).st = LineState.showtime) ∧ ((s.line l).frozen = false) ∧
      ((s.port (s.anchor l)).neg = none)) :=
  ⟨⟨((up.modCal 127 fun x => { x with st := 1, due := some (3, 0), powerup := false })).wr CALMGR.STAT.REFIN_OK 1, 3, 127, by decide +kernel⟩,
   ⟨((ln 1 127 { st := .showtime }).modCal 127 fun x => { x with st := 1, due := some (3, 0), powerup := false }).wr CALMGR.STAT.REFIN_OK 1, 3, 127, by decide +kernel⟩⟩

/-- States and operands that meet the hypotheses of CalibrationRuns, clause by clause. -/
theorem wit_CalibrationRuns :
    (∃ (s : State) (l : Nat) (r : CalResult), l < 128 ∧ ((s.calX l).st = 4) ∧ r.power ≤ s.partnerTh ∧
      r.peak ≤ s.partnerTh ∧ r.dev.natAbs ≤ 50 ∧ r.isolated = true) ∧
    (∃ (s : State) (l : Nat) (r : CalResult), l < 128 ∧ ((s.calX l).st = 4) ∧ s.partnerTh < r.power) ∧
    (∃ (s : State) (l : Nat), l < 128 ∧ ((s.calX l).st = 4)) ∧
    (∃ (s : State) (l : Nat), l < 128 ∧ s.g CALMGR.STAT.TXCLR = 0 ∧ s.fault.s3 = false ∧ ((s.calX l).powerup = false)) ∧
    (∃ (s : State) (l : Nat), l < 128 ∧ ((s.calX l).st = 6) ∧ ((s.calX l).due.isSome = true) ∧ s.fault.s3 = false) ∧
    (∃ (s : State) (l : Nat), l < 128 ∧ ((s.calX l).st = 5) ∧ ((s.calX l).applyHeld = false) ∧
      ((s.calX l).applied + 1 < 16) ∧ s.fault.s3 = false) ∧
    (∃ (s : State) (l : Nat), l < 128 ∧ ((s.calX l).st = 5) ∧ ((s.calX l).applyHeld = false) ∧
      (16 ≤ (s.calX l).applied + 1) ∧ s.fault.s3 = false) ∧
    (∃ (s : State) (l : Nat), l < 128 ∧ s.clk.calDone = false ∧ (∀ k < 128, (s.calX k).powerup = false)) :=
  ⟨⟨cal 127 { st := 4, due := some (3, 0) }, 127, { power := -900, peak := -900, dev := 50, isolated := true, seg := [], ladder := [], res := 0, cap := 0, echo := 0, dac := 0, adc := 0 }, by decide +kernel⟩,
   ⟨cal 127 { st := 4, due := some (3, 0), powerup := false }, 127, { power := 900, peak := 900, dev := 0, isolated := true, seg := [], ladder := [], res := 0, cap := 0, echo := 0, dac := 0, adc := 0 }, by decide +kernel⟩,
   ⟨cal 127 { st := 4, due := some (3, 0), powerup := false }, 127, by decide +kernel⟩,
   ⟨(cal 127 { st := 6, due := some (3, 0), powerup := false, spacing := true }).wr CALMGR.STAT.TXCLR 0, 127, by decide +kernel⟩,
   ⟨cal 127 { st := 6, due := some (3, 0), powerup := false }, 127, by decide +kernel⟩,
   ⟨cal 127 { st := 5, applied := 14, powerup := false, applyTo := [(0, 32), (3, -32)] }, 127, by decide +kernel⟩,
   ⟨cal 127 { st := 5, applied := 15, powerup := false, applyTo := [(0, 32), (3, -32)] }, 127, by decide +kernel⟩,
   ⟨{ (up.modClk fun x => { x with calDone := false }) with cal := (List.range 128).map fun l => (l, { powerup := false }) }, 127, by decide +kernel⟩⟩

/-- States and operands that meet the hypotheses of CalibrationGaps, clause by clause. -/
theorem wit_CalibrationGaps :
    (∃ (s : State) (l : Nat) (n : Neg), l < 128 ∧ s.fault.s3 = false ∧ s.gapNeg l = some n ∧ n.agreed = false ∧
      n.confirmed = false ∧ ((s.calX l).st = 3) ∧ (sfcCome (sfcAdd n.start 8) (s.portSfc (s.anchor l)) = true)) ∧
    (∃ (s : State) (l : Nat) (n : Neg), l < 128 ∧ s.fault.s3 = false ∧ ((s.port (s.anchor l)).neg = some n) ∧
      Change.calGap l ∈ n.changes ∧ n.agreed = true ∧ (sfcFrom (s.portSfc (s.anchor l)) n.target ≤ 2)) ∧
    (∃ (s : State) (l : Nat), l < 128 ∧ s.fault.s3 = false ∧ ((s.line l).frozen = true) ∧ ((s.calX l).st = 3) ∧
      s.refinOk = true) ∧
    (∃ (s : State) (l : Nat), l < 128 ∧ s.fault.s3 = false ∧ ((s.line l).frozen = true) ∧ ((s.calX l).st = 3) ∧
      s.refinOk = false) ∧
    (∃ (s : State) (l : Nat) (since : Nat), l < 128 ∧ s.fault.s3 = false ∧ ((s.calX l).gap = some since) ∧
      ((s.line l).frozen = true) ∧ (sfcCome (sfcAdd since 5) (s.portSfc (s.anchor l)) = true)) :=
  ⟨⟨(pt 1 127 { st := .showtime } { neg := some { ours := true, start := 290, target := 310, changes := [.calGap 127], count := 1, agreed := false, confirmed := false } }).modCal 127 fun x => { x with st := 3, powerup := false }, 127, { ours := true, start := 290, target := 310, changes := [.calGap 127], count := 1, agreed := false, confirmed := false }, by decide +kernel⟩,
   ⟨(pt 1 127 { st := .showtime } { neg := some { ours := true, start := 290, target := 302, changes := [.calGap 127], count := 1, agreed := true, confirmed := false } }).modCal 127 fun x => { x with st := 3, powerup := false }, 127, { ours := true, start := 290, target := 302, changes := [.calGap 127], count := 1, agreed := true, confirmed := false }, by decide +kernel⟩,
   ⟨((pt 1 127 { st := .showtime, frozen := true } {}).modCal 127 fun x => { x with st := 3, powerup := false }).wr CALMGR.STAT.REFIN_OK 1, 127, by decide +kernel⟩,
   ⟨((pt 1 127 { st := .showtime, frozen := true } {}).modCal 127 fun x => { x with st := 3, powerup := false }).wr CALMGR.REFIN.LEVEL 0, 127, by decide +kernel⟩,
   ⟨(pt 1 127 { st := .showtime, frozen := true } {}).modCal 127 fun x => { x with st := 4, gap := some 295, powerup := false }, 127, 295, by decide +kernel⟩⟩

/-- States and operands that meet the hypotheses of GridAndCycles, clause by clause. -/
theorem wit_GridAndCycles :
    (∃ (s : State), s.fault.s3 = false ∧ s.controlRunning = true ∧ s.pwr.state < 2 ∧ s.pwr.waking = false ∧
      s.clk.grid = true ∧ s.gridRuns = true) ∧
    (∃ (s : State), s.fault.s3 = true ∨ s.controlRunning = false ∨ 2 ≤ s.pwr.state ∨ s.pwr.waking = true ∨ s.gridRuns = false) ∧
    (∃ (s : State), s.fault.s3 = false ∧ s.clk.grid = true ∧ s.gridRuns = true ∧ s.sfc % 128 = 0 ∧ s.sym = 0) ∧
    (∃ (s : State), s.fault.s3 = false) ∧
    (∃ (s : State) (missing : List Nat) (j : Join) (l : Nat), s.fault.s3 = false ∧ s.xe.join = some j ∧
      128 ≤ sfcFrom j.start s.sfc ∧ sfcFrom j.start s.sfc < 144 ∧ l ∈ missing ∧ l ∈ j.lines) ∧
    (∃ (s : State), s.fault.s3 = true) :=
  ⟨⟨up, by decide +kernel⟩,
   ⟨up.modClk fun x => { x with locked := [0, 1] }, by decide +kernel⟩,
   ⟨{ up with sfc := 256 }, by decide +kernel⟩,
   ⟨up, by decide +kernel⟩,
   ⟨{ up with sfc := 384, xe := { join := some { ports := [127], lines := [127], phase := .second, start := 256 } } }, [127], { ports := [127], lines := [127], phase := .second, start := 256 }, 127, by decide +kernel⟩,
   ⟨up.modFault fun x => { x with s3 := true }, by decide +kernel⟩⟩

/-- States and operands that meet the hypotheses of DtusAndErasure, clause by clause. -/
theorem wit_DtusAndErasure :
    (∃ (s : State) (p : Nat), p < 128 ∧ s.fault.s3 = false) ∧
    (∃ (s : State) (p : Nat), p < 128 ∧ ((s.port p).rxHeld ≠ []) ∧ ((s.port p).express = false) ∧ s.fault.s3 = false) ∧
    (∃ (s : State) (tag : Nat), s.tagBeacons tag = false ∧ s.fault.s3 = false) ∧
    (∃ (s : State) (l : Nat), l < 128 ∧ s.isVHead l = true ∧ ((s.line l).st = LineState.showtime) ∧ s.dspRuns = true) ∧
    (∃ (s : State) (l : Nat) (c : Int) (due : Nat), l < 128 ∧ ((s.line l).taPending = some (c, due)) ∧
      (sfcCome due (s.pageSfc Page.ltrain l) = true) ∧ s.dspRuns = true) ∧
    (∃ (s : State) (l : Nat), l < 128 ∧ s.isVHead l = true ∧
      ((s.line l).st = LineState.showtime ∨ (s.line l).st = LineState.banked) ∧ s.dspRuns = true) :=
  ⟨⟨pt 1 127 { st := .showtime } {}, 127, by decide +kernel⟩,
   ⟨pt 1 127 { st := .showtime } { rxHeld := [⟨5, false, true, false, []⟩] }, 127, by decide +kernel⟩,
   ⟨up, 3, by decide +kernel⟩,
   ⟨ln 1 127 { st := .showtime }, 127, by decide +kernel⟩,
   ⟨ln 2 127 { st := .showtime, ta := 5, taPending := some (-7, 300) }, 127, -7, 300, by decide +kernel⟩,
   ⟨ln 1 127 { st := .banked }, 127, by decide +kernel⟩⟩

/-- States and operands that meet the hypotheses of OverheadReceived, clause by clause. -/
theorem wit_OverheadReceived :
    (∃ (s : State) (l : Nat) (n : Nat) (w : Word), l < 128 ∧ s.isV l = true ∧ s.hearsOverhead l = true ∧
      ((s.line l).frozen = false) ∧ n < 63 ∧ (ohDecode (BitVec.toNat w) = none) ∧ s.dspRuns = true) ∧
    (∃ (s : State) (l : Nat) (n : Nat) (w : Word) (v : OhWord), l < 128 ∧ s.isV l = true ∧ s.hearsOverhead l = true ∧
      ((s.line l).frozen = false) ∧ n < 63 ∧ (ohDecode (BitVec.toNat w) = some v) ∧ v.code ≠ 1 ∧ v.code ≠ 4 ∧
      s.dspRuns = true) ∧
    (∃ (s : State) (p : Nat) (target : Nat) (m : List Nat), p < 128 ∧ s.messageLines p ≠ [] ∧
      ((s.port p).neg = none) ∧ ((m.getD 0 0 * 256 + m.getD 1 0) % 2 ^ 16 ≠ s.portSfc p % 2 ^ 16) ∧
      (target = sfcAdd (s.portSfc p) ((m.getD 0 0 * 256 + m.getD 1 0 + 2 ^ 16 - s.portSfc p % 2 ^ 16) % 2 ^ 16)) ∧
      m.getD 0 0 < 256 ∧ m.getD 1 0 < 256 ∧ 2 ≤ m.getD 25 0 ∧ m.getD 25 0 ≤ 16 ∧ m.getD 26 0 < m.getD 25 0 ∧
      s.dspRuns = true) ∧
    (∃ (s : State) (l : Nat) (m : List Nat), l < 128 ∧ s.isVHead l = true ∧ ((s.line l).st = LineState.training) ∧
      m.getD 0 0 % 16 ≤ 10 ∧ (Option.all (fun (n : Neg) => n.ours || n.agreed) (s.port (s.anchor l)).neg = true) ∧
      (((s.line l).inLoad.get { } (bnat (bit (m.getD 0 0) 7))).id ≠ m.getD 1 0) ∧ s.dspRuns = true) ∧
    (∃ (s : State) (l : Nat), l < 128 ∧ s.isVTail l = true ∧ s.hearsOverhead l = true ∧ s.dspRuns = true) :=
  ⟨⟨upV 1 127 { st := .showtime } {  }, 127, 62, 1, by decide +kernel⟩,
   ⟨upV 1 127 { st := .showtime } {  }, 127, 62, (BitVec.ofNat 32 (0x1B1234 * 256 + crc8 (msbBits 24 0x1B1234))), (ohDecode (0x1B1234 * 256 + crc8 (msbBits 24 0x1B1234))).getD { code := 0, berf := false, ackv := false, ackSeq := 0, ackMap := 0, frag := 0 }, by decide +kernel⟩,
   ⟨upV 1 127 { st := .showtime } {  }, 127, sfcAdd 300 4, [1, 48] ++ List.replicate 23 0 ++ [2, 0], by decide +kernel⟩,
   ⟨upV 1 127 { st := .training } {}, 127, [0x80, 5], by decide +kernel⟩,
   ⟨upV 2 127 { st := .showtime } {  }, 127, by decide +kernel⟩⟩

/-- States and operands that meet the hypotheses of SealedPosts, clause by clause. -/
theorem wit_SealedPosts :
    (∃ (s : State) (x : Post) (v : Nat), s.controlRunning = true ∧ s.fault.s3 = false ∧ s.rest = [] ∧ s.posts = [x] ∧
      x.page = Page.xengine ∧ x.inst = 0 ∧ x.member = false ∧ x.phase = PostPhase.armed ∧ x.sealedPost = false ∧
      s.landingDue s.sfc x.moment x.target = true ∧ s.heldPost Page.xengine 0 = false ∧
      (s.conflicts [(Page.xengine, 0)] = false) ∧ s.stagedAt XENGINE.CTRL.PILOTSET 0 0 = some v ∧ v < 4) ∧
    (∃ (s : State) (p : Nat) (x : Post), p < 128 ∧ s.posts = [x] ∧ x.sealedPost = true ∧ x.member = false ∧
      x.phase = PostPhase.queued ∧ s.pagePort x.page x.inst = some p ∧
      (s.postKind [(x.page, x.inst)] (x.page, x.inst) ≠ 1) ∧ s.run = none ∧ s.fault.s3 = false) ∧
    (∃ (s : State) (p : Nat) (x : Post), p < 128 ∧ s.posts = [x] ∧ x.sealedPost = true ∧ x.member = false ∧
      (x.phase = PostPhase.held ∨ x.phase = PostPhase.queued) ∧ x.plain = false ∧ x.target = none ∧
      s.pagePort x.page x.inst = some p ∧ (s.postKind [(x.page, x.inst)] (x.page, x.inst) = 1) ∧
      (s.sealedTooLong [(x.page, x.inst)] = false) ∧ (s.conflicts [(x.page, x.inst)] = false) ∧
      (s.messageCount [(x.page, x.inst)] p ≤ 16) ∧ (s.maskLines [(x.page, x.inst)] p = []) ∧ ((s.port p).neg = none) ∧
      s.run = none ∧ s.fault.s3 = false) ∧
    (∃ (s : State) (p : Nat) (n : Neg), p < 128 ∧ ((s.port p).neg = some n) ∧ n.ours = true ∧ n.confirmed = false ∧
      n.withdrawn = false ∧ n.agreed = true ∧ (n.target = sfcAdd (s.portSfc p) 1) ∧ p ∉ s.runPorts ∧
      s.fault.s3 = false) :=
  ⟨⟨{ upI with posts := [{ page := .xengine, inst := 0, moment := 0, target := none, sealedPost := false, member := false, phase := .armed }], staged := [(XENGINE.CTRL.PILOTSET.key 0 0, 3)] }, { page := .xengine, inst := 0, moment := 0, target := none, sealedPost := false, member := false, phase := .armed }, 3, by decide +kernel⟩,
   ⟨{ (upV 1 127 { st := .training } {}) with posts := [{ page := .lload, inst := 127, moment := 2, target := none, sealedPost := true, member := false, phase := .queued }] }, 127, { page := .lload, inst := 127, moment := 2, target := none, sealedPost := true, member := false, phase := .queued }, by decide +kernel⟩,
   ⟨{ ((upV 1 124 { st := .showtime } {}).wr LAFE.CTRL.PGA_AUTO 0 124) with posts := [{ page := .lafe, inst := 124, moment := 3, target := none, sealedPost := true, member := false, phase := .queued }], staged := [(LAFE.CTRL.PGA.key 124 0, 20)] }, 124, { page := .lafe, inst := 124, moment := 3, target := none, sealedPost := true, member := false, phase := .queued }, by decide +kernel⟩,
   ⟨upV 1 127 { st := .showtime } { neg := some { ours := true, start := 296, target := 301, changes := [.sync], count := 1, agreed := true, confirmed := false } }, 127, { ours := true, start := 296, target := 301, changes := [.sync], count := 1, agreed := true, confirmed := false }, by decide +kernel⟩⟩

/-- States and operands that meet the hypotheses of HeaderWrites, clause by clause. -/
theorem wit_HeaderWrites :
    (∃ (s : State) (ch : Channel) (p : Page) (i : Nat) (w : Word), i < p.count ∧ (p = Page.letterbox → i = chIx ch) ∧
      (s.grants ch (HDR.EVT_EN.EN p) i 0 (BitVec.toNat w) = true)) ∧
    (∃ (s : State) (ch : Channel) (p : Page) (i : Nat) (w : Word), i < p.count ∧ (p = Page.letterbox → i = chIx ch) ∧
      (s.grants ch (HDR.PAGE_CTRL.LOCK p) i 0 (BitVec.toNat w) = true) ∧
      (BitVec.toNat w % 2 = s.g (HDR.PAGE_CTRL.ENABLE p) i) ∧ BitVec.toNat w / 2 % 2 = 0 ∧
      (BitVec.toNat w / 4 % 2 = s.g (HDR.PAGE_CTRL.FREEZE p) i)) ∧
    (∃ (s : State) (ch : Channel) (p : Page) (i : Nat) (w : Word), i < p.count ∧ (p = Page.letterbox → i = chIx ch) ∧
      (s.grants ch (HDR.PAGE_CTRL.FREEZE p) i 0 (withOnes w (HDR.PAGE_CTRL.FREEZE p)) = true) ∧
      (BitVec.toNat w % 2 = s.g (HDR.PAGE_CTRL.ENABLE p) i) ∧ BitVec.toNat w / 2 % 2 = 0 ∧
      (BitVec.toNat w / 8 % 2 = s.g (HDR.PAGE_CTRL.LOCK p) i) ∧ (s.g (HDR.PAGE_CTRL.FREEZE p) i = 0)) ∧
    (∃ (s : State) (ch : Channel) (p : Page) (i : Nat) (w : Word), i < p.count ∧ (p = Page.letterbox → i = chIx ch) ∧
      (s.grants ch (HDR.EVT_PEND.PEND p) i 0 (BitVec.toNat w) = true) ∧ (s.g (HDR.EVT_PEND.PEND p) i < 2 ^ 32) ∧
      (s.g (HDR.EVT_COUNT.COUNT p) i < 2 ^ 16)) ∧
    (∃ (s : State) (ch : Channel) (p : Page) (i : Nat) (w : Word), i < p.count ∧ (p = Page.letterbox → i = chIx ch) ∧
      (s.grants ch (HDR.EVT_INJECT.INJECT p) i 0 (BitVec.toNat w) = true) ∧ (s.g (HDR.EVT_PEND.PEND p) i < 2 ^ 32) ∧
      (s.g (HDR.EVT_COUNT.COUNT p) i < 2 ^ 16)) ∧
    (∃ (s : State) (ch : Channel) (p : Page) (i : Nat) (w : Word), i < p.count ∧ (p = Page.letterbox → i = chIx ch) ∧
      (s.grants ch (HDR.EVT_COUNT.CLR p) i 0 (withOnes w (HDR.EVT_COUNT.CLR p)) = true)) ∧
    (∃ (s : State) (ch : Channel) (p : Page) (i : Nat) (w : Word), i < p.count ∧ (p = Page.letterbox → i = chIx ch) ∧
      (s.grants ch (HDR.PAGE_CTRL.SOFT_RESET p) i 0 (withOnes w (HDR.PAGE_CTRL.SOFT_RESET p)) = true) ∧
      (BitVec.toNat w % 2 = s.g (HDR.PAGE_CTRL.ENABLE p) i) ∧
      (BitVec.toNat w / 4 % 2 = s.g (HDR.PAGE_CTRL.FREEZE p) i) ∧
      (BitVec.toNat w / 8 % 2 = s.g (HDR.PAGE_CTRL.LOCK p) i)) :=
  ⟨⟨upI, .mspi, .lload, 127, 0xFFFFFFFF, by decide +kernel⟩,
   ⟨upI, .mspi, .lload, 127, 9, by decide +kernel⟩,
   ⟨upI, .mspi, .lload, 127, 5, by decide +kernel⟩,
   ⟨(upI.wr (HDR.EVT_PEND.PEND .lload) 7 127).wr (HDR.EVT_COUNT.COUNT .lload) 0xFFFF 127, .mspi, .lload, 127, 3, by decide +kernel⟩,
   ⟨(upI.wr (HDR.EVT_PEND.PEND .lload) 6 127).wr (HDR.EVT_COUNT.COUNT .lload) 0xFFFE 127, .mspi, .lload, 127, 3, by decide +kernel⟩,
   ⟨(upI.wr (HDR.EVT_PEND.PEND .lload) 6 127).wr (HDR.EVT_COUNT.COUNT .lload) 0xFFFE 127, .mspi, .lload, 127, 0, by decide +kernel⟩,
   ⟨(upI.wr (HDR.EVT_PEND.PEND .lload) 6 127).wr (HDR.EVT_COUNT.COUNT .lload) 0xFFFE 127, .mspi, .lload, 127, 1, by decide +kernel⟩⟩

/-- States and operands that meet the hypotheses of EnvelopeWrites, clause by clause. -/
theorem wit_EnvelopeWrites :
    (∃ (s : State) (ch : Channel) (w : Word) (l : Nat) (j : Nat), l < 128 ∧ j < 4 ∧ s.postOf Page.lload l = none ∧
      (s.grants ch LLOAD.HOSTMASK.MASK l j (BitVec.toNat w) = true)) ∧
    (∃ (s : State) (ch : Channel) (w : Word) (p : Page) (i : Nat), i < p.count ∧ p ≠ Page.letterbox ∧
      hasEnvelope p = true ∧ (s.grants ch (HDR.ENV_CTRL.POST p) i 0 (withOnes w (HDR.ENV_CTRL.POST p)) = true) ∧
      BitVec.toNat w / 512 % 2 = 0 ∧ BitVec.toNat w / 4 % 4 = 2) ∧
    (∃ (s : State) (ch : Channel) (w : Word) (p : Page) (i : Nat), i < p.count ∧ p ≠ Page.letterbox ∧
      hasEnvelope p = true ∧ (s.grants ch (HDR.ENV_CTRL.POST p) i 0 (withOnes w (HDR.ENV_CTRL.POST p)) = true) ∧
      BitVec.toNat w / 512 % 2 = 0 ∧ BitVec.toNat w % 16 = 0 ∧ (p = Page.lafe → s.rangeWaits i = false)) ∧
    (∃ (s : State) (ch : Channel) (w : Word) (p : Page) (i : Nat), i < p.count ∧ p ≠ Page.letterbox ∧
      hasEnvelope p = true ∧ (s.grants ch (HDR.ENV_CTRL.POST p) i 0 (withOnes w (HDR.ENV_CTRL.POST p)) = true) ∧
      BitVec.toNat w / 512 % 2 = 0 ∧ BitVec.toNat w / 4 % 2 = 1 ∧ sealable p = false) ∧
    (∃ (s : State) (ch : Channel) (w : Word) (p : Page) (i : Nat), i < p.count ∧ p ≠ Page.letterbox ∧
      hasEnvelope p = true ∧ (s.grants ch (HDR.ENV_CTRL.DISCARD p) i 0 (withOnes w (HDR.ENV_CTRL.DISCARD p)) = true) ∧
      BitVec.toNat w / 256 % 2 = 0 ∧ s.run = none) ∧
    (∃ (s : State) (ch : Channel) (w : Word), (s.grants ch DEVENV.RUN_CTRL.RUN 0 0 (withOnes w DEVENV.RUN_CTRL.RUN) = true) ∧
      BitVec.toNat w / 512 % 2 = 0 ∧ BitVec.toNat w % 4 = 0) ∧
    (∃ (s : State) (ch : Channel) (w : Word), (s.grants ch DEVENV.RUN_CTRL.RUN 0 0 (withOnes w DEVENV.RUN_CTRL.RUN) = true) ∧
      BitVec.toNat w / 512 % 2 = 0 ∧ (BitVec.toNat w % 4 = 1 ∨ BitVec.toNat w % 4 = 2) ∧ s.runPages = []) ∧
    (∃ (s : State) (ch : Channel) (w : Word) (x : Post), (s.grants ch DEVENV.RUN_CTRL.RUN 0 0 (withOnes w DEVENV.RUN_CTRL.RUN) = true) ∧
      BitVec.toNat w / 512 % 2 = 0 ∧ BitVec.toNat w % 4 = 1 ∧ s.posts = [x] ∧ x.member = true ∧ x.sealedPost = false ∧
      (isLinePage x.page = true → s.isVTail x.inst = false)) ∧
    (∃ (s : State) (ch : Channel) (w : Word), (s.grants ch DEVENV.RUN_CTRL.CANCEL 0 0 (withOnes w DEVENV.RUN_CTRL.CANCEL) = true) ∧
      BitVec.toNat w / 256 % 2 = 0 ∧ (∀ (r : MailRun), s.run = some r → r.begun = false)) ∧
    (∃ (s : State) (ch : Channel) (w : Word), (s.grants ch DEVENV.BUSLOCK.TAKE 0 0 (withOnes w DEVENV.BUSLOCK.TAKE) = true) ∧
      BitVec.toNat w / 2 % 2 = 0) ∧
    (∃ (s : State) (ch : Channel) (w : Word), (s.grants ch DEVENV.BUSLOCK.RELEASE 0 0 (withOnes w DEVENV.BUSLOCK.RELEASE) = true) ∧
      BitVec.toNat w % 2 = 0) :=
  ⟨⟨upI, .mspi, 0xFFFFFFFF, 127, 3, by decide +kernel⟩,
   ⟨upI, .mspi, 8, .lload, 127, by decide +kernel⟩,
   ⟨upI, .mspi, 0, .lload, 127, by decide +kernel⟩,
   ⟨upI, .mspi, 4, .xengine, 0, by decide +kernel⟩,
   ⟨upI, .mspi, 0, .lload, 127, by decide +kernel⟩,
   ⟨upI, .mspi, 0, by decide +kernel⟩,
   ⟨upI, .mspi, 1, by decide +kernel⟩,
   ⟨{ upI with posts := [{ page := .lload, inst := 127, moment := 0, target := none, sealedPost := false, member := true, phase := .armed }] }, .mspi, 1, { page := .lload, inst := 127, moment := 0, target := none, sealedPost := false, member := true, phase := .armed }, by decide +kernel⟩,
   ⟨{ upI with posts := [{ page := .lload, inst := 127, moment := 0, target := none, sealedPost := false, member := true, phase := .armed }], run := some { moment := 1, target := some 301, begun := false, members := 1 } }, .mspi, 0, by decide +kernel⟩,
   ⟨upI, .mspi, 0, by decide +kernel⟩,
   ⟨upI.modMgmt fun m => { m with busOwner := chIx .mspi + 1 }, .mspi, 0, by decide +kernel⟩⟩

/-- States and operands that meet the hypotheses of LetterboxRows, clause by clause. -/
theorem wit_LetterboxRows :
    (∃ (s : State) (ch : Channel) (w : Word), (s.grants ch LETTERBOX.CMD.OPCODE (chIx ch) 0 (BitVec.toNat w) = true)) ∧
    (∃ (s : State) (ch : Channel), (s.g LETTERBOX.ARG.W (chIx ch) % 256 = 1)) ∧
    (∃ (s : State) (ch : Channel), (s.g LETTERBOX.ARG.W (chIx ch) % 256 = 128)) ∧
    (∃ (s : State) (ch : Channel) (r : Nat), (s.roleOf (chIx ch) = some r) ∧
      (s.g LETTERBOX.CMD.OPCODE (chIx ch) = 16) ∧ 1 ≤ r ∧ (s.grants ch LETTERBOX.DOORBELL.RING (chIx ch) 0 1 = true) ∧
      (s.g LETTERBOX.CMD.LENGTH (chIx ch) < 3 ∨ s.g LETTERBOX.ARG.W (chIx ch) % 256 ≠ 1 ∨ s.mgmt.lbCommands ≠ []) ∧
      Option.all LbCommand.started s.mgmt.lbCommands.head? = true) ∧
    (∃ (s : State) (ch : Channel) (r : Nat) (l : Nat), (s.roleOf (chIx ch) = some r) ∧
      (s.g LETTERBOX.CMD.OPCODE (chIx ch) = 16) ∧ 1 ≤ r ∧ (s.grants ch LETTERBOX.DOORBELL.RING (chIx ch) 0 1 = true) ∧
      (3 ≤ s.g LETTERBOX.CMD.LENGTH (chIx ch)) ∧ (s.g LETTERBOX.ARG.W (chIx ch) % 256 = 1) ∧ s.mgmt.lbCommands = [] ∧
      (diagPage (s.g LETTERBOX.ARG.W (chIx ch)) = some (Page.lmon, l)) ∧ s.busy Page.lmon l = false ∧
      (s.turnsDown (LMON.CAP_CTRL.REQUEST.write ch l 0 (bits (s.g LETTERBOX.ARG.W (chIx ch) 1) 0 31 + 2 ^ 31)) = false)) ∧
    (∃ (s : State) (ch : Channel), (s.mgmt.lbLease = some (chIx ch)) ∧
      ((s.mgmt.lbCommands.any fun (x : LbCommand) => x.ch == chIx ch) = false)) ∧
    (∃ (s : State) (ch : Channel), (s.mgmt.lbLease = some (chIx ch)) ∧
      ((s.mgmt.lbCommands.any fun (x : LbCommand) => x.ch == chIx ch) = true)) ∧
    (∃ (s : State) (ch : Channel) (x : LbCommand), s.mgmt.lbCommands = [x] ∧ x.ch = chIx ch ∧ s.stokerRuns = true ∧
      x.opcode = 1 ∧ x.discard = true) ∧
    (∃ (s : State) (ch : Channel) (args : List Nat), s.serves ch 1 args = true) ∧
    (∃ (s : State) (ch : Channel) (op : Nat) (args : List Nat), opcodeRole op 0 = none ∧ s.serves ch op args = true) ∧
    (∃ (s : State) (ch : Channel) (n : Nat) (args : List Nat), (s.serves ch 32 (n :: args) = true) ∧ 4097 ≤ n ∧
      n ≤ 16777216 ∧ s.trust.bootState ≠ 3 ∧ (Option.all (fun (u : Upload) => u.ch == chIx ch) s.trust.upload = true)) ∧
    (∃ (s : State) (ch : Channel) (u : Upload) (data : List Nat), s.trust.upload = some u ∧ u.ch = chIx ch ∧
      (s.serves ch 33 (u.next :: data) = true) ∧ data ≠ [] ∧
      (data.length = min 255 (ceilDiv u.length 4 - u.words.length))) ∧
    (∃ (s : State) (ch : Channel) (u : Upload) (args : List Nat), s.trust.upload = some u ∧ u.ch = chIx ch ∧
      s.serves ch 34 args = true ∧ u.words.length = ceilDiv u.length 4) ∧
    (∃ (s : State) (ch : Channel) (w : Nat) (args : List Nat) (k : Nat), (s.slotKey (w % 8) useParcel = some k) ∧
      (s.serves ch 48 (w :: args) = true)) ∧
    (∃ (s : State) (ch : Channel) (e : Transfer) (args : List Nat), (s.trust.exports.find (chIx ch) = some e) ∧
      255 * e.next < e.words.length ∧ s.serves ch 49 args = true) ∧
    (∃ (s : State) (ch : Channel) (data : List Nat), data ≠ [] ∧ data.length ≤ 255 ∧
      (s.serves ch 50 (0 :: data) = true)) ∧
    (∃ (s : State) (ch : Channel) (data : List Nat) (e : Transfer), data ≠ [] ∧ data.length ≤ 255 ∧
      (s.trust.imports.find (chIx ch) = some e) ∧ e.next ≠ 0 ∧ e.lastLen = 255 ∧
      (s.serves ch 50 (e.next :: data) = true)) ∧
    (∃ (s : State) (ch : Channel) (w : Nat) (args : List Nat), w % 256 = 1 ∧ 8 ≤ args.length ∧
      s.trust.attestOff = false ∧ (s.serves ch 64 (w :: args) = true)) ∧
    (∃ (s : State) (ch : Channel) (w : Nat) (off : Nat) (args : List Nat) (r : List Nat), w % 256 = 128 ∧
      (s.trust.reports.find (chIx ch) = some r) ∧ (s.serves ch 64 (w :: off :: args) = true)) ∧
    (∃ (s : State) (ch : Channel) (w : Nat) (fields : Nat) (span : Nat) (args : List Nat) (p : Page) (l : Nat), (diagPage w = some (p, l)) ∧
      (w % 256 = 1 → s.busy p l = false) ∧ (w % 256 = 1 ∨ w % 256 = 128) ∧
      (s.serves ch 16 (w :: fields :: span :: args) = true)) :=
  ⟨⟨upI, .mspi, 0x01020003, by decide +kernel⟩,
   ⟨((((upI.wr LETTERBOX.CMD.OPCODE 64 (chIx .mspi)).wr LETTERBOX.CMD.TAG 9 (chIx .mspi)).wr LETTERBOX.CMD.LENGTH 3 (chIx .mspi)).modMgmt fun m => { m with lbLease := some (chIx .mspi), sessions := [(chIx .mspi, { isOpen := true, role := 3, slot := 7 })] }).wr LETTERBOX.ARG.W 1 (chIx .mspi) 0, .mspi, by decide +kernel⟩,
   ⟨((((upI.wr LETTERBOX.CMD.OPCODE 64 (chIx .mspi)).wr LETTERBOX.CMD.TAG 9 (chIx .mspi)).wr LETTERBOX.CMD.LENGTH 3 (chIx .mspi)).modMgmt fun m => { m with lbLease := some (chIx .mspi), sessions := [(chIx .mspi, { isOpen := true, role := 3, slot := 7 })] }).wr LETTERBOX.ARG.W 128 (chIx .mspi) 0, .mspi, by decide +kernel⟩,
   ⟨(((upI.wr LETTERBOX.CMD.OPCODE 16 (chIx .mspi)).wr LETTERBOX.CMD.TAG 9 (chIx .mspi)).wr LETTERBOX.CMD.LENGTH 2 (chIx .mspi)).modMgmt fun m => { m with lbLease := some (chIx .mspi) }, .mspi, 3, by decide +kernel⟩,
   ⟨((((upI.wr LETTERBOX.CMD.OPCODE 16 (chIx .mspi)).wr LETTERBOX.ARG.W 0x53630001 (chIx .mspi) 0 |>.wr LETTERBOX.ARG.W 20 (chIx .mspi) 1).wr LETTERBOX.CMD.LENGTH 3 (chIx .mspi)).modMgmt fun m => { m with lbLease := some (chIx .mspi) }), .mspi, 3, 99, by decide +kernel⟩,
   ⟨upI.modMgmt fun m => { m with lbLease := some (chIx .mspi) }, .mspi, by decide +kernel⟩,
   ⟨upI.modMgmt fun m => { m with lbLease := some (chIx .mspi), lbCommands := [⟨chIx .mspi, 1, 7, [4, 5], false, true⟩] }, .mspi, by decide +kernel⟩,
   ⟨(upI.modMgmt fun m => { m with lbCommands := [⟨chIx .mspi, 1, 7, [4, 5], true, true⟩] }), .mspi, ⟨chIx .mspi, 1, 7, [4, 5], true, true⟩, by decide +kernel⟩,
   ⟨(upI.modMgmt fun m => { m with lbCommands := [⟨chIx .mspi, 1, 7, [4, 5], false, true⟩] }), .mspi, [4, 5], by decide +kernel⟩,
   ⟨(upI.modMgmt fun m => { m with lbCommands := [⟨chIx .mspi, 238, 7, [4, 5], false, true⟩] }), .mspi, 238, [4, 5], by decide +kernel⟩,
   ⟨((upI.modTrust fun x => { x with bootState := 0 }).modMgmt fun m => { m with lbCommands := [⟨chIx .mspi, 32, 7, [4097], false, true⟩] }), .mspi, 4097, [], by decide +kernel⟩,
   ⟨((upI.modTrust fun x => { x with upload := some { ch := 0, length := 8000, words := List.replicate 255 9, next := 1, lastLen := 255 } }).modMgmt fun m => { m with lbCommands := [⟨chIx .mspi, 33, 7, (1 :: List.replicate 255 3), false, true⟩] }), .mspi, { ch := 0, length := 8000, words := List.replicate 255 9, next := 1, lastLen := 255 }, List.replicate 255 3, by decide +kernel⟩,
   ⟨((upI.modTrust fun x => { x with upload := some { ch := 0, length := 40, words := List.replicate 10 9, next := 1, lastLen := 10 } }).modMgmt fun m => { m with lbCommands := [⟨chIx .mspi, 34, 7, [], false, true⟩] }), .mspi, { ch := 0, length := 40, words := List.replicate 10 9, next := 1, lastLen := 10 }, [], by decide +kernel⟩,
   ⟨((upI.modTrust fun x => { x with slots := [(3, { valid := true, maxRole := 2, usage := 2 ^ useParcel, key := .burnt 5 })] }).modMgmt fun m => { m with lbCommands := [⟨chIx .mspi, 48, 7, [0x103], false, true⟩] }), .mspi, 0x103, [], 5, by decide +kernel⟩,
   ⟨((upI.modTrust fun x => { x with exports := [(0, { words := List.replicate 300 5, next := 1, length := 1200 })] }).modMgmt fun m => { m with lbCommands := [⟨chIx .mspi, 49, 7, [], false, true⟩] }), .mspi, { words := List.replicate 300 5, next := 1, length := 1200 }, [], by decide +kernel⟩,
   ⟨(upI.modMgmt fun m => { m with lbCommands := [⟨chIx .mspi, 50, 7, [0, 4, 5], false, true⟩] }), .mspi, [4, 5], by decide +kernel⟩,
   ⟨((upI.modTrust fun x => { x with imports := [(0, { words := List.replicate 255 5, next := 1, lastLen := 255 })] }).modMgmt fun m => { m with lbCommands := [⟨chIx .mspi, 50, 7, [1, 4, 5], false, true⟩] }), .mspi, [4, 5], { words := List.replicate 255 5, next := 1, lastLen := 255 }, by decide +kernel⟩,
   ⟨(upI.modMgmt fun m => { m with lbCommands := [⟨chIx .mspi, 64, 7, (1 :: List.replicate 8 7), false, true⟩] }), .mspi, 1, List.replicate 8 7, by decide +kernel⟩,
   ⟨((upI.modTrust fun x => { x with reports := [(0, List.replicate 2000 6)] }).modMgmt fun m => { m with lbCommands := [⟨chIx .mspi, 64, 7, [128, 16], false, true⟩] }), .mspi, 128, 16, [], List.replicate 2000 6, by decide +kernel⟩,
   ⟨(upI.modMgmt fun m => { m with lbCommands := [⟨chIx .mspi, 16, 7, [0x53630080, 0, 500], false, true⟩] }), .mspi, 0x53630080, 0, 500, [], .lmon, 99, by decide +kernel⟩⟩

/-- States and operands that meet the hypotheses of PowerAndFaultWrites, clause by clause. -/
theorem wit_PowerAndFaultWrites :
    (∃ (s : State) (ch : Channel) (w : Word) (v : Nat), v < 4 ∧
      (s.grants ch HEARTH.PSTATE.REQ 0 0 (withValue w HEARTH.PSTATE.REQ v) = true) ∧ s.g HEARTH.PSTATE.REQ ≠ v ∧
      v = 0 ∧ s.pwr.state = 1) ∧
    (∃ (s : State) (ch : Channel) (w : Word) (v : Nat), v < 4 ∧
      (s.grants ch HEARTH.PSTATE.REQ 0 0 (withValue w HEARTH.PSTATE.REQ v) = true) ∧ s.g HEARTH.PSTATE.REQ ≠ v ∧
      v = 1 ∧ s.pwr.state = 0) ∧
    (∃ (s : State) (ch : Channel) (w : Word) (v : Nat), v < 4 ∧
      (s.grants ch HEARTH.PSTATE.REQ 0 0 (withValue w HEARTH.PSTATE.REQ v) = true) ∧ s.g HEARTH.PSTATE.REQ ≠ v ∧
      v = 2) ∧
    (∃ (s : State) (ch : Channel) (w : Word) (v : Nat), v < 4 ∧
      (s.grants ch HEARTH.PSTATE.REQ 0 0 (withValue w HEARTH.PSTATE.REQ v) = true) ∧ s.g HEARTH.PSTATE.REQ ≠ v ∧
      v = 3) ∧
    (∃ (s : State) (ch : Channel) (w : Word), (s.grants ch PERF.CTRL.TARGET 0 0 (BitVec.toNat w) = true) ∧
      BitVec.toNat w < 4 ∧ s.g PERF.CTRL.TARGET ≠ BitVec.toNat w ∧ s.lvl.phase = LevelPhase.idle ∧
      s.lvl.coldRead = false ∧ s.lvl.avsFail = false ∧ s.fault.s3 = false ∧ s.xe.join = none ∧ s.pwr.doze = false ∧
      s.pwr.state = 0 ∧ s.pwr.stage < 3 ∧ (s.lvl.level < max (BitVec.toNat w) s.lvl.cap)) ∧
    (∃ (s : State) (ch : Channel) (w : Word), (s.grants ch PERF.CTRL.TARGET 0 0 (BitVec.toNat w) = true) ∧
      BitVec.toNat w < 4 ∧ s.g PERF.CTRL.TARGET ≠ BitVec.toNat w ∧ s.lvl.phase = LevelPhase.idle ∧
      s.lvl.coldRead = false ∧ s.lvl.avsFail = false ∧ s.fault.s3 = false ∧ s.xe.join = none ∧ s.pwr.doze = false ∧
      s.pwr.state = 0 ∧ s.pwr.stage < 3 ∧ (max (BitVec.toNat w) s.lvl.cap < s.lvl.level)) ∧
    (∃ (s : State) (ch : Channel) (w : Word), (s.grants ch PERF.CTRL.AVS_RETRY 0 0 (withOnes w PERF.CTRL.AVS_RETRY) = true)) ∧
    (∃ (s : State) (ch : Channel) (w : Word), (s.grants ch THERMAL.PEAK.CLEAR 0 0 (withOnes w THERMAL.PEAK.CLEAR) = true)) ∧
    (∃ (s : State) (ch : Channel) (w : Word) (c : Nat), c < 4 ∧
      (s.grants ch CTEMP.MINMAX.CLEAR c 0 (withOnes w CTEMP.MINMAX.CLEAR) = true)) ∧
    (∃ (s : State) (ch : Channel) (w : Word), (s.grants ch FAULT.CTRL.REBOOT 0 0 (withOnes w FAULT.CTRL.REBOOT) = true)) ∧
    (∃ (s : State) (ch : Channel) (w : Word) (r : Nat), r < 2 ∧
      (s.grants ch FAULT.CLEAR.SEQ 0 0 (BitVec.toNat w) = true) ∧ BitVec.toNat w / 2 ^ 30 = 2 - r ∧
      s.g FAULT.REC_HDR.VALID 0 r = 1 ∧ s.g FAULT.REC_HDR.SEQ 0 r = BitVec.toNat w % 2 ^ 16) ∧
    (∃ (s : State) (ch : Channel) (w : Word) (r : Nat), r < 2 ∧
      (s.grants ch FAULT.CLEAR.SEQ 0 0 (BitVec.toNat w) = true) ∧ BitVec.toNat w / 2 ^ 30 = 2 - r ∧
      s.g FAULT.REC_HDR.SEQ 0 r ≠ BitVec.toNat w % 2 ^ 16) ∧
    (∃ (s : State) (ch : Channel) (w : Word), (s.grants ch FAULT.INJECT.GO 0 0 (withOnes w FAULT.INJECT.GO) = true) ∧
      s.injectedFault = none ∧ BitVec.toNat w / 2 ^ 30 % 2 = 0) ∧
    (∃ (s : State) (ch : Channel) (w : Word) (hi : Bool), (s.grants ch (if hi = true then FAULT.FENCE_HI.MAP else FAULT.FENCE_LO.MAP) 0 0 (BitVec.toNat w) = true)) :=
  ⟨⟨(upI.modPwr fun x => { x with state := 1 }).wr HEARTH.PSTATE.REQ 1, .mspi, 0, 0, by decide +kernel⟩,
   ⟨upI, .mspi, 0, 1, by decide +kernel⟩,
   ⟨upI, .mspi, 0, 2, by decide +kernel⟩,
   ⟨upI, .mspi, 0, 3, by decide +kernel⟩,
   ⟨(upI.wr PERF.CTRL.TARGET 0).modLvl fun x => { x with level := 0, going := 0 }, .mspi, 3, by decide +kernel⟩,
   ⟨(upI.wr PERF.CTRL.TARGET 3).modLvl fun x => { x with level := 3 }, .mspi, 0, by decide +kernel⟩,
   ⟨upI, .mspi, 0, by decide +kernel⟩,
   ⟨(upI.wr THERMAL.TJ.TEMP 77).wr THERMAL.PEAK.TEMP 99, .mspi, 0, by decide +kernel⟩,
   ⟨(upI.wr CTEMP.TEMP.TEMP 77 3).wr CTEMP.MINMAX.MIN 4 3, .mspi, 0, 3, by decide +kernel⟩,
   ⟨upI.modFault fun x => { x with s3 := true }, .mspi, 0, by decide +kernel⟩,
   ⟨(upI.wr FAULT.REC_HDR.VALID 1 0 0).wr FAULT.REC_HDR.SEQ 65535 0 0, .mspi, (BitVec.ofNat 32 (2 * 2 ^ 30 + 65535)), 0, by decide +kernel⟩,
   ⟨(upI.wr FAULT.REC_HDR.VALID 1 0 0).wr FAULT.REC_HDR.SEQ 65535 0 0, .mspi, (BitVec.ofNat 32 (2 * 2 ^ 30 + 65534)), 0, by decide +kernel⟩,
   ⟨upI, .mspi, 0xFFF, by decide +kernel⟩,
   ⟨upI, .mspi, 0xFFFFFFFF, true, by decide +kernel⟩⟩

/-- States and operands that meet the hypotheses of TrustWrites, clause by clause. -/
theorem wit_TrustWrites :
    (∃ (s : State) (ch : Channel) (w : Word), (s.grants ch TRUST.LIFECYCLE.ADVANCE 0 0 (withOnes w TRUST.LIFECYCLE.ADVANCE) = true)) ∧
    (∃ (s : State) (ch : Channel) (w : Word), (s.grants ch TRUST.KEYPROG.PROGRAM 0 0 (withOnes w TRUST.KEYPROG.PROGRAM) = true) ∧
      BitVec.toNat w / 2 ^ 30 % 2 = 0) ∧
    (∃ (s : State) (ch : Channel) (w : Word), (s.grants ch TRUST.KEYPROG.REVOKE 0 0 (withOnes w TRUST.KEYPROG.REVOKE) = true) ∧
      BitVec.toNat w / 2 ^ 31 = 0) ∧
    (∃ (s : State) (ch : Channel) (w : Word), (s.grants ch SESSION.CMD.CLOSE (chIx ch) 0 (withOnes w SESSION.CMD.CLOSE) = true) ∧
      BitVec.toNat w / 2 ^ 29 % 2 = 0 ∧ BitVec.toNat w / 2 ^ 31 = 0 ∧ ((s.session (chIx ch)).isOpen = true)) ∧
    (∃ (s : State) (ch : Channel) (w : Word), (s.grants ch SESSION.CMD.RENEW (chIx ch) 0 (withOnes w SESSION.CMD.RENEW) = true) ∧
      BitVec.toNat w / 2 ^ 30 = 0) ∧
    (∃ (s : State) (ch : Channel) (w : Word), (s.grants ch BOOT.CTRL.CONFIRM 0 0 (withOnes w BOOT.CTRL.CONFIRM) = true) ∧
      BitVec.toNat w / 2 ^ 30 % 2 = 0 ∧ s.trust.bootState = 3) ∧
    (∃ (s : State) (ch : Channel) (w : Word), (s.grants ch TRUST.COMPAT.PENDING 0 0 (BitVec.toNat w) = true) ∧
      BitVec.toNat w / 256 % 256 = 176) ∧
    (∃ (s : State) (ch : Channel) (w : Word) (p : Nat), p < 128 ∧
      (s.grants ch PORT_SEC.PAIR_SET.SET p 0 (withOnes w PORT_SEC.PAIR_SET.SET) = true)) ∧
    (∃ (s : State) (ch : Channel) (w : Word) (p : Nat) (a : Nat), p < 128 ∧ a < 6 ∧
      (s.grants ch PORT_SEC.SA_CTRL.INSTALL p a (withOnes w PORT_SEC.SA_CTRL.INSTALL) = true)) :=
  ⟨⟨upI, .mdio, 256, by decide +kernel⟩,
   ⟨upI, .mspi, (5 + 256), by decide +kernel⟩,
   ⟨upI, .mspi, 7, by decide +kernel⟩,
   ⟨upI, .mspi, 0, by decide +kernel⟩,
   ⟨upI, .mspi, 0, by decide +kernel⟩,
   ⟨upI, .mspi, 0, by decide +kernel⟩,
   ⟨upI, .mspi, 0xB000, by decide +kernel⟩,
   ⟨upI, .mspi, 0, 124, by decide +kernel⟩,
   ⟨upI, .mspi, 0, 124, 5, by decide +kernel⟩⟩

/-- States and operands that meet the hypotheses of SvnCommit, clause by clause. -/
theorem wit_SvnCommit :
    (∃ (s : State) (ch : Channel) (w : Word), (s.grants ch BOOT.CTRL.SVN_COMMIT 0 0 (withOnes w BOOT.CTRL.SVN_COMMIT) = true) ∧
      BitVec.toNat w / 2 ^ 31 = 0) ∧
    (∃ (s : State), s.steady = true ∧ s.mgmt.ibQueue = [] ∧ s.trust.bootState = 3) :=
  ⟨⟨upI.modTrust fun t => { t with bootState := 2 }, .mspi, 0, by decide +kernel⟩,
   ⟨upI, by decide +kernel⟩⟩

/-- States and operands that meet the hypotheses of LineWrites, clause by clause. -/
theorem wit_LineWrites :
    (∃ (s : State) (ch : Channel) (l : Nat) (w : Word), l < 128 ∧
      (s.grants ch (HDR.PAGE_CTRL.ENABLE Page.lctl) l 0 (withValue w (HDR.PAGE_CTRL.ENABLE Page.lctl) 0) = true) ∧
      (s.g (HDR.PAGE_CTRL.ENABLE Page.lctl) l = 1) ∧ BitVec.toNat w / 2 % 2 = 0 ∧
      (BitVec.toNat w / 4 % 2 = s.g (HDR.PAGE_CTRL.FREEZE Page.lctl) l) ∧ ((s.line l).st ≠ LineState.faulted)) ∧
    (∃ (s : State) (ch : Channel) (l : Nat) (w : Word), l < 128 ∧
      (s.grants ch LTRAIN.CTRL.RETRAIN l 0 (withOnes w LTRAIN.CTRL.RETRAIN) = true) ∧ BitVec.toNat w % 16 / 8 = 0 ∧
      BitVec.toNat w % 4 = 0 ∧ s.isV l = true ∧
      ((s.line l).st = LineState.showtime ∨ (s.line l).st = LineState.banked)) ∧
    (∃ (s : State) (ch : Channel) (l : Nat) (w : Word), l < 128 ∧
      (s.grants ch LTRAIN.CTRL.RESTART l 0 (withOnes w LTRAIN.CTRL.RESTART) = true) ∧ BitVec.toNat w % 8 = 0 ∧
      s.isV l = true ∧ ((s.line l).st ≠ LineState.off) ∧ ((s.line l).st ≠ LineState.faulted) ∧ s.xe.join = none) ∧
    (∃ (s : State) (ch : Channel) (l : Nat) (w : Word), l < 128 ∧
      (s.grants ch LTRAIN.CTRL.BANK l 0 (withOnes w LTRAIN.CTRL.BANK) = true) ∧ BitVec.toNat w % 16 / 2 = 0 ∧
      s.isV l = true ∧ (∀ m ∈ s.portLines l, (s.line m).st = LineState.showtime) ∧ ((s.port l).neg = none)) ∧
    (∃ (s : State) (ch : Channel) (l : Nat) (w : Word), l < 128 ∧
      (s.grants ch LTRAIN.CTRL.WAKE l 0 (withOnes w LTRAIN.CTRL.WAKE) = true) ∧ BitVec.toNat w % 2 = 0 ∧
      BitVec.toNat w % 16 / 4 = 0 ∧ s.isV l = true ∧ s.isAnchor l = true ∧ ((s.port l).waking = 0) ∧
      (∀ m ∈ s.portLines l, (s.line m).st = LineState.banked)) ∧
    (∃ (s : State) (ch : Channel) (l : Nat) (w : Word), l < 128 ∧
      (s.grants ch LDIAG.REQ.REFLECT l 0 (withOnes w LDIAG.REQ.REFLECT) = true) ∧ ((s.line l).st = LineState.diag) ∧
      BitVec.toNat w / 256 % 4 = 2) ∧
    (∃ (s : State) (ch : Channel) (l : Nat) (w : Word), l < 128 ∧
      (s.grants ch LDIAG.REQ.REFLECT l 0 (withOnes w LDIAG.REQ.REFLECT) = true) ∧ ((s.line l).st ≠ LineState.diag)) ∧
    (∃ (s : State) (ch : Channel) (l : Nat) (w : Word), l < 128 ∧
      (s.grants ch LAFE.CAL_REQ.REQUEST l 0 (withOnes w LAFE.CAL_REQ.REQUEST) = true) ∧ BitVec.toNat w % 2 = 0) ∧
    (∃ (s : State) (ch : Channel) (l : Nat) (w : Word), l < 128 ∧
      (s.grants ch LAFE.CAL_REQ.REQUEST l 0 (withOnes w LAFE.CAL_REQ.REQUEST) = true) ∧ BitVec.toNat w % 2 = 1 ∧
      s.mode l ≠ 0 ∧ s.mode l ≠ 5) ∧
    (∃ (s : State) (ch : Channel) (l : Nat) (w : Word), l < 128 ∧
      (s.grants ch CALMGR.CTRL.REQ_ALL 0 0 (withOnes w CALMGR.CTRL.REQ_ALL) = true)) ∧
    (∃ (s : State) (ch : Channel) (l : Nat) (w : Word), l < 128 ∧
      (s.grants ch LSTD.ADV.RESTART l 0 (withOnes w LSTD.ADV.RESTART) = true) ∧ ((s.line l).st = LineState.standard) ∧
      s.g LSTD.STATUS.LINK l = 1) :=
  ⟨⟨(upV 1 124 { st := .showtime } {  }).wr (HDR.PAGE_CTRL.ENABLE .lctl) 1 124, .mspi, 124, 1, by decide +kernel⟩,
   ⟨upV 1 124 { st := .showtime } {  }, .mspi, 124, 0, by decide +kernel⟩,
   ⟨upV 1 124 { st := .showtime } {  }, .mspi, 124, 0, by decide +kernel⟩,
   ⟨upV 1 124 { st := .showtime } {  }, .mspi, 124, 0, by decide +kernel⟩,
   ⟨upV 1 124 { st := .banked } {  }, .mspi, 124, 0, by decide +kernel⟩,
   ⟨upI.setLine 124 { st := .diag }, .mspi, 124, 512, by decide +kernel⟩,
   ⟨upI, .mspi, 124, 512, by decide +kernel⟩,
   ⟨upI, .mspi, 124, 0, by decide +kernel⟩,
   ⟨upV 1 124 { st := .showtime } {  }, .mspi, 124, 1, by decide +kernel⟩,
   ⟨upI, .mspi, 124, 0, by decide +kernel⟩,
   ⟨((upI.wr LCTL.MODE.SEL 3 124).setLine 124 { st := .standard }).wr LSTD.STATUS.LINK 1 124, .mspi, 124, 0, by decide +kernel⟩⟩

/-- States and operands that meet the hypotheses of MonitorWrites, clause by clause. -/
theorem wit_MonitorWrites :
    (∃ (s : State) (ch : Channel) (l : Nat) (w : Word), l < 128 ∧
      (s.grants ch LMON.CHAIN.PRESET l 0 (BitVec.toNat w) = true) ∧ ((s.monX l).owner = 0) ∧
      s.g LMON.CHAIN.PRESET l ≠ BitVec.toNat w % 8) ∧
    (∃ (s : State) (ch : Channel) (l : Nat) (w : Word), l < 128 ∧
      (s.grants ch LMON.NCO.FREQ l 0 (BitVec.toNat w) = true) ∧ ((s.monX l).owner = 0)) ∧
    (∃ (s : State) (ch : Channel) (l : Nat) (w : Word), l < 128 ∧
      (s.grants ch LMON.SYNCRST.ARM l 0 (withOnes w LMON.SYNCRST.ARM) = true)) ∧
    (∃ (s : State) (ch : Channel) (l : Nat) (w : Word), l < 128 ∧
      (s.grants ch LMON.SYNCRST.CANCEL l 0 (withOnes w LMON.SYNCRST.CANCEL) = true) ∧ BitVec.toNat w / 256 % 2 = 0) ∧
    (∃ (s : State) (ch : Channel) (l : Nat) (w : Word), l < 128 ∧
      (s.grants ch LMON.BANK.SWAP l 0 (withOnes w LMON.BANK.SWAP) = true) ∧ ((s.monX l).bank = 0) ∧
      ((s.monX l).owner = 0) ∧ s.chainPreset l ≠ 4) ∧
    (∃ (s : State) (ch : Channel) (l : Nat) (w : Word), l < 128 ∧
      (s.grants ch LMON.BANK.SWAP l 0 (withOnes w LMON.BANK.SWAP) = true) ∧ ((s.monX l).bank = 1)) ∧
    (∃ (s : State) (ch : Channel) (l : Nat) (w : Word), l < 128 ∧
      (s.grants ch LMON.BANK.SWAP l 0 (withOnes w LMON.BANK.SWAP) = true) ∧ (2 ≤ (s.monX l).bank)) ∧
    (∃ (s : State) (ch : Channel) (l : Nat) (w : Word) (bank : Nat) (i : Nat), l < 128 ∧ i < 64 ∧
      (s.grants ch (if bank = 0 then LMON.BANKA.TAP else LMON.BANKB.TAP) l i (BitVec.toNat w) = true)) ∧
    (∃ (s : State) (ch : Channel) (l : Nat) (w : Word), l < 128 ∧
      (s.grants ch LMON.CAP_CTRL.REQUEST l 0 (withOnes w LMON.CAP_CTRL.REQUEST) = true)) ∧
    (∃ (s : State) (ch : Channel) (l : Nat) (w : Word), l < 128 ∧
      (s.grants ch LMON.CNT_CTRL.CLEAR l 0 (withOnes w LMON.CNT_CTRL.CLEAR) = true)) ∧
    (∃ (s : State) (ch : Channel) (l : Nat) (w : Word), l < 128 ∧
      (s.grants ch LMON.SNR_WATCH.TONE l 0 (BitVec.toNat w) = true) ∧
      s.g LMON.SNR_WATCH.TONE l ≠ BitVec.toNat w % 128) :=
  ⟨⟨(upI.setLine 124 { st := .showtime }).modMon 124 fun _ => {  }, .mspi, 124, 4, by decide +kernel⟩,
   ⟨(upI.setLine 124 { st := .showtime }).modMon 124 fun _ => {  }, .mspi, 124, 0xFFFFFFFF, by decide +kernel⟩,
   ⟨(upI.setLine 124 { st := .showtime }).modMon 124 fun _ => {  }, .mspi, 124, 0, by decide +kernel⟩,
   ⟨(upI.setLine 124 { st := .showtime }).modMon 124 fun _ => { armed := some ⟨1, 2, 3, 4⟩ }, .mspi, 124, 0, by decide +kernel⟩,
   ⟨(upI.setLine 124 { st := .showtime }).modMon 124 fun _ => { active := 1 }, .mspi, 124, 0, by decide +kernel⟩,
   ⟨(upI.setLine 124 { st := .showtime }).modMon 124 fun _ => { bank := 1, fade := 4 }, .mspi, 124, 0, by decide +kernel⟩,
   ⟨(upI.setLine 124 { st := .showtime }).modMon 124 fun _ => { bank := 2 }, .mspi, 124, 0, by decide +kernel⟩,
   ⟨(upI.setLine 124 { st := .showtime }), .mspi, 124, 0xFFFFFFFF, 1, 63, by decide +kernel⟩,
   ⟨(upI.setLine 124 { st := .showtime }).modMon 124 fun _ => {  }, .mspi, 124, 0, by decide +kernel⟩,
   ⟨(upI.setLine 124 { st := .showtime }).modMon 124 fun _ => {  }, .mspi, 124, 0, by decide +kernel⟩,
   ⟨(upI.setLine 124 { st := .showtime }).modMon 124 fun _ => {  }, .mspi, 124, 127, by decide +kernel⟩⟩

/-- States and operands that meet the hypotheses of DeviceWrites, clause by clause. -/
theorem wit_DeviceWrites :
    (∃ (s : State) (ch : Channel) (w : Word), (s.grants ch XENGINE.CTRL.HOLD 0 0 (withOnes w XENGINE.CTRL.HOLD) = true)) ∧
    (∃ (s : State) (ch : Channel) (w : Word), (s.grants ch XENGINE.CENSUS_CTRL.REQUEST 0 0 (withOnes w XENGINE.CENSUS_CTRL.REQUEST) = true)) ∧
    (∃ (s : State) (ch : Channel) (w : Word), (s.grants ch XWINDOW.CMD.READ 0 0 (withOnes w XWINDOW.CMD.READ) = true) ∧
      BitVec.toNat w / 256 % 4 < 2 ∧ s.g XWINDOW.SEL.MATRIX ≠ 3) ∧
    (∃ (s : State) (ch : Channel) (w : Word), (s.grants ch XWINDOW.CMD.WRITE 0 0 (withOnes w XWINDOW.CMD.WRITE) = true) ∧
      BitVec.toNat w % 2 = 0 ∧ BitVec.toNat w / 256 % 4 < 2 ∧ s.g XWINDOW.SEL.MATRIX ≠ 3) ∧
    (∃ (s : State) (ch : Channel) (w : Word) (c : Nat), c < 4 ∧
      (s.grants ch CLUSTER.CLRCODE.CODE c 0 (BitVec.toNat w) = true)) ∧
    (∃ (s : State) (ch : Channel) (w : Word) (lane : Nat), lane < 32 ∧
      (s.grants ch LANE.CTRL.RESTART lane 0 (withOnes w LANE.CTRL.RESTART) = true) ∧ s.laneRuns lane = true ∧
      (BitVec.toNat w / 256 % 8 = 0 ∨ 4 ≤ BitVec.toNat w / 256 % 8)) ∧
    (∃ (s : State) (ch : Channel) (w : Word) (lane : Nat), lane < 32 ∧
      (s.grants ch LANE.CTRL.RATE lane 0 (BitVec.toNat w) = true) ∧ BitVec.toNat w / 2 ^ 31 = 0 ∧
      s.g LANE.CTRL.RATE lane ≠ BitVec.toNat w % 2) ∧
    (∃ (s : State) (ch : Channel) (w : Word) (lane : Nat), lane < 32 ∧
      (s.grants ch LANE.CTRL.LOOP lane 0 (BitVec.toNat w) = true) ∧ BitVec.toNat w / 2 ^ 31 = 0 ∧
      s.g LANE.CTRL.RATE lane = BitVec.toNat w % 2 ∧ s.g LANE.CTRL.LOOP lane ≠ BitVec.toNat w / 256 % 8 ∧
      s.laneState lane ≠ laneOff ∧ BitVec.toNat w / 256 % 8 < 4 ∧ ((s.lane lane).loop ≠ BitVec.toNat w / 256 % 8) ∧
      BitVec.toNat w / 256 % 8 ≠ 0) ∧
    (∃ (s : State) (ch : Channel) (w : Word) (e : Nat), e < 16 ∧
      (s.grants ch SORTING.EQ.CTLE 0 e (BitVec.toNat w) = true)) ∧
    (∃ (s : State) (ch : Channel) (w : Word), (s.grants ch CLOCKS.FM_CTRL.REQUEST 0 0 (withOnes w CLOCKS.FM_CTRL.REQUEST) = true) ∧
      BitVec.toNat w / 256 % 16 < 10) ∧
    (∃ (s : State) (ch : Channel) (w : Word), (s.grants ch CLOCKS.FM_CTRL.REQUEST 0 0 (withOnes w CLOCKS.FM_CTRL.REQUEST) = true) ∧
      10 ≤ BitVec.toNat w / 256 % 16) ∧
    (∃ (s : State) (ch : Channel) (w : Word), (s.grants ch TIMEBASE.CTRL.SET 0 0 (withOnes w TIMEBASE.CTRL.SET) = true) ∧
      BitVec.toNat w / 2 ^ 30 % 2 = 0 ∧ BitVec.toNat w / 2 ^ 29 % 2 = 1) ∧
    (∃ (s : State) (ch : Channel) (w : Word), (s.grants ch TIMEBASE.CTRL.SET 0 0 (withOnes w TIMEBASE.CTRL.SET) = true) ∧
      BitVec.toNat w / 2 ^ 30 % 2 = 0 ∧ BitVec.toNat w / 2 ^ 29 % 2 = 0) ∧
    (∃ (s : State) (ch : Channel) (w : Word), (s.grants ch TIMEBASE.CTRL.ADD 0 0 (withOnes w TIMEBASE.CTRL.ADD) = true) ∧
      BitVec.toNat w / 2 ^ 31 = 0 ∧ s.time.ns < 10 ^ 9 ∧ s.time.frac < 256 ∧ s.time.sub < 2 ^ 32 ∧
      (0 ≤ ↑s.time.sec * 10 ^ 9 + ↑s.time.ns + toSigned 32 (s.g TIMEBASE.OFFSET.NS)) ∧
      (↑s.time.sec * 10 ^ 9 + ↑s.time.ns + toSigned 32 (s.g TIMEBASE.OFFSET.NS) < 2 ^ 48 * 10 ^ 9)) :=
  ⟨⟨upI, .mspi, 0, by decide +kernel⟩,
   ⟨upI, .mspi, 0, by decide +kernel⟩,
   ⟨upI, .mspi, 0, by decide +kernel⟩,
   ⟨upI, .mspi, 0, by decide +kernel⟩,
   ⟨upI, .mspi, 0x20FF, 3, by decide +kernel⟩,
   ⟨upI.wr LANE.STATUS.STATE 1 31, .mspi, 0, 31, by decide +kernel⟩,
   ⟨upI.wr LANE.STATUS.STATE 5 31, .mspi, 1, 31, by decide +kernel⟩,
   ⟨upI.wr LANE.STATUS.STATE 5 31, .mspi, 256, 31, by decide +kernel⟩,
   ⟨upI, .mspi, BitVec.ofNat 32 (14*2^24+7*2^21+ 6* 2^16+ 28*256+6), 15, by decide +kernel⟩,
   ⟨upI, .mspi, 0, by decide +kernel⟩,
   ⟨upI, .mspi, 2560, by decide +kernel⟩,
   ⟨upI, .mspi, 2 ^ 29, by decide +kernel⟩,
   ⟨upI, .mspi, 0, by decide +kernel⟩,
   ⟨upI.wr TIMEBASE.OFFSET.NS 77, .mspi, 0, by decide +kernel⟩⟩

/-- States and operands that meet the hypotheses of ChannelFrames, clause by clause. -/
theorem wit_ChannelFrames :
    (∃ (s : State) (l : Nat) (j : Nat) (w : Word), l < 128 ∧ j < 4 ∧ s.postOf Page.lload l = none ∧
      (s.grants Channel.mspi LLOAD.HOSTMASK.MASK l j (BitVec.toNat w) = true)) ∧
    (∃ (s : State), s.steady = true ∧ s.served 0 = true ∧ s.fenced 1 = false ∧ s.lockedFor 0 = false) ∧
    (∃ (s : State), s.steady = true ∧ s.served 0 = true) ∧
    (∃ (s : State), s.steady = true ∧ s.served 0 = true) ∧
    (∃ (s : State), s.steady = true ∧ s.served 0 = true) ∧
    (∃ (s : State) (prtad : Nat) (p : Nat), s.mdioPort prtad = some p ∧ s.served 2 = true ∧ s.fenced 3 = false ∧
      s.lockedFor 2 = false ∧ s.mgmt.mdioAddr = IDENT.PART.CODE.addr 0 0) ∧
    (∃ (s : State) (prtad : Nat) (p : Nat) (hi : Nat) (l : Nat) (j : Nat), s.mdioPort prtad = some p ∧
      s.served 2 = true ∧ l < 128 ∧ j < 4 ∧ s.postOf Page.lload l = none ∧
      s.mgmt.mdioAddr = LLOAD.HOSTMASK.MASK.addr l j ∧
      (s.grants Channel.mdio LLOAD.HOSTMASK.MASK l j (hi * 2 ^ 16 + s.mgmt.mdioHold) = true)) ∧
    (∃ (s : State) (prtad : Nat) (p : Nat), s.mdioPort prtad = some p ∧ s.served 2 = true) ∧
    (∃ (s : State) (prtad : Nat) (p : Nat), s.mdioPort prtad = some p ∧ s.served 2 = true) ∧
    (∃ (s : State) (prtad : Nat) (p : Nat), s.mdioPort prtad = some p ∧ s.served 2 = true) ∧
    (∃ (s : State) (lane : Nat), s.served 1 = true ∧ s.fenced 2 = false ∧ s.inbandLanes.contains lane = true ∧
      s.lockedFor 1 = false ∧ s.mgmt.ibQueue = []) ∧
    (∃ (s : State) (lane : Nat) (l : Nat) (j : Nat) (w : Word), s.served 1 = true ∧ s.fenced 2 = false ∧
      s.inbandLanes.contains lane = true ∧ l < 128 ∧ j < 4 ∧ s.postOf Page.lload l = none ∧
      (s.grants Channel.inband LLOAD.HOSTMASK.MASK l j (BitVec.toNat w) = true) ∧ s.lockedFor 1 = false) ∧
    (∃ (s : State) (lane : Nat), s.served 1 = true ∧ s.fenced 2 = false ∧ s.inbandLanes.contains lane = true ∧
      s.lockedFor 1 = false ∧ s.mgmt.ibQueue = []) ∧
    (∃ (s : State) (lane : Nat), s.served 1 = true ∧ s.fenced 2 = false ∧ s.inbandLanes.contains lane = true ∧
      16 ≤ s.mgmt.ibQueue.length) ∧
    (∃ (s : State) (lane : Nat), s.served 1 = true ∧ s.fenced 2 = false ∧ s.inbandLanes.contains lane = true ∧
      s.lockedFor 1 = true ∧ s.mgmt.ibQueue.length < 16) ∧
    (∃ (s : State), s.mgmt.busOwner = 1 ∧ s.mgmt.ibQueue = []) ∧
    (∃ (s : State) (ch : Channel), (s.g SESSION.IDLE.MIN (chIx ch) ≠ 0) ∧ ((s.session (chIx ch)).isOpen = true) ∧
      s.mgmt.ibQueue = []) :=
  ⟨⟨upI, 127, 3, 0xFFFFFFFF, by decide +kernel⟩,
   ⟨upI, by decide +kernel⟩,
   ⟨upI, by decide +kernel⟩,
   ⟨upI, by decide +kernel⟩,
   ⟨upI, by decide +kernel⟩,
   ⟨upI.modMgmt fun m => { m with mdioAddr := IDENT.PART.CODE.addr 0 0 }, 0, ((upI.mdioPort 0).getD 0), by decide +kernel⟩,
   ⟨upI.modMgmt fun m => { m with mdioAddr := LLOAD.HOSTMASK.MASK.addr 127 3, mdioHold := 77 }, 0, ((upI.mdioPort 0).getD 0), 65535, 127, 3, by decide +kernel⟩,
   ⟨upI.modMgmt fun m => { m with mdioErr := true }, 0, ((upI.mdioPort 0).getD 0), by decide +kernel⟩,
   ⟨upI, 0, ((upI.mdioPort 0).getD 0), by decide +kernel⟩,
   ⟨upI, 0, ((upI.mdioPort 0).getD 0), by decide +kernel⟩,
   ⟨upI, 0, by decide +kernel⟩,
   ⟨upI, 0, 127, 3, 0xFFFFFFFF, by decide +kernel⟩,
   ⟨upI, 0, by decide +kernel⟩,
   ⟨upI.modMgmt fun m => { m with ibQueue := List.replicate 16 ⟨0, 1, false, 0x1000, 1, [], false, 4⟩ }, 0, by decide +kernel⟩,
   ⟨upI.modMgmt fun m => { m with busOwner := 4 }, 0, by decide +kernel⟩,
   ⟨upI.modMgmt fun m => { m with busOwner := 1 }, by decide +kernel⟩,
   ⟨upI.wr SESSION.IDLE.MIN 5 (chIx .mspi), .mspi, by decide +kernel⟩⟩

/-- States and operands that meet the hypotheses of CounterReads, clause by clause. -/
theorem wit_CounterReads :
    (∃ (s : State) (ch : Channel) (e : Fld × Fld) (i : Nat) (j : Nat), (e ∈ [(CLOCKS.FM_COUNT_LO.COUNT, CLOCKS.FM_COUNT_HI.COUNT), (TRUST.ATTEST_IDX_LO.INDEX, TRUST.ATTEST_IDX_HI.INDEX), (PORT_CTL.RXBLK_LO.N, PORT_CTL.RXBLK_HI.N), (PORT_SEC.SA_PN_LO.PN, PORT_SEC.SA_PN_HI.PN), (LMON.CW_LO.COUNT, LMON.CW_HI.COUNT), (LMON.CW_FIX_LO.COUNT, LMON.CW_FIX_HI.COUNT), (LMON.DTU_TX_LO.COUNT, LMON.DTU_TX_HI.COUNT)]) ∧
      i < e.1.page.count ∧ j < e.1.cnt ∧ s.pageReady e.1.page i = true ∧ (ch ≠ Channel.inband ∧
      s.opensTo ch = true ∨ s.readable ch (e.1.addr i j) = true)) ∧
    (∃ (s : State) (ch : Channel) (e : Fld × Fld) (i : Nat) (j : Nat), (e ∈ [(CLOCKS.FM_COUNT_LO.COUNT, CLOCKS.FM_COUNT_HI.COUNT), (TRUST.ATTEST_IDX_LO.INDEX, TRUST.ATTEST_IDX_HI.INDEX), (PORT_CTL.RXBLK_LO.N, PORT_CTL.RXBLK_HI.N), (PORT_SEC.SA_PN_LO.PN, PORT_SEC.SA_PN_HI.PN), (LMON.CW_LO.COUNT, LMON.CW_HI.COUNT), (LMON.CW_FIX_LO.COUNT, LMON.CW_FIX_HI.COUNT), (LMON.DTU_TX_LO.COUNT, LMON.DTU_TX_HI.COUNT)]) ∧
      i < e.1.page.count ∧ j < e.1.cnt ∧ s.pageReady e.1.page i = true ∧ (ch ≠ Channel.inband ∧
      s.opensTo ch = true ∨ s.readable ch (e.2.addr i j) = true)) :=
  ⟨⟨upI, .mspi, (CLOCKS.FM_COUNT_LO.COUNT, CLOCKS.FM_COUNT_HI.COUNT), 0, 0, by decide +kernel⟩,
   ⟨upI, .inband, (LMON.CW_LO.COUNT, LMON.CW_HI.COUNT), 127, 0, by decide +kernel⟩⟩

/-- States and operands that meet the hypotheses of RefusedAccesses, clause by clause. -/
theorem wit_RefusedAccesses :
    (∃ (s : State) (ch : Channel) (addr : Nat) (width : Nat), s.steady = true ∧ s.mgmt.ibQueue = [] ∧
      (s.served (chIx ch) = true) ∧ ch ≠ Channel.inband ∧ (s.fenced (chIx ch + 1) = false) ∧
      (width ≠ 4 ∨ addr % 4 ≠ 0)) ∧
    (∃ (s : State) (ch : Channel), s.steady = true ∧ s.mgmt.ibQueue = [] ∧ (s.served (chIx ch) = true) ∧
      ch ≠ Channel.inband ∧ (s.fenced (chIx ch + 1) = false) ∧ (s.lockedFor (chIx ch) = true)) ∧
    (∃ (s : State) (ch : Channel) (l : Nat), s.steady = true ∧ s.mgmt.ibQueue = [] ∧ (s.served (chIx ch) = true) ∧
      ch ≠ Channel.inband ∧ (s.fenced (chIx ch + 1) = false) ∧ (s.lockedFor (chIx ch) = false) ∧
      s.restricted = false ∧ l < 128 ∧ (s.roleOf (chIx ch) = none)) ∧
    (∃ (s : State) (ch : Channel) (l : Nat), s.steady = true ∧ s.mgmt.ibQueue = [] ∧ (s.served (chIx ch) = true) ∧
      ch ≠ Channel.inband ∧ (s.fenced (chIx ch + 1) = false) ∧ (s.lockedFor (chIx ch) = false) ∧
      s.restricted = false ∧ l < 128 ∧ (s.roleOf (chIx ch) = none)) ∧
    (∃ (s : State) (ch : Channel) (w : Word) (l : Nat), s.steady = true ∧ s.mgmt.ibQueue = [] ∧
      (s.served (chIx ch) = true) ∧ ch ≠ Channel.inband ∧ (s.fenced (chIx ch + 1) = false) ∧
      (s.lockedFor (chIx ch) = false) ∧ s.restricted = false ∧ l < 128 ∧ (s.roleOf (chIx ch) = some 0) ∧
      (s.g (HDR.EVT_EN.EN Page.lload) l ≠ BitVec.toNat w &&& condMask Page.lload)) ∧
    (∃ (s : State) (ch : Channel) (w : Word) (l : Nat), s.steady = true ∧ s.mgmt.ibQueue = [] ∧
      (s.served (chIx ch) = true) ∧ ch ≠ Channel.inband ∧ (s.fenced (chIx ch + 1) = false) ∧
      (s.lockedFor (chIx ch) = false) ∧ s.restricted = false ∧ l < 128 ∧ (s.roleOf (chIx ch) = some 1) ∧
      (s.g (HDR.PAGE_CTRL.LOCK Page.lload) l = 1) ∧ BitVec.toNat w / 8 % 2 = 0) ∧
    (∃ (s : State) (ch : Channel) (w : Word) (l : Nat), s.steady = true ∧ s.mgmt.ibQueue = [] ∧
      (s.served (chIx ch) = true) ∧ ch ≠ Channel.inband ∧ (s.fenced (chIx ch + 1) = false) ∧
      (s.lockedFor (chIx ch) = false) ∧ s.restricted = false ∧ l < 128 ∧ ((s.monX l).owner = 0) ∧
      (s.g (HDR.PAGE_CTRL.LOCK Page.lmon) l = 1) ∧ s.g LMON.NCO.FREQ l ≠ BitVec.toNat w) ∧
    (∃ (s : State) (ch : Channel), s.steady = true ∧ s.mgmt.ibQueue = [] ∧ (s.served (chIx ch) = true) ∧
      ch ≠ Channel.inband ∧ (s.fenced (chIx ch + 1) = true)) ∧
    (∃ (s : State) (ch : Channel) (lane : Nat) (l : Nat), s.steady = true ∧ s.mgmt.ibQueue = [] ∧
      (s.served (chIx ch) = true) ∧ s.inbandLanes.contains lane = true ∧ s.fenced 2 = false ∧ s.lockedFor 1 = false ∧
      s.restricted = false ∧ s.served 1 = true ∧ l < 128 ∧ s.roleOf 1 = none) :=
  ⟨⟨upI, .mspi, 0x41003, 4, by decide +kernel⟩,
   ⟨upI.modMgmt fun m => { m with busOwner := 4 }, .mspi, by decide +kernel⟩,
   ⟨upI.modMgmt fun m => { m with sessions := [] }, .mspi, 127, by decide +kernel⟩,
   ⟨upI.modMgmt fun m => { m with sessions := [] }, .mspi, 127, by decide +kernel⟩,
   ⟨upI.modMgmt fun m => { m with sessions := [(chIx .mspi, { isOpen := true, role := 0 })] }, .mspi, 5, 127, by decide +kernel⟩,
   ⟨(upI.modMgmt fun m => { m with sessions := [(chIx .mspi, { isOpen := true, role := 1 })] }).wr (HDR.PAGE_CTRL.LOCK .lload) 1 127, .mspi, 7, 127, by decide +kernel⟩,
   ⟨upI.wr (HDR.PAGE_CTRL.LOCK .lmon) 1 127, .mspi, 7, 127, by decide +kernel⟩,
   ⟨upI.wr FAULT.FENCE_LO.MAP (2 ^ (chIx .mspi + 1)), .mspi, by decide +kernel⟩,
   ⟨upI.modMgmt fun m => { m with sessions := [] }, .mspi, 0, 127, by decide +kernel⟩⟩

/-! ### Witnesses by hand -/

theorem wit_StepServesQueue : ∃ s : State, s.pending = [] := ⟨up, rfl⟩

/-- A head in TRAINING whose measured tones carry the overhead channel. -/
def trained : State :=
  (List.range 8).foldl (fun s k => s.wr LLOAD.TONE.SNR 900 127 (20 + k)) (ln 1 127 { st := .training, snrReady := true })

theorem wit_TrainingAndLoading_2 : ∃ (s : State) (l : Nat), l < 128 ∧ (s.line l).st = .training ∧ s.isVHead l = true ∧
    (s.line l).snrReady = true ∧
    carriesOverhead (((s.moveLine l .loading).modLine l fun x =>
      { x with hostMask := (s.moveLine l .loading).hostMaskOf l }).loadTable l tones []) = true :=
  ⟨trained, 127, by decide +kernel⟩

/-- A session of a role about to ring its letterbox with an opcode. -/
def ringing (op role : Nat) : State :=
  let s := ((upI.wr LETTERBOX.CMD.OPCODE op 2).wr LETTERBOX.CMD.TAG 9 2).wr LETTERBOX.CMD.LENGTH 3 2
  s.modMgmt fun m =>
    { m with lbLease := some 2, sessions := [(2, { isOpen := true, role := role, slot := if role = 3 then 7 else 0 })] }

/-- Every opcode with its role, rung by a session that has the role, and by one that has not where there is one (R344). -/
theorem wit_LetterboxRows_rings :
    (∀ x ∈ [(0x01, 0), (0x20, 2), (0x21, 2), (0x22, 2), (0x30, 2), (0x31, 2), (0x32, 2), (0x33, 2), (0x40, 0)],
      ∀ r ∈ [0, 1, 2, 3], (ringing x.1 r).roleOf 2 = some r ∧ (ringing x.1 r).g LETTERBOX.CMD.OPCODE 2 = x.1 ∧
        (ringing x.1 r).mgmt.lbCommands.head?.all LbCommand.started = true ∧
        (ringing x.1 r).grants .mdio LETTERBOX.DOORBELL.RING 2 0 1 = true) ∧
    (∀ f ∈ [1, 128], ∃ s : State, s.g LETTERBOX.ARG.W 2 0 % 256 = f ∧ s.roleOf 2 = some 0 ∧
      s.g LETTERBOX.CMD.OPCODE 2 = 0x40 ∧ s.grants .mdio LETTERBOX.DOORBELL.RING 2 0 1 = true) := by
  refine ⟨by decide +kernel, fun f hf => ⟨(ringing 0x40 0).wr LETTERBOX.ARG.W f 2 0, ?_⟩⟩
  simp only [List.mem_cons, List.not_mem_nil, or_false] at hf
  obtain rfl | rfl := hf <;> decide +kernel

/-- An address above every page. -/
theorem above_pages (p : Page) (i : Nat) (h : i < p.count) : 0xFFFFF000 < pageBase p i ∨ pageBase p i + 4096 ≤ 0xFFFFF000 :=
  have all : ∀ p ∈ allPages, ∀ i ∈ List.range p.count, pageBase p i + 4096 ≤ 0xFFFFF000 := by decide +kernel
  .inr (all p (by cases p <;> decide +kernel) i (List.mem_range.2 h))

theorem wit_RefusedAccesses_holes : ∃ (s : State) (ch : Channel) (addr : Nat),
    (s.steady = true ∧ s.mgmt.ibQueue = [] ∧ s.served (chIx ch) = true ∧ ch ≠ .inband ∧ s.fenced (chIx ch + 1) = false) ∧
    ∀ p i, i < Page.count p → addr < pageBase p i ∨ pageBase p i + 4096 ≤ addr :=
  ⟨upI, .mspi, 0xFFFFF000, by decide +kernel, above_pages⟩

theorem wit_FusesOnlyForward : ∃ s t : State, step s = .next t ∧ (s.slot 3).revoked = true :=
  ⟨up.modTrust fun x => { x with slots := [(3, { revoked := true })] }, _, rfl, by decide +kernel⟩

theorem wit_Frames : ∃ (c : Instr) (s t : State), exec c s = .next t ∧ c.reachesAll = false ∧ c.movesGrid = false ∧
    c.movesTime = false ∧ c.movesTrust = false :=
  ⟨.txclrAssert, up, _, rfl, by decide⟩

/-! ### A session's tag -/

/-- The lowest n base-256 digits of a number, most significant first, read back. -/
theorem digits_field (n T : Nat) :
    (List.range n).foldl (fun v j => v * 256 + T / 256 ^ (n - 1 - j) % 256) 0 = T % 256 ^ n := by
  induction n generalizing T with
  | zero => simp [Nat.mod_one]
  | succ n ih =>
    have h : (List.range n).foldl (fun v j => v * 256 + T / 256 ^ (n + 1 - 1 - j) % 256) 0 = T / 256 % 256 ^ n := by
      rw [← ih]
      apply List.foldl_ext
      intro v j hj
      rw [Nat.div_div_eq_div_mul, ← pow_succ']
      have e : n - 1 - j + 1 = n + 1 - 1 - j := by
        have := List.mem_range.1 hj
        omega
      rw [e]
    rw [List.range_succ, List.foldl_append, h, pow_succ', Nat.mod_mul]
    simp
    omega

/-- Byte k of a session tag T, the first byte the most significant. -/
def tagByte (T k : Nat) : Nat := T / 256 ^ (32 - 1 - k) % 256

/-- Word j of the TAG registers that holds the tag. -/
def tagWord (T j : Nat) : Nat :=
  tagByte T (4 * j) + 256 * tagByte T (4 * j + 1) + 65536 * tagByte T (4 * j + 2) + 16777216 * tagByte T (4 * j + 3)

/-- A channel whose TAG registers hold a tag. -/
def tagged (c T : Nat) : State :=
  { upI with regs := (List.range 8).map (fun j => (SESSION.TAG.W.key c j, tagWord T j)) ++ upI.regs }

theorem tagByte_lt (T k : Nat) : tagByte T k < 256 := Nat.mod_lt _ (by decide)

theorem bits_tagWord (T j b : Nat) (h : b < 4) : bits (tagWord T j) (8 * b) 8 = tagByte T (4 * j + b) := by
  have h0 := tagByte_lt T (4 * j)
  have h1 := tagByte_lt T (4 * j + 1)
  have h2 := tagByte_lt T (4 * j + 2)
  have h3 := tagByte_lt T (4 * j + 3)
  obtain rfl | rfl | rfl | rfl : b = 0 ∨ b = 1 ∨ b = 2 ∨ b = 3 := by omega
  all_goals
    simp only [bits, tagWord, Nat.add_zero, Nat.reduceMul, Nat.reducePow]
    omega

theorem g_tagged (T : Nat) : ∀ j : Nat, j < 8 → (tagged 0 T).g SESSION.TAG.W 0 j = tagWord T j
  | 0, _ | 1, _ | 2, _ | 3, _ | 4, _ | 5, _ | 6, _ | 7, _ => rfl

theorem gBytes_tagged (T : Nat) : (tagged 0 T).gBytes SESSION.TAG.W 0 8 = (List.range 32).map (tagByte T) := by
  have e : (tagged 0 T).gBytes SESSION.TAG.W 0 8 =
      (List.range 8).flatMap fun j => (List.range 4).map fun b => tagByte T (4 * j + b) := by
    unfold State.gBytes
    apply List.flatMap_congr
    intro j hj
    apply List.map_congr_left
    intro b hb
    rw [g_tagged T j (List.mem_range.1 hj), bits_tagWord T j b (List.mem_range.1 hb)]
  rw [e]
  rfl

/-- The TAG registers hold the tag they were given. -/
theorem hostTag_tagged (T : Nat) (h : T < 2 ^ 256) : (tagged 0 T).hostTag 0 = T := by
  rw [State.hostTag, gBytes_tagged, field]
  have e : ∀ v : Nat, ∀ j ∈ List.range 32,
      v * 256 + ((List.range 32).map (tagByte T)).getD (0 + j) 0 = v * 256 + T / 256 ^ (32 - 1 - j) % 256 := by
    intro v j hj
    have := List.mem_range.1 hj
    simp [tagByte, this]
  rw [List.foldl_ext _ _ _ e, digits_field]
  exact Nat.mod_eq_of_lt h

/-- A session's tag fits the TAG registers. -/
theorem sessionTag_lt (k c r n : Nat) : sessionTag k c r n < 2 ^ 256 := Nat.mod_lt _ (by decide)

/-- An OPEN that carries the right tag, and one that carries another. -/
theorem wit_TrustWrites_tags :
    (∃ (s : State) (ch : Channel) (w : Word) (k : Nat),
      (s.grants ch SESSION.CMD.OPEN (chIx ch) 0 (withOnes w SESSION.CMD.OPEN) = true ∧ w.toNat / 2 ^ 29 % 4 = 0 ∧
        s.slotKey (w.toNat / 256 % 8) useSession = some k ∧ s.roleAllowed (w.toNat / 256 % 8) (w.toNat % 4) = true) ∧
      sessionTag k (chIx ch) (w.toNat % 4) (s.session (chIx ch)).nonce = s.hostTag (chIx ch)) ∧
    ∃ (s : State) (ch : Channel) (w : Word) (k : Nat),
      (s.grants ch SESSION.CMD.OPEN (chIx ch) 0 (withOnes w SESSION.CMD.OPEN) = true ∧ w.toNat / 2 ^ 29 % 4 = 0 ∧
        s.slotKey (w.toNat / 256 % 8) useSession = some k ∧ s.roleAllowed (w.toNat / 256 % 8) (w.toNat % 4) = true ∧
        (s.session (chIx ch)).expired = none) ∧
      sessionTag k (chIx ch) (w.toNat % 4) (s.session (chIx ch)).nonce ≠ s.hostTag (chIx ch) := by
  let T := sessionTag (keyValue (.shipped 7)) 0 3 0
  have hT : T < 2 ^ 256 := sessionTag_lt ..
  have n (T : Nat) : ((tagged 0 T).session 0).nonce = 0 := rfl
  have key (T : Nat) : (tagged 0 T).slotKey 7 useSession = some (keyValue (.shipped 7)) := by
    have x : (tagged 0 T).slot 7 = { valid := true, maxRole := 3, usage := 1, key := .shipped 7 } := rfl
    have b : bit 1 useSession = true := by decide
    have c : (tagged 0 T).trust.lifecycle = 0 := rfl
    simp [State.slotKey, x, b, c]
  have h (T : Nat) : (tagged 0 T).slotKey 7 useSession = some (keyValue (.shipped 7)) ∧
      (tagged 0 T).roleAllowed 7 3 = true ∧ ((tagged 0 T).session 0).expired = none := by
    have r : ((tagged 0 T).slot 7).maxRole = 3 := rfl
    have c : (tagged 0 T).trust.lifecycle = 0 := rfl
    exact ⟨key T, by simp [State.roleAllowed, key, r, c], rfl⟩
  refine ⟨⟨tagged 0 T, .mspi, 0x703, _, ⟨by decide +kernel, rfl, (h T).1, (h T).2.1⟩, ?_⟩,
    tagged 0 ((T + 1) % 2 ^ 256), .mspi, 0x703, _, ⟨by decide +kernel, rfl, (h _).1, (h _).2.1, (h _).2.2⟩, ?_⟩
  · show sessionTag _ 0 3 ((tagged 0 T).session 0).nonce = (tagged 0 T).hostTag 0
    rw [n, hostTag_tagged T hT]
  · show sessionTag _ 0 3 ((tagged 0 _).session 0).nonce ≠ (tagged 0 ((T + 1) % 2 ^ 256)).hostTag 0
    rw [n, hostTag_tagged _ (Nat.mod_lt _ (by decide))]
    show T ≠ _
    omega

/-! ### A good parcel -/

/-- The head of a parcel under slot 3, with no entry. -/
def parcelBody : List Nat :=
  [0x41, 0x50, 0x53, 0x50, 1, 0, 0xB0, 0xB0] ++ List.replicate 19 0 ++ [3] ++ List.replicate 20 0

/-- Its tag under key 5. -/
def parcelTag : Nat := Config.kmac256 5 parcelBody 256 "APS-PARCEL"

/-- The whole parcel, as an import gathers it. -/
def parcelWords : List Nat := bytesWords parcelBody ++ (List.range 8).map (tagWord parcelTag)

theorem wordsBytes_parcel : wordsBytes parcelWords = parcelBody ++ (List.range 32).map (tagByte parcelTag) := by
  have e : wordsBytes ((List.range 8).map (tagWord parcelTag)) =
      (List.range 8).flatMap fun j => (List.range 4).map fun b => tagByte parcelTag (4 * j + b) := by
    unfold wordsBytes
    rw [List.flatMap_map]
    apply List.flatMap_congr
    intro j _
    apply List.map_congr_left
    intro b hb
    exact bits_tagWord _ j b (List.mem_range.1 hb)
  have h : wordsBytes (bytesWords parcelBody) = parcelBody := by decide +kernel
  have a (x y : List Nat) : wordsBytes (x ++ y) = wordsBytes x ++ wordsBytes y := List.flatMap_append
  rw [parcelWords, a, h, e]
  rfl

/-- The last 32 bytes of the parcel are its tag. -/
theorem field_parcel : field (parcelBody ++ (List.range 32).map (tagByte parcelTag)) 48 32 = parcelTag := by
  rw [field]
  have e : ∀ v : Nat, ∀ j ∈ List.range 32,
      v * 256 + (parcelBody ++ (List.range 32).map (tagByte parcelTag)).getD (48 + j) 0 =
        v * 256 + parcelTag / 256 ^ (32 - 1 - j) % 256 := by
    intro v j hj
    have := List.mem_range.1 hj
    have l : parcelBody.length = 48 := rfl
    rw [List.getD_append_right _ _ _ _ (by omega), l, Nat.add_sub_cancel_left]
    simp [tagByte, this]
  rw [List.foldl_ext _ _ _ e, digits_field]
  exact Nat.mod_eq_of_lt (Nat.mod_lt _ (by decide))

/-- A channel that imported the parcel and asks to keep it for the boot, with the key of slot 3. -/
def imported : State :=
  (upI.modTrust fun x =>
    { x with slots := [(3, { valid := true, maxRole := 2, usage := 2 ^ useParcel, key := .burnt 5 })],
             imports := [(0, { words := parcelWords, next := 1, lastLen := 20 })] }).modMgmt fun m =>
    { m with lbCommands := [⟨0, 0x33, 7, [1], false, true⟩] }

theorem wit_LetterboxRows_import : ∃ (s : State) (e : Transfer) (w : Nat), s.trust.imports.find (chIx .mspi) = some e ∧
    s.parcelGood e.words = true ∧ bit w 1 = false ∧ s.serves .mspi 0x33 [w] = true := by
  refine ⟨imported, { words := parcelWords, next := 1, lastLen := 20 }, 1, rfl, ?_, by decide, by decide +kernel⟩
  have k : imported.slotKey 3 useParcel = some 5 := by decide +kernel
  have p : parcelSlot parcelWords = 3 := by rw [parcelSlot, wordsBytes_parcel]; rfl
  have b : (parcelBody ++ (List.range 32).map (tagByte parcelTag)).length - 32 = 48 := rfl
  have t : (parcelBody ++ (List.range 32).map (tagByte parcelTag)).take 48 = parcelBody := rfl
  have n : field (parcelBody ++ (List.range 32).map (tagByte parcelTag)) 28 4 = 0 := rfl
  have m : field (parcelBody ++ (List.range 32).map (tagByte parcelTag)) 0 4 = 0x41505350 := rfl
  have l : parcelWords.length = 20 := rfl
  have es : entriesOf parcelWords = [] := rfl
  simp only [State.parcelGood, wordsBytes_parcel, b, t, n, m, l, es, p, k, field_parcel]
  simp [parcelTag, parcelBody, ascending]

/-! ### The cases inside a clause -/

/-- A bad oscillator before its fourth good window and at it (Oscillators). -/
theorem wit_Oscillators_passes : ∃ s t : State, (s.clk.kosc = .bad ∧ s.clk.koscPasses = 2) ∧
    t.clk.kosc = .bad ∧ t.clk.koscPasses = 3 :=
  ⟨up.modClk fun x => { x with kosc := .bad, koscPasses := 2 }, up.modClk fun x => { x with kosc := .bad, koscPasses := 3 },
   by decide⟩

/-- A wake's first and second failure (Wakes). -/
theorem wit_Wakes_failures :
    ∀ r : Bool, ∃ s : State, s.pwr.waking = true ∧ s.pwr.state = 2 ∧ 0 ∈ s.notReady ∧ s.pwr.retried = r
  | false => ⟨up.modPwr fun x => { x with state := 2, waking := true }, by decide +kernel⟩
  | true => ⟨up.modPwr fun x => { x with state := 2, waking := true, retried := true }, by decide +kernel⟩

/-- A sampled fault of each class, the first of a unit (FaultMoments). -/
theorem wit_FaultMoments_classes : up.controlRunning = true ∧ up.fault.inject = none ∧ up.fault.s3 = false ∧
    isUnit 255 = true ∧ isSource 255 = true ∧ up.fault.ignored.contains 255 = false ∧
    ∀ c ∈ [1, 2, 3], (⟨0x10, c, 255, 7⟩ : FaultInput).cls = c := by decide +kernel

/-- VX read near its aim in a wake, after a cold start and in a change of level; a confirmation missed once and twice
(PerformanceLevels). -/
theorem wit_PerformanceLevels_reads :
    (∃ s : State, s.controlRunning = true ∧ s.pwr.waking = true ∧ nearMv 580 580 = true) ∧
    (∃ s : State, s.controlRunning = true ∧ s.pwr.waking = false ∧ s.lvl.coldRead = true) ∧
    (∀ p ∈ [LevelPhase.vxDown, .vxUp], ∀ n ∈ [0, 1], ∃ s : State, s.controlRunning = true ∧ s.pwr.waking = false ∧
      s.lvl.coldRead = false ∧ nearMv (vxMilliVolt s.lvl.going) (vxMilliVolt s.lvl.going) = true ∧ s.lvl.phase = p ∧
      s.lvl.tries = n) := by
  refine ⟨⟨up.modPwr fun x => { x with waking := true }, by decide +kernel⟩,
    ⟨up.modLvl fun x => { x with coldRead := true }, by decide +kernel⟩, fun p hp n hn =>
    ⟨up.modLvl fun x => { x with coldRead := false, phase := p, tries := n }, ?_⟩⟩
  simp only [List.mem_cons, List.not_mem_nil, or_false] at hp hn
  obtain rfl | rfl := hp <;> obtain rfl | rfl := hn <;> decide +kernel

end Sys2Proof.Tests
end

section
/-! The scope of the model: what reset leaves, the pins of the POSTMARK counter, and a queue of well-formed commands that stops. -/

namespace Sys2Proof.Machine

theorem State.reset_session_closed (c : Nat) : (State.reset.session c).isOpen = false := by
  unfold State.session Store.get
  change (((Store.find (freshSessions 0) c)).getD {}).isOpen = false
  unfold freshSessions
  simp only [Store.find]
  (repeat' split) <;> rfl

/-- Settles O2: the register store is empty at reset, and every session of `freshSessions` is closed. -/
theorem resetState : Obligations.ResetState := by
  unfold Obligations.ResetState
  exact ⟨fun _ _ _ => rfl, fun _ => rfl, rfl, rfl, rfl, rfl, rfl, rfl, rfl, rfl, State.reset_session_closed, rfl⟩

/-- Refutes O58: the queue of one POLL_DUE for endpoint 16 of line 0 is well formed, since `Instr.wf` bounds the line alone,
and the command stops with `noSuchPart` (there are 16 endpoints, R181). -/
theorem not_progress : ¬ Obligations.Progress := by
  unfold Obligations.Progress
  intro h
  have hq : State.queueOk { State.reset with pending := [.pollDue 0 16] } = true := rfl
  have hs : step { State.reset with pending := [.pollDue 0 16] } = .fault (.noSuchPart "endpoint" 16) := rfl
  obtain ⟨t, ht, -⟩ := h _ hq
  rw [hs] at ht
  cases ht

/-! ### The pins of the POSTMARK counter (R286) -/

/-- A capture shows the time in its four fields, each cut to its width. -/
theorem State.g_capture (s : State) :
    let t := s.capture TIMEBASE.PPSIN0.NS TIMEBASE.PPSIN1.SEC TIMEBASE.PPSIN2.SECH TIMEBASE.PPSIN2.FRAC
    t.g TIMEBASE.PPSIN0.NS = s.time.ns % 2 ^ 32 ∧ t.g TIMEBASE.PPSIN1.SEC = s.time.sec % 2 ^ 32 ∧
      t.g TIMEBASE.PPSIN2.SECH = s.time.sec / 2 ^ 32 % 2 ^ 16 ∧ t.g TIMEBASE.PPSIN2.FRAC = s.time.frac % 2 ^ 8 := by
  dsimp only
  unfold State.capture
  refine ⟨?_, ?_, ?_, State.g_wr_self _ _ _ _ _⟩
  · rw [State.g_wr_of_id (by decide), State.g_wr_of_id (by decide), State.g_wr_of_id (by decide), State.g_wr_self]
    rfl
  · rw [State.g_wr_of_id (by decide), State.g_wr_of_id (by decide), State.g_wr_self]
    exact Nat.mod_mod _ _
  · rw [State.g_wr_of_id (by decide), State.g_wr_self]
    rfl

/-- A capture of the time into PPSIN leaves every other field alone. -/
theorem State.capture_g_of_id (s : State) (G : Fld) (h : G.id % 2048 ∉ [155, 156, 157, 158]) (a b : Nat) :
    (s.capture TIMEBASE.PPSIN0.NS TIMEBASE.PPSIN1.SEC TIMEBASE.PPSIN2.SECH TIMEBASE.PPSIN2.FRAC).g G a b = s.g G a b := by
  unfold State.capture
  simp only [List.mem_cons, List.not_mem_nil, or_false, not_or] at h
  obtain ⟨h1, h2, h3, h4⟩ := h
  rw [State.g_wr_of_id h4, State.g_wr_of_id h3, State.g_wr_of_id h2, State.g_wr_of_id h1]

theorem State.landSet_g {G : Fld} (hG : G.event = false) (s : State) (a b : Nat) : s.landSet.g G a b = s.g G a b :=
  State.pulse_g hG _ _ _ _ _ _

theorem State.landSet_time (s : State) :
    s.landSet.time = { s.time with
      ns := s.g TIMEBASE.SET_NS.NS, frac := 0, sub := 0, valid := true, suspect := false, setArmed := false,
      sec := s.g TIMEBASE.SET_SEC_HI.SEC * 2 ^ 32 + s.g TIMEBASE.SET_SEC_LO.SEC } := State.pulse_time _ _ _ _

/-- The state in which the edge of PPS_IN has been captured and pulsed. -/
def State.ppsSeen (s : State) : State :=
  (s.capture TIMEBASE.PPSIN0.NS TIMEBASE.PPSIN1.SEC TIMEBASE.PPSIN2.SECH TIMEBASE.PPSIN2.FRAC).pulse .timebase 0 0

theorem State.ppsSeen_g {G : Fld} (hG : G.event = false) (s : State) :
    s.ppsSeen.g G = (s.capture TIMEBASE.PPSIN0.NS TIMEBASE.PPSIN1.SEC TIMEBASE.PPSIN2.SECH TIMEBASE.PPSIN2.FRAC).g G :=
  State.pulse_g hG _ _ _ _ 0 0

theorem State.ppsSeen_time (s : State) : s.ppsSeen.time = s.time := by simp [State.ppsSeen]

theorem State.ppsSeen_lines (s : State) : s.ppsSeen.lines = s.lines := by simp [State.ppsSeen]

/-- Settles O25: the capture, then SET where it is armed. -/
theorem pulsePerSecond : Obligations.PulsePerSecond := by
  unfold Obligations.PulsePerSecond
  intro s
  have he : exec .ppsInEdge s = .next (if s.ppsSeen.time.setArmed then s.ppsSeen.landSet else s.ppsSeen) := rfl
  obtain ⟨h0, h1, h2, h3⟩ := s.g_capture
  have set_g (G : Fld) (hG : G.event = false) (h : G.id % 2048 ∉ [155, 156, 157, 158]) : s.ppsSeen.g G = s.g G :=
    (s.ppsSeen_g hG).trans (s.capture_g_of_id G h 0 0)
  have word (G : Fld) (hG : G.event = false) :
      (if s.time.setArmed then s.ppsSeen.landSet else s.ppsSeen).g G = s.ppsSeen.g G := by
    split
    · exact State.landSet_g hG _ _ _
    · rfl
  refine ⟨⟨_, he, ?_⟩, _, rfl, rfl⟩
  rw [State.ppsSeen_time]
  refine ⟨?_, ?_, ?_, ?_, ?_, ?_⟩
  · rw [word _ rfl, State.ppsSeen_g rfl, h0]
  · rw [word _ rfl, State.ppsSeen_g rfl, h1]
  · rw [word _ rfl, State.ppsSeen_g rfl, h2]
  · rw [word _ rfl, State.ppsSeen_g rfl, h3]
  · split
    · rw [State.landSet_time, State.ppsSeen_time, set_g _ rfl (by decide), set_g _ rfl (by decide),
        set_g _ rfl (by decide)]
    · exact s.ppsSeen_time
  · split
    · rw [State.landSet_lines, State.ppsSeen_lines]
    · exact s.ppsSeen_lines

end Sys2Proof.Machine
end

section
/-! What a reset of the device, a cold start and the rails leave (R10, R285, R371 to R373). -/
namespace Sys2Proof.Machine

/-! ### Operations that write registers alone -/

/-- The state without its registers and its event tree. -/
def State.body (s : State) : State := { s with regs := [], ev := {} }

/-- Nothing differs but the event tree and the registers of fields with a listed number. -/
def State.WritesOnly (ids : List Nat) (s t : State) : Prop :=
  t.body = s.body ∧ ∀ (G : Fld) (a b : Nat), G.id % 2048 ∉ ids → t.g G a b = s.g G a b

theorem State.WritesOnly.refl (ids : List Nat) (s : State) : State.WritesOnly ids s s := ⟨rfl, fun _ _ _ _ => rfl⟩

theorem State.WritesOnly.trans {ids : List Nat} {s t u : State} (h : State.WritesOnly ids s t)
    (k : State.WritesOnly ids t u) : State.WritesOnly ids s u :=
  ⟨k.1.trans h.1, fun G a b hG => (k.2 G a b hG).trans (h.2 G a b hG)⟩

theorem State.WritesOnly.wr {ids : List Nat} {F : Fld} (h : F.id % 2048 ∈ ids) (s : State) (v i j : Nat) :
    State.WritesOnly ids s (s.wr F v i j) := by
  refine ⟨rfl, fun G a b hG => State.g_wr_of_id (fun e => hG ?_) s v i j a b⟩
  rw [e]
  exact h

theorem State.WritesOnly.foldl {β : Type} {ids : List Nat} {f : State → β → State} {l : List β}
    (h : ∀ b ∈ l, ∀ s, State.WritesOnly ids s (f s b)) (s : State) : State.WritesOnly ids s (l.foldl f s) := by
  induction l generalizing s with
  | nil => exact .refl ids s
  | cons b l ih =>
    exact (h b List.mem_cons_self s).trans (ih (fun c hc => h c (List.mem_cons_of_mem b hc)) _)

/-- Carrying fields over a reset writes those fields alone. -/
theorem State.WritesOnly.carry {ids : List Nat} {fs : List Fld} (h : ∀ F ∈ fs, F.id % 2048 ∈ ids) (new old : State)
    (i : Nat) : State.WritesOnly ids new (new.carry old i fs) :=
  .foldl (fun F hF s => .foldl (fun _ _ s => .wr (h F hF) s _ _ _) s) new

theorem State.refreshPins_body (s : State) : s.refreshPins.body = s.body := by
  unfold State.refreshPins
  split <;> rfl

theorem State.inbandDue_of_noLanes (s : State) (n : Nat) (v : Bool) (h : s.inbandLanes = []) : s.inbandDue n v = s := by
  unfold State.inbandDue
  rw [if_neg (by simp [h])]

/-- With no in-band lane the refresh of an event source touches the event tree alone (R324 to R327). -/
theorem State.WritesOnly.refreshSource {ids : List Nat} {s : State} (h : s.inbandLanes = []) (n : Nat) :
    State.WritesOnly ids s (s.refreshSource n) := by
  have key (u : State) (v : Bool) (hu : u.body = s.body ∧ u.regs = s.regs) :
      State.WritesOnly ids s (u.inbandChange n v).refreshPins := by
    obtain ⟨hb, hr⟩ := hu
    have hl : u.inbandLanes = [] := by
      unfold State.inbandLanes State.g at h ⊢
      rw [hr]
      exact h
    rw [show u.inbandChange n v = _ from State.inbandDue_of_noLanes _ n v hl]
    refine ⟨(State.refreshPins_body _).trans hb, fun G a b _ => ?_⟩
    rw [State.refreshPins_g]
    unfold State.g
    rw [hr]
  unfold State.refreshSource
  dsimp only
  split
  · exact .refl ids s
  · exact key _ _ ⟨rfl, rfl⟩

/-! ### What a device reset leaves (R10, R371 to R373) -/

/-- The fields that a reset of a kind carries over, and those that it sets. -/
def keptFields (k : ResetKind) : List Fld :=
  [CALMGR.STAT.TXCLR, SESSION.STAT.FAILS, SESSION.STAT.LOCK_LEFT, SESSION.STAT.CLOSED_BY] ++ pageFields .hearth ++
    if k = .reboot then faultKept else []

def keptIds (k : ResetKind) : List Nat := (keptFields k).map fun F => F.id % 2048

theorem mem_keptIds {k : ResetKind} {F : Fld} (h : F ∈ keptFields k) : F.id % 2048 ∈ keptIds k :=
  List.mem_map.2 ⟨F, h, rfl⟩

/-- The state that a reset of a kind begins with, before registers are carried over. -/
def State.resetBase (s : State) (k : ResetKind) : State :=
  { State.reset with
    pending := s.pending
    free := s.free + 3
    trust := s.trust.persist
    mgmt := { sessions := freshSessions s.free }
    clk := { rails := s.clk.rails, resetHeld := s.clk.resetHeld,
             trimCode := if k = .vh then none else s.clk.trimCode,
             trimState := if k = .vh then 0 else s.clk.trimState }
    fault := match k with
      | .reboot => { nextSeq := s.fault.nextSeq }
      | .railTrip | .hearth => { s3 := s.fault.s3, faultN := s.fault.faultN, glowFrozen := s.fault.glowFrozen }
      | _ => {} }

/-- The trim loop of the hearth loses its source in every reset but the loss of VH (R275). -/
def State.trimHeld (s : State) (k : ResetKind) : State := if k = .vh then s else (s.holdTrim 1).holdTrim 2

/-- No lane carries in-band blocks right after the registers are carried over. -/
theorem State.WritesOnly.noLanes {s : State} {k j : ResetKind} {t : State}
    (h : State.WritesOnly (keptIds j) (s.resetBase k) t) : t.inbandLanes = [] := by
  have hs : ∀ l, t.g LANE.STATUS.STATE l = 0 := fun l => (h.2 _ l 0 (by cases j <;> decide)).trans rfl
  unfold State.inbandLanes
  simp [hs]

/-- A reset writes kept fields into its base, and otherwise refreshes the event tree alone. -/
theorem State.deviceReset_spec (s : State) (k : ResetKind) :
    State.WritesOnly (keptIds k) ((s.trimHeld k).resetBase k) (s.deviceReset k) := by
  have hh : ∀ F ∈ pageFields .hearth, F.id % 2048 ∈ keptIds k := fun F h =>
    mem_keptIds (List.mem_append_left _ (List.mem_append_right _ h))
  have hc : ∀ F ∈ [CALMGR.STAT.TXCLR, SESSION.STAT.FAILS, SESSION.STAT.LOCK_LEFT, SESSION.STAT.CLOSED_BY],
      F.id % 2048 ∈ keptIds k := fun F h => mem_keptIds (List.mem_append_left _ (List.mem_append_left _ h))
  unfold State.deviceReset
  extract_lets s1 _ base t1 t2 t3 t4 t5
  have hbase : base = s1.resetBase k := rfl
  have h1 : State.WritesOnly (keptIds k) base t1 := .wr (hc _ (by simp)) _ _ _ _
  have h2 : State.WritesOnly (keptIds k) base t2 := by
    refine h1.trans ?_
    unfold t2
    split
    · rename_i hk
      exact .carry (fun F h => mem_keptIds (List.mem_append_right _ (by rwa [if_pos hk]))) _ _ _
    · exact .refl _ _
  have h3 : State.WritesOnly (keptIds k) base t3 :=
    (h2.trans (.carry hh _ _ _)).trans (.wr (hh _ (by decide)) _ _ _ _)
  have h4 : State.WritesOnly (keptIds k) base t4 :=
    h3.trans (.foldl (fun _ _ _ => .carry (fun F h => hc F (by simp at h ⊢; tauto)) _ _ _) _)
  have h5 : State.WritesOnly (keptIds k) base t5 := by
    unfold t5
    split
    · exact h2
    · exact h4.trans (.refreshSource (State.WritesOnly.noLanes (hbase ▸ h4)) _)
  rw [show (s.trimHeld k).resetBase k = base from hbase.symm]
  split
  · refine h5.trans (.foldl (fun c _ u => ?_) _)
    split
    · exact .wr (hc _ (by simp)) _ _ _ _
    · exact .refl _ _
  · exact h5

/-- What a reset leaves outside the registers and the event tree is its base's, at reset but for what is kept (R10). -/
theorem State.deviceReset_parts (s : State) (k : ResetKind) :
    (s.deviceReset k).clk = ((s.trimHeld k).resetBase k).clk ∧ (s.deviceReset k).fault = ((s.trimHeld k).resetBase k).fault ∧
      (s.deviceReset k).mgmt.sessions = freshSessions (s.trimHeld k).free ∧
      (s.deviceReset k).lines = [] ∧ (s.deviceReset k).ports = [] ∧ (s.deviceReset k).staged = [] ∧
      (s.deviceReset k).posts = [] := by
  have h := (s.deviceReset_spec k).1
  have hc := congrArg State.clk h
  have hf := congrArg State.fault h
  have hm := congrArg (fun t : State => t.mgmt.sessions) h
  exact ⟨hc, hf, hm, congrArg State.lines h, congrArg State.ports h, congrArg State.staged h, congrArg State.posts h⟩

@[simp] theorem State.holdTrim_rails (s : State) (n : Nat) : (s.holdTrim n).clk.rails = s.clk.rails := by
  unfold State.holdTrim
  split <;> simp [State.modClk]

@[simp] theorem State.trimHeld_rails (s : State) (k : ResetKind) : (s.trimHeld k).clk.rails = s.clk.rails := by
  unfold State.trimHeld
  split <;> simp

theorem State.deviceReset_rails (s : State) (k : ResetKind) : (s.deviceReset k).clk.rails = s.clk.rails := by
  rw [(s.deviceReset_parts k).1]
  exact s.trimHeld_rails k

theorem State.deviceReset_coldStep (s : State) (k : ResetKind) : (s.deviceReset k).clk.coldStep = 0 := by
  rw [(s.deviceReset_parts k).1]
  rfl

/-- Right after a reset every session is closed (R342). -/
theorem freshSession_closed (n c : Nat) : (Store.get (freshSessions n) {} c).isOpen = false := by
  unfold freshSessions Store.get
  simp only [Store.find]
  (repeat' split) <;> rfl

/-- RESET_N keeps no field outside the pages HEARTH, SESSION and CALMGR (R373). -/
theorem resetN_keeps_page (p : Page) (h1 : p ≠ .hearth) (h2 : p ≠ .session) (h3 : p ≠ .calmgr) :
    ∀ F ∈ pageFields p, F.id % 2048 ∉ keptIds .resetN := by
  cases p
  case hearth => contradiction
  case session => contradiction
  case calmgr => contradiction
  all_goals decide +kernel

/-! ### A cold start and the rails -/

/-- CMUX goes to GATED and the control domain stops (R279). -/
theorem State.gateControl_clk (s : State) : s.gateControl.clk = { s.clk with running := false, csrc := .gated } := by
  unfold State.gateControl
  dsimp only
  split
  · rename_i h
    exact congrArg (fun c => { s.clk with running := false, csrc := c }) h
  · rw [State.pulse_clk]
    rfl

@[simp] theorem State.gateControl_trust (s : State) : s.gateControl.trust = s.trust := by
  unfold State.gateControl
  dsimp only
  split
  · rfl
  · rw [State.pulse_trust]
    rfl

theorem State.gateControl_regs (s : State) (h : s.clk.csrc = .gated) : s.gateControl.regs = s.regs := by
  unfold State.gateControl
  dsimp only
  split
  · rfl
  · rename_i hg
    exact absurd h hg

/-- A cold start begins: KOSC starts, REFCLK is judged and the control domain is gated (R285). -/
theorem State.coldStart_clk (s : State) :
    s.coldStart.clk = { s.clk with kosc := .starting, koscPasses := 0, ref := .judging, coldStep := 1, resetHeld := false,
                                   running := false, csrc := .gated } :=
  State.gateControl_clk _

theorem mem_insertSorted {n m : Nat} {l : List Nat} : m ∈ insertSorted n l ↔ m = n ∨ m ∈ l := by
  induction l with
  | nil => simp [insertSorted]
  | cons a l ih =>
    unfold insertSorted
    split
    · simp
    · split
      · simp_all
      · simp only [List.mem_cons, ih]
        tauto

theorem State.wakeHearth_rails (s : State) : s.wakeHearth.clk.rails = s.clk.rails := by
  unfold State.wakeHearth
  dsimp only
  split
  · rw [State.coldStart_clk, State.pulse_clk, State.wr_clk]
    rfl
  · rfl

/-- A rail that comes joins the good ones; the last one begins a cold start with RESET_N high (R372). -/
theorem railGood_runs {r : Nat} (h8 : r < 8) {s : State} (hr : r ∉ s.clk.rails) :
    s.runsTo (.railGood r) fun t => r ∈ t.clk.rails ∧
      ((∀ q, q < 8 → q ≠ r → q ∈ s.clk.rails) → s.pwr.state < 3 → s.clk.resetHeld = false → s.clk.coldStep = 0 →
        t.clk.coldStep = 1) := by
  have hm : r ∈ insertSorted r s.clk.rails := mem_insertSorted.2 (.inl rfl)
  generalize hu : (s.modClk fun x => { x with rails := insertSorted r x.rails }) = u
  have hc : u.clk = { s.clk with rails := insertSorted r s.clk.rails } := hu ▸ rfl
  have hp : u.pwr = s.pwr := hu ▸ rfl
  have he : exec (.railGood r) s =
      if !u.railsGood then .next u
      else if u.pwr.state = 3 then .next (if u.pwr.waking then u.wakeHearth else u)
      else if u.clk.resetHeld || u.clk.coldStep != 0 then .next u else .next u.coldStart := by
    subst hu
    have h1 : s.clk.rails.contains r = false := by simpa using hr
    simp only [exec, execRailGood, h1, Bool.false_eq_true, if_false, if_neg (show ¬ 8 ≤ r by omega)]
  have hall : (∀ q, q < 8 → q ≠ r → q ∈ s.clk.rails) → u.railsGood = true := fun h => by
    unfold State.railsGood
    rw [List.all_eq_true]
    intro q hq
    rw [hc, List.contains_iff_mem]
    by_cases e : q = r
    · exact e ▸ hm
    · exact mem_insertSorted.2 (.inr (h q (List.mem_range.1 hq) e))
  unfold State.runsTo
  rw [he]
  by_cases hg : u.railsGood = true
  swap
  · rw [if_pos (by simpa using hg)]
    exact ⟨u, rfl, by rw [hc]; exact hm, fun h => absurd (hall h) hg⟩
  rw [if_neg (by simp [hg])]
  by_cases h3 : u.pwr.state = 3
  · rw [if_pos h3]
    refine ⟨_, rfl, ?_, fun _ hlt => absurd h3 (by rw [hp]; omega)⟩
    split
    · rw [State.wakeHearth_rails, hc]
      exact hm
    · rw [hc]
      exact hm
  rw [if_neg h3]
  by_cases hb : (u.clk.resetHeld || u.clk.coldStep != 0) = true
  · rw [if_pos hb]
    refine ⟨u, rfl, by rw [hc]; exact hm, fun _ _ hh h0 => ?_⟩
    simp [hc, hh, h0] at hb
  · rw [if_neg hb]
    refine ⟨_, rfl, ?_, fun _ _ _ _ => ?_⟩ <;> rw [State.coldStart_clk]
    rw [hc]
    exact hm

/-- Settles O24: what a reset leaves is `deviceReset_spec`, what a cold start does `coldStart_clk`. -/
theorem resetsAndRails : Obligations.ResetsAndRails := by
  unfold Obligations.ResetsAndRails
  intro s
  refine ⟨fun hh hr => ?_, fun ns hn => ?_, fun ns hn => ?_, fun r h8 hr => railGood_runs h8 hr, fun r h7 hr => ?_, ?_⟩
  · have he : exec .resetNRelease s = .next s.coldStart := by
      simp only [exec, execResetNRelease, hh, hr, if_true]
    have hc := s.coldStart_clk
    exact ⟨s.coldStart, he, by rw [hc], by rw [hc], by rw [hc], by rw [hc], by rw [hc], by rw [hc],
      by simp [State.coldStart, State.modTrust, State.modClk], by simp, fun hg => State.gateControl_regs _ hg⟩
  · have he : exec (.resetNAssert ns) s =
        .next ((s.draw.2.deviceReset .resetN).modClk fun x => { x with resetHeld := true }) := if_pos (.inl hn)
    have hpend : s.draw.2.pending = s.pending := rfl
    refine ⟨_, he, ?_⟩
    revert hpend
    generalize s.draw.2 = u
    intro hpend
    obtain ⟨hc, hf, hm, hl, hp, hs, hq⟩ := u.deviceReset_parts .resetN
    refine ⟨rfl, u.deviceReset_coldStep _, hl, hp, hs, hq, ?_, ?_, fun c _ => ?_, fun p F i j hF h1 h2 h3 _ _ => ?_⟩
    · exact (congrArg FaultX.faultN hf).trans rfl
    · exact (u.deviceReset_pending _).trans hpend
    · exact (congrArg (fun m : Store Session => (m.get {} c).isOpen) hm).trans (freshSession_closed _ c)
    · exact (u.deviceReset_spec .resetN).2 F i j (resetN_keeps_page p h1 h2 h3 F hF)
  · exact ⟨_, if_neg (by omega), rfl⟩
  · have he : exec (.railTrip r) s = .next (
        let u := s.modClk fun x => { x with rails := x.rails.filter (· != r) }
        if u.pwr.state = 3 then u else u.deviceReset .railTrip) := by
      have h1 : ¬ (8 ≤ r ∨ r = railVh) := by unfold railVh; omega
      have h2 : s.clk.rails.contains r = true := List.contains_iff_mem.2 hr
      simp only [exec, execRailTrip, if_neg h1, h2, Bool.not_true, Bool.false_eq_true, if_false]
    refine ⟨_, he, ?_⟩
    dsimp only
    split
    case isTrue h3 => exact ⟨by simp [State.modClk], fun h => absurd h3 h⟩
    case isFalse =>
      obtain ⟨-, -, -, hlines, -⟩ := State.deviceReset_parts
        (s.modClk fun x => { x with rails := x.rails.filter (· != r) }) .railTrip
      refine ⟨?_, fun _ => ⟨hlines, State.deviceReset_coldStep _ _⟩⟩
      rw [State.deviceReset_rails]
      simp [State.modClk]
  · obtain ⟨hclk, -, -, hlines, -⟩ := State.deviceReset_parts
      (s.modClk fun x => { x with rails := x.rails.filter (· != railVh) }) .vh
    refine ⟨_, rfl, ?_, hlines, ?_, State.deviceReset_coldStep _ _⟩
    · rw [State.deviceReset_rails]
      simp [State.modClk, railVh]
    · rw [hclk]
      rfl

end Sys2Proof.Machine
end

section
/-! A read by a channel: which reads are carried out, what the channel gets, and the 64-bit counters (R13). -/

namespace Sys2Proof.Machine

/-- What a read that is carried out comes to: the word, and the latch of the words that belong to it. -/
theorem State.access_read_ok (s : State) (c addr : Nat) (h : (s.access c addr 4 1 none).verdict = .ok) :
    s.served c = true ∧ s.lockedFor c = false ∧ ∃ p i off, decodeAddr c addr = some (p, i, off) ∧
      s.access c addr 4 1 none = ⟨.ok, s.readWord p i off, s.latch p i off⟩ := by
  unfold State.access at h ⊢
  by_cases hf : s.fenced (c + 1) = true
  · rw [if_pos hf] at h
    cases h
  rw [if_neg hf] at h ⊢
  dsimp only at h ⊢
  by_cases hs : s.served c = true
  swap
  · simp [hs] at h
  by_cases hl : s.lockedFor c = true
  · simp [hs, hl] at h
  by_cases ha : addr % 4 = 0
  swap
  · simp [hs, hl, ha] at h
  simp only [hs, hl, ha, bne_self_eq_false, Bool.or_self, Bool.not_true, Bool.false_eq_true, if_false] at h ⊢
  refine ⟨trivial, by simp, ?_⟩
  unfold State.accessPage at h ⊢
  cases hd : decodeAddr c addr with
  | none => rw [hd] at h; cases h
  | some e =>
    obtain ⟨p, i, off⟩ := e
    simp only [hd] at h ⊢
    by_cases hr : (s.restricted && !openPages.contains p) = true
    · rw [if_pos hr] at h
      cases h
    rw [if_neg hr] at h ⊢
    by_cases hm : s.mayRead c p i = true
    · rw [if_pos hm]
      exact ⟨p, i, off, rfl, rfl⟩
    · rw [if_neg hm] at h
      cases h

/-- A channel that may read every page reads a whole aligned word that a page holds. -/
theorem State.access_read_open (s : State) (ch : Channel) (addr : Nat) {p : Page} {i off : Nat}
    (ho : s.opensTo ch = true) (ha : addr % 4 = 0) (hd : decodeAddr (chIx ch) addr = some (p, i, off)) :
    (s.access (chIx ch) addr 4 1 none).verdict = .ok := by
  simp only [State.opensTo, Bool.and_eq_true, Bool.not_eq_true'] at ho
  obtain ⟨⟨⟨⟨⟨_, hs⟩, hf⟩, hl⟩, hr⟩, hm⟩ := ho
  have hread : s.mayRead (chIx ch) p i = true := by simp [State.mayRead, hm]
  simp [State.access, hf, hs, hl, ha, State.accessPage, hd, hr, hread]

/-- A read that is carried out when it comes gives the channel the word, and changes the latch alone. -/
theorem State.hostRead_ok (s : State) (ch : Channel) (addr : Nat) (hst : s.steady = true)
    (hib : ch = .inband → s.mgmt.ibQueue = [] ∧ s.inbandLanes ≠ [])
    (h : (s.access (chIx ch) addr 4 1 none).verdict = .ok) {p : Page} {i off : Nat}
    (hd : decodeAddr (chIx ch) addr = some (p, i, off)) :
    s.gave ch (s.readWord p i off) (s.hostRead ch addr) ∧ (s.hostRead ch addr).latched = (s.latch p i off).latched ∧
      (s.hostRead ch addr).regs = s.regs ∧ (s.hostRead ch addr).lines = s.lines := by
  obtain ⟨hs, hl, p', i', off', hd', ha⟩ := s.access_read_ok _ _ h
  obtain ⟨rfl, rfl, rfl⟩ : p' = p ∧ i' = i ∧ off' = off := by simpa [hd'] using hd
  have hr : (s.latch p' i' off').regs = s.regs := by unfold State.latch; split <;> rfl
  have hn : (s.latch p' i' off').lines = s.lines := by unfold State.latch; split <;> rfl
  have hm : (s.latch p' i' off').mgmt = s.mgmt := by unfold State.latch; split <;> rfl
  unfold State.hostRead
  dsimp only
  by_cases hc : ch = .inband
  · subst hc
    obtain ⟨hq, hL⟩ := hib rfl
    have hlane : s.inbandLanes.contains s.inbandLane = true := by
      unfold State.inbandLane
      cases hL' : s.inbandLanes with
      | nil => exact absurd hL' hL
      | cons a b => simp
    rw [if_pos (show chIx .inband = 1 from rfl), State.askInband_one s _ hs hl hq hlane]
    have hb : s.burst 1 4 1 [(addr, none)] = ([.ok], [s.readWord p' i' off'], s.latch p' i' off') := by
      have ha1 : s.access 1 addr 4 1 none = _ := ha
      simp only [State.burst, ha1]
    unfold State.serveInband
    simp only [Bool.false_eq_true, if_false, InbandReq.words, List.range_one, List.map_cons, List.map_nil, Nat.mul_zero,
      Nat.add_zero, Nat.lt_irrefl, decide_false, accessCode, hb]
    refine ⟨?_, rfl, hr, hn⟩
    unfold State.gave
    rw [if_pos rfl]
    unfold State.respond State.modMgmt
    simp only [hm, Mgmt.sendBlocks]
    rfl
  · have h1 : chIx ch ≠ 1 := by cases ch <;> simp_all [chIx]
    rw [if_neg h1, State.frameStart_steady s _ hst, ha]
    refine ⟨?_, rfl, hr, hn⟩
    unfold State.gave
    rw [if_neg hc]
    exact ⟨rfl, rfl⟩

/-- The LO and HI words of every 64-bit counter (R13). -/
def counterPairs : List (Fld × Fld) :=
  [(CLOCKS.FM_COUNT_LO.COUNT, CLOCKS.FM_COUNT_HI.COUNT), (TRUST.ATTEST_IDX_LO.INDEX, TRUST.ATTEST_IDX_HI.INDEX),
   (PORT_CTL.RXBLK_LO.N, PORT_CTL.RXBLK_HI.N), (PORT_SEC.SA_PN_LO.PN, PORT_SEC.SA_PN_HI.PN),
   (LMON.CW_LO.COUNT, LMON.CW_HI.COUNT), (LMON.CW_FIX_LO.COUNT, LMON.CW_FIX_HI.COUNT),
   (LMON.DTU_TX_LO.COUNT, LMON.DTU_TX_HI.COUNT)]

/-- A field that fills its words alone, in the block of a page that is not the letterbox. -/
def Fld.fillsWord (F : Fld) (j : Nat) : Bool :=
  decide (fieldsAt F.page (F.off + F.stride * j) = [(F, j)]) && decide (F.lo = 0) && decide (F.w = 32) &&
    decide (0x040 ≤ F.off) && decide (F ≠ SESSION.MDIO_BASE.CLUSTER) && decide (F.off % 4 = 0) &&
    decide (F.stride % 4 = 0) && decide (F.off + F.stride * j < 4096) && decide (F.page ≠ .letterbox)

theorem counterPairs_fill : ∀ e ∈ counterPairs, ∀ j < e.1.cnt,
    e.1.fillsWord j = true ∧ e.2.fillsWord j = true ∧ e.1.page = e.2.page ∧ latchedBy e.1 = [e.2] ∧ latchedBy e.2 = [] ∧
      latchedFields.contains e.1 = false ∧ latchedFields.contains e.2 = true := by decide +kernel

theorem pageBase_mod (p : Page) (i : Nat) : pageBase p i % 4 = 0 := by
  have h (n m k : Nat) : (4096 * n + (4 * m + 4 * k * i)) % 4 = 0 := by
    rw [Nat.mul_assoc]
    omega
  unfold pageBase
  split
  · exact h _ 0x40000 0x4000
  · exact h _ 0x80000 0x400
  · exact h _ 0x100000 0x800
  · exact h _ 0x400000 0x2000
  · omega

/-- A word that one field fills, of a page that is ready: the address decodes to it and a read shows the field. -/
theorem Fld.fillsWord_spec {F : Fld} {i j : Nat} (h : F.fillsWord j = true) (hi : i < F.page.count) (c : Nat) :
    decodeAddr c (F.addr i j) = some (F.page, i, F.off + F.stride * j) ∧ F.addr i j % 4 = 0 ∧
      fieldsAt F.page (F.off + F.stride * j) = [(F, j)] ∧
      ∀ s : State, s.pageReady F.page i = true →
        s.readWord F.page i (F.off + F.stride * j) =
          (if latchedFields.contains F then s.latched.get 0 (F.key i j) else s.shown F i j) % 2 ^ 32 := by
  simp only [Fld.fillsWord, Bool.and_eq_true, decide_eq_true_eq] at h
  obtain ⟨⟨⟨⟨⟨⟨⟨⟨hf, hlo⟩, hw⟩, ho⟩, hb⟩, h4⟩, hs4⟩, hlt⟩, hl⟩ := h
  refine ⟨?_, ?_, hf, fun s hr => ?_⟩
  · have := decodeAddr_base c F.page i (F.off + F.stride * j) hi (fun e => absurd e hl) hlt
    simpa [Fld.addr, Nat.add_assoc] using this
  · have hb4 := pageBase_mod F.page i
    have hsj : F.stride * j % 4 = 0 := by rw [Nat.mul_mod, hs4, Nat.zero_mul, Nat.zero_mod]
    unfold Fld.addr
    omega
  · have hthere : fieldThere F i = true := by
      unfold fieldThere
      rw [if_neg hb, if_neg (by omega), if_neg (by omega)]
    simp [State.readWord, hf, hlo, hw, State.readField, hthere, hr]

/-- Where the obligation lets a channel read, the read is carried out. -/
theorem State.reads_carried_out {s : State} {ch : Channel} {F : Fld} {i j : Nat} (hF : F.fillsWord j = true)
    (hi : i < F.page.count)
    (h : ch ≠ .inband ∧ s.opensTo ch = true ∨ s.readable ch (F.addr i j) = true) :
    s.steady = true ∧ (ch = .inband → s.mgmt.ibQueue = [] ∧ s.inbandLanes ≠ []) ∧
      (s.access (chIx ch) (F.addr i j) 4 1 none).verdict = .ok := by
  obtain ⟨hd, h4, -, -⟩ := Fld.fillsWord_spec hF hi (chIx ch)
  rcases h with ⟨hc, ho⟩ | hr
  · refine ⟨?_, fun e => absurd e hc, s.access_read_open ch _ ho h4 hd⟩
    simp only [State.opensTo, Bool.and_eq_true] at ho
    obtain ⟨⟨⟨⟨⟨hst, -⟩, -⟩, -⟩, -⟩, -⟩ := ho
    exact hst
  · simp only [State.readable, Bool.and_eq_true, beq_iff_eq, List.isEmpty_iff] at hr
    obtain ⟨⟨⟨hst, hq⟩, hL⟩, hv⟩ := hr
    refine ⟨hst, fun e => ⟨hq, ?_⟩, hv⟩
    subst e
    simpa [chIx] using hL

/-- Settles O56: each counter word fills its address, LO latches its HI, and HI is shown from the latch. -/
theorem counterReads : Obligations.CounterReads := by
  unfold Obligations.CounterReads
  intro s ch e he i j hi hj hready
  obtain ⟨hlo, hhi, hp, hlat, hnone, hnl, hl⟩ := counterPairs_fill e he j hj
  obtain ⟨hd1, -, hf1, hw1⟩ := Fld.fillsWord_spec hlo hi (chIx ch)
  obtain ⟨hd2, -, hf2, hw2⟩ := Fld.fillsWord_spec hhi (hp ▸ hi) (chIx ch)
  constructor
  · intro h
    obtain ⟨hst, hib, hv⟩ := State.reads_carried_out hlo hi h
    obtain ⟨hg, hla, hr, hn⟩ := s.hostRead_ok ch _ hst hib hv hd1
    refine ⟨_, rfl, ?_, ?_, hr, hn⟩
    · rw [hw1 s hready, hnl] at hg
      exact hg
    · rw [hla, State.latch, hready]
      simp [hf1, hlat]
  · intro h
    obtain ⟨hst, hib, hv⟩ := State.reads_carried_out hhi (hp ▸ hi) h
    obtain ⟨hg, hla, hr, hn⟩ := s.hostRead_ok ch _ hst hib hv hd2
    refine ⟨_, rfl, ?_, ?_, hr, hn⟩
    · rw [hw2 s (hp ▸ hready), hl] at hg
      exact hg
    · have hready2 : s.pageReady e.2.page i = true := hp ▸ hready
      rw [hla, State.latch, hready2]
      simp [hf2, hnone]

end Sys2Proof.Machine
end

section
/-! What events and fault records touch: registers of their own, the event tree, the fault records' state and the in-band EVENT
blocks (R36, R314, R324 to R327, R345). -/

namespace Sys2Proof.Machine

/-- A channel's data without the EVENT blocks that go out in-band (R256, R327). -/
def Mgmt.still (m : Mgmt) : Mgmt := { m with ibEvents := [], ibBlocks := [] }

/-- The state without what events and fault records touch. -/
def State.core (s : State) : State := { s with regs := [], ev := {}, fault := {}, mgmt := s.mgmt.still }

/-- A field that events or fault records write. -/
def Fld.logged (F : Fld) : Bool := F.event || F.faulty

/-- From `s` to `t` only events were raised and faults recorded. -/
def State.Logs (s t : State) : Prop :=
  t.core = s.core ∧ ∀ (G : Fld) (a b : Nat), G.logged = false → t.g G a b = s.g G a b

theorem State.Logs.refl (s : State) : State.Logs s s := ⟨rfl, fun _ _ _ _ => rfl⟩

theorem State.Logs.trans {s t u : State} (h : State.Logs s t) (k : State.Logs t u) : State.Logs s u :=
  ⟨k.1.trans h.1, fun G a b hG => (k.2 G a b hG).trans (h.2 G a b hG)⟩

theorem State.g_wr_of_logged {F G : Fld} (hF : F.logged = true) (hG : G.logged = false) (s : State) (v i j a b : Nat) :
    (s.wr F v i j).g G a b = s.g G a b := by
  simp only [Fld.logged, Bool.or_eq_true, Bool.or_eq_false_iff] at hF hG
  rcases hF with hF | hF
  · exact State.g_wr_of_event hF hG.1 _ _ _ _ _ _
  · exact State.g_wr_of_faulty hF hG.2 _ _ _ _ _ _

theorem State.Logs.wr {s t : State} (h : State.Logs s t) {F : Fld} (hF : F.logged = true) (v i j : Nat) :
    State.Logs s (t.wr F v i j) :=
  h.trans ⟨rfl, fun _ _ _ hG => State.g_wr_of_logged hF hG _ _ _ _ _ _⟩

theorem State.Logs.foldl {β : Type} {f : State → β → State} (h : ∀ s b, State.Logs s (f s b)) (l : List β) (s : State) :
    State.Logs s (l.foldl f s) := by
  induction l generalizing s with
  | nil => exact .refl s
  | cons b l ih => exact (h s b).trans (ih _)

theorem State.Logs.modFault {s t : State} (h : State.Logs s t) (f : FaultX → FaultX) : State.Logs s (t.modFault f) :=
  h.trans ⟨rfl, fun _ _ _ _ => rfl⟩

theorem pend_logged (p : Page) : (HDR.EVT_PEND.PEND p).logged = true := by simp [Fld.logged, pend_event]
theorem count_logged (p : Page) : (HDR.EVT_COUNT.COUNT p).logged = true := by simp [Fld.logged, count_event]

/-! ### Events -/

theorem State.Logs.refreshPins (s : State) : State.Logs s s.refreshPins := by
  refine ⟨?_, fun G a b _ => State.refreshPins_g s G a b⟩
  unfold State.refreshPins
  split <;> rfl

theorem foldl_sendBlocks_still (ls : List Nat) (bs : List Block) (m : Mgmt) :
    (ls.foldl (fun m l => m.sendBlocks l bs) m).still = m.still := by
  induction ls generalizing m with
  | nil => rfl
  | cons l ls ih => rw [List.foldl_cons, ih]; rfl

theorem State.core_modMgmt (s : State) (f : Mgmt → Mgmt) (h : (f s.mgmt).still = s.mgmt.still) :
    (s.modMgmt f).core = s.core := by
  unfold State.modMgmt State.core
  rw [h]

theorem State.Logs.sendEvent (s : State) (n : Nat) (v : Bool) : State.Logs s (s.sendEvent n v) := by
  unfold State.sendEvent
  dsimp only
  split
  · exact .refl s
  · exact .wr ⟨s.core_modMgmt _ (foldl_sendBlocks_still _ _ _), fun _ _ _ _ => rfl⟩ rfl _ _ _

theorem State.Logs.inbandDue (s : State) (n : Nat) (v : Bool) : State.Logs s (s.inbandDue n v) := by
  unfold State.inbandDue
  dsimp only
  split
  · split
    · exact ⟨rfl, fun _ _ _ _ => rfl⟩
    · split
      · exact .sendEvent s n v
      · exact (State.Logs.sendEvent s n v).trans ⟨rfl, fun _ _ _ _ => rfl⟩
  · exact .refl s

theorem State.Logs.setEv (s : State) (e : EventX) : State.Logs s { s with ev := e } := ⟨rfl, fun _ _ _ _ => rfl⟩

theorem State.Logs.inbandChange (s : State) (n : Nat) (v : Bool) : State.Logs s (s.inbandChange n v) :=
  (State.Logs.setEv s { s.ev with ibWhen := s.ev.ibWhen.set 0 n s.time.ns }).trans (.inbandDue _ n v)

theorem State.Logs.refreshSource (s : State) (n : Nat) : State.Logs s (s.refreshSource n) := by
  have key (e : EventX) (v : Bool) : State.Logs s (({ s with ev := e } : State).inbandChange n v).refreshPins :=
    (State.Logs.setEv s e).trans ((State.Logs.inbandChange _ n v).trans (.refreshPins _))
  unfold State.refreshSource
  dsimp only
  split
  · exact .refl s
  · exact key _ _

theorem State.Logs.refreshPage (s : State) (p : Page) (i : Nat) : State.Logs s (s.refreshPage p i) := by
  unfold State.refreshPage
  dsimp only
  split
  · exact (State.Logs.refreshSource _ _).trans (.refreshSource _ _)
  · exact .refreshSource _ _

theorem State.Logs.edges (s : State) (p : Page) (i m : Nat) : State.Logs s (s.edges p i m) := by
  unfold State.edges
  dsimp only
  split
  · exact .refl s
  · exact (((State.Logs.refl s).wr (pend_logged p) _ _ _).wr (count_logged p) _ _ _).trans (.refreshPage _ _ _)

theorem State.Logs.pulse (s : State) (p : Page) (i b : Nat) : State.Logs s (s.pulse p i b) := .edges _ _ _ _

/-! ### Fault records (R314, R345) -/

theorem State.Logs.wrWords {s t : State} (h : State.Logs s t) {F : Fld} (hF : F.logged = true) (i : Nat) (ws : List Nat) :
    State.Logs s (t.wrWords F i ws) :=
  h.trans (.foldl (fun u _ => .wr (.refl u) hF _ _ _) _ t)

theorem companion_logged (r : Nat) : (if r = 0 then FAULT.COMPANION_F.MAP else FAULT.COMPANION_L.MAP).logged = true := by
  split <;> rfl

theorem State.Logs.placeRecord (s : State) (r : Nat) (f : FaultReport) (real : Bool) :
    State.Logs s (s.placeRecord r f real) := by
  unfold State.placeRecord State.capture
  refine .modFault (.wrWords ?_ (companion_logged r) _ _) _
  repeat refine .wr ?_ rfl _ _ _
  exact .refl s

theorem State.Logs.record (s : State) (f : FaultReport) (real : Bool) : State.Logs s (s.record f real) := by
  unfold State.record
  dsimp only
  split
  · refine .trans ?_ (.pulse _ _ _ _)
    exact .wr (.wr (.wr (.refl s) rfl _ _ _) rfl _ _ _) (companion_logged 0) _ _ _
  · split
    · split
      · exact .placeRecord _ _ _ _
      · exact .modFault (.placeRecord _ _ _ _) _
    · exact .placeRecord _ _ _ _

theorem State.Logs.countFault (s : State) (f : FaultReport) : State.Logs s (s.countFault f) := by
  have h : State.Logs s (s.bump FAULT.COUNT_S.COUNT 0 1 f.cls) := .wr (.refl s) rfl _ _ _
  unfold State.countFault
  dsimp only
  split
  · exact h
  · exact h.trans (.edges _ _ _ _)

theorem State.Logs.unitRecorded (s : State) (f : FaultReport) : State.Logs s (s.unitRecorded f) := by
  unfold State.unitRecorded
  split
  · exact .refl s
  · split
    · exact .pulse _ _ _ _
    · split
      · exact .pulse _ _ _ _
      · exact .refl s

theorem State.Logs.log (s : State) (f : FaultReport) : State.Logs s (s.log f) := by
  unfold State.log
  split
  · exact .refl s
  · exact ((State.Logs.record s f false).trans (.countFault _ f)).trans (.unitRecorded _ f)

/-- An access that completes with an error response is recorded, and nothing else comes of it (R345). -/
theorem State.Logs.accessError (s : State) (m x a : Nat) : State.Logs s (s.accessError m x a) := by
  unfold State.accessError
  split
  · exact .log _ _
  · exact .refl s

theorem State.Logs.recordRefusal (s : State) (c code addr : Nat) (v : Verdict) :
    State.Logs s (s.recordRefusal c code addr v) := by
  unfold State.recordRefusal
  split
  · exact .refl s
  · exact .accessError _ _ _ _

end Sys2Proof.Machine
end

section
/-! Accesses that are refused (R8, R32, R35, R55, R319, R344, R345). -/

namespace Sys2Proof.Machine

/-! ### The answer to a refused access on MSPI or MDIO -/

/-- What states with the same core share, read off part by part. -/
theorem State.parts_of_core {s t : State} (h : t.core = s.core) :
    t.lines = s.lines ∧ t.staged = s.staged ∧ t.posts = s.posts ∧ t.ports = s.ports ∧ t.trust = s.trust ∧ t.xe = s.xe ∧
      t.pwr = s.pwr ∧ t.time = s.time ∧ t.mgmt.still = s.mgmt.still := by
  simp only [State.core, State.mk.injEq] at h
  tauto

theorem Mgmt.parts_of_still {m n : Mgmt} (h : m.still = n.still) :
    m.sessions = n.sessions ∧ m.busOwner = n.busOwner ∧ m.lbCommands = n.lbCommands ∧ m.ibQueue = n.ibQueue ∧
      m.ibAnswers = n.ibAnswers := by
  simp only [Mgmt.still, Mgmt.mk.injEq] at h
  tauto

theorem State.ibQueue_of_core {s t : State} (h : t.core = s.core) : t.mgmt.ibQueue = s.mgmt.ibQueue := by
  obtain ⟨-, -, -, -, -, -, -, -, hm⟩ := State.parts_of_core h
  obtain ⟨-, -, -, hq, -⟩ := Mgmt.parts_of_still hm
  exact hq

/-- An error response on MSPI or MDIO, after nothing but a record of it (R345). -/
theorem State.turnedAway_answered {s u : State} (h : u.core = s.core) (c : Nat) {v : Verdict} (hv : v ≠ .ok)
    (data : List Nat) : s.turnedAway (u.answered c v data) := by
  obtain ⟨hl, hs, hp, ho, ht, hx, hw, hi, hm⟩ := State.parts_of_core h
  obtain ⟨m1, m2, m3, -, -⟩ := Mgmt.parts_of_still hm
  have keeps (f : Mgmt → Mgmt) (hf : (f u.mgmt).sessions = u.mgmt.sessions ∧ (f u.mgmt).busOwner = u.mgmt.busOwner ∧
      (f u.mgmt).lbCommands = u.mgmt.lbCommands ∧ (f u.mgmt).lastError = true) : s.turnedAway (u.modMgmt f) := by
    obtain ⟨h1, h2, h3, h4⟩ := hf
    exact ⟨h4, hl, hs, hp, ho, ht, hx, hw, hi, h1.trans m1, h2.trans m2, h3.trans m3⟩
  refine keeps _ ?_
  dsimp only
  rw [if_neg hv]
  split <;> simp [hv]

theorem State.answered_g (s : State) (c : Nat) (v : Verdict) (data : List Nat) (G : Fld) (a b : Nat) :
    (s.answered c v data).g G a b = s.g G a b := rfl

theorem State.answered_lastRead (s : State) (c : Nat) (v : Verdict) (data : List Nat) :
    (s.answered c v data).mgmt.lastRead = data := by
  unfold State.answered State.modMgmt
  dsimp only
  (repeat' split) <;> rfl

theorem State.answered_mspiDenied (s : State) (data : List Nat) : (s.answered 0 .denied data).mgmt.mspiDenied = true := by
  simp [State.answered, State.modMgmt]

theorem State.answered_mdioLocked (s : State) (data : List Nat) : (s.answered 2 .locked data).mgmt.mdioLocked = true := by
  simp [State.answered, State.modMgmt]

/-- A write on MSPI or MDIO that records at most events and faults, and its answer. -/
theorem State.hostWrite_pins {s : State} {ch : Channel} (hc : ch ≠ .inband) (hst : s.steady = true)
    (hq : s.mgmt.ibQueue = []) (addr width w : Nat)
    (h : (s.access (chIx ch) addr width 2 (some w)).state.core = s.core) :
    s.hostWrite ch addr width w =
      (s.access (chIx ch) addr width 2 (some w)).state.answered (chIx ch)
        (s.access (chIx ch) addr width 2 (some w)).verdict [] := by
  have h1 : chIx ch ≠ 1 := by cases ch <;> simp_all [chIx]
  unfold State.hostWrite
  dsimp only
  rw [if_neg h1, State.frameStart_steady s _ hst]
  refine State.drainInband_nil _ ?_
  have hcore := (State.ibQueue_of_core h).trans hq
  simpa [State.answered] using hcore

theorem State.hostRead_pins {s : State} {ch : Channel} (hc : ch ≠ .inband) (hst : s.steady = true) (addr : Nat) :
    s.hostRead ch addr = (s.access (chIx ch) addr 4 1 none).state.answered (chIx ch)
      (s.access (chIx ch) addr 4 1 none).verdict [(s.access (chIx ch) addr 4 1 none).data] := by
  have h1 : chIx ch ≠ 1 := by cases ch <;> simp_all [chIx]
  unfold State.hostRead
  dsimp only
  rw [if_neg h1, State.frameStart_steady s _ hst]

/-! ### Which accesses are refused -/

/-- An access of a fenced master is counted (R319). -/
theorem State.access_fenced {s : State} {c : Nat} (h : s.fenced (c + 1) = true) (addr width code : Nat) (w : Option Nat) :
    s.access c addr width code w = ⟨.error, 0, s.bump FAULT.FENCED.COUNT⟩ := by
  unfold State.access
  rw [if_pos h]

/-- An access that is locked out, or is no whole aligned word (R8, R55). -/
theorem State.access_locked {s : State} {c : Nat} (hf : s.fenced (c + 1) = false) (hs : s.served c = true)
    (hl : s.lockedFor c = true) (addr width code : Nat) (w : Option Nat) :
    s.access c addr width code w = ⟨.locked, 0, s.recordRefusal c code addr .locked⟩ := by
  simp [State.access, hf, hs, hl]

theorem State.access_unaligned {s : State} {c : Nat} (hf : s.fenced (c + 1) = false) (hs : s.served c = true)
    (hl : s.lockedFor c = false) {addr width : Nat} (h : width ≠ 4 ∨ addr % 4 ≠ 0) (code : Nat) (w : Option Nat) :
    s.access c addr width code w = ⟨.error, 0, s.recordRefusal c code addr .error⟩ := by
  simp [State.access, hf, hs, hl, h]

theorem State.access_word {s : State} {c : Nat} (hf : s.fenced (c + 1) = false) (hs : s.served c = true)
    (hl : s.lockedFor c = false) {addr : Nat} (h : addr % 4 = 0) (code : Nat) (w : Option Nat) :
    s.access c addr 4 code w = ⟨(s.accessPage c addr w).verdict, (s.accessPage c addr w).data,
      (s.accessPage c addr w).state.recordRefusal c code addr (s.accessPage c addr w).verdict⟩ := by
  simp [State.access, hf, hs, hl, h]

/-! The pages at a place of a region, with their base addresses (R31). -/

theorem pageAt_device {c n k : Nat} {p : Page} (hc : c < 3) (h : pageAt (devicePages c) n = some (p, k)) :
    k < p.count ∧ pageBase p k = 4096 * n := by
  have hn : n < 21 := (List.getElem?_eq_some_iff.1 h).1
  unfold pageAt devicePages at h
  interval_cases n <;> simp only [List.getElem?_cons_zero, List.getElem?_cons_succ, Option.some.injEq, Prod.mk.injEq] at h <;>
    obtain ⟨rfl, rfl⟩ := h <;> exact ⟨by simp only [Page.count]; omega, rfl⟩

theorem pageAt_cluster {i n k : Nat} {p : Page} (h : pageAt (clusterPages i) n = some (p, k)) :
    k = i ∧ p.count = 4 ∧ n < 4 ∧ pageBase p k = 4096 * n + (0x100000 + 0x10000 * i) := by
  have hn : n < 4 := (List.getElem?_eq_some_iff.1 h).1
  unfold pageAt clusterPages at h
  interval_cases n <;> cases h <;> exact ⟨rfl, rfl, by decide, rfl⟩

theorem pageAt_port {i n k : Nat} {p : Page} (h : pageAt (portPages i) n = some (p, k)) :
    k = i ∧ p.count = 128 ∧ n < 2 ∧ pageBase p k = 4096 * n + (0x400000 + 0x2000 * i) := by
  have hn : n < 2 := (List.getElem?_eq_some_iff.1 h).1
  unfold pageAt portPages at h
  interval_cases n <;> cases h <;> exact ⟨rfl, rfl, by decide, rfl⟩

theorem pageAt_line {i n k : Nat} {p : Page} (h : pageAt (linePages i) n = some (p, k)) :
    k = i ∧ p.count = 128 ∧ n < 8 ∧ pageBase p k = 4096 * n + (0x1000000 + 0x8000 * i) := by
  have hn : n < 8 := (List.getElem?_eq_some_iff.1 h).1
  unfold pageAt linePages at h
  interval_cases n <;> cases h <;> exact ⟨rfl, rfl, by decide, rfl⟩

theorem pageBase_lane (k : Nat) : pageBase .lane k = 0x200000 + 0x1000 * k := Nat.zero_add _

/-- An address that names a page lies in that page (R31). -/
theorem decodeAddr_within {c a : Nat} (hc : c < 3) {p : Page} {i off : Nat} (h : decodeAddr c a = some (p, i, off)) :
    i < p.count ∧ pageBase p i ≤ a ∧ a < pageBase p i + 4096 := by
  unfold decodeAddr at h
  dsimp only at h
  rw [Option.map_eq_some_iff] at h
  obtain ⟨⟨q, k⟩, hf, he⟩ := h
  obtain ⟨rfl, rfl, -⟩ : q = p ∧ k = i ∧ a % 4096 = off := by simpa using he
  split at hf
  · obtain ⟨hk, hb⟩ := pageAt_device hc hf
    omega
  split at hf
  · obtain ⟨rfl, hn, h4, hb⟩ := pageAt_cluster hf
    omega
  split at hf
  · cases hf
    rw [pageBase_lane, show Page.lane.count = 32 from rfl]
    omega
  split at hf
  · obtain ⟨rfl, hn, h4, hb⟩ := pageAt_port hf
    omega
  split at hf
  · obtain ⟨rfl, hn, h4, hb⟩ := pageAt_line hf
    omega
  · cases hf

/-- An address outside every page names none. -/
theorem decodeAddr_none {c a : Nat} (hc : c < 3)
    (h : ∀ (p : Page) (i : Nat), i < p.count → a < pageBase p i ∨ pageBase p i + 4096 ≤ a) : decodeAddr c a = none := by
  cases hd : decodeAddr c a with
  | none => rfl
  | some e =>
    obtain ⟨hi, h1, h2⟩ := decodeAddr_within hc (i := e.2.1) (off := e.2.2) hd
    have := h _ _ hi
    omega

/-! ### Refused words -/

/-- On MSPI or MDIO, an access that is not carried out and leaves at most events and faults: an error response. -/
theorem State.hostWrite_turnedAway {s : State} {ch : Channel} (hc : ch ≠ .inband) (hst : s.steady = true)
    (hq : s.mgmt.ibQueue = []) {addr width w d : Nat} {v : Verdict} {u : State}
    (ha : s.access (chIx ch) addr width 2 (some w) = ⟨v, d, u⟩) (hu : u.core = s.core) (hv : v ≠ .ok) :
    s.hostWrite ch addr width w = u.answered (chIx ch) v [] ∧ s.turnedAway (s.hostWrite ch addr width w) := by
  have h := State.hostWrite_pins hc hst hq addr width w (by rw [ha]; exact hu)
  rw [ha] at h
  exact ⟨h, h ▸ State.turnedAway_answered hu _ hv _⟩

theorem State.hostRead_turnedAway {s : State} {ch : Channel} (hc : ch ≠ .inband) (hst : s.steady = true)
    {addr d : Nat} {v : Verdict} {u : State}
    (ha : s.access (chIx ch) addr 4 1 none = ⟨v, d, u⟩) (hu : u.core = s.core) (hv : v ≠ .ok) :
    s.hostRead ch addr = u.answered (chIx ch) v [d] ∧ s.turnedAway (s.hostRead ch addr) ∧
      (s.hostRead ch addr).mgmt.lastRead = [d] := by
  have h := State.hostRead_pins hc hst addr
  rw [ha] at h
  exact ⟨h, h ▸ State.turnedAway_answered hu _ hv _, h ▸ State.answered_lastRead _ _ _ _⟩

theorem chIx_lt (ch : Channel) : chIx ch < 3 := by cases ch <;> decide

/-- A channel's access comes to the page: it is served and not fenced, no other channel holds the bus lock, and every page is
reachable (R55, R281, R319). -/
structure State.Arrives (s : State) (c : Nat) : Prop where
  unfenced : s.fenced (c + 1) = false
  served : s.served c = true
  unlocked : s.lockedFor c = false
  unrestricted : s.restricted = false

/-- A word that the page turns down, with nothing changed by it. -/
theorem State.access_refused {s : State} {c addr : Nat} (hs : s.Arrives c) {p : Page} {i off w : Nat} {v : Verdict}
    (h4 : addr % 4 = 0) (hd : decodeAddr c addr = some (p, i, off))
    (hw : s.writeWord { ch := c, page := p, inst := i, off := off, w := w } = (v, s)) (code : Nat) :
    s.access c addr 4 code (some w) = ⟨v, 0, s.recordRefusal c code addr v⟩ := by
  rw [State.access_word hs.unfenced hs.served hs.unlocked h4]
  simp [State.accessPage, hd, hs.unrestricted, hw]

/-- A page that the channel may not read: DENIED. -/
theorem State.access_read_denied {s : State} {c addr : Nat} (hs : s.Arrives c) {p : Page} {i off : Nat}
    (h4 : addr % 4 = 0) (hd : decodeAddr c addr = some (p, i, off)) (hr : s.mayRead c p i = false) (code : Nat) :
    s.access c addr 4 code none = ⟨.denied, 0, s.recordRefusal c code addr .denied⟩ := by
  rw [State.access_word hs.unfenced hs.served hs.unlocked h4]
  simp [State.accessPage, hd, hs.unrestricted, hr]

theorem State.writeWord_denied {s : State} {x : WordWrite} (h : s.denies x (s.acted x) = true) :
    s.writeWord x = (.denied, s) := by
  unfold State.writeWord
  dsimp only
  rw [if_pos h]

/-- A page outside the session, letterbox and trust pages that refuses a word is left as it was. -/
theorem State.writeWord_refused {s : State} {x : WordWrite} (h1 : x.page ≠ .session) (h2 : x.page ≠ .letterbox)
    (h3 : x.page ≠ .trust) (h : s.refuses x (s.acted x) = true) :
    ∃ v, v ≠ .ok ∧ s.writeWord x = (v, s) := by
  have hr : hits (s.acted x) LETTERBOX.DOORBELL.RING = false := by
    by_contra hc
    exact h2 (hits_page s x _ (by simpa using hc)).symm
  by_cases hd : s.denies x (s.acted x) = true
  · exact ⟨.denied, by decide, State.writeWord_denied hd⟩
  · refine ⟨.error, by decide, ?_⟩
    unfold State.writeWord
    simp [hd, h1, h2, h3, hr, h]

/-- A role that may not write a field that the word acts on. -/
theorem State.denies_of_role {s : State} {x : WordWrite} {e : Fld × Nat} (he : e ∈ s.acted x)
    (h : mayWrite (s.roleOf x.ch) (ownPage x.ch x.page x.inst) e.1 (x.val e.1) = false) :
    s.denies x (s.acted x) = true := by
  have : (s.acted x).any (fun e => !mayWrite (s.roleOf x.ch) (ownPage x.ch x.page x.inst) e.1 (x.val e.1)) = true :=
    List.any_eq_true.2 ⟨e, he, by simp [h]⟩
  unfold State.denies
  rw [this, Bool.or_true]

theorem State.mem_acted {s : State} {x : WordWrite} {F : Fld} {j : Nat} (hf : (F, j) ∈ fieldsAt x.page x.off)
    (ht : fieldThere F x.inst = true) (ha : F.acc = .rw) (hv : x.carried F ≠ s.value F x.inst j) : (F, j) ∈ s.acted x := by
  refine List.mem_filter.2 ⟨List.mem_filter.2 ⟨hf, ht⟩, ?_⟩
  simp [State.actsOn, ht, ha, State.current, hv]

/-- A channel without a session may write no page but its own session page. -/
theorem State.denies_no_session {s : State} {x : WordWrite} (hr : s.roleOf x.ch = none) (hp : x.page ≠ .session)
    (hi : x.page ≠ .ident) (act : List (Fld × Nat)) : s.denies x act = true := by
  simp [State.denies, State.mayRead, ownPage, hr, hp, hi]

/-! ### The words of the obligation -/

/-- The first word of an offset of a page decodes to it, and is aligned. -/
theorem Fld.addr_decodes (F : Fld) {i : Nat} (hi : i < F.page.count) (hl : F.page ≠ .letterbox) (ho : F.off < 4096)
    (h4 : F.off % 4 = 0) (c : Nat) : decodeAddr c (F.addr i 0) = some (F.page, i, F.off) ∧ F.addr i 0 % 4 = 0 := by
  have hb := pageBase_mod F.page i
  have ha : F.addr i 0 = pageBase F.page i + F.off := by unfold Fld.addr; omega
  rw [ha]
  exact ⟨decodeAddr_base c F.page i F.off hi (fun e => absurd e hl) ho, by omega⟩

/-- A word that is turned down, on MSPI or MDIO: the error response, its flag, and every field kept but those of events and
fault records. -/
theorem State.writeAt_turnedAway {s : State} {ch : Channel} (hc : ch ≠ .inband) (hst : s.steady = true)
    (hq : s.mgmt.ibQueue = []) (hs : s.Arrives (chIx ch)) {F : Fld} {i w : Nat} {v : Verdict} (hi : i < F.page.count)
    (hl : F.page ≠ .letterbox) (ho : F.off < 4096) (h4 : F.off % 4 = 0)
    (hw : s.writeWord { ch := chIx ch, page := F.page, inst := i, off := F.off, w := w } = (v, s)) (hv : v ≠ .ok) :
    s.turnedAway (s.hostWrite ch (F.addr i 0) 4 w) ∧
      (∀ (G : Fld) (a b : Nat), G.logged = false → (s.hostWrite ch (F.addr i 0) 4 w).g G a b = s.g G a b) ∧
      (ch = .mspi → v = .denied → (s.hostWrite ch (F.addr i 0) 4 w).mgmt.mspiDenied = true) := by
  obtain ⟨hd, ha⟩ := F.addr_decodes hi hl ho h4 (chIx ch)
  have hlog := State.Logs.recordRefusal s (chIx ch) 2 (F.addr i 0) v
  obtain ⟨he, ht⟩ := State.hostWrite_turnedAway hc hst hq (State.access_refused hs ha hd hw 2) hlog.1 hv
  refine ⟨ht, fun G a b hG => ?_, ?_⟩
  · rw [he, State.answered_g, hlog.2 G a b hG]
  · rintro rfl rfl
    rw [he]
    exact State.answered_mspiDenied _ _

theorem en_at : fieldsAt .lload 0x010 = [(HDR.EVT_EN.EN .lload, 0)] := by decide
theorem lock_at : (HDR.PAGE_CTRL.LOCK .lload, 0) ∈ fieldsAt .lload 0x004 := by decide
theorem nco_at : fieldsAt .lmon 0x044 = [(LMON.NCO.FREQ, 0)] := by decide

theorem State.en_value (s : State) (l : Nat) : s.value (HDR.EVT_EN.EN .lload) l 0 = s.g (HDR.EVT_EN.EN .lload) l := rfl
theorem State.lock_value (s : State) (l : Nat) :
    s.value (HDR.PAGE_CTRL.LOCK .lload) l 0 = s.g (HDR.PAGE_CTRL.LOCK .lload) l := rfl
theorem State.nco_value (s : State) (l : Nat) : s.value LMON.NCO.FREQ l 0 = s.chainNco l := rfl

/-- Without a session every word of a line's page is denied. -/
theorem State.en_write_no_session {s : State} {c l w : Nat} (hr : s.roleOf c = none) :
    s.writeWord { ch := c, page := .lload, inst := l, off := 0x010, w := w } = (.denied, s) :=
  State.writeWord_denied (State.denies_no_session hr (by simp) (by simp) _)

/-- OBSERVE may not write EVT_EN (R344). -/
theorem State.en_write_observe {s : State} {c l : Nat} {w : Word} (hr : s.roleOf c = some 0)
    (hv : s.g (HDR.EVT_EN.EN .lload) l ≠ w.toNat &&& condMask .lload) :
    s.writeWord { ch := c, page := .lload, inst := l, off := 0x010, w := w.toNat } = (.denied, s) := by
  refine State.writeWord_denied (State.denies_of_role (e := (HDR.EVT_EN.EN .lload, 0)) ?_ ?_)
  · refine State.mem_acted (by simp [en_at]) rfl rfl ?_
    rw [State.en_value]
    have hw : bits w.toNat 0 32 = w.toNat := by simp [bits, Nat.mod_eq_of_lt w.isLt]
    have hc : WordWrite.carried ⟨c, .lload, l, 0x010, w.toNat⟩ (HDR.EVT_EN.EN .lload) = w.toNat &&& condMask .lload := by
      simp only [WordWrite.carried, HDR.EVT_EN.EN, hw]
      rfl
    rw [hc]
    exact Ne.symm hv
  · simp [mayWrite, hr, maintainFields, HDR.EVT_EN.EN, HDR.PAGE_CTRL.LOCK, HDR.EVT_INJECT.INJECT]

theorem mayWrite_unlock {role : Option Nat} {r : Nat} (hr : role = some r) (h : r < 2) (own : Bool) (p : Page) :
    mayWrite role own (HDR.PAGE_CTRL.LOCK p) 0 = false := by
  subst hr
  have hp : (HDR.PAGE_CTRL.LOCK p).page = p := rfl
  simp [mayWrite, hp, Nat.not_le.2 h]

/-- Only MAINTAIN clears LOCK (R35, R343). -/
theorem State.lock_clear_operate {s : State} {c l : Nat} {w : Word} (hr : s.roleOf c = some 1)
    (hv : s.g (HDR.PAGE_CTRL.LOCK .lload) l = 1) (hw : w.toNat / 8 % 2 = 0) :
    s.writeWord { ch := c, page := .lload, inst := l, off := 0x004, w := w.toNat } = (.denied, s) := by
  have hc : WordWrite.carried ⟨c, .lload, l, 0x004, w.toNat⟩ (HDR.PAGE_CTRL.LOCK .lload) = 0 := by
    rw [WordWrite.carried_bits _ _ (by simp [HDR.PAGE_CTRL.LOCK])]
    simpa [bits, HDR.PAGE_CTRL.LOCK] using hw
  refine State.writeWord_denied (State.denies_of_role (e := (HDR.PAGE_CTRL.LOCK .lload, 0)) ?_ ?_)
  · refine State.mem_acted lock_at rfl rfl ?_
    rw [State.lock_value, hv, hc]
    decide
  · have : WordWrite.val ⟨c, .lload, l, 0x004, w.toNat⟩ (HDR.PAGE_CTRL.LOCK .lload) = 0 := by
      rw [WordWrite.val, hc]
      decide
    rw [this]
    exact mayWrite_unlock hr (by decide) _ _

/-- A locked monitor page keeps its oscillator's frequency (R35). -/
theorem State.nco_write_locked {s : State} {c l : Nat} {w : Word} (ho : (s.monX l).owner = 0)
    (hk : s.g (HDR.PAGE_CTRL.LOCK .lmon) l = 1) (hv : s.g LMON.NCO.FREQ l ≠ w.toNat) :
    ∃ v, v ≠ .ok ∧ s.writeWord { ch := c, page := .lmon, inst := l, off := 0x044, w := w.toNat } = (v, s) := by
  refine State.writeWord_refused (by simp) (by simp) (by simp) ?_
  have hw : bits w.toNat 0 32 = w.toNat := by simp [bits, Nat.mod_eq_of_lt w.isLt]
  have hc : WordWrite.carried ⟨c, .lmon, l, 0x044, w.toNat⟩ LMON.NCO.FREQ = w.toNat := by
    rw [WordWrite.carried_bits _ _ (by simp [LMON.NCO.FREQ])]
    simpa [LMON.NCO.FREQ] using hw
  have hm : (LMON.NCO.FREQ, 0) ∈ s.acted ⟨c, .lmon, l, 0x044, w.toNat⟩ := by
    refine State.mem_acted (by simp [nco_at]) rfl rfl ?_
    rw [State.nco_value, State.chainNco, if_pos ho, hc]
    exact Ne.symm hv
  have hl : s.lockRefuses ⟨c, .lmon, l, 0x044, w.toNat⟩ (s.acted ⟨c, .lmon, l, 0x044, w.toNat⟩) = true := by
    refine Bool.and_eq_true_iff.2 ⟨by simp [hk], List.any_eq_true.2 ⟨_, hm, by simp [LMON.NCO.FREQ]⟩⟩
  simp [State.refuses, hl]

/-! ### In-band requests -/

theorem State.respond_g (s : State) (r : InbandReq) (status : Nat) (data : List Nat) (G : Fld) (a b : Nat) :
    (s.respond r status data).g G a b = s.g G a b := rfl

theorem State.respond_ibAnswers (s : State) (r : InbandReq) (status : Nat) (data : List Nat) :
    (s.respond r status data).mgmt.ibAnswers =
      s.mgmt.ibAnswers ++ [{ lane := r.lane, tag := r.tag, status := status, data := data }] := rfl

/-- A request of one word that finds the queue empty is answered with what its access comes to. -/
theorem State.askInband_write {s : State} (hs : s.Arrives 1) (hq : s.mgmt.ibQueue = []) {lane tag addr w d : Nat}
    (hl : s.inbandLanes.contains lane = true) {v : Verdict} {u : State}
    (ha : s.access 1 addr 4 2 (some w) = ⟨v, d, u⟩) (hv : v ≠ .ok) :
    s.askInband { lane := lane, tag := tag, write := true, addr := addr, count := 1, data := [w], missing := false } =
      u.respond { lane := lane, tag := tag, write := true, addr := addr, count := 1, data := [w], missing := false }
        (mrspStatus v) [] := by
  rw [State.askInband_one s _ hs.served hs.unlocked hq hl]
  have hb : s.burst 1 4 2 [(addr, some w)] = ([v], [d], u) := by simp only [State.burst, ha]
  have hf : firstBad [v] = v := by simp [firstBad, hv]
  unfold State.serveInband
  simp only [Bool.false_eq_true, if_false, InbandReq.words, List.range_one, List.map_cons, List.map_nil, Nat.mul_zero,
    Nat.add_zero, List.getD_cons_zero, if_true, Nat.lt_irrefl, decide_false, accessCode, hb, hf]

/-! ### The obligation -/

theorem State.runsTo_registerWrite {s : State} {ch : Channel} {addr width : Nat} {w : Word} {P : State → Prop} :
    s.runsTo (.registerWrite ch addr width w) P ↔ P (s.hostWrite ch addr width w.toNat) :=
  ⟨fun ⟨_, h, hP⟩ => by cases h; exact hP, fun h => ⟨_, rfl, h⟩⟩

theorem State.runsTo_counterLoRead {s : State} {ch : Channel} {addr : Nat} {P : State → Prop} :
    s.runsTo (.counterLoRead ch addr) P ↔ P (s.hostRead ch addr) :=
  ⟨fun ⟨_, h, hP⟩ => by cases h; exact hP, fun h => ⟨_, rfl, h⟩⟩

theorem State.runsTo_pageLockWrite {s : State} {ch : Channel} {p : Page} {i : Nat} {w : Word} {P : State → Prop}
    (hi : i < p.count) (h : P (s.writeAt ch (HDR.PAGE_CTRL.LOCK p) i 0 w.toNat)) : s.runsTo (.pageLockWrite ch p i w) P :=
  ⟨_, if_pos hi, h⟩

theorem State.runsTo_monitorNcoWrite {s : State} {ch : Channel} {l : Nat} {w : Word} {P : State → Prop} (hl : l < 128)
    (h : P (s.writeAt ch LMON.NCO.FREQ l 0 w.toNat)) : s.runsTo (.monitorNcoWrite ch l w) P := by
  refine ⟨_, ?_, h⟩
  change execMonitorNcoWrite ch l w s = _
  simp [execMonitorNcoWrite, withLine, onLine, onPart, hl]

/-- Settles O57: each refused access comes back from `State.access` with its verdict and at most a record. -/
theorem refusedAccesses : Obligations.RefusedAccesses := by
  unfold Obligations.RefusedAccesses
  simp only [State.runsTo_registerWrite, State.runsTo_counterLoRead]
  intro s ch w hst hq hsv
  have hlog (code addr : Nat) (v : Verdict) := State.Logs.recordRefusal s (chIx ch) code addr v
  refine ⟨fun hc hf => ⟨fun addr width ha => ?_, fun addr ho => ?_, fun addr hl => ?_, fun hl hr => ?_⟩,
    fun hc hf addr => ?_, fun lane tag l hlane hf hl hr hs1 hi hro => ?_⟩
  · by_cases hl : s.lockedFor (chIx ch) = true
    · exact (State.hostWrite_turnedAway hc hst hq (State.access_locked hf hsv hl _ _ _ _) (hlog _ _ _).1 (by decide)).2
    · exact (State.hostWrite_turnedAway hc hst hq (State.access_unaligned hf hsv (by simpa using hl) ha _ _)
        (hlog _ _ _).1 (by decide)).2
  · have key (code : Nat) (v : Option Nat) : ∃ e, e ≠ .ok ∧ s.access (chIx ch) addr 4 code v =
        ⟨e, 0, s.recordRefusal (chIx ch) code addr e⟩ := by
      by_cases hl : s.lockedFor (chIx ch) = true
      · exact ⟨.locked, by decide, State.access_locked hf hsv hl _ _ _ _⟩
      · refine ⟨.error, by decide, ?_⟩
        by_cases h4 : addr % 4 = 0
        · rw [State.access_word hf hsv (by simpa using hl) h4]
          simp [State.accessPage, decodeAddr_none (chIx_lt ch) ho]
        · exact State.access_unaligned hf hsv (by simpa using hl) (.inr h4) _ _
    obtain ⟨e1, he1, h1⟩ := key 2 (some w.toNat)
    obtain ⟨e2, he2, h2⟩ := key 1 none
    exact ⟨(State.hostWrite_turnedAway hc hst hq h1 (hlog _ _ _).1 he1).2,
      (State.hostRead_turnedAway hc hst h2 (hlog _ _ _).1 he2).2⟩
  · obtain ⟨he, ht⟩ := State.hostWrite_turnedAway hc hst hq (State.access_locked hf hsv hl addr 4 2 (some w.toNat))
      (hlog _ _ _).1 (by decide)
    refine ⟨ht, ?_⟩
    rintro rfl
    rw [he]
    exact State.answered_mdioLocked _ _
  · have hs : s.Arrives (chIx ch) := ⟨hf, hsv, hl, hr⟩
    refine ⟨fun l hi hro => ⟨?_, ?_⟩, fun l hi hro hv => ?_, fun l hi hro hk hw => ?_, fun l hi ho hk hv => ?_⟩
    · obtain ⟨ht, hg, hd⟩ := State.writeAt_turnedAway (F := HDR.EVT_EN.EN .lload) hc hst hq hs hi (by decide) (by decide)
        (by decide) (State.en_write_no_session (w := w.toNat) hro) (by decide)
      exact ⟨ht, hg _ _ _ rfl, fun e => hd e rfl⟩
    · obtain ⟨hd, h4⟩ := (HDR.EVT_EN.EN .lload).addr_decodes hi (by decide) (by decide) (by decide) (chIx ch)
      have hm : s.mayRead (chIx ch) .lload l = false := by simp [State.mayRead, ownPage, hro]
      obtain ⟨he, ht, hd⟩ := State.hostRead_turnedAway hc hst (State.access_read_denied hs h4 hd hm 1)
        (hlog _ _ _).1 (by decide)
      refine ⟨ht, hd, ?_⟩
      rintro rfl
      rw [he]
      exact State.answered_mspiDenied _ _
    · obtain ⟨ht, hg, hd⟩ := State.writeAt_turnedAway (F := HDR.EVT_EN.EN .lload) hc hst hq hs hi (by decide) (by decide)
        (by decide) (State.en_write_observe hro hv) (by decide)
      exact ⟨ht, hg _ _ _ rfl, fun e => hd e rfl⟩
    · obtain ⟨ht, hg, -⟩ := State.writeAt_turnedAway (F := HDR.PAGE_CTRL.LOCK .lload) hc hst hq hs hi (by decide)
        (by decide) (by decide) (State.lock_clear_operate hro hk hw) (by decide)
      exact State.runsTo_pageLockWrite hi ⟨ht, (hg _ _ _ rfl).trans hk⟩
    · obtain ⟨v, hne, hw⟩ := State.nco_write_locked (c := chIx ch) ho hk hv
      obtain ⟨ht, hg, -⟩ := State.writeAt_turnedAway (F := LMON.NCO.FREQ) hc hst hq hs hi (by decide) (by decide)
        (by decide) hw hne
      exact State.runsTo_monitorNcoWrite hi ⟨ht, hg _ _ _ rfl⟩
  · obtain ⟨he, ht⟩ := State.hostWrite_turnedAway hc hst hq (State.access_fenced hf addr 4 2 (some w.toNat)) rfl (by decide)
    refine ⟨ht, ?_, fun G a b hG => ?_⟩
    · rw [he, State.answered_g, State.bump, State.g_wr_self]
      exact Nat.mod_eq_of_lt (lt_of_le_of_lt (Nat.min_le_right _ _) (by decide))
    · rw [he, State.answered_g]
      exact State.wr_onlyReg s _ _ _ _ G a b hG
  · have hs : s.Arrives 1 := ⟨hf, hs1, hl, hr⟩
    obtain ⟨hd, h4⟩ := (HDR.EVT_EN.EN .lload).addr_decodes hi (by decide) (by decide) (by decide) 1
    have ha := State.access_refused hs h4 hd (State.en_write_no_session (w := w.toNat) hro) 2
    have hlog1 := State.Logs.recordRefusal s 1 2 ((HDR.EVT_EN.EN .lload).addr l 0) .denied
    obtain ⟨hln, hsg, -, -, -, -, -, -, hm⟩ := State.parts_of_core hlog1.1
    obtain ⟨-, -, -, -, hans⟩ := Mgmt.parts_of_still hm
    refine ⟨_, congrArg Host.Outcome.next (State.askInband_write hs hq hlane ha (by decide)), ?_, hsg, ?_, hln⟩
    · rw [State.respond_ibAnswers, hans]
      rfl
    · rw [State.respond_g, hlog1.2 _ _ _ rfl]

end Sys2Proof.Machine
end

section
/-! What an accepted word stores and which of its fields it acts on, for the words of a page's header (R12, R35, R384). -/

namespace Sys2Proof.Machine

/-! ### The fields of a word -/

/-- A field of one word stands at its offset alone. -/
theorem off_of_mem_fieldsAt {p : Page} {off j : Nat} {F : Fld} (hc : F.cnt = 1) (h : (F, j) ∈ fieldsAt p off) :
    F.off = off := by
  unfold fieldsAt at h
  obtain ⟨G, -, hG⟩ := List.mem_filterMap.1 h
  split at hG
  case isTrue hif =>
    obtain ⟨rfl, rfl⟩ : G = F ∧ (off - G.off) / G.stride = j := by simpa using hG
    obtain ⟨hle, hmod, hlt⟩ := hif
    rw [hc, Nat.lt_one_iff] at hlt
    have := Nat.div_add_mod (off - G.off) G.stride
    rw [hlt, hmod] at this
    omega
  case isFalse => cases hG

/-- A field of one word is not acted on by a word at another offset. -/
theorem hits_false_of_off (s : State) (x : WordWrite) {F : Fld} (hc : F.cnt = 1) (h : F.off ≠ x.off) :
    hits (s.acted x) F = false :=
  hits_false s x F fun _ hj => h (off_of_mem_fieldsAt hc (List.mem_filter.1 hj).1)

/-- A trigger of a word is acted on where its bits are not 0. -/
theorem hits_trigger (s : State) (x : WordWrite) {F : Fld} (hF : F.acc = .w1p) (hm : (F, 0) ∈ x.fields)
    (ho : F.off ≠ 0x010 ∧ F.off ≠ 0x014 ∧ F.off ≠ 0x018) : hits (s.acted x) F = decide (bits x.w F.lo F.w ≠ 0) := by
  have hc : x.carried F = bits x.w F.lo F.w := WordWrite.carried_bits _ _ ho
  by_cases h : bits x.w F.lo F.w = 0
  · simp [h, hits_w1p_zero s _ F hF (hc.trans h)]
  · rw [hits_w1p s _ F 0 hF hm (by rwa [hc])]
    simp [h]

/-! ### Storing a field -/

theorem State.storeField_w1p (s : State) (x : WordWrite) {e : Fld × Nat} (h : e.1.acc = .w1p) : s.storeField x e = s := by
  simp [State.storeField, h]

/-- A field of the header takes its bits as they are: no clamp and no other owner holds it back. -/
theorem State.storeField_header (s : State) (x : WordWrite) {F : Fld} (j : Nat) (h : F.acc = .rw) (ho : F.off < 0x040) :
    s.storeField x (F, j) = s.wr F (x.carried F) x.inst j := by
  have hne (G : Fld) (hG : 0x040 ≤ G.off) : F ≠ G := by
    rintro rfl
    omega
  have hv : x.val F = x.carried F := by
    unfold WordWrite.val clampedField
    repeat rw [if_neg (hne _ (by decide))]
  simp [State.storeField, h, hv, hne LMON.CHAIN.PRESET (by decide), hne LMON.NCO.FREQ (by decide),
    hne BOOT.CTRL.PREFER (by decide)]

/-! ### ENV_CTRL (R35, R37) -/

theorem fieldsAt_envCtrl (p : Page) : fieldsAt p 0x020 =
    [(HDR.ENV_CTRL.DISCARD p, 0), (HDR.ENV_CTRL.POST p, 0), (HDR.ENV_CTRL.PEEK p, 0), (HDR.ENV_CTRL.MAILRUN p, 0),
     (HDR.ENV_CTRL.SEALED p, 0), (HDR.ENV_CTRL.MOMENT p, 0)] := by
  cases p <;> decide +kernel

/-- The word of ENV_CTRL of a page. -/
def envCtrlWord (ch : Channel) (p : Page) (i w : Nat) : WordWrite := { ch := chIx ch, page := p, inst := i, off := 0x020, w := w }

theorem fields_envCtrl (ch : Channel) {p : Page} (hp : hasEnvelope p = true) (i w : Nat) :
    (envCtrlWord ch p i w).fields = fieldsAt p 0x020 := by
  refine List.filter_eq_self.2 fun e he => ?_
  change e ∈ fieldsAt p 0x020 at he
  have hF : e.1.off = 0x020 ∧ e.1.page = p := by
    rw [fieldsAt_envCtrl] at he
    simp only [List.mem_cons, List.not_mem_nil, or_false] at he
    rcases he with rfl | rfl | rfl | rfl | rfl | rfl <;> exact ⟨rfl, rfl⟩
  obtain ⟨ho, hpage⟩ := hF
  unfold fieldThere
  rw [if_neg, if_pos (.inl ho), hpage, hp]
  intro h
  rw [h] at ho
  cases ho

/-- What a word of ENV_CTRL leaves in the register store: PEEK, MAILRUN, SEALED and MOMENT. -/
def State.envStored (s : State) (p : Page) (i w : Nat) : State :=
  (((s.wr (HDR.ENV_CTRL.PEEK p) (bits w 4 1) i).wr (HDR.ENV_CTRL.MAILRUN p) (bits w 3 1) i).wr
    (HDR.ENV_CTRL.SEALED p) (bits w 2 1) i).wr (HDR.ENV_CTRL.MOMENT p) (bits w 0 2) i

theorem State.storeWord_envCtrl (s : State) (ch : Channel) {p : Page} (hp : hasEnvelope p = true) (i w : Nat) :
    s.storeWord (envCtrlWord ch p i w) = s.envStored p i w := by
  have hw (u : State) (F : Fld) (h : F.acc = .rw) (ho : F.off = 0x020) :
      u.storeField (envCtrlWord ch p i w) (F, 0) = u.wr F (bits w F.lo F.w) i := by
    rw [State.storeField_header _ _ _ h (by omega), WordWrite.carried_bits _ _ (by omega)]
    rfl
  unfold State.storeWord
  rw [fields_envCtrl ch hp, fieldsAt_envCtrl]
  simp only [List.foldl_cons, List.foldl_nil]
  rw [State.storeField_w1p _ _ (e := (HDR.ENV_CTRL.DISCARD p, 0)) rfl,
    State.storeField_w1p _ _ (e := (HDR.ENV_CTRL.POST p, 0)) rfl]
  repeat rw [hw _ _ rfl rfl]
  rfl

section
variable (s : State) (p : Page) (i w : Nat)

theorem State.envStored_sealed : (s.envStored p i w).g (HDR.ENV_CTRL.SEALED p) i = bits w 2 1 := by
  unfold State.envStored
  rw [State.g_wr_of_id, State.g_wr_self, bits]
  · exact Nat.mod_mod _ _
  · simp only [HDR.ENV_CTRL.SEALED, HDR.ENV_CTRL.MOMENT]
    omega

theorem State.envStored_mailrun : (s.envStored p i w).g (HDR.ENV_CTRL.MAILRUN p) i = bits w 3 1 := by
  unfold State.envStored
  rw [State.g_wr_of_id, State.g_wr_of_id, State.g_wr_self, bits]
  · exact Nat.mod_mod _ _
  all_goals simp only [HDR.ENV_CTRL.SEALED, HDR.ENV_CTRL.MOMENT, HDR.ENV_CTRL.MAILRUN]; omega

theorem State.envStored_moment : (s.envStored p i w).g (HDR.ENV_CTRL.MOMENT p) i = bits w 0 2 := by
  unfold State.envStored
  rw [State.g_wr_self, bits]
  exact Nat.mod_mod _ _

end

/-- Which actions an accepted word of ENV_CTRL takes: DISCARD, then POST (R35; log 49). -/
theorem State.applyWord_envCtrl (s : State) (ch : Channel) {p : Page} (hp : hasEnvelope p = true) (i w : Nat) :
    s.applyWord (envCtrlWord ch p i w) =
      (let t := if hits (s.acted (envCtrlWord ch p i w)) (HDR.ENV_CTRL.DISCARD p) then (s.envStored p i w).discardPost p i
        else s.envStored p i w
       if hits (s.acted (envCtrlWord ch p i w)) (HDR.ENV_CTRL.POST p) then t.post p i else t) := by
  have hno (F : Fld) (hc : F.cnt = 1) (ho : F.off ≠ 0x020) : hits (s.acted (envCtrlWord ch p i w)) F = false :=
    hits_false_of_off s _ hc ho
  unfold State.applyWord
  dsimp only
  rw [if_pos (show (envCtrlWord ch p i w).off < 0x040 by simp [envCtrlWord]), State.storeWord_envCtrl s ch hp]
  unfold State.headerEffects
  have hpage : (envCtrlWord ch p i w).page = p := rfl
  simp only [hpage, hno (HDR.PAGE_CTRL.FREEZE p) rfl (by simp [HDR.PAGE_CTRL.FREEZE]),
    hno (HDR.PAGE_CTRL.ENABLE p) rfl (by simp [HDR.PAGE_CTRL.ENABLE]),
    hno (HDR.PAGE_CTRL.SOFT_RESET p) rfl (by simp [HDR.PAGE_CTRL.SOFT_RESET]),
    hno (HDR.EVT_EN.EN p) rfl (by simp [HDR.EVT_EN.EN]), hno (HDR.EVT_PEND.PEND p) rfl (by simp [HDR.EVT_PEND.PEND]),
    hno (HDR.EVT_INJECT.INJECT p) rfl (by simp [HDR.EVT_INJECT.INJECT]),
    hno (HDR.EVT_COUNT.CLR p) rfl (by simp [HDR.EVT_COUNT.CLR]), Bool.or_self, Bool.false_eq_true, if_false]
  rfl

theorem hits_envCtrl (s : State) (ch : Channel) {p : Page} (hp : hasEnvelope p = true) (i w : Nat) {F : Fld}
    (hF : F.acc = .w1p) (ho : F.off = 0x020) (hm : (F, 0) ∈ fieldsAt p 0x020) :
    hits (s.acted (envCtrlWord ch p i w)) F = decide (bits w F.lo F.w ≠ 0) :=
  hits_trigger s _ hF (by rw [fields_envCtrl ch hp]; exact hm) (by omega)

end Sys2Proof.Machine
end

section
/-! Posts, mail runs and the bus lock as a channel writes them (R12, R37, R38, R40, R43, R55). -/

namespace Sys2Proof.Machine

/-! ### Staging -/

theorem State.stagedAt_stage (s : State) (F : Fld) (i j v : Nat) : (s.stage F i j v).stagedAt F i j = some (v % 2 ^ F.w) :=
  Store.find_put_self s.staged (F.key i j) (some (v % 2 ^ F.w))

theorem pageCode_lt (p : Page) : p.code < 40 := by cases p <;> decide

/-- A register of a page's header is no field of a page's block. -/
theorem header_id_ne (p : Page) {k : Nat} (hk : k < 32) {G : Fld} (hG : G.id < 768) :
    G.id % 2048 ≠ (768 + p.code * 32 + k) % 2048 := by
  have := pageCode_lt p
  omega

/-- The words of ENV_CTRL move no field of a page's block. -/
theorem State.envStored_g (s : State) (p : Page) (i w : Nat) {G : Fld} (hG : G.id < 768) (a b : Nat) :
    (s.envStored p i w).g G a b = s.g G a b := by
  unfold State.envStored
  rw [State.g_wr_of_id (header_id_ne p (k := 21) (by omega) hG), State.g_wr_of_id (header_id_ne p (k := 20) (by omega) hG),
    State.g_wr_of_id (header_id_ne p (k := 19) (by omega) hG), State.g_wr_of_id (header_id_ne p (k := 18) (by omega) hG)]

theorem State.envStored_rangeWaits (s : State) (p : Page) (i w l : Nat) :
    (s.envStored p i w).rangeWaits l = s.rangeWaits l := by
  have hm : (s.envStored p i w).g LCTL.MODE.SEL l = s.g LCTL.MODE.SEL l := s.envStored_g p i w (by decide) l 0
  have hr : (s.envStored p i w).g LAFE.CTRL.RANGE l = s.g LAFE.CTRL.RANGE l := s.envStored_g p i w (by decide) l 0
  unfold State.rangeWaits State.isV State.isVHead State.isVTail State.mode State.after
  rw [hm, hr]
  rfl

/-! ### POST (R37, R38) -/

/-- The post of a page that POST arms. -/
def armedPost (p : Page) (i moment : Nat) (sealedPost member : Bool) : Post :=
  { page := p, inst := i, moment := moment, target := none, sealedPost := sealedPost, member := member, phase := .armed }

/-- A member waits for its run. -/
theorem State.post_member {s : State} {p : Page} {i : Nat} (h1 : s.g (HDR.ENV_CTRL.SEALED p) i = 0)
    (h2 : s.g (HDR.ENV_CTRL.MAILRUN p) i = 1) :
    s.post p i = { s with posts := s.posts ++
      [armedPost p i (s.g (HDR.ENV_CTRL.MOMENT p) i) (decide (p = .lafe) && s.rangeWaits i) true] } := by
  unfold State.post
  simp [h1, h2, armedPost]

theorem State.post_unsealable {s : State} {p : Page} {i : Nat} (h1 : s.g (HDR.ENV_CTRL.SEALED p) i = 1)
    (h2 : sealable p = false) : s.post p i = s.setResult p i resConflict := by
  unfold State.post
  simp [h1, h2]

theorem State.sealedOf_single {s : State} {p : Page} {i : Nat} {x : Post} (hx : s.postOf p i = some x)
    (hs : x.sealedPost = false) : s.sealedOf [(p, i)] = [] := by
  simp [State.sealedOf, hx, hs]

theorem State.decidePlain_nil (s : State) : s.decidePlain [] = s := by
  unfold State.decidePlain
  simp

/-- One unsealed post, without a target, is armed for the next boundary and proposes nothing. -/
theorem State.startSet_single {s : State} {p : Page} {i moment : Nat} {x : Post} (run : Bool)
    (hx : s.postOf p i = some x) (hs : x.sealedPost = false) (hm : moment ≠ 2) :
    s.startSet [(p, i)] run moment none =
      (let t := s.setPhase p i .armed none
       if run then { t with run := t.run.map fun r => { r with target := none, begun := false } } else t) := by
  have hlong : s.sealedTooLong [(p, i)] = false := by
    simp [State.sealedTooLong, State.sealedOf_single hx hs]
  unfold State.startSet
  simp [State.sealedOf_single hx hs, hlong, State.decidePlain_nil, hm]

/-- A post of its own with the moment IMMEDIATE is armed at once. -/
theorem State.post_alone {s : State} {p : Page} {i : Nat} (h1 : s.g (HDR.ENV_CTRL.SEALED p) i = 0)
    (h2 : s.g (HDR.ENV_CTRL.MAILRUN p) i = 0) (h3 : s.g (HDR.ENV_CTRL.MOMENT p) i = 0) (hn : s.postOf p i = none)
    (hr : p = .lafe → s.rangeWaits i = false) :
    s.post p i = { s with posts := s.posts ++ [armedPost p i 0 false false] } := by
  have hsealed : (decide (p = .lafe) && s.rangeWaits i) = false := by
    by_cases hp : p = .lafe <;> simp [hp, hr]
  have hx : ({ s with posts := s.posts ++ [armedPost p i 0 false false] } : State).postOf p i =
      some (armedPost p i 0 false false) := by
    unfold State.postOf at hn ⊢
    rw [List.find?_append, hn]
    simp [armedPost]
  have hkeep : (s.posts ++ [armedPost p i 0 false false]).map (fun x => if (decide (x.page = p) && x.inst == i) = true then
      { x with phase := .armed, target := none } else x) = s.posts ++ [armedPost p i 0 false false] := by
    unfold State.postOf at hn
    rw [List.map_append]
    congr 1
    · refine (List.map_congr_left fun x hx => ?_).trans (List.map_id _)
      rw [if_neg]
      · rfl
      · exact List.find?_eq_none.1 hn x hx
    · simp [armedPost]
  have hstart := State.startSet_single (moment := 0) false hx rfl (by decide)
  unfold State.post
  simp only [h1, h2, h3, hsealed]
  refine hstart.trans ?_
  exact congrArg (fun q => ({ s with posts := q } : State)) hkeep

/-! ### The ends of posts -/

/-- A register write shows on every field of its key with the same reset value. -/
theorem State.g_wr_of_reset {F G : Fld} {j b : Nat} (h : G.reset b = F.reset j) (s : State) (v i a : Nat) :
    (s.wr F v i j).g G a b = if G.key a b = F.key i j then v % 2 ^ F.w else s.g G a b := by
  unfold State.g State.wr
  rw [h]
  exact Store.get_set _ _ _ _ _

theorem result_id_ne (p q : Page) : (HDR.ENV_STAT.RESULT q).id % 2048 ≠ (HDR.ENV_STAT.STEPS p).id % 2048 ∧
    (HDR.ENV_STAT.RESULT q).id % 2048 ≠ (HDR.ENV_STAT.SPLIT p).id % 2048 := by
  simp only [HDR.ENV_STAT.RESULT, HDR.ENV_STAT.STEPS, HDR.ENV_STAT.SPLIT]
  omega

theorem result_reset (p q : Page) : (HDR.ENV_STAT.RESULT q).reset 0 = (HDR.ENV_STAT.RESULT p).reset 0 := by
  simp [Fld.reset, HDR.ENV_STAT.RESULT]

/-- A result that is no success shows on its page; that of another page stays. -/
theorem State.setResult_result (s : State) (p q : Page) (i k : Nat) {r : Nat} (hr : r ≠ resPosted) :
    (s.setResult p i r).g (HDR.ENV_STAT.RESULT q) k =
      if (HDR.ENV_STAT.RESULT q).key k 0 = (HDR.ENV_STAT.RESULT p).key i 0 then r % 16
      else s.g (HDR.ENV_STAT.RESULT q) k := by
  obtain ⟨h1, h2⟩ := result_id_ne p q
  unfold State.setResult
  dsimp only
  rw [if_neg hr, State.g_wr_of_id h2, State.g_wr_of_id h1, State.g_wr_of_reset (result_reset p q)]
  rfl

theorem State.setResult_posts (s : State) (p : Page) (i r : Nat) : (s.setResult p i r).posts = s.posts := by
  unfold State.setResult
  dsimp only
  split <;> rfl

theorem State.setResult_staged (s : State) (p : Page) (i r : Nat) : (s.setResult p i r).staged = s.staged := by
  unfold State.setResult
  dsimp only
  split <;> rfl

theorem State.setResult_run (s : State) (p : Page) (i r : Nat) : (s.setResult p i r).run = s.run := by
  unfold State.setResult
  dsimp only
  split <;> rfl

theorem State.finishPost_staged (s : State) (p : Page) (i r : Nat) : (s.finishPost p i r).staged = s.staged :=
  State.setResult_staged _ _ _ _

theorem State.finishPost_run (s : State) (p : Page) (i r : Nat) : (s.finishPost p i r).run = s.run :=
  State.setResult_run _ _ _ _

/-- The page's post is gone, and the page shows DISCARDED. -/
def State.Discarded (s : State) (p : Page) (i : Nat) : Prop :=
  s.postOf p i = none ∧ s.g (HDR.ENV_STAT.RESULT p) i = resDiscarded

theorem State.finishPost_discarded (s : State) (p : Page) (i : Nat) : (s.finishPost p i resDiscarded).Discarded p i := by
  constructor
  · unfold State.postOf State.finishPost
    rw [State.setResult_posts, List.find?_eq_none]
    intro x hx
    have := (List.mem_filter.1 hx).2
    simpa [imp_iff_not_or] using this
  · unfold State.finishPost
    rw [State.setResult_result _ _ _ _ _ (by decide), if_pos rfl]
    rfl

/-- What ends another post leaves a discarded one discarded. -/
theorem State.Discarded.finishPost {s : State} {p : Page} {i : Nat} (h : s.Discarded p i) (q : Page) (k : Nat) :
    (s.finishPost q k resDiscarded).Discarded p i := by
  obtain ⟨hp, hr⟩ := h
  constructor
  · unfold State.postOf State.finishPost at *
    rw [State.setResult_posts, List.find?_eq_none] at *
    exact fun x hx => hp x (List.mem_filter.1 hx).1
  · unfold State.finishPost
    rw [State.setResult_result _ _ _ _ _ (by decide)]
    split
    · rfl
    · exact hr

/-- The members of a list of posts end with DISCARDED. -/
theorem dismissFold_discarded {p : Page} {i : Nat} (l : List Post) (s : State)
    (h : (∃ x ∈ l, x.member = true ∧ x.page = p ∧ x.inst = i) ∨ s.Discarded p i) :
    (l.foldl (fun s x => if x.member then s.finishPost x.page x.inst resDiscarded else s) s).Discarded p i := by
  induction l generalizing s with
  | nil => simpa using h
  | cons y l ih =>
    refine ih _ ?_
    rcases h with ⟨x, hx, hm, rfl, rfl⟩ | h
    · rcases List.mem_cons.1 hx with rfl | hx
      · right
        dsimp only
        rw [if_pos hm]
        exact State.finishPost_discarded _ _ _
      · exact .inl ⟨x, hx, hm, rfl, rfl⟩
    · right
      dsimp only
      split
      · exact h.finishPost _ _
      · exact h

/-- A fold of ends of posts keeps what each end keeps. -/
theorem State.foldl_same {α β : Type} {g : State → α} {f : State → β → State} (h : ∀ s b, g (f s b) = g s) (l : List β)
    (s : State) : g (l.foldl f s) = g s := by
  induction l generalizing s with
  | nil => rfl
  | cons b l ih => exact (ih _).trans (h s b)

theorem State.dismissMembers_staged (s : State) (r : Nat) : (s.dismissMembers r).staged = s.staged :=
  State.foldl_same (g := State.staged) (fun s x => by split <;> simp [State.finishPost_staged]) _ _

theorem State.dismissMembers_run (s : State) (r : Nat) : (s.dismissMembers r).run = s.run :=
  State.foldl_same (g := State.run) (fun s x => by split <;> simp [State.finishPost_run]) _ _

theorem State.landLocks_g (s : State) (locks : List (Page × Nat × Nat)) {G : Fld}
    (hG : ∀ p, G.id % 2048 ≠ (HDR.PAGE_CTRL.LOCK p).id % 2048) (a b : Nat) : (s.landLocks locks).g G a b = s.g G a b := by
  unfold State.landLocks
  refine State.foldl_same (g := fun s => s.g G a b) ?_ _ _
  exact fun _ e => State.g_wr_of_id (hG e.1) _ _ _ _ _ _

theorem State.landLocks_posts (s : State) (locks : List (Page × Nat × Nat)) : (s.landLocks locks).posts = s.posts := by
  unfold State.landLocks
  refine State.foldl_same (g := State.posts) ?_ _ _
  exact fun _ _ => rfl

theorem State.landLocks_staged (s : State) (locks : List (Page × Nat × Nat)) : (s.landLocks locks).staged = s.staged := by
  unfold State.landLocks
  refine State.foldl_same (g := State.staged) ?_ _ _
  exact fun _ _ => rfl

theorem State.landLocks_run (s : State) (locks : List (Page × Nat × Nat)) : (s.landLocks locks).run = s.run := by
  unfold State.landLocks
  refine State.foldl_same (g := State.run) ?_ _ _
  exact fun _ _ => rfl

theorem lock_id_ne (p q : Page) : (HDR.ENV_STAT.RESULT q).id % 2048 ≠ (HDR.PAGE_CTRL.LOCK p).id % 2048 := by
  simp only [HDR.ENV_STAT.RESULT, HDR.PAGE_CTRL.LOCK]
  omega

theorem devenv_lock_id_ne {G : Fld} (hG : G.id < 768) (p : Page) : G.id % 2048 ≠ (HDR.PAGE_CTRL.LOCK p).id % 2048 :=
  header_id_ne p (k := 3) (by omega) hG

/-- The run is over. -/
theorem State.endRun_run (s : State) (r : Nat) : (s.endRun r).run = none := State.landLocks_run _ _

theorem State.endRun_staged (s : State) (r : Nat) : (s.endRun r).staged = s.staged := State.landLocks_staged _ _

theorem State.endRun_posts (s : State) (r : Nat) : (s.endRun r).posts = s.posts := State.landLocks_posts _ _

theorem State.endRun_result (s : State) (r : Nat) : (s.endRun r).g DEVENV.RUN_STAT.RESULT = r % 16 := by
  unfold State.endRun
  rw [State.landLocks_g _ _ (devenv_lock_id_ne (by decide))]
  exact State.g_wr_self _ _ _ _ _

/-- The run's other registers, and the pages' results, are no business of the run's end. -/
theorem State.endRun_g (s : State) (r : Nat) {G : Fld} (h1 : ∀ p, G.id % 2048 ≠ (HDR.PAGE_CTRL.LOCK p).id % 2048)
    (h2 : G.id % 2048 ≠ DEVENV.RUN_STAT.RESULT.id % 2048) (a b : Nat) : (s.endRun r).g G a b = s.g G a b := by
  unfold State.endRun
  rw [State.landLocks_g _ _ h1]
  exact State.g_wr_of_id h2 _ _ _ _ _ _

theorem State.Discarded.endRun {s : State} {p : Page} {i : Nat} (h : s.Discarded p i) (r : Nat) :
    (s.endRun r).Discarded p i := by
  obtain ⟨hp, hr⟩ := h
  constructor
  · unfold State.postOf at *
    rwa [State.endRun_posts]
  · rw [State.endRun_g s r (fun q => lock_id_ne q p) ?_ i 0, hr]
    simp only [HDR.ENV_STAT.RESULT, DEVENV.RUN_STAT.RESULT]
    have := pageCode_lt p
    omega

/-- CANCEL before the run has begun: its members end with DISCARDED and keep their content. -/
theorem State.cancelRun_unbegun {s : State} (h : ∀ r, s.run = some r → r.begun = false) :
    s.cancelRun.run = none ∧ s.cancelRun.staged = s.staged ∧
      ∀ x ∈ s.posts, x.member = true → s.cancelRun.Discarded x.page x.inst := by
  have hd (x : Post) (hx : x ∈ s.posts) (hm : x.member = true) :
      (s.dismissMembers resDiscarded).Discarded x.page x.inst :=
    dismissFold_discarded _ _ (.inl ⟨x, hx, hm, rfl, rfl⟩)
  unfold State.cancelRun
  cases hr : s.run with
  | none =>
    dsimp only
    exact ⟨(State.dismissMembers_run _ _).trans hr, State.dismissMembers_staged _ _, hd⟩
  | some r =>
    simp only [h r hr, Bool.false_eq_true, if_false]
    exact ⟨State.endRun_run _ _, (State.endRun_staged _ _).trans (State.dismissMembers_staged _ _),
      fun x hx hm => (hd x hx hm).endRun _⟩

/-! ### DISCARD (R35, R37) -/

theorem Store.foldl_erase_none {α β : Type} (key : β → Nat) (k : Nat) (l : List β) (m : Store α)
    (h : (∃ b ∈ l, key b = k) ∨ m.find k = none) : (l.foldl (fun m b => Store.erase m (key b)) m).find k = none := by
  induction l generalizing m with
  | nil => simpa using h
  | cons b l ih =>
    refine ih _ ?_
    by_cases hb : key b = k
    · right
      rw [← hb]
      exact Store.find_erase_self m (key b)
    · rcases h with ⟨c, hc, hk⟩ | h
      · rcases List.mem_cons.1 hc with rfl | hc
        · exact absurd hk hb
        · exact .inl ⟨c, hc, hk⟩
      · right
        rwa [Store.find_erase_ne _ (Ne.symm hb)]

theorem State.emptyEnvelope_store (s : State) (p : Page) (i : Nat) : (s.emptyEnvelope p i).staged =
    (envelopeWords p).foldl (fun m e => Store.erase m (e.1.key i e.2)) s.staged := by
  unfold State.emptyEnvelope
  generalize envelopeWords p = l
  induction l generalizing s with
  | nil => rfl
  | cons e l ih => exact ih _

theorem State.emptyEnvelope_run (s : State) (p : Page) (i : Nat) : (s.emptyEnvelope p i).run = s.run := by
  unfold State.emptyEnvelope
  refine State.foldl_same (g := State.run) ?_ _ _
  exact fun _ _ => rfl

theorem header_not_rws (p : Page) : (headerFields p).all (fun F => F.acc != .rws) = true := rfl

/-- Every word of a page that is staged belongs to its envelope. -/
theorem mem_envelopeWords {p : Page} {F : Fld} {j : Nat} (hF : F ∈ pageFields p) (ha : F.acc = .rws) (hj : j < F.cnt) :
    (F, j) ∈ envelopeWords p := by
  have hb : F ∈ blockFields p := by
    rcases List.mem_append.1 hF with h | h
    · have := List.all_eq_true.1 (header_not_rws p) F h
      simp [ha] at this
    · exact h
  refine List.mem_flatMap.2 ⟨F, List.mem_filter.2 ⟨hb, by simp [ha]⟩, List.mem_map.2 ⟨j, List.mem_range.2 hj, rfl⟩⟩

/-- DISCARD where no run is in flight: the envelope is empty and the post gone. -/
theorem State.discardPost_spec {s : State} {p : Page} {i : Nat} (h : s.run = none) :
    (s.discardPost p i).Discarded p i ∧ (s.discardPost p i).lines = s.lines ∧
      ∀ F ∈ pageFields p, F.acc = .rws → ∀ j, j < F.cnt → (s.discardPost p i).stagedAt F i j = none := by
  have hr : ((s.emptyEnvelope p i).finishPost p i resDiscarded).run = none := by
    rw [State.finishPost_run, State.emptyEnvelope_run, h]
  have he : s.discardPost p i = (s.emptyEnvelope p i).finishPost p i resDiscarded := by
    unfold State.discardPost State.retryRun
    rw [hr]
  rw [he]
  refine ⟨State.finishPost_discarded _ _ _, by simp, fun F hF ha j hj => ?_⟩
  unfold State.stagedAt
  rw [State.finishPost_staged, State.emptyEnvelope_store]
  exact Store.foldl_erase_none (fun e : Fld × Nat => e.1.key i e.2) _ _ _ (.inl ⟨_, mem_envelopeWords hF ha hj, rfl⟩)

/-! ### RUN (R38, R43) -/

/-- The registers that RUN sets as it starts: the number of members, and no steps and no split yet. -/
def State.runCounted (s : State) : State :=
  ((s.wr DEVENV.RUN_STAT.MEMBERS s.runPages.length).wr DEVENV.RUN_STAT.STEPS 0).wr DEVENV.RUN_STAT.SPLIT 0

theorem State.runCounted_members (s : State) : s.runCounted.g DEVENV.RUN_STAT.MEMBERS = s.runPages.length % 2 ^ 16 := by
  unfold State.runCounted
  rw [State.g_wr_of_id (by decide), State.g_wr_of_id (by decide), State.g_wr_self]
  rfl

theorem State.runCounted_isVTail (s : State) (l : Nat) : s.runCounted.isVTail l = s.isVTail l := by
  unfold State.isVTail State.mode State.runCounted
  rw [State.g_wr_of_id (by decide), State.g_wr_of_id (by decide), State.g_wr_of_id (by decide)]

/-- IMMEDIATE is no moment for a run. -/
theorem State.startRun_immediate {s : State} (h : s.g DEVENV.RUN_CTRL.MOMENT = 0) :
    s.startRun = s.runCounted.failSet s.runPages true resConflict := by
  unfold State.startRun
  simp only [h]
  rfl

/-- A run without members ends POSTED. -/
theorem State.startRun_empty {s : State} (h : s.g DEVENV.RUN_CTRL.MOMENT = 1 ∨ s.g DEVENV.RUN_CTRL.MOMENT = 2)
    (hp : s.runPages = []) : s.startRun = s.runCounted.endRun resPosted := by
  have h0 : s.g DEVENV.RUN_CTRL.MOMENT ≠ 0 := by omega
  have h3 : s.g DEVENV.RUN_CTRL.MOMENT ≠ 3 := by omega
  unfold State.startRun State.runCounted
  simp [h0, h3, hp]

/-- A run of one unsealed member begins at the next symbol boundary. -/
theorem State.startRun_single {s : State} {x : Post} (h : s.g DEVENV.RUN_CTRL.MOMENT = 1) (hp : s.posts = [x])
    (hm : x.member = true) (hs : x.sealedPost = false) (hv : isLinePage x.page = true → s.isVTail x.inst = false) :
    s.startRun = { s.runCounted with
      posts := [{ x with phase := .armed, target := none }]
      run := some { moment := 1, target := none, begun := false, members := 1 } } := by
  have hpages : s.runPages = [(x.page, x.inst)] := by simp [State.runPages, hp, hm]
  have htail : (isLinePage x.page && s.runCounted.isVTail x.inst) = false := by
    rw [State.runCounted_isVTail]
    cases hl : isLinePage x.page
    · rfl
    · exact hv hl
  have hx : ({ s.runCounted with run := some { moment := 1, target := none, begun := false, members := 1 } } : State).postOf
      x.page x.inst = some x := by
    change s.posts.find? _ = _
    simp [hp]
  have hstart := State.startSet_single (moment := 1) true hx hs (by decide)
  unfold State.startRun
  simp only [h, hpages]
  simp only [State.runCounted, hpages] at hstart htail ⊢
  simp only [List.any_cons, List.any_nil, Bool.or_false, htail]
  rw [if_neg (by decide), if_neg (by simp), if_neg (by simp)]
  refine hstart.trans ?_
  unfold State.setPhase
  simp [hp]

/-! ### The words of DEVENV and HOSTMASK -/

/-- A word of the mail run's and the bus lock's page. -/
def devenvWord (ch : Channel) (off w : Nat) : WordWrite := { ch := chIx ch, page := .devenv, inst := 0, off := off, w := w }

theorem fieldsAt_runCtrl : fieldsAt .devenv 0x040 =
    [(DEVENV.RUN_CTRL.CANCEL, 0), (DEVENV.RUN_CTRL.RUN, 0), (DEVENV.RUN_CTRL.MOMENT, 0)] := by decide

theorem fieldsAt_busLock : fieldsAt .devenv 0x060 =
    [(DEVENV.BUSLOCK.OWNER, 0), (DEVENV.BUSLOCK.RELEASE, 0), (DEVENV.BUSLOCK.TAKE, 0)] := by decide

theorem fieldsAt_hostmask : ∀ j < 4, fieldsAt .lload (0x060 + 4 * j) = [(LLOAD.HOSTMASK.MASK, j)] := by decide

theorem fields_runCtrl (ch : Channel) (w : Nat) : (devenvWord ch 0x040 w).fields =
    [(DEVENV.RUN_CTRL.CANCEL, 0), (DEVENV.RUN_CTRL.RUN, 0), (DEVENV.RUN_CTRL.MOMENT, 0)] := by
  unfold WordWrite.fields devenvWord
  rw [fieldsAt_runCtrl]
  rfl

theorem fields_busLock (ch : Channel) (w : Nat) : (devenvWord ch 0x060 w).fields =
    [(DEVENV.BUSLOCK.OWNER, 0), (DEVENV.BUSLOCK.RELEASE, 0), (DEVENV.BUSLOCK.TAKE, 0)] := by
  unfold WordWrite.fields devenvWord
  rw [fieldsAt_busLock]
  rfl

theorem State.storeWord_runCtrl (s : State) (ch : Channel) (w : Nat) :
    s.storeWord (devenvWord ch 0x040 w) = s.wr DEVENV.RUN_CTRL.MOMENT (bits w 0 2) := by
  unfold State.storeWord
  rw [fields_runCtrl]
  rfl

theorem State.storeWord_busLock (s : State) (ch : Channel) (w : Nat) : s.storeWord (devenvWord ch 0x060 w) = s := by
  unfold State.storeWord
  rw [fields_busLock]
  rfl

theorem State.busLock_none (s : State) (c : Nat) : s.busLock c false false = s := by simp [State.busLock]

/-- What an accepted word of RUN_CTRL does: CANCEL, then RUN (R43). -/
theorem State.applyWord_runCtrl (s : State) (ch : Channel) (w : Nat) :
    s.applyWord (devenvWord ch 0x040 w) =
      (let t := s.wr DEVENV.RUN_CTRL.MOMENT (bits w 0 2)
       let t := if hits (s.acted (devenvWord ch 0x040 w)) DEVENV.RUN_CTRL.CANCEL then t.cancelRun else t
       if hits (s.acted (devenvWord ch 0x040 w)) DEVENV.RUN_CTRL.RUN then t.startRun else t) := by
  have h1 : hits (s.acted (devenvWord ch 0x040 w)) DEVENV.BUSLOCK.RELEASE = false :=
    hits_false_of_off s _ rfl (show DEVENV.BUSLOCK.RELEASE.off ≠ 0x040 by decide)
  have h2 : hits (s.acted (devenvWord ch 0x040 w)) DEVENV.BUSLOCK.TAKE = false :=
    hits_false_of_off s _ rfl (show DEVENV.BUSLOCK.TAKE.off ≠ 0x040 by decide)
  have hpage : (devenvWord ch 0x040 w).page = .devenv := rfl
  unfold State.applyWord
  dsimp only
  rw [if_neg (show ¬ (devenvWord ch 0x040 w).off < 0x040 by simp [devenvWord]), State.storeWord_runCtrl]
  simp only [State.deviceEffects, hpage, h1, h2, State.busLock_none]
  rfl

theorem State.applyWord_busLock (s : State) (ch : Channel) (w : Nat) :
    s.applyWord (devenvWord ch 0x060 w) = s.busLock (chIx ch)
      (hits (s.acted (devenvWord ch 0x060 w)) DEVENV.BUSLOCK.RELEASE)
      (hits (s.acted (devenvWord ch 0x060 w)) DEVENV.BUSLOCK.TAKE) := by
  have h1 : hits (s.acted (devenvWord ch 0x060 w)) DEVENV.RUN_CTRL.RUN = false :=
    hits_false_of_off s _ rfl (show DEVENV.RUN_CTRL.RUN.off ≠ 0x060 by decide)
  have h2 : hits (s.acted (devenvWord ch 0x060 w)) DEVENV.RUN_CTRL.CANCEL = false :=
    hits_false_of_off s _ rfl (show DEVENV.RUN_CTRL.CANCEL.off ≠ 0x060 by decide)
  have hpage : (devenvWord ch 0x060 w).page = .devenv := rfl
  unfold State.applyWord
  dsimp only
  rw [if_neg (show ¬ (devenvWord ch 0x060 w).off < 0x040 by simp [devenvWord]), State.storeWord_busLock]
  simp only [State.deviceEffects, hpage, h1, h2, Bool.false_eq_true, if_false]
  rfl

/-! ### HOSTMASK (R12) -/

theorem State.applyWord_hostmask {s : State} (ch : Channel) {l j : Nat} (hj : j < 4) (w : Word)
    (hp : s.postOf .lload l = none) :
    s.applyWord (LLOAD.HOSTMASK.MASK.write ch l j w.toNat) = s.stage LLOAD.HOSTMASK.MASK l j w.toNat := by
  have hf : (LLOAD.HOSTMASK.MASK.write ch l j w.toNat).fields = [(LLOAD.HOSTMASK.MASK, j)] := by
    unfold WordWrite.fields Fld.write
    rw [show LLOAD.HOSTMASK.MASK.off + LLOAD.HOSTMASK.MASK.stride * j = 0x060 + 4 * j from rfl]
    change (fieldsAt .lload (0x060 + 4 * j)).filter _ = _
    rw [fieldsAt_hostmask j hj]
    rfl
  have hc : (LLOAD.HOSTMASK.MASK.write ch l j w.toNat).carried LLOAD.HOSTMASK.MASK = w.toNat := by
    rw [WordWrite.carried_bits _ _ (by decide)]
    change bits w.toNat 0 32 = _
    simp [bits, Nat.mod_eq_of_lt w.isLt]
  have hs : s.storeWord (LLOAD.HOSTMASK.MASK.write ch l j w.toNat) = s.stage LLOAD.HOSTMASK.MASK l j w.toNat := by
    have hv : (LLOAD.HOSTMASK.MASK.write ch l j w.toNat).val LLOAD.HOSTMASK.MASK = w.toNat := by
      rw [WordWrite.val, hc]
      rfl
    unfold State.storeWord
    rw [hf]
    simp only [List.foldl_cons, List.foldl_nil, State.storeField, hv]
    change (if (s.postOf .lload l).isSome = true then s else _) = _
    rw [hp]
    rfl
  unfold State.applyWord
  dsimp only
  rw [if_neg (show ¬ (LLOAD.HOSTMASK.MASK.write ch l j w.toNat).off < 0x040 by simp [Fld.write, LLOAD.HOSTMASK.MASK]; omega), hs]
  rfl

/-! ### Granted words -/

/-- A word of ENV_CTRL that triggers POST or DISCARD, granted. -/
theorem State.trigger_envCtrl {s : State} {ch : Channel} {p : Page} {i : Nat} {w : Word} {F : Fld} (hpage : F.page = p)
    (ho : F.off = 0x020) (hi : i < p.count) (hl : p ≠ .letterbox)
    (hg : s.grants ch F i 0 (withOnes w F) = true) :
    s.refuses (envCtrlWord ch p i (withOnes w F)) (s.acted (envCtrlWord ch p i (withOnes w F))) = false ∧
      ∃ m : Mgmt, s.trigger ch F i 0 w = (s.applyWord (envCtrlWord ch p i (withOnes w F))).modMgmt fun _ => m := by
  subst hpage
  have hx : F.write ch i 0 (withOnes w F) = envCtrlWord ch F.page i (withOnes w F) := by
    simp [Fld.write, envCtrlWord, ho]
  obtain ⟨-, hr, m, -, ht⟩ := State.writeAt_granted s ch F i 0 (withOnes w F) hg hi hl (by omega)
  rw [hx] at hr ht
  exact ⟨hr, m, ht⟩

/-- A page whose POST is not refused has no post. -/
theorem State.postOf_of_granted {s : State} {ch : Channel} {p : Page} {i w : Nat}
    (hh : hits (s.acted (envCtrlWord ch p i w)) (HDR.ENV_CTRL.POST p) = true)
    (hr : s.refuses (envCtrlWord ch p i w) (s.acted (envCtrlWord ch p i w)) = false) : s.postOf p i = none := by
  simp only [State.refuses, Bool.or_eq_false_iff] at hr
  obtain ⟨⟨⟨⟨-, hpost⟩, -⟩, -⟩, -⟩ := hr
  have hpage : (envCtrlWord ch p i w).page = p := rfl
  simp only [State.postRefuses, hpage, hh, Bool.or_eq_false_iff, Bool.true_and] at hpost
  obtain ⟨⟨-, hn⟩, -⟩ := hpost
  simp only [State.postRefused, Bool.or_eq_false_iff] at hn
  have hnone := hn.1
  simpa [envCtrlWord] using hnone

/-- A granted POST without DISCARD: the page's fields take the word, and POST follows. -/
theorem State.envPost_granted {s : State} {ch : Channel} {p : Page} {i : Nat} {w : Word} (hi : i < p.count)
    (hl : p ≠ .letterbox) (hp : hasEnvelope p = true)
    (hg : s.grants ch (HDR.ENV_CTRL.POST p) i 0 (withOnes w (HDR.ENV_CTRL.POST p)) = true)
    (hd : w.toNat / 512 % 2 = 0) {P : State → Prop}
    (h : ∀ m : Mgmt, s.postOf p i = none →
      P (((s.envStored p i (withOnes w (HDR.ENV_CTRL.POST p))).post p i).modMgmt fun _ => m)) :
    s.runsTo (.envPost ch p i w) P := by
  obtain ⟨hr, m, ht⟩ := State.trigger_envCtrl (p := p) rfl rfl hi hl hg
  have hpost : hits (s.acted (envCtrlWord ch p i (withOnes w (HDR.ENV_CTRL.POST p)))) (HDR.ENV_CTRL.POST p) = true := by
    rw [hits_envCtrl s ch hp i _ rfl rfl (by simp [fieldsAt_envCtrl]), bits_withOnes]
    rfl
  have hdis : hits (s.acted (envCtrlWord ch p i (withOnes w (HDR.ENV_CTRL.POST p)))) (HDR.ENV_CTRL.DISCARD p) = false := by
    rw [hits_envCtrl s ch hp i _ rfl rfl (by simp [fieldsAt_envCtrl]),
      bits_withOnes_other w (HDR.ENV_CTRL.POST p) (HDR.ENV_CTRL.DISCARD p) (.inr (by simp [HDR.ENV_CTRL.POST, HDR.ENV_CTRL.DISCARD]))]
    simpa [bits, HDR.ENV_CTRL.DISCARD] using hd
  refine ⟨_, if_pos hi, ?_⟩
  dsimp only
  rw [ht, State.applyWord_envCtrl s ch hp]
  simp only [hdis, hpost, Bool.false_eq_true, if_false, if_true]
  exact h m (State.postOf_of_granted hpost hr)

/-- A granted DISCARD without POST: the page's fields take the word, and DISCARD follows. -/
theorem State.envDiscard_granted {s : State} {ch : Channel} {p : Page} {i : Nat} {w : Word} (hi : i < p.count)
    (hl : p ≠ .letterbox) (hp : hasEnvelope p = true)
    (hg : s.grants ch (HDR.ENV_CTRL.DISCARD p) i 0 (withOnes w (HDR.ENV_CTRL.DISCARD p)) = true)
    (hd : w.toNat / 256 % 2 = 0) {P : State → Prop}
    (h : ∀ m : Mgmt, P (((s.envStored p i (withOnes w (HDR.ENV_CTRL.DISCARD p))).discardPost p i).modMgmt fun _ => m)) :
    s.runsTo (.envDiscard ch p i w) P := by
  obtain ⟨-, m, ht⟩ := State.trigger_envCtrl (p := p) rfl rfl hi hl hg
  have hdis : hits (s.acted (envCtrlWord ch p i (withOnes w (HDR.ENV_CTRL.DISCARD p)))) (HDR.ENV_CTRL.DISCARD p) = true := by
    rw [hits_envCtrl s ch hp i _ rfl rfl (by simp [fieldsAt_envCtrl]), bits_withOnes]
    rfl
  have hpost : hits (s.acted (envCtrlWord ch p i (withOnes w (HDR.ENV_CTRL.DISCARD p)))) (HDR.ENV_CTRL.POST p) = false := by
    rw [hits_envCtrl s ch hp i _ rfl rfl (by simp [fieldsAt_envCtrl]),
      bits_withOnes_other w (HDR.ENV_CTRL.DISCARD p) (HDR.ENV_CTRL.POST p) (.inl (by simp [HDR.ENV_CTRL.POST, HDR.ENV_CTRL.DISCARD]))]
    simpa [bits, HDR.ENV_CTRL.POST] using hd
  refine ⟨_, if_pos hi, ?_⟩
  dsimp only
  rw [ht, State.applyWord_envCtrl s ch hp]
  simp only [hdis, hpost, Bool.false_eq_true, if_false, if_true]
  exact h m

/-- A granted word of DEVENV: it is applied, and only what the channel last answered is added. -/
theorem State.trigger_devenv {s : State} {ch : Channel} {w : Word} {F : Fld} {off : Nat} (hpage : F.page = .devenv)
    (ho : F.off = off) (hlt : off < 4096) (hg : s.grants ch F 0 0 (withOnes w F) = true) :
    s.refuses (devenvWord ch off (withOnes w F)) (s.acted (devenvWord ch off (withOnes w F))) = false ∧
      ∃ m : Mgmt, m.core = (s.applyWord (devenvWord ch off (withOnes w F))).mgmt.core ∧
        s.trigger ch F 0 0 w = (s.applyWord (devenvWord ch off (withOnes w F))).modMgmt fun _ => m := by
  have hx : F.write ch 0 0 (withOnes w F) = devenvWord ch off (withOnes w F) := by
    simp [Fld.write, devenvWord, ho, hpage]
  obtain ⟨-, hr, h⟩ := State.writeAt_granted s ch F 0 0 (withOnes w F) hg (by rw [hpage]; decide) (by rw [hpage]; decide)
    (by omega)
  rw [hx] at hr h
  exact ⟨hr, h⟩

/-- A channel that the bus lock lets through holds it, or no channel does. -/
theorem State.busOwner_of_granted {s : State} {ch : Channel} {F : Fld} {i j w : Nat} (hg : s.grants ch F i j w = true) :
    s.mgmt.busOwner = 0 ∨ s.mgmt.busOwner = chIx ch + 1 := by
  simp only [State.grants, Bool.and_eq_true, State.accepts, beq_iff_eq] at hg
  obtain ⟨⟨hst, -⟩, -, hv⟩ := hg
  rw [State.frameStart_steady s _ hst] at hv
  obtain ⟨-, -, hl, -⟩ := State.access_write_ok s _ _ _ hv
  simp only [State.lockedFor, Bool.and_eq_false_iff, bne_eq_false_iff_eq] at hl
  exact hl

theorem Mgmt.busOwner_of_core {m n : Mgmt} (h : m.core = n.core) : m.busOwner = n.busOwner := by
  have := congrArg Mgmt.busOwner h
  exact this

/-! ### The obligation -/

/-- The bits that POST's word keeps: SEALED, MAILRUN and MOMENT. -/
theorem bits_withOnes_post (w : Word) (p : Page) :
    bits (withOnes w (HDR.ENV_CTRL.POST p)) 2 1 = w.toNat / 4 % 2 ∧
      bits (withOnes w (HDR.ENV_CTRL.POST p)) 3 1 = w.toNat / 8 % 2 ∧
      bits (withOnes w (HDR.ENV_CTRL.POST p)) 0 2 = w.toNat % 4 := by
  have h1 := bits_withOnes_other w (HDR.ENV_CTRL.POST p) (HDR.ENV_CTRL.SEALED p) (.inl (by simp [HDR.ENV_CTRL.POST, HDR.ENV_CTRL.SEALED]))
  have h2 := bits_withOnes_other w (HDR.ENV_CTRL.POST p) (HDR.ENV_CTRL.MAILRUN p) (.inl (by simp [HDR.ENV_CTRL.POST, HDR.ENV_CTRL.MAILRUN]))
  have h3 := bits_withOnes_other w (HDR.ENV_CTRL.POST p) (HDR.ENV_CTRL.MOMENT p) (.inl (by simp [HDR.ENV_CTRL.POST, HDR.ENV_CTRL.MOMENT]))
  exact ⟨h1.trans (by simp [bits, HDR.ENV_CTRL.SEALED]), h2.trans (by simp [bits, HDR.ENV_CTRL.MAILRUN]),
    h3.trans (by simp [bits, HDR.ENV_CTRL.MOMENT])⟩

/-- A granted RUN without CANCEL finds no run in flight. -/
theorem State.mailRun_granted {s : State} {ch : Channel} {w : Word}
    (hg : s.grants ch DEVENV.RUN_CTRL.RUN 0 0 (withOnes w DEVENV.RUN_CTRL.RUN) = true) (hc : w.toNat / 512 % 2 = 0)
    {P : State → Prop}
    (h : ∀ m : Mgmt, s.run = none → P ((s.wr DEVENV.RUN_CTRL.MOMENT (w.toNat % 4)).startRun.modMgmt fun _ => m)) :
    s.runsTo (.mailRun ch w) P := by
  obtain ⟨hr, m, -, ht⟩ := State.trigger_devenv (off := 0x040) rfl rfl (by decide) hg
  have hrun : hits (s.acted (devenvWord ch 0x040 (withOnes w DEVENV.RUN_CTRL.RUN))) DEVENV.RUN_CTRL.RUN = true := by
    rw [hits_trigger s _ rfl (by simp [fields_runCtrl]) (by decide)]
    change decide (bits (withOnes w DEVENV.RUN_CTRL.RUN) DEVENV.RUN_CTRL.RUN.lo DEVENV.RUN_CTRL.RUN.w ≠ 0) = true
    rw [bits_withOnes]
    rfl
  have hcan : hits (s.acted (devenvWord ch 0x040 (withOnes w DEVENV.RUN_CTRL.RUN))) DEVENV.RUN_CTRL.CANCEL = false := by
    rw [hits_trigger s _ rfl (by simp [fields_runCtrl]) (by decide)]
    change decide (bits (withOnes w DEVENV.RUN_CTRL.RUN) DEVENV.RUN_CTRL.CANCEL.lo DEVENV.RUN_CTRL.CANCEL.w ≠ 0) = false
    rw [bits_withOnes_other w _ _ (.inr (by decide))]
    simpa [bits, DEVENV.RUN_CTRL.CANCEL] using hc
  have hmom : bits (withOnes w DEVENV.RUN_CTRL.RUN) 0 2 = w.toNat % 4 :=
    (bits_withOnes_other w DEVENV.RUN_CTRL.RUN DEVENV.RUN_CTRL.MOMENT (.inl (by decide))).trans
      (by simp [bits, DEVENV.RUN_CTRL.MOMENT])
  have hnone : s.run = none := by
    simp only [State.refuses, Bool.or_eq_false_iff] at hr
    obtain ⟨⟨-, hdev⟩, -⟩ := hr
    have hpage : (devenvWord ch 0x040 (withOnes w DEVENV.RUN_CTRL.RUN)).page = .devenv := rfl
    simp only [State.deviceRefuses, hpage, hrun, Bool.true_and] at hdev
    simpa using hdev
  refine ⟨_, rfl, ?_⟩
  rw [ht, State.applyWord_runCtrl]
  simp only [hrun, hcan, hmom, Bool.false_eq_true, if_false, if_true]
  exact h m hnone

theorem State.mailRunCancel_granted {s : State} {ch : Channel} {w : Word}
    (hg : s.grants ch DEVENV.RUN_CTRL.CANCEL 0 0 (withOnes w DEVENV.RUN_CTRL.CANCEL) = true) (hc : w.toNat / 256 % 2 = 0)
    {P : State → Prop}
    (h : ∀ (m : Mgmt) (v : Nat), P ((s.wr DEVENV.RUN_CTRL.MOMENT v).cancelRun.modMgmt fun _ => m)) :
    s.runsTo (.mailRunCancel ch w) P := by
  obtain ⟨-, m, -, ht⟩ := State.trigger_devenv (off := 0x040) rfl rfl (by decide) hg
  have hcan : hits (s.acted (devenvWord ch 0x040 (withOnes w DEVENV.RUN_CTRL.CANCEL))) DEVENV.RUN_CTRL.CANCEL = true := by
    rw [hits_trigger s _ rfl (by simp [fields_runCtrl]) (by decide)]
    change decide (bits (withOnes w DEVENV.RUN_CTRL.CANCEL) DEVENV.RUN_CTRL.CANCEL.lo DEVENV.RUN_CTRL.CANCEL.w ≠ 0) = true
    rw [bits_withOnes]
    rfl
  have hrun : hits (s.acted (devenvWord ch 0x040 (withOnes w DEVENV.RUN_CTRL.CANCEL))) DEVENV.RUN_CTRL.RUN = false := by
    rw [hits_trigger s _ rfl (by simp [fields_runCtrl]) (by decide)]
    change decide (bits (withOnes w DEVENV.RUN_CTRL.CANCEL) DEVENV.RUN_CTRL.RUN.lo DEVENV.RUN_CTRL.RUN.w ≠ 0) = false
    rw [bits_withOnes_other w _ _ (.inl (by decide))]
    simpa [bits, DEVENV.RUN_CTRL.RUN] using hc
  refine ⟨_, rfl, ?_⟩
  rw [ht, State.applyWord_runCtrl]
  simp only [hrun, hcan, Bool.false_eq_true, if_false, if_true]
  exact h m _

/-- TAKE of a free bus lock, or of the channel's own: the channel holds it. -/
theorem State.busLock_take {s : State} {c : Nat} (h : s.mgmt.busOwner = 0 ∨ s.mgmt.busOwner = c + 1) :
    (s.busLock c false true).mgmt.busOwner = c + 1 ∧ (s.busLock c false true).regs = s.regs ∧
      (s.busLock c false true).lines = s.lines := by
  unfold State.busLock
  rcases h with h | h <;> simp [h, State.modMgmt]

/-- RELEASE of the channel's own bus lock: no channel holds it. -/
theorem State.busLock_release {s : State} {c : Nat} (h : s.mgmt.busOwner = 0 ∨ s.mgmt.busOwner = c + 1) :
    (s.busLock c true false).mgmt.busOwner = 0 ∧ (s.busLock c true false).regs = s.regs ∧
      (s.busLock c true false).lines = s.lines := by
  unfold State.busLock
  rcases h with h | h <;> simp [h, State.modMgmt]

/-- A granted word of BUSLOCK: RELEASE and TAKE as its bits say. -/
theorem State.busLockWord_granted {s : State} {ch : Channel} {c : Instr} {w : Word} {F : Fld} (hpage : F.page = .devenv)
    (ho : F.off = 0x060) (hg : s.grants ch F 0 0 (withOnes w F) = true) {P : State → Prop}
    (hc : exec c s = .next (s.trigger ch F 0 0 w))
    (h : ∀ m : Mgmt,
      m.core = (s.busLock (chIx ch) (decide (bits (withOnes w F) DEVENV.BUSLOCK.RELEASE.lo DEVENV.BUSLOCK.RELEASE.w ≠ 0))
        (decide (bits (withOnes w F) DEVENV.BUSLOCK.TAKE.lo DEVENV.BUSLOCK.TAKE.w ≠ 0))).mgmt.core →
      P ((s.busLock (chIx ch) (decide (bits (withOnes w F) DEVENV.BUSLOCK.RELEASE.lo DEVENV.BUSLOCK.RELEASE.w ≠ 0))
        (decide (bits (withOnes w F) DEVENV.BUSLOCK.TAKE.lo DEVENV.BUSLOCK.TAKE.w ≠ 0))).modMgmt fun _ => m)) :
    s.runsTo c P := by
  obtain ⟨-, m, hm, ht⟩ := State.trigger_devenv hpage ho (by decide) hg
  have hr := hits_trigger s (devenvWord ch 0x060 (withOnes w F)) (F := DEVENV.BUSLOCK.RELEASE) rfl
    (by simp [fields_busLock]) (by decide)
  have htake := hits_trigger s (devenvWord ch 0x060 (withOnes w F)) (F := DEVENV.BUSLOCK.TAKE) rfl
    (by simp [fields_busLock]) (by decide)
  rw [State.applyWord_busLock, hr, htake] at hm ht
  exact ⟨_, hc, ht ▸ h m hm⟩

/-- Settles O47: each granted word is stored and its one trigger carried out by `State.applyWord`. -/
theorem envelopeWrites : Obligations.EnvelopeWrites := by
  unfold Obligations.EnvelopeWrites
  intro s ch w
  refine ⟨?_, ?_, ?_, ?_, ?_, ?_, ?_⟩
  case refine_1 =>
    intro l j hl hj hp hg
    obtain ⟨-, -, m, -, ht⟩ := State.writeAt_granted s ch _ l j w.toNat hg hl (by decide)
      (by simp only [LLOAD.HOSTMASK.MASK]; omega)
    rw [State.runsTo_registerWrite]
    change (s.writeAt ch LLOAD.HOSTMASK.MASK l j w.toNat).stagedAt _ _ _ = _ ∧ _
    rw [State.writeAt] at ht ⊢
    rw [ht, State.applyWord_hostmask ch hj w hp]
    refine ⟨(State.stagedAt_stage s _ l j _).trans ?_, rfl, rfl, rfl⟩
    exact congrArg some (Nat.mod_eq_of_lt w.isLt)
  case refine_2 =>
    intro p i hi hl hp hg hd
    obtain ⟨hb1, hb2, hb3⟩ := bits_withOnes_post w p
    have h1 := s.envStored_sealed p i (withOnes w (HDR.ENV_CTRL.POST p))
    have h2 := s.envStored_mailrun p i (withOnes w (HDR.ENV_CTRL.POST p))
    have h3 := s.envStored_moment p i (withOnes w (HDR.ENV_CTRL.POST p))
    rw [hb1] at h1
    rw [hb2] at h2
    rw [hb3] at h3
    refine ⟨fun hw => ?_, fun hw hr => ?_, fun hw hs => ?_⟩
    · refine State.envPost_granted hi hl hp hg hd fun m _ => ?_
      rw [State.post_member (h1.trans (by omega)) (h2.trans (by omega)), h3, State.envStored_rangeWaits]
      exact ⟨rfl, rfl, rfl⟩
    · refine State.envPost_granted hi hl hp hg hd fun m hn => ?_
      rw [State.post_alone (h1.trans (by omega)) (h2.trans (by omega)) (h3.trans (by omega)) hn
        (fun e => (s.envStored_rangeWaits p i _ i).trans (hr e))]
      exact ⟨rfl, rfl, rfl⟩
    · refine State.envPost_granted hi hl hp hg hd fun m _ => ?_
      rw [State.post_unsealable (h1.trans hw) hs]
      refine ⟨?_, State.setResult_posts _ _ _ _, State.setResult_staged _ _ _ _, State.setResult_lines _ _ _ _⟩
      exact (State.setResult_result _ p p i i (by decide)).trans (if_pos rfl)
  case refine_3 =>
    intro p i hi hl hp hg hd hrun
    refine State.envDiscard_granted hi hl hp hg hd fun m => ?_
    obtain ⟨⟨hpost, hres⟩, hlines, hst⟩ := State.discardPost_spec (p := p) (i := i)
      (s := s.envStored p i (withOnes w (HDR.ENV_CTRL.DISCARD p))) hrun
    exact ⟨hres, hpost, hst, hlines⟩
  case refine_4 =>
    intro hg hc
    have hmom : (s.wr DEVENV.RUN_CTRL.MOMENT (w.toNat % 4)).g DEVENV.RUN_CTRL.MOMENT = w.toNat % 4 := by
      rw [State.g_wr_self]
      exact Nat.mod_mod _ _
    refine ⟨fun hw => ?_, fun hw hp => ?_, fun x hw hp hm hs hv => ?_⟩
    · refine State.mailRun_granted hg hc fun m _ => ?_
      rw [State.startRun_immediate (hmom.trans hw)]
      exact ⟨State.endRun_run _ _, State.endRun_result _ _, State.failSet_lines _ _ _ _⟩
    · refine State.mailRun_granted hg hc fun m _ => ?_
      rw [State.startRun_empty (s := s.wr DEVENV.RUN_CTRL.MOMENT (w.toNat % 4)) (by rwa [hmom]) hp]
      refine ⟨State.endRun_run _ _, State.endRun_result _ _, ?_, State.endRun_lines _ _⟩
      refine (State.endRun_g _ _ (devenv_lock_id_ne (by decide)) (by decide) 0 0).trans ?_
      rw [State.runCounted_members]
      exact congrArg (fun l : Pages => l.length % 2 ^ 16) hp
    · refine State.mailRun_granted hg hc fun m _ => ?_
      rw [State.startRun_single (hmom.trans hw) hp hm hs]
      · refine ⟨rfl, rfl, ?_, rfl⟩
        refine (State.runCounted_members _).trans ?_
        have hpages : (s.wr DEVENV.RUN_CTRL.MOMENT (w.toNat % 4)).runPages = [(x.page, x.inst)] := by
          change (s.posts.filter _).map _ = _
          simp [hp, hm]
        rw [hpages]
        rfl
      · intro hline
        rw [← hv hline]
        exact congrArg (· == 2) (State.g_wr_of_id (by decide) _ _ _ _ _ _)
  case refine_5 =>
    intro hg hc hr
    refine State.mailRunCancel_granted hg hc fun m v => ?_
    obtain ⟨h1, h2, h3⟩ := State.cancelRun_unbegun (s := s.wr DEVENV.RUN_CTRL.MOMENT v) hr
    exact ⟨h3, h1, h2, State.cancelRun_lines _⟩
  case refine_6 =>
    intro hg hc
    refine State.busLockWord_granted rfl rfl hg rfl fun m hm => ?_
    obtain ⟨ho, hr, hl⟩ := State.busLock_take (State.busOwner_of_granted hg)
    rw [bits_withOnes_other w DEVENV.BUSLOCK.TAKE DEVENV.BUSLOCK.RELEASE (.inr (by decide)), bits_withOnes,
      show bits w.toNat DEVENV.BUSLOCK.RELEASE.lo DEVENV.BUSLOCK.RELEASE.w = 0 from hc] at hm ⊢
    exact ⟨(Mgmt.busOwner_of_core hm).trans ho, hr, hl⟩
  case refine_7 =>
    intro hg hc
    refine State.busLockWord_granted rfl rfl hg rfl fun m hm => ?_
    obtain ⟨ho, hr, hl⟩ := State.busLock_release (State.busOwner_of_granted hg)
    rw [bits_withOnes_other w DEVENV.BUSLOCK.RELEASE DEVENV.BUSLOCK.TAKE (.inl (by decide)), bits_withOnes,
      show bits w.toNat DEVENV.BUSLOCK.TAKE.lo DEVENV.BUSLOCK.TAKE.w = 0 by
        simpa [bits, DEVENV.BUSLOCK.TAKE] using hc] at hm ⊢
    exact ⟨(Mgmt.busOwner_of_core hm).trans ho, hr, hl⟩

end Sys2Proof.Machine
end

section
/-! A command outside the register accesses that moves the trust state: a sampled fault of the attestation state (R310, R348). -/

namespace Sys2Proof.Machine

/-- A state whose control domain runs, with everything else as reset leaves it. -/
def attestFaultState : State := State.reset.modClk fun x => { x with running := true, csrc := .spll }

/-- ATTEST_STATE, the fault of the attestation state (R348): code 0x26, class S2, source 16. -/
def attestFault : Sys2Proof.FaultInput := { code := 0x26, cls := 2, source := 16, detail := 0 }

/-- A sample that shows ATTEST_STATE turns attestation off. -/
theorem attestFault_turns_off :
    attestFaultState.runsTo (.faultSample [attestFault]) fun t => t.trust.attestOff = true :=
  ⟨_, rfl, by decide +kernel⟩

/-- Refutes O60: `faultSample` is none of the commands named, and a sample that shows ATTEST_STATE turns attestation off, which is
part of the trust state. -/
theorem not_frames : ¬ Obligations.Frames := by
  unfold Obligations.Frames
  intro h
  obtain ⟨t, ht, hoff⟩ := attestFault_turns_off
  obtain ⟨-, -, htrust⟩ := h _ _ _ ht rfl
  rw [htrust rfl] at hoff
  exact absurd hoff (by decide)

end Sys2Proof.Machine
end

section
/-! A soft reset that ends a mail run: the LOCK values that wait for the run's end land with it (R10, R43, R359). -/

namespace Sys2Proof.Machine

/-- A parcel's mail run waits for its boundary, its one member the post of page LLOAD 0, with a LOCK value of that page to land when
it is over; MSPI holds a session of role OPERATE. -/
def parcelRunState : State :=
  { State.reset with
    clk := { State.reset.clk with running := true, csrc := .spll }
    mgmt := { State.reset.mgmt with sessions := [(0, { isOpen := true, role := 1 })] }
    posts := [{ page := .lload, inst := 0, moment := 2, target := none, sealedPost := false, member := true, phase := .armed }]
    run := some { moment := 2, target := none, begun := false, members := 1, locks := [(.lload, 0, 1)] } }

/-- The soft reset of the page is granted there. -/
theorem parcelRunState_grants : parcelRunState.grants .mspi (HDR.PAGE_CTRL.SOFT_RESET .lload) 0 0
    (withOnes 1 (HDR.PAGE_CTRL.SOFT_RESET .lload)) = true := by decide +kernel

/-- The soft reset drops the run's last member, so the run ends, and LOCK takes the value that waited for its end. -/
theorem parcelRunState_softReset :
    parcelRunState.runsTo (.softReset .mspi .lload 0 1) fun t => t.g (HDR.PAGE_CTRL.LOCK .lload) = 1 :=
  ⟨_, rfl, by decide +kernel⟩

/-- Refutes O46: the soft reset's clause. A soft reset of the page whose post is the last member of a mail run that has not begun ends
the run, and the LOCK value of a parcel that waits for the run's end lands: LOCK of that page goes from 0 to 1. -/
theorem not_headerWrites : ¬ Obligations.HeaderWrites := by
  unfold Obligations.HeaderWrites
  intro h
  obtain ⟨-, -, -, -, -, -, hreset⟩ := h parcelRunState .mspi .lload 0 1 (by decide) (by simp)
  obtain ⟨t, ht, hlock, -⟩ := hreset parcelRunState_grants (by decide +kernel) (by decide +kernel) (by decide +kernel)
  obtain ⟨u, hu, hone⟩ := parcelRunState_softReset
  obtain rfl : u = t := by
    rw [hu] at ht
    exact Host.Outcome.next.inj ht
  rw [hone] at hlock
  exact absurd hlock (by decide +kernel)

end Sys2Proof.Machine
end

section
/-! A calibration gap: what the end of an attempt does to the line's calibration data and to CAL_STAT.REASON, what a withdrawn
negotiation leaves of the calibrations, and what the figures of a port leave of its lines (R27, R229 to R232). -/

namespace Sys2Proof.Machine

/-! ### Operations that leave the calibrations alone -/

theorem State.calX_of_cal {s t : State} (h : t.cal = s.cal) (l : Nat) : t.calX l = s.calX l := by
  unfold State.calX
  rw [h]

/-- From `s` to `t` no line's calibration data and no line's reason shown has changed. -/
def State.KeepsCal (s t : State) : Prop :=
  t.cal = s.cal ∧ ∀ k, t.g LAFE.CAL_STAT.REASON k = s.g LAFE.CAL_STAT.REASON k

theorem State.KeepsCal.refl (s : State) : State.KeepsCal s s := ⟨rfl, fun _ => rfl⟩

theorem State.KeepsCal.trans {s t u : State} (h : State.KeepsCal s t) (k : State.KeepsCal t u) : State.KeepsCal s u :=
  ⟨k.1.trans h.1, fun i => (k.2 i).trans (h.2 i)⟩

theorem State.KeepsCal.wr {s t : State} (h : State.KeepsCal s t) {F : Fld}
    (hF : LAFE.CAL_STAT.REASON.id % 2048 ≠ F.id % 2048) (v i j : Nat) : State.KeepsCal s (t.wr F v i j) :=
  h.trans ⟨State.wr_cal _ _ _ _ _, fun _ => State.g_wr_of_id hF _ _ _ _ _ _⟩

theorem State.KeepsCal.foldl {β : Type} {f : State → β → State} (h : ∀ s b, State.KeepsCal s (f s b)) (l : List β)
    (s : State) : State.KeepsCal s (l.foldl f s) := by
  induction l generalizing s with
  | nil => exact .refl s
  | cons b l ih => exact (h s b).trans (ih _)

theorem State.KeepsCal.ite {c : Prop} [Decidable c] {s t u : State} (ht : State.KeepsCal s t) (hu : State.KeepsCal s u) :
    State.KeepsCal s (if c then t else u) := by
  split
  · exact ht
  · exact hu

/-- Events and fault records are no calibrations. -/
theorem State.Logs.keepsCal {s t : State} (h : State.Logs s t) : State.KeepsCal s t := by
  have hc : t.core.cal = s.core.cal := by rw [h.1]
  exact ⟨hc, fun k => h.2 LAFE.CAL_STAT.REASON k 0 rfl⟩

theorem State.Logs.noteS1 (s : State) (code src addr : Nat) : State.Logs s (s.noteS1 code src addr) :=
  (State.Logs.log s _).modFault _

theorem State.KeepsCal.landResult {s t : State} (h : State.KeepsCal s t) (l : Nat) :
    State.KeepsCal s (t.landResult .lafe l) :=
  ((h.wr (by decide) _ _ _).wr (by decide) _ _ _).wr (by decide) _ _ _

theorem State.KeepsCal.freeSlot {s t : State} (h : State.KeepsCal s t) (l : Nat) : State.KeepsCal s (t.freeSlot l) :=
  .ite ((h.wr (by decide) _ _ _).wr (by decide) _ _ _) h

theorem State.KeepsCal.factoryValues (s : State) (l : Nat) : State.KeepsCal s (s.factoryValues l) := by
  unfold State.factoryValues
  extract_lets put s1 s2
  have h1 : State.KeepsCal s s1 := .foldl (fun _ _ =>
    (((State.KeepsCal.refl _).wr (by decide) _ _ _).wr (by decide) _ _ _).wr (by decide) _ _ _) _ _
  have h2 : State.KeepsCal s s2 := h1.trans (.foldl (fun _ _ =>
    ((State.KeepsCal.refl _).wr (by decide) _ _ _).wr (by decide) _ _ _) _ _)
  exact ((((h2.wr (by decide) _ _ _).wr (by decide) _ _ _).wr (by decide) _ _ _).wr (by decide) _ _ _).wr (by decide) _ _ _

/-! ### The end of an attempt (R231, R232) -/

/-- HOLDOFF concerns one line, and REASON keeps what it shows. -/
theorem State.giveUpCal_spec (s : State) (l : Nat) :
    ((s.giveUpCal l).calX l).st = 6 ∧ (∀ k, (s.giveUpCal l).g LAFE.CAL_STAT.REASON k = s.g LAFE.CAL_STAT.REASON k) ∧
      ∀ k, k ≠ l → (s.giveUpCal l).calX k = s.calX k := by
  unfold State.giveUpCal
  extract_lets x s1 s2 s3
  have h1 : State.KeepsCal s s1 := ((State.KeepsCal.refl s).wr (by decide) _ _ _).trans (State.Logs.pulse _ _ _ _).keepsCal
  have h2 : State.KeepsCal s s2 := .ite (h1.trans (State.Logs.noteS1 _ _ _ _).keepsCal) h1
  have h3 : State.KeepsCal s s3 := .ite (h2.trans (.factoryValues _ l)) h2
  refine ⟨by rw [State.calX_modCal_self], fun k => h3.2 k, fun k hk => ?_⟩
  rw [State.calX_modCal_ne _ hk]
  exact State.calX_of_cal h3.1 k

/-- An attempt that ends shows its reason, is no longer proposed, and concerns its own line alone (R231). -/
theorem State.endCal_spec (s : State) (l : Nat) {r : Nat} (hr : r < 16) :
    ((s.endCal l r).calX l).st ≠ 3 ∧ (s.endCal l r).g LAFE.CAL_STAT.REASON l = r ∧
      ∀ k, k ≠ l → (s.endCal l r).calX k = s.calX k := by
  unfold State.endCal
  extract_lets s1 n s2 s3 s4
  have h3 : State.KeepsCal (s.wr LAFE.CAL_STAT.REASON r l) s3 :=
    .freeSlot (((((State.KeepsCal.refl _).wr (by decide) _ _ _).wr (by decide) _ _ _).landResult l).trans
      (State.Logs.pulse _ _ _ _).keepsCal) l
  have st4 : (s4.calX l).st = 1 := by rw [State.calX_modCal_self]
  have reason4 : s4.g LAFE.CAL_STAT.REASON l = r := by
    rw [State.modCal_g, h3.2, State.g_wr_self]
    exact Nat.mod_eq_of_lt hr
  have others4 : ∀ k, k ≠ l → s4.calX k = s.calX k := fun k hk => by
    rw [State.calX_modCal_ne _ hk]
    exact State.calX_of_cal h3.1 k
  clear_value s4
  split
  · refine ⟨?_, (State.modCal_g _ _ _ _ _ _).trans reason4, fun k hk => (State.calX_modCal_ne _ hk _).trans (others4 k hk)⟩
    rw [State.calX_modCal_self]
    dsimp only
    split <;> decide
  · split
    · obtain ⟨st, reason, others⟩ := s4.giveUpCal_spec l
      exact ⟨by rw [st]; decide, (reason l).trans reason4, fun k hk => (others k hk).trans (others4 k hk)⟩
    · exact ⟨by rw [st4]; decide, reason4, others4⟩

/-! ### A proposal withdrawn (R27, R40, R231) -/

theorem State.finishPost_cal (s : State) (p : Page) (i r : Nat) : (s.finishPost p i r).cal = s.cal := by
  simp [State.finishPost, State.setResult, State.dropPost]

theorem State.dismissMembers_cal (s : State) (r : Nat) : (s.dismissMembers r).cal = s.cal := by
  simp [State.dismissMembers, State.finishPost_cal]

theorem State.withdrawRun_cal (s : State) : s.withdrawRun.cal = s.cal := by
  unfold State.withdrawRun
  refine foldl_cal _ (fun s x => ?_) _ _
  split
  · split
    · exact State.modPort_cal _ _ _
    · rfl
  · rfl

theorem State.endRun_cal (s : State) (r : Nat) : (s.endRun r).cal = s.cal := by
  simp [State.endRun, State.landLocks]

/-- A negotiation that ends changes no calibration. -/
theorem State.abortNeg_cal (s : State) (p : Nat) : (s.abortNeg p).cal = s.cal := by
  simp [State.abortNeg, State.refusePosts, State.endRun_cal, State.dismissMembers_cal, State.withdrawRun_cal,
    State.finishPost_cal]

/-- A proposal that stops ends its attempt, after its negotiation where that is open. -/
theorem State.stopCal_proposed {s : State} {l : Nat} (h : (s.calX l).st = 3) (r : Nat) :
    ∃ u : State, u.cal = s.cal ∧ s.stopCal l r = u.endCal l r := by
  unfold State.stopCal
  simp only [h, if_true]
  rw [if_neg (by decide)]
  refine ⟨_, ?_, rfl⟩
  rw [ite_cal, State.modPort_cal, State.abortNeg_cal, ite_self]

/-! ### The figures of a port (R83, R123) -/

/-- SHOWTIME's SUBSTATE is all that `refreshDegraded` settles of a line. -/
theorem State.refreshDegraded_line {α : Type} {g : LineX → α} (hg : ∀ x v, g { x with sub := v } = g x) (s : State)
    (p k : Nat) : g ((s.refreshDegraded p).line k) = g (s.line k) := by
  refine State.foldl_same (g := fun s => g (s.line k)) (fun s l => ?_) _ _
  dsimp only
  split
  · by_cases hk : k = l
    · rw [hk, State.line_modLine_self, hg]
    · rw [State.line_modLine_ne _ hk]
  · rfl

theorem State.refreshDegraded_cal (s : State) (p : Nat) : (s.refreshDegraded p).cal = s.cal :=
  foldl_cal _ (fun _ _ => by simp) _ _

theorem State.refreshDegraded_ports (s : State) (p : Nat) : (s.refreshDegraded p).ports = s.ports :=
  foldl_ports _ (fun _ _ => by simp) _ _

theorem State.refreshPort_cal (s : State) (p : Nat) : (s.refreshPort p).cal = s.cal := by
  simp [State.refreshPort]

/-- The figures of a port leave the rate it is lowered to as it is. -/
theorem State.refreshPort_lowered (s : State) (p : Nat) : ((s.refreshPort p).port p).lowered = (s.port p).lowered := by
  have h : (s.refreshPort p).ports = (s.modPort p fun x => { x with boundDue := false }).ports := by
    simp [State.refreshPort, State.modPort, State.setPort, State.port]
  rw [State.port_of_ports h, State.port_modPort_self]

/-! ### The commands of a gap (R27) -/

/-- A time of a line that has passed, outside the safe state. -/
theorem runs_passed {l : Nat} (h : l < 128) {c : Instr} {s : State} {f : State → State} {P : State → Prop}
    (he : exec c s = withTimer l s f) (h3 : s.fault.s3 = false) (hp : P (f s)) : s.runsTo c P :=
  runs_line h he (by rwa [h3])

/-- Without the agreement in time the proposal stops. -/
theorem runs_calGapAgreeTimeout {s : State} {l : Nat} (hl : l < 128) (h3 : s.fault.s3 = false) {n : Neg}
    (hn : s.gapNeg l = some n) (ha : n.agreed = false) (hc : n.confirmed = false) (hst : (s.calX l).st = 3)
    (hcome : sfcCome (sfcAdd n.start 8) (s.portSfc (s.anchor l)) = true) {P : State → Prop} (hp : P (s.stopCal l 1)) :
    s.runsTo (.calGapAgreeTimeout l) P := by
  refine runs_passed hl rfl h3 ?_
  simp only [hn, ha, hc, hst, hcome]
  exact hp

/-- From two superframes before it an agreed gap lowers the port to what its lines carry without the frozen one. -/
theorem runs_calGapStampLower {s : State} {l : Nat} (hl : l < 128) (h3 : s.fault.s3 = false) {n : Neg}
    (hn : (s.port (s.anchor l)).neg = some n) (hm : .calGap l ∈ n.changes) (ha : n.agreed = true)
    (hd : sfcFrom (s.portSfc (s.anchor l)) n.target ≤ 2) {P : State → Prop}
    (hp : P (s.modPort (s.anchor l) fun x => { x with
      lowered := some ((s.modLine l fun x => { x with frozen := true }).lineRate (s.anchor l)) })) :
    s.runsTo (.calGapStampLower l) P := by
  have hm : n.changes.contains (.calGap l) = true := List.contains_iff_mem.mpr hm
  have hd : decide (sfcFrom (s.portSfc (s.anchor l)) n.target ≤ 2) = true := decide_eq_true hd
  refine runs_passed hl rfl h3 ?_
  simp only [hn, hm, ha, hd]
  exact hp

/-- A line back from its gap: thawed, its data carried again. -/
def LineX.thawed (x : LineX) : LineX :=
  { x with frozen := false, ohBad := 0, sub := if x.st = .showtime then 0 else x.sub }

/-- A gap is over: the line is back, and the port's figures are its own again (R27 step 7). -/
def State.gapOver (s : State) (l p : Nat) : State :=
  ((((s.modCal l fun x => { x with gap := none, applyHeld := false }).modLine l LineX.thawed).modPort p fun x =>
    { x with lowered := none }).refreshDegraded p).refreshPort p

theorem State.gapOver_spec (s : State) (l p : Nat) :
    ((s.gapOver l p).line l).frozen = false ∧ ((s.gapOver l p).line l).ohBad = 0 ∧
      ((s.gapOver l p).calX l).gap = none ∧ ((s.gapOver l p).port p).lowered = none := by
  unfold State.gapOver
  set t := s.modCal l fun x => { x with gap := none, applyHeld := false }
  set u := (t.modLine l LineX.thawed).modPort p fun x => { x with lowered := none }
  have hline : u.line l = (t.line l).thawed :=
    (State.line_of_lines (State.modPort_lines _ _ _) l).trans (State.line_modLine_self _ _ _)
  have hcal : ((u.refreshDegraded p).refreshPort p).cal = t.cal := by
    rw [State.refreshPort_cal, State.refreshDegraded_cal, State.modPort_cal, State.modLine_cal]
  refine ⟨?_, ?_, ?_, ?_⟩
  · rw [State.line_of_lines (State.refreshPort_lines _ _), State.refreshDegraded_line (g := LineX.frozen) fun _ _ => rfl,
      hline]
    rfl
  · rw [State.line_of_lines (State.refreshPort_lines _ _), State.refreshDegraded_line (g := LineX.ohBad) fun _ _ => rfl,
      hline]
    rfl
  · rw [State.calX, hcal]
    exact congrArg CalX.gap (State.calX_modCal_self s l _)
  · rw [State.refreshPort_lowered, State.port_of_ports (State.refreshDegraded_ports _ _), State.port_modPort_self]

/-- Five superframes on, whatever the run came to, the gap is over. -/
theorem runs_calGapEnd {s : State} {l : Nat} (hl : l < 128) (h3 : s.fault.s3 = false) {since : Nat}
    (hg : (s.calX l).gap = some since) (hf : (s.line l).frozen = true)
    (hcome : sfcCome (sfcAdd since 5) (s.portSfc (s.anchor l)) = true) {P : State → Prop}
    (hp : P (State.gapOver ((if (s.calX l).st = 4 then s.cutRun l 3 else s).gapPeer l) l (s.anchor l))) :
    s.runsTo (.calGapEnd l) P := by
  refine runs_passed hl rfl h3 ?_
  simp only [hg, hf, hcome]
  exact hp

/-! ### The obligation -/

/-- Settles O41: the proposal that stops and the run that REFIN ends by `State.endCal_spec`, the gap's end by
`State.gapOver_spec`; the lowered rate and the start of the run are one update each. -/
theorem calibrationGaps : Obligations.CalibrationGaps := by
  unfold Obligations.CalibrationGaps
  intro s l hl h3
  refine ⟨?_, ?_, ?_, ?_, ?_⟩
  case refine_1 =>
    intro n hn ha hc hst hcome
    obtain ⟨u, hu, hstop⟩ := State.stopCal_proposed hst 1
    obtain ⟨hne, hreason, hothers⟩ := u.endCal_spec l (r := 1) (by decide)
    refine runs_calGapAgreeTimeout hl h3 hn ha hc hst hcome ?_
    rw [hstop]
    exact ⟨hne, hreason, fun k hk => (hothers k hk).trans (State.calX_of_cal hu k)⟩
  case refine_2 =>
    intro n hn hm ha hd
    exact runs_calGapStampLower hl h3 hn hm ha hd
      ⟨State.port_modPort_self _ _ _, rfl, rfl, fun q hq => State.port_modPort_ne _ hq _⟩
  case refine_3 =>
    intro hf hst hr
    refine runs_timer hl rfl h3 (by rw [hf, hst]; rfl) ?_
    rw [if_pos hr]
    exact ⟨State.calX_modCal_self _ _ _, rfl, rfl, fun k hk => State.calX_modCal_ne _ hk _⟩
  case refine_4 =>
    intro hf hst hr
    obtain ⟨hne, hreason, -⟩ := s.endCal_spec l (r := 6) (by decide)
    refine runs_timer hl rfl h3 (by rw [hf, hst]; rfl) ?_
    rw [hr]
    exact ⟨hreason, hne⟩
  case refine_5 =>
    intro since hg hf hcome
    exact runs_calGapEnd hl h3 hg hf hcome (State.gapOver_spec _ l (s.anchor l))

end Sys2Proof.Machine
end

section
/-! One step of the machine (R3 to R5). -/

namespace Sys2Proof.Machine

/-- Settles O1, by the two cases of the queue. -/
theorem stepServesQueue : Obligations.StepServesQueue := by
  unfold Obligations.StepServesQueue
  intro s
  refine ⟨fun c rest => rfl, fun hempty => ?_⟩
  unfold step
  rw [hempty]

end Sys2Proof.Machine
end

section
/-! Array fields written from a list of words: what each word of the field reads, and what the write leaves alone. -/

namespace Sys2Proof.Machine

theorem State.wrWords_g_of_id {F G : Fld} (h : G.id % 2048 ≠ F.id % 2048) (s : State) (i : Nat) (ws : List Nat) (a b : Nat) :
    (s.wrWords F i ws).g G a b = s.g G a b :=
  foldl_g _ _ _ _ (fun _ _ => State.g_wr_of_id h _ _ _ _ _ _) _ _

theorem State.g_foldl_wr_zipIdx (F : Fld) (i : Nat) {j : Nat} (hj : j < 512) (ws : List Nat) (n : Nat) (s : State)
    (h : n + ws.length ≤ 512) :
    ((ws.zipIdx n).foldl (fun s (w, k) => s.wr F w i k) s).g F i j =
      if n ≤ j ∧ j < n + ws.length then ws.getD (j - n) 0 % 2 ^ F.w else s.g F i j := by
  induction ws generalizing n s with
  | nil =>
    rw [if_neg (by simp only [List.length_nil]; omega)]
    rfl
  | cons w ws ih =>
    rw [List.length_cons] at h
    rw [List.zipIdx_cons, List.foldl_cons, ih (n + 1) _ (by omega)]
    simp only [List.length_cons]
    rcases Nat.lt_trichotomy j n with hlt | rfl | hgt
    · rw [if_neg (by omega), if_neg (by omega), State.g_wr_of_word (by omega) (by omega) hj]
    · rw [if_neg (by omega), if_pos (by omega), State.g_wr_self, Nat.sub_self, List.getD_cons_zero]
    · rw [show j - n = j - (n + 1) + 1 by omega, List.getD_cons_succ]
      by_cases hin : j < n + 1 + ws.length
      · rw [if_pos (by omega), if_pos (by omega)]
      · rw [if_neg (by omega), if_neg (by omega), State.g_wr_of_word (by omega) (by omega) hj]

/-- A word of the list reads as it was written, cut to the field's width. -/
theorem State.g_wrWords (s : State) (F : Fld) (i : Nat) {ws : List Nat} (h : ws.length ≤ 512) {j : Nat} (hj : j < ws.length) :
    (s.wrWords F i ws).g F i j = ws.getD j 0 % 2 ^ F.w := by
  unfold State.wrWords
  rw [State.g_foldl_wr_zipIdx F i (by omega) ws 0 s (by omega), if_pos (by omega), Nat.sub_zero]

end Sys2Proof.Machine
end

section
/-! An output sample of the monitor chain on its way to the capture (R185, R190, R193, R195), and the end of a capture (R195, R196). -/

namespace Sys2Proof.Machine

/-! ### A sample on its way through the detectors -/

/-- A field that the detectors show: PEAK, RMS and ENV (R193). -/
def Fld.detects (F : Fld) : Bool := decide (467 ≤ F.id % 2048) && decide (F.id % 2048 ≤ 470)

/-- From `s` to `t` the chain of line `l` came on by a sample, short of its capture and its settings. -/
structure State.Sampled (l : Nat) (s t : State) : Prop where
  lines : t.lines = s.lines
  time : t.time = s.time
  others : ∀ k, k ≠ l → t.monX k = s.monX k
  cap : (t.monX l).cap = (s.monX l).cap
  owner : (t.monX l).owner = (s.monX l).owner
  preset : (t.monX l).preset = (s.monX l).preset
  nco : (t.monX l).nco = (s.monX l).nco
  regs : ∀ (G : Fld) (a b : Nat), G.event = false → G.detects = false → t.g G a b = s.g G a b

theorem State.Sampled.refl (l : Nat) (s : State) : State.Sampled l s s :=
  ⟨rfl, rfl, fun _ _ => rfl, rfl, rfl, rfl, rfl, fun _ _ _ _ _ => rfl⟩

theorem State.Sampled.trans {l : Nat} {s t u : State} (h : State.Sampled l s t) (k : State.Sampled l t u) :
    State.Sampled l s u :=
  ⟨k.lines.trans h.lines, k.time.trans h.time, fun i hi => (k.others i hi).trans (h.others i hi), k.cap.trans h.cap,
    k.owner.trans h.owner, k.preset.trans h.preset, k.nco.trans h.nco,
    fun G a b he hd => (k.regs G a b he hd).trans (h.regs G a b he hd)⟩

theorem State.monX_modMon_ne (s : State) {l k : Nat} (h : k ≠ l) (f : MonX → MonX) : (s.modMon l f).monX k = s.monX k := by
  simp [State.monX, State.modMon, Store.get_set_ne _ _ _ _ h]

theorem State.monX_of_mon {s t : State} (h : t.mon = s.mon) (k : Nat) : t.monX k = s.monX k := by
  unfold State.monX
  rw [h]

theorem State.Sampled.modMon (s : State) (l : Nat) {f : MonX → MonX} (hc : ∀ x, (f x).cap = x.cap)
    (ho : ∀ x, (f x).owner = x.owner) (hp : ∀ x, (f x).preset = x.preset) (hn : ∀ x, (f x).nco = x.nco) :
    State.Sampled l s (s.modMon l f) :=
  ⟨rfl, rfl, fun _ hk => State.monX_modMon_ne _ hk _, by rw [State.monX_modMon_self, hc],
    by rw [State.monX_modMon_self, ho], by rw [State.monX_modMon_self, hp], by rw [State.monX_modMon_self, hn],
    fun _ _ _ _ _ => rfl⟩

/-- What leaves the chains, the lines and the time alone and writes at most events and detectors. -/
theorem State.Sampled.of_regs {l : Nat} {s t : State} (hm : t.mon = s.mon) (hl : t.lines = s.lines) (ht : t.time = s.time)
    (hr : ∀ (G : Fld) (a b : Nat), G.event = false → G.detects = false → t.g G a b = s.g G a b) : State.Sampled l s t :=
  ⟨hl, ht, fun k _ => State.monX_of_mon hm k, by rw [State.monX_of_mon hm], by rw [State.monX_of_mon hm],
    by rw [State.monX_of_mon hm], by rw [State.monX_of_mon hm], hr⟩

theorem State.Sampled.pulse (s : State) (l n : Nat) : State.Sampled l s (s.pulse .lmon l n) :=
  .of_regs (by simp) (by simp) (by simp) fun _ _ _ he _ => State.pulse_g he _ _ _ _ _ _

theorem State.Sampled.cond (s : State) (l n : Nat) (on : Bool) : State.Sampled l s (s.cond .lmon l n on) :=
  .of_regs (by simp) (by simp) (by simp) fun _ _ _ he _ => State.cond_g he _ _ _ _ _ _ _

theorem State.Sampled.wr (s : State) (l : Nat) {F : Fld} (hF : F.detects = true) (v i j : Nat) :
    State.Sampled l s (s.wr F v i j) :=
  .of_regs rfl rfl rfl fun G a b _ hG => State.g_wr_of_id (fun e => by
    unfold Fld.detects at hF hG
    rw [e, hF] at hG
    cases hG) _ _ _ _ _ _

theorem State.Sampled.countFade (s : State) (l : Nat) : State.Sampled l s (s.countFade l) := by
  unfold State.countFade
  dsimp only
  split
  · exact .refl l s
  · split
    · exact .modMon s l (fun _ => rfl) (fun _ => rfl) (fun _ => rfl) fun _ => rfl
    · refine .trans (.modMon s l ?_ ?_ ?_ ?_) (.pulse _ l 5) <;> exact fun x => by split <;> rfl

theorem State.Sampled.endBlock (s : State) (l : Nat) : State.Sampled l s (s.endBlock l) := by
  unfold State.endBlock
  dsimp only
  split
  · exact .refl l s
  · exact ((State.Sampled.wr s l rfl _ _ _).trans (.wr _ l rfl _ _ _)).trans
      (.modMon _ l (fun _ => rfl) (fun _ => rfl) (fun _ => rfl) fun _ => rfl)

theorem State.Sampled.showDetectors (s : State) (l : Nat) : State.Sampled l s (s.showDetectors l) := by
  unfold State.showDetectors
  exact ((((State.Sampled.wr s l rfl _ _ _).trans (.wr _ l rfl _ _ _)).trans (.cond _ l 1 _)).trans (.cond _ l 2 _)).trans
    (.cond _ l 3 _)

/-- A valid output sample comes to the capture, past the fade and the detectors (R188, R190, R193). -/
theorem State.emit_valid {s : State} {l : Nat} (hs : (s.monX l).settle = 0) (he : s.enabled .lmon l = true) (back : Nat)
    (y : Cx) : ∃ u, State.Sampled l s u ∧ s.emit l back y = u.captureSample l back y := by
  have hf := State.Sampled.countFade s l
  have hsettle : ((s.countFade l).monX l).settle = 0 := by
    rw [← hs]
    unfold State.countFade
    dsimp only
    split
    · rfl
    · split
      · rw [State.monX_modMon_self]
      · rw [State.monX_of_mon (State.pulse_mon _ _ _ _), State.monX_modMon_self]
        split <;> rfl
  have hon : (s.countFade l).enabled .lmon l = true := by
    unfold State.enabled
    rw [hf.regs _ _ _ rfl rfl]
    exact he
  unfold State.emit
  simp only [hsettle, hon, bne_self_eq_false, Bool.not_true, Bool.or_self, Bool.false_eq_true, if_false]
  refine ⟨_, ?_, rfl⟩
  refine ((((hf.trans (.modMon _ l ?_ ?_ ?_ ?_)).trans (.cond _ l 4 true)).trans (.modMon _ l ?_ ?_ ?_ ?_)).trans
    (.endBlock _ l)).trans (.showDetectors _ l) <;> exact fun _ => rfl

/-- STEP's registers after the last of its 2,048 mixer outputs, with the mixer's phase then. -/
def MonX.stepDone (phase : Nat) (x : MonX) : MonX := { x with phase := phase, integ := [Cx.zero], ticks := 0 }

/-- In STEP the 2,048th ADC code gives an output sample (R183, R185). -/
theorem State.feed_last {s : State} {l : Nat} (ht : s.lastTick l = true) (hp : s.chainPreset l = 4) (code : Int) :
    s.feed l [code] = (s.modMon l (MonX.stepDone (((s.monX l).phase + s.chainNco l) % 2 ^ 32))).emit l 0
      (s.stepOut l code) := by
  simp only [State.lastTick, hp, if_true, Bool.and_eq_true, beq_iff_eq] at ht
  obtain ⟨hon, hticks⟩ := ht
  unfold State.feed
  simp only [hon, if_true, List.zipIdx_cons, List.zipIdx_nil, List.foldl_cons, List.foldl_nil, State.feedSample, hp, hticks]
  rfl

/-- Where the chain runs in STEP, the code that completes a valid output sample brings it to the capture. -/
theorem State.feed_captures {s : State} {l : Nat} (ht : s.lastTick l = true) (hp : s.chainPreset l = 4)
    (hs : (s.monX l).settle = 0) (he : s.enabled .lmon l = true) (code : Int) :
    ∃ u, State.Sampled l s u ∧ s.feed l [code] = u.captureSample l 0 (s.stepOut l code) := by
  rw [State.feed_last ht hp]
  set t := s.modMon l (MonX.stepDone (((s.monX l).phase + s.chainNco l) % 2 ^ 32))
  have hm : State.Sampled l s t := .modMon s l (fun _ => rfl) (fun _ => rfl) (fun _ => rfl) fun _ => rfl
  have hsettle : (t.monX l).settle = 0 := by
    rw [State.monX_modMon_self]
    exact hs
  obtain ⟨u, hu, hemit⟩ := State.emit_valid hsettle he 0 (s.stepOut l code)
  exact ⟨u, hm.trans hu, hemit⟩

/-! ### The capture -/

/-- The owner of the chain, its preset and its frequency are those before the sample. -/
theorem State.Sampled.chainPreset {l : Nat} {s t : State} (h : State.Sampled l s t) : t.chainPreset l = s.chainPreset l := by
  unfold State.chainPreset
  rw [h.owner, h.preset, h.regs LMON.CHAIN.PRESET l 0 rfl rfl]

theorem State.Sampled.chainNco {l : Nat} {s t : State} (h : State.Sampled l s t) : t.chainNco l = s.chainNco l := by
  unfold State.chainNco
  rw [h.owner, h.nco, h.regs LMON.NCO.FREQ l 0 rfl rfl]

/-- The capture of a line is over: its result has landed with a reason and the words taken (R48, R195, R196). -/
structure State.Captured (s : State) (l reason : Nat) (ws : List Nat) (t : State) : Prop where
  cap : (t.monX l).cap = none
  reason_shown : t.g LMON.CAP_STAT.REASON l = reason
  count_shown : t.g LMON.CAP_STAT.N l = ws.length
  area : ∀ i, i < 512 → t.g LMON.CAP.I l i = bits (ws.getD i 0) 16 16 ∧ t.g LMON.CAP.Q l i = bits (ws.getD i 0) 0 16
  busy : t.g (HDR.PAGE_STAT.BUSY .lmon) l = 0
  seq : t.g (HDR.RESULT_SEQ.SEQ .lmon) l = nextSeq (s.g (HDR.RESULT_SEQ.SEQ .lmon) l) % 2 ^ 16
  lines : t.lines = s.lines
  others : ∀ k, k ≠ l → t.monX k = s.monX k

theorem State.finishCapture_captured {s : State} {l : Nat} {c : Capture} (hc : (s.monX l).cap = some c) {reason : Nat}
    (hr : reason < 16) {ws : List Nat} (hw : ws.length ≤ 512) : s.Captured l reason ws (s.finishCapture l reason ws) := by
  have hword (n i : Nat) (hi : i < 512) (u : State) (F : Fld) (hF : F.w = 16) :
      (u.wrWords F l ((List.range 512).map fun i => bits (ws.getD i 0) n 16)).g F l i = bits (ws.getD i 0) n 16 := by
    rw [State.g_wrWords _ _ _ (by simp) (by simpa using hi), hF]
    simp only [List.getD_eq_getElem?_getD, List.getElem?_map, List.getElem?_range hi, Option.map_some, Option.getD_some, bits]
    exact Nat.mod_mod _ _
  unfold State.finishCapture
  simp only [hc]
  constructor
  case cap => rw [State.monX_of_mon (State.pulse_mon _ _ _ _), State.monX_of_mon (State.landResult_mon _ _ _),
    State.monX_modMon_self]
  case lines => simp
  case others =>
    intro k hk
    rw [State.monX_of_mon (State.pulse_mon _ _ _ _), State.monX_of_mon (State.landResult_mon _ _ _),
      State.monX_modMon_ne _ hk]
    exact State.monX_of_mon (by simp) k
  all_goals unfold State.landResult
  case reason_shown =>
    simp (disch := decide) only [State.pulse_g, State.g_wr_of_id, State.modMon_g, State.g_wr_self]
    exact Nat.mod_eq_of_lt hr
  case count_shown =>
    simp (disch := decide) only [State.pulse_g, State.g_wr_of_id, State.modMon_g, State.g_wr_self]
    exact Nat.mod_eq_of_lt (Nat.lt_of_le_of_lt hw (by decide))
  case area =>
    intro i hi
    simp (disch := decide) only [State.pulse_g, State.g_wr_of_id, State.wrWords_g_of_id, State.modMon_g]
    exact ⟨hword 16 i hi _ _ rfl, hword 0 i hi _ _ rfl⟩
  case busy =>
    simp (disch := decide) only [State.pulse_g, State.g_wr_of_id, State.g_wr_self]
    rfl
  case seq =>
    simp (disch := decide) only [State.pulse_g, State.g_wr_of_id, State.wrWords_g_of_id, State.modMon_g, State.g_wr_self]
    rfl

/-- What is shown of a capture that ends with the sample on its way is counted from the state before the sample. -/
theorem State.Captured.of_sampled {s u t : State} {l reason : Nat} {ws : List Nat} (h : State.Sampled l s u)
    (k : u.Captured l reason ws t) : s.Captured l reason ws t :=
  ⟨k.cap, k.reason_shown, k.count_shown, k.area, k.busy, by rw [k.seq, h.regs _ _ _ rfl rfl], k.lines.trans h.lines,
    fun i hi => (k.others i hi).trans (h.others i hi)⟩

/-- A capture that starts keeps the preset, owner and frequency of the moment, and the sample's postmark (R195). -/
def Capture.begun (c : Capture) (preset owner nco ns sec word : Nat) : Capture :=
  { c with started := true, preset := preset, owner := owner, nco := nco, ns := ns, sec := sec, taken := c.taken ++ [word] }

theorem State.captureSample_starts {s : State} {l : Nat} {c : Capture} (hc : (s.monX l).cap = some c)
    (hs : c.started = false) (ht : s.triggered l c = true) (hn : c.taken.length + 1 < c.count) (back : Nat) (y : Cx) :
    ∃ ns sec, s.captureSample l back y = s.modMon l fun x => { x with
      cap := some (c.begun (s.chainPreset l) (s.monX l).owner (s.chainNco l) ns sec (sampleWord y)) } := by
  unfold State.captureSample
  simp only [hc, hs, ht, Bool.not_true, Bool.and_false, Bool.false_eq_true, if_false, List.length_append, List.length_singleton]
  rw [if_neg (by omega)]
  exact ⟨_, _, rfl⟩

theorem State.captureSample_ends {s : State} {l : Nat} {c : Capture} (hc : (s.monX l).cap = some c)
    (hs : c.started = true) (hn : c.taken.length + 1 = c.count) (hle : c.count ≤ 512) (back : Nat) (y : Cx) :
    s.Captured l 0 (c.taken ++ [sampleWord y]) (s.captureSample l back y) := by
  set d : Capture := { c with started := true, taken := c.taken ++ [sampleWord y] }
  set u := s.modMon l fun x => { x with cap := some d }
  have hlen : d.taken.length = d.count := by simpa [d] using hn
  have hd : (u.monX l).cap = some d := by rw [State.monX_modMon_self]
  have he : s.captureSample l back y = u.finishCapture l 0 d.taken := by
    unfold State.captureSample
    simp only [hc, hs, Bool.not_true, Bool.false_and, Bool.false_eq_true, if_false, if_true]
    exact if_pos hlen
  have hend := u.finishCapture_captured hd (reason := 0) (by decide) (ws := d.taken) (by rw [hlen]; exact hle)
  rw [he]
  exact ⟨hend.cap, hend.reason_shown, hend.count_shown, hend.area, hend.busy, hend.seq, hend.lines,
    fun k hk => (hend.others k hk).trans (State.monX_modMon_ne _ hk _)⟩

/-! ### The obligation -/

/-- Settles O16: the sample comes to the capture by `State.feed_captures`; its start is one update of the chain, and each end
lands the result of `State.Captured`. -/
theorem captures : Obligations.Captures := by
  unfold Obligations.Captures
  intro s l c hl hc
  refine ⟨fun code ht hp hs he => ⟨fun hst htrig hn hd => ?_, fun hst hn hle hd => ?_⟩, fun hst h3 => ?_⟩
  · obtain ⟨u, hu, hfeed⟩ := State.feed_captures ht hp hs he code
    have htr : u.triggered l c = true := by
      rcases htrig with h0 | ⟨h1, hsync⟩
      · simp [State.triggered, h0]
      · simp [State.triggered, h1, hsync]
    obtain ⟨ns, sec, hcap⟩ := State.captureSample_starts (hu.cap.trans hc) hst htr hn 0 (s.stepOut l code)
    rw [hu.chainPreset, hu.chainNco, hu.owner, hp] at hcap
    refine runs_line hl rfl ?_
    rw [hd, when_true, hfeed, hcap]
    exact ⟨⟨ns, sec, congrArg MonX.cap (State.monX_modMon_self _ _ _)⟩, hu.lines,
      fun k hk => (State.monX_modMon_ne _ hk _).trans (hu.others k hk)⟩
  · obtain ⟨u, hu, hfeed⟩ := State.feed_captures ht hp hs he code
    have hend := (State.captureSample_ends (hu.cap.trans hc) hst hn hle 0 (s.stepOut l code)).of_sampled hu
    refine runs_line hl rfl ?_
    rw [hd, when_true, hfeed]
    exact ⟨hend.cap, hend.reason_shown, hend.count_shown.trans (by simpa using hn), hend.area, hend.busy, hend.seq,
      hend.lines, hend.others⟩
  · have hend := s.finishCapture_captured hc (reason := 1) (by decide) (ws := []) (by simp)
    refine runs_line hl rfl ?_
    simp only [h3, hc, hst, Bool.not_false, when_true]
    exact ⟨hend.cap, hend.reason_shown, hend.count_shown, hend.busy, hend.lines, hend.others⟩

end Sys2Proof.Machine
end

section
/-! What a change of the monitor chain's owner leaves alone, and the results of a reflectometry run (R187, R189, R202, R203, R228). -/

namespace Sys2Proof.Machine

/-! ### The monitor chain leaves the runs alone -/

/-- A field of an LMON page, its header among them. -/
def Fld.monitors (F : Fld) : Bool :=
  decide (445 ≤ F.id % 2048 ∧ F.id % 2048 ≤ 511) || decide (F.id % 2048 / 32 = 24 + Page.lmon.code)

/-- From `s` to `t` the reflectometry runs stayed, and every field but those of LMON pages and of events. -/
def State.Monitored (s t : State) : Prop :=
  t.refl = s.refl ∧ ∀ (G : Fld) (a b : Nat), G.event = false → G.monitors = false → t.g G a b = s.g G a b

theorem State.Monitored.refl (s : State) : State.Monitored s s := ⟨rfl, fun _ _ _ _ _ => rfl⟩

theorem State.Monitored.trans {s t u : State} (h : State.Monitored s t) (k : State.Monitored t u) : State.Monitored s u :=
  ⟨k.1.trans h.1, fun G a b he hm => (k.2 G a b he hm).trans (h.2 G a b he hm)⟩

theorem State.g_wr_of_monitors {F G : Fld} (hF : F.monitors = true) (hG : G.monitors = false) (s : State) (v i j a b : Nat) :
    (s.wr F v i j).g G a b = s.g G a b :=
  State.g_wr_of_id (fun e => by
    unfold Fld.monitors at hF hG
    rw [e, hF] at hG
    cases hG) _ _ _ _ _ _

theorem State.Monitored.wr {s t : State} (h : State.Monitored s t) {F : Fld} (hF : F.monitors = true) (v i j : Nat) :
    State.Monitored s (t.wr F v i j) :=
  h.trans ⟨rfl, fun _ _ _ _ hG => State.g_wr_of_monitors hF hG _ _ _ _ _ _⟩

theorem State.Monitored.wrWords {s t : State} (h : State.Monitored s t) {F : Fld} (hF : F.monitors = true) (i : Nat)
    (ws : List Nat) : State.Monitored s (t.wrWords F i ws) :=
  h.trans ⟨by simp, fun _ _ _ _ hG => foldl_g _ _ _ _ (fun _ _ => State.g_wr_of_monitors hF hG _ _ _ _ _ _) _ _⟩

theorem State.Monitored.modMon {s t : State} (h : State.Monitored s t) (l : Nat) (f : MonX → MonX) :
    State.Monitored s (t.modMon l f) := h.trans ⟨rfl, fun _ _ _ _ _ => rfl⟩

theorem State.Monitored.pulse {s t : State} (h : State.Monitored s t) (p : Page) (l n : Nat) :
    State.Monitored s (t.pulse p l n) :=
  h.trans ⟨by simp, fun _ _ _ he _ => State.pulse_g he _ _ _ _ _ _⟩

theorem State.Monitored.cond {s t : State} (h : State.Monitored s t) (p : Page) (l n : Nat) (on : Bool) :
    State.Monitored s (t.cond p l n on) :=
  h.trans ⟨by simp, fun _ _ _ he _ => State.cond_g he _ _ _ _ _ _ _⟩

theorem State.Monitored.landResult {s t : State} (h : State.Monitored s t) (l : Nat) :
    State.Monitored s (t.landResult .lmon l) :=
  ((h.wr rfl _ _ _).wr rfl _ _ _).wr rfl _ _ _

theorem State.Monitored.finishCapture {s t : State} (h : State.Monitored s t) (l reason : Nat) (ws : List Nat) :
    State.Monitored s (t.finishCapture l reason ws) := by
  unfold State.finishCapture
  split
  · exact h
  · exact ((((((((((h.wrWords rfl _ _).wrWords rfl _ _).wr rfl _ _ _).wr rfl _ _ _).wr rfl _ _ _).wr rfl _ _ _).wr
      rfl _ _ _).wr rfl _ _ _).wr rfl _ _ _).modMon l _).landResult l |>.pulse .lmon l 0

theorem State.Monitored.cutCapture {s t : State} (h : State.Monitored s t) (l reason : Nat) :
    State.Monitored s (t.cutCapture l reason) := by
  unfold State.cutCapture
  split
  · exact h
  · exact h.finishCapture l reason _

theorem State.Monitored.showDetectors {s t : State} (h : State.Monitored s t) (l : Nat) :
    State.Monitored s (t.showDetectors l) :=
  ((((h.wr rfl _ _ _).wr rfl _ _ _).cond .lmon l 1 _).cond .lmon l 2 _).cond .lmon l 3 _

theorem State.Monitored.landSync (s : State) (l : Nat) : State.Monitored s (s.landSync l) := by
  unfold State.landSync
  extract_lets s1 s2 preset s3 s4
  have h1 : State.Monitored s s1 := by
    simp only [s1]
    split
    · split
      · exact (State.Monitored.refl s).cutCapture l 2
      · exact (State.Monitored.refl s).modMon l _
    · exact .refl s
  have h2 : State.Monitored s s2 := by
    simp only [s2]
    split
    · exact h1.wr rfl _ _ _
    · exact h1
  exact (((((((h2.modMon l _).wr rfl _ _ _).wr rfl _ _ _).wr rfl _ _ _).wr rfl _ _ _).cond .lmon l 4 false)).showDetectors l

/-- A change of owner is at most a synchronising reset (R187, R189). -/
theorem State.Monitored.refreshOwner {s t : State} (h : State.Monitored s t) (l : Nat) :
    State.Monitored s (t.refreshOwner l) := by
  unfold State.refreshOwner
  extract_lets o x w pr
  split
  · exact h.modMon l _
  · exact (h.modMon l _).trans (.landSync _ l)

/-! ### The result words of LDIAG at 0 (R203) -/

/-- A property that one element of a list brings about and every element keeps holds after the whole list. -/
theorem foldl_reaches {β : Type} {P : State → Prop} {f : State → β → State} {l : List β} (hkeep : ∀ s, ∀ b ∈ l, P s → P (f s b))
    {c : β} (hc : c ∈ l) (hmake : ∀ s, P (f s c)) (s : State) : P (l.foldl f s) := by
  have hall (l : List β) (hl : ∀ s, ∀ b ∈ l, P s → P (f s b)) (s : State) (h : P s) : P (l.foldl f s) := by
    induction l generalizing s with
    | nil => exact h
    | cons b l ih => exact ih (fun s b hb => hl s b (List.mem_cons_of_mem _ hb)) _ (hl s b List.mem_cons_self h)
  induction l generalizing s with
  | nil => cases hc
  | cons b l ih =>
    have htail : ∀ s, ∀ b ∈ l, P s → P (f s b) := fun s b hb => hkeep s b (List.mem_cons_of_mem _ hb)
    rcases List.mem_cons.1 hc with rfl | hm
    · exact hall l htail _ (hmake s)
    · exact ih htail hm _

/-- A write of 0 of this field or another keeps a word of the field at 0. -/
theorem State.g_zero_wr_zero {F G : Fld} (hinj : G.id % 2048 = F.id % 2048 → G = F) (hr : ∀ j, F.reset j = F.rst) {s : State}
    {i k : Nat} (h : s.g F i k = 0) (j : Nat) : (s.wr G 0 i j).g F i k = 0 := by
  by_cases hid : G.id % 2048 = F.id % 2048
  · rw [hinj hid, State.g_wr_of_reset ((hr k).trans (hr j).symm)]
    split
    · exact Nat.zero_mod _
    · exact h
  · rw [State.g_wr_of_id (Ne.symm hid)]
    exact h

theorem ldiag_reset {F : Fld} (h : F.page = .ldiag) (j : Nat) : F.reset j = F.rst := by simp [Fld.reset, h]

theorem ldiag_ids : ∀ G ∈ blockFields .ldiag, G.id % 2048 = LDIAG.RSTAT.REASON.id % 2048 → G = LDIAG.RSTAT.REASON := by
  decide +kernel

/-- The reason of a run is among the words that go to 0. -/
theorem State.blankReflect_reason (s : State) (l : Nat) : (s.blankReflect l).g LDIAG.RSTAT.REASON l = 0 := by
  have hzero {G : Fld} (hG : G ∈ blockFields .ldiag) {u : State} (h : u.g LDIAG.RSTAT.REASON l = 0) (j : Nat) :
      (u.wr G 0 l j).g LDIAG.RSTAT.REASON l = 0 := State.g_zero_wr_zero (ldiag_ids G hG) (ldiag_reset rfl) h j
  have hmem : LDIAG.RSTAT.REASON ∈ blockFields .ldiag := by decide +kernel
  refine foldl_reaches (P := fun u => u.g LDIAG.RSTAT.REASON l = 0) (fun u G hG h => ?_) hmem (fun u => ?_) s
  · split
    · exact List.foldlRecOn (motive := fun v : State => v.g LDIAG.RSTAT.REASON l = 0) _ _ h fun v hv j _ => hzero hG hv j
    · exact h
  · exact State.g_wr_self _ _ _ _ _

/-- No header field goes to 0 with the result words. -/
theorem State.blankReflect_g {G : Fld} (hG : 768 ≤ G.id % 2048) (s : State) (l a b : Nat) :
    (s.blankReflect l).g G a b = s.g G a b := by
  have hid : ∀ F ∈ blockFields .ldiag, F.id % 2048 < 768 := by decide +kernel
  refine List.foldlRecOn (motive := fun u : State => u.g G a b = s.g G a b) _ _ rfl fun u hu F hF => ?_
  have := hid F hF
  split
  · exact (foldl_g _ _ _ _ (fun _ _ => State.g_wr_of_id (by omega) _ _ _ _ _ _) _ _).trans hu
  · exact hu

theorem State.blankReflect_refl (s : State) (l : Nat) : (s.blankReflect l).refl = s.refl := by
  unfold State.blankReflect
  refine foldl_refl _ (fun u F => ?_) _ _
  split
  · exact foldl_refl (fun u j => u.wr F 0 l j) (fun _ _ => rfl) _ _
  · rfl

/-! ### The ends of a run -/

theorem State.freeSlot_refl (s : State) (l : Nat) : (s.freeSlot l).refl = s.refl := by
  unfold State.freeSlot
  dsimp only
  split
  · rfl
  · rfl

theorem State.freeSlot_g {G : Fld} (h1 : G.id % 2048 ≠ CALMGR.SLOT.KIND.id % 2048)
    (h2 : G.id % 2048 ≠ CALMGR.SLOT.LINE.id % 2048) (s : State) (l a b : Nat) : (s.freeSlot l).g G a b = s.g G a b := by
  unfold State.freeSlot
  dsimp only
  split
  · exact (State.g_wr_of_id h2 _ _ _ _ _ _).trans (State.g_wr_of_id h1 _ _ _ _ _ _)
  · rfl

/-- The run of a line is over: its reason is shown, no request of LDIAG is in progress, the other runs go on (R48, R203). -/
structure State.ReflectEnded (s : State) (l reason : Nat) (t : State) : Prop where
  gone : t.refl.find l = none
  reason_shown : t.g LDIAG.RSTAT.REASON l = reason
  busy : t.g (HDR.PAGE_STAT.BUSY .ldiag) l = 0
  seq : t.g (HDR.RESULT_SEQ.SEQ .ldiag) l = nextSeq (s.g (HDR.RESULT_SEQ.SEQ .ldiag) l) % 2 ^ 16
  lines : t.lines = s.lines
  others : ∀ k, k ≠ l → t.refl.find k = s.refl.find k

theorem State.endReflect_ended (s : State) (l : Nat) {reason : Nat} (hr : reason < 16) :
    s.ReflectEnded l reason (s.endReflect l reason) := by
  unfold State.endReflect
  extract_lets band s1 s2 s3
  have r1 : s1.refl = s.refl := by
    simp only [s1]
    split
    · exact State.freeSlot_refl _ _
    · rfl
  have seq1 : s1.g (HDR.RESULT_SEQ.SEQ .ldiag) l = s.g (HDR.RESULT_SEQ.SEQ .ldiag) l := by
    simp only [s1]
    split
    · exact State.freeSlot_g (by decide) (by decide) _ _ _ _
    · rfl
  have hlines : s1.lines = s.lines := by
    simp only [s1]
    split
    · exact State.freeSlot_lines _ _
    · rfl
  have r3 : s3.refl = s.refl.erase l := by
    simp only [s3, State.wr_refl, State.blankReflect_refl, s2, r1]
  have hm : State.Monitored ((s3.landResult .ldiag l).pulse .ldiag l 1)
      (((s3.landResult .ldiag l).pulse .ldiag l 1).refreshOwner l) := (State.Monitored.refl _).refreshOwner l
  have hrefl : (((s3.landResult .ldiag l).pulse .ldiag l 1).refreshOwner l).refl = s.refl.erase l := by
    rw [hm.1, State.pulse_refl, State.landResult_refl, r3]
  constructor
  case gone => rw [hrefl, Store.find_erase_self]
  case others => exact fun k hk => by rw [hrefl, Store.find_erase_ne _ hk]
  case lines => simp [s3, s2, hlines]
  case reason_shown =>
    rw [hm.2 LDIAG.RSTAT.REASON _ _ rfl rfl]
    unfold State.landResult
    simp (disch := decide) only [s3, State.pulse_g, State.g_wr_of_id, State.g_wr_self]
    exact Nat.mod_eq_of_lt hr
  case busy =>
    rw [hm.2 (HDR.PAGE_STAT.BUSY .ldiag) _ _ rfl rfl]
    unfold State.landResult
    simp (disch := decide) only [State.pulse_g, State.g_wr_of_id, State.g_wr_self]
    rfl
  case seq =>
    rw [hm.2 (HDR.RESULT_SEQ.SEQ .ldiag) _ _ rfl rfl]
    unfold State.landResult
    simp (disch := decide) only [s3, State.pulse_g, State.g_wr_of_id, State.g_wr_self, State.blankReflect_g]
    exact congrArg (fun n => nextSeq n % 2 ^ 16) seq1

/-- A completed run gives its slot up, the run is gone, and the chain's owner follows (R187, R202). -/
theorem State.completedRun_spec (s : State) (l : Nat) :
    (({ s.freeSlot l with refl := s.refl.erase l } : State).refreshOwner l).refl.find l = none ∧
      ∀ G : Fld, G.event = false → G.monitors = false → G.id % 2048 ≠ CALMGR.SLOT.KIND.id % 2048 →
        G.id % 2048 ≠ CALMGR.SLOT.LINE.id % 2048 →
        (({ s.freeSlot l with refl := s.refl.erase l } : State).refreshOwner l).g G l = s.g G l := by
  have hm := (State.Monitored.refl { s.freeSlot l with refl := s.refl.erase l }).refreshOwner l
  refine ⟨?_, fun G he hmon hk hl => (hm.2 G l 0 he hmon).trans (State.freeSlot_g hk hl s l l 0)⟩
  rw [hm.1]
  exact Store.find_erase_self _ _

/-- A completed run leaves REASON at OK and shows its band (R202 steps 8 and 9). -/
theorem State.landReflect_ended (s : State) (l : Nat) (r : ReflX) (run : ReflectRun) :
    (s.landReflect l r run).refl.find l = none ∧ (s.landReflect l r run).g LDIAG.RSTAT.REASON l = 0 ∧
      (s.landReflect l r run).g LDIAG.RSTAT.BAND l = r.band % 2 ^ 2 ∧
      (s.landReflect l r run).g (HDR.PAGE_STAT.BUSY .ldiag) l = 0 := by
  unfold State.landReflect
  extract_lets points hits list len cfg own meas vf dist stopAt s0 s1 s2 s3 s4 s5 s6 loss s7 s8 s9 pt s10 changed s11 s12
  obtain ⟨hgone, h⟩ := s12.completedRun_spec l
  have h10 (G : Fld) (h0 : G.id % 2048 ≠ LDIAG.PROFILE.ATT0.id % 2048) (h1 : G.id % 2048 ≠ LDIAG.PROFILE.POL0.id % 2048)
      (h2 : G.id % 2048 ≠ LDIAG.PROFILE.ATT1.id % 2048) (h3 : G.id % 2048 ≠ LDIAG.PROFILE.POL1.id % 2048) :
      s10.g G l = s9.g G l := by
    refine foldl_g _ _ _ _ (fun _ _ => ?_) _ _
    rw [State.g_wr_of_id h3, State.g_wr_of_id h2, State.g_wr_of_id h1, State.g_wr_of_id h0]
  have h6 (G : Fld) (h0 : G.id % 2048 ≠ LDIAG.FAULT.VALID.id % 2048) (h1 : G.id % 2048 ≠ LDIAG.FAULT.POLARITY.id % 2048)
      (h2 : G.id % 2048 ≠ LDIAG.FAULT.LEVEL.id % 2048) (h3 : G.id % 2048 ≠ LDIAG.FAULT.DIST.id % 2048) :
      s6.g G l = s5.g G l := by
    refine foldl_g _ _ _ _ (fun _ _ => ?_) _ _
    rw [State.g_wr_of_id h3, State.g_wr_of_id h2, State.g_wr_of_id h1, State.g_wr_of_id h0]
  refine ⟨hgone, ?_, ?_, ?_⟩
  · rw [h LDIAG.RSTAT.REASON rfl rfl (by decide) (by decide)]
    simp (disch := decide) only [s12, State.landResult, State.edges_g, State.g_wr_of_id, s11, State.modMon_g, h10, s9, s8, s7,
      h6, s5, s4, s3, s2, s1]
    exact State.blankReflect_reason s l
  · rw [h LDIAG.RSTAT.BAND rfl rfl (by decide) (by decide)]
    simp (disch := decide) only [s12, State.landResult, State.edges_g, State.g_wr_of_id, s11, State.modMon_g, h10, s9, s8, s7,
      h6, s5, s4, s3, s2, s1, State.g_wr_self]
    rfl
  · rw [h (HDR.PAGE_STAT.BUSY .ldiag) rfl rfl (by decide) (by decide)]
    simp (disch := decide) only [s12, State.landResult, State.edges_g, State.g_wr_of_id, State.g_wr_self]
    rfl

/-! ### The obligation -/

/-- The cluster's slot taken by a line. -/
theorem State.setSlot_shown (s : State) (c kind l : Nat) :
    (s.setSlot c kind l).g CALMGR.SLOT.KIND 0 c = kind % 4 ∧ (s.setSlot c kind l).g CALMGR.SLOT.LINE 0 c = l % 128 := by
  refine ⟨?_, State.g_wr_self _ _ _ _ _⟩
  exact (State.g_wr_of_id (by decide) _ _ _ _ _ _).trans (State.g_wr_self _ _ _ _ _)

/-- A run ends by PARTNER_ACTIVE over −70 dBm, else by its reason (R202). -/
theorem runs_reflectDone_cut {s : State} {l : Nat} (hl : l < 128) {r : ReflX} (hr : s.refl.find l = some r) {reason : Nat}
    {run : ReflectRun} (hbad : reason ≠ 0 ∨ -700 < run.power) (hwhen : reason = 2 ∨ -700 < run.power ∨ 4 ≤ r.step)
    {P : State → Prop} (hp : P (s.endReflect l (if -700 < run.power then 2 else reason))) :
    s.runsTo (.reflectDone l reason run) P := by
  refine runs_line hl rfl ?_
  simp only [hr]
  by_cases h2 : reason = 2 ∨ -700 < run.power
  · rw [if_pos h2]
    rwa [show (if -700 < run.power then 2 else reason) = 2 by split <;> omega] at hp
  · obtain ⟨hne, hpow⟩ := not_or.1 h2
    have h4 : 4 ≤ r.step := by omega
    rw [if_neg hpow] at hp
    rw [if_neg h2, decide_eq_true h4, when_true, if_neg (by omega)]
    exact hp

/-- A run whose pair is to come back at a time (R202 steps 4 and 5). -/
def ReflX.granted (r : ReflX) (at' : Nat) : ReflX :=
  { r with step := 4, ns := at' % 10 ^ 9, sec := at' / 10 ^ 9 % 2 ^ 32 }

/-- Settles O18: the slot's grant is one update of the run and the slot's two fields; every end of a run is `State.endReflect` or
`State.landReflect`. -/
theorem reflectometry : Obligations.Reflectometry := by
  unfold Obligations.Reflectometry
  intro s l r hl hr
  refine ⟨fun hstep hfree => ?_, fun hstep => ?_, fun reason run hbad hlt hwhen => ?_, fun run hstep hp => ?_⟩
  · refine runs_line hl rfl ?_
    simp only [hr, hstep, hfree, beq_self_eq_true, Bool.and_self, when_true]
    set t : State := { s with refl := s.refl.put l (some (r.granted (s.time.sec * 10 ^ 9 + s.time.ns + 2576000))) }
    obtain ⟨hk, hline⟩ := t.setSlot_shown (l / 32) 3 l
    exact ⟨⟨_, _, Store.find_put_self s.refl l (some (r.granted _))⟩, hk, hline.trans (Nat.mod_eq_of_lt hl), rfl⟩
  · have hend := s.endReflect_ended l (reason := 4) (by decide)
    refine runs_line hl rfl ?_
    simp only [hr, Option.any_some, hstep, beq_self_eq_true, when_true]
    exact ⟨hend.gone, hend.reason_shown, hend.busy, hend.lines, hend.others⟩
  · have hend := s.endReflect_ended l (reason := if -700 < run.power then 2 else reason) (by split <;> omega)
    exact runs_reflectDone_cut hl hr hbad hwhen
      ⟨hend.gone, hend.reason_shown, hend.busy, hend.seq, hend.lines, hend.others⟩
  · obtain ⟨hgone, hreason, hband, hbusy⟩ := s.landReflect_ended l r run
    refine runs_line hl rfl ?_
    simp only [hr, show ¬ (0 = 2 ∨ -700 < run.power) by omega, if_false, hstep, decide_true, when_true, if_true]
    exact ⟨hgone, hreason, hband, hbusy, State.landReflect_lines _ _ _ _⟩

end Sys2Proof.Machine
end

section
/-! Obligation O45: posts land, sealed posts are proposed, refused and confirmed (R38 to R42). -/

namespace Sys2Proof.Machine

/-! ### What the posts are dealt with: the posts, the run and the ports, which a line's move out of SHOWTIME leaves alone -/

/-- The posts, the run and the ports, where the negotiations are. -/
def State.dealings (s : State) : List Post × Option MailRun × Store PortX := (s.posts, s.run, s.ports)

theorem State.wr_dealings (s : State) (F : Fld) (v i j : Nat) : (s.wr F v i j).dealings = s.dealings := by
  simp only [State.dealings, State.wr_posts, State.wr_run, State.wr_ports]

theorem State.modLine_dealings (s : State) (l : Nat) (f : LineX → LineX) : (s.modLine l f).dealings = s.dealings := by
  simp only [State.dealings, State.modLine_posts, State.modLine_run, State.modLine_ports]

theorem State.modMon_dealings (s : State) (l : Nat) (f : MonX → MonX) : (s.modMon l f).dealings = s.dealings := by
  simp only [State.dealings, State.modMon_posts, State.modMon_run, State.modMon_ports]

theorem State.edges_dealings (s : State) (p : Page) (i m : Nat) : (s.edges p i m).dealings = s.dealings := by
  simp only [State.dealings, State.edges_posts, State.edges_run, State.edges_ports]

theorem State.pulse_dealings (s : State) (p : Page) (i b : Nat) : (s.pulse p i b).dealings = s.dealings := by
  simp only [State.dealings, State.pulse_posts, State.pulse_run, State.pulse_ports]

theorem State.cond_dealings (s : State) (p : Page) (i b : Nat) (on : Bool) : (s.cond p i b on).dealings = s.dealings := by
  simp only [State.dealings, State.cond_posts, State.cond_run, State.cond_ports]

theorem State.landResult_dealings (s : State) (p : Page) (i : Nat) : (s.landResult p i).dealings = s.dealings := by
  simp only [State.dealings, State.landResult_posts, State.landResult_run, State.landResult_ports]

theorem State.wrWords_dealings (s : State) (F : Fld) (i : Nat) (ws : List Nat) : (s.wrWords F i ws).dealings = s.dealings := by
  simp only [State.dealings, State.wrWords_posts, State.wrWords_run, State.wrWords_ports]

theorem State.foldl_dealings {β : Type} {f : State → β → State} (h : ∀ s b, (f s b).dealings = s.dealings) (l : List β)
    (s : State) : (l.foldl f s).dealings = s.dealings :=
  State.foldl_same h l s

theorem State.cutCapture_dealings (s : State) (l reason : Nat) : (s.cutCapture l reason).dealings = s.dealings := by
  unfold State.cutCapture State.finishCapture
  split
  · rfl
  · simp only [State.pulse_dealings, State.landResult_dealings, State.modMon_dealings, State.wr_dealings,
      State.wrWords_dealings]

theorem State.showDetectors_dealings (s : State) (l : Nat) : (s.showDetectors l).dealings = s.dealings := by
  simp only [State.showDetectors, State.cond_dealings, State.wr_dealings]

theorem State.capture2_dealings (s : State) (ns sec : Fld) (i : Nat) : (s.capture2 ns sec i).dealings = s.dealings := by
  simp only [State.capture2, State.wr_dealings]

theorem State.capture_dealings (s : State) (ns sec sech frac : Fld) (i : Nat) :
    (s.capture ns sec sech frac i).dealings = s.dealings := by
  simp only [State.capture, State.wr_dealings]

theorem State.landSync_dealings (s : State) (l : Nat) : (s.landSync l).dealings = s.dealings := by
  unfold State.landSync
  extract_lets s1 s2 preset s3 s4 s5
  have h1 : s1.dealings = s.dealings := by
    simp only [s1]
    split
    · split
      · exact State.cutCapture_dealings _ _ _
      · exact State.modMon_dealings _ _ _
    · rfl
  have h2 : s2.dealings = s1.dealings := by
    simp only [s2]
    split
    · exact State.wr_dealings _ _ _ _ _
    · rfl
  simp only [State.showDetectors_dealings, State.cond_dealings, State.capture2_dealings, State.wr_dealings,
    State.modMon_dealings, s5, s4, s3, h2, h1]

theorem State.refreshOwner_dealings (s : State) (l : Nat) : (s.refreshOwner l).dealings = s.dealings := by
  unfold State.refreshOwner
  extract_lets o x w pr
  split
  · exact State.modMon_dealings _ _ _
  · exact (State.landSync_dealings _ _).trans (State.modMon_dealings _ _ _)

theorem State.setErase_dealings (s : State) (l mask : Nat) : (s.setErase l mask).dealings = s.dealings :=
  State.cond_dealings _ _ _ _ _

theorem State.refreshErase_dealings (s : State) (l : Nat) : (s.refreshErase l).dealings = s.dealings := by
  unfold State.refreshErase
  split
  · exact State.setErase_dealings _ _ _
  · rfl

theorem State.moveErase_dealings (s : State) (l : Nat) (old : LineState) : (s.moveErase l old).dealings = s.dealings := by
  unfold State.moveErase
  split
  · exact State.setErase_dealings _ _ _
  · exact State.refreshErase_dealings _ _

/-- A running line that enters LEAVING keeps the posts, the run and the ports (R105). -/
theorem State.moveLine_leaving_dealings {s : State} {l : Nat} (h : (s.line l).st = .showtime ∨ (s.line l).st = .banked) :
    (s.moveLine l .leaving).dealings = s.dealings := by
  unfold State.moveLine
  rcases h with h | h <;>
  simp only [h, reduceCtorEq, decide_false, decide_true, Bool.or_false, Bool.false_and, Bool.false_or,
    Bool.false_eq_true, ↓reduceIte, or_self, or_false, usesModem, inData, clearedIn, Bool.not_true, Bool.and_false,
    State.refreshOwner_dealings, State.moveErase_dealings, State.edges_dealings, State.capture_dealings,
    State.modLine_dealings]

theorem State.enterLeaving_dealings (s : State) (l : Nat) : (s.enterLeaving l).dealings = s.dealings := by
  unfold State.enterLeaving
  split
  · exact State.moveLine_leaving_dealings ‹_›
  · rfl

/-! ### One post alone -/

theorem State.postOf_only {s : State} {x : Post} (h : s.posts = [x]) : s.postOf x.page x.inst = some x := by
  simp [State.postOf, h]

theorem State.finishPost_only {s : State} {x : Post} {p : Page} {i : Nat} (h : s.posts = [x]) (hp : x.page = p)
    (hi : x.inst = i) (r : Nat) : (s.finishPost p i r).posts = [] := by
  unfold State.finishPost
  rw [State.setResult_posts]
  simp [State.dropPost, h, hp, hi]

theorem State.setPhase_only {s : State} {x : Post} (h : s.posts = [x]) (ph : PostPhase) (t : Option Nat) :
    s.setPhase x.page x.inst ph t = { s with posts := [{ x with phase := ph, target := t }] } := by
  simp [State.setPhase, h]

theorem State.retryRun_none {s : State} (h : s.run = none) : s.retryRun = s := by
  unfold State.retryRun
  rw [h]

/-- A post that fails shows its result on its page. -/
theorem State.finishPost_result (s : State) (p : Page) (i : Nat) {r : Nat} (hr : r ≠ resPosted) :
    (s.finishPost p i r).g (HDR.ENV_STAT.RESULT p) i = r % 16 :=
  (State.setResult_result _ _ _ _ _ hr).trans (if_pos rfl)

/-! ### The negotiation of a sealed post -/

/-- A port's one waiting sealed post is the one that is tried. -/
theorem sealedNegotiationStart_only {s : State} {p : Nat} {x : Post} (hp : p < 128) (h3 : s.fault.s3 = false)
    (h : s.posts = [x]) (hseal : x.sealedPost = true) (hm : x.member = false) (hph : x.phase = .held ∨ x.phase = .queued)
    (hport : s.pagePort x.page x.inst = some p) {P : State → Prop}
    (hP : P (State.retryRun (if s.postKind [(x.page, x.inst)] (x.page, x.inst) = 1 then
      s.startSet [(x.page, x.inst)] false x.moment x.target
      else if x.phase = .queued then s.finishPost x.page x.inst resRefused else s))) :
    s.runsTo (.sealedNegotiationStart p) P := by
  refine ⟨_, withPort_of_lt hp s _, ?_⟩
  have hmine : s.posts.filter (fun x => x.sealedPost && !x.member && (x.phase = .held || x.phase = .queued) &&
      s.pagePort x.page x.inst == some p) = [x] := by
    rw [h]
    refine List.filter_cons_of_pos ?_
    simpa [hseal, hm, hport] using hph
  simp only [h3, Bool.not_false, when_true]
  rw [hmine]
  exact hP

theorem State.sealedOf_only {s : State} {x : Post} (h : s.posts = [x]) (hs : x.sealedPost = true) :
    s.sealedOf [(x.page, x.inst)] = [(x.page, x.inst)] := by
  simp [State.sealedOf, State.postOf_only h, hs]

/-- One sealed post of a running line starts its port's negotiation (R41, R42). -/
theorem State.startSet_sealed {s : State} {p moment : Nat} {x : Post} (h : s.posts = [x]) (hs : x.sealedPost = true)
    (hplain : x.plain = false) (hport : s.pagePort x.page x.inst = some p)
    (hkind : s.postKind [(x.page, x.inst)] (x.page, x.inst) = 1) (hlong : s.sealedTooLong [(x.page, x.inst)] = false)
    (hconf : s.conflicts [(x.page, x.inst)] = false) (hcount : s.messageCount [(x.page, x.inst)] p ≤ 16)
    (hneg : (s.port p).neg = none) :
    s.startSet [(x.page, x.inst)] false moment none =
      ({ s with posts := [{ x with phase := .negotiating, target := some (sfcAdd (s.pageSfc x.page x.inst) 4) }] } : State).proposeSet
        [(x.page, x.inst)] p
        (sfcAdd (s.portSfc p) (sfcFrom (s.pageSfc x.page x.inst) (sfcAdd (s.pageSfc x.page x.inst) 4))) := by
  have hpost : s.postedPlain (x.page, x.inst) = false := by
    simp [State.postedPlain, State.postOf_only h, hplain]
  have hfree (t : Nat) : s.portFree p t = true := by
    simp [State.portFree, hneg]
  have hcount' : ¬ 16 < s.messageCount [(x.page, x.inst)] p := by omega
  have hset (t : Option Nat) : (s.setPhase x.page x.inst .armed t).setPhase x.page x.inst .negotiating t =
      { s with posts := [{ x with phase := .negotiating, target := t }] } := by
    simp [State.setPhase, h]
  unfold State.startSet
  simp [State.sealedOf_only h hs, hpost, hkind, hlong, hport, hconf, State.postOf_only h, hfree, State.decidePlain_nil,
    State.setSfc, hcount', hset, List.eraseDups_cons]

/-- A set that refits no loading opens the negotiation of a port that has none; the posts and the run stay. -/
theorem State.proposeSet_opens {s : State} {set : Pages} {p : Nat} (hneg : (s.port p).neg = none)
    (hmask : s.maskLines set p = []) (target : Nat) :
    (s.proposeSet set p target).posts = s.posts ∧ (s.proposeSet set p target).run = s.run ∧
      ∃ n : Neg, ((s.proposeSet set p target).port p).neg = some n ∧ n.ours = true ∧ n.start = s.portSfc p ∧
        n.target = target % 2 ^ 48 ∧ n.agreed = false ∧ n.confirmed = false := by
  unfold State.proposeSet
  extract_lets cs ms ls s1 s2
  have hms : ms = [] := hmask
  have hs2 : s2 = s1 := by
    simp only [s2, hms, List.foldl_nil]
  have hkeep : (ls.foldl (fun s l => s.enterLeaving l) s2).dealings = s1.dealings := by
    rw [hs2]
    exact State.foldl_dealings State.enterLeaving_dealings _ _
  obtain ⟨hposts, hrun, hports⟩ : _ = s1.posts ∧ _ = s1.run ∧ _ = s1.ports := by
    simpa only [State.dealings, Prod.mk.injEq] using hkeep
  rw [hposts, hrun, State.port_of_ports hports]
  simp only [s1, State.propose_none _ _ _ _ hneg, State.port_modPort_self]
  exact ⟨rfl, rfl, _, rfl, rfl, rfl, rfl, rfl, rfl⟩

theorem sfcFrom_sfcAdd (now : Nat) : sfcFrom now (sfcAdd now 4) = 4 := by
  unfold sfcFrom sfcAdd
  omega

/-- Of our negotiation of a port, the confirmation touches nothing but the SEAL code and the mark, and the posts it carries are
confirmed (R40). -/
theorem State.confirmNeg_spec {s : State} {p : Nat} {n : Neg} (hn : (s.port p).neg = some n) :
    ((s.confirmNeg p).port p).neg = some { n with confirmed := true } ∧ ((s.confirmNeg p).port p).sealCode = 3 ∧
      (∀ y ∈ (s.confirmNeg p).posts, s.ofPort p y = true → y.phase ≠ .negotiating) ∧
      ∀ q, q ≠ p → (s.confirmNeg p).port q = s.port q := by
  unfold State.confirmNeg
  extract_lets ps t
  have ht (q : Nat) : t.port q = s.port q := rfl
  refine ⟨?_, ?_, fun y hy hof hph => ?_, fun q hq => ?_⟩
  · simp only [State.port_modPort_self, ht, hn, Option.map_some]
  · simp only [State.port_modPort_self]
  · obtain ⟨x, -, rfl⟩ := List.mem_map.1 hy
    by_cases hc : (s.ofPort p x && decide (x.phase = .negotiating)) = true
    · rw [if_pos hc] at hph
      cases hph
    · rw [if_neg hc] at hof hph
      exact hc (by rw [hof, hph]; rfl)
  · rw [State.port_modPort_ne _ hq, ht]

/-! ### A post of XENGINE -/

theorem envelopeWords_xengine : envelopeWords .xengine = [(XENGINE.CTRL.PILOTSET, 0)] := by decide +kernel

/-- The only staged word of XENGINE makes one batch, of the device's unit. -/
theorem State.batches_xengine {s : State} {v : Nat} (hv : s.stagedAt XENGINE.CTRL.PILOTSET 0 0 = some v)
    (hs : s.sealedOf [(.xengine, 0)] = []) : s.batches [(.xengine, 0)] = [[0]] := by
  have hwords : s.stagedWords [(.xengine, 0)] = [(0, (.xengine, 0), 64)] := by
    have hstaged : (envelopeWords .xengine).filter (fun w => (s.stagedAt w.1 0 w.2).isSome) = [(XENGINE.CTRL.PILOTSET, 0)] := by
      rw [envelopeWords_xengine]
      exact List.filter_cons_of_pos (by rw [hv]; rfl)
    unfold State.stagedWords
    simp only [State.staysDormant, isPortPage, Bool.false_and, Bool.not_false, List.filter_cons_of_pos, List.filter_nil,
      List.flatMap_cons, List.flatMap_nil, List.append_nil, hstaged]
    rfl
  have hunits : unitOrder [(0, ((.xengine, 0) : Page × Nat), 64)] [] = [0] := by decide
  unfold State.batches
  simp only [hwords, hs, List.map_nil, hunits]
  simp [placeUnits]

theorem State.landUnits_xengine (s : State) : s.landUnits [(.xengine, 0)] [0] = s.applyFields .xengine 0 := by
  unfold State.landUnits
  simp [State.staysDormant, isPortPage, pageUnit, State.landPage]

theorem State.landSetNow_xengine {s : State} {x : Post} {v : Nat} (h : s.posts = [x]) (hpage : x.page = .xengine)
    (hinst : x.inst = 0) (hph : x.phase = .armed) (hseal : x.sealedPost = false) (hrest : s.rest = [])
    (hconf : s.conflicts [(.xengine, 0)] = false) (hv : s.stagedAt XENGINE.CTRL.PILOTSET 0 0 = some v) :
    s.landSetNow [(.xengine, 0)] false (.xengine, 0) =
      ((s.setPhase .xengine 0 .confirmed x.target).applyFields .xengine 0).setLanded [(.xengine, 0)] false 1 := by
  have hx : s.postOf .xengine 0 = some x := by
    rw [← hpage, ← hinst]
    exact State.postOf_only h
  have hb := State.batches_xengine hv (State.sealedOf_single hx hseal)
  unfold State.landSetNow State.landBatches
  simp [hx, hph, hconf, State.unsealedChange, State.afeWaits, hb, State.waitsPacket, hrest, isLinePage,
    State.landUnits_xengine]
  have hs0 : ({ s with rest := [] } : State) = s := by rw [← hrest]
  rw [hs0, hx]
  rfl

/-- The staged pilot set comes into effect. -/
theorem State.applyFields_xengine {s : State} {v : Nat} (hv : s.stagedAt XENGINE.CTRL.PILOTSET 0 0 = some v) :
    s.applyFields .xengine 0 =
      { s.wr XENGINE.CTRL.PILOTSET v with staged := s.staged.erase (XENGINE.CTRL.PILOTSET.key 0 0) } := by
  unfold State.applyFields
  rw [envelopeWords_xengine, List.foldl_cons, List.foldl_nil]
  unfold State.applyField
  rw [hv]

/-- The results of a page of no line, landed on one boundary. -/
theorem State.setLanded_alone {s : State} {p : Page} {i : Nat} (hp : isLinePage p = false) (hm : p ≠ .portmap) :
    s.setLanded [(p, i)] false 1 =
      ((s.wr (HDR.ENV_STAT.STEPS p) 1 i).wr (HDR.ENV_STAT.SPLIT p) 0 i).finishPost p i resPosted := by
  unfold State.setLanded
  simp [hp, hm, bnat]

/-- A post that lands writes its result only. -/
theorem State.finishPost_posted_g {p : Page} {G : Fld} (h : G.id % 2048 ≠ (HDR.ENV_STAT.RESULT p).id % 2048) (s : State)
    (i a b : Nat) : (s.finishPost p i resPosted).g G a b = s.g G a b := by
  unfold State.finishPost State.setResult
  dsimp only
  rw [if_pos rfl, State.g_wr_of_id h]
  rfl

theorem State.xengine_landed {s : State} {x : Post} {v : Nat} (h : s.posts = [x]) (hpage : x.page = .xengine)
    (hinst : x.inst = 0) (hph : x.phase = .armed) (hseal : x.sealedPost = false) (hrest : s.rest = [])
    (hconf : s.conflicts [(.xengine, 0)] = false) (hv : s.stagedAt XENGINE.CTRL.PILOTSET 0 0 = some v) (hv4 : v < 4) :
    let t := s.landSetNow [(.xengine, 0)] false (.xengine, 0)
    t.g XENGINE.CTRL.PILOTSET = v ∧ t.g (HDR.ENV_STAT.RESULT .xengine) = resPosted ∧ t.posts = [] ∧
      t.stagedAt XENGINE.CTRL.PILOTSET 0 0 = none := by
  have hv' : (s.setPhase .xengine 0 .confirmed x.target).stagedAt XENGINE.CTRL.PILOTSET 0 0 = some v := hv
  have hposts : (s.setPhase .xengine 0 .confirmed x.target).posts = [{ x with phase := .confirmed }] := by
    rw [← hpage, ← hinst, State.setPhase_only h]
  rw [State.landSetNow_xengine h hpage hinst hph hseal hrest hconf hv, State.applyFields_xengine hv',
    State.setLanded_alone rfl (by decide)]
  generalize s.setPhase .xengine 0 .confirmed x.target = u at hposts
  intro t
  refine ⟨?_, State.g_wr_self _ _ _ _ _, State.finishPost_only hposts hpage hinst resPosted,
    (congrArg (fun m : Store Nat => m.find _) (State.finishPost_staged _ _ _ _)).trans (Store.find_erase_self _ _)⟩
  calc t.g XENGINE.CTRL.PILOTSET
    _ = (u.wr XENGINE.CTRL.PILOTSET v).g XENGINE.CTRL.PILOTSET :=
      (State.finishPost_posted_g (by decide) _ _ _ _).trans
        ((State.g_wr_of_id (by decide) _ _ _ _ _ _).trans (State.g_wr_of_id (by decide) _ _ _ _ _ _))
    _ = v % 2 ^ 2 := State.g_wr_self _ _ _ _ _
    _ = v := Nat.mod_eq_of_lt hv4

/-- Settles O45: the posts of one page, the four moments of their ways. -/
theorem sealedPosts : Obligations.SealedPosts := by
  intro s
  refine ⟨fun x v hrun h3 hrest hposts hpage hinst hm hph hseal hdue hheld hconf hv hv4 => ?_,
    fun p x hp hposts hseal hm hph hport hkind hrun h3 => ?_,
    fun p x hp hposts hseal hm hph hplain htarget hport hkind hlong hconf hcount hmask hneg hrun h3 => ?_,
    fun p n hp hn hours hconf hwith hagreed htarget hmem h3 => ?_⟩
  · have hx : s.postOf .xengine 0 = some x := by
      rw [← hpage, ← hinst]
      exact State.postOf_only hposts
    have hland : execPostLands .xengine 0 s = .next (s.landSetNow [(.xengine, 0)] false (.xengine, 0)) := by
      unfold execPostLands
      rw [onPage_of_lt (by decide)]
      simp [hrun, h3, hx, hrest, hm, hph, hdue, hheld, State.pageSfc]
    exact ⟨_, hland, State.xengine_landed hposts hpage hinst hph hseal hrest hconf hv hv4⟩
  · refine sealedNegotiationStart_only hp h3 hposts hseal hm (.inr hph) hport ?_
    rw [if_neg hkind, if_pos hph, State.retryRun_none ((State.finishPost_run _ _ _ _).trans hrun)]
    exact ⟨State.finishPost_only hposts rfl rfl _, State.finishPost_result _ _ _ (by decide), State.finishPost_lines _ _ _ _⟩
  · refine sealedNegotiationStart_only hp h3 hposts hseal hm hph hport ?_
    rw [if_pos hkind, htarget, State.startSet_sealed hposts hseal hplain hport hkind hlong hconf hcount hneg, sfcFrom_sfcAdd]
    set u : State := { s with posts := [{ x with phase := .negotiating, target := some (sfcAdd (s.pageSfc x.page x.inst) 4) }] }
    obtain ⟨hpu, hru, n, hn, hours, hstart, htgt, hag, hcf⟩ :=
      State.proposeSet_opens (s := u) (set := [(x.page, x.inst)]) (p := p) hneg hmask (sfcAdd (s.portSfc p) 4)
    rw [State.retryRun_none (hru.trans hrun)]
    exact ⟨hpu, n, hn, hours, hstart, htgt.trans (Nat.mod_mod _ _), hag, hcf⟩
  · have hheldAgreed : s.negAgreed p = true := by
      simp [State.negAgreed, hn, hagreed, hwith]
    have hrow : exec (.sealConfirm p) s = .next (s.confirmNeg p) := by
      refine (withPort_of_lt hp s _).trans ?_
      simp [h3, hn, hours, hconf, htarget, hmem, hheldAgreed]
    obtain ⟨h1, h2, h4, h5⟩ := State.confirmNeg_spec hn
    exact ⟨_, hrow, h1, h2, rfl, rfl, h4, h5⟩

end Sys2Proof.Machine
end

section
/-! Obligation O48: the letterbox from CMD to its response. The statement fails at the next chunk of an import, which is kept in
a new record whose length, which only exports use, is 0; the statement says that the length stays as it was. -/

namespace Sys2Proof.Machine

/-- An import after its first chunk, with a length of 4 bytes beside it: a state of the model, though no import of the model sets
that length. -/
def firstChunk : Transfer := { words := List.replicate 255 0, next := 1, lastLen := 255, length := 4 }

/-- The device at work, with that import on MSPI, whose PARCEL_IMPORT_CHUNK of index 1 and one word Stoker runs. -/
def importing : State :=
  { State.reset with
    clk := { csrc := .spll, running := true, ref := .good }
    trust := { imports := [(0, firstChunk)] }
    mgmt := { lbCommands := [{ ch := 0, opcode := 0x32, tag := 0, args := [1, 7], discard := false, started := true }] } }

theorem importing_serves : importing.serves .mspi 0x32 (firstChunk.next :: [7]) = true := by
  decide +kernel

theorem importing_kept : importing.trust.imports.find (chIx .mspi) = some firstChunk := rfl

/-- The import that a channel has after a command. -/
def Answer.importOf (c : Nat) : Answer → Option Transfer
  | .next t => t.trust.imports.find c
  | _ => none

/-- The chunk joins the words, and the length is 0. -/
theorem importing_done : Answer.importOf 0 (exec (.letterboxDone .mspi) importing) =
    some { words := List.replicate 255 0 ++ [7], next := 2, lastLen := 1 } := by
  decide +kernel

/-- Refutes O48: the second chunk of an import whose record holds a length of 4 leaves a record with length 0. -/
theorem not_letterboxRows : ¬ Obligations.LetterboxRows := by
  intro h
  obtain ⟨-, -, -, -, -, -, -, -, -, -, -, -, -, -, -, -, -, -, -, -, -, himport, -⟩ := h importing .mspi
  obtain ⟨-, hnext⟩ := himport [7] (by decide) (by decide)
  obtain ⟨t, ht, -, hfind⟩ := hnext firstChunk importing_kept (by decide) rfl importing_serves
  have hdone := importing_done
  rw [ht] at hdone
  have hsame := hdone.symm.trans hfind
  exact absurd (congrArg (Option.map Transfer.length) hsame) (by decide)

end Sys2Proof.Machine
end

section
/-! Obligation O55: the frames of the management channels. The statement fails: the word of IDENT.PART is read from its register,
which a state of the model may hold with another value than the part's code (R385). -/

namespace Sys2Proof.Machine

/-- A device whose control domain runs, with 0 in the register of the part's code: a state of the model, though no write
brings it about, as IDENT accepts none (R385). -/
def nameless : State :=
  State.wr { State.reset with clk := { csrc := .spll, running := true } } IDENT.PART.CODE 0

theorem nameless_serves : nameless.steady = true ∧ nameless.served 0 = true ∧ nameless.fenced 1 = false ∧
    nameless.lockedFor 0 = false := by
  decide +kernel

/-- What MSPI shows after a command. -/
def Answer.lastRead : Answer → List Nat
  | .next t => t.mgmt.lastRead
  | _ => []

/-- The read frame of IDENT.PART returns the stepping alone. -/
theorem nameless_reads : Answer.lastRead (exec (.mspiRead (IDENT.PART.CODE.addr 0 0) 1 false) nameless) = [0x0000B000] := by
  decide +kernel

/-- Refutes O55: with 0 in the register of IDENT.PART.CODE an MSPI read of the word returns 0x0000B000. -/
theorem not_channelFrames : ¬ Obligations.ChannelFrames := by
  intro h
  obtain ⟨hsteady, hserved, hfenced, hlocked⟩ := nameless_serves
  obtain ⟨-, hread, -⟩ := h nameless
  obtain ⟨t, ht, hlast, -⟩ := hread hsteady hserved hfenced hlocked false
  have hshown : t.mgmt.lastRead = [0x0000B000] := by
    simpa only [ht, Answer.lastRead] using nameless_reads
  rw [hshown] at hlast
  exact absurd hlast (by decide)

end Sys2Proof.Machine
end

section
/-! What received blocks write on their way to the host, and the DTU that the receive side gives up (R18, R81, R259, R262,
R266, R355). -/

namespace Sys2Proof.Machine

/-! ### The registers of a port's stream -/

/-- The counters of blocks on their way to the host: the port's drops and its SecY's. -/
def streamCounters : List Fld :=
  [PORT_CTL.INGRESS_DROP.COUNT, PORT_CTL.EGRESS_DROP.COUNT, PORT_CTL.THRU_DROP.COUNT, PORT_SEC.CNT.COUNT]

/-- A field that blocks on their way to the host write. -/
def Fld.streamed (F : Fld) : Bool := F.event || streamCounters.any fun G => G.id % 2048 == F.id % 2048

/-- From `s` to `t` blocks went on toward the host: no other field was written. -/
def State.Streamed (s t : State) : Prop := ∀ (G : Fld) (a b : Nat), G.streamed = false → t.g G a b = s.g G a b

theorem State.Streamed.refl (s : State) : State.Streamed s s := fun _ _ _ _ => rfl

theorem State.Streamed.trans {s t u : State} (h : State.Streamed s t) (k : State.Streamed t u) : State.Streamed s u :=
  fun G a b hG => (k G a b hG).trans (h G a b hG)

theorem Fld.streamed_false {G : Fld} (hG : G.streamed = false) :
    G.event = false ∧ ∀ F ∈ streamCounters, G.id % 2048 ≠ F.id % 2048 := by
  simp only [Fld.streamed, Bool.or_eq_false_iff, List.any_eq_false, beq_iff_eq] at hG
  exact ⟨hG.1, fun F hF e => hG.2 F hF e.symm⟩

theorem State.Streamed.bump {s t : State} (h : State.Streamed s t) {F : Fld} (hF : F ∈ streamCounters) (i k j : Nat) :
    State.Streamed s (t.bump F i k j) :=
  h.trans fun _ _ _ hG => State.g_bump_of_id ((Fld.streamed_false hG).2 F hF) _ _ _ _ _ _

theorem State.Streamed.pulse {s t : State} (h : State.Streamed s t) (p : Page) (i n : Nat) :
    State.Streamed s (t.pulse p i n) :=
  h.trans fun _ _ _ hG => State.pulse_g (Fld.streamed_false hG).1 _ _ _ _ _ _

theorem State.Streamed.modPort {s t : State} (h : State.Streamed s t) (p : Nat) (f : PortX → PortX) :
    State.Streamed s (t.modPort p f) :=
  h.trans fun _ _ _ _ => State.modPort_g _ _ _ _ _ _

theorem State.Streamed.foldl {β : Type} {f : State → β → State} (h : ∀ s b, State.Streamed s (f s b)) (l : List β)
    (s : State) : State.Streamed s (l.foldl f s) := by
  induction l generalizing s with
  | nil => exact .refl s
  | cons b l ih => exact (h s b).trans (ih _)

/-! ### Into the ingress buffer and toward the host -/

theorem State.Streamed.offerBlock (s : State) (p cap : Nat) {F : Fld} (hF : F ∈ streamCounters) (c : Nat) (b : Block) :
    State.Streamed s (s.offerBlock p cap F c b) := by
  unfold State.offerBlock
  dsimp only
  split
  · exact (State.Streamed.refl s).modPort _ _
  · split
    · exact (State.Streamed.refl s).modPort _ _
    · exact (((State.Streamed.refl s).modPort _ _).bump hF _ _ _).pulse _ _ _

theorem State.Streamed.intoIngress {s t : State} (h : State.Streamed s t) (p : Nat) (bs : List Block) :
    State.Streamed s (t.intoIngress p bs) :=
  h.trans (.foldl (fun s b => .offerBlock s p _ (by simp [streamCounters]) 7 b) bs t)

theorem State.Streamed.toHost {s t : State} (h : State.Streamed s t) (p : Nat) (bs : List Block) :
    State.Streamed s (t.toHost p bs) := by
  unfold State.toHost
  split
  · exact h
  · split
    · dsimp only
      split
      · exact (h.modPort _ _).intoIngress _ _
      · exact h.modPort _ _
    · exact h.bump (by simp [streamCounters]) _ _ _

/-! ### Through the SecY -/

theorem State.Streamed.secyCount {s t : State} (h : State.Streamed s t) (p i : Nat) : State.Streamed s (t.secyCount p i) :=
  h.bump (by simp [streamCounters]) _ _ _

theorem State.Streamed.secyFail (s : State) (p i : Nat) (f : List Block) : State.Streamed s (s.secyFail p i f).2 :=
  (State.Streamed.refl s).secyCount p i

theorem State.Streamed.secyIn (s : State) (p : Nat) (f : List Block) : State.Streamed s (s.secyIn p f).2 := by
  unfold State.secyIn
  dsimp only
  split
  · exact .refl s
  split
  · exact .secyFail _ _ _ _
  split
  · exact .secyFail _ _ _ _
  split
  · exact .secyFail _ _ _ _
  split
  · exact .secyFail _ _ _ _
  split
  · exact ((State.Streamed.refl s).modPort _ _).secyCount _ _
  · exact (State.Streamed.secyFail _ _ _ _).pulse _ _ _

/-- Receive SAs land without an event. -/
theorem State.Streamed.landSas {s t : State} (h : State.Streamed s t) (p : Nat) : State.Streamed s (t.landSas p false) := by
  simp only [State.landSas, Bool.false_eq_true, if_false]
  exact h.modPort p _

theorem State.Streamed.pastSecy (s : State) (p : Nat) (b : Block) : State.Streamed s (s.pastSecy p b) := by
  unfold State.pastSecy
  dsimp only
  split
  · split
    · exact (((State.Streamed.secyIn s p _).modPort _ _).landSas _).toHost _ _
    · exact (State.Streamed.refl s).modPort _ _
  · exact (State.Streamed.refl s).toHost _ _

theorem State.Streamed.deliver {s t : State} (h : State.Streamed s t) (p : Nat) (bs : List Block) :
    State.Streamed s (t.deliver p bs) := by
  refine h.trans ?_
  unfold State.deliver
  split
  · exact .foldl (fun s b => .offerBlock s _ _ (by simp [streamCounters]) 8 b) _ _
  · exact .foldl (fun s b => .pastSecy s p b) _ _

/-! ### The DTU given up (R81) -/

theorem State.Streamed.releaseDtus (f p : Nat) {s t : State} (h : State.Streamed s t) :
    State.Streamed s (State.releaseDtus f p t) := by
  induction f generalizing t with
  | zero => exact h
  | succ f ih =>
    unfold State.releaseDtus
    split
    · exact h
    · exact ih ((h.modPort _ _).deliver _ _)

theorem State.countError_g {G : Fld} (h : G.id % 2048 ≠ LMON.ECB.COUNT.id % 2048) (s : State) (p a b : Nat) :
    (s.countError p).g G a b = s.g G a b := by
  rw [State.countError, State.modPort_g, State.g_bump_of_id h]

theorem State.countLost_lost (s : State) (p n : Nat) (hn : n ≠ 0) :
    (s.countLost p n).g LMON.DTU_LOST.COUNT p = satAdd 32 (s.g LMON.DTU_LOST.COUNT p) n := by
  rw [State.countLost, if_neg hn, State.modPort_g, State.g_bump_self]
  exact satAdd_mod _ _ _

/-- A DTU given up counts once in DTU_LOST. -/
theorem State.giveUpDtu_lost (s : State) (p : Nat) :
    (s.giveUpDtu p).g LMON.DTU_LOST.COUNT p = satAdd 32 (s.g LMON.DTU_LOST.COUNT p) 1 := by
  set u := (s.deliver p (List.replicate 4 errorBlock)).countError p with hu
  have hbefore : u.g LMON.DTU_LOST.COUNT p = s.g LMON.DTU_LOST.COUNT p := by
    rw [hu, State.countError_g (by decide)]
    exact (State.Streamed.refl s).deliver p _ LMON.DTU_LOST.COUNT p 0 rfl
  have hafter : State.Streamed (u.countLost p 1) (s.giveUpDtu p) :=
    ((((State.Streamed.refl _).pulse .port_ctl p 0).modPort p _).releaseDtus _ p)
  rw [hafter _ _ _ rfl, State.countLost_lost _ _ _ one_ne_zero, hbefore]

end Sys2Proof.Machine
end

section
/-! Obligation O43: DTUs held too long, the end of erasure, the arrival offset and timing advance (R25, R59, R60, R80, R81,
R147). -/

namespace Sys2Proof.Machine

/-! ### Erasure (R25) -/

theorem State.setErase_g {G : Fld} (hG : G.event = false) (h : G.id % 2048 ≠ LLOAD.ERASE.MASK.id % 2048) (s : State)
    (l mask a b : Nat) : (s.setErase l mask).g G a b = s.g G a b := by
  rw [State.setErase, State.cond_g hG, State.g_wr_of_id h]

theorem State.setErase_tag (s : State) (l mask k : Nat) : (s.setErase l mask).tag k = s.tag k :=
  State.setErase_g rfl (by decide) _ _ _ _ _

theorem State.setErase_isVHead (s : State) (l mask k : Nat) : (s.setErase l mask).isVHead k = s.isVHead k :=
  congrArg (· == 1) (State.setErase_g rfl (by decide) _ _ _ _ _)

/-- The tones 1 to 31 under erasure on a line after a mask is set on it or on another. -/
theorem State.setErase_mask (s : State) (l mask k : Nat) :
    (s.setErase l mask).g LLOAD.ERASE.MASK k 0 = if k = l then mask % 2 ^ 32 else s.g LLOAD.ERASE.MASK k 0 := by
  rw [State.setErase, State.cond_g rfl]
  split
  case isTrue h => rw [h, State.g_wr_self]; rfl
  case isFalse h =>
    exact State.g_wr_of_inst (by simpa [Fld.bank_of_page (show LLOAD.ERASE.MASK.page ≠ .letterbox by decide)] using h)
      (by decide) (by decide) _ _

/-- A head of the tag ends its erasure, where it has any. -/
def State.endErase (tag : Nat) (s : State) (l : Nat) : State :=
  if s.tag l == tag && s.isVHead l && s.g LLOAD.ERASE.MASK l 0 != 0 then s.setErase l 0 else s

/-- No tone is under erasure on the line, if it is a head of the tag. -/
def State.Unerased (tag l : Nat) (s : State) : Prop := s.tag l = tag → s.isVHead l = true → s.g LLOAD.ERASE.MASK l 0 = 0

/-- What a mask set on a line leaves, the end of the tag's erasure leaves. -/
theorem State.endErase_same {α : Type} {g : State → α} (h : ∀ s l, g (s.setErase l 0) = g s) (tag : Nat) (s : State) :
    g (allLines.foldl (State.endErase tag) s) = g s := by
  refine State.foldl_same (fun s l => ?_) _ _
  unfold State.endErase
  split
  · exact h s l
  · rfl

theorem State.endErase_unerased (tag : Nat) (s : State) (l : Nat) : (s.endErase tag l).Unerased tag l := by
  unfold State.endErase
  split
  case isTrue => exact fun _ _ => (State.setErase_mask _ _ _ _).trans (if_pos rfl)
  case isFalse h =>
    intro htag hhead
    simpa [htag, hhead] using h

theorem State.endErase_keeps (tag : Nat) (s : State) (k l : Nat) (h : s.Unerased tag l) : (s.endErase tag k).Unerased tag l := by
  unfold State.endErase
  split
  · intro htag hhead
    rw [State.setErase_tag] at htag
    rw [State.setErase_isVHead] at hhead
    rw [State.setErase_mask]
    split
    · rfl
    · exact h htag hhead
  · exact h

theorem State.endErase_all {tag l : Nat} (hl : l < 128) (s : State) : (allLines.foldl (State.endErase tag) s).Unerased tag l :=
  foldl_reaches (fun s k _ h => State.endErase_keeps tag s k l h) (List.mem_range.2 hl) (fun s => State.endErase_unerased tag s l) s

/-- With no beacon on the tag its heads end their erasure. -/
theorem runs_beaconErasureEnd {s : State} {tag : Nat} (htag : s.tagBeacons tag = false) (h3 : s.fault.s3 = false)
    {P : State → Prop}
    (hp : P (allLines.foldl (State.endErase tag) { s with xe := { s.xe with erasing := s.xe.erasing.filter (· != tag) } })) :
    s.runsTo (.beaconErasureEnd tag) P :=
  ⟨_, if_neg (by simp [htag, h3]), hp⟩

/-! ### The figures of a port leave other registers alone -/

theorem State.refreshPort_g {G : Fld} (hG : G.event = false) (h : ∀ F ∈ figureFields, G.id % 2048 ≠ F.id % 2048) (s : State)
    (p a b : Nat) : (s.refreshPort p).g G a b = s.g G a b := by
  simp only [figureFields, List.forall_mem_cons] at h
  obtain ⟨hB, hCW, hFILL, hEXPRESS, hBULK, -, hDELTA, -⟩ := h
  unfold State.refreshPort
  dsimp only
  rw [State.cond_g hG, ite_g, State.pulse_g hG, ite_self, State.modPort_g, State.g_wr_of_id hDELTA, State.g_wr_of_id hBULK,
    State.g_wr_of_id hEXPRESS, State.g_wr_of_id hFILL, State.g_wr_of_id hCW, State.g_wr_of_id hB]

theorem State.showRoundTrip_g {G : Fld} (hG : G.event = false) (h : ∀ F ∈ figureFields, G.id % 2048 ≠ F.id % 2048) (s : State)
    (p a b : Nat) : (s.showRoundTrip p).g G a b = s.g G a b := by
  rw [State.showRoundTrip, State.refreshPort_g hG h, State.g_wr_of_id (h _ (by simp [figureFields]))]

theorem State.Logs.cond (s : State) (p : Page) (i b : Nat) (on : Bool) : State.Logs s (s.cond p i b on) := by
  have hraw (v : Nat) : State.Logs s (s.wr (HDR.EVT_RAW.RAW p) v i) :=
    (State.Logs.refl s).wr (by simp [Fld.logged, raw_event]) _ _ _
  unfold State.cond
  dsimp only
  split
  · exact .refl s
  · split
    · exact (hraw _).trans (.edges _ _ _ _)
    · exact hraw _

theorem State.Logs.staged {s t : State} (h : State.Logs s t) : t.staged = s.staged := by
  obtain ⟨-, hstaged, -⟩ := State.parts_of_core h.1
  exact hstaged

@[simp] theorem State.pulse_staged (s : State) (p : Page) (i b : Nat) : (s.pulse p i b).staged = s.staged :=
  (State.Logs.pulse s p i b).staged

@[simp] theorem State.cond_staged (s : State) (p : Page) (i b : Nat) (on : Bool) : (s.cond p i b on).staged = s.staged :=
  (State.Logs.cond s p i b on).staged

theorem State.showRoundTrip_posts (s : State) (p : Nat) : (s.showRoundTrip p).posts = s.posts := by
  simp [State.showRoundTrip, State.refreshPort]

theorem State.showRoundTrip_staged (s : State) (p : Nat) : (s.showRoundTrip p).staged = s.staged := by
  simp [State.showRoundTrip, State.refreshPort, apply_ite State.staged]

/-! ### The arrival offset (R59) -/

theorem ofSigned_mod (w : Nat) (i : Int) : ofSigned w i % 2 ^ w = ofSigned w i := by
  have hpos : (0 : Int) < (2 ^ w : Nat) := by exact_mod_cast Nat.two_pow_pos w
  have := Int.emod_lt_of_pos i hpos
  have := Int.emod_nonneg i hpos.ne'
  exact Nat.mod_eq_of_lt (by unfold ofSigned; omega)

/-- An average of the arrival offset is shown, with the round trip that it gives. -/
def State.showArrival (s : State) (l : Nat) (sum : Int) : State :=
  let avg := nearest sum 16
  let s := (s.wr LLOAD.ARRIVAL.DELTA (ofSigned 16 avg) l).modLine l fun x => { x with roundTrip := ((x.ta : Int) + avg).toNat }
  (s.cond .lload l 3 (decide (sum > 1536 ∨ sum < 512))).showRoundTrip (s.anchor l)

theorem State.showArrival_delta (s : State) (l : Nat) (sum : Int) :
    (s.showArrival l sum).g LLOAD.ARRIVAL.DELTA l = ofSigned 16 (nearest sum 16) := by
  simp only [State.showArrival]
  rw [State.showRoundTrip_g rfl (by decide), State.cond_g rfl, State.modLine_g, State.g_wr_self]
  exact ofSigned_mod 16 _

theorem State.showArrival_lines (s : State) (l : Nat) (sum : Int) :
    (s.showArrival l sum).lines = (s.modLine l fun x => { x with roundTrip := ((x.ta : Int) + nearest sum 16).toNat }).lines := by
  simp [State.showArrival, State.modLine, State.setLine, State.line]

/-- On a running head the average is shown; a TIMING message may follow from it, which sets the line's own timing advance. -/
theorem runs_deltaAverage {s : State} {l : Nat} {sum : Int} (hl : l < 128) (hhead : s.isVHead l = true)
    (hst : (s.line l).st = .showtime) (hd : s.dspRuns = true) {P : State → Prop} (hp : P (s.showArrival l sum))
    (hsend : ∀ c : Int, P ((s.showArrival l sum).modLine l fun x =>
      { x with timingSend := some c, ta := ((x.ta : Int) + c).toNat })) :
    s.runsTo (.deltaAverage l sum) P := by
  have havg : s.averages l = true := by simp [State.averages, hhead, hst, inData]
  have hshow : ((s.showArrival l sum).line l).st ≠ .joining := by
    rw [State.line_of_lines (State.showArrival_lines s l sum), State.line_modLine_self]
    simp [hst]
  have hexec : exec (.deltaAverage l sum) s =
      if decide (sum - 1024 > 128 ∨ 1024 - sum > 128) &&
          !(((s.showArrival l sum).line l).ta = 0 && decide (0 ≤ sum ∧ sum ≤ 1024)) &&
          ((s.showArrival l sum).line l).timingSend.isNone &&
          sfcCome ((s.showArrival l sum).line l).timingUntil (s.showArrival l sum).sfc && (s.showArrival l sum).framesOn l then
        .next ((s.showArrival l sum).modLine l fun x =>
          { x with timingSend := some (clampInt (-16) 16 (nearest (sum - 1024) 16)),
                   ta := ((x.ta : Int) + clampInt (-16) 16 (nearest (sum - 1024) 16)).toNat })
      else .next (s.showArrival l sum) := by
    show execDeltaAverage l sum s = _
    unfold execDeltaAverage
    rw [onLine_of_lt hl]
    simp only [havg, hd, Bool.and_self, if_true]
    exact if_neg hshow
  split at hexec
  · exact ⟨_, hexec, hsend _⟩
  · exact ⟨_, hexec, hp⟩

/-! ### Timing advance (R60, R134) -/

/-- The tail's line with a new timing advance. -/
theorem State.setTa_lines (s : State) (l ta : Nat) :
    (s.setTa l ta).lines = (s.modLine l fun x => { x with ta := ta, roundTrip := ta + 64 }).lines := by
  simp [State.setTa]

theorem State.setTa_shown {ta : Nat} (h : ta < 2 ^ 20) (s : State) (l : Nat) : (s.setTa l ta).g LLOAD.TADV.TA l = ta := by
  simp only [State.setTa]
  rw [State.showRoundTrip_g rfl (by decide), State.g_wr_self]
  exact Nat.mod_eq_of_lt h

theorem runs_taAdjust {s : State} {l : Nat} {c : Int} {due : Nat} (hl : l < 128) (hta : (s.line l).taPending = some (c, due))
    (hdue : sfcCome due (s.pageSfc .ltrain l) = true) (hd : s.dspRuns = true) {P : State → Prop}
    (hp : P ((s.correctTa l (s.line l).ta c).modLine l fun x => { x with taPending := none })) :
    s.runsTo (.taAdjust l) P := by
  refine ⟨_, ?_, hp⟩
  show execTaAdjust l s = _
  unfold execTaAdjust
  simp only [onLine_of_lt hl, hta, hd, hdue, Bool.and_self, if_true]

theorem runs_arrivalOutOfBand {s : State} {l : Nat} (hl : l < 128) (hhead : s.isVHead l = true) (hd : s.dspRuns = true)
    {P : State → Prop} (hp : P (s.retrainLine l rsTiming)) : s.runsTo (.arrivalOutOfBand l) P := by
  refine ⟨_, ?_, hp⟩
  show execArrivalOutOfBand l s = _
  unfold execArrivalOutOfBand
  simp only [onLine_of_lt hl, hhead, hd, Bool.and_self, if_true]

/-! ### The obligation -/

/-- Settles O43: a DTU given up by `State.giveUpDtu_lost`, the end of erasure by `State.endErase_all`, the average by
`State.showArrival_delta`, the correction by `State.setTa_shown`, the retrain by `retrained_retrainLine`. -/
theorem dtusAndErasure : Obligations.DtusAndErasure := by
  unfold Obligations.DtusAndErasure
  intro s
  refine ⟨?_, ?_, ?_, ?_, ?_, ?_⟩
  case refine_1 =>
    intro p seq hp h3
    refine runs_port_when hp (g := fun s => !s.fault.s3) rfl (by simp [h3]) ?_
    exact ⟨State.port_modPort_self _ _ _, rfl, rfl, fun q hq => State.port_modPort_ne _ hq _⟩
  case refine_2 =>
    intro p hp hheld hbulk h3
    refine runs_port_when hp (g := fun s => !s.fault.s3) rfl (by simp [h3]) ?_
    rw [if_neg (by simp [hheld, hbulk])]
    exact ⟨State.giveUpDtu_lost s p, State.giveUpDtu_lines s p⟩
  case refine_3 =>
    intro tag htag h3
    refine runs_beaconErasureEnd htag h3 ⟨fun l hl ht hhead => ?_, ?_⟩
    · exact State.endErase_all hl _
        ((State.endErase_same (g := fun s => s.tag l) (fun s k => s.setErase_tag k 0 l) tag _).trans ht)
        ((State.endErase_same (g := fun s => s.isVHead l) (fun s k => s.setErase_isVHead k 0 l) tag _).trans hhead)
    · exact State.endErase_same (fun s k => s.setErase_lines k 0) tag _
  case refine_4 =>
    intro l sum hl hhead hst hd
    have hline : ((s.showArrival l sum).line l).st = .showtime := by
      rw [State.line_of_lines (State.showArrival_lines s l sum), State.line_modLine_self]
      exact hst
    have hothers : ∀ k, k ≠ l → (s.showArrival l sum).line k = s.line k := fun k hk =>
      (State.line_of_lines (State.showArrival_lines s l sum) k).trans (State.line_modLine_ne _ hk _)
    refine runs_deltaAverage hl hhead hst hd ⟨s.showArrival_delta l sum, hline, hothers⟩ fun c => ⟨?_, ?_, fun k hk => ?_⟩
    · rw [State.modLine_g, State.showArrival_delta]
    · rw [State.line_modLine_self]
      exact hline
    · rw [State.line_modLine_ne _ hk, hothers k hk]
  case refine_5 =>
    intro l c due hl hta hdue hd
    refine runs_taAdjust hl hta hdue hd ⟨?_, ?_, ?_, ?_, fun k hk => ?_⟩
    · rw [State.line_modLine_self, State.correctTa, State.line_of_lines (State.setTa_lines _ _ _), State.line_modLine_self]
    · rw [State.modLine_g, State.correctTa, State.setTa_shown (by omega)]
    · simp only [State.modLine_posts, State.correctTa, State.setTa, State.showRoundTrip_posts, State.wr_posts]
    · simp only [State.modLine_staged, State.correctTa, State.setTa, State.showRoundTrip_staged, State.wr_staged]
    · rw [State.line_modLine_ne _ hk, State.correctTa, State.line_of_lines (State.setTa_lines _ _ _), State.line_modLine_ne _ hk]
  case refine_6 =>
    intro l hl hhead hst hd
    exact runs_arrivalOutOfBand hl hhead hd (retrained_retrainLine s l rsTiming (by decide) hst)

end Sys2Proof.Machine
end

section
/-! Obligation O44: overhead words and the partner's messages as they arrive (R60, R69 to R71, R142 to R144). -/

namespace Sys2Proof.Machine

/-! ### The byte of the frame (R71, R98) -/

theorem State.takeFeedback_g (s : State) (l i : Nat) (re im : Option Nat) (G : Fld) (a b : Nat) :
    (s.takeFeedback l i re im).g G a b = s.g G a b := by
  unfold State.takeFeedback
  dsimp only
  split
  · split <;> rfl
  · rfl

theorem State.takeByte_g (s : State) (l n : Nat) (c : Option Nat) (G : Fld) (a b : Nat) :
    (s.takeByte l n c).g G a b = s.g G a b := by
  unfold State.takeByte
  dsimp only
  split
  · rw [State.takeFeedback_g, State.modLine_g]
  · exact State.modLine_g _ _ _ _ _ _

theorem State.takeByte_lines (s : State) (l n : Nat) (c : Option Nat) :
    (s.takeByte l n c).lines = (s.modLine l fun x => { x with rxFrame := x.rxFrame.put n c }).lines := by
  unfold State.takeByte
  dsimp only
  split
  · exact State.takeFeedback_lines _ _ _ _ _
  · rfl

theorem State.takeByte_line (s : State) (l n : Nat) (c : Option Nat) :
    (s.takeByte l n c).line l = { s.line l with rxFrame := (s.line l).rxFrame.put n c } :=
  (State.line_of_lines (State.takeByte_lines s l n c) l).trans (State.line_modLine_self _ _ _)

theorem State.takeByte_frame (s : State) (l n : Nat) (c : Option Nat) : ((s.takeByte l n c).line l).rxFrame.find n = c :=
  (congrArg (fun x : LineX => x.rxFrame.find n) (State.takeByte_line s l n c)).trans (Store.find_put_self _ _ _)

theorem State.takeByte_line_ne (s : State) {l k : Nat} (h : k ≠ l) (n : Nat) (c : Option Nat) :
    (s.takeByte l n c).line k = s.line k :=
  (State.line_of_lines (State.takeByte_lines s l n c) k).trans (State.line_modLine_ne _ h _)

/-! ### What a good word brings besides its byte (R25, R40, R69, R80) -/

/-- A SEAL code other than PROPOSE and WITHDRAW changes at most the negotiation of its port. -/
theorem State.takeSeal_kept {code : Nat} (h1 : code ≠ 1) (h4 : code ≠ 4) (s : State) (p : Nat) :
    (s.takeSeal p code).lines = s.lines ∧ (s.takeSeal p code).regs = s.regs := by
  unfold State.takeSeal
  split
  · simp only [h1, h4, decide_false, Bool.false_and, Bool.false_eq_true, if_false]
    split
    · exact ⟨rfl, rfl⟩
    · split <;> exact ⟨rfl, rfl⟩
  · exact ⟨rfl, rfl⟩

theorem State.takeAck_g (s : State) (p seq map : Nat) (G : Fld) (a b : Nat) : (s.takeAck p seq map).g G a b = s.g G a b := by
  unfold State.takeAck
  dsimp only
  split
  · rfl
  · exact State.modPort_g _ _ _ _ _ _

/-- A good overhead word is heard: its line is alive, and its SEAL code, BERF and acknowledgement are taken. -/
def State.hearWord (s : State) (l : Nat) (v : OhWord) : State :=
  let p := s.anchor l
  let s := (s.modLine l fun x => { x with ohBad := 0 }).takeSeal p v.code
  let s := if s.isVTail l && (v.berf != (s.g LLOAD.ERASE.MASK l 0 != 0)) then
      s.setErase l (if v.berf then s.eraseMask l else 0) else s
  if v.ackv && !(s.port p).express then s.takeAck p v.ackSeq v.ackMap else s

theorem State.hearWord_lines {v : OhWord} (h1 : v.code ≠ 1) (h4 : v.code ≠ 4) (s : State) (l : Nat) :
    (s.hearWord l v).lines = (s.modLine l fun x => { x with ohBad := 0 }).lines := by
  unfold State.hearWord
  dsimp only
  rw [ite_lines, State.takeAck_lines, ite_self, ite_lines, State.setErase_lines, ite_self]
  exact (State.takeSeal_kept h1 h4 _ _).1

/-- A good word writes no register but the erasure's. -/
theorem State.hearWord_g {G : Fld} (hG : G.event = false) (hE : G.id % 2048 ≠ LLOAD.ERASE.MASK.id % 2048) {v : OhWord}
    (h1 : v.code ≠ 1) (h4 : v.code ≠ 4) (s : State) (l a b : Nat) : (s.hearWord l v).g G a b = s.g G a b := by
  obtain ⟨-, hregs⟩ := State.takeSeal_kept h1 h4 (s.modLine l fun x => { x with ohBad := 0 }) (s.anchor l)
  unfold State.hearWord
  dsimp only
  rw [ite_g, State.takeAck_g, ite_self, ite_g, State.setErase_g hG hE, ite_self, State.g, hregs]
  rfl

/-! ### Overhead words (R69) -/

section
variable {s : State} {l n : Nat} {w : Word} (hl : l < 128) (hv : s.isV l = true) (hears : s.hearsOverhead l = true)
  (hf : (s.line l).frozen = false) (hn : n < 63) (hd : s.dspRuns = true) {P : State → Prop}
include hl hv hears hf hn hd

theorem runs_overheadWordRx_bad (hw : ohDecode w.toNat = none) (hp : P ((s.bump LMON.OHW_FAIL.COUNT l).takeByte l n none)) :
    s.runsTo (.overheadWordRx l n w) P := by
  refine ⟨_, ?_, hp⟩
  show execOverheadWordRx l n w s = _
  unfold execOverheadWordRx
  simp only [onLine_of_lt hl, hv, hears, hf, hd, hw, Bool.not_true, Bool.or_self, Bool.false_eq_true, if_false, hn.ne]

theorem runs_overheadWordRx_good {v : OhWord} (hw : ohDecode w.toNat = some v)
    (hp : P ((s.hearWord l v).takeByte l n (some v.frag))) : s.runsTo (.overheadWordRx l n w) P := by
  refine ⟨_, ?_, hp⟩
  show execOverheadWordRx l n w s = _
  unfold execOverheadWordRx
  simp only [onLine_of_lt hl, hv, hears, hf, hd, hw, Bool.not_true, Bool.or_self, Bool.false_eq_true, if_false, hn.ne]
  rfl

end

/-! ### SEAL messages (R40, R70, R144) -/

/-- A proposal of which a message is still missing is not judged. -/
theorem State.considerTheirs_incomplete {s : State} {p i : Nat} {n : Neg} (hneg : (s.port p).neg = some n) (hi : i < n.count)
    (hmiss : (s.port p).sealHeld.find i = none) : s.considerTheirs p = s := by
  have hlen : ((List.range n.count).filterMap fun i => (s.port p).sealHeld.find i).length ≠ n.count := fun h => by
    have hall := List.filterMap_length_eq_length.1 (h.trans List.length_range.symm)
    simpa [hmiss] using hall i (List.mem_range.2 hi)
  simp only [State.considerTheirs, hneg]
  rw [if_pos (by simp [hlen])]

/-- A proposal of ours, or one that has been agreed, is not judged. -/
theorem State.considerTheirs_settled {s : State} {p : Nat} (h : (s.port p).neg.all (fun n => n.ours || n.agreed) = true) :
    s.considerTheirs p = s := by
  unfold State.considerTheirs
  split
  case h_1 n hneg =>
    rw [hneg] at h
    dsimp only
    have h : (n.ours || n.agreed) = true := h
    rw [if_pos (by rw [h, Bool.true_or])]
  case h_2 => rfl

/-- The partner's negotiation of `count` messages for `target`, not judged yet. -/
def theirNeg (start target count : Nat) : Neg :=
  { ours := false, start := start, target := target, changes := [], count := count, agreed := false, confirmed := false }

/-- A message of the partner opens its negotiation for `target`, and is held. -/
def State.openTheirs (s : State) (p target : Nat) (m : List Nat) : State :=
  (s.modPort p fun x => { x with neg := some (theirNeg (s.portSfc p) target (m.getD 25 0)), sealHeld := [] }).modPort p fun x =>
    { x with sealHeld := x.sealHeld.put (m.getD 26 0) (some m) }

theorem State.openTheirs_neg (s : State) (p target : Nat) (m : List Nat) :
    ((s.openTheirs p target m).port p).neg = some (theirNeg (s.portSfc p) target (m.getD 25 0)) := by
  rw [State.openTheirs, State.port_modPort_self, State.port_modPort_self]

theorem State.openTheirs_held (s : State) (p target : Nat) (m : List Nat) :
    ((s.openTheirs p target m).port p).sealHeld = Store.put [] (m.getD 26 0) (some m) := by
  rw [State.openTheirs, State.port_modPort_self, State.port_modPort_self]

theorem State.openTheirs_port_ne (s : State) {p q : Nat} (h : q ≠ p) (target : Nat) (m : List Nat) :
    (s.openTheirs p target m).port q = s.port q := by
  rw [State.openTheirs, State.port_modPort_ne _ h, State.port_modPort_ne _ h]

/-- The first of two or more messages leaves the proposal to wait for the others. -/
theorem State.openTheirs_waits (s : State) (p target : Nat) {m : List Nat} (h : 2 ≤ m.getD 25 0) :
    (s.openTheirs p target m).considerTheirs p = s.openTheirs p target m := by
  obtain ⟨i, hi, hne⟩ : ∃ i, i < m.getD 25 0 ∧ i ≠ m.getD 26 0 :=
    if h0 : m.getD 26 0 = 0 then ⟨1, by omega, by omega⟩ else ⟨0, by omega, Ne.symm h0⟩
  refine State.considerTheirs_incomplete (s.openTheirs_neg p target m) hi ?_
  rw [State.openTheirs_held, Store.find_put_ne _ _ hne]
  rfl

theorem runs_sealMessageRx_first {s : State} {p : Nat} {m : List Nat} (hp : p < 128) (hlines : s.messageLines p ≠ [])
    (hneg : (s.port p).neg = none)
    (hahead : (m.getD 0 0 * 256 + m.getD 1 0 + 2 ^ 16 - s.portSfc p % 2 ^ 16) % 2 ^ 16 ≠ 0)
    (hcount : m.getD 25 0 ≤ 16) (hix : m.getD 26 0 < m.getD 25 0) (hd : s.dspRuns = true) {P : State → Prop}
    (h : P ((s.openTheirs p
      (sfcAdd (s.portSfc p) ((m.getD 0 0 * 256 + m.getD 1 0 + 2 ^ 16 - s.portSfc p % 2 ^ 16) % 2 ^ 16)) m).considerTheirs p)) :
    s.runsTo (.sealMessageRx p m) P := by
  refine ⟨_, ?_, h⟩
  show execSealMessageRx p m s = _
  have hlines : (s.messageLines p).isEmpty = false := by simpa using hlines
  unfold execSealMessageRx
  simp only [onPort_of_lt hp, hd, Bool.not_true, Bool.false_eq_true, if_false, hneg]
  rw [if_neg (by simp only [hlines, Bool.false_or, Bool.or_eq_true, decide_eq_true_eq]; omega)]
  rfl

/-! ### LOAD messages (R142, R143) -/

/-- A table with a segment missing is not whole. -/
theorem tableOfSegs_none {x : LoadSet} {g : Nat} (hg : g < 11) (h : x.segs.find g = none) : tableOfSegs x = none := by
  refine if_neg fun hall => ?_
  simpa [h] using List.all_eq_true.1 hall g (List.mem_range.2 hg)

/-- The set that the first segment of a TABLE_ID begins (R142). -/
def firstSegment (m : List Nat) : LoadSet := { id := m.getD 1 0, segs := [(m.getD 0 0 % 16, segEntries m)] }

/-- One segment alone makes no table. -/
theorem tableOfSegs_first (m : List Nat) : tableOfSegs (firstSegment m) = none := by
  by_cases h : m.getD 0 0 % 16 = 0
  · exact tableOfSegs_none (g := 1) (by decide) (if_neg (by rw [h]; decide))
  · exact tableOfSegs_none (g := 0) (by decide) (if_neg h)

/-- Outside SHOWTIME a segment of a new TABLE_ID begins its set. -/
theorem LineX.holdSegment_new {x : LineX} (hst : x.st ≠ .showtime) (up rx : Bool) {m : List Nat}
    (hid : (x.inLoad.get {} (bnat up)).id ≠ m.getD 1 0) :
    x.holdSegment up rx m = firstSegment m := by
  simp only [LineX.holdSegment, hid, hst, decide_false, Bool.false_and, Bool.false_eq_true, if_false]
  rfl

theorem State.takeSegment_new {s : State} {l : Nat} {m : List Nat} (hst : (s.line l).st ≠ .showtime)
    (hid : ((s.line l).inLoad.get {} (bnat (bit (m.getD 0 0) 7))).id ≠ m.getD 1 0) :
    s.takeSegment l m = s.modLine l fun x =>
      { x with inLoad := x.inLoad.set {} (bnat (bit (m.getD 0 0) 7)) (firstSegment m) } := by
  simp only [State.takeSegment, LineX.holdSegment_new hst _ _ hid, tableOfSegs_first]

/-- A head in TRAINING takes a segment, and judges a proposal that waited for its table. -/
theorem runs_loadMessageRx_training {s : State} {l : Nat} {m : List Nat} (hl : l < 128) (hhead : s.isVHead l = true)
    (hst : (s.line l).st = .training) (hg : m.getD 0 0 % 16 ≤ 10) (hd : s.dspRuns = true) {t : State}
    (ht : (s.takeSegment l m).considerTheirs (s.anchor l) = t) (hstay : (t.line l).st ≠ .loading) {P : State → Prop}
    (hp : P t) :
    s.runsTo (.loadMessageRx l m) P := by
  refine runs_when hl (g := State.dspRuns) rfl hd ?_
  have hacts : ¬ (!s.isV l || !((s.line l).st = .training || (s.line l).st = .loading || (s.line l).st = .showtime ||
      (s.line l).st = .retrain) || decide (10 < m.getD 0 0 % 16)) = true := by
    simpa [State.vHead_isV hhead, hst] using hg
  dsimp only
  rw [if_neg hacts, State.vHead_not_tail hhead]
  simp only [Bool.false_and, Bool.false_eq_true, if_false, ht, hstay]
  exact hp

/-! ### TIMING messages (R60) -/

theorem runs_timingMessageRx {s : State} {l corr : Nat} (hl : l < 128) (htail : s.isVTail l = true)
    (hears : s.hearsOverhead l = true) (hd : s.dspRuns = true) {P : State → Prop}
    (hp : P (s.modLine l fun x => { x with taPending := some (toSigned 8 corr, sfcAdd (s.pageSfc .ltrain l) 3) })) :
    s.runsTo (.timingMessageRx l corr) P := by
  refine ⟨_, ?_, hp⟩
  show execTimingMessageRx l corr s = _
  unfold execTimingMessageRx
  simp only [onLine_of_lt hl, htail, hears, hd, Bool.and_self, if_true]

/-! ### The obligation -/

/-- Settles O44: the two outcomes of an overhead word by `State.takeByte_line` and `State.hearWord_lines`, the first SEAL message
by `State.openTheirs_waits`, the first LOAD segment by `State.takeSegment_new`, the TIMING correction as one update of its line. -/
theorem overheadReceived : Obligations.OverheadReceived := by
  unfold Obligations.OverheadReceived
  intro s
  refine ⟨?_, ?_, ?_, ?_, ?_⟩
  case refine_1 =>
    intro l n w hl hv hears hf hn hw hd
    have hkept (k : Nat) : (s.bump LMON.OHW_FAIL.COUNT l).line k = s.line k := rfl
    refine runs_overheadWordRx_bad hl hv hears hf hn hd hw ⟨?_, ?_, State.takeByte_frame _ _ _ _, fun k hk => ?_⟩
    · rw [State.takeByte_g, State.g_bump_self]
      exact satAdd_mod _ _ _
    · rw [State.takeByte_line, hkept]
    · rw [State.takeByte_line_ne _ hk, hkept]
  case refine_2 =>
    intro l n w v hl hv hears hf hn hw h1 h4 hd
    have hline := State.line_of_lines (State.hearWord_lines h1 h4 s l)
    refine runs_overheadWordRx_good hl hv hears hf hn hd hw ⟨?_, State.takeByte_frame _ _ _ _, ?_, fun k hk => ?_⟩
    · rw [State.takeByte_line, hline, State.line_modLine_self]
    · rw [State.takeByte_g, State.hearWord_g rfl (by decide) h1 h4]
    · rw [State.takeByte_line_ne _ hk, hline, State.line_modLine_ne _ hk]
  case refine_3 =>
    intro p target m hp hlines hneg hfar htarget h0 h1 h2 h16 hix hd
    refine runs_sealMessageRx_first hp hlines hneg (by omega) h16 hix hd ?_
    rw [← htarget, State.openTheirs_waits _ _ _ h2]
    refine ⟨State.openTheirs_neg _ _ _ _, ?_, rfl, rfl, fun q hq => State.openTheirs_port_ne _ hq _ _⟩
    rw [State.openTheirs_held]
    exact Store.find_put_self _ _ _
  case refine_4 =>
    intro l m hl hhead hst hg hsettled hid hd
    have hset := State.takeSegment_new (by simp [hst]) hid
    have hline : ((s.takeSegment l m).line l).st = .training := by
      rw [hset, State.line_modLine_self]
      exact hst
    have hjudged : (s.takeSegment l m).considerTheirs (s.anchor l) = s.takeSegment l m := by
      refine State.considerTheirs_settled ?_
      rw [hset]
      exact hsettled
    refine runs_loadMessageRx_training hl hhead hst hg hd hjudged (by simp [hline]) ⟨hline, ?_, ?_, fun k hk => ?_⟩
    · rw [hset, State.line_modLine_self]
      exact Store.get_set_self _ _ _ _
    · rw [hset]
      rfl
    · rw [hset, State.line_modLine_ne _ hk]
  case refine_5 =>
    intro l corr hl htail hears hd
    exact runs_timingMessageRx hl htail hears hd
      ⟨State.line_modLine_self _ _ _, rfl, fun k hk => State.line_modLine_ne _ hk _⟩

end Sys2Proof.Machine
end

section
/-! What an error in the engine's memory touches: its counters and the entry in error (R114, R115). -/

namespace Sys2Proof.Machine

/-- The recovery of the engine shows on no page (R310). -/
theorem State.beginRecovery_engine_regs (s : State) : (s.beginRecovery 18).regs = s.regs := by
  unfold State.beginRecovery
  split <;> rfl

theorem State.beginRecovery_engine_coef (s : State) : (s.beginRecovery 18).xe.coef = s.xe.coef := by
  rw [State.beginRecovery_xe]

theorem State.recoverEntry_regs (s : State) (m index : Nat) : (s.recoverEntry m index).regs = s.regs := by
  unfold State.recoverEntry
  dsimp only
  split
  · split <;> rfl
  · split
    · exact State.beginRecovery_engine_regs _
    · split
      · exact State.beginRecovery_engine_regs _
      · rfl

theorem State.recoverEntry_coef (s : State) (m index : Nat) :
    (s.recoverEntry m index).xe.coef =
      if m = 3 then s.xe.coef else (s.setCoef (m * 2 ^ 21 + index) (0, 0)).xe.coef := by
  unfold State.recoverEntry
  dsimp only
  split
  · split <;> rfl
  · split
    · exact State.beginRecovery_engine_coef _
    · split
      · exact State.beginRecovery_engine_coef _
      · rfl

theorem State.Logs.g {s t : State} (h : State.Logs s t) {G : Fld} (hG : G.logged = false) (a b : Nat) : t.g G a b = s.g G a b :=
  h.2 G a b hG

theorem State.Logs.xe {s t : State} (h : State.Logs s t) : t.xe = s.xe := by
  have hc : t.core.xe = s.core.xe := by rw [h.1]
  exact hc

theorem State.showUe_coef (s : State) (m index : Nat) : (s.showUe m index).xe.coef = s.xe.coef := by
  simp [State.showUe]

/-- Of the registers that no event or fault record writes, an error shows in UE_COUNT, UE_LAST and UE_SFC only. -/
theorem State.showUe_g {G : Fld} (hG : G.event = false) (s : State) (m index a b : Nat)
    (hl : G.id % 2048 ≠ XENGINE.UE_LAST.MATRIX.id % 2048) (hi : G.id % 2048 ≠ XENGINE.UE_LAST.INDEX.id % 2048)
    (hs : G.id % 2048 ≠ XENGINE.UE_SFC.SFC.id % 2048) :
    (s.showUe m index).g G a b = (s.bump XENGINE.UE_COUNT.COUNT).g G a b := by
  unfold State.showUe
  dsimp only
  rw [State.pulse_g hG, State.g_wr_of_id hs, State.g_wr_of_id hi, State.g_wr_of_id hl]

theorem State.modFault_if (c : Prop) [Decidable c] (s : State) (f : FaultX → FaultX) :
    (if c then s.modFault f else s).regs = s.regs ∧ (if c then s.modFault f else s).xe = s.xe := by
  split <;> exact ⟨rfl, rfl⟩

/-- An error in the memory but for what its record and its handling touch. -/
theorem State.uncorrectable_parts (s : State) (m index : Nat) : ∃ f : FaultReport,
    (s.uncorrectable m index).regs = (((s.showUe m index).log f).recoverEntry m index).regs ∧
    (s.uncorrectable m index).xe = (((s.showUe m index).log f).recoverEntry m index).xe :=
  ⟨_, State.modFault_if _ _ _⟩

theorem State.uncorrectable_coef (s : State) (m index : Nat) :
    (s.uncorrectable m index).xe.coef =
      if m = 3 then s.xe.coef else (s.setCoef (m * 2 ^ 21 + index) (0, 0)).xe.coef := by
  obtain ⟨f, -, hxe⟩ := s.uncorrectable_parts m index
  have hlog : ((s.showUe m index).log f).xe.coef = s.xe.coef := by
    rw [(State.Logs.log _ f).xe, State.showUe_coef]
  rw [hxe, State.recoverEntry_coef]
  simp only [State.setCoef, hlog]

theorem State.uncorrectable_g {G : Fld} (hG : G.logged = false) (s : State) (m index a b : Nat)
    (hl : G.id % 2048 ≠ XENGINE.UE_LAST.MATRIX.id % 2048) (hi : G.id % 2048 ≠ XENGINE.UE_LAST.INDEX.id % 2048)
    (hs : G.id % 2048 ≠ XENGINE.UE_SFC.SFC.id % 2048) :
    (s.uncorrectable m index).g G a b = (s.bump XENGINE.UE_COUNT.COUNT).g G a b := by
  obtain ⟨f, hregs, -⟩ := s.uncorrectable_parts m index
  have hev : G.event = false := (Bool.or_eq_false_iff.1 hG).1
  calc (s.uncorrectable m index).g G a b
      = ((s.showUe m index).log f).g G a b := by
        unfold State.g
        rw [hregs, State.recoverEntry_regs]
    _ = (s.showUe m index).g G a b := (State.Logs.log _ f).g hG a b
    _ = (s.bump XENGINE.UE_COUNT.COUNT).g G a b := State.showUe_g hev s m index a b hl hi hs

end Sys2Proof.Machine
end

section
/-! The engine's landings, the end of HOLD, and scrubbing (O32). -/

namespace Sys2Proof.Machine

/-- One error that the scrubber finds: counted where it corrected it, else handled as uncorrectable (R115). -/
def State.scrubError (s : State) (e : Nat × Nat × Bool) : State :=
  if e.2.2 then s.corrected else s.uncorrectable (e.1 % 4) e.2.1

theorem execScrubStep_eq (errors : List (Nat × Nat × Bool)) (s : State) (h : s.engineRuns = true) :
    execScrubStep errors s = .next (errors.foldl State.scrubError s) := by
  unfold execScrubStep when
  rw [if_pos h]
  rfl

theorem State.scrubError_ce (s : State) (e : Nat × Nat × Bool) :
    (s.scrubError e).g XENGINE.CE_COUNT.COUNT =
      if e.2.2 then satAdd 32 (s.g XENGINE.CE_COUNT.COUNT) 1 else s.g XENGINE.CE_COUNT.COUNT := by
  unfold State.scrubError
  split
  · exact (State.g_bump_self s _ _ _ _).trans (satAdd_mod 32 _ _)
  · rw [State.uncorrectable_g rfl _ _ _ _ _ (by decide) (by decide) (by decide), State.g_bump_of_id (by decide)]

theorem State.scrubError_ue (s : State) (e : Nat × Nat × Bool) :
    (s.scrubError e).g XENGINE.UE_COUNT.COUNT =
      if !e.2.2 then satAdd 32 (s.g XENGINE.UE_COUNT.COUNT) 1 else s.g XENGINE.UE_COUNT.COUNT := by
  unfold State.scrubError
  cases e.2.2
  · exact (State.uncorrectable_g rfl _ _ _ _ _ (by decide) (by decide) (by decide)).trans
      ((State.g_bump_self s _ _ _ _).trans (satAdd_mod 32 _ _))
  · exact State.g_bump_of_id (by decide) s _ _ _ _ _

theorem State.scrubError_lines (s : State) (e : Nat × Nat × Bool) : (s.scrubError e).lines = s.lines := by
  unfold State.scrubError
  split <;> simp

/-- An entry that reads 0 goes on reading 0 while the scrubber works. -/
theorem State.scrubError_zero (s : State) (e : Nat × Nat × Bool) {key : Nat} (h : s.coefRaw key = (0, 0)) :
    (s.scrubError e).coefRaw key = (0, 0) := by
  unfold State.coefRaw at h ⊢
  unfold State.scrubError
  split
  · simpa [State.corrected] using h
  · rw [State.uncorrectable_coef]
    split
    · exact h
    · simp only [State.setCoef, Store.get_set]
      split
      · rfl
      · exact h

/-- An uncorrectable entry of a matrix reads 0 (R114). -/
theorem State.scrubError_uncorrectable (s : State) {e : Nat × Nat × Bool} (he : e.2.2 = false) (hm : e.1 % 4 ≠ 3) :
    (s.scrubError e).coefRaw (e.1 % 4 * 2 ^ 21 + e.2.1) = (0, 0) := by
  unfold State.coefRaw State.scrubError
  rw [he, if_neg (by decide), State.uncorrectable_coef, if_neg hm]
  exact Store.get_set_self s.xe.coef (0, 0) (0, 0) _

/-- A counter that every element of one kind steps once ends where as many steps take it. -/
theorem foldl_counts {β : Type} {f : State → β → State} {g : State → Nat} {step : Nat → Nat} {p : β → Bool}
    (h : ∀ s b, g (f s b) = if p b then step (g s) else g s) (l : List β) (s : State) :
    g (l.foldl f s) = (l.filter p).foldl (fun n _ => step n) (g s) := by
  induction l generalizing s with
  | nil => rfl
  | cons b l ih =>
    rw [List.foldl_cons, ih, h, List.filter_cons]
    split <;> rfl

theorem State.recoveryCheck_parts (s : State) :
    s.recoveryCheck.xe = s.xe ∧ s.recoveryCheck.lines = s.lines := by
  refine ⟨?_, State.recoveryCheck_lines s⟩
  unfold State.recoveryCheck
  split
  · exact State.endRecovery_xe s 18
  · rfl

theorem fxuLanding_lands (s : State) (h0 : s.sfc % 128 = 0) (h1 : s.sfc ≠ 0) (hr : s.engineRuns = true) :
    s.runsTo .fxuLanding fun t =>
      t.xe.prevErr = [] ∧ (∀ e ∈ t.xe.lost, e / 2 ^ 21 ≠ 1) ∧ (s.xe.hold = true → t.xe.coef = s.xe.coef) ∧
      t.lines = s.lines := by
  have hx : exec .fxuLanding s = execFxuLanding s := rfl
  unfold State.runsTo
  rw [hx]
  unfold execFxuLanding
  rw [if_neg (by simp [h0, h1, hr])]
  refine ⟨_, rfl, rfl, fun e he => by simpa using (List.mem_filter.1 he).2, fun hh => ?_, ?_⟩
  · simp [hh]
  · dsimp only
    split <;> simp

theorem prdLanding_lands (s : State) (h0 : s.sfc % 128 = 1) (h1 : 129 ≤ s.sfc) (hr : s.engineRuns = true) :
    s.runsTo .prdLanding fun t =>
      t.xe.prevFeedback = [] ∧ t.xe.prevDiscard = false ∧ (∀ e ∈ t.xe.lost, e / 2 ^ 21 ≠ 2) ∧
      (s.xe.hold = true → t.xe.coef = s.xe.coef) := by
  have hx : exec .prdLanding s = execPrdLanding s := rfl
  unfold State.runsTo
  rw [hx]
  unfold execPrdLanding
  rw [if_neg (by simp [h0, hr]; omega)]
  refine ⟨_, rfl, rfl, rfl, fun e he => by simpa using (List.mem_filter.1 he).2, fun hh => ?_⟩
  simp [hh]

theorem holdExpired_ends (s : State) (hh : s.xe.hold = true) (hs : s.fault.s3 = false) :
    s.runsTo .holdExpired fun t =>
      t.xe = { s.xe with hold := false } ∧ t.g XENGINE.CTRL.HOLD = 0 ∧ t.lines = s.lines := by
  have hx : exec .holdExpired s = execHoldExpired s := rfl
  unfold State.runsTo
  rw [hx]
  unfold execHoldExpired
  rw [if_pos (by simp [hh, hs])]
  refine ⟨_, rfl, ?_, ?_, ?_⟩
  · simp
  · rw [State.pulse_g rfl, State.g_wr_self]
    rfl
  · simp

theorem scrubStep_counts (s : State) (errors : List (Nat × Nat × Bool)) (hr : s.engineRuns = true) :
    s.runsTo (.scrubStep errors) fun t =>
      t.g XENGINE.CE_COUNT.COUNT = (errors.filter fun e => e.2.2).foldl (fun n _ => satAdd 32 n 1) (s.g XENGINE.CE_COUNT.COUNT) ∧
      t.g XENGINE.UE_COUNT.COUNT =
        (errors.filter fun e => !e.2.2).foldl (fun n _ => satAdd 32 n 1) (s.g XENGINE.UE_COUNT.COUNT) ∧
      (∀ e ∈ errors, e.2.2 = false → e.1 % 4 ≠ 3 → t.coefRaw (e.1 % 4 * 2 ^ 21 + e.2.1) = (0, 0)) ∧ t.lines = s.lines :=
  ⟨_, execScrubStep_eq errors s hr,
    foldl_counts (g := fun s => s.g XENGINE.CE_COUNT.COUNT) (step := fun n => satAdd 32 n 1) State.scrubError_ce errors s,
    foldl_counts (g := fun s => s.g XENGINE.UE_COUNT.COUNT) (step := fun n => satAdd 32 n 1) State.scrubError_ue errors s,
    fun e he hb hm => foldl_reaches (P := fun t => t.coefRaw (e.1 % 4 * 2 ^ 21 + e.2.1) = (0, 0))
      (fun s b _ h => s.scrubError_zero b h) he (fun s => s.scrubError_uncorrectable hb hm) s,
    foldl_lines _ State.scrubError_lines errors s⟩

theorem nxtUeRecoveryEnd_ends (s : State) (l k : Nat) (hl : l < 128) (hs : s.fault.s3 = false) :
    s.runsTo (.nxtUeRecoveryEnd l k) fun t =>
      t.xe.recover = s.xe.recover.filter (· != l * 128 + k % 128) ∧ t.xe.coef = s.xe.coef ∧ t.lines = s.lines := by
  obtain ⟨hxe, hlines⟩ := State.recoveryCheck_parts
    { s with xe := { s.xe with recover := s.xe.recover.filter (· != l * 128 + k % 128) } }
  exact runs_passed hl rfl hs ⟨by rw [hxe], by rw [hxe], hlines⟩

/-- Settles O32: each moment of the engine by its own lemma. -/
theorem engineLandings : Obligations.EngineLandings := fun s =>
  ⟨fxuLanding_lands s, prdLanding_lands s, holdExpired_ends s, scrubStep_counts s, nxtUeRecoveryEnd_ends s⟩

end Sys2Proof.Machine
end

section
/-! What the words of an array field hold after one write each, and what a request of the coefficient window writes. -/

namespace Sys2Proof.Machine

/-- A field that none of a list is keeps its value when one of the list is written. -/
theorem State.g_wr_of_mem {Fs : List Fld} {F G : Fld} (hF : F ∈ Fs) (hG : ∀ H ∈ Fs, G.id % 2048 ≠ H.id % 2048) (s : State)
    (v i j a b : Nat) : (s.wr F v i j).g G a b = s.g G a b := State.g_wr_of_id (hG F hF) s v i j a b

/-- Where each step of a walk sets its own word and no other, every word is as its step set it. -/
theorem foldl_range_sets {f : State → Nat → State} {G : Fld} {a n i : Nat} {P : State → Prop} {v : Nat}
    (hkeep : ∀ s k, P s → P (f s k)) (hself : ∀ s, P s → (f s i).g G a i = v)
    (hother : ∀ s k, k < n → k ≠ i → (f s k).g G a i = s.g G a i) (hi : i < n) {s : State} (hs : P s) :
    ((List.range n).foldl f s).g G a i = v := by
  have hall (l : List Nat) (hl : ∀ k ∈ l, k < n) (hm : i ∈ l) (s : State) (hs : P s) : (l.foldl f s).g G a i = v := by
    induction l using List.reverseRecOn generalizing s with
    | nil => cases hm
    | append_singleton l k ih =>
      have hPl : P (l.foldl f s) := by
        clear ih hl hm
        induction l generalizing s with
        | nil => exact hs
        | cons b l ih => exact ih _ (hkeep s b hs)
      rw [List.foldl_append]
      by_cases hk : k = i
      · subst hk
        exact hself _ hPl
      · have hml : i ∈ l := by
          rcases List.mem_append.1 hm with h | h
          · exact h
          · exact absurd (List.mem_singleton.1 h).symm hk
        exact (hother _ k (hl k (by simp)) hk).trans (ih (fun m h => hl m (by simp [h])) hml s hs)
  exact hall _ (fun k h => List.mem_range.1 h) (List.mem_range.2 hi) s hs

theorem State.landResult_busy (s : State) (p : Page) (i : Nat) : (s.landResult p i).g (HDR.PAGE_STAT.BUSY p) i = 0 := by
  unfold State.landResult
  dsimp only
  rw [State.g_wr_of_id (by cases p <;> decide), State.g_wr_self]
  cases p <;> rfl

/-- The fields that the end of a request of the window writes, beside its events. -/
def windowFields : List Fld :=
  [XWINDOW.XW_STAT.STATUS, XWINDOW.XW_STAT.CE, XWINDOW.CAP_SFC.SFC, XWINDOW.CAP_SYM.SYMBOL, XWINDOW.XW_STAT.WAITING,
   HDR.RESULT_SEQ.SEQ .xwindow, HDR.PAGE_STAT.BUSY .xwindow, HDR.RESULT_SEQ.STALE .xwindow]

theorem State.finishXw_g {G : Fld} (hG : G.event = false) (hw : ∀ H ∈ windowFields, G.id % 2048 ≠ H.id % 2048) (s : State)
    (status ce a b : Nat) : (s.finishXw status ce).g G a b = s.g G a b := by
  unfold State.finishXw State.landResult State.showWaiting
  dsimp only
  rw [State.pulse_g hG, State.g_wr_of_id (hw _ (by simp [windowFields])), State.g_wr_of_id (hw _ (by simp [windowFields])),
    State.g_wr_of_id (hw _ (by simp [windowFields])), State.g_wr_of_id (hw _ (by simp [windowFields])),
    State.g_wr_of_id (hw _ (by simp [windowFields])), State.g_wr_of_id (hw _ (by simp [windowFields])),
    State.g_wr_of_id (hw _ (by simp [windowFields])), State.g_wr_of_id (hw _ (by simp [windowFields]))]
  rfl

theorem State.finishXw_status (s : State) {status : Nat} (h : status < 16) (ce : Nat) :
    (s.finishXw status ce).g XWINDOW.XW_STAT.STATUS = status := by
  unfold State.finishXw State.landResult State.showWaiting
  dsimp only
  rw [State.pulse_g rfl, State.g_wr_of_id (by decide), State.g_wr_of_id (by decide), State.g_wr_of_id (by decide),
    State.g_wr_of_id (by decide), State.g_wr_of_id (by decide), State.g_wr_of_id (by decide), State.g_wr_of_id (by decide),
    State.g_wr_self]
  exact Nat.mod_eq_of_lt h

theorem State.finishXw_busy (s : State) (status ce : Nat) : (s.finishXw status ce).g (HDR.PAGE_STAT.BUSY .xwindow) = 0 := by
  unfold State.finishXw
  dsimp only
  rw [State.pulse_g rfl, State.landResult_busy]

theorem State.finishXw_xw (s : State) (status ce : Nat) : (s.finishXw status ce).xe.xw = none := by
  simp [State.finishXw, State.showWaiting]

theorem State.finishXw_coef (s : State) (status ce : Nat) : (s.finishXw status ce).xe.coef = s.xe.coef := by
  simp [State.finishXw, State.showWaiting]

end Sys2Proof.Machine
end

section
/-! The write port, the clearing of a line, the census and the coefficient window (O34). -/

namespace Sys2Proof.Machine

/-! ### The write port (R105, R120) -/

theorem writePortGrant_grants (s : State) (m : Nat) (hm : nextWriter s.xe.reserved s.xe.waiting = some m)
    (hf : s.portFreeFor m = true) (hr : s.engineRuns = true) :
    s.runsTo .writePortGrant fun t =>
      t.xe.lease = some m ∧ t.xe.waiting = s.xe.waiting.filter (· != m) ∧ t.xe.coef = s.xe.coef ∧ t.lines = s.lines := by
  have hx : exec .writePortGrant s = execWritePortGrant s := rfl
  unfold State.runsTo
  rw [hx]
  unfold execWritePortGrant
  simp only [hm, hf, hr, Bool.and_self, if_true]
  cases s.xe.xw with
  | none => exact ⟨_, rfl, rfl, rfl, rfl, rfl⟩
  | some r =>
    dsimp only
    split
    · exact ⟨_, rfl, rfl, rfl, rfl, rfl⟩
    · exact ⟨_, rfl, rfl, rfl, rfl, rfl⟩

theorem Store.find_filter_key {α : Type} (m : Store α) (p : Nat → Bool) (k : Nat) :
    Store.find (m.filter fun e => p e.1) k = if p k then Store.find m k else none := by
  induction m with
  | nil => simp [Store.find]
  | cons e m ih =>
    obtain ⟨b, v⟩ := e
    by_cases hb : b = k
    · subst hb
      by_cases hp : p b <;> simp [Store.find, hp, ih]
    · by_cases hp : p b <;> simp [Store.find, hp, hb, ih]

theorem coefKey_victim (m k : Nat) {v d : Nat} (hv : v < 128) (hd : d < 128) : coefKey m k v d / 2 ^ 7 % 128 = v := by
  unfold coefKey entryIndex
  omega

theorem coefKey_disturber (m k v : Nat) {d : Nat} (hd : d < 128) : coefKey m k v d % 128 = d := by
  unfold coefKey entryIndex
  omega

/-- A clearing takes the row and the column of its line and nothing else. -/
theorem State.clearEntries_coefRaw (s : State) (l m k : Nat) {v d : Nat} (hv : v < 128) (hd : d < 128) :
    (s.clearEntries l).coefRaw (coefKey m k v d) = if v = l ∨ d = l then (0, 0) else s.coefRaw (coefKey m k v d) := by
  unfold State.coefRaw State.clearEntries Store.get
  dsimp only
  rw [Store.find_filter_key _ fun key => key / 2 ^ 7 % 128 != l && key % 128 != l, coefKey_victim m k hv hd,
    coefKey_disturber m k v hd]
  by_cases h : v = l ∨ d = l
  · have hp : (v != l && d != l) = false := by simpa [Classical.or_iff_not_imp_left] using h
    simp [hp, h]
  · have hp : (v != l && d != l) = true := by simpa [not_or] using h
    simp [hp, h]

theorem xengineDmaClear_clears (s : State) (l : Nat) (hl : l < 128) (hc : l ∈ s.xe.clearing) (hp : s.xe.lease = some 0x20)
    (hf : s.fenced 0x20 = false) (hr : s.engineRuns = true) :
    s.runsTo (.xengineDmaClear l) fun t =>
      l ∉ t.xe.clearing ∧ t.xe.lease = none ∧ t.regs = s.regs ∧ t.lines = s.lines ∧
      ∀ m k v d, m < 3 → k < 128 → v < 128 → d < 128 →
        t.coefRaw (coefKey m k v d) = (if v = l ∨ d = l then (0, 0) else s.coefRaw (coefKey m k v d)) := by
  have hx : exec (.xengineDmaClear l) s = execXengineDmaClear l s := rfl
  unfold State.runsTo
  rw [hx]
  unfold execXengineDmaClear
  rw [onLine_of_lt hl]
  dsimp only
  rw [if_pos (by simp [hc, hp, hf, hr])]
  have hleft : l ∉ s.xe.clearing.filter (· != l) := by simp
  have hcoef (m k v d : Nat) (_ : m < 3) (_ : k < 128) (hv : v < 128) (hd : d < 128) := s.clearEntries_coefRaw l m k hv hd
  refine ⟨_, rfl, ?_⟩
  split
  · exact ⟨hleft, rfl, rfl, rfl, hcoef⟩
  · exact ⟨hleft, rfl, rfl, rfl, hcoef⟩

/-! ### The census (R117) -/

/-- The word of a neighbour in the census's result. -/
def State.showNeighbour (es : List (Nat × Int)) (s : State) (i : Nat) : State :=
  let s := s.wr XENGINE.CENSUS.VALID (bnat es[i]?.isSome) 0 i
  let s := s.wr XENGINE.CENSUS.NEIGHBOUR (match es[i]? with | some e => e.1 | none => 0) 0 i
  s.wr XENGINE.CENSUS.LEVEL (match es[i]? with | some e => ofSigned 16 e.2 | none => 0) 0 i

/-- The result words of a census. -/
def State.showCensus (s : State) (dir l reason : Nat) (es : List (Nat × Int)) : State :=
  let s := (s.wr XENGINE.CENSUS_STAT.REASON reason).wr XENGINE.CENSUS_STAT.COUNT es.length
  let s := (s.wr XENGINE.CENSUS_STAT.DIR dir).wr XENGINE.CENSUS_STAT.LINE l
  (List.range 8).foldl (State.showNeighbour es) s

/-- A census that is over: its words shown, its request done. -/
def State.endCensus (s : State) (dir l reason : Nat) (es : List (Nat × Int)) : State :=
  let s := s.showCensus dir l reason es
  (({ s with xe := { s.xe with census := none, censusTaken := none } } : State).landResult .xengine 0).pulse .xengine 0 9

theorem execCensusDone_taken {s : State} {dir l reason : Nat} {es : List (Nat × Int)} (hc : s.xe.census = some (dir, l))
    (ht : s.xe.censusTaken = some (reason, es)) (hr : s.engineRuns = true) :
    execCensusDone s = .next (s.endCensus dir l reason es) := by
  have htake : s.takeCensus = s := by simp [State.takeCensus, hc, ht]
  unfold execCensusDone
  rw [hr, if_neg (by decide), htake]
  simp only [hc, ht]
  rfl

theorem State.showNeighbour_xe (es : List (Nat × Int)) (s : State) (i : Nat) : (s.showNeighbour es i).xe = s.xe := rfl

theorem State.showNeighbour_lines (es : List (Nat × Int)) (s : State) (i : Nat) :
    (s.showNeighbour es i).lines = s.lines := rfl

theorem State.showNeighbour_g {G : Fld} (es : List (Nat × Int)) (s : State) (i a b : Nat)
    (hG : ∀ H ∈ [XENGINE.CENSUS.VALID, XENGINE.CENSUS.NEIGHBOUR, XENGINE.CENSUS.LEVEL], G.id % 2048 ≠ H.id % 2048) :
    (s.showNeighbour es i).g G a b = s.g G a b := by
  unfold State.showNeighbour
  dsimp only
  rw [State.g_wr_of_mem (by simp) hG, State.g_wr_of_mem (by simp) hG, State.g_wr_of_mem (by simp) hG]

theorem State.showNeighbours_g {G : Fld}
    (hG : ∀ H ∈ [XENGINE.CENSUS.VALID, XENGINE.CENSUS.NEIGHBOUR, XENGINE.CENSUS.LEVEL], G.id % 2048 ≠ H.id % 2048)
    (es : List (Nat × Int)) (l : List Nat) (s : State) (a b : Nat) :
    (l.foldl (State.showNeighbour es) s).g G a b = s.g G a b :=
  foldl_g G a b _ (fun s i => s.showNeighbour_g es i a b hG) l s

theorem State.showNeighbour_valid (es : List (Nat × Int)) (s : State) (i : Nat) :
    (s.showNeighbour es i).g XENGINE.CENSUS.VALID 0 i = bnat (decide (i < es.length)) := by
  unfold State.showNeighbour
  dsimp only
  rw [State.g_wr_of_id (by decide), State.g_wr_of_id (by decide), State.g_wr_self]
  by_cases h : i < es.length
  · simp only [h, getElem?_pos, Option.isSome_some, decide_true]
    rfl
  · simp only [h, not_false_eq_true, getElem?_neg, Option.isSome_none, decide_false]
    rfl

theorem State.showNeighbour_neighbour {es : List (Nat × Int)} (s : State) {i : Nat} {e : Nat × Int} (h : es[i]? = some e) :
    (s.showNeighbour es i).g XENGINE.CENSUS.NEIGHBOUR 0 i = e.1 % 128 := by
  unfold State.showNeighbour
  dsimp only
  rw [State.g_wr_of_id (by decide), State.g_wr_self, h]
  rfl

theorem State.showNeighbour_level {es : List (Nat × Int)} (s : State) {i : Nat} {e : Nat × Int} (h : es[i]? = some e) :
    (s.showNeighbour es i).g XENGINE.CENSUS.LEVEL 0 i = ofSigned 16 e.2 := by
  unfold State.showNeighbour
  dsimp only
  rw [State.g_wr_self, h]
  exact ofSigned_mod 16 e.2

theorem State.showNeighbour_other (es : List (Nat × Int)) (s : State) {i k : Nat} (hi : i < 8) (hk : k < 8) (h : k ≠ i)
    {G : Fld} (hG : G = XENGINE.CENSUS.VALID ∨ G = XENGINE.CENSUS.NEIGHBOUR ∨ G = XENGINE.CENSUS.LEVEL) :
    (s.showNeighbour es k).g G 0 i = s.g G 0 i := by
  unfold State.showNeighbour
  dsimp only
  rcases hG with rfl | rfl | rfl
  · rw [State.g_wr_of_id (by decide), State.g_wr_of_id (by decide), State.g_wr_of_word h.symm (by omega) (by omega)]
  · rw [State.g_wr_of_id (by decide), State.g_wr_of_word h.symm (by omega) (by omega), State.g_wr_of_id (by decide)]
  · rw [State.g_wr_of_word h.symm (by omega) (by omega), State.g_wr_of_id (by decide), State.g_wr_of_id (by decide)]

/-- Of the census's words, each neighbour's is as its own step of the walk left it. -/
theorem State.showCensus_word (s : State) (dir l reason : Nat) (es : List (Nat × Int)) {i v : Nat} (hi : i < 8) {G : Fld}
    (hG : G = XENGINE.CENSUS.VALID ∨ G = XENGINE.CENSUS.NEIGHBOUR ∨ G = XENGINE.CENSUS.LEVEL)
    (hself : ∀ s : State, (s.showNeighbour es i).g G 0 i = v) : (s.showCensus dir l reason es).g G 0 i = v := by
  unfold State.showCensus
  exact foldl_range_sets (f := State.showNeighbour es) (P := fun _ => True) (fun _ _ _ => trivial) (fun s _ => hself s)
    (fun s _ hk hne => s.showNeighbour_other es hi hk hne hG) hi trivial

theorem State.endCensus_g (s : State) (dir l reason : Nat) (es : List (Nat × Int)) {G : Fld} (hG : G.event = false) (a b : Nat)
    (hh : ∀ H ∈ [HDR.RESULT_SEQ.SEQ .xengine, HDR.PAGE_STAT.BUSY .xengine, HDR.RESULT_SEQ.STALE .xengine],
      G.id % 2048 ≠ H.id % 2048) :
    (s.endCensus dir l reason es).g G a b = (s.showCensus dir l reason es).g G a b := by
  unfold State.endCensus State.landResult
  dsimp only
  rw [State.pulse_g hG, State.g_wr_of_mem (by simp) hh, State.g_wr_of_mem (by simp) hh, State.g_wr_of_mem (by simp) hh]
  rfl

theorem State.showCensus_xe (s : State) (dir l reason : Nat) (es : List (Nat × Int)) :
    (s.showCensus dir l reason es).xe = s.xe := by
  unfold State.showCensus
  exact foldl_xe _ (State.showNeighbour_xe es) _ _

theorem State.showCensus_lines (s : State) (dir l reason : Nat) (es : List (Nat × Int)) :
    (s.showCensus dir l reason es).lines = s.lines := by
  unfold State.showCensus
  exact foldl_lines _ (State.showNeighbour_lines es) _ _

/-- CENSUS_STAT shows the line, the direction, the reason and the number of neighbours. -/
theorem State.showCensus_stat (s : State) {dir l reason : Nat} {es : List (Nat × Int)} (hd : dir < 4) (hl : l < 128)
    (hr : reason < 16) (hn : es.length ≤ 8) :
    (s.showCensus dir l reason es).g XENGINE.CENSUS_STAT.REASON = reason ∧
    (s.showCensus dir l reason es).g XENGINE.CENSUS_STAT.DIR = dir ∧
    (s.showCensus dir l reason es).g XENGINE.CENSUS_STAT.LINE = l ∧
    (s.showCensus dir l reason es).g XENGINE.CENSUS_STAT.COUNT = es.length := by
  unfold State.showCensus
  dsimp only
  refine ⟨?_, ?_, ?_, ?_⟩
  · rw [State.showNeighbours_g (by decide), State.g_wr_of_id (by decide),
      State.g_wr_of_id (by decide), State.g_wr_of_id (by decide), State.g_wr_self]
    exact Nat.mod_eq_of_lt hr
  · rw [State.showNeighbours_g (by decide), State.g_wr_of_id (by decide), State.g_wr_self]
    exact Nat.mod_eq_of_lt hd
  · rw [State.showNeighbours_g (by decide), State.g_wr_self]
    exact Nat.mod_eq_of_lt hl
  · rw [State.showNeighbours_g (by decide), State.g_wr_of_id (by decide),
      State.g_wr_of_id (by decide), State.g_wr_self]
    exact Nat.mod_eq_of_lt (show es.length < 16 by omega)

theorem censusDone_shows (s : State) (dir l reason : Nat) (es : List (Nat × Int)) (hc : s.xe.census = some (dir, l))
    (ht : s.xe.censusTaken = some (reason, es)) (hd : dir < 4) (hl : l < 128) (hr : reason < 16) (hn : es.length ≤ 8)
    (he : s.engineRuns = true) :
    s.runsTo .censusDone fun t =>
      t.xe = { s.xe with census := none, censusTaken := none } ∧ t.g XENGINE.CENSUS_STAT.REASON = reason ∧
      t.g XENGINE.CENSUS_STAT.DIR = dir ∧ t.g XENGINE.CENSUS_STAT.LINE = l ∧ t.g XENGINE.CENSUS_STAT.COUNT = es.length ∧
      (∀ i, i < 8 → t.g XENGINE.CENSUS.VALID 0 i = bnat (decide (i < es.length))) ∧
      (∀ i (e : Nat × Int), es[i]? = some e → t.g XENGINE.CENSUS.NEIGHBOUR 0 i = e.1 % 128 ∧
        t.g XENGINE.CENSUS.LEVEL 0 i = ofSigned 16 e.2) ∧
      t.g (HDR.PAGE_STAT.BUSY .xengine) = 0 ∧ t.lines = s.lines := by
  obtain ⟨hreason, hdir, hline, hcount⟩ := s.showCensus_stat hd hl hr hn
  refine ⟨s.endCensus dir l reason es, execCensusDone_taken hc ht he, ?_, ?_, ?_, ?_, ?_, fun i hi => ?_, fun i e h => ?_, ?_, ?_⟩
  · simp [State.endCensus, State.showCensus_xe]
  · rw [State.endCensus_g _ _ _ _ _ rfl _ _ (by decide), hreason]
  · rw [State.endCensus_g _ _ _ _ _ rfl _ _ (by decide), hdir]
  · rw [State.endCensus_g _ _ _ _ _ rfl _ _ (by decide), hline]
  · rw [State.endCensus_g _ _ _ _ _ rfl _ _ (by decide), hcount]
  · rw [State.endCensus_g _ _ _ _ _ rfl _ _ (by decide),
      s.showCensus_word _ _ _ _ hi (.inl rfl) fun s => s.showNeighbour_valid es i]
  · have hi : i < 8 := by
      have := (List.getElem?_eq_some_iff.1 h).1
      omega
    rw [State.endCensus_g _ _ _ _ _ rfl _ _ (by decide), State.endCensus_g _ _ _ _ _ rfl _ _ (by decide),
      s.showCensus_word _ _ _ _ hi (.inr (.inl rfl)) fun s => s.showNeighbour_neighbour h,
      s.showCensus_word _ _ _ _ hi (.inr (.inr rfl)) fun s => s.showNeighbour_level h]
    exact ⟨rfl, rfl⟩
  · unfold State.endCensus
    dsimp only
    rw [State.pulse_g rfl, State.landResult_busy]
  · simp [State.endCensus, State.showCensus_lines]

/-! ### The coefficient window (R118, R119) -/

theorem execXwindowLand_due {s : State} {r : XwRequest} {ns : Nat} (hx : s.xe.xw = some r) (hd : s.xwDue r ns = true)
    (hr : s.engineRuns = true) (bad : List (Nat × Bool)) :
    execXwindowLand ns bad s = .next (if r.write then s.landRow r else s.captureRow r bad) := by
  unfold execXwindowLand
  simp only [hx, hd, hr, Bool.and_self, if_true]

/-- One word of the row read. -/
def State.showEntry (r : XwRequest) (s : State) (d : Nat) : State :=
  (s.wr XWINDOW.RDATA.I (ofSigned 16 (s.entry r.matrix r.tone r.victim d).1) 0 d).wr XWINDOW.RDATA.Q
    (ofSigned 16 (s.entry r.matrix r.tone r.victim d).2) 0 d

/-- What is read of an entry: its part of the matrix, and the modes of the lines. -/
theorem State.entry_of_parts {s t : State} (hx : t.xe = s.xe) (hm : ∀ l, t.g LCTL.MODE.SEL l = s.g LCTL.MODE.SEL l)
    (m k v d : Nat) : t.entry m k v d = s.entry m k v d := by
  simp [State.entry, State.heldZero, State.isVHead, State.mode, State.coefRaw, hx, hm]

theorem State.showEntry_entry (r : XwRequest) (s : State) (e m k v d : Nat) :
    (s.showEntry r e).entry m k v d = s.entry m k v d := by
  refine State.entry_of_parts (s := s) (t := s.showEntry r e) rfl (fun l => ?_) m k v d
  unfold State.showEntry
  rw [State.g_wr_of_id (by decide), State.g_wr_of_id (by decide)]

theorem State.showEntry_i (r : XwRequest) (s : State) (d : Nat) :
    (s.showEntry r d).g XWINDOW.RDATA.I 0 d = ofSigned 16 (s.entry r.matrix r.tone r.victim d).1 := by
  unfold State.showEntry
  rw [State.g_wr_of_id (by decide), State.g_wr_self]
  exact ofSigned_mod 16 _

theorem State.showEntry_q (r : XwRequest) (s : State) (d : Nat) :
    (s.showEntry r d).g XWINDOW.RDATA.Q 0 d = ofSigned 16 (s.entry r.matrix r.tone r.victim d).2 := by
  unfold State.showEntry
  rw [State.g_wr_self]
  exact ofSigned_mod 16 _

theorem State.showEntry_other (r : XwRequest) (s : State) {d e : Nat} (hd : d < 128) (he : e < 128) (h : e ≠ d) {G : Fld}
    (hG : G = XWINDOW.RDATA.I ∨ G = XWINDOW.RDATA.Q) : (s.showEntry r e).g G 0 d = s.g G 0 d := by
  unfold State.showEntry
  rcases hG with rfl | rfl
  · rw [State.g_wr_of_id (by decide), State.g_wr_of_word h.symm (by omega) (by omega)]
  · rw [State.g_wr_of_word h.symm (by omega) (by omega), State.g_wr_of_id (by decide)]

/-- The row read whole, with no word in error. -/
def State.showRow (s : State) (r : XwRequest) : State :=
  (List.range 4).foldl (fun s i => s.wr XWINDOW.ZEROED.MASK (lineMask (fun _ => false) i) 0 i)
    ((List.range 128).foldl (State.showEntry r) s)

theorem State.captureRow_clean (s : State) (r : XwRequest) : s.captureRow r [] = (s.showRow r).finishXw 0 0 := rfl

theorem State.showRow_word (s : State) (r : XwRequest) {d v : Nat} (hd : d < 128) {G : Fld}
    (hG : G = XWINDOW.RDATA.I ∨ G = XWINDOW.RDATA.Q)
    (hself : ∀ t : State, t.entry r.matrix r.tone r.victim d = s.entry r.matrix r.tone r.victim d →
      (t.showEntry r d).g G 0 d = v) : (s.showRow r).g G 0 d = v := by
  have hid : G.id % 2048 ≠ XWINDOW.ZEROED.MASK.id % 2048 := by rcases hG with rfl | rfl <;> decide
  unfold State.showRow
  rw [foldl_g _ _ _ _ fun s i => State.g_wr_of_id hid _ _ _ _ _ _]
  exact foldl_range_sets (P := fun t => t.entry r.matrix r.tone r.victim d = s.entry r.matrix r.tone r.victim d)
    (fun t k h => (t.showEntry_entry r k _ _ _ _).trans h) hself
    (fun t _ hk hne => t.showEntry_other r hd hk hne hG) hd rfl

theorem State.showRow_coef (s : State) (r : XwRequest) : (s.showRow r).xe.coef = s.xe.coef := by
  have hzero (t : State) := foldl_xe (fun s i => s.wr XWINDOW.ZEROED.MASK (lineMask (fun _ => false) i) 0 i)
    (fun _ _ => rfl) (List.range 4) t
  have hwords := foldl_xe (State.showEntry r) (fun _ _ => rfl) (List.range 128) s
  exact congrArg XeX.coef ((hzero _).trans hwords)

theorem State.showRow_lines (s : State) (r : XwRequest) : (s.showRow r).lines = s.lines := by
  have hzero (t : State) := foldl_lines (fun s i => s.wr XWINDOW.ZEROED.MASK (lineMask (fun _ => false) i) 0 i)
    (fun _ _ => rfl) (List.range 4) t
  have hwords := foldl_lines (State.showEntry r) (fun _ _ => rfl) (List.range 128) s
  exact (hzero _).trans hwords

theorem xwindowLand_reads (s : State) (r : XwRequest) (ns : Nat) (hx : s.xe.xw = some r) (hd : s.xwDue r ns = true)
    (hw : r.write = false) (hr : s.engineRuns = true) :
    s.runsTo (.xwindowLand ns []) fun t =>
      t.xe.xw = none ∧ t.xe.coef = s.xe.coef ∧ t.g XWINDOW.XW_STAT.STATUS = 0 ∧ t.g (HDR.PAGE_STAT.BUSY .xwindow) = 0 ∧
      (∀ d, d < 128 →
        t.g XWINDOW.RDATA.I 0 d = ofSigned 16 (s.entry r.matrix r.tone r.victim d).1 ∧
        t.g XWINDOW.RDATA.Q 0 d = ofSigned 16 (s.entry r.matrix r.tone r.victim d).2) ∧ t.lines = s.lines := by
  have he : exec (.xwindowLand ns []) s = .next ((s.showRow r).finishXw 0 0) := by
    have hx' : exec (.xwindowLand ns []) s = execXwindowLand ns [] s := rfl
    rw [hx', execXwindowLand_due hx hd hr, if_neg (by simp [hw]), State.captureRow_clean]
  refine ⟨_, he, State.finishXw_xw _ _ _, ?_, State.finishXw_status _ (by decide) _, State.finishXw_busy _ _ _,
    fun d hlt => ⟨?_, ?_⟩, ?_⟩
  · rw [State.finishXw_coef, State.showRow_coef]
  · rw [State.finishXw_g rfl (by decide)]
    exact s.showRow_word r hlt (.inl rfl) fun t h => by rw [State.showEntry_i, h]
  · rw [State.finishXw_g rfl (by decide)]
    exact s.showRow_word r hlt (.inr rfl) fun t h => by rw [State.showEntry_q, h]
  · rw [State.finishXw_lines, State.showRow_lines]

/-- The value that a request's row gives an entry. -/
def XwRequest.value (r : XwRequest) (d : Nat) : Int × Int :=
  (toSigned 16 (r.data.getD d 0 / 2 ^ 16), toSigned 16 (r.data.getD d 0))

/-- The row written, word by word. -/
def State.putRow (s : State) (r : XwRequest) : State :=
  (List.range 128).foldl (fun s d => s.writeCoef r.matrix r.tone r.victim d (r.value d)) s

/-- A walk over the row leaves each entry as its word says, and 0 where it is held at zero. -/
theorem State.putRow_coefRaw (s : State) (r : XwRequest) {d : Nat} (hd : d < 128) :
    (s.putRow r).coefRaw (coefKey r.matrix r.tone r.victim d) =
      if s.heldZero r.matrix r.victim d then (0, 0) else r.value d := by
  have hkey (e : Nat) (h : e ≠ d) :
      coefKey r.matrix r.tone r.victim d ≠ coefKey r.matrix r.tone r.victim e := by
    unfold coefKey entryIndex
    omega
  have hall (l : List Nat) (hm : d ∈ l) (s : State) :
      (l.foldl (fun s d => s.writeCoef r.matrix r.tone r.victim d (r.value d)) s).coefRaw
        (coefKey r.matrix r.tone r.victim d) = if s.heldZero r.matrix r.victim d then (0, 0) else r.value d := by
    induction l using List.reverseRecOn with
    | nil => cases hm
    | append_singleton l e ih =>
      have hheld : (l.foldl (fun s d => s.writeCoef r.matrix r.tone r.victim d (r.value d)) s).heldZero r.matrix r.victim d =
          s.heldZero r.matrix r.victim d :=
        State.foldl_same (g := fun s => s.heldZero r.matrix r.victim d)
          (f := fun s d => s.writeCoef r.matrix r.tone r.victim d (r.value d)) (fun _ _ => rfl) l s
      rw [List.foldl_append]
      by_cases he : e = d
      · subst he
        rw [← hheld]
        exact Store.get_set_self _ _ _ _
      · have hml : d ∈ l := by
          rcases List.mem_append.1 hm with h | h
          · exact h
          · exact absurd (List.mem_singleton.1 h).symm he
        rw [← ih hml]
        exact Store.get_set_ne _ _ _ _ (hkey e he)
  exact hall _ (List.mem_range.2 hd) s

theorem State.dropRow_coef (s : State) (r : XwRequest) : (s.dropRow r).xe.coef = s.xe.coef := by
  unfold State.dropRow
  dsimp only
  (repeat' split) <;> rfl

theorem State.landRow_accepted {s : State} {r : XwRequest} (hv : s.isVHead r.victim = true)
    (hd : ∀ d, d < 128 → (s.line d).st ≠ .joining ∧ (s.heldZero r.matrix r.victim d = true → r.data.getD d 0 = 0)) :
    s.landRow r = ((s.putRow r).dropRow r).finishXw 0 0 := by
  have hjoin : (allLines.any fun l => s.isVHead l && (s.line l).st = .joining) = false := by
    simp only [allLines, List.any_eq_false, List.mem_range]
    intro l hl
    simp [(hd l hl).1]
  have hzero : ((List.range 128).any fun d => s.heldZero r.matrix r.victim d && r.data.getD d 0 != 0) = false := by
    simp only [List.any_eq_false, List.mem_range]
    intro d hlt
    by_cases h : s.heldZero r.matrix r.victim d = true
    · rw [(hd d hlt).2 h]
      simp
    · simp [h]
  unfold State.landRow
  dsimp only
  rw [hv, hjoin, if_neg (by decide), hzero]
  rfl

theorem xwindowLand_writes (s : State) (r : XwRequest) (ns : Nat) (hx : s.xe.xw = some r) (hd : s.xwDue r ns = true)
    (hw : r.write = true) (hv : s.isVHead r.victim = true)
    (hrow : ∀ d, d < 128 → (s.line d).st ≠ .joining ∧ (s.heldZero r.matrix r.victim d = true → r.data.getD d 0 = 0))
    (hr : s.engineRuns = true) :
    s.runsTo (.xwindowLand ns []) fun t =>
      t.xe.xw = none ∧ t.g XWINDOW.XW_STAT.STATUS = 0 ∧
      (∀ d, d < 128 → t.coefRaw (coefKey r.matrix r.tone r.victim d) =
        (toSigned 16 (r.data.getD d 0 / 2 ^ 16), toSigned 16 (r.data.getD d 0))) ∧ t.lines = s.lines := by
  have he : exec (.xwindowLand ns []) s = .next (((s.putRow r).dropRow r).finishXw 0 0) := by
    have hx' : exec (.xwindowLand ns []) s = execXwindowLand ns [] s := rfl
    rw [hx', execXwindowLand_due hx hd hr, if_pos hw, State.landRow_accepted hv hrow]
  refine ⟨_, he, State.finishXw_xw _ _ _, State.finishXw_status _ (by decide) _, fun d hlt => ?_, ?_⟩
  · have hcoef : (((s.putRow r).dropRow r).finishXw 0 0).coefRaw (coefKey r.matrix r.tone r.victim d) =
        (s.putRow r).coefRaw (coefKey r.matrix r.tone r.victim d) := by
      unfold State.coefRaw
      rw [State.finishXw_coef, State.dropRow_coef]
    rw [hcoef, State.putRow_coefRaw s r hlt]
    split
    · rename_i hheld
      rw [(hrow d hlt).2 hheld]
      rfl
    · rfl
  · simp [State.putRow]

/-- Settles O34: the port, the clearing, the census and the window's two landings, each by its own lemma. -/
theorem engineWrites : Obligations.EngineWrites := fun s =>
  ⟨writePortGrant_grants s, xengineDmaClear_clears s, censusDone_shows s, xwindowLand_reads s,
    fun r ns hx hd hw hv _ hrow hr => xwindowLand_writes s r ns hx hd hw hv hrow hr⟩

end Sys2Proof.Machine
end

section
/-! What the performance level and the power state show (R108, R288 to R292, R297), and that the work on lines, ports and lanes
leaves it alone. -/

namespace Sys2Proof.Machine

/-- The registers of the level and of the power state. -/
def levelFields : List Fld :=
  [PERF.VX.MV, PERF.VX.CURRENT, PERF.AVS_ERR.COUNT, PERF.CTRL.TARGET, XENGINE.NORM.NORM, HEARTH.PSTATE.REQ]

def Fld.leveled (F : Fld) : Bool := levelFields.any fun G => G.id % 2048 == F.id % 2048

/-- The level, the power state and their registers. -/
def State.levelView (s : State) : LevelX × PowerX × Nat × (Nat → Nat → Nat → Nat) :=
  (s.lvl, s.pwr, s.xe.nvSince, fun k i j => s.g (levelFields.getD k XENGINE.NORM.NORM) i j)

theorem State.g_of_levelView_rest {s t : State} (h : t.levelView.2 = s.levelView.2) {G : Fld} (hG : G ∈ levelFields) (a b : Nat) :
    t.g G a b = s.g G a b := by
  obtain ⟨k, hk, rfl⟩ := List.mem_iff_getElem.1 hG
  have hreg : (fun k i j => t.g (levelFields.getD k XENGINE.NORM.NORM) i j) =
      fun k i j => s.g (levelFields.getD k XENGINE.NORM.NORM) i j := congrArg (fun v => v.2.2) h
  have hkab := congrFun (congrFun (congrFun hreg k) a) b
  simpa only [List.getD_eq_getElem _ _ hk] using hkab

theorem State.g_of_levelView {s t : State} (h : t.levelView = s.levelView) {G : Fld} (hG : G ∈ levelFields) (a b : Nat) :
    t.g G a b = s.g G a b := State.g_of_levelView_rest (congrArg (·.2) h) hG a b

theorem State.lvl_of_levelView {s t : State} (h : t.levelView = s.levelView) : t.lvl = s.lvl := congrArg (·.1) h
theorem State.pwr_of_levelView {s t : State} (h : t.levelView = s.levelView) : t.pwr = s.pwr := congrArg (·.2.1) h

theorem levelFields_getD (k : Nat) : levelFields.getD k XENGINE.NORM.NORM ∈ levelFields := by
  by_cases hk : k < levelFields.length
  · rw [List.getD_eq_getElem _ _ hk]
    exact List.getElem_mem hk
  · rw [List.getD_eq_default _ _ (by omega)]
    decide

theorem State.levelView_eq {s t : State} (hl : t.lvl = s.lvl) (hp : t.pwr = s.pwr) (hn : t.xe.nvSince = s.xe.nvSince)
    (hg : ∀ G ∈ levelFields, ∀ a b, t.g G a b = s.g G a b) : t.levelView = s.levelView := by
  unfold State.levelView
  rw [hl, hp, hn]
  exact congrArg (fun r => (s.lvl, s.pwr, s.xe.nvSince, r))
    (funext fun k => funext fun a => funext fun b => hg _ (levelFields_getD k) a b)

/-- A step that writes no register and leaves the level, the power state and NV's age. -/
theorem State.levelView_of_regs {s t : State} (hr : t.regs = s.regs) (hl : t.lvl = s.lvl) (hp : t.pwr = s.pwr)
    (hn : t.xe.nvSince = s.xe.nvSince) : t.levelView = s.levelView :=
  State.levelView_eq hl hp hn fun G _ a b => by rw [State.g, hr, State.g]

/-! ### Single steps -/

@[simp] theorem State.ite_levelView (c : Prop) [Decidable c] (s t : State) :
    (if c then s else t).levelView = if c then s.levelView else t.levelView := by split <;> rfl

@[simp] theorem foldl_levelView {β : Type} (f : State → β → State) (h : ∀ s b, (f s b).levelView = s.levelView)
    (l : List β) (s : State) : (l.foldl f s).levelView = s.levelView := State.foldl_same h l s

@[simp] theorem State.wr_levelView (s : State) (F : Fld) (v i j : Nat) (h : F.leveled = false) :
    (s.wr F v i j).levelView = s.levelView := by
  refine State.levelView_eq rfl rfl rfl fun G hG a b => State.g_wr_of_id (fun e => ?_) s v i j a b
  exact List.any_eq_false.1 h G hG (by simpa using e)

@[simp] theorem State.bump_levelView (s : State) (F : Fld) (i k j : Nat) (h : F.leveled = false) :
    (s.bump F i k j).levelView = s.levelView := State.wr_levelView _ _ _ _ _ h

@[simp] theorem State.wrWords_levelView (s : State) (F : Fld) (i : Nat) (ws : List Nat) (h : F.leveled = false) :
    (s.wrWords F i ws).levelView = s.levelView :=
  foldl_levelView _ (fun s _ => State.wr_levelView s _ _ _ _ h) _ s

theorem State.Logs.levelView {s t : State} (h : State.Logs s t) : t.levelView = s.levelView := by
  have hlvl : t.core.lvl = s.core.lvl := by rw [h.1]
  have hpwr : t.core.pwr = s.core.pwr := by rw [h.1]
  have hlog : ∀ G ∈ levelFields, G.logged = false := by decide
  exact State.levelView_eq hlvl hpwr (by rw [h.xe]) fun G hG => h.g (hlog G hG)

@[simp] theorem State.edges_levelView (s : State) (p : Page) (i m : Nat) : (s.edges p i m).levelView = s.levelView :=
  (State.Logs.edges s p i m).levelView

@[simp] theorem State.pulse_levelView (s : State) (p : Page) (i b : Nat) : (s.pulse p i b).levelView = s.levelView :=
  (State.Logs.pulse s p i b).levelView

@[simp] theorem State.cond_levelView (s : State) (p : Page) (i b : Nat) (on : Bool) :
    (s.cond p i b on).levelView = s.levelView := (State.Logs.cond s p i b on).levelView

@[simp] theorem State.setXe_levelView (s : State) (x : XeX) (h : x.nvSince = s.xe.nvSince) :
    State.levelView { s with xe := x } = s.levelView := State.levelView_of_regs rfl rfl rfl h

@[simp] theorem State.setPosts_levelView (s : State) (x : List Post) :
    State.levelView { s with posts := x } = s.levelView := State.levelView_of_regs rfl rfl rfl rfl
@[simp] theorem State.setRun_levelView (s : State) (x : Option MailRun) : State.levelView { s with run := x } = s.levelView := State.levelView_of_regs rfl rfl rfl rfl
@[simp] theorem State.setReach_levelView (s : State) (x : Store ReachX) :
    State.levelView { s with reach := x } = s.levelView := State.levelView_of_regs rfl rfl rfl rfl
@[simp] theorem State.modLine_levelView (s : State) (l : Nat) (f : LineX → LineX) :
    (s.modLine l f).levelView = s.levelView := State.levelView_of_regs rfl rfl rfl rfl
@[simp] theorem State.modPort_levelView (s : State) (p : Nat) (f : PortX → PortX) :
    (s.modPort p f).levelView = s.levelView := State.levelView_of_regs rfl rfl rfl rfl
@[simp] theorem State.modLane_levelView (s : State) (l : Nat) (f : LaneX → LaneX) :
    (s.modLane l f).levelView = s.levelView := State.levelView_of_regs rfl rfl rfl rfl
@[simp] theorem State.modMon_levelView (s : State) (l : Nat) (f : MonX → MonX) :
    (s.modMon l f).levelView = s.levelView := State.levelView_of_regs rfl rfl rfl rfl
@[simp] theorem State.modReach_levelView (s : State) (l : Nat) (f : ReachX → ReachX) :
    (s.modReach l f).levelView = s.levelView := State.levelView_of_regs rfl rfl rfl rfl
@[simp] theorem State.modStd_levelView (s : State) (l : Nat) (f : StdX → StdX) :
    (s.modStd l f).levelView = s.levelView := State.levelView_of_regs rfl rfl rfl rfl
@[simp] theorem State.modFault_levelView (s : State) (f : FaultX → FaultX) : (s.modFault f).levelView = s.levelView := State.levelView_of_regs rfl rfl rfl rfl

theorem seq_leveled (p : Page) : (HDR.RESULT_SEQ.SEQ p).leveled = false := by cases p <;> rfl
theorem stale_leveled (p : Page) : (HDR.RESULT_SEQ.STALE p).leveled = false := by cases p <;> rfl
theorem busy_leveled (p : Page) : (HDR.PAGE_STAT.BUSY p).leveled = false := by cases p <;> rfl
theorem lock_leveled (p : Page) : (HDR.PAGE_CTRL.LOCK p).leveled = false := by cases p <;> rfl
theorem result_leveled (p : Page) : (HDR.ENV_STAT.RESULT p).leveled = false := by cases p <;> rfl
theorem steps_leveled (p : Page) : (HDR.ENV_STAT.STEPS p).leveled = false := by cases p <;> rfl
theorem split_leveled (p : Page) : (HDR.ENV_STAT.SPLIT p).leveled = false := by cases p <;> rfl

@[simp] theorem State.landResult_levelView (s : State) (p : Page) (i : Nat) : (s.landResult p i).levelView = s.levelView := by
  simp [State.landResult, seq_leveled, stale_leveled, busy_leveled]

@[simp] theorem State.capture_levelView (s : State) (ns sec sech frac : Fld) (i j : Nat) (h1 : ns.leveled = false)
    (h2 : sec.leveled = false) (h3 : sech.leveled = false) (h4 : frac.leveled = false) :
    (s.capture ns sec sech frac i j).levelView = s.levelView := by
  simp [State.capture, h1, h2, h3, h4]

@[simp] theorem State.capture2_levelView (s : State) (ns sec : Fld) (i : Nat) (h1 : ns.leveled = false)
    (h2 : sec.leveled = false) : (s.capture2 ns sec i).levelView = s.levelView := by
  simp [State.capture2, h1, h2]

/-! ### Posts and negotiations -/

@[simp] theorem State.finishPost_levelView (s : State) (p : Page) (i r : Nat) :
    (s.finishPost p i r).levelView = s.levelView := by
  simp [State.finishPost, State.setResult, State.dropPost, result_leveled, steps_leveled, split_leveled]

@[simp] theorem State.setPhase_levelView (s : State) (p : Page) (i : Nat) (ph : PostPhase) (t : Option Nat) :
    (s.setPhase p i ph t).levelView = s.levelView := State.levelView_of_regs rfl rfl rfl rfl

@[simp] theorem State.regridPosts_levelView (s : State) (sel : Post → Bool) (now : Nat) :
    (s.regridPosts sel now).levelView = s.levelView := by
  unfold State.regridPosts
  refine foldl_levelView _ (fun s x => ?_) _ s
  (repeat' split) <;> simp

theorem State.wr_lock_levelView (s : State) (e : Page × Nat × Nat) :
    (s.wr (HDR.PAGE_CTRL.LOCK e.1) e.2.2 e.2.1).levelView = s.levelView :=
  State.wr_levelView s _ _ _ _ (lock_leveled e.1)

@[simp] theorem State.landLocks_levelView (s : State) (locks : List (Page × Nat × Nat)) :
    (s.landLocks locks).levelView = s.levelView := by
  unfold State.landLocks
  exact foldl_levelView _ State.wr_lock_levelView _ _

@[simp] theorem State.endRun_levelView (s : State) (r : Nat) : (s.endRun r).levelView = s.levelView := by
  unfold State.endRun
  rw [State.landLocks_levelView, State.setRun_levelView]
  exact State.wr_levelView s _ _ _ _ rfl

@[simp] theorem State.withdrawRun_levelView (s : State) : s.withdrawRun.levelView = s.levelView := by
  unfold State.withdrawRun
  refine foldl_levelView _ (fun s x => ?_) _ s
  (repeat' split) <;> simp

@[simp] theorem State.refusePosts_levelView (s : State) (sel : Post → Bool) :
    (s.refusePosts sel).levelView = s.levelView := by
  simp [State.refusePosts, State.dismissMembers]

@[simp] theorem State.abortNeg_levelView (s : State) (p : Nat) : (s.abortNeg p).levelView = s.levelView := by
  simp [State.abortNeg]

@[simp] theorem State.propose_levelView (s : State) (p target : Nat) (cs : List Change) :
    (s.propose p target cs).levelView = s.levelView := by
  unfold State.propose
  split <;> simp

/-! ### The figures of a port, the chain and the modem of a line -/

@[simp] theorem State.refreshPort_levelView (s : State) (p : Nat) : (s.refreshPort p).levelView = s.levelView := by
  simp +decide [State.refreshPort]

@[simp] theorem State.refreshPorts_levelView (s : State) : s.refreshPorts.levelView = s.levelView := by
  simp [State.refreshPorts]

@[simp] theorem State.showTable_levelView (s : State) (l : Nat) : (s.showTable l).levelView = s.levelView := by
  simp +decide [State.showTable]

@[simp] theorem State.noteGo_levelView (s : State) (l : Nat) (p : ReachPkt) : (s.noteGo l p).levelView = s.levelView := by
  simp [State.noteGo]

@[simp] theorem State.startTx_levelView (s : State) (l n : Nat) (p : ReachPkt) : (s.startTx l n p).levelView = s.levelView := by
  simp +decide [State.startTx]

@[simp] theorem State.sendDue_levelView (s : State) (l : Nat) : (s.sendDue l).levelView = s.levelView := by
  unfold State.sendDue
  dsimp only
  split <;> simp

@[simp] theorem State.showDetectors_levelView (s : State) (l : Nat) : (s.showDetectors l).levelView = s.levelView := by
  simp +decide [State.showDetectors]

@[simp] theorem State.cutCapture_levelView (s : State) (l r : Nat) : (s.cutCapture l r).levelView = s.levelView := by
  unfold State.cutCapture State.finishCapture
  (repeat' split) <;> simp +decide

@[simp] theorem State.landSync_levelView (s : State) (l : Nat) : (s.landSync l).levelView = s.levelView := by
  unfold State.landSync
  split <;> simp +decide

@[simp] theorem State.refreshOwner_levelView (s : State) (l : Nat) : (s.refreshOwner l).levelView = s.levelView := by
  simp [State.refreshOwner]

@[simp] theorem State.stopChain_levelView (s : State) (l : Nat) : (s.stopChain l).levelView = s.levelView := by
  simp [State.stopChain]

@[simp] theorem State.refreshErase_levelView (s : State) (l : Nat) : (s.refreshErase l).levelView = s.levelView := by
  simp +decide [State.refreshErase, State.setErase]

@[simp] theorem State.startErasure_levelView (s : State) (tag : Nat) : (s.startErasure tag).levelView = s.levelView := by
  simp [State.startErasure]

@[simp] theorem State.moveErase_levelView (s : State) (l : Nat) (old : LineState) :
    (s.moveErase l old).levelView = s.levelView := by
  simp +decide [State.moveErase, State.setErase]

@[simp] theorem State.settleMask_levelView (s : State) (l : Nat) : (s.settleMask l).levelView = s.levelView := by
  simp +decide [State.settleMask, State.setRmask]

@[simp] theorem State.stopModem_levelView (s : State) (l : Nat) (off : Bool) : (s.stopModem l off).levelView = s.levelView := by
  simp +decide [State.stopModem]

/-! ### Lines and joins -/

@[simp] theorem State.askPort_levelView (s : State) (m : Nat) : (s.askPort m).levelView = s.levelView := State.levelView_of_regs rfl rfl rfl rfl

@[simp] theorem State.wantClear_levelView (s : State) (l : Nat) : (s.wantClear l).levelView = s.levelView := State.levelView_of_regs rfl rfl rfl rfl

/-- A line that leaves FAULTED: its driver stays CLEAR until its next symbol. -/
theorem State.resume_levelView (s : State) (l : Nat) :
    (((({ s with xe := { s.xe with resuming := insertSorted l s.xe.resuming } } : State).modLine l
      fun x => { x with ocHeld := false }).wr LAFE.STAT.OC 0 l).cond .lafe l 5 false).levelView = s.levelView := by
  rw [State.cond_levelView, State.wr_levelView _ _ _ _ _ rfl, State.modLine_levelView]
  exact State.setXe_levelView s _ rfl

@[simp] theorem State.moveLine_levelView (s : State) (l : Nat) (st : LineState) (sub : Nat) :
    (s.moveLine l st sub).levelView = s.levelView := by
  unfold State.moveLine
  extract_lets old lost s1 s2 s3 s4 entered left s5 s6 s7 s8 runs s9 s10 x resumed s11
  have h2 : s2.levelView = s.levelView := by simp [s2, s1]
  split
  · exact h2
  · have h6 : s6.levelView = s.levelView := by simp +decide [s6, s5, s4, s3, h2]
    have h8 : s8.levelView = s.levelView := by simp [s8, s7, h6]
    have h10 : s10.levelView = s.levelView := by simp [s10, s9, h8]
    have h11 : s11.levelView = s.levelView := by
      unfold s11
      split
      · exact (State.resume_levelView s10 l).trans h10
      · exact h10
    simp [h11]

@[simp] theorem State.noteReason_levelView (s : State) (l r : Nat) : (s.noteReason l r).levelView = s.levelView := by
  simp +decide [State.noteReason]

@[simp] theorem State.leaveActive_levelView (s : State) (l : Nat) : (s.leaveActive l).levelView = s.levelView := by
  unfold State.leaveActive
  split
  · exact State.levelView_of_regs rfl rfl rfl rfl
  · rfl

@[simp] theorem State.forgetAttempt_levelView (s : State) (l : Nat) : (s.forgetAttempt l).levelView = s.levelView := State.levelView_of_regs rfl rfl rfl rfl

@[simp] theorem State.quietOne_levelView (s : State) (l r h : Nat) : (s.quietOne l r h).levelView = s.levelView := by
  simp +decide [State.quietOne]

@[simp] theorem State.quietPeers_levelView (s : State) (l : Nat) : (s.quietPeers l).levelView = s.levelView := by
  simp [State.quietPeers]

@[simp] theorem State.queueJoin_levelView (s : State) (p : Nat) : (s.queueJoin p).levelView = s.levelView := by
  simp [State.queueJoin]

@[simp] theorem State.unqueueJoin_levelView (s : State) (p : Nat) : (s.unqueueJoin p).levelView = s.levelView := State.levelView_of_regs rfl rfl rfl rfl

@[simp] theorem State.unjoin_levelView (s : State) (ls : List Nat) (l : Nat) : (s.unjoin ls l).levelView = s.levelView := by
  simp [State.unjoin]

@[simp] theorem State.failJoin_levelView (s : State) (ls : List Nat) : (s.failJoin ls).levelView = s.levelView := by
  unfold State.failJoin
  split <;> simp

@[simp] theorem State.quietLine_levelView (s : State) (l r h : Nat) : (s.quietLine l r h).levelView = s.levelView := by
  unfold State.quietLine State.failJoinOf
  dsimp only
  split <;> simp

@[simp] theorem State.emptyPort_levelView (s : State) (p : Nat) : (s.emptyPort p).levelView = s.levelView := by
  simp +decide [State.emptyPort, State.countLost]

@[simp] theorem State.leftShowtime_levelView (s : State) (l : Nat) : (s.leftShowtime l).levelView = s.levelView := by
  simp [State.leftShowtime]

@[simp] theorem State.dropFromPort_levelView (s : State) (l : Nat) : (s.dropFromPort l).levelView = s.levelView := by
  simp [State.dropFromPort]

@[simp] theorem State.lowSnr_levelView (s : State) (l : Nat) : (s.lowSnr l).levelView = s.levelView := by
  simp [State.lowSnr]

@[simp] theorem State.reload_levelView (s : State) (l target : Nat) (rx tx : Store Nat) :
    (s.reload l target rx tx).levelView = s.levelView := by
  unfold State.reload State.proposeTables
  split <;> simp [State.stageTables]

@[simp] theorem State.unvector_levelView (s : State) (ks : List Nat) (target l : Nat) :
    (s.unvector ks target l).levelView = s.levelView := State.reload_levelView _ _ _ _ _

@[simp] theorem State.authorTable_levelView (s : State) (l : Nat) : (s.authorTable l).levelView = s.levelView := by
  simp [State.authorTable]

/-! ### Lanes -/

@[simp] theorem State.sortPort_levelView (s : State) (p : Nat) : (s.sortPort p).levelView = s.levelView := by
  simp [State.sortPort, State.sendControl]

@[simp] theorem State.darkenStd_levelView (s : State) (p : Nat) : (s.darkenStd p).levelView = s.levelView := by
  simp [State.darkenStd]

@[simp] theorem State.zeroStamps_levelView (s : State) (p : Nat) : (s.zeroStamps p).levelView = s.levelView := by
  simp +decide [State.zeroStamps]

@[simp] theorem State.laneTo_levelView (s : State) (l st : Nat) : (s.laneTo l st).levelView = s.levelView := by
  simp +decide [State.laneTo, State.sortLane, State.refreshFill]

@[simp] theorem State.startLane_levelView (s : State) (l : Nat) : (s.startLane l).levelView = s.levelView := by
  simp +decide [State.startLane]

@[simp] theorem State.stopLane_levelView (s : State) (l : Nat) : (s.stopLane l).levelView = s.levelView := by
  simp +decide [State.stopLane]

end Sys2Proof.Machine
end

section
/-! What the start of a change of level, a Damper step and the end of a change leave alone (R110, R291, R293). -/

namespace Sys2Proof.Machine

/-- The level, NV and the marks of a level that neither the start nor the end of a change sets. -/
def LevelX.held (x : LevelX) : LevelX :=
  { level := x.level, nv := x.nv, coldRead := x.coldRead, overCurrent := x.overCurrent, avsFail := x.avsFail }

def State.heldView (s : State) : LevelX × PowerX × Nat × (Nat → Nat → Nat → Nat) := (s.lvl.held, s.levelView.2)

theorem State.heldView_of_levelView {s t : State} (h : t.levelView = s.levelView) : t.heldView = s.heldView := by
  unfold State.heldView
  rw [h, State.lvl_of_levelView h]

theorem State.level_of_heldView {s t : State} (h : t.heldView = s.heldView) : t.lvl.level = s.lvl.level :=
  congrArg (·.1.level) h
theorem State.nv_of_heldView {s t : State} (h : t.heldView = s.heldView) : t.lvl.nv = s.lvl.nv := congrArg (·.1.nv) h
theorem State.coldRead_of_heldView {s t : State} (h : t.heldView = s.heldView) : t.lvl.coldRead = s.lvl.coldRead :=
  congrArg (·.1.coldRead) h
theorem State.overCurrent_of_heldView {s t : State} (h : t.heldView = s.heldView) : t.lvl.overCurrent = s.lvl.overCurrent :=
  congrArg (·.1.overCurrent) h
theorem State.avsFail_of_heldView {s t : State} (h : t.heldView = s.heldView) : t.lvl.avsFail = s.lvl.avsFail :=
  congrArg (·.1.avsFail) h
theorem State.pwr_of_heldView {s t : State} (h : t.heldView = s.heldView) : t.pwr = s.pwr := congrArg (·.2.1) h
theorem State.nvSince_of_heldView {s t : State} (h : t.heldView = s.heldView) : t.xe.nvSince = s.xe.nvSince :=
  congrArg (·.2.2.1) h

theorem State.g_of_heldView {s t : State} (h : t.heldView = s.heldView) {G : Fld} (hG : G ∈ levelFields) (a b : Nat) :
    t.g G a b = s.g G a b := State.g_of_levelView_rest (congrArg (·.2) h) hG a b

theorem State.modLvl_heldView (s : State) {f : LevelX → LevelX} (h : (f s.lvl).held = s.lvl.held) :
    (s.modLvl f).heldView = s.heldView := Prod.ext h rfl

theorem State.beginChange_heldView (s : State) (g : Nat) : (s.beginChange g).heldView = s.heldView := by
  have hwr : (s.wr PERF.STAT.EMERGENCY 0).heldView = s.heldView :=
    State.heldView_of_levelView (State.wr_levelView s _ _ _ _ rfl)
  unfold State.beginChange
  extract_lets u ks ls v
  split
  · have hv : v.heldView = u.heldView := State.modLvl_heldView u rfl
    exact (State.heldView_of_levelView (foldl_levelView _ (fun s l => State.unvector_levelView s _ _ l) ls v)).trans
      (hv.trans hwr)
  · exact (State.modLvl_heldView _ rfl).trans ((State.modLvl_heldView u rfl).trans hwr)

theorem State.startLevel_heldView (s : State) : s.startLevel.heldView = s.heldView := by
  unfold State.startLevel
  split
  · rfl
  · dsimp only
    split
    · exact State.modLvl_heldView s rfl
    · split
      · exact State.modLvl_heldView s rfl
      · exact State.beginChange_heldView s _

theorem State.damperStep_heldView (s : State) : s.damperStep.heldView = s.heldView := by
  unfold State.damperStep
  split
  · exact State.modLvl_heldView s rfl
  · split
    · rfl
    · dsimp only
      have hcap : (s.modLvl fun x => { x with cap := max x.cap (x.level + 1), stepWanted := false }).heldView = s.heldView :=
        State.modLvl_heldView s rfl
      refine (State.startLevel_heldView _).trans ((State.heldView_of_levelView ?_).trans hcap)
      exact (State.pulse_levelView _ _ _ _).trans (State.bump_levelView _ _ _ _ _ rfl)

theorem State.levelDone_heldView (s : State) : s.levelDone.heldView = s.heldView := by
  have hfig : (s.refreshPorts.pulse .perf 0 0).heldView = s.heldView :=
    State.heldView_of_levelView ((State.pulse_levelView _ _ _ _).trans s.refreshPorts_levelView)
  unfold State.levelDone
  dsimp only
  refine (State.startLevel_heldView _).trans (Eq.trans ?_ hfig)
  split
  · exact (State.damperStep_heldView _).trans (State.modLvl_heldView _ rfl)
  · rfl

end Sys2Proof.Machine
end

section
/-! The moments of a change of performance level (O30). -/

namespace Sys2Proof.Machine

/-! ### Down (R110, R290) -/

/-- The lines that lose vectoring, proposed for the same superframe. -/
def State.unvectorAll (s : State) (ks ls : List Nat) : State :=
  ls.foldl (fun s l => s.unvector ks (sfcAdd s.sfc 4) l) s

theorem State.unvectorAll_levelView (s : State) (ks ls : List Nat) : (s.unvectorAll ks ls).levelView = s.levelView :=
  foldl_levelView _ (fun s l => State.unvector_levelView s _ _ l) ls s

theorem levelRepropose_proposes (s : State) (hp : s.lvl.phase = .proposing) (hr : s.lvl.reproposed = false)
    (hs : s.sfc = s.lvl.landSfc) :
    s.runsTo .levelRepropose fun t =>
      t.lvl.reproposed = true ∧ t.lvl.phase = .proposing ∧ t.lvl.level = s.lvl.level ∧ t.lvl.nv = s.lvl.nv := by
  have hx : exec .levelRepropose s = execLevelRepropose s := rfl
  unfold State.runsTo
  rw [hx]
  unfold execLevelRepropose
  rw [if_pos ⟨hp, by simp [hr], hs⟩]
  refine ⟨State.unvectorAll _ _ _, rfl, ?_⟩
  beta_reduce
  rw [State.lvl_of_levelView (State.unvectorAll_levelView _ _ _)]
  exact ⟨rfl, hp, rfl, rfl⟩

theorem State.recoveryCheck_regs (s : State) : s.recoveryCheck.regs = s.regs := by
  unfold State.recoveryCheck State.endRecovery
  (repeat' split) <;> rfl

theorem State.recoveryCheck_lvl (s : State) : s.recoveryCheck.lvl = s.lvl := by
  unfold State.recoveryCheck
  split
  · exact State.endRecovery_lvl s 18
  · rfl

theorem mem_lostTones {old new k : Nat} : k ∈ lostTones old new ↔ k < 128 ∧ new < k ∧ k ≤ old := by
  simp [lostTones]

/-- NORM of a tone beyond the depth is 1.0 (R110). -/
theorem State.unityNorm_norm (s : State) {nv k : Nat} (hnv : nv < k) (hk : k < 128) :
    (s.unityNorm nv).g XENGINE.NORM.NORM 0 k = 0x8000 := by
  have hmem : k ∈ lostTones 127 nv := mem_lostTones.2 ⟨hk, hnv, by omega⟩
  refine foldl_reaches (P := fun t => t.g XENGINE.NORM.NORM 0 k = 0x8000) (fun t e he h => ?_) hmem (fun t => ?_) s
  · by_cases hek : e = k
    · rw [hek, State.g_wr_self]
      rfl
    · rw [State.g_wr_of_word (Ne.symm hek) (by have := (mem_lostTones.1 he).1; omega) (by omega), h]
  · rw [State.g_wr_self]
    rfl

theorem State.unityNorm_lvl (s : State) (nv : Nat) : (s.unityNorm nv).lvl = s.lvl :=
  foldl_lvl (fun s k => s.wr XENGINE.NORM.NORM 0x8000 0 k) (fun _ _ => rfl) _ s

/-- What the fall of NV does to the engine, the figures of the ports and the exchanges in progress (R110, R111). -/
def State.lowerNv (s : State) (nv : Nat) : State :=
  let s := (((s.unityNorm nv).endAbove nv).pulse .xengine 0 2).refreshPorts
  (allLines.filter fun l => s.isVHead l && (s.line l).st = .loading).foldl (fun s l => s.authorTable l) s

theorem State.lowerNv_view (s : State) (nv : Nat) :
    (s.lowerNv nv).levelView = ((s.unityNorm nv).endAbove nv).levelView := by
  unfold State.lowerNv
  dsimp only
  rw [foldl_levelView _ (fun s l => State.authorTable_levelView s l), State.refreshPorts_levelView, State.pulse_levelView]

theorem State.lowerNv_lvl (s : State) (nv : Nat) : (s.lowerNv nv).lvl = s.lvl :=
  (State.lvl_of_levelView (s.lowerNv_view nv)).trans ((State.recoveryCheck_lvl _).trans (s.unityNorm_lvl nv))

theorem State.lowerNv_norm (s : State) {nv k : Nat} (hnv : nv < k) (hk : k < 128) :
    (s.lowerNv nv).g XENGINE.NORM.NORM 0 k = 0x8000 := by
  rw [State.g_of_levelView (s.lowerNv_view nv) (by decide), ← s.unityNorm_norm hnv hk]
  unfold State.g State.endAbove
  rw [State.recoveryCheck_regs]

/-- NV falls: the level's own data, with the clock, the write assist and the body bias (R288, R290). -/
def LevelX.fall (nv : Nat) (x : LevelX) : LevelX :=
  { x with nv := nv, phase := .vxDown, tries := 0, refused := [] }

theorem execNvDownLand_due {s : State}
    (h : (s.lvl.phase = .proposing ∧ sfcCome (sfcAdd s.lvl.landSfc 1) s.sfc = true) ∨
      (s.lvl.phase = .nvWait ∧ sfcCome s.lvl.landSfc s.sfc = true)) :
    ∃ u : State, u.lvl = s.lvl ∧
      execNvDownLand s = .next (((u.modLvl (LevelX.fall (nvOf s.lvl.going))).slowTo s.lvl.going).lowerNv (nvOf s.lvl.going)) := by
  refine ⟨if s.lvl.phase = .nvWait then s.failJoin [] else s, ?_, ?_⟩
  · split
    · exact State.lvl_of_levelView (s.failJoin_levelView [])
    · rfl
  · unfold execNvDownLand
    dsimp only
    rw [if_pos (by rcases h with ⟨h1, h2⟩ | ⟨h1, h2⟩ <;> simp [h1, h2])]
    rfl

theorem nvDownLand_lowers (s : State)
    (h : (s.lvl.phase = .proposing ∧ sfcCome (sfcAdd s.lvl.landSfc 1) s.sfc = true) ∨
      (s.lvl.phase = .nvWait ∧ sfcCome s.lvl.landSfc s.sfc = true)) :
    s.runsTo .nvDownLand fun t =>
      t.lvl.nv = nvOf s.lvl.going ∧ t.lvl.phase = .vxDown ∧ t.lvl.level = s.lvl.level ∧ t.lvl.refused = [] ∧
      t.lvl.clock = vxClock s.lvl.going ∧ t.lvl.bias = bodyBias s.lvl.going ∧
      t.lvl.assist = (s.lvl.assist || writeAssist s.lvl.going) ∧
      ∀ k, nvOf s.lvl.going < k → k < 128 → t.g XENGINE.NORM.NORM 0 k = 0x8000 := by
  obtain ⟨u, hu, he⟩ := execNvDownLand_due h
  refine ⟨_, he, ?_⟩
  beta_reduce
  rw [State.lowerNv_lvl, ← hu]
  exact ⟨rfl, rfl, rfl, rfl, rfl, rfl, rfl, fun k hnv hk => State.lowerNv_norm _ hnv hk⟩

/-! ### Up (R112, R291) -/

theorem State.vectorNorm_parts (s : State) (ks : List Nat) :
    (s.vectorNorm ks).lvl = s.lvl ∧ (s.vectorNorm ks).xe = s.xe :=
  ⟨foldl_lvl (fun s k => s.wr XENGINE.NORM.NORM (normTarget (s.rhoMax k)) 0 k) (fun _ _ => rfl) ks s,
    foldl_xe (fun s k => s.wr XENGINE.NORM.NORM (normTarget (s.rhoMax k)) 0 k) (fun _ _ => rfl) ks s⟩

theorem nvUpLand_raises (s : State) (hp : s.lvl.phase = .nvUpWait) (hs : sfcCome s.lvl.landSfc s.sfc = true) :
    s.runsTo .nvUpLand fun t => t.lvl.nv = nvOf s.lvl.going ∧ t.lvl.level = s.lvl.going ∧ t.xe.nvSince = s.sfc := by
  have hx : exec .nvUpLand s = execNvUpLand s := rfl
  unfold State.runsTo
  rw [hx]
  unfold execNvUpLand
  rw [if_pos ⟨hp, hs⟩]
  extract_lets nv ks u x v
  obtain ⟨hlvl, hxe⟩ := v.vectorNorm_parts ks
  have hdone := ((v.vectorNorm ks).pulse .xengine 0 2).levelDone_heldView
  refine ⟨_, rfl, ?_, ?_, ?_⟩
  · rw [State.nv_of_heldView hdone, State.pulse_lvl, hlvl]
    rfl
  · rw [State.level_of_heldView hdone, State.pulse_lvl, hlvl]
    rfl
  · rw [State.nvSince_of_heldView hdone, State.pulse_xe, hxe]
    rfl

/-! ### VX reads (R289 to R292) -/

/-- A read of VX with its failed exchanges. -/
def State.showVx (s : State) (fails mv : Nat) : State := (s.bump PERF.AVS_ERR.COUNT 0 fails).wr PERF.VX.MV mv

theorem State.showVx_mv (s : State) (fails : Nat) {mv : Nat} (h : mv < 2 ^ 16) : (s.showVx fails mv).g PERF.VX.MV = mv := by
  unfold State.showVx
  rw [State.g_wr_self]
  exact Nat.mod_eq_of_lt h

theorem State.showVx_errors (s : State) (fails mv : Nat) :
    (s.showVx fails mv).g PERF.AVS_ERR.COUNT = satAdd 32 (s.g PERF.AVS_ERR.COUNT) fails := by
  unfold State.showVx
  rw [State.g_wr_of_id (by decide), State.g_bump_self]
  exact satAdd_mod 32 _ _

/-- The registers of a VX read are as the read left them. -/
theorem State.showVx_kept {s t : State} {fails mv : Nat} (h : mv < 2 ^ 16)
    (ht : ∀ G ∈ levelFields, t.g G = (s.showVx fails mv).g G) :
    t.g PERF.VX.MV = mv ∧ t.g PERF.AVS_ERR.COUNT = satAdd 32 (s.g PERF.AVS_ERR.COUNT) fails := by
  rw [ht _ (by decide), ht _ (by decide)]
  exact ⟨s.showVx_mv fails h, s.showVx_errors fails mv⟩

theorem State.regs_of_heldView {s t : State} (h : t.heldView = s.heldView) (G : Fld) (hG : G ∈ levelFields) : t.g G = s.g G :=
  State.g_of_heldView h hG 0 0

/-- What a VX read at its target does (R290, R291). -/
def State.confirmVx (s : State) : State :=
  match s.lvl.phase with
  | .vxDown => (s.modLvl fun x => { x with level := x.going, phase := .idle }).levelDone
  | .vxUp => (s.modLvl fun x => { x with phase := .nvUpWait, landSfc := sfcAdd s.sfc 1 }).speedTo s.lvl.going
  | _ => s

/-- What a VX read does once it is shown. -/
def State.takeVx (s : State) (mv : Nat) : State :=
  if s.pwr.waking then (if nearMv mv 580 then s.modPwr fun x => { x with vxReady := true } else s)
  else if s.lvl.coldRead then
    if 580 ≤ mv ∧ mv ≤ 820 then (s.modLvl fun x => { x with coldRead := false, tries := 0 }).startLevel else s
  else if !nearMv mv (vxMilliVolt s.lvl.going) then s
  else s.confirmVx

theorem execVxConfirmed_eq {s : State} (h : s.controlRunning = true) (fails mv : Nat) :
    execVxConfirmed ⟨fails, mv⟩ s = .next ((s.showVx fails mv).takeVx mv) := by
  unfold execVxConfirmed
  rw [h, if_neg (by decide)]
  unfold State.takeVx State.confirmVx State.showVx
  dsimp only
  split_ifs
  · rfl
  · rfl
  · rfl
  · rfl
  · rfl
  · cases ((s.bump PERF.AVS_ERR.COUNT 0 fails).wr PERF.VX.MV mv).lvl.phase <;> rfl

theorem State.confirmVx_regs (s : State) (G : Fld) (hG : G ∈ levelFields) : s.confirmVx.g G = s.g G := by
  unfold State.confirmVx
  split
  · exact State.regs_of_heldView (State.levelDone_heldView _) G hG
  · rfl
  · rfl

theorem State.takeVx_regs (s : State) (mv : Nat) (G : Fld) (hG : G ∈ levelFields) : (s.takeVx mv).g G = s.g G := by
  unfold State.takeVx
  split
  · split <;> rfl
  · split
    · split
      · exact State.regs_of_heldView (State.startLevel_heldView _) G hG
      · rfl
    · split
      · rfl
      · exact s.confirmVx_regs G hG

/-- A wake's read at P3 readies VX (R301). -/
theorem State.takeVx_wakes (s : State) {mv : Nat} (hw : s.pwr.waking = true) (hn : nearMv mv 580 = true) :
    (s.takeVx mv).pwr.vxReady = true := by
  unfold State.takeVx
  rw [if_pos hw, if_pos hn]
  rfl

/-- The cold start's read within its limits ends it (R285). -/
theorem State.takeVx_cold (s : State) {mv : Nat} (hw : s.pwr.waking = false) (hc : s.lvl.coldRead = true) (hlo : 580 ≤ mv)
    (hhi : mv ≤ 820) : (s.takeVx mv).lvl.coldRead = false := by
  unfold State.takeVx
  rw [if_neg (by simp [hw]), if_pos hc, if_pos ⟨hlo, hhi⟩, State.coldRead_of_heldView (State.startLevel_heldView _)]
  rfl

theorem State.takeVx_near (s : State) {mv : Nat} (hw : s.pwr.waking = false) (hc : s.lvl.coldRead = false)
    (hn : nearMv mv (vxMilliVolt s.lvl.going) = true) : s.takeVx mv = s.confirmVx := by
  unfold State.takeVx
  rw [if_neg (by simp [hw]), if_neg (by simp [hc]), if_neg (by simp [hn])]

theorem State.confirmVx_down (s : State) (hp : s.lvl.phase = .vxDown) : s.confirmVx.lvl.level = s.lvl.going := by
  unfold State.confirmVx
  rw [hp]
  exact State.level_of_heldView (State.levelDone_heldView _)

theorem State.confirmVx_up (s : State) (hp : s.lvl.phase = .vxUp) :
    s.confirmVx.lvl = { s.lvl with phase := .nvUpWait, landSfc := sfcAdd s.sfc 1, clock := vxClock s.lvl.going,
                                   bias := bodyBias s.lvl.going, assist := s.lvl.assist && writeAssist s.lvl.going } := by
  unfold State.confirmVx
  rw [hp]
  rfl

theorem vxConfirmed_goesOn (s : State) (fails mv : Nat) (hmv : mv < 2 ^ 16) (hc : s.controlRunning = true) :
    s.runsTo (.vxConfirmed ⟨fails, mv⟩) fun t =>
      t.g PERF.VX.MV = mv ∧ t.g PERF.AVS_ERR.COUNT = satAdd 32 (s.g PERF.AVS_ERR.COUNT) fails ∧
      (s.pwr.waking = true → nearMv mv 580 = true → t.pwr.vxReady = true) ∧
      (s.pwr.waking = false → s.lvl.coldRead = true → 580 ≤ mv → mv ≤ 820 → t.lvl.coldRead = false) ∧
      (s.pwr.waking = false → s.lvl.coldRead = false → nearMv mv (vxMilliVolt s.lvl.going) = true →
        (s.lvl.phase = .vxDown → t.lvl.level = s.lvl.going) ∧
        (s.lvl.phase = .vxUp →
          t.lvl = { s.lvl with phase := .nvUpWait, landSfc := sfcAdd s.sfc 1, clock := vxClock s.lvl.going,
                               bias := bodyBias s.lvl.going, assist := s.lvl.assist && writeAssist s.lvl.going })) := by
  obtain ⟨hshown, herr⟩ := State.showVx_kept hmv ((s.showVx fails mv).takeVx_regs mv)
  refine ⟨_, execVxConfirmed_eq hc fails mv, hshown, herr, fun hw hn => State.takeVx_wakes _ hw hn,
    fun hw hcold hlo hhi => State.takeVx_cold _ hw hcold hlo hhi, fun hw hcold hn => ?_⟩
  rw [State.takeVx_near (s.showVx fails mv) hw hcold hn]
  exact ⟨fun hp => State.confirmVx_down _ hp, fun hp => State.confirmVx_up _ hp⟩

/-- What an unconfirmed VX write does once its read is shown (R292). -/
def State.giveUpVx (s : State) (mv : Nat) : State :=
  if s.lvl.tries = 0 then
    let s := s.modLvl fun x => { x with tries := 1 }
    if s.lvl.coldRead then s else s.writeVx (vxMilliVolt s.lvl.going)
  else if s.lvl.phase = .vxDown then
    ((s.noteS1 0x0B 6 mv).modLvl fun x => { x with level := x.going, phase := .idle, tries := 0 }).levelDone
  else
    ((s.modLvl fun x =>
      { x with phase := .idle, going := x.level, avsFail := true, coldRead := false, tries := 0 }).faultS2Unit 0x0A 6 mv).pulse
        .perf 0 1

theorem execVxConfirmTimeout_busy {s : State} (h : s.controlRunning = true) (hp : s.lvl.phase = .vxUp ∨ s.lvl.phase = .vxDown)
    (fails mv : Nat) : execVxConfirmTimeout fails mv s = .next ((s.showVx fails mv).giveUpVx mv) := by
  have hbusy : (s.lvl.coldRead || decide (s.lvl.phase = .vxDown) || decide (s.lvl.phase = .vxUp)) = true := by
    rcases hp with hp | hp <;> simp [hp]
  unfold execVxConfirmTimeout
  dsimp only
  rw [hbusy, h, if_neg (by simp), if_neg (by simp)]
  unfold State.giveUpVx State.showVx
  dsimp only
  split_ifs <;> rfl

theorem State.Logs.levelRegs {s t : State} (h : State.Logs s t) (G : Fld) (hG : G ∈ levelFields) : t.g G = s.g G :=
  State.g_of_levelView h.levelView hG 0 0

theorem State.Logs.faultS2Unit (s : State) (code src addr : Nat) : State.Logs s (s.faultS2Unit code src addr) :=
  (State.Logs.log s _).modFault _

theorem State.giveUpVx_regs (s : State) (mv : Nat) (G : Fld) (hG : G ∈ levelFields) : (s.giveUpVx mv).g G = s.g G := by
  unfold State.giveUpVx
  dsimp only
  split
  · split <;> rfl
  · split
    · exact (State.regs_of_heldView (State.levelDone_heldView _) G hG).trans ((State.Logs.noteS1 s _ _ _).levelRegs G hG)
    · exact ((State.Logs.pulse _ _ _ _).levelRegs G hG).trans ((State.Logs.faultS2Unit _ _ _ _).levelRegs G hG)

/-- The first time VX is written again. -/
theorem State.giveUpVx_retries (s : State) (mv : Nat) (ht : s.lvl.tries = 0) :
    (s.giveUpVx mv).lvl.tries = 1 ∧ (s.giveUpVx mv).lvl.phase = s.lvl.phase ∧ (s.giveUpVx mv).lvl.level = s.lvl.level ∧
    (s.giveUpVx mv).lvl.nv = s.lvl.nv ∧
    (s.lvl.coldRead = false → (s.giveUpVx mv).lvl.vxWrite.map AvsWrite.value = some (vxMilliVolt s.lvl.going)) := by
  unfold State.giveUpVx
  rw [if_pos ht]
  dsimp only
  split
  · rename_i hc
    exact ⟨rfl, rfl, rfl, rfl, fun h => absurd (show s.lvl.coldRead = true from hc) (by simp [h])⟩
  · exact ⟨rfl, rfl, rfl, rfl, fun _ => rfl⟩

theorem State.giveUpVx_down (s : State) (mv : Nat) (ht : s.lvl.tries ≠ 0) (hp : s.lvl.phase = .vxDown) :
    (s.giveUpVx mv).lvl.level = s.lvl.going := by
  unfold State.giveUpVx
  rw [if_neg ht, if_pos hp, State.level_of_heldView (State.levelDone_heldView _)]
  exact congrArg LevelX.going (State.noteS1_lvl s _ _ _)

/-- The second time the way up ends where it began. -/
theorem State.giveUpVx_up (s : State) (mv : Nat) (ht : s.lvl.tries ≠ 0) (hp : s.lvl.phase = .vxUp) :
    (s.giveUpVx mv).lvl.phase = .idle ∧ (s.giveUpVx mv).lvl.going = s.lvl.level ∧ (s.giveUpVx mv).lvl.level = s.lvl.level ∧
    (s.giveUpVx mv).lvl.avsFail = true := by
  unfold State.giveUpVx
  rw [if_neg ht, if_neg (by simp [hp]), State.pulse_lvl, State.faultS2Unit_lvl]
  exact ⟨rfl, rfl, rfl, rfl⟩

theorem vxConfirmTimeout_givesUp (s : State) (fails mv : Nat) (hmv : mv < 2 ^ 16) (hc : s.controlRunning = true)
    (hp : s.lvl.phase = .vxUp ∨ s.lvl.phase = .vxDown) :
    s.runsTo (.vxConfirmTimeout fails mv) fun t =>
      t.g PERF.VX.MV = mv ∧ t.g PERF.AVS_ERR.COUNT = satAdd 32 (s.g PERF.AVS_ERR.COUNT) fails ∧
      (s.lvl.tries = 0 → t.lvl.tries = 1 ∧ t.lvl.phase = s.lvl.phase ∧ t.lvl.level = s.lvl.level ∧ t.lvl.nv = s.lvl.nv ∧
        (s.lvl.coldRead = false → t.lvl.vxWrite.map AvsWrite.value = some (vxMilliVolt s.lvl.going))) ∧
      (s.lvl.tries ≠ 0 → s.lvl.phase = .vxDown → t.lvl.level = s.lvl.going) ∧
      (s.lvl.tries ≠ 0 → s.lvl.phase = .vxUp →
        t.lvl.phase = .idle ∧ t.lvl.going = s.lvl.level ∧ t.lvl.level = s.lvl.level ∧ t.lvl.avsFail = true) := by
  obtain ⟨hshown, herr⟩ := State.showVx_kept hmv ((s.showVx fails mv).giveUpVx_regs mv)
  exact ⟨_, execVxConfirmTimeout_busy hc hp fails mv, hshown, herr, fun ht => State.giveUpVx_retries _ mv ht,
    fun ht hd => State.giveUpVx_down _ mv ht hd, fun ht hu => State.giveUpVx_up _ mv ht hu⟩

/-! ### VX's current (R289, R293) -/

/-- A current read that came through, shown and judged against the limit. -/
def State.showCurrent (s : State) (fails current : Nat) : State :=
  let s := (s.bump PERF.AVS_ERR.COUNT 0 fails).modLvl fun x => { x with currentHold := x.currentHold - 1 }
  let s := s.wr PERF.VX.CURRENT current
  s.modLvl fun x =>
    { x with overCurrent := if s.g PERF.ILIMIT.LIMIT < current then min 10 (s.lvl.overCurrent + 1) else 0 }

/-- The tenth read in a row above the limit is a Damper step, with its own 100 ms. -/
def State.limitCurrent (s : State) : State :=
  if s.lvl.overCurrent = 10 ∧ s.lvl.currentHold = 0 ∧ s.lvl.level < 3 then
    ((s.modLvl fun x => { x with currentHold := 100 }).pulse .perf 0 2).damperStep
  else s

theorem execAvsCurrentRead_eq {s : State} {fails : Nat} (hf : fails < 2) (hc : s.controlRunning = true) (hp : s.pwr.state < 2)
    (hw : s.pwr.waking = false) (current : Nat) :
    execAvsCurrentRead fails current false s = .next (s.showCurrent fails current).limitCurrent := by
  unfold execAvsCurrentRead
  rw [if_neg (by simp [hc, hw, hp])]
  dsimp only
  rw [if_neg Bool.false_ne_true, if_neg (by omega)]
  rfl

theorem State.limitCurrent_heldView (s : State) : s.limitCurrent.heldView = s.heldView := by
  unfold State.limitCurrent
  split
  · have hhold : (s.modLvl fun x => { x with currentHold := 100 }).heldView = s.heldView := State.modLvl_heldView s rfl
    exact (State.damperStep_heldView _).trans ((State.heldView_of_levelView (State.pulse_levelView _ _ _ _)).trans hhold)
  · rfl

theorem avsCurrentRead_counts (s : State) (fails current : Nat) (hf : fails < 2) (hcur : current < 2 ^ 16)
    (hc : s.controlRunning = true) (hp : s.pwr.state < 2) (hw : s.pwr.waking = false) :
    s.runsTo (.avsCurrentRead fails current false) fun t =>
      t.g PERF.VX.CURRENT = current ∧ t.g PERF.AVS_ERR.COUNT = satAdd 32 (s.g PERF.AVS_ERR.COUNT) fails ∧
      t.lvl.overCurrent = (if s.g PERF.ILIMIT.LIMIT < current then min 10 (s.lvl.overCurrent + 1) else 0) := by
  have hkept := (s.showCurrent fails current).limitCurrent_heldView
  have hlimit : ((s.bump PERF.AVS_ERR.COUNT 0 fails).wr PERF.VX.CURRENT current).g PERF.ILIMIT.LIMIT = s.g PERF.ILIMIT.LIMIT := by
    rw [State.g_wr_of_id (by decide), State.g_bump_of_id (by decide)]
  refine ⟨_, execAvsCurrentRead_eq hf hc hp hw current, ?_, ?_, ?_⟩
  · rw [State.g_of_heldView hkept (by decide)]
    exact (State.g_wr_self _ _ _ _ _).trans (Nat.mod_eq_of_lt hcur)
  · rw [State.g_of_heldView hkept (by decide)]
    have herr : (((s.bump PERF.AVS_ERR.COUNT 0 fails).modLvl fun x => { x with currentHold := x.currentHold - 1 }).wr
        PERF.VX.CURRENT current).g PERF.AVS_ERR.COUNT = (s.bump PERF.AVS_ERR.COUNT 0 fails).g PERF.AVS_ERR.COUNT :=
      State.g_wr_of_id (by decide) _ _ _ _ _ _
    exact herr.trans ((State.g_bump_self _ _ _ _ _).trans (satAdd_mod 32 _ _))
  · rw [State.overCurrent_of_heldView hkept, ← hlimit]
    rfl

/-- Settles O30: each moment of a change by its own lemma. -/
theorem performanceLevels : Obligations.PerformanceLevels := fun s =>
  ⟨levelRepropose_proposes s, nvDownLand_lowers s, nvUpLand_raises s, vxConfirmed_goesOn s, vxConfirmTimeout_givesUp s,
    avsCurrentRead_counts s⟩

end Sys2Proof.Machine
end

section
/-! What an accepted word of a device or cluster page stores and carries out (R12, R384). -/

namespace Sys2Proof.Machine

/-- A field stands in a word once. -/
theorem fieldsAt_index {p : Page} {off j k : Nat} {F : Fld} (hj : (F, j) ∈ fieldsAt p off) (hk : (F, k) ∈ fieldsAt p off) :
    j = k := by
  have index {n : Nat} (h : (F, n) ∈ fieldsAt p off) : (off - F.off) / F.stride = n := by
    unfold fieldsAt at h
    obtain ⟨G, -, hG⟩ := List.mem_filterMap.1 h
    split at hG
    case isTrue =>
      obtain ⟨rfl, hn⟩ : G = F ∧ (off - G.off) / G.stride = n := by simpa using hG
      exact hn
    case isFalse => cases hG
  rw [← index hj, index hk]

/-- The word at an offset of a page, written by a channel. -/
def wordAt (ch : Channel) (p : Page) (i off w : Nat) : WordWrite := { ch := chIx ch, page := p, inst := i, off := off, w := w }

theorem mem_fields_wordAt {ch : Channel} {p : Page} {i off w j : Nat} {F : Fld} :
    (F, j) ∈ (wordAt ch p i off w).fields ↔ (F, j) ∈ fieldsAt p off ∧ fieldThere F i = true := List.mem_filter

/-- A granted write outside the letterbox runs to what its word does, but for what the channel last answered. -/
theorem State.runsTo_granted {s : State} {c : Instr} {ch : Channel} {F : Fld} {p : Page} {i j off w : Nat} {P : State → Prop}
    (hc : exec c s = .next (s.writeAt ch F i j w)) (hg : s.grants ch F i j w = true) (hp : F.page = p)
    (ho : F.off + F.stride * j = off) (hi : i < p.count) (hl : p ≠ .letterbox) (hoff : off < 4096)
    (h : ∀ m : Mgmt, m.core = (s.applyWord (wordAt ch p i off w)).mgmt.core →
      s.refuses (wordAt ch p i off w) (s.acted (wordAt ch p i off w)) = false →
      P ((s.applyWord (wordAt ch p i off w)).modMgmt fun _ => m)) : s.runsTo c P := by
  subst hp ho
  obtain ⟨-, hr, m, hm, ht⟩ := State.writeAt_granted s ch F i j w hg hi hl hoff
  exact ⟨_, hc, ht ▸ h m hm hr⟩

theorem State.applyWord_device (s : State) {ch : Channel} {p : Page} {i off w : Nat} (ho : 0x040 ≤ off)
    (hp : isDevicePage p = true) : s.applyWord (wordAt ch p i off w) =
      (s.storeWord (wordAt ch p i off w)).deviceEffects (wordAt ch p i off w) (s.acted (wordAt ch p i off w)) := by
  unfold State.applyWord
  dsimp only
  rw [if_neg (show ¬ (wordAt ch p i off w).off < 0x040 by simp only [wordAt]; omega)]
  exact if_pos hp

theorem State.applyWord_line (s : State) {ch : Channel} {p : Page} {i off w : Nat} (ho : 0x040 ≤ off)
    (hp : isDevicePage p = false) : s.applyWord (wordAt ch p i off w) =
      (s.storeWord (wordAt ch p i off w)).lineEffects (wordAt ch p i off w) (s.acted (wordAt ch p i off w)) := by
  unfold State.applyWord
  dsimp only
  rw [if_neg (show ¬ (wordAt ch p i off w).off < 0x040 by simp only [wordAt]; omega)]
  exact if_neg (by simp [wordAt, hp])

/-! ### The fields a word acts on (R384) -/

theorem carried_wordAt (ch : Channel) (p : Page) (i off w : Nat) {F : Fld} (ho : 0x040 ≤ F.off) :
    (wordAt ch p i off w).carried F = bits w F.lo F.w := WordWrite.carried_bits _ _ (by omega)

/-- A trigger of the word acts where its bits are not 0. -/
theorem hits_trigger_wordAt (s : State) (ch : Channel) {p : Page} {off : Nat} (i w : Nat) {F : Fld} (hF : F.acc = .w1p)
    (hm : (F, 0) ∈ fieldsAt p off) (ho : 0x040 ≤ F.off) (ht : fieldThere F i = true) :
    hits (s.acted (wordAt ch p i off w)) F = decide (bits w F.lo F.w ≠ 0) :=
  hits_trigger s (wordAt ch p i off w) hF (mem_fields_wordAt.2 ⟨hm, ht⟩) (by omega)

theorem hits_other_word (s : State) (ch : Channel) {p : Page} {off : Nat} (i w : Nat) {F : Fld} (hc : F.cnt = 1)
    (h : F.off ≠ off) : hits (s.acted (wordAt ch p i off w)) F = false := hits_false_of_off s (wordAt ch p i off w) hc h

/-- A RW field of the word acts where the word gives it another value. -/
theorem hits_rw_wordAt (s : State) (ch : Channel) {p : Page} {off : Nat} (i w : Nat) {F : Fld} (hF : F.acc = .rw)
    (hm : (F, 0) ∈ fieldsAt p off) (ho : 0x040 ≤ F.off) (ht : fieldThere F i = true) :
    hits (s.acted (wordAt ch p i off w)) F = decide (bits w F.lo F.w ≠ s.value F i 0) := by
  have hact (j : Nat) : s.actsOn (wordAt ch p i off w) (F, j) = decide (bits w F.lo F.w ≠ s.value F i j) := by
    unfold State.actsOn State.current
    simp only [carried_wordAt ch p i off w ho, hF]
    change (fieldThere F i && bits w F.lo F.w != s.value F i j) = _
    rw [ht, Bool.true_and]
    by_cases h : bits w F.lo F.w = s.value F i j <;> simp [h]
  rw [Bool.eq_iff_iff, hits_iff]
  constructor
  · rintro ⟨j, hj, ha⟩
    rw [hact, fieldsAt_index (mem_fields_wordAt.1 hj).1 hm] at ha
    exact ha
  · exact fun h => ⟨0, mem_fields_wordAt.2 ⟨hm, ht⟩, (hact 0).trans h⟩

/-! ### What the stored fields read -/

/-- Outside BOOT, storing a field changes the registers and the staged values alone. -/
theorem State.storeField_parts (s : State) (x : WordWrite) {e : Fld × Nat} (h : e.1.page ≠ .boot) :
    ∃ r st, s.storeField x e = { s with regs := r, staged := st } := by
  have hb : e.1 ≠ BOOT.CTRL.PREFER := fun hc => h (by rw [hc]; rfl)
  unfold State.storeField
  dsimp only
  split
  · rw [if_neg hb]
    split
    · exact ⟨_, _, rfl⟩
    · exact ⟨_, _, rfl⟩
  · split
    · exact ⟨_, _, rfl⟩
    · exact ⟨_, _, rfl⟩
  · split
    · exact ⟨_, _, rfl⟩
    · exact ⟨_, _, rfl⟩
  · exact ⟨_, _, rfl⟩
  · exact ⟨_, _, rfl⟩

/-- Outside BOOT, storing a word changes the registers and the staged values alone. -/
theorem State.storeWord_parts (s : State) (ch : Channel) {p : Page} (i off w : Nat) (h : p ≠ .boot) :
    ∃ r st, s.storeWord (wordAt ch p i off w) = { s with regs := r, staged := st } := by
  generalize hx : wordAt ch p i off w = x
  replace h : x.page ≠ .boot := by rwa [← hx]
  have hpage : ∀ e ∈ x.fields, e.1.page ≠ .boot := fun e he => by
    rw [pageFields_page _ _ (fieldsAt_page (List.mem_filter.1 he).1)]
    exact h
  unfold State.storeWord
  generalize x.fields = l at hpage
  induction l generalizing s with
  | nil => exact ⟨_, _, rfl⟩
  | cons e l ih =>
    obtain ⟨r, st, he⟩ := s.storeField_parts x (hpage e (by simp))
    obtain ⟨r', st', hl⟩ := ih (s.storeField x e) fun e he => hpage e (by simp [he])
    exact ⟨r', st', by rw [List.foldl_cons, hl, he]⟩

/-- What reads neither the registers nor the staged values reads as before. -/
theorem State.storeWord_keeps {α : Type} (f : State → α) (s : State) (hf : ∀ r st, f { s with regs := r, staged := st } = f s)
    (ch : Channel) {p : Page} (i off w : Nat) (h : p ≠ .boot) : f (s.storeWord (wordAt ch p i off w)) = f s := by
  obtain ⟨r, st, hs⟩ := s.storeWord_parts ch i off w h
  rw [hs, hf]

theorem State.storeField_g_other (s : State) (x : WordWrite) {e : Fld × Nat} {G : Fld} (h : e.1.id % 2048 ≠ G.id % 2048)
    (a b : Nat) : (s.storeField x e).g G a b = s.g G a b := by
  unfold State.storeField
  dsimp only
  split
  · split
    · rfl
    · split
      · rfl
      · exact State.g_wr_of_id h.symm ..
  · split
    · rfl
    · exact State.g_wr_of_id h.symm ..
  · split
    · rfl
    · rfl
  · exact State.g_wr_of_id h.symm ..
  · rfl

/-- A register that the word does not hold reads as before. -/
theorem State.storeWord_g_other (s : State) (ch : Channel) {p : Page} {off : Nat} (i w : Nat) {G : Fld}
    (h : ∀ e ∈ fieldsAt p off, e.1.id % 2048 ≠ G.id % 2048) (a b : Nat) :
    (s.storeWord (wordAt ch p i off w)).g G a b = s.g G a b := by
  have hf : ∀ e ∈ (wordAt ch p i off w).fields, e.1.id % 2048 ≠ G.id % 2048 := fun e he => h e (List.mem_filter.1 he).1
  unfold State.storeWord
  generalize (wordAt ch p i off w).fields = l at hf
  induction l generalizing s with
  | nil => rfl
  | cons e l ih =>
    rw [List.foldl_cons, ih _ fun e he => hf e (by simp [he]), s.storeField_g_other _ (hf e (by simp))]

/-- A RW field of a word reads what the word gives it. -/
theorem State.storeWord_g (s : State) (ch : Channel) {p : Page} {off : Nat} (i w : Nat) {F : Fld} {j : Nat}
    (hm : (F, j) ∈ fieldsAt p off) (hid : ∀ e ∈ fieldsAt p off, e.1.id % 2048 = F.id % 2048 → e.1 = F)
    (ha : F.acc = .rw) (ho : 0x040 ≤ F.off) (ht : fieldThere F i = true) (hp : F.page ≠ .lmon ∧ F.page ≠ .boot) :
    (s.storeWord (wordAt ch p i off w)).g F i j = clampedField F (bits w F.lo F.w) % 2 ^ F.w := by
  rw [← carried_wordAt ch p i off w ho]
  change _ = (wordAt ch p i off w).val F % _
  have hfld : (F, j) ∈ (wordAt ch p i off w).fields := mem_fields_wordAt.2 ⟨hm, ht⟩
  have hone : ∀ e ∈ (wordAt ch p i off w).fields, e.1.id % 2048 = F.id % 2048 → e = (F, j) := by
    rintro ⟨G, k⟩ he hk
    have hG := (List.mem_filter.1 he).1
    obtain rfl : G = F := hid _ hG hk
    rw [fieldsAt_index hG hm]
  change (s.storeWord (wordAt ch p i off w)).g F (wordAt ch p i off w).inst j = _
  generalize wordAt ch p i off w = x at hone hfld
  have hstore (s : State) : (s.storeField x (F, j)).g F x.inst j = x.val F % 2 ^ F.w := by
    have hb : F ≠ BOOT.CTRL.PREFER := fun hc => hp.2 (by rw [hc]; rfl)
    unfold State.storeField
    simp [ha, hp.1, hb]
  unfold State.storeWord
  generalize x.fields = l at hone hfld
  induction l generalizing s with
  | nil => cases hfld
  | cons e l ih =>
    rw [List.foldl_cons]
    by_cases hl : (F, j) ∈ l
    · exact ih _ (fun e he => hone e (by simp [he])) hl
    · obtain rfl : (F, j) = e := by simpa [hl] using hfld
      have hrest : ∀ e ∈ l, e.1.id % 2048 ≠ F.id % 2048 := fun e he hid => hl (hone e (by simp [he]) hid ▸ he)
      rw [← hstore s]
      generalize s.storeField x (F, j) = t
      clear ih hone hfld hl
      induction l generalizing t with
      | nil => rfl
      | cons e l ih =>
        rw [List.foldl_cons, ih (fun e he => hrest e (by simp [he])), t.storeField_g_other x (hrest e (by simp))]

end Sys2Proof.Machine
end

section
/-! Granted words of the engine, its coefficient window, the frequency monitor and the clear codes (O54). -/

namespace Sys2Proof.Machine

/-! ### A trigger's word -/

/-- The trigger of its own word acts. -/
theorem hits_own_trigger (s : State) (ch : Channel) (w : Word) {p : Page} {off i : Nat} {F : Fld} (hF : F.acc = .w1p)
    (hm : (F, 0) ∈ fieldsAt p off) (ho : 0x040 ≤ F.off) (ht : fieldThere F i = true) (hw : F.w ≠ 0) :
    hits (s.acted (wordAt ch p i off (withOnes w F))) F = true := by
  have := Nat.one_lt_two_pow hw
  rw [hits_trigger_wordAt s ch i _ hF hm ho ht, bits_withOnes, decide_eq_true_eq]
  omega

/-- Another trigger of the word acts where the given word's bits are not 0. -/
theorem hits_other_trigger (s : State) (ch : Channel) (w : Word) {p : Page} {off i : Nat} {F G : Fld} (hG : G.acc = .w1p)
    (hm : (G, 0) ∈ fieldsAt p off) (ho : 0x040 ≤ G.off) (ht : fieldThere G i = true)
    (hd : G.lo + G.w ≤ F.lo ∨ F.lo + F.w ≤ G.lo) :
    hits (s.acted (wordAt ch p i off (withOnes w F))) G = decide (bits w.toNat G.lo G.w ≠ 0) := by
  rw [hits_trigger_wordAt s ch i _ hG hm ho ht, bits_withOnes_other w F G hd]

/-- A RW field beside a trigger reads the bits of the given word. -/
theorem State.storeWord_trigger_g (s : State) (ch : Channel) (w : Word) {p : Page} {off i : Nat} {F G : Fld}
    (hm : (G, 0) ∈ fieldsAt p off) (hid : ∀ e ∈ fieldsAt p off, e.1.id % 2048 = G.id % 2048 → e.1 = G) (ha : G.acc = .rw)
    (ho : 0x040 ≤ G.off) (ht : fieldThere G i = true) (hp : G.page ≠ .lmon ∧ G.page ≠ .boot)
    (hd : G.lo + G.w ≤ F.lo ∨ F.lo + F.w ≤ G.lo) :
    (s.storeWord (wordAt ch p i off (withOnes w F))).g G i = clampedField G (bits w.toNat G.lo G.w) % 2 ^ G.w := by
  rw [s.storeWord_g ch i _ hm hid ha ho ht hp, bits_withOnes_other w F G hd]

/-- Where clamping leaves a field alone, its bits are what is stored. -/
theorem clampedField_bits_mod {F : Fld} (h : ∀ v, clampedField F v = v) (n : Nat) :
    clampedField F (bits n F.lo F.w) % 2 ^ F.w = bits n F.lo F.w := by
  rw [h]
  exact Nat.mod_mod _ _

theorem State.beginResult_busy (s : State) (p : Page) (i : Nat) : (s.beginResult p i).g (HDR.PAGE_STAT.BUSY p) i = 1 := by
  unfold State.beginResult
  rw [State.g_wr_of_id (by cases p <;> decide), State.g_wr_self]
  cases p <;> rfl

theorem State.beginResult_stale (s : State) (p : Page) (i : Nat) : (s.beginResult p i).g (HDR.RESULT_SEQ.STALE p) i = 1 := by
  unfold State.beginResult
  rw [State.g_wr_self]
  cases p <;> rfl

/-! ### The engine (R113, R117) -/

/-- A word of CTRL: HOLD is in force as it reads. -/
theorem State.deviceEffects_engineCtrl (s t : State) (ch : Channel) (w : Nat) :
    t.deviceEffects (wordAt ch .xengine 0 0x040 w) (s.acted (wordAt ch .xengine 0 0x040 w)) =
      { t with xe := { t.xe with hold := t.g XENGINE.CTRL.HOLD == 1 } } := by
  have h := hits_other_word s ch (p := .xengine) 0 w rfl (show XENGINE.CENSUS_CTRL.REQUEST.off ≠ 0x040 by decide)
  simp only [State.deviceEffects, h]
  rfl

/-- REQUEST of the census: it begins with the direction and line that the word leaves. -/
theorem State.deviceEffects_census (t : State) (ch : Channel) (w : Nat) {act : List (Fld × Nat)}
    (h : hits act XENGINE.CENSUS_CTRL.REQUEST = true) :
    t.deviceEffects (wordAt ch .xengine 0 0x080 w) act =
      t.startCensus (t.g XENGINE.CENSUS_CTRL.DIR) (t.g XENGINE.CENSUS_CTRL.LINE) := by
  simp only [State.deviceEffects, h]
  rfl

/-- HOLD written 1 stops the updates. -/
theorem xengineHold_holds (s : State) (ch : Channel) (w : Word)
    (hg : s.grants ch XENGINE.CTRL.HOLD 0 0 (withOnes w XENGINE.CTRL.HOLD) = true) :
    s.runsTo (.xengineHold ch w) fun t => t.xe.hold = true ∧ t.g XENGINE.CTRL.HOLD = 1 ∧ t.lines = s.lines := by
  refine State.runsTo_granted (p := .xengine) (off := 0x040) rfl hg rfl rfl (by decide) (by decide) (by decide) fun m _ _ => ?_
  have hl := s.storeWord_keeps State.lines (fun _ _ => rfl) ch (p := .xengine) 0 0x040 (withOnes w XENGINE.CTRL.HOLD) (by decide)
  have hv := s.storeWord_g ch (p := .xengine) (off := 0x040) 0 (withOnes w XENGINE.CTRL.HOLD) (F := XENGINE.CTRL.HOLD) (j := 0)
    (by decide) (by decide) rfl (by decide) rfl (by decide)
  rw [bits_withOnes] at hv
  rw [State.applyWord_device s (by decide) rfl, State.deviceEffects_engineCtrl]
  generalize s.storeWord _ = t at hl hv ⊢
  have hh : (t.g XENGINE.CTRL.HOLD == 1) = true := by rw [hv]; rfl
  exact ⟨hh, hv, hl⟩

theorem census_begins (s : State) (ch : Channel) (w : Word)
    (hg : s.grants ch XENGINE.CENSUS_CTRL.REQUEST 0 0 (withOnes w XENGINE.CENSUS_CTRL.REQUEST) = true) :
    s.runsTo (.censusRequest ch w) fun t =>
      t.xe.census = some (w.toNat / 256 % 4, w.toNat % 128) ∧ t.xe.censusTaken = none ∧
      t.g (HDR.PAGE_STAT.BUSY .xengine) = 1 ∧ t.g (HDR.RESULT_SEQ.STALE .xengine) = 1 ∧ t.lines = s.lines := by
  refine State.runsTo_granted (p := .xengine) (off := 0x080) rfl hg rfl rfl (by decide) (by decide) (by decide) fun m _ _ => ?_
  have hl := s.storeWord_keeps State.lines (fun _ _ => rfl) ch (p := .xengine) 0 0x080 (withOnes w XENGINE.CENSUS_CTRL.REQUEST) (by decide)
  have hdir := s.storeWord_trigger_g ch w (p := .xengine) (off := 0x080) (i := 0) (F := XENGINE.CENSUS_CTRL.REQUEST)
    (G := XENGINE.CENSUS_CTRL.DIR) (by decide) (by decide) rfl (by decide) rfl (by decide) (by decide)
  have hline := s.storeWord_trigger_g ch w (p := .xengine) (off := 0x080) (i := 0) (F := XENGINE.CENSUS_CTRL.REQUEST)
    (G := XENGINE.CENSUS_CTRL.LINE) (by decide) (by decide) rfl (by decide) rfl (by decide) (by decide)
  rw [clampedField_bits_mod fun _ => rfl] at hdir hline
  rw [State.applyWord_device s (by decide) rfl,
    State.deviceEffects_census _ _ _ (hits_own_trigger s ch w rfl (by decide) (by decide) rfl (by decide)), hdir, hline]
  generalize s.storeWord _ = t at hl ⊢
  refine ⟨?_, rfl, State.beginResult_busy _ .xengine 0, State.beginResult_stale _ .xengine 0, hl⟩
  change some (bits w.toNat 8 2, bits w.toNat 0 7) = _
  simp [bits]

/-! ### The coefficient window (R118, R119) -/

theorem State.deviceEffects_xwindow (t : State) (ch : Channel) (w : Nat) (act : List (Fld × Nat)) :
    t.deviceEffects (wordAt ch .xwindow 0 0x044 w) act =
      if hits act XWINDOW.CMD.READ then t.startXw false (chIx ch + 1)
      else if hits act XWINDOW.CMD.WRITE then t.startXw true (chIx ch + 1) else t := rfl

/-- A request of the window that begins: BUSY, and a WRITE asks for the port. -/
theorem State.startXw_begins (s : State) (write : Bool) (master : Nat) (hm : s.g XWINDOW.SEL.MATRIX ≠ 3)
    (hw : s.g XWINDOW.CMD.WHEN < 2) :
    ∃ r : XwRequest, r.write = write ∧ r.shadow = false ∧ r.matrix = s.g XWINDOW.SEL.MATRIX ∧ r.tone = s.g XWINDOW.SEL.TONE ∧
      r.victim = s.g XWINDOW.SEL.VICTIM ∧ r.master = master ∧
      s.startXw write master =
        (let t := s.beginResult .xwindow 0
         let t : State := { t with xe := { t.xe with xw := some r } }
         if write then (t.askPort master).showWaiting else t) := by
  refine ⟨{ write := write, matrix := s.g XWINDOW.SEL.MATRIX, tone := s.g XWINDOW.SEL.TONE, victim := s.g XWINDOW.SEL.VICTIM,
            moment := s.g XWINDOW.CMD.WHEN,
            target := if s.g XWINDOW.CMD.WHEN = 2 then some (s.g XWINDOW.WHEN.SFC) else none,
            master := master, shadow := false, since := (s.sfc, s.sym),
            data := (List.range 128).map fun d => s.g XWINDOW.WDATA.I 0 d * 2 ^ 16 + s.g XWINDOW.WDATA.Q 0 d },
    rfl, rfl, rfl, rfl, rfl, rfl, ?_⟩
  unfold State.startXw
  have h2 : s.g XWINDOW.CMD.WHEN ≠ 2 := by omega
  have h3 : ¬ (s.g XWINDOW.SEL.MATRIX = 3 ∨ s.g XWINDOW.CMD.WHEN = 3) := by omega
  simp only [h2, h3, if_false, decide_false, Bool.false_and, Bool.false_eq_true]

/-- What the granted word of CMD leaves of SEL, and the moment it gives. -/
theorem State.storeWord_xwindowCmd (s : State) (ch : Channel) (w : Word) {F : Fld} (hd : F.lo + F.w ≤ 8) :
    (s.storeWord (wordAt ch .xwindow 0 0x044 (withOnes w F))).g XWINDOW.CMD.WHEN = w.toNat / 256 % 4 ∧
      ∀ G ∈ [XWINDOW.SEL.MATRIX, XWINDOW.SEL.TONE, XWINDOW.SEL.VICTIM],
        (s.storeWord (wordAt ch .xwindow 0 0x044 (withOnes w F))).g G = s.g G := by
  constructor
  · rw [s.storeWord_trigger_g ch w (p := .xwindow) (off := 0x044) (i := 0) (F := F) (G := XWINDOW.CMD.WHEN) (by decide) (by decide)
      rfl (by decide) rfl (by decide) (.inr hd), clampedField_bits_mod fun _ => rfl]
    rfl
  · intro G hG
    have hother : ∀ G ∈ [XWINDOW.SEL.MATRIX, XWINDOW.SEL.TONE, XWINDOW.SEL.VICTIM],
        ∀ e ∈ fieldsAt .xwindow 0x044, e.1.id % 2048 ≠ G.id % 2048 := by decide
    exact s.storeWord_g_other ch 0 _ (hother G hG) 0 0

theorem xwindowRead_begins (s : State) (ch : Channel) (w : Word)
    (hg : s.grants ch XWINDOW.CMD.READ 0 0 (withOnes w XWINDOW.CMD.READ) = true) (hw : w.toNat / 256 % 4 < 2)
    (hm : s.g XWINDOW.SEL.MATRIX ≠ 3) :
    s.runsTo (.xwindowRead ch w) fun t =>
      (∃ r, t.xe.xw = some r ∧ r.write = false ∧ r.matrix = s.g XWINDOW.SEL.MATRIX ∧ r.tone = s.g XWINDOW.SEL.TONE ∧
        r.victim = s.g XWINDOW.SEL.VICTIM ∧ r.master = chIx ch + 1) ∧
      t.g (HDR.PAGE_STAT.BUSY .xwindow) = 1 ∧ t.xe.waiting = s.xe.waiting ∧ t.lines = s.lines := by
  refine State.runsTo_granted (p := .xwindow) (off := 0x044) rfl hg rfl rfl (by decide) (by decide) (by decide) fun m _ _ => ?_
  have hl := s.storeWord_keeps State.lines (fun _ _ => rfl) ch (p := .xwindow) 0 0x044 (withOnes w XWINDOW.CMD.READ) (by decide)
  have hx := s.storeWord_keeps (·.xe.waiting) (fun _ _ => rfl) ch (p := .xwindow) 0 0x044 (withOnes w XWINDOW.CMD.READ) (by decide)
  obtain ⟨hwhen, hsel⟩ := s.storeWord_xwindowCmd ch w (F := XWINDOW.CMD.READ) (by decide)
  obtain ⟨r, hr, -, hmat, htone, hvic, hmas, he⟩ := State.startXw_begins
    (s.storeWord (wordAt ch .xwindow 0 0x044 (withOnes w XWINDOW.CMD.READ))) false (chIx ch + 1)
    (by rwa [hsel _ (by simp)]) (by rwa [hwhen])
  rw [hsel _ (by simp)] at hmat htone hvic
  rw [State.applyWord_device s (by decide) rfl, State.deviceEffects_xwindow,
    hits_own_trigger s ch w rfl (by decide) (by decide) rfl (by decide), if_pos rfl, he]
  generalize s.storeWord _ = t at hl hx ⊢
  exact ⟨⟨r, rfl, hr, hmat, htone, hvic, hmas⟩, t.beginResult_busy .xwindow 0, hx, hl⟩

theorem State.askPort_waiting (s : State) (m : Nat) : (s.askPort m).xe.waiting.contains m = true := by
  unfold State.askPort
  dsimp only
  split
  case isTrue h => exact h
  case isFalse => simp

theorem xwindowWrite_begins (s : State) (ch : Channel) (w : Word)
    (hg : s.grants ch XWINDOW.CMD.WRITE 0 0 (withOnes w XWINDOW.CMD.WRITE) = true) (hr0 : w.toNat % 2 = 0)
    (hw : w.toNat / 256 % 4 < 2) (hm : s.g XWINDOW.SEL.MATRIX ≠ 3) :
    s.runsTo (.xwindowWrite ch w) fun t =>
      (∃ r, t.xe.xw = some r ∧ r.write = true ∧ r.matrix = s.g XWINDOW.SEL.MATRIX ∧ r.master = chIx ch + 1) ∧
      t.g (HDR.PAGE_STAT.BUSY .xwindow) = 1 ∧ t.xe.waiting.contains (chIx ch + 1) = true ∧ t.g XWINDOW.XW_STAT.WAITING = 1 ∧
      t.lines = s.lines := by
  refine State.runsTo_granted (p := .xwindow) (off := 0x044) rfl hg rfl rfl (by decide) (by decide) (by decide) fun m _ _ => ?_
  have hl := s.storeWord_keeps State.lines (fun _ _ => rfl) ch (p := .xwindow) 0 0x044 (withOnes w XWINDOW.CMD.WRITE) (by decide)
  obtain ⟨hwhen, hsel⟩ := s.storeWord_xwindowCmd ch w (F := XWINDOW.CMD.WRITE) (by decide)
  obtain ⟨r, hr, hsh, hmat, -, -, hmas, he⟩ := State.startXw_begins
    (s.storeWord (wordAt ch .xwindow 0 0x044 (withOnes w XWINDOW.CMD.WRITE))) true (chIx ch + 1)
    (by rwa [hsel _ (by simp)]) (by rwa [hwhen])
  rw [hsel _ (by simp)] at hmat
  have hread : hits (s.acted (wordAt ch .xwindow 0 0x044 (withOnes w XWINDOW.CMD.WRITE))) XWINDOW.CMD.READ = false := by
    rw [hits_other_trigger s ch w rfl (by decide) (by decide) rfl (by decide)]
    simp [bits, XWINDOW.CMD.READ, hr0]
  rw [State.applyWord_device s (by decide) rfl, State.deviceEffects_xwindow, hread,
    hits_own_trigger s ch w rfl (by decide) (by decide) rfl (by decide), if_neg (by decide), if_pos rfl, he]
  generalize s.storeWord _ = t at hl ⊢
  dsimp only
  rw [if_pos rfl]
  have hbusy : (State.showWaiting (State.askPort { t.beginResult .xwindow 0 with
      xe := { (t.beginResult .xwindow 0).xe with xw := some r } } (chIx ch + 1))).g (HDR.PAGE_STAT.BUSY .xwindow) = 1 :=
    (State.g_wr_of_id (by decide) ..).trans (t.beginResult_busy .xwindow 0)
  refine ⟨⟨r, rfl, hr, hmat, hmas⟩, hbusy, State.askPort_waiting _ (chIx ch + 1), ?_, hl⟩
  refine Eq.trans (b := bnat (r.write && !r.shadow) % 2 ^ 1) (State.g_wr_self _ XWINDOW.XW_STAT.WAITING _ 0 0) ?_
  rw [hr, hsh]
  rfl

/-! ### The frequency monitor (R283) -/

theorem State.deviceEffects_freqmon (t : State) (ch : Channel) (w : Nat) {act : List (Fld × Nat)}
    (h : hits act CLOCKS.FM_CTRL.REQUEST = true) :
    t.deviceEffects (wordAt ch .clocks 0 0x060 w) act = t.startFreqmon := if_pos h

theorem State.landFreqmon_spec (s : State) {reason : Nat} (h : reason < 4) (count hz : Nat) :
    (s.landFreqmon reason count hz).g CLOCKS.FM_STAT.REASON = reason ∧
      (s.landFreqmon reason count hz).g (HDR.PAGE_STAT.BUSY .clocks) = 0 ∧ (s.landFreqmon reason count hz).lines = s.lines := by
  unfold State.landFreqmon
  dsimp only
  refine ⟨?_, ?_, by simp⟩
  · rw [State.pulse_g rfl]
    unfold State.landResult
    dsimp only
    rw [State.g_wr_of_id (by decide), State.g_wr_of_id (by decide), State.g_wr_of_id (by decide)]
    refine (State.g_wr_of_id (by decide) ..).trans ((State.g_wr_of_id (by decide) ..).trans
      ((State.g_wr_of_id (by decide) ..).trans ((State.g_wr_self ..).trans (Nat.mod_eq_of_lt ?_))))
    exact h.trans_le (by decide)
  · rw [State.pulse_g rfl, State.landResult_busy]

/-- REQUEST of a clock with a nominal frequency begins a measurement; another one ends at once with BAD_REF. -/
theorem freqmonRequest_spec (s : State) (ch : Channel) (w : Word)
    (hg : s.grants ch CLOCKS.FM_CTRL.REQUEST 0 0 (withOnes w CLOCKS.FM_CTRL.REQUEST) = true) :
    (w.toNat / 256 % 16 < 10 →
      s.runsTo (.freqmonRequest ch w) fun t =>
        t.clk = { s.clk with fm := some (w.toNat / 256 % 16, clampNat 10 24 (w.toNat / 2 ^ 16 % 32)) } ∧
        t.g (HDR.PAGE_STAT.BUSY .clocks) = 1 ∧ t.lines = s.lines) ∧
    (10 ≤ w.toNat / 256 % 16 →
      s.runsTo (.freqmonRequest ch w) fun t =>
        t.g CLOCKS.FM_STAT.REASON = 2 ∧ t.g (HDR.PAGE_STAT.BUSY .clocks) = 0 ∧ t.lines = s.lines) := by
  have hl := s.storeWord_keeps State.lines (fun _ _ => rfl) ch (p := .clocks) 0 0x060 (withOnes w CLOCKS.FM_CTRL.REQUEST) (by decide)
  have hk := s.storeWord_keeps State.clk (fun _ _ => rfl) ch (p := .clocks) 0 0x060 (withOnes w CLOCKS.FM_CTRL.REQUEST) (by decide)
  have href := s.storeWord_trigger_g ch w (p := .clocks) (off := 0x060) (i := 0) (F := CLOCKS.FM_CTRL.REQUEST)
    (G := CLOCKS.FM_CTRL.REF) (by decide) (by decide) rfl (by decide) rfl (by decide) (by decide)
  have hgate := s.storeWord_trigger_g ch w (p := .clocks) (off := 0x060) (i := 0) (F := CLOCKS.FM_CTRL.REQUEST)
    (G := CLOCKS.FM_CTRL.GATE) (by decide) (by decide) rfl (by decide) rfl (by decide) (by decide)
  rw [clampedField_bits_mod fun _ => rfl] at href
  change _ = w.toNat / 256 % 16 at href
  change _ = clampNat 10 24 (w.toNat / 2 ^ 16 % 32) % 32 at hgate
  constructor
  · intro hw
    refine State.runsTo_granted (p := .clocks) (off := 0x060) rfl hg rfl rfl (by decide) (by decide) (by decide) fun m _ _ => ?_
    rw [State.applyWord_device s (by decide) rfl,
      State.deviceEffects_freqmon _ _ _ (hits_own_trigger s ch w rfl (by decide) (by decide) rfl (by decide))]
    generalize s.storeWord _ = t at hl hk href hgate ⊢
    unfold State.startFreqmon
    dsimp only
    have hclamp : clampNat 10 24 (clampNat 10 24 (w.toNat / 2 ^ 16 % 32) % 32) = clampNat 10 24 (w.toNat / 2 ^ 16 % 32) := by
      unfold clampNat
      omega
    rw [href, if_neg (by omega)]
    have hg' : (t.beginResult .clocks 0).g CLOCKS.FM_CTRL.GATE = clampNat 10 24 (w.toNat / 2 ^ 16 % 32) % 32 :=
      (State.g_wr_of_id (by decide) ..).trans ((State.g_wr_of_id (by decide) ..).trans hgate)
    rw [hg', hclamp, ← hk]
    exact ⟨rfl, t.beginResult_busy .clocks 0, hl⟩
  · intro hw
    refine State.runsTo_granted (p := .clocks) (off := 0x060) rfl hg rfl rfl (by decide) (by decide) (by decide) fun m _ _ => ?_
    rw [State.applyWord_device s (by decide) rfl,
      State.deviceEffects_freqmon _ _ _ (hits_own_trigger s ch w rfl (by decide) (by decide) rfl (by decide))]
    generalize s.storeWord _ = t at hl href ⊢
    unfold State.startFreqmon
    dsimp only
    rw [href, if_pos hw]
    obtain ⟨hr, hb, hll⟩ := State.landFreqmon_spec (t.beginResult .clocks 0).draw.2 (reason := 2) (by decide)
      (Config.freeWord (t.beginResult .clocks 0).draw.1 0 % 2 ^ 40) (Config.freeWord (t.beginResult .clocks 0).draw.1 1 % 2 ^ 32)
    exact ⟨hr, hb, hll.trans hl⟩

/-! ### The clear codes (R215) -/

theorem fieldsAt_clrcode : fieldsAt .cluster 0x080 = [(CLUSTER.CLRCODE.CODE, 0)] := by decide

theorem State.storeWord_clrcode (s : State) (ch : Channel) (c w : Nat) :
    s.storeWord (wordAt ch .cluster c 0x080 w) = s.wr CLUSTER.CLRCODE.CODE (bits w 0 14) c := by
  unfold State.storeWord WordWrite.fields wordAt
  rw [fieldsAt_clrcode]
  rfl

/-- Taking the DAC inputs again changes no register and no line. -/
theorem State.refreshDacs_parts (s : State) : s.refreshDacs.regs = s.regs ∧ s.refreshDacs.lines = s.lines := by
  refine ⟨?_, s.refreshDacs_lines⟩
  unfold State.refreshDacs
  generalize allLines = l
  induction l generalizing s with
  | nil => rfl
  | cons k l ih => exact ih _

/-- A word of CLRCODE changes the DAC inputs at most. -/
theorem State.deviceEffects_clrcode (t : State) (ch : Channel) (c w : Nat) (act : List (Fld × Nat)) :
    (t.deviceEffects (wordAt ch .cluster c 0x080 w) act).regs = t.regs ∧
      (t.deviceEffects (wordAt ch .cluster c 0x080 w) act).lines = t.lines := by
  have heff : t.deviceEffects (wordAt ch .cluster c 0x080 w) act = if hits act CLUSTER.CLRCODE.CODE then t.refreshDacs else t :=
    rfl
  rw [heff]
  split
  · exact t.refreshDacs_parts
  · exact ⟨rfl, rfl⟩

theorem clrcode_taken (s : State) (ch : Channel) (c : Nat) (w : Word) (hc : c < 4)
    (hg : s.grants ch CLUSTER.CLRCODE.CODE c 0 w.toNat = true) :
    s.runsTo (.clrcodeWrite ch c w) fun t =>
      t.g CLUSTER.CLRCODE.CODE c = w.toNat % 2 ^ 14 ∧ s.onlyReg CLUSTER.CLRCODE.CODE c 0 t ∧ t.lines = s.lines := by
  refine State.runsTo_granted (p := .cluster) (off := 0x080) (if_pos hc) hg rfl rfl hc (by decide) (by decide) fun m _ _ => ?_
  rw [State.applyWord_device s (by decide) rfl, State.storeWord_clrcode]
  have hbits : bits w.toNat 0 14 % 2 ^ 14 = w.toNat % 2 ^ 14 := by simp [bits]
  obtain ⟨hr, hl⟩ := (s.wr CLUSTER.CLRCODE.CODE (bits w.toNat 0 14) c).deviceEffects_clrcode ch c w.toNat
    (s.acted (wordAt ch .cluster c 0x080 w.toNat))
  generalize State.deviceEffects _ _ _ = t at hr hl ⊢
  have hg (G : Fld) (a b : Nat) : t.g G a b = (s.wr CLUSTER.CLRCODE.CODE (bits w.toNat 0 14) c).g G a b := by
    unfold State.g
    rw [hr]
  exact ⟨(hg _ _ _).trans ((State.g_wr_self ..).trans hbits),
    fun G a b h => (hg G a b).trans (s.wr_onlyReg CLUSTER.CLRCODE.CODE (bits w.toNat 0 14) c 0 G a b h), hl⟩

end Sys2Proof.Machine
end

section
/-! Granted words of the timebase (O54). -/

namespace Sys2Proof.Machine

/-! ### The timebase (R286, R287) -/

/-- A word of CTRL: PPS_OUT falls where it is not enabled, then SET, then ADD. -/
theorem State.deviceEffects_timebase (t : State) (ch : Channel) (w : Nat) (act : List (Fld × Nat)) :
    ∃ (u : State) (b : Bool), u.time = { t.time with ppsOut := b } ∧ u.regs = t.regs ∧ u.lines = t.lines ∧
      t.deviceEffects (wordAt ch .timebase 0 0x040 w) act =
        (let v := if hits act TIMEBASE.CTRL.SET then
             if u.g TIMEBASE.CTRL.SET_AT_PPS = 1 then { u with time := { u.time with setArmed := true } } else u.landSet
           else u
         if hits act TIMEBASE.CTRL.ADD then v.landAdd else v) := by
  refine ⟨if t.g TIMEBASE.CTRL.PPS_OUT_EN = 0 then { t with time := { t.time with ppsOut := false } } else t,
    if t.g TIMEBASE.CTRL.PPS_OUT_EN = 0 then false else t.time.ppsOut, ?_, ?_, ?_, rfl⟩
  · split <;> rfl
  · split <;> rfl
  · split <;> rfl

/-- SET's word: it is armed for the next edge, or lands. -/
theorem timebaseSet_spec (s : State) (ch : Channel) (w : Word)
    (hg : s.grants ch TIMEBASE.CTRL.SET 0 0 (withOnes w TIMEBASE.CTRL.SET) = true) (hadd : w.toNat / 2 ^ 30 % 2 = 0) :
    (w.toNat / 2 ^ 29 % 2 = 1 →
      s.runsTo (.timebaseSet ch w) fun t =>
        t.time.setArmed = true ∧ t.time.ns = s.time.ns ∧ t.time.sec = s.time.sec ∧ t.lines = s.lines) ∧
    (w.toNat / 2 ^ 29 % 2 = 0 →
      s.runsTo (.timebaseSet ch w) fun t =>
        t.time.ns = s.g TIMEBASE.SET_NS.NS ∧ t.time.frac = 0 ∧ t.time.valid = true ∧ t.time.setArmed = false ∧
        t.time.sec = s.g TIMEBASE.SET_SEC_HI.SEC * 2 ^ 32 + s.g TIMEBASE.SET_SEC_LO.SEC ∧ t.lines = s.lines) := by
  have hl := s.storeWord_keeps State.lines (fun _ _ => rfl) ch (p := .timebase) 0 0x040 (withOnes w TIMEBASE.CTRL.SET) (by decide)
  have ht := s.storeWord_keeps State.time (fun _ _ => rfl) ch (p := .timebase) 0 0x040 (withOnes w TIMEBASE.CTRL.SET) (by decide)
  have hat := s.storeWord_trigger_g ch w (p := .timebase) (off := 0x040) (i := 0) (F := TIMEBASE.CTRL.SET)
    (G := TIMEBASE.CTRL.SET_AT_PPS) (by decide) (by decide) rfl (by decide) rfl (by decide) (by decide)
  have hns := s.storeWord_g_other ch (p := .timebase) (off := 0x040) 0 (withOnes w TIMEBASE.CTRL.SET)
    (G := TIMEBASE.SET_NS.NS) (by decide) 0 0
  have hhi := s.storeWord_g_other ch (p := .timebase) (off := 0x040) 0 (withOnes w TIMEBASE.CTRL.SET)
    (G := TIMEBASE.SET_SEC_HI.SEC) (by decide) 0 0
  have hlo := s.storeWord_g_other ch (p := .timebase) (off := 0x040) 0 (withOnes w TIMEBASE.CTRL.SET)
    (G := TIMEBASE.SET_SEC_LO.SEC) (by decide) 0 0
  have hset := hits_own_trigger s ch w (p := .timebase) (off := 0x040) (i := 0) (F := TIMEBASE.CTRL.SET) rfl (by decide)
    (by decide) rfl (by decide)
  have hno : hits (s.acted (wordAt ch .timebase 0 0x040 (withOnes w TIMEBASE.CTRL.SET))) TIMEBASE.CTRL.ADD = false := by
    rw [hits_other_trigger s ch w rfl (by decide) (by decide) rfl (by decide)]
    simpa [bits, TIMEBASE.CTRL.ADD] using hadd
  rw [clampedField_bits_mod fun _ => rfl] at hat
  change _ = w.toNat / 2 ^ 29 % 2 at hat
  constructor
  · intro hw
    refine State.runsTo_granted (p := .timebase) (off := 0x040) rfl hg rfl rfl (by decide) (by decide) (by decide) fun m _ _ => ?_
    rw [State.applyWord_device s (by decide) rfl]
    generalize s.storeWord _ = t at hl ht hat ⊢
    obtain ⟨u, b, hut, hur, hul, he⟩ := t.deviceEffects_timebase ch (withOnes w TIMEBASE.CTRL.SET)
      (s.acted (wordAt ch .timebase 0 0x040 (withOnes w TIMEBASE.CTRL.SET)))
    rw [he, hset, hno]
    have hug : u.g TIMEBASE.CTRL.SET_AT_PPS = 1 := by rw [State.g, hur]; exact hat.trans hw
    dsimp only
    rw [if_pos rfl, if_pos hug, if_neg (by decide)]
    rw [ht] at hut
    exact ⟨rfl, congrArg (·.ns) hut, congrArg (·.sec) hut, hul.trans hl⟩
  · intro hw
    refine State.runsTo_granted (p := .timebase) (off := 0x040) rfl hg rfl rfl (by decide) (by decide) (by decide) fun m _ _ => ?_
    rw [State.applyWord_device s (by decide) rfl]
    generalize s.storeWord _ = t at hl ht hat hns hhi hlo ⊢
    obtain ⟨u, b, hut, hur, hul, he⟩ := t.deviceEffects_timebase ch (withOnes w TIMEBASE.CTRL.SET)
      (s.acted (wordAt ch .timebase 0 0x040 (withOnes w TIMEBASE.CTRL.SET)))
    rw [he, hset, hno]
    have hug (G : Fld) : u.g G = t.g G := by rw [State.g, hur]; rfl
    dsimp only
    rw [if_pos rfl, if_neg (by decide), if_neg (by rw [hug, hat, hw]; decide)]
    have htime := u.landSet_time
    rw [hug, hug, hug, hns, hhi, hlo] at htime
    have hll := u.landSet_lines.trans (hul.trans hl)
    generalize u.landSet = v at htime hll ⊢
    change v.time.ns = _ ∧ v.time.frac = _ ∧ v.time.valid = _ ∧ v.time.setArmed = _ ∧ v.time.sec = _ ∧ v.lines = _
    rw [htime]
    exact ⟨rfl, rfl, rfl, rfl, rfl, hll⟩

/-- Whole nanoseconds added to the counter leave its fraction and carry into its seconds. -/
theorem State.advanceTime_whole (s : State) (d : Int) (hf : s.time.frac < 256)
    (hs : s.time.sub < 2 ^ 32) (h0 : 0 ≤ (s.time.sec * 10 ^ 9 + s.time.ns : Int) + d)
    (h1 : (s.time.sec * 10 ^ 9 + s.time.ns : Int) + d < 2 ^ 48 * 10 ^ 9) :
    ((s.advanceTime (d * 256 * 2 ^ 32)).time.sec * 10 ^ 9 + (s.advanceTime (d * 256 * 2 ^ 32)).time.ns : Int) =
        (s.time.sec * 10 ^ 9 + s.time.ns : Int) + d ∧
      (s.advanceTime (d * 256 * 2 ^ 32)).time.ns < 10 ^ 9 ∧
      (s.advanceTime (d * 256 * 2 ^ 32)).time.frac = s.time.frac := by
  unfold State.advanceTime
  dsimp only
  refine ⟨?_, ?_, ?_⟩
  · omega
  · omega
  · omega

theorem timebaseAdd_spec (s : State) (ch : Channel) (w : Word)
    (hg : s.grants ch TIMEBASE.CTRL.ADD 0 0 (withOnes w TIMEBASE.CTRL.ADD) = true) (hset : w.toNat / 2 ^ 31 = 0)
    (hf : s.time.frac < 256) (hs : s.time.sub < 2 ^ 32)
    (h0 : 0 ≤ (s.time.sec * 10 ^ 9 + s.time.ns : Int) + toSigned 32 (s.g TIMEBASE.OFFSET.NS))
    (h1 : (s.time.sec * 10 ^ 9 + s.time.ns : Int) + toSigned 32 (s.g TIMEBASE.OFFSET.NS) < 2 ^ 48 * 10 ^ 9) :
    s.runsTo (.timebaseAdd ch w) fun t =>
      (t.time.sec * 10 ^ 9 + t.time.ns : Int) = (s.time.sec * 10 ^ 9 + s.time.ns : Int) + toSigned 32 (s.g TIMEBASE.OFFSET.NS) ∧
      t.time.ns < 10 ^ 9 ∧ t.time.frac = s.time.frac ∧ t.time.suspect = false ∧ t.lines = s.lines := by
  refine State.runsTo_granted (p := .timebase) (off := 0x040) rfl hg rfl rfl (by decide) (by decide) (by decide) fun m _ _ => ?_
  have hl := s.storeWord_keeps State.lines (fun _ _ => rfl) ch (p := .timebase) 0 0x040 (withOnes w TIMEBASE.CTRL.ADD) (by decide)
  have ht := s.storeWord_keeps State.time (fun _ _ => rfl) ch (p := .timebase) 0 0x040 (withOnes w TIMEBASE.CTRL.ADD) (by decide)
  have hoff := s.storeWord_g_other ch (p := .timebase) (off := 0x040) 0 (withOnes w TIMEBASE.CTRL.ADD)
    (G := TIMEBASE.OFFSET.NS) (by decide) 0 0
  have hno : hits (s.acted (wordAt ch .timebase 0 0x040 (withOnes w TIMEBASE.CTRL.ADD))) TIMEBASE.CTRL.SET = false := by
    rw [hits_other_trigger s ch w rfl (by decide) (by decide) rfl (by decide)]
    have : w.toNat / 2147483648 = 0 := hset
    simp [bits, TIMEBASE.CTRL.SET, this]
  rw [State.applyWord_device s (by decide) rfl]
  generalize s.storeWord _ = t at hl ht hoff ⊢
  obtain ⟨u, b, hut, hur, hul, he⟩ := t.deviceEffects_timebase ch (withOnes w TIMEBASE.CTRL.ADD)
    (s.acted (wordAt ch .timebase 0 0x040 (withOnes w TIMEBASE.CTRL.ADD)))
  rw [he, hno, hits_own_trigger s ch w rfl (by decide) (by decide) rfl (by decide)]
  dsimp only
  rw [if_pos rfl, if_neg (by decide)]
  rw [ht] at hut
  have huo : u.g TIMEBASE.OFFSET.NS = s.g TIMEBASE.OFFSET.NS := by rw [← hoff, State.g, hur]; rfl
  have hadv := u.advanceTime_whole (toSigned 32 (s.g TIMEBASE.OFFSET.NS))
  rw [hut] at hadv
  obtain ⟨hsum, hlt, hfr⟩ := hadv hf hs h0 h1
  unfold State.landAdd
  rw [huo]
  have hll := (u.advanceTime_lines (toSigned 32 (s.g TIMEBASE.OFFSET.NS) * 256 * 2 ^ 32)).trans (hul.trans hl)
  exact ⟨hsum, hlt, hfr, rfl, hll⟩

end Sys2Proof.Machine
end

section
/-! What a change of a lane's state leaves: the lanes, the clocks, the power and the faults, and every register but its own
(R253, R257, R272). -/

namespace Sys2Proof.Machine

/-- The registers that the end of a lane's service and the start of a port's stamps write. -/
def hostFields : List Fld :=
  [LANE.STATUS.CAPS, LANE.STATUS.DEPTH, LANE.STATUS.LEGACY, PORT_CTL.CUM.CUM, PORT_CTL.RXBLK_LO.N, PORT_CTL.RXBLK_HI.N]

/-- From `s` to `t` only the ports, the events and those registers changed. -/
def State.HostOnly (s t : State) : Prop :=
  (t.lanes = s.lanes ∧ t.pwr = s.pwr ∧ t.clk = s.clk ∧ t.fault = s.fault) ∧
    ∀ (G : Fld) (a b : Nat), G.event = false → (∀ H ∈ hostFields, G.id % 2048 ≠ H.id % 2048) → t.g G a b = s.g G a b

theorem State.HostOnly.refl (s : State) : State.HostOnly s s := ⟨⟨rfl, rfl, rfl, rfl⟩, fun _ _ _ _ _ => rfl⟩

theorem State.HostOnly.trans {s t u : State} (h : State.HostOnly s t) (k : State.HostOnly t u) : State.HostOnly s u := by
  obtain ⟨⟨h1, h2, h3, h4⟩, hg⟩ := h
  obtain ⟨⟨k1, k2, k3, k4⟩, kg⟩ := k
  exact ⟨⟨k1.trans h1, k2.trans h2, k3.trans h3, k4.trans h4⟩,
    fun G a b hG hH => (kg G a b hG hH).trans (hg G a b hG hH)⟩

theorem State.HostOnly.foldl {β : Type} {f : State → β → State} (hf : ∀ s b, State.HostOnly s (f s b)) (l : List β) (s : State) :
    State.HostOnly s (l.foldl f s) := by
  induction l generalizing s with
  | nil => exact .refl s
  | cons b l ih => exact (hf s b).trans (ih _)

theorem State.HostOnly.ite {c : Prop} [Decidable c] {s t u : State} (ht : State.HostOnly s t) (hu : State.HostOnly s u) :
    State.HostOnly s (if c then t else u) := by
  split
  · exact ht
  · exact hu

@[simp] theorem State.refreshPins_fault (s : State) : s.refreshPins.fault = s.fault := by
  unfold State.refreshPins
  split <;> rfl

@[simp] theorem State.inbandChange_fault (s : State) (n : Nat) (v : Bool) : (s.inbandChange n v).fault = s.fault := by
  unfold State.inbandChange State.inbandDue State.sendEvent
  dsimp only
  split_ifs <;> simp

@[simp] theorem State.refreshSource_fault (s : State) (n : Nat) : (s.refreshSource n).fault = s.fault := by
  unfold State.refreshSource
  dsimp only
  split
  · rfl
  · rw [State.refreshPins_fault, State.inbandChange_fault]

@[simp] theorem State.edges_fault (s : State) (p : Page) (i m : Nat) : (s.edges p i m).fault = s.fault := by
  unfold State.edges State.refreshPage
  dsimp only
  split_ifs <;> simp

theorem State.edges_hostOnly (s : State) (p : Page) (i m : Nat) : State.HostOnly s (s.edges p i m) :=
  ⟨⟨by simp, by simp, by simp, by simp⟩, fun _ _ _ hG _ => State.edges_g hG ..⟩

theorem State.modPort_hostOnly (s : State) (p : Nat) (f : PortX → PortX) : State.HostOnly s (s.modPort p f) :=
  ⟨⟨rfl, rfl, rfl, rfl⟩, fun _ _ _ _ _ => rfl⟩

theorem State.wr_hostOnly (s : State) {F : Fld} (hF : F ∈ hostFields) (v i j : Nat) : State.HostOnly s (s.wr F v i j) :=
  ⟨⟨rfl, rfl, rfl, rfl⟩, fun _ _ _ _ hG => State.g_wr_of_mem hF hG ..⟩

theorem State.sendControl_hostOnly (s : State) (p cap : Nat) (b : Block) : State.HostOnly s (s.sendControl p cap b) :=
  .ite (s.modPort_hostOnly ..) (.refl s)

theorem State.sortPort_hostOnly (s : State) (p : Nat) : State.HostOnly s (s.sortPort p) := by
  unfold State.sortPort
  exact (State.HostOnly.ite (s.edges_hostOnly ..) (.refl s)).trans
    ((State.HostOnly.foldl (fun s l => s.sendControl_hostOnly ..) _ _).trans (State.modPort_hostOnly ..))

theorem State.darkenStd_hostOnly (s : State) (p : Nat) : State.HostOnly s (s.darkenStd p) :=
  .ite ⟨⟨rfl, rfl, rfl, rfl⟩, fun _ _ _ _ _ => rfl⟩ (.refl s)

theorem State.zeroStamps_hostOnly (s : State) (p : Nat) : State.HostOnly s (s.zeroStamps p) :=
  (s.wr_hostOnly (by simp [hostFields]) 0 p 0).trans ((State.wr_hostOnly _ (by simp [hostFields]) 0 p 0).trans
    ((State.wr_hostOnly _ (by simp [hostFields]) 0 p 0).trans (State.modPort_hostOnly ..)))

theorem State.refreshFill_hostOnly (s : State) (p : Nat) : State.HostOnly s (s.refreshFill p) := State.modPort_hostOnly ..

/-- What a lane's move does first: its state reads so, and it sends what that state sends. -/
def State.laneShown (s : State) (l st : Nat) : State :=
  (s.wr LANE.STATUS.STATE st l).modLane l fun x => { x with signal := laneSignalOf st x.loop, every := 0 }

/-- The rest of a lane's move concerns its ports and what it accepted. -/
theorem State.laneTo_hostOnly (s : State) (l st : Nat) : State.HostOnly (s.laneShown l st) (s.laneTo l st) := by
  unfold State.laneTo
  refine .ite (.refl _) ?_
  have hleave (u : State) : State.HostOnly u
      (let v := ((u.wr LANE.STATUS.CAPS 0 l).wr LANE.STATUS.DEPTH 0 l).wr LANE.STATUS.LEGACY 0 l
       (v.lanePorts l).foldl (fun s p => (s.modPort p fun x =>
          { x with pauseOn := false, control := [], egressOpen := false }).darkenStd p) (v.pulse .lane l 1)) :=
    (u.wr_hostOnly (by simp [hostFields]) 0 l 0).trans ((State.wr_hostOnly _ (by simp [hostFields]) 0 l 0).trans
      ((State.wr_hostOnly _ (by simp [hostFields]) 0 l 0).trans ((State.edges_hostOnly ..).trans
        (.foldl (fun s p => (s.modPort_hostOnly ..).trans (State.darkenStd_hostOnly ..)) _ _))))
  have henter (u : State) : State.HostOnly u (((u.lanePorts l).foldl (fun s p => s.zeroStamps p)
      (u.edges .lane l (1 + 4 * u.g LANE.STATUS.LEGACY l))).sortLane l) :=
    (u.edges_hostOnly ..).trans ((State.HostOnly.foldl (fun s p => s.zeroStamps_hostOnly p) _ _).trans
      (State.HostOnly.foldl (fun s p => s.sortPort_hostOnly p) _ _))
  have hend (u : State) : State.HostOnly u ((u.lanePorts l).foldl
      (fun s p => (if s.ownHostUp p == (s.port p).sortUp then s else s.sortPort p).refreshFill p) u) :=
    .foldl (fun s p => (State.HostOnly.ite (.refl s) (s.sortPort_hostOnly p)).trans (State.refreshFill_hostOnly ..)) _ _
  extract_lets cleared left entered
  have h2 : State.HostOnly (s.laneShown l st) left := .ite (hleave (s.laneShown l st)) (.refl (s.laneShown l st))
  have h3 : State.HostOnly left entered := .ite (henter left) (.refl left)
  exact h2.trans (h3.trans (hend _))

/-! ### What is read after a lane's move -/

theorem State.laneTo_parts (s : State) (l st : Nat) :
    (s.laneTo l st).pwr = s.pwr ∧ (s.laneTo l st).clk = s.clk ∧ (s.laneTo l st).fault = s.fault := by
  obtain ⟨⟨-, hp, hc, hf⟩, -⟩ := s.laneTo_hostOnly l st
  exact ⟨hp, hc, hf⟩

theorem State.laneTo_g {G : Fld} (hG : G.event = false)
    (h : ∀ H ∈ LANE.STATUS.STATE :: hostFields, G.id % 2048 ≠ H.id % 2048) (s : State) (l st a b : Nat) :
    (s.laneTo l st).g G a b = s.g G a b := by
  obtain ⟨-, hg⟩ := s.laneTo_hostOnly l st
  rw [hg G a b hG fun H hH => h H (by simp [hH])]
  exact State.g_wr_of_id (h _ (by simp)) ..

/-- A lane's move is to the state named. -/
theorem State.laneState_laneTo (s : State) (l : Nat) {st : Nat} (h : st < 16) : (s.laneTo l st).laneState l = st := by
  obtain ⟨-, hg⟩ := s.laneTo_hostOnly l st
  refine (hg LANE.STATUS.STATE l 0 rfl (by decide)).trans ((State.g_wr_self ..).trans (Nat.mod_eq_of_lt h))

/-- It moves no other lane. -/
theorem State.laneState_laneTo_other (s : State) {k l : Nat} (h : k ≠ l) (st : Nat) :
    (s.laneTo l st).laneState k = s.laneState k := by
  obtain ⟨-, hg⟩ := s.laneTo_hostOnly l st
  exact (hg LANE.STATUS.STATE k 0 rfl (by decide)).trans (State.g_wr_of_inst (F := LANE.STATUS.STATE) (G := LANE.STATUS.STATE) (i := l) (a := k) h (by decide) (by decide) ..)

/-- It leaves the lane's loopback. -/
theorem State.laneTo_loop (s : State) (l st : Nat) : ((s.laneTo l st).lane l).loop = (s.lane l).loop := by
  obtain ⟨⟨hl, -⟩, -⟩ := s.laneTo_hostOnly l st
  have hlane : (s.laneTo l st).lane l = (s.laneShown l st).lane l := by rw [State.lane, hl]; rfl
  rw [hlane, State.laneShown, State.lane_modLane_self]
  rfl

/-! ### Service -/

/-- A lane's service depends on its page's ENABLE, the PLLs, the isolated units, the power, and whether the lane is OFF. -/
theorem State.laneRuns_congr {s t : State} {l : Nat} (hc : t.clk = s.clk) (hf : t.fault = s.fault) (hp : t.pwr = s.pwr)
    (he : t.g (HDR.PAGE_CTRL.ENABLE .lane) l = s.g (HDR.PAGE_CTRL.ENABLE .lane) l)
    (ho : t.laneState l = laneOff ↔ s.laneState l = laneOff) : t.laneRuns l = s.laneRuns l := by
  have hoff : (t.laneState l != laneOff) = (s.laneState l != laneOff) := by
    by_cases h : s.laneState l = laneOff
    · rw [h, ho.2 h]
    · rw [bne_iff_ne.2 h, bne_iff_ne.2 (fun k => h (ho.1 k))]
  unfold State.laneRuns State.enabled State.locked
  rw [hc, hf, hp, he, hoff]

end Sys2Proof.Machine
end

section
/-! Granted words of the lanes and of the equaliser table (O54). -/

namespace Sys2Proof.Machine

/-! ### What the operations of a lane keep (R253, R265) -/

/-- The settings of a lane that its own operations leave alone. -/
def laneSettings : List Fld := [HDR.PAGE_CTRL.ENABLE .lane, LANE.CTRL.LOOP, LANE.CTRL.EQ, LANE.CTRL.RATE]

/-- From `s` to `t` what lane `l`'s service rests on is the same, but for its state. -/
def State.SameService (s t : State) : Prop :=
  t.clk = s.clk ∧ t.fault = s.fault ∧ t.pwr = s.pwr ∧ ∀ G ∈ laneSettings, ∀ a, t.g G a = s.g G a

theorem State.SameService.refl (s : State) : State.SameService s s := ⟨rfl, rfl, rfl, fun _ _ _ => rfl⟩

theorem State.SameService.trans {s t u : State} (h : State.SameService s t) (k : State.SameService t u) :
    State.SameService s u := by
  obtain ⟨h1, h2, h3, h4⟩ := h
  obtain ⟨k1, k2, k3, k4⟩ := k
  exact ⟨k1.trans h1, k2.trans h2, k3.trans h3, fun G hG a => (k4 G hG a).trans (h4 G hG a)⟩

theorem State.laneTo_sameService (s : State) (l st : Nat) : State.SameService s (s.laneTo l st) := by
  obtain ⟨hp, hc, hf⟩ := s.laneTo_parts l st
  refine ⟨hc, hf, hp, fun G hG a => ?_⟩
  have hframe : ∀ G ∈ laneSettings, G.event = false ∧ ∀ H ∈ LANE.STATUS.STATE :: hostFields, G.id % 2048 ≠ H.id % 2048 := by decide
  exact State.laneTo_g (hframe G hG).1 (hframe G hG).2 ..

theorem State.wr_sameService (s : State) {F : Fld} (h : ∀ G ∈ laneSettings, G.id % 2048 ≠ F.id % 2048) (v i j : Nat) :
    State.SameService s (s.wr F v i j) := ⟨rfl, rfl, rfl, fun G hG _ => State.g_wr_of_id (h G hG) ..⟩

theorem State.modLane_sameService (s : State) (l : Nat) (f : LaneX → LaneX) : State.SameService s (s.modLane l f) :=
  ⟨rfl, rfl, rfl, fun _ _ _ => rfl⟩

/-- A lane that is served stays served where it does not go OFF. -/
theorem State.SameService.runs {s t : State} (h : State.SameService s t) {l : Nat}
    (ho : t.laneState l = laneOff ↔ s.laneState l = laneOff) : t.laneRuns l = s.laneRuns l := by
  obtain ⟨hc, hf, hp, hg⟩ := h
  exact State.laneRuns_congr hc hf hp (hg _ (by simp [laneSettings]) l) ho

/-- A lane that is served stays served when it is not OFF. -/
theorem State.laneRuns_of_on {s t : State} {l : Nat} (hs : s.laneRuns l = true) (hc : t.clk = s.clk) (hp : t.pwr = s.pwr)
    (hf : s.fault.isolated.contains (64 + l) = false → t.fault.isolated.contains (64 + l) = false)
    (he : t.g (HDR.PAGE_CTRL.ENABLE .lane) l = s.g (HDR.PAGE_CTRL.ENABLE .lane) l)
    (ho : s.laneState l ≠ laneOff → t.laneState l ≠ laneOff) : t.laneRuns l = true := by
  unfold State.laneRuns State.enabled State.locked at hs ⊢
  rw [hc, hp, he]
  simp only [Bool.and_eq_true, Bool.or_eq_true, Bool.not_eq_true', bne_iff_ne] at hs ⊢
  obtain ⟨⟨⟨⟨⟨⟨h1, h2⟩, h3⟩, h4⟩, h5⟩, h6⟩, h7⟩ := hs
  exact ⟨⟨⟨⟨⟨⟨h1, h2⟩, hf h3⟩, h4⟩, h5⟩, h6⟩, h7.imp_right fun h => ⟨h.1, ho h.2⟩⟩

/-! ### A new loopback, a new equaliser entry (R252, R265) -/

theorem State.loopLane_service (s : State) (l : Nat) : State.SameService s (s.loopLane l) := by
  unfold State.loopLane
  extract_lets c old looped shown
  have hl : State.SameService s looped := s.modLane_sameService l _
  split_ifs
  · exact .refl s
  · exact hl.trans ((State.wr_sameService _ (by decide) ..).trans (State.laneTo_sameService ..))
  · refine hl.trans (State.SameService.trans ?_ (State.laneTo_sameService ..))
    change State.SameService looped (if _ then _ else _)
    split
    · exact State.wr_sameService _ (by decide) ..
    · exact .refl _

theorem State.loopLane_off (s : State) (l : Nat) : (s.loopLane l).laneState l = laneOff ↔ s.laneState l = laneOff := by
  unfold State.loopLane
  dsimp only
  split_ifs with h
  · rfl
  all_goals
    rw [State.laneState_laneTo _ _ (by decide)]
    exact ⟨fun h => absurd h (by decide), fun hs => absurd (.inr hs) h⟩

theorem State.retrainLane_service (s : State) (l : Nat) : State.SameService s (s.retrainLane l) := by
  unfold State.retrainLane
  split
  · exact (State.wr_sameService _ (by decide) ..).trans (State.laneTo_sameService ..)
  · exact .refl s

theorem State.retrainLane_off (s : State) (l : Nat) : (s.retrainLane l).laneState l = laneOff ↔ s.laneState l = laneOff := by
  unfold State.retrainLane
  split
  case isTrue h =>
    rw [State.laneState_laneTo _ _ (by decide)]
    exact ⟨fun h => absurd h (by decide), fun hs => absurd (hs ▸ h.1) (by decide)⟩
  case isFalse => rfl

/-! ### Bring-up from the start (R253) -/

/-- The lane with its lock and its losses cleared, in the loopback its setting gives, as bring-up begins. -/
def State.laneCleared (s : State) (l : Nat) : State :=
  let t := ((s.wr LANE.STATUS.CDR_LOCK 0 l).wr LANE.STATUS.LOS 0 l).wr LANE.STATUS.LOL 0 l
  t.modLane l fun x => { x with loop := if t.laneRuns l then t.loopCode l else 0 }

theorem State.laneCleared_g (s : State) (l : Nat) {G : Fld}
    (h : ∀ H ∈ [LANE.STATUS.CDR_LOCK, LANE.STATUS.LOS, LANE.STATUS.LOL], G.id % 2048 ≠ H.id % 2048) (a b : Nat) :
    (s.laneCleared l).g G a b = s.g G a b := by
  rw [State.laneCleared, State.modLane_g, State.g_wr_of_mem (by simp) h, State.g_wr_of_mem (by simp) h,
    State.g_wr_of_mem (by simp) h]

theorem State.laneCleared_lock (s : State) (l : Nat) : (s.laneCleared l).g LANE.STATUS.CDR_LOCK l = 0 := by
  have h1 := State.g_wr_of_id (F := LANE.STATUS.LOL) (G := LANE.STATUS.CDR_LOCK) (by decide)
    ((s.wr LANE.STATUS.CDR_LOCK 0 l).wr LANE.STATUS.LOS 0 l) 0 l 0 l 0
  have h2 := State.g_wr_of_id (F := LANE.STATUS.LOS) (G := LANE.STATUS.CDR_LOCK) (by decide)
    (s.wr LANE.STATUS.CDR_LOCK 0 l) 0 l 0 l 0
  exact h1.trans (h2.trans (State.g_wr_self ..))

theorem State.laneCleared_service (s : State) (l : Nat) : State.SameService s (s.laneCleared l) :=
  ⟨rfl, rfl, rfl, fun G hG a => s.laneCleared_g l ((by decide : ∀ G ∈ laneSettings,
    ∀ H ∈ [LANE.STATUS.CDR_LOCK, LANE.STATUS.LOS, LANE.STATUS.LOL], G.id % 2048 ≠ H.id % 2048) G hG) a 0⟩

theorem State.startLane_eq (s : State) (l : Nat) : s.startLane l = (s.laneCleared l).laneTo l
    (if !(s.laneCleared l).laneRuns l then laneOff else if (s.laneCleared l).loopCode l = 0 then laneDetect else laneLoop) := rfl

/-- Where bring-up starts. -/
theorem State.startLane_state (s : State) (l : Nat) : (s.startLane l).laneState l =
    if s.laneRuns l = false then laneOff else if s.loopCode l = 0 then laneDetect else laneLoop := by
  have hs := s.laneCleared_service l
  have hst : (s.laneCleared l).laneState l = s.laneState l := s.laneCleared_g l (by decide) l 0
  have hr : (s.laneCleared l).laneRuns l = s.laneRuns l := hs.runs (by rw [hst])
  have hcode : (s.laneCleared l).loopCode l = s.loopCode l := by
    unfold State.loopCode
    rw [hs.2.2.2 _ (by simp [laneSettings])]
  rw [State.startLane_eq, State.laneState_laneTo _ _ (by split_ifs <;> decide), hr, hcode]
  cases s.laneRuns l <;> rfl

theorem State.startLane_service (s : State) (l : Nat) : State.SameService s (s.startLane l) :=
  (s.laneCleared_service l).trans (State.laneTo_sameService ..)

/-- Bring-up begins without CDR lock, and leaves the last reason. -/
theorem State.startLane_status (s : State) (l : Nat) : (s.startLane l).g LANE.STATUS.CDR_LOCK l = 0 ∧
    (s.startLane l).g LANE.STATUS.LAST_REASON l = s.g LANE.STATUS.LAST_REASON l := by
  rw [State.startLane_eq]
  exact ⟨(State.laneTo_g rfl (by decide) ..).trans (s.laneCleared_lock l),
    (State.laneTo_g rfl (by decide) ..).trans (s.laneCleared_g l (by decide) l 0)⟩

/-- RESTART of a served lane without a loopback: DETECT, with HOST as its reason. -/
theorem State.restartLane_detects {s : State} {l : Nat} (hr : s.laneRuns l = true) (hc : s.loopCode l = 0) :
    (s.restartLane l).laneState l = laneDetect ∧ (s.restartLane l).g LANE.STATUS.LAST_REASON l = 4 ∧
      (s.restartLane l).g LANE.STATUS.CDR_LOCK l = 0 := by
  unfold State.restartLane
  extract_lets freed
  have hfr : ((freed.wr LANE.STATUS.LAST_REASON 4 l).laneRuns l) = true := by
    refine State.laneRuns_of_on hr rfl rfl (fun h => ?_) (State.g_wr_of_id (by decide) ..)
      fun h => (State.g_wr_of_id (by decide) freed ..).trans_ne h
    change (s.fault.isolated.filter (· != 64 + l)).contains (64 + l) = false
    simp
  have hcode : (freed.wr LANE.STATUS.LAST_REASON 4 l).loopCode l = 0 := by
    refine Eq.trans ?_ hc
    unfold State.loopCode
    rw [State.g_wr_of_id (by decide)]
    rfl
  obtain ⟨hlock, hreason⟩ := (freed.wr LANE.STATUS.LAST_REASON 4 l).startLane_status l
  refine ⟨?_, hreason.trans (State.g_wr_self ..), hlock⟩
  rw [State.startLane_state, hfr, if_neg (by decide), if_pos hcode]

end Sys2Proof.Machine
end

section
/-! The words of a lane, of the equaliser table, and the obligation about device registers (O54). -/

namespace Sys2Proof.Machine

/-- A new loopback puts the lane in it. -/
theorem State.loopLane_loops {s : State} {l : Nat} (hc : s.loopCode l ≠ 0) (hn : s.loopCode l ≠ (s.lane l).loop)
    (ho : s.laneState l ≠ laneOff) :
    (s.loopLane l).laneState l = laneLoop ∧ ((s.loopLane l).lane l).loop = s.loopCode l := by
  unfold State.loopLane
  dsimp only
  rw [if_neg (not_or.2 ⟨hn, ho⟩), if_neg hc]
  refine ⟨State.laneState_laneTo _ _ (by decide), ?_⟩
  rw [State.laneTo_loop]
  split
  · exact congrArg LaneX.loop (State.lane_modLane_self s l fun x => { x with loop := s.loopCode l })
  · exact congrArg LaneX.loop (State.lane_modLane_self s l fun x => { x with loop := s.loopCode l })

/-- A lane in a loopback stays in it with a new equaliser setting. -/
theorem State.retrainLane_of_loop {s : State} {l : Nat} (h : s.laneState l = laneLoop) : s.retrainLane l = s := by
  unfold State.retrainLane
  rw [h]
  exact if_neg (by decide)

/-! ### The word of a lane's CTRL -/

/-- The lane after LOOP and EQ of a word that acts on them or not. -/
def State.relooped (s : State) (l : Nat) (loop eq : Bool) : State :=
  let t := if loop then s.loopLane l else s
  if eq then t.retrainLane l else t

/-- LOOP, EQ, RATE and RESTART follow in this order. -/
theorem State.lineEffects_lane (t : State) (ch : Channel) (l w : Nat) {act : List (Fld × Nat)} {rate restart : Bool}
    (hrate : hits act LANE.CTRL.RATE = rate) (hrestart : hits act LANE.CTRL.RESTART = restart) :
    ∃ loop eq, loop = hits act LANE.CTRL.LOOP ∧ t.lineEffects (wordAt ch .lane l 0x040 w) act =
      (let u := if rate then (t.relooped l loop eq).startLane l else t.relooped l loop eq
       if restart then u.restartLane l else u) := by
  subst hrate hrestart
  exact ⟨_, hits act LANE.CTRL.EQ, rfl, rfl⟩

/-- What the stored word of CTRL leaves of a lane, and what it gives. -/
theorem State.storeWord_lane (s : State) (ch : Channel) (l w : Nat) :
    let t := s.storeWord (wordAt ch .lane l 0x040 w)
    t.laneRuns l = s.laneRuns l ∧ t.laneState l = s.laneState l ∧ t.lanes = s.lanes ∧
      t.g LANE.CTRL.LOOP l = w / 256 % 8 ∧ t.g LANE.CTRL.RATE l = w % 2 := by
  have hst : (s.storeWord (wordAt ch .lane l 0x040 w)).laneState l = s.laneState l :=
    s.storeWord_g_other ch (p := .lane) (off := 0x040) l w (by decide) l 0
  refine ⟨State.laneRuns_congr ?_ ?_ ?_ ?_ (by rw [hst]), hst, ?_, ?_, ?_⟩
  · exact s.storeWord_keeps State.clk (fun _ _ => rfl) ch l 0x040 w (by decide)
  · exact s.storeWord_keeps State.fault (fun _ _ => rfl) ch l 0x040 w (by decide)
  · exact s.storeWord_keeps State.pwr (fun _ _ => rfl) ch l 0x040 w (by decide)
  · exact s.storeWord_g_other ch (p := .lane) (off := 0x040) l w (by decide) l 0
  · exact s.storeWord_keeps State.lanes (fun _ _ => rfl) ch l 0x040 w (by decide)
  · rw [s.storeWord_g ch (p := .lane) (off := 0x040) l w (F := LANE.CTRL.LOOP) (j := 0) (by decide) (by decide) rfl (by decide)
      rfl (by decide), clampedField_bits_mod fun _ => rfl]
    rfl
  · rw [s.storeWord_g ch (p := .lane) (off := 0x040) l w (F := LANE.CTRL.RATE) (j := 0) (by decide) (by decide) rfl (by decide)
      rfl (by decide), clampedField_bits_mod fun _ => rfl]
    exact congrArg (· % 2) (Nat.div_one w)

/-- A loopback and a new equaliser setting keep a lane's service and whether it is OFF. -/
theorem State.relooped_keeps (t : State) (l : Nat) (loop eq : Bool) :
    State.SameService t (t.relooped l loop eq) ∧ ((t.relooped l loop eq).laneState l = laneOff ↔ t.laneState l = laneOff) := by
  unfold State.relooped
  extract_lets u
  have hu : State.SameService t u ∧ (u.laneState l = laneOff ↔ t.laneState l = laneOff) := by
    cases loop
    · exact ⟨.refl t, Iff.rfl⟩
    · exact ⟨t.loopLane_service l, t.loopLane_off l⟩
  cases eq
  · exact hu
  · exact ⟨hu.1.trans (u.retrainLane_service l), (u.retrainLane_off l).trans hu.2⟩

theorem State.loopCode_congr {s t : State} {l : Nat} (h : t.g LANE.CTRL.LOOP l = s.g LANE.CTRL.LOOP l) :
    t.loopCode l = s.loopCode l := by
  unfold State.loopCode
  rw [h]

theorem loopCode_zero_iff {s : State} {l n : Nat} (h : s.g LANE.CTRL.LOOP l = n) : s.loopCode l = 0 ↔ n = 0 ∨ 4 ≤ n := by
  unfold State.loopCode
  rw [h]
  split
  · omega
  · omega

/-- A served lane without a loopback stays so as bring-up begins. -/
theorem State.startLane_stays {s : State} {l : Nat} (hr : s.laneRuns l = true) (hc : s.loopCode l = 0) :
    (s.startLane l).laneRuns l = true ∧ (s.startLane l).loopCode l = 0 := by
  obtain ⟨hck, hf, hp, hg⟩ := s.startLane_service l
  refine ⟨State.laneRuns_of_on hr hck hp (fun h => by rwa [hf]) (hg _ (by simp [laneSettings]) l) fun _ => ?_,
    (State.loopCode_congr (hg _ (by simp [laneSettings]) l)).trans hc⟩
  rw [State.startLane_state, hr, if_neg (by decide), if_pos hc]
  decide

theorem laneRestart_detects (s : State) (ch : Channel) (l : Nat) (w : Word) (hl : l < 32)
    (hg : s.grants ch LANE.CTRL.RESTART l 0 (withOnes w LANE.CTRL.RESTART) = true) (hr : s.laneRuns l = true)
    (hw : w.toNat / 256 % 8 = 0 ∨ 4 ≤ w.toNat / 256 % 8) :
    s.runsTo (.laneRestart ch l w) fun t =>
      t.laneState l = laneDetect ∧ t.g LANE.STATUS.LAST_REASON l = 4 ∧ t.g LANE.STATUS.CDR_LOCK l = 0 := by
  have hc : exec (.laneRestart ch l w) s = .next (s.trigger ch LANE.CTRL.RESTART l 0 w) := withLane_of_lt hl s _
  refine State.runsTo_granted (p := .lane) (off := 0x040) hc hg rfl rfl hl (by decide) (by decide) fun m _ _ => ?_
  obtain ⟨htr, hts, -, hloop, -⟩ := s.storeWord_lane ch l (withOnes w LANE.CTRL.RESTART)
  have hbits : withOnes w LANE.CTRL.RESTART / 256 % 8 = w.toNat / 256 % 8 :=
    bits_withOnes_other w LANE.CTRL.RESTART LANE.CTRL.LOOP (.inl (by decide))
  rw [hbits] at hloop
  obtain ⟨loop, eq, -, he⟩ := (s.storeWord (wordAt ch .lane l 0x040 (withOnes w LANE.CTRL.RESTART))).lineEffects_lane ch l
    (withOnes w LANE.CTRL.RESTART) (act := s.acted (wordAt ch .lane l 0x040 (withOnes w LANE.CTRL.RESTART))) rfl
    (hits_own_trigger s ch w rfl (by decide) (by decide) rfl (by decide))
  rw [State.applyWord_line s (by decide) rfl, he]
  generalize s.storeWord _ = t at htr hts hloop ⊢
  obtain ⟨hsv, hoff⟩ := t.relooped_keeps l loop eq
  dsimp only
  rw [if_pos rfl]
  generalize t.relooped l loop eq = v at hsv hoff ⊢
  have hvr : v.laneRuns l = true := (hsv.runs hoff).trans (htr.trans hr)
  have hvc : v.loopCode l = 0 := (loopCode_zero_iff ((hsv.2.2.2 _ (by simp [laneSettings]) l).trans hloop)).2 hw
  have hu : (if hits (s.acted (wordAt ch .lane l 0x040 (withOnes w LANE.CTRL.RESTART))) LANE.CTRL.RATE then v.startLane l
      else v).laneRuns l = true ∧
      (if hits (s.acted (wordAt ch .lane l 0x040 (withOnes w LANE.CTRL.RESTART))) LANE.CTRL.RATE then v.startLane l
      else v).loopCode l = 0 := by
    split
    · exact v.startLane_stays hvr hvc
    · exact ⟨hvr, hvc⟩
  obtain ⟨h1, h2, h3⟩ := State.restartLane_detects hu.1 hu.2
  generalize State.restartLane _ l = r at h1 h2 h3 ⊢
  exact ⟨h1, h2, h3⟩

/-- A new RATE starts the lane again. -/
theorem laneRate_starts (s : State) (ch : Channel) (l : Nat) (w : Word) (hl : l < 32)
    (hg : s.grants ch LANE.CTRL.RATE l 0 w.toNat = true) (hre : w.toNat / 2 ^ 31 = 0) (hn : s.g LANE.CTRL.RATE l ≠ w.toNat % 2) :
    s.runsTo (.laneRateChange ch l w) fun t =>
      t.laneState l = (if s.laneRuns l = false then laneOff
        else if w.toNat / 256 % 8 = 0 ∨ 4 ≤ w.toNat / 256 % 8 then laneDetect else laneLoop) ∧
      t.g LANE.CTRL.RATE l = w.toNat % 2 := by
  have hc : exec (.laneRateChange ch l w) s = .next (s.writeAt ch LANE.CTRL.RATE l 0 w.toNat) := withLane_of_lt hl s _
  refine State.runsTo_granted (p := .lane) (off := 0x040) hc hg rfl rfl hl (by decide) (by decide) fun m _ _ => ?_
  obtain ⟨htr, hts, -, hloop, hrate⟩ := s.storeWord_lane ch l w.toNat
  have hrestart : hits (s.acted (wordAt ch .lane l 0x040 w.toNat)) LANE.CTRL.RESTART = false := by
    rw [hits_trigger_wordAt s ch l _ rfl (by decide) (by decide) rfl]
    have : w.toNat / 2147483648 = 0 := hre
    simp [bits, LANE.CTRL.RESTART, this]
  have hact : hits (s.acted (wordAt ch .lane l 0x040 w.toNat)) LANE.CTRL.RATE = true := by
    rw [hits_rw_wordAt s ch l _ rfl (by decide) (by decide) rfl, decide_eq_true_eq]
    change bits w.toNat 0 1 ≠ s.g LANE.CTRL.RATE l
    simpa [bits] using hn.symm
  obtain ⟨loop, eq, -, he⟩ := (s.storeWord (wordAt ch .lane l 0x040 w.toNat)).lineEffects_lane ch l w.toNat hact hrestart
  rw [State.applyWord_line s (by decide) rfl, he]
  generalize s.storeWord _ = t at htr hts hloop hrate ⊢
  obtain ⟨hsv, hoff⟩ := t.relooped_keeps l loop eq
  dsimp only
  rw [if_pos rfl, if_neg (by decide)]
  generalize t.relooped l loop eq = v at hsv hoff ⊢
  have hvr : v.laneRuns l = s.laneRuns l := (hsv.runs hoff).trans htr
  have hvl : v.g LANE.CTRL.LOOP l = w.toNat / 256 % 8 := (hsv.2.2.2 _ (by simp [laneSettings]) l).trans hloop
  refine ⟨(v.startLane_state l).trans ?_,
    ((v.startLane_service l).2.2.2 _ (by simp [laneSettings]) l).trans ((hsv.2.2.2 _ (by simp [laneSettings]) l).trans hrate)⟩
  rw [hvr]
  simp only [loopCode_zero_iff hvl]

/-- A new LOOP puts the lane in its loopback. -/
theorem laneLoop_loops (s : State) (ch : Channel) (l : Nat) (w : Word) (hl : l < 32)
    (hg : s.grants ch LANE.CTRL.LOOP l 0 w.toNat = true) (hre : w.toNat / 2 ^ 31 = 0) (hrate : s.g LANE.CTRL.RATE l = w.toNat % 2)
    (hn : s.g LANE.CTRL.LOOP l ≠ w.toNat / 256 % 8) (ho : s.laneState l ≠ laneOff) (h4 : w.toNat / 256 % 8 < 4)
    (hx : (s.lane l).loop ≠ w.toNat / 256 % 8) (h0 : w.toNat / 256 % 8 ≠ 0) :
    s.runsTo (.laneLoopWrite ch l w) fun t => t.laneState l = laneLoop ∧ (t.lane l).loop = w.toNat / 256 % 8 := by
  have hc : exec (.laneLoopWrite ch l w) s = .next (s.writeAt ch LANE.CTRL.LOOP l 0 w.toNat) := withLane_of_lt hl s _
  refine State.runsTo_granted (p := .lane) (off := 0x040) hc hg rfl rfl hl (by decide) (by decide) fun m _ _ => ?_
  obtain ⟨-, hts, htl, hloop, -⟩ := s.storeWord_lane ch l w.toNat
  have hrestart : hits (s.acted (wordAt ch .lane l 0x040 w.toNat)) LANE.CTRL.RESTART = false := by
    rw [hits_trigger_wordAt s ch l _ rfl (by decide) (by decide) rfl]
    have : w.toNat / 2147483648 = 0 := hre
    simp [bits, LANE.CTRL.RESTART, this]
  have hno : hits (s.acted (wordAt ch .lane l 0x040 w.toNat)) LANE.CTRL.RATE = false := by
    rw [hits_rw_wordAt s ch l _ rfl (by decide) (by decide) rfl, decide_eq_false_iff_not, not_not]
    change bits w.toNat 0 1 = s.g LANE.CTRL.RATE l
    simpa [bits] using hrate.symm
  have hact : hits (s.acted (wordAt ch .lane l 0x040 w.toNat)) LANE.CTRL.LOOP = true := by
    rw [hits_rw_wordAt s ch l _ rfl (by decide) (by decide) rfl, decide_eq_true_eq]
    exact hn.symm
  obtain ⟨loop, eq, hlp, he⟩ := (s.storeWord (wordAt ch .lane l 0x040 w.toNat)).lineEffects_lane ch l w.toNat hno hrestart
  rw [hact] at hlp
  subst hlp
  rw [State.applyWord_line s (by decide) rfl, he]
  generalize s.storeWord _ = t at hts htl hloop ⊢
  have hcode : t.loopCode l = w.toNat / 256 % 8 := by
    unfold State.loopCode
    rw [hloop, if_neg (by omega)]
  have hlane : t.lane l = s.lane l := by rw [State.lane, htl]; rfl
  obtain ⟨hst, hlp⟩ := State.loopLane_loops (s := t) (l := l) (by rwa [hcode]) (by rw [hcode, hlane]; exact hx.symm) (by rwa [hts])
  rw [hcode] at hlp
  have hre : t.relooped l true eq = t.loopLane l := by
    unfold State.relooped
    dsimp only
    rw [if_pos rfl, State.retrainLane_of_loop hst, ite_self]
  dsimp only
  rw [if_neg (by decide), if_neg (by decide), hre]
  exact ⟨hst, hlp⟩

end Sys2Proof.Machine
end

section
/-! A word of the equaliser table, and the obligation about device registers (O54). -/

namespace Sys2Proof.Machine

/-- The settings of an equaliser entry (R252). -/
def eqFields : List Fld := [SORTING.EQ.CTLE, SORTING.EQ.SWING, SORTING.EQ.PRE, SORTING.EQ.MAIN, SORTING.EQ.POST]

theorem fieldsAt_eq : ∀ e < 16, fieldsAt .sorting (0x100 + 4 * e) = eqFields.map fun F => (F, e) := by decide

theorem State.storeWord_eq (s : State) (ch : Channel) (e w : Nat) (he : e < 16) {F : Fld} (hF : F ∈ eqFields) :
    (s.storeWord (wordAt ch .sorting 0 (0x100 + 4 * e) w)).g F 0 e = bits w F.lo F.w := by
  have hfld : ∀ F ∈ eqFields, (∀ G ∈ eqFields, G.id % 2048 = F.id % 2048 → G = F) ∧ F.acc = .rw ∧ 0x040 ≤ F.off ∧
      fieldThere F 0 = true ∧ F.page ≠ .lmon ∧ F.page ≠ .boot := by decide
  obtain ⟨hid, ha, ho, ht, hp⟩ := hfld F hF
  have hclamp : ∀ F ∈ eqFields, ∀ v, clampedField F v = v := by
    simp only [eqFields, List.forall_mem_cons, List.not_mem_nil, false_implies, implies_true, and_true]
    exact ⟨fun _ => rfl, fun _ => rfl, fun _ => rfl, fun _ => rfl, fun _ => rfl⟩
  have hmem : (F, e) ∈ fieldsAt .sorting (0x100 + 4 * e) := by
    rw [fieldsAt_eq e he]
    exact List.mem_map.2 ⟨F, hF, rfl⟩
  rw [s.storeWord_g ch 0 w hmem ?_ ha ho ht hp, clampedField_bits_mod (hclamp F hF)]
  rw [fieldsAt_eq e he]
  intro x hx hxid
  obtain ⟨G, hG, rfl⟩ := List.mem_map.1 hx
  exact hid G hG hxid

theorem State.retrainLane_g {G : Fld} (hG : G.event = false)
    (h : ∀ H ∈ LANE.STATUS.CDR_LOCK :: LANE.STATUS.STATE :: hostFields, G.id % 2048 ≠ H.id % 2048) (s : State) (l a b : Nat) :
    (s.retrainLane l).g G a b = s.g G a b := by
  unfold State.retrainLane
  split
  · rw [State.laneTo_g hG fun H hH => h H (by simp [hH]), State.g_wr_of_id (h _ (by simp))]
  · rfl

theorem State.retrainLane_self {s : State} {l : Nat} (h : laneDetect ≤ s.laneState l ∧ s.laneState l ≤ laneActive) :
    (s.retrainLane l).laneState l = laneTrain := by
  unfold State.retrainLane
  rw [if_pos h, State.laneState_laneTo _ _ (by decide)]

theorem State.retrainLane_other (s : State) {k l : Nat} (h : k ≠ l) : (s.retrainLane l).laneState k = s.laneState k := by
  unfold State.retrainLane
  split
  · exact (State.laneState_laneTo_other _ h _).trans (State.g_wr_of_id (by decide) ..)
  · rfl

/-- Every lane that uses an equaliser entry starts again at TRAIN. -/
def State.retrainUsers (s : State) (e : Nat) : State :=
  (List.range 32).foldl (fun s l => if s.g LANE.CTRL.EQ l = e then s.retrainLane l else s) s

theorem State.retrainUsers_trains {s : State} {e lane : Nat} (hl : lane < 32) (he : s.g LANE.CTRL.EQ lane = e)
    (hd : laneDetect ≤ s.laneState lane) (ha : s.laneState lane ≤ laneActive) :
    (s.retrainUsers e).laneState lane = laneTrain := by
  have step (s : State) (k : Nat) (hq : s.g LANE.CTRL.EQ lane = e) (hd : laneDetect ≤ s.laneState lane ∧ s.laneState lane ≤ laneActive)
      {t : State} (ht : t = if s.g LANE.CTRL.EQ k = e then s.retrainLane k else s) :
      t.g LANE.CTRL.EQ lane = e ∧ (laneDetect ≤ t.laneState lane ∧ t.laneState lane ≤ laneActive) ∧
        (lane = k ∨ s.laneState lane = laneTrain → t.laneState lane = laneTrain) := by
    by_cases hk : lane = k
    · subst hk
      rw [ht, if_pos hq, State.retrainLane_self hd]
      exact ⟨(State.retrainLane_g rfl (by decide) ..).trans hq, by decide, fun _ => rfl⟩
    · have hst : t.laneState lane = s.laneState lane := by
        rw [ht]
        split
        · exact State.retrainLane_other s hk
        · rfl
      refine ⟨?_, by rwa [hst], fun h => hst.trans (h.resolve_left hk)⟩
      rw [ht]
      split
      · exact (State.retrainLane_g rfl (by decide) ..).trans hq
      · exact hq
  have walk (ls : List Nat) (s : State) (hq : s.g LANE.CTRL.EQ lane = e)
      (hd : laneDetect ≤ s.laneState lane ∧ s.laneState lane ≤ laneActive) (hm : lane ∈ ls ∨ s.laneState lane = laneTrain) :
      (ls.foldl (fun s l => if s.g LANE.CTRL.EQ l = e then s.retrainLane l else s) s).laneState lane = laneTrain := by
    induction ls generalizing s with
    | nil => exact hm.resolve_left (by simp)
    | cons k ls ih =>
      obtain ⟨hq', hd', ht⟩ := step s k hq hd rfl
      refine ih _ hq' hd' ?_
      rcases hm with hm | hm
      · rcases List.mem_cons.1 hm with hk | hm
        · exact .inr (ht (.inl hk))
        · exact .inl hm
      · exact .inr (ht (.inr hm))
  exact walk _ s he ⟨hd, ha⟩ (.inl (List.mem_range.2 hl))

theorem State.retrainUsers_g {G : Fld} (hG : G.event = false)
    (h : ∀ H ∈ LANE.STATUS.CDR_LOCK :: LANE.STATUS.STATE :: hostFields, G.id % 2048 ≠ H.id % 2048) (s : State) (e a b : Nat) :
    (s.retrainUsers e).g G a b = s.g G a b := by
  unfold State.retrainUsers
  generalize List.range 32 = ls
  induction ls generalizing s with
  | nil => rfl
  | cons l ls ih =>
    rw [List.foldl_cons, ih]
    split
    · exact State.retrainLane_g hG h ..
    · rfl

/-- A word of an entry retrains the lanes that use it where it acts on one of its fields. -/
theorem State.deviceEffects_eq (t s : State) (ch : Channel) (e w : Nat) (he : e < 16) :
    t.deviceEffects (wordAt ch .sorting 0 (0x100 + 4 * e) w) (s.acted (wordAt ch .sorting 0 (0x100 + 4 * e) w)) =
      if s.acted (wordAt ch .sorting 0 (0x100 + 4 * e) w) = [] then t else t.retrainUsers e := by
  have hmem : ∀ x ∈ s.acted (wordAt ch .sorting 0 (0x100 + 4 * e) w), x.1.off = 0x100 ∧ x.2 = e := by
    intro x hx
    have hfld : x ∈ fieldsAt .sorting (0x100 + 4 * e) := (List.mem_filter.1 (List.mem_filter.1 hx).1).1
    rw [fieldsAt_eq e he] at hfld
    obtain ⟨F, hF, rfl⟩ := List.mem_map.1 hfld
    exact ⟨(by decide : ∀ F ∈ eqFields, F.off = 0x100) F hF, rfl⟩
  have heff (act : List (Fld × Nat)) : t.deviceEffects (wordAt ch .sorting 0 (0x100 + 4 * e) w) act =
      (act.filter fun e => e.1.off = 0x100).head?.elim t fun e => t.retrainUsers e.2 := rfl
  rw [heff]
  generalize s.acted (wordAt ch .sorting 0 (0x100 + 4 * e) w) = act at hmem ⊢
  cases act with
  | nil => rfl
  | cons x act =>
    obtain ⟨ho, hx⟩ := hmem x (by simp)
    rw [List.filter_cons_of_pos (by simpa using ho), if_neg (by simp), List.head?_cons, Option.elim_some, hx]

theorem eqEntry_written (s : State) (ch : Channel) (e : Nat) (w : Word) (he : e < 16)
    (hg : s.grants ch SORTING.EQ.CTLE 0 e w.toNat = true) :
    s.runsTo (.eqEntryWrite ch e w) fun t =>
      t.g SORTING.EQ.CTLE 0 e = w.toNat / 2 ^ 24 % 16 ∧ t.g SORTING.EQ.SWING 0 e = w.toNat / 2 ^ 21 % 8 ∧
      t.g SORTING.EQ.PRE 0 e = w.toNat / 2 ^ 16 % 16 ∧ t.g SORTING.EQ.MAIN 0 e = w.toNat / 256 % 64 ∧
      t.g SORTING.EQ.POST 0 e = w.toNat % 16 ∧
      (s.g SORTING.EQ.CTLE 0 e ≠ w.toNat / 2 ^ 24 % 16 → ∀ lane, lane < 32 → s.g LANE.CTRL.EQ lane = e →
        laneDetect ≤ s.laneState lane → s.laneState lane ≤ laneActive → t.laneState lane = laneTrain) := by
  refine State.runsTo_granted (p := .sorting) (off := 0x100 + 4 * e) (if_pos he) hg rfl rfl (by decide) (by decide) (by omega)
    fun m _ _ => ?_
  rw [State.applyWord_device s (by omega) rfl, State.deviceEffects_eq _ _ _ _ _ he]
  have hst : ∀ F ∈ eqFields, (s.storeWord (wordAt ch .sorting 0 (0x100 + 4 * e) w.toNat)).g F 0 e = bits w.toNat F.lo F.w :=
    fun F hF => s.storeWord_eq ch e w.toNat he hF
  have hlane : ∀ G ∈ [LANE.CTRL.EQ, LANE.STATUS.STATE], ∀ a,
      (s.storeWord (wordAt ch .sorting 0 (0x100 + 4 * e) w.toNat)).g G a = s.g G a := by
    intro G hG a
    refine s.storeWord_g_other ch 0 w.toNat ?_ a 0
    rw [fieldsAt_eq e he]
    intro x hx
    obtain ⟨F, hF, rfl⟩ := List.mem_map.1 hx
    exact (by decide : ∀ G ∈ [LANE.CTRL.EQ, LANE.STATUS.STATE], ∀ F ∈ eqFields, F.id % 2048 ≠ G.id % 2048) G hG F hF
  generalize s.storeWord _ = t at hst hlane ⊢
  have hframe : ∀ F ∈ eqFields, (t.retrainUsers e).g F 0 e = t.g F 0 e := fun F hF =>
    State.retrainUsers_g ((by decide : ∀ F ∈ eqFields, F.event = false) F hF)
      ((by decide : ∀ F ∈ eqFields, ∀ H ∈ LANE.STATUS.CDR_LOCK :: LANE.STATUS.STATE :: hostFields, F.id % 2048 ≠ H.id % 2048) F hF) ..
  have hact : s.g SORTING.EQ.CTLE 0 e ≠ w.toNat / 2 ^ 24 % 16 →
      s.acted (wordAt ch .sorting 0 (0x100 + 4 * e) w.toNat) ≠ [] := fun hn => by
    refine List.ne_nil_of_mem (State.mem_acted (F := SORTING.EQ.CTLE) (j := e) ?_ rfl rfl ?_)
    · change _ ∈ fieldsAt .sorting (0x100 + 4 * e)
      rw [fieldsAt_eq e he]
      simp [eqFields]
    · rw [carried_wordAt ch .sorting 0 _ _ (by decide)]
      exact hn.symm
  generalize hu : (if s.acted (wordAt ch .sorting 0 (0x100 + 4 * e) w.toNat) = [] then t else t.retrainUsers e) = u
  have hall : ∀ F ∈ eqFields, u.g F 0 e = bits w.toNat F.lo F.w := by
    intro F hF
    rw [← hst F hF, ← hu]
    split
    · rfl
    · exact hframe F hF
  have htrain : s.g SORTING.EQ.CTLE 0 e ≠ w.toNat / 2 ^ 24 % 16 → ∀ lane, lane < 32 → s.g LANE.CTRL.EQ lane = e →
      laneDetect ≤ s.laneState lane → s.laneState lane ≤ laneActive → u.laneState lane = laneTrain := by
    intro hn lane hl hq hd ha
    have hls : t.laneState lane = s.laneState lane := hlane _ (by simp) lane
    rw [← hu, if_neg (hact hn)]
    exact State.retrainUsers_trains hl ((hlane _ (by simp) lane).trans hq) (by rwa [hls]) (by rwa [hls])
  refine ⟨hall _ (by simp [eqFields]), hall _ (by simp [eqFields]), hall _ (by simp [eqFields]), hall _ (by simp [eqFields]),
    (hall SORTING.EQ.POST (by simp [eqFields])).trans ?_, htrain⟩
  change w.toNat / 1 % 16 = _
  rw [Nat.div_one]

/-- Settles O54: each granted word is stored and its one effect carried out by `State.applyWord`. -/
theorem deviceWrites : Obligations.DeviceWrites := by
  unfold Obligations.DeviceWrites
  intro s ch w
  refine ⟨xengineHold_holds s ch w, census_begins s ch w, xwindowRead_begins s ch w, xwindowWrite_begins s ch w,
    fun c => clrcode_taken s ch c w, fun lane hl => ⟨laneRestart_detects s ch lane w hl, laneRate_starts s ch lane w hl,
      laneLoop_loops s ch lane w hl⟩, fun e => eqEntry_written s ch e w, freqmonRequest_spec s ch w, timebaseSet_spec s ch w,
    fun hg hset _ => timebaseAdd_spec s ch w hg hset⟩

end Sys2Proof.Machine
end

section
/-! Granted words of the power state and of the performance level (O49). -/

namespace Sys2Proof.Machine

/-- A granted access finds the power manager at rest. -/
theorem State.rests_of_granted {s : State} {ch : Channel} {F : Fld} {i j w : Nat} (hg : s.grants ch F i j w = true) :
    s.pwr.sub = 0 ∧ s.pwr.state ≤ 1 ∧ s.pwr.waking = false := by
  simp only [State.grants, State.steady, Bool.and_eq_true, beq_iff_eq, decide_eq_true_eq, Bool.not_eq_true'] at hg
  obtain ⟨⟨⟨⟨h0, h1⟩, h2⟩, -⟩, -⟩ := hg
  exact ⟨h0, h1, h2⟩

/-- A word that no rule refuses on a page that is never dormant finds the control domain running. -/
theorem State.controlRunning_of_not_refused {s : State} {ch : Channel} {p : Page} {i off w : Nat} (ho : 0x040 ≤ off)
    (hp : isPortPage p = false)
    (hr : s.refuses (wordAt ch p i off w) (s.acted (wordAt ch p i off w)) = false) : s.controlRunning = true := by
  simp only [State.refuses, Bool.or_eq_false_iff] at hr
  obtain ⟨⟨⟨⟨⟨hn, -⟩, -⟩, -⟩, -⟩, -⟩ := hr
  have hd : s.dormant p i = false := by rw [State.dormant, hp]; rfl
  have hrd : (decide (0x040 ≤ off) && !s.pageReady p i && (!s.dormant p i ||
      (s.acted (wordAt ch p i off w)).any fun e => e.1.acc != .rws)) = false := hn
  rw [hd, State.pageReady, hd] at hrd
  simpa [ho] using hrd

/-! ### PSTATE.REQ (R297, R298) -/

theorem fieldsAt_pstate : fieldsAt .hearth 0x040 =
    [(HEARTH.PSTATE.SUBSTATE, 0), (HEARTH.PSTATE.STATE, 0), (HEARTH.PSTATE.REQ, 0)] := by decide

theorem State.storeWord_pstate (s : State) (ch : Channel) (w : Nat) :
    s.storeWord (wordAt ch .hearth 0 0x040 w) = s.wr HEARTH.PSTATE.REQ (bits w 0 2) := by
  unfold State.storeWord WordWrite.fields wordAt
  rw [fieldsAt_pstate]
  rfl

theorem bits_withValue_req (w : Word) {v : Nat} (h : v < 4) : bits (withValue w HEARTH.PSTATE.REQ v) 0 2 = v := by
  change (w.toNat - w.toNat / 1 % 4 * 1 + v % 4 * 1) / 1 % 4 = v
  omega

/-- A granted REQ of another state is stored, and then asked for. -/
theorem State.runsTo_requestPower {s : State} {c : Instr} {ch : Channel} {w : Word} {v : Nat} {P : State → Prop}
    (hc : exec c s = .next (s.writeAt ch HEARTH.PSTATE.REQ 0 0 (withValue w HEARTH.PSTATE.REQ v))) (hv : v < 4)
    (hg : s.grants ch HEARTH.PSTATE.REQ 0 0 (withValue w HEARTH.PSTATE.REQ v) = true) (hn : s.g HEARTH.PSTATE.REQ ≠ v)
    (h : ∀ m : Mgmt, P ((s.wr HEARTH.PSTATE.REQ v).requestPower.modMgmt fun _ => m)) : s.runsTo c P := by
  refine State.runsTo_granted (p := .hearth) (off := 0x040) hc hg rfl rfl (by decide) (by decide) (by decide) fun m _ _ => ?_
  have hact : hits (s.acted (wordAt ch .hearth 0 0x040 (withValue w HEARTH.PSTATE.REQ v))) HEARTH.PSTATE.REQ = true := by
    rw [hits_rw_wordAt s ch 0 _ rfl (by decide) (by decide) rfl, decide_eq_true_eq]
    change bits (withValue w HEARTH.PSTATE.REQ v) 0 2 ≠ s.g HEARTH.PSTATE.REQ
    rw [bits_withValue_req w hv]
    exact hn.symm
  have heff (t : State) (x : Nat) {act : List (Fld × Nat)} (ha : hits act HEARTH.PSTATE.REQ = true) :
      t.deviceEffects (wordAt ch .hearth 0 0x040 x) act = t.requestPower := if_pos ha
  rw [State.applyWord_device s (by decide) rfl, heff _ _ hact, State.storeWord_pstate, bits_withValue_req w hv]
  exact h m

/-- What REQ asks for at rest. -/
theorem State.requestPower_rests (s : State) {v : Nat} (hs : s.pwr.sub = 0) (h1 : s.pwr.state ≤ 1)
    (hr : s.g HEARTH.PSTATE.REQ = v) : s.requestPower =
      if v = 0 then (if s.pwr.state = 1 then s.leaveDoze else s)
      else if v = 1 then (if s.pwr.state = 0 then s.enterDoze else s)
      else s.modPwr fun x => { x with sub := 1, stage := 0, hearth := v == 3 } := by
  subst hr
  have hb : (s.pwr.sub != 0 || s.pwr.state == 2 || s.pwr.state == 3) = false := by
    rw [hs]
    simp only [bne_self_eq_false, Bool.false_or, Bool.or_eq_false_iff, beq_eq_false_iff_ne]
    omega
  unfold State.requestPower
  dsimp only
  rw [if_neg (by omega), hb, if_neg (by decide)]
  generalize s.g HEARTH.PSTATE.REQ = r
  rcases r with _ | _ | r
  · rfl
  · rfl
  · rfl

theorem State.powerTo_parts (s : State) {st : Nat} (h : st < 4) :
    (s.powerTo st).pwr = { s.pwr with state := st } ∧ (s.powerTo st).g HEARTH.PSTATE.REQ = st := by
  unfold State.powerTo
  extract_lets t
  have ht : t.pwr = s.pwr := by
    change (if _ then _ else _ : State).pwr = _
    split
    · rfl
    · exact State.pulse_pwr ..
  constructor
  · rw [State.refreshPins_pwr]
    change { t.pwr with state := st } = _
    rw [ht]
  · rw [State.refreshPins_g, State.g_wr_self]
    exact Nat.mod_eq_of_lt h

theorem State.ungateCluster_parts (s : State) (c : Nat) :
    (s.ungateCluster c).pwr = { s.pwr with gated := s.pwr.gated.filter (· != c) } := by
  unfold State.ungateCluster State.startPlls
  split
  · split
    · rfl
    · rfl
  case isFalse h =>
    have hn : s.pwr.gated.filter (· != c) = s.pwr.gated := by
      rw [List.filter_eq_self]
      rintro a ha
      have hne : a ≠ c := fun hc => h (by simpa [hc] using ha)
      simpa using hne
    rw [hn]

theorem ungateAll_gated (l : List Nat) (s : State) :
    (l.foldl (fun s c => s.ungateCluster c) s).pwr.gated = s.pwr.gated.filter fun c => !l.contains c := by
  induction l generalizing s with
  | nil => simp
  | cons c l ih =>
    rw [List.foldl_cons, ih, State.ungateCluster_parts, List.filter_filter]
    congr 1
    funext a
    by_cases h : a = c <;> simp [h]

/-- From DOZE to RUN: no cluster stays gated. -/
theorem State.leaveDoze_spec (s : State) :
    s.leaveDoze.pwr.state = 0 ∧ s.leaveDoze.pwr.gated = [] ∧ s.leaveDoze.g HEARTH.PSTATE.REQ = 0 := by
  unfold State.leaveDoze
  extract_lets t
  have ht : t.pwr.gated = [] := (ungateAll_gated s.pwr.gated s).trans (by simp)
  have hh := State.startLevel_heldView ((t.modPwr fun x => { x with doze := false }).powerTo 0)
  obtain ⟨hp, hr⟩ := (t.modPwr fun x => { x with doze := false }).powerTo_parts (st := 0) (by decide)
  have hpwr := (State.pwr_of_heldView hh).trans hp
  exact ⟨congrArg PowerX.state hpwr, (congrArg PowerX.gated hpwr).trans ht,
    (State.g_of_heldView hh (by simp [levelFields]) 0 0).trans hr⟩

theorem State.gateCluster_parts (s : State) (c : Nat) :
    (s.gateCluster c).pwr.state = s.pwr.state ∧ (s.gateCluster c).g HEARTH.PSTATE.REQ = s.g HEARTH.PSTATE.REQ := by
  unfold State.gateCluster
  extract_lets t u
  have hu : ∀ ls : List Nat, (ls.foldl (fun s l => s.stopLane l) u).levelView = u.levelView := fun ls =>
    foldl_levelView _ (fun s l => s.stopLane_levelView l) ls u
  generalize (clusterLanes c).filter _ = ls
  have hs : (ls.foldl (fun s l => s.stopLane l) u).pwr.state = u.pwr.state := congrArg PowerX.state (State.pwr_of_levelView (hu ls))
  have hg := State.g_of_levelView (hu ls) (G := HEARTH.PSTATE.REQ) (by simp [levelFields]) 0 0
  exact ⟨hs, hg⟩

theorem State.refreshGates_parts (s : State) :
    s.refreshGates.pwr.state = s.pwr.state ∧ s.refreshGates.g HEARTH.PSTATE.REQ = s.g HEARTH.PSTATE.REQ := by
  have hall (l : List Nat) (s : State) : (l.foldl (fun s c => s.gateCluster c) s).pwr.state = s.pwr.state ∧
      (l.foldl (fun s c => s.gateCluster c) s).g HEARTH.PSTATE.REQ = s.g HEARTH.PSTATE.REQ := by
    induction l generalizing s with
    | nil => exact ⟨rfl, rfl⟩
    | cons c l ih =>
      obtain ⟨h1, h2⟩ := s.gateCluster_parts c
      exact ⟨(ih _).1.trans h1, (ih _).2.trans h2⟩
  unfold State.refreshGates
  split
  · exact hall _ s
  · exact ⟨rfl, rfl⟩

theorem State.enterDoze_spec (s : State) : s.enterDoze.pwr.state = 1 ∧ s.enterDoze.g HEARTH.PSTATE.REQ = 1 := by
  unfold State.enterDoze
  obtain ⟨hp, hr⟩ := (s.modPwr fun x => { x with doze := true }).powerTo_parts (st := 1) (by decide)
  obtain ⟨gp, gr⟩ := ((s.modPwr fun x => { x with doze := true }).powerTo 1).refreshGates_parts
  have hh := State.startLevel_heldView (((s.modPwr fun x => { x with doze := true }).powerTo 1).refreshGates)
  exact ⟨(congrArg PowerX.state (State.pwr_of_heldView hh)).trans (gp.trans (congrArg PowerX.state hp)),
    (State.g_of_heldView hh (by simp [levelFields]) 0 0).trans (gr.trans hr)⟩

/-- A request just stored, as the power manager at rest takes it. -/
theorem State.requestPower_stored {s : State} {v : Nat} (hs : s.pwr.sub = 0) (h1 : s.pwr.state ≤ 1) (hv : v < 4) :
    (s.wr HEARTH.PSTATE.REQ v).requestPower =
      if v = 0 then (if s.pwr.state = 1 then (s.wr HEARTH.PSTATE.REQ v).leaveDoze else s.wr HEARTH.PSTATE.REQ v)
      else if v = 1 then (if s.pwr.state = 0 then (s.wr HEARTH.PSTATE.REQ v).enterDoze else s.wr HEARTH.PSTATE.REQ v)
      else (s.wr HEARTH.PSTATE.REQ v).modPwr fun x => { x with sub := 1, stage := 0, hearth := v == 3 } :=
  State.requestPower_rests _ hs h1 ((State.g_wr_self ..).trans (Nat.mod_eq_of_lt hv))

theorem pstate_requested (s : State) (ch : Channel) (w : Word) (v : Nat) (hv : v < 4)
    (hg : s.grants ch HEARTH.PSTATE.REQ 0 0 (withValue w HEARTH.PSTATE.REQ v) = true) (hn : s.g HEARTH.PSTATE.REQ ≠ v) :
    (v = 0 → s.pwr.state = 1 →
      s.runsTo (.pstateRun ch w) fun t => t.pwr.state = 0 ∧ t.pwr.gated = [] ∧ t.g HEARTH.PSTATE.REQ = 0) ∧
    (v = 1 → s.pwr.state = 0 →
      s.runsTo (.pstateDoze ch w) fun t => t.pwr.state = 1 ∧ t.g HEARTH.PSTATE.REQ = 1) ∧
    (v = 2 →
      s.runsTo (.pstateEmber ch w) fun t =>
        t.pwr = { s.pwr with sub := 1, stage := 0, hearth := false } ∧ s.onlyReg HEARTH.PSTATE.REQ 0 0 t ∧
        t.g HEARTH.PSTATE.REQ = 2 ∧ t.lines = s.lines) ∧
    (v = 3 →
      s.runsTo (.pstateHearth ch w) fun t =>
        t.pwr = { s.pwr with sub := 1, stage := 0, hearth := true } ∧ s.onlyReg HEARTH.PSTATE.REQ 0 0 t ∧
        t.g HEARTH.PSTATE.REQ = 3 ∧ t.lines = s.lines) := by
  obtain ⟨hsub, hst, -⟩ := State.rests_of_granted hg
  refine ⟨?_, ?_, ?_, ?_⟩
  · rintro rfl h1
    refine State.runsTo_requestPower rfl (by decide) hg hn fun m => ?_
    rw [State.requestPower_stored hsub hst hv, if_pos rfl, if_pos h1]
    obtain ⟨h1, h2, h3⟩ := (s.wr HEARTH.PSTATE.REQ 0).leaveDoze_spec
    generalize State.leaveDoze _ = t at h1 h2 h3 ⊢
    exact ⟨h1, h2, h3⟩
  · rintro rfl h0
    refine State.runsTo_requestPower rfl (by decide) hg hn fun m => ?_
    rw [State.requestPower_stored hsub hst hv, if_neg (by decide), if_pos rfl, if_pos h0]
    obtain ⟨h1, h2⟩ := (s.wr HEARTH.PSTATE.REQ 1).enterDoze_spec
    generalize State.enterDoze _ = t at h1 h2 ⊢
    exact ⟨h1, h2⟩
  · rintro rfl
    refine State.runsTo_requestPower rfl (by decide) hg hn fun m => ?_
    rw [State.requestPower_stored hsub hst hv, if_neg (by decide), if_neg (by decide)]
    exact ⟨rfl, s.wr_onlyReg HEARTH.PSTATE.REQ 2 0 0, State.g_wr_self s HEARTH.PSTATE.REQ 2 0 0, rfl⟩
  · rintro rfl
    refine State.runsTo_requestPower rfl (by decide) hg hn fun m => ?_
    rw [State.requestPower_stored hsub hst hv, if_neg (by decide), if_neg (by decide)]
    exact ⟨rfl, s.wr_onlyReg HEARTH.PSTATE.REQ 3 0 0, State.g_wr_self s HEARTH.PSTATE.REQ 3 0 0, rfl⟩

end Sys2Proof.Machine
end

section
/-! Granted words of the performance level (O49). -/

namespace Sys2Proof.Machine

theorem fieldsAt_perfCtrl : fieldsAt .perf 0x040 = [(PERF.CTRL.AVS_RETRY, 0), (PERF.CTRL.TARGET, 0)] := by decide

theorem State.storeWord_perfCtrl (s : State) (ch : Channel) (w : Nat) :
    s.storeWord (wordAt ch .perf 0 0x040 w) = s.wr PERF.CTRL.TARGET (bits w 0 2) := by
  unfold State.storeWord WordWrite.fields wordAt
  rw [fieldsAt_perfCtrl]
  rfl

/-- TARGET first, then AVS_RETRY. -/
theorem State.deviceEffects_perfCtrl (t : State) (ch : Channel) (w : Nat) (act : List (Fld × Nat)) :
    t.deviceEffects (wordAt ch .perf 0 0x040 w) act =
      (let u := if hits act PERF.CTRL.TARGET then t.startLevel else t
       if hits act PERF.CTRL.AVS_RETRY then u.retryAvs else u) := rfl

/-! ### A change begins (R290, R291) -/

/-- At rest a goal that differs from the level is gone to. -/
theorem State.startLevel_begins {s : State} (hp : s.lvl.phase = .idle) (hc : s.lvl.coldRead = false) (h3 : s.fault.s3 = false)
    (hr : s.controlRunning = true) (hw : s.pwr.waking = false) (h0 : s.pwr.state = 0) (hj : s.xe.join = none)
    (ha : s.lvl.avsFail = false) (hn : s.levelGoal ≠ s.lvl.level) : s.startLevel = s.beginChange s.levelGoal := by
  have hno : ((s.lvl.phase != .idle && s.lvl.phase != .waiting) || s.lvl.coldRead || s.fault.s3 || !s.controlRunning ||
      s.pwr.waking || decide (2 ≤ s.pwr.state)) = false := by
    rw [hp, hc, h3, hr, hw, h0]
    rfl
  unfold State.startLevel
  rw [hno, if_neg (by decide)]
  dsimp only
  rw [ha, hj, if_neg (by simpa using hn), if_neg (by decide)]

/-- On the way down the proposals begin. -/
theorem State.beginChange_down {s : State} {g : Nat} (h : s.lvl.level < g) :
    (s.beginChange g).lvl.phase = .proposing ∧ (s.beginChange g).lvl.going = g := by
  unfold State.beginChange
  extract_lets u ks ls v
  rw [if_pos (show u.lvl.level < g from h)]
  have hv := State.lvl_of_levelView
    (foldl_levelView (fun s l => s.unvector ks (sfcAdd s.sfc 4) l) (fun s l => State.unvector_levelView s _ _ l) ls v)
  exact ⟨congrArg LevelX.phase hv, congrArg LevelX.going hv⟩

/-- On the way up VX is written first. -/
theorem State.beginChange_up {s : State} {g : Nat} (h : ¬ s.lvl.level < g) :
    (s.beginChange g).lvl.phase = .vxUp ∧ (s.beginChange g).lvl.going = g ∧ (s.beginChange g).lines = s.lines := by
  unfold State.beginChange
  extract_lets u ks ls v
  rw [if_neg (show ¬ u.lvl.level < g from h)]
  exact ⟨rfl, rfl, rfl⟩

/-- A new TARGET at rest begins the change to the goal it gives. -/
theorem target_begins (s : State) (ch : Channel) (w : Word) (hg : s.grants ch PERF.CTRL.TARGET 0 0 w.toNat = true)
    (hw : w.toNat < 4) (hn : s.g PERF.CTRL.TARGET ≠ w.toNat) (hp : s.lvl.phase = .idle) (hc : s.lvl.coldRead = false)
    (ha : s.lvl.avsFail = false) (h3 : s.fault.s3 = false) (hj : s.xe.join = none) (hd : s.pwr.doze = false)
    (h0 : s.pwr.state = 0) (hst : s.pwr.stage < 3) :
    (s.lvl.level < max w.toNat s.lvl.cap →
      s.runsTo (.levelDownRequest ch w) fun t =>
        t.g PERF.CTRL.TARGET = w.toNat ∧ t.lvl.phase = .proposing ∧ t.lvl.going = max w.toNat s.lvl.cap ∧
        t.lvl.level = s.lvl.level) ∧
    (max w.toNat s.lvl.cap < s.lvl.level →
      s.runsTo (.levelUpRequest ch w) fun t =>
        t.g PERF.CTRL.TARGET = w.toNat ∧ t.lvl.phase = .vxUp ∧ t.lvl.going = max w.toNat s.lvl.cap ∧
        t.lvl.level = s.lvl.level ∧ t.lines = s.lines) := by
  obtain ⟨-, -, hwk⟩ := State.rests_of_granted hg
  have hbits : bits w.toNat 0 2 = w.toNat := by
    change w.toNat / 1 % 4 = _
    omega
  have hact : hits (s.acted (wordAt ch .perf 0 0x040 w.toNat)) PERF.CTRL.TARGET = true := by
    rw [hits_rw_wordAt s ch 0 _ rfl (by decide) (by decide) rfl, decide_eq_true_eq]
    change bits w.toNat 0 2 ≠ s.g PERF.CTRL.TARGET
    rw [hbits]
    exact hn.symm
  have hretry : hits (s.acted (wordAt ch .perf 0 0x040 w.toNat)) PERF.CTRL.AVS_RETRY = false := by
    rw [hits_trigger_wordAt s ch 0 _ rfl (by decide) (by decide) rfl]
    have : w.toNat / 2147483648 = 0 := by omega
    simp [bits, PERF.CTRL.AVS_RETRY, this]
  have happly : s.applyWord (wordAt ch .perf 0 0x040 w.toNat) = (s.wr PERF.CTRL.TARGET w.toNat).startLevel := by
    rw [State.applyWord_device s (by decide) rfl, State.storeWord_perfCtrl, State.deviceEffects_perfCtrl, hact, hretry, hbits]
    rfl
  have htar : (s.wr PERF.CTRL.TARGET w.toNat).g PERF.CTRL.TARGET = w.toNat := (State.g_wr_self ..).trans (Nat.mod_eq_of_lt hw)
  have hgoal : (s.wr PERF.CTRL.TARGET w.toNat).levelGoal = max w.toNat s.lvl.cap := by
    have hno : (s.pwr.doze || s.pwr.state != 0 || decide (3 ≤ s.pwr.stage)) = false := by
      rw [hd, h0, decide_eq_false (by omega)]
      rfl
    unfold State.levelGoal
    rw [htar]
    change max (max w.toNat s.lvl.cap) (if (s.pwr.doze || s.pwr.state != 0 || decide (3 ≤ s.pwr.stage)) = true then 3 else 0) = _
    rw [hno, if_neg (by decide)]
    omega
  have hbegin (hr : s.controlRunning = true) (hne : max w.toNat s.lvl.cap ≠ s.lvl.level) :
      (s.wr PERF.CTRL.TARGET w.toNat).startLevel = (s.wr PERF.CTRL.TARGET w.toNat).beginChange (max w.toNat s.lvl.cap) := by
    rw [← hgoal] at hne ⊢
    exact State.startLevel_begins hp hc h3 hr hwk h0 hj ha hne
  have hheld := State.beginChange_heldView (s.wr PERF.CTRL.TARGET w.toNat) (max w.toNat s.lvl.cap)
  have hkt := (State.g_of_heldView hheld (G := PERF.CTRL.TARGET) (by simp [levelFields]) 0 0).trans htar
  have hkl : ((s.wr PERF.CTRL.TARGET w.toNat).beginChange (max w.toNat s.lvl.cap)).lvl.level = s.lvl.level :=
    (State.level_of_heldView hheld).trans (congrArg LevelX.level (State.wr_lvl s PERF.CTRL.TARGET w.toNat 0 0))
  constructor
  · intro hlt
    obtain ⟨h1, h2⟩ := State.beginChange_down (s := s.wr PERF.CTRL.TARGET w.toNat) hlt
    refine State.runsTo_granted (p := .perf) (off := 0x040) rfl hg rfl rfl (by decide) (by decide) (by decide) fun m _ hr => ?_
    rw [happly, hbegin (State.controlRunning_of_not_refused (by decide) rfl hr) (by omega)]
    generalize State.beginChange _ _ = t at h1 h2 hkt hkl ⊢
    exact ⟨hkt, h1, h2, hkl⟩
  · intro hlt
    obtain ⟨h1, h2, h3⟩ := State.beginChange_up (s := s.wr PERF.CTRL.TARGET w.toNat) (g := max w.toNat s.lvl.cap)
      (Nat.not_lt.2 hlt.le)
    refine State.runsTo_granted (p := .perf) (off := 0x040) rfl hg rfl rfl (by decide) (by decide) (by decide) fun m _ hr => ?_
    rw [happly, hbegin (State.controlRunning_of_not_refused (by decide) rfl hr) (by omega)]
    generalize State.beginChange _ _ = t at h1 h2 h3 hkt hkl ⊢
    exact ⟨hkt, h1, h2, hkl, h3⟩

/-! ### AVS_RETRY (R292) -/

/-- A retry ends AVS_FAIL and leaves TARGET. -/
theorem State.retryAvs_spec (s : State) :
    s.retryAvs.lvl.avsFail = false ∧ s.retryAvs.g PERF.CTRL.TARGET = s.g PERF.CTRL.TARGET := by
  have hh := State.startLevel_heldView (s.modLvl fun x => { x with avsFail := false })
  exact ⟨State.avsFail_of_heldView hh, State.g_of_heldView hh (by simp [levelFields]) 0 0⟩

theorem avsRetry_ends (s : State) (ch : Channel) (w : Word)
    (hg : s.grants ch PERF.CTRL.AVS_RETRY 0 0 (withOnes w PERF.CTRL.AVS_RETRY) = true) :
    s.runsTo (.avsRetry ch w) fun t => t.lvl.avsFail = false ∧ t.g PERF.CTRL.TARGET = w.toNat % 4 := by
  refine State.runsTo_granted (p := .perf) (off := 0x040) rfl hg rfl rfl (by decide) (by decide) (by decide) fun m _ _ => ?_
  have hbits : bits (withOnes w PERF.CTRL.AVS_RETRY) 0 2 = w.toNat % 4 :=
    (bits_withOnes_other w PERF.CTRL.AVS_RETRY PERF.CTRL.TARGET (.inl (by decide))).trans (congrArg (· % 4) (Nat.div_one _))
  have htar : (s.wr PERF.CTRL.TARGET (w.toNat % 4)).g PERF.CTRL.TARGET = w.toNat % 4 :=
    (State.g_wr_self ..).trans (Nat.mod_mod _ _)
  rw [State.applyWord_device s (by decide) rfl, State.storeWord_perfCtrl, State.deviceEffects_perfCtrl,
    hits_own_trigger s ch w rfl (by decide) (by decide) rfl (by decide), hbits, if_pos rfl]
  generalize hu : (if hits (s.acted (wordAt ch .perf 0 0x040 (withOnes w PERF.CTRL.AVS_RETRY))) PERF.CTRL.TARGET = true then
    (s.wr PERF.CTRL.TARGET (w.toNat % 4)).startLevel else s.wr PERF.CTRL.TARGET (w.toNat % 4)) = u
  have hut : u.g PERF.CTRL.TARGET = w.toNat % 4 := by
    rw [← htar, ← hu]
    split
    · exact State.g_of_heldView (State.startLevel_heldView _) (by simp [levelFields]) 0 0
    · rfl
  obtain ⟨h1, h2⟩ := u.retryAvs_spec
  generalize u.retryAvs = t at h1 h2 ⊢
  exact ⟨h1, h2.trans hut⟩

end Sys2Proof.Machine
end

section
/-! Granted words of the temperature and of the fault manager (O49). -/

namespace Sys2Proof.Machine

/-! ### The extremes of the temperature (R295) -/

theorem fieldsAt_peak : fieldsAt .thermal 0x044 = [(THERMAL.PEAK.CLEAR, 0), (THERMAL.PEAK.TEMP, 0)] := by decide
theorem fieldsAt_minmax : fieldsAt .ctemp 0x044 =
    [(CTEMP.MINMAX.CLEAR, 0), (CTEMP.MINMAX.MAX, 0), (CTEMP.MINMAX.MIN, 0)] := by decide

theorem State.storeWord_peak (s : State) (ch : Channel) (w : Nat) : s.storeWord (wordAt ch .thermal 0 0x044 w) = s := by
  unfold State.storeWord WordWrite.fields wordAt
  rw [fieldsAt_peak]
  rfl

theorem State.storeWord_minmax (s : State) (ch : Channel) (c w : Nat) : s.storeWord (wordAt ch .ctemp c 0x044 w) = s := by
  unfold State.storeWord WordWrite.fields wordAt
  rw [fieldsAt_minmax]
  rfl

theorem peakClear_takes (s : State) (ch : Channel) (w : Word)
    (hg : s.grants ch THERMAL.PEAK.CLEAR 0 0 (withOnes w THERMAL.PEAK.CLEAR) = true) :
    s.runsTo (.thermalPeakClear ch w) fun t =>
      t.g THERMAL.PEAK.TEMP = s.g THERMAL.TJ.TEMP % 2 ^ 16 ∧ s.onlyReg THERMAL.PEAK.TEMP 0 0 t ∧ t.lines = s.lines := by
  refine State.runsTo_granted (p := .thermal) (off := 0x044) rfl hg rfl rfl (by decide) (by decide) (by decide) fun m _ _ => ?_
  have heff {act : List (Fld × Nat)} (h : hits act THERMAL.PEAK.CLEAR = true) :
      s.deviceEffects (wordAt ch .thermal 0 0x044 (withOnes w THERMAL.PEAK.CLEAR)) act =
        s.wr THERMAL.PEAK.TEMP (s.g THERMAL.TJ.TEMP) := if_pos h
  rw [State.applyWord_device s (by decide) rfl, State.storeWord_peak,
    heff (hits_own_trigger s ch w rfl (by decide) (by decide) rfl (by decide))]
  exact ⟨s.g_wr_self THERMAL.PEAK.TEMP (s.g THERMAL.TJ.TEMP) 0 0, s.wr_onlyReg THERMAL.PEAK.TEMP (s.g THERMAL.TJ.TEMP) 0 0, rfl⟩

theorem minmaxClear_takes (s : State) (ch : Channel) (c : Nat) (w : Word) (hc : c < 4)
    (hg : s.grants ch CTEMP.MINMAX.CLEAR c 0 (withOnes w CTEMP.MINMAX.CLEAR) = true) :
    s.runsTo (.ctempMinmaxClear ch c w) fun t =>
      t.g CTEMP.MINMAX.MIN c = ofSigned 15 (toSigned 16 (s.g CTEMP.TEMP.TEMP c) / 2) ∧
      t.g CTEMP.MINMAX.MAX c = ofSigned 15 (toSigned 16 (s.g CTEMP.TEMP.TEMP c) / 2) ∧
      t.g CTEMP.TEMP.TEMP c = s.g CTEMP.TEMP.TEMP c ∧ t.lines = s.lines := by
  refine State.runsTo_granted (p := .ctemp) (off := 0x044) (if_pos hc) hg rfl rfl hc (by decide) (by decide) fun m _ _ => ?_
  have heff {act : List (Fld × Nat)} (h : hits act CTEMP.MINMAX.CLEAR = true) :
      s.deviceEffects (wordAt ch .ctemp c 0x044 (withOnes w CTEMP.MINMAX.CLEAR)) act = s.clearMinmax c := if_pos h
  have hlt : ofSigned 15 (toSigned 16 (s.g CTEMP.TEMP.TEMP c) / 2) % 2 ^ 15 = ofSigned 15 (toSigned 16 (s.g CTEMP.TEMP.TEMP c) / 2) := by
    unfold ofSigned
    omega
  rw [State.applyWord_device s (by decide) rfl, State.storeWord_minmax,
    heff (hits_own_trigger s ch w rfl (by decide) (by decide) rfl (by decide))]
  unfold State.clearMinmax
  generalize ofSigned 15 (toSigned 16 (s.g CTEMP.TEMP.TEMP c) / 2) = e at hlt ⊢
  refine ⟨?_, (State.g_wr_self (s.wr CTEMP.MINMAX.MIN e c) CTEMP.MINMAX.MAX e c 0).trans hlt, ?_, rfl⟩
  · exact (State.g_wr_of_id (F := CTEMP.MINMAX.MAX) (G := CTEMP.MINMAX.MIN) (by decide) (s.wr CTEMP.MINMAX.MIN e c) e c 0 c 0).trans
      ((s.g_wr_self CTEMP.MINMAX.MIN e c 0).trans hlt)
  · exact (State.g_wr_of_id (F := CTEMP.MINMAX.MAX) (G := CTEMP.TEMP.TEMP) (by decide) (s.wr CTEMP.MINMAX.MIN e c) e c 0 c 0).trans
      (State.g_wr_of_id (F := CTEMP.MINMAX.MIN) (G := CTEMP.TEMP.TEMP) (by decide) s e c 0 c 0)

/-! ### The words of FAULT -/

/-- The clearing, the fences, the injection and the restart of a word, in this order. -/
theorem State.deviceEffects_fault (t : State) (ch : Channel) (off w : Nat) (act : List (Fld × Nat)) :
    t.deviceEffects (wordAt ch .fault 0 off w) act =
      (let u := if off = 0x048 then t.clearRecords w else t
       let u := if hits act FAULT.FENCE_LO.MAP || hits act FAULT.FENCE_HI.MAP then u.refreshRevoked else u
       let u := if hits act FAULT.INJECT.GO then u.inject else u
       if hits act FAULT.CTRL.REBOOT then u.reboot else u) := rfl

theorem hits_fault_other (s : State) (ch : Channel) {off : Nat} (w : Nat) :
    (off ≠ 0x064 → hits (s.acted (wordAt ch .fault 0 off w)) FAULT.FENCE_LO.MAP = false) ∧
    (off ≠ 0x068 → hits (s.acted (wordAt ch .fault 0 off w)) FAULT.FENCE_HI.MAP = false) ∧
    (off ≠ 0x060 → hits (s.acted (wordAt ch .fault 0 off w)) FAULT.INJECT.GO = false) ∧
    (off ≠ 0x040 → hits (s.acted (wordAt ch .fault 0 off w)) FAULT.CTRL.REBOOT = false) :=
  ⟨fun h => hits_other_word s ch 0 w rfl h.symm, fun h => hits_other_word s ch 0 w rfl h.symm,
    fun h => hits_other_word s ch 0 w rfl h.symm, fun h => hits_other_word s ch 0 w rfl h.symm⟩

/-! ### GO of INJECT (R317) -/

/-- With no injected fault waiting, GO's fault is the one described. -/
theorem State.inject_fault {s : State} (h : s.injectedFault = none) (hr : s.g FAULT.INJECT.RAIL = 0) :
    s.inject.fault.inject = some { code := s.g FAULT.INJECT.CODE, cls := s.g FAULT.INJECT.CLASS, source := s.g FAULT.INJECT.SOURCE,
                                   addr := 0, injected := true } ∧ s.inject.lines = s.lines := by
  unfold State.inject
  rw [h]
  dsimp only
  rw [if_neg (by decide), hr]
  exact ⟨rfl, rfl⟩

theorem injectGo_waits (s : State) (ch : Channel) (w : Word)
    (hg : s.grants ch FAULT.INJECT.GO 0 0 (withOnes w FAULT.INJECT.GO) = true) (hn : s.injectedFault = none)
    (hr : w.toNat / 2 ^ 30 % 2 = 0) :
    s.runsTo (.faultInject ch w) fun t =>
      t.fault.inject = some { code := w.toNat / 2 ^ 16 % 256, cls := w.toNat / 2 ^ 28 % 4, source := w.toNat % 256,
                              addr := 0, injected := true } ∧ t.lines = s.lines := by
  refine State.runsTo_granted (p := .fault) (off := 0x060) rfl hg rfl rfl (by decide) (by decide) (by decide) fun m _ _ => ?_
  have hl := s.storeWord_keeps State.lines (fun _ _ => rfl) ch (p := .fault) 0 0x060 (withOnes w FAULT.INJECT.GO) (by decide)
  have hi := s.storeWord_keeps State.injectedFault (fun _ _ => rfl) ch (p := .fault) 0 0x060 (withOnes w FAULT.INJECT.GO)
    (by decide)
  have hfld : ∀ G ∈ [FAULT.INJECT.RAIL, FAULT.INJECT.CLASS, FAULT.INJECT.CODE, FAULT.INJECT.SOURCE],
      (s.storeWord (wordAt ch .fault 0 0x060 (withOnes w FAULT.INJECT.GO))).g G = bits w.toNat G.lo G.w := by
    intro G hG
    have hside : ∀ G ∈ [FAULT.INJECT.RAIL, FAULT.INJECT.CLASS, FAULT.INJECT.CODE, FAULT.INJECT.SOURCE],
        (G, 0) ∈ fieldsAt .fault 0x060 ∧ (∀ e ∈ fieldsAt .fault 0x060, e.1.id % 2048 = G.id % 2048 → e.1 = G) ∧
          G.acc = .rw ∧ 0x040 ≤ G.off ∧ fieldThere G 0 = true ∧ (G.page ≠ .lmon ∧ G.page ≠ .boot) ∧
          (G.lo + G.w ≤ FAULT.INJECT.GO.lo ∨ FAULT.INJECT.GO.lo + FAULT.INJECT.GO.w ≤ G.lo) := by decide
    have hclamp : ∀ G ∈ [FAULT.INJECT.RAIL, FAULT.INJECT.CLASS, FAULT.INJECT.CODE, FAULT.INJECT.SOURCE],
        ∀ v, clampedField G v = v := by
      simp only [List.forall_mem_cons, List.not_mem_nil, false_implies, implies_true, and_true]
      exact ⟨fun _ => rfl, fun _ => rfl, fun _ => rfl, fun _ => rfl⟩
    obtain ⟨h1, h2, h3, h4, h5, h6, h7⟩ := hside G hG
    rw [s.storeWord_trigger_g ch w h1 h2 h3 h4 h5 h6 h7, clampedField_bits_mod (hclamp G hG)]
  obtain ⟨hlo, hhi, -, hreb⟩ := hits_fault_other s ch (off := 0x060) (withOnes w FAULT.INJECT.GO)
  rw [State.applyWord_device s (by decide) rfl, State.deviceEffects_fault, hlo (by decide), hhi (by decide), hreb (by decide),
    hits_own_trigger s ch w rfl (by decide) (by decide) rfl (by decide)]
  generalize s.storeWord _ = t at hl hi hfld ⊢
  obtain ⟨h1, h2⟩ := State.inject_fault (hi.trans hn) ((hfld FAULT.INJECT.RAIL (by simp)).trans hr)
  rw [hfld FAULT.INJECT.CODE (by simp), hfld FAULT.INJECT.CLASS (by simp), hfld FAULT.INJECT.SOURCE (by simp)] at h1
  have hsrc : bits w.toNat FAULT.INJECT.SOURCE.lo FAULT.INJECT.SOURCE.w = w.toNat % 256 := congrArg (· % 256) (Nat.div_one _)
  rw [hsrc] at h1
  exact ⟨h1, h2.trans hl⟩

/-! ### Fences (R319, R323) -/

/-- The recoveries of lifted fences end: no register and no line changes. -/
theorem State.refreshRevoked_parts (s : State) (G : Fld) :
    s.refreshRevoked.g G = s.g G ∧ s.refreshRevoked.lines = s.lines := by
  have hend (t : State) : (t.endRecovery 22).g G = t.g G := by
    unfold State.endRecovery
    split
    · exact rfl
    · rfl
  refine ⟨?_, s.refreshRevoked_lines⟩
  unfold State.refreshRevoked
  dsimp only
  split_ifs
  · rfl
  · exact hend _
  · rfl

end Sys2Proof.Machine
end

section
/-! Fences, records and the restart as a channel writes them, and the obligation about power and fault registers (O49). -/

namespace Sys2Proof.Machine

/-! ### A fence written 1 (R319, R323) -/

theorem State.storeWord_fence (s : State) (ch : Channel) {F : Fld} {off : Nat} (w : Word) (hf : fieldsAt .fault off = [(F, 0)])
    (ha : F.acc = .w1c) (hb : F.lo = 0 ∧ F.w = 32) (ho : 0x040 ≤ F.off) (ht : fieldThere F 0 = true)
    (hc : ∀ v, clampedField F v = v) :
    s.storeWord (wordAt ch .fault 0 off w.toNat) = s.wr F (s.g F - (s.g F &&& w.toNat)) := by
  have hfields : (wordAt ch .fault 0 off w.toNat).fields = [(F, 0)] := by
    refine (List.filter_eq_self.2 ?_).trans hf
    intro e he
    obtain rfl : e = (F, 0) := by
      change e ∈ fieldsAt .fault off at he
      rw [hf] at he
      simpa using he
    exact ht
  have hval : (wordAt ch .fault 0 off w.toNat).val F = w.toNat := by
    rw [WordWrite.val, hc, carried_wordAt ch .fault 0 off _ ho, hb.1, hb.2]
    change w.toNat / 1 % 2 ^ 32 = _
    rw [Nat.div_one, Nat.mod_eq_of_lt w.isLt]
  unfold State.storeWord
  rw [hfields]
  change s.storeField _ (F, 0) = _
  unfold State.storeField
  simp only [ha, hval]
  rfl

/-- A fence register's word lifts the fences it writes 1. -/
theorem fence_lifts {s : State} {c : Instr} {ch : Channel} {F : Fld} {off : Nat} {w : Word}
    (hx : exec c s = .next (s.writeAt ch F 0 0 w.toNat)) (hg : s.grants ch F 0 0 w.toNat = true) (hp : F.page = .fault)
    (hoff : F.off = off) (h6 : 0x064 ≤ off ∧ off ≤ 0x068) (hf : fieldsAt .fault off = [(F, 0)]) (ha : F.acc = .w1c)
    (hb : F.lo = 0 ∧ F.w = 32) (ht : fieldThere F 0 = true) (hc : ∀ v, clampedField F v = v) :
    s.runsTo c fun t => t.g F = (s.g F - (s.g F &&& w.toNat)) % 2 ^ 32 ∧ t.lines = s.lines := by
  refine State.runsTo_granted (p := .fault) (off := off) hx hg hp (by omega) (by decide) (by decide) (by omega) fun m _ _ => ?_
  obtain ⟨-, -, hgo, hreb⟩ := hits_fault_other s ch (off := off) w.toNat
  rw [State.applyWord_device s (by omega) rfl, State.deviceEffects_fault, hgo (by omega), hreb (by omega),
    s.storeWord_fence ch w hf ha hb (by omega) ht hc]
  have hself : (s.wr F (s.g F - (s.g F &&& w.toNat))).g F = (s.g F - (s.g F &&& w.toNat)) % 2 ^ 32 := by
    rw [State.g_wr_self, hb.2]
  have hl : (s.wr F (s.g F - (s.g F &&& w.toNat))).lines = s.lines := rfl
  generalize s.wr F (s.g F - (s.g F &&& w.toNat)) = t at hself hl ⊢
  obtain ⟨h1, h2⟩ := t.refreshRevoked_parts F
  dsimp only
  rw [if_neg (show ¬ off = 0x048 by omega), if_neg (by decide), if_neg (by decide)]
  split
  · generalize t.refreshRevoked = u at h1 h2 ⊢
    exact ⟨h1.trans hself, h2.trans hl⟩
  · exact ⟨hself, hl⟩

theorem fenceLift_lifts (s : State) (ch : Channel) (w : Word) (hi : Bool)
    (hg : s.grants ch (if hi = true then FAULT.FENCE_HI.MAP else FAULT.FENCE_LO.MAP) 0 0 w.toNat = true) :
    s.runsTo (.fenceLift ch hi w) fun t =>
      t.g (if hi = true then FAULT.FENCE_HI.MAP else FAULT.FENCE_LO.MAP) =
        (s.g (if hi = true then FAULT.FENCE_HI.MAP else FAULT.FENCE_LO.MAP) -
          (s.g (if hi = true then FAULT.FENCE_HI.MAP else FAULT.FENCE_LO.MAP) &&& w.toNat)) % 2 ^ 32 ∧ t.lines = s.lines := by
  cases hi
  · exact fence_lifts (F := FAULT.FENCE_LO.MAP) (off := 0x064) rfl hg rfl rfl (by decide) (by decide) rfl (by decide) rfl
      fun _ => rfl
  · exact fence_lifts (F := FAULT.FENCE_HI.MAP) (off := 0x068) rfl hg rfl rfl (by decide) (by decide) rfl (by decide) rfl
      fun _ => rfl

/-! ### CLEAR (R318) -/

/-- A walk of writes of 0 leaves 0 in every field of its list. -/
theorem foldl_wr_zero {l : List (Fld × Nat)} {F : Fld} {j : Nat} (h : ∀ e ∈ l, e.1.id % 2048 = F.id % 2048 → e = (F, j))
    {s : State} (hm : (F, j) ∈ l ∨ s.g F 0 j = 0) : (l.foldl (fun s e => s.wr e.1 0 0 e.2) s).g F 0 j = 0 := by
  induction l generalizing s with
  | nil => exact hm.resolve_left (by simp)
  | cons e l ih =>
    refine ih (fun x hx => h x (by simp [hx])) ?_
    by_cases he : e = (F, j)
    · subst he
      exact .inr ((State.g_wr_self ..).trans (Nat.zero_mod _))
    · have hid : F.id % 2048 ≠ e.1.id % 2048 := fun hid => he (h e (by simp) hid.symm)
      rcases hm with hm | hm
      · exact .inl ((List.mem_cons.1 hm).resolve_left (Ne.symm he))
      · exact .inr ((State.g_wr_of_id hid ..).trans hm)

/-- It leaves another word of a field alone. -/
theorem foldl_wr_other {l : List (Fld × Nat)} {F : Fld} {k : Nat} (hk : k < 512)
    (h : ∀ e ∈ l, e.1.id % 2048 ≠ F.id % 2048 ∨ e.1 = F ∧ e.2 ≠ k ∧ e.2 < 512) (s : State) :
    (l.foldl (fun s e => s.wr e.1 0 0 e.2) s).g F 0 k = s.g F 0 k := by
  induction l generalizing s with
  | nil => rfl
  | cons e l ih =>
    rw [List.foldl_cons, ih fun x hx => h x (by simp [hx])]
    rcases h e (by simp) with hid | ⟨rfl, hne, hlt⟩
    · exact State.g_wr_of_id hid.symm ..
    · exact State.g_wr_of_word (Ne.symm hne) hlt hk ..

/-- A record that a clear names is emptied, and the other keeps its VALID. -/
theorem State.clearRecord_empties (s : State) {r seq : Nat} (hr : r < 2)
    (hv : s.g FAULT.REC_HDR.VALID 0 r = 1) (hs : s.g FAULT.REC_HDR.SEQ 0 r = seq) :
    (s.clearRecord r seq).g FAULT.REC_HDR.VALID 0 r = 0 ∧ (s.clearRecord r seq).g FAULT.REC_HDR.SEQ 0 r = 0 ∧
      (s.clearRecord r seq).g FAULT.REC_HDR.VALID 0 (1 - r) = s.g FAULT.REC_HDR.VALID 0 (1 - r) ∧
      (s.clearRecord r seq).lines = s.lines := by
  have hfields : ∀ r < 2,
      ((FAULT.REC_HDR.VALID, r) ∈ recordFields r ∧ (FAULT.REC_HDR.SEQ, r) ∈ recordFields r) ∧
      (∀ e ∈ recordFields r, e.1.id % 2048 = FAULT.REC_HDR.VALID.id % 2048 → e = (FAULT.REC_HDR.VALID, r)) ∧
      (∀ e ∈ recordFields r, e.1.id % 2048 = FAULT.REC_HDR.SEQ.id % 2048 → e = (FAULT.REC_HDR.SEQ, r)) ∧
      ∀ e ∈ recordFields r, e.1.id % 2048 ≠ FAULT.REC_HDR.VALID.id % 2048 ∨
        e.1 = FAULT.REC_HDR.VALID ∧ e.2 ≠ 1 - r ∧ e.2 < 512 := by decide
  obtain ⟨⟨hmv, hms⟩, hov, hos, hoth⟩ := hfields r hr
  unfold State.clearRecord
  rw [if_pos ⟨hv, hs⟩]
  exact ⟨foldl_wr_zero hov (.inl hmv), foldl_wr_zero hos (.inl hms), foldl_wr_other (by omega) hoth s, by simp⟩

theorem State.clearRecord_of_seq {s : State} {r seq : Nat} (h : s.g FAULT.REC_HDR.SEQ 0 r ≠ seq) : s.clearRecord r seq = s :=
  if_neg fun hc => h hc.2

theorem fieldsAt_clear : fieldsAt .fault 0x048 = [(FAULT.CLEAR.FIRST, 0), (FAULT.CLEAR.LAST, 0), (FAULT.CLEAR.SEQ, 0)] := by
  decide

theorem State.storeWord_clear (s : State) (ch : Channel) (w : Nat) : s.storeWord (wordAt ch .fault 0 0x048 w) = s := by
  unfold State.storeWord WordWrite.fields wordAt
  rw [fieldsAt_clear]
  rfl

/-- A word of CLEAR for one record clears that one. -/
theorem State.clearRecords_one (s : State) {r w : Nat} (hr : r < 2) (hw : w / 2 ^ 30 = 2 - r) :
    s.clearRecords w = s.clearRecord r (w % 2 ^ 16) := by
  have hhigh : w / 2 ^ 31 = (2 - r) / 2 := by omega
  have h31 : bit w 31 = decide (r = 0) := by
    unfold bit
    rw [hhigh]
    obtain rfl | rfl : r = 0 ∨ r = 1 := by omega
    · rfl
    · rfl
  have h30 : bit w 30 = decide (r = 1) := by
    unfold bit
    rw [hw]
    obtain rfl | rfl : r = 0 ∨ r = 1 := by omega
    · rfl
    · rfl
  unfold State.clearRecords
  rw [h31, h30]
  obtain rfl | rfl : r = 0 ∨ r = 1 := by omega
  · rfl
  · rfl

theorem faultClear_clears (s : State) (ch : Channel) (w : Word) (r : Nat) (hr : r < 2)
    (hg : s.grants ch FAULT.CLEAR.SEQ 0 0 w.toNat = true) (hw : w.toNat / 2 ^ 30 = 2 - r) :
    (s.g FAULT.REC_HDR.VALID 0 r = 1 → s.g FAULT.REC_HDR.SEQ 0 r = w.toNat % 2 ^ 16 →
      s.runsTo (.faultClear ch w) fun t =>
        t.g FAULT.REC_HDR.VALID 0 r = 0 ∧ t.g FAULT.REC_HDR.SEQ 0 r = 0 ∧
        t.g FAULT.REC_HDR.VALID 0 (1 - r) = s.g FAULT.REC_HDR.VALID 0 (1 - r) ∧ t.lines = s.lines) ∧
    (s.g FAULT.REC_HDR.SEQ 0 r ≠ w.toNat % 2 ^ 16 →
      s.runsTo (.faultClear ch w) fun t => t.regs = s.regs ∧ t.lines = s.lines) := by
  obtain ⟨hlo, hhi, hgo, hreb⟩ := hits_fault_other s ch (off := 0x048) w.toNat
  have happly : s.applyWord (wordAt ch .fault 0 0x048 w.toNat) = s.clearRecord r (w.toNat % 2 ^ 16) := by
    rw [State.applyWord_device s (by decide) rfl, State.deviceEffects_fault, hlo (by decide), hhi (by decide), hgo (by decide),
      hreb (by decide), State.storeWord_clear]
    exact s.clearRecords_one hr hw
  constructor
  · intro hv hs
    refine State.runsTo_granted (p := .fault) (off := 0x048) rfl hg rfl rfl (by decide) (by decide) (by decide) fun m _ _ => ?_
    obtain ⟨h1, h2, h3, h4⟩ := s.clearRecord_empties hr hv hs
    rw [happly]
    generalize s.clearRecord r (w.toNat % 2 ^ 16) = t at h1 h2 h3 h4 ⊢
    exact ⟨h1, h2, h3, h4⟩
  · intro hs
    refine State.runsTo_granted (p := .fault) (off := 0x048) rfl hg rfl rfl (by decide) (by decide) (by decide) fun m _ _ => ?_
    rw [happly, State.clearRecord_of_seq hs]
    exact ⟨rfl, rfl⟩

/-! ### REBOOT (R312) -/

@[simp] theorem State.holdTrim_trust (s : State) (n : Nat) : (s.holdTrim n).trust = s.trust := by
  unfold State.holdTrim
  split
  · rw [State.pulse_trust]
    rfl
  · rfl

/-- The control domain's gating changes the clocks, and an event follows. -/
theorem State.gateControl_logs (s : State) :
    ∃ k, State.Logs (s.modClk fun _ => k) s.gateControl ∧ s.gateControl.fault = s.fault := by
  unfold State.gateControl
  dsimp only
  split
  · exact ⟨{ s.clk with running := false }, .refl _, rfl⟩
  · exact ⟨{ s.clk with running := false, csrc := .gated }, .pulse _ .clocks 0 3, State.edges_fault _ .clocks 0 (2 ^ 3)⟩

/-- A cold start counts a boot, and touches no fault, power, line or session. -/
theorem State.coldStart_parts (s : State) :
    s.coldStart.fault = s.fault ∧ s.coldStart.pwr = s.pwr ∧ s.coldStart.lines = s.lines ∧
      s.coldStart.mgmt.sessions = s.mgmt.sessions ∧ s.coldStart.mgmt.busOwner = s.mgmt.busOwner ∧
      s.coldStart.trust.bootCount = satAdd 32 s.trust.bootCount 1 := by
  unfold State.coldStart
  extract_lets t
  generalize hu : (t.modClk fun x =>
    { x with kosc := .starting, koscPasses := 0, ref := .judging, coldStep := 1, resetHeld := false }) = u
  obtain ⟨k, hlog, hf⟩ := u.gateControl_logs
  obtain ⟨hl, -, -, -, ht, -, hp, -, hm⟩ := State.parts_of_core hlog.1
  obtain ⟨hs, hb, -⟩ := Mgmt.parts_of_still hm
  subst hu
  exact ⟨hf, hp, hl, hs, hb, congrArg TrustX.bootCount ht⟩

/-- A restart: a cold start with no S3 fault and every session closed. -/
theorem State.reboot_spec (s : State) :
    s.reboot.fault.s3 = false ∧ s.reboot.clk.running = false ∧ s.reboot.clk.coldStep = 1 ∧ s.reboot.pwr = State.reset.pwr ∧
      s.reboot.lines = State.reset.lines ∧ (∀ c, (s.reboot.session c).isOpen = false) ∧ s.reboot.mgmt.busOwner = 0 ∧
      s.reboot.trust.bootCount = satAdd 32 s.trust.bootCount 1 := by
  obtain ⟨-, hf, hm, hl, -⟩ := s.deviceReset_parts .reboot
  have hbody := (s.deviceReset_spec .reboot).1
  have hp : (s.deviceReset .reboot).pwr = State.reset.pwr := by
    have h := congrArg State.pwr hbody
    exact h
  have hb : (s.deviceReset .reboot).mgmt.busOwner = 0 := congrArg (fun t : State => t.mgmt.busOwner) hbody
  have ht : (s.deviceReset .reboot).trust.bootCount = s.trust.bootCount := by
    refine (congrArg (fun t : State => t.trust.bootCount) hbody).trans ?_
    change ((s.holdTrim 1).holdTrim 2).trust.bootCount = _
    rw [State.holdTrim_trust, State.holdTrim_trust]
  obtain ⟨cf, cp, cl, cs, cb, ct⟩ := (s.deviceReset .reboot).coldStart_parts
  have hclk := (s.deviceReset .reboot).coldStart_clk
  refine ⟨(congrArg FaultX.s3 (cf.trans hf)).trans rfl, congrArg ClockX.running hclk, congrArg ClockX.coldStep hclk, cp.trans hp,
    cl.trans hl, fun c => ?_, cb.trans hb, ?_⟩
  · exact (congrArg (fun m : Store Session => (m.get {} c).isOpen) (cs.trans hm)).trans (freshSession_closed _ c)
  · exact ct.trans (by rw [ht])

theorem reboot_restarts (s : State) (ch : Channel) (w : Word)
    (hg : s.grants ch FAULT.CTRL.REBOOT 0 0 (withOnes w FAULT.CTRL.REBOOT) = true) :
    s.runsTo (.faultReboot ch w) fun t =>
      t.fault.s3 = false ∧ t.clk.running = false ∧ t.clk.coldStep = 1 ∧ t.pwr = State.reset.pwr ∧ t.lines = State.reset.lines ∧
      (∀ c, c < 3 → (t.session c).isOpen = false) ∧ t.mgmt.busOwner = 0 ∧
      t.trust.bootCount = satAdd 32 s.trust.bootCount 1 ∧ t.pending = s.pending := by
  refine State.runsTo_granted (p := .fault) (off := 0x040) rfl hg rfl rfl (by decide) (by decide) (by decide) fun m hm _ => ?_
  have ht := s.storeWord_keeps State.trust (fun _ _ => rfl) ch (p := .fault) 0 0x040 (withOnes w FAULT.CTRL.REBOOT) (by decide)
  have hq := s.storeWord_keeps State.pending (fun _ _ => rfl) ch (p := .fault) 0 0x040 (withOnes w FAULT.CTRL.REBOOT) (by decide)
  obtain ⟨hlo, hhi, hgo, -⟩ := hits_fault_other s ch (off := 0x040) (withOnes w FAULT.CTRL.REBOOT)
  have happly : s.applyWord (wordAt ch .fault 0 0x040 (withOnes w FAULT.CTRL.REBOOT)) =
      (s.storeWord (wordAt ch .fault 0 0x040 (withOnes w FAULT.CTRL.REBOOT))).reboot := by
    rw [State.applyWord_device s (by decide) rfl, State.deviceEffects_fault, hlo (by decide), hhi (by decide), hgo (by decide),
      hits_own_trigger s ch w rfl (by decide) (by decide) rfl (by decide)]
    rfl
  rw [happly] at hm ⊢
  generalize s.storeWord _ = u at ht hq hm ⊢
  obtain ⟨h1, h2, h3, h4, h5, h6, h7, h8⟩ := u.reboot_spec
  have h9 := u.reboot_pending
  generalize u.reboot = t at hm h1 h2 h3 h4 h5 h6 h7 h8 h9 ⊢
  have hms : m.sessions = t.mgmt.sessions := by
    have h := congrArg Mgmt.sessions hm
    exact h
  refine ⟨h1, h2, h3, h4, h5, fun c _ => ?_, (Mgmt.busOwner_of_core hm).trans h7, ?_, h9.trans hq⟩
  · exact (congrArg (fun m : Store Session => (m.get {} c).isOpen) hms).trans (h6 c)
  · rw [← ht]
    exact h8

/-- Settles O49: each granted word is stored and its one effect carried out by `State.applyWord`. -/
theorem powerAndFaultWrites : Obligations.PowerAndFaultWrites := by
  unfold Obligations.PowerAndFaultWrites
  intro s ch w
  exact ⟨fun v hv hg hn => pstate_requested s ch w v hv hg hn,
    fun hg hw hn hp hc ha h3 hj hd h0 hst => target_begins s ch w hg hw hn hp hc ha h3 hj hd h0 hst, avsRetry_ends s ch w,
    peakClear_takes s ch w, fun c hc hg => minmaxClear_takes s ch c w hc hg, reboot_restarts s ch w,
    fun r hr hg hw => faultClear_clears s ch w r hr hg hw, injectGo_waits s ch w, fun hi hg => fenceLift_lifts s ch w hi hg⟩

end Sys2Proof.Machine
end

section
/-! How a bring-up ends early, and how a running line retrains (O3, O4, O5). -/

namespace Sys2Proof.Machine

/-- A row that the line DSP of a line brings, while the DSP runs. -/
theorem runs_heard {l : Nat} (h : l < 128) {c : Instr} {s : State} {f : State → State} {P : State → Prop}
    (he : exec c s = withSignal l s f) (hd : s.dspRuns = true) (hp : P (f s)) : s.runsTo c P :=
  runs_line h he (by rwa [hd])

/-- Settles O3: each wait has its row, and a wait that has run out takes the line to QUIET (`quieted_quietLine`). -/
theorem lineTimeoutsToQuiet : Obligations.LineTimeoutsToQuiet := by
  unfold Obligations.LineTimeoutsToQuiet
  intro s l hl h3
  refine ⟨fun hst hgo => ?_, fun hh hst hsub => ?_, fun ht hst hsub => ?_, fun hh hst hsub => ?_, fun hst => ?_, fun hst => ?_⟩
  · exact runs_timer hl rfl h3 (by simp [hst, hgo]) (quieted_quietLine s l rsHandshake 2 (by decide))
  · exact runs_timer hl rfl h3 (by simp [hh, hst, hsub]) (quieted_quietLine s l rsRangeFail 2 (by decide))
  · exact runs_timer hl rfl h3 (by simp [ht, hst, hsub]) (quieted_quietLine s l rsRangeFail 2 (by decide))
  · exact runs_timer hl rfl h3 (by simp [hh, hst, hsub]) (quieted_quietLine s l rsJoinWait 2 (by decide))
  · exact runs_timer hl rfl h3 (by simp [hst]) (quieted_quietLine s l rsTrain 2 (by decide))
  · exact runs_timer hl rfl h3 (by simp [hst]) (quieted_quietLine s l rsLoad 2 (by decide))

/-- The partner's signal lost at a head in bring-up, once its pilots were to come (R124). -/
theorem losDetect_quiets {s : State} {l : Nat} (hl : l < 128) (hd : s.dspRuns = true) (hh : s.isVHead l = true)
    (hst : (s.line l).st = .training ∨ (s.line l).st = .loading ∨ ((s.line l).st = .joining ∧ (s.line l).sub = 1)) :
    s.runsTo (.losDetect l) (s.quieted l rsLos 2) := by
  refine runs_heard hl rfl hd ?_
  have hq := quieted_quietLine s l rsLos 2 (by decide)
  simp only [State.vHead_not_tail hh, hh]
  rcases hst with hst | hst | ⟨hst, hsub⟩
  · simpa [hst] using hq
  · simpa [hst] using hq
  · simpa [hst, hsub] using hq

/-- The partner's signal lost at a head that runs (R147, R152). -/
theorem losDetect_retrains {s : State} {l : Nat} (hl : l < 128) (hd : s.dspRuns = true) (hh : s.isVHead l = true)
    (hst : (s.line l).st = .showtime ∨ (s.line l).st = .banked) : s.runsTo (.losDetect l) (s.retrained l rsLos) := by
  refine runs_heard hl rfl hd ?_
  have hr := retrained_retrainLine s l rsLos (by decide) hst
  simp only [State.vHead_not_tail hh, hh]
  rcases hst with hst | hst
  · simpa [hst] using hr
  · simpa [hst] using hr

/-- Settles O4: both rows take the line to QUIET, the ABORT unless it names PAIR_FAIL (`quieted_quietLine`, `losDetect_quiets`). -/
theorem lineAborts : Obligations.LineAborts := by
  unfold Obligations.LineAborts
  intro s l hl hd
  refine ⟨fun m hv hst hm hr => ?_, losDetect_quiets hl hd⟩
  refine runs_signal hl rfl hd (by simp [hv, hst, hm]) ?_
  rw [if_neg hr]
  exact quieted_quietLine s l rsPeerAbort 2 (by decide)

/-- Settles O5: both rows retrain the line (`losDetect_retrains`, `retrained_retrainLine`). -/
theorem lineRetrains : Obligations.LineRetrains := by
  unfold Obligations.LineRetrains
  intro s l hl hd
  refine ⟨losDetect_retrains hl hd, fun hv hst hoh => ?_⟩
  exact runs_signal hl rfl hd (by simp [hv, hst, hoh]) (retrained_retrainLine s l rsOverhead (by decide) (.inl hst))

end Sys2Proof.Machine
end

section
/-! The messages of R130 on the line: what a message sent does to the modem and to the line. -/

namespace Sys2Proof.Machine

theorem State.reachX_of_reach {s t : State} (h : t.reach = s.reach) (l : Nat) : t.reachX l = s.reachX l := by
  unfold State.reachX
  rw [h]

theorem State.g_of_regs {s t : State} (h : t.regs = s.regs) (G : Fld) (a b : Nat) : t.g G a b = s.g G a b := by
  unfold State.g
  rw [h]

/-- The packet that carries a message of R130 (R180). -/
def messagePkt (m : List Nat) (gap : Nat) : ReachPkt :=
  { addr := 0, kind := 5, seq := 0, opens := false, payload := m, sf := 7, bw := 1, cr := 0, gap := gap }

theorem State.send_eq (s : State) (l : Nat) (m : List Nat) (gap : Nat) :
    s.send l m gap = (s.modReach l fun x => { x with due := x.due ++ [messagePkt m gap] }).sendDue l := rfl

theorem State.noteGo_regs (s : State) (l : Nat) (p : ReachPkt) : (s.noteGo l p).regs = s.regs := by
  unfold State.noteGo
  split
  · exact State.modLine_regs _ _ _
  · rfl

theorem State.noteGo_reach (s : State) (l : Nat) (p : ReachPkt) : (s.noteGo l p).reach = s.reach := by
  unfold State.noteGo
  split
  · exact State.modLine_reach _ _ _
  · rfl

/-- The packet that goes out is the one being sent, with the receiver blanked (R158, R165). -/
theorem State.startTx_sends (s : State) (l netid : Nat) (p : ReachPkt) : s.sends l p.payload (s.startTx l netid p) := by
  unfold State.startTx
  refine ⟨?_, ?_, ?_⟩
  · rw [State.reachX_of_reach (State.bump_reach _ _ _ _ _), State.reachX_of_reach (State.wr_reach _ _ _ _ _),
      State.reachX_modReach_self]
    rfl
  · rw [State.bump, State.g_wr_of_id (by decide), State.g_wr_self]
    rfl
  · rw [State.bump, State.g_wr_self, State.g_wr_of_id (by decide), State.modReach_g]
    exact satAdd_mod _ _ _

/-- On a free modem a message goes out at once, as its stamp leaves it. -/
theorem State.send_free {s : State} {l : Nat} (h : s.modemFree l = true) (m : List Nat) (gap : Nat) :
    ∃ u : State, s.send l m gap = (u.noteGo l (messagePkt m gap)).startTx l 0xA7 (s.stampPkt (messagePkt m gap)) ∧
      u.regs = s.regs ∧ u.lines = s.lines := by
  obtain ⟨⟨htx, hrx⟩, hdue⟩ : ((s.reachX l).tx = none ∧ (s.reachX l).rx = none) ∧ (s.reachX l).due = [] := by
    simpa [State.modemFree] using h
  rw [State.send_eq]
  unfold State.sendDue
  rw [State.reachX_modReach_self]
  simp only [hdue, htx, hrx, List.nil_append]
  exact ⟨_, rfl, by simp, by simp⟩

/-- A message that its stamp leaves as it is goes out whole from a free modem. -/
theorem State.send_sends {s : State} {l : Nat} (h : s.modemFree l = true) {m : List Nat} {gap : Nat}
    (hm : (s.stampPkt (messagePkt m gap)).payload = m) : s.sends l m (s.send l m gap) := by
  obtain ⟨u, hu, hr, -⟩ := State.send_free h m gap
  obtain ⟨h1, h2, h3⟩ := (u.noteGo l (messagePkt m gap)).startTx_sends l 0xA7 (s.stampPkt (messagePkt m gap))
  rw [hm] at h1
  rw [hu]
  refine ⟨h1, h2, h3.trans ?_⟩
  rw [State.g_of_regs (State.noteGo_regs _ _ _), State.g_of_regs hr]

/-- A message that is no GO, sent from a free modem, touches no line. -/
theorem State.send_lines {s : State} {l : Nat} (h : s.modemFree l = true) {m : List Nat} (hm : m.headD 0 ≠ 0x15) (gap : Nat) :
    (s.send l m gap).lines = s.lines := by
  obtain ⟨u, hu, -, hl⟩ := State.send_free h m gap
  rw [hu, State.startTx_lines, ← hl]
  unfold State.noteGo
  rw [if_neg (by exact hm)]

/-! ### What messages leave of a line -/

/-- Of the data of lines only the block that a GO of line l names may be another. -/
def State.SameButGo (l : Nat) (s t : State) : Prop :=
  (∀ k, k ≠ l → t.line k = s.line k) ∧ ∃ b, t.line l = { s.line l with goBlock := b }

theorem State.SameButGo.of {l : Nat} {s t : State} (h : t.lines = s.lines) : State.SameButGo l s t :=
  ⟨fun k _ => State.line_of_lines h k, (s.line l).goBlock, State.line_of_lines h l⟩

theorem State.SameButGo.trans {l : Nat} {s t u : State} (h : State.SameButGo l s t) (k : State.SameButGo l t u) :
    State.SameButGo l s u := by
  obtain ⟨h1, b, h2⟩ := h
  obtain ⟨k1, c, k2⟩ := k
  exact ⟨fun n hn => (k1 n hn).trans (h1 n hn), c, by rw [k2, h2]⟩

theorem State.noteGo_sameButGo (s : State) (l : Nat) (p : ReachPkt) : State.SameButGo l s (s.noteGo l p) := by
  unfold State.noteGo
  split
  · exact ⟨fun k hk => State.line_modLine_ne s hk _, _, State.line_modLine_self _ _ _⟩
  · exact .of rfl

theorem State.sendDue_sameButGo (s : State) (l : Nat) : State.SameButGo l s (s.sendDue l) := by
  unfold State.sendDue
  dsimp only
  split
  · exact .of rfl
  · split
    · exact .of rfl
    · exact ((State.SameButGo.of (State.modReach_lines _ _ _)).trans (State.noteGo_sameButGo _ _ _)).trans
        (.of (State.startTx_lines _ _ _ _))

theorem State.send_sameButGo (s : State) (l : Nat) (m : List Nat) (gap : Nat) : State.SameButGo l s (s.send l m gap) :=
  (State.SameButGo.of (State.modReach_lines _ _ _)).trans (State.sendDue_sameButGo _ _)

/-! ### OFFER (R130, R131) -/

theorem length_msbBytes (n v : Nat) : (msbBytes n v).length = n := by simp [msbBytes]

/-- Bytes that already hold a value stay. -/
theorem putField_same (a b : List Nat) (n v : Nat) :
    putField (a ++ (msbBytes n v ++ b)) a.length n v = a ++ (msbBytes n v ++ b) := by
  unfold putField
  rw [List.take_left, ← List.append_assoc a (msbBytes n v) b, List.drop_left' (by simp [length_msbBytes])]

/-- An OFFER names the superframe that its stamp gives it. -/
theorem State.stampPkt_offer (s : State) (l gap : Nat) :
    (s.stampPkt (messagePkt (s.offerBytes l gap) gap)).payload = s.offerBytes l gap := by
  obtain ⟨b, hb⟩ : ∃ b, s.offerBytes l gap =
      ([0x13, 1] ++ msbBytes 32 (s.line l).nonce) ++ (msbBytes 4 (s.offerSuperframe gap % 2 ^ 32) ++ b) := by
    simp only [State.offerBytes, List.append_assoc]
    exact ⟨_, rfl⟩
  have hlen : ([0x13, 1] ++ msbBytes 32 (s.line l).nonce).length = 34 := by simp [length_msbBytes]
  have hput := putField_same ([0x13, 1] ++ msbBytes 32 (s.line l).nonce) b 4 (s.offerSuperframe gap % 2 ^ 32)
  rw [hlen] at hput
  rw [hb]
  exact hput

theorem State.sendOffer_sameButGo (s : State) (l gap : Nat) :
    (∀ k, k ≠ l → (s.sendOffer l gap).line k = s.line k) ∧
      ∃ mask b, (s.sendOffer l gap).line l = { s.line l with offerMask := mask, goBlock := b } := by
  unfold State.sendOffer
  extract_lets mask
  obtain ⟨h1, b, h2⟩ := (s.modLine l fun x => { x with offerMask := mask }).send_sameButGo l (s.offerBytes l gap) gap
  exact ⟨fun k hk => (h1 k hk).trans (State.line_modLine_ne s hk _), mask, b, by rw [h2, State.line_modLine_self]⟩

/-- From a free modem an OFFER goes out. -/
theorem State.sendOffer_sends {s : State} {l : Nat} (h : s.modemFree l = true) (gap : Nat) :
    s.sends l (s.offerBytes l gap) (s.sendOffer l gap) :=
  State.send_sends (s := s.modLine l _) h (s.stampPkt_offer l gap)

end Sys2Proof.Machine
end

section
/-! Enabling a line, its beacons and the beacon cycle (O6). -/

namespace Sys2Proof.Machine

/-- A BEACON that goes out from a free modem: the message is on the line, and the reply window is open (R129). -/
theorem beaconSlot_sends {s : State} {l : Nat} (hl : l < 128) (hst : (s.line l).st = .beacon) (hk : s.noKey (s.anchor l) = false)
    (hfree : s.modemFree l = true) (hopen : (s.reachX l).beaconOpen = false) (hb : s.beaconsRun = true)
    (hr : s.lineRuns l = true) :
    s.runsTo (.beaconSlot l) fun t =>
      s.sends l (s.beaconBytes l) t ∧ (t.reachX l).beaconOpen = true ∧ t.lines = s.lines := by
  have hrx : (s.reachX l).rx.isNone = true := by
    simp only [State.modemFree, Bool.and_eq_true] at hfree
    exact hfree.1.2
  refine runs_when hl rfl (by simp [hst, hk, hrx, hopen, hb, hr]) ?_
  have hhead : (s.beaconBytes l).headD 0 = 0x11 := rfl
  obtain ⟨htx, hstate, hcount⟩ := State.send_sends (gap := 0) hfree (m := s.beaconBytes l) rfl
  refine ⟨⟨?_, ?_, ?_⟩, ?_, ?_⟩
  · rw [State.reachX_modReach_self]
    exact htx
  · rw [State.modReach_g]
    exact hstate
  · rw [State.modReach_g]
    exact hcount
  · rw [State.reachX_modReach_self]
    simp [hst]
  · rw [State.modReach_lines]
    exact State.send_lines hfree (by rw [hhead]; decide) 0

/-- A beacon cycle without an ANSWER: QUIET, one more counted (R124). -/
theorem noanswerTimeout_quiets {s : State} {l : Nat} (hl : l < 128) (hst : (s.line l).st = .beacon) (h3 : s.fault.s3 = false) :
    s.runsTo (.noanswerTimeout l) fun t =>
      (t.line l).st = .quiet ∧ (t.line l).hold = 1 ∧
      t.g LTRAIN.ATTEMPTS.NOANSWER l = satAdd 16 (s.g LTRAIN.ATTEMPTS.NOANSWER l) 1 ∧
      ∀ m, m ≠ l → inBringUp (s.line m).st = false → t.line m = s.line m := by
  refine runs_timer hl rfl h3 (by simp [hst]) ?_
  extract_lets u
  obtain ⟨m1, m2, -, m4, -⟩ := State.moveLine_line u l .quiet 0
  have hu : ∀ m, m ≠ l → u.line m = s.line m := fun m hm => by
    rw [State.line_modLine_ne _ hm, State.line_of_lines (State.bump_lines _ _ _ _ _)]
  have hhold : (u.line l).hold = 1 := by simp [u]
  set v := (u.moveLine l .quiet 0).pulse .ltrain l 9 with hv
  have hvl : ∀ m, v.line m = (u.moveLine l .quiet 0).line m := State.line_of_lines (State.pulse_lines _ _ _ _)
  have hvr : v.regs.rare = u.regs.rare := by simp +decide [hv]
  obtain ⟨kl, -, -⟩ := State.quietPeers_keeps v l l (.inr rfl)
  refine ⟨by rw [kl, hvl]; exact m2, by rw [kl, hvl, m4]; exact hhold, ?_, fun m hm hb => ?_⟩
  · rw [(State.quietPeers_rest v l).noanswer l, State.noanswer_of_rare hvr l, State.modLine_g]
    exact (State.g_wr_self _ _ _ _ _).trans (satAdd_mod _ _ _)
  · have hm' : v.line m = s.line m := (hvl m).trans ((m1 m hm).trans (hu m hm))
    obtain ⟨km, -, -⟩ := State.quietPeers_keeps v l m (.inl (by rw [hm']; exact hb))
    exact km.trans hm'

/-- The end of an enabled head's hold: BEACON again (R124). -/
theorem quietHoldExpire_beacons {s : State} {l : Nat} (hl : l < 128) (hh : s.isVHead l = true) (hst : (s.line l).st = .quiet)
    (he : s.enabled .lctl l = true) (hk : s.noKey (s.anchor l) = false) (h3 : s.fault.s3 = false) :
    s.runsTo (.quietHoldExpire l) fun t =>
      (t.line l).st = .beacon ∧ (t.line l).hold = 0 ∧ ∀ m, m ≠ l → t.line m = s.line m := by
  refine runs_timer hl rfl h3 (by simp [hh, hst, he, hk]) ?_
  obtain ⟨m1, m2, -, m4, -⟩ := State.moveLine_line (s.modLine l fun x => { x with hold := 0 }) l .beacon 0
  exact ⟨m2, m4.trans (by simp), fun m hm => (m1 m hm).trans (State.line_modLine_ne s hm _)⟩

/-- Settles O6: a row each, with what a move leaves of a line (`State.startLine_spec`, `State.moveLine_line`). -/
theorem beaconCycle : Obligations.BeaconCycle := by
  unfold Obligations.BeaconCycle
  intro s l hl
  refine ⟨fun he hm hst => ?_, beaconSlot_sends hl, noanswerTimeout_quiets hl, quietHoldExpire_beacons hl⟩
  obtain ⟨q1, -, q3, q4⟩ := State.startLine_spec s l
  exact runs_when hl rfl (by simp [he, hm, hst]) ⟨q1, q3, fun m hm => (q4 m hm).1⟩

end Sys2Proof.Machine
end

section
/-! The head's side of the handshake and of ranging (O7). -/

namespace Sys2Proof.Machine

/-! ### The way from HANDSHAKE to RANGING -/

/-- The block of line l's ranging is b, and so it is in every GO that waits to go out (R134, R170). -/
def State.GoNames (s : State) (l b : Nat) : Prop :=
  (s.line l).goBlock = b ∧ ∀ p ∈ (s.reachX l).due, p.payload.headD 0 = 0x15 → s.goBlockAfter p.gap = b

theorem State.goBlockAfter_congr {s t : State} (hc : t.sfc = s.sfc) (hy : t.sym = s.sym) (gap : Nat) :
    t.goBlockAfter gap = s.goBlockAfter gap := by
  unfold State.goBlockAfter State.superframeAfter
  rw [hc, hy]

/-- In the same symbol, with the same block and no new message, it stays so. -/
theorem State.GoNames.of {s t : State} {l b : Nat} (h : s.GoNames l b) (hl : (t.line l).goBlock = (s.line l).goBlock)
    (hd : ∀ p ∈ (t.reachX l).due, p ∈ (s.reachX l).due) (hc : t.sfc = s.sfc) (hy : t.sym = s.sym) : t.GoNames l b :=
  ⟨hl.trans h.1, fun p hp hg => (State.goBlockAfter_congr hc hy p.gap).trans (h.2 p (hd p hp) hg)⟩

theorem State.GoNames.startTx {s : State} {l b : Nat} (h : s.GoNames l b) (n : Nat) (p : ReachPkt) :
    (s.startTx l n p).GoNames l b := by
  refine h.of (by rw [State.line_of_lines (State.startTx_lines _ _ _ _)]) (fun q hq => ?_) ?_ ?_
  · simpa [State.startTx, State.reachX_of_reach (State.bump_reach _ _ _ _ _), State.reachX_of_reach (State.wr_reach _ _ _ _ _)]
      using hq
  · simp [State.startTx]
  · simp [State.startTx]

/-- A GO that is one of those takes the line's block as it goes out. -/
theorem State.GoNames.noteGo {s : State} {l b : Nat} (h : s.GoNames l b) {p : ReachPkt}
    (hp : p.payload.headD 0 = 0x15 → s.goBlockAfter p.gap = b) : (s.noteGo l p).GoNames l b := by
  unfold State.noteGo
  split
  case isTrue hgo => exact ⟨by simpa using hp hgo, fun q hq hg => h.2 q hq hg⟩
  case isFalse => exact h

theorem State.GoNames.sendDue {s : State} {l b : Nat} (h : s.GoNames l b) : (s.sendDue l).GoNames l b := by
  unfold State.sendDue
  dsimp only
  split
  case h_1 => exact h
  case h_2 p rest hx =>
    split
    case isTrue => exact h
    case isFalse =>
      have hpop : (s.modReach l fun x => { x with due := rest }).GoNames l b :=
        h.of rfl (fun q hq => by rw [hx]; exact List.mem_cons_of_mem p (by simpa using hq)) rfl rfl
      exact (hpop.noteGo fun hg => h.2 p (by rw [hx]; exact List.mem_cons_self) hg).startTx _ _

/-- A modem that stops sends on what the handshake still has to say. -/
theorem State.GoNames.stopModem {s : State} {l b : Nat} (h : s.GoNames l b) : (s.stopModem l false).GoNames l b := by
  unfold State.stopModem
  extract_lets old keep x x' s1 s2 s3
  have hx : x'.due = (s.reachX l).due := by
    simp only [x', x]
    split
    · rfl
    · rfl
  have hr : s3.reach = s1.reach := by simp [s3, s2]
  have hdue : (s3.reachX l).due = (s.reachX l).due := by
    rw [State.reachX_of_reach hr, ← hx]
    simp [State.reachX, s1]
  exact (h.of (by simp [s3, s2, s1, State.line]) (fun p hp => by rwa [hdue] at hp) (by simp [s3, s2, s1])
    (by simp [s3, s2, s1])).sendDue

theorem State.stopModem_sameButGo (s : State) (l : Nat) (off : Bool) : State.SameButGo l s (s.stopModem l off) := by
  unfold State.stopModem
  exact (State.SameButGo.of (by simp)).trans (State.sendDue_sameButGo _ _)

/-- From HANDSHAKE a line moves into RANGING with its modem stopping: nothing else touches the modem or another line. -/
theorem State.moveLine_handshake_ranging {s : State} {l : Nat} (h : (s.line l).st = .handshake) :
    ∃ u : State, s.moveLine l .ranging 0 = (u.stopModem l false).refreshOwner l ∧ u.reach = s.reach ∧ u.sfc = s.sfc ∧
      u.sym = s.sym ∧ (∀ k, k ≠ l → u.line k = s.line k) ∧ (u.line l).goBlock = (s.line l).goBlock ∧
      (u.line l).pairFails = (s.line l).pairFails ∧ (u.line l).goSent = (s.line l).goSent := by
  unfold State.moveLine
  simp only [h, usesModem, inData, inPasses, decide_true, decide_false, reduceCtorEq, Bool.or_false, Bool.false_and,
    Bool.or_true, Bool.and_true, Bool.not_false, Bool.false_eq_true, ↓reduceIte, or_self]
  refine ⟨_, rfl, by simp, by simp, by simp, fun k hk => ?_, ?_⟩
  · rw [State.line_of_lines (State.edges_lines _ _ _ _), State.line_of_lines (State.capture_lines _ _ _ _ _ _ _),
      State.line_modLine_ne s hk]
  · rw [State.line_of_lines (State.edges_lines _ _ _ _), State.line_of_lines (State.capture_lines _ _ _ _ _ _ _),
      State.line_modLine_self]
    exact ⟨rfl, rfl, rfl⟩

/-- GO sent: no other GO waits, so the block is the one that this GO names, now and when it goes out (R134). -/
theorem State.sendGo_spec (s : State) (l gap : Nat) :
    (∀ k, k ≠ l → (s.sendGo l gap).line k = s.line k) ∧
      (∃ b, (s.sendGo l gap).line l = { s.line l with goSent := true, goBlock := b }) ∧
      (s.noGoWaits l = true → (s.sendGo l gap).GoNames l (s.goBlockAfter gap)) := by
  unfold State.sendGo
  extract_lets b
  set u := s.modLine l fun x => { x with goSent := true, goBlock := b } with hu
  obtain ⟨h1, c, h2⟩ := u.send_sameButGo l ([0x15, 1] ++ msbBytes 4 (b % 2 ^ 32) ++ [0, 0]) gap
  refine ⟨fun k hk => (h1 k hk).trans (State.line_modLine_ne s hk _), ⟨c, by rw [h2, State.line_modLine_self]⟩, fun hn => ?_⟩
  rw [State.send_eq]
  refine State.GoNames.sendDue ⟨?_, fun p hp hg => ?_⟩
  · rw [State.line_of_lines (State.modReach_lines _ _ _), State.line_modLine_self]
  · rw [State.reachX_modReach_self] at hp
    rcases List.mem_append.1 hp with hp | hp
    · exact absurd hg (bne_iff_ne.1 (List.all_eq_true.1 hn p hp))
    · rw [List.mem_singleton.1 hp]
      rfl

/-- An ACCEPT taken: GO, and RANGING from the block that it names (R124, R134). -/
theorem acceptRx_ranges {s : State} {l : Nat} (hl : l < 128) (hd : s.dspRuns = true) (hh : s.isVHead l = true) (m : List Nat)
    (hst : (s.line l).st = .handshake) (ho : (s.line l).offered = true) (hm : isMessage m 36 0x14 = true)
    (hp : (s.line l).pairReq = false ∨ s.tailProofAtHead l = some (field m 2 32)) (ht : (s.line l).taC ≤ 2 ^ 20 - 1) :
    s.runsTo (.acceptRx l m) fun t =>
      (t.line l).st = .ranging ∧ (t.line l).sub = 0 ∧ (t.line l).goSent = true ∧
      (s.noGoWaits l = true → (t.line l).goBlock = s.goBlockAfter replyGap) ∧ (t.line l).pairFails = 0 ∧
      ∀ k, k ≠ l → t.line k = s.line k := by
  refine runs_signal hl rfl hd (by simp [hh, hst, ho, hm]) ?_
  have hproof : ((s.line l).pairReq && s.tailProofAtHead l != some (field m 2 32)) = false := by
    rcases hp with hp | hp
    · simp [hp]
    · simp [hp]
  simp only [hproof, if_neg (show ¬ (s.line l).taC > 2 ^ 20 - 1 by omega), Bool.false_eq_true, if_false]
  set v := s.modLine l fun x => { x with proofOk := true, pairFails := 0 } with hv
  obtain ⟨g1, ⟨b, g2⟩, g3⟩ := v.sendGo_spec l replyGap
  have hvl : v.line l = { s.line l with proofOk := true, pairFails := 0 } := State.line_modLine_self _ _ _
  obtain ⟨u, hu, hur, huc, huy, huk, hub, hup, hug⟩ := State.moveLine_handshake_ranging (s := v.sendGo l replyGap) (l := l)
    (by rw [g2, hvl]; exact hst)
  obtain ⟨-, m2, m3, -, -⟩ := State.moveLine_line (v.sendGo l replyGap) l .ranging 0
  obtain ⟨w1, c, w2⟩ := u.stopModem_sameButGo l false
  have hline : ∀ k, ((u.stopModem l false).refreshOwner l).line k = (u.stopModem l false).line k :=
    State.line_of_lines (State.refreshOwner_lines _ _)
  refine ⟨m2, m3, ?_, fun hn => ?_, ?_, fun k hk => ?_⟩
  · rw [hu, hline, w2]
    exact hug.trans (by rw [g2])
  · rw [hu, hline]
    exact ((g3 hn).of hub (fun p hp => by rwa [State.reachX_of_reach hur] at hp) huc huy).stopModem.1
  · rw [hu, hline, w2]
    exact hup.trans (by rw [g2, hvl])
  · rw [hu, hline, w1 k hk, huk k hk, g1 k hk]
    exact State.line_modLine_ne s hk _

/-! ### ANSWER, OFFER and ranging -/

/-- An ANSWER in BEACON: HANDSHAKE with the coarse round trip, and an OFFER (R124, R133). -/
theorem answerRx_offers {s : State} {l : Nat} (hl : l < 128) (hd : s.dspRuns = true) (hh : s.isVHead l = true) (m : List Nat)
    (rtt : Nat) (hst : (s.line l).st = .beacon) (hm : isMessage m 56 0x12 = true) :
    s.runsTo (.answerRx l m rtt) fun t =>
      (t.line l).st = .handshake ∧ (t.line l).rttc = rtt % 2 ^ 24 ∧ (t.line l).peerId = field m 2 8 ∧
      (t.line l).peerNonce = field m 16 32 ∧ (t.line l).offered = true ∧
      t.g LTRAIN.RANGE.RTTC l = rtt % 2 ^ 24 ∧ ∀ k, k ≠ l → t.line k = s.line k := by
  refine runs_heard hl rfl hd ?_
  simp only [hm, hst, hh, Bool.not_true, Bool.false_eq_true, if_false, reduceCtorEq, decide_false, Bool.false_and, decide_true,
    Bool.and_true, if_true]
  set e := (s.draw.2.enterHandshake l).recordPartner l m with he
  have hel : ∀ k, e.line k = (s.draw.2.enterHandshake l).line k := State.line_of_lines (State.recordPartner_lines _ _ _)
  have hest : (e.line l).st = .handshake := by
    rw [hel]
    exact (State.enterHandshake_line s.draw.2 l l).1
  have hek : ∀ k, k ≠ l → e.line k = s.line k := fun k hk => by
    rw [hel, (State.enterHandshake_line s.draw.2 l k).2 hk]
    rfl
  generalize hv : e.modLine l _ = v
  have hvk : ∀ k, k ≠ l → v.line k = s.line k := fun k hk => by rw [← hv, State.line_modLine_ne _ hk, hek k hk]
  obtain ⟨o1, mask, b, o2⟩ := (v.wr LTRAIN.RANGE.RTTC (rtt % 2 ^ 24) l).sendOffer_sameButGo l replyGap
  have hwl : ∀ k, (v.wr LTRAIN.RANGE.RTTC (rtt % 2 ^ 24) l).line k = v.line k := State.line_of_lines (State.wr_lines _ _ _ _ _)
  have hrare : ((v.wr LTRAIN.RANGE.RTTC (rtt % 2 ^ 24) l).sendOffer l replyGap).regs.rare =
      (v.wr LTRAIN.RANGE.RTTC (rtt % 2 ^ 24) l).regs.rare := by simp
  rw [o2, hwl]
  refine ⟨?_, ?_, ?_, ?_, ?_, ?_, fun k hk => by rw [o1 k hk, hwl, hvk k hk]⟩
  · rw [← hv, State.line_modLine_self]
    exact hest
  · rw [← hv, State.line_modLine_self]
  · rw [← hv, State.line_modLine_self]
  · rw [← hv, State.line_modLine_self]
  · rw [← hv, State.line_modLine_self]
  · rw [State.rttc_of_rare hrare, State.g_wr_self]
    exact Nat.mod_eq_of_lt (Nat.mod_lt _ (by decide))

/-- An OFFER without its ACCEPT goes out again (R129). -/
theorem offerRepeat_offers {s : State} {l : Nat} (hl : l < 128) (hd : s.dspRuns = true) (hh : s.isVHead l = true)
    (hst : (s.line l).st = .handshake) (hg : (s.line l).goSent = false) :
    s.runsTo (.offerRepeat l) fun t =>
      (t.line l).st = .handshake ∧ (s.modemFree l = true → s.sends l (s.offerBytes l) t) ∧ ∀ k, k ≠ l → t.line k = s.line k := by
  refine runs_signal hl rfl hd (by simp [hh, hst, hg]) ?_
  obtain ⟨o1, mask, b, o2⟩ := s.sendOffer_sameButGo l 0
  exact ⟨by rw [o2]; exact hst, fun hf => State.sendOffer_sends hf 0, o1⟩

/-- A line that stays in RANGING takes its correction along, and no register changes. -/
theorem State.moveLine_ranging_stays {s : State} {l : Nat} (h : (s.line l).st = .ranging) (sub : Nat) :
    (s.moveLine l .ranging sub).regs = s.regs ∧ ((s.moveLine l .ranging sub).line l).ta = (s.line l).ta := by
  unfold State.moveLine
  simp [h]

/-- 16 pilots in range: RANGING ends with its correction, and the line waits to join (R124, R134). -/
theorem rangingBlockEnd_waits {s : State} {l : Nat} (hl : l < 128) (hd : s.dspRuns = true) (hh : s.isVHead l = true) (avg : Int)
    (late : Bool) (hst : (s.line l).st = .ranging) (hsub : (s.line l).sub = 0) (h0 : 0 ≤ avg) (h1 : avg ≤ 960) :
    s.runsTo (.rangingBlockEnd l 16 avg late) fun t =>
      (t.line l).st = .ranging ∧ (t.line l).sub = 1 ∧ (t.line l).ta = ((s.line l).taC + (avg - 64)).toNat ∧
      t.g LTRAIN.RCORR.CORR l = ofSigned 20 (avg - 64) ∧ ∀ k, k ≠ l → t.line k = s.line k := by
  refine runs_signal hl rfl hd (by simp [hh, hst, hsub]) ?_
  rw [if_pos ⟨rfl, h0, h1⟩]
  extract_lets x corr u v p w
  have hul : (u.wr LTRAIN.RCORR.CORR (ofSigned 20 corr) l).line l = u.line l := State.line_of_lines (State.wr_lines _ _ _ _ _) l
  have hu : u.line l = _ := State.line_modLine_self _ _ _
  obtain ⟨hvr, hvt⟩ := State.moveLine_ranging_stays (s := u.wr LTRAIN.RCORR.CORR (ofSigned 20 corr) l) (l := l)
    (by rw [hul, hu]; exact hst) 1
  obtain ⟨m1, m2, m3, -, -⟩ := State.moveLine_line (u.wr LTRAIN.RCORR.CORR (ofSigned 20 corr) l) l .ranging 1
  have hline : ∀ {t : State}, t.lines = w.lines → ∀ k, t.line k = v.line k := fun ht =>
    State.line_of_lines (ht.trans (State.showRoundTrip_lines _ _))
  have hcorr : v.g LTRAIN.RCORR.CORR l = ofSigned 20 (avg - 64) := by
    rw [State.g_of_regs hvr, State.g_wr_self]
    exact ofSigned_mod 20 _
  have hpost : ∀ t : State, t.lines = w.lines → t.regs.rare = w.regs.rare →
      (t.line l).st = .ranging ∧ (t.line l).sub = 1 ∧ (t.line l).ta = ((s.line l).taC + (avg - 64)).toNat ∧
      t.g LTRAIN.RCORR.CORR l = ofSigned 20 (avg - 64) ∧ ∀ k, k ≠ l → t.line k = s.line k := fun t htl htr => by
    refine ⟨by rw [hline htl]; exact m2, by rw [hline htl]; exact m3, ?_, ?_, fun k hk => ?_⟩
    · rw [hline htl, hvt, hul, hu]
    · rw [State.rcorr_of_rare (htr.trans (State.showRoundTrip_rare _ _)), hcorr]
    · rw [hline htl, m1 k hk, State.line_of_lines (State.wr_lines _ _ _ _ _)]
      exact State.line_modLine_ne s hk _
  split
  · exact hpost _ (State.queueJoin_lines _ _) (State.queueJoin_rare _ _)
  · exact hpost _ rfl rfl

/-- Settles O7: each message and the ranging block by its own lemma. -/
theorem headHandshake : Obligations.HeadHandshake := by
  unfold Obligations.HeadHandshake
  intro s l hl hd hh
  exact ⟨answerRx_offers hl hd hh, offerRepeat_offers hl hd hh, acceptRx_ranges hl hd hh, rangingBlockEnd_waits hl hd hh⟩

end Sys2Proof.Machine
end

section
/-! The steps of TRAINING and the way into LOADING (O9). -/

namespace Sys2Proof.Machine

theorem State.SameMove.foldl {β : Type} {l : Nat} {f : State → β → State} (h : ∀ s b, State.SameMove l s (f s b)) (bs : List β)
    (s : State) : State.SameMove l s (bs.foldl f s) :=
  List.foldlRecOn (motive := fun t => State.SameMove l s t) bs f (.of rfl) fun t ht b _ => ht.trans (h t b)

theorem State.setFeq_move (s : State) (l k : Nat) (c : Cx) : State.SameMove l s (s.setFeq l k c) := by
  unfold State.setFeq
  exact (State.SameMove.modLine s l (fun x => { x with taps := x.taps.set Cx.zero k c }) fun _ => ⟨rfl, rfl, rfl, rfl⟩).trans
    (.of (by simp))

theorem State.setTrainedFeq_move (s : State) (l : Nat) : State.SameMove l s (s.setTrainedFeq l) := by
  unfold State.setTrainedFeq
  exact (State.SameMove.foldl (fun t k => t.setFeq_move l k _) _ s).trans (.modLine _ l _ fun _ => ⟨rfl, rfl, rfl, rfl⟩)

theorem State.updateCoef_g {G : Fld} (hG : G.event = false) (h : G.id % 2048 ≠ XENGINE.SAT_COUNT.COUNT.id % 2048) (s : State)
    (key : Nat) (re im : Int) (a b : Nat) : (s.updateCoef key re im).g G a b = s.g G a b := by
  unfold State.updateCoef
  dsimp only
  split
  · rfl
  · rw [State.pulse_g hG, State.bump, State.g_wr_of_id h]
    rfl

theorem State.rescaleNxt_g {G : Fld} (hG : G.event = false) (h : G.id % 2048 ≠ XENGINE.SAT_COUNT.COUNT.id % 2048) (s : State)
    (l : Nat) (row : Bool) (r : Rat) (a b : Nat) : (s.rescaleNxt l row r).g G a b = s.g G a b := by
  unfold State.rescaleNxt
  refine foldl_g _ _ _ _ (fun t e => ?_) _ _
  cases ((e.1 / 2 ^ 21 == 0) && if row = true then e.1 / 2 ^ 7 % 128 == l else e.1 % 128 == l)
  · rfl
  · exact State.updateCoef_g hG h _ _ _ _ _ _

/-- The gain in effect is the code given; what the matrix takes on of its change is no gain (R222). -/
theorem State.setPga_shown (s : State) (l : Nat) {v : Nat} (hv : v < 128) : (s.setPga l v).g LAFE.CTRL.PGA l = v := by
  have hw : (s.wr LAFE.CTRL.PGA v l).g LAFE.CTRL.PGA l = v := (State.g_wr_self _ _ _ _ _).trans (Nat.mod_eq_of_lt hv)
  unfold State.setPga
  dsimp only
  split
  · exact (State.rescaleNxt_g rfl (by decide) _ _ _ _ _ _).trans hw
  · exact hw

/-- In T + 1 the gain found is taken (R140 step 2, R221). -/
theorem trainingStep_settles {s : State} {l : Nat} (hl : l < 128) (hd : s.dspRuns = true) (hst : (s.line l).st = .training)
    (ht : s.pageSfc .ltrain l = sfcAdd (s.line l).trainStart 1) (ha : s.g LAFE.CTRL.PGA_AUTO l = 1) (hv : s.settledPga l < 128) :
    s.runsTo (.trainingStep l) fun t => t.g LAFE.CTRL.PGA l = s.settledPga l := by
  refine runs_heard hl rfl hd ?_
  dsimp only
  rw [if_pos (.inl ⟨hst, ht⟩), ha]
  exact s.setPga_shown l hv

/-- From T + 7 on the line measures (R140 step 3). -/
theorem trainingStep_measures {s : State} {l : Nat} (hl : l < 128) (hd : s.dspRuns = true) (hst : (s.line l).st = .training)
    (hsub : (s.line l).sub = 0) (hc : sfcCome (sfcAdd (s.line l).trainStart 7) (s.pageSfc .ltrain l) = true)
    (hn : s.pageSfc .ltrain l ≠ sfcAdd (s.line l).trainStart 1) :
    s.runsTo (.trainingStep l) fun t =>
      (t.line l).st = .training ∧ (t.line l).sub = 1 ∧ (t.line l).ohBad = 0 ∧ ∀ k, k ≠ l → t.line k = s.line k := by
  refine runs_heard hl rfl hd ?_
  dsimp only
  rw [if_neg (by simp [hst, hn]), if_pos ⟨hst, hsub, hc⟩]
  obtain ⟨hk, hs, -⟩ := s.setTrainedFeq_move l
  rw [State.line_modLine_self]
  exact ⟨hs.trans hst, rfl, rfl, fun k hne => (State.line_modLine_ne _ hne _).trans (hk k hne)⟩

/-- The end condition of TRAINING at a head: LOADING, with the whole table to send (R140 step 5, R143). -/
theorem trainingEnd_loads {s : State} {l : Nat} (hl : l < 128) (hd : s.dspRuns = true) (hst : (s.line l).st = .training)
    (hh : s.isVHead l = true) (hr : (s.line l).snrReady = true)
    (hc : carriesOverhead (((s.moveLine l .loading).modLine l fun x =>
      { x with hostMask := (s.moveLine l .loading).hostMaskOf l }).loadTable l tones []) = true) :
    s.runsTo (.trainingEnd l) fun t =>
      (t.line l).st = .loading ∧ (t.line l).loadSent = true ∧ (t.line l).sendSegs = List.range 11 ∧
      ∀ k, k ≠ l → t.line k = s.line k := by
  refine runs_signal hl rfl hd (by simp [hh, hst, hr]) ?_
  obtain ⟨m1, m2, -, -, -⟩ := s.moveLine_line l .loading 0
  unfold State.authorTable
  dsimp only
  rw [if_pos hc, State.line_modLine_self, State.line_modLine_self]
  exact ⟨m2, rfl, rfl, fun k hne => by rw [State.line_modLine_ne _ hne, State.line_modLine_ne _ hne, m1 k hne]⟩

/-- Settles O9: the two moments of TRAINING and its end by their own lemmas. -/
theorem trainingAndLoading : Obligations.TrainingAndLoading := by
  unfold Obligations.TrainingAndLoading
  intro s l hl hd hst
  exact ⟨trainingStep_settles hl hd hst, trainingStep_measures hl hd hst, trainingEnd_loads hl hd hst⟩

end Sys2Proof.Machine
end

section
/-! The steps of a retrain attempt (O10). -/

namespace Sys2Proof.Machine

/-- Boundary P with the partner's pilots in range: the line is active with its kept entries and trains (R149 step 3). -/
theorem retrainRejoin_trains {s : State} {l : Nat} (hl : l < 128) (hh : s.isVHead l = true) (hst : (s.line l).st = .retrain)
    (avg : Int) (hsub : (s.line l).sub = 0) (hr : (s.line l).rejoin ≠ 0)
    (hc : sfcCome (s.line l).rejoin (s.pageSfc .ltrain l) = true) (h0 : 0 ≤ avg) (h1 : avg ≤ 128) (hd : s.dspRuns = true) :
    s.runsTo (.retrainRejoin l avg) fun t =>
      (t.line l).st = .retrain ∧ (t.line l).sub = 1 ∧ (t.line l).wantWord = none ∧
      (t.line l).trainStart = s.pageSfc .ltrain l ∧ (t.line l).active = true ∧ (t.line l).dying = false ∧
      (t.line l).accNum = [] ∧ (t.line l).errSum = [] ∧
      t.regs = s.regs ∧ t.xe = s.xe ∧ ∀ k, k ≠ l → t.line k = s.line k := by
  refine runs_heard hl rfl hd ?_
  dsimp only
  rw [if_pos ⟨hst, hsub, hr, hc⟩, if_neg (by simp [h0, h1]), State.line_modLine_self]
  exact ⟨hst, rfl, rfl, rfl, hh, rfl, rfl, rfl, State.modLine_regs _ _ _, State.modLine_xe _ _ _,
    fun k hk => State.line_modLine_ne s hk _⟩

theorem State.modLine_lines_congr {s t : State} (h : t.lines = s.lines) (l : Nat) (f : LineX → LineX) :
    (t.modLine l f).lines = (s.modLine l f).lines := by
  unfold State.modLine State.setLine State.line
  rw [h]

/-- Showing the SNR begins its sums anew, and touches no line otherwise. -/
theorem State.showSnr_lines (s : State) (l : Nat) :
    (s.showSnr l).lines = (s.modLine l fun x => { x with errSum := [], errCount := [] }).lines := by
  unfold State.showSnr
  dsimp only
  split
  · exact State.modLine_lines_congr (foldl_lines _ (fun t k => State.wr_lines _ _ _ _ _) _ _) l _
  · split
    · rw [State.wr_lines]
      exact State.modLine_lines_congr (foldl_lines _ (fun t k => State.wr_lines _ _ _ _ _) _ _) l _
    · exact State.modLine_lines_congr (foldl_lines _ (fun t k => State.wr_lines _ _ _ _ _) _ _) l _

/-- Superframe P + 21 at a head whose tables still carry the overhead word: both go out (R149 steps 4 and 5). -/
theorem retrainLoadSend_sends {s : State} {l : Nat} (hl : l < 128) (hh : s.isVHead l = true) (hst : (s.line l).st = .retrain)
    (hsub : (s.line l).sub = 1) (hc : sfcCome (sfcAdd (s.line l).trainStart 21) s.sfc = true)
    (hrx : carriesOverhead (s.retrainRx l) = true) (htx : carriesOverhead (s.retrainTx l) = true) (hd : s.dspRuns = true) :
    s.runsTo (.retrainLoadSend l) fun t =>
      (t.line l).st = .retrain ∧ (t.line l).sub = 2 ∧ (t.line l).loadSent = true ∧
      (t.line l).newTx = some (((s.line l).txId + 1) % 256, s.retrainTx l) ∧
      (t.line l).newRx = some (((s.line l).rxId + 1) % 256, s.retrainRx l) ∧ ∀ k, k ≠ l → t.line k = s.line k := by
  refine runs_heard hl rfl hd ?_
  dsimp only
  have hself := (State.line_of_lines (s.showSnr_lines l) l).trans (State.line_modLine_self s l _)
  have hother (k : Nat) (hk : k ≠ l) := (State.line_of_lines (s.showSnr_lines l) k).trans (State.line_modLine_ne s hk _)
  unfold State.retrainRx at hrx ⊢
  unfold State.retrainTx at htx ⊢
  dsimp only at hrx htx
  rw [if_pos ⟨hh, hst, hsub, hc⟩, hrx, htx, if_neg (by decide), State.line_modLine_self, hself]
  exact ⟨hst, rfl, rfl, rfl, rfl, fun k hk => (State.line_modLine_ne _ hk _).trans (hother k hk)⟩

/-- An attempt that ends is counted, and the next begins at its first step (R149). -/
theorem State.endAttempt_spec (s : State) (l : Nat) :
    ((s.endAttempt l).line l).st = (s.line l).st ∧ ((s.endAttempt l).line l).sub = 0 ∧ ((s.endAttempt l).line l).rejoin = 0 ∧
      ((s.endAttempt l).line l).newRx = none ∧ ((s.endAttempt l).line l).newTx = none ∧
      ((s.endAttempt l).line l).sendSegs = [] ∧
      (s.endAttempt l).g LTRAIN.RETRAINS.FAIL l = satAdd 16 (s.g LTRAIN.RETRAINS.FAIL l) 1 ∧
      ∀ k, k ≠ l → (s.endAttempt l).line k = s.line k := by
  unfold State.endAttempt
  extract_lets u
  obtain ⟨a1, a2⟩ := (s.bump LTRAIN.RETRAINS.FAIL l).leaveActive_line l
  have hb : ∀ k, (s.bump LTRAIN.RETRAINS.FAIL l).line k = s.line k := State.line_of_lines (State.bump_lines _ _ _ _ _)
  have hrare : u.regs.rare = (s.bump LTRAIN.RETRAINS.FAIL l).regs.rare := by simp [u]
  rw [State.line_modLine_self, State.modLine_g, State.fail_of_rare hrare]
  refine ⟨a2.trans (by rw [hb]), rfl, rfl, rfl, rfl, rfl, ?_, fun k hk => ?_⟩
  · exact (State.g_wr_self _ _ _ _ _).trans (satAdd_mod _ _ _)
  · rw [State.line_modLine_ne _ hk, a1 k hk, hb]

/-- A head that gives its retrain up: the start state of its mode, and why (R124, R152). -/
theorem State.giveUpRetrain_spec (s : State) (l : Nat) :
    ((s.giveUpRetrain l).line l).st = (s.startOf l).1 ∧ ((s.giveUpRetrain l).line l).hold = (s.startOf l).2 ∧
      (s.giveUpRetrain l).g LTRAIN.STATUS.LAST_REASON l = rsRetrainFail ∧
      (s.giveUpRetrain l).g LTRAIN.STATUS.LAST_FROM l = (s.line l).st.code ∧
      ∀ k, k ≠ l → (s.giveUpRetrain l).line k = s.line k := by
  obtain ⟨n1, n2, n3⟩ := s.noteReason_spec l rsRetrainFail
  unfold State.giveUpRetrain
  extract_lets st u
  obtain ⟨m1, m2, -, m4, -⟩ := u.moveLine_line l st.1 0
  have hrare : (u.moveLine l st.1 0).regs.rare = (s.noteReason l rsRetrainFail).regs.rare := by simp +decide [u]
  refine ⟨m2, m4.trans (by simp [u, st]), (State.reason_of_rare hrare l).trans n1, ?_, fun k hk => ?_⟩
  · rw [State.from_of_rare hrare l, n2]
    cases (s.line l).st <;> rfl
  · rw [m1 k hk, State.line_modLine_ne _ hk, (State.forgetAttempt_line _ l).1 k hk, (State.leaveActive_line _ l).1 k hk,
      (n3 k hk).1]

/-- Settles O10: the moments that the DSP brings by their own lemmas, the two times by what their ends do. -/
theorem retrainAttempt : Obligations.RetrainAttempt := by
  unfold Obligations.RetrainAttempt
  intro s l hl hh hst
  refine ⟨retrainRejoin_trains hl hh hst, retrainLoadSend_sends hl hh hst, fun h3 => ?_, fun h3 => ?_⟩
  · have h := s.endAttempt_spec l
    rw [hst] at h
    exact runs_timer hl rfl h3 (by simp [hh, hst]) h
  · have h := s.giveUpRetrain_spec l
    rw [hst] at h
    exact runs_timer hl rfl h3 (by simp [hh, hst]) h

end Sys2Proof.Machine
end

section
/-! Granted words of a line's CTRL (O52): retrain, restart, banking and the wake (R150, R151, R153). -/

namespace Sys2Proof.Machine

/-! ### What a write of no setting of a port leaves -/

/-- From `s` to `t` the lines, the ports, their modes and their quads' layouts stay. -/
def State.SamePorts (s t : State) : Prop :=
  (t.lines = s.lines ∧ t.ports = s.ports ∧ t.sfc = s.sfc) ∧
    (∀ l, t.mode l = s.mode l) ∧ (∀ q, t.quad q = s.quad q) ∧ ∀ l, t.startOf l = s.startOf l

theorem State.SamePorts.trans {s t u : State} (h : s.SamePorts t) (k : t.SamePorts u) : s.SamePorts u := by
  obtain ⟨⟨hl, hp, hs⟩, hm, hq, ho⟩ := h
  obtain ⟨⟨kl, kp, ks⟩, km, kq, ko⟩ := k
  exact ⟨⟨kl.trans hl, kp.trans hp, ks.trans hs⟩, fun l => (km l).trans (hm l), fun q => (kq q).trans (hq q),
    fun l => (ko l).trans (ho l)⟩

theorem State.wr_samePorts (s : State) {F : Fld} (h : F.id % 2048 ∉ startIds) (v i j : Nat) : s.SamePorts (s.wr F v i j) :=
  ⟨⟨rfl, rfl, rfl⟩, fun _ => State.g_wr_of_id (fun e => h (e ▸ by decide)) ..,
    fun _ => State.g_wr_of_id (fun e => h (e ▸ quadField_mem _)) .., fun _ => s.startOf_wr F h ..⟩

section
variable {s t : State} (h : s.SamePorts t)
include h

theorem State.SamePorts.line (m : Nat) : t.line m = s.line m := State.line_of_lines h.1.1 m

theorem State.SamePorts.port (p : Nat) : t.port p = s.port p := congrArg (fun x : Store PortX => x.get {} p) h.1.2.1

theorem State.SamePorts.isV (l : Nat) : t.isV l = s.isV l := by
  unfold State.isV State.isVHead State.isVTail
  rw [h.2.1]

theorem State.SamePorts.width (p : Nat) : t.width p = s.width p := by
  unfold State.width
  rw [h.2.2.1]

theorem State.SamePorts.portLines (p : Nat) : t.portLines p = s.portLines p := by
  unfold State.portLines
  rw [h.width]

theorem State.SamePorts.isAnchor (p : Nat) : t.isAnchor p = s.isAnchor p := by
  unfold State.isAnchor
  rw [h.width]

theorem State.SamePorts.portSfc (p : Nat) : t.portSfc p = s.portSfc p := by
  unfold State.portSfc State.pageSfc State.isVTail
  simp only [h.2.1, h.line, h.1.2.2]

end

/-! ### The word -/

/-- The word stores AUTOBANK and AUTOWAKE. -/
theorem State.storeWord_trainCtrl (s : State) (ch : Channel) (l w : Nat) :
    s.storeWord (wordAt ch .ltrain l 0x044 w) =
      (s.wr LTRAIN.CTRL.AUTOBANK (bits w 16 8) l).wr LTRAIN.CTRL.AUTOWAKE (bits w 4 1) l := by
  have hf : fieldsAt .ltrain 0x044 = [(LTRAIN.CTRL.AUTOBANK, 0), (LTRAIN.CTRL.AUTOWAKE, 0), (LTRAIN.CTRL.RESTART, 0),
      (LTRAIN.CTRL.RETRAIN, 0), (LTRAIN.CTRL.WAKE, 0), (LTRAIN.CTRL.BANK, 0)] := by decide
  unfold State.storeWord WordWrite.fields wordAt
  rw [hf]
  rfl

theorem State.storeWord_trainCtrl_samePorts (s : State) (ch : Channel) (l w : Nat) :
    s.SamePorts (s.storeWord (wordAt ch .ltrain l 0x044 w)) := by
  rw [State.storeWord_trainCtrl]
  exact (s.wr_samePorts (by decide) ..).trans (State.wr_samePorts _ (by decide) ..)

/-- A word of CTRL: BANK, WAKE, RETRAIN and RESTART, in this order. -/
theorem State.lineEffects_trainCtrl (t : State) (ch : Channel) (l w : Nat) (act : List (Fld × Nat)) :
    t.lineEffects (wordAt ch .ltrain l 0x044 w) act =
      (let s := if hits act LTRAIN.CTRL.BANK then t.proposeBank l else t
       let s := if hits act LTRAIN.CTRL.WAKE then s.startWake l else s
       let s := if hits act LTRAIN.CTRL.RETRAIN then (if s.isV l then s.retrainLine l rsHost else s) else s
       if hits act LTRAIN.CTRL.RESTART then s.restartLine l else s) := rfl

end Sys2Proof.Machine
end

section
/-! The four triggers of CTRL (O52). -/

namespace Sys2Proof.Machine

/-- The triggers of CTRL. -/
def trainTriggers : List Fld := [LTRAIN.CTRL.BANK, LTRAIN.CTRL.WAKE, LTRAIN.CTRL.RETRAIN, LTRAIN.CTRL.RESTART]

/-- What one trigger of CTRL does. -/
def State.trainAction (t : State) (F : Fld) (l : Nat) : State :=
  if F = LTRAIN.CTRL.BANK then t.proposeBank l
  else if F = LTRAIN.CTRL.WAKE then t.startWake l
  else if F = LTRAIN.CTRL.RETRAIN then (if t.isV l then t.retrainLine l rsHost else t)
  else t.restartLine l

theorem State.trainAction_bank (t : State) (l : Nat) : t.trainAction LTRAIN.CTRL.BANK l = t.proposeBank l := rfl

theorem State.trainAction_wake (t : State) (l : Nat) : t.trainAction LTRAIN.CTRL.WAKE l = t.startWake l := rfl

theorem State.trainAction_retrain (t : State) (l : Nat) :
    t.trainAction LTRAIN.CTRL.RETRAIN l = if t.isV l then t.retrainLine l rsHost else t := rfl

theorem State.trainAction_restart (t : State) (l : Nat) : t.trainAction LTRAIN.CTRL.RESTART l = t.restartLine l := rfl

/-- What it is to carry no other trigger of CTRL. -/
theorem trainTriggers_bits {w : Nat} {F : Fld} (hb : LTRAIN.CTRL.BANK ≠ F → w / 2 ^ 0 % 2 = 0)
    (hw : LTRAIN.CTRL.WAKE ≠ F → w / 2 ^ 1 % 2 = 0) (ht : LTRAIN.CTRL.RETRAIN ≠ F → w / 2 ^ 2 % 2 = 0)
    (hs : LTRAIN.CTRL.RESTART ≠ F → w / 2 ^ 3 % 2 = 0) : ∀ G ∈ trainTriggers, G ≠ F → bits w G.lo G.w = 0 := by
  simp only [trainTriggers, List.forall_mem_cons]
  exact ⟨hb, hw, ht, hs, by simp⟩

/-- Of a word granted for one trigger, which carries no other, this one alone acts. -/
theorem hits_trainCtrl (s : State) (ch : Channel) (l : Nat) (w : Word) {F G : Fld} (hF : F ∈ trainTriggers)
    (hG : G ∈ trainTriggers) (hw : ∀ G ∈ trainTriggers, G ≠ F → bits w.toNat G.lo G.w = 0) :
    hits (s.acted (wordAt ch .ltrain l 0x044 (withOnes w F))) G = decide (G = F) := by
  have hword : ∀ H ∈ trainTriggers, H.acc = .w1p ∧ (H, 0) ∈ fieldsAt .ltrain 0x044 ∧ 0x040 ≤ H.off ∧ H.w ≠ 0 := by decide
  have hapart : ∀ H ∈ trainTriggers, ∀ K ∈ trainTriggers, H ≠ K → H.lo + H.w ≤ K.lo ∨ K.lo + K.w ≤ H.lo := by decide
  have hthere : ∀ H ∈ trainTriggers, fieldThere H l = true := by
    simp only [trainTriggers, List.forall_mem_cons]
    exact ⟨rfl, rfl, rfl, rfl, by simp⟩
  obtain ⟨hacc, hmem, hoff, hne⟩ := hword G hG
  by_cases h : G = F
  · subst h
    rw [hits_own_trigger s ch w hacc hmem hoff (hthere G hG) hne, decide_eq_true rfl]
  · rw [hits_other_trigger s ch w hacc hmem hoff (hthere G hG) (hapart G hG F hF h), hw G hG h, decide_eq_false h]
    rfl

/-- A granted trigger of CTRL, whose word carries no other, runs to what it does from a state with the ports and lines of
the one before. -/
theorem State.runsTo_trainCtrl {s : State} {c : Instr} {ch : Channel} {F : Fld} {l : Nat} {w : Word} {P : State → Prop}
    (hc : exec c s = .next (s.trigger ch F l 0 w)) (hg : s.grants ch F l 0 (withOnes w F) = true) (hF : F ∈ trainTriggers)
    (hl : l < 128) (hw : ∀ G ∈ trainTriggers, G ≠ F → bits w.toNat G.lo G.w = 0)
    (h : ∀ (t : State) (m : Mgmt), s.SamePorts t → P ((t.trainAction F l).modMgmt fun _ => m)) : s.runsTo c P := by
  have hword : ∀ H ∈ trainTriggers, H.page = .ltrain ∧ H.off + H.stride * 0 = 0x044 := by decide
  obtain ⟨hpage, hoff⟩ := hword F hF
  refine State.runsTo_granted hc hg hpage hoff hl (by decide) (by decide) fun m _ _ => ?_
  rw [State.applyWord_line s (by decide) rfl, State.lineEffects_trainCtrl]
  simp only [hits_trainCtrl s ch l w hF (G := LTRAIN.CTRL.BANK) (by decide) hw,
    hits_trainCtrl s ch l w hF (G := LTRAIN.CTRL.WAKE) (by decide) hw,
    hits_trainCtrl s ch l w hF (G := LTRAIN.CTRL.RETRAIN) (by decide) hw,
    hits_trainCtrl s ch l w hF (G := LTRAIN.CTRL.RESTART) (by decide) hw]
  have hkept := h _ m (s.storeWord_trainCtrl_samePorts ch l (withOnes w F))
  generalize s.storeWord _ = t at hkept ⊢
  revert hkept
  simp only [trainTriggers, List.mem_cons, List.not_mem_nil, or_false] at hF
  rcases hF with rfl | rfl | rfl | rfl
  · exact id
  · exact id
  · exact id
  · exact id

/-! ### RETRAIN -/

theorem lineRetrain_retrains (s : State) (ch : Channel) (l : Nat) (w : Word) (hl : l < 128)
    (hg : s.grants ch LTRAIN.CTRL.RETRAIN l 0 (withOnes w LTRAIN.CTRL.RETRAIN) = true) (hr : w.toNat % 16 / 8 = 0)
    (hw : w.toNat % 4 = 0) (hv : s.isV l = true) (hst : (s.line l).st = .showtime ∨ (s.line l).st = .banked) :
    s.runsTo (.lineRetrain ch l w) (s.retrained l rsHost) := by
  refine State.runsTo_trainCtrl (withLine_of_lt hl s _) hg (by decide) hl
    (trainTriggers_bits (fun _ => by omega) (fun _ => by omega) (absurd rfl) (fun _ => by omega)) fun t m ht => ?_
  rw [State.trainAction_retrain, if_pos ((ht.isV l).trans hv)]
  obtain ⟨q1, q2, q3, q4, q5⟩ := retrained_retrainLine t l rsHost (by decide) (by rwa [ht.line])
  rw [ht.line] at q4
  exact ⟨q1, q2, q3, q4, fun k hk hs => (q5 k hk (by rwa [ht.line])).trans (ht.line k)⟩

/-! ### RESTART -/

/-- The hold of a restarted line is its start state's (R124, R125). -/
theorem State.restartLine_hold (s : State) (l : Nat) (h1 : (s.line l).st ≠ .off) (h2 : (s.line l).st ≠ .faulted)
    (h3 : s.isV l = true) : ((s.restartLine l).line l).hold = (s.startOf l).2 := by
  obtain ⟨hcalm, hrun⟩ := s.startOf_calm l h3
  unfold State.restartLine
  extract_lets old st s1
  rw [if_neg (by simp [old, h1, h2, h3])]
  obtain ⟨-, hst, -, hhold, -⟩ := State.moveLine_line s1 l st.1 0
  have hkeep := State.lineGone_keeps (s1.moveLine l st.1 0) l l old (by rwa [hst]) (by rwa [hst])
  rw [hkeep.1, hhold]
  simp [s1, st]

theorem lineRestart_restarts (s : State) (ch : Channel) (l : Nat) (w : Word) (hl : l < 128)
    (hg : s.grants ch LTRAIN.CTRL.RESTART l 0 (withOnes w LTRAIN.CTRL.RESTART) = true) (hw : w.toNat % 8 = 0)
    (hv : s.isV l = true) (hoff : (s.line l).st ≠ .off) (hfault : (s.line l).st ≠ .faulted) :
    s.runsTo (.lineRestart ch l w) fun t =>
      (t.line l).st = (s.startOf l).1 ∧ (t.line l).hold = (s.startOf l).2 ∧
      t.g LTRAIN.STATUS.LAST_REASON l = rsHost ∧ t.g LTRAIN.STATUS.LAST_FROM l = (s.line l).st.code := by
  refine State.runsTo_trainCtrl (withLine_of_lt hl s _) hg (by decide) hl
    (trainTriggers_bits (fun _ => by omega) (fun _ => by omega) (fun _ => by omega) (absurd rfl)) fun t m ht => ?_
  rw [← ht.line] at hoff hfault
  rw [← ht.isV] at hv
  have hhold := t.restartLine_hold l hoff hfault hv
  obtain ⟨hst, hreason, hfrom⟩ := t.restartLine_spec l hoff hfault hv
  rw [ht.2.2.2] at hhold hst
  rw [ht.line] at hfrom
  exact ⟨hst, hhold, hreason, hfrom.trans (by cases (s.line l).st <;> rfl)⟩

/-! ### BANK -/

theorem bankRequest_proposes (s : State) (ch : Channel) (l : Nat) (w : Word) (hl : l < 128)
    (hg : s.grants ch LTRAIN.CTRL.BANK l 0 (withOnes w LTRAIN.CTRL.BANK) = true) (hw : w.toNat % 16 / 2 = 0)
    (hv : s.isV l = true) (hall : ∀ m ∈ s.portLines l, (s.line m).st = .showtime) (hneg : (s.port l).neg = none) :
    s.runsTo (.bankRequest ch l w) fun t =>
      (t.port l).neg = some { ours := true, start := s.portSfc l, target := sfcAdd (s.portSfc l) 4, changes := [.bank], count := 1,
                              agreed := false, confirmed := false } ∧ t.lines = s.lines := by
  refine State.runsTo_trainCtrl (withLine_of_lt hl s _) hg (by decide) hl
    (trainTriggers_bits (absurd rfl) (fun _ => by omega) (fun _ => by omega) (fun _ => by omega)) fun t m ht => ?_
  have hready : (t.isV l && (t.portLines l).all fun k => decide ((t.line k).st = .showtime)) = true := by
    simpa [ht.isV, ht.portLines, ht.line, hv] using hall
  have hpropose : t.proposeBank l = t.propose l (sfcAdd (s.portSfc l) 4) [.bank] := by
    rw [State.proposeBank, hready, ← ht.portSfc]
    rfl
  have hours : ((t.proposeBank l).port l).neg = some
      { ours := true, start := s.portSfc l, target := sfcAdd (s.portSfc l) 4, changes := [.bank], count := 1,
        agreed := false, confirmed := false } := by
    rw [hpropose, t.propose_none _ _ _ (by rwa [ht.port]), ht.portSfc, State.port_modPort_self]
    simp [sfcAdd]
  have hlines : (t.proposeBank l).lines = s.lines := by rw [hpropose, State.propose_lines, ht.1.1]
  rw [State.trainAction_bank]
  generalize t.proposeBank l = u at hours hlines ⊢
  exact ⟨hours, hlines⟩

/-! ### WAKE -/

/-- Lines that begin to wake take their substate; the others and the ports stay. -/
theorem State.foldl_sub (ls : List Nat) (s : State) :
    (ls.foldl (fun s k => s.modLine k fun x => { x with sub := 1 }) s).ports = s.ports ∧
      ∀ m, (ls.foldl (fun s k => s.modLine k fun x => { x with sub := 1 }) s).line m =
        if m ∈ ls then { s.line m with sub := 1 } else s.line m := by
  induction ls generalizing s with
  | nil => exact ⟨rfl, fun _ => rfl⟩
  | cons k ls ih =>
    obtain ⟨hports, hline⟩ := ih (s.modLine k fun x => { x with sub := 1 })
    refine ⟨hports, fun m => (hline m).trans ?_⟩
    by_cases hk : m = k
    · subst hk
      simp
    · simp [State.line_modLine_ne s hk, hk]

theorem wakeRequest_wakes (s : State) (ch : Channel) (l : Nat) (w : Word) (hl : l < 128)
    (hg : s.grants ch LTRAIN.CTRL.WAKE l 0 (withOnes w LTRAIN.CTRL.WAKE) = true) (hb : w.toNat % 2 = 0)
    (hw : w.toNat % 16 / 4 = 0) (hv : s.isV l = true) (ha : s.isAnchor l = true) (hn : (s.port l).waking = 0)
    (hall : ∀ m ∈ s.portLines l, (s.line m).st = .banked) :
    s.runsTo (.wakeRequest ch l w) fun t =>
      (t.port l).waking = 1 ∧ (t.port l).wakeTries = 0 ∧ (t.port l).wakeSfc = sfcAdd (s.portSfc l) 1 ∧
      (∀ m ∈ s.portLines l, t.line m = { s.line m with sub := 1 }) ∧
      ∀ m, m ∉ s.portLines l → t.line m = s.line m := by
  refine State.runsTo_trainCtrl (withLine_of_lt hl s _) hg (by decide) hl
    (trainTriggers_bits (fun _ => by omega) (absurd rfl) (fun _ => by omega) (fun _ => by omega)) fun t m ht => ?_
  have hready : (t.isV l && t.isAnchor l && (t.port l).waking == 0 &&
      (t.portLines l).all fun k => decide ((t.line k).st = .banked)) = true := by
    simpa [ht.isV, ht.isAnchor, ht.port, ht.portLines, ht.line, hv, ha, hn] using hall
  have hwake : t.startWake l = (s.portLines l).foldl (fun s k => s.modLine k fun x => { x with sub := 1 })
      (t.modPort l fun x => { x with waking := 1, wakeTries := 0, wakeSfc := sfcAdd (s.portSfc l) 1 }) := by
    rw [State.startWake, hready, ← ht.portSfc, ← ht.portLines]
    rfl
  obtain ⟨hports, hline⟩ := State.foldl_sub (s.portLines l)
    (t.modPort l fun x => { x with waking := 1, wakeTries := 0, wakeSfc := sfcAdd (s.portSfc l) 1 })
  rw [← hwake] at hports hline
  rw [State.trainAction_wake]
  generalize t.startWake l = u at hports hline ⊢
  have hport : u.port l = { t.port l with waking := 1, wakeTries := 0, wakeSfc := sfcAdd (s.portSfc l) 1 } :=
    (congrArg (fun x : Store PortX => x.get {} l) hports).trans (State.port_modPort_self ..)
  have hkept (k : Nat) : u.line k = if k ∈ s.portLines l then { s.line k with sub := 1 } else s.line k := by
    rw [hline, ← ht.line]
    rfl
  change (u.port l).waking = 1 ∧ (u.port l).wakeTries = 0 ∧ (u.port l).wakeSfc = _ ∧
    (∀ k ∈ _, u.line k = _) ∧ ∀ k, k ∉ _ → u.line k = _
  rw [hport]
  exact ⟨rfl, rfl, rfl, fun k hk => (hkept k).trans (if_pos hk), fun k hk => (hkept k).trans (if_neg hk)⟩

end Sys2Proof.Machine
end

section
/-! A granted REFLECT (O52): a run in DIAG, a reason elsewhere (R202). -/

namespace Sys2Proof.Machine

/-- A run's erasure touches the masks alone (R25). -/
theorem State.startErasure_keeps (s : State) (tag : Nat) :
    (s.startErasure tag).refl = s.refl ∧ ∀ (G : Fld) (a b : Nat), G.event = false →
      G.id % 2048 ≠ LLOAD.ERASE.MASK.id % 2048 → (s.startErasure tag).g G a b = s.g G a b := by
  have hrefl (u : State) (l : Nat) : (u.refreshErase l).refl = u.refl := by
    unfold State.refreshErase State.setErase
    split
    · rw [State.cond_refl, State.wr_refl]
    · rfl
  have hg (G : Fld) (a b : Nat) (he : G.event = false) (h : G.id % 2048 ≠ LLOAD.ERASE.MASK.id % 2048) (u : State) (l : Nat) :
      (u.refreshErase l).g G a b = u.g G a b := by
    unfold State.refreshErase
    split
    · exact State.setErase_g he h ..
    · rfl
  unfold State.startErasure
  split
  · exact ⟨foldl_refl _ hrefl .., fun G a b he h => foldl_g G a b _ (hg G a b he h) ..⟩
  · exact ⟨rfl, fun _ _ _ _ _ => rfl⟩

/-- REFLECT with the narrow band in DIAG: its run waits for the slot, and a request of the page is in progress. -/
theorem State.startReflect_begins (s : State) (l : Nat) (hst : (s.line l).st = .diag) (hb : s.g LDIAG.REQ.BAND l = 2) :
    (s.startReflect l).refl.find l = some { band := 2, step := 2 } ∧
      (s.startReflect l).g (HDR.PAGE_STAT.BUSY .ldiag) l = 1 ∧ (s.startReflect l).g (HDR.RESULT_SEQ.STALE .ldiag) l = 1 := by
  unfold State.startReflect
  extract_lets b band s1 s2
  have hb2 : b = 2 := hb
  have hband : band = 2 := by simp [band, hb2]
  rw [if_neg (not_not.2 hst), if_neg (by simp [hb2])]
  obtain ⟨hrefl, hg⟩ := (s2.refreshOwner l).startErasure_keeps (s2.tag l)
  obtain ⟨howner, hkept⟩ := (State.Monitored.refl s2).refreshOwner l
  refine ⟨?_, ?_, ?_⟩
  · rw [hrefl, howner]
    exact (Store.find_put_self ..).trans (congrArg (fun n => some ({ band := n, step := 2 } : ReflX)) hband)
  · rw [hg _ _ _ rfl (by decide), hkept _ _ _ rfl rfl]
    exact s.beginResult_busy .ldiag l
  · rw [hg _ _ _ rfl (by decide), hkept _ _ _ rfl rfl]
    exact s.beginResult_stale .ldiag l

/-- A word of REQ. -/
theorem State.lineEffects_reflect (t : State) (ch : Channel) (l w : Nat) {act : List (Fld × Nat)}
    (h : hits act LDIAG.REQ.REFLECT = true) : t.lineEffects (wordAt ch .ldiag l 0x040 w) act = t.startReflect l := by
  simp only [State.lineEffects, h]
  rfl

theorem reflectRequest_answers (s : State) (ch : Channel) (l : Nat) (w : Word) (hl : l < 128)
    (hg : s.grants ch LDIAG.REQ.REFLECT l 0 (withOnes w LDIAG.REQ.REFLECT) = true) :
    ((s.line l).st = .diag → w.toNat / 256 % 4 = 2 →
      s.runsTo (.reflectRequest ch l w) fun t =>
        t.refl.find l = some { band := 2, step := 2 } ∧ t.g (HDR.PAGE_STAT.BUSY .ldiag) l = 1 ∧
        t.g (HDR.RESULT_SEQ.STALE .ldiag) l = 1) ∧
    ((s.line l).st ≠ .diag →
      s.runsTo (.reflectRequest ch l w) fun t =>
        t.g LDIAG.RSTAT.REASON l = 1 ∧ t.g (HDR.PAGE_STAT.BUSY .ldiag) l = 0 ∧
        t.g (HDR.RESULT_SEQ.SEQ .ldiag) l = nextSeq (s.g (HDR.RESULT_SEQ.SEQ .ldiag) l) % 2 ^ 16) := by
  have hline := s.storeWord_keeps (fun u => u.line l) (fun _ _ => rfl) ch (p := .ldiag) l 0x040
    (withOnes w LDIAG.REQ.REFLECT) (by decide)
  have hband := s.storeWord_trigger_g ch w (p := .ldiag) (off := 0x040) (i := l) (F := LDIAG.REQ.REFLECT)
    (G := LDIAG.REQ.BAND) (by decide) (by decide) rfl (by decide) rfl (by decide) (by decide)
  have hseq := s.storeWord_g_other ch (p := .ldiag) (off := 0x040) l (withOnes w LDIAG.REQ.REFLECT)
    (G := HDR.RESULT_SEQ.SEQ .ldiag) (by decide) l 0
  have hhit := hits_own_trigger s ch w (p := .ldiag) (off := 0x040) (i := l) (F := LDIAG.REQ.REFLECT) rfl (by decide)
    (by decide) rfl (by decide)
  rw [clampedField_bits_mod fun _ => rfl] at hband
  constructor
  · intro hst hw
    refine State.runsTo_granted (p := .ldiag) (off := 0x040) (withLine_of_lt hl s _) hg rfl rfl hl (by decide) (by decide)
      fun m _ _ => ?_
    rw [State.applyWord_line s (by decide) rfl, State.lineEffects_reflect _ _ _ _ hhit]
    generalize s.storeWord _ = t at hline hband ⊢
    exact t.startReflect_begins l ((congrArg LineX.st hline).trans hst) (hband.trans hw)
  · intro hst
    refine State.runsTo_granted (p := .ldiag) (off := 0x040) (withLine_of_lt hl s _) hg rfl rfl hl (by decide) (by decide)
      fun m _ _ => ?_
    rw [State.applyWord_line s (by decide) rfl, State.lineEffects_reflect _ _ _ _ hhit]
    generalize s.storeWord _ = t at hline hseq ⊢
    have hrefused : t.startReflect l = t.endReflect l 1 := by
      rw [State.startReflect]
      exact if_pos (by rwa [show t.line l = s.line l from hline])
    rw [hrefused]
    have hend := t.endReflect_ended l (reason := 1) (by decide)
    exact ⟨hend.reason_shown, hend.busy, hseq ▸ hend.seq⟩

end Sys2Proof.Machine
end

section
/-! Granted requests of calibration, of a line and of every line (O52; R226, R227). -/

namespace Sys2Proof.Machine

/-! ### A due entry -/

/-- A request makes its line due by REQUEST, and concerns no other line's calibration (R227). -/
theorem State.markDue_requested (s : State) (l moment : Nat) (full : Bool) :
    ((s.markDue l 2 moment full).calX l).request = true ∧ ((s.markDue l 2 moment full).calX l).due.isSome = true ∧
      ((s.markDue l 2 moment full).calX l).full = ((s.calX l).full || full) ∧
      (s.markDue l 2 moment full).g LAFE.CAL_STAT.SOURCE l = 2 ∧
      ∀ k, k ≠ l → (s.markDue l 2 moment full).calX k = s.calX k := by
  unfold State.markDue
  extract_lets s1 x
  have hreq : x.request = true := by simp [x, s1]
  have hx : (s1.wr LAFE.CAL_STAT.SOURCE (if x.request then 2 else (x.due.getD (0, 0)).1) l).calX l = x := rfl
  rw [hx]
  refine ⟨hreq, by simp [x, s1], by simp [x, s1], ?_,
    fun k hk => (State.calX_of_cal (State.wr_cal ..) k).trans (State.calX_modCal_ne _ hk _)⟩
  rw [State.g_wr_self, if_pos hreq]
  rfl

/-- Another line's due entry leaves a line's request and SOURCE. -/
theorem State.markDue_other (s : State) {k l : Nat} (h : k ≠ l) (source moment : Nat) (full : Bool) :
    (s.markDue l source moment full).calX k = s.calX k ∧
      (s.markDue l source moment full).g LAFE.CAL_STAT.SOURCE k = s.g LAFE.CAL_STAT.SOURCE k :=
  ⟨(State.calX_of_cal (State.wr_cal ..) k).trans (State.calX_modCal_ne _ h _),
    State.g_wr_of_inst (F := LAFE.CAL_STAT.SOURCE) (G := LAFE.CAL_STAT.SOURCE) (i := l) (a := k) h (by decide) (by decide) ..⟩

/-! ### Its line's word -/

/-- A word of CAL_REQ. -/
theorem State.lineEffects_calRequest (t : State) (ch : Channel) (l w : Nat) {act : List (Fld × Nat)}
    (h : hits act LAFE.CAL_REQ.REQUEST = true) : t.lineEffects (wordAt ch .lafe l 0x060 w) act = t.requestCal l := by
  simp only [State.lineEffects, h]
  rfl

/-- A request of the short kind. -/
theorem State.requestCal_short (s : State) (l : Nat) (h : s.g LAFE.CAL_REQ.FULL l = 0) :
    s.requestCal l = s.draw.2.markDue l 2 s.draw.1 false := by
  simp [State.requestCal, h]

/-- A FULL request outside OFF and DIAG is over at once, with STATE, and counted (R226, R231). -/
theorem State.requestCal_refused (s : State) (l : Nat) (h : s.g LAFE.CAL_REQ.FULL l = 1) (h0 : s.mode l ≠ 0)
    (h5 : s.mode l ≠ 5) :
    (s.requestCal l).g LAFE.CAL_STAT.REASON l = 7 ∧
      (s.requestCal l).g LAFE.ABORTS.ATTEMPTS l = satAdd 16 (s.g LAFE.ABORTS.ATTEMPTS l) 1 ∧
      (s.requestCal l).g (HDR.PAGE_STAT.BUSY .lafe) l = 0 ∧ (s.requestCal l).cal = s.cal ∧
      (s.requestCal l).lines = s.lines := by
  unfold State.requestCal
  extract_lets full s1 d
  rw [if_pos (by simp [full, h, h0, h5])]
  refine ⟨?_, ?_, ?_, by simp [s1], by simp [s1]⟩
  · simp (disch := decide) only [State.pulse_g, State.landResult, State.beginResult, State.g_wr_of_id, s1, State.bump,
      State.g_wr_self]
    rfl
  · simp (disch := decide) only [State.pulse_g, State.landResult, State.beginResult, State.g_wr_of_id, s1,
      State.g_bump_self]
    exact satAdd_mod 16 _ _
  · rw [State.pulse_g rfl]
    exact State.landResult_busy ..

theorem calRequest_answers (s : State) (ch : Channel) (l : Nat) (w : Word) (hl : l < 128)
    (hg : s.grants ch LAFE.CAL_REQ.REQUEST l 0 (withOnes w LAFE.CAL_REQ.REQUEST) = true) :
    (w.toNat % 2 = 0 →
      s.runsTo (.calRequest ch l w) fun t =>
        (t.calX l).request = true ∧ (t.calX l).due.isSome = true ∧ (t.calX l).full = (s.calX l).full ∧
        t.g LAFE.CAL_STAT.SOURCE l = 2 ∧ t.lines = s.lines ∧ ∀ k, k ≠ l → t.calX k = s.calX k) ∧
    (w.toNat % 2 = 1 → s.mode l ≠ 0 → s.mode l ≠ 5 →
      s.runsTo (.calRequest ch l w) fun t =>
        t.g LAFE.CAL_STAT.REASON l = 7 ∧ t.g LAFE.ABORTS.ATTEMPTS l = satAdd 16 (s.g LAFE.ABORTS.ATTEMPTS l) 1 ∧
        t.g (HDR.PAGE_STAT.BUSY .lafe) l = 0 ∧ t.cal = s.cal ∧ t.lines = s.lines) := by
  have hlines := s.storeWord_keeps State.lines (fun _ _ => rfl) ch (p := .lafe) l 0x060
    (withOnes w LAFE.CAL_REQ.REQUEST) (by decide)
  have hcal := s.storeWord_keeps State.cal (fun _ _ => rfl) ch (p := .lafe) l 0x060 (withOnes w LAFE.CAL_REQ.REQUEST) (by decide)
  have hfull := s.storeWord_trigger_g ch w (p := .lafe) (off := 0x060) (i := l) (F := LAFE.CAL_REQ.REQUEST)
    (G := LAFE.CAL_REQ.FULL) (by decide) (by decide) rfl (by decide) rfl (by decide) (by decide)
  have hmode := s.storeWord_g_other ch (p := .lafe) (off := 0x060) l (withOnes w LAFE.CAL_REQ.REQUEST)
    (G := LCTL.MODE.SEL) (by decide) l 0
  have hcount := s.storeWord_g_other ch (p := .lafe) (off := 0x060) l (withOnes w LAFE.CAL_REQ.REQUEST)
    (G := LAFE.ABORTS.ATTEMPTS) (by decide) l 0
  have hhit := hits_own_trigger s ch w (p := .lafe) (off := 0x060) (i := l) (F := LAFE.CAL_REQ.REQUEST) rfl (by decide)
    (by decide) rfl (by decide)
  rw [clampedField_bits_mod fun _ => rfl] at hfull
  have hbit : bits w.toNat LAFE.CAL_REQ.FULL.lo LAFE.CAL_REQ.FULL.w = w.toNat % 2 := by simp [bits, LAFE.CAL_REQ.FULL]
  rw [hbit] at hfull
  constructor
  · intro hw
    refine State.runsTo_granted (p := .lafe) (off := 0x060) (withLine_of_lt hl s _) hg rfl rfl hl (by decide) (by decide)
      fun m _ _ => ?_
    rw [State.applyWord_line s (by decide) rfl, State.lineEffects_calRequest _ _ _ _ hhit]
    generalize s.storeWord _ = t at hlines hcal hfull ⊢
    rw [t.requestCal_short l (hfull.trans hw)]
    obtain ⟨hreq, hdue, hkind, hsource, hother⟩ := t.draw.2.markDue_requested l t.draw.1 false
    have hcalX (k : Nat) : t.draw.2.calX k = s.calX k := State.calX_of_cal hcal k
    have hlast : (t.draw.2.markDue l 2 t.draw.1 false).lines = s.lines := (State.markDue_lines ..).trans hlines
    rw [hcalX, Bool.or_false] at hkind
    have hkept : ∀ k, k ≠ l → (t.draw.2.markDue l 2 t.draw.1 false).calX k = s.calX k := fun k hk =>
      (hother k hk).trans (hcalX k)
    generalize State.markDue _ _ _ _ _ = u at hreq hdue hkind hsource hlast hkept ⊢
    exact ⟨hreq, hdue, hkind, hsource, hlast, hkept⟩
  · intro hw h0 h5
    refine State.runsTo_granted (p := .lafe) (off := 0x060) (withLine_of_lt hl s _) hg rfl rfl hl (by decide) (by decide)
      fun m _ _ => ?_
    rw [State.applyWord_line s (by decide) rfl, State.lineEffects_calRequest _ _ _ _ hhit]
    generalize s.storeWord _ = t at hlines hcal hfull hmode hcount ⊢
    have hsame : t.mode l = s.mode l := hmode
    obtain ⟨hreason, hattempts, hbusy, hcals, hls⟩ := t.requestCal_refused l (hfull.trans hw) (by rwa [hsame]) (by rwa [hsame])
    rw [hcount] at hattempts
    rw [hcal] at hcals
    rw [hlines] at hls
    generalize t.requestCal l = u at hreason hattempts hbusy hcals hls ⊢
    exact ⟨hreason, hattempts, hbusy, hcals, hls⟩

/-! ### Every line's word -/

/-- REQ_ALL makes every line due by REQUEST. -/
theorem State.requestAll_requested (s : State) {l : Nat} (hl : l < 128) :
    ((s.requestAll.calX l).request = true ∧ (s.requestAll.calX l).due.isSome = true) ∧
      s.requestAll.g LAFE.CAL_STAT.SOURCE l = 2 := by
  have hmem : l ∈ allLines := List.mem_range.2 hl
  unfold State.requestAll
  extract_lets d
  generalize allLines = ls at hmem ⊢
  refine foldl_reaches
    (P := fun u : State => ((u.calX l).request = true ∧ (u.calX l).due.isSome = true) ∧ u.g LAFE.CAL_STAT.SOURCE l = 2)
    (c := l) (fun u k _ h => ?_) hmem (fun u => ?_) _
  · by_cases hk : l = k
    · subst hk
      obtain ⟨hreq, hdue, -, hsource, -⟩ := u.markDue_requested l d.1 false
      exact ⟨⟨hreq, hdue⟩, hsource⟩
    · obtain ⟨hx, hsource⟩ := u.markDue_other hk 2 d.1 false
      rw [hx, hsource]
      exact h
  · obtain ⟨hreq, hdue, -, hsource, -⟩ := u.markDue_requested l d.1 false
    exact ⟨⟨hreq, hdue⟩, hsource⟩

theorem State.requestAll_keepsLines (s : State) : s.requestAll.lines = s.lines := by
  unfold State.requestAll
  extract_lets d
  rw [foldl_lines _ fun _ _ => State.markDue_lines ..]
  rfl

/-- A word of CALMGR's CTRL. -/
theorem State.deviceEffects_requestAll (t : State) (ch : Channel) (w : Nat) {act : List (Fld × Nat)}
    (h : hits act CALMGR.CTRL.REQ_ALL = true) : t.deviceEffects (wordAt ch .calmgr 0 0x040 w) act = t.requestAll := by
  simp only [State.deviceEffects, h]
  rfl

theorem calReqAll_requests (s : State) (ch : Channel) (l : Nat) (w : Word) (hl : l < 128)
    (hg : s.grants ch CALMGR.CTRL.REQ_ALL 0 0 (withOnes w CALMGR.CTRL.REQ_ALL) = true) :
    s.runsTo (.calReqAll ch w) fun t =>
      (t.calX l).request = true ∧ (t.calX l).due.isSome = true ∧ t.g LAFE.CAL_STAT.SOURCE l = 2 ∧ t.lines = s.lines := by
  have hlines := s.storeWord_keeps State.lines (fun _ _ => rfl) ch (p := .calmgr) 0 0x040
    (withOnes w CALMGR.CTRL.REQ_ALL) (by decide)
  refine State.runsTo_granted (p := .calmgr) (off := 0x040) rfl hg rfl rfl (by decide) (by decide) (by decide) fun m _ _ => ?_
  rw [State.applyWord_device s (by decide) rfl,
    State.deviceEffects_requestAll _ _ _ (hits_own_trigger s ch w rfl (by decide) (by decide) rfl (by decide))]
  generalize s.storeWord _ = t at hlines ⊢
  obtain ⟨⟨hreq, hdue⟩, hsource⟩ := t.requestAll_requested hl
  have hkept := t.requestAll_keepsLines.trans hlines
  rw [State.calX_of_cal (State.modMgmt_cal _ _), State.modMgmt_g, State.modMgmt_lines]
  exact ⟨hreq, hdue, hsource, hkept⟩

end Sys2Proof.Machine
end

section
/-! A granted RESTART of the standard partner's negotiation (O52): the link goes down and is counted (R241). -/

namespace Sys2Proof.Machine

theorem State.Monitored.refreshQuad (s : State) (q : Nat) : State.Monitored s (s.refreshQuad q) :=
  List.foldlRecOn (motive := fun t : State => State.Monitored s t) _ _ (.refl s) fun _ h l _ => h.refreshOwner l

/-- A negotiation that starts has no link, and counts none lost. -/
theorem State.startNegotiation_link (s : State) (q : Nat) :
    (s.startNegotiation q).g LSTD.STATUS.LINK q = 0 ∧
      (s.startNegotiation q).g LSTD.LINK_DOWN.COUNT q = s.g LSTD.LINK_DOWN.COUNT q := by
  have hg (G : Fld) : (s.startNegotiation q).g G q = (s.clearLink q).g G q := by
    rw [State.startNegotiation, State.modStd_g, State.refreshFill, State.modPort_g]
  rw [hg, hg]
  unfold State.clearLink
  simp (disch := decide) only [List.foldl, State.g_wr_of_id, State.g_wr_self]
  decide

/-- A link that is lost is down, and counted. -/
theorem State.loseLink_counts (s : State) (q : Nat) (h : s.g LSTD.STATUS.LINK q ≠ 0) :
    (s.loseLink q).g LSTD.STATUS.LINK q = 0 ∧
      (s.loseLink q).g LSTD.LINK_DOWN.COUNT q = satAdd 32 (s.g LSTD.LINK_DOWN.COUNT q) 1 := by
  unfold State.loseLink
  rw [if_neg h]
  extract_lets s1 s2
  obtain ⟨-, hkept⟩ := State.Monitored.refreshQuad (s2.startNegotiation q) q
  obtain ⟨hlink, hcount⟩ := s2.startNegotiation_link q
  have hdown : s2.g LSTD.LINK_DOWN.COUNT q = satAdd 32 (s.g LSTD.LINK_DOWN.COUNT q) 1 := by
    simp (disch := decide) only [s2, State.modStd_g, State.g_wr_of_id, s1, State.pulse_g, State.g_bump_self]
    exact satAdd_mod 32 _ _
  rw [hkept _ _ _ rfl rfl, hkept _ _ _ rfl rfl]
  exact ⟨hlink, hcount.trans hdown⟩

/-- A word of ADV. -/
theorem State.lineEffects_anRestart (t : State) (ch : Channel) (l w : Nat) {act : List (Fld × Nat)}
    (h : hits act LSTD.ADV.RESTART = true) : t.lineEffects (wordAt ch .lstd l 0x040 w) act = t.restartNegotiation l := by
  simp only [State.lineEffects, h]
  rfl

theorem anRestart_drops (s : State) (ch : Channel) (l : Nat) (w : Word) (hl : l < 128)
    (hg : s.grants ch LSTD.ADV.RESTART l 0 (withOnes w LSTD.ADV.RESTART) = true) (hst : (s.line l).st = .standard)
    (hup : s.g LSTD.STATUS.LINK l = 1) :
    s.runsTo (.anRestart ch l w) fun t =>
      t.g LSTD.STATUS.LINK l = 0 ∧ t.g LSTD.LINK_DOWN.COUNT l = satAdd 32 (s.g LSTD.LINK_DOWN.COUNT l) 1 := by
  have hline := s.storeWord_keeps (fun u => u.line l) (fun _ _ => rfl) ch (p := .lstd) l 0x040
    (withOnes w LSTD.ADV.RESTART) (by decide)
  have hlink := s.storeWord_g_other ch (p := .lstd) (off := 0x040) l (withOnes w LSTD.ADV.RESTART)
    (G := LSTD.STATUS.LINK) (by decide) l 0
  have hcount := s.storeWord_g_other ch (p := .lstd) (off := 0x040) l (withOnes w LSTD.ADV.RESTART)
    (G := LSTD.LINK_DOWN.COUNT) (by decide) l 0
  refine State.runsTo_granted (p := .lstd) (off := 0x040) (withLine_of_lt hl s _) hg rfl rfl hl (by decide) (by decide)
    fun m _ _ => ?_
  rw [State.applyWord_line s (by decide) rfl,
    State.lineEffects_anRestart _ _ _ _ (hits_own_trigger s ch w rfl (by decide) (by decide) rfl (by decide))]
  generalize s.storeWord _ = t at hline hlink hcount ⊢
  have hstandard : (t.line l).st = .standard := (congrArg LineX.st hline).trans hst
  have hlost : t.restartNegotiation l = t.loseLink l := by
    rw [State.restartNegotiation, if_pos hstandard, if_pos (hlink.trans hup)]
  obtain ⟨hdown, hcounted⟩ := t.loseLink_counts l (by rw [hlink, hup]; decide)
  rw [hcount] at hcounted
  rw [hlost, State.modMgmt_g, State.modMgmt_g]
  exact ⟨hdown, hcounted⟩

end Sys2Proof.Machine
end

section
/-! A line's ENABLE: that the work on lines, ports and calibrations leaves it alone (R122). -/

namespace Sys2Proof.Machine

/-- The ENABLE of every line. -/
def State.enables (s : State) : Nat → Nat := fun l => s.g (HDR.PAGE_CTRL.ENABLE .lctl) l

/-- The field is a line's ENABLE. -/
def Fld.enables (F : Fld) : Bool := F.id % 2048 == (HDR.PAGE_CTRL.ENABLE .lctl).id % 2048

/-- A step that writes no register. -/
theorem State.enables_of_regs {s t : State} (h : t.regs = s.regs) : t.enables = s.enables := by
  funext l
  rw [State.enables, State.enables, State.g, h, State.g]

theorem State.Logs.enables {s t : State} (h : State.Logs s t) : t.enables = s.enables :=
  funext fun l => h.g (G := HDR.PAGE_CTRL.ENABLE .lctl) rfl l 0

/-! ### Single steps -/

@[simp] theorem State.ite_enables (c : Prop) [Decidable c] (s t : State) :
    (if c then s else t).enables = if c then s.enables else t.enables := by split <;> rfl

@[simp] theorem foldl_enables {β : Type} (f : State → β → State) (h : ∀ s b, (f s b).enables = s.enables) (l : List β)
    (s : State) : (l.foldl f s).enables = s.enables := State.foldl_same h l s

@[simp] theorem State.wr_enables (s : State) (F : Fld) (v i j : Nat) (h : F.enables = false) :
    (s.wr F v i j).enables = s.enables :=
  funext fun _ => State.g_wr_of_id (fun e => by rw [Fld.enables, ← e, beq_self_eq_true] at h; cases h) ..

@[simp] theorem State.bump_enables (s : State) (F : Fld) (i k j : Nat) (h : F.enables = false) :
    (s.bump F i k j).enables = s.enables := State.wr_enables _ _ _ _ _ h

@[simp] theorem State.edges_enables (s : State) (p : Page) (i m : Nat) : (s.edges p i m).enables = s.enables :=
  (State.Logs.edges s p i m).enables

@[simp] theorem State.pulse_enables (s : State) (p : Page) (i b : Nat) : (s.pulse p i b).enables = s.enables :=
  (State.Logs.pulse s p i b).enables

@[simp] theorem State.cond_enables (s : State) (p : Page) (i b : Nat) (on : Bool) : (s.cond p i b on).enables = s.enables :=
  (State.Logs.cond s p i b on).enables

@[simp] theorem State.setXe_enables (s : State) (x : XeX) : State.enables { s with xe := x } = s.enables := rfl
@[simp] theorem State.setPosts_enables (s : State) (x : List Post) : State.enables { s with posts := x } = s.enables := rfl
@[simp] theorem State.setRun_enables (s : State) (x : Option MailRun) : State.enables { s with run := x } = s.enables := rfl
@[simp] theorem State.setReach_enables (s : State) (x : Store ReachX) : State.enables { s with reach := x } = s.enables := rfl
@[simp] theorem State.draw_enables (s : State) : s.draw.2.enables = s.enables := rfl
@[simp] theorem State.modLine_enables (s : State) (l : Nat) (f : LineX → LineX) : (s.modLine l f).enables = s.enables := rfl
@[simp] theorem State.modPort_enables (s : State) (p : Nat) (f : PortX → PortX) : (s.modPort p f).enables = s.enables := rfl
@[simp] theorem State.modMon_enables (s : State) (l : Nat) (f : MonX → MonX) : (s.modMon l f).enables = s.enables := rfl
@[simp] theorem State.modReach_enables (s : State) (l : Nat) (f : ReachX → ReachX) : (s.modReach l f).enables = s.enables := rfl
@[simp] theorem State.modCal_enables (s : State) (l : Nat) (f : CalX → CalX) : (s.modCal l f).enables = s.enables := rfl

@[simp] theorem seq_enables (p : Page) : (HDR.RESULT_SEQ.SEQ p).enables = false := by cases p <;> rfl
@[simp] theorem stale_enables (p : Page) : (HDR.RESULT_SEQ.STALE p).enables = false := by cases p <;> rfl
@[simp] theorem busy_enables (p : Page) : (HDR.PAGE_STAT.BUSY p).enables = false := by cases p <;> rfl
@[simp] theorem lock_enables (p : Page) : (HDR.PAGE_CTRL.LOCK p).enables = false := by cases p <;> rfl
@[simp] theorem result_enables (p : Page) : (HDR.ENV_STAT.RESULT p).enables = false := by cases p <;> rfl
@[simp] theorem steps_enables (p : Page) : (HDR.ENV_STAT.STEPS p).enables = false := by cases p <;> rfl
@[simp] theorem split_enables (p : Page) : (HDR.ENV_STAT.SPLIT p).enables = false := by cases p <;> rfl

@[simp] theorem State.landResult_enables (s : State) (p : Page) (i : Nat) : (s.landResult p i).enables = s.enables := by
  simp [State.landResult]

@[simp] theorem State.noteS1_enables (s : State) (code src addr : Nat) : (s.noteS1 code src addr).enables = s.enables :=
  (State.Logs.noteS1 s code src addr).enables

/-! ### Posts and negotiations -/

@[simp] theorem State.finishPost_enables (s : State) (p : Page) (i r : Nat) : (s.finishPost p i r).enables = s.enables := by
  simp [State.finishPost, State.setResult, State.dropPost]

@[simp] theorem State.setPhase_enables (s : State) (p : Page) (i : Nat) (ph : PostPhase) (t : Option Nat) :
    (s.setPhase p i ph t).enables = s.enables := rfl

@[simp] theorem State.regridPosts_enables (s : State) (sel : Post → Bool) (now : Nat) :
    (s.regridPosts sel now).enables = s.enables := by
  refine foldl_enables _ (fun s x => ?_) _ s
  (repeat' split) <;> simp

theorem State.wr_lock_enables (s : State) (e : Page × Nat × Nat) :
    (s.wr (HDR.PAGE_CTRL.LOCK e.1) e.2.2 e.2.1).enables = s.enables := State.wr_enables s _ _ _ _ (lock_enables e.1)

@[simp] theorem State.landLocks_enables (s : State) (locks : List (Page × Nat × Nat)) :
    (s.landLocks locks).enables = s.enables := by
  unfold State.landLocks
  exact foldl_enables _ State.wr_lock_enables _ _

@[simp] theorem State.endRun_enables (s : State) (r : Nat) : (s.endRun r).enables = s.enables := by
  unfold State.endRun
  rw [State.landLocks_enables, State.setRun_enables]
  exact State.wr_enables s _ _ _ _ rfl

@[simp] theorem State.withdrawRun_enables (s : State) : s.withdrawRun.enables = s.enables := by
  refine foldl_enables _ (fun s x => ?_) _ s
  (repeat' split) <;> simp

@[simp] theorem State.abortNeg_enables (s : State) (p : Nat) : (s.abortNeg p).enables = s.enables := by
  simp [State.abortNeg, State.refusePosts, State.dismissMembers]

@[simp] theorem State.propose_enables (s : State) (p target : Nat) (cs : List Change) :
    (s.propose p target cs).enables = s.enables := by
  unfold State.propose
  split <;> simp

/-! ### The figures of a port, the chain and the modem of a line -/

@[simp] theorem State.refreshPort_enables (s : State) (p : Nat) : (s.refreshPort p).enables = s.enables := by
  have hfields : ∀ F ∈ figureFields, (HDR.PAGE_CTRL.ENABLE .lctl).id % 2048 ≠ F.id % 2048 := by decide
  exact funext fun l => State.refreshPort_g rfl hfields s p l 0

@[simp] theorem State.refreshOwner_enables (s : State) (l : Nat) : (s.refreshOwner l).enables = s.enables := by
  obtain ⟨-, hg⟩ := (State.Monitored.refl s).refreshOwner l
  exact funext fun k => hg _ k 0 rfl rfl

@[simp] theorem State.cutCapture_enables (s : State) (l r : Nat) : (s.cutCapture l r).enables = s.enables := by
  obtain ⟨-, hg⟩ := (State.Monitored.refl s).cutCapture l r
  exact funext fun k => hg _ k 0 rfl rfl

@[simp] theorem State.stopChain_enables (s : State) (l : Nat) : (s.stopChain l).enables = s.enables := by
  simp [State.stopChain]

@[simp] theorem State.setErase_enables (s : State) (l mask : Nat) : (s.setErase l mask).enables = s.enables :=
  funext fun k => State.setErase_g rfl (by decide) s l mask k 0

@[simp] theorem State.refreshErase_enables (s : State) (l : Nat) : (s.refreshErase l).enables = s.enables := by
  simp [State.refreshErase]

@[simp] theorem State.startErasure_enables (s : State) (tag : Nat) : (s.startErasure tag).enables = s.enables := by
  simp [State.startErasure]

@[simp] theorem State.moveErase_enables (s : State) (l : Nat) (old : LineState) : (s.moveErase l old).enables = s.enables := by
  simp [State.moveErase]

@[simp] theorem State.showTable_enables (s : State) (l : Nat) : (s.showTable l).enables = s.enables := by
  simp +decide [State.showTable]

@[simp] theorem State.settleMask_enables (s : State) (l : Nat) : (s.settleMask l).enables = s.enables := by
  simp +decide [State.settleMask, State.setRmask]

@[simp] theorem State.sendDue_enables (s : State) (l : Nat) : (s.sendDue l).enables = s.enables := by
  unfold State.sendDue
  dsimp only
  split <;> simp +decide [State.noteGo, State.startTx]

@[simp] theorem State.stopModem_enables (s : State) (l : Nat) (off : Bool) : (s.stopModem l off).enables = s.enables := by
  simp +decide [State.stopModem]

/-! ### Lines -/

@[simp] theorem State.wantClear_enables (s : State) (l : Nat) : (s.wantClear l).enables = s.enables := rfl

/-- A line that leaves FAULTED: its driver stays CLEAR until its next symbol. -/
theorem State.resume_enables (s : State) (l : Nat) :
    (((({ s with xe := { s.xe with resuming := insertSorted l s.xe.resuming } } : State).modLine l
      fun x => { x with ocHeld := false }).wr LAFE.STAT.OC 0 l).cond .lafe l 5 false).enables = s.enables :=
  (State.cond_enables ..).trans (State.wr_enables _ _ _ _ _ rfl)

@[simp] theorem State.moveLine_enables (s : State) (l : Nat) (st : LineState) (sub : Nat) :
    (s.moveLine l st sub).enables = s.enables := by
  unfold State.moveLine
  extract_lets old lost s1 s2 s3 s4 entered left s5 s6 s7 s8 runs s9 s10 x resumed s11
  have h2 : s2.enables = s.enables := by simp [s2, s1]
  split
  · exact h2
  · have h6 : s6.enables = s.enables := by simp +decide [s6, s5, s4, s3, State.capture, h2]
    have h10 : s10.enables = s.enables := by simp [s10, s9, s8, s7, h6]
    have h11 : s11.enables = s.enables := by
      unfold s11
      split
      · exact (State.resume_enables s10 l).trans h10
      · exact h10
    simp [h11]

@[simp] theorem State.noteReason_enables (s : State) (l r : Nat) : (s.noteReason l r).enables = s.enables := by
  simp +decide [State.noteReason]

@[simp] theorem State.noteExit_enables (s : State) (l r : Nat) : (s.noteExit l r).enables = s.enables := by
  simp [State.noteExit]

@[simp] theorem State.leaveActive_enables (s : State) (l : Nat) : (s.leaveActive l).enables = s.enables := by
  unfold State.leaveActive
  split
  · exact State.enables_of_regs rfl
  · rfl

@[simp] theorem State.forgetLine_enables (s : State) (l : Nat) : (s.forgetLine l).enables = s.enables := by
  simp [State.forgetLine, State.noteRotated]

@[simp] theorem State.quietOne_enables (s : State) (l r h : Nat) : (s.quietOne l r h).enables = s.enables := by
  simp +decide [State.quietOne, State.forgetAttempt]

@[simp] theorem State.quietPeers_enables (s : State) (l : Nat) : (s.quietPeers l).enables = s.enables := by
  simp [State.quietPeers]

/-! ### Joins and ports -/

@[simp] theorem State.queueJoin_enables (s : State) (p : Nat) : (s.queueJoin p).enables = s.enables := by
  simp [State.queueJoin]

@[simp] theorem State.unqueueJoin_enables (s : State) (p : Nat) : (s.unqueueJoin p).enables = s.enables := rfl

@[simp] theorem State.unjoin_enables (s : State) (ls : List Nat) (l : Nat) : (s.unjoin ls l).enables = s.enables := by
  simp [State.unjoin]

@[simp] theorem State.failJoin_enables (s : State) (ls : List Nat) : (s.failJoin ls).enables = s.enables := by
  unfold State.failJoin
  split <;> simp

@[simp] theorem State.failJoinOf_enables (s : State) (l : Nat) (ls : List Nat) : (s.failJoinOf l ls).enables = s.enables := by
  unfold State.failJoinOf
  split <;> simp

@[simp] theorem State.emptyPort_enables (s : State) (p : Nat) : (s.emptyPort p).enables = s.enables := by
  simp +decide [State.emptyPort, State.countLost]

@[simp] theorem State.leftShowtime_enables (s : State) (l : Nat) : (s.leftShowtime l).enables = s.enables := by
  simp [State.leftShowtime]

@[simp] theorem State.dropFromPort_enables (s : State) (l : Nat) : (s.dropFromPort l).enables = s.enables := by
  simp [State.dropFromPort]

@[simp] theorem State.lineGone_enables (s : State) (l : Nat) (old : LineState) : (s.lineGone l old).enables = s.enables := by
  simp [State.lineGone]

theorem State.holdOff_enables (s : State) (l : Nat) : (s.holdOff l).enables = s.enables := by
  simp [State.holdOff]

/-! ### The end of a calibration -/

@[simp] theorem State.freeSlot_enables (s : State) (l : Nat) : (s.freeSlot l).enables = s.enables :=
  funext fun k => State.freeSlot_g (by decide) (by decide) s l k 0

@[simp] theorem State.factoryValues_enables (s : State) (l : Nat) : (s.factoryValues l).enables = s.enables := by
  simp +decide [State.factoryValues]

@[simp] theorem State.giveUpCal_enables (s : State) (l : Nat) : (s.giveUpCal l).enables = s.enables := by
  simp +decide [State.giveUpCal]

@[simp] theorem State.endCal_enables (s : State) (l r : Nat) : (s.endCal l r).enables = s.enables := by
  simp +decide [State.endCal]

@[simp] theorem State.showMeasured_enables (s : State) (l : Nat) (both : Bool) : (s.showMeasured l both).enables = s.enables := by
  simp +decide [State.showMeasured]

theorem State.stopCal_enables (s : State) (l r : Nat) : (s.stopCal l r).enables = s.enables := by
  unfold State.stopCal
  dsimp only
  (repeat' split) <;> simp [State.cutRun]

end Sys2Proof.Machine
end

section
/-! A granted ENABLE 0 of a line (O52), and the obligation (R122). -/

namespace Sys2Proof.Machine

/-! ### The word of a line's PAGE_CTRL -/

theorem fieldsAt_lineCtrl : fieldsAt .lctl 0x004 = [(HDR.PAGE_CTRL.LOCK .lctl, 0), (HDR.PAGE_CTRL.FREEZE .lctl, 0),
    (HDR.PAGE_CTRL.SOFT_RESET .lctl, 0), (HDR.PAGE_CTRL.ENABLE .lctl, 0)] := by decide

theorem State.storeWord_lineCtrl (s : State) (ch : Channel) (l w : Nat) :
    s.storeWord (wordAt ch .lctl l 0x004 w) =
      ((s.wr (HDR.PAGE_CTRL.LOCK .lctl) (bits w 3 1) l).wr (HDR.PAGE_CTRL.FREEZE .lctl) (bits w 2 1) l).wr
        (HDR.PAGE_CTRL.ENABLE .lctl) (bits w 0 1) l := by
  unfold State.storeWord WordWrite.fields wordAt
  rw [fieldsAt_lineCtrl]
  rfl

/-- FREEZE and ENABLE read as they are stored. -/
theorem State.value_lineCtrl (s : State) (l j : Nat) {F : Fld}
    (hF : F = HDR.PAGE_CTRL.FREEZE .lctl ∨ F = HDR.PAGE_CTRL.ENABLE .lctl) : s.value F l j = s.g F l := by
  rcases hF with rfl | rfl
  · simp +decide [State.value, State.liveHeader]
  · simp +decide [State.value, State.liveHeader]

/-- A setting of the word acts where it changes. -/
theorem hits_lineCtrl (s : State) (ch : Channel) (l w : Nat) {F : Fld}
    (hF : F = HDR.PAGE_CTRL.FREEZE .lctl ∨ F = HDR.PAGE_CTRL.ENABLE .lctl) :
    hits (s.acted (wordAt ch .lctl l 0x004 w)) F = decide (bits w F.lo F.w ≠ s.g F l) := by
  have hthere : fieldThere F l = true ∧ F.acc = .rw ∧ F.off = 0x004 := by
    rcases hF with rfl | rfl
    · exact ⟨rfl, rfl, rfl⟩
    · exact ⟨rfl, rfl, rfl⟩
  obtain ⟨hthere, hacc, hoff⟩ := hthere
  have hact (j : Nat) : s.actsOn (wordAt ch .lctl l 0x004 w) (F, j) = decide (bits w F.lo F.w ≠ s.g F l) := by
    unfold State.actsOn State.current
    simp only [WordWrite.carried_bits (wordAt ch .lctl l 0x004 w) F (by omega), hacc]
    change (fieldThere F l && bits w F.lo F.w != s.value F l j) = _
    rw [hthere, Bool.true_and, s.value_lineCtrl l j hF]
    exact Bool.eq_iff_iff.2 (bne_iff_ne.trans decide_eq_true_iff.symm)
  have hmem : (F, 0) ∈ (wordAt ch .lctl l 0x004 w).fields := by
    refine mem_fields_wordAt.2 ⟨?_, hthere⟩
    rw [fieldsAt_lineCtrl]
    rcases hF with rfl | rfl
    · simp
    · simp
  rw [Bool.eq_iff_iff, hits_iff]
  constructor
  · rintro ⟨j, -, hj⟩
    exact (hact j) ▸ hj
  · exact fun h => ⟨0, hmem, (hact 0).trans h⟩

theorem bits_withValue_enable (w : Word) :
    bits (withValue w (HDR.PAGE_CTRL.ENABLE .lctl) 0) 0 1 = 0 ∧
      bits (withValue w (HDR.PAGE_CTRL.ENABLE .lctl) 0) 1 1 = w.toNat / 2 % 2 ∧
      bits (withValue w (HDR.PAGE_CTRL.ENABLE .lctl) 0) 2 1 = w.toNat / 4 % 2 := by
  have hv : withValue w (HDR.PAGE_CTRL.ENABLE .lctl) 0 = w.toNat - w.toNat % 2 := by
    simp [withValue, bits, HDR.PAGE_CTRL.ENABLE]
  rw [hv]
  unfold bits
  omega

/-- A word that turns the page off, without a reset or a change of FREEZE: the calibration ends and the line is held OFF
(R122, R231). -/
theorem State.applyWord_lineOff (s : State) (ch : Channel) (l w : Nat) (hon : s.g (HDR.PAGE_CTRL.ENABLE .lctl) l = 1)
    (h0 : bits w 0 1 = 0) (h1 : bits w 1 1 = 0) (h2 : bits w 2 1 = s.g (HDR.PAGE_CTRL.FREEZE .lctl) l)
    (hst : (s.line l).st ≠ .faulted) :
    s.applyWord (wordAt ch .lctl l 0x004 w) =
      ((s.storeWord (wordAt ch .lctl l 0x004 w)).stopCal l 5).holdOff l := by
  have hno (F : Fld) (hc : F.cnt = 1) (ho : F.off ≠ 0x004) : hits (s.acted (wordAt ch .lctl l 0x004 w)) F = false :=
    hits_other_word s ch l w hc ho
  have henable : hits (s.acted (wordAt ch .lctl l 0x004 w)) (HDR.PAGE_CTRL.ENABLE .lctl) = true := by
    rw [hits_lineCtrl s ch l w (.inr rfl), hon, decide_eq_true_eq]
    change bits w 0 1 ≠ 1
    omega
  have hfreeze : hits (s.acted (wordAt ch .lctl l 0x004 w)) (HDR.PAGE_CTRL.FREEZE .lctl) = false := by
    rw [hits_lineCtrl s ch l w (.inl rfl), ← h2]
    exact decide_eq_false (not_not.2 rfl)
  have hreset : hits (s.acted (wordAt ch .lctl l 0x004 w)) (HDR.PAGE_CTRL.SOFT_RESET .lctl) = false := by
    rw [hits_trigger s _ rfl (mem_fields_wordAt.2 ⟨by decide, rfl⟩) (by decide)]
    exact decide_eq_false (not_not.2 h1)
  have hstored : (s.storeWord (wordAt ch .lctl l 0x004 w)).enabled .lctl l = false := by
    rw [State.storeWord_lineCtrl, State.enabled, State.g_wr_self, h0]
    rfl
  have hline : ((s.storeWord (wordAt ch .lctl l 0x004 w)).line l).st ≠ .faulted := by
    rw [State.storeWord_lineCtrl]
    exact hst
  unfold State.applyWord
  dsimp only
  rw [if_pos (show (wordAt ch .lctl l 0x004 w).off < 0x040 by simp [wordAt])]
  generalize s.storeWord _ = t at hstored hline ⊢
  have heffect : t.enableEffect .lctl l = (t.stopCal l 5).holdOff l := by
    simp only [State.enableEffect, hline, hstored]
    rfl
  rw [← heffect]
  unfold State.headerEffects
  have hpage : (wordAt ch .lctl l 0x004 w).page = .lctl := rfl
  simp only [hpage, henable, hfreeze, hreset, hno (HDR.EVT_EN.EN .lctl) rfl (by decide),
    hno (HDR.EVT_PEND.PEND .lctl) rfl (by decide), hno (HDR.EVT_INJECT.INJECT .lctl) rfl (by decide),
    hno (HDR.EVT_COUNT.CLR .lctl) rfl (by decide), hno (HDR.ENV_CTRL.DISCARD .lctl) rfl (by decide),
    hno (HDR.ENV_CTRL.POST .lctl) rfl (by decide), Bool.or_self, Bool.false_eq_true, if_false, if_true]
  rfl

theorem lineDisable_turnsOff (s : State) (ch : Channel) (l : Nat) (w : Word) (hl : l < 128)
    (hg : s.grants ch (HDR.PAGE_CTRL.ENABLE .lctl) l 0 (withValue w (HDR.PAGE_CTRL.ENABLE .lctl) 0) = true)
    (hon : s.g (HDR.PAGE_CTRL.ENABLE .lctl) l = 1) (hr : w.toNat / 2 % 2 = 0)
    (hf : w.toNat / 4 % 2 = s.g (HDR.PAGE_CTRL.FREEZE .lctl) l) (hst : (s.line l).st ≠ .faulted) :
    s.runsTo (.lineDisable ch l w) fun t => (t.line l).st = .off ∧ t.g (HDR.PAGE_CTRL.ENABLE .lctl) l = 0 := by
  obtain ⟨b0, b1, b2⟩ := bits_withValue_enable w
  refine State.runsTo_granted (p := .lctl) (off := 0x004) (withLine_of_lt hl s _) hg rfl rfl hl (by decide) (by decide)
    fun m _ _ => ?_
  rw [s.applyWord_lineOff ch l _ hon b0 (b1.trans hr) (b2.trans hf) hst]
  have hoff : (s.storeWord (wordAt ch .lctl l 0x004 (withValue w (HDR.PAGE_CTRL.ENABLE .lctl) 0))).enables l = 0 := by
    rw [State.storeWord_lineCtrl, b0]
    exact State.g_wr_self ..
  generalize s.storeWord _ = t at hoff ⊢
  have henables : ((t.stopCal l 5).holdOff l).enables = t.enables := (State.holdOff_enables ..).trans (State.stopCal_enables ..)
  obtain ⟨hline, -⟩ := (t.stopCal l 5).holdOff_spec l
  have hmgmt : (((t.stopCal l 5).holdOff l).modMgmt fun _ => m).line l = ((t.stopCal l 5).holdOff l).line l :=
    State.line_of_lines (State.modMgmt_lines ..) l
  rw [hmgmt, State.modMgmt_g]
  exact ⟨hline, (congrFun henables l).trans hoff⟩

/-! ### The obligation -/

/-- Settles O52: each word by its own lemma. -/
theorem lineWrites : Obligations.LineWrites := fun s ch l w hl =>
  ⟨lineDisable_turnsOff s ch l w hl, lineRetrain_retrains s ch l w hl,
    fun hg hw hv hoff hfault _ => lineRestart_restarts s ch l w hl hg hw hv hoff hfault, bankRequest_proposes s ch l w hl,
    wakeRequest_wakes s ch l w hl, reflectRequest_answers s ch l w hl, calRequest_answers s ch l w hl,
    calReqAll_requests s ch l w hl, anRestart_drops s ch l w hl⟩

end Sys2Proof.Machine
end

section
/-! What the receiver's profile and the records to the host leave of the Reach modem (R155, R177, R187, R221). -/

namespace Sys2Proof.Machine

/-! ### The fields of an LREACH page -/

/-- A block field of an LREACH page (R181). -/
def Fld.ofReach (F : Fld) : Bool := lreachFields.contains F

theorem Fld.ofReach_id {G : Fld} (hG : G.ofReach = true) : 512 ≤ G.id % 2048 ∧ G.id % 2048 ≤ 548 := by
  have hids : ∀ F ∈ lreachFields, 512 ≤ F.id % 2048 ∧ F.id % 2048 ≤ 548 := by decide
  exact hids G (List.contains_iff_mem.mp hG)

theorem Fld.ofReach_event {G : Fld} (hG : G.ofReach = true) : G.event = false := by
  have hid := Fld.ofReach_id hG
  simp only [Fld.event, Bool.or_eq_false_iff, Bool.and_eq_false_iff, beq_eq_false_iff_ne, decide_eq_false_iff_not]
  omega

theorem Fld.ofReach_monitors {G : Fld} (hG : G.ofReach = true) : G.monitors = false := by
  have hid := Fld.ofReach_id hG
  simp only [Fld.monitors, Bool.or_eq_false_iff, decide_eq_false_iff_not]
  omega

theorem Fld.ofReach_streamed {G : Fld} (hG : G.ofReach = true) : G.streamed = false := by
  have hid := Fld.ofReach_id hG
  have hids : ∀ F ∈ streamCounters, F.id % 2048 < 512 := by decide
  simp only [Fld.streamed, Fld.ofReach_event hG, Bool.false_or, List.any_eq_false, beq_iff_eq]
  intro F hF he
  have := hids F hF
  omega

/-! ### The other parts -/

theorem State.reachX_modReach_ne (s : State) {l k : Nat} (h : k ≠ l) (f : ReachX → ReachX) :
    (s.modReach l f).reachX k = s.reachX k := by
  simp [State.reachX, State.modReach, Store.get_set_ne _ _ _ _ h]

/-! ### The receiver's profile (R155, R187, R221) -/

@[simp] theorem State.finishCapture_reach (s : State) (l reason : Nat) (ws : List Nat) :
    (s.finishCapture l reason ws).reach = s.reach := by
  unfold State.finishCapture
  split <;> simp

@[simp] theorem State.cutCapture_reach (s : State) (l reason : Nat) : (s.cutCapture l reason).reach = s.reach := by
  unfold State.cutCapture
  split <;> simp

@[simp] theorem State.showDetectors_reach (s : State) (l : Nat) : (s.showDetectors l).reach = s.reach := by
  simp [State.showDetectors]

@[simp] theorem State.landSync_reach (s : State) (l : Nat) : (s.landSync l).reach = s.reach := by
  unfold State.landSync
  split <;> simp

@[simp] theorem State.refreshOwner_reach (s : State) (l : Nat) : (s.refreshOwner l).reach = s.reach := by
  simp [State.refreshOwner]

@[simp] theorem State.updateCoef_reach (s : State) (key : Nat) (re im : Int) : (s.updateCoef key re im).reach = s.reach := by
  simp [State.updateCoef, State.setCoef]

@[simp] theorem State.rescaleNxt_reach (s : State) (l : Nat) (row : Bool) (r : Rat) :
    (s.rescaleNxt l row r).reach = s.reach := by
  simp [State.rescaleNxt]

@[simp] theorem State.setPga_reach (s : State) (l v : Nat) : (s.setPga l v).reach = s.reach := by
  simp [State.setPga]

@[simp] theorem State.reachPga_reach (s : State) (l : Nat) : (s.reachPga l).reach = s.reach := by
  unfold State.reachPga
  split <;> simp

/-- The profile follows the modem and changes nothing of it. -/
@[simp] theorem State.reachProfile_reach (s : State) (l : Nat) : (s.reachProfile l).reach = s.reach := by
  simp [State.reachProfile]

theorem State.setPga_g {G : Fld} (hG : G.ofReach = true) (s : State) (l v a b : Nat) : (s.setPga l v).g G a b = s.g G a b := by
  have hid := Fld.ofReach_id hG
  have hpga : (s.wr LAFE.CTRL.PGA v l).g G a b = s.g G a b :=
    State.g_wr_of_id (by simp only [LAFE.CTRL.PGA]; omega) _ _ _ _ _ _
  unfold State.setPga
  dsimp only
  split
  · exact (State.rescaleNxt_g (Fld.ofReach_event hG) (by simp only [XENGINE.SAT_COUNT.COUNT]; omega) _ _ _ _ _ _).trans hpga
  · exact hpga

theorem State.reachPga_g {G : Fld} (hG : G.ofReach = true) (s : State) (l a b : Nat) : (s.reachPga l).g G a b = s.g G a b := by
  unfold State.reachPga
  split
  · rfl
  · dsimp only
    split
    · rfl
    · exact State.setPga_g hG _ _ _ _ _

/-- No change of the receiver's profile writes a field of an LREACH page. -/
theorem State.reachProfile_g {G : Fld} (hG : G.ofReach = true) (s : State) (l a b : Nat) :
    (s.reachProfile l).g G a b = s.g G a b := by
  have howner : (s.refreshOwner l).g G a b = s.g G a b :=
    ((State.Monitored.refl s).refreshOwner l).2 G a b (Fld.ofReach_event hG) (Fld.ofReach_monitors hG)
  unfold State.reachProfile
  dsimp only
  split
  · exact (State.reachPga_g hG _ _ _ _).trans howner
  · exact howner

/-! ### Records to the host (R177, R271) -/

@[simp] theorem State.offerBlock_reach (s : State) (p cap : Nat) (F : Fld) (c : Nat) (b : Block) :
    (s.offerBlock p cap F c b).reach = s.reach := by
  simp [State.offerBlock]

@[simp] theorem State.intoIngress_reach (s : State) (p : Nat) (bs : List Block) : (s.intoIngress p bs).reach = s.reach := by
  simp [State.intoIngress]

@[simp] theorem State.toHost_reach (s : State) (p : Nat) (bs : List Block) : (s.toHost p bs).reach = s.reach := by
  simp [State.toHost]

@[simp] theorem State.toReachHost_reach (s : State) (l : Nat) (bytes : List Nat) :
    (s.toReachHost l bytes).reach = s.reach := by
  simp [State.toReachHost]

theorem State.toReachHost_g {G : Fld} (hG : G.ofReach = true) (s : State) (l : Nat) (bytes : List Nat) (a b : Nat) :
    (s.toReachHost l bytes).g G a b = s.g G a b := by
  unfold State.toReachHost
  rw [State.pulse_g (Fld.ofReach_event hG)]
  exact (State.Streamed.refl s).toHost _ _ G a b (Fld.ofReach_streamed hG)

/-! ### The end of a packet (R170, R179) -/

/-- Where no post is held the end of a packet releases none. -/
theorem State.releaseHeld_none {s : State} {l : Nat} (h : (s.reachX l).held = []) :
    (∀ k, (s.releaseHeld l).reachX k = s.reachX k) ∧ (s.releaseHeld l).regs = s.regs ∧
      (s.releaseHeld l).lines = s.lines := by
  unfold State.releaseHeld
  split
  · exact ⟨fun _ => rfl, rfl, rfl⟩
  · simp only [h, List.foldl_nil]
    refine ⟨fun k => ?_, rfl, rfl⟩
    by_cases hk : k = l
    · rw [hk, State.reachX_modReach_self, ← h]
    · exact State.reachX_modReach_ne _ hk _

/-- So after a packet the modem is what it was, whatever its profile now is. -/
theorem State.reachX_releaseHeld {s : State} {l : Nat} (h : (s.reachX l).held = []) (k : Nat) :
    ((s.reachProfile l).releaseHeld l).reachX k = s.reachX k := by
  have hprofile := State.reachX_of_reach (State.reachProfile_reach s l)
  exact ((State.releaseHeld_none (by rw [hprofile, h])).1 k).trans (hprofile k)

/-- Where no message waits none goes out. -/
theorem State.sendDue_none {s : State} {l : Nat} (h : (s.reachX l).due = []) : s.sendDue l = s := by
  simp [State.sendDue, h]

/-- Where no post and no message waits for its end, a reception is over: the receiver listens again (R167). -/
theorem State.endReception_free {s : State} {l : Nat} (hheld : (s.reachX l).held = []) (hdue : (s.reachX l).due = []) :
    ((s.endReception l).reachX l).rx = none ∧ (s.endReception l).g LREACH.STATUS.RXSTATE l = 0 ∧
      ∀ G : Fld, G.ofReach = true → G.id % 2048 ≠ LREACH.STATUS.RXSTATE.id % 2048 →
        ∀ a b, (s.endReception l).g G a b = s.g G a b := by
  unfold State.endReception
  extract_lets s1 s2 s3
  have hregs : s3.regs = s2.regs := by
    simp only [s3]
    split <;> rfl
  obtain ⟨hrx, hheld3, hdue3⟩ : (s3.reachX l).rx = none ∧ (s3.reachX l).held = [] ∧ (s3.reachX l).due = [] := by
    have h1 : s1.reachX l = { s.reachX l with rx := none } := State.reachX_modReach_self _ _ _
    have h2 : s2.reachX l = s1.reachX l := State.reachX_of_reach (State.wr_reach _ _ _ _ _) l
    simp only [s3]
    split
    · rw [State.reachX_modReach_self, h2, h1]
      exact ⟨rfl, hheld, hdue⟩
    · rw [h2, h1]
      exact ⟨rfl, hheld, hdue⟩
  have hx := State.reachX_releaseHeld hheld3 l
  obtain ⟨-, hr, -⟩ := State.releaseHeld_none (s := s3.reachProfile l) (l := l)
    (by rw [State.reachX_of_reach (State.reachProfile_reach s3 l), hheld3])
  rw [State.sendDue_none (by rw [hx, hdue3])]
  refine ⟨by rw [hx, hrx], ?_, fun G hG hne a b => ?_⟩
  · rw [State.g_of_regs hr, State.reachProfile_g rfl, State.g_of_regs hregs]
    exact State.g_wr_self _ _ _ _ _
  · rw [State.g_of_regs hr, State.reachProfile_g hG, State.g_of_regs hregs]
    exact State.g_wr_of_id hne _ _ _ _ _ _

end Sys2Proof.Machine
end

section
/-! A packet sent on a REACH line, and the receiver that listens again (O12). -/

namespace Sys2Proof.Machine

/-- A packet that starts: it is the one being sent, and of the rest of the modem only its place, level and chirps are new. -/
theorem State.startTx_reachX (s : State) (l netid : Nat) (p : ReachPkt) :
    ∃ chirps volts, (s.startTx l netid p).reachX l =
      { s.reachX l with tx := some p, chirps := chirps, pos := 0, volts := volts } := by
  unfold State.startTx
  extract_lets u
  rw [State.reachX_of_reach (t := (u.wr _ _ _).bump _ _) (s := u) (by simp), State.reachX_modReach_self]
  exact ⟨_, _, rfl⟩

theorem State.startTx_reachX_ne (s : State) {l k : Nat} (h : k ≠ l) (netid : Nat) (p : ReachPkt) :
    (s.startTx l netid p).reachX k = s.reachX k := by
  unfold State.startTx
  extract_lets u
  rw [State.reachX_of_reach (t := (u.wr _ _ _).bump _ _) (s := u) (by simp), State.reachX_modReach_ne _ h]

@[simp] theorem State.refreshQueue_reach (s : State) (l : Nat) : (s.refreshQueue l).reach = s.reach := by
  simp [State.refreshQueue]

/-- A chosen packet is on the line, with the window that it announces; the receiver is blanked and the packet counted (R157,
R170, R173). -/
theorem State.startPacket_spec (s : State) (l : Nat) (c : ReachChoice) :
    ((s.startPacket l c).reachX l).tx = some c.pkt ∧ ((s.startPacket l c).reachX l).opening = c.pkt.opens ∧
      (s.startPacket l c).g LREACH.STATUS.RXSTATE l = 5 ∧
      (s.startPacket l c).g LREACH.TX_PKT.COUNT l = satAdd 32 (s.g LREACH.TX_PKT.COUNT l) 1 ∧
      ∀ k, k ≠ l → (s.startPacket l c).reachX k = s.reachX k := by
  unfold State.startPacket
  extract_lets p left u
  have hreach k : (((u.startTx l (u.g LREACH.PROFILE.NETID l) p).refreshQueue l).reachProfile l).reachX k =
      (u.startTx l (u.g LREACH.PROFILE.NETID l) p).reachX k :=
    State.reachX_of_reach ((State.reachProfile_reach _ _).trans (State.refreshQueue_reach _ _)) k
  obtain ⟨chirps, volts, hx⟩ := u.startTx_reachX l (u.g LREACH.PROFILE.NETID l) p
  have hopening : (u.reachX l).opening = p.opens := by simp only [u, State.reachX_modReach_self]
  obtain ⟨-, hstate, hcount⟩ := u.startTx_sends l (u.g LREACH.PROFILE.NETID l) p
  refine ⟨by rw [hreach, hx], by rw [hreach, hx]; exact hopening, ?_, ?_, fun k hk => ?_⟩
  · rw [State.reachProfile_g rfl, State.refreshQueue, State.g_wr_of_id (by decide), hstate]
  · rw [State.reachProfile_g rfl, State.refreshQueue, State.g_wr_of_id (by decide), hcount]
    simp only [u, State.modReach_g]
  · rw [hreach, State.startTx_reachX_ne _ hk]
    exact State.reachX_modReach_ne _ hk _

/-- The first packet that is due on an idle line goes out. -/
theorem reachTxStart_sends {s : State} {l : Nat} (hl : l < 128) {c : ReachChoice} (hidle : s.reachIdle l = true)
    (hdue : (s.draw.2.reachDue l s.draw.1).head? = some c) :
    s.runsTo (.reachTxStart l) fun t =>
      (t.reachX l).tx = some c.pkt ∧ (t.reachX l).opening = c.pkt.opens ∧ t.g LREACH.STATUS.RXSTATE l = 5 ∧
      t.g LREACH.TX_PKT.COUNT l = satAdd 32 (s.g LREACH.TX_PKT.COUNT l) 1 ∧
      t.lines = s.lines ∧ ∀ k, k ≠ l → t.reachX k = s.reachX k := by
  have hd : s.dspRuns = true := by
    simp only [State.reachIdle, State.lineRuns, Bool.and_eq_true] at hidle
    exact hidle.2.2
  obtain ⟨cs, hcs⟩ := List.head?_eq_some_iff.1 hdue
  refine runs_heard hl rfl hd ?_
  simp only [hcs, hidle, if_true]
  obtain ⟨htx, hopening, hstate, hcount, hother⟩ := s.draw.2.startPacket_spec l c
  exact ⟨htx, hopening, hstate, hcount, State.startPacket_lines _ _ _, hother⟩

/-- At the last sample of a packet the line sends nothing more, and a POLL awaits its reply (R172). -/
theorem reachTxEnd_awaits {s : State} {l : Nat} (hl : l < 128) {p : ReachPkt} (htx : (s.reachX l).tx = some p)
    (hheld : (s.reachX l).held = []) (hd : s.dspRuns = true) :
    s.runsTo (.reachTxEnd l) fun t =>
      (t.reachX l).tx = none ∧ (t.reachX l).chirps = [] ∧
      (p.kind = 1 → (t.reachX l).await = (s.reachX l).again ∧ (t.reachX l).again = none) := by
  refine runs_heard hl rfl hd ?_
  simp only [htx]
  rw [State.reachX_releaseHeld (by rw [State.reachX_modReach_self]; exact hheld), State.reachX_modReach_self]
  exact ⟨rfl, rfl, fun hpoll => ⟨if_pos hpoll, if_pos hpoll⟩⟩

/-- 20 µs after the last sample the receiver listens again. -/
theorem blankingEnd_listens {s : State} {l : Nat} (hl : l < 128) (hstate : s.g LREACH.STATUS.RXSTATE l = 5)
    (htx : (s.reachX l).tx = none) (hdue : (s.reachX l).due = []) (hd : s.dspRuns = true) :
    s.runsTo (.blankingEnd l) fun t =>
      t.g LREACH.STATUS.RXSTATE l = 0 ∧ s.onlyReg LREACH.STATUS.RXSTATE l 0 t ∧ t.reach = s.reach ∧ t.lines = s.lines := by
  refine runs_signal hl rfl hd (by simp [hstate, htx]) ?_
  rw [State.sendDue_none (by rw [State.reachX_of_reach (State.wr_reach _ _ _ _ _), hdue])]
  exact ⟨State.g_wr_self _ _ _ _ _, s.wr_onlyReg _ _ _ _, rfl, rfl⟩

/-- Settles O12: the start of a packet, its end and the receiver's return, each by its own lemma. -/
theorem reachTransmits : Obligations.ReachTransmits := by
  unfold Obligations.ReachTransmits
  exact fun s l hl => ⟨fun _ => reachTxStart_sends hl, fun _ => reachTxEnd_awaits hl, blankingEnd_listens hl⟩

end Sys2Proof.Machine
end

section
/-! A reception on a REACH line, from its preamble to its record (O13). -/

namespace Sys2Proof.Machine

/-! ### Preamble (R165, R167 to R169) -/

/-- The reception of a detected packet begins, under the profile and the offset of the search. -/
theorem State.beginReception_spec (s : State) (l bin : Nat) (power : Int) :
    (s.beginReception l bin power).reachX l =
        { s.reachX l with rx := some { bin := bin, power := power, sf := s.reachSf l, bw := s.reachBw l,
                                       searchCr := (s.reachNow l).2.2, eps := s.searchEps l },
                          beaconOpen := false } ∧
      (s.beginReception l bin power).g LREACH.STATUS.RXSTATE l = 1 ∧
      ∀ k, k ≠ l → (s.beginReception l bin power).reachX k = s.reachX k := by
  unfold State.beginReception
  extract_lets pr u
  have hreach k : ((u.wr LREACH.STATUS.RXSTATE 1 l).reachProfile l).reachX k = u.reachX k :=
    State.reachX_of_reach ((State.reachProfile_reach _ _).trans (State.wr_reach _ _ _ _ _)) k
  refine ⟨(hreach l).trans (State.reachX_modReach_self _ _ _), ?_,
    fun k hk => (hreach k).trans (State.reachX_modReach_ne _ hk _)⟩
  rw [State.reachProfile_g rfl]
  exact State.g_wr_self _ _ _ _ _

/-- A receiver that hears and holds no reception takes a preamble. -/
theorem preambleDetected_begins {s : State} {l : Nat} (hl : l < 128) (hd : s.dspRuns = true) {ws : List Window} {bin : Nat}
    {power : Int} {shift : Nat} (hears : s.modemHears l = true) (hrx : (s.reachX l).rx = none)
    (hp : s.preambleOf l ws = some (bin, power)) :
    s.runsTo (.preambleDetected l ws shift) fun t =>
      (t.reachX l).rx = some { bin := bin, power := power, sf := s.reachSf l, bw := s.reachBw l,
                               searchCr := (s.reachNow l).2.2, eps := s.searchEps l } ∧
      (t.reachX l).beaconOpen = false ∧
      t.g LREACH.STATUS.RXSTATE l = 1 ∧ t.lines = s.lines ∧ ∀ k, k ≠ l → t.reachX k = s.reachX k := by
  refine runs_heard hl rfl hd ?_
  simp only [hears, if_true, hp, hrx]
  obtain ⟨hx, hstate, hother⟩ := s.beginReception_spec l bin power
  rw [hx]
  exact ⟨rfl, rfl, hstate, State.beginReception_lines _ _ _ _, hother⟩

/-- In PAYLOAD a preamble below the capture margin is a collision (R169). -/
theorem preambleDetected_collides {s : State} {l : Nat} (hl : l < 128) (hd : s.dspRuns = true) {r : ReachRx} {ws : List Window}
    {bin : Nat} {power : Int} {shift : Nat} (hears : s.modemHears l = true) (hrx : (s.reachX l).rx = some r)
    (hp : s.preambleOf l ws = some (bin, power)) (hstate : s.g LREACH.STATUS.RXSTATE l = 4)
    (hweak : power < r.power + 100 * (s.g LREACH.DETECT.CAPMARGIN l : Int)) :
    s.runsTo (.preambleDetected l ws shift) fun t =>
      t.reach = s.reach ∧ t.lines = s.lines ∧ t.g LREACH.STATUS.RXSTATE l = 4 ∧
      t.g LREACH.COLLIDED.COUNT l = satAdd 32 (s.g LREACH.COLLIDED.COUNT l) 1 := by
  refine runs_heard hl rfl hd ?_
  simp only [hears, if_true, hp, hrx, hstate, lt_irrefl, if_false, not_le.2 hweak]
  refine ⟨by simp, by simp, ?_, ?_⟩
  · rw [State.pulse_g rfl, State.g_bump_of_id (by decide), hstate]
  · rw [State.pulse_g rfl, State.g_bump_self]
    exact satAdd_mod _ _ _

/-! ### Sync and header (R160, R166) -/

/-- The windows of our network after a detection: SYNCED, with the offset and the start that they give. -/
theorem syncConfirm_synced {s : State} {l : Nat} (hl : l < 128) (hd : s.dspRuns = true) {x : ReachRx} {ws : List Window}
    {r : SyncReport} (hrx : (s.reachX l).rx = some x) (hstate : s.g LREACH.STATUS.RXSTATE l = 1)
    (hgood : s.syncGood l x ws = true) :
    s.runsTo (.syncConfirm l ws r) fun t =>
      (∃ y : ReachRx, (t.reachX l).rx = some y ∧ y.eps = r.eps ∧ y.snr = r.snr ∧ y.bin = x.bin ∧ y.power = x.power ∧
        y.sec * 10 ^ 9 + y.ns = s.time.sec * 10 ^ 9 + s.time.ns - r.ago) ∧
      t.g LREACH.STATUS.RXSTATE l = 2 ∧ t.lines = s.lines ∧ ∀ k, k ≠ l → t.reachX k = s.reachX k := by
  refine runs_heard hl rfl hd ?_
  simp only [hrx, hstate, hgood, show ¬ (1 = 2) by decide, bne_self_eq_false, Bool.false_eq_true, if_false, if_true]
  have hreach (u : State) (k : Nat) : ((u.wr LREACH.STATUS.RXSTATE 2 l).reachProfile l).reachX k = u.reachX k :=
    State.reachX_of_reach ((State.reachProfile_reach _ _).trans (State.wr_reach _ _ _ _ _)) k
  refine ⟨⟨_, congrArg ReachX.rx ((hreach _ l).trans (State.reachX_modReach_self _ _ _)), rfl, rfl, rfl, rfl,
    Nat.div_add_mod' _ _⟩, ?_, by simp, fun k hk => by rw [hreach, State.reachX_modReach_ne _ hk]⟩
  rw [State.reachProfile_g rfl]
  exact State.g_wr_self _ _ _ _ _

/-- The window after SYNCED begins the HEADER. -/
theorem syncConfirm_header {s : State} {l : Nat} (hl : l < 128) (hd : s.dspRuns = true) {x : ReachRx} {ws : List Window}
    {r : SyncReport} (hrx : (s.reachX l).rx = some x) (hstate : s.g LREACH.STATUS.RXSTATE l = 2) :
    s.runsTo (.syncConfirm l ws r) fun t =>
      t.g LREACH.STATUS.RXSTATE l = 3 ∧ s.onlyReg LREACH.STATUS.RXSTATE l 0 t ∧ t.reach = s.reach ∧ t.lines = s.lines := by
  refine runs_heard hl rfl hd ?_
  simp only [hrx, hstate, if_true]
  exact ⟨State.g_wr_self _ _ _ _ _, s.wr_onlyReg _ _ _ _, rfl, rfl⟩

/-- A header that passes opens PAYLOAD. -/
theorem headerDone_payload {s : State} {l : Nat} (hl : l < 128) (hd : s.dspRuns = true) {x : ReachRx} {w : Nat}
    (hrx : (s.reachX l).rx = some x) (hstate : s.g LREACH.STATUS.RXSTATE l = 3) (hw : headerPasses w = true) :
    s.runsTo (.headerDone l w) fun t =>
      (t.reachX l).rx = some { x with cr := bits w 19 2, addr := bits w 15 4, kind := bits w 12 3, seq := bits w 8 3,
                                      len := bits w 21 11 + 1 } ∧
      t.g LREACH.STATUS.RXSTATE l = 4 ∧ t.lines = s.lines ∧ ∀ k, k ≠ l → t.reachX k = s.reachX k := by
  refine runs_heard hl rfl hd ?_
  simp only [hrx, hstate, hw, bne_self_eq_false, Bool.and_false, Bool.false_eq_true, if_false, if_true]
  have hreach (u : State) (k : Nat) : (u.wr LREACH.STATUS.RXSTATE 4 l).reachX k = u.reachX k :=
    State.reachX_of_reach (State.wr_reach _ _ _ _ _) k
  exact ⟨by rw [hreach, State.reachX_modReach_self], State.g_wr_self _ _ _ _ _, rfl,
    fun k hk => by rw [hreach, State.reachX_modReach_ne _ hk]⟩

/-! ### The payload's end (R161, R167, R171) -/

/-- From `s` to `t` a packet of line l was noted and handed on: what waits for the reception's end stays, and RX_OK. -/
structure State.Noted (l : Nat) (s t : State) : Prop where
  held : (t.reachX l).held = (s.reachX l).held
  due : (t.reachX l).due = (s.reachX l).due
  counted : t.g LREACH.RX_OK.COUNT l = s.g LREACH.RX_OK.COUNT l

theorem State.Noted.refl (l : Nat) (s : State) : State.Noted l s s := ⟨rfl, rfl, rfl⟩

theorem State.Noted.of_reach {l : Nat} {s t u : State} (h : State.Noted l s t) (hr : u.reach = t.reach)
    (hc : u.g LREACH.RX_OK.COUNT l = t.g LREACH.RX_OK.COUNT l) : State.Noted l s u :=
  have hx := State.reachX_of_reach hr l
  ⟨by rw [hx, h.held], by rw [hx, h.due], hc.trans h.counted⟩

theorem State.Noted.modReach {l : Nat} {s t : State} (h : State.Noted l s t) {f : ReachX → ReachX}
    (hf : ∀ x, (f x).held = x.held ∧ (f x).due = x.due) : State.Noted l s (t.modReach l f) := by
  obtain ⟨hheld, hdue⟩ := hf (t.reachX l)
  have hx := State.reachX_modReach_self t l f
  exact ⟨by rw [hx, hheld, h.held], by rw [hx, hdue, h.due], h.counted⟩

theorem State.Noted.wr {l : Nat} {s t : State} (h : State.Noted l s t) {F : Fld}
    (hF : LREACH.RX_OK.COUNT.id % 2048 ≠ F.id % 2048) (v i j : Nat) : State.Noted l s (t.wr F v i j) :=
  h.of_reach (State.wr_reach _ _ _ _ _) (State.g_wr_of_id hF _ _ _ _ _ _)

theorem State.Noted.bump {l : Nat} {s t : State} (h : State.Noted l s t) {F : Fld}
    (hF : LREACH.RX_OK.COUNT.id % 2048 ≠ F.id % 2048) (i k j : Nat) : State.Noted l s (t.bump F i k j) := h.wr hF _ _ _

theorem State.Noted.pulse {l : Nat} {s t : State} (h : State.Noted l s t) (p : Page) (i n : Nat) :
    State.Noted l s (t.pulse p i n) :=
  h.of_reach (State.pulse_reach _ _ _ _) (State.pulse_g rfl _ _ _ _ _ _)

theorem State.Noted.toReachHost {l : Nat} {s t : State} (h : State.Noted l s t) (bytes : List Nat) :
    State.Noted l s (t.toReachHost l bytes) :=
  h.of_reach (State.toReachHost_reach _ _ _) (State.toReachHost_g rfl _ _ _ _ _)

theorem State.Noted.noteEndpoint {l : Nat} {s t : State} (h : State.Noted l s t) (x : ReachRx) :
    State.Noted l s (t.noteEndpoint l x) := by
  unfold State.noteEndpoint
  extract_lets u
  have hu : State.Noted l s u := h.modReach fun _ => ⟨rfl, rfl⟩
  exact ((((hu.wr (by decide) _ _ _).wr (by decide) _ _ _).wr (by decide) _ _ _).bump (by decide) _ _ _).wr (by decide) _ _ _

theorem State.Noted.deliverPacket {l : Nat} {s t : State} (h : State.Noted l s t) (x : ReachRx) (payload : List Nat) :
    State.Noted l s (t.deliverPacket l x payload) := by
  unfold State.deliverPacket
  extract_lets now seen u v
  have hu : State.Noted l s u := h.modReach fun _ => ⟨rfl, rfl⟩
  have hv : State.Noted l s v := hu.toReachHost _
  split
  · exact h.modReach fun _ => ⟨rfl, rfl⟩
  · split
    · exact (hv.bump (by decide) _ _ _).pulse _ _ _
    · exact hv

/-- A good packet counts once, and of what follows nothing counts again. -/
theorem State.Noted.goodPacket (s : State) (l : Nat) (x : ReachRx) (payload : List Nat) :
    State.Noted l (s.bump LREACH.RX_OK.COUNT l) (s.goodPacket l x payload) := by
  unfold State.goodPacket
  extract_lets u v
  have hv : State.Noted l u v := ((State.Noted.refl l u).noteEndpoint x).deliverPacket x payload
  split
  · exact .refl l u
  · split
    · exact hv.modReach fun _ => ⟨rfl, rfl⟩
    · exact hv

/-- The end of a payload: the packet is counted by its CRC-32, and the receiver is free. -/
theorem packetRxDone_counts {s : State} {l : Nat} (hl : l < 128) (hd : s.dspRuns = true) {x : ReachRx} {bytes : List Nat}
    (hrx : (s.reachX l).rx = some x) (hstate : s.g LREACH.STATUS.RXSTATE l = 4) (hheld : (s.reachX l).held = [])
    (hdue : (s.reachX l).due = []) :
    s.runsTo (.packetRxDone l bytes) fun t => (t.reachX l).rx = none ∧ t.g LREACH.STATUS.RXSTATE l = 0 ∧
      (if bytes.length = x.len + 4 ∧ crc32 (byteBits (bytes.take x.len)) = field bytes x.len 4 then
         t.g LREACH.RX_OK.COUNT l = satAdd 32 (s.g LREACH.RX_OK.COUNT l) 1
       else t.g LREACH.CRC_FAIL.COUNT l = satAdd 32 (s.g LREACH.CRC_FAIL.COUNT l) 1) := by
  refine runs_heard hl rfl hd ?_
  simp only [hrx, hstate, bne_self_eq_false, Bool.false_eq_true, if_false, Bool.and_eq_true, beq_iff_eq]
  have hclosed : ((s.closeWindow l).reachX l).held = [] ∧ ((s.closeWindow l).reachX l).due = [] := by
    rw [State.closeWindow, State.reachX_modReach_self]
    exact ⟨hheld, hdue⟩
  split
  · have hn := State.Noted.goodPacket (s.closeWindow l) l x (bytes.take x.len)
    have hu := State.reachX_of_reach (State.bump_reach (s.closeWindow l) LREACH.RX_OK.COUNT l 1 0) l
    obtain ⟨hfree, hlisten, hkept⟩ := State.endReception_free (hn.held.trans (by rw [hu, hclosed.1]))
      (hn.due.trans (by rw [hu, hclosed.2]))
    refine ⟨hfree, hlisten, ?_⟩
    rw [hkept _ rfl (by decide), hn.counted, State.g_bump_self]
    exact satAdd_mod _ _ _
  · have hu := State.reachX_of_reach (State.bump_reach (s.closeWindow l) LREACH.CRC_FAIL.COUNT l 1 0) l
    obtain ⟨hfree, hlisten, hkept⟩ := State.endReception_free (by rw [hu, hclosed.1]) (by rw [hu, hclosed.2])
    refine ⟨hfree, hlisten, ?_⟩
    rw [hkept _ rfl (by decide), State.g_bump_self]
    exact satAdd_mod _ _ _

/-- Settles O13: each stage of a reception by its own lemma. -/
theorem reachReceives : Obligations.ReachReceives := by
  unfold Obligations.ReachReceives
  exact fun s l hl hd => ⟨fun _ _ _ _ => preambleDetected_begins hl hd, fun _ _ _ _ _ => preambleDetected_collides hl hd,
    fun _ _ _ => syncConfirm_synced hl hd, fun _ _ _ => syncConfirm_header hl hd, fun _ _ => headerDone_payload hl hd,
    fun _ _ => packetRxDone_counts hl hd⟩

end Sys2Proof.Machine
end

section
/-! Polls, alarm windows, the host's records and the wait for a mask on a REACH line (O14). -/

namespace Sys2Proof.Machine

/-! ### Polls (R172, R176) -/

/-- The end of an enabled endpoint's poll interval makes its POLL due. -/
theorem pollDue_queues {s : State} {l : Nat} (hl : l < 128) {ep : Nat} (hep : ep < 16) (hst : (s.line l).st = .reach)
    (hen : s.g LREACH.EP_CFG.ENABLE l ep = 1) (hivl : s.g LREACH.EP_CFG.POLL_IVL l ep ≠ 0) (hnew : ep ∉ (s.reachX l).polls)
    (h3 : s.fault.s3 = false) :
    s.runsTo (.pollDue l ep) fun t =>
      t.reachX l = { s.reachX l with polls := (s.reachX l).polls ++ [ep] } ∧ t.regs = s.regs ∧ t.lines = s.lines ∧
      ∀ k, k ≠ l → t.reachX k = s.reachX k :=
  runs_timer hl (if_neg (by omega)) h3 (by simp [hst, hen, hivl, hnew])
    ⟨State.reachX_modReach_self _ _ _, rfl, rfl, fun _ hk => State.reachX_modReach_ne _ hk _⟩

/-- A reply window without a detection counts, and its POLL is repeated while repeats are left. -/
theorem replyTimeout_repeats {s : State} {l : Nat} (hl : l < 128) {p : ReachPkt} {n : Nat}
    (hawait : (s.reachX l).await = some (p, n + 1)) (hrx : (s.reachX l).rx = none) (h3 : s.fault.s3 = false) :
    s.runsTo (.replyTimeout l) fun t =>
      (t.reachX l).await = none ∧ (t.reachX l).again = some (p, n) ∧
      t.g LREACH.NO_REPLY.COUNT l = satAdd 32 (s.g LREACH.NO_REPLY.COUNT l) 1 ∧ t.lines = s.lines ∧
      ∀ k, k ≠ l → t.reachX k = s.reachX k := by
  refine runs_passed hl rfl h3 ?_
  simp only [hawait, hrx, Option.isSome_none, Bool.false_eq_true, if_false, Nat.zero_lt_succ, if_true, Nat.add_sub_cancel]
  have hpulse (u : State) (k : Nat) : ((u.bump LREACH.NO_REPLY.COUNT l).pulse .lreach l 5).reachX k = u.reachX k :=
    State.reachX_of_reach (by simp) k
  have hprofile (u : State) (k : Nat) : (u.reachProfile l).reachX k = u.reachX k :=
    State.reachX_of_reach (State.reachProfile_reach _ _) k
  refine ⟨?_, ?_, ?_, by simp, fun k hk => ?_⟩
  · rw [hprofile, State.reachX_modReach_self, hpulse, State.reachX_modReach_self]
  · rw [hprofile, State.reachX_modReach_self]
  · rw [State.reachProfile_g rfl, State.modReach_g, State.pulse_g rfl, State.g_bump_self, State.modReach_g]
    exact satAdd_mod _ _ _
  · rw [hprofile, State.reachX_modReach_ne _ hk, hpulse, State.reachX_modReach_ne _ hk]

/-! ### Alarm windows (R173 to R175) -/

/-- A window falls due on a line that holds none and owes no ACK. -/
theorem alarmWindowDue_notes {s : State} {l : Nat} (hl : l < 128) (hst : (s.line l).st = .reach)
    (hivl : s.g LREACH.ALARM.IVL l ≠ 0) (hopening : (s.reachX l).opening = false) (hwin : s.g LREACH.STATUS.WINDOW l = 0)
    (hacks : (s.reachX l).acks = []) (halarms : (s.reachX l).alarms = []) (h3 : s.fault.s3 = false) :
    s.runsTo (.alarmWindowDue l) fun t =>
      t.reachX l = { s.reachX l with windowDue := true } ∧ t.regs = s.regs ∧ t.lines = s.lines ∧
      ∀ k, k ≠ l → t.reachX k = s.reachX k :=
  runs_timer hl rfl h3 (by simp [hst, hivl, hopening, hwin, hacks, halarms])
    ⟨State.reachX_modReach_self _ _ _, rfl, rfl, fun _ hk => State.reachX_modReach_ne _ hk _⟩

/-- After its OPEN packet the window opens. -/
theorem alarmWindowOpen_opens {s : State} {l : Nat} (hl : l < 128) (hopening : (s.reachX l).opening = true)
    (htx : (s.reachX l).tx = none) (hd : s.dspRuns = true) :
    s.runsTo (.alarmWindowOpen l) fun t =>
      (t.reachX l).opening = false ∧ (t.reachX l).windows = (s.reachX l).windows + 1 ∧
      t.g LREACH.STATUS.WINDOW l = 1 ∧ t.lines = s.lines ∧ ∀ k, k ≠ l → t.reachX k = s.reachX k := by
  refine runs_signal hl rfl hd (by simp [hopening, htx]) ?_
  have hreach (u : State) (k : Nat) : ((u.wr LREACH.STATUS.WINDOW 1 l).reachProfile l).reachX k = u.reachX k :=
    State.reachX_of_reach ((State.reachProfile_reach _ _).trans (State.wr_reach _ _ _ _ _)) k
  refine ⟨?_, ?_, ?_, by simp, fun k hk => ?_⟩
  · rw [hreach, State.reachX_modReach_self]
  · rw [hreach, State.reachX_modReach_self]
  · rw [State.reachProfile_g rfl]
    exact State.g_wr_self _ _ _ _ _
  · rw [hreach, State.reachX_modReach_ne _ hk]

/-- The window closes, and the ACKs of its alarms fall due. -/
theorem alarmWindowClose_acks {s : State} {l : Nat} (hl : l < 128) (hwin : s.g LREACH.STATUS.WINDOW l = 1)
    (hrx : (s.reachX l).rx = none) (h3 : s.fault.s3 = false) :
    s.runsTo (.alarmWindowClose l) fun t =>
      t.reachX l = { s.reachX l with acks := (s.reachX l).acks ++ (s.reachX l).alarms, alarms := [] } ∧
      t.g LREACH.STATUS.WINDOW l = 0 ∧ t.lines = s.lines ∧ ∀ k, k ≠ l → t.reachX k = s.reachX k := by
  refine runs_timer hl rfl h3 (by simp [hwin]) ?_
  have hreach (k : Nat) : (s.wr LREACH.STATUS.WINDOW 0 l).reachX k = s.reachX k :=
    State.reachX_of_reach (State.wr_reach _ _ _ _ _) k
  have hnone : ((s.wr LREACH.STATUS.WINDOW 0 l).reachX l).rx.isSome = false := by rw [hreach, hrx, Option.isSome_none]
  simp only [hnone, Bool.false_eq_true, if_false]
  exact ⟨by rw [State.reachX_modReach_self, hreach], (State.modReach_g ..).trans (State.g_wr_self ..), rfl,
    fun k hk => (State.reachX_modReach_ne _ hk _).trans (hreach k)⟩

/-! ### The host's records (R177) and the wait for a mask (R179) -/

/-- QFREE shows what the queue leaves of 32,768 bytes, by units of 64. -/
theorem State.refreshQueue_shown (s : State) (l : Nat) :
    (s.refreshQueue l).g LREACH.STATUS.QFREE l = (32768 - ((s.refreshQueue l).reachX l).used) / 64 := by
  have hx := State.reachX_of_reach (State.refreshQueue_reach s l) l
  rw [hx, State.refreshQueue, State.g_wr_self]
  refine Nat.mod_eq_of_lt ?_
  simp only [LREACH.STATUS.QFREE]
  omega

/-- A good record for an enabled endpoint is queued where there is room for it. -/
theorem reachRecordRx_queues {s : State} {l : Nat} (hl : l < 128) {frame fcs bytes : List Nat}
    (hrec : recordOf frame fcs = some bytes) (hst : (s.line l).st = .reach) (hkind : bytes.getD 0 0 % 8 ≤ 1)
    (hpos : 0 < field bytes 2 2) (hlen : field bytes 2 2 ≤ 2048) (hbytes : 16 + field bytes 2 2 ≤ bytes.length)
    (hen : s.g LREACH.EP_CFG.ENABLE l (bytes.getD 0 0 / 16 % 16) ≠ 0)
    (hroom : (s.reachX l).used + 16 + field bytes 2 2 ≤ 32768) (h3 : s.fault.s3 = false) :
    s.runsTo (.reachRecordRx l frame fcs) fun t =>
      (t.reachX l).queue = (s.reachX l).queue ++
        [{ addr := bytes.getD 0 0 / 16 % 16, kind := bytes.getD 0 0 % 8, urgent := bit (bytes.getD 1 0) 0,
           payload := (bytes.drop 16).take (field bytes 2 2) }] ∧
      t.g LREACH.STATUS.QFREE l = (32768 - (t.reachX l).used) / 64 ∧ t.lines = s.lines ∧
      ∀ k, k ≠ l → t.reachX k = s.reachX k := by
  refine runs_port hl rfl ?_
  have hform : (decide (1 < bytes.getD 0 0 % 8) || decide (field bytes 2 2 = 0) || decide (2048 < field bytes 2 2) ||
      decide (bytes.length < 16 + field bytes 2 2)) = false := by
    simp only [Bool.or_eq_false_iff, decide_eq_false_iff_not]
    omega
  simp only [h3, Bool.not_false, when_true, hrec, Option.getD_some, hst, bne_self_eq_false, Bool.false_eq_true, if_false,
    reduceCtorEq, hform, hen, not_lt.2 hroom]
  have hreach (u : State) (k : Nat) : (u.refreshQueue l).reachX k = u.reachX k :=
    State.reachX_of_reach (State.refreshQueue_reach _ _) k
  exact ⟨by rw [hreach, State.reachX_modReach_self], State.refreshQueue_shown _ _, State.refreshQueue_lines _ _,
    fun k hk => (hreach _ k).trans (State.reachX_modReach_ne _ hk _)⟩

/-- The wider mask in force ends the wait for it. -/
theorem reachMaskWaitEnd_ends {s : State} {l : Nat} (hl : l < 128) (hwait : (s.reachX l).maskWait = true)
    (hst : (s.line l).st = .reach) (hready : s.bandReady l (s.reachWidest l) = true) (h3 : s.fault.s3 = false) :
    s.runsTo (.reachMaskWaitEnd l) fun t =>
      t.reachX l = { s.reachX l with maskWait := false } ∧ t.g LREACH.STATUS.MASK_WAIT l = 0 ∧ t.lines = s.lines ∧
      ∀ k, k ≠ l → t.reachX k = s.reachX k := by
  refine runs_timer hl rfl h3 hwait ?_
  have hreach (u : State) (k : Nat) :
      ((u.wr LREACH.STATUS.MASK_WAIT 0 l).cond .lreach l 8 false).reachX k = u.reachX k := State.reachX_of_reach (by simp) k
  simp only [State.refreshMaskWait, hst, hready, decide_true, Bool.not_true, Bool.and_false, bnat, Bool.false_eq_true, if_false]
  refine ⟨by rw [hreach, State.reachX_modReach_self], ?_, by simp,
    fun k hk => (hreach _ k).trans (State.reachX_modReach_ne _ hk _)⟩
  rw [State.cond_g rfl]
  exact State.g_wr_self _ _ _ _ _

/-- Settles O14: each moment by its own lemma. -/
theorem reachWindowsAndPolls : Obligations.ReachWindowsAndPolls := by
  unfold Obligations.ReachWindowsAndPolls
  exact fun s l hl => ⟨fun _ => pollDue_queues hl, fun _ _ => replyTimeout_repeats hl, alarmWindowDue_notes hl,
    alarmWindowOpen_opens hl, alarmWindowClose_acks hl, fun _ _ _ => reachRecordRx_queues hl, reachMaskWaitEnd_ends hl⟩

end Sys2Proof.Machine
end

section
/-! What a capture that takes a sample or ends leaves alone: all but its own data, its result and events (R195, R196). -/

namespace Sys2Proof.Machine

/-- The chain's data but for its capture. -/
def MonX.bare (x : MonX) : MonX := { x with cap := none }

/-- From `s` to `t` at most the capture of line `l` came on: its data, its result and events. -/
structure State.CapturedAtMost (l : Nat) (s t : State) : Prop where
  lines : t.lines = s.lines
  others : ∀ k, k ≠ l → t.monX k = s.monX k
  chain : (t.monX l).bare = (s.monX l).bare
  regs : ∀ (G : Fld) (a b : Nat), G.event = false → G.id % 2048 < LMON.CAP_STAT.REASON.id → t.g G a b = s.g G a b

theorem State.CapturedAtMost.refl (l : Nat) (s : State) : State.CapturedAtMost l s s :=
  ⟨rfl, fun _ _ => rfl, rfl, fun _ _ _ _ _ => rfl⟩

theorem State.CapturedAtMost.trans {l : Nat} {s t u : State} (h : State.CapturedAtMost l s t)
    (k : State.CapturedAtMost l t u) : State.CapturedAtMost l s u :=
  ⟨k.lines.trans h.lines, fun i hi => (k.others i hi).trans (h.others i hi), k.chain.trans h.chain,
    fun G a b he hG => (k.regs G a b he hG).trans (h.regs G a b he hG)⟩

theorem State.CapturedAtMost.setCap (s : State) (l : Nat) (c : Option Capture) :
    State.CapturedAtMost l s (s.modMon l fun x => { x with cap := c }) :=
  ⟨rfl, fun _ hk => State.monX_modMon_ne _ hk _, by rw [State.monX_modMon_self]; rfl, fun _ _ _ _ _ => rfl⟩

theorem State.CapturedAtMost.wr {l : Nat} {s t : State} (h : State.CapturedAtMost l s t) {F : Fld}
    (hF : LMON.CAP_STAT.REASON.id ≤ F.id % 2048) (v i j : Nat) : State.CapturedAtMost l s (t.wr F v i j) :=
  h.trans ⟨rfl, fun _ _ => rfl, rfl, fun _ _ _ _ hG => State.g_wr_of_id (hG.trans_le hF).ne _ _ _ _ _ _⟩

theorem State.CapturedAtMost.wrWords {l : Nat} {s t : State} (h : State.CapturedAtMost l s t) {F : Fld}
    (hF : LMON.CAP_STAT.REASON.id ≤ F.id % 2048) (i : Nat) (ws : List Nat) :
    State.CapturedAtMost l s (t.wrWords F i ws) :=
  h.trans ⟨by simp, fun k _ => State.monX_of_mon (State.wrWords_mon ..) k, by rw [State.monX_of_mon (State.wrWords_mon ..)],
    fun _ _ _ _ hG => State.wrWords_g_of_id (hG.trans_le hF).ne _ _ _ _ _⟩

theorem State.CapturedAtMost.landResult {l : Nat} {s t : State} (h : State.CapturedAtMost l s t) :
    State.CapturedAtMost l s (t.landResult .lmon l) :=
  ((h.wr (by decide) _ _ _).wr (by decide) _ _ _).wr (by decide) _ _ _

theorem State.CapturedAtMost.pulse {l : Nat} {s t : State} (h : State.CapturedAtMost l s t) (n : Nat) :
    State.CapturedAtMost l s (t.pulse .lmon l n) :=
  h.trans ⟨by simp, fun k _ => State.monX_of_mon (State.pulse_mon ..) k, by rw [State.monX_of_mon (State.pulse_mon ..)],
    fun _ _ _ he _ => State.pulse_g he _ _ _ _ _ _⟩

theorem State.CapturedAtMost.finishCapture {l : Nat} {s t : State} (h : State.CapturedAtMost l s t) (reason : Nat)
    (ws : List Nat) : State.CapturedAtMost l s (t.finishCapture l reason ws) := by
  unfold State.finishCapture
  split
  · exact h
  · refine State.CapturedAtMost.pulse (.landResult (.trans ?_ (.setCap _ l none))) 0
    exact ((((((((h.wrWords (by decide) _ _).wrWords (by decide) _ _).wr (by decide) _ _ _).wr (by decide) _ _ _).wr
      (by decide) _ _ _).wr (by decide) _ _ _).wr (by decide) _ _ _).wr (by decide) _ _ _).wr (by decide) _ _ _

theorem State.CapturedAtMost.cutCapture (s : State) (l reason : Nat) :
    State.CapturedAtMost l s (s.cutCapture l reason) := by
  unfold State.cutCapture
  split
  · exact .refl l s
  · exact (State.CapturedAtMost.refl l s).finishCapture reason _

theorem State.CapturedAtMost.captureSample (s : State) (l back : Nat) (y : Cx) :
    State.CapturedAtMost l s (s.captureSample l back y) := by
  unfold State.captureSample
  split
  · exact .refl l s
  · split
    · exact .refl l s
    · extract_lets p at' c d u
      have hu : State.CapturedAtMost l s u := .setCap s l _
      split
      · exact hu.finishCapture 0 _
      · exact hu

end Sys2Proof.Machine
end

section
/-! An output sample of a line's monitor chain in the fade, the settling count and the detectors (R188 to R191, R193). -/

namespace Sys2Proof.Machine

/-! ### Fades (R190, R191) -/

/-- A chain one sample further in its fade. -/
def MonX.faded (x : MonX) : MonX :=
  if x.bank = 0 then x
  else if x.fade < 63 then { x with fade := x.fade + 1 }
  else if x.bank = 1 then { x with bank := 0, fade := 0 }
  else { x with bank := 1, fade := 0, active := 1 - x.active }

/-- A fade moves nothing but itself, its state and the active bank. -/
@[simp] theorem MonX.faded_rest (x : MonX) : x.faded.settle = x.settle ∧ x.faded.valid = x.valid ∧
    x.faded.ticks = x.ticks ∧ x.faded.sum = x.sum ∧ x.faded.count = x.count := by
  unfold MonX.faded
  (repeat' split) <;> exact ⟨rfl, rfl, rfl, rfl, rfl⟩

/-- The 64th sample of a fade ends it, or starts the queued one back. -/
theorem MonX.faded_of_fading {x : MonX} (h : x.bank ≠ 0) :
    if x.fade < 63 then x.faded.fade = x.fade + 1 ∧ x.faded.bank = x.bank ∧ x.faded.active = x.active
    else if x.bank = 1 then x.faded.fade = 0 ∧ x.faded.bank = 0 ∧ x.faded.active = x.active
    else x.faded.fade = 0 ∧ x.faded.bank = 1 ∧ x.faded.active = 1 - x.active := by
  unfold MonX.faded
  by_cases h63 : x.fade < 63
  · simp [h, h63]
  · by_cases h1 : x.bank = 1
    · simp [h63, h1]
    · simp [h, h63, h1]

theorem State.countFade_monX (s : State) (l : Nat) : (s.countFade l).monX l = (s.monX l).faded := by
  unfold State.countFade MonX.faded
  dsimp only
  split
  · rfl
  · split
    · rw [State.monX_modMon_self]
    · rw [State.monX_of_mon (State.pulse_mon _ _ _ _), State.monX_modMon_self]

/-! ### Detectors (R193) -/

/-- A chain with other values in its detectors. -/
def MonX.detecting (x : MonX) (peak env sum : Rat) (count : Nat) : MonX :=
  { x with peak := peak, env := env, sum := sum, count := count }

/-- A sample of power p enters the detectors: PEAK is at least p, and the block has one sample more. -/
theorem State.detect_monX (s : State) (l : Nat) (p : Rat) :
    ∃ peak env, p ≤ peak ∧ (s.detect l p).monX l =
      (s.monX l).detecting peak env ((s.monX l).sum + p) ((s.monX l).count + 1) := by
  unfold State.detect
  rw [State.monX_modMon_self]
  exact ⟨_, _, le_max_left _ _, rfl⟩

theorem State.endBlock_monX (s : State) (l : Nat) : (s.endBlock l).monX l =
    if (s.monX l).count < s.rmsLength l then s.monX l else (s.monX l).detecting (s.monX l).peak (s.monX l).env 0 0 := by
  unfold State.endBlock
  dsimp only
  split
  · rfl
  · rw [State.monX_modMon_self]
    rfl

/-- The last sample of a block shows its mean, and one block more. -/
theorem State.endBlock_shown {s : State} {l : Nat} (h : s.rmsLength l ≤ (s.monX l).count) :
    (s.endBlock l).g LMON.RMS.LEVEL l = dbfsLevel ((s.monX l).sum / (s.monX l).count) % 2 ^ 16 ∧
      (s.endBlock l).g LMON.RMS.BLOCKS l = (s.g LMON.RMS.BLOCKS l + 1) % 2 ^ 16 := by
  unfold State.endBlock
  dsimp only
  rw [if_neg (by omega), State.modMon_g, State.modMon_g]
  constructor
  · rw [State.g_wr_of_id (by decide), State.g_wr_self]
    rfl
  · rw [State.g_wr_self, State.g_wr_of_id (by decide)]
    rfl

theorem State.showDetectors_mon (s : State) (l : Nat) : (s.showDetectors l).mon = s.mon := by
  simp [State.showDetectors]

theorem State.showDetectors_peak (s : State) (l : Nat) :
    (s.showDetectors l).g LMON.PEAK.LEVEL l = dbfsLevel (s.monX l).peak % 2 ^ 16 := by
  unfold State.showDetectors
  dsimp only
  rw [State.cond_g rfl, State.cond_g rfl, State.cond_g rfl, State.g_wr_of_id (by decide), State.g_wr_self]
  rfl

/-- Besides PEAK and ENV the detectors write events alone. -/
theorem State.showDetectors_g {G : Fld} (he : G.event = false) (hp : G.id % 2048 ≠ LMON.PEAK.LEVEL.id % 2048)
    (hv : G.id % 2048 ≠ LMON.ENV.LEVEL.id % 2048) (s : State) (l a b : Nat) : (s.showDetectors l).g G a b = s.g G a b := by
  unfold State.showDetectors
  dsimp only
  rw [State.cond_g he, State.cond_g he, State.cond_g he, State.g_wr_of_id hv, State.g_wr_of_id hp]

/-! ### An output sample (R188 to R190, R193) -/

theorem State.countFade_g {G : Fld} (he : G.event = false) (s : State) (l a b : Nat) :
    (s.countFade l).g G a b = s.g G a b := by
  unfold State.countFade
  dsimp only
  split
  · rfl
  · split
    · rfl
    · exact State.pulse_g he _ _ _ _ _ _

theorem State.countFade_enabled (s : State) (l : Nat) : (s.countFade l).enabled .lmon l = s.enabled .lmon l :=
  congrArg (· == 1) (State.countFade_g rfl s l l 0)

/-- A sample that settles, or comes while ENABLE is 0, is one of the settling count and of the fade. -/
theorem State.emit_held {s : State} {l : Nat} (h : ¬ ((s.monX l).settle = 0 ∧ s.enabled .lmon l = true)) (back : Nat)
    (y : Cx) : s.emit l back y = (s.countFade l).modMon l fun x => { x with settle := x.settle - 1 } := by
  unfold State.emit
  simp only [State.countFade_monX, MonX.faded_rest, State.countFade_enabled]
  refine if_pos ?_
  simpa [imp_iff_not_or] using h

/-- A chain with a sample to show. -/
def MonX.shows (x : MonX) : MonX := { x with valid := true }

/-- A valid sample of power p in the detectors, before its block's end. -/
def State.detectSample (s : State) (l : Nat) (p : Rat) : State :=
  (((s.countFade l).modMon l MonX.shows).cond .lmon l 4 true).detect l p

theorem State.emit_valid_eq {s : State} {l : Nat} (hs : (s.monX l).settle = 0) (he : s.enabled .lmon l = true) (back : Nat)
    (y : Cx) : s.emit l back y =
      (((s.detectSample l y.normSq).endBlock l).showDetectors l).captureSample l back y := by
  unfold State.emit
  simp only [State.countFade_monX, MonX.faded_rest, State.countFade_enabled, hs, he, bne_self_eq_false, Bool.not_true,
    Bool.or_self, Bool.false_eq_true, if_false]
  rfl

theorem State.detectSample_g {G : Fld} (he : G.event = false) (s : State) (l : Nat) (p : Rat) (a b : Nat) :
    (s.detectSample l p).g G a b = s.g G a b := by
  unfold State.detectSample State.detect
  rw [State.modMon_g, State.cond_g he, State.modMon_g, State.countFade_g he]

theorem State.detectSample_monX (s : State) (l : Nat) (p : Rat) :
    ∃ peak env, p ≤ peak ∧ (s.detectSample l p).monX l =
      (s.monX l).faded.shows.detecting peak env ((s.monX l).sum + p) ((s.monX l).count + 1) := by
  have hbefore : (((s.countFade l).modMon l MonX.shows).cond .lmon l 4 true).monX l = (s.monX l).faded.shows := by
    rw [State.monX_of_mon (State.cond_mon ..), State.monX_modMon_self, State.countFade_monX]
  obtain ⟨peak, env, hp, hx⟩ := State.detect_monX (((s.countFade l).modMon l MonX.shows).cond .lmon l 4 true) l p
  rw [hbefore] at hx
  simp only [MonX.shows, MonX.faded_rest] at hx ⊢
  exact ⟨peak, env, hp, hx⟩

/-- A valid sample moves, besides the fade and the capture, VALID and the detectors. -/
theorem State.emit_valid_chain {s : State} {l : Nat} (hs : (s.monX l).settle = 0) (he : s.enabled .lmon l = true) (back : Nat)
    (y : Cx) : ∃ peak env sum count,
      ((s.emit l back y).monX l).bare = ((s.monX l).faded.shows.detecting peak env sum count).bare := by
  obtain ⟨peak, env, -, hx⟩ := s.detectSample_monX l y.normSq
  have hc := (State.CapturedAtMost.captureSample (((s.detectSample l y.normSq).endBlock l).showDetectors l) l back y).chain
  rw [← State.emit_valid_eq hs he, State.monX_of_mon (State.showDetectors_mon ..), State.endBlock_monX, hx] at hc
  split at hc
  · exact ⟨_, _, _, _, hc⟩
  · exact ⟨_, _, _, _, hc⟩

/-- What an output sample leaves of the chain's fade, its settling count and VALID. -/
theorem State.emit_chain (s : State) (l back : Nat) (y : Cx) :
    let x := (s.emit l back y).monX l
    (x.bank = (s.monX l).faded.bank ∧ x.fade = (s.monX l).faded.fade ∧ x.active = (s.monX l).faded.active) ∧
      x.ticks = (s.monX l).ticks ∧
      if (s.monX l).settle = 0 ∧ s.enabled .lmon l = true then x.settle = 0 ∧ x.valid = true
      else x.settle = (s.monX l).settle - 1 ∧ x.valid = (s.monX l).valid := by
  dsimp only
  split
  case isTrue h =>
    obtain ⟨peak, env, sum, count, hx⟩ := State.emit_valid_chain h.1 h.2 back y
    simp only [MonX.bare, MonX.shows, MonX.detecting, MonX.mk.injEq] at hx
    simp [hx, h.1]
  case isFalse h =>
    rw [State.emit_held h, State.monX_modMon_self, State.countFade_monX]
    simp

theorem State.emit_others (s : State) (l back : Nat) (y : Cx) {k : Nat} (hk : k ≠ l) :
    (s.emit l back y).monX k = s.monX k := by
  by_cases h : (s.monX l).settle = 0 ∧ s.enabled .lmon l = true
  · obtain ⟨u, hu, he⟩ := State.emit_valid h.1 h.2 back y
    rw [he, (State.CapturedAtMost.captureSample u l back y).others k hk, hu.others k hk]
  · rw [State.emit_held h, State.monX_modMon_ne _ hk, (State.Sampled.countFade s l).others k hk]

/-- Within a block the detectors show PEAK. -/
theorem State.showDetectors_within {s : State} {l : Nat} (h : (s.monX l).count < s.rmsLength l) (back : Nat) (y : Cx) :
    let t := ((s.endBlock l).showDetectors l).captureSample l back y
    (t.monX l).count = (s.monX l).count ∧ (t.monX l).sum = (s.monX l).sum ∧ (t.monX l).peak = (s.monX l).peak ∧
      t.g LMON.PEAK.LEVEL l = dbfsLevel (s.monX l).peak % 2 ^ 16 := by
  obtain ⟨-, -, hx, hregs⟩ := State.CapturedAtMost.captureSample ((s.endBlock l).showDetectors l) l back y
  have hmon : (s.endBlock l).monX l = s.monX l := (s.endBlock_monX l).trans (if_pos h)
  rw [State.monX_of_mon (State.showDetectors_mon ..), hmon] at hx
  simp only [MonX.bare, MonX.mk.injEq] at hx
  dsimp only
  rw [hregs _ _ _ rfl (by decide), State.showDetectors_peak, hmon]
  simp [hx]

/-- At the end of a block the detectors begin anew, with its mean shown. -/
theorem State.showDetectors_ended {s : State} {l : Nat} (h : s.rmsLength l ≤ (s.monX l).count) (back : Nat) (y : Cx) :
    let t := ((s.endBlock l).showDetectors l).captureSample l back y
    (t.monX l).count = 0 ∧ (t.monX l).sum = 0 ∧
      t.g LMON.RMS.LEVEL l = dbfsLevel ((s.monX l).sum / (s.monX l).count) % 2 ^ 16 ∧
      t.g LMON.RMS.BLOCKS l = (s.g LMON.RMS.BLOCKS l + 1) % 2 ^ 16 := by
  obtain ⟨-, -, hx, hregs⟩ := State.CapturedAtMost.captureSample ((s.endBlock l).showDetectors l) l back y
  rw [State.monX_of_mon (State.showDetectors_mon ..), State.endBlock_monX, if_neg (not_lt.2 h)] at hx
  simp only [MonX.bare, MonX.detecting, MonX.mk.injEq] at hx
  obtain ⟨hlevel, hblocks⟩ := State.endBlock_shown h
  dsimp only
  rw [hregs _ _ _ rfl (by decide), hregs _ _ _ rfl (by decide), State.showDetectors_g rfl (by decide) (by decide),
    State.showDetectors_g rfl (by decide) (by decide), hlevel, hblocks]
  simp [hx]

/-- What a valid sample leaves of the detectors, within a block and at its end. -/
theorem State.emit_detects {s : State} {l : Nat} (hs : (s.monX l).settle = 0) (he : s.enabled .lmon l = true) (back : Nat)
    (y : Cx) :
    let t := s.emit l back y
    ((s.monX l).count + 1 < s.rmsLength l →
      (t.monX l).count = (s.monX l).count + 1 ∧ (t.monX l).sum = (s.monX l).sum + y.normSq ∧
      y.normSq ≤ (t.monX l).peak ∧ t.g LMON.PEAK.LEVEL l = dbfsLevel (t.monX l).peak % 2 ^ 16) ∧
    (s.rmsLength l ≤ (s.monX l).count + 1 →
      (t.monX l).count = 0 ∧ (t.monX l).sum = 0 ∧
      t.g LMON.RMS.LEVEL l = dbfsLevel (((s.monX l).sum + y.normSq) / (((s.monX l).count + 1 : Nat) : Rat)) % 2 ^ 16 ∧
      t.g LMON.RMS.BLOCKS l = (s.g LMON.RMS.BLOCKS l + 1) % 2 ^ 16) := by
  dsimp only
  rw [State.emit_valid_eq hs he]
  obtain ⟨peak, env, hp, hx⟩ := s.detectSample_monX l y.normSq
  have hlen : (s.detectSample l y.normSq).rmsLength l = s.rmsLength l := by
    unfold State.rmsLength
    rw [State.detectSample_g rfl]
  have hblocks := State.detectSample_g (G := LMON.RMS.BLOCKS) rfl s l y.normSq l 0
  generalize s.detectSample l y.normSq = u at hx hlen hblocks ⊢
  have hcount : (u.monX l).count = (s.monX l).count + 1 := by rw [hx]; rfl
  have hsum : (u.monX l).sum = (s.monX l).sum + y.normSq := by rw [hx]; rfl
  have hpeak : y.normSq ≤ (u.monX l).peak := by rw [hx]; exact hp
  rw [← hcount, ← hsum, ← hlen, ← hblocks]
  constructor
  · intro hn
    obtain ⟨h1, h2, h3, h4⟩ := State.showDetectors_within hn back y
    rw [h3]
    exact ⟨h1, h2, hpeak, h4⟩
  · exact fun hn => State.showDetectors_ended hn back y

end Sys2Proof.Machine
end

section
/-! The ADC code that completes an output sample of a line's monitor chain (R183, R185). -/

namespace Sys2Proof.Machine

/-- A chain whose filters took the last code of an output sample. -/
def MonX.ticked (x : MonX) (phase : Nat) (integ combs half fir : List Cx) : MonX :=
  { x with phase := phase, integ := integ, combs := combs, half := half, fir := fir, ticks := 0 }

/-- From `s` to `t` the filters of line `l`'s chain took the last code of an output sample. -/
structure State.Ticked (l : Nat) (s t : State) : Prop where
  regs : t.regs = s.regs
  lines : t.lines = s.lines
  others : ∀ k, k ≠ l → t.monX k = s.monX k
  chain : ∃ phase integ combs half fir, t.monX l = (s.monX l).ticked phase integ combs half fir

theorem State.Ticked.enabled {l : Nat} {s t : State} (h : State.Ticked l s t) (p : Page) (i : Nat) :
    t.enabled p i = s.enabled p i := by
  unfold State.enabled State.g
  rw [h.regs]

/-- With a preset that decimates, the code goes on through the CIC, the half-band and the FIR. -/
theorem State.feedSample_last {s : State} {l : Nat} (hp : s.chainPreset l ≠ 4)
    (ht : (s.monX l).ticks + 1 = 64 * 2 ^ s.chainPreset l) (back : Nat) (code : Int) :
    ∃ u, State.Ticked l s u ∧ s.feedSample l back code = u.emit l back (u.firOutput l) := by
  have h4 : 64 * 2 ^ s.chainPreset l = 4 * (16 * 2 ^ s.chainPreset l) := by omega
  have h2 : 64 * 2 ^ s.chainPreset l = 2 * (2 * (16 * 2 ^ s.chainPreset l)) := by omega
  unfold State.feedSample
  extract_lets x preset y phase n sum a d integ t1 o v half t2 t3
  have hn : n = 64 * 2 ^ s.chainPreset l := ht
  have hd : n % d = 0 := by rw [hn, h4, Nat.mul_mod_left]
  have hd2 : n % (2 * d) = 0 := by rw [hn, h2, Nat.mul_mod_left]
  have hd4 : n % (4 * d) = 0 := by rw [hn, h4, Nat.mod_self]
  rw [if_neg hp]
  simp only [hd, hd2, hd4, bne_self_eq_false, Bool.false_eq_true, if_false]
  refine ⟨t3, ⟨?_, ?_, fun k hk => ?_, ?_⟩, rfl⟩
  · simp only [t3, t2, t1, State.modMon_regs]
  · simp only [t3, t2, t1, State.modMon_lines]
  · simp only [t3, t2, t1, State.monX_modMon_ne _ hk]
  · simp only [t3, t2, t1, State.monX_modMon_self, hd4]
    exact ⟨_, _, _, _, _, rfl⟩

/-- In STEP the code ends the sum of 2,048 mixer outputs. -/
theorem State.Ticked.stepDone (s : State) (l phase : Nat) : State.Ticked l s (s.modMon l (MonX.stepDone phase)) where
  regs := rfl
  lines := rfl
  others := fun _ hk => State.monX_modMon_ne _ hk _
  chain := ⟨_, _, _, _, _, State.monX_modMon_self _ _ _⟩

theorem State.feed_ticked {s : State} {l : Nat} (ht : s.lastTick l = true) (code : Int) :
    ∃ u y, State.Ticked l s u ∧ s.feed l [code] = u.emit l 0 y := by
  by_cases hp : s.chainPreset l = 4
  · rw [State.feed_last ht hp]
    exact ⟨_, _, .stepDone s l _, rfl⟩
  · simp only [State.lastTick, hp, if_false, Bool.and_eq_true, beq_iff_eq] at ht
    obtain ⟨u, hu, he⟩ := State.feedSample_last hp ht.2 0 (clampInt (-2048) 2047 code)
    refine ⟨u, u.firOutput l, hu, ?_⟩
    rw [← he, State.feed, if_pos ht.1]
    rfl

/-- In STEP a valid sample, of power p, enters the detectors. -/
theorem State.feed_detects {s : State} {l : Nat} (ht : s.lastTick l = true) (hp : s.chainPreset l = 4)
    (hs : (s.monX l).settle = 0) (he : s.enabled .lmon l = true) (code : Int) :
    let t := s.feed l [code]
    let p := (s.stepOut l code).normSq
    ((s.monX l).count + 1 < s.rmsLength l →
      (t.monX l).count = (s.monX l).count + 1 ∧ (t.monX l).sum = (s.monX l).sum + p ∧ p ≤ (t.monX l).peak ∧
      t.g LMON.PEAK.LEVEL l = dbfsLevel (t.monX l).peak % 2 ^ 16) ∧
    (s.rmsLength l ≤ (s.monX l).count + 1 →
      (t.monX l).count = 0 ∧ (t.monX l).sum = 0 ∧
      t.g LMON.RMS.LEVEL l = dbfsLevel (((s.monX l).sum + p) / (((s.monX l).count + 1 : Nat) : Rat)) % 2 ^ 16 ∧
      t.g LMON.RMS.BLOCKS l = (s.g LMON.RMS.BLOCKS l + 1) % 2 ^ 16) := by
  dsimp only
  rw [State.feed_last ht hp]
  have h := State.emit_detects (s := s.modMon l (MonX.stepDone (((s.monX l).phase + s.chainNco l) % 2 ^ 32))) (l := l)
    (by rw [State.monX_modMon_self]; exact hs) he 0 (s.stepOut l code)
  rw [State.monX_modMon_self] at h
  exact h

theorem State.feed_others {s : State} {l : Nat} (ht : s.lastTick l = true) (code : Int) {k : Nat} (hk : k ≠ l) :
    (s.feed l [code]).monX k = s.monX k := by
  obtain ⟨u, y, hu, he⟩ := State.feed_ticked ht code
  rw [he, State.emit_others _ _ _ _ hk, hu.others k hk]

end Sys2Proof.Machine
end

section
/-! A synchronising reset of a line's monitor chain (R188, R189, R191). -/

namespace Sys2Proof.Machine

theorem State.CapturedAtMost.chainPreset {l : Nat} {s t : State} (h : State.CapturedAtMost l s t) :
    t.chainPreset l = s.chainPreset l := by
  have hx := h.chain
  simp only [MonX.bare, MonX.mk.injEq] at hx
  unfold State.chainPreset
  rw [h.regs LMON.CHAIN.PRESET l 0 rfl (by decide)]
  simp [hx]

/-- From `s` to `t` the chain of line `l` began anew with the preset of `s`, but for its capture (R188). -/
structure State.Restarted (l : Nat) (s t : State) : Prop where
  lines : t.lines = s.lines
  others : ∀ k, k ≠ l → t.monX k = s.monX k
  chain : (t.monX l).bare = ((s.monX l).restart (s.chainPreset l)).bare
  blocks : t.g LMON.RMS.BLOCKS l = 0
  regs : ∀ (G : Fld) (a b : Nat), G.event = false → G.id % 2048 < LMON.CSTAT.LAST_SWAP.id → t.g G a b = s.g G a b

/-- What comes of the capture at a reset: one that began is cut off (R196), one that waits has its trigger (R195). -/
def State.syncCapture (s : State) (l : Nat) : State :=
  match (s.monX l).cap with
  | some c =>
    if c.started then s.cutCapture l 2 else s.modMon l fun x => { x with cap := some { c with synced := true } }
  | none => s

theorem State.CapturedAtMost.syncCapture (s : State) (l : Nat) : State.CapturedAtMost l s (s.syncCapture l) := by
  unfold State.syncCapture
  split
  · split
    · exact .cutCapture s l 2
    · exact .setCap s l _
  · exact .refl l s

/-- What a reset does once the capture is dealt with and LAST_SWAP written. -/
def State.restartChain (s : State) (l : Nat) : State :=
  let s := s.modMon l fun x => x.restart (s.chainPreset l)
  let s := (s.wr LMON.RMS.LEVEL 0x8000 l).wr LMON.RMS.BLOCKS 0 l
  let s := (s.capture2 LMON.RST_NS.NS LMON.RST_SEC.SEC l).cond .lmon l 4 false
  s.showDetectors l

theorem State.landSync_eq (s : State) (l : Nat) : s.landSync l =
    (if ((s.syncCapture l).monX l).bank = 2 then (s.syncCapture l).wr LMON.CSTAT.LAST_SWAP 4 l
      else s.syncCapture l).restartChain l := by
  unfold State.landSync State.syncCapture
  rfl

theorem State.Restarted.restartChain (s : State) (l : Nat) : State.Restarted l s (s.restartChain l) := by
  have hmon : (s.restartChain l).mon = (s.modMon l fun x => x.restart (s.chainPreset l)).mon := by
    unfold State.restartChain
    rw [State.showDetectors_mon, State.cond_mon, State.capture2_mon, State.wr_mon, State.wr_mon]
  refine ⟨?_, fun k hk => ?_, ?_, ?_, fun G a b he hG => ?_⟩
  · simp [State.restartChain]
  · rw [State.monX_of_mon hmon, State.monX_modMon_ne _ hk]
  · rw [State.monX_of_mon hmon, State.monX_modMon_self]
  · unfold State.restartChain State.capture2
    dsimp only
    rw [State.showDetectors_g rfl (by decide) (by decide), State.cond_g rfl, State.g_wr_of_id (by decide),
      State.g_wr_of_id (by decide), State.g_wr_self, Nat.zero_mod]
  · have hne (F : Fld) (hF : LMON.CSTAT.LAST_SWAP.id ≤ F.id % 2048) : G.id % 2048 ≠ F.id % 2048 := (hG.trans_le hF).ne
    unfold State.restartChain State.capture2
    dsimp only
    rw [State.showDetectors_g he (hne _ (by decide)) (hne _ (by decide)), State.cond_g he, State.g_wr_of_id (hne _ (by decide)),
      State.g_wr_of_id (hne _ (by decide)), State.g_wr_of_id (hne _ (by decide)), State.g_wr_of_id (hne _ (by decide)),
      State.modMon_g]

theorem State.Restarted.landSync (s : State) (l : Nat) : State.Restarted l s (s.landSync l) := by
  have hc := State.CapturedAtMost.syncCapture s l
  rw [State.landSync_eq]
  generalize hu : (if ((s.syncCapture l).monX l).bank = 2 then (s.syncCapture l).wr LMON.CSTAT.LAST_SWAP 4 l
    else s.syncCapture l) = u
  have hmon : u.mon = (s.syncCapture l).mon := by rw [← hu]; split <;> rfl
  have hlines : u.lines = (s.syncCapture l).lines := by rw [← hu]; split <;> rfl
  have hregs (G : Fld) (a b : Nat) (hG : G.id % 2048 < LMON.CSTAT.LAST_SWAP.id) :
      u.g G a b = (s.syncCapture l).g G a b := by
    rw [← hu]
    split
    · exact State.g_wr_of_id hG.ne _ _ _ _ _ _
    · rfl
  have hpreset : u.chainPreset l = s.chainPreset l := by
    rw [← hc.chainPreset]
    unfold State.chainPreset
    rw [State.monX_of_mon hmon, hregs _ _ _ (by decide)]
  obtain ⟨h1, h2, h3, h4, h5⟩ := State.Restarted.restartChain u l
  refine ⟨by rw [h1, hlines, hc.lines], fun k hk => by rw [h2 k hk, State.monX_of_mon hmon, hc.others k hk], ?_, h4,
    fun G a b he hG => ?_⟩
  · rw [h3, hpreset, State.monX_of_mon hmon]
    exact congrArg (MonX.restart · (s.chainPreset l)) hc.chain
  · rw [h5 G a b he hG, hregs G a b hG, hc.regs G a b he (hG.trans (by decide))]

/-- What shows of a chain that began anew: no sample yet, the settling count of its preset, no fade, empty detectors. -/
theorem State.Restarted.shown {l : Nat} {s t : State} (h : State.Restarted l s t) :
    (t.monX l).armed = (s.monX l).armed ∧ (t.monX l).valid = false ∧
      (t.monX l).settle = (if s.chainPreset l = 4 then 1 else 64) ∧ (t.monX l).bank = 0 ∧
      (t.monX l).active = (s.monX l).active ∧ (t.monX l).peak = 0 ∧ (t.monX l).env = 0 := by
  have hx := h.chain
  simp only [MonX.bare, MonX.restart, MonX.mk.injEq] at hx
  simp [hx]

end Sys2Proof.Machine
end

section
/-! The rows of a line's monitor chain (O15): an armed reset that lands, and the codes that complete an output sample. -/

namespace Sys2Proof.Machine

/-- An armed reset whose moment comes. -/
theorem syncResetLand_restarts {s : State} {l : Nat} (hl : l < 128) (hd : s.dspRuns = true) {a : SyncArm} {elapsed : Nat}
    (ha : (s.monX l).armed = some a) (hon : s.chainOn l = true) (hm : s.syncMoment a elapsed = true) :
    s.runsTo (.syncResetLand l elapsed) fun t =>
      (t.monX l).armed = none ∧ (t.monX l).valid = false ∧ (t.monX l).settle = (if s.chainPreset l = 4 then 1 else 64) ∧
      (t.monX l).bank = 0 ∧ (t.monX l).active = (s.monX l).active ∧ (t.monX l).peak = 0 ∧ (t.monX l).env = 0 ∧
      t.g LMON.RMS.BLOCKS l = 0 ∧ t.lines = s.lines ∧ ∀ k, k ≠ l → t.monX k = s.monX k := by
  refine runs_when hl rfl hd ?_
  simp only [ha, hon, hm, Bool.and_self, when_true]
  have hr := State.Restarted.landSync (s.modMon l fun x => { x with armed := none }) l
  obtain ⟨harmed, hvalid, hsettle, hbank, hactive, hpeak, henv⟩ := hr.shown
  have hpreset : (s.modMon l fun x => { x with armed := none }).chainPreset l = s.chainPreset l := by
    unfold State.chainPreset
    rw [State.monX_modMon_self, State.modMon_g]
  rw [State.monX_modMon_self] at harmed hactive
  rw [hpreset] at hsettle
  exact ⟨harmed, hvalid, hsettle, hbank, hactive, hpeak, henv, hr.blocks, hr.lines,
    fun k hk => (hr.others k hk).trans (State.monX_modMon_ne _ hk _)⟩

/-- A row of the line DSP that carries ADC codes, while it runs. -/
theorem runs_fed {l : Nat} (hl : l < 128) {c : Instr} {s : State} {adc : List Int} {P : State → Prop}
    (he : exec c s = withSignal l s fun s => s.feed l adc) (hd : s.dspRuns = true) (h : P (s.feed l adc)) : s.runsTo c P :=
  runs_when hl he hd h

/-- An output sample counts toward the settling, or sets VALID. -/
theorem monitorSettled_counts {s : State} {l : Nat} (hl : l < 128) (hd : s.dspRuns = true) (code : Int)
    (ht : s.lastTick l = true) :
    s.runsTo (.monitorSettled l [code]) fun t =>
      (if (s.monX l).settle = 0 ∧ s.enabled .lmon l = true then (t.monX l).settle = 0 ∧ (t.monX l).valid = true
       else (t.monX l).settle = (s.monX l).settle - 1 ∧ (t.monX l).valid = (s.monX l).valid) ∧
      (t.monX l).ticks = 0 ∧ t.lines = s.lines ∧ ∀ k, k ≠ l → t.monX k = s.monX k := by
  refine runs_fed hl rfl hd ?_
  obtain ⟨u, y, hu, he⟩ := State.feed_ticked ht code
  obtain ⟨phase, integ, combs, half, fir, hx⟩ := hu.chain
  obtain ⟨-, hticks, hsettle⟩ := u.emit_chain l 0 y
  rw [← he, hx] at hticks
  rw [← he, hu.enabled, hx] at hsettle
  exact ⟨hsettle, hticks, State.feed_lines _ _ _, fun k hk => State.feed_others ht code hk⟩

/-- An output sample brings a fade on by one; the 64th ends it, or starts the queued one. -/
theorem fadeDone_fades {s : State} {l : Nat} (hl : l < 128) (hd : s.dspRuns = true) (code : Int)
    (ht : s.lastTick l = true) (hbank : (s.monX l).bank ≠ 0) :
    s.runsTo (.fadeDone l [code]) fun t =>
      (if (s.monX l).fade < 63 then
         (t.monX l).fade = (s.monX l).fade + 1 ∧ (t.monX l).bank = (s.monX l).bank ∧ (t.monX l).active = (s.monX l).active
       else if (s.monX l).bank = 1 then
         (t.monX l).fade = 0 ∧ (t.monX l).bank = 0 ∧ (t.monX l).active = (s.monX l).active
       else (t.monX l).fade = 0 ∧ (t.monX l).bank = 1 ∧ (t.monX l).active = 1 - (s.monX l).active) ∧
      t.lines = s.lines ∧ ∀ k, k ≠ l → t.monX k = s.monX k := by
  refine runs_fed hl rfl hd ?_
  obtain ⟨u, y, hu, he⟩ := State.feed_ticked ht code
  obtain ⟨phase, integ, combs, half, fir, hx⟩ := hu.chain
  obtain ⟨⟨hb, hf, ha⟩, -⟩ := u.emit_chain l 0 y
  have hfaded := MonX.faded_of_fading (x := u.monX l) (by rw [hx]; exact hbank)
  rw [← hb, ← hf, ← ha, ← he, hx] at hfaded
  exact ⟨hfaded, State.feed_lines _ _ _, fun k hk => State.feed_others ht code hk⟩

/-- Settles O15: the reset by `State.Restarted`, the output samples by what `State.emit` leaves of the fade, of the settling count
and of the detectors. -/
theorem monitorChain : Obligations.MonitorChain := by
  unfold Obligations.MonitorChain
  intro s l hl hd
  refine ⟨fun a elapsed => syncResetLand_restarts hl hd,
    fun code ht => ⟨monitorSettled_counts hl hd code ht, fadeDone_fades hl hd code ht⟩,
    fun code ht hp hs he => ⟨fun hn => ?_, fun hn => ?_⟩⟩
  · obtain ⟨hcount, hsum, hpeak, hlevel⟩ := (State.feed_detects ht hp hs he code).1 hn
    exact runs_fed hl rfl hd ⟨hcount, hsum, hpeak, hlevel, State.feed_lines _ _ _, fun k hk => State.feed_others ht code hk⟩
  · obtain ⟨hcount, hsum, hlevel, hblocks⟩ := (State.feed_detects ht hp hs he code).2 hn
    exact runs_fed hl rfl hd ⟨hcount, hsum, hlevel, hblocks, State.feed_lines _ _ _, fun k hk => State.feed_others ht code hk⟩

end Sys2Proof.Machine
end

section
/-! A second of POSTMARK for ports, lines and lockouts, and the obligation about it (O17; R197, R286, R342). -/

namespace Sys2Proof.Machine

/-! ### Ports -/

/-- From `s` to `t` ports counted a second (R197): of the registers only their counters and events moved. -/
structure State.PortsJudged (s t : State) : Prop where
  lines : t.lines = s.lines
  time : t.time = s.time
  regs : ∀ (G : Fld) (a b : Nat), G.event = false → (∀ F ∈ portCounters, G.id % 2048 ≠ F.id % 2048) →
    t.g G a b = s.g G a b

theorem State.PortsJudged.refl (s : State) : State.PortsJudged s s := ⟨rfl, rfl, fun _ _ _ _ _ => rfl⟩

theorem State.PortsJudged.trans {s t u : State} (h : State.PortsJudged s t) (k : State.PortsJudged t u) :
    State.PortsJudged s u :=
  ⟨k.lines.trans h.lines, k.time.trans h.time, fun G a b he hG => (k.regs G a b he hG).trans (h.regs G a b he hG)⟩

theorem State.PortsJudged.bump {s t : State} (h : State.PortsJudged s t) {F : Fld} (hF : F ∈ portCounters) (i k j : Nat) :
    State.PortsJudged s (t.bump F i k j) :=
  h.trans ⟨rfl, rfl, fun _ _ _ _ hG => State.g_bump_of_id (hG F hF) _ _ _ _ _ _⟩

theorem State.PortsJudged.pulse {s t : State} (h : State.PortsJudged s t) (p : Page) (i n : Nat) :
    State.PortsJudged s (t.pulse p i n) :=
  h.trans ⟨State.pulse_lines .., State.pulse_time .., fun _ _ _ he _ => State.pulse_g he _ _ _ _ _ _⟩

theorem State.PortsJudged.portSecond (s : State) (p : Nat) : State.PortsJudged s (s.portSecond p) := by
  unfold State.portSecond
  extract_lets x es ses s1 s2 up s3
  have h1 : State.PortsJudged s s1 := by
    simp only [s1]
    split
    · exact ((State.PortsJudged.refl s).bump (by decide) _ _ _).pulse _ _ _
    · exact .refl s
  have h2 : State.PortsJudged s s2 := by
    simp only [s2]
    split
    · exact h1.bump (by decide) _ _ _
    · exact h1
  have h3 : State.PortsJudged s s3 := by
    simp only [s3]
    split
    · exact h2
    · exact h2.bump (by decide) _ _ _
  clear_value s3
  exact h3.trans ⟨rfl, rfl, fun _ _ _ _ _ => State.modPort_g _ _ _ _ _ _⟩

theorem State.PortsJudged.foldl (ps : List Nat) (s : State) :
    State.PortsJudged s (ps.foldl State.portSecond s) :=
  List.foldlRecOn (motive := State.PortsJudged s) ps _ (.refl s) fun t ht p _ => ht.trans (.portSecond t p)

/-! ### Lines -/

/-- A line after its second: it was up where it is up now. -/
def LineX.judged (x : LineX) : LineX := { x with upSec := decide (x.st = .showtime) || decide (x.st = .banked) }

/-- A V line that was up at no time of the second. -/
def State.unavailable (s : State) (l : Nat) : Bool :=
  s.isV l && !((s.line l).upSec || ((s.line l).st = .showtime || (s.line l).st = .banked))

/-- From `s` to `t` line `l` counted its second (R197). -/
structure State.LineJudged (l : Nat) (s t : State) : Prop where
  line : t.line l = (s.line l).judged
  counted : t.g LMON.UAS_LINE.COUNT l =
    if s.unavailable l then satAdd 32 (s.g LMON.UAS_LINE.COUNT l) 1 else s.g LMON.UAS_LINE.COUNT l

/-- A second of line `l` moves its data and its counter, and nothing else of the lines, the time and the registers. -/
structure State.SecondOf (l : Nat) (s t : State) : Prop where
  judged : State.LineJudged l s t
  time : t.time = s.time
  others : ∀ k, k ≠ l → t.line k = s.line k
  counters : ∀ k, k ≠ l → t.g LMON.UAS_LINE.COUNT k = s.g LMON.UAS_LINE.COUNT k
  regs : ∀ (G : Fld) (a b : Nat), G.id % 2048 ≠ LMON.UAS_LINE.COUNT.id % 2048 → t.g G a b = s.g G a b

theorem State.lineSecond_eq (s : State) (l : Nat) :
    s.lineSecond l = (if s.unavailable l then s.bump LMON.UAS_LINE.COUNT l else s).modLine l fun x =>
      { x with upSec := (s.line l).judged.upSec } := rfl

theorem State.SecondOf.lineSecond (s : State) (l : Nat) : State.SecondOf l s (s.lineSecond l) := by
  rw [State.lineSecond_eq]
  generalize hu : (if s.unavailable l then s.bump LMON.UAS_LINE.COUNT l else s) = u
  have hline (k : Nat) : u.line k = s.line k := by rw [← hu]; split <;> rfl
  refine ⟨⟨?_, ?_⟩, ?_, fun k hk => ?_, fun k hk => ?_, fun G a b hG => ?_⟩
  · rw [State.line_modLine_self, hline]
    rfl
  · rw [State.modLine_g, ← hu]
    split
    · rw [State.g_bump_self]
      exact satAdd_mod _ _ _
    · rfl
  · rw [State.modLine_time, ← hu]
    split <;> rfl
  · rw [State.line_modLine_ne _ hk, hline]
  · rw [State.modLine_g, ← hu]
    split
    · exact State.g_wr_of_inst (by simpa [Fld.bank_of_page (F := LMON.UAS_LINE.COUNT) (by decide)] using hk) (by decide)
        (by decide) _ _
    · rfl
  · rw [State.modLine_g, ← hu]
    split
    · exact State.g_bump_of_id hG _ _ _ _ _ _
    · rfl

/-- From `s` to `t` the lines of a list counted their second. -/
structure State.LinesJudged (ls : List Nat) (s t : State) : Prop where
  judged : ∀ l ∈ ls, State.LineJudged l s t
  time : t.time = s.time
  others : ∀ k, k ∉ ls → t.line k = s.line k
  counters : ∀ k, k ∉ ls → t.g LMON.UAS_LINE.COUNT k = s.g LMON.UAS_LINE.COUNT k
  regs : ∀ (G : Fld) (a b : Nat), G.id % 2048 ≠ LMON.UAS_LINE.COUNT.id % 2048 → t.g G a b = s.g G a b

theorem State.SecondOf.unavailable {k l : Nat} {s t : State} (h : State.SecondOf k s t) (hl : l ≠ k) :
    t.unavailable l = s.unavailable l := by
  unfold State.unavailable State.isV State.isVHead State.isVTail State.mode
  rw [h.regs _ _ _ (by decide), h.others l hl]

theorem State.LinesJudged.foldl {ls : List Nat} (hn : ls.Nodup) (s : State) :
    State.LinesJudged ls s (ls.foldl State.lineSecond s) := by
  induction ls generalizing s with
  | nil => exact ⟨by simp, rfl, fun _ _ => rfl, fun _ _ => rfl, fun _ _ _ _ => rfl⟩
  | cons k ls ih =>
    obtain ⟨hk, hls⟩ := List.nodup_cons.1 hn
    have h1 := State.SecondOf.lineSecond s k
    have h2 := ih hls (s.lineSecond k)
    refine ⟨fun l hl => ?_, h2.time.trans h1.time, fun m hm => ?_, fun m hm => ?_,
      fun G a b hG => (h2.regs G a b hG).trans (h1.regs G a b hG)⟩
    · rcases List.mem_cons.1 hl with rfl | hmem
      · exact ⟨(h2.others l hk).trans h1.judged.line, (h2.counters l hk).trans h1.judged.counted⟩
      · have hne : l ≠ k := fun e => hk (e ▸ hmem)
        obtain ⟨hline, hcounted⟩ := h2.judged l hmem
        rw [h1.unavailable hne, h1.counters l hne] at hcounted
        rw [h1.others l hne] at hline
        exact ⟨hline, hcounted⟩
    · obtain ⟨hne, hnot⟩ := not_or.1 (List.mem_cons.not.1 hm)
      exact (h2.others m hnot).trans (h1.others m hne)
    · obtain ⟨hne, hnot⟩ := not_or.1 (List.mem_cons.not.1 hm)
      exact (h2.counters m hnot).trans (h1.counters m hne)

/-! ### Lockouts -/

/-- A lockout's remaining seconds fall by one (R342). -/
def State.lockSecond (s : State) (c : Nat) : State :=
  s.wr SESSION.STAT.LOCK_LEFT (s.g SESSION.STAT.LOCK_LEFT c - 1) c

theorem State.lockSecond_self (s : State) (c : Nat) :
    (s.lockSecond c).g SESSION.STAT.LOCK_LEFT c = (s.g SESSION.STAT.LOCK_LEFT c - 1) % 2 ^ 8 := State.g_wr_self ..

theorem State.lockSecond_ne (s : State) {c k : Nat} (h : k ≠ c) :
    (s.lockSecond c).g SESSION.STAT.LOCK_LEFT k = s.g SESSION.STAT.LOCK_LEFT k :=
  State.g_wr_of_inst (by simpa [Fld.bank_of_page (F := SESSION.STAT.LOCK_LEFT) (by decide)] using h) (by decide) (by decide) _ _

/-- The lockouts of the three channels. -/
theorem State.foldl_lockSecond (s : State) {c : Nat} (hc : c < 3) :
    ((List.range 3).foldl State.lockSecond s).g SESSION.STAT.LOCK_LEFT c = (s.g SESSION.STAT.LOCK_LEFT c - 1) % 2 ^ 8 := by
  change (((s.lockSecond 0).lockSecond 1).lockSecond 2).g SESSION.STAT.LOCK_LEFT c = _
  obtain rfl | rfl | rfl : c = 0 ∨ c = 1 ∨ c = 2 := by omega
  · rw [State.lockSecond_ne _ (by decide), State.lockSecond_ne _ (by decide), State.lockSecond_self]
  · rw [State.lockSecond_ne _ (by decide), State.lockSecond_self, State.lockSecond_ne _ (by decide)]
  · rw [State.lockSecond_self, State.lockSecond_ne _ (by decide), State.lockSecond_ne _ (by decide)]

/-- Lockouts write their own registers alone. -/
theorem State.foldl_lockSecond_keeps (s : State) :
    ((List.range 3).foldl State.lockSecond s).lines = s.lines ∧ ((List.range 3).foldl State.lockSecond s).time = s.time ∧
      ∀ (G : Fld) (a b : Nat), G.id % 2048 ≠ SESSION.STAT.LOCK_LEFT.id % 2048 →
        ((List.range 3).foldl State.lockSecond s).g G a b = s.g G a b :=
  ⟨rfl, rfl, fun G a b hG => foldl_g G a b _ (fun _ _ => State.g_wr_of_id hG _ _ _ _ _ _) _ _⟩

/-! ### The obligation -/

/-- The seconds advance, and PPS_OUT rises where it is enabled (R286). -/
def State.nextSecond (s : State) : State :=
  { s with time := { s.time with sec := (s.time.sec + 1) % 2 ^ 48, ns := 0, frac := 0, sub := 0,
                                 ppsOut := s.g TIMEBASE.CTRL.PPS_OUT_EN == 1 } }

/-- Settles O17: the ports by `State.PortsJudged`, then the lines by `State.LinesJudged`, then the lockouts. -/
theorem postmarkSeconds : Obligations.PostmarkSeconds := by
  unfold Obligations.PostmarkSeconds
  intro s
  have he : exec .postmarkSecond s = .next ((List.range 3).foldl State.lockSecond (allLines.foldl State.lineSecond
      ((allLines.filter s.nextSecond.isAnchor).foldl State.portSecond s.nextSecond))) := rfl
  have hp := State.PortsJudged.foldl (allLines.filter s.nextSecond.isAnchor) s.nextSecond
  generalize (allLines.filter s.nextSecond.isAnchor).foldl State.portSecond s.nextSecond = u at he hp
  have hl := State.LinesJudged.foldl (ls := allLines) List.nodup_range u
  generalize allLines.foldl State.lineSecond u = v at he hl
  obtain ⟨hlines, htime, hregs⟩ := v.foldl_lockSecond_keeps
  have hclock : ((List.range 3).foldl State.lockSecond v).time = s.nextSecond.time := by rw [htime, hl.time, hp.time]
  have hline (l : Nat) : u.line l = s.line l := State.line_of_lines hp.lines l
  refine ⟨_, he, congrArg TimeX.sec hclock, congrArg TimeX.ns hclock, congrArg TimeX.frac hclock,
    congrArg TimeX.ppsOut hclock, fun c hc => ?_, fun l h128 => ?_⟩
  · rw [State.foldl_lockSecond v hc, hl.regs _ _ _ (by decide), hp.regs _ _ _ rfl (by decide)]
    rfl
  · obtain ⟨hj, hcount⟩ := hl.judged l (List.mem_range.2 h128)
    rw [State.line_of_lines hlines, hj, hline, hregs _ _ _ (by decide), hcount, hp.regs _ _ _ rfl (by decide)]
    have hun : u.unavailable l = true ↔
        s.isV l = true ∧ (s.line l).upSec = false ∧ (s.line l).st ≠ .showtime ∧ (s.line l).st ≠ .banked := by
      unfold State.unavailable State.isV State.isVHead State.isVTail State.mode
      rw [hline, hp.regs _ _ _ rfl (by decide)]
      simp [State.nextSecond, State.g]
    refine ⟨rfl, ?_⟩
    simp only [hun]
    rfl

end Sys2Proof.Machine
end

section
/-! A granted word of an LMON page: what it stores and which actions follow (O53; R184 to R198). -/

namespace Sys2Proof.Machine

/-! ### The actions -/

/-- The fields of an LMON page whose word starts an action, in the order of the actions. -/
def monitorActs : List Fld :=
  [LMON.CHAIN.PRESET, LMON.SYNCRST.CANCEL, LMON.SYNCRST.ARM, LMON.BANK.SWAP, LMON.CAP_CTRL.REQUEST, LMON.CNT_CTRL.CLEAR,
   LMON.SNR_WATCH.TONE]

/-- What the word of one such field starts. -/
def State.monitorAct (t : State) (l : Nat) (F : Fld) : State :=
  if F = LMON.CHAIN.PRESET then t.landSync l
  else if F = LMON.SYNCRST.CANCEL then t.cancelSync l
  else if F = LMON.SYNCRST.ARM then t.armSync l (t.g LMON.SYNCRST.SRC l)
  else if F = LMON.BANK.SWAP then t.swapBanks l
  else if F = LMON.CAP_CTRL.REQUEST then t.startCapture l
  else if F = LMON.CNT_CTRL.CLEAR then t.clearCounters l
  else t.restartWatch l

section
variable (t : State) (l : Nat)

theorem State.monitorAct_preset : t.monitorAct l LMON.CHAIN.PRESET = t.landSync l := if_pos rfl
theorem State.monitorAct_cancel : t.monitorAct l LMON.SYNCRST.CANCEL = t.cancelSync l := rfl
theorem State.monitorAct_arm : t.monitorAct l LMON.SYNCRST.ARM = t.armSync l (t.g LMON.SYNCRST.SRC l) := rfl
theorem State.monitorAct_swap : t.monitorAct l LMON.BANK.SWAP = t.swapBanks l := rfl
theorem State.monitorAct_request : t.monitorAct l LMON.CAP_CTRL.REQUEST = t.startCapture l := rfl
theorem State.monitorAct_clear : t.monitorAct l LMON.CNT_CTRL.CLEAR = t.clearCounters l := rfl
theorem State.monitorAct_tone : t.monitorAct l LMON.SNR_WATCH.TONE = t.restartWatch l := rfl

end

/-- A word outside the detectors' settings is stored, and its own actions follow. -/
theorem State.applyWord_monitor (s : State) (ch : Channel) (l : Nat) {off : Nat} (w : Nat) (ho : 0x040 ≤ off)
    (hd : ¬ (0x060 ≤ off ∧ off ≤ 0x06C)) :
    s.applyWord (wordAt ch .lmon l off w) = (monitorActs.filter fun F => F.off = off).foldl
      (fun t F => if hits (s.acted (wordAt ch .lmon l off w)) F then t.monitorAct l F else t)
      (s.storeWord (wordAt ch .lmon l off w)) := by
  have hall : (s.storeWord (wordAt ch .lmon l off w)).lineEffects (wordAt ch .lmon l off w)
      (s.acted (wordAt ch .lmon l off w)) = monitorActs.foldl
        (fun t F => if hits (s.acted (wordAt ch .lmon l off w)) F then t.monitorAct l F else t)
        (s.storeWord (wordAt ch .lmon l off w)) := by
    simp only [monitorActs, List.foldl_cons, List.foldl_nil, State.monitorAct_preset, State.monitorAct_cancel,
      State.monitorAct_arm, State.monitorAct_swap, State.monitorAct_request, State.monitorAct_clear, State.monitorAct_tone]
    exact if_neg hd
  have hother : ∀ F ∈ monitorActs, F.off ≠ off → hits (s.acted (wordAt ch .lmon l off w)) F = false := by
    have hone : ∀ F ∈ monitorActs, F.cnt = 1 := by decide
    exact fun F hF h => hits_other_word s ch l w (hone F hF) h
  rw [State.applyWord_line s ho rfl, hall, List.foldl_filter]
  generalize s.acted (wordAt ch .lmon l off w) = act at hother
  refine List.foldl_ext _ _ _ fun t F hF => ?_
  by_cases h : F.off = off
  · simp [h]
  · simp [h, hother F hF h]

/-- A granted write of a field of the page runs to the word's storage and its actions. -/
theorem State.runsTo_monitor {s : State} {c : Instr} {ch : Channel} {F : Fld} {l j w off : Nat} {P : State → Prop}
    (hc : exec c s = .next (s.writeAt ch F l j w)) (hg : s.grants ch F l j w = true) (hp : F.page = .lmon)
    (hoff : F.off + F.stride * j = off) (hl : l < 128) (ho : 0x040 ≤ off) (hd : ¬ (0x060 ≤ off ∧ off ≤ 0x06C))
    (hlt : off < 4096)
    (h : ∀ m : Mgmt, P (((monitorActs.filter fun F => F.off = off).foldl
      (fun t F => if hits (s.acted (wordAt ch .lmon l off w)) F then t.monitorAct l F else t)
      (s.storeWord (wordAt ch .lmon l off w))).modMgmt fun _ => m)) : s.runsTo c P := by
  refine State.runsTo_granted hc hg hp hoff hl (by decide) hlt fun m _ _ => ?_
  rw [State.applyWord_monitor s ch l w ho hd]
  exact h m

/-- A granted write of a field that starts the one action of its word runs to that action on what the word stores. -/
theorem State.runsTo_started {s u : State} {c : Instr} {ch : Channel} {F : Fld} {l w : Nat} {P : State → Prop}
    (hc : exec c s = .next (s.writeAt ch F l 0 w)) (hg : s.grants ch F l 0 w = true) (hp : F.page = .lmon) (hl : l < 128)
    (ho : 0x040 ≤ F.off ∧ ¬ (0x060 ≤ F.off ∧ F.off ≤ 0x06C) ∧ F.off < 4096)
    (hone : (monitorActs.filter fun G => G.off = F.off) = [F]) (hhit : hits (s.acted (wordAt ch .lmon l F.off w)) F = true)
    (hstore : s.storeWord (wordAt ch .lmon l F.off w) = u)
    (h : ∀ m : Mgmt, P ((u.monitorAct l F).modMgmt fun _ => m)) : s.runsTo c P := by
  obtain ⟨hmin, hset, hmax⟩ := ho
  refine State.runsTo_monitor hc hg hp (by rw [Nat.mul_zero, Nat.add_zero]) hl hmin hset hmax fun m => ?_
  rw [hone, List.foldl_cons, List.foldl_nil, if_pos hhit, hstore]
  exact h m

/-! ### The fields a word stores (R12) -/

theorem clampedField_monitor {F : Fld} (h : F.page = .lmon) (v : Nat) : clampedField F v = v := by
  have hne (G : Fld) (hG : G.page ≠ .lmon) : F ≠ G := fun e => hG (e ▸ h)
  unfold clampedField
  repeat rw [if_neg (hne _ (by decide))]

theorem fieldThere_monitor {F : Fld} (hp : F.page = .lmon) (ho : 0x040 ≤ F.off) (i : Nat) : fieldThere F i = true := by
  have hne : F ≠ SESSION.MDIO_BASE.CLUSTER := fun e => absurd hp (e ▸ by decide)
  unfold fieldThere
  rw [if_neg hne, if_neg (by omega), if_neg (by omega)]

/-- Of the page's block fields the RW ones take their bits; the settings of the chain do so where the host has it (R187). -/
theorem State.storeField_monitor {s : State} {ch : Channel} {l off w : Nat} {e : Fld × Nat} (hp : e.1.page = .lmon)
    (ho : 0x040 ≤ e.1.off) (ha : e.1.acc = .rw ∨ e.1.acc = .w1p ∨ e.1.acc = .live)
    (hown : (s.monX l).owner = 0 ∨ e.1 ≠ LMON.CHAIN.PRESET ∧ e.1 ≠ LMON.NCO.FREQ) :
    s.storeField (wordAt ch .lmon l off w) e = if e.1.acc = .rw then s.wr e.1 (bits w e.1.lo e.1.w) l e.2 else s := by
  have hb : e.1 ≠ BOOT.CTRL.PREFER := fun h => absurd hp (h ▸ by decide)
  have hval : (wordAt ch .lmon l off w).val e.1 = bits w e.1.lo e.1.w :=
    (clampedField_monitor hp _).trans (carried_wordAt ch .lmon l off w ho)
  have hinst : (wordAt ch .lmon l off w).inst = l := rfl
  unfold State.storeField
  rcases ha with ha | ha | ha
  · rcases hown with h | ⟨h1, h2⟩
    · simp [ha, hval, hb, hinst, h]
    · simp [ha, hval, hb, hinst, h1, h2]
  · simp [ha]
  · simp [ha]

/-- A word of the page's block stores its RW fields. -/
theorem State.storeWord_monitor (s : State) (ch : Channel) (l : Nat) {off : Nat} (w : Nat)
    (hf : ∀ e ∈ fieldsAt .lmon off, 0x040 ≤ e.1.off ∧ (e.1.acc = .rw ∨ e.1.acc = .w1p ∨ e.1.acc = .live))
    (hown : (s.monX l).owner = 0 ∨ ∀ e ∈ fieldsAt .lmon off, e.1 ≠ LMON.CHAIN.PRESET ∧ e.1 ≠ LMON.NCO.FREQ) :
    s.storeWord (wordAt ch .lmon l off w) = ((fieldsAt .lmon off).filter fun e => e.1.acc = .rw).foldl
      (fun s e => s.wr e.1 (bits w e.1.lo e.1.w) l e.2) s := by
  have hpage : ∀ e ∈ fieldsAt .lmon off, e.1.page = .lmon := fun e he => pageFields_page _ _ (fieldsAt_page he)
  have hfields : (wordAt ch .lmon l off w).fields = fieldsAt .lmon off :=
    List.filter_eq_self.2 fun e he => fieldThere_monitor (hpage e he) (hf e he).1 l
  unfold State.storeWord
  simp only [hfields, List.foldl_filter, decide_eq_true_eq]
  generalize fieldsAt .lmon off = fs at hf hown hpage
  induction fs generalizing s with
  | nil => rfl
  | cons e fs ih =>
    obtain ⟨ho, ha⟩ := hf e List.mem_cons_self
    have he := State.storeField_monitor (s := s) (ch := ch) (l := l) (off := off) (w := w) (hpage e List.mem_cons_self) ho ha
      (hown.imp_right fun h => h e List.mem_cons_self)
    rw [List.foldl_cons, List.foldl_cons, he]
    refine ih _ (fun d hd => hf d (List.mem_cons_of_mem _ hd)) ?_ fun d hd => hpage d (List.mem_cons_of_mem _ hd)
    refine hown.imp (fun h => ?_) fun h d hd => h d (List.mem_cons_of_mem _ hd)
    split <;> exact h

/-- CHAIN stores PRESET while the host has the chain. -/
theorem State.storeWord_chain {s : State} {l : Nat} (h : (s.monX l).owner = 0) (ch : Channel) (w : Nat) :
    s.storeWord (wordAt ch .lmon l 0x040 w) = s.wr LMON.CHAIN.PRESET (bits w 0 3) l := by
  rw [s.storeWord_monitor ch l w (by decide) (.inl h)]
  rfl

/-- NCO stores FREQ while the host has the chain. -/
theorem State.storeWord_nco {s : State} {l : Nat} (h : (s.monX l).owner = 0) (ch : Channel) (w : Nat) :
    s.storeWord (wordAt ch .lmon l 0x044 w) = s.wr LMON.NCO.FREQ (bits w 0 32) l := by
  rw [s.storeWord_monitor ch l w (by decide) (.inl h)]
  rfl

/-- SYNCRST stores SRC. -/
theorem State.storeWord_syncrst (s : State) (ch : Channel) (l w : Nat) :
    s.storeWord (wordAt ch .lmon l 0x048 w) = s.wr LMON.SYNCRST.SRC (bits w 0 2) l := by
  rw [s.storeWord_monitor ch l w (by decide) (.inr (by decide))]
  rfl

/-- BANK stores nothing. -/
theorem State.storeWord_bank (s : State) (ch : Channel) (l w : Nat) : s.storeWord (wordAt ch .lmon l 0x050 w) = s := by
  rw [s.storeWord_monitor ch l w (by decide) (.inr (by decide))]
  rfl

/-- CAP_CTRL stores TRIG, TMO and COUNT. -/
theorem State.storeWord_capCtrl (s : State) (ch : Channel) (l w : Nat) :
    s.storeWord (wordAt ch .lmon l 0x0A0 w) =
      ((s.wr LMON.CAP_CTRL.TRIG (bits w 24 2) l).wr LMON.CAP_CTRL.TMO (bits w 16 8) l).wr LMON.CAP_CTRL.COUNT
        (bits w 0 10) l := by
  rw [s.storeWord_monitor ch l w (by decide) (.inr (by decide))]
  rfl

/-- CNT_CTRL stores nothing. -/
theorem State.storeWord_cntCtrl (s : State) (ch : Channel) (l w : Nat) : s.storeWord (wordAt ch .lmon l 0x0F0 w) = s := by
  rw [s.storeWord_monitor ch l w (by decide) (.inr (by decide))]
  rfl

/-- SNR_WATCH stores TONE. -/
theorem State.storeWord_snrWatch (s : State) (ch : Channel) (l w : Nat) :
    s.storeWord (wordAt ch .lmon l 0x164 w) = s.wr LMON.SNR_WATCH.TONE (bits w 0 7) l := by
  rw [s.storeWord_monitor ch l w (by decide) (.inr (by decide))]
  rfl

end Sys2Proof.Machine
end

section
/-! The rows of an LMON page's registers as a channel writes them, and the obligation about them (O53; R185 to R198). -/

namespace Sys2Proof.Machine

/-- One register and the chain's data of one line move. -/
theorem State.wr_modMon_spec (s : State) (F : Fld) (v l : Nat) (f : MonX → MonX) :
    let t := (s.wr F v l).modMon l f
    t.monX l = f (s.monX l) ∧ t.g F l = v % 2 ^ F.w ∧ s.onlyReg F l 0 t ∧ t.lines = s.lines ∧
      ∀ k, k ≠ l → t.monX k = s.monX k :=
  ⟨State.monX_modMon_self _ _ _, s.g_wr_self F v l 0, s.wr_onlyReg F v l 0, rfl, fun _ hk => State.monX_modMon_ne _ hk _⟩

/-! ### The chain's settings (R186, R187) -/

/-- A new PRESET restarts the chain with its settling. -/
theorem monitorPresetWrite_restarts {s : State} {ch : Channel} {l : Nat} {w : Word} (hl : l < 128)
    (hg : s.grants ch LMON.CHAIN.PRESET l 0 w.toNat = true) (hown : (s.monX l).owner = 0)
    (hnew : s.g LMON.CHAIN.PRESET l ≠ w.toNat % 8) :
    s.runsTo (.monitorPresetWrite ch l w) fun t =>
      t.g LMON.CHAIN.PRESET l = w.toNat % 8 ∧ (t.monX l).valid = false ∧
      (t.monX l).settle = (if w.toNat % 8 = 4 then 1 else 64) ∧ (t.monX l).bank = 0 ∧ t.lines = s.lines ∧
      ∀ k, k ≠ l → t.monX k = s.monX k := by
  have hval : s.value LMON.CHAIN.PRESET l 0 = s.g LMON.CHAIN.PRESET l := if_pos hown
  have hbits : bits w.toNat 0 3 = w.toNat % 8 := by simp [bits]
  have hhit : hits (s.acted (wordAt ch .lmon l 0x040 w.toNat)) LMON.CHAIN.PRESET = true := by
    rw [hits_rw_wordAt s ch l w.toNat rfl (by decide) (by decide) rfl, hval, decide_eq_true_eq]
    exact fun e => hnew (e.symm.trans hbits)
  refine State.runsTo_started (withLine_of_lt hl s _) hg rfl hl (by decide) (by decide) hhit (State.storeWord_chain hown ch _)
    fun m => ?_
  rw [State.monitorAct_preset, hbits]
  have hstored : (s.wr LMON.CHAIN.PRESET (w.toNat % 8) l).g LMON.CHAIN.PRESET l = w.toNat % 8 :=
    (State.g_wr_self ..).trans (Nat.mod_mod _ 8)
  have hpreset : (s.wr LMON.CHAIN.PRESET (w.toNat % 8) l).chainPreset l = w.toNat % 8 := (if_pos hown).trans hstored
  have hr := State.Restarted.landSync (s.wr LMON.CHAIN.PRESET (w.toNat % 8) l) l
  obtain ⟨-, hvalid, hsettle, hbank, -⟩ := hr.shown
  rw [hpreset] at hsettle
  generalize State.landSync _ l = u at hr hvalid hsettle hbank ⊢
  exact ⟨(hr.regs _ _ _ rfl (by decide)).trans hstored, hvalid, hsettle, hbank, hr.lines, hr.others⟩

/-- FREQ takes the word, and the chain runs on. -/
theorem monitorNcoWrite_stores {s : State} {ch : Channel} {l : Nat} {w : Word} (hl : l < 128)
    (hg : s.grants ch LMON.NCO.FREQ l 0 w.toNat = true) (hown : (s.monX l).owner = 0) :
    s.runsTo (.monitorNcoWrite ch l w) fun t =>
      t.g LMON.NCO.FREQ l = w.toNat ∧ s.onlyReg LMON.NCO.FREQ l 0 t ∧ t.mon = s.mon ∧ t.lines = s.lines := by
  refine State.runsTo_monitor (off := 0x044) (withLine_of_lt hl s _) hg rfl rfl hl (by decide) (by decide) (by decide) fun m => ?_
  rw [show (monitorActs.filter fun F => F.off = 0x044) = [] by decide, List.foldl_nil, State.storeWord_nco hown]
  have hbits : bits w.toNat 0 32 % 2 ^ 32 = w.toNat := by simp [bits, Nat.mod_eq_of_lt w.isLt]
  exact ⟨(State.g_wr_self ..).trans hbits, s.wr_onlyReg LMON.NCO.FREQ (bits w.toNat 0 32) l 0, rfl, rfl⟩

/-! ### SYNCRST (R189) -/

/-- A word of SYNCRST stores SRC; CANCEL, then ARM follow (log 106). -/
theorem State.runsTo_syncrst {s : State} {c : Instr} {ch : Channel} {F : Fld} {l : Nat} {w : Word} {P : State → Prop}
    (hc : exec c s = .next (s.trigger ch F l 0 w)) (hg : s.grants ch F l 0 (withOnes w F) = true)
    (hF : F ∈ [LMON.SYNCRST.CANCEL, LMON.SYNCRST.ARM]) (hl : l < 128)
    (h : ∀ m : Mgmt, ∀ act, act = s.acted (wordAt ch .lmon l 0x048 (withOnes w F)) →
      P ((let t := s.wr LMON.SYNCRST.SRC (w.toNat % 4) l
          let t := if hits act LMON.SYNCRST.CANCEL then t.cancelSync l else t
          if hits act LMON.SYNCRST.ARM then t.armSync l (t.g LMON.SYNCRST.SRC l) else t).modMgmt fun _ => m)) : s.runsTo c P := by
  have hword : ∀ F ∈ [LMON.SYNCRST.CANCEL, LMON.SYNCRST.ARM],
      F.page = .lmon ∧ F.off + F.stride * 0 = 0x048 ∧ 2 ≤ F.lo := by decide
  obtain ⟨hp, hoff, hlo⟩ := hword F hF
  refine State.runsTo_monitor hc hg hp hoff hl (by decide) (by decide) (by decide) fun m => ?_
  have hbits : bits (withOnes w F) 0 2 = w.toNat % 4 :=
    (bits_withOnes_other w F LMON.SYNCRST.SRC (.inl hlo)).trans (by simp [bits, LMON.SYNCRST.SRC])
  rw [show (monitorActs.filter fun F => F.off = 0x048) = [LMON.SYNCRST.CANCEL, LMON.SYNCRST.ARM] by decide,
    State.storeWord_syncrst, hbits]
  exact h m _ rfl

/-- ARM at its source: at once with source 0, else it waits (R189). -/
theorem State.armSync_spec (s : State) (l src : Nat) :
    let t := s.armSync l src
    (t.monX l).armed = (if src = 0 then none else some { src := src, sfc := s.sfc, sym := s.sym, sec := s.time.sec }) ∧
      (src = 0 → (t.monX l).valid = false) ∧ t.lines = s.lines ∧ ∀ k, k ≠ l → t.monX k = s.monX k := by
  dsimp only
  unfold State.armSync
  split
  case isTrue h =>
    have hr := State.Restarted.landSync (s.modMon l fun x => { x with armed := none }) l
    obtain ⟨harmed, hvalid, -⟩ := hr.shown
    rw [State.monX_modMon_self] at harmed
    exact ⟨harmed, fun _ => hvalid, hr.lines, fun k hk => (hr.others k hk).trans (State.monX_modMon_ne _ hk _)⟩
  case isFalse h =>
    rw [State.monX_modMon_self]
    exact ⟨rfl, fun h0 => absurd h0 h, rfl, fun k hk => State.monX_modMon_ne _ hk _⟩

/-- ARM, with or without CANCEL beside it, ends as ARM alone does (log 106). -/
theorem syncrstArm_arms {s : State} {ch : Channel} {l : Nat} {w : Word} (hl : l < 128)
    (hg : s.grants ch LMON.SYNCRST.ARM l 0 (withOnes w LMON.SYNCRST.ARM) = true) :
    s.runsTo (.syncrstArm ch l w) fun t =>
      (t.monX l).armed = (if w.toNat % 4 = 0 then none
                          else some { src := w.toNat % 4, sfc := s.sfc, sym := s.sym, sec := s.time.sec }) ∧
      (w.toNat % 4 = 0 → (t.monX l).valid = false) ∧ t.lines = s.lines ∧ ∀ k, k ≠ l → t.monX k = s.monX k := by
  refine State.runsTo_syncrst (withLine_of_lt hl s _) hg (by decide) hl fun m act hact => ?_
  have harm : hits act LMON.SYNCRST.ARM = true := by
    rw [hact]
    exact hits_own_trigger s ch w rfl (by decide) (by decide) rfl (by decide)
  generalize hu : (if hits act LMON.SYNCRST.CANCEL then (s.wr LMON.SYNCRST.SRC (w.toNat % 4) l).cancelSync l
    else s.wr LMON.SYNCRST.SRC (w.toNat % 4) l) = u
  have hsrc : u.g LMON.SYNCRST.SRC l = w.toNat % 4 := by
    have hwr : (s.wr LMON.SYNCRST.SRC (w.toNat % 4) l).g LMON.SYNCRST.SRC l = w.toNat % 4 :=
      (State.g_wr_self ..).trans (Nat.mod_mod _ 4)
    rw [← hu]
    split <;> exact hwr
  have hkept : u.sfc = s.sfc ∧ u.sym = s.sym ∧ u.time = s.time ∧ u.lines = s.lines := by
    rw [← hu]
    split <;> exact ⟨rfl, rfl, rfl, rfl⟩
  have hmon : ∀ k, k ≠ l → u.monX k = s.monX k := fun k hk => by
    rw [← hu]
    split
    · exact State.monX_modMon_ne _ hk _
    · rfl
  obtain ⟨hsfc, hsym, htime, hlines⟩ := hkept
  obtain ⟨h1, h2, h3, h4⟩ := u.armSync_spec l (w.toNat % 4)
  rw [hsfc, hsym, htime] at h1
  simp only [hu, harm, if_true, hsrc]
  generalize u.armSync l (w.toNat % 4) = v at h1 h2 h3 h4 ⊢
  exact ⟨h1, h2, h3.trans hlines, fun k hk => (h4 k hk).trans (hmon k hk)⟩

/-- CANCEL without ARM ends the wait. -/
theorem syncrstCancel_cancels {s : State} {ch : Channel} {l : Nat} {w : Word} (hl : l < 128)
    (hg : s.grants ch LMON.SYNCRST.CANCEL l 0 (withOnes w LMON.SYNCRST.CANCEL) = true) (hw : w.toNat / 256 % 2 = 0) :
    s.runsTo (.syncrstCancel ch l w) fun t =>
      t.monX l = { s.monX l with armed := none } ∧ s.onlyReg LMON.SYNCRST.SRC l 0 t ∧ t.lines = s.lines ∧
      ∀ k, k ≠ l → t.monX k = s.monX k := by
  refine State.runsTo_syncrst (withLine_of_lt hl s _) hg (by decide) hl fun m act hact => ?_
  have hcancel : hits act LMON.SYNCRST.CANCEL = true := by
    rw [hact]
    exact hits_own_trigger s ch w rfl (by decide) (by decide) rfl (by decide)
  have harm : hits act LMON.SYNCRST.ARM = false := by
    rw [hact, hits_other_trigger s ch w rfl (by decide) (by decide) rfl (by decide)]
    simp [bits, LMON.SYNCRST.ARM, hw]
  simp only [hcancel, harm, if_true, Bool.false_eq_true, if_false]
  obtain ⟨hx, -, honly, hlines, hothers⟩ :=
    s.wr_modMon_spec LMON.SYNCRST.SRC (w.toNat % 4) l fun x => { x with armed := none }
  unfold State.cancelSync
  generalize State.modMon _ l _ = u at hx honly hlines hothers ⊢
  exact ⟨hx, honly, hlines, hothers⟩

/-! ### Banks (R190 to R192) -/

/-- A granted SWAP swaps the banks by the table of R191. -/
theorem State.runsTo_bankSwap {s : State} {ch : Channel} {l : Nat} {w : Word} {P : State → Prop} (hl : l < 128)
    (hg : s.grants ch LMON.BANK.SWAP l 0 (withOnes w LMON.BANK.SWAP) = true)
    (h : ∀ m : Mgmt, P ((s.swapBanks l).modMgmt fun _ => m)) : s.runsTo (.bankSwap ch l w) P := by
  refine State.runsTo_started (withLine_of_lt hl s _) hg rfl hl (by decide) (by decide)
    (hits_own_trigger s ch w rfl (by decide) (by decide) rfl (by decide)) (s.storeWord_bank ch l _) fun m => ?_
  rw [State.monitorAct_swap]
  exact h m

/-- No fade runs: one to the other bank starts. -/
theorem bankSwap_fades {s : State} {ch : Channel} {l : Nat} {w : Word} (hl : l < 128)
    (hg : s.grants ch LMON.BANK.SWAP l 0 (withOnes w LMON.BANK.SWAP) = true) (hbank : (s.monX l).bank = 0)
    (hown : (s.monX l).owner = 0) (hpreset : s.chainPreset l ≠ 4) :
    s.runsTo (.bankSwap ch l w) fun t =>
      t.monX l = { s.monX l with active := 1 - (s.monX l).active, bank := 1, fade := 0 } ∧ t.g LMON.CSTAT.LAST_SWAP l = 1 ∧
      s.onlyReg LMON.CSTAT.LAST_SWAP l 0 t ∧ ∀ k, k ≠ l → t.monX k = s.monX k := by
  refine State.runsTo_bankSwap hl hg fun m => ?_
  have hkept : (s.wr LMON.CSTAT.LAST_SWAP 1 l).chainPreset l = s.chainPreset l := by
    unfold State.chainPreset
    rw [State.g_wr_of_id (by decide)]
    rfl
  have hswap : s.swapBanks l = (s.wr LMON.CSTAT.LAST_SWAP 1 l).modMon l fun x =>
      { x with active := 1 - x.active, bank := 1, fade := 0 } := by
    unfold State.swapBanks
    simp only [hbank, hown, hkept, hpreset, if_true, ne_eq, not_true_eq_false, or_self, if_false]
  rw [hswap]
  obtain ⟨hx, hlast, honly, -, hothers⟩ := s.wr_modMon_spec LMON.CSTAT.LAST_SWAP 1 l fun x =>
    { x with active := 1 - x.active, bank := 1, fade := 0 }
  generalize State.modMon _ l _ = u at hx hlast honly hothers ⊢
  exact ⟨hx, hlast, honly, hothers⟩

/-- A fade runs: the way back is queued. -/
theorem bankSwap_queues {s : State} {ch : Channel} {l : Nat} {w : Word} (hl : l < 128)
    (hg : s.grants ch LMON.BANK.SWAP l 0 (withOnes w LMON.BANK.SWAP) = true) (hbank : (s.monX l).bank = 1) :
    s.runsTo (.bankSwap ch l w) fun t =>
      t.monX l = { s.monX l with bank := 2 } ∧ t.g LMON.CSTAT.LAST_SWAP l = 2 ∧
      s.onlyReg LMON.CSTAT.LAST_SWAP l 0 t ∧ ∀ k, k ≠ l → t.monX k = s.monX k := by
  refine State.runsTo_bankSwap hl hg fun m => ?_
  have hswap : s.swapBanks l = (s.wr LMON.CSTAT.LAST_SWAP 2 l).modMon l fun x => { x with bank := 2 } := by
    unfold State.swapBanks
    simp only [hbank, one_ne_zero, if_false, if_true]
  rw [hswap]
  obtain ⟨hx, hlast, honly, -, hothers⟩ := s.wr_modMon_spec LMON.CSTAT.LAST_SWAP 2 l fun x =>
    { x with bank := 2 }
  generalize State.modMon _ l _ = u at hx hlast honly hothers ⊢
  exact ⟨hx, hlast, honly, hothers⟩

/-- One is queued already: the swap only shows as refused. -/
theorem bankSwap_refuses {s : State} {ch : Channel} {l : Nat} {w : Word} (hl : l < 128)
    (hg : s.grants ch LMON.BANK.SWAP l 0 (withOnes w LMON.BANK.SWAP) = true) (hbank : 2 ≤ (s.monX l).bank) :
    s.runsTo (.bankSwap ch l w) fun t => t.mon = s.mon ∧ t.g LMON.CSTAT.LAST_SWAP l = 3 ∧ t.lines = s.lines := by
  refine State.runsTo_bankSwap hl hg fun m => ?_
  have hswap : s.swapBanks l = (s.wr LMON.CSTAT.LAST_SWAP 3 l).pulse .lmon l 6 := by
    unfold State.swapBanks
    dsimp only
    rw [if_neg (by omega), if_neg (by omega)]
  have hmon : (s.swapBanks l).mon = s.mon := by rw [hswap, State.pulse_mon, State.wr_mon]
  have hlast : (s.swapBanks l).g LMON.CSTAT.LAST_SWAP l = 3 := by
    rw [hswap, State.pulse_g rfl]
    exact State.g_wr_self ..
  have hlines := s.swapBanks_lines l
  generalize s.swapBanks l = u at hmon hlast hlines ⊢
  exact ⟨hmon, hlast, hlines⟩

theorem fieldsAt_bankA : ∀ i < 64, fieldsAt .lmon (0x200 + 4 * i) = [(LMON.BANKA.TAP, i)] := by decide +kernel
theorem fieldsAt_bankB : ∀ i < 64, fieldsAt .lmon (0x300 + 4 * i) = [(LMON.BANKB.TAP, i)] := by decide +kernel

/-- The word of a tap takes its 18 bits, and nothing follows. -/
theorem State.runsTo_tap {s : State} {c : Instr} {ch : Channel} {F : Fld} {l i : Nat} {w : Word} (hl : l < 128)
    (hi : i < 64) (hF : F = LMON.BANKA.TAP ∨ F = LMON.BANKB.TAP) (hc : exec c s = .next (s.writeAt ch F l i w.toNat))
    (hg : s.grants ch F l i w.toNat = true) :
    s.runsTo c fun t => t.g F l i = w.toNat % 2 ^ 18 ∧ s.onlyReg F l i t ∧ t.mon = s.mon ∧ t.lines = s.lines := by
  have hfld : F.page = .lmon ∧ F.stride = 4 ∧ 0x200 ≤ F.off ∧ F.off ≤ 0x300 ∧ F.acc = .rw ∧ F.lo = 0 ∧ F.w = 18 ∧
      F ≠ LMON.CHAIN.PRESET ∧ F ≠ LMON.NCO.FREQ := by rcases hF with rfl | rfl <;> decide
  obtain ⟨hp, hs, hmin, hmax, ha, hlo, hwid, hset⟩ := hfld
  have hat : fieldsAt .lmon (F.off + 4 * i) = [(F, i)] := by
    rcases hF with rfl | rfl
    · exact fieldsAt_bankA i hi
    · exact fieldsAt_bankB i hi
  refine State.runsTo_monitor (off := F.off + 4 * i) hc hg hp (by rw [hs]) hl (by omega) (by omega) (by omega) fun m => ?_
  have hact : (monitorActs.filter fun G => G.off = F.off + 4 * i) = [] := by
    have hlow : ∀ G ∈ monitorActs, G.off < 0x200 := by decide
    exact List.filter_eq_nil_iff.2 fun G hG h => by
      have := hlow G hG
      rw [decide_eq_true_eq] at h
      omega
  have hstore : s.storeWord (wordAt ch .lmon l (F.off + 4 * i) w.toNat) = s.wr F (bits w.toNat 0 18) l i := by
    rw [s.storeWord_monitor ch l w.toNat (by simp [hat, ha]; omega) (.inr (by simpa [hat] using hset)), hat]
    simp [ha, hlo, hwid]
  rw [hact, List.foldl_nil, hstore]
  refine ⟨?_, s.wr_onlyReg F (bits w.toNat 0 18) l i, rfl, rfl⟩
  exact (State.g_wr_self ..).trans (by rw [hwid]; simp [bits])

theorem bankTapWrite_stores {s : State} {ch : Channel} {l bank i : Nat} {w : Word} (hl : l < 128) (hi : i < 64)
    (hg : s.grants ch (if bank = 0 then LMON.BANKA.TAP else LMON.BANKB.TAP) l i w.toNat = true) :
    s.runsTo (.bankTapWrite ch l bank i w) fun t =>
      t.g (if bank = 0 then LMON.BANKA.TAP else LMON.BANKB.TAP) l i = w.toNat % 2 ^ 18 ∧
      s.onlyReg (if bank = 0 then LMON.BANKA.TAP else LMON.BANKB.TAP) l i t ∧ t.mon = s.mon ∧ t.lines = s.lines := by
  have hF : (if bank = 0 then LMON.BANKA.TAP else LMON.BANKB.TAP) = LMON.BANKA.TAP ∨
      (if bank = 0 then LMON.BANKA.TAP else LMON.BANKB.TAP) = LMON.BANKB.TAP := by
    split
    · exact .inl rfl
    · exact .inr rfl
  have hcnt : (if bank = 0 then LMON.BANKA.TAP else LMON.BANKB.TAP).cnt = 64 := by split <;> rfl
  exact State.runsTo_tap hl hi hF ((if_pos (hcnt ▸ hi)).trans (withLine_of_lt hl s _)) hg

/-! ### Captures, counters and the watch (R195, R197, R198) -/

/-- The capture that a word of CAP_CTRL asks for (R195). -/
def requestedCapture (w : Nat) : Capture :=
  { trig := w / 2 ^ 24 % 4, count := if w % 1024 = 0 ∨ 512 < w % 1024 then 512 else w % 1024 }

theorem captureRequest_begins {s : State} {ch : Channel} {l : Nat} {w : Word} (hl : l < 128)
    (hg : s.grants ch LMON.CAP_CTRL.REQUEST l 0 (withOnes w LMON.CAP_CTRL.REQUEST) = true) :
    s.runsTo (.captureRequest ch l w) fun t =>
      t.monX l = { s.monX l with cap := some (requestedCapture w.toNat) } ∧
      t.g (HDR.PAGE_STAT.BUSY .lmon) l = 1 ∧ t.g (HDR.RESULT_SEQ.STALE .lmon) l = 1 ∧ t.lines = s.lines := by
  refine State.runsTo_started (withLine_of_lt hl s _) hg rfl hl (by decide) (by decide)
    (hits_own_trigger s ch w rfl (by decide) (by decide) rfl (by decide)) (s.storeWord_capCtrl ch l _) fun m => ?_
  have htrig : bits (withOnes w LMON.CAP_CTRL.REQUEST) 24 2 = w.toNat / 2 ^ 24 % 4 :=
    bits_withOnes_other w LMON.CAP_CTRL.REQUEST LMON.CAP_CTRL.TRIG (.inl (by decide))
  have hcount : bits (withOnes w LMON.CAP_CTRL.REQUEST) 0 10 = w.toNat % 1024 :=
    (bits_withOnes_other w LMON.CAP_CTRL.REQUEST LMON.CAP_CTRL.COUNT (.inl (by decide))).trans
      (by simp [bits, LMON.CAP_CTRL.COUNT])
  rw [State.monitorAct_request, htrig, hcount]
  generalize hu : ((s.wr LMON.CAP_CTRL.TRIG (w.toNat / 2 ^ 24 % 4) l).wr LMON.CAP_CTRL.TMO
    (bits (withOnes w LMON.CAP_CTRL.REQUEST) 16 8) l).wr LMON.CAP_CTRL.COUNT (w.toNat % 1024) l = u
  have hmon : u.monX l = s.monX l := by rw [← hu]; rfl
  have hlines : u.lines = s.lines := by rw [← hu]; rfl
  have ht : u.g LMON.CAP_CTRL.TRIG l = w.toNat / 2 ^ 24 % 4 := by
    rw [← hu, State.g_wr_of_id (by decide), State.g_wr_of_id (by decide), State.g_wr_self]
    exact Nat.mod_mod _ 4
  have hn : u.g LMON.CAP_CTRL.COUNT l = w.toNat % 1024 := by
    rw [← hu, State.g_wr_self]
    exact Nat.mod_mod _ 1024
  have hx : (u.startCapture l).monX l = { s.monX l with cap := some (requestedCapture w.toNat) } := by
    unfold State.startCapture
    rw [State.monX_modMon_self, ht, hn, ← hmon]
    rfl
  have hbusy : (u.startCapture l).g (HDR.PAGE_STAT.BUSY .lmon) l = 1 := u.beginResult_busy .lmon l
  have hstale : (u.startCapture l).g (HDR.RESULT_SEQ.STALE .lmon) l = 1 := u.beginResult_stale .lmon l
  have hkept := u.startCapture_lines l
  generalize u.startCapture l = v at hx hbusy hstale hkept ⊢
  exact ⟨hx, hbusy, hstale, hkept.trans hlines⟩

/-- The watched values begin anew. -/
theorem State.restartWatch_shown (s : State) (l : Nat) :
    (s.restartWatch l).g LMON.WATCH_MINMAX.MIN l = 0xFFF ∧ (s.restartWatch l).g LMON.WATCH_MINMAX.MAX l = 0 := by
  unfold State.restartWatch
  exact ⟨(State.g_wr_of_id (by decide) ..).trans (State.g_wr_self ..), State.g_wr_self ..⟩

/-- Every counter cleared reads 0. -/
theorem State.clearAll_zero (s : State) (l : Nat) {F : Fld} (hF : F ∈ monCounters) : (s.clearAll monCounters l).g F l = 0 := by
  have hinj : ∀ F ∈ monCounters, ∀ G ∈ monCounters, G.id % 2048 = F.id % 2048 → G = F := by decide +kernel
  have hreset : ∀ F ∈ monCounters, ¬ (F.page = .lmon ∧ (F.off = 0x200 ∨ F.off = 0x300)) := by decide
  refine foldl_reaches (P := fun u => u.g F l = 0) (fun u G hG h => ?_) hF (fun u => ?_) s
  · exact State.g_zero_wr_zero (hinj F hF G hG) (fun j => if_neg (hreset F hF)) h 0
  · exact (State.g_wr_self ..).trans (Nat.zero_mod _)

theorem State.clearAll_mon (s : State) (fs : List Fld) (l : Nat) : (s.clearAll fs l).mon = s.mon :=
  List.foldlRecOn (motive := fun u : State => u.mon = s.mon) fs _ rfl fun _ hu _ _ => hu

/-- CLEAR zeroes the counters and EPOCH, and restarts the watch (R197, R198; log 107). -/
theorem State.clearCounters_spec (s : State) (l : Nat) :
    let t := s.clearCounters l
    (∀ F ∈ monCounters, t.g F l = 0) ∧ t.g LMON.EPOCH.COUNT l = 0 ∧ t.g LMON.WATCH_MINMAX.MIN l = 0xFFF ∧
      t.g LMON.WATCH_MINMAX.MAX l = 0 ∧ t.mon = s.mon ∧ t.lines = s.lines := by
  have hzero (F : Fld) (hF : F ∈ monCounters) := s.clearAll_zero l hF
  have hmon := s.clearAll_mon monCounters l
  have hlines := s.clearAll_lines monCounters l
  unfold State.clearCounters
  dsimp only
  generalize s.clearAll monCounters l = u at hzero hmon hlines ⊢
  obtain ⟨hmin, hmax⟩ := (u.wr LMON.EPOCH.COUNT 0 l).restartWatch_shown l
  refine ⟨fun F hF => ?_, ?_, hmin, hmax, hmon, hlines⟩
  · have hne : ∀ F ∈ monCounters, F.id % 2048 ≠ LMON.EPOCH.COUNT.id % 2048 ∧
        F.id % 2048 ≠ LMON.WATCH_MINMAX.MIN.id % 2048 ∧ F.id % 2048 ≠ LMON.WATCH_MINMAX.MAX.id % 2048 := by decide
    obtain ⟨hepoch, hlow, hhigh⟩ := hne F hF
    rw [State.restartWatch, State.g_wr_of_id hhigh, State.g_wr_of_id hlow, State.g_wr_of_id hepoch, hzero F hF]
  · rw [State.restartWatch, State.g_wr_of_id (by decide), State.g_wr_of_id (by decide), State.g_wr_self, Nat.zero_mod]

theorem counterClear_clears {s : State} {ch : Channel} {l : Nat} {w : Word} (hl : l < 128)
    (hg : s.grants ch LMON.CNT_CTRL.CLEAR l 0 (withOnes w LMON.CNT_CTRL.CLEAR) = true) :
    s.runsTo (.counterClear ch l w) fun t =>
      (∀ F ∈ monCounters, t.g F l = 0) ∧ t.g LMON.EPOCH.COUNT l = 0 ∧ t.g LMON.WATCH_MINMAX.MIN l = 0xFFF ∧
      t.g LMON.WATCH_MINMAX.MAX l = 0 ∧ t.mon = s.mon ∧ t.lines = s.lines := by
  refine State.runsTo_started (withLine_of_lt hl s _) hg rfl hl (by decide) (by decide)
    (hits_own_trigger s ch w rfl (by decide) (by decide) rfl (by decide)) (s.storeWord_cntCtrl ch l _) fun m => ?_
  rw [State.monitorAct_clear]
  obtain ⟨hzero, hepoch, hmin, hmax, hmon, hlines⟩ := s.clearCounters_spec l
  generalize s.clearCounters l = u at hzero hepoch hmin hmax hmon hlines ⊢
  exact ⟨hzero, hepoch, hmin, hmax, hmon, hlines⟩

theorem snrWatchWrite_restarts {s : State} {ch : Channel} {l : Nat} {w : Word} (hl : l < 128)
    (hg : s.grants ch LMON.SNR_WATCH.TONE l 0 w.toNat = true) (hnew : s.g LMON.SNR_WATCH.TONE l ≠ w.toNat % 128) :
    s.runsTo (.snrWatchWrite ch l w) fun t =>
      t.g LMON.SNR_WATCH.TONE l = w.toNat % 128 ∧ t.g LMON.WATCH_MINMAX.MIN l = 0xFFF ∧
      t.g LMON.WATCH_MINMAX.MAX l = 0 ∧ t.mon = s.mon ∧ t.lines = s.lines := by
  have hbits : bits w.toNat 0 7 = w.toNat % 128 := by simp [bits]
  have hhit : hits (s.acted (wordAt ch .lmon l 0x164 w.toNat)) LMON.SNR_WATCH.TONE = true := by
    rw [hits_rw_wordAt s ch l w.toNat rfl (by decide) (by decide) rfl, decide_eq_true_eq]
    exact fun e => hnew (e.symm.trans hbits)
  refine State.runsTo_started (withLine_of_lt hl s _) hg rfl hl (by decide) (by decide) hhit (s.storeWord_snrWatch ch l _)
    fun m => ?_
  rw [State.monitorAct_tone, hbits]
  obtain ⟨hmin, hmax⟩ := (s.wr LMON.SNR_WATCH.TONE (w.toNat % 128) l).restartWatch_shown l
  have htone : ((s.wr LMON.SNR_WATCH.TONE (w.toNat % 128) l).restartWatch l).g LMON.SNR_WATCH.TONE l = w.toNat % 128 := by
    unfold State.restartWatch
    rw [State.g_wr_of_id (by decide), State.g_wr_of_id (by decide), State.g_wr_self]
    exact Nat.mod_mod _ 128
  exact ⟨htone, hmin, hmax, rfl, rfl⟩

/-- Settles O53: each word of the page is stored and its actions follow (`State.runsTo_monitor`). -/
theorem monitorWrites : Obligations.MonitorWrites := by
  unfold Obligations.MonitorWrites
  intro s ch l w hl
  exact ⟨monitorPresetWrite_restarts hl, monitorNcoWrite_stores hl, syncrstArm_arms hl, syncrstCancel_cancels hl,
    fun hg => ⟨bankSwap_fades hl hg, bankSwap_queues hl hg, bankSwap_refuses hl hg⟩, fun _ _ => bankTapWrite_stores hl,
    captureRequest_begins hl, counterClear_clears hl, snrWatchWrite_restarts hl⟩

end Sys2Proof.Machine
end

section
/-! What a move of a line, its retraining, its isolation and the end of a negotiation leave alone: the calibrations, the
reflectometry runs and what the front end shows of them (R216, R217, R229 to R231). -/

namespace Sys2Proof.Machine

/-- The front end's registers that no move of a line writes; OC falls as its line leaves FAULTED. -/
def afeFields : List Fld :=
  [CALMGR.STAT.TXCLR, LAFE.STAT.OC, LAFE.CAL_STAT.REASON, LAFE.CAL_STAT.VALUES, LAFE.CAL_COUNT.COUNT, LAFE.ABORTS.ATTEMPTS,
    LAFE.PAIRPWR.DBM, HDR.PAGE_STAT.BUSY .lafe]

def Fld.ofAfe (F : Fld) : Bool := afeFields.any fun G => G.id % 2048 == F.id % 2048

/-- The calibrations, the reflectometry runs and the front end's registers. -/
def State.afeView (s : State) : Store CalX × Store ReflX × (Fld → Nat → Nat → Nat) :=
  (s.cal, s.refl, fun G i j => if G ∈ afeFields then s.g G i j else 0)

theorem State.cal_of_afeView {s t : State} (h : t.afeView = s.afeView) : t.cal = s.cal := congrArg (·.1) h
theorem State.refl_of_afeView {s t : State} (h : t.afeView = s.afeView) : t.refl = s.refl := congrArg (·.2.1) h

theorem State.g_of_afeView {s t : State} (h : t.afeView = s.afeView) {G : Fld} (hG : G ∈ afeFields) (a b : Nat) :
    t.g G a b = s.g G a b := by
  have hreg : t.afeView.2.2 G a b = s.afeView.2.2 G a b := by rw [h]
  simpa only [State.afeView, if_pos hG] using hreg

theorem State.afeView_eq {s t : State} (hc : t.cal = s.cal) (hr : t.refl = s.refl)
    (hg : ∀ G ∈ afeFields, ∀ a b, t.g G a b = s.g G a b) : t.afeView = s.afeView := by
  unfold State.afeView
  rw [hc, hr]
  refine congrArg (fun r => (s.cal, s.refl, r)) (funext fun G => funext fun a => funext fun b => ?_)
  split
  case isTrue hG => exact hg G hG a b
  case isFalse => rfl

/-- A step that writes no register and leaves the calibrations and the runs. -/
theorem State.afeView_of_regs {s t : State} (h : t.regs = s.regs) (hc : t.cal = s.cal) (hr : t.refl = s.refl) :
    t.afeView = s.afeView := State.afeView_eq hc hr fun G _ a b => by rw [State.g, h, State.g]

/-! ### Single steps -/

@[simp] theorem State.ite_afeView (c : Prop) [Decidable c] (s t : State) :
    (if c then s else t).afeView = if c then s.afeView else t.afeView := by split <;> rfl

@[simp] theorem foldl_afeView {β : Type} (f : State → β → State) (h : ∀ s b, (f s b).afeView = s.afeView) (l : List β)
    (s : State) : (l.foldl f s).afeView = s.afeView := State.foldl_same h l s

@[simp] theorem State.wr_afeView (s : State) (F : Fld) (v i j : Nat) (h : F.ofAfe = false) :
    (s.wr F v i j).afeView = s.afeView := by
  refine State.afeView_eq rfl rfl fun G hG a b => State.g_wr_of_id (fun e => ?_) s v i j a b
  exact List.any_eq_false.1 h G hG (by simpa using e)

@[simp] theorem State.bump_afeView (s : State) (F : Fld) (i k j : Nat) (h : F.ofAfe = false) :
    (s.bump F i k j).afeView = s.afeView := State.wr_afeView _ _ _ _ _ h

theorem State.Logs.afeView {s t : State} (h : State.Logs s t) : t.afeView = s.afeView := by
  have hcal : t.core.cal = s.core.cal := by rw [h.1]
  have hrefl : t.core.refl = s.core.refl := by rw [h.1]
  have hlog : ∀ G ∈ afeFields, G.logged = false := by decide
  exact State.afeView_eq hcal hrefl fun G hG => h.g (hlog G hG)

@[simp] theorem State.edges_afeView (s : State) (p : Page) (i m : Nat) : (s.edges p i m).afeView = s.afeView :=
  (State.Logs.edges s p i m).afeView

@[simp] theorem State.pulse_afeView (s : State) (p : Page) (i b : Nat) : (s.pulse p i b).afeView = s.afeView :=
  (State.Logs.pulse s p i b).afeView

@[simp] theorem State.cond_afeView (s : State) (p : Page) (i b : Nat) (on : Bool) : (s.cond p i b on).afeView = s.afeView :=
  (State.Logs.cond s p i b on).afeView

@[simp] theorem State.setXe_afeView (s : State) (x : XeX) : State.afeView { s with xe := x } = s.afeView := rfl
@[simp] theorem State.setPosts_afeView (s : State) (x : List Post) : State.afeView { s with posts := x } = s.afeView := rfl
@[simp] theorem State.setRun_afeView (s : State) (x : Option MailRun) : State.afeView { s with run := x } = s.afeView := rfl
@[simp] theorem State.setReach_afeView (s : State) (x : Store ReachX) : State.afeView { s with reach := x } = s.afeView := rfl
@[simp] theorem State.modLine_afeView (s : State) (l : Nat) (f : LineX → LineX) : (s.modLine l f).afeView = s.afeView := rfl
@[simp] theorem State.modPort_afeView (s : State) (p : Nat) (f : PortX → PortX) : (s.modPort p f).afeView = s.afeView := rfl
@[simp] theorem State.modMon_afeView (s : State) (l : Nat) (f : MonX → MonX) : (s.modMon l f).afeView = s.afeView := rfl
@[simp] theorem State.modReach_afeView (s : State) (l : Nat) (f : ReachX → ReachX) : (s.modReach l f).afeView = s.afeView := rfl
@[simp] theorem State.modFault_afeView (s : State) (f : FaultX → FaultX) : (s.modFault f).afeView = s.afeView := rfl

theorem lock_ofAfe (p : Page) : (HDR.PAGE_CTRL.LOCK p).ofAfe = false := by cases p <;> rfl
theorem result_ofAfe (p : Page) : (HDR.ENV_STAT.RESULT p).ofAfe = false := by cases p <;> rfl
theorem steps_ofAfe (p : Page) : (HDR.ENV_STAT.STEPS p).ofAfe = false := by cases p <;> rfl
theorem split_ofAfe (p : Page) : (HDR.ENV_STAT.SPLIT p).ofAfe = false := by cases p <;> rfl

/-! ### Posts and negotiations -/

@[simp] theorem State.finishPost_afeView (s : State) (p : Page) (i r : Nat) : (s.finishPost p i r).afeView = s.afeView := by
  simp [State.finishPost, State.setResult, State.dropPost, result_ofAfe, steps_ofAfe, split_ofAfe]

@[simp] theorem State.setPhase_afeView (s : State) (p : Page) (i : Nat) (ph : PostPhase) (t : Option Nat) :
    (s.setPhase p i ph t).afeView = s.afeView := rfl

@[simp] theorem State.regridPosts_afeView (s : State) (sel : Post → Bool) (now : Nat) :
    (s.regridPosts sel now).afeView = s.afeView := by
  refine foldl_afeView _ (fun s x => ?_) _ s
  (repeat' split) <;> simp

theorem State.wr_lock_afeView (s : State) (e : Page × Nat × Nat) :
    (s.wr (HDR.PAGE_CTRL.LOCK e.1) e.2.2 e.2.1).afeView = s.afeView := State.wr_afeView s _ _ _ _ (lock_ofAfe e.1)

theorem State.landLocks_afeView (s : State) (locks : List (Page × Nat × Nat)) : (s.landLocks locks).afeView = s.afeView := by
  unfold State.landLocks
  exact foldl_afeView _ State.wr_lock_afeView _ _

@[simp] theorem State.endRun_afeView (s : State) (r : Nat) : (s.endRun r).afeView = s.afeView := by
  unfold State.endRun
  rw [State.landLocks_afeView, State.setRun_afeView]
  exact State.wr_afeView s _ _ _ _ rfl

@[simp] theorem State.withdrawRun_afeView (s : State) : s.withdrawRun.afeView = s.afeView := by
  refine foldl_afeView _ (fun s x => ?_) _ s
  (repeat' split) <;> simp

@[simp] theorem State.abortNeg_afeView (s : State) (p : Nat) : (s.abortNeg p).afeView = s.afeView := by
  simp [State.abortNeg, State.refusePosts, State.dismissMembers]

@[simp] theorem State.propose_afeView (s : State) (p target : Nat) (cs : List Change) :
    (s.propose p target cs).afeView = s.afeView := by
  unfold State.propose
  split <;> simp

/-! ### The figures of a port, the chain and the modem of a line -/

@[simp] theorem State.refreshPort_afeView (s : State) (p : Nat) : (s.refreshPort p).afeView = s.afeView := by
  have hother : ∀ G ∈ afeFields, G.event = false ∧ ∀ F ∈ figureFields, G.id % 2048 ≠ F.id % 2048 := by decide
  refine State.afeView_eq (s.refreshPort_cal p) (by simp [State.refreshPort]) fun G hG a b => ?_
  obtain ⟨he, hf⟩ := hother G hG
  exact State.refreshPort_g he hf s p a b

theorem State.cutCapture_cal (s : State) (l r : Nat) : (s.cutCapture l r).cal = s.cal := by
  unfold State.cutCapture State.finishCapture
  split
  · rfl
  · split
    · rfl
    · simp

theorem State.landSync_cal (s : State) (l : Nat) : (s.landSync l).cal = s.cal := by
  unfold State.landSync
  split <;> simp [State.cutCapture_cal, State.showDetectors]

theorem State.Monitored.afeView {s t : State} (h : State.Monitored s t) (hc : t.cal = s.cal) : t.afeView = s.afeView := by
  have hother : ∀ G ∈ afeFields, G.event = false ∧ G.monitors = false := by decide
  exact State.afeView_eq hc h.1 fun G hG a b => h.2 G a b (hother G hG).1 (hother G hG).2

@[simp] theorem State.refreshOwner_afeView (s : State) (l : Nat) : (s.refreshOwner l).afeView = s.afeView :=
  ((State.Monitored.refl s).refreshOwner l).afeView (by simp [State.refreshOwner, State.landSync_cal])

@[simp] theorem State.setErase_afeView (s : State) (l mask : Nat) : (s.setErase l mask).afeView = s.afeView := by
  simp +decide [State.setErase]

@[simp] theorem State.refreshErase_afeView (s : State) (l : Nat) : (s.refreshErase l).afeView = s.afeView := by
  simp [State.refreshErase]

@[simp] theorem State.startErasure_afeView (s : State) (tag : Nat) : (s.startErasure tag).afeView = s.afeView := by
  simp [State.startErasure]

@[simp] theorem State.moveErase_afeView (s : State) (l : Nat) (old : LineState) : (s.moveErase l old).afeView = s.afeView := by
  simp [State.moveErase]

@[simp] theorem State.showTable_afeView (s : State) (l : Nat) : (s.showTable l).afeView = s.afeView := by
  simp +decide [State.showTable]

@[simp] theorem State.settleMask_afeView (s : State) (l : Nat) : (s.settleMask l).afeView = s.afeView := by
  simp +decide [State.settleMask, State.setRmask]

@[simp] theorem State.sendDue_afeView (s : State) (l : Nat) : (s.sendDue l).afeView = s.afeView := by
  unfold State.sendDue
  dsimp only
  split <;> simp +decide [State.noteGo, State.startTx]

@[simp] theorem State.stopModem_afeView (s : State) (l : Nat) (off : Bool) : (s.stopModem l off).afeView = s.afeView := by
  simp +decide [State.stopModem]

@[simp] theorem State.stopChain_afeView (s : State) (l : Nat) : (s.stopChain l).afeView = s.afeView := by
  have hcut (u : State) (r : Nat) : (u.cutCapture l r).afeView = u.afeView :=
    ((State.Monitored.refl u).cutCapture l r).afeView (u.cutCapture_cal l r)
  simp [State.stopChain, hcut]

/-! ### Lines -/

@[simp] theorem State.wantClear_afeView (s : State) (l : Nat) : (s.wantClear l).afeView = s.afeView := rfl

/-- A line that moves, but out of FAULTED. -/
theorem State.moveLine_afeView {s : State} {l : Nat} {st : LineState} (h : (s.line l).st ≠ .faulted ∨ st = .faulted)
    (sub : Nat) : (s.moveLine l st sub).afeView = s.afeView := by
  unfold State.moveLine
  extract_lets old lost s1 s2 s3 s4 entered left s5 s6 s7 s8 runs s9 s10 x resumed s11
  have h2 : s2.afeView = s.afeView := by simp [s2, s1]
  split
  case isTrue => exact h2
  case isFalse hne =>
    have hold : old ≠ .faulted := h.elim id fun e => e ▸ Ne.symm hne
    have h6 : s6.afeView = s.afeView := by simp +decide [s6, s5, s4, s3, State.capture, h2]
    have h10 : s10.afeView = s.afeView := by simp [s10, s9, s8, s7, h6]
    have h11 : s11 = s10 := if_neg hold
    simp [h11, h10]

@[simp] theorem State.noteReason_afeView (s : State) (l r : Nat) : (s.noteReason l r).afeView = s.afeView := by
  simp +decide [State.noteReason]

@[simp] theorem State.leaveActive_afeView (s : State) (l : Nat) : (s.leaveActive l).afeView = s.afeView := by
  unfold State.leaveActive
  split <;> rfl

@[simp] theorem State.forgetLine_afeView (s : State) (l : Nat) : (s.forgetLine l).afeView = s.afeView := by
  simp [State.forgetLine, State.noteRotated]

@[simp] theorem State.emptyPort_afeView (s : State) (p : Nat) : (s.emptyPort p).afeView = s.afeView := by
  simp +decide [State.emptyPort, State.countLost]

@[simp] theorem State.leftShowtime_afeView (s : State) (l : Nat) : (s.leftShowtime l).afeView = s.afeView := by
  simp [State.leftShowtime]

@[simp] theorem State.dropFromPort_afeView (s : State) (l : Nat) : (s.dropFromPort l).afeView = s.afeView := by
  simp [State.dropFromPort]

/-- A line in bring-up that goes to QUIET. -/
theorem State.quietOne_afeView {s : State} {l : Nat} (h : inBringUp (s.line l).st = true) (r hold : Nat) :
    (s.quietOne l r hold).afeView = s.afeView := by
  unfold State.quietOne
  extract_lets old s1 s2
  have hlines : s2.lines = s.lines := by simp [s2, s1]
  have hst : ((((s2.leaveActive l).forgetAttempt l).modLine l fun x => { x with hold := hold }).line l).st = (s.line l).st := by
    rw [State.line_modLine_self, (State.forgetAttempt_line _ l).2, (State.leaveActive_line s2 l).2, State.line_of_lines hlines]
  rw [State.moveLine_afeView (.inl (hst ▸ fun e => by rw [e] at h; cases h))]
  simp +decide [State.forgetAttempt, s2, s1]

/-- Lines of a list that are in bring-up go to QUIET. -/
theorem State.quietAll_afeView (ls : List Nat) (r : Nat) (s : State) :
    (ls.foldl (fun s m => if inBringUp (s.line m).st then s.quietOne m r 2 else s) s).afeView = s.afeView := by
  refine foldl_afeView _ (fun s m => ?_) _ _
  split
  case isTrue h => exact State.quietOne_afeView h r 2
  case isFalse => rfl

@[simp] theorem State.quietPeers_afeView (s : State) (l : Nat) : (s.quietPeers l).afeView = s.afeView :=
  State.quietAll_afeView _ _ _

@[simp] theorem State.unjoin_afeView (s : State) (ls : List Nat) (l : Nat) : (s.unjoin ls l).afeView = s.afeView := by
  unfold State.unjoin
  dsimp only
  split
  case isFalse => rfl
  case isTrue h =>
    split
    · exact (State.quietOne_afeView (by rw [h]; rfl) rsLos 2).trans (s.wantClear_afeView l)
    · refine (State.moveLine_afeView (.inl ?_) 1).trans rfl
      rw [State.line_modLine_self]
      exact fun e => by simp [h] at e

@[simp] theorem State.queueJoin_afeView (s : State) (p : Nat) : (s.queueJoin p).afeView = s.afeView := by
  simp [State.queueJoin]

@[simp] theorem State.unqueueJoin_afeView (s : State) (p : Nat) : (s.unqueueJoin p).afeView = s.afeView := rfl

@[simp] theorem State.failJoin_afeView (s : State) (ls : List Nat) : (s.failJoin ls).afeView = s.afeView := by
  unfold State.failJoin
  split <;> simp [State.quietAll_afeView]

@[simp] theorem State.lineGone_afeView (s : State) (l : Nat) (old : LineState) : (s.lineGone l old).afeView = s.afeView := by
  have hjoin : (s.failJoinOf l [l]).afeView = s.afeView := by
    unfold State.failJoinOf
    split <;> simp
  simp [State.lineGone, hjoin]

/-- A running line that retrains (R147). -/
@[simp] theorem State.retrainLine_afeView (s : State) (l r : Nat) : (s.retrainLine l r).afeView = s.afeView := by
  unfold State.retrainLine
  split
  case isFalse => rfl
  case isTrue h =>
    extract_lets s1 s2
    have hst : (s2.line l).st = (s.line l).st := by
      rw [State.line_modLine_self]
      exact (State.leaveActive_line _ l).2
    have hmove : (s2.moveLine l .retrain 0).afeView = s.afeView := by
      rw [State.moveLine_afeView (.inl (hst ▸ fun e => by simp [e] at h))]
      simp [s2, s1]
    simp [State.endWake, hmove]

/-- A line that goes to FAULTED keeps its overcurrent (R217, R311). -/
@[simp] theorem State.faultLine_afeView (s : State) (l : Nat) : (s.faultLine l).afeView = s.afeView := by
  unfold State.faultLine
  rw [State.lineGone_afeView, State.moveLine_afeView (.inr rfl)]
  simp

/-- A line whose gap ends as its port leaves SHOWTIME (R230). -/
@[simp] theorem State.gapPeer_afeView (s : State) (l : Nat) : (s.gapPeer l).afeView = s.afeView := by
  simp [State.gapPeer]

end Sys2Proof.Machine
end

section
/-! The end of a calibration attempt, what it writes and where it leaves its line; a run stopped; and TXCLR and OC, which no
end of a run writes (R203, R216, R217, R229 to R232). -/

namespace Sys2Proof.Machine

/-! ### What the end of an attempt writes -/

/-- The fields that the end of an attempt writes beside its reason and the count of attempts. -/
def closingFields : List Fld :=
  [LAFE.CAL_STAT.ATTEMPT, LAFE.ABORTS.GAVE_UP, HDR.RESULT_SEQ.SEQ .lafe, HDR.PAGE_STAT.BUSY .lafe, HDR.RESULT_SEQ.STALE .lafe,
    CALMGR.SLOT.KIND, CALMGR.SLOT.LINE, LAFE.SEG.POSITION, LAFE.SEG.TRIM, LAFE.SEG.ERROR, LAFE.LADDER.TRIM, LAFE.LADDER.ERROR,
    LAFE.HYB.CAP, LAFE.HYB.RES, LAFE.HYB.ECHO_RL, LAFE.GAIN.ADC_TRIM, LAFE.GAIN.DAC_TRIM]

/-- From `s` to `t` no reflectometry run changed, and of the registers those of `closingFields`, of events and of fault
records at most. -/
def State.Closes (s t : State) : Prop :=
  t.refl = s.refl ∧ ∀ (G : Fld) (a b : Nat), G.logged = false → (∀ F ∈ closingFields, G.id % 2048 ≠ F.id % 2048) →
    t.g G a b = s.g G a b

theorem State.Closes.refl (s : State) : State.Closes s s := ⟨rfl, fun _ _ _ _ _ => rfl⟩

theorem State.Closes.trans {s t u : State} (h : State.Closes s t) (k : State.Closes t u) : State.Closes s u :=
  ⟨k.1.trans h.1, fun G a b hG hF => (k.2 G a b hG hF).trans (h.2 G a b hG hF)⟩

theorem State.Closes.wr {s t : State} (h : State.Closes s t) {F : Fld} (hF : F ∈ closingFields) (v i j : Nat) :
    State.Closes s (t.wr F v i j) :=
  h.trans ⟨rfl, fun _ _ _ _ hG => State.g_wr_of_mem hF hG _ _ _ _ _ _⟩

theorem State.Closes.modCal {s t : State} (h : State.Closes s t) (l : Nat) (f : CalX → CalX) : State.Closes s (t.modCal l f) :=
  h.trans ⟨rfl, fun _ _ _ _ _ => rfl⟩

theorem State.Closes.logs {s t u : State} (h : State.Closes s t) (k : State.Logs t u) : State.Closes s u := by
  have hrefl : u.core.refl = t.core.refl := by rw [k.1]
  exact h.trans ⟨hrefl, fun G a b hG _ => k.2 G a b hG⟩

theorem State.Closes.foldl {β : Type} {f : State → β → State} (h : ∀ s b, State.Closes s (f s b)) (l : List β) (s : State) :
    State.Closes s (l.foldl f s) := by
  induction l generalizing s with
  | nil => exact .refl s
  | cons b l ih => exact (h s b).trans (ih _)

theorem State.Closes.ite {c : Prop} [Decidable c] {s t u : State} (ht : State.Closes s t) (hu : State.Closes s u) :
    State.Closes s (if c then t else u) := by
  split
  · exact ht
  · exact hu

theorem State.Closes.factoryValues (s : State) (l : Nat) : State.Closes s (s.factoryValues l) := by
  unfold State.factoryValues
  extract_lets put s1 s2
  have h1 : State.Closes s s1 := .foldl (fun u _ =>
    (((State.Closes.refl u).wr (by decide) _ _ _).wr (by decide) _ _ _).wr (by decide) _ _ _) _ _
  have h2 : State.Closes s s2 := h1.trans (.foldl (fun u _ =>
    ((State.Closes.refl u).wr (by decide) _ _ _).wr (by decide) _ _ _) _ _)
  exact ((((h2.wr (by decide) _ _ _).wr (by decide) _ _ _).wr (by decide) _ _ _).wr (by decide) _ _ _).wr (by decide) _ _ _

theorem State.Closes.giveUpCal (s : State) (l : Nat) : State.Closes s (s.giveUpCal l) := by
  unfold State.giveUpCal
  extract_lets x s1 s2 s3
  have h1 : State.Closes s s1 := ((State.Closes.refl s).wr (by decide) _ _ _).logs (.pulse _ _ _ _)
  have h2 : State.Closes s s2 := .ite (h1.logs (.noteS1 _ _ _ _)) h1
  exact (State.Closes.ite (h2.trans (.factoryValues _ l)) h2).modCal l _

theorem State.Closes.landResult {s t : State} (h : State.Closes s t) (l : Nat) : State.Closes s (t.landResult .lafe l) :=
  ((h.wr (by decide) _ _ _).wr (by decide) _ _ _).wr (by decide) _ _ _

theorem State.Closes.freeSlot {s t : State} (h : State.Closes s t) (l : Nat) : State.Closes s (t.freeSlot l) :=
  .ite ((h.wr (by decide) _ _ _).wr (by decide) _ _ _) h

/-- Beside its reason and the count of attempts, the end of an attempt writes the closing fields. -/
theorem State.endCal_closes (s : State) (l r : Nat) :
    State.Closes ((s.wr LAFE.CAL_STAT.REASON r l).bump LAFE.ABORTS.ATTEMPTS l) (s.endCal l r) := by
  unfold State.endCal
  extract_lets s1 n s2 s3 s4
  have h4 : State.Closes s1 s4 :=
    (((((State.Closes.refl s1).wr (by decide) _ _ _).landResult l).logs (.pulse _ _ _ _)).freeSlot l).modCal l _
  exact .ite (h4.modCal l _) (.ite (h4.trans (.giveUpCal _ l)) h4)

/-- The count of attempts (R231). -/
theorem State.endCal_attempts (s : State) (l r : Nat) :
    (s.endCal l r).g LAFE.ABORTS.ATTEMPTS l = satAdd 16 (s.g LAFE.ABORTS.ATTEMPTS l) 1 := by
  rw [(s.endCal_closes l r).2 _ _ _ rfl (by decide), State.g_bump_self, State.g_wr_of_id (by decide)]
  exact satAdd_mod 16 _ _

theorem State.endCal_g {G : Fld} (hl : G.logged = false) (hc : ∀ F ∈ closingFields, G.id % 2048 ≠ F.id % 2048)
    (hr : G.id % 2048 ≠ LAFE.CAL_STAT.REASON.id % 2048) (ha : G.id % 2048 ≠ LAFE.ABORTS.ATTEMPTS.id % 2048) (s : State)
    (l r a b : Nat) : (s.endCal l r).g G a b = s.g G a b := by
  rw [(s.endCal_closes l r).2 G a b hl hc, State.g_bump_of_id ha, State.g_wr_of_id hr]

/-- The run that an attempt had is over: the line waits, is idle, or in HOLDOFF (R231, R232). -/
theorem State.endCal_over (s : State) (l r : Nat) : ((s.endCal l r).calX l).st ≠ 4 := by
  unfold State.endCal
  extract_lets s1 n s2 s3 s4
  have st4 : (s4.calX l).st = 1 := by rw [State.calX_modCal_self]
  clear_value s4
  split
  · rw [State.calX_modCal_self]
    dsimp only
    split <;> decide
  · split
    · rw [(s4.giveUpCal_spec l).1]
      decide
    · rw [st4]
      decide

/-! ### A run cut off (R229, R231) -/

theorem State.showMeasured_g {G : Fld} (hp : G.id % 2048 ≠ LAFE.PAIRPWR.DBM.id % 2048)
    (hd : G.id % 2048 ≠ LAFE.LOADDEV.DEV.id % 2048) (s : State) (l : Nat) (both : Bool) (a b : Nat) :
    (s.showMeasured l both).g G a b = s.g G a b := by
  unfold State.showMeasured
  extract_lets d gone part s1
  have h1 : s1.g G a b = s.g G a b := by
    simp only [s1, ite_g, State.g_wr_of_id hp]
    exact ite_self _
  rw [ite_g, State.g_wr_of_id hd, ite_self, h1]

theorem State.showMeasured_parts (s : State) (l : Nat) (both : Bool) :
    (s.showMeasured l both).cal = s.cal ∧ (s.showMeasured l both).refl = s.refl := by
  unfold State.showMeasured
  extract_lets d gone part s1
  have h1 : s1.cal = s.cal ∧ s1.refl = s.refl := by
    simp only [s1]
    split <;> exact ⟨rfl, rfl⟩
  split
  · exact h1
  · exact h1

/-! ### TXCLR and OC (R216, R217) -/

/-- TXCLR and every OC are as they were. -/
def State.KeepsFront (s t : State) : Prop :=
  ∀ G ∈ [CALMGR.STAT.TXCLR, LAFE.STAT.OC], ∀ a b, t.g G a b = s.g G a b

theorem State.KeepsFront.trans {s t u : State} (h : State.KeepsFront s t) (k : State.KeepsFront t u) : State.KeepsFront s u :=
  fun G hG a b => (k G hG a b).trans (h G hG a b)

theorem State.KeepsFront.of_afeView {s t : State} (h : t.afeView = s.afeView) : State.KeepsFront s t := fun _ hG =>
  State.g_of_afeView h (List.mem_of_mem_take (i := 2) hG)

theorem State.endCal_keepsFront (s : State) (l r : Nat) : State.KeepsFront s (s.endCal l r) := by
  have hother : ∀ G ∈ [CALMGR.STAT.TXCLR, LAFE.STAT.OC], G.logged = false ∧
      (∀ F ∈ closingFields, G.id % 2048 ≠ F.id % 2048) ∧ G.id % 2048 ≠ LAFE.CAL_STAT.REASON.id % 2048 ∧
      G.id % 2048 ≠ LAFE.ABORTS.ATTEMPTS.id % 2048 := by decide
  intro G hG a b
  obtain ⟨hl, hc, hr, ha⟩ := hother G hG
  exact State.endCal_g hl hc hr ha s l r a b

theorem State.endCal_refl (s : State) (l r : Nat) : (s.endCal l r).refl = s.refl := (s.endCal_closes l r).1

/-- A run or a gap's proposal that stops leaves the reflectometry runs, TXCLR and OC. -/
theorem State.stopCal_keeps (s : State) (l r : Nat) : (s.stopCal l r).refl = s.refl ∧ State.KeepsFront s (s.stopCal l r) := by
  have hend {u : State} (h : u.refl = s.refl ∧ State.KeepsFront s u) :
      (u.endCal l r).refl = s.refl ∧ State.KeepsFront s (u.endCal l r) :=
    ⟨(u.endCal_refl l r).trans h.1, h.2.trans (u.endCal_keepsFront l r)⟩
  have hsame : s.refl = s.refl ∧ State.KeepsFront s s := ⟨rfl, fun _ _ _ _ => rfl⟩
  unfold State.stopCal
  extract_lets x p mine
  split
  · have hother : ∀ G ∈ [CALMGR.STAT.TXCLR, LAFE.STAT.OC], G.id % 2048 ≠ LAFE.PAIRPWR.DBM.id % 2048 ∧
        G.id % 2048 ≠ LAFE.LOADDEV.DEV.id % 2048 := by decide
    exact hend ⟨(s.showMeasured_parts l _).2, fun G hG => State.showMeasured_g (hother G hG).1 (hother G hG).2 s l _⟩
  · split
    · refine hend ?_
      split
      · have hview := s.abortNeg_afeView p
        exact ⟨State.refl_of_afeView hview, .of_afeView hview⟩
      · exact hsame
    · exact hsame

/-- A reflectometry run that ends leaves TXCLR and OC. -/
theorem State.endReflect_keepsFront (s : State) (l r : Nat) : State.KeepsFront s (s.endReflect l r) := by
  have hother : ∀ G ∈ [CALMGR.STAT.TXCLR, LAFE.STAT.OC], (G.event = false ∧ G.monitors = false) ∧
      (∀ F ∈ blockFields .ldiag, G.id % 2048 ≠ F.id % 2048) ∧
      (∀ F ∈ [CALMGR.SLOT.KIND, CALMGR.SLOT.LINE, LDIAG.RSTAT.REASON, LDIAG.RSTAT.BAND, HDR.RESULT_SEQ.SEQ .ldiag,
        HDR.PAGE_STAT.BUSY .ldiag, HDR.RESULT_SEQ.STALE .ldiag], G.id % 2048 ≠ F.id % 2048) := by decide +kernel
  intro G hG a b
  obtain ⟨⟨hev, hmon⟩, hblank, hids⟩ := hother G hG
  simp only [List.forall_mem_cons] at hids
  obtain ⟨hkind, hline, hreason, hband, hseq, hbusy, hstale, -⟩ := hids
  have hblanked (u : State) : (u.blankReflect l).g G a b = u.g G a b := by
    refine List.foldlRecOn (motive := fun v : State => v.g G a b = u.g G a b) _ _ rfl fun v hv F hF => ?_
    split
    · exact (foldl_g _ _ _ _ (fun _ _ => State.g_wr_of_id (hblank F hF) ..) _ _).trans hv
    · exact hv
  unfold State.endReflect
  extract_lets band s1 s2 s3
  have h1 : s1.g G a b = s.g G a b := by
    simp only [s1, ite_g, State.freeSlot_g hkind hline, ite_self]
  rw [((State.Monitored.refl _).refreshOwner l).2 G a b hev hmon, State.pulse_g hev]
  unfold State.landResult
  dsimp only
  rw [State.g_wr_of_id hstale, State.g_wr_of_id hbusy, State.g_wr_of_id hseq, State.g_wr_of_id hband, State.g_wr_of_id hreason,
    hblanked]
  exact h1

theorem State.interruptReflect_keepsFront (s : State) (l : Nat) : State.KeepsFront s (s.interruptReflect l) := by
  unfold State.interruptReflect
  split
  · exact s.endReflect_keepsFront l 5
  · exact fun _ _ _ _ => rfl

/-- A run interrupted is gone, and the other runs go on (R203). -/
theorem State.interruptReflect_refl (s : State) (l : Nat) :
    (s.interruptReflect l).refl.find l = none ∧ ∀ k, k ≠ l → (s.interruptReflect l).refl.find k = s.refl.find k := by
  unfold State.interruptReflect
  split
  case isTrue =>
    have hend := s.endReflect_ended l (reason := 5) (by decide)
    exact ⟨hend.gone, hend.others⟩
  case isFalse h => exact ⟨by simpa using h, fun _ _ => rfl⟩

end Sys2Proof.Machine
end

section
/-! Obligation O19: the clear pin, an overcurrent, a range switch and REFIN (R216, R217, R220, R225). -/

namespace Sys2Proof.Machine

/-! ### TXCLR_N (R216) -/

/-- What TXCLR_N low does on one line: its runs end, the rest of a Reach packet is not sent. -/
def State.clearLine (s : State) (l : Nat) : State :=
  let t := (s.stopCal l 4).interruptReflect l
  if (t.line l).st = .reach && (t.reachX l).tx.isSome then t.modReach l fun x => { x with chirps := [] } else t

theorem execTxclrAssert_eq {s : State} (h : s.g CALMGR.STAT.TXCLR ≠ 1) :
    exec .txclrAssert s =
      .next (allLines.foldl State.clearLine (((s.wr CALMGR.STAT.TXCLR 1).pulse .calmgr 0 1).refreshDacs)) := if_neg h

theorem State.clearLine_spec (s : State) (l : Nat) :
    (s.clearLine l).g CALMGR.STAT.TXCLR = s.g CALMGR.STAT.TXCLR ∧ (s.clearLine l).refl.find l = none ∧
      ∀ k, k ≠ l → (s.clearLine l).refl.find k = s.refl.find k := by
  obtain ⟨hstop, hstopped⟩ := s.stopCal_keeps l 4
  obtain ⟨hgone, hothers⟩ := (s.stopCal l 4).interruptReflect_refl l
  have hfront := hstopped.trans ((s.stopCal l 4).interruptReflect_keepsFront l)
  rw [hstop] at hothers
  unfold State.clearLine
  dsimp only
  rw [ite_g, ite_refl, State.modReach_g, State.modReach_refl, ite_self, ite_self]
  exact ⟨hfront _ (by decide) _ _, hgone, hothers⟩

theorem txclrAssert_clears {s : State} (h : s.g CALMGR.STAT.TXCLR ≠ 1) :
    s.runsTo .txclrAssert fun t => t.g CALMGR.STAT.TXCLR = 1 ∧ ∀ l, l < 128 → t.refl.find l = none := by
  refine ⟨_, execTxclrAssert_eq h, ?_, fun l hl => ?_⟩
  · rw [foldl_g _ _ _ _ fun u l => (u.clearLine_spec l).1, State.g, (State.refreshDacs_parts _).1]
    exact (State.pulse_g rfl ..).trans (State.g_wr_self ..)
  · refine foldl_reaches (P := fun u : State => u.refl.find l = none) (c := l) (fun u k _ hu => ?_) (List.mem_range.2 hl)
      (fun u => (u.clearLine_spec l).2.1) _
    by_cases hk : l = k
    · exact hk ▸ (u.clearLine_spec l).2.1
    · exact ((u.clearLine_spec k).2.2 l hk).trans hu

theorem txclrRelease_releases {s : State} (h : s.g CALMGR.STAT.TXCLR ≠ 0) :
    s.runsTo .txclrRelease fun t => t.g CALMGR.STAT.TXCLR = 0 ∧ t.lines = s.lines ∧ t.reach = s.reach ∧ t.refl = s.refl := by
  refine ⟨_, if_neg h, (State.pulse_g rfl ..).trans (State.g_wr_self ..), ?_, ?_, ?_⟩
  · exact State.pulse_lines ..
  · exact State.pulse_reach ..
  · exact State.pulse_refl ..

/-! ### Drivers (R217, R220) -/

/-- A line cut out keeps its OC (R217, R311). -/
theorem State.isolateLine_keepsFront (s : State) (l : Nat) : State.KeepsFront s (s.isolateLine l) := by
  have hmark (u : State) (n : Nat) : (u.markIsolated n).afeView = u.afeView := by
    simp [State.markIsolated, State.healthChanged, State.linesChanged]
  have hruns := (s.interruptReflect_keepsFront l).trans ((s.interruptReflect l).stopCal_keeps l 5).2
  refine hruns.trans (.of_afeView ?_)
  rw [State.isolateLine, hmark, State.faultLine_afeView]

theorem State.isolateLine_faulted (s : State) (l : Nat) : ((s.isolateLine l).line l).st = .faulted := by
  unfold State.isolateLine
  rw [State.line_of_lines (State.markIsolated_lines _ _)]
  exact (State.faultLine_spec _ l).1

/-- A class S2 fault of a line leaves its OC, and cuts it out unless its source is ignored (R307, R311). -/
theorem State.raiseS2_line (s : State) {l : Nat} (hl : l < 128) (code : Nat) :
    State.KeepsFront s (s.raiseS2 code (128 + l) 0) ∧
      (s.fault.ignored.contains (128 + l) = false → ((s.raiseS2 code (128 + l) 0).line l).st = .faulted) := by
  have hlog := State.Logs.log s { code := code, cls := 2, source := 128 + l, addr := 0 }
  have hreact (u : State) : u.reactS2 (128 + l) = u.isolateLine l := by
    have hunit : isUnit (128 + l) = true := by simp [isUnit]; omega
    rw [State.reactS2, if_pos hunit, State.isolate, if_pos (by omega), Nat.add_sub_cancel_left]
  unfold State.raiseS2
  split
  case isTrue h => exact ⟨fun _ _ _ _ => rfl, fun h' => absurd h (by rw [h']; decide)⟩
  case isFalse =>
    rw [hreact]
    have hfront := (State.KeepsFront.of_afeView hlog.afeView).trans (State.isolateLine_keepsFront _ l)
    have hst := State.isolateLine_faulted (s.log { code := code, cls := 2, source := 128 + l, addr := 0 }) l
    generalize State.isolateLine _ l = u at hfront hst ⊢
    exact ⟨hfront, fun _ => hst⟩

theorem State.cond_fault (s : State) (p : Page) (i b : Nat) (on : Bool) : (s.cond p i b on).fault = s.fault := by
  unfold State.cond
  dsimp only
  split
  · rfl
  · split
    · exact State.edges_fault ..
    · rfl

theorem driverOvercurrent_latches {s : State} {l : Nat} (hl : l < 128) :
    s.runsTo (.driverOvercurrent l) fun t =>
      t.g LAFE.STAT.OC l = 1 ∧ (t.line l).ocAt = some (s.time.sec * 10 ^ 9 + s.time.ns) ∧
      (s.fault.ignored.contains (128 + l) = false → (t.line l).st = .faulted) := by
  refine runs_line hl rfl ?_
  extract_lets now again s1 s2
  have hoc : s1.g LAFE.STAT.OC l = 1 := (State.cond_g rfl ..).trans (State.g_wr_self ..)
  have hfault : s1.fault = s.fault := State.cond_fault _ _ _ _ _
  obtain ⟨hfront, hst⟩ := s1.raiseS2_line hl 0x0F
  rw [State.line_modLine_self]
  exact ⟨(hfront _ (by decide) l 0).trans hoc, rfl, fun h => hst (hfault ▸ h)⟩

theorem rangeSwitchSymbol_clears {s : State} {l d : Nat} {n : Neg} (hl : l < 128) (hn : (s.port (s.anchor l)).neg = some n)
    (ho : n.ours = true) (hc : n.confirmed = true) (hw : n.withdrawn = false)
    (ht : n.target = sfcAdd (s.portSfc (s.anchor l)) 1) (hm : .afe l true d ∈ n.changes) :
    s.runsTo (.rangeSwitchSymbol l) fun t =>
      t.line l = { s.line l with rangeSwitch := true } ∧ t.regs = s.regs ∧ ∀ k, k ≠ l → t.line k = s.line k := by
  refine runs_line hl rfl ?_
  simp only [hn]
  unfold when
  rw [if_pos]
  case hc =>
    simp only [ho, hc, hw, ht, Bool.not_false, beq_self_eq_true, Bool.and_self, Bool.true_and, List.any_eq_true]
    exact ⟨_, hm, by simp⟩
  exact ⟨State.line_modLine_self _ _ _, rfl, fun k hk => State.line_modLine_ne _ hk _⟩

/-! ### REFIN (R225) -/

theorem refinMeasure_shows {s : State} {level : Nat} (hl : level < 2 ^ 16) :
    s.runsTo (.refinMeasure level) fun t =>
      t.g CALMGR.REFIN.LEVEL = level ∧ t.lines = s.lines ∧
      (23760 ≤ level ∧ level ≤ 24240 → t.g CALMGR.STAT.REFIN_OK = 1) ∧
      (level < 23760 ∨ 24240 < level → t.g CALMGR.STAT.REFIN_OK ≠ 1) := by
  change ∃ t, execRefinMeasure level s = .next t ∧ _
  unfold execRefinMeasure
  rw [Nat.min_eq_left (by omega)]
  extract_lets lv was bad first s1
  have hbad : bad = true ↔ ¬ (23760 ≤ level ∧ level ≤ 24240) := by simp [bad]; omega
  have hlevel : s1.g CALMGR.REFIN.LEVEL = level := (State.g_wr_self ..).trans (Nat.mod_eq_of_lt hl)
  have hok : s1.g CALMGR.STAT.REFIN_OK = s.g CALMGR.STAT.REFIN_OK := State.g_wr_of_id (by decide) ..
  have hwas : was = true ↔ s.g CALMGR.STAT.REFIN_OK = 1 := beq_iff_eq
  split
  case isTrue h =>
    obtain ⟨hb, -⟩ := Bool.and_eq_true_iff.1 h
    have hnote {G : Fld} (hG : G.logged = false) :
        (((s1.wr CALMGR.STAT.REFIN_OK 0).pulse .calmgr 0 3).noteS1 0x0E 9 level).g G = (s1.wr CALMGR.STAT.REFIN_OK 0).g G :=
      ((State.Logs.pulse _ _ _ _).trans (.noteS1 _ _ _ _)).g hG 0 0
    have hzero : (s1.wr CALMGR.STAT.REFIN_OK 0).g CALMGR.STAT.REFIN_OK = 0 := State.g_wr_self ..
    refine ⟨_, rfl, ?_, by simp [s1], fun hin => absurd hin (hbad.1 hb), fun _ => ?_⟩
    · rw [hnote rfl, State.g_wr_of_id (by decide), hlevel]
    · rw [hnote rfl, hzero]
      decide
  case isFalse hkeep =>
    split
    case isTrue h =>
      obtain ⟨hb, -⟩ := Bool.and_eq_true_iff.1 h
      have hin : 23760 ≤ level ∧ level ≤ 24240 := by
        by_contra hout
        simp [hbad.2 hout] at hb
      refine ⟨_, rfl, ?_, by simp [s1], fun _ => ?_, fun hout => by omega⟩
      · rw [State.pulse_g rfl, State.g_wr_of_id (by decide), hlevel]
      · rw [State.pulse_g rfl, State.g_wr_self]
        rfl
    case isFalse hstay =>
      refine ⟨s1, rfl, hlevel, rfl, fun hin => ?_, fun hout => ?_⟩
      · have hb : bad = false := by simpa using mt hbad.1 (not_not.2 hin)
        rw [hok]
        simpa [hb, hwas] using hstay
      · rw [hok]
        have hb : bad = true := hbad.2 (by omega)
        exact fun h => hkeep (by simp [hb, hwas.2 h])

/-- Settles O19: each pin, driver and measurement by its own lemma. -/
theorem analogFrontEnd : Obligations.AnalogFrontEnd := by
  unfold Obligations.AnalogFrontEnd
  intro s
  exact ⟨txclrAssert_clears, txclrRelease_releases, fun l hl => driverOvercurrent_latches hl,
    fun l d n hl hn ho hc hw ht hm => rangeSwitchSymbol_clears hl hn ho hc hw ht hm, fun level hl => refinMeasure_shows hl⟩

end Sys2Proof.Machine
end

section
/-! Obligation O39: a calibration slot goes to a due line (R27, R226 to R230). -/

namespace Sys2Proof.Machine

/-! ### The ports of the lines -/

theorem State.modCal_samePorts (s : State) (l : Nat) (f : CalX → CalX) : s.SamePorts (s.modCal l f) :=
  ⟨⟨rfl, rfl, rfl⟩, fun _ => rfl, fun _ => rfl, fun _ => rfl⟩

theorem State.SamePorts.anchor {s t : State} (h : s.SamePorts t) (l : Nat) : t.anchor l = s.anchor l := by
  obtain ⟨-, -, hq, -⟩ := h
  unfold State.anchor
  rw [hq]

theorem State.SamePorts.lines {s t : State} (h : s.SamePorts t) : t.lines = s.lines := h.1.1

theorem State.beginResult_samePorts (s : State) (l : Nat) : s.SamePorts (s.beginResult .lafe l) :=
  (s.wr_samePorts (by decide) ..).trans (State.wr_samePorts _ (by decide) ..)

theorem State.setSlot_samePorts (s : State) (c kind l : Nat) : s.SamePorts (s.setSlot c kind l) :=
  (s.wr_samePorts (by decide) ..).trans (State.wr_samePorts _ (by decide) ..)

/-! ### An attempt begins (R226, R229) -/

/-- With REFIN in its range an attempt of the TRACK kind begins. -/
theorem State.beginCal_begins {s : State} {l : Nat} (hf : (s.calX l).full = false) (hr : s.refinOk = true) (st : Nat) :
    ((s.beginCal l st).calX l).st = st ∧ ((s.beginCal l st).calX l).onLoad = ((s.calX l).powerup || st == 4) ∧
      (s.beginCal l st).g (HDR.PAGE_STAT.BUSY .lafe) l = 1 ∧ s.SamePorts (s.beginCal l st) ∧
      ∀ k, k ≠ l → (s.beginCal l st).calX k = s.calX k := by
  unfold State.beginCal
  extract_lets x s1
  have hx : x.full = false := hf
  have hports : s.SamePorts s1 := (s.beginResult_samePorts l).trans (State.wr_samePorts _ (by decide) ..)
  have hbusy : s1.g (HDR.PAGE_STAT.BUSY .lafe) l = 1 :=
    (State.g_wr_of_id (by decide) ..).trans (s.beginResult_busy .lafe l)
  have hrefin : s1.refinOk = true := by
    have hg : s1.g CALMGR.STAT.REFIN_OK = s.g CALMGR.STAT.REFIN_OK := by
      simp (disch := decide) only [s1, State.beginResult, State.g_wr_of_id]
    rw [State.refinOk, hg]
    exact hr
  rw [if_neg (by simp [hx]), if_neg (by simp [hrefin]), State.calX_modCal_self]
  exact ⟨rfl, rfl, hbusy, hports.trans (s1.modCal_samePorts l _), fun k hk => State.calX_modCal_ne s1 hk _⟩

/-! ### The grant (R228, R230) -/

/-- A due line that the cluster's slot comes by waits for it. -/
def State.awaitSlot (s : State) (l : Nat) : State := s.modCal l fun x => { x with st := if x.st = 1 then 2 else x.st }

/-- The slot goes to a line: a run starts, or on a line in SHOWTIME its gap is proposed. -/
def State.grantSlot (s : State) (c l : Nat) : State :=
  if (s.line l).st = .showtime then
    let t := s.beginCal l 3
    if (t.calX l).st = 3 then (t.setSlot c 2 l).propose (t.anchor l) (sfcAdd (t.portSfc (t.anchor l)) 10) [.calGap l] else t
  else
    let t := s.beginCal l 4
    if (t.calX l).st = 4 then t.setSlot c 1 l else t

theorem runs_calSlotGrant {s : State} {c l : Nat} (hc : c < 4) (hfree : s.slotKind c = 0) (hclr : s.g CALMGR.STAT.TXCLR ≠ 1)
    (h3 : s.fault.s3 = false) (hrun : s.clusterRuns c = true) (hone : (clusterLines c).filter s.calReady = [l])
    (hplace : (s.awaitSlot l).calPlaced l = true) {P : State → Prop} (hp : P ((s.awaitSlot l).grantSlot c l)) :
    s.runsTo (.calSlotGrant c) P := by
  have hsort (key : Nat → Rat) : sortBy key [l] = [l] := rfl
  have hfind : [l].find? (s.awaitSlot l).calPlaced = some l := by simp [hplace]
  unfold State.awaitSlot at hfind
  refine ⟨_, ?_, hp⟩
  change execCalSlotGrant c s = _
  unfold execCalSlotGrant onCluster onPart
  rw [if_pos hc]
  dsimp only
  rw [if_neg (by simp [hfree, hclr, h3, hrun]), hone]
  simp only [hsort, List.foldl_cons, List.foldl_nil, hfind]
  unfold State.grantSlot State.awaitSlot
  dsimp only
  split_ifs <;> rfl

theorem mem_clusterLines_lt {c l : Nat} (hc : c < 4) (h : l ∈ clusterLines c) : l < 128 := by
  obtain ⟨i, hi, rfl⟩ := List.mem_map.1 h
  have := List.mem_range.1 hi
  omega

/-- The slot of a cluster shows its holder. -/
theorem State.setSlot_kind (s : State) {c kind l : Nat} (h : kind < 3) : (s.setSlot c kind l).slotKind c = kind := by
  unfold State.slotKind
  rw [(s.setSlot_shown c kind l).1, Nat.mod_eq_of_lt (by omega)]
  exact if_neg (by omega)

/-- A due line takes the slot for a run at once, where it is neither in SHOWTIME nor its placement forbids it. -/
theorem State.grantSlot_runs {s : State} {c l : Nat} (hl : l < 128) (hf : (s.calX l).full = false) (hr : s.refinOk = true)
    (hst : (s.line l).st ≠ .showtime) :
    let t := s.grantSlot c l
    (t.calX l).st = 4 ∧ (t.calX l).onLoad = true ∧ t.slotKind c = 1 ∧ t.g CALMGR.SLOT.LINE 0 c = l ∧
      t.g (HDR.PAGE_STAT.BUSY .lafe) l = 1 ∧ t.lines = s.lines ∧ ∀ k, k ≠ l → t.calX k = s.calX k := by
  obtain ⟨hrun, hload, hbusy, hports, hothers⟩ := State.beginCal_begins hf hr 4
  unfold State.grantSlot
  rw [if_neg hst]
  dsimp only
  rw [if_pos hrun]
  generalize s.beginCal l 4 = t at hrun hload hbusy hports hothers
  refine ⟨hrun, hload.trans (Bool.or_true _), t.setSlot_kind (by decide),
    (t.setSlot_shown c 1 l).2.trans (Nat.mod_eq_of_lt hl), ?_, hports.lines, hothers⟩
  exact ((State.g_wr_of_id (by decide) ..).trans (State.g_wr_of_id (by decide) ..)).trans hbusy

/-- On a line in SHOWTIME, whose port negotiates nothing, the slot is held by the gap proposed ten superframes on (R27,
R228). -/
theorem State.grantSlot_proposes {s : State} {c l : Nat} (hl : l < 128) (hf : (s.calX l).full = false) (hr : s.refinOk = true)
    (hst : (s.line l).st = .showtime) (hn : (s.port (s.anchor l)).neg = none) :
    let t := s.grantSlot c l
    (t.calX l).st = 3 ∧ t.slotKind c = 2 ∧ t.g CALMGR.SLOT.LINE 0 c = l ∧
      (t.port (s.anchor l)).neg = some
        { ours := true, start := s.portSfc (s.anchor l), target := sfcAdd (s.portSfc (s.anchor l)) 10,
          changes := [.calGap l], count := 1, agreed := false, confirmed := false } ∧
      t.lines = s.lines ∧ ∀ k, k ≠ l → t.calX k = s.calX k := by
  obtain ⟨hgap, -, -, hports, hothers⟩ := State.beginCal_begins hf hr 3
  unfold State.grantSlot
  rw [if_pos hst]
  dsimp only
  rw [if_pos hgap]
  generalize s.beginCal l 3 = t at hgap hports hothers
  have hslot : s.SamePorts (t.setSlot c 2 l) := hports.trans (t.setSlot_samePorts c 2 l)
  rw [State.propose_none _ _ _ _ (by rw [hports.anchor, hslot.port, hn]), hports.anchor, hports.portSfc, hslot.portSfc]
  refine ⟨hgap, t.setSlot_kind (by decide), (t.setSlot_shown c 2 l).2.trans (Nat.mod_eq_of_lt hl), ?_, hports.lines, hothers⟩
  rw [State.port_modPort_self, sfcAdd, Nat.mod_mod]
  rfl

/-- Settles O39: the slot's grant (`runs_calSlotGrant`) is a run at once (`State.grantSlot_runs`), or on a line in SHOWTIME the
proposal of its gap (`State.grantSlot_proposes`). -/
theorem calibrationSlots : Obligations.CalibrationSlots := by
  unfold Obligations.CalibrationSlots
  intro s c l hc hfree hclr h3 hrun hrefin hone hfull
  have hmem : l ∈ (clusterLines c).filter s.calReady := hone ▸ List.mem_singleton_self l
  have hl : l < 128 := mem_clusterLines_lt hc (List.mem_filter.1 hmem).1
  have hf : ((s.awaitSlot l).calX l).full = false := by rw [State.awaitSlot, State.calX_modCal_self]; exact hfull
  have hothers {t : State} (h : ∀ k, k ≠ l → t.calX k = (s.awaitSlot l).calX k) : ∀ k, k ≠ l → t.calX k = s.calX k :=
    fun k hk => (h k hk).trans (State.calX_modCal_ne s hk _)
  constructor
  · intro hst
    have hplace : (s.awaitSlot l).calPlaced l = true := by
      unfold State.calPlaced
      rw [show (s.awaitSlot l).line l = s.line l from rfl]
      rcases hst with hst | hst <;> rw [hst]
    have hshow : ((s.awaitSlot l).line l).st ≠ .showtime := by
      change (s.line l).st ≠ _
      rcases hst with hst | hst <;> rw [hst] <;> decide
    obtain ⟨hst4, hload, hkind, hline, hbusy, hlines, hk⟩ := State.grantSlot_runs (c := c) hl hf hrefin hshow
    exact runs_calSlotGrant hc hfree hclr h3 hrun hone hplace ⟨hst4, hload, hkind, hline, hbusy, hlines, hothers hk⟩
  · intro hst hfrozen hneg
    have hplace : (s.awaitSlot l).calPlaced l = true := by
      unfold State.calPlaced
      dsimp only
      rw [show ((s.awaitSlot l).line l).st = .showtime from hst]
      change (!(s.line l).frozen && (s.port (s.anchor l)).neg.isNone) = true
      simp [hfrozen, hneg]
    obtain ⟨hst3, hkind, hline, hprop, hlines, hk⟩ := State.grantSlot_proposes (c := c) hl hf hrefin hst hneg
    exact runs_calSlotGrant hc hfree hclr h3 hrun hone hplace ⟨hst3, hkind, hline, hprop, hlines, hothers hk⟩

end Sys2Proof.Machine
end

section
/-! Obligation O40: the end of a calibration run, its retries and the application of its values (R218, R229 to R235). -/

namespace Sys2Proof.Machine

/-! ### The end of a run (R229) -/

theorem State.Closes.showCal (s : State) (l : Nat) (v : CalValues) (r : CalResult) : State.Closes s (s.showCal l v r) := by
  unfold State.showCal
  extract_lets s1 s2 s3
  have h1 : State.Closes s s1 := .foldl (fun u _ =>
    (((State.Closes.refl u).wr (by decide) _ _ _).wr (by decide) _ _ _).wr (by decide) _ _ _) _ _
  have h2 : State.Closes s s2 := h1.trans (.foldl (fun u _ =>
    ((State.Closes.refl u).wr (by decide) _ _ _).wr (by decide) _ _ _) _ _)
  exact ((((h2.wr (by decide) _ _ _).wr (by decide) _ _ _).wr (by decide) _ _ _).wr (by decide) _ _ _).wr (by decide) _ _ _

theorem State.calValues_same (s : State) (l : Nat) (full : Bool) (r : CalResult) :
    (s.calValues l full r).2.cal = s.cal ∧ (s.calValues l full r).2.regs = s.regs := by
  cases full <;> exact ⟨rfl, rfl⟩

theorem State.showCal_cal (s : State) (l : Nat) (v : CalValues) (r : CalResult) : (s.showCal l v r).cal = s.cal := by
  simp [State.showCal]

/-- The fields that a completed run writes after its count: its time and temperature, its landing and the slot. -/
def landedFields : List Fld :=
  [LAFE.CL0.NS, LAFE.CL1.SEC, LAFE.CL2.SECH, LAFE.CL2.FRAC, LAFE.CAL_TEMP.TEMP, HDR.RESULT_SEQ.SEQ .lafe,
    HDR.PAGE_STAT.BUSY .lafe, HDR.RESULT_SEQ.STALE .lafe, CALMGR.SLOT.KIND, CALMGR.SLOT.LINE]

/-- New values of a FULL run are applied at once, those of a TRACK run in steps; the entry is no longer due, the values are the
line's own and counted, and the request is over (R229, R234, R235). -/
theorem State.completeCal_spec (s : State) (l : Nat) (r : CalResult) :
    let t := s.completeCal l r
    ((t.calX l).st = (if (s.calX l).full || (s.calX l).powerup then 0 else 5) ∧ (t.calX l).due = none ∧
      (t.calX l).powerup = false ∧ (t.calX l).onLoad = false) ∧
    (t.g LAFE.CAL_STAT.REASON l = 0 ∧ t.g LAFE.CAL_STAT.VALUES l = 1 ∧
      t.g LAFE.CAL_COUNT.COUNT l = satAdd 32 (s.g LAFE.CAL_COUNT.COUNT l) 1 ∧
      t.g LAFE.PAIRPWR.DBM l = s.g LAFE.PAIRPWR.DBM l ∧ t.g (HDR.PAGE_STAT.BUSY .lafe) l = 0) ∧
    ∀ k, k ≠ l → t.calX k = s.calX k := by
  unfold State.completeCal
  extract_lets x full old v s1 now lim s2 s3 s4 s5 s6 s7 s8
  have hshow {G : Fld} (hl : G.logged = false) (hc : ∀ F ∈ closingFields, G.id % 2048 ≠ F.id % 2048) (a b : Nat) :
      s1.g G a b = s.g G a b := by
    rw [(State.Closes.showCal _ _ _ _).2 G a b hl hc, State.g, (s.calValues_same l full r).2, State.g]
  have hnotes : State.Logs s7 s8 := .foldl (fun u j => by
    split
    · exact .refl u
    · exact .noteS1 u _ _ _) _ _
  have hlanded {G : Fld} (hl : G.logged = false) (he : G.event = false)
      (h : ∀ F ∈ landedFields, G.id % 2048 ≠ F.id % 2048) (f : CalX → CalX) (a b : Nat) :
      (s8.modCal l f).g G a b = s4.g G a b := by
    simp only [landedFields, List.forall_mem_cons] at h
    obtain ⟨hns, hsec, hsech, hfrac, htemp, hseq, hbusy, hstale, hkind, hline, -⟩ := h
    rw [State.modCal_g, hnotes.g hl, State.freeSlot_g hkind hline, State.pulse_g he]
    unfold State.landResult
    dsimp only
    rw [State.g_wr_of_id hstale, State.g_wr_of_id hbusy, State.g_wr_of_id hseq, State.g_wr_of_id htemp]
    exact (State.g_wr_of_id hfrac ..).trans ((State.g_wr_of_id hsech ..).trans
      ((State.g_wr_of_id hsec ..).trans (State.g_wr_of_id hns ..)))
  have hcal : s8.cal = s.cal := by
    have h7 : s7.cal = s1.cal := by simp [s7, s6, s5, s4, s3, s2, State.freeSlot, State.setSlot]
    exact hnotes.keepsCal.1.trans (h7.trans ((State.showCal_cal ..).trans (s.calValues_same l full r).1))
  refine ⟨?_, ⟨?_, ?_, ?_, ?_, ?_⟩, fun k hk => (State.calX_modCal_ne s8 hk _).trans (State.calX_of_cal hcal k)⟩
  · rw [State.calX_modCal_self]
    exact ⟨rfl, rfl, rfl, rfl⟩
  · rw [hlanded rfl rfl (by decide)]
    simp (disch := decide) only [s4, s3, s2, State.g_bump_of_id, State.cond_g, State.g_wr_of_id, State.g_wr_self]
    rfl
  · rw [hlanded rfl rfl (by decide)]
    simp (disch := decide) only [s4, s3, State.g_bump_of_id, State.cond_g, State.g_wr_of_id, State.g_wr_self]
    rfl
  · rw [hlanded rfl rfl (by decide)]
    simp (disch := decide) only [s4, s3, s2, State.g_bump_self, State.cond_g, State.g_wr_of_id, hshow]
    exact satAdd_mod 32 _ _
  · rw [hlanded rfl rfl (by decide)]
    simp (disch := decide) only [s4, s3, s2, State.g_bump_of_id, State.cond_g, State.g_wr_of_id, hshow]
  · rw [State.modCal_g, hnotes.g rfl, State.freeSlot_g (by decide) (by decide), State.pulse_g rfl, State.landResult_busy]

/-! ### The run's two ends and what follows (R229, R230, R231) -/

theorem State.gapPeer_calX (s : State) (l k : Nat) : (s.gapPeer l).calX k = s.calX k :=
  State.calX_of_cal (State.cal_of_afeView (s.gapPeer_afeView l)) k

theorem State.gapPeer_g {G : Fld} (hG : G ∈ afeFields) (s : State) (l a b : Nat) : (s.gapPeer l).g G a b = s.g G a b :=
  State.g_of_afeView (s.gapPeer_afeView l) hG a b

/-- What a run shows of the pair and of the load does not move the partner's threshold (R237). -/
theorem State.partnerTh_wr (s : State) {F : Fld} (h : CALMGR.CTRL.PARTNER_TH.id % 2048 ≠ F.id % 2048) (v i j : Nat) :
    (s.wr F v i j).partnerTh = s.partnerTh := by
  unfold State.partnerTh
  rw [State.g_wr_of_id h]

theorem calRunDone_passes {s : State} {l : Nat} (hl : l < 128) {r : CalResult} (hst : (s.calX l).st = 4)
    (hpower : r.power ≤ s.partnerTh) (hpeak : r.peak ≤ s.partnerTh) (hdev : r.dev.natAbs ≤ 50) (hiso : r.isolated = true) :
    s.runsTo (.calRunDone l r) fun t =>
      (t.calX l).st = (if (s.calX l).full || (s.calX l).powerup then 0 else 5) ∧ (t.calX l).due = none ∧
      (t.calX l).powerup = false ∧ (t.calX l).onLoad = false ∧ t.g LAFE.CAL_STAT.REASON l = 0 ∧
      t.g LAFE.CAL_STAT.VALUES l = 1 ∧ t.g LAFE.CAL_COUNT.COUNT l = satAdd 32 (s.g LAFE.CAL_COUNT.COUNT l) 1 ∧
      t.g LAFE.PAIRPWR.DBM l = ofSigned 16 r.power ∧ t.g (HDR.PAGE_STAT.BUSY .lafe) l = 0 ∧
      ∀ k, k ≠ l → t.calX k = s.calX k := by
  set paired := s.wr LAFE.PAIRPWR.DBM (ofSigned 16 r.power) l with hpaired
  set u := paired.wr LAFE.LOADDEV.DEV (ofSigned 16 r.dev) l with hu
  have hth : paired.partnerTh = s.partnerTh := State.partnerTh_wr s (by decide) ..
  have hth' : u.partnerTh = s.partnerTh := (State.partnerTh_wr paired (by decide) ..).trans hth
  have hcount : u.g LAFE.CAL_COUNT.COUNT l = s.g LAFE.CAL_COUNT.COUNT l :=
    (State.g_wr_of_id (by decide) ..).trans (State.g_wr_of_id (by decide) ..)
  have hshown : u.g LAFE.PAIRPWR.DBM l = ofSigned 16 r.power :=
    (State.g_wr_of_id (by decide) ..).trans ((State.g_wr_self ..).trans (ofSigned_mod 16 _))
  obtain ⟨⟨hkind, hdue, hup, hload⟩, ⟨hreason, hvalues, hcounted, hpair, hbusy⟩, hothers⟩ := u.completeCal_spec l r
  refine runs_when hl rfl (by rw [hst]; rfl) ?_
  dsimp only
  rw [← hpaired, ← hu, if_neg (by rw [hth]; exact not_lt.2 hpower), if_neg (by rw [hth']; exact not_lt.2 hpeak),
    if_neg (by simp [hdev, hiso])]
  simp (disch := decide) only [State.gapPeer_calX, State.gapPeer_g]
  exact ⟨hkind, hdue, hup, hload, hreason, hvalues, hcount ▸ hcounted, hpair.trans hshown, hbusy, hothers⟩

theorem calRunDone_partner {s : State} {l : Nat} (hl : l < 128) {r : CalResult} (hst : (s.calX l).st = 4)
    (hpower : s.partnerTh < r.power) :
    s.runsTo (.calRunDone l r) fun t =>
      (t.calX l).st ≠ 4 ∧ t.g LAFE.CAL_STAT.REASON l = 1 ∧
      t.g LAFE.CAL_COUNT.COUNT l = s.g LAFE.CAL_COUNT.COUNT l ∧ ∀ k, k ≠ l → t.calX k = s.calX k := by
  refine runs_when hl rfl (by rw [hst]; rfl) ?_
  dsimp only
  rw [if_pos (by rwa [State.partnerTh_wr _ (by decide)])]
  set u := s.wr LAFE.PAIRPWR.DBM (ofSigned 16 r.power) l
  obtain ⟨-, hreason, hothers⟩ := u.endCal_spec l (r := 1) (by decide)
  have hcount := State.endCal_g (G := LAFE.CAL_COUNT.COUNT) rfl (by decide) (by decide) (by decide) u l 1 l 0
  simp (disch := decide) only [State.gapPeer_calX, State.gapPeer_g]
  exact ⟨u.endCal_over l 1, hreason, hcount.trans (State.g_wr_of_id (by decide) ..), hothers⟩

theorem calRunTimeout_ends {s : State} {l : Nat} (hl : l < 128) (hst : (s.calX l).st = 4) :
    s.runsTo (.calRunTimeout l) fun t =>
      (t.calX l).st ≠ 4 ∧ t.g LAFE.CAL_STAT.REASON l = 3 ∧
      t.g LAFE.ABORTS.ATTEMPTS l = satAdd 16 (s.g LAFE.ABORTS.ATTEMPTS l) 1 ∧ ∀ k, k ≠ l → t.calX k = s.calX k := by
  refine runs_when hl rfl (by rw [hst]; rfl) ?_
  unfold State.cutRun
  obtain ⟨hcal, -⟩ := s.showMeasured_parts l (3 == 3)
  have hattempts := State.showMeasured_g (G := LAFE.ABORTS.ATTEMPTS) (by decide) (by decide) s l (3 == 3) l 0
  generalize s.showMeasured l (3 == 3) = u at hcal hattempts ⊢
  obtain ⟨-, hreason, hothers⟩ := u.endCal_spec l (r := 3) (by decide)
  simp (disch := decide) only [State.gapPeer_calX, State.gapPeer_g]
  exact ⟨u.endCal_over l 3, hreason, hattempts ▸ u.endCal_attempts l 3,
    fun k hk => (hothers k hk).trans (State.calX_of_cal hcal k)⟩

/-! ### Times that pass (R231, R232, R234) -/

theorem calRetryDue_frees {s : State} {l : Nat} (hl : l < 128) (hclr : s.g CALMGR.STAT.TXCLR = 0) (h3 : s.fault.s3 = false)
    (hup : (s.calX l).powerup = false) :
    s.runsTo (.calRetryDue l) fun t =>
      t.calX l = { s.calX l with spacing := false, cleared := false } ∧ t.regs = s.regs ∧ t.lines = s.lines ∧
      ∀ k, k ≠ l → t.calX k = s.calX k := by
  refine runs_when hl rfl (by simp [hclr, h3]) ?_
  dsimp only
  rw [if_neg (by simp [hup])]
  exact ⟨State.calX_modCal_self .., rfl, rfl, fun k hk => State.calX_modCal_ne s hk _⟩

theorem calHoldoffEnd_waits {s : State} {l : Nat} (hl : l < 128) (hst : (s.calX l).st = 6) (hdue : (s.calX l).due.isSome = true)
    (h3 : s.fault.s3 = false) :
    s.runsTo (.calHoldoffEnd l) fun t =>
      t.calX l = { s.calX l with st := 1, loadFails := 0 } ∧ t.regs = s.regs ∧ t.lines = s.lines ∧
      ∀ k, k ≠ l → t.calX k = s.calX k := by
  refine runs_timer hl rfl h3 (by rw [hst]; rfl) ?_
  dsimp only
  have hsome : (s.calX l).due.isNone = false := by simpa using hdue
  rw [if_neg (by simp [hsome])]
  refine ⟨?_, rfl, rfl, fun k hk => State.calX_modCal_ne s hk _⟩
  rw [State.calX_modCal_self, hdue, if_pos rfl]

section
variable {s : State} {l : Nat} (hl : l < 128) (hst : (s.calX l).st = 5) (hheld : (s.calX l).applyHeld = false)
  (h3 : s.fault.s3 = false)
include hl hst hheld h3

theorem calApplyStep_counts (hn : (s.calX l).applied + 1 < 16) :
    s.runsTo (.calApplyStep l) fun t =>
      t.calX l = { s.calX l with applied := (s.calX l).applied + 1 } ∧ t.regs = s.regs ∧ t.lines = s.lines ∧
      ∀ k, k ≠ l → t.calX k = s.calX k := by
  refine runs_timer hl rfl h3 (by rw [hst, hheld]; rfl) ?_
  dsimp only
  rw [if_pos hn]
  exact ⟨State.calX_modCal_self .., rfl, rfl, fun k hk => State.calX_modCal_ne s hk _⟩

theorem calApplyStep_ends (hn : 16 ≤ (s.calX l).applied + 1) :
    s.runsTo (.calApplyStep l) fun t =>
      (t.calX l).st = (if (s.calX l).due.isSome then 1 else 0) ∧ (t.calX l).applyTo = [] ∧ (t.calX l).applied = 0 ∧
      t.lines = s.lines ∧ ∀ k, k ≠ l → t.calX k = s.calX k := by
  refine runs_timer hl rfl h3 (by rw [hst, hheld]; rfl) ?_
  dsimp only
  rw [if_neg (by omega)]
  have hcal (k : Nat) (u : State) : (u.pulse .lafe l 3).calX k = u.calX k := State.calX_of_cal (State.pulse_cal ..) k
  rw [hcal, State.calX_modCal_self]
  exact ⟨rfl, rfl, rfl, State.pulse_lines .., fun k hk => (hcal k _).trans (State.calX_modCal_ne s hk _)⟩

end

/-! ### Power-up (R218) -/

theorem powerupCalDone_done {s : State} (hdone : s.clk.calDone = false) (hall : ∀ k, k < 128 → (s.calX k).powerup = false) :
    s.runsTo .powerupCalDone fun t => t.clk = { s.clk with calDone := true } ∧ t.cal = s.cal ∧ t.lines = s.lines := by
  have hany : (allLines.any fun l => (s.calX l).powerup) = false :=
    List.any_eq_false.2 fun k hk => by simp [hall k (List.mem_range.1 hk)]
  exact ⟨_, if_neg (by simp [hdone, hany]), State.pulse_clk .., State.pulse_cal .., State.pulse_lines ..⟩

/-- Settles O40: a run that passes by `State.completeCal_spec`, the others by what the end of an attempt writes
(`State.endCal_closes`), the times that pass by one update each. -/
theorem calibrationRuns : Obligations.CalibrationRuns := by
  unfold Obligations.CalibrationRuns
  intro s l hl
  exact ⟨fun _ => calRunDone_passes hl, fun _ => calRunDone_partner hl, calRunTimeout_ends hl, calRetryDue_frees hl,
    calHoldoffEnd_waits hl, fun hst hheld hn h3 => calApplyStep_counts hl hst hheld h3 hn,
    fun hst hheld hn h3 => calApplyStep_ends hl hst hheld h3 hn, powerupCalDone_done⟩

end Sys2Proof.Machine
end
